-- ==== Sys2Proof/Word.lean ====
section
/-! DEFINITION. The word types of the block: a 64-bit register word and a byte. -/

namespace Sys2Proof

/-- A register of the block is 64 bits wide (R63). -/
abbrev Word := BitVec 64

/-- The unit of HBM addressing (R6, R328). -/
abbrev Byte := BitVec 8

end Sys2Proof
end

