-- ==== Sys2Proof/Syntax.lean ====
section
/-! DEFINITION. The commands of the block: one constructor per row of the opcode table, with the row's operands. -/

namespace Sys2Proof

/-- A received codeword of a serial lane, after the line decoding of R90 to R92: how the FEC found it (0 without
error, 1 corrected, 2 uncorrectable), the message bits [19:0] and the data bytes of the frame (R93). -/
structure RxFrame where
  fec : Nat
  ctrl : Nat
  data : List Byte
  deriving DecidableEq, Repr

/-- What the receiver's equaliser finds at a TRAIN frame (R98): whether TUNE is done on this side, and the request to
make of the peer (COEF_REQ). -/
structure EqInput where
  done : Bool
  req : Nat
  deriving DecidableEq, Repr

/-- A lane that trains by R95 to R102: Spur lane `n`, or lane `l` (0 to 31, 8 per link) of the Zhok links. -/
inductive LanePort where
  | spur (n : Nat)
  | zhok (l : Nat)
  deriving DecidableEq, Repr

/-- A memory error a Faceplate meets (R159): in coefficient word, gain word, map entry or its model fields; corrected
or not. Kinds: 0 coefficient, 1 gain, 2 map entry, 3 model fields. `index` counts from bank A. -/
structure MemError where
  kind : Nat
  index : Nat
  uncorr : Bool
  deriving DecidableEq, Repr

/-- A memory request of a master (R331, R340): master, its ordering ID (R343), address, length in bytes, write or read,
data, the times the die-to-die link resent it (R345). -/
structure HbmReq where
  master : Nat
  id : Nat
  addr : Nat
  len : Nat
  wr : Bool
  data : List Byte
  resends : Nat
  deriving DecidableEq, Repr

/-- An error the array shows in a 32-byte word: word address and whether ECC cannot correct it (R335, R336). -/
structure WordError where
  word : Nat
  uncorr : Bool
  deriving DecidableEq, Repr
/-- A producer's commit (R350, R371): ring, master ID, RTYPE, die code, and the payload of its record. -/
structure CommitReq where
  ring : Nat
  producer : Nat
  rtype : Nat
  die : Nat
  payload : List Byte
  deriving DecidableEq, Repr


/-- A disturbance of a lathe between the split point and the shadow set (R174): a cell, a component, and the bits of its
48-bit value that come out flipped. -/
structure CellFault where
  row : Nat
  col : Nat
  im : Bool
  mask : BitVec 48
  deriving DecidableEq, Repr

/-- A disturbance of a gouge stroke (R206): spectrum of the stage, row (32 the witness row), component, what is added. -/
structure BeamFault where
  spectrum : Nat
  row : Nat
  im : Bool
  add : Int
  deriving DecidableEq, Repr

/-- The header of a PTP message and where it came in (R277): Ethernet port, transport code of PTP_CFG, domainNumber,
sourcePortIdentity as one number, sequenceId, correctionField in 2^-16 ns, logMessageInterval as its octet. -/
structure PtpHead where
  port : Nat
  transport : Nat
  domain : Nat
  src : Nat
  seq : Nat
  corr : Int
  log : Nat
  deriving DecidableEq, Repr

/-- A PTP message as IEEE 1588-2019 has it (R277), times in 2^-16 ns. Announce: priority1, clockClass, clockAccuracy,
offsetScaledLogVariance and priority2 in turn, grandmasterIdentity, stepsRemoved. Sync: its origin time where it is a one-step
one. A response names the port that asked; a peer's response carries a time of receipt, and says whether a Follow_Up
comes. -/
inductive PtpMsg where
  | announce (head : PtpHead) (quality : List Nat) (gm steps : Nat)
  | sync (head : PtpHead) (origin : Option Nat)
  | followUp (head : PtpHead) (origin : Nat)
  | delayResp (head : PtpHead) (receipt requester : Nat)
  | pdelayReq (head : PtpHead)
  | pdelayResp (head : PtpHead) (receipt requester : Nat) (twoStep : Bool)
  | pdelayFollowUp (head : PtpHead) (origin requester : Nat)
  deriving DecidableEq, Repr

/-- A PTP message as it reaches a page (R277, R283): `rx`, device time at which it passes the PCS, and `predicted`, what the
servo predicts for the offset, both in 2^-16 ns. -/
structure PtpArrival where
  msg : PtpMsg
  rx : Nat
  predicted : Int
  deriving DecidableEq, Repr

/-- A pulse on a PPS input (R278, R284): device time of its rising edge and how long it lasts, both in 2^-16 ns. -/
structure PpsPulse where
  time : Nat
  width : Nat
  deriving DecidableEq, Repr

/-- A per-bank refresh (R333): `bank`, 16 × stack ID + bank, and `temp`, the temperature the stack reports with it, in °C. -/
structure BankRefresh where
  bank : Nat
  temp : Nat
  deriving DecidableEq, Repr

/-- What an unmasking of MSI-X vectors writes (R83, R405): the table entry of one vector, or the function mask. -/
inductive MsixTarget where
  | vector (n : Nat)
  | function (mask : Bool)
  deriving DecidableEq, Repr

/-- The codeword of one live lane in a link frame (R255): how the FEC found it, its FSEQ and its START_PTR. -/
structure LaneWord where
  fec : Nat
  fseq : Nat
  startPtr : Nat
  deriving DecidableEq, Repr

/-- What a member tells the gang of itself (R261, R262, R270; the exchange is the model's choice, log entry 91): its number, the
MODE of each turn region, region and position of each stream its map binds, and the gang identifiers its outputs list. -/
structure GangTable where
  member : Nat
  modes : List Nat
  positions : List (Nat × Nat)
  gids : List Nat
  deriving DecidableEq, Repr

/-- What a MARK packet carries (R267): a mark with the handle member 0 knows it by, the claim of its inserting master and its
four words; or a member's answer. -/
inductive GangMark where
  | enter (handle claim : Nat) (words : List Word)
  | answer (handle : Nat) (accepted : Bool)
  deriving DecidableEq, Repr

/-- The MACsec tag of a frame (R379, R380): receive channel, association number, packet number, and whether its integrity
check holds under the key of that association. -/
structure SecTag where
  chan : Nat
  an : Nat
  pn : Nat
  good : Bool
  deriving DecidableEq, Repr

/-- A frame as the MAC of a sub-port receives it: length in bytes, whether its FCS is good, its MACsec tag, and its bytes, in
the clear, from the destination address up to the FCS. -/
structure EthRx where
  len : Nat
  fcsGood : Bool
  sec : Option SecTag
  bytes : List Byte
  deriving DecidableEq, Repr

/-- What powering domains meets (R339, R460): rails whose regulator does not answer, stacks whose restored training values
fail their verification, stacks whose full training fails. -/
structure PowerEnv where
  dead : List Nat
  misses : List Nat
  failed : List Nat
  deriving DecidableEq, Repr

/-- What a start meets (R411, R417, R418, R446, R447, R461): the identity key matches the fuses; firmware slots whose flash
content is damaged; areas of the retire list that do not verify (0 A, 1 B); rails 4 to 11 outside ±5%; the powering of the
domains; units failing the start test by retire-list kind; an SRAM failure outside them; its time. -/
structure StartEnv where
  idOk : Bool
  damaged : List Nat
  badLists : List Nat
  rails : List Nat
  power : PowerEnv
  units : List (Nat × Nat)
  sram : Bool
  testMs : Nat
  deriving DecidableEq, Repr

/-- What an orderly shutdown meets (R448 to R450): the final checkpoint and the record are persisted; rails outside ±2.5%;
the selected reference lies within ±100 ppm of XO_IN; units failing the closing test by retire-list kind, or stacks under
kind 4; an SRAM failure; its time. -/
structure CloseEnv where
  ckptOk : Bool
  recordOk : Bool
  rails : List Nat
  refOk : Bool
  units : List (Nat × Nat)
  sram : Bool
  testMs : Nat
  dead : List Nat
  deriving DecidableEq, Repr

/-- A command of the block. `m` is the Turn matrix master that issues an access (R340), `v` the word written. -/
inductive Instr where
  /-- REGISTER_WRITE (R64): A write to a BAR0 register that has no row of its own, judged by alignment, gating, lock and claim. `addr`: BAR0 byte address; `also`: masters and values of writes that reach the register in the same cycle. -/
  | registerWrite (m addr size : Nat) (v : Word) (also : List (Nat × Word))
  /-- PAGE_ENABLE (R71): A write of PAGE_CTRL.ENABLE starts or holds the page's block as its chapter states. A write of PAGE_CTRL. -/
  | pageEnable (m page : Nat) (v : Word)
  /-- PAGE_DEBUG (R73): A write setting PAGE_CTRL.DEBUG is accepted only under a debug unlock. A write of PAGE_CTRL. -/
  | pageDebug (m page : Nat) (v : Word)
  /-- SOFT_RESET (R72): A write of 1 to SOFT_RESET returns the block to reset values except kept state and clears ENABLE. A write of PAGE_CTRL. -/
  | softReset (m page : Nat) (v : Word)
  /-- INJECT (R75): A write to INJECT arms the detectors of the named sticky bits with the current mode and count. -/
  | inject (m page : Nat) (v : Word)
  /-- DISARM (R75): A write of 1 to INJECT_MODE.DISARM disarms every armed detector of the page. -/
  | disarm (m page : Nat) (v : Word)
  /-- INJECT_FIRE (R75): An armed detector without an evaluation point fires at its microsecond tick, setting its sticky bit and event. -/
  | injectFire (page bit : Nat)
  /-- STICKY_EVT_EN (R68): A write enabling a sticky event bit while the sticky bit is set pulses its event source. -/
  | stickyEvtEn (m page : Nat) (v : Word)
  /-- COMMAND (R85): A command datagram on a management port is authenticated, checked and executed operation by operation. The UDP payload on management port `p`; `held`: its operations run one by one, as CMD_READ, CMD_WRITE and WRITE_MASKED. -/
  | command (p : Nat) (bytes : List Byte) (held : Bool)
  /-- CMD_READ (R86): A READ operation of a command returns a register value. The next operation of the command held on management port `p`. -/
  | cmdRead (p : Nat)
  /-- CMD_WRITE (R86): A WRITE operation of a command writes a register and stops the command if refused. The next operation of the command held on management port `p`. -/
  | cmdWrite (p : Nat)
  /-- WRITE_MASKED (R86): A WRITE_MASKED operation writes only the masked bits and stops the command if refused. The next operation of the command held on management port `p`. -/
  | writeMasked (p : Nat)
  /-- BAR2_ACCESS (R82): A PCI Express request to BAR2 reads or writes HBM at the current base. `addr`: byte offset in BAR2. -/
  | bar2Access (write : Bool) (addr len : Nat) (bytes : List Byte)
  /-- PCI_RESET (R443): PERST_N, hot reset or function-level reset clears PCI state only. -/
  | pciReset
  /-- TRAIN_FRAME (R95): A TRAIN frame received on a Spur or Zhok lane drives lock, identify, tune, step and ready. `inv`: it decoded in the inverted polarity. -/
  | trainFrame (lane : LanePort) (fr : RxFrame) (inv : Bool) (eq : EqInput)
  /-- STEP_FAIL (R100): No lock 1.5 ms after a rate switch returns the lane to the previous rate and caps it. -/
  | stepFail (lane : LanePort)
  /-- TRAINING_TIMEOUT (R101): Full training not reaching RUN within 10 ms restarts at S0. -/
  | trainingTimeout (lane : LanePort)
  /-- DATA_FRAME (R93): A DATA frame received in RUN yields the sample-block bytes it carries. -/
  | dataFrame (lane : Nat) (fr : RxFrame)
  /-- IDLE_FRAME (R94): An IDLE frame is received and its data ignored. -/
  | idleFrame (lane : Nat) (fr : RxFrame)
  /-- RETRAIN_FAIL (R102): RUN not resumed within 2 ms of a loss of lock starts full training. -/
  | retrainFail (lane : LanePort)
  /-- MGMT_FRAME (R112): A MGMT frame delivers its list of management messages. -/
  | mgmtFrame (lane : Nat) (fr : RxFrame)
  /-- ACK (R113): A digitiser acknowledgement clears PENDING and stores its status. -/
  | ack (lane seq status : Nat)
  /-- STATUS (R112): A digitiser STATUS message stores its free-form status. -/
  | status (lane arg : Nat)
  /-- SEND (R113): A write of 1 to SPR_SYNC_CMD.SEND sends a SYNC_LOAD or STATUS_REQ message to the digitiser. -/
  | send (m lane : Nat) (v : Word)
  /-- SYNC_TIMEOUT (R113): A management message unacknowledged within 1 ms clears PENDING and is flagged. -/
  | syncTimeout (lane : Nat)
  /-- SPR_ST_READ (R115): A READ of SPR_ST_CTRL loads a stream table entry into the data registers. -/
  | sprStRead (m lane : Nat) (v : Word)
  /-- SPR_ST_WRITE (R115): A WRITE of SPR_ST_CTRL checks and atomically writes a stream table entry. -/
  | sprStWrite (m lane : Nat) (v : Word)
  /-- ROUGHING_OUTPUT (R126): The roughing engine processes a stream's queued samples and emits its decimated output. `ecc`: the state memory reports 0 no error, 1 a corrected error, 2 an uncorrectable one (R132). -/
  | roughingOutput (engine ecc : Nat)
  /-- ROUGH_RESET (R131): A roughing-reset action restarts the named engines' streams at the resolved index. `h`: handle of the dispatched mark. -/
  | roughReset (h : Nat)
  /-- SYNC_NOW (R131): A write of 1 to RCH_CTRL.SYNC_NOW restarts every stream of the engine in the late manner. -/
  | syncNow (m engine : Nat) (v : Word)
  /-- SPECTRUM (R141): A Faceplate computes, corrects and requantises a stream's spectrum once its window is complete. -/
  | spectrum (fpl stream : Nat) (errs : List MemError)
  /-- TURN_WRITE (R155): An operand arrives at its owning C-die and is written into the turn buffer. The oldest `count` operands in transit to C-die `die` arrive. -/
  | turnWrite (die count : Nat)
  /-- MODEL_LOAD (R143): A model load takes up the pending delay and phase model at a stream's spectrum boundary. `h`: handle of the dispatched mark. -/
  | modelLoad (h : Nat)
  /-- LOAD_NOW (R143): A write of 1 to FPL_MODEL_CTRL.LOAD_NOW launches a model load at each stream's next spectrum boundary. -/
  | loadNow (m fpl : Nat) (v : Word)
  /-- GAIN_SWAP (R146): A gain swap makes the other gain bank active at a stream's spectrum boundary. `h`: handle of the dispatched mark. -/
  | gainSwap (h : Nat)
  /-- FPL_GAIN_SWAP (R146): A write of 1 to FPL_SWAP.GAIN_SWAP launches a gain swap. -/
  | fplGainSwap (m fpl : Nat) (v : Word)
  /-- COEF_SWAP (R150): A coefficient swap starts a cross-fade to the other bank at its starting boundary. `h`: handle of the dispatched mark. -/
  | coefSwap (h : Nat)
  /-- REQUEST (R149): A write of 1 to FPL_SWAP.REQUEST requests a coefficient swap with fade length FADE. -/
  | request (m fpl : Nat) (v : Word)
  /-- FPL_COEF_DATA (R152): An access to the coefficient window reads or writes a bank word, refused in a bank in use. `wr`: a write, else a read. -/
  | fplCoefData (m fpl : Nat) (wr : Bool) (v : Word)
  /-- FPL_GAIN_DATA (R146): An access to the gain window reads or writes a gain word, refused in an active bank. `wr`: a write, else a read. -/
  | fplGainData (m fpl : Nat) (wr : Bool) (v : Word)
  /-- FPL_MAP_READ (R161): A READ of FPL_MAP_CTRL loads a stream map entry. -/
  | fplMapRead (m fpl : Nat) (v : Word)
  /-- FPL_MAP_WRITE (R161): A WRITE of FPL_MAP_CTRL checks and writes a stream map entry. -/
  | fplMapWrite (m fpl : Nat) (v : Word)
  /-- FPL_REGION_READ (R153): A READ of FPL_REGION_CTRL loads a turn-region entry. -/
  | fplRegionRead (m fpl : Nat) (v : Word)
  /-- FPL_REGION_WRITE (R153): A WRITE of FPL_REGION_CTRL checks and writes a turn-region entry. -/
  | fplRegionWrite (m fpl : Nat) (v : Word)
  /-- STAGING_DEADLINE (R17): The staging deadline of a batch passes and the batch becomes ready with absent streams zapped. -/
  | stagingDeadline (die region batch : Nat)
  /-- STAGE_LOAD (R191): The scheduler loads the next stage of a ready batch into a blank-store half and runs its jobs. `errs`: blank-store errors by input block, true where uncorrectable. -/
  | stageLoad (die : Nat) (errs : List (Nat × Bool))
  /-- DRAIN_TOKEN (R169): A stroke's drain token reaches the accumulators, moving them to the shadow set for the witness check and dump. `held`, `stretched`: cycles of the stroke. -/
  | drainToken (lathe : Nat) (faults : List CellFault) (held stretched : Nat)
  /-- HANDSHAKE_TO (R172): An island handshake not completed within 10 µs fails the stroke. -/
  | handshakeTo (lathe : Nat)
  /-- REPLAY (R176): A failed job is rerun on a free spare while its batch is in the turn buffer. `errs`: replay-area errors by input block, true where uncorrectable. -/
  | replay (die : Nat) (errs : List (Nat × Bool))
  /-- SNAPSHOT (R179): A write of 1 to LTH_SNAP_CTRL.SNAPSHOT stops issuing so the lathe can halt for inspection. -/
  | snapshot (m lathe : Nat) (v : Word)
  /-- SNAP_DONE (R179): The lathe's pipeline has emptied and it sets HALTED. `samples`: spectra issued of the stroke in front. -/
  | snapDone (lathe samples : Nat)
  /-- LTH_RESUME (R180): A write of 1 to LTH_SNAP_CTRL.RESUME restarts issuing after a halt. -/
  | lthResume (m lathe : Nat) (v : Word)
  /-- SCH_PLAN_READ (R188): A READ of SCH_PLAN_CTRL loads a pass plan. -/
  | schPlanRead (m die : Nat) (v : Word)
  /-- SCH_PLAN_WRITE (R186): A WRITE of SCH_PLAN_CTRL checks a pass plan against layout and planning limits and writes it. -/
  | schPlanWrite (m die : Nat) (v : Word)
  /-- GOUGE_STROKE (R206): A gouge stroke forms and checks beams per spectrum and emits voltage and power contributions. `held`, `stretched`: cycles of the stroke. -/
  | gougeStroke (lathe : Nat) (faults : List BeamFault) (held stretched : Nat)
  /-- DETECTOR_EVALUATION (R220): A detector evaluates its window sum at a tick once the batch's gouge strokes have ended. -/
  | detectorEvaluation (die det : Nat)
  /-- DET_ACK (R221): A write of 1 to GGE_DET_STATUS.ACK acknowledges a latched ALARM. -/
  | detAck (m die det : Nat) (v : Word)
  /-- GGE_DET_READ (R221): A READ of GGE_DET_CTRL loads a detector descriptor. -/
  | ggeDetRead (m die : Nat) (v : Word)
  /-- GGE_DET_WRITE (R219): A WRITE of GGE_DET_CTRL checks and writes a detector descriptor. -/
  | ggeDetWrite (m die : Nat) (v : Word)
  /-- GGE_LINE (R224): A write to a detector line mapping is judged against the target's latched claim. -/
  | ggeLine (m die line : Nat) (v : Word)
  /-- GGE_WSET_READ (R212): A READ of GGE_WSET_CTRL loads a weight-set descriptor. -/
  | ggeWsetRead (m die : Nat) (v : Word)
  /-- GGE_WSET_WRITE (R213): A WRITE of GGE_WSET_CTRL checks and writes a weight-set descriptor. -/
  | ggeWsetWrite (m die : Nat) (v : Word)
  /-- SWAP (R214): A write of 1 to GGE_WSET_CTRL.SWAP requests a weight swap at the next batch boundary. -/
  | swap (m die : Nat) (v : Word)
  /-- WEIGHT_SWAP (R214): A weight swap makes the other bank of a set active at a batch boundary. `h`: handle of the dispatched mark. -/
  | weightSwap (h : Nat)
  /-- DUMP (R230): Tally adds a stroke dump into its slot, preloading a stale slot first. `held`: cycles the lathe was held for want of reorder room. -/
  | dump (die held : Nat)
  /-- MISS_NOTICE (R230): A miss notice for a failed stroke raises the slot's MISSED count. -/
  | missNotice (die : Nat)
  /-- TLY_CTX_READ (R229): A READ of TLY_CTX_CTRL loads a tally context. -/
  | tlyCtxRead (m die : Nat) (v : Word)
  /-- TLY_CTX_WRITE (R229): A WRITE of TLY_CTX_CTRL checks and writes a tally context, initialising its headers when made valid. -/
  | tlyCtxWrite (m die : Nat) (v : Word)
  /-- TLY_START (R235): A write of 1 to TLY_CTX_CTRL.START starts integrations at the next batch boundary. -/
  | tlyStart (m die : Nat) (v : Word)
  /-- TLY_STOP (R235): A write of 1 to TLY_CTX_CTRL.STOP ends integrations at the next batch boundary. -/
  | tlyStop (m die : Nat) (v : Word)
  /-- INT_START (R235): An integration start acts at a batch boundary, beginning a series of integrations. `h`: handle of the dispatched mark. -/
  | intStart (h : Nat)
  /-- INT_END (R235): An integration end closes the integration in progress at a batch boundary. `h`: handle of the dispatched mark. -/
  | intEnd (h : Nat)
  /-- INTEGRATION_CLOSE (R237): An integration closes when its last batch's outcomes are applied: combine, row statistics and emission. `lost`: partials of other members not yet received will not come. -/
  | integrationClose (die ctx : Nat) (lost : Bool)
  /-- RECORD_EMIT (R245): Tally writes and commits an integration or row-statistics record into its ring, waiting for room. -/
  | recordEmit (die ctx : Nat)
  /-- LINK_FRAME (R257): A Zhok link frame is accepted or refused with NAK and go-back-N resend. `words`: the codewords of the live lanes in logical order; `data`: the frame's bytes; `rx`: the device time at which its first symbol arrives; `table`: a member's table that came with it. -/
  | linkFrame (link : Nat) (words : List LaneWord) (data : List Byte) (rx : Nat) (table : Option GangTable)
  /-- ACK_STALL (R257): ACK making no progress for 100 µs starts a fast retrain of the link. -/
  | ackStall (link : Nat)
  /-- CORNER (R264): A CORNER packet delivers operands into a gang region's turn buffer. -/
  | corner (dest src region pos chan batch t code : Nat)
  /-- PARTIAL (R265): A PARTIAL packet delivers a member's final slots to be combined. -/
  | partialOp (dest src die ctx int slot chan : Nat) (bytes : List Byte)
  /-- RECORD (R253): A RECORD packet delivers record bytes into a peer ring. -/
  | record (dest src ring off : Nat) (bytes : List Byte)
  /-- RECORD_TIMEOUT (R253): No further RECORD packet within 1 ms rewinds the record's reservation. -/
  | recordTimeout (src ring : Nat)
  /-- MARK (R267): A MARK packet carries a gang mark to a member, which enters or refuses it. -/
  | mark (dest src : Nat) (mark : GangMark)
  /-- CLAIM (R270): A CLAIM packet reports a member's latched claims and decides shared-output ownership. `claims`: gang identifiers and latched claims. -/
  | claim (dest src : Nat) (claims : List (Nat × Nat))
  /-- CLAIM_REPORT (R270): Every 1 ms each member sends its latched claims for each shared GID. -/
  | claimReport
  /-- SHARED_ISOLATED (R271): An owner hearing no CLAIM packet for 10 ms releases the shared output. -/
  | sharedIsolated (entry member : Nat)
  /-- SHARED_TAKEOVER (R271): After 12 ms without reports a member with the highest claim drives the output. -/
  | sharedTakeover (entry : Nat)
  /-- ROUTE_DROP (R252): A packet with no live route for 100 µs is dropped. -/
  | routeDrop
  /-- STEP_DOWN (R259): A link below DOWN_THRESH for DOWN_HOLD_MS steps down to one group. -/
  | stepDown (link : Nat)
  /-- STEP_UP (R260): Demand above UP_THRESH trains the quiet group and returns the link to full width. `demand`: in 1/256 of full capacity. -/
  | stepUp (link demand : Nat)
  /-- STEP_UP_FAIL (R260): A quiet group not locking within 1.5 ms leaves the link at half width. -/
  | stepUpFail (link : Nat)
  /-- LINK_OVERLOAD (R257): A class held by XOFF for over 1 ms is flagged. -/
  | linkOverload (link cls : Nat)
  /-- TBS_TIME_S (R274): A read of TBS_TIME_S latches the sub-second fields for that master. -/
  | tbsTimeS (m : Nat)
  /-- APPLY (R281): A write of 1 to TBS_SET_SUB.APPLY steps device time while the source is FREE. -/
  | apply (m : Nat) (v : Word)
  /-- PTP_MESSAGE (R277): A PTP event or general message updates a domain's offset and qualification. `clock`: 0 for PTP_A, 1 for PTP_B. -/
  | ptpMessage (clock : Nat) (msg : PtpArrival)
  /-- ANNOUNCE_TIMEOUT (R278): The announce receipt timeout of a PTP domain expires and disqualifies it. -/
  | announceTimeout (clock : Nat)
  /-- PPS_IN_EDGE (R278): A PPS_IN rising edge is stamped and qualifies or steers device time. -/
  | ppsInEdge (n : Nat) (t : PpsPulse)
  /-- PPS_LOSS (R278): A PPS edge 1.5 s late disqualifies the PPS source. -/
  | ppsLoss (n : Nat)
  /-- REVERT (R279): SOURCE qualified for 60 s becomes the active source again. -/
  | revert
  /-- TRIG_IN_EDGE (R284): An edge on an enabled TRIG_IN line is stamped into its queue. `t`: its device time, `width`: how long the level it begins lasts, both in 2^-16 ns. -/
  | trigInEdge (line : Nat) (rising : Bool) (t width : Nat)
  /-- TBS_TRIGIN_POP (R284): A read of TBS_TRIGIN_POP returns and removes the oldest stamp. -/
  | tbsTriginPop
  /-- MARK_INSERT (R293): A write of MRK_CTRL.INSERT checks, widens and enters a mark in the table. -/
  | markInsert (m : Nat) (v : Word)
  /-- MARK_READ (R285): A write of MRK_CTRL.READ loads a mark entry. -/
  | markRead (m : Nat) (v : Word)
  /-- MARK_DELETE (R293): A write of MRK_CTRL.DELETE frees a mark entry unless an occurrence is in flight. -/
  | markDelete (m : Nat) (v : Word)
  /-- MARK_DISPATCH (R289): A mark is dispatched at its time minus LEAD_US to its target units and re-entered if repeating. -/
  | markDispatch
  /-- MRK_DONE (R289): A read of MRK_DONE returns and removes the oldest completion report. -/
  | mrkDone
  /-- MARK_NOP (R286): A NOP mark action does nothing at its tick. `h`: handle of the dispatched mark. -/
  | markNop (h : Nat)
  /-- TRIG_PULSE (R295): A TRIG_PULSE action raises a pulse on the named TRIG_OUT lines under claim. `h`: handle of the dispatched mark. -/
  | trigPulse (h : Nat)
  /-- TRIG_LEVEL (R294): A TRIG_LEVEL action sets the level of the named TRIG_OUT lines under claim. `h`: handle of the dispatched mark. -/
  | trigLevel (h : Nat)
  /-- PULSE_END (R295): A mark pulse falls its width after it rose. -/
  | pulseEnd (line : Nat)
  /-- SYNC_LOAD (R295): A SYNC_LOAD action sends index messages on its lanes and pulses their TRIG_OUT lines. `h`: handle of the dispatched mark. -/
  | syncLoad (h : Nat)
  /-- CTRL_START (R385): A CTRL_START action starts control cycles of the named field channels at its tick. `h`: handle of the dispatched mark. -/
  | ctrlStart (h : Nat)
  /-- CTRL_STOP (R385): A CTRL_STOP action stops control cycles of the named field channels. `h`: handle of the dispatched mark. -/
  | ctrlStop (h : Nat)
  /-- EVENT (R286): An EVENT action sets a MRK user sticky bit. `h`: handle of the dispatched mark. -/
  | event (h : Nat)
  /-- CHISEL_POST (R322): A CHISEL_POST action pushes a tag and time onto a Chisel-L post queue. `h`: handle of the dispatched mark. -/
  | chiselPost (h : Nat)
  /-- MONITOR_UPDATE (R298): Each second the reference monitors update offsets, qualification and selection. by reference code: offset from XO_IN in ppt, loss of signal, phase less that of the system clock in 2^-16 ns. -/
  | monitorUpdate (offs : List Int) (los : List Bool) (phases : List Int)
  /-- LOS (R300): Loss of signal of the selected reference triggers selection at once. `phases` as in MONITOR_UPDATE. -/
  | los (ref : Nat) (phases : List Int)
  /-- DPLL_LOCK (R302): The phase error held within ±1 ns for 10/BW seconds moves the DPLL to LOCKED. phase error in ps. -/
  | dpllLock (err : Int)
  /-- HISTORY_SAMPLE (R306): Once per second the DPLL output frequency is stored in the holdover history. output frequency relative to XO_IN in ppt. -/
  | historySample (freq : Int)
  /-- HO_LIMIT (R307): The holdover timer's estimated error first exceeds LIMIT_NS. seconds spent in HOLDOVER. -/
  | hoLimit (t : Nat)
  /-- XO_LOST (R310): XO_IN without an edge for 1 µs switches to the internal oscillator and stops CLKOUT. -/
  | xoLost
  /-- XO_RETURN (R310): XO_IN present for 1 s lets selection resume. `phases` as in MONITOR_UPDATE. -/
  | xoReturn (phases : List Int)
  /-- TRU_CLKOUT (R308): A claim-guarded write to TRU_CLKOUT enables or disables a clock output. -/
  | truClkout (m n : Nat) (v : Word)
  /-- RUN (R326): A write of 1 to CHS_CTRL.RUN starts a Chisel core at START_PC. -/
  | run (m n : Nat) (v : Word)
  /-- STOP (R326): A write of 1 to CHS_CTRL.STOP halts the core after its current instruction. -/
  | stop (m n : Nat) (v : Word)
  /-- DOORBELL (R321): A write of 1 to CHS_CTRL.DOORBELL raises wake cause 0. -/
  | doorbell (m n : Nat) (v : Word)
  /-- CHS_MEM_DATA (R326): An access to the Chisel memory window reads or writes program, data or core registers. a write of a word, or a read. -/
  | chsMemData (m n : Nat) (w : Option Word)
  /-- WAKE (R321): A pending wake cause in the mask ends a WAITW and is cleared. -/
  | wake (n cause : Nat)
  /-- WATCHDOG (R327): No WAITW or WAITM begun within WATCHDOG_US faults the core. -/
  | watchdog (n : Nat)
  /-- H_LOAD_TIMEOUT (R318): An H-window load not returned within 10 µs faults the core. -/
  | hLoadTimeout (n : Nat)
  /-- BRD_TIMEOUT (R323): A BRD not returned within 10 µs faults the core. -/
  | brdTimeout (n : Nat)
  /-- OUTFEED (R324): A queued outfeed descriptor copies and converts words from core memory into HBM. -/
  | outfeed (n : Nat)
  /-- NOP (R315): Chisel NOP performs its moves only. Core n below 64 is Chisel-S core n, core 64 + n is Chisel-L core n; it issues the instruction at its PC. -/
  | nop (n : Nat)
  /-- HALT (R315): Chisel HALT performs its moves and stops the core. Core n below 64 is Chisel-S core n, core 64 + n is Chisel-L core n; it issues the instruction at its PC. -/
  | halt (n : Nat)
  /-- JMP (R315): Chisel JMP sets PC to TARGET. Core n below 64 is Chisel-S core n, core 64 + n is Chisel-L core n; it issues the instruction at its PC. -/
  | jmp (n : Nat)
  /-- JCC (R315): Chisel JCC branches to TARGET if COND holds. Core n below 64 is Chisel-S core n, core 64 + n is Chisel-L core n; it issues the instruction at its PC. -/
  | jcc (n : Nat)
  /-- CALL (R315): Chisel CALL pushes the return address and branches. Core n below 64 is Chisel-S core n, core 64 + n is Chisel-L core n; it issues the instruction at its PC. -/
  | call (n : Nat)
  /-- RET (R315): Chisel RET pops the return address into PC. Core n below 64 is Chisel-S core n, core 64 + n is Chisel-L core n; it issues the instruction at its PC. -/
  | ret (n : Nat)
  /-- LOOP (R319): Chisel LOOP repeats a body LC times using the loop stack. Core n below 64 is Chisel-S core n, core 64 + n is Chisel-L core n; it issues the instruction at its PC. -/
  | loop (n : Nat)
  /-- LDLC (R315): Chisel LDLC loads LC from an immediate. Core n below 64 is Chisel-S core n, core 64 + n is Chisel-L core n; it issues the instruction at its PC. -/
  | ldlc (n : Nat)
  /-- MOVLC (R315): Chisel MOVLC loads LC from a data register. Core n below 64 is Chisel-S core n, core 64 + n is Chisel-L core n; it issues the instruction at its PC. -/
  | movlc (n : Nat)
  /-- WAITW (R321): Chisel WAITW waits on the masked wake causes. Core n below 64 is Chisel-S core n, core 64 + n is Chisel-L core n; it issues the instruction at its PC. -/
  | waitw (n : Nat)
  /-- WAITM (R322): Chisel WAITM pops the post queue, waiting if empty. Core n below 64 is Chisel-S core n, core 64 + n is Chisel-L core n; it issues the instruction at its PC. -/
  | waitm (n : Nat)
  /-- MKINS (R322): Chisel MKINS inserts a mark atomically from T memory under the core's claim. Core n below 64 is Chisel-S core n, core 64 + n is Chisel-L core n; it issues the instruction at its PC. -/
  | mkins (n : Nat)
  /-- BRD (R323): Chisel BRD reads a BAR0 register by index under the core's claim. Core n below 64 is Chisel-S core n, core 64 + n is Chisel-L core n; it issues the instruction at its PC. -/
  | brd (n : Nat)
  /-- BWR (R323): Chisel BWR posts a write to a BAR0 register by index under the core's claim. Core n below 64 is Chisel-S core n, core 64 + n is Chisel-L core n; it issues the instruction at its PC. -/
  | bwr (n : Nat)
  /-- OUTF (R324): Chisel OUTF queues an outfeed descriptor. Core n below 64 is Chisel-S core n, core 64 + n is Chisel-L core n; it issues the instruction at its PC. -/
  | outf (n : Nat)
  /-- SYNC (R315): Chisel SYNC waits until earlier BWR, OUTF and H-window stores have taken effect. Core n below 64 is Chisel-S core n, core 64 + n is Chisel-L core n; it issues the instruction at its PC. -/
  | sync (n : Nat)
  /-- EVT (R315): Chisel EVT sets the USER sticky bit and code. Core n below 64 is Chisel-S core n, core 64 + n is Chisel-L core n; it issues the instruction at its PC. -/
  | evt (n : Nat)
  /-- LDI (R315): Chisel LDI loads an immediate into a data register. Core n below 64 is Chisel-S core n, core 64 + n is Chisel-L core n; it issues the instruction at its PC. -/
  | ldi (n : Nat)
  /-- MOV (R315): Chisel MOV copies a data register. Core n below 64 is Chisel-S core n, core 64 + n is Chisel-L core n; it issues the instruction at its PC. -/
  | mov (n : Nat)
  /-- SETG (R315): Chisel SETG loads a gauge from a data register. Core n below 64 is Chisel-S core n, core 64 + n is Chisel-L core n; it issues the instruction at its PC. -/
  | setg (n : Nat)
  /-- GETG (R315): Chisel GETG copies a gauge into a data register. Core n below 64 is Chisel-S core n, core 64 + n is Chisel-L core n; it issues the instruction at its PC. -/
  | getg (n : Nat)
  /-- RND (R316): Chisel RND rounds a real accumulator shifted by SH into a data register. Core n below 64 is Chisel-S core n, core 64 + n is Chisel-L core n; it issues the instruction at its PC. -/
  | rnd (n : Nat)
  /-- CRND (R316): Chisel CRND rounds a complex accumulator into a data register. Core n below 64 is Chisel-S core n, core 64 + n is Chisel-L core n; it issues the instruction at its PC. -/
  | crnd (n : Nat)
  /-- CLRA (R315): Chisel CLRA clears an accumulator. Core n below 64 is Chisel-S core n, core 64 + n is Chisel-L core n; it issues the instruction at its PC. -/
  | clra (n : Nat)
  /-- LDA (R315): Chisel LDA loads an accumulator from a real data register. Core n below 64 is Chisel-S core n, core 64 + n is Chisel-L core n; it issues the instruction at its PC. -/
  | lda (n : Nat)
  /-- CLDA (R315): Chisel CLDA loads an accumulator from a complex data register. Core n below 64 is Chisel-S core n, core 64 + n is Chisel-L core n; it issues the instruction at its PC. -/
  | clda (n : Nat)
  /-- ADD (R315): Chisel ADD adds two data registers. Core n below 64 is Chisel-S core n, core 64 + n is Chisel-L core n; it issues the instruction at its PC. -/
  | add (n : Nat)
  /-- SUB (R315): Chisel SUB subtracts two data registers. Core n below 64 is Chisel-S core n, core 64 + n is Chisel-L core n; it issues the instruction at its PC. -/
  | sub (n : Nat)
  /-- NEG (R315): Chisel NEG negates a data register. Core n below 64 is Chisel-S core n, core 64 + n is Chisel-L core n; it issues the instruction at its PC. -/
  | neg (n : Nat)
  /-- ABS (R315): Chisel ABS takes the magnitude of a data register. Core n below 64 is Chisel-S core n, core 64 + n is Chisel-L core n; it issues the instruction at its PC. -/
  | abs (n : Nat)
  /-- MUL (R315): Chisel MUL multiplies two data registers, fitted to 48 bits. Core n below 64 is Chisel-S core n, core 64 + n is Chisel-L core n; it issues the instruction at its PC. -/
  | mul (n : Nat)
  /-- AND (R315): Chisel AND forms the bitwise and. Core n below 64 is Chisel-S core n, core 64 + n is Chisel-L core n; it issues the instruction at its PC. -/
  | andOp (n : Nat)
  /-- OR (R315): Chisel OR forms the bitwise or. Core n below 64 is Chisel-S core n, core 64 + n is Chisel-L core n; it issues the instruction at its PC. -/
  | orOp (n : Nat)
  /-- XOR (R315): Chisel XOR forms the bitwise exclusive or. Core n below 64 is Chisel-S core n, core 64 + n is Chisel-L core n; it issues the instruction at its PC. -/
  | xor (n : Nat)
  /-- SHL (R315): Chisel SHL shifts left by SH. Core n below 64 is Chisel-S core n, core 64 + n is Chisel-L core n; it issues the instruction at its PC. -/
  | shl (n : Nat)
  /-- SHRA (R315): Chisel SHRA shifts right arithmetically by SH. Core n below 64 is Chisel-S core n, core 64 + n is Chisel-L core n; it issues the instruction at its PC. -/
  | shra (n : Nat)
  /-- SHRL (R315): Chisel SHRL shifts right logically by SH. Core n below 64 is Chisel-S core n, core 64 + n is Chisel-L core n; it issues the instruction at its PC. -/
  | shrl (n : Nat)
  /-- CMP (R315): Chisel CMP sets flags from a subtraction. Core n below 64 is Chisel-S core n, core 64 + n is Chisel-L core n; it issues the instruction at its PC. -/
  | cmp (n : Nat)
  /-- MIN (R315): Chisel MIN takes the smaller of two registers. Core n below 64 is Chisel-S core n, core 64 + n is Chisel-L core n; it issues the instruction at its PC. -/
  | min (n : Nat)
  /-- MAX (R315): Chisel MAX takes the larger of two registers. Core n below 64 is Chisel-S core n, core 64 + n is Chisel-L core n; it issues the instruction at its PC. -/
  | max (n : Nat)
  /-- MPY (R315): Chisel MPY sets an accumulator to an exact product. Core n below 64 is Chisel-S core n, core 64 + n is Chisel-L core n; it issues the instruction at its PC. -/
  | mpy (n : Nat)
  /-- MAC (R315): Chisel MAC adds an exact product to an accumulator. Core n below 64 is Chisel-S core n, core 64 + n is Chisel-L core n; it issues the instruction at its PC. -/
  | mac (n : Nat)
  /-- MSU (R315): Chisel MSU subtracts an exact product from an accumulator. Core n below 64 is Chisel-S core n, core 64 + n is Chisel-L core n; it issues the instruction at its PC. -/
  | msu (n : Nat)
  /-- ADDA (R315): Chisel ADDA adds two accumulators. Core n below 64 is Chisel-S core n, core 64 + n is Chisel-L core n; it issues the instruction at its PC. -/
  | adda (n : Nat)
  /-- CADD (R315): Chisel CADD adds two complex registers. Core n below 64 is Chisel-S core n, core 64 + n is Chisel-L core n; it issues the instruction at its PC. -/
  | cadd (n : Nat)
  /-- CSUB (R315): Chisel CSUB subtracts two complex registers. Core n below 64 is Chisel-S core n, core 64 + n is Chisel-L core n; it issues the instruction at its PC. -/
  | csub (n : Nat)
  /-- CONJ (R315): Chisel CONJ conjugates a complex register. Core n below 64 is Chisel-S core n, core 64 + n is Chisel-L core n; it issues the instruction at its PC. -/
  | conj (n : Nat)
  /-- CMUL (R315): Chisel CMUL multiplies two complex registers with rounding. Core n below 64 is Chisel-S core n, core 64 + n is Chisel-L core n; it issues the instruction at its PC. -/
  | cmul (n : Nat)
  /-- CMAC (R315): Chisel CMAC accumulates a complex product. Core n below 64 is Chisel-S core n, core 64 + n is Chisel-L core n; it issues the instruction at its PC. -/
  | cmac (n : Nat)
  /-- CMACJ (R315): Chisel CMACJ accumulates a product with a conjugate. Core n below 64 is Chisel-S core n, core 64 + n is Chisel-L core n; it issues the instruction at its PC. -/
  | cmacj (n : Nat)
  /-- CMPY (R315): Chisel CMPY sets an accumulator to a complex product. Core n below 64 is Chisel-S core n, core 64 + n is Chisel-L core n; it issues the instruction at its PC. -/
  | cmpy (n : Nat)
  /-- CMULJ (R315): Chisel CMULJ multiplies by a conjugate with rounding. Core n below 64 is Chisel-S core n, core 64 + n is Chisel-L core n; it issues the instruction at its PC. -/
  | cmulj (n : Nat)
  /-- CPOW (R315): Chisel CPOW accumulates the power of a complex register. Core n below 64 is Chisel-S core n, core 64 + n is Chisel-L core n; it issues the instruction at its PC. -/
  | cpow (n : Nat)
  /-- CSCL (R315): Chisel CSCL scales each component by a real part with rounding. Core n below 64 is Chisel-S core n, core 64 + n is Chisel-L core n; it issues the instruction at its PC. -/
  | cscl (n : Nat)
  /-- PHS (R317): Chisel PHS forms the correctly rounded phasor of a phase. Core n below 64 is Chisel-S core n, core 64 + n is Chisel-L core n; it issues the instruction at its PC. -/
  | phs (n : Nat)
  /-- HBM_REQUEST (R331): A pseudo-channel serves a queued memory request with ECC and fence checks. `pc`: HPC instance; `arriving`: requests that reach the matrix first, in one cycle; `errs`: errors the array shows in the words of the request served. -/
  | hbmRequest (pc : Nat) (arriving : List HbmReq) (errs : List WordError)
  /-- REFRESH (R333): A per-bank refresh closes rows on schedule. -/
  | refresh (pc : Nat) (bank : BankRefresh)
  /-- POWER_DOWN (R334): A pseudo-channel idle for PD_IDLE_NS enters power-down. -/
  | powerDown (pc : Nat)
  /-- SCRUB (R335): A patrol scrub reads and corrects a word on schedule. `err`: none no error, false corrected, true uncorrectable. -/
  | scrub (pc word : Nat) (err : Option Bool)
  /-- TIMEOUT (R342): A Turn matrix request not completed within 100 µs completes with an error response. The oldest request of master `m` that is not complete. -/
  | timeout (m : Nat) (wr : Bool)
  /-- RESERVE (R349): A producer reserves units in a ring. `reqs`: the reservations of one cycle as (producer, units). -/
  | reserve (ring : Nat) (reqs : List (Nat × Nat))
  /-- COMMIT (R350): A producer commits a record, which the Ledger enters and which becomes visible in reservation order. The commits of one cycle. -/
  | commit (reqs : List CommitReq)
  /-- REWIND (R350): A producer rewinds a reservation, leaving a skip span. -/
  | rewind (ring producer : Nat)
  /-- RNG_ADVANCE (R352): A write to RNG_ADVANCE moves READ of a register-consumed ring. -/
  | rngAdvance (m : Nat) (v : Word)
  /-- RNG_READ (R347): A READ of RNG_CTRL loads a ring descriptor. -/
  | rngRead (m : Nat) (v : Word)
  /-- RNG_WRITE (R354): A WRITE of RNG_CTRL checks and writes a ring descriptor. -/
  | rngWrite (m : Nat) (v : Word)
  /-- RNG_WM_POP (R351): A read of RNG_WM_POP returns and removes a watermark entry. -/
  | rngWmPop
  /-- FLUSH (R355): A record visible for FLUSH_US makes its ring eligible for draining. -/
  | flush (ring : Nat)
  /-- DMA_CH_EN (R363): A write of DMA_CH_CTRL.EN or MODE enables or stops a channel, dropping transfers in flight. `cut`: bytes that a transfer in progress had moved when the write stops the channel; none where it cuts none. -/
  | dmaChEn (m ch : Nat) (v : Word) (cut : Option Nat)
  /-- GO (R359): A write of 1 to DMA_CH_CTRL.GO starts a COPY chain. -/
  | go (m ch : Nat) (v : Word)
  /-- COPY_DESCRIPTOR (R359): A COPY descriptor is fetched, checked and its transfer completed. `host`: what host memory returns where the source is there; `err`: host memory answers with an error. -/
  | copyDescriptor (ch : Nat) (host : List Byte) (err : Bool)
  /-- RECORD_TRANSFER (R360): A DRAIN channel moves one whole record from an eligible ring to its destination. `err`: host memory answers with an error. -/
  | recordTransfer (ch : Nat) (err : Bool)
  /-- DMA_CH_RD (R361): A write to DMA_CH_RD advances the consumer position of a buffer destination. -/
  | dmaChRd (m ch : Nat) (v : Word)
  /-- FRAME_RECEIVE (R368): An Ethernet frame is received whole, validated and classified. `p`: data ports 0 to 3, management ports 4 and 5. -/
  | frameReceive (p sub : Nat) (f : EthRx)
  /-- SAMPLE_DATAGRAM (R109): The ingest master takes a sample datagram and processes its blocks. -/
  | sampleDatagram (p : Nat)
  /-- PAUSE_FRAME (R375): A received PAUSE or PFC frame pauses or releases a class. `times`: class and pause time in quanta; class 0 in a PAUSE frame. -/
  | pauseFrame (p sub : Nat) (pfc : Bool) (times : List (Nat × Nat))
  /-- PAUSE_EXPIRE (R375): A class's pause time expires. -/
  | pauseExpire (p sub c : Nat)
  /-- PAUSE_WD (R376): A class paused longer than WD_MS is released by the watchdog. -/
  | pauseWd (p sub c : Nat)
  /-- PAUSE_REFRESH (R377): Every 32,768 quanta above XON the port repeats its pause frame. -/
  | pauseRefresh (p : Nat)
  /-- LPI (R378): A management port idle for IDLE_US enters low-power idle. -/
  | lpi (p : Nat)
  /-- LLDPDU (R378): Every 30 s a management port sends an LLDPDU with the EEE TLV. -/
  | lldpdu (p : Nat)
  /-- LINK_DOWN (R381): An Ethernet link goes down and counts toward lane retirement. `unc`: uncorrectable FEC codewords by lane since the last such report. -/
  | linkDown (p sub : Nat) (unc : List Nat)
  /-- ETH_FLOW_READ (R373): A READ of ETH_FLOW_CTRL loads a flow entry. -/
  | ethFlowRead (m p : Nat) (v : Word)
  /-- ETH_FLOW_WRITE (R373): A WRITE of ETH_FLOW_CTRL checks and writes a flow entry. -/
  | ethFlowWrite (m p : Nat) (v : Word)
  /-- CONTROL_CYCLE (R386): At a cycle start a field channel samples its inputs and chooses its target. -/
  | controlCycle (c : Nat)
  /-- SLEW_UPDATE (R388): Each microsecond the driven code moves toward the target by the slew limiter. what the channel measures: µA, mV, and whether the voltage is at its limit. -/
  | slewUpdate (c : Nat) (ua mv : Int) (limit : Bool)
  /-- FLD_RUN (R385): A write of FLD_CH_CTRL.RUN starts or stops control cycles. -/
  | fldRun (m c : Nat) (v : Word)
  /-- RESTART (R385): A write of 1 to FLD_CH_CTRL.RESTART restarts control cycles at cycle 0. -/
  | restart (m c : Nat) (v : Word)
  /-- FLD_RESUME (R389): A write of 1 to FLD_CH_CTRL.RESUME ends a FAULT fail-safe. -/
  | fldResume (m c : Nat) (v : Word)
  /-- FAILSAFE_ALL (R391): A write of FLD_GLB_CTRL.FAILSAFE_ALL holds or releases every channel's fail-safe state. -/
  | failsafeAll (m : Nat) (v : Word)
  /-- RAIL_FAULT (R390): A field rail out of limits for 10 µs makes every channel high-impedance. bit 0 AVDD, 1 AVPOS, 2 AVNEG. -/
  | railFault (rails : Nat)
  /-- RAIL_RECOVERY (R390): The rail condition ends 100 ms after all field rails are back within limits. -/
  | railRecovery
  /-- BEAT (R394): A Steward writes its REF_HB.SEQ as a heartbeat. A write of REF_HB[st] by master `m`. -/
  | beat (m st : Nat) (v : Word)
  /-- REFEREE_EVALUATION (R395): Each millisecond the Referee judges both Stewards' health and performs failover. `lowA`, `lowB`: microseconds for which REFEREE_A_OK and REFEREE_B_OK have been low, 0 while high. -/
  | refereeEvaluation (lowA lowB : Nat)
  /-- ARM (R397): A write of 1 to REF_CTRL.ARM issues the first claim and starts supervision. -/
  | arm (m : Nat) (v : Word)
  /-- SWITCHOVER (R403): A write of 1 to REF_CTRL.SWITCHOVER hands the claim to the standby in a planned switch. -/
  | switchover (m : Nat) (v : Word)
  /-- REINSTATE (R402): A write of 1 to REF_CTRL.REINSTATE releases a FAILED Steward from reset. -/
  | reinstate (m : Nat) (v : Word)
  /-- REF_GRANT_DATA (R398): The active Steward grants a claim to a master. -/
  | refGrantData (m : Nat) (v : Word)
  /-- EVT_PENDING (R406): A W1C write to EVT_PENDING clears pending event bits. -/
  | evtPending (m k : Nat) (v : Word)
  /-- EVT_MASK (R405): A write to EVT_MASK, clearing a bit of a pending event, requests its MSI-X message. -/
  | evtMask (m k : Nat) (v : Word)
  /-- MSIX_UNMASK (R405): Unmasking an MSI-X vector with its pending bit set sends one message. A write of the 8 bytes at byte 8 of the table entry: Message Data, then Vector Control with its Mask bit; or a write of the function mask, which takes no word. -/
  | msixUnmask (m : Nat) (vector : MsixTarget) (v : Word)
  /-- EVT_POP (R407): A read of EVT_POP returns and removes the oldest Steward queue entry. `st`: 0 for the queue of Steward A, 1 for B. -/
  | evtPop (st : Nat)
  /-- STW_RL_READ (R409): A READ of STW_RL_CTRL loads a retire-list entry. -/
  | stwRlRead (m : Nat) (v : Word)
  /-- REMOVE (R412): A write of 1 to STW_RL_CTRL.REMOVE from a signed command marks an entry removed. -/
  | remove (m : Nat) (v : Word)
  /-- RETIRE_PERSIST (R410): A retire-list change is written as a signed copy in the boot flash. `ok`: the flash write succeeds. -/
  | retirePersist (ok : Bool)
  /-- INSTALL_FW (R419): The INSTALL_FW operation checks an image and writes it to the inactive slot as TRIAL. `flash`: the flash writes succeed. -/
  | installFw (m : Nat) (v : Word) (flash : Bool)
  /-- VERIFY_WORK (R416): The VERIFY_WORK operation checks a work image and records its measurement. -/
  | verifyWork (m : Nat) (v : Word)
  /-- DEBUG_UNLOCK (R430): The DEBUG_UNLOCK operation checks a token and starts a debug unlock. -/
  | debugUnlock (m : Nat) (v : Word)
  /-- ATTEST (R425): The ATTEST operation commits a signed attestation report. -/
  | attest (m : Nat) (v : Word)
  /-- KEM (R426): The KEM operation encapsulates to a key and installs the derived MACsec or session key. -/
  | kem (m : Nat) (v : Word)
  /-- OWNER_PROG (R424): The OWNER_PROG operation programs an empty owner key slot and makes it ACTIVE. -/
  | ownerProg (m : Nat) (v : Word)
  /-- OWNER_REVOKE (R424): The OWNER_REVOKE operation revokes an owner key slot. -/
  | ownerRevoke (m : Nat) (v : Word)
  /-- CONFIRM (R419): A write of 1 to HWD_CTRL.CONFIRM makes the TRIAL slot ACTIVE. -/
  | confirm (m : Nat) (v : Word)
  /-- RELOCK (R431): A write of 1 to HWD_CTRL.RELOCK ends the debug unlock. -/
  | relock (m : Nat) (v : Word)
  /-- UNLOCK_EXPIRY (R431): A debug unlock ends when DURATION_S has passed. -/
  | unlockExpiry
  /-- ADVANCE_FW_SVN (R420): A write of 1 to ADVANCE_FW_SVN raises the firmware fuse counter. -/
  | advanceFwSvn (m : Nat) (v : Word)
  /-- ADVANCE_WORK_SVN (R420): A write of 1 to ADVANCE_WORK_SVN raises the work-image fuse counter. -/
  | advanceWorkSvn (m : Nat) (v : Word)
  /-- LOCK_APPLY (R432): A write of 1 to HWD_LOCK.APPLY sets or clears a page's write lock. -/
  | lockApply (m : Nat) (v : Word)
  /-- RESUME (R436): Once CKPT_RING can hold it, the RESUME record opens the new epoch and all commits. -/
  | resume
  /-- CKPT_NOW (R435): A write of 1 to LDG_CTRL.CKPT_NOW triggers a checkpoint. -/
  | ckptNow (m : Nat) (v : Word)
  /-- CKPT_TIME (R435): CKPT_MS passing since the previous trigger triggers a checkpoint. -/
  | ckptTime
  /-- CHECKPOINT (R435): Held triggers start one checkpoint, which is signed and persisted in the Ledger ring. `ok`: the payload could be persisted in flash. -/
  | checkpoint (ok : Bool)
  /-- CKPT_PERSISTED (R435): A persisted checkpoint is committed into CKPT_RING once it has room. -/
  | ckptPersisted
  /-- CKPT_LATE (R435): A checkpoint waiting 1 s to commit is flagged. -/
  | ckptLate
  /-- PWR_DOMAIN_REQ (R439): A write to PWR_DOMAIN_REQ gates and powers domains as one checked request. -/
  | pwrDomainReq (m : Nat) (v : Word) (env : PowerEnv)
  /-- RAIL_MONITOR (R441): Each millisecond the power controller reads every rail and package power. `rails`: index, millivolts and current in 0.1 A; `watts`: package power of the last millisecond. -/
  | railMonitor (rails : List (Nat × Int × Nat)) (watts : Nat)
  /-- TEMP_TRIP (R442): A junction above its limit plus margin forces fail-safe outputs and gates the compute domains. `tj`: junction temperature in °C. -/
  | tempTrip (die : Nat) (tj : Int) (dead : List Nat)
  /-- SMB_ALERT (R460): SMB_ALERT_N low makes the device read every regulator's status. Rail indices whose regulator reports a fault bit, and whose regulator does not acknowledge. -/
  | smbAlert (faults dead : List Nat)
  /-- POWER_ON (R443): VDD_IO rising or falling below 1.60 V causes a power-on reset. -/
  | powerOn
  /-- RESET_N (R443): RESET_N held low causes a full reset. -/
  | resetN
  /-- FULL_RESET (R444): A write of 1 to PWR_CTRL.FULL_RESET causes a full reset. -/
  | fullReset (m : Nat) (v : Word)
  /-- START (R446): After a reset the device boots, decides quick or full start, trains stacks and becomes READY. -/
  | start (env : StartEnv)
  /-- SHUTDOWN (R448): A write of 1 to CLT_CTRL.SHUTDOWN runs the orderly shutdown and closing test. -/
  | shutdown (m : Nat) (v : Word)
  /-- DRAIN_MS (R448): The drain limit of an orderly shutdown expires and the shutdown moves on. -/
  | drainMs (env : CloseEnv)
  /-- PHASE_ERR (R302): The DPLL phase error exceeding ±10 ns moves the DPLL from LOCKED back to ACQUIRE. phase error in ps. -/
  | phaseErr (err : Int)
  /-- TEMP_HIGH (R442): A die junction temperature rising above the upper Tj limit of the ordering code sets STICKY.TEMP_HIGH. -/
  | tempHigh (die : Nat) (tj : Int)
  /-- PPS_OUT (R309): PPS_OUT rises at each whole second of device time and falls WIDTH_US later. -/
  | ppsOut
  /-- SUBPORT_UP (R366): An Ethernet sub-port completes link training and comes up, setting its bit in ETH_STATUS.LINK. -/
  | subportUp (p sub : Nat)
  /-- PCI_LINK (R83): The PCI Express link enters L0 or leaves it other than through a PCI reset, updating PCI_LINK and setting STICKY.LINK_DOWN on leaving. -/
  | pciLink (speed width : Nat) (l0 : Bool)
  deriving DecidableEq, Repr

end Sys2Proof
end

