-- ==== Sys2Proof/Decode.lean ====
section
/-! DEFINITION. The command a word of table bits spells. The opcode table gives no row any bits, so no word spells
a command. -/

namespace Sys2Proof

/-- The rows of the opcode table that give bits, as (bits, word, command): none. -/
def tableWords : List (Nat × Nat × Instr) := []

/-- The command an `nbits`-bit word spells; `none` where no row of the table gives such bits. -/
def decodeTableWord (nbits w : Nat) : Option Instr :=
  (tableWords.find? (fun r => decide (r.1 = nbits ∧ r.2.1 = w))).map (fun r => r.2.2)

end Sys2Proof
end

