-- ==== Sys2Proof/Machine/Bits.lean ====
section
/-! DEFINITION. Bit fields of a word, sign extension, little-endian byte strings (R6), and lists put in order. -/

namespace Sys2Proof.Machine

/-- Field of `n` bits at bit `lo` of a number. -/
def natField (x lo n : Nat) : Nat := x / 2 ^ lo % 2 ^ n

/-- Field of `n` bits at bit `lo` of a register word. -/
def fieldOf (w : Word) (lo n : Nat) : Nat := natField w.toNat lo n

/-- One bit of a register word. -/
def bitOf (w : Word) (b : Nat) : Bool := w.getLsbD b

/-- The mask of a field. -/
def fieldMask (lo n : Nat) : Word := BitVec.ofNat 64 ((2 ^ n - 1) * 2 ^ lo)

/-- The word with the field of `n` bits at bit `lo` given the low `n` bits of `v`. -/
def withField (w : Word) (lo n v : Nat) : Word :=
  (w &&& ~~~ fieldMask lo n) ||| BitVec.ofNat 64 (v % 2 ^ n * 2 ^ lo)

/-- The word with one bit set or cleared. -/
def withBit (w : Word) (b : Nat) (v : Bool) : Word := withField w b 1 (if v then 1 else 0)

/-- An `n`-bit field read as two's complement. -/
def toSigned (n x : Nat) : Int :=
  let y := x % 2 ^ n
  if y < 2 ^ (n - 1) then (y : Int) else (y : Int) - (2 ^ n : Nat)

/-- The `n`-bit two's complement code of an integer, wrapped. -/
def ofSigned (n : Nat) (x : Int) : Nat := (x % ((2 ^ n : Nat) : Int)).toNat

/-- Addition that stops at the largest value of an `n`-bit field (the saturating counters). -/
def satAdd (n x y : Nat) : Nat := min (2 ^ n - 1) (x + y)

/-- The `n` low bytes of a number, least significant first (R6). -/
def leBytes : Nat → Nat → List Byte
  | 0, _ => []
  | n + 1, x => BitVec.ofNat 8 x :: leBytes n (x / 256)

/-- The number a little-endian byte string spells (R6). -/
def ofLeBytes : List Byte → Nat
  | [] => 0
  | b :: l => b.toNat + 256 * ofLeBytes l

/-- Quotient rounded up. -/
def ceilDiv (a b : Nat) : Nat := (a + b - 1) / b

/-- `x / 2^k` rounded to the nearest integer, ties to even. -/
def roundShift (x : Int) (k : Nat) : Int :=
  if k = 0 then x else
    let d : Int := ((2 ^ k : Nat) : Int)
    let q := x / d
    let r := x % d
    if 2 * r < d then q else if 2 * r > d then q + 1 else if q % 2 = 0 then q else q + 1

/-- `a / b` for a positive `b`, rounded to the nearest integer, ties to even. -/
def roundDiv (a : Int) (b : Nat) : Int :=
  let d : Int := (b : Int)
  let q := a / d
  let r := a % d
  if 2 * r < d then q else if 2 * r > d then q + 1 else if q % 2 = 0 then q else q + 1

/-- The value held to the range from `lo` to `hi`. -/
def clampInt (lo hi x : Int) : Int := if x < lo then lo else if hi < x then hi else x

/-- Numbers `0 .. n-1` whose bit is set in `x`. -/
def bitsSet (x : Nat) (n : Nat) : List Nat := (List.range n).filter (fun b => x.testBit b)

/-- An element put in front of the first that it may precede. -/
def insertBy {α : Type} (le : α → α → Bool) (x : α) : List α → List α
  | [] => [x]
  | y :: l => if le x y then x :: y :: l else y :: insertBy le x l

/-- A list in the order `le`; elements that `le` takes for equal keep their order. -/
def sortBy {α : Type} (le : α → α → Bool) (l : List α) : List α := l.foldr (insertBy le) []

/-- Remove the first element a test names. -/
def removeFirst {α : Type} (p : α → Bool) : List α → List α
  | [] => []
  | x :: l => if p x then l else x :: removeFirst p l

end Sys2Proof.Machine
end

