-- ==== Sys2Proof/Machine/Numbers.lean ====
section
/-! DEFINITION. The number formats of 02_numbers.md: sample formats (R28 to R30), operand formats and
requantisation (R31 to R33), I48 (R34 to R40), T48 (R42 to R47), conversions (R48, R49), the balanced combine (R55). -/

namespace Sys2Proof.Machine

/-- A 48-bit storage code (R35). -/
abbrev Code48 := BitVec 48

/-! ## Samples and operands -/

/-- Bits per component of a sample format, by R28; `none` for a code the device refuses. -/
def sampleBits (fmt : Nat) : Option Nat :=
  if fmt = 0x1 ∨ fmt = 0x9 then some 4
  else if fmt = 0x2 ∨ fmt = 0xA then some 8
  else if fmt = 0x3 ∨ fmt = 0xB then some 12
  else if fmt = 0x4 ∨ fmt = 0xC then some 16
  else none

/-- Bit 3 of the code marks a complex format (R28). -/
def sampleComplex (fmt : Nat) : Bool := fmt.testBit 3

/-- Bits of one whole sample (R28). -/
def sampleWidth (fmt : Nat) : Nat :=
  (sampleBits fmt).getD 0 * (if sampleComplex fmt then 2 else 1)

/-- Sample `k` of a payload bit string (R29, R30): real and imaginary part, imaginary 0 for a real format. -/
def sampleAt (fmt : Nat) (payload : Nat) (k : Nat) : Int × Int :=
  let c := (sampleBits fmt).getD 0
  let w := sampleWidth fmt
  let x := natField payload (k * w) w
  (toSigned c x, if sampleComplex fmt then toSigned c (x / 2 ^ c) else 0)

/-- Bits per component of a lathe or beam operand format: 0 C4, 1 C8, 2 C12, 3 C16 (R31). -/
def operandBits (f : Nat) : Nat := if f = 0 then 4 else if f = 1 then 8 else if f = 2 then 12 else 16

/-- Bytes of one complex operand (R31). -/
def operandBytes (f : Nat) : Nat := operandBits f / 4

/-- Largest magnitude produced in an operand format (R31). -/
def operandMax (f : Nat) : Int := 2 ^ (operandBits f - 1) - 1

/-- The code of a complex operand, real part in the low half (R31). -/
def operandCode (f : Nat) (re im : Int) : Nat :=
  ofSigned (operandBits f) re + ofSigned (operandBits f) im * 2 ^ operandBits f

/-- The components of an operand code, a most negative code at its value (R33). -/
def operandValue (f : Nat) (code : Nat) : Int × Int :=
  (toSigned (operandBits f) code, toSigned (operandBits f) (code / 2 ^ operandBits f))

/-- Requantisation of one component to magnitude `m`, of the exact value `x / 2^k` (R32): the result and
whether it was clamped. -/
def requantise (m : Int) (x : Int) (k : Nat) : Int × Bool :=
  let r := roundShift x k
  (clampInt (-m) m r, decide (r < -m ∨ m < r))

/-! ## I48 -/

/-- The value of an I48 code (R34). -/
inductive I48 where
  | fin (x : Int)
  | posInf
  | negInf
  | void
  deriving DecidableEq, Repr

/-- Largest finite I48 value, 2^47 − 2 (R34). -/
def i48Max : Int := 2 ^ 47 - 2

/-- The value a 48-bit code stands for (R34). -/
def i48OfCode (c : Code48) : I48 :=
  if c = 0x7FFFFFFFFFFF#48 then .posInf
  else if c = 0x800000000001#48 then .negInf
  else if c = 0x800000000000#48 then .void
  else .fin c.toInt

/-- The code of an I48 value (R34). -/
def i48Code (v : I48) : Code48 :=
  match v with
  | .fin x => BitVec.ofInt 48 x
  | .posInf => 0x7FFFFFFFFFFF#48
  | .negInf => 0x800000000001#48
  | .void => 0x800000000000#48

/-- An exact integer stored as I48: INF of its sign outside the finite range (R36). -/
def i48OfInt (x : Int) : I48 :=
  if i48Max < x then .posInf else if x < -i48Max then .negInf else .fin x

/-- I48 addition, by the table of R37. -/
def i48Add (a b : I48) : I48 :=
  match a, b with
  | .void, _ => .void
  | _, .void => .void
  | .fin x, .fin y => i48OfInt (x + y)
  | .fin _, .posInf => .posInf
  | .fin _, .negInf => .negInf
  | .posInf, .fin _ => .posInf
  | .posInf, .posInf => .posInf
  | .posInf, .negInf => .void
  | .negInf, .fin _ => .negInf
  | .negInf, .negInf => .negInf
  | .negInf, .posInf => .void

/-- Negation of an I48 value (R40). -/
def i48Neg (a : I48) : I48 :=
  match a with
  | .fin x => .fin (-x)
  | .posInf => .negInf
  | .negInf => .posInf
  | .void => .void

/-! ## T48 -/

/-- Sign bit of a T48 code. -/
def t48Sign (c : Code48) : Bool := c.getLsbD 47

/-- Exponent field of a T48 code. -/
def t48Exp (c : Code48) : Nat := natField c.toNat 39 8

/-- Fraction field of a T48 code. -/
def t48Frac (c : Code48) : Nat := natField c.toNat 0 39

/-- E 255 with a nonzero fraction is a NaN (R44). -/
def t48IsNan (c : Code48) : Bool := decide (t48Exp c = 255 ∧ t48Frac c ≠ 0)

/-- E 255 with fraction 0 is an infinity (R44). -/
def t48IsInf (c : Code48) : Bool := decide (t48Exp c = 255 ∧ t48Frac c = 0)

/-- The cause a NaN carries in bits [38:32] (R44). -/
def t48Cause (c : Code48) : Nat := natField c.toNat 32 7

/-- A NaN as the device produces it (R44). -/
def t48Nan (cause : Nat) : Code48 := BitVec.ofNat 48 (255 * 2 ^ 39 + cause % 128 * 2 ^ 32)

/-- An infinity of a sign (R44). -/
def t48Inf (neg : Bool) : Code48 := if neg then 0xFF8000000000#48 else 0x7F8000000000#48

/-- A zero of a sign, F written as 0 (R43). -/
def t48Zero (neg : Bool) : Code48 := if neg then 0x800000000000#48 else 0#48

/-- A finite code as an integer significand (signed) and a power of two: value = fst * 2^(snd − 166) (R42, R43). -/
def t48Parts (c : Code48) : Int × Nat :=
  if t48Exp c = 0 then (0, 0) else
    let m : Int := ((2 ^ 39 + t48Frac c : Nat) : Int)
    (if t48Sign c then -m else m, t48Exp c)

/-- The magnitude `x * 2^(e − 166)` rounded to 40 significant bits, ties to even, as a T48 code (R45). -/
def t48Round (neg : Bool) (x : Nat) (e : Int) : Code48 :=
  if x = 0 then t48Zero neg else
    let l := Nat.log2 x + 1
    let (m, ex) : Nat × Int :=
      if l ≤ 40 then (x * 2 ^ (40 - l), e - ((40 - l : Nat) : Int))
      else
        let r := (roundShift (x : Int) (l - 40)).toNat
        if r = 2 ^ 40 then (2 ^ 39, e + ((l - 40 : Nat) : Int) + 1) else (r, e + ((l - 40 : Nat) : Int))
    if 254 < ex then t48Inf neg
    else if ex < 1 then t48Zero neg
    else BitVec.ofNat 48 ((if neg then 2 ^ 47 else 0) + ex.toNat * 2 ^ 39 + (m - 2 ^ 39))

/-- The exact value `x * 2^(e − 166)` as a T48 code, +0 for an exact zero (R45). -/
def t48OfExact (x : Int) (e : Int) : Code48 := t48Round (decide (x < 0)) x.natAbs e

/-- Sum of two finite T48 codes (R45). -/
def t48AddFinite (a b : Code48) : Code48 :=
  let (ma, ea) := t48Parts a
  let (mb, eb) := t48Parts b
  let e := min ea eb
  let x := ma * ((2 ^ (ea - e) : Nat) : Int) + mb * ((2 ^ (eb - e) : Nat) : Int)
  if x = 0 then
    t48Zero (t48Sign a && t48Sign b && decide (t48Exp a = 0 ∧ t48Exp b = 0))
  else t48OfExact x (e : Int)

/-- T48 addition, by the table of R46; a NaN operand passes through with its payload (R47). -/
def t48Add (a b : Code48) : Code48 :=
  if t48IsNan a then a
  else if t48IsNan b then b
  else if t48IsInf a then (if t48IsInf b && (t48Sign a != t48Sign b) then t48Nan 1 else a)
  else if t48IsInf b then b
  else t48AddFinite a b

/-- Conversion from I48 to T48; `cause` is the VOID cause its holder carries (R48). -/
def t48OfI48 (cause : Nat) (v : I48) : Code48 :=
  match v with
  | .fin x => t48OfExact x 166
  | .posInf => t48Inf false
  | .negInf => t48Inf true
  | .void => t48Nan cause

/-- Conversion from T48 to I48: the value and the VOID cause, 0 for none (R49). -/
def i48OfT48 (c : Code48) : I48 × Nat :=
  if t48IsNan c then (.void, t48Cause c)
  else if t48IsInf c then (if t48Sign c then .negInf else .posInf, 0)
  else
    let (m, e) := t48Parts c
    if 166 ≤ e then (i48OfInt (m * ((2 ^ (e - 166) : Nat) : Int)), 0)
    else (i48OfInt (roundShift m (166 - e)), 0)

/-- Whether a stored value is VOID (EXACT) or NaN (FLOAT). -/
def code48Void (isFloat : Bool) (c : Code48) : Bool :=
  if isFloat then t48IsNan c else decide (i48OfCode c = .void)

/-- Whether a stored value is an infinity of its format. -/
def code48Inf (isFloat : Bool) (c : Code48) : Bool :=
  if isFloat then t48IsInf c else decide (i48OfCode c = .posInf ∨ i48OfCode c = .negInf)

/-- Addition in the storage format of a slot (R37, R46), the first operand first. -/
def code48Add (isFloat : Bool) (a b : Code48) : Code48 :=
  if isFloat then t48Add a b else i48Code (i48Add (i48OfCode a) (i48OfCode b))

/-- The VOID of a cause in the storage format of a slot (R50, R53). -/
def code48MakeVoid (isFloat : Bool) (cause : Nat) : Code48 :=
  if isFloat then t48Nan cause else i48Code .void

/-- An exact integer in the storage format of a slot (R41: a dump is an exact integer in both). -/
def code48OfInt (isFloat : Bool) (x : Int) : Code48 :=
  if isFloat then t48OfExact x 166 else i48Code (i48OfInt x)

/-- A loaded preload value: every VOID or NaN becomes one of cause 2 (R52). -/
def code48Preload (isFloat : Bool) (c : Code48) : Code48 :=
  if code48Void isFloat c then code48MakeVoid isFloat 2 else c

/-- One level of the balanced combine: neighbours are added in pairs, the lower producer first (R55). -/
def combineLevel {α : Type} (add : α → α → α) : List α → List α
  | a :: b :: l => add a b :: combineLevel add l
  | [a] => [a]
  | [] => []

/-- The balanced combine of R55 for k = 1, 2, 4 or 8 partials: log2 k levels of neighbour pairs. -/
def combineBalanced {α : Type} (add : α → α → α) (l : List α) : List α :=
  combineLevel add (combineLevel add (combineLevel add l))

end Sys2Proof.Machine
end

