-- ==== Sys2Proof/Machine/State.lean ====
section
/-! DEFINITION. The state of the block: plain data, every piece of state the manual names. Registers live in one
sparse store under their BAR0 byte address; what the registers do not hold lives in the structures below. -/

namespace Sys2Proof.Machine

/-- A table of words, sparse, zero where unlisted. -/
abbrev WordTab := List (Nat × Word)

/-- A table of numbers, sparse, zero where unlisted. -/
abbrev NatTab := List (Nat × Nat)

/-- A table of integers, sparse, zero where unlisted. -/
abbrev IntTab := List (Nat × Int)

/-- What kind of thing the device sent (the pins and links an observer sees). -/
inductive EmKind where
  | msix | sprMessage | sprFrame | sprLevels | zhkFrame | ethFrame | hostWrite | trigOut | fco | ppsOut
  | pmbus | readReply | zhkTable | zhkTrain | zhkLevels | clkOut | fieldOut
  deriving DecidableEq, Repr

/-- One thing the device sent: its kind, the unit it left by, and its content as numbers. -/
structure Emission where
  kind : EmKind
  unit : Nat
  vals : List Nat
  deriving DecidableEq, Repr

/-- How long an armed detector stays armed (R75). -/
inductive ArmMode where
  | once | persistent | count
  deriving DecidableEq, Repr

/-- A detector armed by INJECT (R75): page, sticky bit, mode, firings left in COUNT mode. -/
structure Armed where
  page : Nat
  bit : Nat
  mode : ArmMode
  left : Nat
  deriving DecidableEq, Repr

/-- An entry of a Steward's event queue (R407): event and device time of the pulse in 2^-16 ns. -/
structure EvEntry where
  event : Nat
  time : Nat
  deriving DecidableEq, Repr

/-- States of a lane, in the order of the codes of SPR_LINK_STATUS.STATE. -/
inductive LaneState where
  | down | lock | identify | tune | step | ready | run | retrain | retired
  deriving DecidableEq, Repr

/-- A serial lane and its training (R95 to R102): what SPR_LINK_STATUS shows, and the progress of each phase. -/
structure LaneTrain where
  st : LaneState := .down
  rate : Nat := 0
  rateCap : Nat := 2
  polInv : Bool := false
  txLane : Nat := 0
  peerRates : Nat := 0
  peerId : Nat := 0
  /-- SPR_CFG as read when the full training started (R118). -/
  cfg : Word := 0
  /-- Good codewords in a row, in the polarity `goodInv` (R96). -/
  good : Nat := 0
  goodInv : Bool := false
  /-- The polarity was found earlier in this training and is kept (R101); a fast retrain is in progress (R102). -/
  polKnown : Bool := false
  fast : Bool := false
  /-- Uncorrectable codewords in a row (R101, R102). -/
  bad : Nat := 0
  /-- Times of uncorrectable codewords of the last millisecond (R102). -/
  uncTimes : List Nat := []
  /-- PEER_ID and TX_LANE learned in this training; the lane held in IDENTIFY (R97). -/
  learned : Bool := false
  held : Bool := false
  /-- No further step up: a NAK or a failed step made the rate final (R99, R100). -/
  final : Bool := false
  /-- A step in progress: target rate, SWITCH_FSEQ, answered; and after the switch, the previous rate and when the switch
  was (R99, R100). -/
  stepping : Option (Nat × Nat) := none
  stepAcked : Bool := false
  /-- This side answers the peer's request instead of making one (Zhok lanes). -/
  answering : Bool := false
  switched : Option (Nat × Nat) := none
  /-- The request held towards the peer's equaliser, and HOLD frames still to send (R98). -/
  coefOut : Nat := 0
  coefHold : Nat := 0
  /-- The lane's own transmit equaliser: its three taps as steps from where training finds them, the peer's request last
  obeyed, and the answer to it (COEF_STAT, R98). -/
  eqTaps : List Int := []
  eqReq : Nat := 0
  eqStat : Nat := 0
  /-- The last 58 scrambled bits sent (R91) and the level sent last (the precoder state, R92). -/
  scr : Nat := 0
  pre : Nat := 0
  /-- CMD_ECHO of the last frame received (R93). -/
  peerEcho : Nat := 0
  /-- FSEQ of the next frame sent; READY frames sent; READY received (R101). -/
  txFseq : Nat := 0
  readySent : Nat := 0
  readyGot : Bool := false
  /-- Frame number of the last frame received in RUN, FSEQ unwrapped (R104); the frame number from which the lane is in the
  merge order of its bundle (R105). -/
  frameNo : Nat := 0
  liveFrom : Nat := 0
  /-- SEQ of the last message received and of the next message sent (R93, R112). -/
  rxMsg : Nat := 0
  txMsg : Nat := 0
  /-- Whether the position in the block stream is known, the bytes of the block in progress and the frame number it
  began in (R107). -/
  inSync : Bool := false
  part : List Byte := []
  partAt : Nat := 0
  /-- A SYNC_LOAD whose edge is awaited: its TRIG_OUT line and when it was sent (R110, R113). -/
  syncTrig : Option (Nat × Nat) := none
  /-- SEQ of the message SPR_SYNC_CMD.PENDING stands for (R113). -/
  pendSeq : Nat := 0
  deriving DecidableEq, Repr

/-- A block of a bundle waiting for its turn in the merge order (R104): frame, logical lane, physical lane, bytes. -/
structure MergeBlock where
  frame : Nat
  logical : Nat
  lane : Nat
  bytes : List Byte
  deriving DecidableEq, Repr

/-- The Spur lanes and the stream table. -/
structure SprState where
  /-- Lanes by number. -/
  lanes : List (Nat × LaneTrain) := []
  /-- Words 0 to 4 of stream table entry n at key 6n + w (R114). -/
  streams : WordTab := []
  /-- Expected index E of a stream plus 1; 0 while unset (R110). -/
  expect : NatTab := []
  /-- Merge stores of the bundles (R104). -/
  merge : List (Nat × List MergeBlock) := []
  deriving DecidableEq, Repr

/-- An entry of a roughing engine's input queue: a block's samples as v16 components, or a run of lost samples that
enters as zeros (R14, R121, R125). -/
structure RchBlock where
  stream : Nat
  first : Nat
  count : Nat
  lost : Bool
  samples : List (Int × Int)
  /-- The block was accepted while the expected index was unset: the stream restarts with it (R128). -/
  restart : Bool
  deriving DecidableEq, Repr

/-- The state of one stream in its roughing engine (R127 to R131). -/
structure RchStream where
  /-- Restarted by a first block: outputs may be emitted. -/
  started : Bool := false
  /-- Index of the first input held, and the inputs held, oldest first. -/
  base : Nat := 0
  hist : List (Int × Int) := []
  /-- Label of the next output. -/
  next : Nat := 0
  /-- Restart in force: inputs before it count as zero. -/
  zero : Nat := 0
  /-- Whether an output has been emitted since the stream started (R131). -/
  emitted : Bool := false
  /-- Restarts not yet reached. -/
  restarts : List Nat := []
  /-- A restart in the late manner awaits the next sample taken (R131): 1, or 2 after an error in the stream's state (R132). -/
  late : Nat := 0
  /-- Outputs labelled below carry UNSETTLED (R129). -/
  unsettled : Nat := 0
  /-- Runs of lost samples, from and past the end (R14). -/
  lost : List (Nat × Nat) := []
  deriving DecidableEq, Repr

/-- The roughing engines. -/
structure RchState where
  /-- Input queue of each engine, oldest first (R121). -/
  queue : List (Nat × List RchBlock) := []
  streams : List (Nat × RchStream) := []
  deriving DecidableEq, Repr

/-- A signed copy of the retire list in the boot flash (R410): generation, entries, and whether it verifies. -/
structure RlCopy where
  gen : Nat
  entries : List Word
  valid : Bool
  deriving DecidableEq, Repr

/-- The persisted retire list (R409 to R412): entries in the layout of STW_RL_DATA, changes not yet persisted, the
generation of the last persisted copy, and the two flash areas. -/
structure RetireState where
  entries : List Word := []
  changes : Nat := 0
  gen : Nat := 0
  areaA : Option RlCopy := none
  areaB : Option RlCopy := none
  deriving DecidableEq, Repr

/-- One roughing output as a Faceplate holds it: value, UNSETTLED, and whether its impulse window holds a lost
sample (R14, R129). -/
structure FplOut where
  re : Int
  im : Int
  uns : Bool
  lost : Bool
  deriving DecidableEq, Repr

/-- What a stream-wise request asks for at a boundary (R143, R146, R149). -/
inductive FplReqKind where
  | coef | gain | model
  deriving DecidableEq, Repr

/-- A request waiting for its boundary: not before spectrum `notBefore`, fade length, whether it starts at a batch boundary,
launched by a register, and the place of its mark in the mark table, by time and order of insertion (R149 to R151, R292). -/
structure FplReq where
  kind : FplReqKind
  notBefore : Nat
  fade : Nat
  align : Bool
  byReg : Bool
  time : Nat := 0
  order : Nat := 0
  deriving DecidableEq, Repr

/-- A cross-fade in progress: first spectrum and length (R150). -/
structure FplFade where
  start : Nat
  len : Nat
  deriving DecidableEq, Repr

/-- The current model of a stream (R142): p0 and the fields sampled at it. -/
structure FplModel where
  p0 : Nat := 0
  fracDelay : Int := 0
  fracRate : Int := 0
  fringePhase : Nat := 0
  fringeRate : Int := 0
  deriving DecidableEq, Repr

/-- A stream in its Faceplate. -/
structure FplStream where
  /-- Number of the first roughing output held, and the outputs, oldest first. -/
  base : Nat := 0
  outs : List FplOut := []
  /-- Outputs have been received since the stream began. -/
  running : Bool := false
  /-- Next spectrum. -/
  next : Nat := 0
  /-- Integer delay in force, and one that waits for the batch boundary at a spectrum (R143). -/
  delay : Nat := 0
  delayHeld : Option (Nat × Nat) := none
  model : FplModel := {}
  /-- Active banks, B when true; the fade in progress; the queued fade length (R150, R151). -/
  coefB : Bool := false
  gainB : Bool := false
  fade : Option FplFade := none
  queued : Option Nat := none
  /-- Requests that wait for their boundary, in the order in which they act. -/
  reqs : List FplReq := []
  deriving DecidableEq, Repr

/-- An operand on its way to the turn buffer (R155, R157). -/
structure TurnOperand where
  fpl : Nat
  region : Nat
  pos : Nat
  chan : Nat
  batch : Nat
  t : Nat
  code : Nat
  deriving DecidableEq, Repr

/-- A batch slot of a turn region on one C-die (R155, R158, R194). -/
structure TbSlot where
  /-- Holds a batch that is not yet released. -/
  busy : Bool := false
  batch : Nat := 0
  /-- Batches below this one were released here (R158). -/
  past : Nat := 0
  /-- Operands arrived per position and local channel, at key pos * 65536 + channel. -/
  arrived : NatTab := []
  /-- The batch is ready for staging; staging has begun; only replays still need the slot. -/
  ready : Bool := false
  staged : Bool := false
  replayOnly : Bool := false
  deriving DecidableEq, Repr

/-- The Faceplates and the turn buffer. -/
structure FplState where
  /-- Coefficient word k of bank b of Faceplate f at key (2f + b) * 2^20 + k (R139, R152). -/
  coef : WordTab := []
  /-- Gain word i of bank b of Faceplate f at key (2f + b) * 2^18 + i (R145). -/
  gain : WordTab := []
  /-- Words 0 to 3 of map entry j of Faceplate f at key (f * 16384 + j) * 4 + w (R161). -/
  map : WordTab := []
  /-- ZAPPED count of map entry j of Faceplate f at key f * 16384 + j (R161). -/
  zapped : NatTab := []
  /-- Streams by number. -/
  streams : List (Nat × FplStream) := []
  /-- Streams not taken for lack of budget (R136). -/
  overload : List Nat := []
  /-- Bank the swaps have made active for streams that a Faceplate takes from now on, 1 for B. -/
  coefDef : NatTab := []
  gainDef : NatTab := []
  /-- Words with an uncorrectable error: coefficient keys, gain keys, map entries, models (R159). -/
  badCoef : List Nat := []
  badGain : List Nat := []
  badMap : List Nat := []
  badModel : List Nat := []
  /-- Operands in transit, oldest first. -/
  transit : List TurnOperand := []
  /-- Words 0 and 1 of region r of C-die d at key (16d + r) * 2 + w (R153). -/
  regions : WordTab := []
  /-- Batch slots: slot n of region r of C-die d at key (16d + r) * 64 + n. -/
  slots : List (Nat × TbSlot) := []
  deriving DecidableEq, Repr

/-- An entry of the mark table (R285): its words, the time widened; the claim of the inserting master (R291); the
insertion order; whether a member refused it (R267). -/
structure MarkEntry where
  time : Nat
  gang : Bool
  skipLate : Bool
  rep : Nat
  w2 : Word
  w3 : Word
  claim : Nat
  order : Nat
  refused : Bool
  /-- Occurrences dispatched and not yet completed (R293); no further occurrence waits. -/
  flying : Nat
  last : Bool
  deriving DecidableEq, Repr

/-- A dispatched occurrence of a mark (R289): status 0 while nothing is reported, else the worst so far; the lines a
SYNC_LOAD pulses, one bit each (R295). -/
structure MarkOcc where
  handle : Nat
  time : Nat
  skipLate : Bool
  gang : Bool
  w2 : Word
  w3 : Word
  claim : Nat
  status : Nat
  lines : Nat
  /-- Place among entries of equal time in the mark table: order of insertion (R292). -/
  order : Nat
  /-- What met it at its tick on one of its targets: address of the guarded register, claim (R81, R291). -/
  rivals : List (Nat × Nat)
  deriving DecidableEq, Repr

/-- A report of the completion queue (R289, MRK_DONE). -/
structure MarkReport where
  handle : Nat
  status : Nat
  timeNs : Nat
  deriving DecidableEq, Repr

/-- The mark table. -/
structure MrkState where
  entries : List (Nat × MarkEntry) := []
  nextOrder : Nat := 0
  occs : List MarkOcc := []
  done : List MarkReport := []
  deriving DecidableEq, Repr

/-- A write fence of an HBM controller (R346): first address, length, and the page and sticky bit that report it. -/
structure HbmFence where
  lo : Nat
  len : Nat
  page : Nat
  bit : Nat
  owner : Nat
  deriving DecidableEq, Repr

/-- A row tracker of an HPC (R337): row, times of its corrected errors, when it was last used, and the window in force
for it, in milliseconds (R76). -/
structure RowTracker where
  row : Nat
  times : List Nat
  used : Nat
  win : Nat
  deriving DecidableEq, Repr

/-- A request in the matrix or the controller, numbered in the order of arrival (R331, R343). -/
structure HbmEntry where
  req : HbmReq
  seq : Nat
  /-- Held back at its master so that no cycle of waits forms (R344). -/
  chained : Bool := false
  /-- When it arrived, on the block's own clock (R342). -/
  since : Nat := 0
  deriving DecidableEq, Repr

/-- A read that was served before an earlier one of its master, ID and target: its completion waits (R343). -/
structure HbmReply where
  entry : HbmEntry
  bytes : List Byte
  poison : Bool
  err : Bool
  deriving DecidableEq, Repr

/-- A pseudo-channel (R331 to R337). -/
structure HbmPc where
  /-- Queued requests, oldest first, at most 64, and those held at their source. -/
  queue : List HbmEntry := []
  held : List HbmEntry := []
  /-- Row open in bank b of stack ID i, plus 1, at key 16 i + b. -/
  rows : NatTab := []
  /-- Bank of the current run of hits and its length. -/
  runBank : Nat := 0
  runLen : Nat := 0
  down : Bool := false
  /-- Since when the queue has been empty, on the block's own clock (R334). -/
  idle : Nat := 0
  trackers : List RowTracker := []
  clock : Nat := 0
  deriving DecidableEq, Repr

/-- The HBM controllers and the Turn matrix. -/
structure HbmState where
  /-- Pseudo-channels by HPC instance, 0 to 127. -/
  pcs : List (Nat × HbmPc) := []
  fences : List HbmFence := []
  /-- Poisoned 32-byte words, by address divided by 32 (R336). -/
  poison : List Nat := []
  /-- Repairs used, by bank (R338). -/
  repairs : NatTab := []
  /-- Rows retired and rows fenced, by their retire-list unit (R337, R338). -/
  retired : List Nat := []
  fenced : List Nat := []
  /-- Priority plus 1 of (master, target) pairs changed from their default, at key 16 m + t (R340). -/
  prio : NatTab := []
  /-- Master plus 1 that each target port was last granted to, for the round robin of R341. -/
  last : NatTab := []
  /-- Requests that wait outside the controllers, oldest first: at the outstanding limit, behind one of their ID to another
  target, or for a stack that is not yet in service (R339, R342, R343). -/
  waiting : List HbmEntry := []
  replies : List HbmReply := []
  nextSeq : Nat := 0
  deriving DecidableEq, Repr

/-- How a reservation stands (R350, R433): open, its commit entered in the Ledger but not complete, committed, rewound. -/
inductive SpanSt where
  | opened | entered | committed | rewound
  deriving DecidableEq, Repr

/-- A reservation of a ring (R349): its units, how it stands, its producer, and when VISIBLE passed it. -/
structure RingSpan where
  start : Nat
  len : Nat
  st : SpanSt
  producer : Nat
  seen : Option Nat
  deriving DecidableEq, Repr

/-- A ring (R347 to R351): descriptor words 0 to 3, the three running counts, the reservations from READ on, the
watermark state and the count of rewinds. -/
structure Ring where
  w0 : Word := 0
  w1 : Word := 0
  w2 : Word := 0
  w3 : Word := 0
  reserve : Nat := 0
  visible : Nat := 0
  taken : Nat := 0
  spans : List RingSpan := []
  above : Bool := false
  rewinds : Nat := 0
  deriving DecidableEq, Repr

/-- The rings and the watermark queue, oldest entry first: ring and new state (R351). -/
structure RngState where
  rings : List (Nat × Ring) := []
  wm : List (Nat × Bool) := []
  deriving DecidableEq, Repr

/-- A commit that has reached the Ledger and waits for RESUME (R417, R433): ring, where its record stands, and what
the producer gave. -/
structure LdgCommit where
  ring : Nat
  base : Nat
  size : Nat
  start : Nat
  producer : Nat
  rtype : Nat
  die : Nat
  payload : List Byte
  deriving DecidableEq, Repr

/-- A trigger of a checkpoint (R435): reason and device time. -/
structure LdgTrigger where
  reason : Nat
  time : Nat
  deriving DecidableEq, Repr

/-- The checkpoint pending (R435): position, payload, whether it is signed and persisted, since when it waits. -/
structure LdgPending where
  covers : Nat
  payload : List Byte
  persisted : Bool
  since : Nat
  deriving DecidableEq, Repr

/-- A slot of the Ledger ring in flash (R436): generation, EPOCH or CHECKPOINT, epoch, and the payload of R435. -/
structure LdgSlot where
  gen : Nat
  isEpoch : Bool
  epoch : Nat
  payload : List Byte
  deriving DecidableEq, Repr

/-- What the Ledger holds beside its registers (R433 to R436). -/
structure LdgState where
  /-- Commits waiting for RESUME. -/
  waiting : List LdgCommit := []
  /-- LEDGER_SEQ of RESUME, and the first position not yet covered by a started checkpoint. -/
  first : Nat := 0
  uncovered : Nat := 0
  /-- COVERS_TO + 1 of the last persisted checkpoint of this epoch, 0 for none. -/
  covered : Nat := 0
  /-- The count trigger has fired since the last checkpoint started. -/
  counted : Bool := false
  /-- Block time of the last trigger and of the trigger that started the last checkpoint. -/
  lastTrigger : Nat := 0
  lastStart : Option Nat := none
  held : List LdgTrigger := []
  pendingCkpt : Option LdgPending := none
  /-- Payload bytes hashed since `LDG_CNT[4]` was cleared. -/
  hashed : Nat := 0
  /-- The Ledger ring in flash, newest first, and its next generation; kept over every reset. -/
  slots : List LdgSlot := []
  gen : Nat := 0
  /-- The device runs without an identity (R418). -/
  noIdentity : Bool := false
  deriving DecidableEq, Repr

/-- A cut-list entry, its four words (R183, R209). -/
structure CutEntry where
  w0 : Word
  w1 : Word
  w2 : Word
  w3 : Word
  deriving DecidableEq, Repr

/-- A stage-table entry, its two words (R189). -/
structure StageEntry where
  w0 : Word
  w1 : Word
  deriving DecidableEq, Repr

/-- A valid pass plan (R188): words 0 to 7, its cut list and stage table as checked, whether it stops at the next
batch boundary. -/
structure Plan where
  words : List Word
  entries : List CutEntry
  stages : List StageEntry
  stopping : Bool
  deriving DecidableEq, Repr

/-- The spectra of one input block in the blank store: how it was read (0 sound, 1 an uncorrectable blank-store error,
2 an uncorrectable turn-buffer error), and per spectrum the 32 operands (R190, R196). -/
structure BlockData where
  block : Nat
  bad : Nat
  rows : List (List (Int × Int))
  deriving DecidableEq, Repr

/-- A half of the blank store, or a replay's share of the replay area: first spectrum of the stage, its blocks. -/
structure BlankHalf where
  first : Nat
  blocks : List BlockData
  deriving DecidableEq, Repr

/-- What a gouge stroke forms: its cut-list entry and beam group (R209), the bank of its batch (R214), and its weights,
link by link, once a weight store of its lathe holds them (R207). -/
structure GougeJob where
  entry : CutEntry
  group : Nat
  bankB : Bool
  weights : Option (List (List (List (Int × Int)))) := none
  deriving DecidableEq, Repr

/-- A stroke on a lathe (R165, R185, R206). -/
structure Stroke where
  seat : Nat
  region : Nat
  ctx : Nat
  chan : Nat
  batch : Nat
  /-- Integration the dump belongs to; none where no integration takes it. -/
  int : Option Nat
  gouge : Option GougeJob
  row : Nat
  col : Nat
  slot : Nat
  producer : Nat
  split : Nat
  fmt : Nat
  /-- Halves that hold its segments still to be taken in, in order; a replay's own operands. -/
  segs : List Nat
  own : Option BlankHalf
  /-- Segments after those in `segs` are still to be loaded (R190). -/
  more : Bool := false
  /-- Accumulators over earlier segments, cell (i, j) at 33i + j, the spectra they hold, and how their blocks were read, as
  in `BlockData`. -/
  acc : List (Int × Int)
  held : Nat
  bad : Nat := 0
  replay : Bool
  deriving DecidableEq, Repr

/-- A lathe: its strokes in order, its shadow set, the live set a snapshot exposes, and its snapshot state. -/
structure Lathe where
  queue : List Stroke := []
  shadow : List (Int × Int) := []
  live : List (Int × Int) := []
  /-- SNAPSHOT written, the pipeline not yet empty; a token has passed since. -/
  snapping : Bool := false
  tokenSeen : Bool := false
  deriving DecidableEq, Repr

/-- A batch ready for staging: since when, and the (position, local channel) pairs absent at the deadline (R17, R193). -/
structure SchReady where
  region : Nat
  batch : Nat
  since : Nat
  absent : List (Nat × Nat)
  deriving DecidableEq, Repr

/-- The batch being staged: integration of its dumps, first batch of that integration, and the (channel, stage) loads
still to do (R191). -/
structure SchCur where
  region : Nat
  batch : Nat
  absent : List (Nat × Nat)
  int : Option Nat
  beta0 : Nat
  steps : List (Nat × Nat)
  deriving DecidableEq, Repr

/-- The scheduler of one C-die. -/
structure SchDie where
  ready : List SchReady := []
  cur : Option SchCur := none
  /-- The two halves of the blank store. -/
  halfA : Option BlankHalf := none
  halfB : Option BlankHalf := none
  /-- Half the next load uses: false the first. -/
  useB : Bool := false
  /-- Batches fully loaded and not yet finished. -/
  loaded : List SchReady := []
  /-- Failed jobs waiting for a replay (R176). -/
  replays : List Stroke := []
  /-- Block times of the last 65 batch arrivals of each region (R200). -/
  times : List (Nat × List Nat) := []
  /-- One past the last batch staged, by region; the batches before it that were passed over, as region, first, and one past
  the last (R17, R192). -/
  next : NatTab := []
  gaps : List (Nat × Nat × Nat) := []
  deriving DecidableEq, Repr

/-- The lathes and the schedulers. -/
structure SchState where
  lathes : List (Nat × Lathe) := []
  dies : List (Nat × SchDie) := []
  /-- Valid pass plans: plan of region r of C-die d at key 16d + r. -/
  plans : List (Nat × Plan) := []
  deriving DecidableEq, Repr

/-- What a lathe tells Tally (R230, R231): a dump, a miss notice, or that a pending replay came to nothing. -/
inductive TlyKind where
  | dump | miss | resolve
  deriving DecidableEq, Repr

/-- An outcome on its way to Tally; `replay` marks one that resolves a wait, `awaits` a miss whose job is replayed. -/
structure TlyItem where
  kind : TlyKind
  ctx : Nat
  /-- Integration it belongs to; none where no integration takes its batch. -/
  int : Option Nat
  slot : Nat
  chan : Nat
  batch : Nat
  row : Nat
  col : Nat
  producer : Nat
  split : Nat
  values : List (Int × Int)
  replay : Bool
  awaits : Bool
  deriving DecidableEq, Repr

/-- A slot waiting for a replay: context, slot, channel, batch (R231). -/
structure TlyWait where
  ctx : Nat
  slot : Nat
  chan : Nat
  batch : Nat
  deriving DecidableEq, Repr

/-- A record waiting to be emitted: row statistics with their payload, or the final slot of an index (R245). -/
inductive TlyRec where
  | rows (payload : List Byte)
  | slot (s : Nat)
  deriving DecidableEq, Repr

/-- An integration (R235 to R237). -/
structure Integ where
  num : Nat
  first : Nat
  /-- One past its last batch once that is fixed. -/
  stop : Option Nat
  /-- Jobs issued whose outcome has not been applied. -/
  opened : Nat
  /-- Slots already preloaded, as channel × SLOTS + slot. -/
  touched : List Nat
  /-- Slot flags it carries: PHASE_STEP, SHORT. -/
  flags : Nat
  /-- Batches of each skipped integration its slots begin with (R236). -/
  carry : List Nat
  skipped : Bool
  /-- Cut list of the plan that fills it. -/
  entries : List CutEntry
  /-- Step 2 of R237 is done on this device; partials of other members added, as member + 8 × (channel × SLOTS + slot)
  (R265); every partial is in, or given up. -/
  closed : Bool
  partials : List Nat
  combined : Bool
  /-- Its buffer is free again. -/
  freed : Bool
  /-- Channels still to emit, the current one first; its records still to emit; next SERIAL. -/
  chans : List Nat
  recs : List TlyRec
  serial : Nat
  /-- Words 4 and 5 of the context as they stood at its start (R229). -/
  pre : Word
  rings : Word
  /-- Slot numbers in which an addition has produced VOID or NaN, and an infinity (R234). -/
  voided : List Nat
  infed : List Nat
  deriving DecidableEq, Repr

/-- A start or end request (R235): a start, and the boundary it acts at, 0 for the next. -/
structure TlyReq where
  start : Bool
  notBefore : Nat
  deriving DecidableEq, Repr

/-- A tally context (R228, R229): words 0 to 6 of its descriptor, and its integrations, oldest first. -/
structure TlyCtx where
  words : List Word := []

  running : Bool := false
  nextNum : Nat := 0
  reqs : List TlyReq := []
  ints : List Integ := []
  skipCarry : List Nat := []
  skips : Nat := 0
  deriving DecidableEq, Repr

/-- The Tally of one C-die. -/
structure TlyDie where
  ctxs : List (Nat × TlyCtx) := []
  inbox : List TlyItem := []
  reorder : List TlyItem := []
  waits : List TlyWait := []
  deriving DecidableEq, Repr

/-- The Tallies. -/
structure TlyState where
  dies : List (Nat × TlyDie) := []
  deriving DecidableEq, Repr

/-- A swap request of a weight set: boundary, 0 for the next (R214). -/
structure WSwap where
  notBefore : Nat
  deriving DecidableEq, Repr

/-- A weight set (R212): words 0 to 2 with ACTIVE in word 0, and its swap requests. -/
structure WSet where
  w0 : Word := 0
  w1 : Word := 0
  w2 : Word := 0
  swaps : List WSwap := []
  deriving DecidableEq, Repr

/-- What a detector holds of one tick: its sum and the spectra of its channels seen (R219). -/
structure DetTick where
  tick : Nat
  sum : Nat
  seen : Nat
  deriving DecidableEq, Repr

/-- A detector (R219 to R221): descriptor words, state 0 OFF to 3 ALARM, evaluations since ALARM began, ACK since,
next tick. -/
structure Detector where
  w0 : Word := 0
  w1 : Word := 0
  w2 : Word := 0
  w3 : Word := 0
  st : Nat := 0
  evals : Nat := 0
  acked : Bool := false
  next : Option Nat := none
  ticks : List DetTick := []
  deriving DecidableEq, Repr

/-- A power interval in progress (R216): the beams it belongs to, its first spectrum, the sums,
the spectra seen and the clamps. -/
structure PowerInt where
  region : Nat
  chan : Nat
  beam0 : Nat
  start : Nat
  sums : List Int
  seen : Nat
  /-- Spectra known to be missing (R218). -/
  absent : Nat
  clamps : Nat
  /-- Its last spectrum has been accounted for; the bank of the batch that holds it. -/
  ended : Bool
  bankB : Bool
  deriving DecidableEq, Repr

/-- A voltage record in progress (R208, R217): the job it belongs to, the spectra accounted for, those present by their place
in the batch, clamps, whether a stroke of it has run, and whether a part of it failed. -/
structure VoltInt where
  region : Nat
  chan : Nat
  beam0 : Nat
  batch : Nat
  taken : Nat
  values : List (Nat × List (Int × Int))
  clamps : Nat
  ran : Bool
  failed : Bool
  deriving DecidableEq, Repr

/-- Weight sets, detectors and power intervals, by 16 × C-die + number; frozen values of suspended lines (R22). -/
structure GgeState where
  wsets : List (Nat × WSet) := []
  dets : List (Nat × Detector) := []
  powers : List (Nat × List PowerInt) := []
  /-- Voltage records in progress of C-die d. -/
  volts : List (Nat × List VoltInt) := []
  /-- Value plus 1 that line 16d + i had when it was suspended, and when its page was disabled (R22, R225). -/
  frozen : NatTab := []
  held : NatTab := []
  deriving DecidableEq, Repr

/-- Mark pulses in progress on the TRIG_OUT lines as line and end before SKEW on the block's own clock, and the level the observer
last saw on each pin, by line. -/
structure PinState where
  pulses : List (Nat × Nat) := []
  trig : NatTab := []
  fco : NatTab := []
  /-- Frequency plus 1 in kHz that the observer last saw on CLKOUT[n], 0 for low. -/
  clk : NatTab := []
  /-- Drive of field output c last seen: 0 high-impedance, else the code plus 2^24. -/
  field : NatTab := []
  deriving DecidableEq, Repr

/-- Truing (13_truing_clocks.md): device times of the phase steps (R233, R303), updates in a row that let a reference
requalify, seconds an entry has been a candidate (R298, R300), the history newest first, unusable samples as none
(R306). -/
structure TruState where
  steps : List Nat := []
  good : NatTab := []
  candidate : NatTab := []
  history : List (Option Int) := []
  /-- Offsets of a reference in ppt, a second each, newest first, none for a second without a signal (R297). -/
  offs : List (Nat × List (Option Int)) := []
  /-- The reference the DPLL has taken up. -/
  ref : Nat := 0
  /-- Since when its phase error has stayed within 1 ns, on the block's own clock (R302). -/
  within : Option Nat := none
  deriving DecidableEq, Repr

/-- What the acknowledgement of a packet completes: a member's partials of an integration (C-die, context, number; R265),
or the transfer of a record by a DMA channel (R360). -/
inductive ZhkNote where
  | none
  | partials (die ctx num : Nat)
  | drained (chan : Nat)
  deriving DecidableEq, Repr

/-- A packet between members (R256): KIND, destination, source, detour, FLOW, ADDR, payload, and what its acknowledgement
completes. -/
structure ZhkPacket where
  kind : Nat
  dest : Nat
  src : Nat
  detour : Bool
  flow : Nat
  addr : Nat
  payload : List Byte
  note : ZhkNote
  deriving DecidableEq, Repr

/-- A link frame kept until it is acknowledged (R257): SEQ, payload, and the packets that end in it. -/
structure ZhkFrame where
  seq : Nat
  payload : List Byte
  ends : List ZhkPacket
  deriving DecidableEq, Repr

/-- A rate step in progress (R259, R260): up or down, asked for by this side, SWITCH, answered. -/
structure ZhkStep where
  up : Bool
  mine : Bool
  switch : Nat
  acked : Bool
  deriving DecidableEq, Repr

/-- A Zhok link. -/
structure ZhkLink where
  /-- It carries link frames; it runs on one group only, group `group`. -/
  up : Bool := false
  half : Bool := false
  group : Nat := 0
  step : Option ZhkStep := none
  /-- Next SEQ to send, next SEQ expected, a NAK is owed (R255, R257). -/
  txSeq : Nat := 0
  rxSeq : Nat := 0
  nak : Bool := false
  /-- Frames sent and not acknowledged, oldest first; times the oldest has been resent; when ACK last moved. -/
  kept : List ZhkFrame := []
  resends : Nat := 0
  ackAt : Nat := 0
  /-- Packets to send, oldest first; the packet begun and its bytes still to send; classes the peer holds by XOFF. -/
  waiting : List ZhkPacket := []
  part : Option (ZhkPacket × List Byte) := none
  xoff : Nat := 0
  /-- Bytes received of a packet that goes on in the next frame, and the packets received whole and not yet taken, oldest
  first: the ordinary and, for those marked so, the detour buffer (R252, R256). -/
  rxPart : List Byte := []
  rxBuf : List ZhkPacket := []
  /-- Since when the use of both ends has stayed below DOWN_THRESH (R259). -/
  lowSince : Nat := 0
  /-- Start of the use window and bytes sent in it (R255 USE). -/
  winStart : Nat := 0
  winBytes : Nat := 0
  /-- Payload bytes sent beyond a multiple of 64 (ZHK_CNT[9]). -/
  oddBytes : Nat := 0
  /-- Retrains attributed to lanes: lane within the link and time (R258). -/
  attributed : List (Nat × Nat) := []
  deriving DecidableEq, Repr

/-- A record arriving in RECORD packets (R253): source, ring, start of its reservation once it has one, bytes received,
time of the last arrival. -/
structure ZhkRecv where
  src : Nat
  ring : Nat
  start : Option Nat
  data : List Byte
  seen : Nat
  deriving DecidableEq, Repr

/-- A final slot of another member that came before this one could add it (R253, R265): C-die, context, integration, member,
slot, channel, bytes. -/
structure EarlyPartial where
  die : Nat
  ctx : Nat
  int : Nat
  member : Nat
  slot : Nat
  chan : Nat
  bytes : List Byte
  deriving DecidableEq, Repr

/-- The last CLAIM report of a member for a gang identifier (R270). -/
structure ZhkReport where
  gid : Nat
  member : Nat
  claim : Nat
  time : Nat
  deriving DecidableEq, Repr

/-- How this device stands to an entry of ZHK_SHARED (R271): since when its claim is the highest, released on silence. -/
structure ZhkStand where
  since : Option Nat := none
  isolated : Bool := false
  deriving DecidableEq, Repr

/-- The Zhok links and what the gang shares. -/
structure ZhkState where
  /-- Lanes, 8 × link + lane. -/
  lanes : List (Nat × LaneTrain) := []
  links : List (Nat × ZhkLink) := []
  /-- Packets without a route, since when (R252). -/
  held : List (ZhkPacket × Nat) := []
  /-- Unordered packets sent, for spreading over links (R252). -/
  spread : Nat := 0
  /-- Link an ordered flow took last plus 1, by destination (R253). -/
  flowLink : NatTab := []
  records : List ZhkRecv := []
  reports : List ZhkReport := []
  stands : List (Nat × ZhkStand) := []
  /-- Tables received from members (R261), and final slots that came early (R265). -/
  tables : List GangTable := []
  early : List EarlyPartial := []
  deriving DecidableEq, Repr


/-- A DMA channel (R358 to R361): the destination descriptor fetched at enable, the write position, the ring it served
last, the ring whose record is in transfer, the address of the next descriptor of its chain. -/
structure DmaChan where
  desc : List Word := []
  wp : Nat := 0
  last : Option Nat := none
  flight : Option Nat := none
  chain : Nat := 0
  deriving DecidableEq, Repr

/-- The DMA channels. -/
structure DmaState where
  chans : List (Nat × DmaChan) := []
  deriving DecidableEq, Repr

/-- A sender of sample datagrams (R369): its source address and port as one number, and the last SEQ seen. -/
structure EthSender where
  src : Nat
  seq : Nat
  deriving DecidableEq, Repr

/-- The pause of a class on a port (R375, R376): end by the block's own clock while paused, since when, released. -/
structure EthPause where
  until' : Option Nat := none
  since : Nat := 0
  released : Bool := false
  deriving DecidableEq, Repr

/-- A MACsec association (R379): key, SCI, SSCI, next packet number. -/
structure EthSa where
  key : List Byte
  sci : Nat
  ssci : Nat
  pn : Nat
  deriving DecidableEq, Repr

/-- A sample datagram in a data port's buffer (R370): its UDP payload, and whether its frame was truncated. -/
structure EthDatagram where
  payload : List Byte
  trunc : Bool
  deriving DecidableEq, Repr

/-- A frame of a port: priority, sub-port, whether it is never protected (R380), and its bytes from the destination address up
to the FCS. For an event message of a PTP clock: the clock, its bytes being the message alone; and for an answer to a peer's
request when that request came, in device time (R277, R283). -/
structure EthFrameOut where
  cls : Nat
  sub : Nat
  exempt : Bool
  bytes : List Byte
  clock : Option Nat := none
  asked : Option Nat := none
  deriving DecidableEq, Repr

/-- Who sent the last datagram to the command port (R84): address family, MAC address, address × 65536 + UDP port. -/
structure EthPeer where
  ipv6 : Bool := false
  mac : Nat := 0
  src : Nat := 0
  deriving DecidableEq, Repr

/-- An Ethernet port. -/
structure EthPort where
  /-- Words 0 to 5 of flow entry f at key 6f + w (R372). -/
  flows : WordTab := []
  /-- Senders, most recently seen first (R369). -/
  senders : List EthSender := []
  /-- Sample datagrams, oldest first (R370). -/
  buffer : List EthDatagram := []
  /-- Pauses at key 8 × sub-port + class, class 0 alone in PAUSE mode (R375). -/
  pauses : List (Nat × EthPause) := []
  /-- Frames held by a pause. -/
  queue : List EthFrameOut := []
  /-- Who commands come from, where replies go (R86). -/
  peer : EthPeer := {}
  /-- A pause sent for the sample buffer stands, and when its last frame was sent (R377). -/
  xoff : Bool := false
  xoffAt : Nat := 0
  /-- Bytes sent beyond a multiple of 64 (ETH_CNT[15]). -/
  oddBytes : Nat := 0
  /-- When the last frame and the last LLDPDU were sent, on the block's own clock (R378). -/
  sentAt : Nat := 0
  lldpAt : Nat := 0
  /-- MACsec: transmit association an of sub-port s at key 64s + an, receive association an of channel c at 64s + 4 + 4c + an;
  association in use for transmit by sub-port (R379, R380). -/
  sas : List (Nat × EthSa) := []
  txAn : NatTab := []
  /-- Uncorrectable codewords of a lane: lane and time (R381). -/
  uncorr : List (Nat × Nat) := []
  deriving DecidableEq, Repr

/-- The Ethernet ports, data ports 0 to 3 and management ports 4 and 5. -/
structure EthState where
  ports : List (Nat × EthPort) := []
  deriving DecidableEq, Repr

/-- A TRIG_IN stamp (R284): device time and edge. -/
structure TrigStamp where
  time : Nat
  rising : Bool
  /-- When it arrived, on the block's own clock. -/
  arrived : Nat
  deriving DecidableEq, Repr

/-- A PPS input (R278): its last edge, edges in a row at the right spacing, qualified, offset of its last edge from the
nearest whole second. -/
structure PpsIn where
  last : Option Nat := none
  run : Nat := 0
  qual : Bool := false
  offset : Int := 0
  deriving DecidableEq, Repr

/-- A foreign master a PTP clock has heard (R277): its port identity, its rank (lower is better), its grandmaster, the times of
its last two Announces on the block's own clock and the interval it announces at. -/
structure PtpMaster where
  src : Nat
  rank : List Nat
  gm : Nat
  times : List Nat
  interval : Nat
  deriving DecidableEq, Repr

/-- A PTP clock (R277, R278): measurements within tolerance in a row, Sync intervals spent in SLAVE, measurements outside
4 × LOCK_NS in a row. -/
structure PtpClock where
  run : Nat := 0
  syncs : Nat := 0
  out : Nat := 0
  masters : List PtpMaster := []
  /-- Port identity of the master followed. -/
  parent : Option Nat := none
  /-- A two-step Sync that awaits its Follow_Up: sequence, stamp, correction. -/
  pending : Option (Nat × Nat × Int) := none
  /-- The last complete Sync: time it was sent, corrected, and its stamp. -/
  sync : Option (Int × Nat) := none
  /-- The request last sent: its sequence and stamp; a two-step answer of a peer that awaits its Follow_Up: responder,
  sequence, time of receipt, stamp; who answered the request. -/
  seq : Nat := 0
  asked : Option Nat := none
  answer : Option (Nat × Nat × Int × Nat) := none
  responder : Option Nat := none
  /-- The mean path delay, once measured. -/
  delay : Option Nat := none
  deriving DecidableEq, Repr

/-- The timebase. -/
structure TbsState where
  /-- RATE_ADJ in units of 2^-52 (R273); TBS_STATUS shows it in units of 2^-40. -/
  rate : Int := 0
  /-- Since when a source has been qualified, by source code, on the block's own clock plus 1 (R279). -/
  since : NatTab := []
  /-- TBS_TIME_SUB latched for a master, plus 1 (R274). -/
  latch : NatTab := []
  /-- Stamps by TRIG_IN line, oldest first; the last edge and the last stamped edge by line, plus 1 (R284). -/
  stamps : List (Nat × List TrigStamp) := []
  edges : NatTab := []
  stamped : NatTab := []
  pps : List (Nat × PpsIn) := []
  ptp : List (Nat × PtpClock) := []
  /-- Link whose ZHK_PEER_OFFSET last gave the offset of member 0, plus 1, and when (R268, R278). -/
  zhokLink : Nat := 0
  zhokAt : Nat := 0
  deriving DecidableEq, Repr


/-- States of a Chisel core, in the order of the codes of CHS_STATUS.STATE (R326). -/
inductive ChsSt where
  | stopped | running | waiting | fault | retired
  deriving DecidableEq, Repr

/-- What a waiting core waits on: causes of a WAITW and its destination, or the post queue and the destination of a
WAITM (R321, R322). -/
inductive ChsWait where
  | causes (mask dest : Nat)
  | post (dest : Nat)
  deriving DecidableEq, Repr

/-- An entry of a post queue: tag and time (R322). -/
structure ChsPost where
  tag : Nat
  time : Nat
  deriving DecidableEq, Repr

/-- An entry of a loop stack: first address of the body, last address, times left (R319). -/
structure ChsLoop where
  first : Nat
  last : Nat
  left : Nat
  deriving DecidableEq, Repr

/-- An outfeed descriptor: words 0 to 3 (R324). -/
structure ChsOut where
  w0 : BitVec 48
  w1 : BitVec 48
  w2 : BitVec 48
  w3 : BitVec 48
  deriving DecidableEq, Repr

/-- What the interlocks remember of the last two instructions (R320): data registers the moves of the last loaded, the
accumulator it wrote, whether it wrote LC, and the gauges SETG wrote one and two instructions ago. -/
structure ChsPipe where
  loads : List Nat := []
  acc : Option Nat := none
  lc : Bool := false
  gauge1 : Option Nat := none
  gauge2 : Option Nat := none
  deriving DecidableEq, Repr

/-- A Chisel core (R311 to R327). Chisel-S core n is number n, Chisel-L core n is number 64 + n. -/
structure ChsCore where
  st : ChsSt := .stopped
  d : List (Nat × BitVec 48) := []
  a : List (Nat × BitVec 104) := []
  g : List (Nat × BitVec 48) := []
  lc : BitVec 24 := 0
  pc : Nat := 0
  z : Bool := false
  n : Bool := false
  v : Bool := false
  calls : List Nat := []
  loops : List ChsLoop := []
  prog : WordTab := []
  t : List (Nat × BitVec 48) := []
  b : List (Nat × BitVec 48) := []
  /-- Wake causes pending, a bit each; what the core waits on (R321). -/
  pending : Nat := 0
  wait : Option ChsWait := none
  posts : List ChsPost := []
  outq : List ChsOut := []
  /-- Own clock when the last WAITW or WAITM began, or the core was run (R327). -/
  fed : Nat := 0
  pipe : ChsPipe := {}
  user : Nat := 0
  deriving DecidableEq, Repr

/-- The Chisel cores, and the values of the detector lines they last saw, 1 for on, by 16 × C-die + line (R321). -/
structure ChsState where
  cores : List (Nat × ChsCore) := []
  lines : NatTab := []
  deriving DecidableEq, Repr

/-- A field channel beside its registers (R385 to R391): the target chosen last, when the next cycle begins on the block's
own clock, cycle starts without a setpoint write, whether one was accepted since the last cycle start, updates in a row
that met or did not meet a fault condition, by fault, and the faults declared. -/
structure FldChan where
  target : Int := 0
  nextAt : Nat := 0
  unset : Nat := 0
  written : Bool := false
  seen : NatTab := []
  absent : NatTab := []
  declared : List Nat := []
  deriving DecidableEq, Repr

/-- The field channels; the rails are out of limits, or not yet back for 100 ms (R390). -/
structure FldState where
  chans : List (Nat × FldChan) := []
  rail : Bool := false
  deriving DecidableEq, Repr

/-- A Steward as the Referee follows it (R394, R395, R402): own clock of its last valid beat or its release; its next beat
may carry any value; heartbeat and external condition already reported; since when exactly one of them holds; time of a
release by REINSTATE that no beat has answered. -/
structure StwState where
  beatAt : Nat := 0
  fresh : Bool := true
  late : Bool := false
  low : Bool := false
  differ : Option Nat := none
  released : Option Nat := none
  deriving DecidableEq, Repr

/-- The Referee's view of both Stewards. -/
structure RefState where
  a : StwState := {}
  b : StwState := {}
  deriving DecidableEq, Repr

/-- An owner key slot of the fuses (R413), with the hash it holds. -/
inductive OwnerSlot where
  | empty
  | active (hash : List Byte)
  | revoked (hash : List Byte)
  deriving DecidableEq, Repr

/-- A firmware slot of the flash (R414): empty, the image the vendor placed at manufacture, or an installed image. -/
inductive FwSlot where
  | empty
  | factory
  | image (bytes : List Byte)
  deriving DecidableEq, Repr

/-- The slot selector of the flash (R414, R419): generation, slot named, TRIAL, and whether a start has booted the trial. -/
structure FwSelector where
  gen : Nat := 1
  slot : Nat := 0
  trial : Bool := false
  booted : Bool := false
  deriving DecidableEq, Repr

/-- A debug unlock in force (R430, R431): its scope and its end on the block's own clock. -/
structure DebugUnlock where
  scope : Nat
  ends : Nat
  deriving DecidableEq, Repr

/-- Heartwood: what its fuses and the flash hold, kept by every reset (R413, R414, R443), and what belongs to this boot. -/
structure HwdState where
  /-- Fuses: owner slots and anti-rollback counters. -/
  owners : List OwnerSlot := [.empty, .empty, .empty, .empty]
  fwSvn : Nat := 0
  workSvn : Nat := 0
  /-- Flash: firmware slots and selector. -/
  slot0 : FwSlot := .factory
  slot1 : FwSlot := .empty
  sel : FwSelector := {}
  /-- Running slot, not yet confirmed, SVN of the running firmware; SVN of the last verified work image. -/
  running : Nat := 0
  trial : Bool := false
  runSvn : Nat := 0
  work : Option Nat := none
  /-- The device is in RECOVERY (R418). -/
  recovery : Bool := false
  unlock : Option DebugUnlock := none
  /-- Session keys by slot, 44 bytes each (R427). -/
  sessions : List (Nat × List Byte) := []
  deriving DecidableEq, Repr

/-- An operation of a command (R84): page, offset, opcode, mask, value. -/
structure CmdOp where
  page : Nat
  off : Nat
  op : Nat
  mask : Word
  value : Word
  deriving DecidableEq, Repr

/-- A command in execution on a command path (R86): KIND 1 or session, key, SEQ, its bytes, operations still to do,
status and value of those done, HWD_OP registers it has written. -/
structure CmdRun where
  signed : Bool
  key : Nat
  seq : Nat
  bytes : List Byte
  rest : List CmdOp
  done : List (Nat × Word)
  wrote : List Nat
  deriving DecidableEq, Repr

/-- The command paths: last SEQ accepted in this boot, and the command in execution by management port (R85, R86). -/
structure CmdState where
  lastSeq : Option Nat := none
  runs : List (Nat × CmdRun) := []
  deriving DecidableEq, Repr

/-- Power and closing test (21_power_reset_test.md): own clock when AON_SECONDS was 0; dies above their limit, a bit each;
the valid closing-test records of the flash, newest first; the record a start used, until it has been committed (R446);
own clock when a shutdown began and the domains then powered (R448, R450); training values of the trained stacks,
512 bytes each (R339, R451). -/
structure PwrState where
  aonBase : Nat := 0
  hot : Nat := 0
  area : List (List Byte) := []
  used : Option (List Byte) := none
  shutAt : Nat := 0
  shutOn : Nat := 0
  training : List (Nat × List Byte) := []
  deriving DecidableEq, Repr


/-- Reasons the machine would stop with a fault. No command of this block raises one: every effect the manual gives
ends in a next state (safe: none is ever raised). -/
inductive Fault where
  /-- Raised by no meaning; kept because the interface asks for a type of faults. Safe. -/
  | never
  deriving DecidableEq, Repr

/-- Reasons a command has no meaning. -/
inductive Refusal where
  /-- A command that has no meaning yet; raised only by an arm of the dispatcher. Safe. -/
  | notModelled (mnemonic : String)
  deriving DecidableEq, Repr

/-- The state of the block. Every field defaults to its reset value. -/
structure State where
  /-- Commands waiting, first in, first out. -/
  pending : List Instr := []
  /-- Time since reset in 2^-16 ns, never stepped: what timers count. -/
  mono : Nat := 0
  /-- Device time in 2^-50 ns (R272, R273); what software sees is its value in 2^-16 ns. -/
  devFine : Nat := 0
  /-- Counter behind free values (the model's own field). -/
  free : Nat := 0
  /-- What the device has sent, newest first. -/
  out : List Emission := []
  /-- Value returned by the last read command. -/
  rd : Word := 0
  /-- Status of the last register write: 0 done, 1 claim, 2 lock, 3 fault or gated, 5 refused by the block (R86). -/
  wst : Nat := 0
  /-- Registers by BAR0 byte address; an unlisted one reads as its reset value. -/
  regs : WordTab := []
  /-- Claims granted to masters other than the Stewards (R398). -/
  grants : NatTab := []
  /-- Detectors armed by INJECT (R75). -/
  armed : List Armed := []
  /-- Times of counted events by page, in 2^-16 ns of device time (R76). -/
  retry : List (Nat × List Nat) := []
  /-- Window in force by page, in milliseconds: that of RETRY_CFG at the last counted event (R76). -/
  retryWin : NatTab := []
  /-- Function mask of the MSI-X capability in PCI configuration space (R83, R405). -/
  msixFn : Bool := false
  /-- Route entries by event, exclusive-or their reset word (R405). -/
  routes : WordTab := []
  /-- Pulse counts by event (R405). -/
  evtCounts : NatTab := []
  /-- Event queue of Steward A, oldest first (R407). -/
  evtQA : List EvEntry := []
  /-- Event queue of Steward B, oldest first (R407). -/
  evtQB : List EvEntry := []
  /-- HBM: bytes by HBM address, canonical (R328). -/
  mem : List Host.Cell := []
  /-- Spur lanes and the stream table (04_spur_lanes.md). -/
  spr : SprState := {}
  /-- Roughing engines (05_roughing_chain.md). -/
  rch : RchState := {}
  /-- The retire list (19_stewards_events.md). -/
  rl : RetireState := {}
  /-- Faceplates and turn buffer (06_faceplate.md). -/
  fpl : FplState := {}
  /-- The mark table (12_timebase.md). -/
  mrk : MrkState := {}
  /-- HBM controllers and Turn matrix (15_hbm_turn_matrix.md). -/
  hbm : HbmState := {}
  /-- Rings (16_dma_rings.md). -/
  rng : RngState := {}
  /-- The Ledger (20_heartwood.md). -/
  ldg : LdgState := {}
  /-- Lathes and schedulers (07_lathes.md, 08_cut_lists.md). -/
  sch : SchState := {}
  /-- Tally (10_tally.md). -/
  tly : TlyState := {}
  /-- Beams and detectors (09_gouge_beams.md). -/
  gge : GgeState := {}
  /-- Trigger and flow-control pins (R294, R364). -/
  pins : PinState := {}
  /-- Truing (13_truing_clocks.md). -/
  tru : TruState := {}
  /-- Zhok links (11_gangs.md). -/
  zhk : ZhkState := {}
  /-- DMA channels (16_dma_rings.md). -/
  dma : DmaState := {}
  /-- Ethernet ports (17_ethernet.md). -/
  eth : EthState := {}
  /-- The timebase (12_timebase.md). -/
  tbs : TbsState := {}
  /-- Chisel cores (14_chisel_cores.md). -/
  chs : ChsState := {}
  /-- Field channels (18_field_outputs.md). -/
  field : FldState := {}
  /-- The Referee (19_stewards_events.md). -/
  ref : RefState := {}
  /-- Heartwood (20_heartwood.md). -/
  hwd : HwdState := {}
  /-- The command paths (03_register_pages.md). -/
  cmd : CmdState := {}
  /-- Power and the closing test (21_power_reset_test.md). -/
  pwr : PwrState := {}
  deriving DecidableEq, Repr

/-- The machine right after reset: every register at its reset value, every table empty, no command waiting. -/
def State.reset : State := {}

end Sys2Proof.Machine
end

