-- ==== Sys2Proof/Machine/Flags.lean ====
section
/-! DEFINITION. Fitting exact results to a Chisel core's registers, and its flags (R314 to R316). -/

namespace Sys2Proof.Machine

/-- A result fitted to `w` bits, as two's complement, and whether it did not fit: clamped to ±(2^(w-1) - 1) with `sat`,
wrapped without (R314). -/
def fitTo (w : Nat) (sat : Bool) (x : Int) : Int × Bool :=
  if -(2 ^ (w - 1)) ≤ x ∧ x < 2 ^ (w - 1) then (x, false)
  else (if sat then (if x < 0 then -(2 ^ (w - 1) - 1) else 2 ^ (w - 1) - 1) else x, true)

/-- A fitted real data result (R314). -/
def fitData (sat : Bool) (x : Int) : BitVec 48 × Nat :=
  let r := fitTo 48 sat x
  (BitVec.ofInt 48 r.1, if r.2 then 1 else 0)

/-- The complex data word of two components. -/
def complexWord (re im : BitVec 24) : BitVec 48 := im ++ re

/-- A fitted complex data result and how many of its components did not fit (R314). -/
def fitComplex (sat : Bool) (re im : Int) : BitVec 48 × Nat :=
  let a := fitTo 24 sat re
  let b := fitTo 24 sat im
  (complexWord (BitVec.ofInt 24 a.1) (BitVec.ofInt 24 b.1), (if a.2 then 1 else 0) + (if b.2 then 1 else 0))

/-- A fitted real accumulator (R314). -/
def fitAcc (sat : Bool) (x : Int) : BitVec 104 × Nat :=
  let r := fitTo 104 sat x
  (BitVec.ofInt 104 r.1, if r.2 then 1 else 0)

/-- A fitted complex accumulator and how many of its halves did not fit (R314). -/
def fitAccComplex (sat : Bool) (re im : Int) : BitVec 104 × Nat :=
  let a := fitTo 52 sat re
  let b := fitTo 52 sat im
  (BitVec.ofInt 52 b.1 ++ BitVec.ofInt 52 a.1, (if a.2 then 1 else 0) + (if b.2 then 1 else 0))

/-- Real and imaginary part of a complex data word (R312). -/
def dRe (d : BitVec 48) : Int := (d.extractLsb' 0 24).toInt
def dIm (d : BitVec 48) : Int := (d.extractLsb' 24 24).toInt

/-- Real and imaginary half of an accumulator (R312). -/
def aRe (a : BitVec 104) : Int := (a.extractLsb' 0 52).toInt
def aIm (a : BitVec 104) : Int := (a.extractLsb' 52 52).toInt

/-- Z and N of a real data result (R312, R315). -/
def realFlags (d : BitVec 48) : Bool × Bool := (decide (d = 0), d.msb)

/-- Z and N of a complex data result: N from its real part (R312, R315). -/
def complexFlags (d : BitVec 48) : Bool × Bool := (decide (d = 0), (d.extractLsb' 0 24).msb)

/-- Whether a condition code holds (R315); none for a code that is illegal. -/
def condHolds (z n v : Bool) (cond : Nat) : Option Bool :=
  match cond with
  | 0 => some true
  | 1 => some z
  | 2 => some (!z)
  | 3 => some n
  | 4 => some (!n)
  | 5 => some (!n && !z)
  | 6 => some (n || z)
  | 7 => some v
  | 8 => some (!v)
  | _ => none

end Sys2Proof.Machine
end

