-- ==== Sys2Proof/Config.lean ====
section
/-! DEFINITION. What an implementation fixes and what the manual leaves open: constants without a body, so that no
proof can see their values. -/

namespace Sys2Proof

/-- A value the manual leaves open after an act that goes on: the n-th value the run needs (log entry 3). -/
opaque Config.freeValue : Nat → BitVec 64

/-- Words the fuses of this device hold, by BAR0 address of the register that shows them (R422, R423; log entry 2). -/
opaque Config.fuseWord : Nat → BitVec 64

/-- The first random draw of a boot: AON_SESSION and BOOT_NONCE words at reset, by BAR0 address (R443; log entry 2). -/
opaque Config.drawnAtReset : Nat → BitVec 64

/-- Roughing FIR coefficient `k` of a preset, below the centre tap; the manual fixes the sum alone (R124; log entry 6). -/
opaque Config.firTap : Nat → Nat → BitVec 18

/-- By how much the fixed-point value of R141 differs from the exact formula, as a function of everything it depends on,
the channel and the component; a user bounds it as R141 does (log entry 7). -/
opaque Config.fplError : List Int → Nat → Nat → Int

/-- Byte `k` of the `n`-th ML-DSA-87 signature the device makes; signing may be randomised (R429; log entry 8). -/
opaque Config.signByte : Nat → Nat → BitVec 8

/-- Whether an ML-DSA-87 signature verifies: the public key, or the fuse hash that stands for it, the signed bytes, the
signature (R84, R416, R430; log entry 10). -/
opaque Config.verifies : List (BitVec 8) → List (BitVec 8) → List (BitVec 8) → Bool

/-- Byte `k` of a GCM-AES-256 tag over additional data, by key and IV (R428; log entry 10). -/
opaque Config.gcmTag : List (BitVec 8) → List (BitVec 8) → List (BitVec 8) → Nat → BitVec 8

/-- Byte `k` of the ciphertext, and of the shared secret, of the `n`-th ML-KEM-1024 encapsulation to a key (R426; log
entry 10). -/
opaque Config.kemCipher : List (BitVec 8) → Nat → Nat → BitVec 8
opaque Config.kemSecret : List (BitVec 8) → Nat → Nat → BitVec 8

/-- Byte `k` of VENDOR_KEY_HASH and of ID_KEY_HASH in the fuses (R413; log entry 2). -/
opaque Config.vendorKeyHash : Nat → BitVec 8
opaque Config.idKeyHash : Nat → BitVec 8

/-- Byte `k` of the measurement of the firmware image placed at manufacture, and its SVN (R415; log entry 11). -/
opaque Config.factoryMeas : Nat → BitVec 8
opaque Config.factorySvn : Nat

/-- Byte `k` of the training values of HBM stack `d` at the `n`-th start (R451; log entry 3). -/
opaque Config.trainingByte : Nat → Nat → Nat → BitVec 8

/-- Whether the ordering code is one of the AE codes: Tj up to 105 °C instead of 95 °C (R1; log entry 12). -/
opaque Config.extendedTemp : Bool

/-- VID fuse of a C-die (R460; log entry 2). -/
opaque Config.vid : Nat → Nat

/-- Decides the cause of a NaN that stands for a VOID of a slot whose VOID_CAUSE reads 0 (R48, R234; log entry 84). -/
opaque Config.lostCause : BitVec 7

/-- The lowest and the highest position of tap `k` of a lane's transmit equaliser (0 pre-cursor, 1 main, 2 post-cursor), in
steps from where training finds it. The spec gives no range for COEF_STAT's AT_MIN and AT_MAX (R98; log entry 88). -/
opaque Config.tapMin : Nat → Int
opaque Config.tapMax : Nat → Int

/-- Bytes of one class a Zhok link's receive buffer holds, ordinary or detour, when it counts as full. The spec gives no size
(R252, R257; log entry 90). -/
opaque Config.zhkBuffer : Nat

/-- Header fields of the frames the device sends that neither the spec nor a standard fixes: the identification of an IPv4
datagram and the flow label of an IPv6 one, by what they carry; hop limit and DSCP of replies and PTP messages; the time to
live of an LLDPDU; the wake time the device asks of its partner (log entry 96). -/
opaque Config.ipIdent : List (BitVec 8) → BitVec 16
opaque Config.flowLabel : List (BitVec 8) → BitVec 20
opaque Config.replyTtl : BitVec 8
opaque Config.replyDscp : BitVec 6
opaque Config.lldpTtl : BitVec 16
opaque Config.eeeWake : BitVec 16

/-- Bits 27 to 0 of the JTAG IDCODE: manufacturer and part (R465; log entry 97). -/
opaque Config.idcodePart : BitVec 28

end Sys2Proof
end

