-- ==== Sys2Proof/Machine/RegMap.lean ====
section
/-! DEFINITION. The register map: pages, blocks, registers and fields, as the register tables of the chapters give
them (R63, R67, R69), with access types, reset values and the ranges R472 holds a write to. -/

namespace Sys2Proof.Machine

/-- The blocks of the page index (R67). EVT pages differ by page, so each kind has its own name:
`evt` 0x03D2, `evt1` 0x03D3, `evt2` 0x03D4 and 0x03D5, `evt4` 0x03D6. -/
inductive Block where
  | pkg | die | spr | rch | fpl | lth | sch | tly | gge | hbm | hpc | xbr | dma | rng | eth | zhk
  | tbs | ptp | mrk | tru | chs | chl | fldg | fld | stw | ref | evt | evt1 | evt2 | evt4
  | hwd | ldg | pwr | clt | pci | msix | pba
  deriving DecidableEq, Repr

/-- The access types of 00_scope.md. -/
inductive Access where
  | ro | rw | w1c | w1p | wo | rwg
  deriving DecidableEq, Repr

/-- One field of a register: its place, type, reset value and the values a write may give it (R472). -/
structure FieldDef where
  name : String
  lo : Nat
  width : Nat
  acc : Access
  reset : Nat
  min : Nat
  max : Nat
  deriving DecidableEq, Repr

/-- One register or register array of a page: `count` registers from `off`, `stride` bytes apart. -/
structure RegDef where
  name : String
  off : Nat
  stride : Nat
  count : Nat
  fields : List FieldDef
  deriving DecidableEq, Repr

/-- One row of the page index: first and last page, block, class, die code by instance, events (R67). -/
structure PageRow where
  first : Nat
  last : Nat
  block : Block
  cls : Nat
  dieDiv : Nat
  dieBase : Nat
  events : Nat
  firstEvent : Nat
  deriving DecidableEq, Repr

/-- The page index, first part (R67). -/
def pageRowsA : List PageRow :=
  [⟨0x0000, 0x0000, .pkg, 1, 0, 4, 4, 0⟩,
   ⟨0x0001, 0x0006, .die, 2, 1, 0, 1, 4⟩,
   ⟨0x0010, 0x004F, .spr, 3, 16, 0, 2, 10⟩,
   ⟨0x0050, 0x008F, .rch, 4, 16, 0, 1, 138⟩,
   ⟨0x0090, 0x009F, .fpl, 5, 4, 0, 2, 202⟩,
   ⟨0x0100, 0x020F, .lth, 6, 68, 0, 1, 234⟩,
   ⟨0x0220, 0x0223, .sch, 7, 1, 0, 4, 506⟩,
   ⟨0x0224, 0x0227, .tly, 8, 1, 0, 4, 522⟩,
   ⟨0x0228, 0x022B, .gge, 9, 1, 0, 16, 538⟩,
   ⟨0x0230, 0x0233, .hbm, 0x0A, 1, 0, 4, 602⟩,
   ⟨0x0240, 0x02BF, .hpc, 0x0B, 32, 0, 1, 618⟩,
   ⟨0x02C0, 0x02C0, .xbr, 0x0C, 0, 4, 4, 746⟩,
   ⟨0x02C8, 0x02CF, .dma, 0x0D, 0, 4, 8, 750⟩,
   ⟨0x0300, 0x0300, .rng, 0x0E, 0, 4, 4, 814⟩,
   ⟨0x0310, 0x0315, .eth, 0x0F, 0, 4, 2, 818⟩,
   ⟨0x0320, 0x0323, .zhk, 0x10, 0, 4, 4, 830⟩,
   ⟨0x0330, 0x0330, .tbs, 0x11, 0, 4, 8, 846⟩,
   ⟨0x0331, 0x0332, .ptp, 0x12, 0, 4, 4, 854⟩,
   ⟨0x0333, 0x0333, .mrk, 0x13, 0, 4, 16, 862⟩]

/-- The page index, second part (R67). -/
def pageRowsB : List PageRow :=
  [⟨0x0340, 0x0340, .tru, 0x14, 0, 5, 8, 878⟩,
   ⟨0x0350, 0x038F, .chs, 0x15, 16, 0, 1, 886⟩,
   ⟨0x0394, 0x0397, .chl, 0x16, 0, 4, 2, 950⟩,
   ⟨0x03A0, 0x03A0, .fldg, 0x17, 0, 5, 2, 958⟩,
   ⟨0x03A1, 0x03C0, .fld, 0x17, 0, 5, 1, 960⟩,
   ⟨0x03D0, 0x03D0, .stw, 0x18, 0, 4, 4, 992⟩,
   ⟨0x03D1, 0x03D1, .ref, 0x19, 0, 5, 4, 996⟩,
   ⟨0x03D2, 0x03D2, .evt, 0x1A, 0, 4, 2, 1000⟩,
   ⟨0x03D3, 0x03D3, .evt1, 0x1A, 0, 4, 0, 0⟩,
   ⟨0x03D4, 0x03D5, .evt2, 0x1A, 0, 4, 0, 0⟩,
   ⟨0x03D6, 0x03D6, .evt4, 0x1A, 0, 4, 0, 0⟩,
   ⟨0x03E0, 0x03E0, .hwd, 0x1B, 0, 4, 4, 1002⟩,
   ⟨0x03E1, 0x03E1, .ldg, 0x1C, 0, 4, 4, 1006⟩,
   ⟨0x03F0, 0x03F0, .pwr, 0x1D, 0, 5, 8, 1010⟩,
   ⟨0x03F1, 0x03F1, .clt, 0x1E, 0, 4, 2, 1018⟩,
   ⟨0x03F2, 0x03F2, .pci, 0x1F, 0, 4, 4, 1020⟩,
   ⟨0x0400, 0x0407, .msix, 0, 0, 4, 0, 0⟩,
   ⟨0x0408, 0x0408, .pba, 0, 0, 4, 0, 0⟩]

/-- The page index of R67. -/
def pageRows : List PageRow := pageRowsA ++ pageRowsB

/-- The row of the page index a page falls in; `none` for an unassigned page. -/
def pageRow (p : Nat) : Option PageRow := pageRows.find? (fun r => decide (r.first ≤ p ∧ p ≤ r.last))

/-- The block of a page. -/
def pageBlock (p : Nat) : Option Block := (pageRow p).map (·.block)

/-- The instance number of a page (R67); in the EVT pages it counts from 0x03D2. -/
def pageInstance (p : Nat) : Nat :=
  match pageRow p with
  | some r => if r.cls = 0x1A then p - 0x3D2 else p - r.first
  | none => 0

/-- The die code of a page (R67). -/
def pageDie (p : Nat) : Nat :=
  match pageRow p with
  | some r => if r.dieDiv = 0 then r.dieBase else (p - r.first) / r.dieDiv
  | none => 0

/-- Event sources of a page (R67). -/
def pageEvents (p : Nat) : Nat := ((pageRow p).map (·.events)).getD 0

/-- First event number of a page (R67). -/
def pageFirstEvent (p : Nat) : Nat :=
  match pageRow p with
  | some r => if r.events = 0 then 0 else r.firstEvent + (p - r.first) * r.events
  | none => 0

/-- The common header of every assigned page (R69). -/
def headerRegs : List RegDef :=
  [⟨"PAGE_ID", 0x0, 8, 1, [⟨"CLASS", 0, 16, .ro, 0, 0, 65535⟩,
      ⟨"INSTANCE", 16, 16, .ro, 0, 0, 65535⟩,
      ⟨"LAYOUT", 32, 8, .ro, 1, 0, 255⟩,
      ⟨"DIE", 40, 3, .ro, 0, 0, 7⟩]⟩,
   ⟨"PAGE_CTRL", 0x8, 8, 1, [⟨"ENABLE", 0, 1, .rw, 0, 0, 1⟩,
      ⟨"SOFT_RESET", 1, 1, .w1p, 0, 0, 1⟩,
      ⟨"DEBUG", 2, 1, .rw, 0, 0, 1⟩]⟩,
   ⟨"PAGE_STATUS", 0x10, 8, 1, [⟨"READY", 0, 1, .ro, 0, 0, 1⟩,
      ⟨"RETIRED", 1, 1, .ro, 0, 0, 1⟩,
      ⟨"GATED", 2, 1, .ro, 0, 0, 1⟩,
      ⟨"LOCKED", 3, 1, .ro, 0, 0, 1⟩,
      ⟨"BLOCK", 16, 48, .ro, 0, 0, 281474976710655⟩]⟩,
   ⟨"STICKY", 0x18, 8, 1, [⟨"CFG_REFUSED", 0, 1, .w1c, 0, 0, 1⟩,
      ⟨"LOCK_REFUSED", 1, 1, .w1c, 0, 0, 1⟩,
      ⟨"CLAIM_REFUSED", 2, 1, .w1c, 0, 0, 1⟩,
      ⟨"CLAIM_TIE", 3, 1, .w1c, 0, 0, 1⟩,
      ⟨"PERMANENT", 4, 1, .w1c, 0, 0, 1⟩,
      ⟨"BLOCK", 5, 59, .w1c, 0, 0, 576460752303423487⟩]⟩,
   ⟨"STICKY_EVT_EN", 0x20, 8, 1, [⟨"EN", 0, 64, .rw, 0, 0, 18446744073709551615⟩]⟩,
   ⟨"INJECT", 0x28, 8, 1, [⟨"FIRE", 0, 64, .w1p, 0, 0, 18446744073709551615⟩]⟩,
   ⟨"INJECT_MODE", 0x30, 8, 1, [⟨"MODE", 0, 2, .rw, 0, 0, 2⟩,
      ⟨"DISARM", 2, 1, .w1p, 0, 0, 1⟩,
      ⟨"COUNT", 16, 16, .rw, 0, 0, 65535⟩]⟩,
   ⟨"EVENT_BASE", 0x38, 8, 1, [⟨"BASE", 0, 10, .ro, 0, 0, 1023⟩,
      ⟨"COUNT", 16, 5, .ro, 0, 0, 31⟩]⟩,
   ⟨"RETRY_CFG", 0x40, 8, 1, [⟨"WINDOW", 0, 32, .rw, 0, 0, 4294967295⟩,
      ⟨"THRESHOLD", 32, 16, .rw, 0, 0, 65535⟩]⟩,
   ⟨"RETRY_COUNT", 0x48, 8, 1, [⟨"IN_WINDOW", 0, 16, .ro, 0, 0, 65535⟩,
      ⟨"TOTAL", 16, 32, .ro, 0, 0, 4294967295⟩,
      ⟨"CLEAR", 63, 1, .w1p, 0, 0, 1⟩]⟩,
   ⟨"CLAIM", 0x50, 8, 1, [⟨"LATCHED", 0, 16, .ro, 0, 0, 65535⟩,
      ⟨"GUARDED", 16, 1, .ro, 0, 0, 1⟩]⟩,
   ⟨"WRITE_LOCK", 0x58, 8, 1, [⟨"LOCKED", 0, 1, .ro, 0, 0, 1⟩,
      ⟨"STEWARD_EXEMPT", 1, 1, .ro, 0, 0, 1⟩]⟩]

/-- Registers of the PCI pages. -/
def pciRegs : List RegDef :=
  [⟨"PCI_BAR2_BASE", 0x100, 8, 1, [⟨"BASE", 0, 40, .rw, 0, 0, 1099511627775⟩]⟩,
   ⟨"PCI_LINK", 0x108, 8, 1, [⟨"SPEED", 0, 4, .ro, 0, 0, 15⟩,
      ⟨"WIDTH", 4, 5, .ro, 0, 0, 31⟩,
      ⟨"L0", 9, 1, .ro, 0, 0, 1⟩]⟩,
   ⟨"PCI_CNT", 0x180, 8, 4, [⟨"VALUE", 0, 64, .ro, 0, 0, 18446744073709551615⟩]⟩,
   ⟨"PCI_CNT_CLEAR", 0x1A0, 8, 1, [⟨"CLEAR", 0, 1, .w1p, 0, 0, 1⟩]⟩]

/-- Registers of the SPR pages, part 1. -/
def sprRegsA : List RegDef :=
  [⟨"SPR_CFG", 0x100, 8, 1, [⟨"MAX_RATE", 0, 2, .rw, 2, 0, 2⟩,
      ⟨"BUNDLE", 2, 1, .rw, 0, 0, 1⟩,
      ⟨"ID_CHECK", 3, 1, .rw, 0, 0, 1⟩,
      ⟨"POL_FORCE_EN", 4, 1, .rw, 0, 0, 1⟩,
      ⟨"POL_INVERT", 5, 1, .rw, 0, 0, 1⟩,
      ⟨"UNCORR_LIMIT", 16, 8, .rw, 16, 0, 255⟩]⟩,
   ⟨"SPR_EXPECT_ID", 0x108, 8, 1, [⟨"EXPECT_ID", 0, 32, .rw, 0, 0, 4294967295⟩]⟩,
   ⟨"SPR_LINK_STATUS", 0x110, 8, 1, [⟨"STATE", 0, 4, .ro, 0, 0, 15⟩,
      ⟨"RATE", 4, 2, .ro, 0, 0, 3⟩,
      ⟨"RATE_CAP", 6, 2, .ro, 2, 0, 3⟩,
      ⟨"POL_INVERTED", 8, 1, .ro, 0, 0, 1⟩,
      ⟨"LOGICAL_LANE", 9, 2, .ro, 0, 0, 3⟩,
      ⟨"PEER_RATES", 11, 3, .ro, 0, 0, 7⟩,
      ⟨"FSEQ_SKEW", 16, 8, .ro, 0, 0, 255⟩,
      ⟨"PEER_ID", 32, 32, .ro, 0, 0, 4294967295⟩]⟩,
   ⟨"SPR_BUNDLE", 0x118, 8, 1, [⟨"LIVE", 0, 4, .ro, 0, 0, 15⟩,
      ⟨"DEGRADED", 4, 1, .ro, 0, 0, 1⟩,
      ⟨"DOWN", 5, 1, .ro, 0, 0, 1⟩]⟩,
   ⟨"SPR_SYNC_INDEX", 0x120, 8, 1, [⟨"INDEX", 0, 64, .rw, 0, 0, 18446744073709551615⟩]⟩,
   ⟨"SPR_SYNC_CMD", 0x128, 8, 1, [⟨"TRIG", 0, 4, .rw, 0, 0, 15⟩,
      ⟨"TYPE", 8, 8, .rw, 0, 0, 255⟩,
      ⟨"SEND", 16, 1, .w1p, 0, 0, 1⟩,
      ⟨"PENDING", 17, 1, .ro, 0, 0, 1⟩,
      ⟨"ACK_STATUS", 18, 1, .ro, 0, 0, 1⟩,
      ⟨"LAST_SEQ", 24, 8, .ro, 0, 0, 255⟩,
      ⟨"PEER_STATUS", 32, 32, .ro, 0, 0, 4294967295⟩]⟩]

/-- Registers of the SPR pages, part 2. -/
def sprRegsB : List RegDef :=
  [⟨"SPR_ST_ADDR", 0x130, 8, 1, [⟨"ENTRY", 0, 18, .rw, 0, 0, 262143⟩]⟩,
   ⟨"SPR_ST_CTRL", 0x138, 8, 1, [⟨"READ", 0, 1, .w1p, 0, 0, 1⟩,
      ⟨"WRITE", 1, 1, .w1p, 0, 0, 1⟩,
      ⟨"BUSY", 2, 1, .ro, 0, 0, 1⟩,
      ⟨"RESULT", 8, 4, .ro, 0, 0, 15⟩]⟩,
   ⟨"SPR_ST_DATA", 0x140, 8, 4, [⟨"WORD", 0, 64, .rw, 0, 0, 18446744073709551615⟩]⟩,
   ⟨"SPR_ST_DATA", 0x160, 8, 2, [⟨"WORD", 0, 64, .ro, 0, 0, 18446744073709551615⟩]⟩,
   ⟨"SPR_CNT", 0x180, 8, 11, [⟨"VALUE", 0, 64, .ro, 0, 0, 18446744073709551615⟩]⟩,
   ⟨"SPR_CNT_CLEAR", 0x1D8, 8, 1, [⟨"CLEAR", 0, 1, .w1p, 0, 0, 1⟩]⟩]

/-- Registers of the RCH pages. RCH_COEF_ADDR takes every value of its fields: it lists presets 1 to 4 and taps 0 to 80, and
RCH_COEF_DATA reads 0 at the others, so the model refuses none by R472 (DEDUCED, log entry 89). -/
def rchRegs : List RegDef :=
  [⟨"RCH_CTRL", 0x100, 8, 1, [⟨"SYNC_NOW", 0, 1, .w1p, 0, 0, 1⟩]⟩,
   ⟨"RCH_STATUS", 0x108, 8, 1, [⟨"STREAMS", 0, 13, .ro, 0, 0, 8191⟩,
      ⟨"LOAD", 16, 14, .ro, 0, 0, 16383⟩,
      ⟨"QUEUE", 32, 9, .ro, 0, 0, 511⟩,
      ⟨"QUEUE_MAX", 48, 9, .ro, 0, 0, 511⟩]⟩,
   ⟨"RCH_COEF_ADDR", 0x110, 8, 1, [⟨"PRESET", 0, 3, .rw, 1, 0, 7⟩,
      ⟨"TAP", 8, 7, .rw, 0, 0, 127⟩]⟩,
   ⟨"RCH_COEF_DATA", 0x118, 8, 1, [⟨"COEF", 0, 18, .ro, 0, 0, 262143⟩,
      ⟨"TAPS", 24, 7, .ro, 0, 0, 127⟩]⟩,
   ⟨"RCH_CNT", 0x180, 8, 6, [⟨"VALUE", 0, 64, .ro, 0, 0, 18446744073709551615⟩]⟩,
   ⟨"RCH_CNT_CLEAR", 0x1B0, 8, 1, [⟨"CLEAR", 0, 1, .w1p, 0, 0, 1⟩]⟩]

/-- Registers of the FPL pages, part 1. -/
def fplRegsA : List RegDef :=
  [⟨"FPL_CFG", 0x100, 8, 1, [⟨"LOG2N", 0, 5, .rw, 10, 6, 16⟩,
      ⟨"TAPS", 5, 2, .rw, 1, 0, 3⟩,
      ⟨"FORMAT", 7, 2, .rw, 1, 0, 2⟩,
      ⟨"UNSETTLED_ZAP", 9, 1, .rw, 1, 0, 1⟩,
      ⟨"SHIFT", 16, 5, .rw, 0, 0, 31⟩]⟩,
   ⟨"FPL_STATUS", 0x108, 8, 1, [⟨"COEF_ACTIVE", 0, 1, .ro, 0, 0, 1⟩,
      ⟨"FADING", 1, 1, .ro, 0, 0, 1⟩,
      ⟨"QUEUED", 2, 1, .ro, 0, 0, 1⟩,
      ⟨"GAIN_ACTIVE", 3, 1, .ro, 0, 0, 1⟩,
      ⟨"STREAMS", 16, 15, .ro, 0, 0, 32767⟩,
      ⟨"LOAD", 32, 16, .ro, 0, 0, 65535⟩]⟩,
   ⟨"FPL_SWAP", 0x110, 8, 1, [⟨"FADE", 0, 13, .rw, 1, 1, 4096⟩,
      ⟨"ALIGN_BATCH", 13, 1, .rw, 0, 0, 1⟩,
      ⟨"REQUEST", 14, 1, .w1p, 0, 0, 1⟩,
      ⟨"GAIN_SWAP", 15, 1, .w1p, 0, 0, 1⟩]⟩,
   ⟨"FPL_COEF_ADDR", 0x118, 8, 1, [⟨"INDEX", 0, 20, .rw, 0, 0, 1048575⟩,
      ⟨"BANK", 20, 1, .rw, 0, 0, 1⟩,
      ⟨"AUTO_INC", 21, 1, .rw, 0, 0, 1⟩]⟩,
   ⟨"FPL_COEF_DATA", 0x120, 8, 1, [⟨"COEF", 0, 18, .rw, 0, 0, 262143⟩]⟩,
   ⟨"FPL_GAIN_ADDR", 0x128, 8, 1, [⟨"INDEX", 0, 18, .rw, 0, 0, 262143⟩,
      ⟨"BANK", 18, 1, .rw, 0, 0, 1⟩,
      ⟨"AUTO_INC", 19, 1, .rw, 0, 0, 1⟩]⟩]

/-- Registers of the FPL pages, part 2. -/
def fplRegsB : List RegDef :=
  [⟨"FPL_GAIN_DATA", 0x130, 8, 1, [⟨"RE", 0, 24, .rw, 0, 0, 16777215⟩,
      ⟨"IM", 24, 24, .rw, 0, 0, 16777215⟩]⟩,
   ⟨"FPL_MAP_ADDR", 0x138, 8, 1, [⟨"ENTRY", 0, 14, .rw, 0, 0, 16383⟩]⟩,
   ⟨"FPL_MAP_CTRL", 0x140, 8, 1, [⟨"READ", 0, 1, .w1p, 0, 0, 1⟩,
      ⟨"WRITE", 1, 1, .w1p, 0, 0, 1⟩,
      ⟨"BUSY", 2, 1, .ro, 0, 0, 1⟩,
      ⟨"RESULT", 8, 4, .ro, 0, 0, 15⟩]⟩,
   ⟨"FPL_MAP_DATA", 0x148, 8, 4, [⟨"WORD", 0, 64, .rw, 0, 0, 18446744073709551615⟩]⟩,
   ⟨"FPL_MAP_DATA", 0x168, 8, 2, [⟨"WORD", 0, 64, .ro, 0, 0, 18446744073709551615⟩]⟩,
   ⟨"FPL_MODEL_CTRL", 0x178, 8, 1, [⟨"LOAD_NOW", 0, 1, .w1p, 0, 0, 1⟩]⟩]

/-- Registers of the FPL pages, part 3. -/
def fplRegsC : List RegDef :=
  [⟨"FPL_REGION_ADDR", 0x180, 8, 1, [⟨"REGION", 0, 4, .rw, 0, 0, 15⟩]⟩,
   ⟨"FPL_REGION_CTRL", 0x188, 8, 1, [⟨"READ", 0, 1, .w1p, 0, 0, 1⟩,
      ⟨"WRITE", 1, 1, .w1p, 0, 0, 1⟩,
      ⟨"BUSY", 2, 1, .ro, 0, 0, 1⟩,
      ⟨"RESULT", 8, 4, .ro, 0, 0, 15⟩]⟩,
   ⟨"FPL_REGION_DATA", 0x190, 8, 2, [⟨"WORD", 0, 64, .rw, 0, 0, 18446744073709551615⟩]⟩,
   ⟨"FPL_REGION_DATA", 0x1A0, 8, 2, [⟨"WORD", 0, 64, .ro, 0, 0, 18446744073709551615⟩]⟩,
   ⟨"FPL_CNT", 0x1C0, 8, 9, [⟨"VALUE", 0, 64, .ro, 0, 0, 18446744073709551615⟩]⟩,
   ⟨"FPL_CNT_CLEAR", 0x208, 8, 1, [⟨"CLEAR", 0, 1, .w1p, 0, 0, 1⟩]⟩]

/-- Registers of the LTH pages, part 1. -/
def lthRegsA : List RegDef :=
  [⟨"LTH_STATUS", 0x100, 8, 1, [⟨"STATE", 0, 3, .ro, 5, 0, 7⟩,
      ⟨"SPARE", 3, 1, .ro, 0, 0, 1⟩,
      ⟨"REPLAYING", 4, 1, .ro, 0, 0, 1⟩,
      ⟨"CARRIES", 16, 9, .ro, 511, 0, 511⟩,
      ⟨"STRETCH", 32, 16, .ro, 0, 0, 65535⟩]⟩,
   ⟨"LTH_JOB", 0x108, 8, 1, [⟨"ROW_BLOCK", 0, 13, .ro, 0, 0, 8191⟩,
      ⟨"COL_BLOCK", 16, 13, .ro, 0, 0, 8191⟩,
      ⟨"CHANNEL", 32, 16, .ro, 0, 0, 65535⟩,
      ⟨"KIND", 48, 2, .ro, 0, 0, 3⟩,
      ⟨"FORMAT", 50, 2, .ro, 0, 0, 3⟩,
      ⟨"BATCH_LO", 52, 12, .ro, 0, 0, 4095⟩]⟩,
   ⟨"LTH_WIT_FAIL", 0x110, 8, 1, [⟨"CAUSE", 0, 2, .ro, 0, 0, 3⟩,
      ⟨"EQ_KIND", 2, 2, .ro, 0, 0, 3⟩,
      ⟨"EQ_INDEX", 4, 5, .ro, 0, 0, 31⟩,
      ⟨"EQ_IM", 9, 1, .ro, 0, 0, 1⟩,
      ⟨"FAILED_EQS", 16, 8, .ro, 0, 0, 255⟩]⟩,
   ⟨"LTH_WIT_MASK", 0x118, 8, 1, [⟨"ROWS", 0, 32, .ro, 0, 0, 4294967295⟩,
      ⟨"COLS", 32, 32, .ro, 0, 0, 4294967295⟩]⟩,
   ⟨"LTH_WIT_DIFF", 0x120, 8, 1, [⟨"DIFF", 0, 64, .ro, 0, 0, 18446744073709551615⟩]⟩,
   ⟨"LTH_WIT_JOB", 0x128, 8, 1, [⟨"JOB", 0, 64, .ro, 0, 0, 18446744073709551615⟩]⟩]

/-- Registers of the LTH pages, part 2. -/
def lthRegsB : List RegDef :=
  [⟨"LTH_INJ_CELL", 0x130, 8, 1, [⟨"ROW", 0, 6, .rw, 0, 0, 32⟩,
      ⟨"COL", 8, 6, .rw, 0, 0, 32⟩,
      ⟨"IM", 16, 1, .rw, 0, 0, 1⟩]⟩,
   ⟨"LTH_SNAP_CTRL", 0x138, 8, 1, [⟨"SNAPSHOT", 0, 1, .w1p, 0, 0, 1⟩,
      ⟨"RESUME", 1, 1, .w1p, 0, 0, 1⟩,
      ⟨"HALTED", 2, 1, .ro, 0, 0, 1⟩]⟩,
   ⟨"LTH_ACC_ADDR", 0x140, 8, 1, [⟨"ROW", 0, 6, .rw, 0, 0, 32⟩,
      ⟨"COL", 8, 6, .rw, 0, 0, 32⟩,
      ⟨"SET", 16, 1, .rw, 0, 0, 1⟩]⟩,
   ⟨"LTH_ACC_RE", 0x148, 8, 1, [⟨"VALUE", 0, 48, .ro, 0, 0, 281474976710655⟩]⟩,
   ⟨"LTH_ACC_IM", 0x150, 8, 1, [⟨"VALUE", 0, 48, .ro, 0, 0, 281474976710655⟩]⟩,
   ⟨"LTH_SNAP_INFO", 0x158, 8, 1, [⟨"SAMPLES", 0, 21, .ro, 0, 0, 2097151⟩,
      ⟨"TOKEN_PASSED", 24, 1, .ro, 0, 0, 1⟩]⟩]

/-- Registers of the LTH pages, part 3. -/
def lthRegsC : List RegDef :=
  [⟨"LTH_CNT", 0x180, 8, 8, [⟨"VALUE", 0, 64, .ro, 0, 0, 18446744073709551615⟩]⟩,
   ⟨"LTH_CNT_CLEAR", 0x1C0, 8, 1, [⟨"CLEAR", 0, 1, .w1p, 0, 0, 1⟩]⟩]

/-- Registers of the SCH pages, part 1. -/
def schRegsA : List RegDef :=
  [⟨"SCH_PLAN_ADDR", 0x100, 8, 1, [⟨"REGION", 0, 4, .rw, 0, 0, 15⟩]⟩,
   ⟨"SCH_PLAN_CTRL", 0x108, 8, 1, [⟨"READ", 0, 1, .w1p, 0, 0, 1⟩,
      ⟨"WRITE", 1, 1, .w1p, 0, 0, 1⟩,
      ⟨"BUSY", 2, 1, .ro, 0, 0, 1⟩,
      ⟨"RESULT", 8, 4, .ro, 0, 0, 15⟩]⟩,
   ⟨"SCH_PLAN_DATA", 0x110, 8, 6, [⟨"WORD", 0, 64, .rw, 0, 0, 18446744073709551615⟩]⟩,
   ⟨"SCH_PLAN_DATA", 0x140, 8, 2, [⟨"WORD", 0, 64, .ro, 0, 0, 18446744073709551615⟩]⟩,
   ⟨"SCH_STATUS", 0x150, 8, 1, [⟨"PLANS", 0, 16, .ro, 0, 0, 65535⟩,
      ⟨"SPARES_FREE", 16, 3, .ro, 4, 0, 7⟩,
      ⟨"SEATS_BARE", 24, 7, .ro, 0, 0, 127⟩,
      ⟨"READY_QUEUE", 32, 16, .ro, 0, 0, 65535⟩]⟩,
   ⟨"SCH_LOAD", 0x158, 8, 1, [⟨"SEAT_OCC_MAX", 0, 16, .ro, 0, 0, 65535⟩,
      ⟨"DUMP_RATE", 16, 16, .ro, 0, 0, 65535⟩,
      ⟨"HBM_MBPS", 32, 32, .ro, 0, 0, 4294967295⟩]⟩]

/-- Registers of the SCH pages, part 2. -/
def schRegsB : List RegDef :=
  [⟨"SCH_CNT", 0x180, 8, 8, [⟨"VALUE", 0, 64, .ro, 0, 0, 18446744073709551615⟩]⟩,
   ⟨"SCH_CNT_CLEAR", 0x1C0, 8, 1, [⟨"CLEAR", 0, 1, .w1p, 0, 0, 1⟩]⟩,
   ⟨"SCH_SEAT", 0x200, 8, 64, [⟨"LATHE", 0, 9, .ro, 0, 0, 511⟩,
      ⟨"PENDING", 9, 9, .ro, 511, 0, 511⟩,
      ⟨"MOVED", 32, 16, .ro, 0, 0, 65535⟩]⟩]

/-- Registers of the GGE pages, part 1. -/
def ggeRegsA : List RegDef :=
  [⟨"GGE_WSET_ADDR", 0x100, 8, 1, [⟨"WSET", 0, 4, .rw, 0, 0, 15⟩]⟩,
   ⟨"GGE_WSET_CTRL", 0x108, 8, 1, [⟨"READ", 0, 1, .w1p, 0, 0, 1⟩,
      ⟨"WRITE", 1, 1, .w1p, 0, 0, 1⟩,
      ⟨"SWAP", 2, 1, .w1p, 0, 0, 1⟩,
      ⟨"SWAP_PENDING", 3, 1, .ro, 0, 0, 1⟩]⟩,
   ⟨"GGE_WSET_DATA", 0x110, 8, 3, [⟨"WORD", 0, 64, .rw, 0, 0, 18446744073709551615⟩]⟩,
   ⟨"GGE_WSET_DATA", 0x128, 8, 1, [⟨"WORD", 0, 64, .ro, 0, 0, 18446744073709551615⟩]⟩,
   ⟨"GGE_RINGS", 0x130, 8, 1, [⟨"VOLT_RING", 0, 18, .rw, 0, 0, 262143⟩,
      ⟨"POWER_RING", 18, 18, .rw, 0, 0, 262143⟩,
      ⟨"DET_RING", 36, 18, .rw, 0, 0, 262143⟩]⟩,
   ⟨"GGE_DET_ADDR", 0x138, 8, 1, [⟨"DET", 0, 4, .rw, 0, 0, 15⟩]⟩]

/-- Registers of the GGE pages, part 2. -/
def ggeRegsB : List RegDef :=
  [⟨"GGE_DET_CTRL", 0x140, 8, 1, [⟨"READ", 0, 1, .w1p, 0, 0, 1⟩,
      ⟨"WRITE", 1, 1, .w1p, 0, 0, 1⟩]⟩,
   ⟨"GGE_DET_DATA", 0x148, 8, 4, [⟨"WORD", 0, 64, .rw, 0, 0, 18446744073709551615⟩]⟩,
   ⟨"GGE_CNT", 0x180, 8, 8, [⟨"VALUE", 0, 64, .ro, 0, 0, 18446744073709551615⟩]⟩,
   ⟨"GGE_CNT_CLEAR", 0x1C0, 8, 1, [⟨"CLEAR", 0, 1, .w1p, 0, 0, 1⟩]⟩,
   ⟨"GGE_DET_STATUS", 0x200, 8, 16, [⟨"STATE", 0, 2, .ro, 0, 0, 3⟩,
      ⟨"ACK", 2, 1, .w1p, 0, 0, 1⟩,
      ⟨"LAST_SUM", 16, 48, .ro, 0, 0, 281474976710655⟩]⟩,
   ⟨"GGE_LINE", 0x280, 8, 16, [⟨"SRC0", 0, 6, .rwg, 0, 0, 63⟩,
      ⟨"SRC0_EN", 6, 1, .rwg, 0, 0, 1⟩,
      ⟨"SRC1", 8, 6, .rwg, 0, 0, 63⟩,
      ⟨"SRC1_EN", 14, 1, .rwg, 0, 0, 1⟩,
      ⟨"SRC2", 16, 6, .rwg, 0, 0, 63⟩,
      ⟨"SRC2_EN", 22, 1, .rwg, 0, 0, 1⟩,
      ⟨"SRC3", 24, 6, .rwg, 0, 0, 63⟩,
      ⟨"SRC3_EN", 30, 1, .rwg, 0, 0, 1⟩,
      ⟨"MODE", 32, 2, .rwg, 0, 0, 2⟩,
      ⟨"TARGET_KIND", 34, 2, .rwg, 0, 0, 3⟩,
      ⟨"TARGET", 36, 5, .rwg, 0, 0, 31⟩,
      ⟨"INVERT", 41, 1, .rwg, 0, 0, 1⟩,
      ⟨"VALUE", 42, 1, .ro, 0, 0, 1⟩,
      ⟨"SUSPENDED", 43, 1, .ro, 0, 0, 1⟩,
      ⟨"CLAIM_REC", 48, 16, .ro, 0, 0, 65535⟩]⟩]

/-- Registers of the TLY pages, part 1. -/
def tlyRegsA : List RegDef :=
  [⟨"TLY_CTX_ADDR", 0x100, 8, 1, [⟨"CTX", 0, 4, .rw, 0, 0, 15⟩]⟩,
   ⟨"TLY_CTX_CTRL", 0x108, 8, 1, [⟨"READ", 0, 1, .w1p, 0, 0, 1⟩,
      ⟨"WRITE", 1, 1, .w1p, 0, 0, 1⟩,
      ⟨"BUSY", 2, 1, .ro, 0, 0, 1⟩,
      ⟨"START", 3, 1, .w1p, 0, 0, 1⟩,
      ⟨"STOP", 4, 1, .w1p, 0, 0, 1⟩,
      ⟨"RESULT", 8, 4, .ro, 0, 0, 15⟩]⟩,
   ⟨"TLY_CTX_DATA", 0x110, 8, 7, [⟨"WORD", 0, 64, .rw, 0, 0, 18446744073709551615⟩]⟩,
   ⟨"TLY_CTX_DATA", 0x148, 8, 1, [⟨"WORD", 0, 64, .ro, 0, 0, 18446744073709551615⟩]⟩,
   ⟨"TLY_STATUS", 0x150, 8, 1, [⟨"REORDER", 0, 9, .ro, 0, 0, 511⟩,
      ⟨"VALID_CTX", 16, 16, .ro, 0, 0, 65535⟩,
      ⟨"RUNNING", 32, 16, .ro, 0, 0, 65535⟩]⟩,
   ⟨"TLY_CTX_STATUS", 0x180, 8, 16, [⟨"STATE", 0, 3, .ro, 0, 0, 7⟩,
      ⟨"BUFFER", 3, 1, .ro, 0, 0, 1⟩,
      ⟨"EMITTING", 4, 1, .ro, 0, 0, 1⟩,
      ⟨"SKIPS", 16, 16, .ro, 0, 0, 65535⟩,
      ⟨"INT_LO", 32, 32, .ro, 0, 0, 4294967295⟩]⟩]

/-- Registers of the TLY pages, part 2. -/
def tlyRegsB : List RegDef :=
  [⟨"TLY_CNT", 0x200, 8, 11, [⟨"VALUE", 0, 64, .ro, 0, 0, 18446744073709551615⟩]⟩,
   ⟨"TLY_CNT_CLEAR", 0x258, 8, 1, [⟨"CLEAR", 0, 1, .w1p, 0, 0, 1⟩]⟩]

/-- Registers of the ZHK pages, part 1. -/
def zhkRegsA : List RegDef :=
  [⟨"ZHK_CFG", 0x100, 8, 1, [⟨"STEP_EN", 0, 1, .rw, 1, 0, 1⟩,
      ⟨"DOWN_THRESH", 8, 8, .rw, 64, 0, 255⟩,
      ⟨"UP_THRESH", 16, 8, .rw, 96, 0, 255⟩,
      ⟨"DOWN_HOLD_MS", 24, 16, .rw, 100, 0, 65535⟩]⟩,
   ⟨"ZHK_STATUS", 0x108, 8, 1, [⟨"STATE", 0, 3, .ro, 0, 0, 7⟩,
      ⟨"LANES", 3, 4, .ro, 0, 0, 15⟩,
      ⟨"PEER_MEMBER", 7, 3, .ro, 0, 0, 7⟩,
      ⟨"ROLE", 10, 2, .ro, 0, 0, 3⟩,
      ⟨"RETIRED_LANES", 16, 8, .ro, 0, 0, 255⟩,
      ⟨"TX_USE", 24, 8, .ro, 0, 0, 255⟩,
      ⟨"RX_USE", 32, 8, .ro, 0, 0, 255⟩]⟩,
   ⟨"ZHK_PEER_OFFSET", 0x110, 8, 1, [⟨"OFFSET", 0, 64, .ro, 0, 0, 18446744073709551615⟩]⟩,
   ⟨"ZHK_ASYM", 0x118, 8, 1, [⟨"ASYM", 0, 32, .rw, 0, 0, 4294967295⟩]⟩,
   ⟨"ZHK_CNT", 0x180, 8, 10, [⟨"VALUE", 0, 64, .ro, 0, 0, 18446744073709551615⟩]⟩,
   ⟨"ZHK_CNT_CLEAR", 0x1D8, 8, 1, [⟨"CLEAR", 0, 1, .w1p, 0, 0, 1⟩]⟩]

/-- Registers of the ZHK pages, part 2. -/
def zhkRegsB : List RegDef :=
  [⟨"ZHK_LANE_CNT", 0x1E0, 8, 8, [⟨"IN_WINDOW", 0, 16, .ro, 0, 0, 65535⟩,
      ⟨"UNCORR", 16, 32, .ro, 0, 0, 4294967295⟩]⟩,
   ⟨"ZHK_GANG", 0x240, 8, 1, [⟨"SIZE", 0, 2, .rw, 0, 0, 3⟩,
      ⟨"MEMBER", 2, 3, .rw, 0, 0, 7⟩,
      ⟨"TIME_TOL", 16, 32, .rw, 0, 0, 4294967295⟩]⟩,
   ⟨"ZHK_REGION", 0x248, 8, 16, [⟨"MODE", 0, 2, .rw, 0, 0, 2⟩]⟩,
   ⟨"ZHK_SHARED", 0x2C8, 8, 16, [⟨"VALID", 0, 1, .rw, 0, 0, 1⟩,
      ⟨"KIND", 1, 2, .rw, 0, 0, 3⟩,
      ⟨"TARGET", 3, 5, .rw, 0, 0, 31⟩,
      ⟨"GID", 8, 4, .rw, 0, 0, 15⟩,
      ⟨"OWNER", 12, 1, .ro, 0, 0, 1⟩,
      ⟨"BEST_CLAIM", 16, 16, .ro, 0, 0, 65535⟩,
      ⟨"BEST_MEMBER", 32, 3, .ro, 0, 0, 7⟩]⟩]

/-- Registers of the TBS pages, part 1. -/
def tbsRegsA : List RegDef :=
  [⟨"TBS_CFG", 0x100, 8, 1, [⟨"SOURCE", 0, 3, .rw, 0, 0, 5⟩,
      ⟨"BACKUP", 3, 3, .rw, 0, 0, 5⟩,
      ⟨"AUTO", 6, 1, .rw, 0, 0, 1⟩,
      ⟨"REVERT", 7, 1, .rw, 0, 0, 1⟩,
      ⟨"SLEW_PPM", 8, 8, .rw, 50, 1, 50⟩,
      ⟨"STEP_EN", 16, 1, .rw, 0, 0, 1⟩,
      ⟨"STEP_NS", 24, 32, .rw, 0, 0, 4294967295⟩]⟩,
   ⟨"TBS_STATUS", 0x108, 8, 1, [⟨"ACTIVE", 0, 3, .ro, 0, 0, 7⟩,
      ⟨"TIME_VALID", 3, 1, .ro, 0, 0, 1⟩,
      ⟨"HOLD", 4, 1, .ro, 0, 0, 1⟩,
      ⟨"SLEWING", 5, 1, .ro, 0, 0, 1⟩,
      ⟨"RATE_ADJ", 16, 32, .ro, 0, 0, 4294967295⟩]⟩,
   ⟨"TBS_TIME_S", 0x110, 8, 1, [⟨"SECONDS", 0, 64, .ro, 0, 0, 18446744073709551615⟩]⟩,
   ⟨"TBS_TIME_SUB", 0x118, 8, 1, [⟨"FRAC", 0, 16, .ro, 0, 0, 65535⟩,
      ⟨"NS", 16, 32, .ro, 0, 0, 4294967295⟩]⟩,
   ⟨"TBS_ST32_NOW", 0x120, 8, 1, [⟨"ST32", 0, 32, .ro, 0, 0, 4294967295⟩]⟩,
   ⟨"TBS_SET_S", 0x128, 8, 1, [⟨"SECONDS", 0, 64, .rw, 0, 0, 18446744073709551615⟩]⟩]

/-- Registers of the TBS pages, part 2. -/
def tbsRegsB : List RegDef :=
  [⟨"TBS_SET_SUB", 0x130, 8, 1, [⟨"FRAC", 0, 16, .rw, 0, 0, 65535⟩,
      ⟨"NS", 16, 32, .rw, 0, 0, 4294967295⟩,
      ⟨"APPLY", 48, 1, .w1p, 0, 0, 1⟩]⟩,
   ⟨"TBS_TRIG_CFG", 0x140, 8, 16, [⟨"MODE", 0, 2, .rwg, 0, 0, 3⟩,
      ⟨"INVERT", 2, 1, .rwg, 0, 0, 1⟩,
      ⟨"SKEW", 8, 8, .rwg, 0, 0, 255⟩,
      ⟨"LEVEL", 16, 1, .ro, 0, 0, 1⟩,
      ⟨"PIN", 17, 1, .ro, 0, 0, 1⟩]⟩,
   ⟨"TBS_TRIGIN_CFG", 0x1C0, 8, 1, [⟨"EN", 0, 8, .rw, 0, 0, 255⟩,
      ⟨"BOTH", 8, 8, .rw, 0, 0, 255⟩]⟩,
   ⟨"TBS_TRIGIN_POP", 0x1C8, 8, 1, [⟨"EIGHTHS", 0, 3, .ro, 0, 0, 7⟩,
      ⟨"NS", 3, 32, .ro, 0, 0, 4294967295⟩,
      ⟨"SECONDS_LO", 35, 16, .ro, 0, 0, 65535⟩,
      ⟨"LINE", 51, 3, .ro, 0, 0, 7⟩,
      ⟨"RISING", 54, 1, .ro, 0, 0, 1⟩,
      ⟨"VALID", 55, 1, .ro, 0, 0, 1⟩]⟩]

/-- Registers of the PTP pages. -/
def ptpRegs : List RegDef :=
  [⟨"PTP_CFG", 0x100, 8, 1, [⟨"PORT", 0, 3, .rw, 0, 0, 5⟩,
      ⟨"DOMAIN", 8, 8, .rw, 0, 0, 255⟩,
      ⟨"TRANSPORT", 16, 2, .rw, 1, 0, 2⟩,
      ⟨"P2P", 18, 1, .rw, 0, 0, 1⟩,
      ⟨"LOCK_NS", 32, 16, .rw, 100, 0, 65535⟩]⟩,
   ⟨"PTP_STATUS", 0x108, 8, 1, [⟨"STATE", 0, 3, .ro, 0, 0, 7⟩,
      ⟨"QUALIFIED", 3, 1, .ro, 0, 0, 1⟩,
      ⟨"LOG_SYNC", 16, 8, .ro, 0, 0, 255⟩]⟩,
   ⟨"PTP_OFFSET", 0x110, 8, 1, [⟨"OFFSET", 0, 64, .ro, 0, 0, 18446744073709551615⟩]⟩,
   ⟨"PTP_PATH_DELAY", 0x118, 8, 1, [⟨"DELAY", 0, 64, .ro, 0, 0, 18446744073709551615⟩]⟩,
   ⟨"PTP_GM_ID", 0x120, 8, 1, [⟨"CLOCK_ID", 0, 64, .ro, 0, 0, 18446744073709551615⟩]⟩,
   ⟨"PTP_ASYM", 0x128, 8, 1, [⟨"ASYM", 0, 32, .rw, 0, 0, 4294967295⟩]⟩]

/-- Registers of the MRK pages. -/
def mrkRegs : List RegDef :=
  [⟨"MRK_CFG", 0x100, 8, 1, [⟨"LEAD_US", 0, 16, .rw, 1000, 100, 65535⟩]⟩,
   ⟨"MRK_STATUS", 0x108, 8, 1, [⟨"USED", 0, 13, .ro, 0, 0, 8191⟩,
      ⟨"NEXT", 16, 12, .ro, 0, 0, 4095⟩,
      ⟨"EMPTY", 28, 1, .ro, 1, 0, 1⟩]⟩,
   ⟨"MRK_DATA", 0x110, 8, 4, [⟨"WORD", 0, 64, .rw, 0, 0, 18446744073709551615⟩]⟩,
   ⟨"MRK_CTRL", 0x130, 8, 1, [⟨"INSERT", 0, 1, .w1p, 0, 0, 1⟩,
      ⟨"READ", 1, 1, .w1p, 0, 0, 1⟩,
      ⟨"DELETE", 2, 1, .w1p, 0, 0, 1⟩,
      ⟨"BUSY", 3, 1, .ro, 0, 0, 1⟩,
      ⟨"RESULT", 8, 4, .ro, 0, 0, 15⟩,
      ⟨"HANDLE", 16, 12, .rw, 0, 0, 4095⟩]⟩,
   ⟨"MRK_DONE", 0x138, 8, 1, [⟨"HANDLE", 0, 12, .ro, 0, 0, 4095⟩,
      ⟨"STATUS", 12, 3, .ro, 0, 0, 7⟩,
      ⟨"VALID", 15, 1, .ro, 0, 0, 1⟩,
      ⟨"TIME_NS", 16, 32, .ro, 0, 0, 4294967295⟩]⟩]

/-- Registers of the TRU pages, part 1. -/
def truRegsA : List RegDef :=
  [⟨"TRU_CFG", 0x100, 8, 1, [⟨"REVERT", 0, 1, .rw, 0, 0, 1⟩,
      ⟨"XO_FREQ", 2, 2, .rw, 2, 0, 2⟩,
      ⟨"BW", 4, 10, .rw, 100, 1, 1000⟩,
      ⟨"REVERT_S", 16, 16, .rw, 300, 1, 65535⟩,
      ⟨"HIST_S", 32, 12, .rw, 300, 1, 3600⟩,
      ⟨"GUARD_S", 44, 10, .rw, 60, 0, 600⟩,
      ⟨"DISPUTE_PPB", 54, 10, .rw, 20, 1, 1023⟩]⟩,
   ⟨"TRU_STATUS", 0x108, 8, 1, [⟨"STATE", 0, 3, .ro, 0, 0, 7⟩,
      ⟨"ENTRY", 3, 3, .ro, 0, 0, 7⟩,
      ⟨"SELECTED", 6, 1, .ro, 0, 0, 1⟩,
      ⟨"DISPUTE", 7, 1, .ro, 0, 0, 1⟩,
      ⟨"HO_VALID", 8, 1, .ro, 0, 0, 1⟩,
      ⟨"XO_LOST", 9, 1, .ro, 0, 0, 1⟩,
      ⟨"STEPS", 16, 16, .ro, 0, 0, 65535⟩,
      ⟨"PHASE_ERR", 32, 32, .ro, 0, 0, 4294967295⟩]⟩,
   ⟨"TRU_PRIO", 0x110, 8, 8, [⟨"REF", 0, 4, .rw, 0, 0, 15⟩,
      ⟨"EN", 4, 1, .rw, 0, 0, 1⟩,
      ⟨"PRIO", 8, 4, .rw, 0, 0, 15⟩]⟩,
   ⟨"TRU_REF_CFG", 0x150, 8, 12, [⟨"SOFT_PPB", 0, 20, .rw, 100, 0, 1048575⟩,
      ⟨"HARD_PPB", 20, 20, .rw, 1000, 0, 100000⟩,
      ⟨"WINDOW_S", 40, 8, .rw, 10, 1, 255⟩,
      ⟨"QUAL_S", 48, 8, .rw, 10, 1, 255⟩,
      ⟨"FREQ", 56, 3, .rw, 0, 0, 5⟩]⟩,
   ⟨"TRU_REF_STATUS", 0x1B0, 8, 12, [⟨"OFFSET", 0, 32, .ro, 0, 0, 4294967295⟩,
      ⟨"QUALIFIED", 32, 1, .ro, 0, 0, 1⟩,
      ⟨"SOFT", 33, 1, .ro, 0, 0, 1⟩,
      ⟨"LOS", 34, 1, .ro, 0, 0, 1⟩]⟩,
   ⟨"TRU_HO_CFG", 0x210, 8, 1, [⟨"INIT_PPT", 0, 16, .rw, 100, 0, 65535⟩,
      ⟨"AGING_PPT", 16, 16, .rw, 100, 0, 65535⟩,
      ⟨"LIMIT_NS", 32, 32, .rw, 1000, 0, 4294967295⟩]⟩]

/-- Registers of the TRU pages, part 2. -/
def truRegsB : List RegDef :=
  [⟨"TRU_HO_STATUS", 0x218, 8, 1, [⟨"ELAPSED_S", 0, 32, .ro, 0, 0, 4294967295⟩,
      ⟨"EST_NS", 32, 31, .ro, 0, 0, 2147483647⟩,
      ⟨"OVER", 63, 1, .ro, 0, 0, 1⟩]⟩,
   ⟨"TRU_HO_FREQ", 0x220, 8, 1, [⟨"FREQ", 0, 32, .ro, 0, 0, 4294967295⟩,
      ⟨"SAMPLES", 32, 12, .ro, 0, 0, 4095⟩]⟩,
   ⟨"TRU_STEP", 0x228, 8, 1, [⟨"STEP", 0, 64, .ro, 0, 0, 18446744073709551615⟩]⟩,
   ⟨"TRU_STEP_TIME", 0x230, 8, 1, [⟨"NS", 0, 30, .ro, 0, 0, 1073741823⟩,
      ⟨"SECONDS_LO", 32, 32, .ro, 0, 0, 4294967295⟩]⟩,
   ⟨"TRU_CLKOUT", 0x240, 8, 8, [⟨"EN", 0, 1, .rwg, 0, 0, 1⟩,
      ⟨"FREQ_KHZ", 8, 20, .rw, 10000, 1000, 800000⟩]⟩,
   ⟨"TRU_PPS_OUT", 0x280, 8, 1, [⟨"EN", 0, 1, .rw, 0, 0, 1⟩,
      ⟨"WIDTH_US", 1, 19, .rw, 100000, 1, 500000⟩]⟩]

/-- Registers of the CHS pages, part 1. -/
def chsRegsA : List RegDef :=
  [⟨"CHS_CTRL", 0x100, 8, 1, [⟨"RUN", 0, 1, .w1p, 0, 0, 1⟩,
      ⟨"STOP", 1, 1, .w1p, 0, 0, 1⟩,
      ⟨"DOORBELL", 2, 1, .w1p, 0, 0, 1⟩,
      ⟨"START_PC", 8, 14, .rw, 0, 0, 16383⟩]⟩,
   ⟨"CHS_STATUS", 0x108, 8, 1, [⟨"STATE", 0, 3, .ro, 0, 0, 7⟩,
      ⟨"OUT_BUSY", 3, 1, .ro, 0, 0, 1⟩,
      ⟨"PC", 8, 14, .ro, 0, 0, 16383⟩,
      ⟨"MASTER_CLAIM", 32, 16, .ro, 0, 0, 65535⟩,
      ⟨"USER_CODE", 48, 14, .ro, 0, 0, 16383⟩]⟩,
   ⟨"CHS_CFG", 0x110, 8, 1, [⟨"WATCHDOG_US", 0, 16, .rw, 0, 0, 65535⟩,
      ⟨"WAKE_REGION", 16, 4, .rw, 0, 0, 15⟩,
      ⟨"WAKE_DIE", 20, 2, .rw, 0, 0, 3⟩,
      ⟨"WAKE_FLD", 22, 5, .rw, 0, 0, 31⟩,
      ⟨"TIMER_US", 32, 32, .rw, 0, 0, 4294967295⟩]⟩,
   ⟨"CHS_FAULT", 0x118, 8, 1, [⟨"CAUSE", 0, 4, .ro, 0, 0, 15⟩,
      ⟨"PC", 8, 14, .ro, 0, 0, 16383⟩]⟩,
   ⟨"CHS_MEM_ADDR", 0x120, 8, 1, [⟨"INDEX", 0, 16, .rw, 0, 0, 65535⟩,
      ⟨"SPACE", 16, 2, .rw, 0, 0, 3⟩,
      ⟨"AUTO_INC", 18, 1, .rw, 0, 0, 1⟩]⟩,
   ⟨"CHS_MEM_DATA", 0x128, 8, 1, [⟨"DATA", 0, 64, .rw, 0, 0, 18446744073709551615⟩]⟩]

/-- Registers of the CHS pages, part 2. -/
def chsRegsB : List RegDef :=
  [⟨"CHS_CNT", 0x180, 8, 7, [⟨"VALUE", 0, 64, .ro, 0, 0, 18446744073709551615⟩]⟩,
   ⟨"CHS_CNT_CLEAR", 0x1B8, 8, 1, [⟨"CLEAR", 0, 1, .w1p, 0, 0, 1⟩]⟩]

/-- Registers of the CHL pages. -/
def chlRegs : List RegDef :=
  [⟨"CHL_HBASE", 0x140, 8, 1, [⟨"BASE", 0, 64, .rw, 0, 0, 18446744073709551615⟩]⟩,
   ⟨"CHL_POST", 0x148, 8, 1, [⟨"DEPTH", 0, 5, .ro, 0, 0, 31⟩]⟩]

/-- Registers of the HBM pages. -/
def hbmRegs : List RegDef :=
  [⟨"HBM_CFG", 0x100, 8, 1, [⟨"SCRUB_HOURS", 0, 8, .rw, 24, 1, 255⟩,
      ⟨"PD_IDLE_NS", 8, 16, .rw, 200, 0, 65535⟩]⟩,
   ⟨"HBM_STATUS", 0x108, 8, 1, [⟨"STATE", 0, 3, .ro, 0, 0, 7⟩,
      ⟨"QUICK", 3, 1, .ro, 0, 0, 1⟩,
      ⟨"TEMP", 16, 8, .ro, 0, 0, 255⟩,
      ⟨"ROWS_RETIRED", 24, 16, .ro, 0, 0, 65535⟩,
      ⟨"ROWS_FENCED", 40, 16, .ro, 0, 0, 65535⟩]⟩,
   ⟨"HBM_CNT", 0x180, 8, 6, [⟨"VALUE", 0, 64, .ro, 0, 0, 18446744073709551615⟩]⟩,
   ⟨"HBM_CNT_CLEAR", 0x1B0, 8, 1, [⟨"CLEAR", 0, 1, .w1p, 0, 0, 1⟩]⟩]

/-- Registers of the HPC pages. -/
def hpcRegs : List RegDef :=
  [⟨"HPC_STATUS", 0x100, 8, 1, [⟨"QUEUE", 0, 7, .ro, 0, 0, 127⟩,
      ⟨"POWER_DOWN", 7, 1, .ro, 0, 0, 1⟩,
      ⟨"OPEN_BANKS", 8, 16, .ro, 0, 0, 65535⟩]⟩,
   ⟨"HPC_ERR_ADDR", 0x108, 8, 1, [⟨"ADDR", 0, 40, .ro, 0, 0, 1099511627775⟩,
      ⟨"UNCORR", 40, 1, .ro, 0, 0, 1⟩]⟩]

/-- Registers of the XBR pages. -/
def xbrRegs : List RegDef :=
  [⟨"XBR_PAIR_ADDR", 0x100, 8, 1, [⟨"MASTER", 0, 8, .rw, 0, 0, 255⟩,
      ⟨"TARGET", 8, 4, .rw, 0, 0, 10⟩]⟩,
   ⟨"XBR_PAIR_DATA", 0x108, 8, 1, [⟨"PRIO", 0, 3, .rw, 0, 0, 7⟩]⟩,
   ⟨"XBR_MASTER_STATUS", 0x110, 8, 1, [⟨"OUTSTANDING", 0, 9, .ro, 0, 0, 511⟩,
      ⟨"CLAIM", 16, 16, .ro, 0, 0, 65535⟩]⟩,
   ⟨"XBR_PARK", 0x140, 8, 11, [⟨"MASTER", 0, 8, .rw, 0, 0, 255⟩]⟩,
   ⟨"XBR_CNT", 0x1C0, 8, 4, [⟨"VALUE", 0, 64, .ro, 0, 0, 18446744073709551615⟩]⟩,
   ⟨"XBR_CNT_CLEAR", 0x1E0, 8, 1, [⟨"CLEAR", 0, 1, .w1p, 0, 0, 1⟩]⟩]

/-- Registers of the DMA pages, part 1. -/
def dmaRegsA : List RegDef :=
  [⟨"DMA_CH_CTRL", 0x100, 64, 8, [⟨"EN", 0, 1, .rw, 0, 0, 1⟩,
      ⟨"MODE", 1, 1, .rw, 0, 0, 1⟩,
      ⟨"GO", 2, 1, .w1p, 0, 0, 1⟩,
      ⟨"CLEAR_CNT", 3, 1, .w1p, 0, 0, 1⟩]⟩,
   ⟨"DMA_CH_STATUS", 0x108, 64, 8, [⟨"STATE", 0, 3, .ro, 0, 0, 7⟩,
      ⟨"CAUSE", 8, 4, .ro, 0, 0, 15⟩,
      ⟨"RING", 16, 18, .ro, 0, 0, 262143⟩,
      ⟨"DESC_DONE", 40, 24, .ro, 0, 0, 16777215⟩]⟩,
   ⟨"DMA_CH_DESC", 0x110, 64, 8, [⟨"ADDR", 0, 64, .rw, 0, 0, 18446744073709551615⟩]⟩,
   ⟨"DMA_CH_RD", 0x118, 64, 8, [⟨"RD", 0, 64, .rw, 0, 0, 18446744073709551615⟩]⟩,
   ⟨"DMA_CH_CNT", 0x120, 64, 8, [⟨"VALUE", 0, 64, .ro, 0, 0, 18446744073709551615⟩]⟩,
   ⟨"DMA_CH_CNT", 0x128, 64, 8, [⟨"VALUE", 0, 64, .ro, 0, 0, 18446744073709551615⟩]⟩]

/-- Registers of the DMA pages, part 2. -/
def dmaRegsB : List RegDef :=
  [⟨"DMA_CH_CNT", 0x130, 64, 8, [⟨"VALUE", 0, 64, .ro, 0, 0, 18446744073709551615⟩]⟩]

/-- Registers of the RNG pages, part 1. -/
def rngRegsA : List RegDef :=
  [⟨"RNG_ADDR", 0x100, 8, 1, [⟨"RING", 0, 18, .rw, 0, 0, 262143⟩]⟩,
   ⟨"RNG_CTRL", 0x108, 8, 1, [⟨"READ", 0, 1, .w1p, 0, 0, 1⟩,
      ⟨"WRITE", 1, 1, .w1p, 0, 0, 1⟩,
      ⟨"BUSY", 2, 1, .ro, 0, 0, 1⟩,
      ⟨"RESULT", 8, 4, .ro, 0, 0, 15⟩]⟩,
   ⟨"RNG_DATA", 0x110, 8, 4, [⟨"WORD", 0, 64, .rw, 0, 0, 18446744073709551615⟩]⟩,
   ⟨"RNG_DATA", 0x130, 8, 4, [⟨"WORD", 0, 64, .ro, 0, 0, 18446744073709551615⟩]⟩,
   ⟨"RNG_ADVANCE", 0x150, 8, 1, [⟨"RING", 0, 18, .wo, 0, 0, 262143⟩,
      ⟨"UNITS", 32, 32, .wo, 0, 0, 4294967295⟩]⟩,
   ⟨"RNG_WM_POP", 0x158, 8, 1, [⟨"RING", 0, 18, .ro, 0, 0, 262143⟩,
      ⟨"ABOVE", 18, 1, .ro, 0, 0, 1⟩,
      ⟨"VALID", 19, 1, .ro, 0, 0, 1⟩]⟩]

/-- Registers of the RNG pages, part 2. -/
def rngRegsB : List RegDef :=
  [⟨"RNG_FCO", 0x180, 8, 16, [⟨"SOURCE", 0, 2, .rwg, 0, 0, 3⟩,
      ⟨"INVERT", 2, 1, .rwg, 0, 0, 1⟩,
      ⟨"RING", 8, 18, .rwg, 0, 0, 262143⟩,
      ⟨"PIN", 32, 1, .ro, 0, 0, 1⟩]⟩]

/-- Registers of the ETH pages, part 1. -/
def ethRegsA : List RegDef :=
  [⟨"ETH_CFG", 0x100, 8, 1, [⟨"MODE", 0, 2, .rw, 0, 0, 2⟩,
      ⟨"MAX_FRAME", 16, 14, .rw, 9216, 1518, 16000⟩]⟩,
   ⟨"ETH_STATUS", 0x108, 8, 1, [⟨"LINK", 0, 4, .ro, 0, 0, 15⟩,
      ⟨"RETIRED_LANES", 4, 4, .ro, 0, 0, 15⟩,
      ⟨"LPI", 8, 1, .ro, 0, 0, 1⟩]⟩,
   ⟨"ETH_MAC", 0x110, 8, 4, [⟨"MAC", 0, 48, .rw, 0, 0, 281474976710655⟩]⟩,
   ⟨"ETH_IP4", 0x130, 8, 4, [⟨"ADDR", 0, 32, .rw, 0, 0, 4294967295⟩]⟩,
   ⟨"ETH_IP6", 0x150, 8, 8, [⟨"HALF", 0, 64, .rw, 0, 0, 18446744073709551615⟩]⟩,
   ⟨"ETH_UDP", 0x190, 8, 1, [⟨"SAMPLE_PORT", 0, 16, .rw, 47811, 0, 65535⟩,
      ⟨"CMD_PORT", 16, 16, .rw, 47810, 0, 65535⟩,
      ⟨"SRC_PORT", 32, 16, .rw, 47812, 0, 65535⟩]⟩]

/-- Registers of the ETH pages, part 2. -/
def ethRegsB : List RegDef :=
  [⟨"ETH_PFC", 0x198, 8, 1, [⟨"MODE", 0, 2, .rw, 0, 0, 2⟩,
      ⟨"SAMPLE_PCP", 2, 3, .rw, 0, 0, 7⟩,
      ⟨"CTRL_PCP", 5, 3, .rw, 7, 0, 7⟩,
      ⟨"WD_MS", 8, 10, .rw, 50, 1, 1000⟩,
      ⟨"XOFF_KIB", 18, 12, .rw, 3072, 0, 4095⟩,
      ⟨"XON_KIB", 30, 12, .rw, 2048, 0, 4095⟩,
      ⟨"PAUSED", 42, 8, .ro, 0, 0, 255⟩,
      ⟨"RELEASED", 50, 8, .ro, 0, 0, 255⟩]⟩,
   ⟨"ETH_FLOW_ADDR", 0x1A0, 8, 1, [⟨"FLOW", 0, 10, .rw, 0, 0, 1023⟩]⟩,
   ⟨"ETH_FLOW_CTRL", 0x1A8, 8, 1, [⟨"READ", 0, 1, .w1p, 0, 0, 1⟩,
      ⟨"WRITE", 1, 1, .w1p, 0, 0, 1⟩,
      ⟨"BUSY", 2, 1, .ro, 0, 0, 1⟩,
      ⟨"RESULT", 8, 4, .ro, 0, 0, 15⟩]⟩,
   ⟨"ETH_FLOW_DATA", 0x1B0, 8, 4, [⟨"WORD", 0, 64, .rw, 0, 0, 18446744073709551615⟩]⟩,
   ⟨"ETH_FLOW_DATA", 0x1D0, 8, 2, [⟨"WORD", 0, 64, .ro, 0, 0, 18446744073709551615⟩]⟩,
   ⟨"ETH_EEE", 0x1E0, 8, 1, [⟨"EN", 0, 1, .rw, 1, 0, 1⟩,
      ⟨"IDLE_US", 16, 16, .rw, 100, 0, 65535⟩,
      ⟨"TW_TX_US", 32, 16, .ro, 0, 0, 65535⟩]⟩]

/-- Registers of the ETH pages, part 3. -/
def ethRegsC : List RegDef :=
  [⟨"ETH_MACSEC", 0x1E8, 8, 1, [⟨"PROTECT", 0, 1, .rw, 0, 0, 1⟩,
      ⟨"VALIDATE", 1, 2, .rw, 0, 0, 2⟩,
      ⟨"PTP_BYPASS", 3, 1, .rw, 0, 0, 1⟩,
      ⟨"TX_AN", 8, 2, .ro, 0, 0, 3⟩,
      ⟨"REPLAY_WIN", 16, 32, .rw, 0, 0, 4294967295⟩]⟩,
   ⟨"ETH_CNT", 0x200, 8, 16, [⟨"VALUE", 0, 64, .ro, 0, 0, 18446744073709551615⟩]⟩,
   ⟨"ETH_CNT_CLEAR", 0x280, 8, 1, [⟨"CLEAR", 0, 1, .w1p, 0, 0, 1⟩]⟩]

/-- Registers of the FLD pages, part 1. -/
def fldRegsA : List RegDef :=
  [⟨"FLD_CH_CFG", 0x100, 8, 1, [⟨"RANGE", 0, 3, .rwg, 0, 0, 7⟩,
      ⟨"FAILSAFE_MODE", 3, 2, .rwg, 2, 0, 2⟩,
      ⟨"DET_MODE", 5, 2, .rwg, 0, 0, 2⟩,
      ⟨"FAULT_ACTION", 7, 1, .rwg, 0, 0, 1⟩,
      ⟨"WDOG_CYCLES", 8, 8, .rwg, 0, 0, 255⟩]⟩,
   ⟨"FLD_CH_CTRL", 0x108, 8, 1, [⟨"RUN", 0, 1, .rwg, 0, 0, 1⟩,
      ⟨"RESTART", 1, 1, .rwg, 0, 0, 1⟩,
      ⟨"RESUME", 2, 1, .rwg, 0, 0, 1⟩]⟩,
   ⟨"FLD_CH_PERIOD", 0x110, 8, 1, [⟨"PERIOD_NS", 0, 30, .rwg, 1000000, 1000, 1000000000⟩]⟩,
   ⟨"FLD_CH_SETPOINT", 0x118, 8, 1, [⟨"CODE", 0, 24, .rwg, 0, 0, 16777215⟩]⟩,
   ⟨"FLD_CH_CODES", 0x120, 8, 1, [⟨"ALARM_CODE", 0, 24, .rwg, 0, 0, 16777215⟩,
      ⟨"FAILSAFE_CODE", 24, 24, .rwg, 0, 0, 16777215⟩]⟩,
   ⟨"FLD_CH_SLEW", 0x128, 8, 1, [⟨"STEP", 0, 24, .rwg, 0, 0, 16777215⟩,
      ⟨"RATE", 24, 24, .rwg, 0, 0, 16777215⟩]⟩]

/-- Registers of the FLD pages, part 2. -/
def fldRegsB : List RegDef :=
  [⟨"FLD_CH_STATUS", 0x130, 8, 1, [⟨"STATE", 0, 2, .ro, 2, 0, 3⟩,
      ⟨"DET_IN", 2, 1, .ro, 0, 0, 1⟩,
      ⟨"LIMITING", 3, 1, .ro, 0, 0, 1⟩,
      ⟨"HIGH_Z", 4, 1, .ro, 1, 0, 1⟩,
      ⟨"FS_CAUSE", 8, 7, .ro, 1, 0, 127⟩,
      ⟨"DRIVEN", 40, 24, .ro, 0, 0, 16777215⟩]⟩,
   ⟨"FLD_CH_MEAS", 0x138, 8, 1, [⟨"CURRENT_UA", 0, 32, .ro, 0, 0, 4294967295⟩,
      ⟨"VOLTAGE_MV", 32, 32, .ro, 0, 0, 4294967295⟩]⟩,
   ⟨"FLD_CH_CNT", 0x180, 8, 6, [⟨"VALUE", 0, 64, .ro, 0, 0, 18446744073709551615⟩]⟩,
   ⟨"FLD_CH_CNT_CLEAR", 0x1B0, 8, 1, [⟨"CLEAR", 0, 1, .w1p, 0, 0, 1⟩]⟩]

/-- Registers of the FLDG pages. -/
def fldgRegs : List RegDef :=
  [⟨"FLD_GLB_CTRL", 0x100, 8, 1, [⟨"FAILSAFE_ALL", 0, 1, .rwg, 0, 0, 1⟩]⟩,
   ⟨"FLD_GLB_STATUS", 0x108, 8, 1, [⟨"AVDD_OK", 0, 1, .ro, 0, 0, 1⟩,
      ⟨"AVPOS_OK", 1, 1, .ro, 0, 0, 1⟩,
      ⟨"AVNEG_OK", 2, 1, .ro, 0, 0, 1⟩,
      ⟨"FAILSAFE", 32, 32, .ro, 4294967295, 0, 4294967295⟩]⟩]

/-- Registers of the REF pages, part 1. -/
def refRegsA : List RegDef :=
  [⟨"REF_CFG", 0x100, 8, 1, [⟨"POLICY", 0, 2, .rw, 0, 0, 2⟩,
      ⟨"PREFER", 2, 1, .rw, 0, 0, 1⟩,
      ⟨"HB_TIMEOUT_MS", 8, 10, .rw, 50, 5, 1000⟩,
      ⟨"EXT_DEBOUNCE_US", 18, 16, .rw, 1000, 10, 65535⟩]⟩,
   ⟨"REF_CTRL", 0x108, 8, 1, [⟨"ARM", 0, 1, .w1p, 0, 0, 1⟩,
      ⟨"SWITCHOVER", 1, 1, .w1p, 0, 0, 1⟩,
      ⟨"REINSTATE", 2, 1, .w1p, 0, 0, 1⟩]⟩,
   ⟨"REF_STATUS", 0x110, 8, 1, [⟨"ARMED", 0, 1, .ro, 0, 0, 1⟩,
      ⟨"ACTIVE", 1, 1, .ro, 0, 0, 1⟩,
      ⟨"STATE_A", 8, 3, .ro, 0, 0, 7⟩,
      ⟨"STATE_B", 11, 3, .ro, 0, 0, 7⟩,
      ⟨"EXT_A", 14, 1, .ro, 0, 0, 1⟩,
      ⟨"EXT_B", 15, 1, .ro, 0, 0, 1⟩,
      ⟨"CLAIM_A", 16, 16, .ro, 0, 0, 65535⟩,
      ⟨"CLAIM_B", 32, 16, .ro, 0, 0, 65535⟩,
      ⟨"MAX_ISSUED", 48, 16, .ro, 0, 0, 65535⟩]⟩,
   ⟨"REF_HB", 0x118, 8, 2, [⟨"SEQ", 0, 16, .rw, 0, 0, 65535⟩,
      ⟨"AGE_MS", 16, 16, .ro, 0, 0, 65535⟩,
      ⟨"BEATS", 32, 32, .ro, 0, 0, 4294967295⟩]⟩,
   ⟨"REF_GRANT_ADDR", 0x128, 8, 1, [⟨"MASTER", 0, 8, .rw, 0, 0, 255⟩]⟩,
   ⟨"REF_GRANT_DATA", 0x130, 8, 1, [⟨"CLAIM", 0, 16, .rw, 0, 0, 65535⟩]⟩]

/-- Registers of the REF pages, part 2. -/
def refRegsB : List RegDef :=
  [⟨"REF_COUNTS", 0x138, 8, 1, [⟨"FAILOVERS", 0, 16, .ro, 0, 0, 65535⟩,
      ⟨"SWITCHOVERS", 16, 16, .ro, 0, 0, 65535⟩]⟩]

/-- Registers of the STW pages. -/
def stwRegs : List RegDef :=
  [⟨"STW_RL_STATUS", 0x100, 8, 1, [⟨"ENTRIES", 0, 13, .ro, 0, 0, 8191⟩,
      ⟨"PENDING", 16, 13, .ro, 0, 0, 8191⟩,
      ⟨"GEN", 32, 32, .ro, 0, 0, 4294967295⟩]⟩,
   ⟨"STW_RL_ADDR", 0x108, 8, 1, [⟨"INDEX", 0, 12, .rw, 0, 0, 4095⟩]⟩,
   ⟨"STW_RL_CTRL", 0x110, 8, 1, [⟨"READ", 0, 1, .w1p, 0, 0, 1⟩,
      ⟨"REMOVE", 1, 1, .w1p, 0, 0, 1⟩,
      ⟨"BUSY", 2, 1, .ro, 0, 0, 1⟩,
      ⟨"RESULT", 8, 4, .ro, 0, 0, 15⟩]⟩,
   ⟨"STW_RL_DATA", 0x118, 8, 1, [⟨"KIND", 0, 8, .ro, 0, 0, 255⟩,
      ⟨"UNIT", 8, 32, .ro, 0, 0, 4294967295⟩,
      ⟨"REMOVED", 40, 1, .ro, 0, 0, 1⟩]⟩]

/-- Registers of the EVT pages. -/
def evtRegs : List RegDef :=
  [⟨"EVT_ROUTE_ADDR", 0x100, 8, 1, [⟨"EVENT", 0, 10, .rw, 0, 0, 1023⟩]⟩,
   ⟨"EVT_ROUTE_DATA", 0x108, 8, 1, [⟨"VECTOR", 0, 11, .rw, 0, 0, 2047⟩,
      ⟨"MSIX_EN", 11, 1, .rw, 0, 0, 1⟩,
      ⟨"STW_A", 12, 1, .rw, 0, 0, 1⟩,
      ⟨"STW_B", 13, 1, .rw, 0, 0, 1⟩,
      ⟨"STW_ACTIVE", 14, 1, .rw, 1, 0, 1⟩,
      ⟨"IRQ", 16, 4, .rw, 0, 0, 15⟩]⟩]

/-- Registers of the EVT1 pages. -/
def evt1Regs : List RegDef :=
  [⟨"EVT_PENDING", 0x100, 8, 16, [⟨"PENDING", 0, 64, .w1c, 0, 0, 18446744073709551615⟩]⟩,
   ⟨"EVT_MASK", 0x180, 8, 16, [⟨"MASK", 0, 64, .rw, 0, 0, 18446744073709551615⟩]⟩]

/-- Registers of the EVT2 pages. -/
def evt2Regs : List RegDef :=
  [⟨"EVT_POP", 0x100, 8, 1, [⟨"EVENT", 0, 10, .ro, 0, 0, 1023⟩,
      ⟨"VALID", 15, 1, .ro, 0, 0, 1⟩,
      ⟨"NS", 16, 32, .ro, 0, 0, 4294967295⟩,
      ⟨"SECONDS_LO", 48, 16, .ro, 0, 0, 65535⟩]⟩]

/-- Registers of the EVT4 pages. -/
def evt4Regs : List RegDef :=
  [⟨"EVT_IRQ_STATUS", 0x100, 8, 1, [⟨"ASSERTED", 0, 4, .ro, 0, 0, 15⟩]⟩,
   ⟨"EVT_CNT_ADDR", 0x108, 8, 1, [⟨"EVENT", 0, 10, .rw, 0, 0, 1023⟩]⟩,
   ⟨"EVT_CNT_DATA", 0x110, 8, 1, [⟨"PULSES", 0, 32, .ro, 0, 0, 4294967295⟩,
      ⟨"CLEAR", 63, 1, .w1p, 0, 0, 1⟩]⟩]

/-- Registers of the PKG pages. -/
def pkgRegs : List RegDef :=
  [⟨"PKG_SERIAL", 0x100, 8, 1, [⟨"SERIAL", 0, 64, .ro, 0, 0, 18446744073709551615⟩]⟩,
   ⟨"PKG_DATE", 0x108, 8, 1, [⟨"DATE", 0, 16, .ro, 0, 0, 65535⟩]⟩]

/-- Registers of the DIE pages. -/
def dieRegs : List RegDef :=
  [⟨"DIE_ID", 0x100, 8, 1, [⟨"LOT", 0, 32, .ro, 0, 0, 4294967295⟩,
      ⟨"WAFER", 32, 8, .ro, 0, 0, 255⟩,
      ⟨"DIE_X", 40, 8, .ro, 0, 0, 255⟩,
      ⟨"DIE_Y", 48, 8, .ro, 0, 0, 255⟩]⟩,
   ⟨"DIE_INFO", 0x108, 8, 1, [⟨"TYPE", 0, 8, .ro, 0, 0, 255⟩,
      ⟨"STEPPING", 8, 8, .ro, 0, 0, 255⟩]⟩]

/-- Registers of the HWD pages, part 1. -/
def hwdRegsA : List RegDef :=
  [⟨"HWD_STATUS", 0x100, 8, 1, [⟨"LIFECYCLE", 0, 2, .ro, 0, 0, 3⟩,
      ⟨"SLOT", 2, 1, .ro, 0, 0, 1⟩,
      ⟨"TRIAL", 3, 1, .ro, 0, 0, 1⟩,
      ⟨"UNLOCKED", 4, 1, .ro, 0, 0, 1⟩,
      ⟨"OWNER_STATE", 8, 8, .ro, 0, 0, 255⟩,
      ⟨"FW_SVN", 16, 7, .ro, 0, 0, 127⟩,
      ⟨"WORK_SVN", 24, 7, .ro, 0, 0, 127⟩]⟩,
   ⟨"HWD_BOOT_NONCE", 0x108, 8, 2, [⟨"NONCE", 0, 64, .ro, 0, 0, 18446744073709551615⟩]⟩,
   ⟨"HWD_CTRL", 0x118, 8, 1, [⟨"CONFIRM", 0, 1, .w1p, 0, 0, 1⟩,
      ⟨"RELOCK", 1, 1, .w1p, 0, 0, 1⟩,
      ⟨"ADVANCE_FW_SVN", 2, 1, .w1p, 0, 0, 1⟩,
      ⟨"ADVANCE_WORK_SVN", 3, 1, .w1p, 0, 0, 1⟩]⟩,
   ⟨"HWD_OP_ADDR", 0x120, 8, 1, [⟨"ADDR", 0, 64, .rw, 0, 0, 18446744073709551615⟩]⟩,
   ⟨"HWD_OP_ARG", 0x128, 8, 1, [⟨"USE", 0, 2, .rw, 0, 0, 3⟩,
      ⟨"PAGE", 2, 3, .rw, 0, 0, 7⟩,
      ⟨"SUBPORT", 5, 2, .rw, 0, 0, 3⟩,
      ⟨"SC", 7, 3, .rw, 0, 0, 7⟩,
      ⟨"AN", 10, 2, .rw, 0, 0, 3⟩,
      ⟨"INDEX", 12, 2, .rw, 0, 0, 3⟩,
      ⟨"SLOT", 16, 8, .rw, 0, 0, 255⟩,
      ⟨"SSCI", 32, 32, .rw, 0, 0, 4294967295⟩]⟩,
   ⟨"HWD_OP_CTRL", 0x130, 8, 1, [⟨"OP", 0, 3, .rw, 0, 0, 7⟩,
      ⟨"GO", 3, 1, .w1p, 0, 0, 1⟩,
      ⟨"BUSY", 4, 1, .ro, 0, 0, 1⟩,
      ⟨"RESULT", 8, 4, .ro, 0, 0, 15⟩]⟩]

/-- Registers of the HWD pages, part 2. -/
def hwdRegsB : List RegDef :=
  [⟨"HWD_OP_SCI", 0x138, 8, 1, [⟨"SCI", 0, 64, .rw, 0, 0, 18446744073709551615⟩]⟩,
   ⟨"HWD_OP_IN", 0x140, 8, 8, [⟨"IN", 0, 64, .rw, 0, 0, 18446744073709551615⟩]⟩,
   ⟨"HWD_OP_OUT", 0x180, 8, 8, [⟨"OUT", 0, 64, .ro, 0, 0, 18446744073709551615⟩]⟩,
   ⟨"HWD_LOCK", 0x1C0, 8, 1, [⟨"PAGE", 0, 16, .rw, 0, 0, 65535⟩,
      ⟨"LOCKED", 16, 1, .rw, 0, 0, 1⟩,
      ⟨"STEWARD_EXEMPT", 17, 1, .rw, 0, 0, 1⟩,
      ⟨"APPLY", 18, 1, .w1p, 0, 0, 1⟩]⟩,
   ⟨"HWD_MEAS", 0x200, 8, 24, [⟨"VALUE", 0, 64, .ro, 0, 0, 18446744073709551615⟩]⟩]

/-- Registers of the LDG pages, part 1. -/
def ldgRegsA : List RegDef :=
  [⟨"LDG_CFG", 0x100, 8, 1, [⟨"CKPT_RECORDS", 0, 32, .rw, 1048576, 1024, 4294967295⟩,
      ⟨"CKPT_MS", 32, 32, .rw, 10000, 1000, 3600000⟩]⟩,
   ⟨"LDG_CTRL", 0x108, 8, 1, [⟨"CKPT_NOW", 0, 1, .w1p, 0, 0, 1⟩]⟩,
   ⟨"LDG_STATUS", 0x110, 8, 1, [⟨"EPOCH", 0, 32, .ro, 0, 0, 4294967295⟩,
      ⟨"OPEN", 32, 1, .ro, 0, 0, 1⟩,
      ⟨"PENDING", 33, 1, .ro, 0, 0, 1⟩]⟩,
   ⟨"LDG_SEQ", 0x118, 8, 1, [⟨"NEXT", 0, 64, .ro, 0, 0, 18446744073709551615⟩]⟩,
   ⟨"LDG_CKPT", 0x120, 8, 1, [⟨"COVERS_TO", 0, 64, .ro, 18446744073709551615, 0, 18446744073709551615⟩]⟩,
   ⟨"LDG_PERSISTED", 0x128, 8, 1, [⟨"COVERS_TO", 0, 64, .ro, 18446744073709551615, 0, 18446744073709551615⟩]⟩]

/-- Registers of the LDG pages, part 2. -/
def ldgRegsB : List RegDef :=
  [⟨"LDG_RINGS", 0x130, 8, 1, [⟨"CKPT_RING", 0, 18, .rw, 0, 0, 262143⟩,
      ⟨"CMD_RING", 18, 18, .rw, 0, 0, 262143⟩,
      ⟨"ATTEST_RING", 36, 18, .rw, 0, 0, 262143⟩]⟩,
   ⟨"LDG_CHAIN", 0x140, 8, 8, [⟨"CHAIN", 0, 64, .ro, 0, 0, 18446744073709551615⟩]⟩,
   ⟨"LDG_CNT", 0x180, 8, 5, [⟨"VALUE", 0, 64, .ro, 0, 0, 18446744073709551615⟩]⟩,
   ⟨"LDG_CNT_CLEAR", 0x1A8, 8, 1, [⟨"CLEAR", 0, 1, .w1p, 0, 0, 1⟩]⟩]

/-- Registers of the PWR pages, part 1. -/
def pwrRegsA : List RegDef :=
  [⟨"PWR_DOMAIN_REQ", 0x100, 8, 1, [⟨"ON", 0, 24, .rw, 16777215, 0, 16777215⟩]⟩,
   ⟨"PWR_DOMAIN_STATUS", 0x108, 8, 1, [⟨"ON", 0, 24, .ro, 1, 0, 16777215⟩,
      ⟨"RESULT", 32, 4, .ro, 0, 0, 15⟩]⟩,
   ⟨"PWR_CTRL", 0x110, 8, 1, [⟨"FULL_RESET", 0, 1, .w1p, 0, 0, 1⟩]⟩,
   ⟨"PWR_TEMP", 0x118, 8, 1, [⟨"TJ", 0, 48, .ro, 0, 0, 281474976710655⟩]⟩,
   ⟨"PWR_POWER", 0x120, 8, 1, [⟨"NOW_W", 0, 16, .ro, 0, 0, 65535⟩,
      ⟨"PEAK_W", 16, 16, .ro, 0, 0, 65535⟩]⟩,
   ⟨"PWR_CFG", 0x128, 8, 1, [⟨"START_ON", 0, 24, .rw, 16777215, 0, 16777215⟩,
      ⟨"TRIP_MARGIN", 24, 8, .rw, 10, 1, 20⟩,
      ⟨"POWER_WARN_W", 32, 10, .rw, 540, 0, 1023⟩]⟩]

/-- Registers of the PWR pages, part 2. -/
def pwrRegsB : List RegDef :=
  [⟨"PWR_AON", 0x130, 8, 1, [⟨"SECONDS", 0, 32, .ro, 0, 0, 4294967295⟩]⟩,
   ⟨"PWR_AON_SESSION", 0x138, 8, 1, [⟨"SESSION", 0, 64, .ro, 0, 0, 18446744073709551615⟩]⟩,
   ⟨"PWR_RAIL", 0x180, 8, 15, [⟨"MV", 0, 16, .ro, 0, 0, 65535⟩,
      ⟨"TARGET_MV", 16, 16, .ro, 0, 0, 65535⟩,
      ⟨"CURRENT", 32, 16, .ro, 0, 0, 65535⟩]⟩]

/-- Registers of the CLT pages. -/
def cltRegs : List RegDef :=
  [⟨"CLT_CTRL", 0x100, 8, 1, [⟨"SHUTDOWN", 0, 1, .w1p, 0, 0, 1⟩]⟩,
   ⟨"CLT_CFG", 0x108, 8, 1, [⟨"DRAIN_MS", 0, 16, .rw, 2000, 1, 65535⟩,
      ⟨"QUICK_EN", 16, 1, .rw, 1, 0, 1⟩]⟩,
   ⟨"CLT_STATUS", 0x110, 8, 1, [⟨"PHASE", 0, 3, .ro, 0, 0, 7⟩,
      ⟨"QUICK", 3, 1, .ro, 0, 0, 1⟩,
      ⟨"LAST_RESULT", 4, 2, .ro, 0, 0, 3⟩,
      ⟨"NOT_RUN_CAUSE", 8, 4, .ro, 0, 0, 15⟩,
      ⟨"GROUPS", 16, 14, .ro, 0, 0, 16383⟩,
      ⟨"AGE_S", 32, 32, .ro, 0, 0, 4294967295⟩]⟩]

/-- The registers a block holds at 0x100 and above. -/
def blockRegs (b : Block) : List RegDef :=
  match b with
  | .pkg => pkgRegs
  | .die => dieRegs
  | .spr => sprRegsA ++ sprRegsB
  | .rch => rchRegs
  | .fpl => fplRegsA ++ fplRegsB ++ fplRegsC
  | .lth => lthRegsA ++ lthRegsB ++ lthRegsC
  | .sch => schRegsA ++ schRegsB
  | .tly => tlyRegsA ++ tlyRegsB
  | .gge => ggeRegsA ++ ggeRegsB
  | .hbm => hbmRegs
  | .hpc => hpcRegs
  | .xbr => xbrRegs
  | .dma => dmaRegsA ++ dmaRegsB
  | .rng => rngRegsA ++ rngRegsB
  | .eth => ethRegsA ++ ethRegsB ++ ethRegsC
  | .zhk => zhkRegsA ++ zhkRegsB
  | .tbs => tbsRegsA ++ tbsRegsB
  | .ptp => ptpRegs
  | .mrk => mrkRegs
  | .tru => truRegsA ++ truRegsB
  | .chs => chsRegsA ++ chsRegsB
  | .chl => chsRegsA ++ chsRegsB ++ chlRegs
  | .fldg => fldgRegs
  | .fld => fldRegsA ++ fldRegsB
  | .stw => stwRegs
  | .ref => refRegsA ++ refRegsB
  | .evt => evtRegs
  | .evt1 => evt1Regs
  | .evt2 => evt2Regs
  | .evt4 => evt4Regs
  | .hwd => hwdRegsA ++ hwdRegsB
  | .ldg => ldgRegsA ++ ldgRegsB
  | .pwr => pwrRegsA ++ pwrRegsB
  | .clt => cltRegs
  | .pci => pciRegs
  | .msix => []
  | .pba => []

/-- The register of a list that lies at an offset. -/
def regAtOff (l : List RegDef) (off : Nat) : Option RegDef :=
  l.find? (fun r => decide (r.off ≤ off ∧ off < r.off + r.stride * r.count ∧ (off - r.off) % r.stride = 0))

/-- The register at an offset of a page: header below 0x100, block registers above (R63). -/
def regDef (p off : Nat) : Option RegDef :=
  match pageBlock p with
  | some .msix => none
  | some .pba => none
  | some b => if off < 0x100 then regAtOff headerRegs off else regAtOff (blockRegs b) off
  | none => none

/-- The word a list of fields resets to. -/
def fieldsReset (l : List FieldDef) : Nat := l.foldl (fun a f => a + f.reset * 2 ^ f.lo) 0

end Sys2Proof.Machine
end

