-- ==== Sys2Proof/Machine/RegNames.lean ====
section
/-! DEFINITION. Names for register offsets (`R.`), register fields as offset, low bit and width (`F.`) and sticky bit numbers (`S.`),
spelled as the register tables of the manual spell them. -/

namespace Sys2Proof.Machine

/-- A field of a register: the register offset, the low bit and the width. -/
structure FieldRef where
  off : Nat
  lo : Nat
  width : Nat
  deriving DecidableEq, Repr

abbrev F.CHS_CFG_TIMER_US : FieldRef := ⟨0x110, 32, 32⟩
abbrev F.CHS_CFG_WAKE_DIE : FieldRef := ⟨0x110, 20, 2⟩
abbrev F.CHS_CFG_WAKE_FLD : FieldRef := ⟨0x110, 22, 5⟩
abbrev F.CHS_CFG_WAKE_REGION : FieldRef := ⟨0x110, 16, 4⟩
abbrev F.CHS_CFG_WATCHDOG_US : FieldRef := ⟨0x110, 0, 16⟩
abbrev F.CHS_CTRL_START_PC : FieldRef := ⟨0x100, 8, 14⟩
abbrev F.CHS_MEM_ADDR_AUTO_INC : FieldRef := ⟨0x120, 18, 1⟩
abbrev F.CHS_MEM_ADDR_INDEX : FieldRef := ⟨0x120, 0, 16⟩
abbrev F.CHS_MEM_ADDR_SPACE : FieldRef := ⟨0x120, 16, 2⟩
abbrev F.CLAIM_LATCHED : FieldRef := ⟨0x50, 0, 16⟩
abbrev F.CLT_CFG_DRAIN_MS : FieldRef := ⟨0x108, 0, 16⟩
abbrev F.CLT_CFG_QUICK_EN : FieldRef := ⟨0x108, 16, 1⟩
abbrev F.CLT_STATUS_AGE_S : FieldRef := ⟨0x110, 32, 32⟩
abbrev F.CLT_STATUS_GROUPS : FieldRef := ⟨0x110, 16, 14⟩
abbrev F.CLT_STATUS_LAST_RESULT : FieldRef := ⟨0x110, 4, 2⟩
abbrev F.CLT_STATUS_NOT_RUN_CAUSE : FieldRef := ⟨0x110, 8, 4⟩
abbrev F.CLT_STATUS_PHASE : FieldRef := ⟨0x110, 0, 3⟩
abbrev F.CLT_STATUS_QUICK : FieldRef := ⟨0x110, 3, 1⟩
abbrev F.DMA_CH_CTRL_EN : FieldRef := ⟨0x100, 0, 1⟩
abbrev F.DMA_CH_CTRL_MODE : FieldRef := ⟨0x100, 1, 1⟩
abbrev F.DMA_CH_STATUS_CAUSE : FieldRef := ⟨0x108, 8, 4⟩
abbrev F.DMA_CH_STATUS_DESC_DONE : FieldRef := ⟨0x108, 40, 24⟩
abbrev F.DMA_CH_STATUS_RING : FieldRef := ⟨0x108, 16, 18⟩
abbrev F.DMA_CH_STATUS_STATE : FieldRef := ⟨0x108, 0, 3⟩
abbrev F.ETH_CFG_MAX_FRAME : FieldRef := ⟨0x100, 16, 14⟩
abbrev F.ETH_CFG_MODE : FieldRef := ⟨0x100, 0, 2⟩
abbrev F.ETH_EEE_EN : FieldRef := ⟨0x1E0, 0, 1⟩
abbrev F.ETH_EEE_IDLE_US : FieldRef := ⟨0x1E0, 16, 16⟩
abbrev F.ETH_EEE_TW_TX_US : FieldRef := ⟨0x1E0, 32, 16⟩
abbrev F.ETH_FLOW_ADDR_FLOW : FieldRef := ⟨0x1A0, 0, 10⟩
abbrev F.ETH_FLOW_CTRL_RESULT : FieldRef := ⟨0x1A8, 8, 4⟩
abbrev F.ETH_MACSEC_PROTECT : FieldRef := ⟨0x1E8, 0, 1⟩
abbrev F.ETH_MACSEC_PTP_BYPASS : FieldRef := ⟨0x1E8, 3, 1⟩
abbrev F.ETH_MACSEC_REPLAY_WIN : FieldRef := ⟨0x1E8, 16, 32⟩
abbrev F.ETH_MACSEC_TX_AN : FieldRef := ⟨0x1E8, 8, 2⟩
abbrev F.ETH_MACSEC_VALIDATE : FieldRef := ⟨0x1E8, 1, 2⟩
abbrev F.ETH_PFC_CTRL_PCP : FieldRef := ⟨0x198, 5, 3⟩
abbrev F.ETH_PFC_MODE : FieldRef := ⟨0x198, 0, 2⟩
abbrev F.ETH_PFC_SAMPLE_PCP : FieldRef := ⟨0x198, 2, 3⟩
abbrev F.ETH_PFC_WD_MS : FieldRef := ⟨0x198, 8, 10⟩
abbrev F.ETH_PFC_XOFF_KIB : FieldRef := ⟨0x198, 18, 12⟩
abbrev F.ETH_PFC_XON_KIB : FieldRef := ⟨0x198, 30, 12⟩
abbrev F.ETH_STATUS_LPI : FieldRef := ⟨0x108, 8, 1⟩
abbrev F.ETH_STATUS_RETIRED_LANES : FieldRef := ⟨0x108, 4, 4⟩
abbrev F.ETH_UDP_CMD_PORT : FieldRef := ⟨0x190, 16, 16⟩
abbrev F.ETH_UDP_SAMPLE_PORT : FieldRef := ⟨0x190, 0, 16⟩
abbrev F.ETH_UDP_SRC_PORT : FieldRef := ⟨0x190, 32, 16⟩
abbrev F.EVT_CNT_ADDR_EVENT : FieldRef := ⟨0x108, 0, 10⟩
abbrev F.EVT_ROUTE_ADDR_EVENT : FieldRef := ⟨0x100, 0, 10⟩
abbrev F.FLD_CH_CFG_DET_MODE : FieldRef := ⟨0x100, 5, 2⟩
abbrev F.FLD_CH_CFG_FAILSAFE_MODE : FieldRef := ⟨0x100, 3, 2⟩
abbrev F.FLD_CH_CFG_FAULT_ACTION : FieldRef := ⟨0x100, 7, 1⟩
abbrev F.FLD_CH_CFG_RANGE : FieldRef := ⟨0x100, 0, 3⟩
abbrev F.FLD_CH_CFG_WDOG_CYCLES : FieldRef := ⟨0x100, 8, 8⟩
abbrev F.FLD_CH_CODES_ALARM_CODE : FieldRef := ⟨0x120, 0, 24⟩
abbrev F.FLD_CH_CODES_FAILSAFE_CODE : FieldRef := ⟨0x120, 24, 24⟩
abbrev F.FLD_CH_CTRL_RUN : FieldRef := ⟨0x108, 0, 1⟩
abbrev F.FLD_CH_PERIOD_PERIOD_NS : FieldRef := ⟨0x110, 0, 30⟩
abbrev F.FLD_CH_SETPOINT_CODE : FieldRef := ⟨0x118, 0, 24⟩
abbrev F.FLD_CH_SLEW_RATE : FieldRef := ⟨0x128, 24, 24⟩
abbrev F.FLD_CH_SLEW_STEP : FieldRef := ⟨0x128, 0, 24⟩
abbrev F.FLD_CH_STATUS_DRIVEN : FieldRef := ⟨0x130, 40, 24⟩
abbrev F.FLD_CH_STATUS_FS_CAUSE : FieldRef := ⟨0x130, 8, 7⟩
abbrev F.FLD_CH_STATUS_HIGH_Z : FieldRef := ⟨0x130, 4, 1⟩
abbrev F.FLD_CH_STATUS_LIMITING : FieldRef := ⟨0x130, 3, 1⟩
abbrev F.FLD_CH_STATUS_STATE : FieldRef := ⟨0x130, 0, 2⟩
abbrev F.FLD_GLB_CTRL_FAILSAFE_ALL : FieldRef := ⟨0x100, 0, 1⟩
abbrev F.FLD_GLB_STATUS_AVDD_OK : FieldRef := ⟨0x108, 0, 1⟩
abbrev F.FLD_GLB_STATUS_FAILSAFE : FieldRef := ⟨0x108, 32, 32⟩
abbrev F.FPL_CFG_FORMAT : FieldRef := ⟨0x100, 7, 2⟩
abbrev F.FPL_CFG_LOG2N : FieldRef := ⟨0x100, 0, 5⟩
abbrev F.FPL_CFG_SHIFT : FieldRef := ⟨0x100, 16, 5⟩
abbrev F.FPL_CFG_TAPS : FieldRef := ⟨0x100, 5, 2⟩
abbrev F.FPL_CFG_UNSETTLED_ZAP : FieldRef := ⟨0x100, 9, 1⟩
abbrev F.FPL_COEF_ADDR_AUTO_INC : FieldRef := ⟨0x118, 21, 1⟩
abbrev F.FPL_COEF_ADDR_BANK : FieldRef := ⟨0x118, 20, 1⟩
abbrev F.FPL_COEF_ADDR_INDEX : FieldRef := ⟨0x118, 0, 20⟩
abbrev F.FPL_GAIN_ADDR_AUTO_INC : FieldRef := ⟨0x128, 19, 1⟩
abbrev F.FPL_GAIN_ADDR_BANK : FieldRef := ⟨0x128, 18, 1⟩
abbrev F.FPL_GAIN_ADDR_INDEX : FieldRef := ⟨0x128, 0, 18⟩
abbrev F.FPL_MAP_ADDR_ENTRY : FieldRef := ⟨0x138, 0, 14⟩
abbrev F.FPL_MAP_CTRL_RESULT : FieldRef := ⟨0x140, 8, 4⟩
abbrev F.FPL_REGION_ADDR_REGION : FieldRef := ⟨0x180, 0, 4⟩
abbrev F.FPL_REGION_CTRL_RESULT : FieldRef := ⟨0x188, 8, 4⟩
abbrev F.FPL_SWAP_ALIGN_BATCH : FieldRef := ⟨0x110, 13, 1⟩
abbrev F.FPL_SWAP_FADE : FieldRef := ⟨0x110, 0, 13⟩
abbrev F.GGE_DET_ADDR_DET : FieldRef := ⟨0x138, 0, 4⟩
abbrev F.GGE_RINGS_DET_RING : FieldRef := ⟨0x130, 36, 18⟩
abbrev F.GGE_RINGS_POWER_RING : FieldRef := ⟨0x130, 18, 18⟩
abbrev F.GGE_RINGS_VOLT_RING : FieldRef := ⟨0x130, 0, 18⟩
abbrev F.GGE_WSET_ADDR_WSET : FieldRef := ⟨0x100, 0, 4⟩
abbrev F.HBM_CFG_PD_IDLE_NS : FieldRef := ⟨0x100, 8, 16⟩
abbrev F.HBM_STATUS_QUICK : FieldRef := ⟨0x108, 3, 1⟩
abbrev F.HBM_STATUS_ROWS_FENCED : FieldRef := ⟨0x108, 40, 16⟩
abbrev F.HBM_STATUS_ROWS_RETIRED : FieldRef := ⟨0x108, 24, 16⟩
abbrev F.HBM_STATUS_STATE : FieldRef := ⟨0x108, 0, 3⟩
abbrev F.HBM_STATUS_TEMP : FieldRef := ⟨0x108, 16, 8⟩
abbrev F.HPC_ERR_ADDR_ADDR : FieldRef := ⟨0x108, 0, 40⟩
abbrev F.HPC_ERR_ADDR_UNCORR : FieldRef := ⟨0x108, 40, 1⟩
abbrev F.HWD_OP_ARG_AN : FieldRef := ⟨0x128, 10, 2⟩
abbrev F.HWD_OP_ARG_INDEX : FieldRef := ⟨0x128, 12, 2⟩
abbrev F.HWD_OP_ARG_PAGE : FieldRef := ⟨0x128, 2, 3⟩
abbrev F.HWD_OP_ARG_SC : FieldRef := ⟨0x128, 7, 3⟩
abbrev F.HWD_OP_ARG_SLOT : FieldRef := ⟨0x128, 16, 8⟩
abbrev F.HWD_OP_ARG_SSCI : FieldRef := ⟨0x128, 32, 32⟩
abbrev F.HWD_OP_ARG_SUBPORT : FieldRef := ⟨0x128, 5, 2⟩
abbrev F.HWD_OP_ARG_USE : FieldRef := ⟨0x128, 0, 2⟩
abbrev F.HWD_OP_CTRL_OP : FieldRef := ⟨0x130, 0, 3⟩
abbrev F.HWD_OP_CTRL_RESULT : FieldRef := ⟨0x130, 8, 4⟩
abbrev F.INJECT_MODE_COUNT : FieldRef := ⟨0x30, 16, 16⟩
abbrev F.INJECT_MODE_MODE : FieldRef := ⟨0x30, 0, 2⟩
abbrev F.LDG_CFG_CKPT_MS : FieldRef := ⟨0x100, 32, 32⟩
abbrev F.LDG_CFG_CKPT_RECORDS : FieldRef := ⟨0x100, 0, 32⟩
abbrev F.LDG_RINGS_ATTEST_RING : FieldRef := ⟨0x130, 36, 18⟩
abbrev F.LDG_RINGS_CKPT_RING : FieldRef := ⟨0x130, 0, 18⟩
abbrev F.LDG_RINGS_CMD_RING : FieldRef := ⟨0x130, 18, 18⟩
abbrev F.LDG_STATUS_EPOCH : FieldRef := ⟨0x110, 0, 32⟩
abbrev F.LDG_STATUS_OPEN : FieldRef := ⟨0x110, 32, 1⟩
abbrev F.LDG_STATUS_PENDING : FieldRef := ⟨0x110, 33, 1⟩
abbrev F.LTH_ACC_ADDR_COL : FieldRef := ⟨0x140, 8, 6⟩
abbrev F.LTH_ACC_ADDR_ROW : FieldRef := ⟨0x140, 0, 6⟩
abbrev F.LTH_ACC_ADDR_SET : FieldRef := ⟨0x140, 16, 1⟩
abbrev F.LTH_INJ_CELL_COL : FieldRef := ⟨0x130, 8, 6⟩
abbrev F.LTH_INJ_CELL_IM : FieldRef := ⟨0x130, 16, 1⟩
abbrev F.LTH_INJ_CELL_ROW : FieldRef := ⟨0x130, 0, 6⟩
abbrev F.LTH_SNAP_CTRL_HALTED : FieldRef := ⟨0x138, 2, 1⟩
abbrev F.LTH_STATUS_CARRIES : FieldRef := ⟨0x100, 16, 9⟩
abbrev F.LTH_STATUS_SPARE : FieldRef := ⟨0x100, 3, 1⟩
abbrev F.MRK_CFG_LEAD_US : FieldRef := ⟨0x100, 0, 16⟩
abbrev F.MRK_CTRL_HANDLE : FieldRef := ⟨0x130, 16, 12⟩
abbrev F.MRK_CTRL_RESULT : FieldRef := ⟨0x130, 8, 4⟩
abbrev F.PAGE_CTRL_DEBUG : FieldRef := ⟨0x8, 2, 1⟩
abbrev F.PAGE_CTRL_ENABLE : FieldRef := ⟨0x8, 0, 1⟩
abbrev F.PAGE_STATUS_READY : FieldRef := ⟨0x10, 0, 1⟩
abbrev F.PAGE_STATUS_RETIRED : FieldRef := ⟨0x10, 1, 1⟩
abbrev F.PCI_BAR2_BASE_BASE : FieldRef := ⟨0x100, 0, 40⟩
abbrev F.PCI_LINK_L0 : FieldRef := ⟨0x108, 9, 1⟩
abbrev F.PCI_LINK_SPEED : FieldRef := ⟨0x108, 0, 4⟩
abbrev F.PCI_LINK_WIDTH : FieldRef := ⟨0x108, 4, 5⟩
abbrev F.PKG_DATE_DATE : FieldRef := ⟨0x108, 0, 16⟩
abbrev F.PTP_ASYM_ASYM : FieldRef := ⟨0x128, 0, 32⟩
abbrev F.PTP_CFG_DOMAIN : FieldRef := ⟨0x100, 8, 8⟩
abbrev F.PTP_CFG_LOCK_NS : FieldRef := ⟨0x100, 32, 16⟩
abbrev F.PTP_CFG_P2P : FieldRef := ⟨0x100, 18, 1⟩
abbrev F.PTP_CFG_PORT : FieldRef := ⟨0x100, 0, 3⟩
abbrev F.PTP_CFG_TRANSPORT : FieldRef := ⟨0x100, 16, 2⟩
abbrev F.PTP_STATUS_LOG_SYNC : FieldRef := ⟨0x108, 16, 8⟩
abbrev F.PTP_STATUS_QUALIFIED : FieldRef := ⟨0x108, 3, 1⟩
abbrev F.PTP_STATUS_STATE : FieldRef := ⟨0x108, 0, 3⟩
abbrev F.PWR_CFG_POWER_WARN_W : FieldRef := ⟨0x128, 32, 10⟩
abbrev F.PWR_CFG_START_ON : FieldRef := ⟨0x128, 0, 24⟩
abbrev F.PWR_CFG_TRIP_MARGIN : FieldRef := ⟨0x128, 24, 8⟩
abbrev F.PWR_DOMAIN_STATUS_ON : FieldRef := ⟨0x108, 0, 24⟩
abbrev F.PWR_DOMAIN_STATUS_RESULT : FieldRef := ⟨0x108, 32, 4⟩
abbrev F.PWR_POWER_NOW_W : FieldRef := ⟨0x120, 0, 16⟩
abbrev F.PWR_POWER_PEAK_W : FieldRef := ⟨0x120, 16, 16⟩
abbrev F.PWR_RAIL_CURRENT : FieldRef := ⟨0x180, 32, 16⟩
abbrev F.PWR_RAIL_MV : FieldRef := ⟨0x180, 0, 16⟩
abbrev F.PWR_RAIL_TARGET_MV : FieldRef := ⟨0x180, 16, 16⟩
abbrev F.RCH_COEF_ADDR_PRESET : FieldRef := ⟨0x110, 0, 3⟩
abbrev F.RCH_COEF_ADDR_TAP : FieldRef := ⟨0x110, 8, 7⟩
abbrev F.RCH_STATUS_QUEUE_MAX : FieldRef := ⟨0x108, 48, 9⟩
abbrev F.REF_CFG_EXT_DEBOUNCE_US : FieldRef := ⟨0x100, 18, 16⟩
abbrev F.REF_CFG_HB_TIMEOUT_MS : FieldRef := ⟨0x100, 8, 10⟩
abbrev F.REF_CFG_POLICY : FieldRef := ⟨0x100, 0, 2⟩
abbrev F.REF_CFG_PREFER : FieldRef := ⟨0x100, 2, 1⟩
abbrev F.REF_COUNTS_FAILOVERS : FieldRef := ⟨0x138, 0, 16⟩
abbrev F.REF_COUNTS_SWITCHOVERS : FieldRef := ⟨0x138, 16, 16⟩
abbrev F.REF_GRANT_ADDR_MASTER : FieldRef := ⟨0x128, 0, 8⟩
abbrev F.REF_HB_BEATS : FieldRef := ⟨0x118, 32, 32⟩
abbrev F.REF_HB_SEQ : FieldRef := ⟨0x118, 0, 16⟩
abbrev F.REF_STATUS_ACTIVE : FieldRef := ⟨0x110, 1, 1⟩
abbrev F.REF_STATUS_ARMED : FieldRef := ⟨0x110, 0, 1⟩
abbrev F.REF_STATUS_CLAIM_A : FieldRef := ⟨0x110, 16, 16⟩
abbrev F.REF_STATUS_CLAIM_B : FieldRef := ⟨0x110, 32, 16⟩
abbrev F.REF_STATUS_EXT_A : FieldRef := ⟨0x110, 14, 1⟩
abbrev F.REF_STATUS_EXT_B : FieldRef := ⟨0x110, 15, 1⟩
abbrev F.REF_STATUS_MAX_ISSUED : FieldRef := ⟨0x110, 48, 16⟩
abbrev F.REF_STATUS_STATE_A : FieldRef := ⟨0x110, 8, 3⟩
abbrev F.REF_STATUS_STATE_B : FieldRef := ⟨0x110, 11, 3⟩
abbrev F.RETRY_COUNT_TOTAL : FieldRef := ⟨0x48, 16, 32⟩
abbrev F.RNG_ADDR_RING : FieldRef := ⟨0x100, 0, 18⟩
abbrev F.RNG_CTRL_RESULT : FieldRef := ⟨0x108, 8, 4⟩
abbrev F.SCH_PLAN_ADDR_REGION : FieldRef := ⟨0x100, 0, 4⟩
abbrev F.SCH_PLAN_CTRL_RESULT : FieldRef := ⟨0x108, 8, 4⟩
abbrev F.SCH_SEAT_LATHE : FieldRef := ⟨0x200, 0, 9⟩
abbrev F.SCH_SEAT_MOVED : FieldRef := ⟨0x200, 32, 16⟩
abbrev F.SCH_SEAT_PENDING : FieldRef := ⟨0x200, 9, 9⟩
abbrev F.SPR_BUNDLE_DEGRADED : FieldRef := ⟨0x118, 4, 1⟩
abbrev F.SPR_BUNDLE_DOWN : FieldRef := ⟨0x118, 5, 1⟩
abbrev F.SPR_BUNDLE_LIVE : FieldRef := ⟨0x118, 0, 4⟩
abbrev F.SPR_CFG_BUNDLE : FieldRef := ⟨0x100, 2, 1⟩
abbrev F.SPR_EXPECT_ID_EXPECT_ID : FieldRef := ⟨0x108, 0, 32⟩
abbrev F.SPR_ST_ADDR_ENTRY : FieldRef := ⟨0x130, 0, 18⟩
abbrev F.SPR_ST_CTRL_RESULT : FieldRef := ⟨0x138, 8, 4⟩
abbrev F.SPR_SYNC_CMD_ACK_STATUS : FieldRef := ⟨0x128, 18, 1⟩
abbrev F.SPR_SYNC_CMD_LAST_SEQ : FieldRef := ⟨0x128, 24, 8⟩
abbrev F.SPR_SYNC_CMD_PEER_STATUS : FieldRef := ⟨0x128, 32, 32⟩
abbrev F.SPR_SYNC_CMD_PENDING : FieldRef := ⟨0x128, 17, 1⟩
abbrev F.SPR_SYNC_CMD_TRIG : FieldRef := ⟨0x128, 0, 4⟩
abbrev F.STW_RL_ADDR_INDEX : FieldRef := ⟨0x108, 0, 12⟩
abbrev F.STW_RL_CTRL_RESULT : FieldRef := ⟨0x110, 8, 4⟩
abbrev F.TBS_CFG_AUTO : FieldRef := ⟨0x100, 6, 1⟩
abbrev F.TBS_CFG_BACKUP : FieldRef := ⟨0x100, 3, 3⟩
abbrev F.TBS_CFG_REVERT : FieldRef := ⟨0x100, 7, 1⟩
abbrev F.TBS_CFG_SLEW_PPM : FieldRef := ⟨0x100, 8, 8⟩
abbrev F.TBS_CFG_SOURCE : FieldRef := ⟨0x100, 0, 3⟩
abbrev F.TBS_CFG_STEP_EN : FieldRef := ⟨0x100, 16, 1⟩
abbrev F.TBS_CFG_STEP_NS : FieldRef := ⟨0x100, 24, 32⟩
abbrev F.TBS_STATUS_ACTIVE : FieldRef := ⟨0x108, 0, 3⟩
abbrev F.TBS_STATUS_HOLD : FieldRef := ⟨0x108, 4, 1⟩
abbrev F.TBS_STATUS_RATE_ADJ : FieldRef := ⟨0x108, 16, 32⟩
abbrev F.TBS_STATUS_SLEWING : FieldRef := ⟨0x108, 5, 1⟩
abbrev F.TBS_STATUS_TIME_VALID : FieldRef := ⟨0x108, 3, 1⟩
abbrev F.TBS_TRIG_CFG_LEVEL : FieldRef := ⟨0x140, 16, 1⟩
abbrev F.TLY_CTX_ADDR_CTX : FieldRef := ⟨0x100, 0, 4⟩
abbrev F.TLY_CTX_CTRL_RESULT : FieldRef := ⟨0x108, 8, 4⟩
abbrev F.TRU_CFG_BW : FieldRef := ⟨0x100, 4, 10⟩
abbrev F.TRU_CFG_DISPUTE_PPB : FieldRef := ⟨0x100, 54, 10⟩
abbrev F.TRU_CFG_GUARD_S : FieldRef := ⟨0x100, 44, 10⟩
abbrev F.TRU_CFG_HIST_S : FieldRef := ⟨0x100, 32, 12⟩
abbrev F.TRU_CFG_REVERT : FieldRef := ⟨0x100, 0, 1⟩
abbrev F.TRU_CFG_REVERT_S : FieldRef := ⟨0x100, 16, 16⟩
abbrev F.TRU_CLKOUT_EN : FieldRef := ⟨0x240, 0, 1⟩
abbrev F.TRU_CLKOUT_FREQ_KHZ : FieldRef := ⟨0x240, 8, 20⟩
abbrev F.TRU_HO_CFG_AGING_PPT : FieldRef := ⟨0x210, 16, 16⟩
abbrev F.TRU_HO_CFG_INIT_PPT : FieldRef := ⟨0x210, 0, 16⟩
abbrev F.TRU_HO_CFG_LIMIT_NS : FieldRef := ⟨0x210, 32, 32⟩
abbrev F.TRU_HO_STATUS_ELAPSED_S : FieldRef := ⟨0x218, 0, 32⟩
abbrev F.TRU_HO_STATUS_OVER : FieldRef := ⟨0x218, 63, 1⟩
abbrev F.TRU_PPS_OUT_EN : FieldRef := ⟨0x280, 0, 1⟩
abbrev F.TRU_PPS_OUT_WIDTH_US : FieldRef := ⟨0x280, 1, 19⟩
abbrev F.TRU_PRIO_EN : FieldRef := ⟨0x110, 4, 1⟩
abbrev F.TRU_PRIO_PRIO : FieldRef := ⟨0x110, 8, 4⟩
abbrev F.TRU_PRIO_REF : FieldRef := ⟨0x110, 0, 4⟩
abbrev F.TRU_REF_CFG_FREQ : FieldRef := ⟨0x150, 56, 3⟩
abbrev F.TRU_REF_CFG_HARD_PPB : FieldRef := ⟨0x150, 20, 20⟩
abbrev F.TRU_REF_CFG_QUAL_S : FieldRef := ⟨0x150, 48, 8⟩
abbrev F.TRU_REF_CFG_SOFT_PPB : FieldRef := ⟨0x150, 0, 20⟩
abbrev F.TRU_REF_CFG_WINDOW_S : FieldRef := ⟨0x150, 40, 8⟩
abbrev F.TRU_REF_STATUS_LOS : FieldRef := ⟨0x1B0, 34, 1⟩
abbrev F.TRU_REF_STATUS_OFFSET : FieldRef := ⟨0x1B0, 0, 32⟩
abbrev F.TRU_REF_STATUS_QUALIFIED : FieldRef := ⟨0x1B0, 32, 1⟩
abbrev F.TRU_REF_STATUS_SOFT : FieldRef := ⟨0x1B0, 33, 1⟩
abbrev F.TRU_STATUS_DISPUTE : FieldRef := ⟨0x108, 7, 1⟩
abbrev F.TRU_STATUS_ENTRY : FieldRef := ⟨0x108, 3, 3⟩
abbrev F.TRU_STATUS_HO_VALID : FieldRef := ⟨0x108, 8, 1⟩
abbrev F.TRU_STATUS_PHASE_ERR : FieldRef := ⟨0x108, 32, 32⟩
abbrev F.TRU_STATUS_SELECTED : FieldRef := ⟨0x108, 6, 1⟩
abbrev F.TRU_STATUS_STATE : FieldRef := ⟨0x108, 0, 3⟩
abbrev F.TRU_STATUS_STEPS : FieldRef := ⟨0x108, 16, 16⟩
abbrev F.TRU_STATUS_XO_LOST : FieldRef := ⟨0x108, 9, 1⟩
abbrev F.WRITE_LOCK_LOCKED : FieldRef := ⟨0x58, 0, 1⟩
abbrev F.WRITE_LOCK_STEWARD_EXEMPT : FieldRef := ⟨0x58, 1, 1⟩
abbrev F.XBR_PAIR_ADDR_MASTER : FieldRef := ⟨0x100, 0, 8⟩
abbrev F.XBR_PAIR_ADDR_TARGET : FieldRef := ⟨0x100, 8, 4⟩
abbrev F.ZHK_ASYM_ASYM : FieldRef := ⟨0x118, 0, 32⟩
abbrev F.ZHK_CFG_DOWN_HOLD_MS : FieldRef := ⟨0x100, 24, 16⟩
abbrev F.ZHK_CFG_DOWN_THRESH : FieldRef := ⟨0x100, 8, 8⟩
abbrev F.ZHK_CFG_STEP_EN : FieldRef := ⟨0x100, 0, 1⟩
abbrev F.ZHK_CFG_UP_THRESH : FieldRef := ⟨0x100, 16, 8⟩
abbrev F.ZHK_GANG_MEMBER : FieldRef := ⟨0x240, 2, 3⟩
abbrev F.ZHK_GANG_SIZE : FieldRef := ⟨0x240, 0, 2⟩
abbrev F.ZHK_GANG_TIME_TOL : FieldRef := ⟨0x240, 16, 32⟩
abbrev F.ZHK_LANE_CNT_UNCORR : FieldRef := ⟨0x1E0, 16, 32⟩
abbrev F.ZHK_REGION_MODE : FieldRef := ⟨0x248, 0, 2⟩
abbrev F.ZHK_STATUS_LANES : FieldRef := ⟨0x108, 3, 4⟩
abbrev F.ZHK_STATUS_PEER_MEMBER : FieldRef := ⟨0x108, 7, 3⟩
abbrev F.ZHK_STATUS_RETIRED_LANES : FieldRef := ⟨0x108, 16, 8⟩
abbrev F.ZHK_STATUS_ROLE : FieldRef := ⟨0x108, 10, 2⟩
abbrev F.ZHK_STATUS_RX_USE : FieldRef := ⟨0x108, 32, 8⟩
abbrev F.ZHK_STATUS_STATE : FieldRef := ⟨0x108, 0, 3⟩
abbrev F.ZHK_STATUS_TX_USE : FieldRef := ⟨0x108, 24, 8⟩
abbrev R.CHL_HBASE : Nat := 0x140
abbrev R.CHL_POST : Nat := 0x148
abbrev R.CHS_CFG : Nat := 0x110
abbrev R.CHS_CNT : Nat := 0x180
abbrev R.CHS_CNT_CLEAR : Nat := 0x1B8
abbrev R.CHS_CTRL : Nat := 0x100
abbrev R.CHS_FAULT : Nat := 0x118
abbrev R.CHS_MEM_DATA : Nat := 0x128
abbrev R.CHS_STATUS : Nat := 0x108
abbrev R.CLAIM : Nat := 0x50
abbrev R.CLT_CTRL : Nat := 0x100
abbrev R.CLT_STATUS : Nat := 0x110
abbrev R.DIE_ID : Nat := 0x100
abbrev R.DIE_INFO : Nat := 0x108
abbrev R.DMA_CH_CNT : Nat := 0x120
abbrev R.DMA_CH_CTRL : Nat := 0x100
abbrev R.DMA_CH_DESC : Nat := 0x110
abbrev R.DMA_CH_RD : Nat := 0x118
abbrev R.DMA_CH_STATUS : Nat := 0x108
abbrev R.ETH_CFG : Nat := 0x100
abbrev R.ETH_CNT : Nat := 0x200
abbrev R.ETH_CNT_CLEAR : Nat := 0x280
abbrev R.ETH_EEE : Nat := 0x1E0
abbrev R.ETH_FLOW_CTRL : Nat := 0x1A8
abbrev R.ETH_FLOW_DATA : Nat := 0x1B0
abbrev R.ETH_IP4 : Nat := 0x130
abbrev R.ETH_IP6 : Nat := 0x150
abbrev R.ETH_MAC : Nat := 0x110
abbrev R.ETH_PFC : Nat := 0x198
abbrev R.ETH_STATUS : Nat := 0x108
abbrev R.EVENT_BASE : Nat := 0x38
abbrev R.EVT_CNT_DATA : Nat := 0x110
abbrev R.EVT_IRQ_STATUS : Nat := 0x100
abbrev R.EVT_MASK : Nat := 0x180
abbrev R.EVT_PENDING : Nat := 0x100
abbrev R.EVT_POP : Nat := 0x100
abbrev R.EVT_ROUTE_DATA : Nat := 0x108
abbrev R.FLD_CH_CFG : Nat := 0x100
abbrev R.FLD_CH_CNT : Nat := 0x180
abbrev R.FLD_CH_CNT_CLEAR : Nat := 0x1B0
abbrev R.FLD_CH_CODES : Nat := 0x120
abbrev R.FLD_CH_CTRL : Nat := 0x108
abbrev R.FLD_CH_MEAS : Nat := 0x138
abbrev R.FLD_CH_SETPOINT : Nat := 0x118
abbrev R.FLD_CH_STATUS : Nat := 0x130
abbrev R.FLD_GLB_CTRL : Nat := 0x100
abbrev R.FLD_GLB_STATUS : Nat := 0x108
abbrev R.FPL_CFG : Nat := 0x100
abbrev R.FPL_CNT : Nat := 0x1C0
abbrev R.FPL_CNT_CLEAR : Nat := 0x208
abbrev R.FPL_COEF_DATA : Nat := 0x120
abbrev R.FPL_GAIN_DATA : Nat := 0x130
abbrev R.FPL_MAP_CTRL : Nat := 0x140
abbrev R.FPL_MAP_DATA : Nat := 0x148
abbrev R.FPL_MODEL_CTRL : Nat := 0x178
abbrev R.FPL_REGION_ADDR : Nat := 0x180
abbrev R.FPL_REGION_CTRL : Nat := 0x188
abbrev R.FPL_REGION_DATA : Nat := 0x190
abbrev R.FPL_STATUS : Nat := 0x108
abbrev R.FPL_SWAP : Nat := 0x110
abbrev R.GGE_CNT : Nat := 0x180
abbrev R.GGE_CNT_CLEAR : Nat := 0x1C0
abbrev R.GGE_DET_CTRL : Nat := 0x140
abbrev R.GGE_DET_DATA : Nat := 0x148
abbrev R.GGE_DET_STATUS : Nat := 0x200
abbrev R.GGE_LINE : Nat := 0x280
abbrev R.GGE_WSET_CTRL : Nat := 0x108
abbrev R.GGE_WSET_DATA : Nat := 0x110
abbrev R.HBM_CNT : Nat := 0x180
abbrev R.HBM_CNT_CLEAR : Nat := 0x1B0
abbrev R.HBM_STATUS : Nat := 0x108
abbrev R.HPC_STATUS : Nat := 0x100
abbrev R.HWD_BOOT_NONCE : Nat := 0x108
abbrev R.HWD_CTRL : Nat := 0x118
abbrev R.HWD_LOCK : Nat := 0x1C0
abbrev R.HWD_MEAS : Nat := 0x200
abbrev R.HWD_OP_ADDR : Nat := 0x120
abbrev R.HWD_OP_ARG : Nat := 0x128
abbrev R.HWD_OP_CTRL : Nat := 0x130
abbrev R.HWD_OP_IN : Nat := 0x140
abbrev R.HWD_OP_OUT : Nat := 0x180
abbrev R.HWD_OP_SCI : Nat := 0x138
abbrev R.HWD_STATUS : Nat := 0x100
abbrev R.INJECT : Nat := 0x28
abbrev R.INJECT_MODE : Nat := 0x30
abbrev R.LDG_CFG : Nat := 0x100
abbrev R.LDG_CHAIN : Nat := 0x140
abbrev R.LDG_CKPT : Nat := 0x120
abbrev R.LDG_CNT : Nat := 0x180
abbrev R.LDG_CNT_CLEAR : Nat := 0x1A8
abbrev R.LDG_CTRL : Nat := 0x108
abbrev R.LDG_PERSISTED : Nat := 0x128
abbrev R.LDG_RINGS : Nat := 0x130
abbrev R.LDG_SEQ : Nat := 0x118
abbrev R.LTH_ACC_IM : Nat := 0x150
abbrev R.LTH_ACC_RE : Nat := 0x148
abbrev R.LTH_CNT : Nat := 0x180
abbrev R.LTH_CNT_CLEAR : Nat := 0x1C0
abbrev R.LTH_JOB : Nat := 0x108
abbrev R.LTH_SNAP_CTRL : Nat := 0x138
abbrev R.LTH_SNAP_INFO : Nat := 0x158
abbrev R.LTH_STATUS : Nat := 0x100
abbrev R.LTH_WIT_DIFF : Nat := 0x120
abbrev R.LTH_WIT_FAIL : Nat := 0x110
abbrev R.LTH_WIT_JOB : Nat := 0x128
abbrev R.LTH_WIT_MASK : Nat := 0x118
abbrev R.MRK_CTRL : Nat := 0x130
abbrev R.MRK_DATA : Nat := 0x110
abbrev R.MRK_DONE : Nat := 0x138
abbrev R.MRK_STATUS : Nat := 0x108
abbrev R.PAGE_CTRL : Nat := 0x8
abbrev R.PAGE_ID : Nat := 0x0
abbrev R.PAGE_STATUS : Nat := 0x10
abbrev R.PCI_BAR2_BASE : Nat := 0x100
abbrev R.PCI_CNT : Nat := 0x180
abbrev R.PCI_CNT_CLEAR : Nat := 0x1A0
abbrev R.PKG_SERIAL : Nat := 0x100
abbrev R.PTP_GM_ID : Nat := 0x120
abbrev R.PTP_OFFSET : Nat := 0x110
abbrev R.PTP_PATH_DELAY : Nat := 0x118
abbrev R.PWR_AON : Nat := 0x130
abbrev R.PWR_AON_SESSION : Nat := 0x138
abbrev R.PWR_CFG : Nat := 0x128
abbrev R.PWR_CTRL : Nat := 0x110
abbrev R.PWR_DOMAIN_REQ : Nat := 0x100
abbrev R.PWR_DOMAIN_STATUS : Nat := 0x108
abbrev R.PWR_TEMP : Nat := 0x118
abbrev R.RCH_CNT : Nat := 0x180
abbrev R.RCH_CNT_CLEAR : Nat := 0x1B0
abbrev R.RCH_COEF_DATA : Nat := 0x118
abbrev R.RCH_CTRL : Nat := 0x100
abbrev R.RCH_STATUS : Nat := 0x108
abbrev R.REF_CFG : Nat := 0x100
abbrev R.REF_CTRL : Nat := 0x108
abbrev R.REF_GRANT_ADDR : Nat := 0x128
abbrev R.REF_GRANT_DATA : Nat := 0x130
abbrev R.REF_HB : Nat := 0x118
abbrev R.RETRY_CFG : Nat := 0x40
abbrev R.RETRY_COUNT : Nat := 0x48
abbrev R.RNG_ADVANCE : Nat := 0x150
abbrev R.RNG_CTRL : Nat := 0x108
abbrev R.RNG_DATA : Nat := 0x110
abbrev R.RNG_FCO : Nat := 0x180
abbrev R.RNG_WM_POP : Nat := 0x158
abbrev R.SCH_CNT : Nat := 0x180
abbrev R.SCH_CNT_CLEAR : Nat := 0x1C0
abbrev R.SCH_LOAD : Nat := 0x158
abbrev R.SCH_PLAN_CTRL : Nat := 0x108
abbrev R.SCH_PLAN_DATA : Nat := 0x110
abbrev R.SCH_STATUS : Nat := 0x150
abbrev R.SPR_CFG : Nat := 0x100
abbrev R.SPR_CNT : Nat := 0x180
abbrev R.SPR_CNT_CLEAR : Nat := 0x1D8
abbrev R.SPR_LINK_STATUS : Nat := 0x110
abbrev R.SPR_ST_CTRL : Nat := 0x138
abbrev R.SPR_ST_DATA : Nat := 0x140
abbrev R.SPR_SYNC_CMD : Nat := 0x128
abbrev R.SPR_SYNC_INDEX : Nat := 0x120
abbrev R.STICKY : Nat := 0x18
abbrev R.STICKY_EVT_EN : Nat := 0x20
abbrev R.STW_RL_ADDR : Nat := 0x108
abbrev R.STW_RL_CTRL : Nat := 0x110
abbrev R.STW_RL_DATA : Nat := 0x118
abbrev R.STW_RL_STATUS : Nat := 0x100
abbrev R.TBS_CFG : Nat := 0x100
abbrev R.TBS_SET_S : Nat := 0x128
abbrev R.TBS_SET_SUB : Nat := 0x130
abbrev R.TBS_ST32_NOW : Nat := 0x120
abbrev R.TBS_STATUS : Nat := 0x108
abbrev R.TBS_TIME_S : Nat := 0x110
abbrev R.TBS_TIME_SUB : Nat := 0x118
abbrev R.TBS_TRIGIN_CFG : Nat := 0x1C0
abbrev R.TBS_TRIGIN_POP : Nat := 0x1C8
abbrev R.TBS_TRIG_CFG : Nat := 0x140
abbrev R.TLY_CNT : Nat := 0x200
abbrev R.TLY_CNT_CLEAR : Nat := 0x258
abbrev R.TLY_CTX_CTRL : Nat := 0x108
abbrev R.TLY_CTX_DATA : Nat := 0x110
abbrev R.TLY_CTX_STATUS : Nat := 0x180
abbrev R.TLY_STATUS : Nat := 0x150
abbrev R.TRU_CLKOUT : Nat := 0x240
abbrev R.TRU_HO_FREQ : Nat := 0x220
abbrev R.TRU_HO_STATUS : Nat := 0x218
abbrev R.TRU_PRIO : Nat := 0x110
abbrev R.TRU_REF_CFG : Nat := 0x150
abbrev R.TRU_REF_STATUS : Nat := 0x1B0
abbrev R.TRU_STEP : Nat := 0x228
abbrev R.TRU_STEP_TIME : Nat := 0x230
abbrev R.WRITE_LOCK : Nat := 0x58
abbrev R.XBR_CNT : Nat := 0x1C0
abbrev R.XBR_CNT_CLEAR : Nat := 0x1E0
abbrev R.XBR_MASTER_STATUS : Nat := 0x110
abbrev R.XBR_PAIR_DATA : Nat := 0x108
abbrev R.ZHK_CNT : Nat := 0x180
abbrev R.ZHK_CNT_CLEAR : Nat := 0x1D8
abbrev R.ZHK_GANG : Nat := 0x240
abbrev R.ZHK_LANE_CNT : Nat := 0x1E0
abbrev R.ZHK_PEER_OFFSET : Nat := 0x110
abbrev R.ZHK_REGION : Nat := 0x248
abbrev R.ZHK_SHARED : Nat := 0x2C8
abbrev S.CFG_REFUSED : Nat := 0
abbrev S.CHS_BUS_REFUSED : Nat := 8
abbrev S.CHS_FAULT : Nat := 5
abbrev S.CHS_H_ERROR : Nat := 14
abbrev S.CHS_MEM_CORR : Nat := 6
abbrev S.CHS_MEM_UNCORR : Nat := 7
abbrev S.CHS_OUT_REFUSED : Nat := 9
abbrev S.CHS_POST_OVF : Nat := 13
abbrev S.CHS_USER : Nat := 11
abbrev S.CHS_WAKE_OVERRUN : Nat := 10
abbrev S.CHS_WATCHDOG : Nat := 12
abbrev S.CLAIM_REFUSED : Nat := 2
abbrev S.CLAIM_TIE : Nat := 3
abbrev S.CLT_GROUP_FAIL : Nat := 6
abbrev S.CLT_NOT_RUN : Nat := 5
abbrev S.CLT_START_FAIL : Nat := 7
abbrev S.ETH_CMD_REJECTED : Nat := 6
abbrev S.ETH_LANE_RETIRED : Nat := 13
abbrev S.ETH_LINK_DOWN : Nat := 5
abbrev S.ETH_MACSEC_FAIL : Nat := 11
abbrev S.ETH_PAUSE_WD : Nat := 7
abbrev S.ETH_PN_LIMIT : Nat := 12
abbrev S.ETH_RX_OVERFLOW : Nat := 10
abbrev S.ETH_SEQ_GAP : Nat := 9
abbrev S.ETH_TRUNC : Nat := 8
abbrev S.EVT_QUEUE_OVF_A : Nat := 5
abbrev S.EVT_QUEUE_OVF_B : Nat := 6
abbrev S.FLDG_FAILSAFE_ALL : Nat := 6
abbrev S.FLDG_RAIL_FAULT : Nat := 5
abbrev S.FLD_FAILSAFE : Nat := 9
abbrev S.FLD_OPEN_LOOP : Nat := 5
abbrev S.FLD_WDOG : Nat := 8
abbrev S.FPL_COEF_WRITE_REFUSED : Nat := 8
abbrev S.FPL_GAIN_WRITE_REFUSED : Nat := 9
abbrev S.FPL_LATE : Nat := 13
abbrev S.FPL_MEM_CORR : Nat := 14
abbrev S.FPL_MEM_UNCORR : Nat := 15
abbrev S.FPL_MODEL_RANGE : Nat := 11
abbrev S.FPL_OVERLOAD : Nat := 5
abbrev S.FPL_SATURATED : Nat := 7
abbrev S.FPL_SWAP_COLLAPSED : Nat := 10
abbrev S.FPL_TB_FULL : Nat := 12
abbrev S.FPL_UNMAPPED : Nat := 6
abbrev S.GGE_DET_SKIP : Nat := 7
abbrev S.GGE_LINE_SUSPENDED : Nat := 10
abbrev S.GGE_RECORD_DROP : Nat := 9
abbrev S.GGE_VOLT_SAT : Nat := 8
abbrev S.GGE_WEIGHT_WRITE_REFUSED : Nat := 5
abbrev S.GGE_WSWAP_COLLAPSED : Nat := 6
abbrev S.HBM_QUICK_MISS : Nat := 6
abbrev S.HBM_REPAIR_EXHAUSTED : Nat := 9
abbrev S.HBM_RESERVED_ACCESS : Nat := 8
abbrev S.HBM_TEMP_HIGH : Nat := 7
abbrev S.HBM_TRAIN_FAIL : Nat := 5
abbrev S.HPC_ECC_CORR : Nat := 5
abbrev S.HPC_ECC_UNCORR : Nat := 6
abbrev S.HPC_ROW_RETIRED : Nat := 7
abbrev S.HWD_BOOT_FALLBACK : Nat := 5
abbrev S.HWD_IDENTITY_FAIL : Nat := 6
abbrev S.HWD_NO_NEXT_KEY : Nat := 9
abbrev S.HWD_OP_REFUSED : Nat := 10
abbrev S.HWD_RELOCK : Nat := 8
abbrev S.HWD_UNLOCK : Nat := 7
abbrev S.LDG_CKPT_LATE : Nat := 6
abbrev S.LDG_PERSIST_FAIL : Nat := 5
abbrev S.LDG_RESUMED : Nat := 7
abbrev S.LOCK_REFUSED : Nat := 1
abbrev S.LTH_HANDSHAKE_TO : Nat := 6
abbrev S.LTH_SNAP_DONE : Nat := 7
abbrev S.LTH_WIT_FAIL : Nat := 5
abbrev S.MRK_DONE_OVF : Nat := 8
abbrev S.MRK_DROPPED : Nat := 6
abbrev S.MRK_LATE : Nat := 5
abbrev S.MRK_TABLE_FULL : Nat := 7
abbrev S.PCI_ACCESS_FAULT : Nat := 5
abbrev S.PCI_BAR2_ERROR : Nat := 8
abbrev S.PCI_GATED_WRITE : Nat := 6
abbrev S.PCI_LINK_DOWN : Nat := 7
abbrev S.PERMANENT : Nat := 4
abbrev S.PTP_ANNOUNCE_TO : Nat := 8
abbrev S.PTP_DISQUALIFIED : Nat := 5
abbrev S.PTP_GM_CHANGE : Nat := 7
abbrev S.PTP_QUALIFIED : Nat := 6
abbrev S.PWR_GATE_REFUSED : Nat := 5
abbrev S.PWR_PMBUS_FAIL : Nat := 11
abbrev S.PWR_POWER_HIGH : Nat := 8
abbrev S.PWR_RAIL_FAULT : Nat := 7
abbrev S.PWR_RAIL_WARN : Nat := 6
abbrev S.PWR_TEMP_HIGH : Nat := 9
abbrev S.PWR_TEMP_TRIP : Nat := 10
abbrev S.RCH_OVERRUN : Nat := 5
abbrev S.RCH_STATE_CORR : Nat := 7
abbrev S.RCH_STATE_UNCORR : Nat := 8
abbrev S.RCH_SYNC_LATE : Nat := 6
abbrev S.REF_ARBITER_DISAGREE : Nat := 10
abbrev S.REF_BAD_BEAT : Nat := 11
abbrev S.REF_CLAIM_EXHAUSTED : Nat := 9
abbrev S.REF_EXT_FAIL : Nat := 6
abbrev S.REF_FAILOVER : Nat := 7
abbrev S.REF_HB_TIMEOUT : Nat := 5
abbrev S.REF_NO_STANDBY : Nat := 8
abbrev S.REF_SWITCHOVER : Nat := 12
abbrev S.RNG_ADVANCE_REFUSED : Nat := 7
abbrev S.RNG_DISCARDED : Nat := 10
abbrev S.RNG_NO_ROOM : Nat := 5
abbrev S.RNG_TOO_BIG : Nat := 6
abbrev S.RNG_WM_EVENT : Nat := 8
abbrev S.RNG_WM_OVF : Nat := 9
abbrev S.SCH_BACKLOG : Nat := 6
abbrev S.SCH_BLANK_CORR : Nat := 10
abbrev S.SCH_BLANK_UNCORR : Nat := 11
abbrev S.SCH_DEADLINE_ZAP : Nat := 5
abbrev S.SCH_RATE_EXCEEDED : Nat := 13
abbrev S.SCH_REMAP_DONE : Nat := 9
abbrev S.SCH_REPLAY_DROPPED : Nat := 7
abbrev S.SCH_SEAT_BARE : Nat := 8
abbrev S.SCH_TB_UNCORR : Nat := 12
abbrev S.SPR_BLOCK_CRC : Nat := 9
abbrev S.SPR_BLOCK_LENGTH : Nat := 20
abbrev S.SPR_BUNDLE_DEGRADED : Nat := 17
abbrev S.SPR_BUNDLE_DOWN : Nat := 18
abbrev S.SPR_FORMAT_MISMATCH : Nat := 13
abbrev S.SPR_ID_MISMATCH : Nat := 16
abbrev S.SPR_INDEX_BACK : Nat := 11
abbrev S.SPR_INDEX_GAP : Nat := 10
abbrev S.SPR_LOCK_LOST : Nat := 6
abbrev S.SPR_ORDER_FAIL : Nat := 15
abbrev S.SPR_OVERRANGE : Nat := 21
abbrev S.SPR_RETRAIN : Nat := 7
abbrev S.SPR_RETRAIN_FAIL : Nat := 8
abbrev S.SPR_STEP_FAIL : Nat := 14
abbrev S.SPR_SYNC_TIMEOUT : Nat := 19
abbrev S.SPR_SYNC_UNSUPPORTED : Nat := 22
abbrev S.SPR_UNCORR : Nat := 5
abbrev S.SPR_UNKNOWN_STREAM : Nat := 12
abbrev S.STW_LIST_FULL : Nat := 7
abbrev S.STW_LIST_INVALID : Nat := 8
abbrev S.STW_PERSIST_FAIL : Nat := 9
abbrev S.STW_STANDBY_WRITE : Nat := 5
abbrev S.STW_UNIT_RETIRED : Nat := 6
abbrev S.TBS_SLEW_START : Nat := 8
abbrev S.TBS_SRC_LOST : Nat := 5
abbrev S.TBS_SRC_SWITCH : Nat := 6
abbrev S.TBS_TIME_STEP : Nat := 7
abbrev S.TBS_TIME_VALID : Nat := 10
abbrev S.TBS_TRIGIN_OVF : Nat := 9
abbrev S.TLY_EMIT_FAIL : Nat := 6
abbrev S.TLY_HBM_UNCORR : Nat := 10
abbrev S.TLY_HDR_LOST : Nat := 11
abbrev S.TLY_REORDER_FULL : Nat := 12
abbrev S.TLY_RING_WAIT : Nat := 7
abbrev S.TLY_SKIPPED : Nat := 5
abbrev S.TLY_SLOT_INF : Nat := 9
abbrev S.TLY_SLOT_VOID : Nat := 8
abbrev S.TRU_HOLDOVER : Nat := 10
abbrev S.TRU_HO_LIMIT : Nat := 11
abbrev S.TRU_PHASE_STEP : Nat := 9
abbrev S.TRU_REF_DISPUTE : Nat := 12
abbrev S.TRU_REF_DISQ : Nat := 6
abbrev S.TRU_REF_QUAL : Nat := 7
abbrev S.TRU_REF_SWITCH : Nat := 8
abbrev S.TRU_SOFT_CROSS : Nat := 5
abbrev S.TRU_XO_LOST : Nat := 13
abbrev S.XBR_LINK_FAIL : Nat := 7
abbrev S.XBR_LINK_RETRY : Nat := 6
abbrev S.XBR_TIMEOUT : Nat := 5
abbrev S.ZHK_GANG_CFG : Nat := 19
abbrev S.ZHK_LANE_RETIRED : Nat := 8
abbrev S.ZHK_LINK_DOWN : Nat := 11
abbrev S.ZHK_LINK_OVERLOAD : Nat := 13
abbrev S.ZHK_MARK_INCOMPLETE : Nat := 15
abbrev S.ZHK_MARK_LATE : Nat := 14
abbrev S.ZHK_PARTIAL_LOST : Nat := 20
abbrev S.ZHK_REPLAY : Nat := 6
abbrev S.ZHK_RETRAIN : Nat := 7
abbrev S.ZHK_ROUTE_DROP : Nat := 12
abbrev S.ZHK_SHARED_ISOLATED : Nat := 18
abbrev S.ZHK_SHARED_TIE : Nat := 17
abbrev S.ZHK_STEP_FAIL : Nat := 10
abbrev S.ZHK_TIME_SPLIT : Nat := 16
abbrev S.ZHK_UNCORR : Nat := 5
abbrev S.ZHK_WIRING : Nat := 9

end Sys2Proof.Machine
end

