-- ==== Sys2Proof/Machine/Sparse.lean ====
section
/-! DEFINITION. Sparse stores: a list of (key, value) pairs with strictly rising keys, none of whose values
equals what an unlisted key reads as. Registers, HBM bytes and every table of the block are held in this form. -/

namespace Sys2Proof.Machine

/-- What the store holds at a key, `none` where the key is not listed. -/
def sparseFind {α : Type} : List (Nat × α) → Nat → Option α
  | [], _ => none
  | (k, v) :: l, a => if k = a then some v else sparseFind l a

/-- What a store reads as at a key; `d` gives the value of an unlisted key. -/
def sparseGet {α : Type} (d : Nat → α) (l : List (Nat × α)) (a : Nat) : α :=
  (sparseFind l a).getD (d a)

/-- The store without any entry at a key. -/
def sparseErase {α : Type} (l : List (Nat × α)) (a : Nat) : List (Nat × α) :=
  l.filter (fun e => decide (e.1 ≠ a))

/-- Insertion before the first larger key. -/
def sparseInsert {α : Type} : List (Nat × α) → Nat → α → List (Nat × α)
  | [], a, v => [(a, v)]
  | (k, w) :: l, a, v => if a < k then (a, v) :: (k, w) :: l else (k, w) :: sparseInsert l a v

/-- The store with a key given a value; a value equal to the unlisted one removes the entry. -/
def sparseSet {α : Type} [DecidableEq α] (d : Nat → α) (l : List (Nat × α)) (a : Nat) (v : α) :
    List (Nat × α) :=
  if v = d a then sparseErase l a else sparseInsert (sparseErase l a) a v

/-- The canonical form: keys strictly rise, and no entry holds what its key reads as unlisted. -/
abbrev sparseWf {α : Type} [DecidableEq α] (d : Nat → α) (l : List (Nat × α)) : Prop :=
  l.Pairwise (fun x y => x.1 < y.1) ∧ ∀ e ∈ l, e.2 ≠ d e.1

end Sys2Proof.Machine
end

