-- ==== Sys2Proof/Machine/Ops.lean ====
section
/-! DEFINITION. The named operations over the state: registers, tables, HBM, time, events, sticky bits, injection,
retry and claims. The block takes no exception: reporting is a sticky bit, an event, a counter or a RESULT. -/

namespace Sys2Proof.Machine

/-! ## Registers -/

/-- BAR0 byte address of a register (R63). -/
def regAddr (p off : Nat) : Nat := p * 0x1000 + off

/-- Pages whose ENABLE resets to 1 (R70). -/
def enableAtReset (b : Block) : Bool :=
  match b with
  | .pkg | .die | .xbr | .tbs | .mrk | .rng | .dma | .hbm | .hpc | .evt | .evt1 | .evt2 | .evt4
  | .stw | .ref | .hwd | .ldg | .pwr | .clt | .pci => true
  | _ => false

/-- Pages that hold claim-guarded fields (R78). -/
def guardedBlock (b : Block) : Bool :=
  match b with
  | .fld | .fldg | .tbs | .tru | .rng | .gge => true
  | _ => false

/-- Class default of RETRY_CFG: WINDOW in ms and THRESHOLD (R117, R177, R258, R327, R337, R381, R412; 0 elsewhere). -/
def retryDefault (b : Block) : Nat × Nat :=
  match b with
  | .spr | .zhk | .eth => (60000, 8)
  | .lth | .chs | .chl => (60000, 3)
  | .hpc => (86400000, 4)
  | _ => (0, 0)

/-- Whether lathe `i` has the spare role at start: the last four of each C-die (R162). -/
def latheSpare (i : Nat) : Bool := decide (64 ≤ i % 68)

/-- Reset word of a header register that depends on its page (R67, R70, R76, R78); `none` for the plain ones. -/
def headerReset (b : Block) (p off : Nat) : Option Nat :=
  if off = R.PAGE_ID then
    some ((((pageRow p).map (·.cls)).getD 0) + pageInstance p * 2 ^ 16 + 2 ^ 32 + pageDie p * 2 ^ 40)
  else if off = R.PAGE_CTRL then some (if enableAtReset b then 1 else 0)
  else if off = R.EVENT_BASE then some (pageFirstEvent p + pageEvents p * 2 ^ 16)
  else if off = R.RETRY_CFG then some ((retryDefault b).1 + (retryDefault b).2 * 2 ^ 32)
  else if off = R.CLAIM then some (if guardedBlock b then 2 ^ 16 else 0)
  else none

/-- Reset word of a block register that depends on its page or index, or that is fused or drawn. -/
def blockReset (b : Block) (p off : Nat) : Option Word :=
  match b with
  | .pkg => if off = 0x100 ∨ off = 0x108 then some (Config.fuseWord (regAddr p off)) else none
  | .die =>
    if off = 0x100 then some (Config.fuseWord (regAddr p off))
    else if off = 0x108 then some (BitVec.ofNat 64 ((if p ≤ 4 then 0 else p - 4) + 0x1000))
    else none
  | .lth =>
    if off = R.LTH_STATUS then
      some (BitVec.ofNat 64 (5 + (if latheSpare (p - 0x100) then 8 else 0) + 0x1FF * 2 ^ 16))
    else none
  | .sch =>
    if 0x200 ≤ off ∧ off < 0x400 then
      some (BitVec.ofNat 64 (68 * (p - 0x220) + (off - 0x200) / 8 + 0x1FF * 2 ^ 9))
    else none
  | .xbr =>
    if 0x140 ≤ off ∧ off < 0x198 then
      some (BitVec.ofNat 64 (if (off - 0x140) / 8 ≤ 3 then 32 + (off - 0x140) / 8 else 1))
    else none
  | .eth => if 0x110 ≤ off ∧ off < 0x130 then some (Config.fuseWord (regAddr p off)) else none
  | .fld => if off = R.FLD_CH_CFG then some (BitVec.ofNat 64 ((if p < 0x3BD then 0 else 6) + 2 * 2 ^ 3)) else none
  | .hwd => if off = 0x108 ∨ off = 0x110 then some (Config.drawnAtReset (regAddr p off)) else none
  | .pwr => if off = R.PWR_AON_SESSION then some (Config.drawnAtReset (regAddr p off)) else none
  | .msix => some (if off % 16 = 8 then BitVec.ofNat 64 (2 ^ 32) else 0)
  | _ => none

/-- What a register reads as when nothing has written it: its reset value. -/
def regReset (a : Nat) : Word :=
  let p := a / 0x1000
  let off := a % 0x1000
  match pageBlock p with
  | none => 0
  | some b =>
    if b = .msix ∨ b = .pba then (blockReset b p off).getD 0
    else
      match headerReset b p off with
      | some x => if off < 0x100 then BitVec.ofNat 64 x else (blockReset b p off).getD 0
      | none =>
        match blockReset b p off with
        | some w => w
        | none =>
          match regDef p off with
          | some r => BitVec.ofNat 64 (fieldsReset r.fields)
          | none => 0

/-- The stored word of a register. -/
def reg (s : State) (p off : Nat) : Word := sparseGet regReset s.regs (regAddr p off)

/-- The state with a register given a word. -/
def setReg (p off : Nat) (w : Word) (s : State) : State :=
  { s with regs := sparseSet regReset s.regs (regAddr p off) w }

/-- A field of a register. -/
def fld (s : State) (p : Nat) (f : FieldRef) : Nat := fieldOf (reg s p f.off) f.lo f.width

/-- A one-bit field of a register. -/
def flag (s : State) (p : Nat) (f : FieldRef) : Bool := decide (fld s p f = 1)

/-- The state with a field of a register given a value. -/
def setFld (p : Nat) (f : FieldRef) (v : Nat) (s : State) : State :=
  setReg p f.off (withField (reg s p f.off) f.lo f.width v) s

/-- Element `k` of a field of a register array with 8-byte stride. -/
def FieldRef.at (f : FieldRef) (k : Nat) : FieldRef := ⟨f.off + 8 * k, f.lo, f.width⟩

/-- A field of a word already read. -/
def FieldRef.get (f : FieldRef) (w : Word) : Nat := fieldOf w f.lo f.width

/-- Count `n` onto a saturating 64-bit counter register. -/
def countUp (p off n : Nat) (s : State) : State :=
  setReg p off (BitVec.ofNat 64 (satAdd 64 (reg s p off).toNat n)) s

/-- Count `n` onto counter `k` of a counter array. -/
def countK (p base k n : Nat) (s : State) : State := countUp p (base + 8 * k) n s

/-- Count `n` onto a saturating field. -/
def countFld (p : Nat) (f : FieldRef) (n : Nat) (s : State) : State :=
  setFld p f (satAdd f.width (fld s p f) n) s

/-- Return `n` registers of a page from `off` on to their reset values. -/
def resetRegs (p off n : Nat) (s : State) : State :=
  { s with regs := s.regs.filter (fun e => decide (e.1 < regAddr p off ∨ regAddr p off + 8 * n ≤ e.1)) }

/-- A page's block registers, at 0x100 and above, return to their reset values (R72). -/
def resetBlockRegs (p : Nat) (s : State) : State := resetRegs p 0x100 480 s

/-! ## Tables -/

/-- Read a sparse table of words. -/
def wtGet (t : WordTab) (k : Nat) : Word := sparseGet (fun _ => 0) t k

/-- Write a sparse table of words. -/
def wtSet (t : WordTab) (k : Nat) (w : Word) : WordTab := sparseSet (fun _ => 0) t k w

/-- Write consecutive words into a table from a key on. -/
def wtSetMany (t : WordTab) (k : Nat) : List Word → WordTab
  | [] => t
  | w :: l => wtSetMany (wtSet t k w) (k + 1) l

/-- Read `n` consecutive words of a table. -/
def wtGetMany (t : WordTab) (k n : Nat) : List Word := (List.range n).map (fun i => wtGet t (k + i))

/-- Read a sparse table of numbers. -/
def ntGet (t : NatTab) (k : Nat) : Nat := sparseGet (fun _ => 0) t k

/-- Write a sparse table of numbers. -/
def ntSet (t : NatTab) (k : Nat) (x : Nat) : NatTab := sparseSet (fun _ => 0) t k x

/-- Read a sparse table of integers. -/
def itGet (t : IntTab) (k : Nat) : Int := sparseGet (fun _ => 0) t k

/-- Write a sparse table of integers. -/
def itSet (t : IntTab) (k : Nat) (x : Int) : IntTab := sparseSet (fun _ => 0) t k x

/-- Read an association list with a default for what is not listed. -/
def alGet {α : Type} (d : α) (t : List (Nat × α)) (k : Nat) : α := sparseGet (fun _ => d) t k

/-- Write an association list, kept canonical. -/
def alSet {α : Type} [DecidableEq α] (d : α) (t : List (Nat × α)) (k : Nat) (x : α) : List (Nat × α) :=
  sparseSet (fun _ => d) t k x

/-- The registers `base`, `base + 8`, … of a page as a list of `n` words. -/
def regsFrom (s : State) (p base n : Nat) : List Word := (List.range n).map (fun k => reg s p (base + 8 * k))

/-- Store a list of words in consecutive registers of a page. -/
def setRegsFrom (p base : Nat) : List Word → State → State
  | [], s => s
  | w :: l, s => setRegsFrom p (base + 8) l (setReg p base w s)

/-! ## HBM -/

/-- What an unlisted byte of HBM reads as (log entry 4). -/
def memFill (_ : Nat) : Byte := 0

/-- One byte of HBM. -/
def memGet (s : State) (a : Nat) : Byte := sparseGet memFill s.mem a

/-- The state with one byte of HBM written. -/
def memSet (a : Nat) (b : Byte) (s : State) : State := { s with mem := sparseSet memFill s.mem a b }

/-- `n` bytes of HBM from an address on. -/
def memRead (s : State) (a : Nat) : Nat → List Byte
  | 0 => []
  | n + 1 => memGet s a :: memRead s (a + 1) n

/-- The state with bytes written to HBM from an address on. -/
def memWrite (a : Nat) : List Byte → State → State
  | [], s => s
  | b :: l, s => memWrite (a + 1) l (memSet a b s)

/-- The little-endian number in `n` bytes of HBM (R6). -/
def memNum (s : State) (a n : Nat) : Nat := ofLeBytes (memRead s a n)

/-- The state with a number written little-endian into `n` bytes of HBM (R6). -/
def memPut (a n x : Nat) (s : State) : State := memWrite a (leBytes n x) s

/-- The canonical form of HBM: addresses strictly rise and no entry equals the unlisted byte. -/
def Memory.wf (m : List Host.Cell) : Bool := decide (sparseWf memFill m)

/-- The canonical form of the register store. -/
def regsWf (r : WordTab) : Bool := decide (sparseWf regReset r)

/-! ## Output, results and free values -/

/-- Something leaves the device. -/
def send (k : EmKind) (unit : Nat) (vals : List Nat) (s : State) : State :=
  { s with out := ⟨k, unit, vals⟩ :: s.out }

/-- The value of a read command. -/
def setRd (w : Word) (s : State) : State := { s with rd := w }

/-- The status of a write (R86). -/
def setWst (n : Nat) (s : State) : State := { s with wst := n }

/-- The next free value and the state that has used it (log entry 3). -/
def takeFree (s : State) : Word × State := (Config.freeValue s.free, { s with free := s.free + 1 })

/-! ## Time -/

/-- Device time in 2^-16 ns (R272). -/
def devTime (s : State) : Nat := s.devFine / 2 ^ 34

/-- One second in 2^-16 ns. -/
def secondUnits : Nat := 65536 * 1000000000

/-- One microsecond in 2^-16 ns. -/
def usUnits : Nat := 65536 * 1000

/-- SECONDS of a device time (R272). -/
def timeSeconds (t : Nat) : Nat := t / secondUnits

/-- NS of a device time (R272). -/
def timeNs (t : Nat) : Nat := t % secondUnits / 65536

/-- FRAC of a device time (R272). -/
def timeFrac (t : Nat) : Nat := t % 65536

/-- One timebase tick in 2^-16 ns: 4 ns (R273). -/
def tickUnits : Nat := 4 * 65536

/-- What a tick adds to device time, in 2^-50 ns: 4 ns × (1 + RATE_ADJ) (R273). Device time never stands still. -/
def tickStep (s : State) : Nat := max 1 (2 ^ 52 + s.tbs.rate).toNat

/-- `n` timebase ticks pass, 4 ns each on the block's own clock (R273). -/
def runTicks (n : Nat) (s : State) : State :=
  { s with mono := s.mono + n * tickUnits, devFine := s.devFine + n * tickStep s }

/-- One timebase tick. -/
def tick (s : State) : State := runTicks 1 s

/-- What a step on an empty queue does: nothing happens but a timebase tick (log entry 1). -/
def idleTick (s : State) : State := tick s

/-- Ticks have passed up to the first one at or after device time `t` (2^-16 ns), when a timed event is reported; device time
never runs backwards (R273). -/
def advanceTo (t : Nat) (s : State) : State :=
  if t ≤ devTime s then s else runTicks (ceilDiv (t * 2 ^ 34 - s.devFine) (tickStep s)) s

/-- Ticks have passed up to the first one at or after `t` on the block's own clock, when a timer fires (R273, R282). -/
def advanceMono (t : Nat) (s : State) : State := if t ≤ s.mono then s else runTicks (ceilDiv (t - s.mono) tickUnits) s

/-- One millisecond in 2^-16 ns. -/
def msUnits : Nat := 1000 * usUnits

/-- Whether device time is valid (R274). -/
def timeValid (s : State) : Bool := flag s 0x330 F.TBS_STATUS_TIME_VALID

/-! ## Pages, domains and masters -/

/-- The power domain a page lies in (R438). -/
def domainOf (p : Nat) : Nat :=
  match pageBlock p with
  | some .pwr | some .ref | some .fldg => 0
  | some .rng => 2
  | some .stw => 3
  | some .hwd | some .ldg => 4
  | some .lth | some .chs => 5 + pageDie p
  | some .rch | some .fpl | some .sch | some .tly | some .gge => 9 + pageDie p
  | some .spr => if p ≤ 0x2F then 13 else 14
  | some .zhk => 15
  | some .eth => if p ≤ 0x313 then 16 else 17
  | some .pci | some .msix | some .pba => 17
  | some .hbm => if p ≤ 0x231 then 18 else 19
  | some .hpc => if p ≤ 0x27F then 18 else 19
  | some .tru => 20
  | some .fld => if p ≤ 0x3BC then 21 else 22
  | some .chl => 23
  | _ => 1

/-- Whether a power domain is on (R438, PWR_DOMAIN_STATUS). -/
def domainOn (s : State) (d : Nat) : Bool := bitOf (reg s 0x3F0 R.PWR_DOMAIN_STATUS) d

/-- Whether the device has finished its start (R446 step 7). -/
def deviceReady (s : State) : Bool := flag s 0 F.PAGE_STATUS_READY

/-- Pages that answer before READY (R446). -/
def startPage (p : Nat) : Bool :=
  match pageBlock p with
  | some .pkg | some .die | some .pci | some .pwr | some .clt | some .hwd => true
  | _ => false

/-- Pages that answer in RECOVERY (R418). -/
def recoveryPage (p : Nat) : Bool := decide (p = 0x3F2 ∨ p = 0x3E0)

/-- Whether a page behaves as gated (R66, R418, R446). -/
def pageGated (s : State) (p : Nat) : Bool :=
  !domainOn s (domainOf p) || (!deviceReady s && !startPage p) || (s.hwd.recovery && !recoveryPage p)

/-- Whether a block of a page is powered and enabled. -/
def pageLive (s : State) (p : Nat) : Bool := !pageGated s p && flag s p F.PAGE_CTRL_ENABLE

/-- Whether the unit of a page is retired (R76). -/
def pageRetired (s : State) (p : Nat) : Bool := flag s p F.PAGE_STATUS_RETIRED

/-- State of a Steward: 0 OFF, 1 BOOT, 2 STANDBY, 3 ACTIVE, 4 FAILED (R393). -/
def stewardState (s : State) (k : Nat) : Nat :=
  if k = 0 then fld s 0x3D1 F.REF_STATUS_STATE_A else fld s 0x3D1 F.REF_STATUS_STATE_B

/-- Whether ARM has been accepted (R397). -/
def armedRef (s : State) : Bool := flag s 0x3D1 F.REF_STATUS_ARMED

/-- Whether a master is the ACTIVE Steward. -/
def isActiveSteward (s : State) (m : Nat) : Bool :=
  (decide (m = 1) && decide (stewardState s 0 = 3)) || (decide (m = 2) && decide (stewardState s 1 = 3))

/-- The claim a master carries (R78, R393, R398). -/
def masterClaim (s : State) (m : Nat) : Nat :=
  if m = 1 then fld s 0x3D1 F.REF_STATUS_CLAIM_A
  else if m = 2 then fld s 0x3D1 F.REF_STATUS_CLAIM_B
  else ntGet s.grants m

/-- Whether a Turn matrix master ID is assigned (R340). -/
def masterAssigned (m : Nat) : Bool := decide (m ≤ 8 ∨ (16 ≤ m ∧ m ≤ 43) ∨ (64 ≤ m ∧ m ≤ 131))

/-- The claim a page has latched (R78). -/
def latched (s : State) (p : Nat) : Nat := fld s p F.CLAIM_LATCHED

/-! ## Events -/

/-- Route word of an event: VECTOR, MSIX_EN, STW_A, STW_B, STW_ACTIVE, IRQ; STW_ACTIVE is 1 at reset. -/
def routeOf (s : State) (e : Nat) : Word := wtGet s.routes e ^^^ 0x4000#64

/-- Whether an event is pending (R405). -/
def evPending (s : State) (e : Nat) : Bool := bitOf (reg s 0x3D3 (R.EVT_PENDING + 8 * (e / 64))) (e % 64)

/-- Whether an event is withheld from MSI-X and pins (R405). -/
def evMasked (s : State) (e : Nat) : Bool := bitOf (reg s 0x3D3 (R.EVT_MASK + 8 * (e / 64))) (e % 64)

/-- Whether an MSI-X vector is masked, by its own Mask bit or by the function mask (R83, R405). -/
def vectorMasked (s : State) (v : Nat) : Bool := s.msixFn || bitOf (reg s (0x400 + v / 256) (v % 256 * 16 + 8)) 32

/-- A request on a vector: a message, or its bit in the pending-bit array while it is masked (R405). -/
def msixRequest (v : Nat) (s : State) : State :=
  if vectorMasked s v then
    setReg 0x408 (v / 64 * 8) (withBit (reg s 0x408 (v / 64 * 8)) (v % 64) true) s
  else
    countK 0x3F2 R.PCI_CNT 3 1
      (send .msix v [(reg s (0x400 + v / 256) (v % 256 * 16)).toNat,
        fieldOf (reg s (0x400 + v / 256) (v % 256 * 16 + 8)) 0 32] s)

/-- Event `e` requests its message (R405). -/
def msixOfEvent (e : Nat) (s : State) : State :=
  if bitOf (routeOf s e) 11 && !evMasked s e then msixRequest (fieldOf (routeOf s e) 0 11) s else s

/-- IRQ_N[n] is driven low while an event with PENDING 1, MASK 0 and route bit IRQ[n] exists (R405). -/
def irqAsserted (s : State) (n : Nat) : Bool :=
  s.routes.any (fun r => bitOf (r.2 ^^^ 0x4000#64) (16 + n) && evPending s r.1 && !evMasked s r.1)

/-- Set a sticky bit; answers the event to pulse where the bit rises and is enabled (R68, R74). -/
def stickyRise (p b : Nat) (s : State) : State × Option Nat :=
  let old := reg s p R.STICKY
  if bitOf old b then (s, none)
  else
    (setReg p R.STICKY (withBit old b true) s,
     if bitOf (reg s p R.STICKY_EVT_EN) b && decide (pageEvents p ≠ 0) then
       some (pageFirstEvent p + b % pageEvents p) else none)

/-- An event enters a Steward's queue of 256, or is dropped (R407): the state and whether it was dropped. -/
def evEnqueue (a : Bool) (e : Nat) (s : State) : State × Bool :=
  let x : EvEntry := ⟨e, devTime s⟩
  if a then
    if s.evtQA.length < 256 then ({ s with evtQA := s.evtQA ++ [x] }, false) else (s, true)
  else
    if s.evtQB.length < 256 then ({ s with evtQB := s.evtQB ++ [x] }, false) else (s, true)

/-- PENDING, the pulse count and the MSI-X request of a pulse (R405). -/
def evLatch (e : Nat) (s : State) : State :=
  let was := evPending s e
  let s := { s with evtCounts := ntSet s.evtCounts e (satAdd 32 (ntGet s.evtCounts e) 1) }
  let off := R.EVT_PENDING + 8 * (e / 64)
  let s := setReg 0x3D3 off (withBit (reg s 0x3D3 off) (e % 64) true) s
  if was then s else msixOfEvent e s

/-- Whether a pulse of event `e` enters the queue of Steward A (`a`) or B (R407). -/
def evRoutedTo (s : State) (a : Bool) (e : Nat) : Bool :=
  let r := routeOf s e
  bitOf r (if a then 12 else 13) || (bitOf r 14 && decide (stewardState s (if a then 0 else 1) = 3))

/-- An event pulse (R405, R407). A full queue sets QUEUE_OVF_A or QUEUE_OVF_B, which may pulse in turn; each of these
bits rises at most once, so the chain is short. -/
def evPulse : Nat → Nat → State → State
  | 0, _, s => s
  | n + 1, e, s =>
    let s := evLatch e s
    let s :=
      if evRoutedTo s true e then
        match evEnqueue true e s with
        | (s, false) => s
        | (s, true) =>
          match stickyRise 0x3D2 S.EVT_QUEUE_OVF_A s with
          | (s, some e') => evPulse n e' s
          | (s, none) => s
      else s
    if evRoutedTo s false e then
      match evEnqueue false e s with
      | (s, false) => s
      | (s, true) =>
        match stickyRise 0x3D2 S.EVT_QUEUE_OVF_B s with
        | (s, some e') => evPulse n e' s
        | (s, none) => s
    else s

/-- A detector sets a sticky bit, and its event pulses if the bit rises while enabled (R68, R74). -/
def setSticky (p b : Nat) (s : State) : State :=
  match stickyRise p b s with
  | (s, some e) => evPulse 4 e s
  | (s, none) => s

/-- Set a sticky bit where a condition holds. -/
def stickyIf (c : Bool) (p b : Nat) (s : State) : State := if c then setSticky p b s else s

/-- A write or operation refused by the block: CFG_REFUSED and status 5 (R86, R472, R475). -/
def refuseCfg (p : Nat) (s : State) : State := setWst 5 (setSticky p S.CFG_REFUSED s)

/-- A write refused by the block under another refusal bit: that bit and status 5 (R86). -/
def refuseBit (p b : Nat) (s : State) : State := setWst 5 (setSticky p b s)

/-! ## Injection -/

/-- Whether a detector is armed, and the state after an evaluation that it fires at (R75). -/
def takeArmed (p b : Nat) (s : State) : Bool × State :=
  match s.armed.find? (fun a => decide (a.page = p ∧ a.bit = b)) with
  | none => (false, s)
  | some a =>
    let rest := s.armed.filter (fun a => !decide (a.page = p ∧ a.bit = b))
    match a.mode with
    | .once => (true, { s with armed := rest })
    | .persistent => (true, s)
    | .count =>
      if a.left = 0 then (false, { s with armed := rest })
      else if a.left = 1 then (true, { s with armed := rest })
      else (true, { s with armed := { a with left := a.left - 1 } :: rest })

/-- Whether an armed detector fires at an evaluation now (R75). -/
def armedNow (s : State) (p b : Nat) : Bool := (takeArmed p b s).1

/-- A detector's evaluation: it fires on the real condition or when armed (R75). -/
def evalDetector (p b : Nat) (real : Bool) (s : State) : Bool × State :=
  let r := takeArmed p b s
  (real || r.1, r.2)

/-! ## Retry and retirement -/

/-- The times that lie within a window of `ms` milliseconds of device time now. -/
def withinMs (s : State) (ms : Nat) (l : List Nat) : List Nat :=
  l.filter (fun t => decide (devTime s < t + ms * 1000 * usUnits))

/-- Retry events of a page within the window in force now, which is the one its last counted event found (R76). -/
def retryInWindow (s : State) (p : Nat) : List Nat := withinMs s (ntGet s.retryWin p) (alGet [] s.retry p)

/-- A counted event: counts, window and PERMANENT (R76); answers whether the threshold is reached. A changed RETRY_CFG
applies from here on. -/
def countRetry (p : Nat) (s : State) : State × Bool :=
  let w := fieldOf (reg s p R.RETRY_CFG) 0 32
  let l := withinMs s w (retryInWindow s p) ++ [devTime s]
  let s := { s with retry := alSet [] s.retry p l, retryWin := ntSet s.retryWin p w }
  let s := countFld p F.RETRY_COUNT_TOTAL 1 s
  let th := fieldOf (reg s p R.RETRY_CFG) 32 16
  if th ≠ 0 ∧ th ≤ l.length then (setSticky p S.PERMANENT s, true) else (s, false)

end Sys2Proof.Machine
end

