-- ==== Sys2Proof/Machine/MarkBase.lean ====
section
/-! DEFINITION. Dispatched marks (R285, R286, R289): the fields of an occurrence, its tick and its place in table order (R290,
R292), and what it meets at that tick on a guarded output (R81, R291). -/

namespace Sys2Proof.Machine

/-! ## Fields (R285, R286) -/

def MarkOcc.arg8 (o : MarkOcc) : Nat := fieldOf o.w2 8 8
def MarkOcc.arg16 (o : MarkOcc) : Nat := fieldOf o.w2 16 16
def MarkOcc.action (o : MarkOcc) : Nat := fieldOf o.w2 0 8
def MarkOcc.arg64 (o : MarkOcc) : Nat := o.w3.toNat

/-- Whether two occurrences are one: entry, place in the table, time. -/
def MarkOcc.same (o x : MarkOcc) : Bool := decide (x.handle = o.handle ∧ x.order = o.order ∧ x.time = o.time)

/-- The oldest dispatched occurrence of a handle that has an action (R286, R289). -/
def markOcc (s : State) (h action : Nat) : Option MarkOcc :=
  s.mrk.occs.find? (fun o => decide (o.handle = h ∧ o.action = action))

/-- Whether an occurrence waits for a tick: a non-sample action (R286). -/
def MarkOcc.ticks (o : MarkOcc) : Bool := decide (o.action = 0 ∨ 8 ≤ o.action)

/-- Whether an occurrence comes before another in table order: by time, then by insertion (R292). -/
def MarkOcc.before (x o : MarkOcc) : Bool := decide (x.time < o.time ∨ (x.time = o.time ∧ x.order < o.order))

/-- Whether no other action that waits for a tick comes before this one: actions of one tick act in table order, and one of an
earlier tick acts before those of a later one (R286, R292). -/
def tickFirst (s : State) (o : MarkOcc) : Bool := s.mrk.occs.all (fun x => !x.ticks || !x.before o)

/-- Whether the tick an occurrence waits for, the first at or after its time, has passed (R286, R290). -/
def actsLate (s : State) (o : MarkOcc) : Bool := decide (o.time * 2 ^ 34 + tickStep s ≤ s.devFine)

/-- Whether the present tick is the one an occurrence waits for. -/
def dueNow (s : State) (o : MarkOcc) : Bool := decide (o.time ≤ devTime s) && !actsLate s o

/-! ## Guarded outputs at one tick (R81, R291) -/

/-- The guarded registers whose outputs an occurrence moves: those of its TRIG_OUT lines in the TBS page, or RUN of its field
channels (R291). -/
def MarkOcc.targets (o : MarkOcc) : List Nat :=
  let lines := fun (m : Nat) => (bitsSet m 16).map (fun n => regAddr 0x330 (R.TBS_TRIG_CFG + 8 * n))
  if o.action = 8 ∨ o.action = 9 then lines o.arg16
  else if o.action = 0x0A then lines o.lines
  else if o.action = 0x0B ∨ o.action = 0x0C then (bitsSet o.arg64 32).map (fun c => regAddr (0x3A1 + c) R.FLD_CH_CTRL)
  else []

/-- Claims of the marks whose action falls at the present tick on a register. -/
def dueClaims (s : State) (a : Nat) : List Nat :=
  (s.mrk.occs.filter (fun x => dueNow s x && decide (a ∈ x.targets))).map (·.claim)

/-- A write or an action with a claim has reached a register at the present tick: the marks whose action falls there now have
met it (R81). -/
def meetMarks (a claim : Nat) (s : State) : State :=
  if (dueClaims s a).isEmpty then s
  else
    { s with mrk := { s.mrk with occs := s.mrk.occs.map (fun x =>
        if dueNow s x && decide (a ∈ x.targets) then { x with rivals := (a, claim) :: x.rivals } else x) } }

/-- Claims that meet an occurrence at its tick on a register: of what came before it, and of the other marks. A late action
meets nothing (log entry 94). -/
def rivalClaims (s : State) (a : Nat) (o : MarkOcc) : List Nat :=
  if !dueNow s o then []
  else
    (o.rivals.filter (fun x => decide (x.1 = a))).map (·.2) ++
      (s.mrk.occs.filter (fun x => dueNow s x && decide (a ∈ x.targets) && !o.same x)).map (·.claim)

end Sys2Proof.Machine
end

