-- ==== Sys2Proof/Machine/ZhkBase.lean ====
section
/-! DEFINITION. What the gang chapter gives the rest of the block (11_gangs.md): membership and wiring (R250), routes
(R252, R253), packets on their way out (R256), and the ownership of shared outputs (R269 to R271). -/

namespace Sys2Proof.Machine

/-- The page of Zhok link `z`; page 0x320 also holds the registers of the gang. -/
abbrev zhkPage (z : Nat) : Nat := 0x320 + z

/-- Gang size G and member number a of this device (ZHK_GANG): 1 and 0 standalone. -/
def gangSize (s : State) : Nat := 2 ^ fld s 0x320 F.ZHK_GANG_SIZE
def gangMember (s : State) : Nat := fld s 0x320 F.ZHK_GANG_MEMBER

def zhkLink (s : State) (z : Nat) : ZhkLink := alGet {} s.zhk.links z

def setZhkLink (z : Nat) (l : ZhkLink) (s : State) : State :=
  { s with zhk := { s.zhk with links := alSet {} s.zhk.links z l } }

def zhkLane (s : State) (n : Nat) : LaneTrain := alGet {} s.zhk.lanes n

def setZhkLane (n : Nat) (l : LaneTrain) (s : State) : State :=
  { s with zhk := { s.zhk with lanes := alSet {} s.zhk.lanes n l } }

/-- The member link `z` must be cabled to (R250). -/
def wiredTo (size a z : Nat) : Option Nat :=
  if size = 2 then some (a ^^^ 1)
  else if size = 4 then some (if z = 3 then a ^^^ 1 else a ^^^ (z + 1))
  else if size = 8 ∧ z < 3 then some (a ^^^ 2 ^ z)
  else none

/-- ROLE of a link (R250, ZHK_STATUS): 0 traffic, 1 spare, 2 unused. -/
def linkRole (s : State) (z : Nat) : Nat :=
  if gangSize s = 4 ∧ z = 3 then 1 else if (wiredTo (gangSize s) (gangMember s) z).isNone then 2 else 0

/-- Whether a link carries packets. -/
def linkUp (s : State) (z : Nat) : Bool := pageLive s (zhkPage z) && (zhkLink s z).up

/-- The links that are up, ascending. -/
def linksUp (s : State) : List Nat := (List.range 4).filter (linkUp s)

/-- Whether the packets of a KIND are delivered in order: RECORD, MARK, CLAIM (R253). -/
def zhkOrdered (kind : Nat) : Bool := decide (3 ≤ kind)

/-- The class of a KIND (R256). -/
def zhkClass (kind : Nat) : Nat := if kind = 1 then 1 else if kind = 2 then 2 else if kind = 3 then 3 else 0

/-- The link a packet for member `p` takes, and whether it is on a detour (R252). -/
def zhkRoute (s : State) (kind p : Nat) : Option (Nat × Bool) :=
  let a := gangMember s
  let up := linksUp s
  if p = a then none
  else if gangSize s = 2 then
    if zhkOrdered kind then up.head?.map (fun z => (z, false))
    else if up.isEmpty then none else up[s.zhk.spread % up.length]?.map (fun z => (z, false))
  else if gangSize s = 4 then
    let z := (a ^^^ p) - 1
    if linkUp s z then some (z, false) else if linkUp s 3 then some (3, false) else none
  else if gangSize s = 8 then
    let dims := (List.range 3).filter (fun b => (a ^^^ p).testBit b)
    (dims.filter (linkUp s)).head?.map (fun b => (b, decide (dims.head? ≠ some b)))
  else none

/-- Whether a link still holds an unacknowledged packet of the ordered flow to `p` (R253). -/
def flowBusy (s : State) (z p : Nat) : Bool :=
  let l := zhkLink s z
  let mine := fun (k : ZhkPacket) => zhkOrdered k.kind && decide (k.dest = p)
  l.waiting.any mine || (l.part.map (fun k => mine k.1)).getD false || l.kept.any (fun f => f.ends.any mine)

/-- A packet takes its route, or is held while there is none or its flow is changing links (R252, R253). -/
def zhkTry (k : ZhkPacket) (s : State) : Option State :=
  match zhkRoute s k.kind k.dest with
  | none => none
  | some (z, detour) =>
    let last := ntGet s.zhk.flowLink k.dest
    if zhkOrdered k.kind && decide (last ≠ 0 ∧ last ≠ z + 1) && flowBusy s (last - 1) k.dest then none
    else
      let l := zhkLink s z
      let s := setZhkLink z { l with waiting := l.waiting ++ [{ k with detour := k.detour || detour }] } s
      let spread := if zhkOrdered k.kind then s.zhk.spread else s.zhk.spread + 1
      let flows := if zhkOrdered k.kind then ntSet s.zhk.flowLink k.dest (z + 1) else s.zhk.flowLink
      some { s with zhk := { s.zhk with spread := spread, flowLink := flows } }

/-- A packet is sent towards its member. An ordered packet waits behind the held ones of its flow (R253). -/
def zhkSend (k : ZhkPacket) (s : State) : State :=
  let behind := zhkOrdered k.kind && s.zhk.held.any (fun h => zhkOrdered h.1.kind && decide (h.1.dest = k.dest))
  let hold := { s with zhk := { s.zhk with held := s.zhk.held ++ [(k, s.mono)] } }
  if behind then hold else (zhkTry k s).getD hold

/-- The held packets look for a route again, oldest first. -/
def zhkRetry (s : State) : State :=
  s.zhk.held.foldl (fun s h =>
    let behind := zhkOrdered h.1.kind && s.zhk.held.any (fun g => zhkOrdered g.1.kind && decide (g.1.dest = h.1.dest))
    let back := { s with zhk := { s.zhk with held := s.zhk.held ++ [h] } }
    if behind then back else (zhkTry h.1 s).getD back) { s with zhk := { s.zhk with held := [] } }

/-- A packet of KIND from `src` to `dest` is taken out of the receive buffer of the link where it waits; answers whether it
came on a detour. One that waits in none is taken as it arrives (R252, R256). -/
def takeRx (kind dest src : Nat) (s : State) : Bool × State :=
  let mine := fun (k : ZhkPacket) => decide (k.kind = kind ∧ k.dest = dest ∧ k.src = src)
  match (List.range 4).find? (fun z => (zhkLink s z).rxBuf.any mine) with
  | none => (false, s)
  | some z =>
    let l := zhkLink s z
    (((l.rxBuf.find? mine).map (·.detour)).getD false, setZhkLink z { l with rxBuf := removeFirst mine l.rxBuf } s)

/-- A byte string cut into payloads of at most 4,096 bytes (R256). -/
def payloads : Nat → List Byte → List (List Byte)
  | 0, _ => []
  | n + 1, l => if l.isEmpty then [] else l.take 4096 :: payloads n (l.drop 4096)

/-- A packet of this device with a payload of whole words. -/
def zhkPacket (s : State) (kind dest flow addr : Nat) (payload : List Byte) : ZhkPacket :=
  ⟨kind, dest, gangMember s, false, flow, addr, payload, .none⟩

/-- The other members of the gang. -/
def otherMembers (s : State) : List Nat := (List.range (gangSize s)).filter (fun m => decide (m ≠ gangMember s))

/-! ## Shared outputs (R270, R271) -/

/-- The word of an entry of ZHK_SHARED. -/
def sharedWord (s : State) (i : Nat) : Word := reg s 0x320 (R.ZHK_SHARED + 8 * i)

/-- Page that guards a shared output: its field channel, TBS, TRU or RNG (R78, R270). -/
def sharedPage (w : Word) : Nat :=
  if fieldOf w 1 2 = 0 then 0x3A1 + fieldOf w 3 5
  else if fieldOf w 1 2 = 1 then 0x330 else if fieldOf w 1 2 = 2 then 0x340 else 0x300

/-- Reports of other members for a gang identifier. -/
def reportsOf (s : State) (gid : Nat) : List ZhkReport :=
  s.zhk.reports.filter (fun r => decide (r.gid = gid ∧ r.member ≠ gangMember s))

/-- Highest claim for a gang identifier and the lowest member reporting it, this device included. -/
def bestClaim (s : State) (gid own : Nat) : Nat × Nat :=
  (reportsOf s gid).foldl (fun b r =>
    if b.1 < r.claim ∨ (b.1 = r.claim ∧ r.member < b.2) then (r.claim, r.member) else b) (own, gangMember s)

/-- Two members report the highest claim (R270). -/
def claimTied (s : State) (gid own best : Nat) : Bool :=
  decide (1 < ((if own = best then 1 else 0) + ((reportsOf s gid).filter (fun r => decide (r.claim = best))).length))

/-- Whether a member has reported a lower claim since a point of the block's clock. -/
def reportedLower (s : State) (gid own since m : Nat) : Bool :=
  (reportsOf s gid).any (fun r => decide (r.member = m ∧ since ≤ r.time ∧ r.claim < own))

/-- Whether a member is known by its table not to list a gang identifier (R261, R271; log entry 91). -/
def listsNot (s : State) (gid m : Nat) : Bool := s.zhk.tables.any (fun t => decide (t.member = m ∧ gid ∉ t.gids))

/-- Every other member that lists the identifier has reported a lower claim since this device's claim became the highest, or
has not reported for 12 ms (R271). -/
def mayTakeOver (s : State) (gid own since : Nat) : Bool :=
  decide (since + 12 * msUnits ≤ s.mono) || (otherMembers s).all (fun m => listsNot s gid m || reportedLower s gid own since m)

/-- One entry of ZHK_SHARED is judged again (R270, R271). -/
def sharedJudge (i : Nat) (s : State) : State :=
  let w := sharedWord s i
  if !bitOf w 0 then s
  else
    let gid := fieldOf w 8 4
    let own := latched s (sharedPage w)
    let best := bestClaim s gid own
    let tied := evalDetector 0x320 S.ZHK_SHARED_TIE (claimTied s gid own best.1) s
    let s := tied.2
    let top := decide (best = (own, gangMember s)) && !tied.1
    let st := alGet {} s.zhk.stands i
    let since := if top then some (st.since.getD s.mono) else none
    let st := { st with since := since, isolated := st.isolated && top }
    let drive := top && !st.isolated && (bitOf w 12 || mayTakeOver s gid own (since.getD s.mono))
    let w := withField (withField (withBit w 12 drive) 16 16 best.1) 32 3 best.2
    let s := { s with zhk := { s.zhk with stands := alSet {} s.zhk.stands i st } }
    stickyIf tied.1 0x320 S.ZHK_SHARED_TIE (setReg 0x320 (R.ZHK_SHARED + 8 * i) w s)

/-- Every entry of ZHK_SHARED is judged again, on a gang whose page is enabled. -/
def sharedRefresh (s : State) : State :=
  if pageLive s 0x320 && decide (1 < gangSize s) then (List.range 16).foldl (fun s i => sharedJudge i s) s else s

/-- The claims this device reports: gang identifier and latched claim of each valid entry (R270). -/
def sharedClaims (s : State) : List (Nat × Nat) :=
  (List.range 16).filterMap (fun i =>
    let w := sharedWord s i
    if bitOf w 0 then some (fieldOf w 8 4, latched s (sharedPage w)) else none)

/-- The claims go to every other member in CLAIM packets (R270). -/
def reportClaims (s : State) : State :=
  let l := sharedClaims s
  if l.isEmpty then s
  else (otherMembers s).foldl (fun s m =>
    zhkSend (zhkPacket s 5 m 0 0 (l.flatMap (fun c => leBytes 2 c.1 ++ leBytes 2 c.2))) s) s

/-- The latched claim of a page has changed: reported and judged at once (R270). -/
def claimChanged (s : State) : State :=
  if pageLive s 0x320 && decide (1 < gangSize s) then sharedRefresh (reportClaims s) else s

end Sys2Proof.Machine
end

