-- ==== Sys2Proof/Machine/Bus.lean ====
section
/-! DEFINITION. Writes to the register space, judged by alignment, gating, Steward state, lock, claim and range
(R63 to R66, R77, R78, R81, R393, R472), and the plain store that a register without a rule of its own gets. -/

namespace Sys2Proof.Machine

/-- How a write is judged before its block sees it. -/
inductive Verdict where
  | ok
  | fault       -- size or alignment (R64)
  | ignored     -- unassigned page or reserved offset (R7)
  | gated       -- power domain off, or before READY (R66, R446)
  | steward     -- refused from the Steward's state (R393)
  | standby     -- refused from a STANDBY Steward after ARM (R393)
  | locked      -- WRITE_LOCK (R77)
  | lowClaim    -- claim below the latch, or below that of a mark that acts at the same tick (R78, R81)
  | tied        -- claim equal to that of a mark that acts at the same tick (R81)
  | range       -- a field given a reserved or out-of-range value (R472)
  deriving DecidableEq, Repr

/-- Whether an access is one BAR0 permits: aligned and 8 bytes, or 4 or 8 bytes in the MSI-X pages (R64, R83). R64 speaks
of the other pages alone; DESIGN CHOICE (log entry 82): an access of another size or alignment in the MSI-X pages ends as
one outside them, with all ones or no effect and ACCESS_FAULT. -/
def accessAligned (p off size : Nat) : Bool :=
  match pageBlock p with
  | some .msix | some .pba => decide ((size = 8 ∧ off % 8 = 0) ∨ (size = 4 ∧ off % 4 = 0))
  | _ => decide (size = 8 ∧ off % 8 = 0)

/-- Whether an access ends as R64 states: BAR0 does not permit it, or ACCESS_FAULT was injected and fires at it (R75). -/
def accessFaults (s : State) (p off size : Nat) : Bool :=
  !accessAligned p off size || armedNow s 0x3F2 S.PCI_ACCESS_FAULT

/-- Whether a register of a page is claim-guarded: it holds an RWG field, or it is INJECT or INJECT_MODE of a page
with guarded fields (R75, R78). -/
def regGuarded (p off : Nat) : Bool :=
  if off = R.INJECT ∨ off = R.INJECT_MODE then ((pageBlock p).map guardedBlock).getD false
  else
    match regDef p off with
    | some r => r.fields.any (fun f => decide (f.acc = .rwg))
    | none => false

/-- Whether a lock covers a register (R77). -/
def lockCovers (off : Nat) : Bool :=
  decide (off = R.PAGE_CTRL ∨ off = R.INJECT ∨ off = R.INJECT_MODE ∨ off = R.RETRY_CFG ∨ 0x100 ≤ off)

/-- Whether the lock of a page refuses a master's write (R77). -/
def lockRefuses (s : State) (m p off : Nat) : Bool :=
  flag s p F.WRITE_LOCK_LOCKED && lockCovers off &&
    !(decide (m = 1 ∨ m = 2) && flag s p F.WRITE_LOCK_STEWARD_EXEMPT)

/-- How a Steward's state judges its write (R393). -/
def stewardVerdict (s : State) (m p off : Nat) : Verdict :=
  if m = 1 ∨ m = 2 then
    let st := stewardState s (m - 1)
    if st = 0 ∨ st = 4 then .steward
    else if st = 2 ∧ armedRef s = true ∧ ¬(p = 0x3D1 ∧ off = R.REF_HB + 8 * (m - 1)) then .standby
    else .ok
  else .ok

/-- Whether every writable field of a register takes the value a word gives it (R472). -/
def fieldsInRange (r : RegDef) (v : Word) : Bool :=
  r.fields.all (fun f =>
    match f.acc with
    | .rw | .rwg => decide (f.min ≤ fieldOf v f.lo f.width ∧ fieldOf v f.lo f.width ≤ f.max)
    | _ => true)

/-- The page whose latch judges a target of a detector line: field channel, TBS or RNG (R79). -/
def linePage (kind target : Nat) : Option Nat :=
  if kind = 1 then some (0x3A1 + target) else if kind = 2 then some 0x330 else if kind = 3 then some 0x300 else none

/-- The page that the mapping of a detector line is judged against. -/
def lineTarget (w : Word) : Option Nat := linePage (fieldOf w 34 2) (fieldOf w 36 5)

/-- The page whose latch judges a write: that of the new target for a detector line, else its own (R79, R224). -/
def latchPage (p off : Nat) (v : Word) : Nat :=
  if pageBlock p = some .gge ∧ R.GGE_LINE ≤ off ∧ off < R.GGE_LINE + 128 then (lineTarget v).getD p else p

/-- Whether a register acts only in another page of its block: here it reads as zero and ignores writes (06_faceplate.md,
11_gangs.md, registers of the block). -/
def regAbsent (p off : Nat) : Bool :=
  match pageBlock p with
  | some .fpl => decide (p % 4 ≠ 0 ∧ R.FPL_REGION_ADDR ≤ off ∧ off < R.FPL_REGION_ADDR + 48)
  | some .zhk => decide (p ≠ 0x320 ∧ R.ZHK_GANG ≤ off)
  | _ => false

/-- The judgement of a write before its block sees it (R64, R66, R77, R78, R393, R472). -/
def judge (s : State) (m p off size : Nat) (v : Word) : Verdict :=
  if accessFaults s p off size then .fault
  else
    match pageBlock p with
    | none => .ignored
    | some b =>
      if pageGated s p || armedNow s 0x3F2 S.PCI_GATED_WRITE then .gated
      else if stewardVerdict s m p off ≠ .ok then stewardVerdict s m p off
      else if b = .msix ∨ b = .pba then .ok
      else
        match regDef p off with
        | none => .ignored
        | some r =>
          if regAbsent p off then .ignored
          else if lockRefuses s m p off then .locked
          else if regGuarded p off && (decide (masterClaim s m < latched s (latchPage p off v)) ||
              (dueClaims s (regAddr p off)).any (fun c => decide (masterClaim s m < c))) then .lowClaim
          else if regGuarded p off && decide (masterClaim s m ∈ dueClaims s (regAddr p off)) then .tied
          else if !fieldsInRange r v then .range
          else .ok

/-- The word a register holds after a plain write: RW and RWG fields take the new value, W1C bits written 1 clear,
everything else stays (00_scope.md, R7). -/
def mergeFields (old v : Word) : List FieldDef → Word
  | [] => old
  | f :: l =>
    let w :=
      match f.acc with
      | .rw | .rwg => withField old f.lo f.width (fieldOf v f.lo f.width)
      | .w1c => old &&& ~~~ (v &&& fieldMask f.lo f.width)
      | _ => old
    mergeFields w v l

/-- The word a plain write leaves in a register. -/
def mergedWord (s : State) (p off : Nat) (v : Word) : Word :=
  match regDef p off with
  | some r => mergeFields (reg s p off) v r.fields
  | none => reg s p off

/-- A plain write of a register: no effect beyond its fields. -/
def storePlain (p off : Nat) (v : Word) (s : State) : State := setReg p off (mergedWord s p off v) s

/-- Whether detector `k` of the device is in ALARM (R221). -/
def detectorOn (s : State) (k : Nat) : Bool := decide ((alGet {} s.gge.dets k).st = 3)

/-- Enabled sources of a detector line, as detector numbers. -/
def lineSources (w : Word) : List Nat :=
  (List.range 4).filterMap (fun k => if bitOf w (8 * k + 6) then some (fieldOf w (8 * k) 6) else none)

/-- Value of a line from its sources (R222). -/
def lineValue (s : State) (w : Word) : Bool :=
  let src := lineSources w
  let n := (src.filter (detectorOn s)).length
  let v :=
    if src.isEmpty then false
    else if fieldOf w 32 2 = 0 then decide (1 ≤ n)
    else if fieldOf w 32 2 = 1 then decide (n = src.length)
    else decide (2 ≤ n)
  v != bitOf w 41

/-- Word of detector line 16d + i. -/
def lineWord (s : State) (k : Nat) : Word := reg s (0x228 + k / 16) (R.GGE_LINE + 8 * (k % 16))

/-- Value of detector line 16d + i: that of its sources; while its page is disabled it holds the one it had then (R222, R225). -/
def lineNow (s : State) (k : Nat) : Bool :=
  if flag s (0x228 + k / 16) F.PAGE_CTRL_ENABLE then lineValue s (lineWord s k) else decide (ntGet s.gge.held k = 2)

/-- The values of the lines of C-die `d` are held as its page is disabled (R225). -/
def holdLines (d : Nat) (s : State) : State :=
  { s with gge := { s.gge with
      held := (List.range 16).foldl (fun t i =>
        ntSet t (16 * d + i) (if lineValue s (lineWord s (16 * d + i)) then 2 else 1)) s.gge.held } }

/-- A line of a GGE page whose recorded claim is below its target's latch becomes suspended, its
value kept (R22, R79, R224). -/
def suspendLine (g i : Nat) (s : State) : State :=
  let off := R.GGE_LINE + 8 * i
  let w := reg s g off
  match lineTarget w with
  | some p =>
    if fieldOf w 48 16 < latched s p ∧ bitOf w 43 = false then
      let v := if lineNow s (16 * (g - 0x228) + i) then 2 else 1
      let s := { s with gge := { s.gge with frozen := ntSet s.gge.frozen (16 * (g - 0x228) + i) v } }
      setSticky g S.GGE_LINE_SUSPENDED (setReg g off (withBit w 43 true) s)
    else s
  | none => s

/-- Every detector line of the device is held against the latches (R224). -/
def suspendLines (s : State) : State :=
  (List.range 64).foldl (fun s k => if pageGated s (0x228 + k / 16) then s else suspendLine (0x228 + k / 16) (k % 16) s) s

/-- An accepted guarded write raises the latch of its page to the claim it carried (R78). -/
def raiseLatch (p claim : Nat) (s : State) : State :=
  if latched s p < claim then claimChanged (suspendLines (setFld p F.CLAIM_LATCHED claim s)) else s

/-- What a refused write does: the sticky bit of its refusal and its status (R64, R66, R77, R78, R86, R393, R472). -/
def refusedWrite (p : Nat) (x : Verdict) (s : State) : State :=
  match x with
  | .ok => s
  | .ignored => setWst 0 s
  | .fault => setWst 3 (countK 0x3F2 R.PCI_CNT 2 1 (setSticky 0x3F2 S.PCI_ACCESS_FAULT (takeArmed 0x3F2 S.PCI_ACCESS_FAULT s).2))
  | .gated => setWst 3 (setSticky 0x3F2 S.PCI_GATED_WRITE (takeArmed 0x3F2 S.PCI_GATED_WRITE s).2)
  | .steward => setWst 2 s
  | .standby => setWst 2 (setSticky 0x3D0 S.STW_STANDBY_WRITE s)
  | .locked => setWst 2 (setSticky p S.LOCK_REFUSED s)
  | .lowClaim => setWst 1 (setSticky p S.CLAIM_REFUSED s)
  | .tied => setWst 1 (setSticky p S.CLAIM_TIE s)
  | .range => refuseCfg p s

/-- The effect `h` of a write on its block, and the latch it raises if the block takes it in full (R78). -/
def acceptedWrite (m p off : Nat) (v : Word) (h : State → State) (s : State) : State :=
  let t := h (setWst 0 s)
  if regGuarded p off && decide (t.wst = 0) then raiseLatch (latchPage p off v) (masterClaim s m) t else t

/-- Requests of the host to BAR0 are counted (PCI_CNT[0]). -/
def countBar0 (m : Nat) (s : State) : State := if m = 0 then countK 0x3F2 R.PCI_CNT 0 1 s else s

/-- A judged write arrives: it is counted, and where it has reached a guarded register it meets the marks that act there at the
same tick (R81). -/
def arriveWrite (x : Verdict) (m p off : Nat) (s : State) : State :=
  let s := countBar0 m s
  if regGuarded p off && decide (x = .ok ∨ x = .lowClaim ∨ x = .tied ∨ x = .range) then
    meetMarks (regAddr p off) (masterClaim s m) s
  else s

/-- A register write: judged, then handed to the block's own effect `h`. -/
def guardedWrite (m p off : Nat) (v : Word) (h : State → State) (s : State) : State :=
  match judge s m p off 8 v with
  | .ok => acceptedWrite m p off v h (arriveWrite .ok m p off s)
  | x => refusedWrite p x (arriveWrite x m p off s)

end Sys2Proof.Machine
end

