-- ==== Sys2Proof/Machine/Operands.lean ====
section
/-! DEFINITION. Operand forms the commands share: stream table entries (R114), presets (R122), the conversion of a
device time to a sample index (R287), turn regions (R153, R155), and the dispatched mark an action row names (R289). -/

namespace Sys2Proof.Machine

/-! ## Result of a meaning -/

/-- Every meaning of this block ends in a next state. -/
abbrev Result := Host.Outcome State Fault Refusal

/-- SPR page of lane `n`, RCH page of engine `n`, FPL page of Faceplate `f` (R67). -/
abbrev sprPage (n : Nat) : Nat := 0x10 + n
abbrev rchPage (n : Nat) : Nat := 0x50 + n
abbrev fplPage (f : Nat) : Nat := 0x90 + f

/-- MRK page and TBS page (R67). -/
abbrev mrkPage : Nat := 0x333
abbrev tbsPage : Nat := 0x330

/-! ## Stream table entries (R114) -/

/-- Word `w` of stream table entry `n`. -/
def stWord (s : State) (n w : Nat) : Word := wtGet s.spr.streams (6 * n + w)

/-- A field of word 0 of a stream table entry. -/
def st0 (s : State) (n lo k : Nat) : Nat := fieldOf (stWord s n 0) lo k

def stValid (s : State) (n : Nat) : Bool := bitOf (stWord s n 0) 0
def stSrcKind (s : State) (n : Nat) : Nat := st0 s n 1 1
def stLane (s : State) (n : Nat) : Nat := st0 s n 2 6
def stPort (s : State) (n : Nat) : Nat := st0 s n 8 2
def stSrcId (s : State) (n : Nat) : Nat := st0 s n 10 16
def stFormat (s : State) (n : Nat) : Nat := st0 s n 26 4
def stPreset (s : State) (n : Nat) : Nat := st0 s n 30 3
def stFaceplate (s : State) (n : Nat) : Nat := st0 s n 33 4
def stRateNum (s : State) (n : Nat) : Nat := fieldOf (stWord s n 1) 0 40
def stRateDen (s : State) (n : Nat) : Nat := fieldOf (stWord s n 1) 40 24

/-- Sample index origin of a stream in 2^-16 ns (R114). -/
def stOrigin (s : State) (n : Nat) : Nat :=
  (stWord s n 2).toNat * secondUnits + fieldOf (stWord s n 3) 0 32 * 65536 + fieldOf (stWord s n 3) 32 16

/-- The valid stream numbers, ascending. -/
def stList (s : State) : List Nat :=
  s.spr.streams.filterMap (fun e => if e.1 % 6 = 0 ∧ bitOf e.2 0 then some (e.1 / 6) else none)

/-- Components per sample of a stream: 1 real, 2 complex (R119). -/
def stComponents (s : State) (n : Nat) : Nat := if sampleComplex (stFormat s n) then 2 else 1

/-- Native rate × components, in components per second (R119). -/
def stLoad (s : State) (n : Nat) : Rat := mkRat (stRateNum s n * stComponents s n : Nat) (stRateDen s n)

/-- Sum of loads. -/
def loadSum (f : Nat → Rat) (l : List Nat) : Rat := l.foldl (fun a n => a + f n) 0

/-- A load in 10^6 component samples per second, rounded up. -/
def loadMega (x : Rat) : Nat := (x / 1000000).ceil.toNat

/-- E of R110, `none` while unset. -/
def stExpect (s : State) (n : Nat) : Option Nat :=
  match ntGet s.spr.expect n with
  | 0 => none
  | e + 1 => some e

/-- The state with E of a stream set or unset. -/
def setExpect (n : Nat) (e : Option Nat) (s : State) : State :=
  { s with spr := { s.spr with expect := ntSet s.spr.expect n ((e.map (· + 1)).getD 0) } }

/-- Word 5 of an entry: NEXT_INDEX, all ones while unset (R114). -/
def stNextIndex (s : State) (n : Nat) : Word :=
  match stExpect s n with
  | none => BitVec.ofNat 64 (2 ^ 64 - 1)
  | some e => BitVec.ofNat 64 e

/-- Count onto a saturating field of word 4 of an entry (R114). -/
def stCount (n lo k c : Nat) (s : State) : State :=
  let w := stWord s n 4
  { s with spr := { s.spr with
      streams := wtSet s.spr.streams (6 * n + 4) (withField w lo k (satAdd k (fieldOf w lo k) c)) } }

/-- Samples of a stream are lost: its LOST word and `SPR_CNT[8]` of its lane (R14, R118). -/
def countLost (n c : Nat) (s : State) : State :=
  countK (sprPage (stLane s n)) R.SPR_CNT 8 c (stCount n 0 32 c s)

/-! ## Presets (R122) -/

/-- Decimation D. -/
def presetD (p : Nat) : Nat := [1, 2, 4, 16, 64].getD p 1

/-- CIC decimation R; 1 where there is no CIC stage. -/
def presetR (p : Nat) : Nat := [1, 1, 2, 8, 32].getD p 1

/-- CIC order K. -/
def presetK (p : Nat) : Nat := if 2 ≤ p then 4 else 0

/-- FIR taps. -/
def presetTaps (p : Nat) : Nat := [0, 45, 61, 77, 81].getD p 0

/-- Group delay G in input samples. -/
def presetG (p : Nat) : Nat := presetK p * (presetR p - 1) / 2 + presetR p * (presetTaps p - 1) / 2

/-- Unsettled outputs N. -/
def presetN (p : Nat) : Nat := [0, 12, 16, 20, 22].getD p 0

/-- The shift s of R126. -/
def presetShift (p : Nat) : Nat := 11 + presetK p * Nat.log2 (presetR p)

def stD (s : State) (n : Nat) : Nat := presetD (stPreset s n)

/-- First multiple of `d` at or after `x`. -/
def ceilTo (x d : Nat) : Nat := ceilDiv x d * d

/-! ## Marks (R26, R287, R289, R290) -/

/-- The sample index a mark time resolves to: origin and time in 2^-16 ns (R287). -/
def resolveIndex (t o num den : Nat) : Nat :=
  if t ≤ o then 0 else ceilDiv ((t - o) * num) (den * 65536000000000)

/-- Sample index of a mark time for a stream (R26, R287). -/
def resolveFor (s : State) (n t : Nat) : Nat := resolveIndex t (stOrigin s n) (stRateNum s n) (stRateDen s n)


/-- Completion status codes of MRK_DONE. -/
abbrev mkDone : Nat := 1
abbrev mkLate : Nat := 2
abbrev mkDropped : Nat := 3
abbrev mkRefused : Nat := 4
abbrev mkIncomplete : Nat := 5


/-- One occurrence fewer is in flight; an entry whose last occurrence has completed is freed (R289). -/
def markLanded (h : Nat) (s : State) : State :=
  match sparseFind s.mrk.entries h with
  | none => s
  | some e =>
    if e.flying ≤ 1 ∧ e.last then { s with mrk := { s.mrk with entries := sparseErase s.mrk.entries h } }
    else
      { s with mrk := { s.mrk with
          entries := sparseInsert (sparseErase s.mrk.entries h) h { e with flying := e.flying - 1 } } }

/-- A report enters the completion queue of 256, or is lost (MRK_DONE). -/
def markReport (r : MarkReport) (s : State) : State :=
  if 256 ≤ s.mrk.done.length then setSticky mrkPage S.MRK_DONE_OVF s
  else { s with mrk := { s.mrk with done := s.mrk.done ++ [r] } }

/-- An occurrence completes with a status, the worst of what was noted on the way and now (R289, R290). -/
def markComplete (o : MarkOcc) (status : Nat) (s : State) : State :=
  let s := { s with mrk := { s.mrk with occs := removeFirst o.same s.mrk.occs } }
  markReport ⟨o.handle, max o.status status, timeNs o.time⟩ (markLanded o.handle s)

/-- An action acts late: `STICKY.LATE` of the MRK page (R290). -/
def noteLate (late : Bool) (s : State) : State := stickyIf late mrkPage S.MRK_LATE s

/-- An action is dropped: `STICKY.DROPPED` of the MRK page (R290). -/
def noteDropped (d : Bool) (s : State) : State := stickyIf d mrkPage S.MRK_DROPPED s

/-- Sample action `a` of a mark is delivered: `f` fixes the boundaries and says whether any of them is late (R289, R290). A handle
with no occurrence of that action has nothing to deliver. -/
def sampleAction (h a : Nat) (f : MarkOcc → State → Bool × State) (s : State) : State :=
  match markOcc s h a with
  | none => s
  | some o =>
    let r := f o s
    markComplete o (if r.1 then mkLate else mkDone) (noteLate r.1 r.2)

/-- Non-sample action `a` of a mark acts at its tick, late, or not at all (R286, R289, R290); `f` gives the status of its
targets. While an action before it in table order has not acted, it waits (R292). -/
def tickAction (h a : Nat) (f : MarkOcc → State → Nat × State) (s : State) : State :=
  match markOcc s h a with
  | none => s
  | some o =>
    if !tickFirst s o then s
    else
      let late := actsLate s o
      let s := advanceTo o.time s
      if late && o.skipLate then markComplete o mkDropped (noteDropped true s)
      else
        let r := f o (noteLate late s)
        markComplete o (max (if late then mkLate else mkDone) r.1) r.2

/-! ## Turn regions (R153, R155) -/

/-- Word `w` of region `r` of C-die `d`. -/
def regionWord (s : State) (d r w : Nat) : Word := wtGet s.fpl.regions ((16 * d + r) * 2 + w)

def regionValid (s : State) (d r : Nat) : Bool := bitOf (regionWord s d r 0) 0
def regionFormat (s : State) (d r : Nat) : Nat := fieldOf (regionWord s d r 0) 1 2
def regionLog2N (s : State) (d r : Nat) : Nat := fieldOf (regionWord s d r 0) 3 5
def regionT (s : State) (d r : Nat) : Nat := fieldOf (regionWord s d r 0) 8 13 * 256
def regionBlocks (s : State) (d r : Nat) : Nat := fieldOf (regionWord s d r 0) 21 14
def regionDepth (s : State) (d r : Nat) : Nat := fieldOf (regionWord s d r 0) 35 7
def regionBase (s : State) (d r : Nat) : Nat := (regionWord s d r 1).toNat

/-- MODE of region `r` in the gang: 0 LOCAL, 1 BY_CHANNEL, 2 BY_BATCH (R261). -/
def gangMode (s : State) (r : Nat) : Nat :=
  if gangSize s = 1 then 0 else fld s 0x320 (F.ZHK_REGION_MODE.at r)

/-- Divisor of a channel number that gives its local channel: 4, or 4G in BY_CHANNEL mode (R155, R262). -/
def chanDiv (s : State) (r : Nat) : Nat := if gangMode s r = 1 then 4 * gangSize s else 4

/-- Channels of a region each C-die owns: N / 4 or N / (4G) (R155, R262). -/
def regionChans (s : State) (d r : Nat) : Nat := 2 ^ regionLog2N s d r / chanDiv s r

/-- BLK_BYTES, CH_BYTES and SIZE of R155. -/
def regionBlkBytes (s : State) (d r : Nat) : Nat := regionT s d r * 32 * operandBytes (regionFormat s d r)
def regionChBytes (s : State) (d r : Nat) : Nat := regionBlocks s d r * regionBlkBytes s d r
def regionSize (s : State) (d r : Nat) : Nat := regionDepth s d r * regionChans s d r * regionChBytes s d r

/-- Address of the operand of position `i`, local channel `lc`, batch `b` and spectrum `t` of the batch (R155). -/
def operandAddr (s : State) (d r i lc b t : Nat) : Nat :=
  let w := operandBytes (regionFormat s d r)
  regionBase s d r + (b % regionDepth s d r * regionChans s d r + lc) * regionChBytes s d r
    + i / 32 * regionBlkBytes s d r + t * 32 * w + i % 32 * w

/-! ## Register operations with more than one act (R473) -/

/-- An act whose bit is set in the value written, the acts of one write in ascending bit order (R473). -/
def actIf (v : Word) (b : Nat) (f : State → State) (s : State) : State := if bitOf v b then f s else s

/-- The outcome of a table operation: its RESULT field, and CFG_REFUSED where it was refused (R475). The register write
that started it is DONE all the same (R86). -/
def tableResult (p : Nat) (f : FieldRef) (r : Nat) (s : State) : State :=
  stickyIf (decide (r ≠ 0)) p S.CFG_REFUSED (setFld p f r s)

end Sys2Proof.Machine
end

