-- ==== Sys2Proof/Machine/Retire.lean ====
section
/-! DEFINITION. Retirement: the retire list and the RETIRED state of a unit's page (R76, R409, R412). -/

namespace Sys2Proof.Machine

/-- A retire-list entry in the layout of STW_RL_DATA. -/
def rlEntry (kind unit : Nat) : Word := BitVec.ofNat 64 (kind % 256 + unit % 2 ^ 32 * 256)

/-- Whether a unit is listed (R409): a removed entry is listed until the next full reset (R412). -/
def rlListed (s : State) (kind unit : Nat) : Bool :=
  s.rl.entries.any (fun w => decide (fieldOf w 0 8 = kind ∧ fieldOf w 8 32 = unit))

/-- A retirement enters the list: not twice, and not past 4,096 entries (R409, R412). -/
def rlAdd (kind unit : Nat) (s : State) : State :=
  if rlListed s kind unit then s
  else if 4096 ≤ s.rl.entries.length then setSticky 0x3D0 S.STW_LIST_FULL s
  else
    setSticky 0x3D0 S.STW_UNIT_RETIRED
      { s with rl := { s.rl with entries := s.rl.entries ++ [rlEntry kind unit], changes := s.rl.changes + 1 } }

/-- A unit with a page of its own is retired: RETIRED in its page, and an entry in the list (R76, R409). -/
def retireUnit (page kind unit : Nat) (s : State) : State :=
  rlAdd kind unit (setFld page F.PAGE_STATUS_RETIRED 1 s)

end Sys2Proof.Machine
end

