-- ==== Sys2Proof/Machine/HbmBase.lean ====
section
/-! DEFINITION. Access to HBM as every master makes it: the address map (R328 to R330), refusals, the reserved span,
fences, poison, row retirement (R334 to R338, R346). -/

namespace Sys2Proof.Machine

/-- HBM page of stack `d`, HPC page of instance `i` (R67). -/
abbrev hbmPage (d : Nat) : Nat := 0x230 + d
abbrev hpcPage (i : Nat) : Nat := 0x240 + i

/-- 36 GiB (R328). -/
abbrev stackBytes : Nat := 0x900000000

/-- First reserved stack offset (R329). -/
abbrev stackUsable : Nat := 0x8F0000000

/-- Stack of an HBM address and the offset in it (R328). -/
def stackOf (a : Nat) : Nat := a / stackBytes
def stackOff (a : Nat) : Nat := a % stackBytes

/-- HPC instance of an HBM address (R330). -/
def hpcOf (a : Nat) : Nat :=
  let g := stackOff a / 256
  32 * stackOf a + ((g ^^^ (g / 32) ^^^ (g / 1024)) % 32)

/-- Offset within the pseudo-channel (R330). -/
def pcOffset (a : Nat) : Nat := stackOff a / 256 / 32 * 256 + a % 256

/-- Stack ID, row, bank and column (R330). -/
def pcSid (a : Nat) : Nat := pcOffset a / 402653184
def pcRow (a : Nat) : Nat := pcOffset a / 16384 % 24576
def pcBank (a : Nat) : Nat := pcOffset a / 1024 % 16
def pcCol (a : Nat) : Nat := pcOffset a % 1024

/-- The row of an address as a retire-list unit (R409). -/
def rowUnit (a : Nat) : Nat :=
  pcRow a + pcBank a * 2 ^ 15 + pcSid a * 2 ^ 19 + hpcOf a % 32 * 2 ^ 21 + stackOf a * 2 ^ 26

/-- Whether a byte lies in the reserved span of its stack (R329). -/
def hbmReserved (a : Nat) : Bool := decide (stackUsable ≤ stackOff a)

/-- Whether `n` bytes from an address lie in HBM (R328). -/
def hbmInside (a n : Nat) : Bool := decide (a + n ≤ 4 * stackBytes)

/-- Whether a stack refuses requests: SELF_REFRESH or FAILED (R334, R339). -/
def stackRefuses (s : State) (d : Nat) : Bool :=
  decide (fld s (hbmPage d) F.HBM_STATUS_STATE = 3 ∨ fld s (hbmPage d) F.HBM_STATUS_STATE = 4)

/-- Whether an access completes with an error response before any byte moves. -/
def hbmRefuses (s : State) (a n : Nat) : Bool :=
  !hbmInside a n || stackRefuses s (stackOf a) || stackRefuses s (stackOf (a + n - 1))

/-- Whether a byte lies in a fenced row (R338). -/
def rowFenced (s : State) (a : Nat) : Bool :=
  !s.hbm.fenced.isEmpty && decide (rowUnit a ∈ s.hbm.fenced)

/-- Whether one of `n` bytes from an address lies in the reserved span. -/
def touchesReserved (a n : Nat) : Bool := hbmReserved a || hbmReserved (a + n - 1)


/-- Number of 256-byte granules touched. -/
def granules (a n : Nat) : Nat := if n = 0 then 0 else (a + n - 1) / 256 - a / 256 + 1

/-- Served requests are counted by the stack (HBM_CNT[0]). -/
def countServed (a n : Nat) (s : State) : State := countK (hbmPage (stackOf a)) R.HBM_CNT 0 (granules a n) s

/-- The bytes of a write that take effect: outside the reserved span and outside fenced rows (R329, R338). -/
def hbmStore (a : Nat) : List Byte → State → State
  | [], s => s
  | b :: l, s => hbmStore (a + 1) l (if hbmReserved a || rowFenced s a then s else memSet a b s)

/-- A full write of a word removes its poison (R336). -/
def unpoison (a n : Nat) (s : State) : State :=
  if s.hbm.poison.isEmpty then s
  else
    { s with hbm := { s.hbm with
        poison := s.hbm.poison.filter (fun w => !decide (a ≤ w * 32 ∧ w * 32 + 32 ≤ a + n)) } }

/-- The fences a write touches (R346). -/
def fencesHit (s : State) (a n : Nat) : List HbmFence :=
  s.hbm.fences.filter (fun f => decide (a < f.lo + f.len ∧ f.lo < a + n))

/-- The first fence a write touches, if any (R346). -/
def fenceHit (s : State) (a n : Nat) : Option HbmFence := (fencesHit s a n).head?

/-- Every page and bit that reports a fence among those given, each once (R187, R213, R346). -/
def reportFences (l : List HbmFence) (s : State) : State := l.foldl (fun s f => setSticky f.page f.bit s) s

/-- A write by a master: whether it completes with an error response, and the state after it (R329, R334, R338,
R346). Every fence it touches is reported in the page that owns it. A firing injected into RESERVED_ACCESS makes the
access one of the reserved span (R75). -/
def hbmWrite (a : Nat) (l : List Byte) (s : State) : Bool × State :=
  if l.isEmpty then (false, s)
  else if hbmRefuses s a l.length then (true, s)
  else
    match fenceHit s a l.length with
    | some _ => (true, countK (hbmPage (stackOf a)) R.HBM_CNT 5 1 (reportFences (fencesHit s a l.length) s))
    | none =>
      let d := takeArmed (hbmPage (stackOf a)) S.HBM_RESERVED_ACCESS s
      let s := stickyIf (touchesReserved a l.length || d.1) (hbmPage (stackOf a)) S.HBM_RESERVED_ACCESS d.2
      let s := countServed a l.length s
      (false, if d.1 then s else unpoison a l.length (hbmStore a l s))

/-- Zeroes written from an address on in units of `w` bytes (the slot fill of R156): a unit that meets a fence keeps its bytes,
each such fence is reported once, and a word written whole loses its poison (R336, R346; log entry 57). -/
def hbmClear (a n w : Nat) (s : State) : State :=
  let held := s.hbm.fences.filter (fun f => decide (f.lo < a + n ∧ a < f.lo + f.len))
  let kept := fun x : Nat =>
    let c := a + (x - a) / w * w
    held.any (fun f => decide (f.lo < c + w ∧ c < f.lo + f.len))
  let s := { s with
    mem := s.mem.filter (fun e => !decide (a ≤ e.1 ∧ e.1 < a + n) || kept e.1)
    hbm := { s.hbm with
      poison := s.hbm.poison.filter (fun x =>
        !decide (a ≤ x * 32 ∧ x * 32 + 32 ≤ a + n) || (List.range 32).any (fun k => kept (x * 32 + k))) } }
  held.foldl (fun s f => countK (hbmPage (stackOf a)) R.HBM_CNT 5 1 (setSticky f.page f.bit s)) s

/-- Bytes as the controller returns them: reserved bytes read zero (R329). -/
def hbmBytes (s : State) (a : Nat) : Nat → List Byte
  | 0 => []
  | n + 1 => (if hbmReserved a then 0 else memGet s a) :: hbmBytes s (a + 1) n

/-- The words of a range that are poisoned or lie in a fenced row (R336, R338). -/
def badWords (s : State) (a n : Nat) : List Nat :=
  if s.hbm.poison.isEmpty && s.hbm.fenced.isEmpty then []
  else
    ((List.range ((a + n + 31) / 32 - a / 32)).map (fun k => a / 32 + k)).filter (fun w =>
      decide (w ∈ s.hbm.poison) || rowFenced s (w * 32))

/-- What an uncorrectable word leaves in its HPC page (R336). -/
def reportUncorr (a : Nat) (s : State) : State :=
  let p := hpcPage (hpcOf a)
  let s := setSticky p S.HPC_ECC_UNCORR s
  let s := setFld p F.HPC_ERR_ADDR_ADDR (a / 32 * 32) (setFld p F.HPC_ERR_ADDR_UNCORR 1 s)
  countK (hbmPage (stackOf a)) R.HBM_CNT 4 1 s

/-- What a read returns: bytes, whether some are poisoned, whether it completed with an error response. -/
structure HbmRead where
  bytes : List Byte
  poison : Bool
  err : Bool
  deriving DecidableEq, Repr

/-- A read by a master (R329, R334, R336). A refused read returns all ones. -/
def hbmRead (a n : Nat) (s : State) : HbmRead × State :=
  if n = 0 then (⟨[], false, false⟩, s)
  else if hbmRefuses s a n then (⟨List.replicate n 0xFF#8, false, true⟩, s)
  else
    let d := takeArmed (hbmPage (stackOf a)) S.HBM_RESERVED_ACCESS s
    let s := stickyIf (touchesReserved a n || d.1) (hbmPage (stackOf a)) S.HBM_RESERVED_ACCESS d.2
    let s := countServed a n s
    if d.1 then (⟨List.replicate n 0#8, false, false⟩, s)
    else
      let l := badWords s a n
      (⟨hbmBytes s a n, !l.isEmpty, false⟩, l.foldl (fun s w => reportUncorr (w * 32) s) s)

/-- A read of a number. -/
def hbmNum (a n : Nat) (s : State) : Nat × Bool × State :=
  let r := hbmRead a n s
  (ofLeBytes r.1.bytes, r.1.poison || r.1.err, r.2)

/-! ## Rows -/

/-- Row `a` is retired: repaired while its bank has one of two repairs left, else fenced; listed either way
(R337, R338). -/
def retireRow (a : Nat) (s : State) : State :=
  let u := rowUnit a
  if u ∈ s.hbm.retired then s
  else
    let bank := u / 2 ^ 15
    let d := stackOf a
    let left := decide (ntGet s.hbm.repairs bank < 2)
    let s := { s with hbm := { s.hbm with retired := u :: s.hbm.retired } }
    let s :=
      if left then { s with hbm := { s.hbm with repairs := ntSet s.hbm.repairs bank (ntGet s.hbm.repairs bank + 1) } }
      else
        countFld (hbmPage d) F.HBM_STATUS_ROWS_FENCED 1
          (setSticky (hbmPage d) S.HBM_REPAIR_EXHAUSTED
            { s with hbm := { s.hbm with fenced := u :: s.hbm.fenced } })
    let s := countFld (hbmPage d) F.HBM_STATUS_ROWS_RETIRED 1 s
    let s := rlAdd 4 u s
    setSticky (hpcPage (hpcOf a)) S.PERMANENT (setSticky (hpcPage (hpcOf a)) S.HPC_ROW_RETIRED s)

/-- Events of a tracker within the window in force for it now (R76, R337). -/
def trackerNow (s : State) (t : RowTracker) : List Nat := withinMs s t.win t.times

/-- The highest count of the trackers of a pseudo-channel: what RETRY_COUNT of its page reports (R337). -/
def trackerTop (s : State) (i : Nat) : Nat :=
  ((alGet {} s.hbm.pcs i).trackers.map (fun t => (trackerNow s t).length)).foldl max 0

/-- The least recently used of a list of trackers. -/
def oldestTracker : List RowTracker → Option RowTracker
  | [] => none
  | t :: l =>
    match oldestTracker l with
    | none => some t
    | some u => if t.used ≤ u.used then some t else some u

/-- A corrected error counts against the tracker of its row; at the threshold the row retires (R337). -/
def countRow (a : Nat) (s : State) : State :=
  let i := hpcOf a
  let p := hpcPage i
  if !flag s p F.PAGE_CTRL_ENABLE then s
  else
    let c := alGet {} s.hbm.pcs i
    let u := rowUnit a
    let base := c.trackers.filter (fun t => decide (t.row ≠ u))
    let old := (c.trackers.find? (fun t => decide (t.row = u))).getD ⟨u, [], 0, 0⟩
    let w := fieldOf (reg s p R.RETRY_CFG) 0 32
    let base :=
      if 16 ≤ base.length then base.filter (fun t => decide (some t ≠ oldestTracker base)) else base
    let t : RowTracker := ⟨u, withinMs s w (trackerNow s old) ++ [devTime s], c.clock + 1, w⟩
    let s := { s with hbm := { s.hbm with
        pcs := alSet {} s.hbm.pcs i { c with trackers := t :: base, clock := c.clock + 1 } } }
    let s := countFld p F.RETRY_COUNT_TOTAL 1 s
    let th := fieldOf (reg s p R.RETRY_CFG) 32 16
    if th ≠ 0 ∧ th ≤ t.times.length then retireRow a s else s

/-- An error in a word read from the array (R335, R336): corrected, or written back poisoned with its row retired. -/
def wordError (w : Nat) (uncorr : Bool) (s : State) : State :=
  let a := w * 32
  let p := hpcPage (hpcOf a)
  if uncorr then
    let s := { s with hbm := { s.hbm with poison := if w ∈ s.hbm.poison then s.hbm.poison else w :: s.hbm.poison } }
    retireRow a (reportUncorr a s)
  else
    let s := setSticky p S.HPC_ECC_CORR s
    let s := setFld p F.HPC_ERR_ADDR_ADDR a (setFld p F.HPC_ERR_ADDR_UNCORR 0 s)
    countRow a (countK (hbmPage (stackOf a)) R.HBM_CNT 3 1 s)

/-! ## Fences (R346) -/

/-- Whether the controller of the stack of an address has room for another range. -/
def fenceRoom (s : State) (a : Nat) : Bool :=
  decide ((s.hbm.fences.filter (fun f => decide (stackOf f.lo = stackOf a))).length < 64)

/-- The state without the fences of an owner. -/
def dropFences (owner : Nat) (s : State) : State :=
  { s with hbm := { s.hbm with fences := s.hbm.fences.filter (fun f => decide (f.owner ≠ owner)) } }

/-- The state with one more fence. -/
def addFence (f : HbmFence) (s : State) : State := { s with hbm := { s.hbm with fences := s.hbm.fences ++ [f] } }

end Sys2Proof.Machine
end

