-- ==== Sys2Proof/Machine/EthWire.lean ====
section
/-! DEFINITION. Ethernet frames as bytes: protocol headers in network order (R6), made and read. The layouts are those of the
standards (IEEE 802.3, 802.1Q and 802.1AB; ARP, IPv4, IPv6, neighbour discovery and UDP of the RFCs): PRESUMED, log entry
96. -/

namespace Sys2Proof.Machine

/-! ## Network byte order (R6) -/

/-- The `n` low bytes of a number, most significant first. -/
def beBytes (n x : Nat) : List Byte := (leBytes n x).reverse

/-- The number of `n` bytes from byte `a` of a string, most significant first. -/
def beAt (l : List Byte) (a n : Nat) : Nat := ofLeBytes (((l.drop a).take n).reverse)

/-! ## The Internet checksum -/

/-- The sum of a string's 16-bit words, the last byte of an odd string the upper half of a word. -/
def wordSum : List Byte → Nat
  | a :: b :: l => a.toNat * 256 + b.toNat + wordSum l
  | [a] => a.toNat * 256
  | [] => 0

/-- The ones' complement sum of a string below 2^24 bytes. -/
def onesSum (l : List Byte) : Nat :=
  let n := wordSum l
  let a := n % 65536 + n / 65536
  a % 65536 + a / 65536

/-- The checksum of a string in which the checksum's own field is zero. -/
def inetChecksum (l : List Byte) : Nat := 0xFFFF - onesSum l

/-- Whether a string with its checksum in place is right. -/
def inetGood (l : List Byte) : Bool := decide (onesSum l = 0xFFFF)

/-! ## Frames made -/

/-- An Ethernet header: addresses, the 802.1Q tag if there is one (priority, VLAN), the EtherType. -/
def macHead (dst src : Nat) (tag : Option (Nat × Nat)) (type : Nat) : List Byte :=
  beBytes 6 dst ++ beBytes 6 src ++
    (match tag with
     | some (pcp, vid) => beBytes 2 0x8100 ++ beBytes 2 (pcp * 8192 + vid)
     | none => []) ++ beBytes 2 type

/-- The ends of an IP datagram, and what its header says of its handling. -/
structure IpEnds where
  ipv6 : Bool
  src : Nat
  dst : Nat
  dscp : Nat
  ttl : Nat
  deriving DecidableEq, Repr

/-- The EtherType of a datagram. -/
def IpEnds.type (e : IpEnds) : Nat := if e.ipv6 then 0x86DD else 0x0800

/-- The pseudo-header that a transport checksum also covers. -/
def pseudoHead (ipv6 : Bool) (src dst proto len : Nat) : List Byte :=
  if ipv6 then beBytes 16 src ++ beBytes 16 dst ++ beBytes 4 len ++ beBytes 4 proto
  else beBytes 4 src ++ beBytes 4 dst ++ beBytes 2 proto ++ beBytes 2 len

/-- A datagram with protocol `proto`: IPv4 with DF set (R373), or IPv6. -/
def ipPacket (e : IpEnds) (proto : Nat) (body : List Byte) : List Byte :=
  if e.ipv6 then
    beBytes 4 (6 * 2 ^ 28 + e.dscp * 2 ^ 22 + (Config.flowLabel body).toNat) ++ beBytes 2 body.length ++ beBytes 1 proto
      ++ beBytes 1 e.ttl ++ beBytes 16 e.src ++ beBytes 16 e.dst ++ body
  else
    let head (ck : Nat) : List Byte :=
      [0x45#8] ++ beBytes 1 (e.dscp * 4) ++ beBytes 2 (20 + body.length) ++ beBytes 2 (Config.ipIdent body).toNat
        ++ beBytes 2 0x4000 ++ beBytes 1 e.ttl ++ beBytes 1 proto ++ beBytes 2 ck ++ beBytes 4 e.src ++ beBytes 4 e.dst
    head (inetChecksum (head 0)) ++ body

/-- A UDP datagram in IP; a checksum of zero is sent as all ones. -/
def udpPacket (e : IpEnds) (sport dport : Nat) (body : List Byte) : List Byte :=
  let n := 8 + body.length
  let head (ck : Nat) : List Byte := beBytes 2 sport ++ beBytes 2 dport ++ beBytes 2 n ++ beBytes 2 ck
  let ck := inetChecksum (pseudoHead e.ipv6 e.src e.dst 17 n ++ head 0 ++ body)
  ipPacket e 17 (head (if ck = 0 then 0xFFFF else ck) ++ body)

/-- An ARP reply: `ip` is at `mac`. -/
def arpReply (mac ip toMac toIp : Nat) : List Byte :=
  macHead toMac mac none 0x0806 ++ beBytes 2 1 ++ beBytes 2 0x0800 ++ beBytes 1 6 ++ beBytes 1 4 ++ beBytes 2 2
    ++ beBytes 6 mac ++ beBytes 4 ip ++ beBytes 6 toMac ++ beBytes 4 toIp

/-- A solicited neighbour advertisement: `ip` is at `mac`. -/
def neighbourReply (mac ip toMac toIp : Nat) : List Byte :=
  let body (ck : Nat) : List Byte :=
    beBytes 2 0x8800 ++ beBytes 2 ck ++ beBytes 4 0x60000000 ++ beBytes 16 ip ++ beBytes 2 0x0201 ++ beBytes 6 mac
  macHead toMac mac none 0x86DD ++
    ipPacket ⟨true, ip, toIp, 0, 255⟩ 58 (body (inetChecksum (pseudoHead true ip toIp 58 32 ++ body 0)))

/-- A MAC Control frame (R375): PAUSE, or PFC for one class. -/
def pauseFrame (mac : Nat) (pfc : Bool) (cls time : Nat) : List Byte :=
  macHead 0x0180C2000001 mac none 0x8808 ++
    (if pfc then beBytes 2 0x0101 ++ beBytes 2 (2 ^ cls) ++
      (List.range 8).flatMap (fun k => beBytes 2 (if k = cls then time else 0))
    else beBytes 2 1 ++ beBytes 2 time)

/-- A TLV of LLDP. -/
def lldpTlv (type : Nat) (body : List Byte) : List Byte := beBytes 2 (type * 512 + body.length) ++ body

/-- An LLDPDU with the EEE TLV of Clause 79 (R378): the transmit wake time in use, and the one asked of the partner. -/
def lldpFrame (mac wake : Nat) : List Byte :=
  let ask := Config.eeeWake.toNat
  macHead 0x0180C200000E mac none 0x88CC ++ lldpTlv 1 (beBytes 1 4 ++ beBytes 6 mac) ++ lldpTlv 2 (beBytes 1 3 ++ beBytes 6 mac)
    ++ lldpTlv 3 (beBytes 2 Config.lldpTtl.toNat)
    ++ lldpTlv 127 (beBytes 3 0x00120F ++ beBytes 1 5 ++ beBytes 2 wake ++ beBytes 2 ask ++ beBytes 2 ask ++ beBytes 2 wake
      ++ beBytes 2 ask)
    ++ lldpTlv 0 []

/-! ## Frames read (R368) -/

/-- A UDP datagram of a frame, or its first fragment: family, destination address, address and UDP port it was sent from as
one number, address × 65536 + port, the MAC address it was sent from, destination port, whether it is a fragment, its checksum (0 right, 1
zero, 2 wrong), its payload. -/
structure UdpRx where
  ipv6 : Bool
  dst : Nat
  src : Nat
  mac : Nat
  port : Nat
  fragment : Bool
  cksum : Nat
  payload : List Byte
  deriving DecidableEq, Repr

/-- What a received frame is (R368): MAC Control, an LLDPDU with the wake time it asks for, PTP over Layer 2, an ARP request or
neighbour solicitation for an address with the MAC and IP address of who asks, UDP, a later fragment of a UDP datagram, or
another. -/
inductive EthContent where
  | control
  | lldp (wake : Option Nat)
  | ptp
  | solicit (ipv6 : Bool) (dst mac src : Nat)
  | udp (x : UdpRx)
  | fragment (ipv6 : Bool) (dst : Nat)
  | other
  deriving DecidableEq, Repr

/-- The wake time asked for in the EEE TLV of an LLDPDU, among at most `n` TLVs. -/
def lldpWake : Nat → List Byte → Option Nat
  | 0, _ => none
  | n + 1, l =>
    let h := beAt l 0 2
    let b := (l.drop 2).take (h % 512)
    if l.length < 2 ∨ h / 512 = 0 then none
    else if h / 512 = 127 ∧ beAt b 0 4 = 0x00120F05 ∧ 8 ≤ b.length then some (beAt b 6 2)
    else lldpWake n (l.drop (2 + h % 512))

/-- A UDP datagram, or a fragment of one. -/
def readUdp (ipv6 frag : Bool) (src dst mac : Nat) (u : List Byte) : EthContent :=
  let n := beAt u 4 2
  if u.length < 8 ∨ n < 8 then .other
  else
    let ck := beAt u 6 2
    let good := inetGood (pseudoHead ipv6 src dst 17 n ++ u.take n)
    .udp ⟨ipv6, dst, src * 65536 + beAt u 0 2, mac, beAt u 2 2, frag, if ck = 0 then 1 else if good then 0 else 2,
      (u.take n).drop 8⟩

/-- What an IPv4 packet holds. -/
def readIp4 (mac : Nat) (l : List Byte) : EthContent :=
  let h := beAt l 0 1 % 16 * 4
  let frag := beAt l 6 2 % 0x4000
  if beAt l 0 1 / 16 ≠ 4 ∨ h < 20 ∨ l.length < h ∨ inetGood (l.take h) = false ∨ beAt l 9 1 ≠ 17 then .other
  else if frag % 0x2000 ≠ 0 then .fragment false (beAt l 16 4)
  else readUdp false (decide (frag ≠ 0)) (beAt l 12 4) (beAt l 16 4) mac ((l.take (beAt l 2 2)).drop h)

/-- What an IPv6 packet holds. -/
def readIp6 (mac : Nat) (l : List Byte) : EthContent :=
  let src := beAt l 8 16
  let dst := beAt l 24 16
  let b := (l.drop 40).take (beAt l 4 2)
  let next := beAt l 6 1
  if beAt l 0 1 / 16 ≠ 6 ∨ l.length < 40 then .other
  else if next = 17 then readUdp true false src dst mac b
  else if next = 44 ∧ 8 ≤ b.length ∧ beAt b 0 1 = 17 then
    if beAt b 2 2 / 8 ≠ 0 then .fragment true dst else readUdp true (decide (beAt b 2 2 % 2 ≠ 0)) src dst mac (b.drop 8)
  else if next = 58 ∧ 24 ≤ b.length ∧ beAt b 0 2 = 0x8700 then .solicit true (beAt b 8 16) mac src
  else .other

/-- What a frame is, from its bytes without its FCS (R368). -/
def frameContent (l : List Byte) : EthContent :=
  let tagged := decide (beAt l 12 2 = 0x8100)
  let a := if tagged then 16 else 12
  let b := l.drop (a + 2)
  let mac := beAt l 6 6
  let type := beAt l a 2
  if l.length < a + 2 then .other
  else if type = 0x8808 then .control
  else if type = 0x88CC then .lldp (lldpWake b.length b)
  else if type = 0x88F7 then .ptp
  else if type = 0x0806 then
    (if beAt b 6 2 = 1 ∧ 28 ≤ b.length then .solicit false (beAt b 24 4) (beAt b 8 6) (beAt b 14 4) else .other)
  else if type = 0x0800 then readIp4 mac b
  else if type = 0x86DD then readIp6 mac b
  else .other

end Sys2Proof.Machine
end

