-- ==== Sys2Proof/Machine/Hbm.lean ====
section
/-! DEFINITION. The HBM controller and the Turn matrix as commands: requests, refresh, power-down, scrub and timeout
(R331 to R346). -/

namespace Sys2Proof.Machine

/-- Default priority of a (master, target) pair (R340). -/
def prioDefault (m t : Nat) : Nat :=
  if 4 ≤ t then 4
  else if m = 0 then 2
  else if m = 5 then 5
  else if m = 6 ∨ m = 7 then 6
  else if 16 ≤ m ∧ m ≤ 39 then 6
  else if 40 ≤ m ∧ m ≤ 43 then 5
  else if 64 ≤ m ∧ m ≤ 131 then 3
  else 4

/-- Priority of a pair (XBR_PAIR_DATA). -/
def pairPrio (s : State) (m t : Nat) : Nat :=
  match ntGet s.hbm.prio (16 * m + t) with
  | 0 => prioDefault m t
  | x + 1 => x

/-- Entries of the queues of the controllers and those held at their source. -/
def issuedEntries (s : State) : List HbmEntry := s.hbm.pcs.flatMap (fun e => e.2.queue ++ e.2.held)

/-- Requests a master has outstanding in the HBM (R342). -/
def outstanding (s : State) (m : Nat) : Nat := ((issuedEntries s).filter (fun e => decide (e.req.master = m))).length

/-- Whether one request stands before another of the same master and ordering ID. -/
def ahead (x e : HbmEntry) : Bool := decide (x.seq < e.seq ∧ x.req.master = e.req.master ∧ x.req.id = e.req.id)

/-- Whether an earlier request of the same master and ID to the same target is not yet served (R343). -/
def aheadHere (s : State) (e : HbmEntry) : Bool :=
  (issuedEntries s ++ s.hbm.waiting).any (fun x => ahead x e && decide (stackOf x.req.addr = stackOf e.req.addr))

/-- Whether an earlier request of the same master and ID to a different target is outstanding (R343). -/
def aheadElsewhere (s : State) (e : HbmEntry) : Bool :=
  (issuedEntries s ++ s.hbm.waiting).any (fun x => ahead x e && decide (stackOf x.req.addr ≠ stackOf e.req.addr))

/-- Whether a stack is OFF or TRAINING, so that requests to it are held at their source (R339). -/
def stackHolds (s : State) (d : Nat) : Bool := decide (fld s (hbmPage d) F.HBM_STATUS_STATE ≤ 1)

/-! ## Waits (R344) -/

/-- The first of a list of entries in the order of arrival. -/
def firstEntry : List HbmEntry → Option HbmEntry
  | [] => none
  | e :: l =>
    match firstEntry l with
    | none => some e
    | some f => if f.seq < e.seq then some f else some e

/-- A burst that waits: its master, the port it awaits, and the master that holds the port (R344). -/
structure XbrWait where
  master : Nat
  port : Nat
  holder : Nat
  deriving DecidableEq, Repr

/-- The master that holds a stack's port: that of the oldest burst granted there and not yet served (R341, R344; log entry
56). -/
def portHolder (s : State) (d : Nat) : Option Nat :=
  (firstEntry ((issuedEntries s).filter (fun e => decide (stackOf e.req.addr = d)))).map (fun e => e.req.master)

/-- The waits the matrix records: every granted burst of a master other than the holder of its port (R344). -/
def xbrWaits (s : State) : List XbrWait :=
  (issuedEntries s).filterMap (fun e =>
    match portHolder s (stackOf e.req.addr) with
    | some h => if h = e.req.master then none else some ⟨e.req.master, stackOf e.req.addr, h⟩
    | none => none)

/-- Whether a chain of at most `n` waits leads from master `a` to master `b`. -/
def waitsLead (l : List XbrWait) : Nat → Nat → Nat → Bool
  | 0, a, b => decide (a = b)
  | n + 1, a, b => decide (a = b) || l.any (fun w => decide (w.master = a) && waitsLead l n w.holder b)

/-- Whether granting a request would let the chain of waits lead back to its master (R344). Every wait leads to the holder of one
of the four stacks, so four of them reach whatever a chain reaches. -/
def chainBack (s : State) (e : HbmEntry) : Bool :=
  match portHolder s (stackOf e.req.addr) with
  | some h => decide (h ≠ e.req.master) && waitsLead (xbrWaits s).dedup 4 h e.req.master
  | none => false

/-- Whether a request must wait at its master (R339, R342, R343, R344). -/
def mustHold (s : State) (e : HbmEntry) : Bool :=
  decide (256 ≤ outstanding s e.req.master) || aheadElsewhere s e || stackHolds s (stackOf e.req.addr) || chainBack s e

/-- Pieces of a request: it never crosses a granule (R331). -/
def splitReq (r : HbmReq) : List HbmReq :=
  let n := 256 - r.addr % 256
  if r.len ≤ n then [r]
  else [{ r with len := n, data := r.data.take n },
        { r with addr := r.addr + n, len := r.len - n, data := r.data.drop n }]

/-- How far a master stands behind the one a port was last granted to, in the round robin (R341). -/
def turnsAway (s : State) (m t : Nat) : Nat := (m + 256 - ntGet s.hbm.last t) % 256

/-- Whether a port grants request `x` before request `r`: by priority, then by round robin (R80, R332, R341). -/
def grantedBefore (s : State) (x r : HbmReq) : Bool :=
  let p := pairPrio s x.master (stackOf x.addr)
  let q := pairPrio s r.master (stackOf r.addr)
  decide (q < p) || (decide (p = q) &&
    decide (turnsAway s x.master (stackOf x.addr) < turnsAway s r.master (stackOf r.addr)))

/-- Requests in the order the ports grant them; those of one master keep theirs. -/
def byPrio (s : State) (l : List HbmReq) : List HbmReq := sortBy (fun x r => !grantedBefore s r x) l

/-- A request is granted the port of its stack and reaches its pseudo-channel: queued, or held at its source while the queue is
full (R331). -/
def enterPc (e : HbmEntry) (s : State) : State :=
  let i := hpcOf e.req.addr
  let c : HbmPc := alGet {} s.hbm.pcs i
  let c : HbmPc := { c with down := false }
  let s := countK 0x2C0 R.XBR_CNT 0 1 s
  let c : HbmPc := if c.queue.length < 64 then { c with queue := c.queue ++ [e] } else { c with held := c.held ++ [e] }
  { s with hbm := { s.hbm with pcs := alSet {} s.hbm.pcs i c, last := ntSet s.hbm.last (stackOf e.req.addr) (e.req.master + 1) } }

/-- A waiting request is newly held back for the chain it would close: counted (R344). -/
def noteChain (s : State) (e : HbmEntry) : State :=
  if chainBack s e && !e.chained then
    let s := countK 0x2C0 R.XBR_CNT 2 1 s
    { s with hbm := { s.hbm with waiting := s.hbm.waiting.map (fun x => if x = e then { x with chained := true } else x) } }
  else s

/-- A new request: it goes on to its pseudo-channel, or waits at its master (R342 to R344). -/
def enterQueue (r : HbmReq) (s : State) : State :=
  let e : HbmEntry := ⟨r, s.hbm.nextSeq, false, s.mono⟩
  let s := { s with hbm := { s.hbm with nextSeq := s.hbm.nextSeq + 1 } }
  if mustHold s e then
    let s := if 256 ≤ outstanding s r.master then countK 0x2C0 R.XBR_CNT 1 1 s else s
    noteChain { s with hbm := { s.hbm with waiting := s.hbm.waiting ++ [e] } } e
  else enterPc e s

/-- Requests that wait at their masters go on where nothing holds them any longer, in the order the ports grant them (R341). -/
def releaseWaiting (s : State) : State :=
  (sortBy (fun x e => !grantedBefore s e.req x.req) s.hbm.waiting).foldl (fun s e =>
    if mustHold s e then noteChain s e
    else
      enterPc { e with chained := false }
        { s with hbm := { s.hbm with waiting := s.hbm.waiting.filter (fun x => decide (x ≠ e)) } }) s

/-- A die-to-die transfer that was resent (R345): answers whether it failed. -/
def linkResends (n : Nat) (s : State) : Bool × State :=
  if n = 0 then (false, s)
  else
    let s := countK 0x2C0 R.XBR_CNT 3 n (setSticky 0x2C0 S.XBR_LINK_RETRY s)
    if 8 ≤ n then (true, setSticky 0x2C0 S.XBR_LINK_FAIL s) else (false, s)

/-- Completion of a read towards its master: flags and bytes. -/
def readReply (m : Nat) (r : HbmRead) (s : State) : State :=
  send .readReply m ((if r.err then 1 else 0) :: (if r.poison then 1 else 0) :: r.bytes.map (fun b => b.toNat)) s

/-- A read completes towards its master in the issue order of its ID to its target (R343). -/
def completeRead (e : HbmEntry) (r : HbmRead) (s : State) : State :=
  if aheadHere s e then { s with hbm := { s.hbm with replies := s.hbm.replies ++ [⟨e, r.bytes, r.poison, r.err⟩] } }
  else readReply e.req.master r s

/-- Reads whose turn has come complete, in their order of arrival. -/
def releaseReplies (s : State) : State :=
  let l := s.hbm.replies.filter (fun r => !aheadHere s r.entry)
  let s := { s with hbm := { s.hbm with replies := s.hbm.replies.filter (fun r => aheadHere s r.entry) } }
  l.foldl (fun s r => readReply r.entry.req.master ⟨r.bytes, r.poison, r.err⟩ s) s

/-- A request reaches the matrix: refused at once, failed on its link, or handed to its pseudo-channel
(R331, R334, R345). -/
def arrive (r : HbmReq) (s : State) : State :=
  let l := linkResends r.resends s
  if l.1 || hbmRefuses l.2 r.addr r.len then
    if r.wr then l.2 else completeRead ⟨r, l.2.hbm.nextSeq, false, s.mono⟩ ⟨List.replicate r.len 0xFF#8, false, true⟩ l.2
  else (splitReq r).foldl (fun s x => enterQueue x s) l.2

/-- Key of the bank of an address among the open rows. -/
def bankKey (a : Nat) : Nat := 16 * pcSid a + pcBank a

/-- Whether a request hits an open row. -/
def rowHit (c : HbmPc) (r : HbmReq) : Bool := decide (ntGet c.rows (bankKey r.addr) = pcRow r.addr + 1)

/-- Whether the next choice is forced to the oldest request: 16 hits in a row to one bank (R331). -/
def forcedChoice (c : HbmPc) : Bool := decide (16 ≤ c.runLen)

/-- The request the scheduler takes next (R331). -/
def pickReq (c : HbmPc) : Option HbmEntry :=
  if forcedChoice c then c.queue.head?
  else
    match c.queue.find? (fun e => rowHit c e.req) with
    | some e => some e
    | none => c.queue.head?

/-- The pseudo-channel after serving a request: run of hits, open row, queue refilled from the source. -/
def afterServe (c : HbmPc) (e : HbmEntry) (now : Nat) : HbmPc :=
  let r := e.req
  let hit := rowHit c r
  let run := if hit && !forcedChoice c then (if c.runBank = bankKey r.addr then c.runLen + 1 else 1) else 0
  let q := removeFirst (fun x => decide (x = e)) c.queue
  { c with
    queue := q ++ c.held.take 1
    held := c.held.drop 1
    rows := ntSet c.rows (bankKey r.addr) (pcRow r.addr + 1)
    runBank := bankKey r.addr
    runLen := run
    idle := now }

/-- A served request acts on memory and answers its master. -/
def serveReq (e : HbmEntry) (s : State) : State :=
  let r := e.req
  if r.wr then (hbmWrite r.addr r.data s).2
  else let x := hbmRead r.addr r.len s; completeRead e x.1 x.2

/-- The words the array is read for: all of a read, and of a write those it covers in part, which are merged (R335). -/
def wordsRead (r : HbmReq) : List Nat :=
  ((List.range ((r.addr + r.len + 31) / 32 - r.addr / 32)).map (fun k => r.addr / 32 + k)).filter (fun w =>
    !(r.wr && decide (r.addr ≤ w * 32 ∧ w * 32 + 32 ≤ r.addr + r.len)))

/-- Whether a request reaches the array: not one that is refused, nor a fenced write (R334, R339, R346). -/
def reachesArray (s : State) (r : HbmReq) : Bool :=
  !hbmRefuses s r.addr r.len && !(r.wr && (fenceHit s r.addr r.len).isSome)

/-- Errors the array shows in the words a request reads, injected ones with them (R75, R335, R336). A poisoned word that a
write merges is reported like one that a read returns, and stays poisoned. -/
def reqErrors (r : HbmReq) (errs : List WordError) (s : State) : State :=
  match wordsRead r with
  | [] => s
  | w :: ws =>
    if !reachesArray s r then s
    else
      let p := hpcPage (hpcOf r.addr)
      let bad := if r.wr then (badWords s r.addr r.len).filter (fun x => decide (x ∈ w :: ws)) else []
      let s := bad.foldl (fun s x => reportUncorr (x * 32) s) s
      let c := takeArmed p S.HPC_ECC_CORR s
      let u := takeArmed p S.HPC_ECC_UNCORR c.2
      let l := errs.filter (fun e => decide (e.word ∈ w :: ws))
      let l := l ++ (if c.1 then [⟨w, false⟩] else []) ++ (if u.1 then [⟨w, true⟩] else [])
      l.foldl (fun s e => wordError e.word e.uncorr s) u.2

/-- One command slot of a pseudo-channel (R331). -/
def serveSlot (i : Nat) (errs : List WordError) (s : State) : State :=
  let c := alGet {} s.hbm.pcs i
  match pickReq c with
  | none => s
  | some e =>
    let r := e.req
    let d := stackOf r.addr
    let s := if forcedChoice c then countK (hbmPage d) R.HBM_CNT 2 1 s else s
    let s := if rowHit c r then countK (hbmPage d) R.HBM_CNT 1 1 s else s
    let s := { s with hbm := { s.hbm with pcs := alSet {} s.hbm.pcs i (afterServe c e s.mono) } }
    serveReq e (reqErrors r errs s)

/-- HBM_REQUEST (R331). -/
def execHbmRequest (pc : Nat) (arriving : List HbmReq) (errs : List WordError) (s : State) : Result :=
  .next (releaseWaiting (releaseReplies (serveSlot pc errs (releaseWaiting ((byPrio s arriving).foldl (fun s r => arrive r s) s)))))

/-- A stack reports its temperature, flagged above 85 °C, where the refresh rate doubles (R333). -/
def stackTemp (d temp : Nat) (s : State) : State :=
  stickyIf (decide (85 < temp)) (hbmPage d) S.HBM_TEMP_HIGH (setFld (hbmPage d) F.HBM_STATUS_TEMP (min temp 255) s)

/-- REFRESH (R333): the row of the bank closes, and a run of hits ends without counting as forced. -/
def execRefresh (pc : Nat) (bank : BankRefresh) (s : State) : Result :=
  let c := alGet {} s.hbm.pcs pc
  .next (stackTemp (pc / 32) bank.temp { s with hbm := { s.hbm with
      pcs := alSet {} s.hbm.pcs pc { c with rows := ntSet c.rows bank.bank 0, runLen := 0 } } })

/-- POWER_DOWN (R334): a queue that has been empty for PD_IDLE_NS, where that is not 0. -/
def execPowerDown (pc : Nat) (s : State) : Result :=
  let c := alGet {} s.hbm.pcs pc
  let ns := fld s (hbmPage (pc / 32)) F.HBM_CFG_PD_IDLE_NS
  if ns ≠ 0 ∧ c.queue = [] then
    .next (advanceMono (c.idle + ns * 65536)
      { s with hbm := { s.hbm with pcs := alSet {} s.hbm.pcs pc { c with down := true, rows := [], runLen := 0 } } })
  else .next s

/-- SCRUB (R335): a patrol read; its write-back is dropped where a write to the word is queued; it pauses while the
HBM page is disabled (R71). -/
def execScrub (pc word : Nat) (err : Option Bool) (s : State) : Result :=
  let d := stackOf (word * 32)
  if !flag s (hbmPage d) F.PAGE_CTRL_ENABLE || fld s (hbmPage d) F.HBM_STATUS_STATE ≠ 2 then .next s
  else
    match err with
    | none => .next ((badWords s (word * 32) 32).foldl (fun s w => reportUncorr (w * 32) s) s)
    | some u =>
      let c := alGet {} s.hbm.pcs pc
      let full := c.queue.any (fun e => e.req.wr && decide (e.req.addr ≤ word * 32 ∧ word * 32 + 32 ≤ e.req.addr + e.req.len))
      if u && full then .next (retireRow (word * 32) (reportUncorr (word * 32) s))
      else .next (wordError word u s)

/-- The state without a request, wherever it stands. -/
def dropEntry (e : HbmEntry) (s : State) : State :=
  let i := hpcOf e.req.addr
  let c := alGet {} s.hbm.pcs i
  let q := c.queue.filter (fun x => decide (x ≠ e))
  let h := c.held.filter (fun x => decide (x ≠ e))
  let c := { c with queue := q ++ h.take (64 - q.length), held := h.drop (64 - q.length), idle := s.mono }
  { s with hbm := { s.hbm with
      pcs := alSet {} s.hbm.pcs i c, waiting := s.hbm.waiting.filter (fun x => decide (x ≠ e)) } }

/-- How long a request may take (R342). -/
def requestTime : Nat := 100 * usUnits

/-- TIMEOUT (R342): the oldest request of the master has not completed within 100 µs, and completes with an error response; a read
returns all ones. -/
def execTimeout (m : Nat) (wr : Bool) (s : State) : Result :=
  let old := firstEntry ((issuedEntries s ++ s.hbm.waiting).filter (fun e => decide (e.req.master = m ∧ e.req.wr = wr)))
  let s := setSticky 0x2C0 S.XBR_TIMEOUT s
  let s := match old with
    | none => s
    | some e =>
      let s := dropEntry e (advanceMono (e.since + requestTime) s)
      let s := if wr then s else completeRead e ⟨List.replicate e.req.len 0xFF#8, false, true⟩ s
      releaseWaiting (releaseReplies s)
  .next (if wr then s else setRd (BitVec.ofNat 64 (2 ^ 64 - 1)) s)

/-! ## Turn matrix registers -/

/-- A write of XBR_PAIR_DATA: refused for an unassigned master, else the pair's priority (R340). -/
def writePairData (v : Word) (s : State) : State :=
  let m := fld s 0x2C0 F.XBR_PAIR_ADDR_MASTER
  let t := fld s 0x2C0 F.XBR_PAIR_ADDR_TARGET
  if !masterAssigned m then refuseCfg 0x2C0 s
  else { s with hbm := { s.hbm with prio := ntSet s.hbm.prio (16 * m + t) (fieldOf v 0 3 + 1) } }

/-- A read of XBR_PAIR_DATA. -/
def readPairData (s : State) : Word :=
  BitVec.ofNat 64 (pairPrio s (fld s 0x2C0 F.XBR_PAIR_ADDR_MASTER) (fld s 0x2C0 F.XBR_PAIR_ADDR_TARGET))

/-- A read of XBR_MASTER_STATUS. -/
def readMasterStatus (s : State) : Word :=
  let m := fld s 0x2C0 F.XBR_PAIR_ADDR_MASTER
  BitVec.ofNat 64 (min 256 (outstanding s m) + masterClaim s m * 2 ^ 16)

/-- A read of HPC_STATUS. -/
def readHpcStatus (s : State) (p : Nat) : Word :=
  let c := alGet {} s.hbm.pcs (p - 0x240)
  let bits := (List.range 16).map (fun b =>
    if (List.range 3).any (fun i => decide (ntGet c.rows (16 * i + b) ≠ 0)) then 2 ^ (8 + b) else 0)
  BitVec.ofNat 64 (c.queue.length + (if c.down then 2 ^ 7 else 0) + bits.sum)

end Sys2Proof.Machine
end

