-- ==== Sys2Proof/Machine/Keccak.lean ====
section
/-! DEFINITION. SHA3-512 and SHAKE256 of FIPS 202, which the Ledger, Heartwood and the retire list use
(20_heartwood.md). The sponge state is 25 words, lane (x, y) at index x + 5y. -/

namespace Sys2Proof.Machine

/-- A sponge state. -/
abbrev Sponge := List Word

/-- Lane `i` of a sponge state. -/
def lane (a : Sponge) (i : Nat) : Word := a.getD i 0

/-- Rotation offsets of the lanes (FIPS 202, step rho). -/
def rhoOffsets : List Nat :=
  [0, 1, 62, 28, 27, 36, 44, 6, 55, 20, 3, 10, 43, 25, 39, 41, 45, 15, 21, 8, 18, 2, 61, 56, 14]

/-- Round constants (FIPS 202, step iota). -/
def roundConstants : List Word :=
  [0x0000000000000001, 0x0000000000008082, 0x800000000000808A, 0x8000000080008000,
   0x000000000000808B, 0x0000000080000001, 0x8000000080008081, 0x8000000000008009,
   0x000000000000008A, 0x0000000000000088, 0x0000000080008009, 0x000000008000000A,
   0x000000008000808B, 0x800000000000008B, 0x8000000000008089, 0x8000000000008003,
   0x8000000000008002, 0x8000000000000080, 0x000000000000800A, 0x800000008000000A,
   0x8000000080008081, 0x8000000000008080, 0x0000000080000001, 0x8000000080008008]

/-- Step theta: the parity of two columns enters every lane. -/
def keccakTheta (a : Sponge) : Sponge :=
  let c := (List.range 5).map (fun x => lane a x ^^^ lane a (x + 5) ^^^ lane a (x + 10) ^^^ lane a (x + 15) ^^^ lane a (x + 20))
  let d := (List.range 5).map (fun x => lane c ((x + 4) % 5) ^^^ (lane c ((x + 1) % 5)).rotateLeft 1)
  (List.range 25).map (fun i => lane a i ^^^ lane d (i % 5))

/-- Steps rho and pi: lanes rotate and move. -/
def keccakRhoPi (a : Sponge) : Sponge :=
  (List.range 25).map (fun i =>
    let j := (i % 5 + 3 * (i / 5)) % 5 + 5 * (i % 5)
    (lane a j).rotateLeft (rhoOffsets.getD j 0))

/-- Step chi: the nonlinear step, along rows. -/
def keccakChi (b : Sponge) : Sponge :=
  (List.range 25).map (fun i =>
    let r := i / 5 * 5
    lane b i ^^^ (~~~ lane b (r + (i + 1) % 5) &&& lane b (r + (i + 2) % 5)))

/-- One round. -/
def keccakRound (a : Sponge) (rc : Word) : Sponge :=
  match keccakChi (keccakRhoPi (keccakTheta a)) with
  | [] => []
  | w :: l => (w ^^^ rc) :: l

/-- The permutation of 24 rounds. -/
def keccakF (a : Sponge) : Sponge := roundConstants.foldl keccakRound a

/-- The words of a byte string, eight bytes each. -/
def wordsOf : Nat → List Byte → List Word
  | 0, _ => []
  | n + 1, l => BitVec.ofNat 64 (ofLeBytes (l.take 8)) :: wordsOf n (l.drop 8)

/-- The bytes of a list of words. -/
def bytesOf (l : List Word) : List Byte := l.flatMap (fun w => leBytes 8 w.toNat)

/-- One block of the rate enters the sponge. -/
def absorbBlock (a : Sponge) (block : List Word) : Sponge :=
  keccakF ((List.range 25).map (fun i => lane a i ^^^ block.getD i 0))

/-- `n` blocks of `r` words enter the sponge. -/
def absorb (r : Nat) : Nat → Sponge → List Byte → Sponge
  | 0, a, _ => a
  | n + 1, a, l => absorb r n (absorbBlock a (wordsOf r (l.take (8 * r)))) (l.drop (8 * r))

/-- The message padded to whole blocks of `r` words, with the domain suffix. -/
def keccakPad (r suffix : Nat) (l : List Byte) : List Byte :=
  let n := 8 * r - l.length % (8 * r)
  if n = 1 then l ++ [BitVec.ofNat 8 (suffix + 128)]
  else l ++ BitVec.ofNat 8 suffix :: (List.replicate (n - 2) 0 ++ [0x80])

/-- The sponge after a message. -/
def spongeOf (r suffix : Nat) (l : List Byte) : Sponge :=
  absorb r (l.length / (8 * r) + 1) (List.replicate 25 0) (keccakPad r suffix l)

/-- SHA3-512 of a byte string, 64 bytes. -/
def sha3_512 (l : List Byte) : List Byte := (bytesOf (spongeOf 9 6 l)).take 64

/-- SHAKE256 of a byte string, its first `n` bytes, for n up to 136. -/
def shake256 (n : Nat) (l : List Byte) : List Byte := (bytesOf ((spongeOf 17 0x1F l).take 17)).take n

end Sys2Proof.Machine
end

