-- ==== Sys2Proof/Machine/Pins.lean ====
section
/-! DEFINITION. Detector inputs, shared outputs and the flow-control pins (R22, R223, R270, R364). -/

namespace Sys2Proof.Machine

/-- The detector input of a target: the OR of the lines mapped to it, a suspended one at its frozen value (R22, R223). -/
def detectorInput (s : State) (kind target : Nat) : Bool :=
  (List.range 64).any (fun k =>
    let w := lineWord s k
    if fieldOf w 34 2 = kind ∧ fieldOf w 36 5 = target then
      (if bitOf w 43 then decide (ntGet s.gge.frozen k = 2) else lineNow s k)
    else false)

/-- Whether this device owns an output: no valid entry shares it, or its entry says so (R270). Kinds: 0 field channel,
1 TRIG_OUT, 2 CLKOUT, 3 FCO. -/
def sharedOwner (s : State) (kind target : Nat) : Bool :=
  !(List.range 16).any (fun k =>
    let w := reg s 0x320 (R.ZHK_SHARED + 8 * k)
    bitOf w 0 && decide (fieldOf w 1 2 = kind ∧ fieldOf w 3 5 = target) && !bitOf w 12)

/-- Level of FCO[n] (R364). -/
def fcoLevel (s : State) (n : Nat) : Bool :=
  let w := reg s 0x300 (R.RNG_FCO + 8 * n)
  let src := fieldOf w 0 2
  let ring := (decide (src = 1) || decide (src = 3)) && (alGet {} s.rng.rings (fieldOf w 8 18)).above
  let det := (decide (src = 2) || decide (src = 3)) && detectorInput s 3 n
  sharedOwner s 3 n && ((ring || det) != bitOf w 2)

/-- A pin as it was last seen, and now: what leaves the device where it has moved, level and device time of the edge. -/
def pinMove (k : EmKind) (n : Nat) (level : Bool) (when' : Nat) (t : NatTab) (s : State) : NatTab × State :=
  let v := if level then 1 else 0
  if ntGet t n = v then (t, s) else (ntSet t n v, send k n [v, when'] s)

/-- The FCO pins follow their sources (R364). -/
def refreshFco (s : State) : State :=
  (List.range 16).foldl (fun s n =>
    let r := pinMove .fco n (fcoLevel s n) (devTime s) s.pins.fco s
    { r.2 with pins := { r.2.pins with fco := r.1 } }) s

end Sys2Proof.Machine
end

