-- ==== Sys2Proof/Machine/Ring.lean ====
section
/-! DEFINITION. Rings (R347 to R355): reservations, commits, rewinds, the running counts, watermarks and descriptors. -/

namespace Sys2Proof.Machine

/-- RNG page (R67). -/
abbrev rngPage : Nat := 0x300

def ringOf (s : State) (n : Nat) : Ring := alGet {} s.rng.rings n

def setRing (n : Nat) (r : Ring) (s : State) : State :=
  { s with rng := { s.rng with rings := alSet {} s.rng.rings n r } }

/-! ## Descriptor fields -/

def Ring.valid (r : Ring) : Bool := bitOf r.w0 0
def Ring.log2size (r : Ring) : Nat := fieldOf r.w0 1 5
def Ring.consumer (r : Ring) : Nat := fieldOf r.w0 6 1
def Ring.channel (r : Ring) : Nat := fieldOf r.w0 7 6
def Ring.evtEn (r : Ring) : Bool := bitOf r.w0 13
def Ring.base (r : Ring) : Nat := r.w1.toNat
def Ring.high (r : Ring) : Nat := fieldOf r.w2 0 25
def Ring.low (r : Ring) : Nat := fieldOf r.w2 32 25
def Ring.flushUs (r : Ring) : Nat := fieldOf r.w3 0 32

/-- SIZE in bytes and in units (R347). -/
def Ring.size (r : Ring) : Nat := 2 ^ r.log2size
def Ring.units (r : Ring) : Nat := r.size / 64

/-- The fill F: units of visible records not yet read (R351). -/
def Ring.fill (r : Ring) : Nat :=
  ((r.spans.filter (fun p => decide (p.st = .committed ∧ p.seen ≠ none))).map (·.len)).sum

/-- Units of a record: header, payload and trailer in whole units (R348, R434). -/
def recordUnits (payload : Nat) : Nat := ceilDiv (64 + payload + 160) 64

/-! ## Moving the counts (R350) -/

/-- Reservations that VISIBLE passes: up to the first that is still open or not yet complete. -/
def passVisible (now : Nat) : List RingSpan → Nat → List RingSpan × Nat
  | [], v => ([], v)
  | p :: l, v =>
    if p.start + p.len ≤ v then let r := passVisible now l v; (p :: r.1, r.2)
    else if p.st = .opened ∨ p.st = .entered then (p :: l, v)
    else
      let r := passVisible now l (p.start + p.len)
      ({ p with seen := some now } :: r.1, r.2)

/-- READ passes the skip spans in front of it. -/
def passSkips (v : Nat) : List RingSpan → Nat → List RingSpan × Nat
  | [], t => ([], t)
  | p :: l, t => if p.st = .rewound ∧ p.start + p.len ≤ v then passSkips v l (p.start + p.len) else (p :: l, t)

/-- The counts after any operation on reservations. -/
def Ring.settle (now : Nat) (r : Ring) : Ring :=
  let a := passVisible now r.spans r.visible
  let b := passSkips a.2 a.1 r.taken
  { r with spans := b.1, visible := a.2, taken := b.2 }

/-- ABOVE as the fill gives it (R351). -/
def Ring.aboveNow (r : Ring) : Bool :=
  if r.valid && decide (r.high ≤ r.fill ∧ 0 < r.fill) then true
  else if !r.valid || decide (r.fill ≤ r.low) then false
  else r.above

/-- A change of ABOVE enters the watermark queue of 64 where EVT_EN is set (R351). -/
def wmEnter (n : Nat) (above : Bool) (s : State) : State :=
  let d := evalDetector rngPage S.RNG_WM_OVF (decide (64 ≤ s.rng.wm.length)) s
  if d.1 then setSticky rngPage S.RNG_WM_OVF d.2
  else
    let s := d.2
    setSticky rngPage S.RNG_WM_EVENT { s with rng := { s.rng with wm := s.rng.wm ++ [(n, above)] } }

/-- ABOVE is evaluated after the operations of a cycle on a ring (R351, R353). -/
def evalAbove (n : Nat) (s : State) : State :=
  let r := ringOf s n
  if r.aboveNow = r.above then s
  else
    let s := refreshFco (setRing n { r with above := r.aboveNow } s)
    if r.evtEn then wmEnter n r.aboveNow s else s

/-- The ring after an operation, settled. -/
def settleRing (n : Nat) (s : State) : State := setRing n ((ringOf s n).settle s.mono) s

/-! ## Producers (R349, R350) -/

/-- What a producer hears about a reservation. -/
inductive Grant where
  | granted (start : Nat)
  | noRoom
  | error
  deriving DecidableEq, Repr

/-- A reservation of `units` units in a ring (R349). An invalid ring gives an error; with ENABLE 0 a reservation that is not too
big finds no room (R71). -/
def ringReserve (n producer units : Nat) (s : State) : Grant × State :=
  let r := ringOf s n
  if !r.valid || pageGated s rngPage then (.error, s)
  else
    let big := evalDetector rngPage S.RNG_TOO_BIG (decide (r.size / 128 < units)) s
    if big.1 then (.error, setSticky rngPage S.RNG_TOO_BIG big.2)
    else
      let full := evalDetector rngPage S.RNG_NO_ROOM
        (!flag s rngPage F.PAGE_CTRL_ENABLE || decide (r.units < r.reserve - r.taken + units)) big.2
      if full.1 then (.noRoom, setSticky rngPage S.RNG_NO_ROOM full.2)
      else
        (.granted r.reserve,
          setRing n { r with
            reserve := r.reserve + units
            spans := r.spans ++ [⟨r.reserve, units, .opened, producer, none⟩] } full.2)

/-- The open reservation of a producer in a ring: at most one (R349). -/
def openSpan (s : State) (n producer : Nat) : Option RingSpan :=
  (ringOf s n).spans.find? (fun p => decide (p.st = .opened ∧ p.producer = producer))

/-- How the reservation that begins at `start` stands, changed. -/
def markSpan (start : Nat) (st : SpanSt) (l : List RingSpan) : List RingSpan :=
  l.map (fun p => if p.start = start then { p with st := st } else p)

/-- Rewound reservations at the end of a list given newest first, down to VISIBLE, give their units back (R350). -/
def dropTail (v : Nat) : List RingSpan → List RingSpan
  | [] => []
  | p :: l => if p.st = .rewound ∧ v ≤ p.start then dropTail v l else p :: l

/-- A rewind: a skip span, or RESERVE returns where it is the newest (R350). -/
def ringRewind (n start : Nat) (s : State) : State :=
  let r := ringOf s n
  let l := (dropTail r.visible (markSpan start .rewound r.spans).reverse).reverse
  let top := match l.getLast? with
    | some p => p.start + p.len
    | none => max r.visible (match r.spans.head? with | some p => p.start | none => r.reserve)
  settleRing n (setRing n { r with spans := l, reserve := top, rewinds := satAdd 32 r.rewinds 1 } s)

/-- Pieces of a span of bytes of a block that wraps at its end: address and length (R347, R348). -/
def ringPieces (base size pos len : Nat) : List (Nat × Nat) :=
  let p := pos % size
  if p + len ≤ size then [(base + p, len)] else [(base + p, size - p), (base, len - (size - p))]

/-- Bytes written to pieces, in order; answers whether any write failed. -/
def writePieces : List (Nat × Nat) → List Byte → State → Bool × State
  | [], _, s => (false, s)
  | (a, n) :: l, b, s =>
    let r := hbmWrite a (b.take n) s
    let q := writePieces l (b.drop n) r.2
    (r.1 || q.1, q.2)

/-- Bytes read from pieces, with what the reads met. -/
def readPieces : List (Nat × Nat) → State → HbmRead × State
  | [], s => (⟨[], false, false⟩, s)
  | (a, n) :: l, s =>
    let r := hbmRead a n s
    let q := readPieces l r.2
    (⟨r.1.bytes ++ q.1.bytes, r.1.poison || q.1.poison, r.1.err || q.1.err⟩, q.2)

/-! ## Consumers (R352, R360) -/

/-- The oldest visible record of a ring. -/
def Ring.oldest (r : Ring) : Option RingSpan :=
  match r.spans.head? with
  | some p => if p.st = .committed ∧ p.seen ≠ none then some p else none
  | none => none

/-- READ passes the oldest visible record. -/
def Ring.pass (r : Ring) : Ring :=
  match r.oldest with
  | none => r
  | some p =>
    let b := passSkips r.visible (r.spans.drop 1) (p.start + p.len)
    { r with spans := b.1, taken := b.2 }

/-- READ of a ring passes its oldest record, and ABOVE is evaluated. -/
def ringPass (n : Nat) (s : State) : State := evalAbove n (setRing n (ringOf s n).pass s)

/-- Whether a ring is eligible for draining (R355, R360). -/
def ringEligible (s : State) (n : Nat) : Bool :=
  let r := ringOf s n
  match r.oldest with
  | none => false
  | some p => r.above || (decide (r.flushUs ≠ 0) && decide (p.seen.getD 0 + r.flushUs * usUnits ≤ s.mono))

/-- Records whose end lies within `units` of READ, passed one by one; `none` where the end is no record boundary. -/
def advanceBy (r : Ring) (target : Nat) : Nat → Option Ring
  | 0 => none
  | k + 1 =>
    if r.taken = target then some r
    else
      match r.oldest with
      | none => none
      | some p => if target < p.start + p.len then none else
          if p.start + p.len = target then some r.pass else advanceBy r.pass target k

end Sys2Proof.Machine
end

