-- ==== Sys2Proof/Machine/EthBase.lean ====
section
/-! DEFINITION. Ethernet ports: flow entries, pauses and sending (R366, R372 to R376, R380; 17_ethernet.md). -/

namespace Sys2Proof.Machine

/-- The page of port `p`: data ports 0 to 3, management ports 4 and 5 (R366). -/
abbrev ethPage (p : Nat) : Nat := 0x310 + p

def ethPort (s : State) (p : Nat) : EthPort := alGet {} s.eth.ports p

def setEthPort (p : Nat) (x : EthPort) (s : State) : State :=
  { s with eth := { s.eth with ports := alSet {} s.eth.ports p x } }

/-- Sub-ports of a port: by MODE on a data port, one on a management port (R366). -/
def subPorts (s : State) (p : Nat) : Nat := if p < 4 then 2 ^ fld s (ethPage p) F.ETH_CFG_MODE else 1

/-- Lanes of a sub-port (R366). -/
def subLanes (s : State) (p sub : Nat) : List Nat :=
  if p < 4 then
    let n := 4 / subPorts s p
    (List.range n).map (fun k => n * sub + k)
  else [0]

/-- Whether a sub-port is up. -/
def subUp (s : State) (p sub : Nat) : Bool :=
  pageLive s (ethPage p) && bitOf (reg s (ethPage p) R.ETH_STATUS) sub && decide (sub < 4)

/-- Word `w` of flow entry `f` of a port. -/
def flowWord (s : State) (p f w : Nat) : Word := wtGet (ethPort s p).flows (6 * f + w)

/-- Fields of a flow entry. -/
structure EthFlow where
  valid : Bool
  sub : Nat
  ipv6 : Bool
  vlan : Bool
  pcp : Nat
  frameMax : Nat
  deriving DecidableEq, Repr

/-- The flow entry in words 0 and 1. -/
def flowOf (w0 w1 : Word) : EthFlow :=
  ⟨bitOf w0 0, fieldOf w0 1 2, bitOf w0 3, bitOf w0 4, fieldOf w0 5 3, fieldOf w1 48 14⟩

/-- Whether frames of a port are protected (R380). -/
def portProtects (s : State) (p : Nat) : Bool := flag s (ethPage p) F.ETH_MACSEC_PROTECT

/-- The segment length S of a flow (R373). -/
def segmentLen (s : State) (p : Nat) (f : EthFlow) : Nat :=
  let h := 18 + (if f.vlan then 4 else 0) + (if portProtects s p then 32 else 0) + (if f.ipv6 then 40 else 20) + 8 + 16
  64 * ((f.frameMax - h) / 64)

/-! ## Pauses (R375, R376) -/

/-- Class a frame of priority `pcp` stands in: PAUSE mode has one class. -/
def pauseClass (s : State) (p pcp : Nat) : Nat := if fld s (ethPage p) F.ETH_PFC_MODE = 2 then pcp else 0

/-- The pause of class `c` on a sub-port. -/
def ethPause (s : State) (p sub c : Nat) : EthPause := alGet {} (ethPort s p).pauses (8 * sub + c)

/-- Whether a class of a sub-port is paused now. -/
def classPaused (s : State) (p sub c : Nat) : Bool :=
  match (ethPause s p sub c).until' with
  | some t => decide (fld s (ethPage p) F.ETH_PFC_MODE ≠ 0) && decide (s.mono < t)
  | none => false

/-! ## Sending -/

/-- Key of the association a sub-port sends under, and of the one after it (R380). -/
def txKey (s : State) (p sub : Nat) : Nat := 64 * sub + ntGet (ethPort s p).txAn sub
def txKeyNext (s : State) (p sub : Nat) : Nat := 64 * sub + (ntGet (ethPort s p).txAn sub + 1) % 4

/-- Bytes leave a port (ETH_CNT[1], ETH_CNT[15]). -/
def countSent (p bytes : Nat) (s : State) : State :=
  let x := ethPort s p
  let n := x.oddBytes + bytes
  setEthPort p { x with oddBytes := n % 64, sentAt := s.mono } (countK (ethPage p) R.ETH_CNT 1 1 (countK (ethPage p) R.ETH_CNT 15 (n / 64) s))

/-- Transmission moves to the association that holds the next key; without one the port stops sending protected frames
(R380, R428). -/
def turnKey (p sub : Nat) (s : State) : State :=
  let x := ethPort s p
  let an := (ntGet x.txAn sub + 1) % 4
  if (sparseFind x.sas (txKeyNext s p sub)).isSome then
    let s := setEthPort p { x with sas := sparseErase x.sas (txKey s p sub), txAn := ntSet x.txAn sub an } s
    if sub = 0 then setFld (ethPage p) F.ETH_MACSEC_TX_AN an s else s
  else setSticky 0x3E0 S.HWD_NO_NEXT_KEY s

/-- A packet number of a sub-port is used; one that reaches 2^62 ends the use of its key (R380, R428). -/
def usePn (p sub : Nat) (s : State) : State :=
  let x := ethPort s p
  match sparseFind x.sas (txKey s p sub) with
  | none => s
  | some a =>
    let limit := evalDetector (ethPage p) S.ETH_PN_LIMIT (decide (2 ^ 62 ≤ a.pn + 1)) s
    let s := setEthPort p { x with sas := sparseInsert (sparseErase x.sas (txKey s p sub)) (txKey s p sub)
                                            { a with pn := a.pn + 1 } } limit.2
    if limit.1 then turnKey p sub (setSticky (ethPage p) S.ETH_PN_LIMIT s) else s

/-- Whether a sub-port can protect a frame: its association holds a key whose packet numbers are not used up (R380, R428). -/
def keyReady (s : State) (p sub : Nat) : Bool :=
  match sparseFind (ethPort s p).sas (txKey s p sub) with
  | none => false
  | some a => decide (a.pn < 2 ^ 62)

/-! ### Addresses -/

/-- MAC, IPv4 and IPv6 address of a sub-port (R366). -/
def subMac (s : State) (p sub : Nat) : Nat := fieldOf (reg s (ethPage p) (R.ETH_MAC + 8 * sub)) 0 48

def subIp (s : State) (p sub : Nat) (ipv6 : Bool) : Nat :=
  if ipv6 then
    (reg s (ethPage p) (R.ETH_IP6 + 16 * sub)).toNat + (reg s (ethPage p) (R.ETH_IP6 + 16 * sub + 8)).toNat * 2 ^ 64
  else fieldOf (reg s (ethPage p) (R.ETH_IP4 + 8 * sub)) 0 32

/-- The ends of a datagram the device sends of itself. -/
def ownEnds (s : State) (p sub : Nat) (ipv6 : Bool) (dst : Nat) : IpEnds :=
  ⟨ipv6, subIp s p sub ipv6, dst, Config.replyDscp.toNat, Config.replyTtl.toNat⟩

/-- The page of a PTP clock. -/
abbrev ptpPage (k : Nat) : Nat := 0x331 + k

def ptpClock (s : State) (k : Nat) : PtpClock := alGet {} s.tbs.ptp k

def setPtpClock (k : Nat) (c : PtpClock) (s : State) : State :=
  { s with tbs := { s.tbs with ptp := alSet {} s.tbs.ptp k c } }

/-- An event message of a PTP clock in the frame of its transport (R277): to all clocks, or a peer message to the neighbour
alone. -/
def ptpFrame (s : State) (k p sub : Nat) (peer : Bool) (msg : List Byte) : List Byte :=
  let mac := subMac s p sub
  match fld s (ptpPage k) F.PTP_CFG_TRANSPORT with
  | 0 => macHead (if peer then 0x0180C200000E else 0x011B19000000) mac none 0x88F7 ++ msg
  | 1 =>
    macHead (if peer then 0x01005E00006B else 0x01005E000181) mac none 0x0800 ++
      udpPacket (ownEnds s p sub false (if peer then 0xE000006B else 0xE0000181)) 319 319 msg
  | _ =>
    let low := if peer then 0x6B else 0x181
    macHead (0x333300000000 + low) mac none 0x86DD ++
      udpPacket (ownEnds s p sub true ((if peer then 0xFF02 else 0xFF0E) * 2 ^ 112 + low)) 319 319 msg

/-- The message of an event frame as it leaves: an answer's correction holds the time since the request came (R277). -/
def ptpLeaving (s : State) (f : EthFrameOut) : List Byte :=
  match f.asked with
  | some t =>
    f.bytes.take 8 ++ beBytes 8 (ofSigned 64 (toSigned 64 (beAt f.bytes 8 8) + ((devTime s : Int) - (t : Int)))) ++ f.bytes.drop 16
  | none => f.bytes

/-- The bytes of a frame from its destination address up to its FCS, filled to the 60 of the least frame. -/
def frameBytes (s : State) (p : Nat) (f : EthFrameOut) : List Byte :=
  let l := match f.clock with
    | some k => ptpFrame s k p f.sub (decide (2 ≤ beAt f.bytes 0 1)) (ptpLeaving s f)
    | none => f.bytes
  l ++ List.replicate (60 - l.length) 0

/-- The stamp of a request, taken as it leaves (R283). -/
def stampRequest (f : EthFrameOut) (s : State) : State :=
  match f.clock, f.asked with
  | some k, none => setPtpClock k { ptpClock s k with asked := some (devTime s) } s
  | _, _ => s

/-- A frame is handed to the MAC of a sub-port, ending low-power idle (R378): what leaves is its sub-port, its class, the
association it is protected under plus 1, 0 for none (R380), and its bytes. A frame that must be protected is not sent without
a key. The count takes in the FCS and the 32 bytes of protection (R373). -/
def macSend (p : Nat) (f : EthFrameOut) (s : State) : State :=
  let protect := portProtects s p && !f.exempt
  if protect && !keyReady s p f.sub then s
  else
    let an := if protect then ntGet (ethPort s p).txAn f.sub + 1 else 0
    let s := if p < 4 then s else setFld (ethPage p) F.ETH_STATUS_LPI 0 s
    let l := frameBytes s p f
    let s := send .ethFrame p ([f.sub, f.cls, an] ++ l.map (fun b => b.toNat))
      (countSent p (l.length + 4 + (if protect then 32 else 0)) s)
    let s := stampRequest f s
    if protect then usePn p f.sub s else s

/-- A frame is sent, or held while its class is paused (R375). A port whose sub-port is down sends nothing. -/
def ethTry (p : Nat) (f : EthFrameOut) (s : State) : State :=
  if !subUp s p f.sub then s
  else if classPaused s p f.sub (pauseClass s p f.cls) then
    let x := ethPort s p
    setEthPort p { x with queue := x.queue ++ [f] } s
  else macSend p f s

/-- Frames held by a pause are sent in order once their class is free; those of a sub-port that went down are dropped. -/
def ethFlush (p : Nat) (s : State) : State :=
  let l := (ethPort s p).queue
  let s := setEthPort p { ethPort s p with queue := [] } s
  l.foldl (fun s f => ethTry p f s) s

/-- A frame the device originates follows the frames held before it (R375). -/
def ethSend (p : Nat) (f : EthFrameOut) (s : State) : State := ethTry p f (ethFlush p s)

/-- A control frame of the device: a reply, PTP or LLDP, in class CTRL_PCP (R375). -/
def ethControl (p sub : Nat) (exempt : Bool) (bytes : List Byte) (s : State) : State :=
  ethSend p { cls := fld s (ethPage p) F.ETH_PFC_CTRL_PCP, sub := sub, exempt := exempt, bytes := bytes } s

/-- A UDP datagram goes back to who sent one to the command port (R86). -/
def ethReply (p : Nat) (body : List Byte) (s : State) : State :=
  let x := (ethPort s p).peer
  let e := ownEnds s p 0 x.ipv6 (x.src / 65536)
  ethControl p 0 false (macHead x.mac (subMac s p 0) none e.type ++
    udpPacket e (fld s (ethPage p) F.ETH_UDP_CMD_PORT) (x.src % 65536) body) s

/-! ## Records (R372 to R374) -/

/-- Whether a port can accept a record on a flow: the entry valid, its sub-port up and its class not paused (R361, R374). -/
def flowReady (s : State) (p f : Nat) : Bool :=
  let e := flowOf (flowWord s p f 0) (flowWord s p f 1)
  decide (p < 4) && e.valid && subUp s p e.sub && !classPaused s p e.sub (pauseClass s p e.pcp)
    && (!portProtects s p || keyReady s p e.sub)

/-- A carriage prefix (R372). -/
def carriage (first last : Bool) (f dseq off : Nat) : List Byte :=
  [0x54, 0x5A, 0x44, 0x47, 1] ++ leBytes 1 ((if first then 1 else 0) + (if last then 2 else 0)) ++ leBytes 2 f
    ++ leBytes 4 dseq ++ leBytes 4 off

/-- A datagram of a flow as a frame: the headers its entry asks for, in network order, and its UDP payload (R6, R372). -/
def datagramFrame (s : State) (p f : Nat) (body : List Byte) : List Byte :=
  let e := flowOf (flowWord s p f 0) (flowWord s p f 1)
  let w0 := flowWord s p f 0
  let w1 := flowWord s p f 1
  let lo := (flowWord s p f 2).toNat
  let dst := if e.ipv6 then lo + (flowWord s p f 3).toNat * 2 ^ 64 else lo % 2 ^ 32
  let ends : IpEnds := ⟨e.ipv6, subIp s p e.sub e.ipv6, dst, fieldOf w0 20 6, fieldOf w0 26 8⟩
  macHead (fieldOf w1 0 48) (subMac s p e.sub) (if e.vlan then some (e.pcp, fieldOf w0 8 12) else none) ends.type ++
    udpPacket ends (fld s (ethPage p) F.ETH_UDP_SRC_PORT) (fieldOf w0 48 16) body

/-- The datagrams of a record from byte `off` on, at most `n` of them (R372, R373). -/
def sendDatagrams (p f len : Nat) : Nat → Nat → List Byte → State → State
  | 0, _, _, s => s
  | n + 1, off, l, s =>
    if l.isEmpty then s
    else
      let e := flowOf (flowWord s p f 0) (flowWord s p f 1)
      let seg := l.take (max 64 (segmentLen s p e))
      let dseq := (flowWord s p f 4).toNat
      let bytes := carriage (off = 0) (off + seg.length = len) f dseq off ++ seg
      let s := macSend p { cls := e.pcp, sub := e.sub, exempt := false, bytes := datagramFrame s p f bytes } s
      let x := ethPort s p
      let s := setEthPort p { x with flows := wtSet x.flows (6 * f + 4) (BitVec.ofNat 64 ((dseq + 1) % 2 ^ 32)) } s
      sendDatagrams p f len n (off + seg.length) (l.drop seg.length) s

/-- A record leaves on a flow, whole (R372): counted once its last datagram has been handed to the MAC. -/
def sendRecord (p f : Nat) (l : List Byte) (s : State) : State :=
  let s := sendDatagrams p f l.length (l.length / 64 + 1) 0 l s
  let x := ethPort s p
  let n := satAdd 64 (wtGet x.flows (6 * f + 5)).toNat 1
  countK (ethPage p) R.ETH_CNT 12 1 (setEthPort p { x with flows := wtSet x.flows (6 * f + 5) (BitVec.ofNat 64 n) } s)

end Sys2Proof.Machine
end

