-- ==== Sys2Proof/Machine/ChsBase.lean ====
section
/-! DEFINITION. A Chisel core's wake causes (R321). Core n below 64 is Chisel-S core n, core 64 + n is Chisel-L core n. -/

namespace Sys2Proof.Machine

/-- Whether a core is a Chisel-L core. -/
def chsIsL (n : Nat) : Bool := decide (64 ≤ n)

/-- Page of a core (R311). -/
def chsPage (n : Nat) : Nat := if chsIsL n then 0x394 + (n - 64) else 0x350 + n

/-- Turn matrix master of a core (R340). -/
def chsMaster (n : Nat) : Nat := 64 + n

def chsCore (s : State) (n : Nat) : ChsCore := alGet {} s.chs.cores n

def setChsCore (n : Nat) (c : ChsCore) (s : State) : State :=
  { s with chs := { s.chs with cores := alSet {} s.chs.cores n c } }

/-- Instructions a core's program memory holds, and words of its T and B memories (R311). -/
def chsProgSize (n : Nat) : Nat := if chsIsL n then 16384 else 4096
def chsDataSize (n : Nat) : Nat := if chsIsL n then 65536 else 32768

/-- The address after an address; the last one's successor is the first. -/
def chsNextPc (n pc : Nat) : Nat := (pc + 1) % chsProgSize n

/-- The state with a core changed. -/
def updChs (n : Nat) (f : ChsCore → ChsCore) (s : State) : State := setChsCore n (f (chsCore s n)) s

/-- Register D`k` of a core. -/
def ChsCore.dReg (c : ChsCore) (k : Nat) : BitVec 48 := alGet 0 c.d k

/-- The core with D`k` written. -/
def ChsCore.setD (c : ChsCore) (k : Nat) (v : BitVec 48) : ChsCore := { c with d := alSet 0 c.d k v }

/-- The causes pending: those latched, and cause 5 while the post queue holds an entry (R321). -/
def ChsCore.causes (c : ChsCore) : Nat := (c.pending &&& 0x1F) ||| (if c.posts.isEmpty then 0 else 0x20)

/-- The wake causes `hit` go into a register and are cleared (R321). -/
def ChsCore.wake (c : ChsCore) (hit dest : Nat) : ChsCore :=
  { c.setD dest (BitVec.ofNat 48 hit) with pending := c.pending &&& (0x3F ^^^ hit) }

/-- The oldest post goes into a register pair (R315, R322). -/
def ChsCore.popPost (c : ChsCore) (x : ChsPost) (l : List ChsPost) (dest : Nat) : ChsCore :=
  { (c.setD dest (BitVec.ofNat 48 x.tag)).setD (dest + 1) (BitVec.ofNat 48 x.time) with posts := l }

/-- A waiting core whose wait is over goes on after its instruction (R321, R322, R327). -/
def chsEndWait (n : Nat) (s : State) : State :=
  let c := chsCore s n
  let go (c : ChsCore) : State :=
    countK (chsPage n) R.CHS_CNT 2 1
      (setChsCore n { c with st := .running, wait := none, pc := chsNextPc n c.pc, fed := s.mono } s)
  match c.st, c.wait with
  | .waiting, some (.causes mask dest) => if c.causes &&& mask = 0 then s else go (c.wake (c.causes &&& mask) dest)
  | .waiting, some (.post dest) =>
    match c.posts with
    | [] => s
    | x :: l => go (c.popPost x l dest)
  | _, _ => s

/-- A wake cause occurs: pending, or counted where it was pending already (R321). -/
def chsWake (n cause : Nat) (s : State) : State :=
  if pageGated s (chsPage n) then s
  else
    let c := chsCore s n
    let d := evalDetector (chsPage n) S.CHS_WAKE_OVERRUN (c.pending.testBit cause) s
    let s := d.2
    let s := if d.1 then setSticky (chsPage n) S.CHS_WAKE_OVERRUN (countK (chsPage n) R.CHS_CNT 3 1 s) else s
    chsEndWait n (setChsCore n { c with pending := c.pending ||| 2 ^ cause } s)

/-- C-die and region whose batch boundaries wake a core (cause 1 of R321). -/
def wakeRegion (s : State) (n : Nat) : Nat × Nat :=
  (if chsIsL n then fld s (chsPage n) F.CHS_CFG_WAKE_DIE else n / 16, fld s (chsPage n) F.CHS_CFG_WAKE_REGION)

/-- A batch boundary of a turn region wakes the cores that ask for it (cause 1 of R321). -/
def wakeOnBatch (d r : Nat) (s : State) : State :=
  (List.range 68).foldl (fun s n => if wakeRegion s n = (d, r) then chsWake n 1 s else s) s

/-- The lines whose value has changed since the cores last looked, by 16 × C-die + line. -/
def linesMoved (s : State) : List Nat :=
  (List.range 64).filter (fun k =>
    decide (ntGet s.chs.lines k ≠ (if lineNow s k then 1 else 0)))

/-- Changes of detector lines wake the cores of their C-die, and every Chisel-L core (cause 2 of R321). -/
def wakeOnLines (s : State) : State :=
  let moved := linesMoved s
  if moved.isEmpty then s
  else
    let seen := moved.foldl (fun t k => ntSet t k (1 - ntGet t k)) s.chs.lines
    let s := { s with chs := { s.chs with lines := seen } }
    (List.range 68).foldl (fun s n =>
      if n < 64 then (if moved.any (fun k => decide (k / 16 = n / 16)) then chsWake n 2 s else s)
      else chsWake n 2 s) s

end Sys2Proof.Machine
end

