-- ==== Sys2Proof/Machine/FldBase.lean ====
section
/-! DEFINITION. A field channel's drive and its fail-safe state (R383, R390, R391; 18_field_outputs.md). -/

namespace Sys2Proof.Machine

/-- Page of field channel `c` and the global page (R382). -/
abbrev fldPage (c : Nat) : Nat := 0x3A1 + c
abbrev fldGlb : Nat := 0x3A0

/-- Channels 28 to 31 are fine channels. -/
def fldFine (c : Nat) : Bool := decide (28 ≤ c)

def fldChan (s : State) (c : Nat) : FldChan := alGet {} s.field.chans c

def setFldChan (c : Nat) (x : FldChan) (s : State) : State :=
  { s with field := { s.field with chans := alSet {} s.field.chans c x } }

/-- A code as the channel drives it: unsigned for a string channel, signed for a fine one, whose lowest code is driven as
the next (R383). -/
def fldCode (c w : Nat) : Int :=
  if fldFine c then max (toSigned 24 w) (-(2 ^ 23) + 1) else (w % 2 ^ 24 : Nat)

/-- The driven code Y (R388). -/
def fldY (s : State) (c : Nat) : Int :=
  let w := fld s (fldPage c) F.FLD_CH_STATUS_DRIVEN
  if fldFine c then toSigned 24 w else w

def setFldY (c : Nat) (y : Int) (s : State) : State := setFld (fldPage c) F.FLD_CH_STATUS_DRIVEN (ofSigned 24 y) s

/-- The code nearest zero output (R391). -/
def fldZero (s : State) (c : Nat) : Int :=
  let r := fld s (fldPage c) F.FLD_CH_CFG_RANGE
  if r = 2 ∨ r = 3 then 32768 else 0

/-- Bits of FS_CAUSE. -/
abbrev fsDisabled : Nat := 0
abbrev fsGang : Nat := 1
abbrev fsGlobal : Nat := 2
abbrev fsFault : Nat := 3
abbrev fsWdog : Nat := 4
abbrev fsDetector : Nat := 5
abbrev fsRail : Nat := 6

/-- Causes that hold now: the standing conditions, and those a cycle start or a fault set (R391). -/
def fldCauses (s : State) (c : Nat) : Nat :=
  let p := fldPage c
  let bit (b : Nat) (x : Bool) : Nat := if x then 2 ^ b else 0
  bit fsDisabled (!flag s p F.PAGE_CTRL_ENABLE) + bit fsGang (!sharedOwner s 0 c) +
    bit fsGlobal (flag s fldGlb F.FLD_GLB_CTRL_FAILSAFE_ALL) +
    natField (fld s p F.FLD_CH_STATUS_FS_CAUSE) 3 3 * 8 + bit fsRail s.field.rail

/-- Whether a channel is in its fail-safe state (FLD_GLB_STATUS.FAILSAFE). -/
def fldFailed (s : State) (c : Nat) : Bool := bitOf (reg s fldGlb R.FLD_GLB_STATUS) (32 + c)

def setFldFailed (c : Nat) (v : Bool) (s : State) : State :=
  setReg fldGlb R.FLD_GLB_STATUS (withBit (reg s fldGlb R.FLD_GLB_STATUS) (32 + c) v) s

/-- STATE of a channel: FAILSAFE, RUNNING or STOPPED. -/
def fldStateCode (s : State) (c : Nat) : Nat :=
  if fldFailed s c then 2 else if flag s (fldPage c) F.FLD_CH_CTRL_RUN then 1 else 0

/-- Entry into the fail-safe state (R391). -/
def fldEnter (c : Nat) (s : State) : State :=
  if fldFailed s c then s
  else
    let s := countK (fldPage c) R.FLD_CH_CNT 4 1 (setFldFailed c true s)
    setSticky (fldPage c) S.FLD_FAILSAFE s

/-- The output stage while causes hold: disconnected if any cause calls for it, else connected (R391). -/
def fldStage (c causes : Nat) (s : State) : State :=
  let p := fldPage c
  let hz := decide (fld s p F.FLD_CH_CFG_FAILSAFE_MODE = 2) || causes.testBit fsGang || causes.testBit fsRail
  if hz then setFld p F.FLD_CH_STATUS_HIGH_Z 1 s
  else if flag s p F.FLD_CH_STATUS_HIGH_Z then setFldY c (fldZero s c) (setFld p F.FLD_CH_STATUS_HIGH_Z 0 s)
  else s

/-- What leaves the ball of a channel where its drive has changed: 0 for high impedance, else 2^24 and the code. -/
def fldEmit (c : Nat) (s : State) : State :=
  let p := fldPage c
  let v := if pageGated s p || flag s p F.FLD_CH_STATUS_HIGH_Z then 0 else 2 ^ 24 + fld s p F.FLD_CH_STATUS_DRIVEN
  if ntGet s.pins.field c = v then s
  else send .fieldOut c [v, devTime s] { s with pins := { s.pins with field := ntSet s.pins.field c v } }

/-- The standing fail-safe conditions of a channel are judged (R391). -/
def fldJudge (c : Nat) (s : State) : State :=
  if pageGated s (fldPage c) then fldEmit c s
  else
    let k := fldCauses s c
    let s := if fld s (fldPage c) F.FLD_CH_STATUS_FS_CAUSE = k then s else setFld (fldPage c) F.FLD_CH_STATUS_FS_CAUSE k s
    let s := if k = 0 then s else fldStage c k (fldEnter c s)
    let st := fldStateCode s c
    let s := if fld s (fldPage c) F.FLD_CH_STATUS_STATE = st then s else setFld (fldPage c) F.FLD_CH_STATUS_STATE st s
    fldEmit c s

/-- Every channel is judged. -/
def refreshFld (s : State) : State := (List.range 32).foldl (fun s c => fldJudge c s) s

end Sys2Proof.Machine
end

