-- ==== Sys2Proof/Machine/Trig.lean ====
section
/-! DEFINITION. Sine and cosine of binary fractions of a turn in fixed point: what the formulas of R141 and R317 need.
The error of each value stays below 2^-110. -/

namespace Sys2Proof.Machine

/-- Fraction bits of the fixed point. -/
abbrev trigBits : Nat := 128

/-- 2π in fixed point. -/
def twoPi : Nat := 0x6487ed5110b4611a62633145c06e0e689

/-- Series of the sine or cosine: the sum of ± term · x² / ((k + 1)(k + 2)) over `n` further terms. -/
def trigSeries (x2 : Nat) : Nat → Nat → Int → Int
  | 0, _, _ => 0
  | n + 1, k, term => term + trigSeries x2 n (k + 2) (-(term * (x2 : Int) / 2 ^ trigBits / (((k + 1) * (k + 2) : Nat) : Int)))

/-- Cosine and sine of `q / 2^k` turn for an angle of at most an eighth of a turn. -/
def trigOctant (q k : Nat) : Int × Int :=
  let x := twoPi * q / 2 ^ k
  let x2 := x * x / 2 ^ trigBits
  (trigSeries x2 18 0 (2 ^ trigBits), trigSeries x2 18 1 (x : Int))

/-- Cosine and sine of `q / 2^k` turn, `k` at least 3, in fixed point. -/
def cosSin (q k : Nat) : Int × Int :=
  let n := 2 ^ k
  let q := q % n
  let o := q * 8 / n
  let r := q % (n / 4)
  let near := if o % 2 = 0 then trigOctant r k else trigOctant (n / 4 - r) k
  let (c, s) := if o % 2 = 0 then near else (near.2, near.1)
  if o < 2 then (c, s) else if o < 4 then (-s, c) else if o < 6 then (-c, -s) else (s, -c)

end Sys2Proof.Machine
end

