-- ==== Sys2Proof/Machine/Fpl.lean ====
section
/-! DEFINITION. The Faceplates (06_faceplate.md): stream map, filterbank, delay and phase model, gains, swaps, spectra,
and the turn-region table. Operands leave into transit towards their C-die or gang member. -/

namespace Sys2Proof.Machine

/-! ## Configuration and the stream map -/

def fplN (s : State) (f : Nat) : Nat := 2 ^ fld s (fplPage f) F.FPL_CFG_LOG2N
def fplTaps (s : State) (f : Nat) : Nat := 4 * (fld s (fplPage f) F.FPL_CFG_TAPS + 1)
def fplFormat (s : State) (f : Nat) : Nat := fld s (fplPage f) F.FPL_CFG_FORMAT

/-- The transform length M of a stream: 2N real, N complex (R138). -/
def fplM (s : State) (f n : Nat) : Nat := if sampleComplex (stFormat s n) then fplN s f else 2 * fplN s f

/-- Word `w` of map entry `j` (R161). -/
def mapWord (s : State) (f j w : Nat) : Word := wtGet s.fpl.map ((f * 16384 + j) * 4 + w)

def mapStream (w : Word) : Nat := fieldOf w 1 18
def mapRegion (w : Word) : Nat := fieldOf w 19 4
def mapPos (w : Word) : Nat := fieldOf w 23 18

/-- Valid map entries of a Faceplate: index and word 0, ascending. -/
def mapList (s : State) (f : Nat) : List (Nat × Word) :=
  s.fpl.map.filterMap (fun e =>
    if e.1 % 4 = 0 ∧ e.1 / 65536 = f ∧ bitOf e.2 0 then some (e.1 / 4 % 16384, e.2) else none)

/-- The map entry that names a stream. -/
def mapOf (s : State) (f n : Nat) : Option (Nat × Word) :=
  (mapList s f).find? (fun e => decide (mapStream e.2 = n))

/-- Whether a stream is taken by a Faceplate (R135, R136). -/
def fplTakes (s : State) (f n : Nat) : Bool :=
  stValid s n && decide (stFaceplate s n = f) && (mapOf s f n).isSome && !decide (n ∈ s.fpl.overload)

/-- Streams taken by a Faceplate, in map order. -/
def fplStreams (s : State) (f : Nat) : List Nat :=
  (mapList s f).filterMap (fun e => if fplTakes s f (mapStream e.2) then some (mapStream e.2) else none)

/-- Load one stream puts on its Faceplate (R136). -/
def fplStLoad (s : State) (n : Nat) : Rat := stLoad s n / ((stD s n : Nat) : Rat)

/-- Faceplate load (R136). -/
def fplLoad (s : State) (f : Nat) : Rat := loadSum (fplStLoad s) (fplStreams s f)

/-- The load budget of R136. -/
def fplBudget : Rat := 32800000000

/-- A stream's entry has become valid: the Faceplate rechecks its load and may not take the stream (R136). -/
def fplRecheck (n : Nat) (s : State) : State :=
  let f := stFaceplate s n
  let s := { s with fpl := { s.fpl with overload := s.fpl.overload.filter (fun x => decide (x ≠ n)) } }
  if stValid s n && (mapOf s f n).isSome && decide (fplBudget < fplLoad s f) then
    setSticky (fplPage f) S.FPL_OVERLOAD { s with fpl := { s.fpl with overload := n :: s.fpl.overload } }
  else s

/-! ## Streams -/

def fplStream (s : State) (n : Nat) : FplStream := alGet {} s.fpl.streams n

def setFplStream (n : Nat) (x : FplStream) (s : State) : State :=
  { s with fpl := { s.fpl with streams := alSet {} s.fpl.streams n x } }

/-- Whether a stream has a record in its Faceplate: it has received outputs, or a request waits for it. -/
def fplStarted (s : State) (n : Nat) : Bool := decide (fplStream s n ≠ {})

/-- Stroke length T of the region a map word names; 1 where the region is not valid. -/
def mapT (s : State) (f : Nat) (w : Word) : Nat := max 1 (regionT s (f / 4) (mapRegion w))

/-- First spectrum whose window begins at or after output `m0` (R138). -/
def firstSpectrum (m0 delta m : Nat) : Nat := ceilDiv (m0 - delta) m

/-- A stream as its Faceplate takes it up: banks that are active, nothing received (R150). -/
def fplTakeUp (s : State) (f n : Nat) : FplStream :=
  if fplStarted s n then fplStream s n
  else { fplStream s n with coefB := decide (ntGet s.fpl.coefDef f = 1), gainB := decide (ntGet s.fpl.gainDef f = 1) }

/-- A stream begins again with spectrum `p`: a fade in progress has ended, and a queued one starts there (log entry 27). -/
def swapsAnew (p : Nat) (x : FplStream) : FplStream :=
  { x with fade := x.queued.map (fun l => ⟨p, l⟩), queued := none, coefB := x.coefB != x.fade.isSome }

/-- A stream whose table entry has become valid begins again: nothing is received of it (log entry 27). -/
def fplRestart (n : Nat) (s : State) : State :=
  if fplStarted s n then
    setFplStream n { fplStream s n with base := 0, outs := [], next := 0, running := false } s
  else s

/-- Whether a request acts before another: at an earlier boundary; at one boundary marks in the order of their table, then
registers (R151, R292). -/
def FplReq.before (a b : FplReq) : Bool :=
  decide (a.notBefore < b.notBefore) || (decide (a.notBefore = b.notBefore) &&
    ((!a.byReg && b.byReg) || (!a.byReg && !b.byReg &&
      decide (a.time < b.time ∨ (a.time = b.time ∧ a.order < b.order)))))

/-- A request takes its place among those that wait. -/
def insertReq (r : FplReq) : List FplReq → List FplReq
  | [] => [r]
  | a :: l => if r.before a then r :: a :: l else a :: insertReq r l

/-- Roughing outputs enter a Faceplate, the first being output `m0` (R135, R160). Requests noted before the stream began wait
for its first spectrum. -/
def fplFeed (n m0 : Nat) (outs : List FplOut) (s : State) : State :=
  let f := stFaceplate s n
  if outs.isEmpty || !pageLive s (fplPage f) then s
  else
    let u := evalDetector (fplPage f) S.FPL_UNMAPPED (mapOf s f n).isNone s
    let s := u.2
    match mapOf s f n with
    | none => setSticky (fplPage f) S.FPL_UNMAPPED s
    | some _ =>
      if u.1 then setSticky (fplPage f) S.FPL_UNMAPPED s
      else if n ∈ s.fpl.overload then s
      else
        let x := fplTakeUp s f n
        let first := firstSpectrum m0 x.delay (fplM s f n)
        if x.running && decide (m0 = x.base + x.outs.length) then setFplStream n { x with outs := x.outs ++ outs } s
        else if x.running && decide (x.base + x.outs.length < m0) then
          setFplStream n { x with base := m0, outs := outs, next := max x.next first } s
        else
          let x := if x.fade.isSome then swapsAnew first x else x
          setFplStream n { x with
            base := m0, outs := outs, next := first, running := true,
            reqs := (x.reqs.map (fun r => { r with notBefore := max r.notBefore first })).foldl (fun l r => insertReq r l) [] } s

/-! ## Swaps and model loads at a boundary (R143 to R151) -/

/-- What the boundaries a stream has passed have done to it: the stream, whether a queued swap was replaced, the swaps
completed, and whether a model load acted. -/
structure FplPass where
  x : FplStream
  collapsed : Bool := false
  swaps : Nat := 0
  loaded : Bool := false
  gains : Bool := false
  deriving DecidableEq, Repr


/-- INT_DELAY held for a boundary up to spectrum `p` takes effect (R143). -/
def delayTake (p : Nat) (x : FplStream) : FplStream :=
  match x.delayHeld with
  | some (d, q) => if q ≤ p then { x with delay := d, delayHeld := none } else x
  | none => x

/-- The pending model of a map entry becomes the current one at spectrum `p` (R143); INT_DELAY waits for the first batch
boundary from there, in place of one still held. -/
def modelTake (s : State) (f j t p : Nat) (x : FplStream) : FplStream :=
  let w1 := mapWord s f j 1
  let w2 := mapWord s f j 2
  let w3 := mapWord s f j 3
  { delayTake p x with
    model := ⟨p, toSigned 32 (fieldOf w1 32 32), toSigned 32 (fieldOf w2 0 32), fieldOf w2 32 32,
      toSigned 32 (fieldOf w3 0 32)⟩
    delayHeld := some (fieldOf w1 0 16, ceilTo p t) }

/-- A request acts at spectrum `q` (R143, R146, R149 to R151): a coefficient request starts, is queued behind a fade, or where
it starts at a batch boundary waits on for that. -/
def reqTake (s : State) (f j t q : Nat) (r : FplReq) (a : FplPass) : FplPass :=
  match r.kind with
  | .gain => { a with x := { a.x with gainB := !a.x.gainB }, gains := true }
  | .model => { a with x := modelTake s f j t q a.x, loaded := true }
  | .coef =>
    if a.x.fade.isSome then { a with x := { a.x with queued := some r.fade }, collapsed := a.collapsed || a.x.queued.isSome }
    else if r.align && decide (q % t ≠ 0) then
      { a with x := { a.x with reqs := insertReq { r with notBefore := ceilTo q t, align := false } a.x.reqs } }
    else { a with x := { a.x with fade := some ⟨q, r.fade⟩ } }

/-- A fade that ends by boundary `p` makes the new bank active, and a queued request starts there (R150, R151). -/
def fadeEnd (p : Nat) (a : FplPass) : Option FplPass :=
  match a.x.fade with
  | none => none
  | some fd =>
    if fd.start + fd.len ≤ p then
      some { a with
        x := { a.x with coefB := !a.x.coefB, fade := a.x.queued.map (fun l => ⟨fd.start + fd.len, l⟩), queued := none }
        swaps := a.swaps + 1 }
    else none

/-- All boundaries up to that of spectrum `p` in their order, at most `k` events of them: fades end, and requests due act at
their own boundary, also where no spectrum appears (R143, R149 to R151). -/
def passBoundaries (s : State) (f j t p : Nat) : Nat → FplPass → FplPass
  | 0, a => a
  | k + 1, a =>
    match a.x.reqs with
    | r :: l =>
      if r.notBefore ≤ p then
        match fadeEnd r.notBefore a with
        | some b => passBoundaries s f j t p k b
        | none => passBoundaries s f j t p k (reqTake s f j t r.notBefore r { a with x := { a.x with reqs := l } })
      else
        match fadeEnd p a with
        | some b => passBoundaries s f j t p k b
        | none => a
    | [] =>
      match fadeEnd p a with
      | some b => passBoundaries s f j t p k b
      | none => a

/-- A stream at the boundary of spectrum `p` (R143, R149 to R151). -/
def boundary (s : State) (f j t p : Nat) (x : FplStream) : FplPass :=
  let a := passBoundaries s f j t p (4 * x.reqs.length + 4) { x := x }
  { a with x := delayTake p a.x }

/-- The end of spectrum `p`: fades that end there, before any request of the next boundary (R150, R151). -/
def spectrumEnd (p : Nat) (x : FplStream) : FplPass := (fadeEnd (p + 1) { x := x }).getD { x := x }

/-! ## The filterbank (R138 to R142, R145, R147) -/

/-- Coefficient `i` of a bank of a Faceplate, the symmetric second half mirrored (R139). -/
def coefAt (s : State) (f b pm i : Nat) : Int :=
  let k := if i < pm / 2 then i else pm - 1 - i
  toSigned 18 (wtGet s.fpl.coef ((2 * f + b) * 2 ^ 20 + k)).toNat

/-- Branch sum `r` of a window: the taps of one residue modulo M, as exact integers. -/
def branch (h : Nat → Int) (win : List FplOut) (m taps r : Nat) : Int × Int :=
  (List.range taps).foldl (fun a q =>
    let x := win.getD (r + q * m) ⟨0, 0, false, false⟩
    let c := h (r + q * m)
    (a.1 + c * x.re, a.2 + c * x.im)) (0, 0)

/-- Combination of the old and new prototype-filter sums of a fade with weight `w` (R150). -/
def fadeMix (w : Nat) (a b : Int × Int) : Int × Int :=
  (a.1 + roundShift ((b.1 - a.1) * w) 16, a.2 + roundShift ((b.2 - a.2) * w) 16)

/-- Weight of spectrum `p` of a fade (R150). -/
def fadeWeight (fd : FplFade) (p : Nat) : Nat := (roundDiv (((p + 1 - fd.start) * 65536 : Nat) : Int) fd.len).toNat

/-- Branch sums of spectrum `p` of a stream, with a fade's combination (R141, R150). -/
def branches (s : State) (f m taps p : Nat) (x : FplStream) (win : List FplOut) : List (Int × Int) :=
  let act := if x.coefB then 1 else 0
  let h := fun b i => coefAt s f b (m * taps) i
  (List.range m).map (fun r =>
    let a := branch (h act) win m taps r
    match x.fade with
    | none => a
    | some fd => fadeMix (fadeWeight fd p) a (branch (h (1 - act)) win m taps r))

/-- τ(p) in 2^-40 output, clamped to ±1, and whether it was clamped (R142). -/
def modelTau (x : FplStream) (p : Nat) : Int × Bool :=
  let t := x.model.fracDelay * 65536 + x.model.fracRate * ((p : Int) - (x.model.p0 : Int))
  (clampInt (-(2 ^ 40)) (2 ^ 40) t, decide (t < -(2 ^ 40) ∨ 2 ^ 40 < t))

/-- φ(p) in 2^-40 turn, before reduction (R142). -/
def modelPhi (x : FplStream) (p : Nat) : Int :=
  (x.model.fringePhase : Int) * 256 + x.model.fringeRate * ((p : Int) - (x.model.p0 : Int))

/-- Frequency number of a channel (R140). -/
def chanFreq (complex : Bool) (n c : Nat) : Int := if complex && decide (n / 2 ≤ c) then (c : Int) - n else c

/-- Total phase of a channel in 2^-20 turn (R142): a multiple of 2^-20, ties to even, modulo 1. -/
def totalPhase (phi tau k : Int) (m : Nat) : Int := roundDiv (phi * m - tau * k) (m * 2 ^ 20) % 2 ^ 20

/-- Sum of branch sums turned by `q - k r / M` of a turn, in 2^-128 (R141). -/
def turned (z : List (Int × Int)) (q k : Int) (m : Nat) : Int × Int :=
  let a := z.foldl (fun (a : Nat × Int × Int) x =>
    let cs := cosSin ((q - k * a.1 * ((2 ^ 20 / m : Nat) : Int)) % 2 ^ 20).toNat 20
    (a.1 + 1, a.2.1 + x.1 * cs.1 - x.2 * cs.2, a.2.2 + x.1 * cs.2 + x.2 * cs.1)) (0, 0, 0)
  a.2

/-- A component of the internal value v of R141, in 2^-(148 + SHIFT), within the bound of R141 of the exact value. -/
def internalValue (key : List Int) (c comp shift : Nat) (v : Int) : Int :=
  let b : Int := 2 ^ (144 + shift) + ((v.natAbs / 2 ^ 17 : Nat) : Int)
  v + clampInt (-b) b (Config.fplError key c comp)

/-- What the device computes a value from, and nothing else (R141: bit-identical for the same of these). -/
def fplKey (s : State) (f m taps p : Nat) (x : FplStream) (win : List FplOut) (g : Word) : List Int :=
  let cfg : List Int := [((reg s (fplPage f) R.FPL_CFG).toNat : Int), m, (g.toNat : Int),
    modelPhi x p % 2 ^ 40, (modelTau x p).1, match x.fade with | none => 0 | some fd => fadeWeight fd p]
  let act := if x.coefB then 1 else 0
  let bank := fun b => (List.range (m * taps / 2)).map (fun k => coefAt s f b (m * taps) k)
  cfg ++ win.flatMap (fun o => [o.re, o.im]) ++ bank act ++ (if x.fade.isSome then bank (1 - act) else [])

/-- Gain word of a stream's map index and channel (R145). -/
def gainWord (s : State) (f b j c : Nat) : Word := wtGet s.fpl.gain ((2 * f + b) * 2 ^ 18 + (j * fplN s f + c) % 2 ^ 18)

/-- Whether a gain word carries the zap mark (R145). -/
def gainZap (g : Word) : Bool := decide (fieldOf g 0 24 = 0x800000)

/-- The operand of one channel: its code and how many components were clamped (R141, R145, R147). -/
def chanOperand (s : State) (f m taps p c : Nat) (x : FplStream) (complex : Bool) (win : List FplOut)
    (z : List (Int × Int)) (g : Word) : Nat × Nat :=
  let k := chanFreq complex (fplN s f) c
  let q := totalPhase (modelPhi x p) (modelTau x p).1 k m
  let v := turned z q k m
  let gr := toSigned 24 (fieldOf g 0 24)
  let gi := toSigned 24 (fieldOf g 24 24)
  let sh := fld s (fplPage f) F.FPL_CFG_SHIFT
  let key := fplKey s f m taps p x win g
  let mx := operandMax (fplFormat s f)
  let re := requantise mx (internalValue key c 0 sh (gr * v.1 - gi * v.2)) (148 + sh)
  let im := requantise mx (internalValue key c 1 sh (gr * v.2 + gi * v.1)) (148 + sh)
  (operandCode (fplFormat s f) re.1 im.1, (if re.2 then 1 else 0) + (if im.2 then 1 else 0))

/-! ## Memory errors (R159) -/

/-- An error of a coefficient, gain or map word, or of a model, met by a Faceplate. -/
def fplMemError (f : Nat) (e : MemError) (s : State) : State :=
  if !e.uncorr then setSticky (fplPage f) S.FPL_MEM_CORR s
  else
    let s := setSticky (fplPage f) S.FPL_MEM_UNCORR s
    if e.kind = 0 then { s with fpl := { s.fpl with badCoef := (2 * f * 2 ^ 20 + e.index) :: s.fpl.badCoef } }
    else if e.kind = 1 then { s with fpl := { s.fpl with badGain := (2 * f * 2 ^ 18 + e.index) :: s.fpl.badGain } }
    else if e.kind = 2 then { s with fpl := { s.fpl with badMap := (f * 16384 + e.index) :: s.fpl.badMap } }
    else { s with fpl := { s.fpl with badModel := (f * 16384 + e.index) :: s.fpl.badModel } }

/-- Whether a spectrum of a stream uses a bad coefficient word. -/
def usesBadCoef (s : State) (f pm : Nat) (x : FplStream) : Bool :=
  let act := if x.coefB then 1 else 0
  s.fpl.badCoef.any (fun k =>
    decide (k % 2 ^ 20 < pm / 2) &&
      (decide (k / 2 ^ 20 = 2 * f + act) || (x.fade.isSome && decide (k / 2 ^ 20 = 2 * f + (1 - act)))))

/-! ## SPECTRUM -/

/-- β0 of the integration that batch `b` of a region falls into, as the context of its plan stands: the series in progress,
or the one a request begins by then (R235, R263); none while no integration runs. -/
def integrationStart (s : State) (d r b : Nat) : Option Nat :=
  match sparseFind s.sch.plans (16 * d + r) with
  | none => none
  | some p =>
    let c := alGet {} (alGet {} s.tly.dies d).ctxs (fieldOf (p.words.getD 0 0) 6 4)
    let next := ntGet (alGet {} s.sch.dies d).next r
    let at' := fun (q : TlyReq) => if q.notBefore = 0 then next else q.notBefore
    let running := if c.running then c.ints.getLast?.map (·.first) else none
    let base := (c.reqs.filter (fun q => decide (at' q ≤ b))).foldl (fun (a : Nat × Option Nat) q =>
      if a.1 < at' q ∨ (a.1 = at' q ∧ q.start) then (at' q, if q.start then some (at' q) else none) else a) (0, running)
    let len := fieldOf (c.words.getD 0 0) 16 32
    base.2.map (fun f => if len = 0 then f else f + (b - f) / len * len)

/-- Member of the gang that owns channel `c` of batch `b` of a region (R262, R263). -/
def ownerMember (s : State) (r c b : Nat) : Nat :=
  let g := gangSize s
  if gangMode s r = 1 then c / 4 % g
  else if gangMode s r = 2 then
    match integrationStart s (c % 4) r b with
    | none => 0
    | some b0 => (b - b0) % g
  else gangMember s

/-- Whether a member's region table disagrees with this one on region `r` (R261). -/
def regionDisputed (s : State) (r : Nat) : Bool :=
  s.zhk.tables.any (fun t => decide (t.modes.getD r 0 ≠ fld s 0x320 (F.ZHK_REGION_MODE.at r)))

/-- The CORNER packet of an operand: FLOW names the region and C-die, ADDR the operand's place at its owner (R256, R264). -/
def cornerPacket (s : State) (a : Nat) (o : TurnOperand) : ZhkPacket :=
  let d := o.chan % 4
  zhkPacket s 1 a (o.region + 16 * d) (operandAddr s d o.region o.pos (o.chan / chanDiv s o.region) o.batch o.t) (leBytes 4 o.code)

/-- An operand leaves its Faceplate: towards the C-die that owns its channel, or in a CORNER packet towards the
member that does (R157, R264). A region whose tables disagree across the gang is not exported (R261). -/
def routeOperand (o : TurnOperand) (s : State) : State :=
  let a := ownerMember s o.region o.chan o.batch
  if gangMode s o.region = 0 ∨ a = gangMember s then { s with fpl := { s.fpl with transit := s.fpl.transit ++ [o] } }
  else if regionDisputed s o.region then s
  else zhkSend (cornerPacket s a o) s

/-- Zapped operands of a map entry are counted, saturating (R148, R161). -/
def countZapped (f j c : Nat) (s : State) : State :=
  let k := f * 16384 + j
  { s with fpl := { s.fpl with zapped := ntSet s.fpl.zapped k (satAdd 32 (ntGet s.fpl.zapped k) c) } }

/-- The operands of one spectrum, channel by channel. -/
def emitChannels (f n j p : Nat) (w : Word) (x : FplStream) (win : List FplOut) (zapAll : Bool) (s : State) : State :=
  let m := fplM s f n
  let taps := fplTaps s f
  let t := mapT s f w
  let complex := sampleComplex (stFormat s n)
  let z := if zapAll then [] else branches s f m taps p x win
  let gb := if x.gainB then 1 else 0
  let page := fplPage f
  (List.range (fplN s f)).foldl (fun s c =>
    let g := gainWord s f gb j c
    let zap := zapAll || gainZap g || decide (((2 * f + gb) * 2 ^ 18 + (j * fplN s f + c)) ∈ s.fpl.badGain)
    let o := if zap then (0, 0) else chanOperand s f m taps p c x complex win z g
    let s := if zap then
        countK page R.FPL_CNT 2 1 (countZapped f j 1 s)
      else s
    let s := if o.2 = 0 then s else countK page R.FPL_CNT 5 o.2 (setSticky page S.FPL_SATURATED s)
    routeOperand ⟨f, mapRegion w, mapPos w, c, p / t, p % t, o.1⟩ s) s

/-- What the boundaries of a stream show beyond the stream itself: SWAP_COLLAPSED, FPL_CNT[8], the banks that streams taken
later find active, and a model load that ends the error of a model field (R151, R159). FPL_CNT[8] counts one for each
stream whose swap completes: the spec does not say whether it counts once for the Faceplate (DESIGN CHOICE, log entry 27). -/
def notePass (f j : Nat) (a : FplPass) (s : State) : State :=
  let s := stickyIf a.collapsed (fplPage f) S.FPL_SWAP_COLLAPSED s
  let s := if a.swaps = 0 then s else
      countK (fplPage f) R.FPL_CNT 8 a.swaps
        { s with fpl := { s.fpl with coefDef := ntSet s.fpl.coefDef f (if a.x.coefB then 1 else 0) } }
  let s := if a.gains then { s with fpl := { s.fpl with gainDef := ntSet s.fpl.gainDef f (if a.x.gainB then 1 else 0) } } else s
  if a.loaded then
    { s with fpl := { s.fpl with badModel := s.fpl.badModel.filter (fun k => decide (k ≠ f * 16384 + j)) } }
  else s

/-- SPECTRUM (R138 to R148, R150, R159): the next spectrum of a stream, once its window is complete. An injected MEM_UNCORR
names no word: the model zaps the spectrum at which it fires and marks no word (DESIGN CHOICE, log entry 27). -/
def spectrum (f n : Nat) (errs : List MemError) (s : State) : State :=
  match mapOf s f n with
  | none => s
  | some (j, w) =>
    let page := fplPage f
    let x := fplStream s n
    let m := fplM s f n
    let taps := fplTaps s f
    let p := x.next
    let t := mapT s f w
    let b := boundary s f j t p x
    let x := b.x
    let start := p * m + x.delay
    if start + taps * m ≤ x.base + x.outs.length ∧ x.base ≤ start ∧ x.running then
      let s := notePass f j b s
      let s := errs.foldl (fun s e => fplMemError f e s) s
      let inj := takeArmed page S.FPL_MEM_UNCORR s
      let s := stickyIf inj.1 page S.FPL_MEM_UNCORR inj.2
      let corr := takeArmed page S.FPL_MEM_CORR s
      let s := stickyIf corr.1 page S.FPL_MEM_CORR corr.2
      let win := (x.outs.drop (start - x.base)).take (taps * m)
      let lost := win.any (fun o => o.lost)
      let uns := win.any (fun o => o.uns)
      let range := evalDetector page S.FPL_MODEL_RANGE (modelTau x p).2 s
      let s := stickyIf range.1 page S.FPL_MODEL_RANGE range.2
      let mem := inj.1 || usesBadCoef s f (taps * m) x || decide (f * 16384 + j ∈ s.fpl.badMap)
        || decide (f * 16384 + j ∈ s.fpl.badModel)
      let zapAll := lost || (uns && flag s page F.FPL_CFG_UNSETTLED_ZAP) || mem
      let s := countK page R.FPL_CNT 0 1 s
      let s := if lost then countK page R.FPL_CNT 3 (fplN s f) s else s
      let s := if uns then countK page R.FPL_CNT 4 (fplN s f) s else s
      let s := emitChannels f n j p w x win zapAll s
      let e := spectrumEnd p x
      let x := e.x
      let s := notePass f j e s
      let keep := min ((p + 1) * m - x.base) x.outs.length
      setFplStream n { x with next := p + 1, base := x.base + keep, outs := x.outs.drop keep } s
    else if x.running ∧ x.outs ≠ [] ∧ start < x.base then
      -- the window of this spectrum holds outputs the Faceplate never received: it does not appear (R133)
      notePass f j b (setFplStream n { x with next := max (p + 1) (firstSpectrum x.base x.delay m) } s)
    else s

def execSpectrum (fpl stream : Nat) (errs : List MemError) (s : State) : Result :=
  .next (if pageLive s (fplPage fpl) && fplTakes s fpl stream then spectrum fpl stream errs s else s)

/-! ## Requests -/

/-- Spectrum a mark time resolves to for a stream: the first boundary at or after its sample (R26, R15). -/
def resolveSpectrum (s : State) (f n t : Nat) : Nat :=
  let x := fplStream s n
  let smp := resolveFor s n t
  ceilDiv (smp - x.delay * stD s n) (fplM s f n * stD s n)

/-- Whether a request on a Faceplate starts at a batch boundary (R149). -/
def swapAligns (s : State) (f : Nat) (kind : FplReqKind) : Bool :=
  decide (kind = .coef) && flag s (fplPage f) F.FPL_SWAP_ALIGN_BATCH

/-- A request is noted for a stream. -/
def addReq (f n : Nat) (r : FplReq) (s : State) : State :=
  let x := fplTakeUp s f n
  setFplStream n { x with reqs := insertReq r x.reqs } s

/-- A swap on a Faceplate that takes no stream acts at once: no stream has a boundary for it (DESIGN CHOICE, log entry 27). -/
def idleSwap (f : Nat) (kind : FplReqKind) (s : State) : State :=
  match kind with
  | .coef => { s with fpl := { s.fpl with coefDef := ntSet s.fpl.coefDef f (1 - ntGet s.fpl.coefDef f) } }
  | .gain => { s with fpl := { s.fpl with gainDef := ntSet s.fpl.gainDef f (1 - ntGet s.fpl.gainDef f) } }
  | .model => s

/-- A register request for one stream: noted for its next boundary, or a coefficient request queued behind a fade that runs
(R143, R146, R149, R151). -/
def requestStream (f : Nat) (kind : FplReqKind) (len : Nat) (s : State) (n : Nat) : State :=
  let x := fplStream s n
  if kind = .coef ∧ x.fade.isSome then
    stickyIf x.queued.isSome (fplPage f) S.FPL_SWAP_COLLAPSED (setFplStream n { x with queued := some len } s)
  else addReq f n { kind := kind, notBefore := x.next, fade := len, align := swapAligns s f kind, byReg := true } s

/-- The stream-wise effect of a register request on every stream of a Faceplate (R143, R146, R149). -/
def registerRequest (f : Nat) (kind : FplReqKind) (len : Nat) (s : State) : State :=
  if fplStreams s f = [] then idleSwap f kind s else (fplStreams s f).foldl (requestStream f kind len) s

/-- Stroke length of the region a stream of a Faceplate is mapped to. -/
def streamT (s : State) (f n : Nat) : Nat :=
  match mapOf s f n with
  | some e => mapT s f e.2
  | none => 1

/-- A mark's request for one stream: noted for the boundary its time resolves to; late where the stream is past the boundary at
which it would act (R26, R290). -/
def markStream (f : Nat) (kind : FplReqKind) (o : MarkOcc) (a : Bool × State) (n : Nat) : Bool × State :=
  let s := a.2
  let p := resolveSpectrum s f n o.time
  let nx := (fplStream s n).next
  let align := swapAligns s f kind
  (a.1 || decide ((if align then ceilTo p (streamT s f n) else p) < nx),
    addReq f n { kind := kind, notBefore := max p nx, fade := o.arg16 % 8192, align := align, byReg := false,
                 time := o.time, order := o.order } s)

/-- A stream-wise mark action on a Faceplate mask: answers whether a stream got it late (R26, R290). -/
def markRequest (kind : FplReqKind) (o : MarkOcc) (s : State) : Bool × State :=
  (bitsSet (o.arg64 % 65536) 16).foldl (fun a f =>
    if fplStreams a.2 f = [] then (a.1, idleSwap f kind a.2)
    else (fplStreams a.2 f).foldl (markStream f kind o) a) (false, s)

/-- COEF_SWAP (R149 to R151, R290). -/
def execCoefSwap (h : Nat) (s : State) : Result := .next (sampleAction h 0x03 (markRequest .coef) s)

/-- GAIN_SWAP (R146, R290). -/
def execGainSwap (h : Nat) (s : State) : Result := .next (sampleAction h 0x04 (markRequest .gain) s)

/-- MODEL_LOAD (R143, R290). -/
def execModelLoad (h : Nat) (s : State) : Result := .next (sampleAction h 0x05 (markRequest .model) s)

/-- A write of FPL_SWAP: FADE and ALIGN_BATCH, then REQUEST, then GAIN_SWAP (R146, R149, R473). -/
def writeFplSwap (f : Nat) (v : Word) (s : State) : State :=
  let s := storePlain (fplPage f) R.FPL_SWAP v s
  let s := actIf v 14 (fun s => registerRequest f .coef (fld s (fplPage f) F.FPL_SWAP_FADE) s) s
  actIf v 15 (registerRequest f .gain 0) s

/-- REQUEST (R149, R151). -/
def execRequest (m fpl : Nat) (v : Word) (s : State) : Result :=
  .next (guardedWrite m (fplPage fpl) R.FPL_SWAP (v ||| 0x4000#64) (writeFplSwap fpl (v ||| 0x4000#64)) s)

/-- FPL_GAIN_SWAP (R146). -/
def execFplGainSwap (m fpl : Nat) (v : Word) (s : State) : Result :=
  .next (guardedWrite m (fplPage fpl) R.FPL_SWAP (v ||| 0x8000#64) (writeFplSwap fpl (v ||| 0x8000#64)) s)

/-- A write of FPL_MODEL_CTRL (R143). -/
def writeModelCtrl (f : Nat) (v : Word) (s : State) : State := actIf v 0 (registerRequest f .model 0) s

/-- LOAD_NOW (R143). -/
def execLoadNow (m fpl : Nat) (v : Word) (s : State) : Result :=
  .next (guardedWrite m (fplPage fpl) R.FPL_MODEL_CTRL (v ||| 1#64) (writeModelCtrl fpl (v ||| 1#64)) s)

/-! ## Windows onto the banks (R146, R152) -/

/-- Whether bank `b` is active, or a side of a fade, for a stream of the Faceplate (R152). -/
def coefInUse (s : State) (f b : Nat) : Bool :=
  (fplStreams s f).any (fun n => let x := fplTakeUp s f n; decide ((if x.coefB then 1 else 0) = b) || x.fade.isSome)

/-- Whether gain bank `b` is active for a stream of the Faceplate (R146). -/
def gainInUse (s : State) (f b : Nat) : Bool :=
  (fplStreams s f).any (fun n => decide ((if (fplTakeUp s f n).gainB then 1 else 0) = b))

/-- AUTO_INC moves the index of a window register after an access. -/
def autoInc (p : Nat) (idx auto : FieldRef) (s : State) : State :=
  if flag s p auto then setFld p idx (fld s p idx + 1) s else s

def coefKey (s : State) (f : Nat) : Nat :=
  (2 * f + fld s (fplPage f) F.FPL_COEF_ADDR_BANK) * 2 ^ 20 + fld s (fplPage f) F.FPL_COEF_ADDR_INDEX

def gainKey (s : State) (f : Nat) : Nat :=
  (2 * f + fld s (fplPage f) F.FPL_GAIN_ADDR_BANK) * 2 ^ 18 + fld s (fplPage f) F.FPL_GAIN_ADDR_INDEX

/-- A write of FPL_COEF_DATA (R152). -/
def writeCoefData (f : Nat) (v : Word) (s : State) : State :=
  let k := coefKey s f
  let d := evalDetector (fplPage f) S.FPL_COEF_WRITE_REFUSED (coefInUse s f (fld s (fplPage f) F.FPL_COEF_ADDR_BANK)) s
  let s := d.2
  let s :=
    if d.1 then refuseBit (fplPage f) S.FPL_COEF_WRITE_REFUSED s
    else
      { s with fpl := { s.fpl with
          coef := wtSet s.fpl.coef k (BitVec.ofNat 64 (fieldOf v 0 18))
          badCoef := s.fpl.badCoef.filter (fun x => decide (x ≠ k)) } }
  autoInc (fplPage f) F.FPL_COEF_ADDR_INDEX F.FPL_COEF_ADDR_AUTO_INC s

/-- A read of FPL_COEF_DATA (R65, R152). -/
def readCoefData (f : Nat) (s : State) : Word × State :=
  (wtGet s.fpl.coef (coefKey s f), autoInc (fplPage f) F.FPL_COEF_ADDR_INDEX F.FPL_COEF_ADDR_AUTO_INC s)

/-- A write of FPL_GAIN_DATA (R146). -/
def writeGainData (f : Nat) (v : Word) (s : State) : State :=
  let k := gainKey s f
  let d := evalDetector (fplPage f) S.FPL_GAIN_WRITE_REFUSED (gainInUse s f (fld s (fplPage f) F.FPL_GAIN_ADDR_BANK)) s
  let s := d.2
  let s :=
    if d.1 then refuseBit (fplPage f) S.FPL_GAIN_WRITE_REFUSED s
    else
      { s with fpl := { s.fpl with
          gain := wtSet s.fpl.gain k (BitVec.ofNat 64 (fieldOf v 0 48))
          badGain := s.fpl.badGain.filter (fun x => decide (x ≠ k)) } }
  autoInc (fplPage f) F.FPL_GAIN_ADDR_INDEX F.FPL_GAIN_ADDR_AUTO_INC s

/-- A read of FPL_GAIN_DATA (R65). -/
def readGainData (f : Nat) (s : State) : Word × State :=
  (wtGet s.fpl.gain (gainKey s f), autoInc (fplPage f) F.FPL_GAIN_ADDR_INDEX F.FPL_GAIN_ADDR_AUTO_INC s)

/-- A register read with the state it leaves; a register of a gated page reads zero and changes nothing (R66). -/
def guardedRead (p : Nat) (h : State → Word × State) (s : State) : State :=
  if pageGated s p then setRd 0 s
  else let r := h s; setRd r.1 r.2

/-- FPL_COEF_DATA (R152). -/
def execFplCoefData (m fpl : Nat) (wr : Bool) (v : Word) (s : State) : Result :=
  .next (if wr then guardedWrite m (fplPage fpl) R.FPL_COEF_DATA v (writeCoefData fpl v) s
    else guardedRead (fplPage fpl) (readCoefData fpl) s)

/-- FPL_GAIN_DATA (R146). -/
def execFplGainData (m fpl : Nat) (wr : Bool) (v : Word) (s : State) : Result :=
  .next (if wr then guardedWrite m (fplPage fpl) R.FPL_GAIN_DATA v (writeGainData fpl v) s
    else guardedRead (fplPage fpl) (readGainData fpl) s)

/-! ## The stream map (R161) -/

/-- Whether a region agrees on all four C-dies (R154). -/
def regionAgrees (s : State) (r : Nat) : Bool :=
  (List.range 4).all (fun d => regionValid s d r &&
    decide (fieldOf (regionWord s d r 0) 0 35 = fieldOf (regionWord s 0 r 0) 0 35))

/-- The first failing check of a map write, 0 for none (R161). -/
def mapResult (s : State) (f j : Nat) (w : Word) : Nat :=
  let old := mapWord s f j 0
  let r := mapRegion w
  let others := (mapList s f).filter (fun e => decide (e.1 ≠ j))
  if !bitOf w 0 then (if bitOf old 0 && decide (withBit old 0 false ≠ w) then 6 else 0)
  else if !regionAgrees s r then 1
  else if 32 * regionBlocks s 0 r ≤ mapPos w then 2
  else if regionFormat s 0 r ≠ fplFormat s f ∨ regionLog2N s 0 r ≠ fld s (fplPage f) F.FPL_CFG_LOG2N then 3
  else if 262144 / fplN s f ≤ j then 4
  else if others.any (fun e => decide (mapStream e.2 = mapStream w) ||
      (decide (mapRegion e.2 = r) && decide (mapPos e.2 = mapPos w))) then 5
  else if bitOf old 0 && decide (old ≠ w) then 6
  else
    let s' := { s with fpl := { s.fpl with
      map := wtSet s.fpl.map ((f * 16384 + j) * 4) w
      overload := if old = w then s.fpl.overload else s.fpl.overload.filter (fun x => decide (x ≠ mapStream w)) } }
    if fplBudget < fplLoad s' f then 7 else 0

/-- Word 0 of a map entry as stored: reserved bits zero. -/
def mapWord0 (v : Word) : Word := BitVec.ofNat 64 (fieldOf v 0 41)

/-! ## The tables of the gang (R261) -/

/-- This member's table: modes of its turn regions, region and position of each stream its maps bind, gang identifiers. -/
def ownTable (s : State) : GangTable :=
  { member := gangMember s
    modes := (List.range 16).map (fun r => fld s 0x320 (F.ZHK_REGION_MODE.at r))
    positions := (List.range 16).flatMap (fun f => (mapList s f).map (fun e => (mapRegion e.2, mapPos e.2)))
    gids := (sharedClaims s).map (·.1) }

/-- A table as it is sent: member, modes, number of positions, positions, gang identifiers. -/
def tableNats (t : GangTable) : List Nat :=
  t.member :: t.modes ++ t.positions.length :: t.positions.flatMap (fun p => [p.1, p.2]) ++ t.gids

/-- This member's table goes to member 0; member 0's own goes to every other member (R261). That member 0 passes on what
it has, so that every member sees a disagreement, is the model's choice (log entry 91). -/
def sendTable (s : State) : State :=
  if gangSize s = 1 then s
  else if gangMember s = 0 then (otherMembers s).foldl (fun s m => send .zhkTable m (tableNats (ownTable s)) s) s
  else send .zhkTable 0 (tableNats (ownTable s)) s

/-- Member 0 holds its own table against those of the others: a disagreement is flagged (R261). -/
def judgeTables (s : State) : State :=
  let d := evalDetector 0x320 S.ZHK_GANG_CFG
    (decide (gangMember s = 0) && s.zhk.tables.any (fun t => decide (t.modes ≠ (ownTable s).modes))) s
  stickyIf (d.1 && decide (gangMember d.2 = 0)) 0x320 S.ZHK_GANG_CFG d.2

/-! ## Writes of the stream map (R161) -/

/-- The effect of a WRITE of FPL_MAP_CTRL (R161). Words 1 to 3 are the pending model, ZAPPED is cleared, and an entry that
becomes valid begins its stream afresh, without a current model (log entry 27); a stream that the load budget keeps out
stays out while its entry is only rewritten (R136). -/
def mapWrite (f : Nat) (s : State) : State :=
  let page := fplPage f
  let j := fld s page F.FPL_MAP_ADDR_ENTRY
  let w0 := mapWord0 (reg s page R.FPL_MAP_DATA)
  let r := mapResult s f j w0
  let s := tableResult page F.FPL_MAP_CTRL_RESULT r s
  if r ≠ 0 then s
  else
    let k := (f * 16384 + j) * 4
    let changed := decide (mapWord s f j 0 ≠ w0)
    let n := mapStream w0
    let s := { s with fpl := { s.fpl with
      map := wtSetMany s.fpl.map k
        [w0, reg s page (R.FPL_MAP_DATA + 8) &&& 0xFFFFFFFF0000FFFF#64, reg s page (R.FPL_MAP_DATA + 16),
          reg s page (R.FPL_MAP_DATA + 24) &&& 0xFFFFFFFF#64]
      overload := if changed && bitOf w0 0 then s.fpl.overload.filter (fun x => decide (x ≠ n)) else s.fpl.overload
      badMap := s.fpl.badMap.filter (fun x => decide (x ≠ f * 16384 + j))
      zapped := ntSet s.fpl.zapped (f * 16384 + j) 0 } }
    let s := if changed && bitOf w0 0 && decide (stFaceplate s n = f) then setFplStream n {} s else s
    if changed then sendTable s else s

/-- Words 0 to 5 of a map entry as a READ returns them (R161). -/
def mapEntry (s : State) (f j : Nat) : List Word :=
  let n := mapStream (mapWord s f j 0)
  let x := fplStream s n
  [mapWord s f j 0, mapWord s f j 1, mapWord s f j 2, mapWord s f j 3, BitVec.ofNat 64 x.model.p0,
    BitVec.ofNat 64 (x.delay % 65536 + ntGet s.fpl.zapped (f * 16384 + j) * 65536)]

/-- The effect of a READ of FPL_MAP_CTRL. -/
def mapRead (f : Nat) (s : State) : State :=
  setRegsFrom (fplPage f) R.FPL_MAP_DATA (mapEntry s f (fld s (fplPage f) F.FPL_MAP_ADDR_ENTRY)) s

/-- A write of FPL_MAP_CTRL: READ, then WRITE (R473). -/
def writeMapCtrl (f : Nat) (v : Word) (s : State) : State := actIf v 1 (mapWrite f) (actIf v 0 (mapRead f) s)

/-- FPL_MAP_READ (R161). -/
def execFplMapRead (m fpl : Nat) (v : Word) (s : State) : Result :=
  .next (guardedWrite m (fplPage fpl) R.FPL_MAP_CTRL (v ||| 1#64) (writeMapCtrl fpl (v ||| 1#64)) s)

/-- FPL_MAP_WRITE (R161, R475). -/
def execFplMapWrite (m fpl : Nat) (v : Word) (s : State) : Result :=
  .next (guardedWrite m (fplPage fpl) R.FPL_MAP_CTRL (v ||| 2#64) (writeMapCtrl fpl (v ||| 2#64)) s)

/-! ## The turn-region table (R153) -/

/-- Regions a valid map entry of any Faceplate names. -/
def regionNamed (s : State) (r : Nat) : Bool :=
  (List.range 16).any (fun f => (mapList s f).any (fun e => decide (mapRegion e.2 = r)))

/-- The state with region `r` of C-die `d` given words 0 and 1. -/
def setRegion (d r : Nat) (w0 w1 : Word) (s : State) : State :=
  { s with fpl := { s.fpl with regions := wtSetMany s.fpl.regions ((16 * d + r) * 2) [w0, w1] } }

/-- First address past a region. -/
def regionEnd (s : State) (d r : Nat) : Nat := regionBase s d r + regionSize s d r

/-- The first failing check of a region write, 0 for none (R153): T, stack, overlap, use, alignment. R153 refuses such a write
whatever VALID it writes. -/
def regionResult (s : State) (d r : Nat) (w0 w1 : Word) : Nat :=
  let t := setRegion d r w0 w1 s
  let lim := if regionFormat t d r = 2 then 8192 else 1048576
  if regionT t d r = 0 ∨ lim < regionT t d r ∨ regionFormat t d r = 3 ∨
      regionLog2N t d r < 6 ∨ 16 < regionLog2N t d r ∨ regionBlocks t d r = 0 ∨ 8192 < regionBlocks t d r ∨
      regionDepth t d r < 2 ∨ 64 < regionDepth t d r then 1
  else if regionBase t d r < 0x900000000 * d ∨ 0x900000000 * d + 0x8F0000000 < regionEnd t d r then 2
  else if (List.range 16).any (fun q => decide (q ≠ r) && regionValid s d q &&
      decide (regionBase t d r < regionEnd s d q ∧ regionBase s d q < regionEnd t d r)) then 3
  else if bitOf w0 0 != regionValid s d r && regionNamed s r then 4
  else if regionBase t d r % 65536 ≠ 0 then 5
  else 0

/-- The effect of a WRITE of FPL_REGION_CTRL. -/
def regionWrite (f : Nat) (s : State) : State :=
  let page := fplPage f
  let r := fld s page F.FPL_REGION_ADDR_REGION
  let w0 := BitVec.ofNat 64 (fieldOf (reg s page R.FPL_REGION_DATA) 0 42)
  let w1 := reg s page (R.FPL_REGION_DATA + 8)
  let x := regionResult s (f / 4) r w0 w1
  let s := tableResult page F.FPL_REGION_CTRL_RESULT x s
  if x = 0 then setRegion (f / 4) r w0 w1 s else s

/-- The effect of a READ of FPL_REGION_CTRL. -/
def regionRead (f : Nat) (s : State) : State :=
  let r := fld s (fplPage f) F.FPL_REGION_ADDR_REGION
  let d := f / 4
  setFld (fplPage f) F.FPL_REGION_CTRL_RESULT 0 (setRegsFrom (fplPage f) R.FPL_REGION_DATA
    [regionWord s d r 0, regionWord s d r 1, BitVec.ofNat 64 (regionChBytes s d r),
      BitVec.ofNat 64 (regionSize s d r)] s)

/-- A write of FPL_REGION_CTRL: READ, then WRITE; only Faceplates 0, 4, 8 and 12 have the table. -/
def writeRegionCtrl (f : Nat) (v : Word) (s : State) : State :=
  if f % 4 = 0 then actIf v 1 (regionWrite f) (actIf v 0 (regionRead f) s) else s

/-- FPL_REGION_READ (R153). -/
def execFplRegionRead (m fpl : Nat) (v : Word) (s : State) : Result :=
  .next (guardedWrite m (fplPage fpl) R.FPL_REGION_CTRL (v ||| 1#64) (writeRegionCtrl fpl (v ||| 1#64)) s)

/-- FPL_REGION_WRITE (R153, R475). -/
def execFplRegionWrite (m fpl : Nat) (v : Word) (s : State) : Result :=
  .next (guardedWrite m (fplPage fpl) R.FPL_REGION_CTRL (v ||| 2#64) (writeRegionCtrl fpl (v ||| 2#64)) s)

/-! ## Other registers and resets -/

/-- A write of FPL_CFG: refused while the Faceplate is enabled (R134). -/
def writeFplCfg (f : Nat) (v : Word) (s : State) : State :=
  if flag s (fplPage f) F.PAGE_CTRL_ENABLE then refuseCfg (fplPage f) s else storePlain (fplPage f) R.FPL_CFG v s

/-- A read of FPL_STATUS. -/
def readFplStatus (s : State) (f : Nat) : Word :=
  let l := fplStreams s f
  let b (x : Bool) (k : Nat) : Nat := if x then 2 ^ k else 0
  let act := match l with
    | n :: _ => (fplTakeUp s f n).coefB
    | [] => decide (ntGet s.fpl.coefDef f = 1)
  let gact := match l with
    | n :: _ => (fplTakeUp s f n).gainB
    | [] => decide (ntGet s.fpl.gainDef f = 1)
  BitVec.ofNat 64 (b act 0 + b (l.any (fun n => (fplStream s n).fade.isSome)) 1
    + b (l.any (fun n => (fplStream s n).queued.isSome)) 2 + b gact 3
    + l.length % 2 ^ 15 * 2 ^ 16 + loadMega (fplLoad s f) % 2 ^ 16 * 2 ^ 32)

/-- What a soft reset of a Faceplate clears beyond its registers (R160). -/
def resetFaceplate (f : Nat) (s : State) : State :=
  let out (lo n : Nat) (k : Nat) : Bool := decide (k < lo ∨ lo + n ≤ k)
  let mine := (mapList s f).map (fun e => mapStream e.2)
  let fp := s.fpl
  { s with fpl := { fp with
      coef := fp.coef.filter (fun e => out (2 * f * 2 ^ 20) (2 ^ 21) e.1)
      gain := fp.gain.filter (fun e => out (2 * f * 2 ^ 18) (2 ^ 19) e.1)
      map := fp.map.filter (fun e => out (f * 65536) 65536 e.1)
      zapped := fp.zapped.filter (fun e => out (f * 16384) 16384 e.1)
      streams := fp.streams.filter (fun e => !decide (e.1 ∈ mine))
      overload := fp.overload.filter (fun n => !decide (n ∈ mine))
      coefDef := ntSet fp.coefDef f 0
      gainDef := ntSet fp.gainDef f 0
      badCoef := fp.badCoef.filter (fun k => out (2 * f * 2 ^ 20) (2 ^ 21) k)
      badGain := fp.badGain.filter (fun k => out (2 * f * 2 ^ 18) (2 ^ 19) k)
      badMap := fp.badMap.filter (fun k => out (f * 16384) 16384 k)
      badModel := fp.badModel.filter (fun k => out (f * 16384) 16384 k)
      regions := if f % 4 = 0 then fp.regions.filter (fun e => out (8 * f) 32 e.1) else fp.regions } }

end Sys2Proof.Machine
end

