-- ==== Sys2Proof/Machine/Rch.lean ====
section
/-! DEFINITION. The roughing engines (05_roughing_chain.md): input queues, exact decimation, restarts and the
UNSETTLED and lost flags. -/

namespace Sys2Proof.Machine

def rchStream (s : State) (n : Nat) : RchStream := alGet {} s.rch.streams n

def setRchStream (n : Nat) (x : RchStream) (s : State) : State :=
  { s with rch := { s.rch with streams := alSet {} s.rch.streams n x } }

def rchQueue (s : State) (e : Nat) : List RchBlock := alGet [] s.rch.queue e

def setRchQueue (e : Nat) (q : List RchBlock) (s : State) : State :=
  { s with rch := { s.rch with queue := alSet [] s.rch.queue e q } }

/-- Sample blocks in a queue; runs of lost samples are none. -/
def rchBlocks (q : List RchBlock) : Nat := (q.filter (fun b => !b.lost)).length

/-- Valid streams an engine serves (R119, R120). -/
def engineStreams (s : State) (e : Nat) : List Nat := (stList s).filter (fun n => decide (stLane s n = e))

/-- Engine load (R119) and its budget. -/
def engineLoad (s : State) (e : Nat) : Rat := loadSum (stLoad s) (engineStreams s e)
def engineBudget : Rat := 8300000000

/-- A run of lost samples takes its place in the queue (R14). -/
def rchLose (n first count : Nat) (restart : Bool) (s : State) : State :=
  if count = 0 then s else setRchQueue (stLane s n) (rchQueue s (stLane s n) ++ [⟨n, first, count, true, [], restart⟩]) s

/-- A sample block reaches its engine: queued, or discarded by overrun with its samples lost (R121). -/
def rchEnqueue (n first : Nat) (samples : List (Int × Int)) (restart : Bool) (s : State) : State :=
  let e := stLane s n
  let full := evalDetector (rchPage e) S.RCH_OVERRUN (decide (256 ≤ rchBlocks (rchQueue s e))) s
  let s := full.2
  if full.1 then
    let s := countK (rchPage e) R.RCH_CNT 4 1 (setSticky (rchPage e) S.RCH_OVERRUN s)
    rchLose n first samples.length restart (countLost n samples.length (stCount n 32 16 1 s))
  else
    let q := rchQueue s e ++ [⟨n, first, samples.length, false, samples, restart⟩]
    let s := setRchQueue e q s
    setFld (rchPage e) F.RCH_STATUS_QUEUE_MAX (max (fld s (rchPage e) F.RCH_STATUS_QUEUE_MAX) (rchBlocks q)) s

/-! ## The filter (R122 to R126) -/

/-- The centre tap that makes the stated sum of a filter whose taps below the centre are given (R124). -/
def firCentre (half : List Int) : Int := 2 ^ 17 - 2 * half.sum

/-- Whether the taps below the centre make a filter as R124 limits it: an 18-bit centre tap, and magnitudes of at most 245,760
in all. -/
def firOk (half : List Int) : Bool :=
  let c := firCentre half
  decide (-(2 ^ 17) ≤ c ∧ c < 2 ^ 17 ∧ 2 * (half.map Int.natAbs).sum + c.natAbs ≤ 245760)

/-- The taps below the centre of a preset: those of Config.firTap where they keep the limits of R124, else one tap of 1 beside
the centre, so that whatever Config holds the filter keeps them (log entry 6). -/
def firHalf (p : Nat) : List Int :=
  let c := (presetTaps p - 1) / 2
  let l := (List.range c).map (fun k => (Config.firTap p k).toInt)
  if firOk l then l else List.replicate (c - 1) 0 ++ [1]

/-- The FIR coefficients of a preset (R124): symmetric, summing to 2^17. -/
def firTaps (p : Nat) : List Int :=
  let h := firHalf p
  if presetTaps p = 0 then [] else h ++ [firCentre h] ++ h.reverse

/-- FIR coefficient h(k) of a preset (R124). -/
def firTap (p k : Nat) : Int := (firTaps p).getD k 0

/-- Product of two polynomials. -/
def polyMul (a b : List Int) : List Int :=
  (List.range (a.length + b.length - 1)).map (fun i =>
    ((List.range a.length).map (fun j => if j ≤ i then a.getD j 0 * b.getD (i - j) 0 else 0)).sum)

/-- Impulse response of the CIC stage: K factors of 1 + z + … + z^(R−1) (R122). -/
def cicImpulse (p : Nat) : List Int :=
  (List.range (presetK p)).foldl (fun a _ => polyMul a (List.replicate (presetR p) 1)) [1]

/-- Weight of input `m D − G + i` in output `m`: CIC and FIR together, 2G + 1 of them (R122, R127). -/
def roughWeight (p i : Nat) : Int :=
  let c := cicImpulse p
  let r := presetR p
  let h := firTaps p
  ((List.range (presetTaps p)).map (fun j => if j * r ≤ i then h.getD j 0 * c.getD (i - j * r) 0 else 0)).sum

/-- Weights of a whole window. -/
def roughWeights (p : Nat) : List Int := (List.range (2 * presetG p + 1)).map (roughWeight p)

/-- Input `i` of a stream: zero before the restart in force and where nothing is held (R128). -/
def rchInput (x : RchStream) (i : Nat) : Int × Int :=
  if i < x.zero ∨ i < x.base then (0, 0) else x.hist.getD (i - x.base) (0, 0)

/-- The output at label `l` from its exact sum of products (R125, R126, R127). -/
def roughOutput (p : Nat) (ws : List Int) (x : RchStream) (l : Nat) : Int × Int :=
  if presetG p = 0 then let v := rchInput x l; (v.1 * 64, v.2 * 64)
  else
    let g := presetG p
    let a := ws.foldl (fun (a : Nat × Int × Int) w =>
      let v := if l + a.1 < g then (0, 0) else rchInput x (l + a.1 - g)
      (a.1 + 1, a.2.1 + w * v.1, a.2.2 + w * v.2)) (0, 0, 0)
    (toSigned 24 (ofSigned 24 (roundShift a.2.1 (presetShift p))),
     toSigned 24 (ofSigned 24 (roundShift a.2.2 (presetShift p))))

/-- Whether the impulse window of label `l` holds a lost sample (R14). -/
def windowLost (x : RchStream) (g l : Nat) : Bool := x.lost.any (fun e => decide (e.1 ≤ l + g ∧ l < e.2 + g))

/-! ## Restarts (R128 to R131) -/

/-- Index of the next sample the engine takes for a stream. -/
def rchEnd (x : RchStream) : Nat := x.base + x.hist.length

/-- A stream restarts with its first block: no output labelled below r′ is emitted (R128). A restart noted for the same r′, or
one in the late manner, which would fall there too, acts as one with it (R131). -/
def startStream (d n first : Nat) (x : RchStream) : RchStream :=
  let r := ceilTo first d
  { x with started := true, base := first, hist := [], next := r, zero := r, emitted := false, late := 0,
           restarts := x.restarts.filter (fun q => decide (r < q)), unsettled := r + n * d, lost := [] }

/-- A restart noted for the output that reaches its index; two at one index act as one (R131). -/
def addRestart (r : Nat) (x : RchStream) : RchStream :=
  { x with restarts := if r ∈ x.restarts then x.restarts else x.restarts ++ [r] }

/-- A restart in the late manner: at the first multiple of D at or after the next sample taken for the stream (R131). -/
def restartLate (x : RchStream) : RchStream := if x.started then { x with late := max 1 x.late } else x

/-- A restart at `r'`, noted for the output that reaches it; in the late manner if outputs from there have been emitted. One
that falls on the r′ with which the stream has just started acts as one with that (R131). -/
def restartAt (r : Nat) (x : RchStream) : RchStream × Bool :=
  if x.started && x.emitted && decide (r < x.next) then (restartLate x, true)
  else if x.started && !x.emitted && decide (r = x.zero) then (x, false)
  else (addRestart r x, false)

/-- The next sample taken is `first`: a restart in the late manner falls at the multiple of D from there, and after an error in
the stream's state every output before it, which draws on that state, is UNSETTLED (R131, R132). -/
def settleLate (d n first : Nat) (x : RchStream) : RchStream :=
  let r := ceilTo first d
  if x.late = 0 then x
  else
    let x := addRestart r { x with unsettled := if x.late = 2 then max x.unsettled (r + n * d) else x.unsettled }
    { x with late := 0 }

/-- Restarts reached by the output labelled `l` take force (R128, R129). -/
def takeRestarts (d n l : Nat) (x : RchStream) : RchStream × Nat :=
  let due := x.restarts.filter (fun r => decide (r ≤ l))
  let m := due.foldl max 0
  if due.isEmpty then (x, 0)
  else
    ({ x with restarts := x.restarts.filter (fun r => !decide (r ≤ l)), zero := max x.zero m,
              unsettled := max x.unsettled (m + n * d) }, due.length)

/-- Outputs that are ready, at most `k` of them, oldest first, with the number of restarts they reached (R126,
R127). -/
def produce (p : Nat) (ws : List Int) : Nat → RchStream → List FplOut × Nat × RchStream
  | 0, x => ([], 0, x)
  | k + 1, x =>
    let l := x.next
    if rchEnd x ≤ l + presetG p then ([], 0, x)
    else
      let t := takeRestarts (presetD p) (presetN p) l x
      let x := t.1
      let y := roughOutput p ws x l
      let o : FplOut := ⟨y.1, y.2, decide (l < x.unsettled), windowLost x (presetG p) l⟩
      let r := produce p ws k { x with next := l + presetD p, emitted := true }
      (o :: r.1, t.2 + r.2.1, r.2.2)

/-- History the next output no longer needs is dropped. -/
def trimHist (g : Nat) (x : RchStream) : RchStream :=
  let k := min (x.next - g - x.base) x.hist.length
  { x with base := x.base + k, hist := x.hist.drop k, lost := x.lost.filter (fun e => decide (x.next < e.2 + g)) }

/-- A block or a run of lost samples enters a stream's history (R14, R125). -/
def takeBlock (d n : Nat) (b : RchBlock) (x : RchStream) : RchStream :=
  let x := if x.started && !b.restart then settleLate d n b.first x else startStream d n b.first x
  let gap := b.first - rchEnd x
  { x with
    hist := x.hist ++ List.replicate gap (0, 0) ++ (if b.lost then List.replicate b.count (0, 0) else b.samples)
    lost := if b.lost then x.lost ++ [(b.first, b.first + b.count)] else x.lost }

/-- An uncorrectable error in a stream's state: a late restart, outputs drawn from it flagged (R132). -/
def stateError (e n : Nat) (s : State) : State :=
  let s := countK (rchPage e) R.RCH_CNT 5 1 (setSticky (rchPage e) S.RCH_STATE_UNCORR s)
  if (rchStream s n).started then setRchStream n { rchStream s n with late := 2 } s else s

/-- The front of an engine's queue is processed and its outputs go to the Faceplate (R121, R126, R132). RCH_CNT[0] counts the
zeros of a run of lost samples among the input components processed; the spec does not say whether it does (DESIGN
CHOICE, log entry 28). -/
def roughStep (e ecc : Nat) (s : State) : State :=
  match rchQueue s e with
  | [] => s
  | b :: q =>
    let page := rchPage e
    let n := b.stream
    let s := setRchQueue e q s
    let c := evalDetector page S.RCH_STATE_CORR (decide (ecc = 1)) s
    let s := stickyIf c.1 page S.RCH_STATE_CORR c.2
    let u := evalDetector page S.RCH_STATE_UNCORR (decide (ecc = 2)) s
    let s := if u.1 then stateError e n u.2 else u.2
    if !stValid s n then s
    else
      let p := stPreset s n
      let x0 := rchStream s n
      let x := takeBlock (presetD p) (presetN p) b x0
      let s := if x0.started && !b.restart then s else countK page R.RCH_CNT 3 1 s
      let r := produce p (roughWeights p) (b.count + presetG p + 1) x
      let comps := stComponents s n
      let s := countK page R.RCH_CNT 0 (b.count * comps) s
      let s := countK page R.RCH_CNT 1 (r.1.length * comps) s
      let s := countK page R.RCH_CNT 2 ((r.1.filter (fun o => o.uns)).length * comps) s
      let s := countK page R.RCH_CNT 3 r.2.1 s
      let s := setRchStream n (trimHist (presetG p) r.2.2) s
      fplFeed n (x.next / presetD p) r.1 s

/-- ROUGHING_OUTPUT (R121, R126, R132, R133). -/
def execRoughingOutput (engine ecc : Nat) (s : State) : Result :=
  .next (if pageLive s (rchPage engine) then roughStep engine ecc s else s)

/-- A restart of one stream at the index a mark resolves to; answers whether it was late (R128, R131). -/
def resetStream (t n : Nat) (s : State) : Bool × State :=
  let r := restartAt (ceilTo (resolveFor s n t) (stD s n)) (rchStream s n)
  (r.2, stickyIf r.2 (rchPage (stLane s n)) S.RCH_SYNC_LATE (setRchStream n r.1 s))

/-- ROUGH_RESET (R131, R290). -/
def execRoughReset (h : Nat) (s : State) : Result :=
  .next (sampleAction h 0x07 (fun o s =>
    (bitsSet o.arg64 64).foldl (fun a e =>
      (engineStreams a.2 e).foldl (fun a n => let r := resetStream o.time n a.2; (a.1 || r.1, r.2)) a) (false, s)) s)

/-- A write of RCH_CTRL: every stream of the engine restarts in the late manner (R131). -/
def writeRchCtrl (e : Nat) (v : Word) (s : State) : State :=
  actIf v 0 (fun s => (engineStreams s e).foldl (fun s n =>
    setRchStream n (restartLate (rchStream s n)) s) s) s

/-- SYNC_NOW (R131). -/
def execSyncNow (m engine : Nat) (v : Word) (s : State) : Result :=
  .next (guardedWrite m (rchPage engine) R.RCH_CTRL (v ||| 1#64) (writeRchCtrl engine (v ||| 1#64)) s)

/-! ## Enable, reset and registers (R133) -/

/-- The input queue is emptied: its blocks count as overrun discards and their samples are lost (R133). -/
def rchEmpty (e : Nat) (s : State) : State :=
  (rchQueue s e).foldl (fun s b =>
    if b.lost then s
    else
      countLost b.stream b.count (stCount b.stream 32 16 1
        (countK (rchPage e) R.RCH_CNT 4 1 (setSticky (rchPage e) S.RCH_OVERRUN s)))) (setRchQueue e [] s)

/-- The engine's streams lose their state, so that each restarts at its next block (R133). -/
def rchForget (e : Nat) (s : State) : State :=
  (engineStreams s e).foldl (fun s n => setRchStream n {} s) s

/-- The engine is enabled again: expected indices are cleared and every stream restarts at its next block; restarts that marks
have noted ahead stay (R133, R110, R131). -/
def rchEnable (e : Nat) (s : State) : State :=
  (engineStreams s e).foldl (fun s n =>
    setExpect n none (setRchStream n { restarts := (rchStream s n).restarts } s)) s

/-- A stream's entry is no longer valid, or is valid anew: its engine holds nothing more of it (R116, R128). Blocks of it still
queued leave the queue unprocessed, since no entry says how to process them (DESIGN CHOICE, log entry 28). -/
def rchDrop (n : Nat) (s : State) : State :=
  let e := stLane s n
  setRchStream n {} (setRchQueue e ((rchQueue s e).filter (fun b => decide (b.stream ≠ n))) s)

/-- A read of RCH_STATUS. -/
def readRchStatus (s : State) (e : Nat) : Word :=
  BitVec.ofNat 64 ((engineStreams s e).length % 2 ^ 13 + loadMega (engineLoad s e) % 2 ^ 14 * 2 ^ 16
    + rchBlocks (rchQueue s e) % 2 ^ 9 * 2 ^ 32 + fld s (rchPage e) F.RCH_STATUS_QUEUE_MAX * 2 ^ 48)

/-- A read of RCH_COEF_DATA (R124). -/
def readCoefTap (s : State) (e : Nat) : Word :=
  let p := fld s (rchPage e) F.RCH_COEF_ADDR_PRESET
  let k := fld s (rchPage e) F.RCH_COEF_ADDR_TAP
  if 1 ≤ p ∧ p ≤ 4 then BitVec.ofNat 64 (ofSigned 18 (firTap p k) + presetTaps p * 2 ^ 24) else 0

/-- A write of RCH_CNT_CLEAR. -/
def writeRchCntClear (e : Nat) (v : Word) (s : State) : State :=
  actIf v 0 (fun s => setFld (rchPage e) F.RCH_STATUS_QUEUE_MAX 0 (resetRegs (rchPage e) R.RCH_CNT 6 s)) s

end Sys2Proof.Machine
end

