-- ==== Sys2Proof/Machine/Line.lean ====
section
/-! DEFINITION. The line coding of a serial lane (R90 to R92) and the CRC-32 of R108: how message bits become levels,
and how levels are read back. A command that reports a received frame carries what this decoding gives. -/

namespace Sys2Proof.Machine

/-- Product in GF(2^10) with x^10 = x^3 + 1, the field of IEEE 802.3 Clause 91 (R90; PRESUMED, log entry 5). -/
def gfMul (a b : Nat) : Nat :=
  (List.range 10).foldr (fun i acc =>
    let acc := acc * 2
    let acc := if acc.testBit 10 then acc ^^^ 0x409 else acc
    if b.testBit i then acc ^^^ a else acc) 0

/-- The generator polynomial of RS(544,514), lowest degree first: the product of (x − α^i), i = 0 to 29 (R90). -/
def rsGenerator : List Nat :=
  (List.range 30).foldl (fun g i =>
    let r := (List.range i).foldl (fun x _ => gfMul x 2) 1
    List.zipWith (fun a b => a ^^^ b) (0 :: g) (g.map (gfMul r) ++ [0])) [1]

/-- One step of the systematic encoder: the remainder after one more message symbol, highest degree first. -/
def rsStep (gen : List Nat) (rem : List Nat) (x : Nat) : List Nat :=
  let f := (rem.headD 0) ^^^ x
  List.zipWith (fun a g => a ^^^ gfMul f g) (rem.tail ++ [0]) gen

/-- The 30 parity symbols of a message, in the order they are sent (R90). -/
def rsParity (msg : List Nat) : List Nat :=
  msg.foldl (rsStep (rsGenerator.dropLast.reverse)) (List.replicate 30 0)

/-- The self-synchronising scrambler x^58 + x^39 + 1 over message bits (R91): output bits, with the last 58 scrambled
bits as state, newest in bit 0. -/
def scramble : Nat → List Bool → List Bool × Nat
  | st, [] => ([], st)
  | st, b :: l =>
    let o := b ^^ st.testBit 38 ^^ st.testBit 57
    let r := scramble ((st * 2 + (if o then 1 else 0)) % 2 ^ 58) l
    (o :: r.1, r.2)

/-- The descrambler of R91. -/
def descramble : Nat → List Bool → List Bool × Nat
  | st, [] => ([], st)
  | st, b :: l =>
    let o := b ^^ st.testBit 38 ^^ st.testBit 57
    let r := descramble ((st * 2 + (if b then 1 else 0)) % 2 ^ 58) l
    (o :: r.1, r.2)

/-- The low `k` bits of a number, bit 0 first. -/
def bitsOf (k n : Nat) : List Bool := (List.range k).map (fun i => n.testBit i)

/-- The number whose bits are given, bit 0 first. -/
def ofBits (l : List Bool) : Nat := l.foldr (fun b n => 2 * n + (if b then 1 else 0)) 0

/-- The first `n` groups of `k` elements of a list. -/
def groupsOf {α : Type} (k : Nat) : Nat → List α → List (List α)
  | 0, _ => []
  | n + 1, l => l.take k :: groupsOf k n (l.drop k)

/-- Gray mapping of a bit pair, the bit sent first given first (R92). -/
def grayLevel (a b : Bool) : Nat := if a then (if b then 2 else 1) else (if b then 3 else 0)

/-- The bit pair of a level index (R92). -/
def grayBits (x : Nat) : Bool × Bool :=
  if x % 4 = 0 then (false, false) else if x % 4 = 1 then (true, false)
  else if x % 4 = 2 then (true, true) else (false, true)

/-- The levels sent for level indexes, with the precoder state (R92). -/
def precode : Nat → List Nat → List Nat
  | _, [] => []
  | y, x :: l => let z := (x + 3 * y) % 4; z :: precode z l

/-- The level indexes read from levels (R92). -/
def unprecode : Nat → List Nat → List Nat
  | _, [] => []
  | y, z :: l => (z + y) % 4 :: unprecode z l

/-- The message of a frame as a number: bits [19:0] frame control, then the data bytes (R93). -/
def frameMessage (ctrl : Nat) (data : List Byte) : Nat := ctrl % 2 ^ 20 + 2 ^ 20 * ofLeBytes (data.take 640)

/-- The bits of a frame's codeword in the order they are sent, and the scrambler state after them: 5,140 message bits
scrambled, 514 symbols of ten, 30 parity symbols (R90, R91). -/
def codewordBits (scr ctrl : Nat) (data : List Byte) : List Bool × Nat :=
  let r := scramble scr (bitsOf 5140 (frameMessage ctrl data))
  let msg := (groupsOf 10 514 r.1).map ofBits
  ((msg ++ rsParity msg).flatMap (bitsOf 10), r.2)

/-- The level indexes of a codeword's bits, taken in pairs (R92). -/
def levelIndexes (l : List Bool) : List Nat :=
  (groupsOf 2 (l.length / 2) l).map (fun p => grayLevel (p.getD 0 false) (p.getD 1 false))

/-- The 2,720 levels a frame is sent as, with the scrambler and the precoder state after it (R90 to R92). -/
def frameLevels (scr pre ctrl : Nat) (data : List Byte) : List Nat × Nat × Nat :=
  let c := codewordBits scr ctrl data
  let y := precode pre (levelIndexes c.1)
  (y, c.2, y.getLastD pre)

/-- What 2,720 levels that come without error carry, given the descrambler state and the level before them: whether the
parity holds, the frame control bits and the data bytes (R90 to R93). With errors the FEC decides, and a command that
reports a received frame carries its outcome (RxFrame.fec). -/
def readLevels (scr pre : Nat) (levels : List Nat) : Bool × Nat × List Byte :=
  let bits := (unprecode pre levels).flatMap (fun x => [(grayBits x).1, (grayBits x).2])
  let symbols := (groupsOf 10 544 bits).map ofBits
  let m := ofBits (descramble scr (bits.take 5140)).1
  (decide (symbols.drop 514 = rsParity (symbols.take 514)), m % 2 ^ 20, leBytes 640 (m / 2 ^ 20))

/-- One step of the PRBS31 generator x^31 + x^28 + 1 (R95): the bit it gives, and its state. The spec names ITU-T O.150; that
the register starts at all ones and the output is inverted is PRESUMED (log entry 88). -/
def prbsStep (st : Nat) : Bool × Nat :=
  let b := st.testBit 30 ^^ st.testBit 27
  (!b, (2 * st + (if b then 1 else 0)) % 2 ^ 31)

/-- The first `k` bits of the generator from a state. -/
def prbsBits : Nat → Nat → List Bool
  | 0, _ => []
  | k + 1, st => (prbsStep st).1 :: prbsBits k (prbsStep st).2

/-- Bytes 24 to 639 of a TRAIN frame: PRBS31, restarted there (R95). -/
def prbsBytes : List Byte := (groupsOf 8 616 (prbsBits 4928 (2 ^ 31 - 1))).map (fun b => BitVec.ofNat 8 (ofBits b))

/-- One bit of the reflected CRC-32 of IEEE 802.3 (R108). -/
def crcBit (c : Nat) : Nat := if c % 2 = 1 then (c / 2) ^^^ 0xEDB88320 else c / 2

/-- One byte of the CRC-32. -/
def crcByte (c : Nat) (b : Byte) : Nat :=
  crcBit (crcBit (crcBit (crcBit (crcBit (crcBit (crcBit (crcBit (c ^^^ b.toNat))))))))

/-- The CRC-32 of a byte string: initial value and final XOR all ones (R108). -/
def crc32 (l : List Byte) : Nat := (l.foldl crcByte 0xFFFFFFFF) ^^^ 0xFFFFFFFF

end Sys2Proof.Machine
end

