-- ==== Sys2Proof/Machine/Train.lean ====
section
/-! DEFINITION. Lane training (R95 to R102) of a Spur or Zhok lane, as a function of the lane, its environment and one
received frame. -/

namespace Sys2Proof.Machine

/-- What a lane's training asks of its page at a frame: the highest rate, a forced polarity, and how the identity in
the frame is judged: 0 pass, 1 identity mismatch, 2 lane map or wiring wrong, 3 other lanes not yet known. -/
structure TrainEnv where
  maxRate : Nat
  forcePol : Option Bool
  ident : Nat
  logicalMask : Nat
  /-- Of two devices that train each other, this one answers STEP requests (R99 for Zhok lanes). -/
  answers : Bool
  /-- The time of the frame. -/
  now : Nat
  deriving DecidableEq, Repr

/-- What training reports to the lane's page. -/
inductive TrainNote where
  | idMismatch | orderFail | lockLost | retrain | enterRun | retrainFail | fullTraining | stepFail
  deriving DecidableEq, Repr

/-- Byte `k` of a frame's data. -/
def byteAt (l : List Byte) (k : Nat) : Nat := (l.getD k 0).toNat

/-- Little-endian number of `n` bytes from byte `k`. -/
def bytesAt (l : List Byte) (k n : Nat) : Nat := ofLeBytes ((l.drop k).take n)

/-- The MARKER of a TRAIN frame (R95). -/
def trainMarker : List Byte := [0x5A, 0xC3, 0x96, 0x3C, 0xA5, 0x69, 0x0F, 0xF0]

/-- Frame control fields (R93). -/
def rxKind (f : RxFrame) : Nat := natField f.ctrl 0 2
def rxStartPtr (f : RxFrame) : Nat := natField f.ctrl 2 8
def rxFseq (f : RxFrame) : Nat := natField f.ctrl 10 8

def rxEcho (f : RxFrame) : Nat := natField f.ctrl 18 2

/-- Whether a frame is uncorrectable for R102 and R107: by its codeword or by an impossible START_PTR (R94). -/
def rxBad (f : RxFrame) : Bool := decide (f.fec = 2 ∨ (160 ≤ (rxStartPtr f) ∧ (rxStartPtr f) ≠ 255))

/-- Whether a received codeword is an intact TRAIN frame. -/
def rxIsTrain (f : RxFrame) : Bool := decide (f.fec ≠ 2 ∧ (rxKind f) = 2) && decide (f.data.take 8 = trainMarker)

/-- TRAIN frame fields (R95). -/
def rxTxLane (f : RxFrame) : Nat := byteAt f.data 8
def rxRates (f : RxFrame) : Nat := byteAt f.data 9 % 8
def rxState (f : RxFrame) : Nat := byteAt f.data 10
def rxReq (f : RxFrame) : Nat := byteAt f.data 11
def rxTarget (f : RxFrame) : Nat := byteAt f.data 12
def rxSwitch (f : RxFrame) : Nat := byteAt f.data 13
def rxCoefReq (f : RxFrame) : Nat := byteAt f.data 14
def rxCoefStat (f : RxFrame) : Nat := byteAt f.data 15
def rxPeerId (f : RxFrame) : Nat := bytesAt f.data 16 4

/-- A full training starts at S0 with the precoder state 0 (R88, R92, R101, R118); the cap stays unless ENABLE started it
(R100). Messages, FSEQ and the scrambler run on (R91, R93, R112). -/
def trainFull (cfg : Word) (cap : Nat) (l : LaneTrain) : LaneTrain :=
  { st := .lock, rate := 0, rateCap := cap, cfg := cfg, txMsg := l.txMsg, rxMsg := l.rxMsg, syncTrig := l.syncTrig,
    pendSeq := l.pendSeq, txFseq := l.txFseq, scr := l.scr, peerEcho := l.peerEcho }

/-- A fast retrain starts: rate, polarity, lane map and equaliser are kept (R102), and the precoder state is 0, since a
training starts (R92; DEDUCED, log entry 88). -/
def trainFast (l : LaneTrain) : LaneTrain :=
  { l with st := .retrain, fast := true, good := 0, bad := 0, uncTimes := [], readySent := 0, readyGot := false,
           polKnown := true, inSync := false, part := [], pre := 0 }

/-- Loss of lock before RUN: LOCK at the current rate with the precoder reset, or the start of the retrain again (R101,
R102). -/
def trainRelock (l : LaneTrain) : LaneTrain :=
  { l with st := if l.fast then .retrain else .lock, good := 0, bad := 0, readySent := 0, readyGot := false,
           stepping := none, stepAcked := false, held := false, coefOut := 0, coefHold := 0, switched := none, pre := 0 }

/-- Loss of lock within 1.5 ms of a rate switch: the lane looks for lock at the new rate, and R100 decides (R101). -/
def switchRelock (l : LaneTrain) : LaneTrain :=
  { l with st := .lock, good := 0, bad := 0, readySent := 0, readyGot := false, stepping := none, stepAcked := false,
           held := false, coefOut := 0, coefHold := 0 }

/-- Whether a lane is within 1.5 ms of its last rate switch at a time (R100). -/
def inSwitch (now : Nat) (l : LaneTrain) : Bool :=
  match l.switched with
  | some (_, t) => decide (now < t + 1500 * usUnits)
  | none => false

/-- The next rate up, if the lane may take it (R99). -/
def nextRate (env : TrainEnv) (l : LaneTrain) : Option Nat :=
  if l.final then none
  else if l.rate < 2 ∧ l.peerRates.testBit (l.rate + 1) ∧ l.rate + 1 ≤ natField l.cfg.toNat 0 2 ∧
      l.rate + 1 ≤ env.maxRate ∧ l.rate + 1 ≤ l.rateCap then some (l.rate + 1)
  else none

/-- TUNE has ended: a step up is requested with its switch 64 frames on, or the rate is final (R98, R99). -/
def tuneEnd (env : TrainEnv) (l : LaneTrain) : LaneTrain :=
  match nextRate env l with
  | some r => { l with st := .step, stepping := some (r, (l.txFseq + 65) % 256), stepAcked := false }
  | none => { l with st := .ready, readySent := 0 }

/-- Whether each tap of a request has its answer (R98). -/
def coefAnswered (req stat : Nat) : Bool :=
  (List.range 3).all (fun k => decide (natField req (2 * k) 2 = 0 ∨ natField stat (2 * k) 2 ≠ 0))

/-- One TUNE frame of the equaliser exchange (R98). -/
def tuneStep (env : TrainEnv) (f : RxFrame) (eq : EqInput) (l : LaneTrain) : LaneTrain :=
  let l :=
    if l.coefOut ≠ 0 then
      (if coefAnswered l.coefOut (rxCoefStat f) then { l with coefOut := 0, coefHold := 4 } else l)
    else if l.coefHold ≠ 0 then { l with coefHold := l.coefHold - 1 }
    else if eq.done then l
    else { l with coefOut := natField eq.req 0 6 }
  if eq.done ∧ l.coefOut = 0 then tuneEnd env l else l

/-- One tap of the lane's own equaliser obeys a request (R98): the tap after it, and the answer. INC and DEC move it by one
step within the limits of the transmitter; a code of 3 is taken as HOLD (DESIGN CHOICE, log entry 88). -/
def tapStep (k req : Nat) (pos : Int) : Int × Nat :=
  if req = 1 then (if pos < Config.tapMax k then (pos + 1, 1) else (pos, 3))
  else if req = 2 then (if Config.tapMin k < pos then (pos - 1, 1) else (pos, 2))
  else (pos, 0)

/-- The peer's COEF_REQ is obeyed and answered (R98): a request that is held was obeyed when it came, and HOLD ends the
answer. -/
def obeyCoef (f : RxFrame) (l : LaneTrain) : LaneTrain :=
  let one (k : Nat) : Int × Nat :=
    let req := natField (rxCoefReq f) (2 * k) 2
    let pos := l.eqTaps.getD k 0
    if req ≠ 0 ∧ req = natField l.eqReq (2 * k) 2 then (pos, natField l.eqStat (2 * k) 2) else tapStep k req pos
  { l with eqTaps := (List.range 3).map (fun k => (one k).1), eqReq := natField (rxCoefReq f) 0 6,
           eqStat := (one 0).2 + 4 * (one 1).2 + 16 * (one 2).2 }

/-- A correctable codeword while the lane looks for lock (R96): four in a row, error-free and in one polarity. -/
def lockStep (env : TrainEnv) (f : RxFrame) (inv : Bool) (l : LaneTrain) : LaneTrain :=
  let allowed := match env.forcePol with
    | some x => decide (inv = x)
    | none => !l.polKnown || decide (inv = l.polInv)
  if rxIsTrain f && decide (f.fec = 0) && allowed then
    { l with good := if inv = l.goodInv then l.good + 1 else 1, goodInv := inv }
  else { l with good := 0 }

/-- Lock is declared at the fourth good codeword (R96). -/
def lockDone (l : LaneTrain) : Bool := decide (4 ≤ l.good)

/-- The lane after lock: the polarity found is corrected and kept, and IDENTIFY follows. -/
def locked (l : LaneTrain) : LaneTrain :=
  { l with good := 0, polInv := l.goodInv, polKnown := true, bad := 0, held := false, st := .identify }

/-- IDENTIFY (R97, R251): the identity is recorded and judged as it stands at this frame. -/
def identifyStep (env : TrainEnv) (f : RxFrame) (l : LaneTrain) : LaneTrain × List TrainNote :=
  let l := { l with peerId := (rxPeerId f), txLane := natField (rxTxLane f) 0 5 % (env.logicalMask + 1),
                    peerRates := (rxRates f), learned := true }
  if env.ident = 0 then ({ l with st := .tune, held := false, coefOut := 0, coefHold := 0 }, [])
  else if env.ident = 1 then ({ l with held := true }, [.idMismatch])
  else if env.ident = 2 then ({ l with held := true }, [.orderFail])
  else ({ l with held := true }, [])

/-- STEP (R99): an acknowledgement fixes the switch; a refusal makes the current rate final. -/
def stepStep (env : TrainEnv) (f : RxFrame) (l : LaneTrain) : LaneTrain :=
  if env.answers && decide ((rxReq f) = 1) then
    { l with stepping := some ((rxTarget f), (rxSwitch f)), stepAcked := true, answering := true }
  else
  match l.stepping with
  | none => l
  | some (r, sw) =>
    if (rxReq f) = 2 ∧ (rxTarget f) = r ∧ (rxSwitch f) = sw then { l with stepAcked := true }
    else if (rxReq f) = 3 then
      { l with st := .ready, stepping := none, stepAcked := false, final := true, rateCap := l.rate, readySent := 0 }
    else l

/-- Lock is found again in a fast retrain: the identity must be the one learned (R102). -/
def retrainStep (env : TrainEnv) (f : RxFrame) (l : LaneTrain) : LaneTrain × List TrainNote :=
  if (rxPeerId f) = l.peerId ∧ natField (rxTxLane f) 0 5 % (env.logicalMask + 1) = l.txLane then
    ({ l with st := .ready, readySent := 0 }, [])
  else (l, [.retrainFail, .fullTraining])

/-- The lane enters RUN after 16 READY frames sent and one received (R101). -/
def readyStep (l : LaneTrain) : LaneTrain × List TrainNote :=
  if 16 ≤ l.readySent ∧ l.readyGot then
    ({ l with st := .run, fast := false, bad := 0, uncTimes := [], inSync := false, part := [], switched := none },
      [.enterRun])
  else (l, [])

/-- What a received frame does to a lane in training (R96 to R102). In READY any frame may be the one at which the lane enters
RUN, since its peer may be there already. -/
def trainRx (env : TrainEnv) (f : RxFrame) (inv : Bool) (eq : EqInput) (l : LaneTrain) : LaneTrain × List TrainNote :=
  if f.fec = 2 then
    let n := l.bad + 1
    if l.st = .lock ∨ l.st = .retrain then ({ l with good := 0 }, [])
    else if l.st = .down ∨ l.st = .retired ∨ l.st = .run then (l, [])
    else if 4 ≤ n then (if inSwitch env.now l then switchRelock l else trainRelock l, [])
    else ({ l with good := 0, bad := n }, [])
  else
    let l := { l with bad := 0, peerEcho := rxEcho f }
    let l := if (rxState f) = 4 ∧ (l.st = .ready ∨ l.st = .tune ∨ l.st = .step) ∧ rxIsTrain f = true then
        { l with readyGot := true } else l
    let l := if rxIsTrain f && decide (l.st ≠ .lock ∧ l.st ≠ .retrain) then obeyCoef f l else l
    if l.st = .lock then
      let k := lockStep env f inv l
      (if lockDone k then locked k else k, [])
    else if l.st = .retrain then
      let k := lockStep env f inv l
      if lockDone k then retrainStep env f { k with good := 0 } else (k, [])
    else if l.st = .ready then readyStep l
    else if !rxIsTrain f then (l, [])
    else
      match l.st with
      | .identify => identifyStep env f l
      | .tune => (tuneStep env f eq l, [])
      | .step => (stepStep env f l, [])
      | _ => (l, [])

/-- STATE code a lane sends (R95). -/
def sentState (l : LaneTrain) : Nat :=
  match l.st with
  | .lock => 0 | .identify => 1 | .tune => 2 | .step => 3 | .ready => 4 | .retrain => 5 | _ => 0

/-- The data bytes of the TRAIN frame a lane sends (R95). -/
def sentTrain (txLane peer rates : Nat) (l : LaneTrain) : List Byte :=
  let (req, tgt, sw) := match l.stepping with
    | some (r, sw) => if l.answering then (2, r, sw) else if l.stepAcked then (0, r, sw) else (1, r, sw)
    | none => (0, 0, 0)
  trainMarker ++ [txLane, rates, sentState l, req, tgt, sw, l.coefOut, l.eqStat].map (BitVec.ofNat 8) ++ leBytes 4 peer ++
    [0, 0, 0, 0] ++ prbsBytes

/-- The frame control bits a lane sends with a KIND (R93): START_PTR 255, since the device sends no DATA frame, its FSEQ, and
the low bits of the SEQ of the last message it executed. That frames other than DATA carry START_PTR 255 is the model's choice
(DESIGN CHOICE, log entry 88). -/
def sentCtrl (kind : Nat) (l : LaneTrain) : Nat := kind + 255 * 2 ^ 2 + l.txFseq % 256 * 2 ^ 10 + l.rxMsg % 4 * 2 ^ 18

/-- The lane after a frame has left it: FSEQ, scrambler and precoder have moved on (R91 to R93). -/
def frameSent (kind : Nat) (data : List Byte) (l : LaneTrain) : LaneTrain :=
  let y := frameLevels l.scr l.pre (sentCtrl kind l) data
  { l with txFseq := (l.txFseq + 1) % 256, scr := y.2.1, pre := y.2.2 }

/-- What leaves the transmit pair of a lane with a frame: the frame as control bits and data bytes, and its levels (R90 to
R93). -/
def laneSendFrame (frame levels : EmKind) (n kind : Nat) (data : List Byte) (l : LaneTrain) (s : State) : State :=
  send levels n (frameLevels l.scr l.pre (sentCtrl kind l) data).1
    (send frame n (sentCtrl kind l :: data.map (fun b => b.toNat)) s)

/-- After a TRAIN frame with FSEQ `sent` has gone: the READY count, and the switch of rate once SWITCH_FSEQ has gone, with the
precoder reset (R99, R101). A request whose switch passes unanswered is made again. -/
def afterSend (now sent : Nat) (l : LaneTrain) : LaneTrain :=
  let l := { l with readySent := if l.st = LaneState.ready then l.readySent + 1 else l.readySent }
  match l.stepping with
  | none => l
  | some (r, sw) =>
    if sent = sw then
      if l.stepAcked then
        { l with rate := r, switched := some (l.rate, now), st := .lock, good := 0, bad := 0, stepping := none,
                 stepAcked := false, answering := false, coefOut := 0, coefHold := 0, readyGot := false, pre := 0 }
      else { l with stepping := some (r, (l.txFseq + 65) % 256) }
    else l

/-- STEP_FAIL (R100): 1.5 ms after a switch there is no lock at the new rate; the previous rate returns with the precoder
reset, and caps the lane. With lock the switch is done. -/
def trainStepFail (l : LaneTrain) : LaneTrain × Bool :=
  match l.switched with
  | some (r, _) =>
    if l.st = .lock then
      ({ l with rate := r, rateCap := r, final := true, switched := none, good := 0, bad := 0, pre := 0 }, true)
    else ({ l with switched := none }, false)
  | none => (l, false)

/-- Whether a lane is in full training, so that the 10 ms bound runs (R101). -/
def inFullTraining (l : LaneTrain) : Bool :=
  !l.fast && !l.held && decide (l.st = .lock ∨ l.st = .identify ∨ l.st = .tune ∨ l.st = .step ∨ l.st = .ready)

/-- Whether a lane is in a fast retrain (R102). -/
def inFastRetrain (l : LaneTrain) : Bool := l.fast && decide (l.st = .retrain ∨ l.st = .ready ∨ l.st = .lock)

/-- Lane state codes (SPR_LINK_STATUS.STATE). -/
def LaneState.code (x : LaneState) : Nat :=
  match x with
  | .down => 0 | .lock => 1 | .identify => 2 | .tune => 3 | .step => 4 | .ready => 5 | .run => 6 | .retrain => 7
  | .retired => 8

end Sys2Proof.Machine
end

