-- ==== Sys2Proof/Machine/Spur.lean ====
section
/-! DEFINITION. The Spur lanes (04_spur_lanes.md): lane and bundle state, sample blocks and their checks, management
messages, and the stream table. -/

namespace Sys2Proof.Machine

def sprLane (s : State) (n : Nat) : LaneTrain := alGet {} s.spr.lanes n

def setSprLane (n : Nat) (l : LaneTrain) (s : State) : State :=
  { s with spr := { s.spr with lanes := alSet {} s.spr.lanes n l } }

/-- Whether a lane belongs to a bundle, by the SPR_CFG of its last full training (R103, R118). -/
def inBundle (l : LaneTrain) : Bool := bitOf l.cfg 2

/-- Physical lanes of the bundle of a lane. -/
def bundleOf (n : Nat) : List Nat := (List.range 4).map (fun k => n / 4 * 4 + k)

/-- Live lanes of the bundle of a lane: those in RUN (R105). -/
def liveLanes (s : State) (n : Nat) : List Nat := (bundleOf n).filter (fun k => decide ((sprLane s k).st = .run))

/-- The lane a bundle's management messages and skew refer to: the lowest live logical lane (R113, R118). -/
def lowestLive (s : State) (n : Nat) : Option Nat :=
  (liveLanes s n).foldl (fun a k =>
    match a with
    | none => some k
    | some b => if (sprLane s k).txLane < (sprLane s b).txLane then some k else some b) none

/-! ## Sample blocks (R106 to R111) -/

/-- A sample block header (R106). -/
structure BlockHeader where
  stream : Nat
  format : Nat
  nsamp : Nat
  discont : Bool
  overrange : Bool
  index : Nat
  deriving DecidableEq, Repr

/-- The header in the first 16 bytes of a block. -/
def blockHeader (l : List Byte) : BlockHeader :=
  let x := ofLeBytes (l.take 16)
  ⟨natField x 0 16, natField x 16 4, natField x 20 14, x.testBit 34, x.testBit 35, natField x 64 64⟩

/-- Whether a header is malformed (R106). -/
def headerBad (h : BlockHeader) : Bool :=
  (sampleBits h.format).isNone || decide (h.nsamp = 0 ∨ 8192 < h.nsamp ∨ 32768 < h.nsamp * sampleWidth h.format)

/-- Payload bytes of a block (R106). -/
def payloadBytes (h : BlockHeader) : Nat := ceilDiv (h.nsamp * sampleWidth h.format) 8

/-- Bytes of a block with its CRC, without pad. -/
def blockBytes (h : BlockHeader) : Nat := 16 + payloadBytes h + 4

/-- Whether a block passes its CRC (R108). -/
def crcGood (h : BlockHeader) (l : List Byte) : Bool :=
  decide (crc32 (l.take (16 + payloadBytes h)) = bytesAt l (16 + payloadBytes h) 4)

/-- Samples of a block as v16 components (R30, R125). -/
def blockSamples (h : BlockHeader) (l : List Byte) : List (Int × Int) :=
  let x := ofLeBytes ((l.drop 16).take (payloadBytes h))
  let k := 2 ^ (16 - (sampleBits h.format).getD 16)
  (List.range h.nsamp).map (fun i => let v := sampleAt h.format x i; (v.1 * k, v.2 * k))

/-- The valid entry a block from a lane names (R103, R111): by lane-local identifier, or home lane and identifier in a
bundle. -/
def laneEntry (s : State) (lane id : Nat) : Option Nat :=
  let l := sprLane s lane
  let (home, k) := if inBundle l then (lane / 4 * 4 + id / 4096, id % 4096) else (lane, id)
  if inBundle l && decide (16384 ≤ id) then none
  else (stList s).find? (fun n => decide (stSrcKind s n = 0 ∧ stLane s n = home ∧ stSrcId s n = k))

/-- The valid entry a datagram block on a port names. -/
def portEntry (s : State) (port id : Nat) : Option Nat :=
  (stList s).find? (fun n => decide (stSrcKind s n = 1 ∧ stPort s n = port ∧ stSrcId s n = id))

/-- An accepted block whose index has been judged: samples skipped are lost, E moves on, the block is queued
(R110, R121, R14). -/
def blockAccept (page n e : Nat) (restart : Bool) (h : BlockHeader) (l : List Byte) (s : State) : State :=
  let gap := h.index - e
  let s := if gap = 0 then s else rchLose n e gap false (countLost n gap s)
  let g := evalDetector page S.SPR_INDEX_GAP (decide (0 < gap) && !h.discont) s
  let o := evalDetector page S.SPR_OVERRANGE h.overrange (stickyIf g.1 page S.SPR_INDEX_GAP g.2)
  let s := if o.1 then setSticky page S.SPR_OVERRANGE (stCount n 48 16 1 o.2) else o.2
  let s := countK page R.SPR_CNT 3 1 s
  rchEnqueue n h.index (blockSamples h l) restart (setExpect n (some (h.index + h.nsamp)) s)

/-- A block that passed its CRC, for the entry found (R110, R111, R133). -/
def blockArrive (page : Nat) (entry : Option Nat) (h : BlockHeader) (l : List Byte) (s : State) : State :=
  let u := evalDetector page S.SPR_UNKNOWN_STREAM entry.isNone s
  let s := u.2
  let unknown (s : State) : State := countK page R.SPR_CNT 6 1 (setSticky page S.SPR_UNKNOWN_STREAM s)
  match entry with
  | none => unknown s
  | some n =>
    let f := evalDetector page S.SPR_FORMAT_MISMATCH (decide (h.format ≠ stFormat s n)) s
    let b := evalDetector page S.SPR_INDEX_BACK (decide (h.index < (stExpect f.2 n).getD 0)) f.2
    if u.1 then unknown s
    else if f.1 then
      countK page R.SPR_CNT 7 1 (setSticky page S.SPR_FORMAT_MISMATCH (stCount n 32 16 1 f.2))
    else if !pageLive s (rchPage (stLane s n)) then
      countK (rchPage (stLane s n)) R.RCH_CNT 4 1 (stCount n 32 16 1 f.2)
    else if b.1 then countK page R.SPR_CNT 5 1 (setSticky page S.SPR_INDEX_BACK (stCount n 32 16 1 b.2))
    else
      match stExpect s n with
      | none => blockAccept page n h.index true h l b.2
      | some e => blockAccept page n e false h l b.2

/-- A whole block received on a lane or in a datagram: CRC, entry, format and index (R108 to R111). A block that fails its CRC
is counted in SPR_CNT[4] alone: the spec does not say whether the entry's DISCARDED field (R114) counts it, and its
header, which may be what failed, names no entry for certain (DESIGN CHOICE, log entry 89). -/
def blockReceive (page : Nat) (entry : Nat → Option Nat) (l : List Byte) (s : State) : State :=
  let h := blockHeader l
  let c := evalDetector page S.SPR_BLOCK_CRC (!crcGood h l) s
  if c.1 then countK page R.SPR_CNT 4 1 (setSticky page S.SPR_BLOCK_CRC c.2)
  else blockArrive page (entry h.stream) h l c.2

/-- A malformed header is reported (R106); an armed BLOCK_LENGTH has made it malformed or is used up with it (R75). -/
def blockMalformed (page : Nat) (s : State) : State :=
  countK page R.SPR_CNT 4 1 (setSticky page S.SPR_BLOCK_LENGTH (takeArmed page S.SPR_BLOCK_LENGTH s).2)

/-! ## Blocks in DATA frames (R107) -/

/-- Words of a frame still being read: the lane's block in progress, whole blocks found, malformed headers. -/
structure FrameRead where
  inSync : Bool
  part : List Byte
  partAt : Nat
  blocks : List (Nat × List Byte)
  malformed : Nat
  deriving DecidableEq, Repr

/-- One 4-byte word of a frame, number `k` of frame `fr` (R107): part of a block, a fill word, or a new header. After a
malformed header everything up to the next frame with a START_PTR is discarded (R106). With `inj`, an armed BLOCK_LENGTH
(R75), the next header judged is malformed. -/
def readWord (inj : Bool) (fr start : Nat) (a : Nat × FrameRead) (w : List Byte) : Nat × FrameRead :=
  let k := a.1
  let r := a.2
  if !r.inSync && !decide (start ≠ 255 ∧ k = start ∧ r.malformed = 0) then (k + 1, r)
  else
    let r := { r with inSync := true }
    if r.part = [] ∧ natField (ofLeBytes w) 0 16 = 0xFFFF then (k + 1, r)
    else
      let r := if r.part = [] then { r with partAt := fr } else r
      let p := r.part ++ w
      if p.length < 16 then (k + 1, { r with part := p })
      else
        let h := blockHeader p
        if p.length = 16 ∧ (headerBad h || inj) = true then
          (k + 1, { r with part := [], inSync := false, malformed := r.malformed + 1 })
        else if blockBytes h ≤ p.length then
          (k + 1, { r with part := [], blocks := r.blocks ++ [(r.partAt, p.take (blockBytes h))] })
        else (k + 1, { r with part := p })

/-- The bytes of a frame in 4-byte words. -/
def frameWords : Nat → List Byte → List (List Byte)
  | 0, _ => []
  | n + 1, l => l.take 4 :: frameWords n (l.drop 4)

/-- A DATA frame of a lane: the blocks that end in it, and the block left in progress. -/
def readFrame (inj : Bool) (f : RxFrame) (l : LaneTrain) : FrameRead :=
  ((frameWords 160 f.data).foldl (readWord inj l.frameNo (rxStartPtr f)) (0, ⟨l.inSync, l.part, l.partAt, [], 0⟩)).2

/-! ## Merge order of a bundle (R104, R105) -/

/-- The earliest point of merge order at which a lane can still deliver a block. -/
def laneFrontier (l : LaneTrain) : Nat := max l.liveFrom (if l.part = [] then l.frameNo + 1 else l.partAt)

/-- Whether a waiting block is first in merge order whatever the live lanes still deliver (R104). -/
def mergeReady (s : State) (n : Nat) (b : MergeBlock) : Bool :=
  (liveLanes s n).all (fun k =>
    let l := sprLane s k
    decide (b.frame < laneFrontier l ∨ (b.frame = laneFrontier l ∧ b.logical < l.txLane) ∨ b.logical = l.txLane))

/-- Insertion in merge order: frame, then logical lane, then arrival (R104). -/
def mergeInsert (b : MergeBlock) : List MergeBlock → List MergeBlock
  | [] => [b]
  | x :: l => if b.frame < x.frame ∨ (b.frame = x.frame ∧ b.logical < x.logical) then b :: x :: l else x :: mergeInsert b l

/-- Blocks of a bundle that are ready are taken in merge order; at most `k` of them. -/
def mergeTake (bundle : Nat) : Nat → State → State
  | 0, s => s
  | k + 1, s =>
    match alGet [] s.spr.merge bundle with
    | [] => s
    | b :: l =>
      if mergeReady s (4 * bundle) b then
        let s := { s with spr := { s.spr with merge := alSet [] s.spr.merge bundle l } }
        mergeTake bundle k (blockReceive (sprPage b.lane) (laneEntry s b.lane) b.bytes s)
      else s

/-- Whether a bundle merges: three or four lanes are live (R105). -/
def bundleUp (s : State) (n : Nat) : Bool := decide (3 ≤ (liveLanes s n).length)

/-- A whole block of a lane goes to its checks, or into the merge of its bundle, which skips a lane that returns up to the
switch FSEQ (R105). -/
def deliverBlock (lane : Nat) (b : Nat × List Byte) (s : State) : State :=
  let l := sprLane s lane
  if inBundle l then
    if bundleUp s lane && decide (l.liveFrom ≤ b.1) then
      let m := mergeInsert ⟨b.1, l.txLane, lane, b.2⟩ (alGet [] s.spr.merge (lane / 4))
      { s with spr := { s.spr with merge := alSet [] s.spr.merge (lane / 4) m } }
    else s
  else blockReceive (sprPage lane) (laneEntry s lane) b.2 s

/-- All that is ready in the merge of a lane's bundle. -/
def mergeAll (lane : Nat) (s : State) : State :=
  mergeTake (lane / 4) (alGet [] s.spr.merge (lane / 4)).length s

/-! ## The live set (R105) -/

/-- SPR_BUNDLE after a change of the live set, and its sticky bits (R105). -/
def bundleStatus (n : Nat) (s : State) : State :=
  let p := sprPage (n / 4 * 4)
  let live := liveLanes s n
  let mask := (live.map (fun k => 2 ^ (sprLane s k).txLane)).sum
  let s := setFld p F.SPR_BUNDLE_LIVE mask s
  let s := setFld p F.SPR_BUNDLE_DEGRADED (if live.length = 3 then 1 else 0) s
  let s := setFld p F.SPR_BUNDLE_DOWN (if live.length < 3 then 1 else 0) s
  let s := stickyIf (decide (live.length = 3)) p S.SPR_BUNDLE_DEGRADED s
  stickyIf (decide (live.length < 3)) p S.SPR_BUNDLE_DOWN s

/-- A frame of a Spur lane leaves: its transmit pair carries it, and the lane moves on. -/
def sprSend (n kind : Nat) (data : List Byte) (s : State) : State :=
  let l := sprLane s n
  setSprLane n (frameSent kind data l) (laneSendFrame .sprFrame .sprLevels n kind data l s)

/-- The IDLE frame a lane in RUN sends (R94). -/
def sprIdle (n : Nat) (s : State) : State := sprSend n 1 (List.replicate 640 0xFF) s

/-- The 32 bytes of a management message (R112). -/
def messageBytes (type seq arg32 arg64 : Nat) : List Byte :=
  [BitVec.ofNat 8 type, BitVec.ofNat 8 seq, 0, 0] ++ leBytes 4 arg32 ++ leBytes 8 arg64 ++ List.replicate 16 0

/-- A management message leaves on a lane in a MGMT frame of its own (R112): its SEQ is the lane's next, and LAST_SEQ of the
lane's page shows it (R118). -/
def sendMessage (lane type arg32 arg64 : Nat) (s : State) : State :=
  let l := sprLane s lane
  let s := sprSend lane 3 (messageBytes type l.txMsg arg32 arg64 ++ List.replicate 608 0) s
  let s := setSprLane lane { sprLane s lane with txMsg := (l.txMsg + 1) % 256 } s
  send .sprMessage lane [type, l.txMsg, arg32, arg64] (setFld (sprPage lane) F.SPR_SYNC_CMD_LAST_SEQ l.txMsg s)

/-- LIVE mask of some lanes of a bundle: their logical lanes. -/
def liveMask (s : State) (lanes : List Nat) : Nat := (lanes.map (fun k => 2 ^ (sprLane s k).txLane)).sum

/-- The frame number after which a change of the live set named now takes effect: 64 frames past the latest frame of the live
lanes (R105; the distance is DESIGN CHOICE, log entry 25). -/
def switchFrame (s : State) (live : List Nat) : Nat := (live.map (fun k => (sprLane s k).frameNo)).foldl max 0 + 64

/-- Before the live set of a bundle changes, BUNDLE_MAP goes out on every lane live until then, with the new set and one
switch FSEQ for all of them (R105). -/
def announceMap (live : List Nat) (mask : Nat) (s : State) : State :=
  let sw := switchFrame s live
  live.foldl (fun s k => sendMessage k 2 (mask + sw % 256 * 256) 0 s) s

/-- After the live set has changed: the status, and the merge; the block in progress on a lane that dropped out is lost, and
nothing is merged below three lanes (R105). -/
def liveSettle (lane : Nat) (s : State) : State :=
  if !inBundle (sprLane s lane) then s
  else
    let s := bundleStatus lane s
    if bundleUp s lane then mergeAll lane s
    else { s with spr := { s.spr with merge := alSet [] s.spr.merge (lane / 4) [] } }

/-- A lane leaves RUN, where it is in it, and becomes `f` of itself: its bundle is told first (R105). -/
def leaveLive (n : Nat) (f : LaneTrain → LaneTrain) (s : State) : State :=
  let l := sprLane s n
  let live := liveLanes s n
  let s := if inBundle l && decide (l.st = .run) then announceMap live (liveMask s (live.filter (fun k => decide (k ≠ n)))) s
    else s
  liveSettle n (setSprLane n (f (sprLane s n)) s)

/-- A lane has entered RUN: in a bundle the other live lanes carry the new set, and the lane is in the merge from the frame
after the switch (R105). -/
def joinLive (n : Nat) (s : State) : State :=
  if !inBundle (sprLane s n) then s
  else
    let others := (liveLanes s n).filter (fun k => decide (k ≠ n))
    let from' := if others = [] then 0 else switchFrame s others + 1
    let s := announceMap others (liveMask s (n :: others)) s
    liveSettle n (setSprLane n { sprLane s n with liveFrom := from' } s)

/-! ## Faults of a lane (R102, R117) -/

/-- A retirable lane reaches its threshold: it stops, and it is listed (R117, R76). -/
def retireSprLane (n : Nat) (s : State) : State :=
  leaveLive n (fun l => { l with st := .retired, inSync := false, part := [] }) (retireUnit (sprPage n) 2 n s)

/-- RETRAIN and RETRAIN_FAIL count toward retry (R117). -/
def sprRetry (n : Nat) (s : State) : State :=
  let r := countRetry (sprPage n) s
  if r.2 then retireSprLane n r.1 else r.1

/-- A full training starts (R101, R118): counted, and SPR_CFG is read. -/
def sprTrain (n : Nat) (fromEnable : Bool) (s : State) : State :=
  let l := sprLane s n
  let cfg := reg s (sprPage n) R.SPR_CFG
  let s := setSprLane n (trainFull cfg (if fromEnable then 2 else l.rateCap) l) s
  countK (sprPage n) R.SPR_CNT 10 1 s

/-- A fast retrain starts; with a lost lock it is flagged too (R102). -/
def sprRetrain (n : Nat) (lost : Bool) (s : State) : State :=
  let p := sprPage n
  let s := stickyIf lost p S.SPR_LOCK_LOST s
  let s := countK p R.SPR_CNT 9 1 (setSticky p S.SPR_RETRAIN s)
  sprRetry n (leaveLive n trainFast s)

/-- A fast retrain fails: full training at S0 (R102). -/
def sprRetrainFail (n : Nat) (s : State) : State :=
  let s := setSticky (sprPage n) S.SPR_RETRAIN_FAIL s
  let s := sprTrain n false s
  sprRetry n s

/-- A codeword of a lane is judged and counted (SPR_CNT); an uncorrectable one, real or injected, is flagged. The frame
as the lane goes on with it. -/
def sprCodeword (n : Nat) (f : RxFrame) (s : State) : RxFrame × State :=
  let p := sprPage n
  let u := evalDetector p S.SPR_UNCORR (decide (f.fec = 2)) s
  let s := countK p R.SPR_CNT 0 1 u.2
  if u.1 then ({ f with fec := 2 }, countK p R.SPR_CNT 2 1 (setSticky p S.SPR_UNCORR s))
  else (f, if f.fec = 1 then countK p R.SPR_CNT 1 1 s else s)

/-- Times of uncorrectable codewords within the last millisecond (R102). -/
def recentUnc (s : State) (l : LaneTrain) : List Nat := l.uncTimes.filter (fun t => decide (s.mono < t + 1000 * usUnits))

/-- An uncorrectable codeword in RUN: the block in progress is lost, and lock may be (R102, R107). -/
def runUncorr (n : Nat) (s : State) : State :=
  let l := sprLane s n
  let times := recentUnc s l ++ [s.mono]
  let l := { l with inSync := false, part := [], bad := l.bad + 1, uncTimes := times }
  let e := evalDetector (sprPage n) S.SPR_LOCK_LOST (decide (4 ≤ l.bad ∨ fieldOf l.cfg 16 8 < times.length)) s
  let s := setSprLane n l e.2
  if e.1 then sprRetrain n true s else s

/-- Signed skew of `f` from `g` modulo 256. -/
def skewOf (f g : Nat) : Int := toSigned 8 ((f + 256 - g % 256) % 256)

/-- A lane that enters RUN counts its frames beside those of its bundle's live lanes, so that its first FSEQ names the frame
number nearest to theirs (R104). -/
def alignFrames (n : Nat) (s : State) : State :=
  let l := sprLane s n
  match (liveLanes s n).filter (fun k => decide (k ≠ n)) with
  | k :: _ => setSprLane n { l with frameNo := (sprLane s k).frameNo - 128 } s
  | [] => setSprLane n { l with frameNo := max 256 l.frameNo } s

/-- The lane that lags by more than 32 frames when lane `n` has frame `f` (R104): lane `n` behind another live lane of its
bundle, or another behind it. -/
def laggingLane (s : State) (n f : Nat) : Option Nat :=
  let others := (liveLanes s n).filter (fun k => decide (k ≠ n))
  if others.any (fun k => decide (skewOf f (sprLane s k).frameNo < -32)) then some n
  else others.find? (fun k => decide (32 < skewOf f (sprLane s k).frameNo))

/-- A correctable frame in RUN: its frame number, and the skew rule of a bundle (R104). -/
def runFrame (n : Nat) (f : RxFrame) (s : State) : State :=
  let l := sprLane s n
  let fno := l.frameNo + (rxFseq f + 256 - l.frameNo % 256) % 256
  let s := setSprLane n { l with bad := 0, frameNo := fno } s
  match (if inBundle l then laggingLane s n fno else none) with
  | some k => sprRetrain k false (setSticky (sprPage (n / 4 * 4)) S.SPR_ORDER_FAIL s)
  | none => s

/-- The data of a DATA frame in RUN (R104, R107). -/
def dataFrame (lane : Nat) (fr : RxFrame) (s : State) : State :=
  let l := sprLane s lane
  let r := readFrame (armedNow s (sprPage lane) S.SPR_BLOCK_LENGTH) fr l
  let s := setSprLane lane { l with inSync := r.inSync, part := r.part, partAt := r.partAt } s
  let s := (List.range r.malformed).foldl (fun s _ => blockMalformed (sprPage lane) s) s
  let s := r.blocks.foldl (fun s b => deliverBlock lane b s) s
  if inBundle l then mergeAll lane s else s

/-- An IDLE frame in RUN: its data is ignored (R94). -/
def idleFrame (lane : Nat) (s : State) : State := if inBundle (sprLane s lane) then mergeAll lane s else s

/-! ## Management messages (R112, R113) -/

/-- Whether the message the page of lane `k` has pending waits for the acknowledgement of `seq`. -/
def awaitsAck (s : State) (k seq : Nat) : Bool :=
  flag s (sprPage k) F.SPR_SYNC_CMD_PENDING && decide ((sprLane s k).pendSeq = seq)

/-- An ACK: PENDING clears and the status is stored in the page whose last message it names, in a bundle the page of any of
its lanes, since a message travels on the lowest live one (R113). -/
def ackMessage (lane seq status : Nat) (s : State) : State :=
  let pages := lane :: (if inBundle (sprLane s lane) then bundleOf lane else [])
  match pages.find? (fun k => awaitsAck s k seq) with
  | none => s
  | some k =>
    let p := sprPage k
    let s := setFld p F.SPR_SYNC_CMD_PENDING 0 (setFld p F.SPR_SYNC_CMD_ACK_STATUS (status % 2) s)
    if status = 1 then
      setSticky p S.SPR_SYNC_UNSUPPORTED (setSprLane k { sprLane s k with syncTrig := none } s)
    else s

/-- A STATUS message (R112). In a bundle it is stored in the page of the lane it comes on: the spec names no page for it
(DESIGN CHOICE, log entry 89). -/
def statusMessage (lane arg : Nat) (s : State) : State := setFld (sprPage lane) F.SPR_SYNC_CMD_PEER_STATUS arg s

/-- One message of 32 bytes (R112). -/
def rxMessage (lane : Nat) (l : List Byte) (s : State) : State :=
  let t := byteAt l 0
  let s := setSprLane lane { sprLane s lane with rxMsg := byteAt l 1 } s
  if t = 0x81 then ackMessage lane (byteAt l 4) (byteAt l 5) s
  else if t = 0x82 then statusMessage lane (bytesAt l 4 4) s
  else s

/-- The messages of a MGMT frame, at most `k`; TYPE 0 ends the list (R112). -/
def rxMessages (lane : Nat) : Nat → List Byte → State → State
  | 0, _, s => s
  | k + 1, l, s => if byteAt l 0 = 0 then s else rxMessages lane k (l.drop 32) (rxMessage lane (l.take 32) s)

/-! ## Training of a Spur lane (R95 to R102) -/

/-- How the identity in a frame is judged for a Spur lane (R97): the expected identity, and in a bundle one identity and every
logical lane once. The four lanes of a bundle must report, so while one has not, because it is retired, disabled or not
yet that far, the others wait in IDENTIFY: that a lane which cannot report holds the rest is the model's reading
(DEDUCED, log entry 89). -/
def sprIdent (s : State) (n : Nat) (f : RxFrame) : Nat :=
  let l := sprLane s n
  let p := sprPage n
  if bitOf l.cfg 3 && decide (rxPeerId f ≠ fld s p F.SPR_EXPECT_ID_EXPECT_ID) then 1
  else if !inBundle l then 0
  else
    let others := ((bundleOf n).filter (fun k => decide (k ≠ n))).map (sprLane s)
    if others.any (fun o => !o.learned) then 3
    else
      let lanes := rxTxLane f % 4 :: others.map (fun o => o.txLane)
      if others.any (fun o => decide (o.peerId ≠ rxPeerId f)) || !decide (lanes.Nodup) then 2 else 0

/-- What the page of a Spur lane asks of its training (R96, R99). -/
def sprEnv (s : State) (n : Nat) (f : RxFrame) : TrainEnv :=
  let l := sprLane s n
  { maxRate := 2, forcePol := if bitOf l.cfg 4 then some (bitOf l.cfg 5) else none, ident := sprIdent s n f,
    logicalMask := 3, answers := false, now := s.mono }

/-- What training reports to the page of a Spur lane. -/
def sprNote (n : Nat) (s : State) (x : TrainNote) : State :=
  let p := sprPage n
  match x with
  | .idMismatch => setSticky p S.SPR_ID_MISMATCH s
  | .orderFail => setSticky (sprPage (n / 4 * 4)) S.SPR_ORDER_FAIL s
  | .enterRun => joinLive n (alignFrames n s)
  | .retrainFail => setSticky p S.SPR_RETRAIN_FAIL s
  | .fullTraining => sprRetry n (sprTrain n false s)
  | _ => s

/-- The lane's own TRAIN frame leaves, and a pending switch of rate follows (R95, R99). -/
def sprSendTrain (n : Nat) (s : State) : State :=
  let l := sprLane s n
  let s := sprSend n 2 (sentTrain (if inBundle l then n % 4 else 0) 0 7 l) s
  setSprLane n (afterSend s.mono l.txFseq (sprLane s n)) s

/-- A lane answers each frame it receives with one of its own, since both directions run at one rate (R87): TRAIN in
training, IDLE in RUN (R94, R101). -/
def sprReply (n : Nat) (s : State) : State :=
  match (sprLane s n).st with
  | .run => sprIdle n s
  | .down | .retired => s
  | _ => sprSendTrain n s

/-- A codeword on a lane in training. -/
def rxInTraining (n : Nat) (f : RxFrame) (inv : Bool) (eq : EqInput) (s : State) : State :=
  let u := sprCodeword n f s
  let r := trainRx (sprEnv u.2 n u.1) u.1 inv eq (sprLane u.2 n)
  r.2.foldl (sprNote n) (setSprLane n r.1 u.2)

/-- Whether a TRAIN frame in RUN says that the peer has begun to train again: its STATE is LOCK or RETRAIN. Frames in READY
still come from a peer that enters RUN later (R101, R102). -/
def peerRetrains (f : RxFrame) : Bool := rxIsTrain f && decide (rxState f = 0 ∨ rxState f = 5)

/-- What a correctable frame in RUN carries, by its KIND (R93, R94). -/
def runKind (n : Nat) (f : RxFrame) (s : State) : State :=
  if rxKind f = 0 then dataFrame n f s
  else if rxKind f = 1 then idleFrame n s
  else if rxKind f = 3 then rxMessages n 20 f.data s
  else if peerRetrains f then sprRetrain n false s
  else s

/-- A codeword on a lane in RUN (R94, R102). -/
def rxInRun (n : Nat) (f : RxFrame) (s : State) : State :=
  let u := sprCodeword n f s
  if rxBad u.1 then runUncorr n u.2
  else
    let s := runFrame n f u.2
    if (sprLane s n).st = .run then
      runKind n f (setSprLane n { sprLane s n with peerEcho := rxEcho f } s)
    else s

/-- A frame received on a Spur lane: its KIND says what it is, whichever command reports it (R93, R94). -/
def sprReceive (n : Nat) (f : RxFrame) (inv : Bool) (eq : EqInput) (s : State) : State :=
  if !pageLive s (sprPage n) then s
  else
    match (sprLane s n).st with
    | .down | .retired => s
    | .run => sprReply n (rxInRun n f s)
    | _ => sprReply n (rxInTraining n f inv eq s)

/-- DATA_FRAME (R93, R104, R107). -/
def execDataFrame (lane : Nat) (fr : RxFrame) (s : State) : Result := .next (sprReceive lane fr false ⟨false, 0⟩ s)

/-- IDLE_FRAME (R94). -/
def execIdleFrame (lane : Nat) (fr : RxFrame) (s : State) : Result := .next (sprReceive lane fr false ⟨false, 0⟩ s)

/-- MGMT_FRAME (R112). -/
def execMgmtFrame (lane : Nat) (fr : RxFrame) (s : State) : Result := .next (sprReceive lane fr false ⟨false, 0⟩ s)

/-- ACK (R113). -/
def execAck (lane seq status : Nat) (s : State) : Result :=
  .next (if (sprLane s lane).st = .run ∧ pageLive s (sprPage lane) then ackMessage lane seq status s else s)

/-- STATUS (R112). -/
def execStatus (lane arg : Nat) (s : State) : Result :=
  .next (if (sprLane s lane).st = .run ∧ pageLive s (sprPage lane) then statusMessage lane arg s else s)

/-- The lane a message for `lane` is sent on: itself, or in a bundle the lowest live logical lane; `none` while none
is in RUN (R113). -/
def messageLane (s : State) (lane : Nat) : Option Nat :=
  let l := sprLane s lane
  if !pageLive s (sprPage lane) then none
  else if inBundle l then lowestLive s lane
  else if l.st = .run then some lane else none

/-- A message is sent for the page of `lane`: SEQ and PENDING are shown there (R113, SPR_SYNC_CMD). -/
def sendFor (lane via type : Nat) (s : State) : State :=
  let p := sprPage lane
  let seq := (sprLane s via).txMsg
  let arg32 := if type = 1 then fld s p F.SPR_SYNC_CMD_TRIG else 0
  let arg64 := if type = 1 then (reg s p R.SPR_SYNC_INDEX).toNat else 0
  let s := setFld p F.SPR_SYNC_CMD_LAST_SEQ seq (setFld p F.SPR_SYNC_CMD_PENDING 1 s)
  let s := setSprLane lane { sprLane s lane with pendSeq := seq } s
  let s := if type = 1 then setSprLane lane { sprLane s lane with syncTrig := some (arg32, s.mono) } s else s
  sendMessage via type arg32 arg64 s

/-- A write of SPR_SYNC_CMD; with SEND the message goes out or the whole write is refused (R113). -/
def writeSyncCmd (lane : Nat) (v : Word) (s : State) : State :=
  let p := sprPage lane
  if bitOf v 16 then
    let type := fieldOf v 8 8
    match messageLane s lane with
    | some via => if type = 1 ∨ type = 3 then sendFor lane via type (storePlain p R.SPR_SYNC_CMD v s) else refuseCfg p s
    | none => refuseCfg p s
  else storePlain p R.SPR_SYNC_CMD v s

/-- SEND (R113). -/
def execSend (m lane : Nat) (v : Word) (s : State) : Result :=
  .next (guardedWrite m (sprPage lane) R.SPR_SYNC_CMD (v ||| 0x10000#64) (writeSyncCmd lane (v ||| 0x10000#64)) s)

/-- SYNC_TIMEOUT (R113). -/
def execSyncTimeout (lane : Nat) (s : State) : Result :=
  let p := sprPage lane
  .next (if flag s p F.SPR_SYNC_CMD_PENDING then setSticky p S.SPR_SYNC_TIMEOUT (setFld p F.SPR_SYNC_CMD_PENDING 0 s) else s)

/-- Whether a rising edge of TRIG_OUT[n] now is the trigger edge of a lane's SYNC_LOAD: the first at least 20 µs after the
message (R113), which the model counts from its sending (DEDUCED, log entry 88). -/
def awaitsEdge (s : State) (n : Nat) (l : LaneTrain) : Bool :=
  match l.syncTrig with
  | some (k, t) => decide (k = n ∧ t + 20 * usUnits ≤ s.mono)
  | none => false

/-- A rising edge of TRIG_OUT[n]: expected indices of the streams of the lanes and bundles that await it are cleared
(R110). -/
def syncEdge (n : Nat) (s : State) : State :=
  (List.range 64).foldl (fun s lane =>
    let l := sprLane s lane
    if awaitsEdge s n l then
      let lanes := if inBundle l then bundleOf lane else [lane]
      let s := setSprLane lane { l with syncTrig := none } s
      (stList s).foldl (fun s k =>
        if stSrcKind s k = 0 ∧ stLane s k ∈ lanes then setExpect k none s else s) s
    else s) s

/-! ## The stream table (R114 to R116) -/

/-- Words 0 to 3 of SPR_ST_DATA as an entry holds them: reserved bits zero. -/
def stWritten (s : State) (p : Nat) : List Word :=
  [reg s p R.SPR_ST_DATA &&& 0x1FFFFFFFFF#64, reg s p (R.SPR_ST_DATA + 8), reg s p (R.SPR_ST_DATA + 16),
    reg s p (R.SPR_ST_DATA + 24) &&& 0xFFFFFFFFFFFF#64]

/-- The state with words 0 to 3 of entry `n` given. -/
def stStore (n : Nat) (ws : List Word) (s : State) : State :=
  { s with spr := { s.spr with streams := wtSetMany s.spr.streams (6 * n) ws } }

/-- Whether two entries have the same source (R115 check 6). -/
def sameSource (s t : State) (n k : Nat) : Bool :=
  decide (stSrcKind s n = stSrcKind t k ∧ stSrcId s n = stSrcId t k) &&
    (if stSrcKind s n = 0 then decide (stLane s n = stLane t k) else decide (stPort s n = stPort t k))

/-- The first failing check of an entry write in the order of the table, 0 for none (R115). -/
def stResult (s : State) (lane n : Nat) (ws : List Word) : Nat :=
  let t := stStore n ws s
  let v := stValid t n
  let old := stValid s n
  let same := decide (withBit (stWord s n 0) 0 false = withBit (stWord t n 0) 0 false ∧
    stWord s n 1 = stWord t n 1 ∧ stWord s n 2 = stWord t n 2 ∧ stWord s n 3 = stWord t n 3)
  let others := (stList s).filter (fun k => decide (k ≠ n))
  let lim := if stSrcKind t n = 0 then 4096 else 65535
  if v && (sampleBits (stFormat t n)).isNone then 1
  else if v && decide (4 < stPreset t n) then 2
  else if v && decide (stLane t n / 16 ≠ stFaceplate t n / 4) then 3
  else if stLane t n ≠ lane then 4
  else if v && decide (lim ≤ stSrcId t n) then 5
  else if v && others.any (fun k => sameSource t s n k) then 6
  else if old && !same then 7
  else if v && decide (4096 ≤ (others.filter (fun k => decide (stLane s k = lane))).length) then 8
  else if v && decide (stRateNum t n = 0 ∨ stRateDen t n = 0) then 10
  else if v && decide (engineBudget < engineLoad t lane) then 9
  else 0

/-- A WRITE of SPR_ST_CTRL (R115, R116): refused, or the entry changes as one; a new valid entry starts without an
expected index and restarts its stream (R110, R128), and the Faceplate rechecks its load (R136). A refusal is reported in the
page written; where that is not the page of the entry's LANE and the entry breaks R11 too, R11 names the page of the entry's
lane and R115 that of the write, and the model takes the page written (DESIGN CHOICE, log entry 89). -/
def stWrite (lane : Nat) (s : State) : State :=
  let p := sprPage lane
  let n := fld s p F.SPR_ST_ADDR_ENTRY
  let ws := stWritten s p
  let r := stResult s lane n ws
  let s := tableResult p F.SPR_ST_CTRL_RESULT r s
  if r ≠ 0 then s
  else
    let was := stValid s n
    let s := stStore n (ws ++ [0]) (if was && !bitOf (ws.headD 0) 0 then rchDrop n s else s)
    if stValid s n && !was then fplRecheck n (fplRestart n (setExpect n none s))
    else if !stValid s n then fplRecheck n s
    else s

/-- A READ of SPR_ST_CTRL (R115). -/
def stRead (lane : Nat) (s : State) : State :=
  let p := sprPage lane
  let n := fld s p F.SPR_ST_ADDR_ENTRY
  setRegsFrom p R.SPR_ST_DATA
    [stWord s n 0, stWord s n 1, stWord s n 2, stWord s n 3, stWord s n 4, stNextIndex s n] s

/-- A write of SPR_ST_CTRL: READ, then WRITE (R473). -/
def writeStCtrl (lane : Nat) (v : Word) (s : State) : State := actIf v 1 (stWrite lane) (actIf v 0 (stRead lane) s)

/-- SPR_ST_READ (R115). -/
def execSprStRead (m lane : Nat) (v : Word) (s : State) : Result :=
  .next (guardedWrite m (sprPage lane) R.SPR_ST_CTRL (v ||| 1#64) (writeStCtrl lane (v ||| 1#64)) s)

/-- SPR_ST_WRITE (R115, R116, R475). -/
def execSprStWrite (m lane : Nat) (v : Word) (s : State) : Result :=
  .next (guardedWrite m (sprPage lane) R.SPR_ST_CTRL (v ||| 2#64) (writeStCtrl lane (v ||| 2#64)) s)

/-! ## Enable, reset and registers -/

/-- ENABLE of an SPR page goes to 1 (R101, R103, R117): full training, unless the lane is retired or the four BUNDLE
settings of its bundle disagree. -/
def sprEnable (n : Nat) (s : State) : State :=
  let b := (bundleOf n).map (fun k => fld s (sprPage k) F.SPR_CFG_BUNDLE)
  if pageRetired s (sprPage n) then s
  else if b.any (fun x => decide (x ≠ b.headD 0)) then setSticky (sprPage (n / 4 * 4)) S.CFG_REFUSED s
  else sprTrain n true s

/-- The lane leaves service: DOWN, keeping what SPR_LINK_STATUS shows of it (R71, R118). -/
def sprDown (n : Nat) (s : State) : State :=
  if (sprLane s n).st = .retired then s
  else leaveLive n (fun l => { l with st := .down, inSync := false, part := [], fast := false, held := false }) s

/-- FSEQ_SKEW of a lane: its skew from the lowest live lane of its bundle (R118). -/
def fseqSkew (s : State) (n : Nat) : Nat :=
  let l := sprLane s n
  if inBundle l && decide (l.st = .run) then
    match lowestLive s n with
    | some b => ofSigned 8 (skewOf l.frameNo (sprLane s b).frameNo)
    | none => 0
  else 0

/-- A read of SPR_LINK_STATUS (R118). -/
def readLinkStatus (s : State) (n : Nat) : Word :=
  let l := sprLane s n
  let known := l.learned
  BitVec.ofNat 64 (l.st.code + l.rate % 4 * 2 ^ 4 + l.rateCap % 4 * 2 ^ 6 + (if l.polInv then 2 ^ 8 else 0)
    + (if known then l.txLane % 4 * 2 ^ 9 + l.peerRates % 8 * 2 ^ 11 + l.peerId * 2 ^ 32 else 0)
    + fseqSkew s n * 2 ^ 16)

end Sys2Proof.Machine
end

