-- ==== Sys2Proof/Machine/TruBase.lean ====
section
/-! DEFINITION. The clock outputs (R308, R310). -/

namespace Sys2Proof.Machine

/-- The TRU page. -/
abbrev truPage : Nat := 0x340

/-- Whether CLKOUT[n] runs (R270, R308, R310). -/
def clkRuns (s : State) (n : Nat) : Bool :=
  !pageGated s truPage && flag s truPage (F.TRU_CLKOUT_EN.at n) && !flag s truPage F.TRU_STATUS_XO_LOST && sharedOwner s 2 n

/-- The CLKOUT pins follow their enables: what an observer sees is 0 for low, else the frequency in kHz and one. -/
def refreshClk (s : State) : State :=
  (List.range 8).foldl (fun s n =>
    let v := if clkRuns s n then fld s truPage (F.TRU_CLKOUT_FREQ_KHZ.at n) + 1 else 0
    if ntGet s.pins.clk n = v then s
    else send .clkOut n [v, devTime s] { s with pins := { s.pins with clk := ntSet s.pins.clk n v } }) s

end Sys2Proof.Machine
end

