-- ==== Sys2Proof/Machine/Trigger.lean ====
section
/-! DEFINITION. The trigger outputs (R294, R295): their level, and what an edge does. -/

namespace Sys2Proof.Machine

/-- Level of TRIG_OUT[n] (R270, R294). -/
def trigLevel (s : State) (n : Nat) : Bool :=
  let w := reg s tbsPage (R.TBS_TRIG_CFG + 8 * n)
  let mode := fieldOf w 0 2
  let marks := (decide (mode = 1) || decide (mode = 3)) && (s.pins.pulses.any (fun x => decide (x.1 = n)) || bitOf w 16)
  let det := (decide (mode = 2) || decide (mode = 3)) && detectorInput s 2 n
  sharedOwner s 1 n && ((marks || det) != bitOf w 2)

/-- When an edge of line `n` that a mark pulse makes falls: at `t`, moved by SKEW × 125 ps (R295). -/
def skewedEdge (t : Nat) (s : State) (n : Nat) : Nat :=
  ((t : Nat) + toSigned 8 (fieldOf (reg s tbsPage (R.TBS_TRIG_CFG + 8 * n)) 8 8) * 8192 : Int).toNat

/-- An edge that a mark pulse does not make falls at once (R295). -/
def plainEdge (s : State) (_ : Nat) : Nat := devTime s

/-- The TRIG_OUT pins follow their sources, with edges at the times `edge` gives; a rising edge clears the indices that wait for
it (R110, R294). -/
def refreshTrig (edge : State → Nat → Nat) (s : State) : State :=
  (List.range 16).foldl (fun s n =>
    let v := trigLevel s n
    let r := pinMove .trigOut n v (edge s n) s.pins.trig s
    let rise := v && decide (ntGet s.pins.trig n = 0)
    let s := { r.2 with pins := { r.2.pins with trig := r.1 } }
    if rise then syncEdge n s else s) s

/-- Every output a detector line, a mark, a ring or the owner of a shared output can move, and the cores that watch the
lines (R270, R294, R308, R321, R364, R391). -/
def refreshPinsAt (edge : State → Nat → Nat) (s : State) : State :=
  wakeOnLines (refreshFld (refreshClk (refreshTrig edge (refreshFco s))))

/-- The outputs follow a change that is no pulse of a mark. -/
def refreshPins (s : State) : State := refreshPinsAt plainEdge s

end Sys2Proof.Machine
end

