-- ==== Sys2Proof/Machine/Timebase.lean ====
section
/-! DEFINITION. Device time, its sources, the PTP clocks, the PPS inputs and the trigger inputs (R272 to R284;
12_timebase.md). -/

namespace Sys2Proof.Machine

/-! ## Short time (R275, R276) -/

/-- ST32 of a device time. -/
def st32Of (t : Nat) : Nat := t / (4 * 65536) % 2 ^ 32

/-- An ST32 value widened to device time (R276). -/
def st32Widen (now v : Nat) : Nat :=
  let d := toSigned 32 (v + 2 ^ 32 - st32Of now)
  ((((now / (4 * 65536)) : Nat) : Int) + d).toNat * (4 * 65536)

/-! ## Reads (R274) -/

/-- TBS_TIME_SUB of a device time. -/
def timeSub (t : Nat) : Word := BitVec.ofNat 64 (timeFrac t + timeNs t * 2 ^ 16)

/-- A read of TBS_TIME_S: the sub-second fields of the same tick are latched for the master (R274). -/
def readTimeS (m : Nat) (s : State) : Word × State :=
  let t := devTime s
  (BitVec.ofNat 64 (timeSeconds t), { s with tbs := { s.tbs with latch := ntSet s.tbs.latch m ((timeSub t).toNat + 1) } })

/-- A read of TBS_TIME_SUB: what was latched for the master, once, else the live value (R274). -/
def readTimeSub (m : Nat) (s : State) : Word × State :=
  match ntGet s.tbs.latch m with
  | 0 => (timeSub (devTime s), s)
  | x + 1 => (BitVec.ofNat 64 x, { s with tbs := { s.tbs with latch := ntSet s.tbs.latch m 0 } })

/-- TBS_TIME_S (R274). -/
def execTbsTimeS (m : Nat) (s : State) : Result :=
  .next (if pageGated s tbsPage then setRd 0 s else let r := readTimeS m s; setRd r.1 r.2)

/-! ## Rate and steps (R281, R282) -/

/-- Largest magnitude of RATE_ADJ that SLEW_PPM allows, in units of 2^-52. -/
def slewLimit (s : State) : Int := (fld s tbsPage F.TBS_CFG_SLEW_PPM * 2 ^ 52 / 1000000 : Nat)

/-- RATE_ADJ takes a value, in units of 2^-52; TBS_STATUS shows it in units of 2^-40, cut towards zero (R273). -/
def setRate (r : Int) (s : State) : State :=
  setFld tbsPage F.TBS_STATUS_RATE_ADJ (ofSigned 32 (r.tdiv 4096)) { s with tbs := { s.tbs with rate := r } }

/-- 100 ns in 2^-16 ns. -/
def slewBand : Int := 100 * 65536

/-- Device time follows a source at an offset by RATE_ADJ alone: at full slew beyond 100 ns; within, the servo's rate is not
stated, a free value held to the limit (R281). -/
def steer (off : Int) (s : State) : State :=
  let far := decide (slewBand < off ∨ off < -slewBand)
  let f := takeFree s
  let rate := if slewBand < off then slewLimit s else if off < -slewBand then -slewLimit s
    else clampInt (-slewLimit s) (slewLimit s) (toSigned 64 f.1.toNat)
  let s := if far then s else f.2
  stickyIf far tbsPage S.TBS_SLEW_START (setRate rate (setFld tbsPage F.TBS_STATUS_SLEWING (if far then 1 else 0) s))

/-- A table of device times plus 1 moved by `by'`. -/
def shiftTimes (by' : Int) (t : NatTab) : NatTab := t.map (fun e => (e.1, max 1 ((e.2 : Int) + by').toNat))

/-- A PPS input whose last edge moves with device time (R282). -/
def PpsIn.shift (x : PpsIn) (by' : Int) : PpsIn :=
  { x with last := x.last.map (fun l => ((l : Int) + by').toNat), offset := x.offset - by' }

/-- Device time is set to `t`; nothing else moves (R282). The intervals that run from the last edges of the inputs stay as they
are, and an exchange of PTP messages in progress is begun anew (log entry 93). -/
def setDevice (t : Nat) (s : State) : State :=
  let d := (t : Int) - (devTime s : Int)
  let fresh := fun (c : PtpClock) => { c with pending := none, sync := none, asked := none, answer := none }
  { s with devFine := t * 2 ^ 34
           tbs := { s.tbs with
             pps := s.tbs.pps.map (fun e => (e.1, e.2.shift d))
             ptp := s.tbs.ptp.map (fun e => (e.1, fresh e.2))
             edges := shiftTimes d s.tbs.edges, stamped := shiftTimes d s.tbs.stamped } }

/-- Device time becomes valid (R274, R280). -/
def becomeValid (s : State) : State :=
  if timeValid s then s else setSticky tbsPage S.TBS_TIME_VALID (setFld tbsPage F.TBS_STATUS_TIME_VALID 1 s)

/-- A step of device time (R281). -/
def stepDevice (t : Nat) (s : State) : State := setSticky tbsPage S.TBS_TIME_STEP (setDevice t s)

/-- Device time moved by an offset, never below 0. -/
def movedBy (s : State) (off : Int) : Nat := ((devTime s : Int) + off).toNat

/-! ## Sources (R278 to R281) -/


/-- Whether ZHK_PEER_OFFSET of the route to member 0 is being updated: the last update is no older than 1 ms. The spec gives no
time (R278; DESIGN CHOICE, log entry 93). -/
def zhokFresh (s : State) : Bool := decide (s.tbs.zhokLink ≠ 0 ∧ s.mono ≤ s.tbs.zhokAt + msUnits)

/-- Whether a source is qualified (R278). -/
def sourceQualified (s : State) (c : Nat) : Bool :=
  if c = 0 then true
  else if c ≤ 2 then pageLive s (ptpPage (c - 1)) && flag s (ptpPage (c - 1)) F.PTP_STATUS_QUALIFIED
  else if c ≤ 4 then (alGet {} s.tbs.pps (c - 3)).qual
  else decide (1 < gangSize s ∧ gangMember s ≠ 0) && zhokFresh s && (zhkRoute s 4 0).isSome

/-- Since when each source has been qualified is kept (R279). -/
def noteQualified (s : State) : State :=
  let since := [1, 2, 3, 4, 5].foldl (fun t c =>
    if !sourceQualified s c then ntSet t c 0 else if ntGet t c = 0 then ntSet t c (s.mono + 1) else t) s.tbs.since
  { s with tbs := { s.tbs with since := since } }

/-- When a source will have stayed qualified for 60 s, on the block's own clock (R279): FREE always has. -/
def stayedAt (s : State) (c : Nat) : Nat := if c = 0 then 0 else ntGet s.tbs.since c - 1 + 60 * (1000 * msUnits)

/-- Whether a source has stayed qualified for 60 s. -/
def hasStayed (s : State) (c : Nat) : Bool := sourceQualified s c && decide (stayedAt s c ≤ s.mono)

/-- Offset of a source from device time as last measured. -/
def sourceOffset (s : State) (c : Nat) : Int :=
  if c = 0 then 0
  else if c ≤ 2 then toSigned 64 (reg s (ptpPage (c - 1)) R.PTP_OFFSET).toNat
  else if c ≤ 4 then (alGet {} s.tbs.pps (c - 3)).offset
  else toSigned 64 (reg s (zhkPage (s.tbs.zhokLink - 1)) R.ZHK_PEER_OFFSET).toNat

/-- Whether the backup stays in use although SOURCE is qualified: REVERT waits until SOURCE has been so for 60 s (R279). -/
def backupStays (s : State) (src bkp : Nat) : Bool :=
  let act := fld s tbsPage F.TBS_STATUS_ACTIVE
  flag s tbsPage F.TBS_CFG_REVERT && timeValid s && decide (act = bkp ∧ act ≠ src) && sourceQualified s bkp && !hasStayed s src

/-- The source R279 asks for; none where neither SOURCE nor BACKUP is qualified. -/
def wantedSource (s : State) : Option Nat :=
  let src := fld s tbsPage F.TBS_CFG_SOURCE
  let bkp := fld s tbsPage F.TBS_CFG_BACKUP
  if !flag s tbsPage F.TBS_CFG_AUTO then some src
  else if backupStays s src bkp then some bkp
  else if sourceQualified s src then some src
  else if sourceQualified s bkp then some bkp
  else none

/-- The first source is acquired: device time is set to it (R280). A PPS gives phase, and TBS_SET_S the second its last
edge was. -/
def acquire (c : Nat) (s : State) : State :=
  let t := if c = 3 ∨ c = 4 then
      (reg s tbsPage R.TBS_SET_S).toNat * secondUnits + (devTime s - ((alGet {} s.tbs.pps (c - 3)).last.getD (devTime s)))
    else movedBy s (sourceOffset s c)
  becomeValid (setDevice t s)

/-- A source is taken up after acquisition: a step where one is permitted, else slewing (R281). -/
def takeUp (c : Nat) (s : State) : State :=
  let off := sourceOffset s c
  if c = 0 then setFld tbsPage F.TBS_STATUS_SLEWING 0 s
  else if flag s tbsPage F.TBS_CFG_STEP_EN && decide (fld s tbsPage F.TBS_CFG_STEP_NS * 65536 < off.natAbs) then
    steer 0 (stepDevice (movedBy s off) s)
  else steer off s

/-- HOLD begins (R279). -/
def enterHold (s : State) : State :=
  if flag s tbsPage F.TBS_STATUS_HOLD then s
  else setSticky tbsPage S.TBS_SRC_LOST (setFld tbsPage F.TBS_STATUS_HOLD 1 (setFld tbsPage F.TBS_STATUS_SLEWING 0 s))

/-- ACTIVE names source `c`; a change is flagged (R279). -/
def setActive (c : Nat) (s : State) : State :=
  if fld s tbsPage F.TBS_STATUS_ACTIVE = c then s
  else setSticky tbsPage S.TBS_SRC_SWITCH (setFld tbsPage F.TBS_STATUS_ACTIVE c s)

/-- Source `c`, which is qualified, becomes the active one. -/
def switchSource (c : Nat) (s : State) : State :=
  let moved := decide (fld s tbsPage F.TBS_STATUS_ACTIVE ≠ c) || flag s tbsPage F.TBS_STATUS_HOLD
  let s := setActive c (setFld tbsPage F.TBS_STATUS_HOLD 0 s)
  if !timeValid s then (if c = 0 then s else acquire c s)
  else if moved then takeUp c s
  else s

/-- Selection is evaluated (R279). A source that is asked for and not qualified is the active one all the same, and device
time holds. -/
def selectSource (s : State) : State :=
  let s := noteQualified s
  let hold := fun (s : State) => if timeValid s then enterHold s else s
  match wantedSource s with
  | some c => if sourceQualified s c then switchSource c s else hold (setActive c s)
  | none => hold s

/-- The active source gave a measurement (R281). -/
def followSource (c : Nat) (s : State) : State :=
  if fld s tbsPage F.TBS_STATUS_ACTIVE = c ∧ timeValid s ∧ flag s tbsPage F.TBS_STATUS_HOLD = false then steer (sourceOffset s c) s
  else s

/-- A source has been measured: selection, then the servo. -/
def sourceMeasured (c : Nat) (s : State) : State :=
  let act := fld s tbsPage F.TBS_STATUS_ACTIVE
  let t := selectSource s
  if act = c then followSource c t else t

/-! ## Registers -/

/-- A write of TBS_CFG: RATE_ADJ keeps to the new SLEW_PPM at once (R279, R281). -/
def writeTbsCfg (v : Word) (s : State) : State :=
  let s := storePlain tbsPage R.TBS_CFG v s
  let r := clampInt (-slewLimit s) (slewLimit s) s.tbs.rate
  selectSource (if r = s.tbs.rate then s else setRate r s)

/-- A write of TBS_SET_SUB; APPLY sets device time while SOURCE is FREE (R281). -/
def writeTbsSet (v : Word) (s : State) : State :=
  if !bitOf v 48 then storePlain tbsPage R.TBS_SET_SUB v s
  else
    let ns := fieldOf v 16 32
    if 999999999 < ns ∨ fld s tbsPage F.TBS_CFG_SOURCE ≠ 0 then refuseCfg tbsPage s
    else
      let t := (reg s tbsPage R.TBS_SET_S).toNat * secondUnits + ns * 65536 + fieldOf v 0 16
      becomeValid (stepDevice t (storePlain tbsPage R.TBS_SET_SUB v s))

/-- APPLY (R281). -/
def execApply (m : Nat) (v : Word) (s : State) : Result :=
  let w := withBit v 48 true
  .next (guardedWrite m tbsPage R.TBS_SET_SUB w (writeTbsSet w) s)

/-! ## PTP clocks (R277, R278)

One IEEE 1588-2019 ordinary clock, slave only, to each page. What the standard asks of it is PRESUMED, log entry 95. -/


/-- A domain loses its qualification (R278). -/
def ptpDisqualify (k : Nat) (s : State) : State :=
  if flag s (ptpPage k) F.PTP_STATUS_QUALIFIED then
    setSticky (ptpPage k) S.PTP_DISQUALIFIED (setFld (ptpPage k) F.PTP_STATUS_QUALIFIED 0 s)
  else s

/-- The header of a message. -/
def ptpHead (msg : PtpMsg) : PtpHead :=
  match msg with
  | .announce h _ _ _ | .sync h _ | .followUp h _ | .delayResp h _ _ | .pdelayReq h | .pdelayResp h _ _ _
  | .pdelayFollowUp h _ _ => h

/-- Whether a message is one of the clock's own: its port, transport and domain are those of PTP_CFG (R277). -/
def ptpOwn (s : State) (k : Nat) (h : PtpHead) : Bool :=
  let p := ptpPage k
  decide (h.port = fld s p F.PTP_CFG_PORT ∧ h.transport = fld s p F.PTP_CFG_TRANSPORT ∧ h.domain = fld s p F.PTP_CFG_DOMAIN)

/-! ### Messages the clock sends -/


/-- The port identity of the clock: the EUI-64 of its port's MAC address, port number 1. -/
def ptpIdentity (s : State) (k : Nat) : Nat :=
  let mac := (reg s (0x310 + fld s (ptpPage k) F.PTP_CFG_PORT) R.ETH_MAC).toNat % 2 ^ 48
  ((mac / 2 ^ 24 * 2 ^ 16 + 0xFFFE) * 2 ^ 24 + mac % 2 ^ 24) * 2 ^ 16 + 1

/-- A message as bytes: its type, control, sequence, correction and body. -/
def ptpBytes (s : State) (k type control seq : Nat) (corr : Int) (body : List Byte) : List Byte :=
  [BitVec.ofNat 8 type, 0x12] ++ beBytes 2 (34 + body.length) ++ beBytes 1 (fld s (ptpPage k) F.PTP_CFG_DOMAIN) ++ beBytes 1 0
    ++ beBytes 2 0 ++ beBytes 8 (ofSigned 64 corr) ++ beBytes 4 0 ++ beBytes 10 (ptpIdentity s k) ++ beBytes 2 seq
    ++ beBytes 1 control ++ beBytes 1 0x7F ++ body

/-- An event message leaves by sub-port 0 of the clock's port, in class CTRL_PCP; a request is stamped in device time as it
leaves (R283, R375, R380). -/
def ptpSend (k : Nat) (bytes : List Byte) (asked : Option Nat) (s : State) : State :=
  let p := fld s (ptpPage k) F.PTP_CFG_PORT
  ethSend p { cls := fld s (ethPage p) F.ETH_PFC_CTRL_PCP, sub := 0, exempt := flag s (ethPage p) F.ETH_MACSEC_PTP_BYPASS,
              bytes := bytes, clock := some k, asked := asked } s

/-- The clock asks for its path delay: of its master, or with P2P of its peer (R277). -/
def ptpAsk (k : Nat) (s : State) : State :=
  let c := ptpClock s k
  let n := (c.seq + 1) % 65536
  let b := if flag s (ptpPage k) F.PTP_CFG_P2P then ptpBytes s k 2 5 n 0 (List.replicate 20 0)
    else ptpBytes s k 1 1 n 0 (List.replicate 10 0)
  ptpSend k b none (setPtpClock k { c with seq := n, asked := none, answer := none, responder := none } s)

/-- A peer's request is answered in one step, with the time from its receipt to the answer as the correction (R277). -/
def ptpAnswer (k : Nat) (h : PtpHead) (s : State) : State :=
  ptpSend k (ptpBytes s k 3 5 h.seq h.corr (beBytes 10 0 ++ beBytes 10 h.src)) (some (devTime s)) s

/-! ### The best master (R277, R278) -/

/-- Lexicographic order of ranks. -/
def rankLess : List Nat → List Nat → Bool
  | [], [] => false
  | [], _ :: _ => true
  | _ :: _, [] => false
  | a :: l, b :: m => decide (a < b) || (decide (a = b) && rankLess l m)

/-- 2^log seconds, log an octet in two's complement. -/
def logSeconds (log : Nat) : Nat := if log < 128 then secondUnits * 2 ^ log else secondUnits / 2 ^ (256 - log)

/-- Whether a foreign master counts: it has sent two Announces within four of its intervals. -/
def PtpMaster.counts (m : PtpMaster) (now : Nat) : Bool :=
  decide (2 ≤ m.times.length) && m.times.all (fun t => decide (now ≤ t + 4 * m.interval))

/-- The best master among those that count. -/
def bestMaster (now : Nat) (l : List PtpMaster) : Option PtpMaster :=
  l.foldl (fun a m =>
    if !m.counts now then a
    else match a with
      | none => some m
      | some b => if rankLess m.rank b.rank then some m else a) none

/-- The best master is followed: a change of grandmaster disqualifies, keeping what was measured (R278). -/
def ptpFollow (k : Nat) (m : PtpMaster) (s : State) : State :=
  let p := ptpPage k
  let c := ptpClock s k
  let st := fld s p F.PTP_STATUS_STATE
  let d := evalDetector p S.PTP_GM_CHANGE (decide (2 ≤ st ∧ (reg s p R.PTP_GM_ID).toNat ≠ m.gm)) s
  let s := setReg p R.PTP_GM_ID (BitVec.ofNat 64 m.gm) d.2
  let s := if d.1 then ptpDisqualify k (setSticky p S.PTP_GM_CHANGE s) else s
  if c.parent = some m.src ∧ 2 ≤ st then s
  else setFld p F.PTP_STATUS_STATE 2 (setPtpClock k { c with parent := some m.src, pending := none, sync := none } s)

/-- An Announce: its sender is noted, and the best master is chosen anew (R277). -/
def ptpAnnounce (k : Nat) (h : PtpHead) (quality : List Nat) (gm steps : Nat) (s : State) : State :=
  if 255 ≤ steps then s
  else
    let c := ptpClock s k
    let old := ((c.masters.find? (fun m => decide (m.src = h.src))).map (·.times)).getD []
    let m : PtpMaster := ⟨h.src, quality ++ [gm, steps, h.src], gm, (s.mono :: old).take 2, logSeconds h.log⟩
    let l := c.masters.filter (fun x => decide (x.src ≠ h.src)) ++ [m]
    let s := setPtpClock k { c with masters := l } s
    match bestMaster s.mono l with
    | some b => ptpFollow k b s
    | none => s

/-! ### Measurements (R278) -/

/-- A measurement of the domain (R278): `sent` is the domain's time at the port less the mean path delay. The one at which the
clock enters SLAVE begins the first Sync interval there. -/
def ptpMeasure (k : Nat) (sent : Int) (stamp delay : Nat) (predicted : Int) (logSync : Nat) (s : State) : State :=
  let p := ptpPage k
  let slave := decide (fld s p F.PTP_STATUS_STATE = 3)
  let off : Int := sent + (delay : Int) - (stamp : Int) + toSigned 32 (fld s p F.PTP_ASYM_ASYM)
  let s := setReg p R.PTP_OFFSET (BitVec.ofInt 64 off) (setReg p R.PTP_PATH_DELAY (BitVec.ofNat 64 delay) s)
  let s := setFld p F.PTP_STATUS_LOG_SYNC logSync (setFld p F.PTP_STATUS_STATE 3 s)
  let c := ptpClock s k
  let err := (off - predicted).natAbs
  let lock := fld s p F.PTP_CFG_LOCK_NS * 65536
  let c := { c with
    run := if err ≤ lock then min 16 (c.run + 1) else 0
    syncs := if slave then min 16 (c.syncs + 1) else 0
    out := if 4 * lock < err then c.out + 1 else 0 }
  let s := setPtpClock k c s
  let s := if 2 ≤ c.out then ptpDisqualify k s else s
  if 16 ≤ c.run ∧ 16 ≤ c.syncs ∧ flag s p F.PTP_STATUS_QUALIFIED = false then
    setSticky p S.PTP_QUALIFIED (setFld p F.PTP_STATUS_QUALIFIED 1 s)
  else s

/-- A Sync is complete: a measurement where the path delay is known, and the next request for it. -/
def ptpSynced (k : Nat) (origin : Int) (stamp : Nat) (predicted : Int) (log : Nat) (s : State) : State :=
  let c := ptpClock s k
  let s := setPtpClock k { c with pending := none, sync := some (origin, stamp) } s
  ptpAsk k (match c.delay with
    | some d => ptpMeasure k origin stamp d predicted log s
    | none => s)

/-- A mean path delay is measured, never below zero. -/
def ptpDelay (k : Nat) (twice : Int) (s : State) : State :=
  let d := (twice / 2).toNat
  setReg (ptpPage k) R.PTP_PATH_DELAY (BitVec.ofNat 64 d)
    (setPtpClock k { ptpClock s k with delay := some d, asked := none, answer := none } s)

/-- Whether a response is to the request last sent. -/
def ptpAnswers (s : State) (k : Nat) (h : PtpHead) (requester : Nat) : Bool :=
  let c := ptpClock s k
  decide (h.seq = c.seq ∧ requester = ptpIdentity s k) && c.asked.isSome

/-- Whether a message comes from the master the clock follows. -/
def ptpFromParent (s : State) (k : Nat) (h : PtpHead) : Bool :=
  decide (2 ≤ fld s (ptpPage k) F.PTP_STATUS_STATE ∧ (ptpClock s k).parent = some h.src)

/-- Whether a message gives a measurement of the domain: a Sync of the master followed, complete with it, where the path delay
is known. -/
def ptpMeasures (s : State) (k : Nat) (msg : PtpMsg) : Bool :=
  let c := ptpClock s k
  c.delay.isSome && ptpFromParent s k (ptpHead msg) && (match msg with
    | .sync _ (some _) => true
    | .followUp h _ => decide (c.pending.map (·.1) = some h.seq)
    | _ => false)

/-- A message of the clock's own domain in a state of LISTENING or above (R277). A second peer that answers one request makes
the clock FAULTY. -/
def ptpMessage (k : Nat) (msg : PtpMsg) (predicted : Int) (s : State) : State :=
  let p := ptpPage k
  let c := ptpClock s k
  let p2p := flag s p F.PTP_CFG_P2P
  let fromParent := ptpFromParent s k
  match msg with
  | .announce h q gm steps => ptpAnnounce k h q gm steps s
  | .sync h none => if fromParent h then setPtpClock k { c with pending := some (h.seq, devTime s, h.corr) } s else s
  | .sync h (some t) => if fromParent h then ptpSynced k ((t : Int) + h.corr) (devTime s) predicted h.log s else s
  | .followUp h t =>
    match c.pending with
    | some (n, stamp, corr) =>
      if fromParent h && decide (n = h.seq) then ptpSynced k ((t : Int) + corr + h.corr) stamp predicted h.log s else s
    | none => s
  | .delayResp h t r =>
    match c.sync, c.asked with
    | some (t1, t2), some t3 =>
      if !p2p && fromParent h && ptpAnswers s k h r then
        ptpDelay k ((t2 : Int) - t1 + ((t : Int) - h.corr - (t3 : Int))) s
      else s
    | _, _ => s
  | .pdelayReq h => if p2p then ptpAnswer k h s else s
  | .pdelayResp h t r two =>
    match c.asked with
    | none => s
    | some t1 =>
      if !p2p || !ptpAnswers s k h r then s
      else if c.responder.isSome ∧ c.responder ≠ some h.src then
        ptpDisqualify k (setFld p F.PTP_STATUS_STATE 4 (setPtpClock k {} s))
      else
        let s := setPtpClock k { c with responder := some h.src } s
        if two then setPtpClock k { ptpClock s k with answer := some (h.src, h.seq, (t : Int) - h.corr, devTime s) } s
        else ptpDelay k ((devTime s : Int) - (t1 : Int) - h.corr) s
  | .pdelayFollowUp h t r =>
    match c.answer, c.asked with
    | some (src, n, t2, t4), some t1 =>
      if p2p && decide (h.src = src ∧ h.seq = n ∧ r = ptpIdentity s k) then
        ptpDelay k ((t4 : Int) - (t1 : Int) - ((t : Int) + h.corr - t2)) s
      else s
    | _, _ => s

/-- A PTP message reaches its page at its time, or at the present where that is later; a disabled page, a FAULTY clock or one of
another port, transport or domain discards it (R71, R277, R283). -/
def ptpReceive (k : Nat) (a : PtpArrival) (s : State) : State :=
  let st := fld s (ptpPage k) F.PTP_STATUS_STATE
  if !pageLive s (ptpPage k) || decide (st = 0 ∨ 4 ≤ st) || !ptpOwn s k (ptpHead a.msg) then s
  else
    let t := ptpMessage k a.msg a.predicted (advanceTo a.rx s)
    if ptpMeasures s k a.msg then sourceMeasured (k + 1) t else selectSource t

/-- PTP_MESSAGE (R277, R278). -/
def execPtpMessage (clock : Nat) (msg : PtpArrival) (s : State) : Result := .next (ptpReceive clock msg s)

/-- ANNOUNCE_TIMEOUT (R278). -/
def execAnnounceTimeout (clock : Nat) (s : State) : Result :=
  let p := ptpPage clock
  if !pageLive s p || decide (fld s p F.PTP_STATUS_STATE < 2) then .next s
  else
    let s := setPtpClock clock {} (setFld p F.PTP_STATUS_STATE 1 s)
    .next (selectSource (ptpDisqualify clock (setSticky p S.PTP_ANNOUNCE_TO s)))

/-- ENABLE of a PTP page changes: LISTENING, or DISABLED and not qualified (R71). -/
def ptpEnable (k : Nat) (on : Bool) (s : State) : State :=
  let s := setPtpClock k {} (if on then s else ptpDisqualify k s)
  selectSource (setFld (ptpPage k) F.PTP_STATUS_STATE (if on then 1 else 0) s)

/-! ## PPS inputs (R278) -/

def ppsIn (s : State) (n : Nat) : PpsIn := alGet {} s.tbs.pps n

def setPpsIn (n : Nat) (x : PpsIn) (s : State) : State :=
  { s with tbs := { s.tbs with pps := alSet {} s.tbs.pps n x } }

/-- Shortest pulse and shortest spacing that are stamped. -/
def trigMinPulse : Nat := 4 * 65536
def trigMinGap : Nat := 8 * 65536

/-- A stamp's resolution: 125 ps (R284). -/
def stampOf (t : Nat) : Nat := t / 8192 * 8192

/-- Whether an edge at `t` lies within 1 µs of one second after the last. -/
def ppsInTime (x : PpsIn) (t : Nat) : Bool :=
  match x.last with
  | none => false
  | some l => decide (l + secondUnits ≤ t + usUnits ∧ t ≤ l + secondUnits + usUnits)

/-- Whether a rising edge of a PPS input is stamped, by the rules of R284: its pulse lasts 4 ns, and the last stamp is 8 ns
back. -/
def ppsStamped (x : PpsIn) (t width : Nat) : Bool :=
  decide (trigMinPulse ≤ width) && (match x.last with
    | none => true
    | some l => decide (l + trigMinGap ≤ t ∨ t < l))

/-- PPS_IN_EDGE (R278, R279, R284): stamped at its time; the edge counts as the whole second nearest. -/
def execPpsInEdge (n : Nat) (t : PpsPulse) (s : State) : Result :=
  let s := advanceTo t.time s
  let x := ppsIn s n
  if !ppsStamped x t.time t.width then .next s
  else
    let e := stampOf t.time
    let run := if ppsInTime x e then min 4 (x.run + 1) else 1
    let whole := (e + secondUnits / 2) / secondUnits * secondUnits
    .next (sourceMeasured (n + 3) (setPpsIn n ⟨some e, run, decide (4 ≤ run), (whole : Int) - (e : Int)⟩ s))

/-- PPS_LOSS (R278): the next edge is 1.5 s late. -/
def execPpsLoss (n : Nat) (s : State) : Result :=
  let s := match (ppsIn s n).last with
    | some l => advanceTo (l + secondUnits + secondUnits * 3 / 2) s
    | none => s
  .next (selectSource (setPpsIn n { ppsIn s n with run := 0, qual := false } s))

/-- REVERT (R279): SOURCE has stayed qualified for 60 s. -/
def execRevert (s : State) : Result :=
  let s := noteQualified s
  let src := fld s tbsPage F.TBS_CFG_SOURCE
  .next (if flag s tbsPage F.TBS_CFG_AUTO && flag s tbsPage F.TBS_CFG_REVERT && sourceQualified s src &&
      decide (fld s tbsPage F.TBS_STATUS_ACTIVE ≠ src) then switchSource src (advanceMono (stayedAt s src) s) else s)

/-! ## Trigger inputs (R284) -/

/-- Whether an edge takes a stamp: `width` is that of the pulse it begins (R284). -/
def trigStamped (s : State) (line : Nat) (rising : Bool) (t width : Nat) : Bool :=
  let both := bitOf (reg s tbsPage R.TBS_TRIGIN_CFG) (8 + line)
  let prev := ntGet s.tbs.edges line
  let ends := t + 1 - prev
  let short := decide (width < trigMinPulse) || (both && decide (prev ≠ 0 ∧ ends < trigMinPulse))
  let near := decide (ntGet s.tbs.stamped line ≠ 0 ∧ t + 1 < ntGet s.tbs.stamped line + trigMinGap)
  bitOf (reg s tbsPage R.TBS_TRIGIN_CFG) line && (rising || both) && !short && !near

/-- A stamp enters the queue of its line, 16 deep, to 125 ps (R284). -/
def trigPush (line : Nat) (x : TrigStamp) (s : State) : State :=
  let l := alGet [] s.tbs.stamps line
  let d := evalDetector tbsPage S.TBS_TRIGIN_OVF (decide (16 ≤ l.length)) s
  if d.1 then setSticky tbsPage S.TBS_TRIGIN_OVF d.2
  else { d.2 with tbs := { d.2.tbs with stamps := alSet [] d.2.tbs.stamps line (l ++ [x]) } }

/-- TRIG_IN_EDGE (R284): an edge at `t`, beginning a pulse of `width` (both in 2^-16 ns). -/
def execTrigInEdge (line : Nat) (rising : Bool) (t width : Nat) (s : State) : Result :=
  let s := advanceTo t s
  let hit := trigStamped s line rising t width
  let stamped := if hit then ntSet s.tbs.stamped line (t + 1) else s.tbs.stamped
  let s := { s with tbs := { s.tbs with edges := ntSet s.tbs.edges line (t + 1), stamped := stamped } }
  .next (if hit then trigPush line ⟨stampOf t, rising, s.mono⟩ s else s)

/-- Whether a stamp of line `m` is read before one of line `n`: in arrival order, within one tick by stamp, then by line
(R284). -/
def stampFirst (m n : Nat) (x y : TrigStamp) : Bool :=
  decide (x.arrived < y.arrived ∨ (x.arrived = y.arrived ∧ (x.time < y.time ∨ (x.time = y.time ∧ m < n))))

/-- The line whose stamp is read next (R284). -/
def trigOldest (s : State) : Option (Nat × TrigStamp) :=
  s.tbs.stamps.foldl (fun a e =>
    match e.2.head?, a with
    | none, a => a
    | some x, none => some (e.1, x)
    | some x, some b => if stampFirst e.1 b.1 x b.2 then some (e.1, x) else some b) none

/-- A read of TBS_TRIGIN_POP. -/
def popTrigIn (s : State) : Word × State :=
  match trigOldest s with
  | none => (0, s)
  | some (n, x) =>
    (BitVec.ofNat 64 (timeFrac x.time / 8192 + timeNs x.time * 2 ^ 3 + timeSeconds x.time % 2 ^ 16 * 2 ^ 35 + n * 2 ^ 51
        + (if x.rising then 2 ^ 54 else 0) + 2 ^ 55),
      { s with tbs := { s.tbs with stamps := alSet [] s.tbs.stamps n ((alGet [] s.tbs.stamps n).drop 1) } })

/-- TBS_TRIGIN_POP (R284). -/
def execTbsTriginPop (s : State) : Result :=
  .next (if pageGated s tbsPage then setRd 0 s else let r := popTrigIn s; setRd r.1 r.2)

/-- A soft reset of the TBS page (R274): device time, RATE_ADJ and TIME_VALID stay. -/
def resetTbs (s : State) : State :=
  let st := reg s tbsPage R.TBS_STATUS
  let s := resetBlockRegs tbsPage s
  let tb := { s.tbs with stamps := [], stamped := [], latch := [] }
  let s := { s with tbs := tb, pins := { s.pins with pulses := [] } }
  refreshPins (selectSource (setReg tbsPage R.TBS_STATUS st s))

end Sys2Proof.Machine
end

