-- ==== Sys2Proof/Machine/Marks.lean ====
section
/-! DEFINITION. The mark table (R285 to R293, R267) and the actions it carries to the trigger outputs, the lanes and its own
user bits (R294, R295; 12_timebase.md). -/

namespace Sys2Proof.Machine

/-! ## Entries -/

/-- The entries in use. -/
def markEntries (s : State) : List (Nat × MarkEntry) := s.mrk.entries

def setMarkEntry (h : Nat) (e : MarkEntry) (s : State) : State :=
  { s with mrk := { s.mrk with entries := sparseInsert (sparseErase s.mrk.entries h) h e } }

/-- The entry that is next to dispatch: earliest, then first inserted (R289, R292). -/
def nextMark (s : State) : Option (Nat × MarkEntry) :=
  (markEntries s).foldl (fun a e =>
    if e.2.last then a
    else
      match a with
      | none => some e
      | some b => if e.2.time < b.2.time ∨ (e.2.time = b.2.time ∧ e.2.order < b.2.order) then some e else a) none

/-- A read of MRK_STATUS. -/
def readMrkStatus (s : State) : Word :=
  let n := (markEntries s).length
  BitVec.ofNat 64 (n + ((nextMark s).map (·.1)).getD 0 * 2 ^ 16 + (if n = 0 then 2 ^ 28 else 0))

/-- The words of an entry: the widened time, ST32 at 0 (R285). -/
def markWords (e : MarkEntry) : List Word :=
  [BitVec.ofNat 64 (timeSeconds e.time),
    BitVec.ofNat 64 (timeNs e.time + timeFrac e.time * 2 ^ 32 + (if e.gang then 2 ^ 49 else 0)
      + (if e.skipLate then 2 ^ 50 else 0) + e.rep * 2 ^ 52), e.w2, e.w3]

/-! ## Insertion (R293) -/

/-- Bits of ARG8, ARG16 and ARG64 an action uses, none for a refused code (R286). -/
def markArgs (a : Nat) : Option (Nat × Nat × Nat) :=
  match a with
  | 0x00 => some (0, 0, 0)
  | 0x01 | 0x02 | 0x06 => some (0xF, 0, 0xF)
  | 0x03 => some (0, 0x1FFF, 0xFFFF)
  | 0x04 | 0x05 => some (0, 0, 0xFFFF)
  | 0x07 => some (0, 0, 2 ^ 64 - 1)
  | 0x08 => some (0, 0xFFFF, 2 ^ 32 - 1)
  | 0x09 => some (1, 0xFFFF, 0)
  | 0x0A => some (0, 0xFFFF, 2 ^ 64 - 1)
  | 0x0B | 0x0C => some (0, 0, 2 ^ 32 - 1)
  | 0x0D => some (0xF, 0, 0)
  | 0x0E => some (3, 0, 2 ^ 32 - 1)
  | _ => none

/-- Whether the action or an argument of an entry is out of range (R285, R286, R293). -/
def markBad (w : List Word) : Bool :=
  let w1 := w.getD 1 0
  let w2 := w.getD 2 0
  let w3 := (w.getD 3 0).toNat
  let a := fieldOf w2 0 8
  let a16 := fieldOf w2 16 16
  match markArgs a with
  | none => true
  | some (m8, m16, m64) =>
    bitOf w1 51 || (!bitOf w1 48 && decide (999999999 < fieldOf w1 0 32)) ||
      decide (fieldOf w2 8 8 &&& m8 ≠ fieldOf w2 8 8 ∨ a16 &&& m16 ≠ a16 ∨ w3 &&& m64 ≠ w3) ||
      (decide (a = 3) && decide (a16 = 0 ∨ 4096 < a16)) ||
      (decide (a = 8) && decide (w3 < 8)) || (decide (a = 10) && decide (a16 < 8))

/-- RESULT of an insertion (R293). -/
def markResult (s : State) (full : Bool) (w : List Word) : Nat :=
  if full then 1
  else if markBad w then 2
  else if bitOf (w.getD 1 0) 49 && decide (gangSize s = 1 ∨ gangMember s ≠ 0) then 3
  else if fieldOf (w.getD 1 0) 52 12 ≠ 0 ∧ fieldOf (w.getD 2 0) 32 32 < 1000 then 4
  else 0

/-- The time of an entry: given, or widened from ST32 (R276, R285). -/
def markTime (s : State) (w : List Word) : Nat :=
  let w1 := w.getD 1 0
  if bitOf w1 48 then st32Widen (devTime s) (fieldOf w1 0 32)
  else (w.getD 0 0).toNat * secondUnits + fieldOf w1 0 32 * 65536 + fieldOf w1 32 16

/-- The lowest free handle. -/
def freeHandle (s : State) : Nat := ((List.range 4096).find? (fun h => (sparseFind s.mrk.entries h).isNone)).getD 0

/-- An entry is put into the table under a free handle. -/
def markEnter (claim : Nat) (t : Nat) (w : List Word) (s : State) : Nat × State :=
  let h := freeHandle s
  let w1 := w.getD 1 0
  let e : MarkEntry := { time := t, gang := bitOf w1 49, skipLate := bitOf w1 50, rep := fieldOf w1 52 12, w2 := w.getD 2 0,
                         w3 := w.getD 3 0, claim := claim, order := s.mrk.nextOrder, refused := false, flying := 0, last := false }
  let s := setMarkEntry h e s
  (h, { s with mrk := { s.mrk with nextOrder := s.mrk.nextOrder + 1 } })

/-- Whether the table is full (R293). -/
def markFull (s : State) : Bool := decide (4096 ≤ (markEntries s).length)

/-- A gang mark goes to every other member, with its claim and handle (R267, R291). -/
def sendGangMark (h : Nat) (s : State) : State :=
  match sparseFind s.mrk.entries h with
  | none => s
  | some e => (otherMembers s).foldl (fun s m =>
      zhkSend (zhkPacket s 4 m (h + e.claim * 2 ^ 16) 0 ((markWords e).flatMap (fun w => leBytes 8 w.toNat))) s) s

/-- An insertion of the words in MRK_DATA by a master with a claim: RESULT, the handle, the state (R293). -/
def markInsert (claim : Nat) (w : List Word) (s : State) : Nat × Nat × State :=
  let d := evalDetector mrkPage S.MRK_TABLE_FULL (markFull s) s
  let r := markResult d.2 d.1 w
  let s := stickyIf d.1 mrkPage S.MRK_TABLE_FULL d.2
  if r ≠ 0 then (r, 0, s)
  else
    let e := markEnter claim (markTime s w) w s
    (0, e.1, if bitOf (w.getD 1 0) 49 then sendGangMark e.1 e.2 else e.2)

/-- INSERT of MRK_CTRL. -/
def mrkInsert (m : Nat) (s : State) : State :=
  let r := markInsert (masterClaim s m) (regsFrom s mrkPage R.MRK_DATA 4) s
  let s := tableResult mrkPage F.MRK_CTRL_RESULT r.1 r.2.2
  if r.1 = 0 then setFld mrkPage F.MRK_CTRL_HANDLE r.2.1 s else s

/-- READ of MRK_CTRL (R285, R475). -/
def mrkRead (s : State) : State :=
  match sparseFind s.mrk.entries (fld s mrkPage F.MRK_CTRL_HANDLE) with
  | none => tableResult mrkPage F.MRK_CTRL_RESULT 5 s
  | some e => setRegsFrom mrkPage R.MRK_DATA (markWords e) (tableResult mrkPage F.MRK_CTRL_RESULT 0 s)

/-- DELETE of MRK_CTRL (R293). -/
def mrkDelete (s : State) : State :=
  let h := fld s mrkPage F.MRK_CTRL_HANDLE
  match sparseFind s.mrk.entries h with
  | none => tableResult mrkPage F.MRK_CTRL_RESULT 5 s
  | some e =>
    if e.flying ≠ 0 then tableResult mrkPage F.MRK_CTRL_RESULT 6 s
    else
      let s := tableResult mrkPage F.MRK_CTRL_RESULT 0 s
      { s with mrk := { s.mrk with entries := sparseErase s.mrk.entries h } }

/-- A write of MRK_CTRL: INSERT, READ, DELETE in that order (R473). -/
def writeMrkCtrl (m : Nat) (v : Word) (s : State) : State :=
  let s := storePlain mrkPage R.MRK_CTRL v s
  actIf v 2 mrkDelete (actIf v 1 mrkRead (actIf v 0 (mrkInsert m) s))

/-- MARK_INSERT (R293). -/
def execMarkInsert (m : Nat) (v : Word) (s : State) : Result :=
  .next (guardedWrite m mrkPage R.MRK_CTRL (v ||| 1) (writeMrkCtrl m (v ||| 1)) s)

/-- MARK_READ (R285). -/
def execMarkRead (m : Nat) (v : Word) (s : State) : Result :=
  .next (guardedWrite m mrkPage R.MRK_CTRL (v ||| 2) (writeMrkCtrl m (v ||| 2)) s)

/-- MARK_DELETE (R293). -/
def execMarkDelete (m : Nat) (v : Word) (s : State) : Result :=
  .next (guardedWrite m mrkPage R.MRK_CTRL (v ||| 4) (writeMrkCtrl m (v ||| 4)) s)

/-! ## Completion queue (MRK_DONE) -/

/-- A read of MRK_DONE. -/
def popMarkDone (s : State) : Word × State :=
  match s.mrk.done with
  | [] => (0, s)
  | r :: l =>
    (BitVec.ofNat 64 (r.handle + r.status * 2 ^ 12 + 2 ^ 15 + r.timeNs * 2 ^ 16), { s with mrk := { s.mrk with done := l } })

/-- MRK_DONE (R289). -/
def execMrkDone (s : State) : Result :=
  .next (if pageGated s mrkPage then setRd 0 s else let r := popMarkDone s; setRd r.1 r.2)

/-! ## Dispatch (R289, R290, R295) -/

/-- The dispatched occurrences a test picks, changed. -/
def updOcc (p : MarkOcc → Bool) (f : MarkOcc → MarkOcc) (s : State) : State :=
  { s with mrk := { s.mrk with occs := s.mrk.occs.map (fun o => if p o then f o else o) } }

/-- The index messages of a SYNC_LOAD at its dispatch: the lines of the lanes whose message was sent, and whether any lane
was dropped (R295). -/
def syncMessages (mask : Nat) : List Nat → State → Nat × Bool × State
  | [], s => (0, false, s)
  | lane :: l, s =>
    if !mask.testBit lane then syncMessages mask l s
    else
      match messageLane s lane with
      | none =>
        let r := syncMessages mask l (noteDropped true s)
        (r.1, true, r.2.2)
      | some via =>
        let n := fld s (sprPage lane) F.SPR_SYNC_CMD_TRIG % 16
        let r := syncMessages mask l (sendFor lane via 1 s)
        (r.1 ||| 2 ^ n, r.2.1, r.2.2)

/-- A SYNC_LOAD at its dispatch: dropped less than 50 µs before its time, else its messages go out (R290, R295). -/
def syncDispatch (o : MarkOcc) (s : State) : State :=
  if o.time < devTime s + 50 * usUnits then markComplete o mkDropped (noteDropped true s)
  else
    let r := syncMessages o.w3.toNat (List.range 64) s
    updOcc o.same (fun x => { x with lines := r.1, status := max x.status (if r.2.1 then mkDropped else 0) }) r.2.2

/-- An entry is dispatched: its occurrence goes to its units, and it is entered again while it repeats (R289). A gang mark a
member refused completes INCOMPLETE (R267). -/
def markDispatch (h : Nat) (e : MarkEntry) (s : State) : State :=
  let o : MarkOcc := ⟨h, e.time, e.skipLate, e.gang, e.w2, e.w3, e.claim, if e.refused then mkIncomplete else 0, 0, e.order, []⟩
  let period := fieldOf e.w2 32 32 * 65536
  let e := if e.rep = 0 then { e with flying := e.flying + 1, last := true }
    else { e with flying := e.flying + 1, time := e.time + period, rep := if e.rep = 4095 then 4095 else e.rep - 1 }
  let s := setMarkEntry h e s
  let s := { s with mrk := { s.mrk with occs := s.mrk.occs ++ [o] } }
  if o.action = 0x0A then syncDispatch o s else s

/-- MARK_DISPATCH (R280, R289): the next entry at its dispatch time; nothing before device time is valid or while the page is
disabled (R71). -/
def execMarkDispatch (s : State) : Result :=
  match nextMark s with
  | none => .next s
  | some (h, e) =>
    if !timeValid s || !pageLive s mrkPage then .next s
    else .next (markDispatch h e (advanceTo (e.time - fld s mrkPage F.MRK_CFG_LEAD_US * usUnits) s))

/-! ## Actions of the timebase and the table -/

/-- MARK_NOP (R286). -/
def execMarkNop (h : Nat) (s : State) : Result := .next (tickAction h 0x00 (fun _ s => (0, s)) s)

/-- An action on a guarded output is judged at its tick as a write of the claim its mark carries (R78, R81, R291): refused
below the latch or below a claim it meets there, and where it ties with one. -/
def judgeTarget (page off : Nat) (o : MarkOcc) (s : State) : Bool × State :=
  let a := regAddr page off
  let l := rivalClaims s a o
  let s := if dueNow s o then meetMarks a o.claim s else s
  if o.claim < latched s page || l.any (fun c => decide (o.claim < c)) then (false, setSticky mrkPage S.CLAIM_REFUSED s)
  else if o.claim ∈ l then (false, setSticky page S.CLAIM_TIE (setSticky mrkPage S.CLAIM_REFUSED s))
  else (true, s)

/-- Lines of TRIG_OUT are judged one by one; answers those taken (R291). -/
def judgeLines (o : MarkOcc) : List Nat → State → List Nat × State
  | [], s => ([], s)
  | n :: l, s =>
    let r := judgeTarget tbsPage (R.TBS_TRIG_CFG + 8 * n) o s
    let q := judgeLines o l r.2
    (if r.1 then n :: q.1 else q.1, q.2)

/-- An action on the lines of a mask: below the latch of the page none of them is taken, else `act` moves those that are, and the
latch rises to the claim (R78, R291). -/
def lineAction (mask : Nat) (act : MarkOcc → List Nat → State → State) (o : MarkOcc) (s : State) : Nat × State :=
  if o.claim < latched s tbsPage then (mkRefused, setSticky mrkPage S.CLAIM_REFUSED s)
  else
    let lines := bitsSet mask 16
    let r := judgeLines o lines s
    (if r.1.length = lines.length then 0 else mkRefused, raiseLatch tbsPage (if r.1.isEmpty then 0 else o.claim) (act o r.1 r.2))

/-- When a mark pulse rises before SKEW: the mark time, or for a late one the present, up to a multiple of 125 ps (R295). -/
def pulseRise (s : State) (o : MarkOcc) : Nat := ceilTo (if actsLate s o then devTime s else o.time) 8192

/-- Pulses begin on lines, `width` ns wide (R294, R295): what is held of one is where it ends on the block's own clock. -/
def beginPulses (width : Nat) (o : MarkOcc) (lines : List Nat) (s : State) : State :=
  let rise := pulseRise s o
  let l := lines.map (fun n => (n, s.mono + rise + width * 65536 - devTime s))
  refreshPinsAt (skewedEdge rise) { s with pins := { s.pins with pulses := s.pins.pulses ++ l } }

/-- TRIG_PULSE (R291, R294, R295). -/
def execTrigPulse (h : Nat) (s : State) : Result :=
  .next (tickAction h 0x08 (fun o => lineAction o.arg16 (beginPulses (o.arg64 % 2 ^ 32)) o) s)

/-- The level of lines is set (R294). -/
def setLevels (o : MarkOcc) (lines : List Nat) (s : State) : State :=
  refreshPins (lines.foldl (fun s n => setFld tbsPage (F.TBS_TRIG_CFG_LEVEL.at n) (o.arg8 % 2) s) s)

/-- TRIG_LEVEL (R291, R294). -/
def execTrigLevel (h : Nat) (s : State) : Result :=
  .next (tickAction h 0x09 (fun o => lineAction o.arg16 setLevels o) s)

/-- The pulse of a line that ends first. -/
def firstPulse (s : State) (n : Nat) : Option (Nat × Nat) :=
  s.pins.pulses.foldl (fun a x =>
    if x.1 ≠ n then a else match a with
      | none => some x
      | some b => if x.2 < b.2 then some x else a) none

/-- PULSE_END (R282, R295): the width has run on the block's own clock; the edge falls that much after the rise. -/
def execPulseEnd (line : Nat) (s : State) : Result :=
  match firstPulse s line with
  | none => .next s
  | some x =>
    let s := advanceMono x.2 s
    .next (refreshPinsAt (skewedEdge (devTime s + x.2 - s.mono))
      { s with pins := { s.pins with pulses := removeFirst (fun y => decide (y = x)) s.pins.pulses } })

/-- SYNC_LOAD (R295): its lines are pulsed at the mark time. -/
def execSyncLoad (h : Nat) (s : State) : Result :=
  .next (tickAction h 0x0A (fun o => lineAction o.lines (beginPulses o.arg16) o) s)

/-- EVENT (R286): user bit u. -/
def execEvent (h : Nat) (s : State) : Result :=
  .next (tickAction h 0x0D (fun o s => (0, setSticky mrkPage (48 + o.arg8 % 16) s)) s)

/-- A soft reset of the MRK page: the table and the completion queue are emptied (R72). -/
def resetMrk (s : State) : State := { s with mrk := { s.mrk with entries := [], done := [] } }

/-! ## Gang marks on a member (R267) -/

/-- A gang mark reaches a member: refused less than 100 µs before its time, or where the table is full; else entered. -/
def gangMarkIn (h claim t : Nat) (w : List Word) (s : State) : State :=
  let late := evalDetector 0x320 S.ZHK_MARK_LATE (decide (t < devTime s + 100 * usUnits)) s
  let full := evalDetector mrkPage S.MRK_TABLE_FULL (!late.1 && markFull late.2) late.2
  let s := stickyIf late.1 0x320 S.ZHK_MARK_LATE (stickyIf full.1 mrkPage S.MRK_TABLE_FULL full.2)
  let ok := !late.1 && !full.1
  let s := if ok then (markEnter claim t w s).2 else s
  zhkSend (zhkPacket s 4 0 h (if ok then 1 else 2) (leBytes 4 h)) s

/-- A member's answer reaches member 0: a refusal leaves the mark incomplete. -/
def gangMarkAnswer (h : Nat) (ok : Bool) (s : State) : State :=
  let d := evalDetector 0x320 S.ZHK_MARK_INCOMPLETE (!ok) s
  if !d.1 then d.2
  else
    let s := setSticky 0x320 S.ZHK_MARK_INCOMPLETE d.2
    let s := match sparseFind s.mrk.entries h with
      | some e => setMarkEntry h { e with refused := true } s
      | none => s
    updOcc (fun o => decide (o.handle = h)) (fun o => { o with status := max o.status mkIncomplete }) s

end Sys2Proof.Machine
end

