-- ==== Sys2Proof/Machine/Chisel.lean ====
section
/-! DEFINITION. Chisel cores: instruction formats, issue, moves, stalls and faults (R311 to R327; 14_chisel_cores.md). -/

namespace Sys2Proof.Machine

/-! ## Formats (R313, R315) -/

/-- A move slot. -/
structure ChsMove where
  en : Bool
  store : Bool
  dn : Nat
  gn : Nat
  mod' : Nat
  mem : Nat
  deriving DecidableEq, Repr

/-- The fields of an instruction, each under its own name; formats share bits. -/
structure ChsInstr where
  op : Nat
  sat : Bool
  dd : Nat
  da : Nat
  db : Nat
  aa : Nat
  ab : Nat
  sh : Nat
  gauge : Nat
  target : Nat
  imm : BitVec 48
  m0 : ChsMove
  m1 : ChsMove
  deriving DecidableEq, Repr

/-- The three formats. -/
inductive ChsFmt where
  | a | c | l
  deriving DecidableEq, Repr

/-- What the table of R315 says of an opcode: its format, and the bits of its named operand fields. -/
structure ChsOp where
  fmt : ChsFmt
  fields : Nat

/-- Bits of the operand fields: S, DD or F1, DA, DB, AA, AB, SH; F2 and TARGET of format C. -/
def bS : Nat := 2 ^ 55
def bDD : Nat := 15 * 2 ^ 51
def bDA : Nat := 15 * 2 ^ 47
def bDB : Nat := 15 * 2 ^ 43
def bAA : Nat := 3 * 2 ^ 41
def bAB : Nat := 3 * 2 ^ 39
def bSH : Nat := 63 * 2 ^ 33
def bG : Nat := 7 * 2 ^ 47
def bTarget : Nat := (2 ^ 14 - 1) * 2 ^ 32
def bWake : Nat := 63 * 2 ^ 32

/-- The bits the moves of formats A and C may use. -/
def bMoves : Nat := 0xFFF8FFF8

def opA (fields : Nat) : ChsOp := ⟨.a, bS + fields + bMoves⟩
def opC (fields : Nat) : ChsOp := ⟨.c, fields + bMoves⟩
def opL (fields : Nat) : ChsOp := ⟨.l, fields⟩

/-- The table of R315; none for an opcode it does not list. -/
def chsOp (op : Nat) : Option ChsOp :=
  match op with
  | 0x00 | 0x01 | 0x05 | 0x0F => some (opC 0)
  | 0x02 | 0x04 | 0x06 | 0x10 => some (opC bTarget)
  | 0x03 => some (opC (bDD + bTarget))
  | 0x07 => some (opL (2 ^ 24 - 1))
  | 0x08 | 0x0A => some (opC bDD)
  | 0x09 => some (opC (bDD + bWake))
  | 0x0B | 0x0C | 0x0D => some (opC (bDD + bG))
  | 0x0E => some (opC bG)
  | 0x18 => some (opL (bDD + (2 ^ 48 - 1)))
  | 0x19 | 0x1A | 0x1B | 0x2A | 0x2B | 0x42 | 0x4A => some (opA (bDD + bDA))
  | 0x1C | 0x1D => some (opA (bDD + bAA + bSH))
  | 0x1E => some (opA bAA)
  | 0x1F | 0x20 | 0x48 => some (opA (bAA + bDA))
  | 0x28 | 0x29 | 0x2C | 0x2D | 0x2E | 0x2F | 0x34 | 0x35 | 0x40 | 0x41 => some (opA (bDD + bDA + bDB))
  | 0x30 | 0x31 | 0x32 => some (opA (bDD + bDA + bSH))
  | 0x33 => some (opA (bDA + bDB))
  | 0x38 | 0x39 | 0x3A | 0x44 | 0x45 | 0x46 => some (opA (bAA + bDA + bDB))
  | 0x3B => some (opA (bAA + bAB))
  | 0x43 | 0x47 | 0x49 => some (opA (bDD + bDA + bDB + bSH))
  | _ => none

/-- A move slot from its 16 bits. -/
def chsMove (x : Nat) : ChsMove :=
  { en := x.testBit 15, store := x.testBit 14, dn := natField x 10 4, gn := natField x 7 3, mod' := natField x 5 2,
    mem := natField x 3 2 }

/-- The opcode of an instruction. -/
def chsOpcode (w : Word) : Nat := fieldOf w 56 8

/-- The fields of an instruction word. The first operand field of format C is read as DD and as DA. -/
def chsFields (w : Word) (fmt : ChsFmt) : ChsInstr :=
  let noMove := chsMove 0
  { op := chsOpcode w, sat := bitOf w 55, dd := fieldOf w 51 4,
    da := if fmt = .c then fieldOf w 51 4 else fieldOf w 47 4,
    db := fieldOf w 43 4, aa := fieldOf w 41 2, ab := fieldOf w 39 2, sh := fieldOf w 33 6,
    gauge := fieldOf w 47 3, target := fieldOf w 32 14, imm := w.setWidth 48,
    m0 := if fmt = .l then noMove else chsMove (fieldOf w 16 16),
    m1 := if fmt = .l then noMove else chsMove (fieldOf w 0 16) }

/-- Data registers that an operation writes (R315). -/
def chsWrites (i : ChsInstr) : List Nat :=
  if i.op = 0x09 ∨ i.op = 0x0B ∨ i.op = 0x18 then [i.dd]
  else if i.op = 0x0A ∨ i.op = 0x0C then [i.dd, i.dd + 1]
  else if i.op = 0x1A ∨ i.op = 0x33 ∨ i.op = 0x1E ∨ i.op = 0x1F ∨ i.op = 0x20 then []
  else if (0x19 ≤ i.op ∧ i.op ≤ 0x35) ∨ (0x40 ≤ i.op ∧ i.op ≤ 0x43) ∨ (0x47 ≤ i.op ∧ i.op ≠ 0x48) then [i.dd]
  else []

/-- Data registers that an operation reads (R315). -/
def chsReads (i : ChsInstr) : List Nat :=
  match chsOp i.op with
  | some k =>
    if i.op = 0x08 then [i.da]
    else if i.op = 0x0D then [i.da, i.da + 1]
    else if k.fmt = .a ∧ i.op ≠ 0x1B then
      (if k.fields.testBit 47 then [i.da] else []) ++ (if k.fields.testBit 43 then [i.db] else [])
    else []
  | none => []

/-- The moves of an instruction that are in use, slot 0 first. -/
def chsMoves (i : ChsInstr) : List ChsMove := [i.m0, i.m1].filter (·.en)

/-- Whether the moves of an instruction are legal (R318). -/
def movesLegal (n : Nat) (i : ChsInstr) : Bool :=
  let l := chsMoves i
  l.all (fun m => decide (m.mem ≠ 3) && (chsIsL n || decide (m.mem ≠ 2)) &&
    (m.store || decide (m.dn ∉ chsWrites i))) &&
  !(decide (l.length = 2) &&
    (decide (i.m0.gn = i.m1.gn) || (!i.m0.store && !i.m1.store && decide (i.m0.dn = i.m1.dn)) ||
      decide (i.m0.mem = 2 ∧ i.m1.mem = 2)))

/-- Whether an operation's operands are legal: the register pairs, gauge codes, masks, conditions and loops of R315, R319
and R321. -/
def operandsLegal (n : Nat) (c : ChsCore) (i : ChsInstr) : Bool :=
  match i.op with
  | 0x03 => decide (i.dd ≤ 8)
  | 0x06 =>
    decide (c.pc < i.target) &&
      decide (chsOpcode (wtGet c.prog (i.target % chsProgSize n)) ∉ [0x01, 0x02, 0x03, 0x04, 0x05, 0x06, 0x09, 0x0A])
  | 0x09 => decide (i.target ≠ 0)
  | 0x0A => chsIsL n && decide (i.dd % 2 = 0)
  | 0x0B => chsIsL n
  | 0x0C | 0x0D => decide (i.dd % 2 = 0)
  | 0x1A => decide (i.dd < 8)
  | 0x1B => decide (i.da < 8)
  | _ => true

/-- The instruction a word spells for a core at its PC, none for an illegal one (R313, R318, R319, R321). -/
def chsDecode (n : Nat) (c : ChsCore) (w : Word) : Option ChsInstr :=
  match chsOp (chsOpcode w) with
  | none => none
  | some k =>
    if w.toNat % 2 ^ 56 &&& k.fields ≠ w.toNat % 2 ^ 56 then none
    else
      let i := chsFields w k.fmt
      if movesLegal n i && operandsLegal n c i then some i else none

/-! ## Registers and memories (R312, R318) -/

def ChsCore.aReg (c : ChsCore) (k : Nat) : BitVec 104 := alGet 0 c.a k
def ChsCore.setA (c : ChsCore) (k : Nat) (v : BitVec 104) : ChsCore := { c with a := alSet 0 c.a k v }
def ChsCore.gReg (c : ChsCore) (k : Nat) : BitVec 48 := alGet 0 c.g k
def ChsCore.setG (c : ChsCore) (k : Nat) (v : BitVec 48) : ChsCore := { c with g := alSet 0 c.g k v }

/-- ADDR and STEP of a gauge. -/
def gAddr (g : BitVec 48) : BitVec 24 := g.extractLsb' 0 24
def gStep (g : BitVec 48) : BitVec 24 := g.extractLsb' 24 24

/-- A word of T (space 0) or B (space 1) memory, its address taken modulo the memory's size (R318). -/
def chsMemGet (n : Nat) (c : ChsCore) (space a : Nat) : BitVec 48 :=
  alGet 0 (if space = 0 then c.t else c.b) (a % chsDataSize n)

def chsMemSet (n : Nat) (space a : Nat) (v : BitVec 48) (c : ChsCore) : ChsCore :=
  if space = 0 then { c with t := alSet 0 c.t (a % chsDataSize n) v } else { c with b := alSet 0 c.b (a % chsDataSize n) v }

/-- HBM address of an H-window word (R318). -/
def hAddr (s : State) (n w : Nat) : Nat := (reg s (chsPage n) R.CHL_HBASE).toNat + 6 * w

/-- A load over the H window: an uncorrectable or refused word reads zero and is flagged (R318). -/
def hLoad (n w : Nat) (s : State) : BitVec 48 × State :=
  let r := hbmRead (hAddr s n w) 6 s
  let d := evalDetector (chsPage n) S.CHS_H_ERROR (r.1.poison || r.1.err) r.2
  if d.1 then (0, setSticky (chsPage n) S.CHS_H_ERROR d.2) else (BitVec.ofNat 48 (ofLeBytes r.1.bytes), d.2)

/-- A store over the H window; a refused one is flagged (R318). -/
def hStore (n w : Nat) (v : BitVec 48) (s : State) : State :=
  let r := hbmWrite (hAddr s n w) (leBytes 6 v.toNat) s
  stickyIf r.1 (chsPage n) S.CHS_H_ERROR r.2

/-- A gauge after its post-step: ADDR wraps in 24 bits, STEP stays (R318). -/
def postStep (mod' : Nat) (g : BitVec 48) : BitVec 48 :=
  let a := gAddr g
  let a := if mod' = 1 then a + 1 else if mod' = 2 then a - 1 else if mod' = 3 then a + gStep g else a
  gStep g ++ a

/-! ## Faults and retirement (R327) -/

/-- A core stops in FAULT. -/
def chsFault (n cause : Nat) (s : State) : State :=
  let p := chsPage n
  let c := chsCore s n
  let s := setReg p R.CHS_FAULT (BitVec.ofNat 64 (cause + c.pc % 2 ^ 14 * 2 ^ 8)) s
  let s := setChsCore n { c with st := .fault, wait := none } s
  let s := stickyIf (decide (cause = 5)) p S.CHS_WATCHDOG (setSticky p S.CHS_FAULT s)
  if cause = 4 then
    let r := countRetry p (setSticky p S.CHS_MEM_UNCORR s)
    if r.2 then
      retireUnit p (if chsIsL n then 6 else 5) (n % 64) (updChs n (fun c => { c with st := .retired }) r.1)
    else r.1
  else s

/-! ## Moves (R318) -/

/-- One move of an instruction. Its register and gauge values are those of `old`, before the instruction; a store is done,
a load answers its value. -/
def doMove (n : Nat) (old : ChsCore) (m : ChsMove) (s : State) : State :=
  let a := (gAddr (old.gReg m.gn)).toNat
  let s :=
    if m.mem = 2 then
      if m.store then hStore n a (old.dReg m.dn) s
      else
        let r := hLoad n a s
        updChs n (fun c => c.setD m.dn r.1) r.2
    else if m.store then updChs n (chsMemSet n m.mem a (old.dReg m.dn)) s
    else updChs n (fun c => c.setD m.dn (chsMemGet n c m.mem a)) s
  s

/-- The post-steps of an instruction's moves. A gauge that SETG writes in the same instruction has no stated value where a
move steps it (log entry 3). -/
def doSteps (n : Nat) (old : ChsCore) (i : ChsInstr) (s : State) : State :=
  (chsMoves i).foldl (fun s m =>
    if m.mod' = 0 then s
    else if i.op = 0x1A ∧ i.dd = m.gn then
      let f := takeFree s
      updChs n (fun c => c.setG m.gn (f.1.setWidth 48)) f.2
    else updChs n (fun c => c.setG m.gn (postStep m.mod' (old.gReg m.gn))) s) s

/-! ## Stalls (R320) -/

/-- Whether both slots reach one bank of one memory. -/
def bankClash (c : ChsCore) (i : ChsInstr) : Bool :=
  i.m0.en && i.m1.en && decide (i.m0.mem = i.m1.mem ∧ i.m0.mem < 2) &&
    ((gAddr (c.gReg i.m0.gn)).getLsbD 0 == (gAddr (c.gReg i.m1.gn)).getLsbD 0)

/-- Operations that accumulate. -/
def chsAccumulates (op : Nat) : Bool := decide (op ∈ [0x38, 0x39, 0x3A, 0x3B, 0x44, 0x45, 0x46, 0x48])

/-- Accumulators an operation reads as a source. -/
def chsAccSource (i : ChsInstr) : List Nat :=
  if i.op = 0x1C ∨ i.op = 0x1D then [i.aa] else if i.op = 0x3B then [i.ab] else []

/-- Stall cycles of an instruction (R320). -/
def chsStalls (c : ChsCore) (i : ChsInstr) : Nat :=
  let p := c.pipe
  let uses (g : Option Nat) : Bool := match g with
    | some g => (chsMoves i).any (fun m => decide (m.gn = g))
    | none => false
  (if (chsReads i).any (fun d => decide (d ∈ p.loads)) then 1 else 0) + (if bankClash c i then 1 else 0) +
    (match p.acc with
      | some a => if a ∈ chsAccSource i then 1 else 0
      | none => 0) +
    (if uses p.gauge1 then 2 else if uses p.gauge2 then 1 else 0) + (if p.lc && decide (i.op = 0x06) then 1 else 0)

/-- What the interlocks remember after an instruction. -/
def chsPipeAfter (p : ChsPipe) (i : ChsInstr) : ChsPipe :=
  let used := match p.gauge1 with
    | some g => (chsMoves i).any (fun m => decide (m.gn = g))
    | none => true
  { loads := ((chsMoves i).filter (fun m => !m.store && decide (m.mem < 2))).map (·.dn),
    acc := if chsAccumulates i.op then some i.aa else none,
    lc := decide (i.op = 0x07 ∨ i.op = 0x08),
    gauge1 := if i.op = 0x1A then some i.dd else none,
    gauge2 := if used then none else p.gauge1 }

/-- Whether an instruction stalls until data arrives: a load over the H window, or BRD (R320). -/
def chsAwaits (i : ChsInstr) : Bool := decide (i.op = 0x0C) || (chsMoves i).any (fun m => decide (m.mem = 2) && !m.store)

/-- The cycles of such a stall: a free value within the 10 µs after which the core would fault (R318, R320, R323). -/
def chsAwaited (n : Nat) (i : ChsInstr) (s : State) : State :=
  if chsAwaits i then
    let f := takeFree s
    countK (chsPage n) R.CHS_CNT 1 (f.1.toNat % (if chsIsL n then 15001 else 12501)) f.2
  else s

/-! ## Flow (R319) -/

/-- Where an instruction at `pc` without a taken branch goes, and the loop stack then (R319). -/
def loopNext (n pc : Nat) : List ChsLoop → Nat × List ChsLoop
  | [] => (chsNextPc n pc, [])
  | x :: l =>
    if x.last = pc then
      if 1 < x.left then (x.first, { x with left := x.left - 1 } :: l) else loopNext n pc l
    else (chsNextPc n pc, x :: l)

/-- The loop stack after a taken branch: loops whose body it leaves are popped (R319). -/
def loopsKept (target : Nat) : List ChsLoop → List ChsLoop
  | [] => []
  | x :: l => if x.first ≤ target ∧ target ≤ x.last then x :: l else loopsKept target l

/-! ## Issue (R313 to R320) -/

/-- What an operation does: a fault before it takes effect, a wait that leaves the core at the instruction, or its effect
on the core, the results that did not fit, and the address a taken branch goes to. -/
inductive ChsEffect where
  | fault (cause : Nat)
  | hold
  | done (core : ChsCore) (misfits : Nat) (branch : Option Nat)

/-- Whether a core can issue an instruction now. -/
def chsRunning (s : State) (n : Nat) : Bool :=
  decide (n < 68) && pageLive s (chsPage n) && decide ((chsCore s n).st = .running)

/-- An instruction that has its effect: its moves, its flow and its counts. `old` is the core before it; `core` holds what
the operation wrote; `s` is the state after what the operation did outside the core. -/
def chsRetire (n : Nat) (i : ChsInstr) (old core : ChsCore) (misfits : Nat) (branch : Option Nat) (s : State) : State :=
  let stalls := chsStalls old i
  let flow := match branch with
    | some t => (t % chsProgSize n, loopsKept t core.loops)
    | none => loopNext n old.pc core.loops
  let core := { core with pipe := chsPipeAfter old.pipe i }
  let core := if core.st = .running then { core with pc := flow.1, loops := flow.2 } else core
  let s := setChsCore n core s
  let s := (chsMoves i).foldl (fun s m => doMove n old m s) s
  let s := doSteps n old i s
  let p := chsPage n
  countK p R.CHS_CNT 6 misfits (countK p R.CHS_CNT 1 stalls (countK p R.CHS_CNT 0 1 (chsAwaited n i s)))

/-- The core issues the instruction at its PC, which has opcode `op`; an instruction with another opcode of the table is
not this command's, and nothing happens. `f` is the operation: the state it leaves outside the core, and its effect. -/
def chsIssue (n op : Nat) (f : ChsInstr → ChsCore → State → State × ChsEffect) (s : State) : State :=
  if !chsRunning s n then s
  else
    let c := chsCore s n
    let w := wtGet c.prog c.pc
    if chsOpcode w ≠ op ∧ (chsOp (chsOpcode w)).isSome then s
    else
      let p := chsPage n
      let e := takeArmed p S.CHS_MEM_UNCORR s
      let k := takeArmed p S.CHS_MEM_CORR e.2
      let s := stickyIf k.1 p S.CHS_MEM_CORR k.2
      if e.1 then chsFault n 4 s
      else
        match chsDecode n c w with
        | none => chsFault n 1 s
        | some i =>
          match f i c s with
          | (t, .fault k) => chsFault n k t
          | (t, .hold) => t
          | (t, .done core misfits branch) => chsRetire n i c core misfits branch t

/-- An operation that acts on the core alone. -/
def inCore (f : ChsInstr → ChsCore → ChsEffect) : ChsInstr → ChsCore → State → State × ChsEffect := fun i c s => (s, f i c)

/-- A real data result: fitted, with Z, N and V. -/
def realResult (i : ChsInstr) (c : ChsCore) (x : Int) : ChsEffect :=
  let r := fitData i.sat x
  let fl := realFlags r.1
  .done { c.setD i.dd r.1 with z := fl.1, n := fl.2, v := decide (r.2 ≠ 0) } r.2 none

/-- A real data result that always fits: V stays. -/
def plainResult (i : ChsInstr) (c : ChsCore) (d : BitVec 48) : ChsEffect :=
  let fl := realFlags d
  .done { c.setD i.dd d with z := fl.1, n := fl.2 } 0 none

/-- A complex data result: fitted, with Z, N and V. -/
def complexResult (i : ChsInstr) (c : ChsCore) (re im : Int) : ChsEffect :=
  let r := fitComplex i.sat re im
  let fl := complexFlags r.1
  .done { c.setD i.dd r.1 with z := fl.1, n := fl.2, v := decide (r.2 ≠ 0) } r.2 none

/-- A real accumulator result: fitted, with V. -/
def accResult (i : ChsInstr) (c : ChsCore) (x : Int) : ChsEffect :=
  let r := fitAcc i.sat x
  .done { c.setA i.aa r.1 with v := decide (r.2 ≠ 0) } r.2 none

/-- A complex accumulator result: fitted, with V. -/
def accComplexResult (i : ChsInstr) (c : ChsCore) (re im : Int) : ChsEffect :=
  let r := fitAccComplex i.sat re im
  .done { c.setA i.aa r.1 with v := decide (r.2 ≠ 0) } r.2 none

end Sys2Proof.Machine
end

