-- ==== Sys2Proof/Machine/Ledger.lean ====
section
/-! DEFINITION. The Ledger (R371, R433 to R436): the chain, record header and trailer, RESUME and checkpoints, and the
one way a producer emits a whole record. -/

namespace Sys2Proof.Machine

/-- LDG page and HWD page (R67), and Heartwood's master ID (R340). -/
abbrev ldgPage : Nat := 0x3E1
abbrev hwdPage : Nat := 0x3E0
abbrev heartwood : Nat := 8

/-- Package serial (R423). -/
def pkgSerial (s : State) : Nat := (reg s 0 R.PKG_SERIAL).toNat

/-- ID_KEY_HASH: SHA3-512 of the identity public key, from the fuses (R413). -/
def identityHash : List Byte := (List.range 64).map Config.idKeyHash

/-- Whether RESUME has been committed (R417). -/
def ldgOpen (s : State) : Bool := flag s ldgPage F.LDG_STATUS_OPEN

/-- LEDGER_SEQ of the next record, and the current epoch. -/
def ldgNext (s : State) : Nat := (reg s ldgPage R.LDG_SEQ).toNat
def ldgEpoch (s : State) : Nat := fld s ldgPage F.LDG_STATUS_EPOCH

/-- The checkpoint payload of highest COVERS_TO in the Ledger ring (R436). -/
def bestCheckpoint (s : State) : Option (List Byte) :=
  (s.ldg.slots.filter (fun x => !x.isEpoch)).foldl
    (fun a x =>
      match a with
      | none => some x.payload
      | some b => if ofLeBytes (b.take 8) < ofLeBytes (x.payload.take 8) then some x.payload else a) none

/-- L(n−1) of the next record: the last record's chain value, or before RESUME the one RESUME chains from (R436). -/
def ldgChain (s : State) : List Byte :=
  if ldgOpen s then bytesOf (regsFrom s ldgPage R.LDG_CHAIN 8)
  else
    match bestCheckpoint s with
    | some p => (p.drop 48).take 64
    | none => List.replicate 64 0

/-! ## Records (R371, R433, R434) -/

/-- The 64-byte Taune record header (R371). -/
def recordHeader (q : LdgCommit) (serial seq secs ns frac flags : Nat) : List Byte :=
  [0x54, 0x5A, 0x52, 0x43] ++ leBytes 2 1 ++ leBytes 1 q.rtype ++ leBytes 1 q.die ++ leBytes 4 q.payload.length
    ++ leBytes 2 160 ++ leBytes 2 q.producer ++ leBytes 8 serial ++ leBytes 8 seq ++ leBytes 8 secs ++ leBytes 4 ns
    ++ leBytes 2 frac ++ leBytes 3 q.ring ++ leBytes 1 flags ++ List.replicate 14 0

/-- What the producer writes of a record: its header fields, the payload, zeros up to the end of the reservation. -/
def producerBytes (q : LdgCommit) : List Byte :=
  recordHeader q 0 0 0 0 0 0 ++ q.payload
    ++ List.replicate (recordUnits q.payload.length * 64 - 64 - q.payload.length) 0

/-- The ledger trailer (R434). -/
def recordTrailer (debug : Bool) (epoch lastCkpt : Nat) (hash chain : List Byte) : List Byte :=
  [0x54, 0x5A, 0x4C, 0x54, 1, if debug then 1 else 0, 0, 0] ++ leBytes 4 epoch ++ leBytes 4 0 ++ leBytes 8 lastCkpt
    ++ hash ++ chain ++ List.replicate 8 0

/-- The header with the fields the Ledger writes at commit (R371, R433). -/
def committedHeader (s : State) (q : LdgCommit) : List Byte :=
  let t := devTime s
  if timeValid s then
    recordHeader q (pkgSerial s) (ldgNext s) (timeSeconds t) (timeNs t) (timeFrac t)
      (fld s 0x330 F.TBS_STATUS_HOLD)
  else recordHeader q (pkgSerial s) (ldgNext s) 0 0 0 (2 + fld s 0x330 F.TBS_STATUS_HOLD)

/-- Where a record stands: pieces of `len` bytes from byte `off` of it. -/
def recordPieces (q : LdgCommit) (off len : Nat) : List (Nat × Nat) := ringPieces q.base q.size (q.start * 64 + off) len

/-- The Ledger enters a commit: header fields, chain, trailer (R433). -/
def ledgerEnter (q : LdgCommit) (s : State) : State :=
  let header := committedHeader s q
  let hash := sha3_512 q.payload
  let chain := sha3_512 (ldgChain s ++ header ++ hash)
  let trailer := recordTrailer s.hwd.unlock.isSome (ldgEpoch s)
    (reg s ldgPage R.LDG_CKPT).toNat hash chain
  let s := (writePieces (recordPieces q 0 64) header s).2
  let s := (writePieces (recordPieces q (64 + q.payload.length) 160) trailer s).2
  let s := setRegsFrom ldgPage R.LDG_CHAIN (wordsOf 8 chain) s
  let s := setReg ldgPage R.LDG_SEQ (BitVec.ofNat 64 (ldgNext s + 1)) s
  let s := countK ldgPage R.LDG_CNT 0 1 s
  let hashed := s.ldg.hashed + q.payload.length
  let s := { s with ldg := { s.ldg with hashed := hashed } }
  setReg ldgPage (R.LDG_CNT + 32) (BitVec.ofNat 64 (hashed / 64)) s

/-- The commit is complete: its reservation is committed and the ring's counts move (R350, R433). -/
def completeCommit (q : LdgCommit) (s : State) : State :=
  let r := ringOf s q.ring
  if r.spans.any (fun p => decide (p.start = q.start ∧ p.producer = q.producer ∧ (p.st = .opened ∨ p.st = .entered))) then
    settleRing q.ring (setRing q.ring { r with spans := markSpan q.start .committed r.spans } s)
  else s

/-! ## Checkpoints (R435) -/

/-- The checkpoint payload without its signature. -/
def checkpointBody (s : State) (m reason t : Nat) : List Byte :=
  leBytes 8 m ++ leBytes 8 (if s.ldg.covered = 0 then s.ldg.first else s.ldg.covered) ++ leBytes 4 (ldgEpoch s)
    ++ leBytes 1 reason ++ leBytes 3 0 ++ leBytes 8 (timeSeconds t) ++ leBytes 4 (timeNs t) ++ leBytes 4 0
    ++ leBytes 8 (pkgSerial s) ++ ldgChain s ++ identityHash

/-- A checkpoint starts: it takes the last committed position and its chain value. -/
def ckptStart (reason t : Nat) (s : State) : State :=
  let m := ldgNext s - 1
  setFld ldgPage F.LDG_STATUS_PENDING 1
    { s with ldg := { s.ldg with
        pendingCkpt := some ⟨m, checkpointBody s m reason t, false, s.mono⟩
        lastStart := some s.mono, uncovered := m + 1, counted := false, held := [] } }

/-- Whether a checkpoint may start now: none pending, and 1 s since the trigger that started the last. -/
def ckptMayStart (s : State) : Bool :=
  s.ldg.pendingCkpt.isNone &&
    (match s.ldg.lastStart with
     | none => true
     | some t => decide (t + 1000 * msUnits ≤ s.mono))

/-- A trigger of a checkpoint (R435); without an identity none is issued (R418). -/
def ckptTrigger (reason : Nat) (s : State) : State :=
  if !ldgOpen s || s.ldg.noIdentity then s
  else
    let s := { s with ldg := { s.ldg with lastTrigger := s.mono } }
    if ckptMayStart s && s.ldg.held.isEmpty then ckptStart reason (devTime s) s
    else
      let s := if s.ldg.held.isEmpty then s else countK ldgPage R.LDG_CNT 2 1 s
      { s with ldg := { s.ldg with held := s.ldg.held ++ [⟨reason, devTime s⟩] } }

/-- All held triggers start one checkpoint: REASON 3 if any is the orderly shutdown, else that of the earliest. -/
def ckptStartHeld (s : State) : State :=
  match s.ldg.held.find? (fun t => decide (t.reason = 3)), s.ldg.held with
  | some t, _ => ckptStart 3 t.time s
  | none, t :: _ => ckptStart t.reason t.time s
  | none, [] => s

/-- The count trigger: CKPT_RECORDS records since the previous checkpoint's COVERS_TO (R435). -/
def ckptCount (s : State) : State :=
  if ldgOpen s && !s.ldg.counted && decide (fld s ldgPage F.LDG_CFG_CKPT_RECORDS ≤ ldgNext s - s.ldg.uncovered) then
    ckptTrigger 1 { s with ldg := { s.ldg with counted := true } }
  else s

/-- A signature of the device as bytes (R429). -/
def signature (s : State) : List Byte := (List.range 4627).map (fun k => Config.signByte s.free k)

/-- A signature is made. -/
def countSignature (s : State) : State := countK ldgPage R.LDG_CNT 3 1 { s with free := s.free + 1 }

/-! ## Emitting a record -/

/-- How the emission of a record ended for its producer. -/
inductive Emit where
  | done | noRoom | error
  deriving DecidableEq, Repr

/-- A producer commits a record into its reservation: written, then entered by the Ledger, or held until RESUME
(R417, R433). A failed write rewinds the reservation; answers whether the commit was accepted. -/
def commitRecord (q : LdgCommit) (s : State) : Bool × State :=
  let w := writePieces (recordPieces q 0 (recordUnits q.payload.length * 64)) (producerBytes q) s
  if w.1 then (false, ringRewind q.ring q.start w.2)
  else if ldgOpen w.2 then (true, ckptCount (completeCommit q (ledgerEnter q w.2)))
  else
    let s := w.2
    let r := ringOf s q.ring
    let s := setRing q.ring { r with spans := markSpan q.start .entered r.spans } s
    (true, { s with ldg := { s.ldg with waiting := s.ldg.waiting ++ [q] } })

/-- The commit request of a producer whose reservation begins at `start`. -/
def commitOf (s : State) (ring start producer rtype die : Nat) (payload : List Byte) : LdgCommit :=
  ⟨ring, (ringOf s ring).base, (ringOf s ring).size, start, producer, rtype, die, payload⟩

/-- A producer emits a whole record: reservation, bytes, commit (R348 to R350, R433). -/
def emitRecord (ring producer rtype die : Nat) (payload : List Byte) (s : State) : Emit × State :=
  let g := ringReserve ring producer (recordUnits payload.length) s
  match g.1 with
  | .noRoom => (.noRoom, g.2)
  | .error => (.error, g.2)
  | .granted start =>
    let c := commitRecord (commitOf g.2 ring start producer rtype die payload) g.2
    (if c.1 then .done else .error, evalAbove ring c.2)

/-! ## RESUME (R417, R436) -/

/-- Payload of RESUME (R436). -/
def resumePayload (s : State) : List Byte :=
  match bestCheckpoint s with
  | some p =>
    leBytes 4 (ldgEpoch s) ++ [if (p.getD 20 0).toNat = 3 then 1 else 0] ++ leBytes 3 0 ++ p
  | none => leBytes 4 (ldgEpoch s) ++ [2] ++ leBytes 3 0 ++ List.replicate 4803 0

/-- Commits that waited for RESUME enter in ascending master ID (R433). -/
def releaseCommits (s : State) : State :=
  let l := sortBy (fun a b => decide (a.producer ≤ b.producer)) s.ldg.waiting
  l.foldl (fun s q => evalAbove q.ring (ckptCount (completeCommit q (ledgerEnter q s))))
    { s with ldg := { s.ldg with waiting := [] } }

/-- Heartwood commits RESUME as soon as CKPT_RING can hold it, and commits of every producer open (R417, R436). -/
def tryResume (s : State) : State :=
  if ldgOpen s || decide (ldgEpoch s = 0) then s
  else
    let ring := fld s ldgPage F.LDG_RINGS_CKPT_RING
    let payload := resumePayload s
    let r := ringOf s ring
    if !r.valid || decide (r.size / 128 < recordUnits payload.length) then s
    else
      let g := ringReserve ring heartwood (recordUnits payload.length) s
      match g.1 with
      | .granted start =>
        let q := commitOf g.2 ring start heartwood 6 4 payload
        let w := writePieces (recordPieces q 0 (recordUnits payload.length * 64)) (producerBytes q) g.2
        if w.1 then ringRewind ring start w.2
        else
          let first := ldgNext w.2
          let s := completeCommit q (ledgerEnter q w.2)
          let s := setSticky ldgPage S.LDG_RESUMED (setFld ldgPage F.LDG_STATUS_OPEN 1 s)
          let s := { s with ldg := { s.ldg with first := first, uncovered := first, lastTrigger := s.mono } }
          releaseCommits (evalAbove ring s)
      | _ => g.2

/-- The persisted checkpoint is committed into CKPT_RING as soon as the ring can take it (R435). -/
def ckptCommit (s : State) : State :=
  match s.ldg.pendingCkpt with
  | none => s
  | some p =>
    if !p.persisted then s
    else
      let e := emitRecord (fld s ldgPage F.LDG_RINGS_CKPT_RING) heartwood 5 4 p.payload s
      if e.1 = .done then
        let s := setReg ldgPage R.LDG_CKPT (BitVec.ofNat 64 p.covers) e.2
        let s := setFld ldgPage F.LDG_STATUS_PENDING 0 (countK ldgPage R.LDG_CNT 1 1 s)
        { s with ldg := { s.ldg with pendingCkpt := none } }
      else e.2

/-- After RESUME, the closing-test or start-test record the start used is committed (R446). -/
def commitUsed (s : State) : State :=
  match s.pwr.used with
  | none => s
  | some l =>
    if !ldgOpen s then s
    else
      let e := emitRecord (fld s ldgPage F.LDG_RINGS_CKPT_RING) heartwood 4 4 l s
      if e.1 = .done then { e.2 with pwr := { e.2.pwr with used := none } } else e.2

/-- What every write of LDG_RINGS and of a ring descriptor checks (R417, R435, R446). -/
def ledgerCheck (s : State) : State := ckptCommit (commitUsed (tryResume s))

/-- The checkpoint in progress is signed and persisted, or its persistence fails (R435). -/
def ckptPersist (ok : Bool) (s : State) : State :=
  match s.ldg.pendingCkpt with
  | none => s
  | some p =>
    if p.persisted then s
    else
      let payload := p.payload ++ signature s
      let d := evalDetector ldgPage S.LDG_PERSIST_FAIL (!ok) (countSignature s)
      let s := d.2
      if d.1 then
        setFld ldgPage F.LDG_STATUS_PENDING 0
          (setSticky ldgPage S.LDG_PERSIST_FAIL { s with ldg := { s.ldg with pendingCkpt := none } })
      else
        let s := setReg ldgPage R.LDG_PERSISTED (BitVec.ofNat 64 p.covers) s
        { s with ldg := { s.ldg with
            pendingCkpt := some { p with payload := payload, persisted := true, since := s.mono }
            covered := p.covers + 1
            slots := (⟨s.ldg.gen, false, ldgEpoch s, payload⟩ :: s.ldg.slots).take 2048
            gen := s.ldg.gen + 1 } }

/-! ## Commands -/

/-- RESUME (R436). -/
def execResume (s : State) : Result := .next (commitUsed (tryResume s))

/-- The acts of a write of LDG_CTRL (R435). -/
def writeLdgCtrl (v : Word) (s : State) : State := actIf v 0 (ckptTrigger 4) s

/-- CKPT_NOW (R435). -/
def execCkptNow (m : Nat) (v : Word) (s : State) : Result :=
  .next (guardedWrite m ldgPage R.LDG_CTRL (v ||| 1) (writeLdgCtrl (v ||| 1)) s)

/-- CKPT_TIME (R435): CKPT_MS have passed since the previous trigger, or since RESUME before the first. -/
def execCkptTime (s : State) : Result :=
  if ldgOpen s then
    .next (ckptTrigger 2 (advanceMono (s.ldg.lastTrigger + fld s ldgPage F.LDG_CFG_CKPT_MS * msUnits) s))
  else .next s

/-- CHECKPOINT (R435): held triggers start a checkpoint once 1 s has passed; the checkpoint in progress is signed and
persisted. -/
def execCheckpoint (ok : Bool) (s : State) : Result :=
  let s :=
    if s.ldg.pendingCkpt.isNone && !s.ldg.held.isEmpty then
      ckptStartHeld (advanceMono ((s.ldg.lastStart.map (· + 1000 * msUnits)).getD 0) s)
    else s
  .next (ckptPersist ok s)

/-- CKPT_PERSISTED (R435). -/
def execCkptPersisted (s : State) : Result := .next (ckptCommit s)

/-- CKPT_LATE (R435): the pending checkpoint has waited 1 s. -/
def execCkptLate (s : State) : Result :=
  match s.ldg.pendingCkpt with
  | none => .next s
  | some p => .next (setSticky ldgPage S.LDG_CKPT_LATE (advanceMono (p.since + 1000 * msUnits) s))

/-- A write of LDG_CNT_CLEAR. -/
def writeLdgCntClear (v : Word) (s : State) : State :=
  if bitOf v 0 then resetRegs ldgPage R.LDG_CNT 5 { s with ldg := { s.ldg with hashed := 0 } } else s

/-- A write of LDG_RINGS: stored, then checked (R417). -/
def writeLdgRings (v : Word) (s : State) : State := ledgerCheck (storePlain ldgPage R.LDG_RINGS v s)

end Sys2Proof.Machine
end

