-- ==== Sys2Proof/Machine/RingCmd.lean ====
section
/-! DEFINITION. The rings as commands: reservations, commits and rewinds of producers, and the RNG registers
(R347 to R355, R364, R365). -/

namespace Sys2Proof.Machine

/-! ## Producers -/

/-- Whether a reservation goes before another in one cycle: higher pair priority to the ring's stack, then lower master
ID (R353). -/
def reserveFirst (s : State) (n : Nat) (a b : Nat × Nat) : Bool :=
  let d := stackOf (ringOf s n).base
  decide (pairPrio s b.1 d < pairPrio s a.1 d ∨ (pairPrio s a.1 d = pairPrio s b.1 d ∧ a.1 ≤ b.1))

/-- One reservation of a producer that holds none open in the ring (R349). -/
def reserveOne (n : Nat) (q : Nat × Nat) (s : State) : State :=
  if (openSpan s n q.1).isSome then s else (ringReserve n q.1 q.2 s).2

/-- RESERVE (R349, R353): the reservations of one cycle. -/
def execReserve (ring : Nat) (reqs : List (Nat × Nat)) (s : State) : Result :=
  .next (evalAbove ring ((sortBy (reserveFirst s ring) reqs).foldl (fun s q => reserveOne ring q s) s))

/-- One commit: the record fills exactly the open reservation of its producer (R348, R349). -/
def commitOne (q : CommitReq) (s : State) : State :=
  match openSpan s q.ring q.producer with
  | none => s
  | some p =>
    if p.len ≠ recordUnits q.payload.length then s
    else (commitRecord (commitOf s q.ring p.start q.producer q.rtype q.die q.payload) s).2

/-- COMMIT (R350, R433): the commits of one cycle, in ascending master ID. -/
def execCommit (reqs : List CommitReq) (s : State) : Result :=
  let s := (sortBy (fun a b => decide (a.producer ≤ b.producer)) reqs).foldl (fun s q => commitOne q s) s
  .next (reqs.foldl (fun s q => evalAbove q.ring s) s)

/-- REWIND (R350). -/
def execRewind (ring producer : Nat) (s : State) : Result :=
  match openSpan s ring producer with
  | none => .next s
  | some p => .next (evalAbove ring (ringRewind ring p.start s))

/-! ## Registers -/

/-- Words 0 to 7 of a ring descriptor as a READ shows them. -/
def ringWords (r : Ring) : List Word :=
  let opens := (r.spans.filter (fun p => decide (p.st = .opened))).length
  [r.w0, r.w1, r.w2, r.w3, BitVec.ofNat 64 r.reserve, BitVec.ofNat 64 r.visible, BitVec.ofNat 64 r.taken,
   BitVec.ofNat 64 ((if r.above then 1 else 0) + min 255 opens * 2 ^ 8 + r.rewinds * 2 ^ 16)]

/-- A READ of RNG_CTRL. -/
def rngTableRead (s : State) : State :=
  setFld rngPage F.RNG_CTRL_RESULT 0
    (setRegsFrom rngPage R.RNG_DATA (ringWords (ringOf s (fld s rngPage F.RNG_ADDR_RING))) s)

/-- Whether the block of a ring lies within one stack, outside the reserved span (R347). -/
def ringPlaced (base size : Nat) : Bool :=
  decide (base % 4096 = 0 ∧ base < 4 * stackBytes ∧ stackOff base + size ≤ stackUsable)

/-- Whether a reserved field of a descriptor is nonzero. -/
def ringReservedBits (n : Ring) : Bool :=
  decide (fieldOf n.w0 14 50 ≠ 0 ∨ fieldOf n.w2 25 7 ≠ 0 ∨ fieldOf n.w2 57 7 ≠ 0 ∨ fieldOf n.w3 32 32 ≠ 0)

/-- The RESULT of a descriptor write: whether a channel transfers from the ring, the ring as it stands, and as written
(R347, R351, R354). -/
def ringCheck (busy : Bool) (old new : Ring) : Nat :=
  let format :=
    if !new.valid then
      (if old.valid && (busy || old.spans.any (fun p => decide (p.st = .opened))) then 5 else 0)
    else if new.log2size < 12 ∨ 30 < new.log2size then 1
    else if !ringPlaced new.base new.size then 2
    else if ¬(new.low < new.high ∧ new.high ≤ new.units) then 3
    else if old.valid && decide (new.log2size ≠ old.log2size ∨ new.w1 ≠ old.w1) then 4
    else 0
  if format ≠ 0 then format else if ringReservedBits new then 6 else 0

/-- Whether an invalidation discards a record that is visible and unread (R354). -/
def ringDiscards (r : Ring) : Bool := r.valid && decide (0 < r.fill)

/-- A WRITE of RNG_CTRL (R354). -/
def rngTableWrite (s : State) : State :=
  let n := fld s rngPage F.RNG_ADDR_RING
  let old := ringOf s n
  let w := fun k => reg s rngPage (R.RNG_DATA + 8 * k)
  let new : Ring := { old with w0 := w 0, w1 := w 1, w2 := w 2, w3 := w 3 }
  let busy := s.dma.chans.any (fun c => decide (c.2.flight = some n))
  let res := ringCheck busy old new
  let s := tableResult rngPage F.RNG_CTRL_RESULT res s
  if res ≠ 0 then s
  else
    let new := if new.valid && old.valid then new
      else if new.valid then { new with reserve := 0, visible := 0, taken := 0, spans := [], rewinds := 0 }
      else { new with visible := new.reserve, taken := new.reserve, spans := [] }
    let s := stickyIf (!new.valid && ringDiscards old) rngPage S.RNG_DISCARDED s
    ledgerCheck (evalAbove n (setRing n new s))

/-- The acts of a write of RNG_CTRL, in bit order (R473). -/
def writeRngCtrl (v : Word) (s : State) : State := actIf v 1 rngTableWrite (actIf v 0 rngTableRead s)

/-- RNG_READ (R347). -/
def execRngRead (m : Nat) (v : Word) (s : State) : Result :=
  .next (guardedWrite m rngPage R.RNG_CTRL (v ||| 1) (writeRngCtrl (v ||| 1)) s)

/-- RNG_WRITE (R354). -/
def execRngWrite (m : Nat) (v : Word) (s : State) : Result :=
  .next (guardedWrite m rngPage R.RNG_CTRL (v ||| 2) (writeRngCtrl (v ||| 2)) s)

/-- The act of a write of RNG_ADVANCE (R352). -/
def writeRngAdvance (v : Word) (s : State) : State :=
  let n := fieldOf v 0 18
  let r := ringOf s n
  let dest := if r.valid && decide (r.consumer = 1) then
    advanceBy r (r.taken + fieldOf v 32 32) (r.spans.length + 1) else none
  let d := evalDetector rngPage S.RNG_ADVANCE_REFUSED dest.isNone s
  match d.1, dest with
  | false, some r' => evalAbove n (setRing n r' d.2)
  | _, _ => refuseBit rngPage S.RNG_ADVANCE_REFUSED d.2

/-- RNG_ADVANCE (R352). -/
def execRngAdvance (m : Nat) (v : Word) (s : State) : Result :=
  .next (guardedWrite m rngPage R.RNG_ADVANCE v (writeRngAdvance v) s)

/-- A read of RNG_WM_POP: the oldest entry, which leaves the queue (R65, R351). -/
def readWmPop (s : State) : Word × State :=
  match s.rng.wm with
  | [] => (0, s)
  | e :: l =>
    (BitVec.ofNat 64 (e.1 + (if e.2 then 2 ^ 18 else 0) + 2 ^ 19), { s with rng := { s.rng with wm := l } })

/-- RNG_WM_POP (R351). -/
def execRngWmPop (s : State) : Result :=
  if pageGated s rngPage then .next (setRd 0 s)
  else let r := readWmPop s; .next (setRd r.1 r.2)

/-- FLUSH (R355): the oldest visible record has been visible for FLUSH_US; `ringEligible` now names the ring. -/
def execFlush (ring : Nat) (s : State) : Result :=
  let r := ringOf s ring
  match r.oldest with
  | none => .next s
  | some p =>
    if r.flushUs = 0 then .next s
    else .next (advanceMono (p.seen.getD 0 + r.flushUs * usUnits) s)

/-- A soft reset of the RNG page (R365): rings invalid, the queue empty, RNG_FCO kept by the caller. -/
def rngReset (s : State) : State :=
  let d := s.rng.rings.any (fun e => ringDiscards e.2 || (e.2.valid && e.2.spans.any (fun p => decide (p.st = .entered))))
  { stickyIf d rngPage S.RNG_DISCARDED s with rng := {} }

end Sys2Proof.Machine
end

