-- ==== Sys2Proof/Machine/SchBase.lean ====
section
/-! DEFINITION. Accessors of schedulers, lathes, contexts, weight sets and detectors: pages, descriptors and the records
that hold them (R162, R181, R188, R212, R226 to R229). -/

namespace Sys2Proof.Machine

/-! ## Pages (R67) -/

abbrev lthPage (n : Nat) : Nat := 0x100 + n
abbrev schPage (d : Nat) : Nat := 0x220 + d
abbrev tlyPage (d : Nat) : Nat := 0x224 + d
abbrev ggePage (d : Nat) : Nat := 0x228 + d

/-- LATHE and PENDING of a seat without one (SCH_SEAT). -/
abbrev noLathe : Nat := 0x1FF

/-! ## Records -/

def lathe (s : State) (n : Nat) : Lathe := alGet {} s.sch.lathes n

def setLathe (n : Nat) (x : Lathe) (s : State) : State :=
  { s with sch := { s.sch with lathes := alSet {} s.sch.lathes n x } }

def schDie (s : State) (d : Nat) : SchDie := alGet {} s.sch.dies d

def setSchDie (d : Nat) (x : SchDie) (s : State) : State :=
  { s with sch := { s.sch with dies := alSet {} s.sch.dies d x } }

def tlyDie (s : State) (d : Nat) : TlyDie := alGet {} s.tly.dies d

def setTlyDie (d : Nat) (x : TlyDie) (s : State) : State :=
  { s with tly := { s.tly with dies := alSet {} s.tly.dies d x } }

def ctxOf (s : State) (d c : Nat) : TlyCtx := alGet {} (tlyDie s d).ctxs c

def setCtx (d c : Nat) (x : TlyCtx) (s : State) : State :=
  let t := tlyDie s d
  setTlyDie d { t with ctxs := alSet {} t.ctxs c x } s

def wsetOf (s : State) (d i : Nat) : WSet := alGet {} s.gge.wsets (16 * d + i)

def setWset (d i : Nat) (x : WSet) (s : State) : State :=
  { s with gge := { s.gge with wsets := alSet {} s.gge.wsets (16 * d + i) x } }

def detOf (s : State) (d i : Nat) : Detector := alGet {} s.gge.dets (16 * d + i)

def setDet (d i : Nat) (x : Detector) (s : State) : State :=
  { s with gge := { s.gge with dets := alSet {} s.gge.dets (16 * d + i) x } }

/-- The valid plan of region `r` of C-die `d`. -/
def planOf (s : State) (d r : Nat) : Option Plan := sparseFind s.sch.plans (16 * d + r)

def setPlan (d r : Nat) (p : Plan) (s : State) : State :=
  { s with sch := { s.sch with plans := sparseInsert (sparseErase s.sch.plans (16 * d + r)) (16 * d + r) p } }

def dropPlan (d r : Nat) (s : State) : State :=
  { s with sch := { s.sch with plans := sparseErase s.sch.plans (16 * d + r) } }

/-- Valid plans of C-die `d`: region and plan. -/
def plansOf (s : State) (d : Nat) : List (Nat × Plan) :=
  s.sch.plans.filterMap (fun e => if e.1 / 16 = d then some (e.1 % 16, e.2) else none)

/-! ## Pass plans (R188) -/

def Plan.word (p : Plan) (k : Nat) : Word := p.words.getD k 0
def Plan.replayMode (p : Plan) : Bool := bitOf (p.word 0) 5
def Plan.ctx (p : Plan) : Nat := fieldOf (p.word 0) 6 4
def Plan.chRate (p : Plan) : Rat := mkRat (p.word 3).toNat (2 ^ 32)
def Plan.deadlineUs (p : Plan) : Nat := if fieldOf (p.word 4) 0 32 = 0 then 2000 else fieldOf (p.word 4) 0 32

/-- Span of a batch in block time: T spectra at the declared rate. -/
def Plan.span (p : Plan) (t : Nat) : Nat := t * 2 ^ 32 * secondUnits / max 1 (p.word 3).toNat

/-! ## Cut-list entries (R183, R209) -/

def CutEntry.op (e : CutEntry) : Nat := fieldOf e.w0 0 4
def CutEntry.rowLo (e : CutEntry) : Nat := fieldOf e.w0 16 13
def CutEntry.rowHi (e : CutEntry) : Nat := fieldOf e.w0 32 13
def CutEntry.param (e : CutEntry) : Nat := fieldOf e.w0 48 13
def CutEntry.colLo (e : CutEntry) : Nat := fieldOf e.w1 0 13
def CutEntry.colHi (e : CutEntry) : Nat := fieldOf e.w1 16 13
def CutEntry.chLo (e : CutEntry) : Nat := fieldOf e.w1 32 14
def CutEntry.chHi (e : CutEntry) : Nat := fieldOf e.w1 48 14
def CutEntry.slot0 (e : CutEntry) : Nat := fieldOf e.w2 0 32
def CutEntry.seat0 (e : CutEntry) : Nat := fieldOf e.w2 32 6
def CutEntry.splitCode (e : CutEntry) : Nat := fieldOf e.w2 38 2
def CutEntry.split (e : CutEntry) : Nat := 2 ^ e.splitCode
def CutEntry.isGouge (e : CutEntry) : Bool := decide (e.op = 6)
def CutEntry.block0 (e : CutEntry) : Nat := fieldOf e.w1 0 13
def CutEntry.wset (e : CutEntry) : Nat := fieldOf e.w2 0 4
def CutEntry.seat (e : CutEntry) : Nat := fieldOf e.w2 16 6
def CutEntry.groupLo (e : CutEntry) : Nat := fieldOf e.w2 32 5
def CutEntry.groupHi (e : CutEntry) : Nat := fieldOf e.w2 40 5
def CutEntry.beam0 (e : CutEntry) : Nat := fieldOf e.w3 0 10
def CutEntry.voltEn (e : CutEntry) : Bool := bitOf e.w3 16
def CutEntry.voltFmt (e : CutEntry) : Nat := fieldOf e.w3 17 1
def CutEntry.powerEn (e : CutEntry) : Bool := bitOf e.w3 18

/-- Local channels of an entry. -/
def CutEntry.hasChan (e : CutEntry) (c : Nat) : Bool := decide (e.chLo ≤ c ∧ c ≤ e.chHi)
def CutEntry.chans (e : CutEntry) : Nat := e.chHi + 1 - e.chLo

/-- Numbers from `a` to `b`. -/
def upTo (a b : Nat) : List Nat := (List.range (b + 1 - a)).map (fun i => a + i)

/-- The tiles of a triangle over blocks `a` to `b`, rows ascending (R184). -/
def triangleTiles (a b : Nat) : List (Nat × Nat) := (upTo a b).flatMap (fun r => (upTo r b).map (fun k => (r, k)))

/-- The tiles of an entry by ordinal (R184). -/
def CutEntry.tiles (e : CutEntry) : List (Nat × Nat) :=
  let lo := e.rowLo
  let hi := e.rowHi
  if e.op = 1 then [(lo, e.colLo)]
  else if e.op = 2 then triangleTiles lo hi
  else if e.op = 3 then (upTo lo hi).flatMap (fun r => (upTo r (min (r + e.param) hi)).map (fun k => (r, k)))
  else if e.op = 4 then
    (List.range (ceilDiv (hi + 1 - lo) e.param)).flatMap (fun i =>
      triangleTiles (lo + i * e.param) (min (lo + i * e.param + e.param - 1) hi))
  else if e.op = 5 then (upTo lo hi).flatMap (fun r => (upTo e.colLo e.colHi).map (fun k => (r, k)))
  else []

/-- A producer of a tile (R185): seat, slot, tile, its number among the producers, and the split code. -/
structure Producer where
  seat : Nat
  slot : Nat
  row : Nat
  col : Nat
  num : Nat
  splitCode : Nat
  deriving DecidableEq, Repr

/-- The producers of an entry in order of expansion (R185). -/
def CutEntry.producers (e : CutEntry) : List Producer :=
  let k := e.split
  (e.tiles.zipIdx).flatMap (fun t =>
    (List.range k).map (fun m =>
      ⟨(e.seat0 + t.2 * k + m) % 64, e.slot0 + t.2 * k + m, t.1.1, t.1.2, m, e.splitCode⟩))

/-! ## Stages (R189, R190) -/

def StageEntry.rowLo (e : StageEntry) : Nat := fieldOf e.w0 0 13
def StageEntry.rowHi (e : StageEntry) : Nat := fieldOf e.w0 16 13
def StageEntry.colLo (e : StageEntry) : Nat := fieldOf e.w0 32 13
def StageEntry.colHi (e : StageEntry) : Nat := fieldOf e.w0 48 13
def StageEntry.first (e : StageEntry) : Nat := fieldOf e.w1 0 13 * 256
def StageEntry.len (e : StageEntry) (t : Nat) : Nat := if fieldOf e.w1 16 13 = 0 then t else fieldOf e.w1 16 13 * 256

/-- Blocks a stage loads, ascending, rows first. -/
def StageEntry.blocks (e : StageEntry) : List Nat :=
  upTo e.rowLo e.rowHi ++ (upTo e.colLo e.colHi).filter (fun k => !decide (e.rowLo ≤ k ∧ k ≤ e.rowHi))

/-- Whether two stages name the same blocks, and so belong to one group where they follow each other. -/
def StageEntry.sameBlocks (a b : StageEntry) : Bool :=
  decide (a.rowLo = b.rowLo ∧ a.rowHi = b.rowHi) &&
    (decide (a.colLo = b.colLo ∧ a.colHi = b.colHi) || decide (a.colHi < a.colLo ∧ b.colHi < b.colLo))

/-- The implicit stage of a plan without a stage table: every block, the whole batch (R189). -/
def implicitStage (blocks : Nat) : StageEntry :=
  ⟨withField (withField 0 16 13 (blocks - 1)) 32 13 1, 0⟩

/-- Groups: runs of consecutive stages over the same blocks (R190). -/
def stageGroups : List StageEntry → List (List StageEntry)
  | [] => []
  | e :: l =>
    match stageGroups l with
    | [] => [[e]]
    | g :: gs =>
      match g.head? with
      | some x => if e.sameBlocks x then (e :: g) :: gs else [e] :: g :: gs
      | none => [e] :: gs

/-! ## Tally contexts (R229) -/

def TlyCtx.word (c : TlyCtx) (k : Nat) : Word := c.words.getD k 0
def TlyCtx.valid (c : TlyCtx) : Bool := bitOf (c.word 0) 0
def TlyCtx.float (c : TlyCtx) : Bool := bitOf (c.word 0) 1
def TlyCtx.preload (c : TlyCtx) : Nat := fieldOf (c.word 0) 2 2
def TlyCtx.imgT48 (c : TlyCtx) : Bool := bitOf (c.word 0) 4
def TlyCtx.carryCounts (c : TlyCtx) : Bool := bitOf (c.word 0) 5
def TlyCtx.rowstat (c : TlyCtx) : Bool := bitOf (c.word 0) 6
def TlyCtx.region (c : TlyCtx) : Nat := fieldOf (c.word 0) 7 4
def TlyCtx.length (c : TlyCtx) : Nat := fieldOf (c.word 0) 16 32
def TlyCtx.slots (c : TlyCtx) : Nat := fieldOf (c.word 1) 0 32
def TlyCtx.rowBlkLo (c : TlyCtx) : Nat := fieldOf (c.word 1) 32 13
def TlyCtx.rowBlkHi (c : TlyCtx) : Nat := fieldOf (c.word 1) 48 13
def TlyCtx.base (c : TlyCtx) (x : Nat) : Nat := (c.word (2 + x)).toNat
def TlyCtx.channels (c : TlyCtx) : Nat := fieldOf (c.word 5) 36 14 + 1
def Integ.preBase (g : Integ) : Nat := g.pre.toNat
def Integ.ringInt (g : Integ) : Nat := fieldOf g.rings 0 18
def Integ.ringRow (g : Integ) : Nat := fieldOf g.rings 18 18
def TlyCtx.rowstatBase (c : TlyCtx) : Nat := (c.word 6).toNat

/-- Bytes of a slot (R226), and of one buffer of a context. -/
abbrev slotBytes : Nat := 12352
def TlyCtx.bufBytes (c : TlyCtx) : Nat := c.channels * c.slots * slotBytes

/-- Address of slot `i`, channel `cl`, in buffer `x` (R226). -/
def TlyCtx.slotAddr (c : TlyCtx) (x i cl : Nat) : Nat := c.base x + (cl * c.slots + i) * slotBytes

/-! ## Weight sets (R212) -/

def WSet.valid (w : WSet) : Bool := bitOf w.w0 0
def WSet.fmt (w : WSet) : Nat := fieldOf w.w0 1 1
def WSet.groups (w : WSet) : Nat := fieldOf w.w0 2 5 + 1
def WSet.links (w : WSet) : Nat := fieldOf w.w0 7 4 + 1
def WSet.region (w : WSet) : Nat := fieldOf w.w0 11 4
def WSet.channels (w : WSet) : Nat := fieldOf w.w0 16 15
def WSet.shift (w : WSet) : Nat := fieldOf w.w0 31 5
def WSet.powerLen (w : WSet) : Nat := (fieldOf w.w0 36 8 + 1) * 256
def WSet.activeB (w : WSet) : Bool := bitOf w.w0 44

/-- Bytes of a weight: C8 or C12 (R212). -/
def WSet.weightBytes (w : WSet) : Nat := if w.fmt = 0 then 2 else 3

/-- SIZE of a bank (R212). -/
def WSet.size (w : WSet) : Nat := w.channels * w.groups * w.links * 1024 * w.weightBytes

/-- Base of a bank, B where `b`. -/
def WSet.bankBase (w : WSet) (b : Bool) : Nat := if b then w.w2.toNat else w.w1.toNat

/-- Base of the active bank. -/
def WSet.activeBase (w : WSet) : Nat := w.bankBase w.activeB

/-- Whether an operand format takes the weights of a format: C8 for C4 and C8, C12 for C12 (R205). -/
def weightMatches (fmt wfmt : Nat) : Bool := decide ((fmt ≤ 1 ∧ wfmt = 0) ∨ (fmt = 2 ∧ wfmt = 1))

/-- Whether a valid plan of the die names a weight set. -/
def wsetNamed (s : State) (d i : Nat) : Bool :=
  (plansOf s d).any (fun p => p.2.entries.any (fun e => e.isGouge && decide (e.wset = i)))

/-- Whether a valid plan of the die names a tally context. -/
def ctxNamed (s : State) (d c : Nat) : Bool := (plansOf s d).any (fun p => decide (p.2.ctx = c))

/-! ## Seats (R181, R201) -/

def seatLathe (s : State) (d k : Nat) : Nat := fld s (schPage d) (F.SCH_SEAT_LATHE.at k)
def seatPending (s : State) (d k : Nat) : Nat := fld s (schPage d) (F.SCH_SEAT_PENDING.at k)
def seatMoved (s : State) (d k r : Nat) : Bool := (fld s (schPage d) (F.SCH_SEAT_MOVED.at k)).testBit r

/-- Whether a lathe is bound or about to be bound to a seat of its die. -/
def latheBound (s : State) (d n : Nat) : Bool :=
  (List.range 64).any (fun k => decide (seatLathe s d k = n ∨ seatPending s d k = n))

/-- Spares of a C-die that are neither retired nor bound, lowest first (R182). -/
def freeSpares (s : State) (d : Nat) : List Nat :=
  ((List.range 68).map (fun i => 68 * d + i)).filter (fun n =>
    flag s (lthPage n) F.LTH_STATUS_SPARE && !pageRetired s (lthPage n) && !latheBound s d n)

/-- The lathe that runs seat `k` for the plan of region `r`; none where its jobs fail (R177, R201, R202). -/
def runningLathe (s : State) (d k r : Nat) : Option Nat :=
  let n := if seatPending s d k = noLathe then seatLathe s d k
    else if seatMoved s d k r then seatPending s d k else noLathe
  if n = noLathe || pageRetired s (lthPage n) then none else some n

/-- Strokes on the lathes of a C-die. -/
def dieStrokes (s : State) (d : Nat) : List Stroke :=
  s.sch.lathes.flatMap (fun e => if e.1 / 68 = d then e.2.queue else [])

/-- Global channel of local channel `cl` of C-die `d` (R243, R262). -/
def globalChan (s : State) (d r cl : Nat) : Nat :=
  if gangMode s r = 1 then 4 * gangSize s * cl + 4 * gangMember s + d else 4 * cl + d

end Sys2Proof.Machine
end

