-- ==== Sys2Proof/Machine/ChiselCtl.lean ====
section
/-! DEFINITION. Running and waking Chisel cores, their memory window and the outfeed (R321, R322, R324 to R327). -/

namespace Sys2Proof.Machine

/-! ## CHS_CTRL (R321, R326) -/

/-- A core is started at START_PC (R326). What it holds from an earlier run stays, but for its call and loop stacks. -/
def chsRun (n : Nat) (s : State) : State :=
  let p := chsPage n
  let c := chsCore s n
  if !flag s p F.PAGE_CTRL_ENABLE then refuseCfg p s
  else if c.st = .stopped ∨ c.st = .fault then
    setChsCore n { c with st := .running, pc := fld s p F.CHS_CTRL_START_PC, calls := [], loops := [], wait := none,
                          fed := s.mono, pipe := {} } s
  else s

/-- A core is stopped after its current instruction (R326). -/
def chsStop (n : Nat) (s : State) : State :=
  let c := chsCore s n
  if c.st = .running ∨ c.st = .waiting then setChsCore n { c with st := .stopped, wait := none } s else s

/-- A write of CHS_CTRL: RUN, STOP, DOORBELL in that order (R473). -/
def writeChsCtrl (n : Nat) (v : Word) (s : State) : State :=
  let p := chsPage n
  if chsProgSize n ≤ fieldOf v 8 14 then refuseCfg p s
  else
    let s := storePlain p R.CHS_CTRL v s
    actIf v 2 (chsWake n 0) (actIf v 1 (chsStop n) (actIf v 0 (chsRun n) s))

/-- RUN (R326). -/
def execRun (m n : Nat) (v : Word) (s : State) : Result :=
  .next (guardedWrite m (chsPage n) R.CHS_CTRL (v ||| 1#64) (writeChsCtrl n (v ||| 1#64)) s)

/-- STOP (R326). -/
def execStop (m n : Nat) (v : Word) (s : State) : Result :=
  .next (guardedWrite m (chsPage n) R.CHS_CTRL (v ||| 2#64) (writeChsCtrl n (v ||| 2#64)) s)

/-- DOORBELL (R321). -/
def execDoorbell (m n : Nat) (v : Word) (s : State) : Result :=
  .next (guardedWrite m (chsPage n) R.CHS_CTRL (v ||| 4#64) (writeChsCtrl n (v ||| 4#64)) s)

/-! ## Wakes and posts (R321, R322) -/

/-- WAKE (R321): device time crossing a multiple of TIMER_US (cause 4), or a batch boundary of the core's region (cause 1)
where no plan runs its batches, whose beginnings raise it of themselves. The other causes come with the commands that raise
them. -/
def execWake (n cause : Nat) (s : State) : Result :=
  if 68 ≤ n then .next s
  else if cause = 1 then
    .next (if (planOf s (wakeRegion s n).1 (wakeRegion s n).2).isSome then chsEndWait n s else chsWake n 1 s)
  else if cause = 4 then
    let u := fld s (chsPage n) F.CHS_CFG_TIMER_US * usUnits
    if u = 0 then .next s else .next (chsWake n 4 (advanceTo ((devTime s / u + 1) * u) s))
  else .next (chsEndWait n s)

/-- CHISEL_POST (R290, R322). -/
def execChiselPost (h : Nat) (s : State) : Result :=
  .next (tickAction h 0x0E (fun o s =>
    let n := 64 + o.arg8 % 4
    if pageGated s (chsPage n) then (mkRefused, s)
    else
      let c := chsCore s n
      let d := evalDetector (chsPage n) S.CHS_POST_OVF (decide (16 ≤ c.posts.length)) s
      if d.1 then (mkDropped, noteDropped true (setSticky (chsPage n) S.CHS_POST_OVF d.2))
      else
        let x : ChsPost := ⟨o.arg64 % 2 ^ 32, timeNs o.time + timeSeconds o.time % 2 ^ 18 * 2 ^ 30⟩
        (0, chsEndWait n (setChsCore n { c with posts := c.posts ++ [x] } d.2))) s)

/-! ## Timers (R318, R323, R327) -/

/-- WATCHDOG (R327). -/
def execWatchdog (n : Nat) (s : State) : Result :=
  let us := fld s (chsPage n) F.CHS_CFG_WATCHDOG_US
  if !chsRunning s n || decide (us = 0) then .next s
  else .next (chsFault n 5 (advanceMono ((chsCore s n).fed + us * usUnits) s))

/-- The instruction a running core is at. -/
def chsAt (s : State) (n : Nat) : Option ChsInstr :=
  if chsRunning s n then chsDecode n (chsCore s n) (wtGet (chsCore s n).prog (chsCore s n).pc) else none

/-- H_LOAD_TIMEOUT (R318, R327): the load of the instruction the core is at has not returned. -/
def execHLoadTimeout (n : Nat) (s : State) : Result :=
  match chsAt s n with
  | some i => .next (if (chsMoves i).any (fun m => decide (m.mem = 2) && !m.store) then chsFault n 6 s else s)
  | none => .next s

/-- BRD_TIMEOUT (R323, R327): the BRD the core is at has not returned. -/
def execBrdTimeout (n : Nat) (s : State) : Result :=
  match chsAt s n with
  | some i => .next (if i.op = 0x0C then chsFault n 7 s else s)
  | none => .next s

/-! ## Registers (R312, R326) -/

/-- CHS_STATUS. -/
def readChsStatus (s : State) (n : Nat) : Word :=
  let c := chsCore s n
  let st := match c.st with
    | .stopped => 0 | .running => 1 | .waiting => 2 | .fault => 3 | .retired => 4
  BitVec.ofNat 64 (st + (if c.outq.isEmpty then 0 else 8) + c.pc % 2 ^ 14 * 2 ^ 8 +
    masterClaim s (chsMaster n) % 2 ^ 16 * 2 ^ 32 + c.user % 2 ^ 14 * 2 ^ 48)

/-- CHL_POST. -/
def readChlPost (s : State) (n : Nat) : Word := BitVec.ofNat 64 (chsCore s n).posts.length

/-- A core register by index. -/
def chsRegGet (c : ChsCore) (k : Nat) : Word :=
  if k < 16 then (c.dReg k).setWidth 64
  else if k < 24 then
    let a := c.aReg ((k - 16) / 2)
    if k % 2 = 0 then a.setWidth 64 else (a >>> 64).setWidth 64
  else if k < 32 then (c.gReg (k - 24)).setWidth 64
  else if k = 40 then c.lc.setWidth 64
  else if k = 41 then BitVec.ofNat 64 c.pc
  else if k = 42 then BitVec.ofNat 64 ((if c.z then 1 else 0) + (if c.n then 2 else 0) + (if c.v then 4 else 0))
  else 0

/-- A core register written by index. -/
def chsRegSet (n k : Nat) (w : Word) (c : ChsCore) : ChsCore :=
  if k < 16 then c.setD k (w.setWidth 48)
  else if k < 24 then
    let i := (k - 16) / 2
    let a := c.aReg i
    c.setA i (if k % 2 = 0 then a.extractLsb' 64 40 ++ w else w.setWidth 40 ++ a.extractLsb' 0 64)
  else if k < 32 then c.setG (k - 24) (w.setWidth 48)
  else if k = 40 then { c with lc := w.setWidth 24 }
  else if k = 41 then { c with pc := w.toNat % chsProgSize n }
  else if k = 42 then { c with z := bitOf w 0, n := bitOf w 1, v := bitOf w 2 }
  else c

/-- The memory window may reach program memory and core registers only while the core is STOPPED or in FAULT (R326). -/
def chsWindowOpen (c : ChsCore) : Bool := decide (c.st = .stopped ∨ c.st = .fault)

/-- The index steps after an access with AUTO_INC. -/
def chsWindowStep (n : Nat) (s : State) : State :=
  let p := chsPage n
  if flag s p F.CHS_MEM_ADDR_AUTO_INC then
    setFld p F.CHS_MEM_ADDR_INDEX ((fld s p F.CHS_MEM_ADDR_INDEX + 1) % 2 ^ 16) s
  else s

/-- Words of a space of the window. -/
def chsSpaceSize (n space : Nat) : Nat := if space = 0 then chsProgSize n else if space = 3 then 2 ^ 16 else chsDataSize n

/-- A write of CHS_MEM_DATA (R326). -/
def writeChsMem (n : Nat) (v : Word) (s : State) : State :=
  let p := chsPage n
  let k := fld s p F.CHS_MEM_ADDR_INDEX
  let space := fld s p F.CHS_MEM_ADDR_SPACE
  let c := chsCore s n
  let s :=
    if ((space = 0 ∨ space = 3) ∧ chsWindowOpen c = false) ∨ chsSpaceSize n space ≤ k then refuseCfg p s
    else if space = 0 then setChsCore n { c with prog := wtSet c.prog k v } s
    else if space = 3 then setChsCore n (chsRegSet n k v c) s
    else setChsCore n (chsMemSet n (space - 1) k (v.setWidth 48) c) s
  chsWindowStep n s

/-- A read of CHS_MEM_DATA (R326). -/
def readChsMem (n : Nat) (s : State) : Word × State :=
  let p := chsPage n
  let k := fld s p F.CHS_MEM_ADDR_INDEX
  let space := fld s p F.CHS_MEM_ADDR_SPACE
  let c := chsCore s n
  let w : Word :=
    if ((space = 0 ∨ space = 3) ∧ chsWindowOpen c = false) ∨ chsSpaceSize n space ≤ k then 0
    else if space = 0 then wtGet c.prog k
    else if space = 3 then chsRegGet c k
    else (chsMemGet n c (space - 1) k).setWidth 64
  (w, chsWindowStep n s)

/-- CHS_MEM_DATA (R326): a write of a word, or a read. -/
def execChsMemData (m n : Nat) (w : Option Word) (s : State) : Result :=
  match w with
  | some v => .next (guardedWrite m (chsPage n) R.CHS_MEM_DATA v (writeChsMem n v) s)
  | none => .next (if pageGated s (chsPage n) then setRd 0 s else let r := readChsMem n s; setRd r.1 r.2)

/-- A write of CHS_CFG: WAKE_DIE is of Chisel-L only. -/
def writeChsCfg (n : Nat) (v : Word) (s : State) : State :=
  storePlain (chsPage n) R.CHS_CFG (if chsIsL n then v else v &&& ~~~ 0x300000#64) s

/-- A write of CHL_HBASE: a multiple of 64 KiB. -/
def writeChlHbase (n : Nat) (v : Word) (s : State) : State :=
  if !chsIsL n then s
  else if v.toNat % 65536 ≠ 0 then refuseCfg (chsPage n) s
  else storePlain (chsPage n) R.CHL_HBASE v s

/-- A write of CHS_CNT_CLEAR. -/
def writeChsCntClear (n : Nat) (v : Word) (s : State) : State :=
  if bitOf v 0 then resetRegs (chsPage n) R.CHS_CNT 7 s else s

/-- ENABLE of the page is written: at 0 the core is stopped (R71). -/
def chsEnable (n : Nat) (on : Bool) (s : State) : State := if on then s else chsStop n s

/-- The soft reset of a core: STOPPED, registers and queues cleared, memories kept (R326). -/
def resetChs (n : Nat) (s : State) : State :=
  updChs n (fun c =>
    { prog := c.prog, t := c.t, b := c.b, st := if c.st = .retired then .retired else .stopped }) s

/-! ## Outfeed (R324, R325) -/

/-- Bytes of an outfed word. -/
def outBytes (fmt : Nat) : Nat := if fmt = 0 then 6 else operandBytes fmt

/-- The bytes of one word and its clamps (R31, R32, R35, R325). -/
def outWord (fmt shift : Nat) (d : BitVec 48) : List Byte × Nat :=
  if fmt = 0 then (leBytes 6 d.toNat, 0)
  else
    let m := operandMax fmt
    let a := requantise m (dRe d) shift
    let b := requantise m (dIm d) shift
    (leBytes (operandBytes fmt) (operandCode fmt a.1 b.1), (if a.2 then 1 else 0) + (if b.2 then 1 else 0))

/-- Whether a descriptor is well formed (R324, R325). -/
def outLegal (n : Nat) (o : ChsOut) : Bool :=
  let fmt := (o.w0.extractLsb' 17 3).toNat
  let count := o.w1.toNat
  decide (o.w0.toNat < 2 ^ 26 ∧ fmt ≤ 3 ∧ 1 ≤ count ∧ count ≤ 65536 ∧ (o.w0.extractLsb' 0 16).toNat < chsDataSize n ∧
    o.w2.toNat % 64 = 0 ∧ count * outBytes fmt % 64 = 0 ∧ o.w3 = 0)

/-- Writes of 64 bytes each, one refused not stopping the rest; whether any was refused (R325). -/
def outWrite (a : Nat) : Nat → List Byte → State → Bool × State
  | 0, _, s => (false, s)
  | k + 1, l, s =>
    if l.isEmpty then (false, s)
    else
      let r := hbmWrite a (l.take 64) s
      let t := outWrite (a + 64) k (l.drop 64) r.2
      (r.1 || t.1, t.2)

/-- The oldest descriptor of a core is carried out (R324, R325). -/
def outfeed (n : Nat) (o : ChsOut) (s : State) : State :=
  let p := chsPage n
  let d := evalDetector p S.CHS_OUT_REFUSED (!outLegal n o) s
  let s := d.2
  if d.1 then setSticky p S.CHS_OUT_REFUSED s
  else
    let c := chsCore s n
    let fmt := (o.w0.extractLsb' 17 3).toNat
    let ws := (List.range o.w1.toNat).map (fun k =>
      outWord fmt (o.w0.extractLsb' 20 6).toNat
        (chsMemGet n c (if o.w0.getLsbD 16 then 1 else 0) ((o.w0.extractLsb' 0 16).toNat + k)))
    let bytes := ws.flatMap (·.1)
    let s := countK p R.CHS_CNT 5 ((ws.map (·.2)).sum) s
    let r := outWrite o.w2.toNat (bytes.length / 64 + 1) bytes s
    stickyIf r.1 p S.CHS_OUT_REFUSED r.2

/-- OUTFEED (R324, R325). -/
def execOutfeed (n : Nat) (s : State) : Result :=
  match (chsCore s n).outq with
  | [] => .next s
  | o :: l =>
    if pageGated s (chsPage n) then .next s
    else .next (outfeed n o (updChs n (fun c => { c with outq := l }) s))

end Sys2Proof.Machine
end

