-- ==== Sys2Proof/Machine/Tally.lean ====
section
/-! DEFINITION. Tally (R226 to R239): slots in HBM, preloads, the addition of dumps in batch order, and the boundaries at
which integrations begin and end. -/

namespace Sys2Proof.Machine

/-! ## Slots (R226, R227) -/

/-- A slot header (R227). -/
structure SlotHdr where
  int : Nat
  counted : Nat
  missed : Nat
  row : Nat
  col : Nat
  flags : Nat
  cause : Nat
  producer : Nat
  first : Nat
  batches : Nat
  deriving DecidableEq, Repr

/-- A slot as read: its header and its 2,048 components, real and imaginary parts in turn (R226). -/
structure SlotVal where
  hdr : SlotHdr
  vals : List Code48
  deriving DecidableEq, Repr

/-- The 64 bytes of a header. -/
def SlotHdr.bytes (h : SlotHdr) : List Byte :=
  leBytes 8 h.int ++ leBytes 4 h.counted ++ leBytes 4 h.missed ++ leBytes 2 h.row ++ leBytes 2 h.col
    ++ leBytes 2 h.flags ++ leBytes 1 h.cause ++ leBytes 1 h.producer ++ leBytes 8 h.first ++ leBytes 4 h.batches
    ++ List.replicate 28 0

/-- The header 64 bytes spell. -/
def hdrOf (l : List Byte) : SlotHdr :=
  let f := fun o n => ofLeBytes ((l.drop o).take n)
  ⟨f 0 8, f 8 4, f 12 4, f 16 2, f 18 2, f 20 2, f 22 1 % 128, f 23 1, f 24 8, f 32 4⟩

/-- `n` 48-bit codes packed in bytes (R35). -/
def codesOf : Nat → List Byte → List Code48
  | 0, _ => []
  | n + 1, l => BitVec.ofNat 48 (ofLeBytes (l.take 6)) :: codesOf n (l.drop 6)

/-- Codes packed in bytes (R35). -/
def codeBytes (l : List Code48) : List Byte := l.flatMap (fun c => leBytes 6 c.toNat)

/-- The blocks of a slot in order, each with whether it reads poisoned: such a block is VOID of cause 4 (R53). -/
def readBlocks (float : Bool) (a : Nat) : Nat → State → List (Bool × List Code48) × State
  | 0, s => ([], s)
  | n + 1, s =>
    let r := hbmRead a 192 s
    let bad := r.1.poison || r.1.err
    let q := readBlocks float (a + 192) n r.2
    ((bad, if bad then List.replicate 32 (code48MakeVoid float 4) else codesOf 32 r.1.bytes) :: q.1, q.2)

/-- Components of blocks, in order. -/
def blockVals (l : List (Bool × List Code48)) : List Code48 := l.flatMap (·.2)

/-- Components in poisoned blocks. -/
def poisonedVals (l : List (Bool × List Code48)) : Nat := 32 * (l.filter (·.1)).length

/-- All ones in 64 bits: INT of a slot that holds no integration (R227). -/
def noInt : Nat := 2 ^ 64 - 1

/-! Flags of a header. -/
abbrev fInf : Nat := 0
abbrev fVoid : Nat := 1
abbrev fPhase : Nat := 2
abbrev fBias : Nat := 3
abbrev fImage : Nat := 4
abbrev fCarried : Nat := 5
abbrev fShort : Nat := 6
abbrev fCombined : Nat := 7
abbrev fSkipCarry : Nat := 8
abbrev fHdrLost : Nat := 9

/-- Flags with one more set. -/
def orFlag (f b : Nat) : Nat := f ||| 2 ^ b

/-- Count of a saturating 32-bit field. -/
def sat32 (a b : Nat) : Nat := satAdd 32 a b

/-- Components of a list that are VOID or NaN, or infinite. -/
def countVoid (float : Bool) (l : List Code48) : Nat := (l.filter (code48Void float)).length
def countInf (float : Bool) (l : List Code48) : Nat := (l.filter (code48Inf float)).length

/-- Components that newlyIs VOID, and that newlyIs infinite, from one list to the next. -/
def newlyIs (p : Code48 → Bool) (old new : List Code48) : Nat :=
  ((old.zip new).filter (fun x => !p x.1 && p x.2)).length

/-- Cause of the first component that newlyIs VOID: an INF conflict, or the cause its NaN carries (R50, R51). -/
def turnedCause (float : Bool) (old new : List Code48) : Nat :=
  match (old.zip new).find? (fun x => !code48Void float x.1 && code48Void float x.2) with
  | some x => if float then t48Cause x.2 else 1
  | none => 0

/-! ## Integrations of a context -/

/-- The integration of a number in a context. -/
def TlyCtx.integ (c : TlyCtx) (n : Nat) : Option Integ := c.ints.find? (fun g => decide (g.num = n))

/-- A context with one of its integrations replaced. -/
def TlyCtx.setInteg (c : TlyCtx) (g : Integ) : TlyCtx :=
  { c with ints := c.ints.map (fun x => if x.num = g.num then g else x) }

/-- The integration of a number changed in place. -/
def updInteg (d ctx n : Nat) (f : Integ → Integ) (s : State) : State :=
  let c := ctxOf s d ctx
  match c.integ n with
  | some g => setCtx d ctx (c.setInteg (f g)) s
  | none => s

/-- A list with an element, once. -/
def withElem (l : List Nat) (e : Nat) : List Nat := if e ∈ l then l else e :: l

/-! ## Components that turn VOID or infinite (R51, R53, R234) -/

/-- Components of slot number `e` that additions turned VOID and infinite: counted, and each sticky bit set the first time in
the integration (R234). -/
def noteFirst (d ctx n e nv ni : Nat) (s : State) : State :=
  let known := fun (f : Integ → List Nat) (s : State) => (((ctxOf s d ctx).integ n).map f).getD []
  let s :=
    if nv = 0 then s
    else
      countK (tlyPage d) R.TLY_CNT 8 nv (if e ∈ known (·.voided) s then s else
        updInteg d ctx n (fun g => { g with voided := withElem g.voided e }) (setSticky (tlyPage d) S.TLY_SLOT_VOID s))
  if ni = 0 then s
  else
    countK (tlyPage d) R.TLY_CNT 9 ni (if e ∈ known (·.infed) s then s else
      updInteg d ctx n (fun g => { g with infed := withElem g.infed e }) (setSticky (tlyPage d) S.TLY_SLOT_INF s))

/-- A header whose slot holds a VOID or NaN of a cause: the first one is recorded (R51). -/
def SlotHdr.turnVoid (h : SlotHdr) (cause : Nat) : SlotHdr :=
  if h.flags.testBit fHdrLost then h
  else { h with flags := orFlag h.flags fVoid, cause := if h.cause = 0 then cause else h.cause }

/-- A header whose slot holds an infinity. -/
def SlotHdr.turnInf (h : SlotHdr) : SlotHdr :=
  if h.flags.testBit fHdrLost then h else { h with flags := orFlag h.flags fInf }

/-- What an addition that changed components leaves in the header (R51, R234). -/
def turnedHdr (float : Bool) (h : SlotHdr) (old new : List Code48) : SlotHdr :=
  let h := if newlyIs (code48Void float) old new = 0 then h else h.turnVoid (turnedCause float old new)
  if newlyIs (code48Inf float) old new = 0 then h else h.turnInf

/-- What `n` components in poisoned blocks leave in the page (R53, R234). -/
def notePoisoned (d n : Nat) (s : State) : State :=
  if n = 0 then s
  else
    countK (tlyPage d) R.TLY_CNT 8 n (setSticky (tlyPage d) S.TLY_SLOT_VOID (setSticky (tlyPage d) S.TLY_HBM_UNCORR s))

/-! ## Headers (R227, R230, R236) -/

/-- PRODUCER byte: producer and SPLIT code (R227). -/
def producerByte (m split : Nat) : Nat := m + split * 16

/-- Jobs of producer `m` of `k` in skipped integrations of the given lengths (R236). -/
def carriedJobs (carry : List Nat) (m k : Nat) : Nat := (carry.map (fun b => (b + k - 1 - m) / k)).sum

/-- A slot of a context: its index and channel, the tile and producer it holds. -/
structure SlotId where
  slot : Nat
  chan : Nat
  row : Nat
  col : Nat
  producer : Nat
  split : Nat
  deriving DecidableEq, Repr

/-- Producers over which the batches of a slot are spread: the split, or the members of the gang (R54, R263). -/
def slotWays (s : State) (c : TlyCtx) (q : SlotId) : Nat := if gangMode s c.region = 2 then gangSize s else 2 ^ q.split

/-- A slot with the producer it holds: in a batch-wise gang region member a is producer a (R263). -/
def slotProducer (s : State) (c : TlyCtx) (q : SlotId) : SlotId :=
  if gangMode s c.region = 2 then { q with producer := gangMember s } else q

/-- The batches of an integration as its headers give them: LENGTH until it has closed. -/
def Integ.batchCount (g : Integ) (length : Nat) : Nat :=
  match g.stop with
  | some e => e - g.first
  | none => length

/-- A header as it begins (R230 step 1): the integration's flags, nothing counted but what skipped integrations leave.
`ways`: producers of its slot. -/
def freshHdr (g : Integ) (length ways : Nat) (q : SlotId) : SlotHdr :=
  ⟨g.num, 0, min (2 ^ 32 - 1) (carriedJobs g.carry q.producer ways), q.row, q.col,
    if g.carry = [] then g.flags else orFlag g.flags fSkipCarry, 0, producerByte q.producer q.split, g.first,
    g.batchCount length⟩

/-! ## Preload (R238, R52, R54) -/

/-- A loaded image or bias value in the storage format (R48, R49, R52). Where no conversion is needed the code is taken as
it stands, a T48 zero whose F is not 0 too: DESIGN CHOICE, R43 does not say whether it is stored with F cleared (log entry
83). -/
def loadCode (float t48 : Bool) (c : Code48) : Code48 :=
  if code48Void t48 c then code48MakeVoid float 2
  else if float && !t48 then t48OfI48 2 (i48OfCode c)
  else if !float && t48 then i48Code (i48OfT48 c).1
  else c

/-- A loaded block in the storage format. A poisoned one is VOID of cause 4 by R53, not of cause 2: DESIGN CHOICE, R52 and
R53 both name a cause (log entry 83). -/
def loadBlockCodes (float t48 : Bool) (b : Bool × List Code48) : Bool × List Code48 :=
  (b.1, if b.1 then b.2.map (fun _ => code48MakeVoid float 4) else b.2.map (loadCode float t48))

/-- Cause of the first VOID or NaN among loaded blocks, 0 for none (R51). -/
def loadedCause (float : Bool) : List (Bool × List Code48) → Nat
  | [] => 0
  | b :: l => if b.1 then 4 else if b.2.any (code48Void float) then 2 else loadedCause float l

/-- Flags and cause of freshly loaded blocks (R51, R52, R53). -/
def loadedHdr (float : Bool) (h : SlotHdr) (l : List (Bool × List Code48)) : SlotHdr :=
  let h := if loadedCause float l = 0 then h else h.turnVoid (loadedCause float l)
  if countInf float (blockVals l) = 0 then h else h.turnInf

/-- A slot loaded from blocks: header, values, and what poisoned blocks leave in the page. -/
def loadSlot (d : Nat) (float : Bool) (h : SlotHdr) (l : List (Bool × List Code48)) (s : State) : SlotVal × State :=
  (⟨loadedHdr float h l, blockVals l⟩, notePoisoned d (poisonedVals l) s)

/-- Counts that begin at those of an image (R238). `lost`: its header is lost. -/
def carriedHdr (h img : SlotHdr) (lost : Bool) : SlotHdr :=
  { h with
    flags := orFlag h.flags fCarried
    counted := if lost then 2 ^ 32 - 1 else img.counted
    missed := sat32 h.missed (if lost then 2 ^ 32 - 1 else img.missed) }

/-- The preload of a stale slot (R238): zero for producers other than 0 (R54); a bias pair stands in all 64 blocks. -/
def preloadSlot (d : Nat) (c : TlyCtx) (g : Integ) (q : SlotId) (s : State) : SlotVal × State :=
  let h := freshHdr g c.length (slotWays s c q) q
  let e := q.chan * c.slots + q.slot
  if c.preload = 0 || decide (q.producer ≠ 0) then (⟨h, List.replicate 2048 (code48OfInt c.float 0)⟩, s)
  else if c.preload = 1 then
    let r := hbmRead (g.preBase + e / 16 * 192 + e % 16 * 12) 12 s
    let block := (List.replicate 16 (codesOf 2 r.1.bytes)).flatten
    loadSlot d c.float { h with flags := orFlag h.flags fBias }
      (List.replicate 64 (loadBlockCodes c.float c.float (r.1.poison || r.1.err, block))) r.2
  else
    let a := g.preBase + e * slotBytes
    let r := hbmRead a 64 s
    let b := readBlocks c.imgT48 (a + 64) 64 r.2
    let img := hdrOf r.1.bytes
    let lost := r.1.poison || r.1.err || img.flags.testBit fHdrLost
    let h := { h with flags := orFlag h.flags fImage }
    loadSlot d c.float (if c.carryCounts then carriedHdr h img lost else h) (b.1.map (loadBlockCodes c.float c.imgT48)) b.2

/-! ## Slots in storage -/

/-- Whether a slot still has to be preloaded for an integration: its header names another one (R230). -/
def slotStale (c : TlyCtx) (g : Integ) (q : SlotId) (hdr : HbmRead) : Bool :=
  if hdr.poison || hdr.err then !decide ((q.chan * c.slots + q.slot) ∈ g.touched)
  else decide ((hdrOf hdr.bytes).int ≠ g.num)

/-- A slot is written back. -/
def putSlot (c : TlyCtx) (g : Integ) (q : SlotId) (v : SlotVal) (s : State) : State :=
  (hbmWrite (c.slotAddr (g.num % 2) q.slot q.chan) (v.hdr.bytes ++ codeBytes v.vals) s).2

/-- The header of a slot whose own was struck by an error (R234). -/
def lostHdr (g : Integ) (length ways : Nat) (q : SlotId) : SlotHdr :=
  { freshHdr g length ways q with counted := 2 ^ 32 - 1, missed := 2 ^ 32 - 1, flags := 2 ^ fHdrLost, cause := 0 }

/-- A slot as Tally takes it for an integration: preloaded where it is stale (R230 step 1), its header rewritten where
an error struck it (R234), its poisoned blocks VOID (R53); what an error struck is written back. -/
def takeSlot (d : Nat) (c : TlyCtx) (g : Integ) (q : SlotId) (s : State) : SlotVal × State :=
  let q := slotProducer s c q
  let a := c.slotAddr (g.num % 2) q.slot q.chan
  let r := hbmRead a 64 s
  if slotStale c g q r.1 then preloadSlot d c g q r.2
  else
    let bad := r.1.poison || r.1.err
    let h := if bad then lostHdr g c.length (slotWays s c q) q else hdrOf r.1.bytes
    let b := readBlocks c.float (a + 64) 64 (stickyIf bad (tlyPage d) S.TLY_HDR_LOST r.2)
    let n := poisonedVals b.1
    let v : SlotVal := ⟨if n = 0 then h else h.turnVoid 4, blockVals b.1⟩
    (v, if bad || decide (n ≠ 0) then putSlot c g q v (notePoisoned d n b.2) else b.2)

/-- The slot of an outcome. -/
def TlyItem.slotId (x : TlyItem) : SlotId := ⟨x.slot, x.chan, x.row, x.col, x.producer, x.split⟩

/-! ## Applying outcomes (R230, R231) -/

/-- The first `n` components of a slot turn VOID of cause 3 (R248): counted as they newly do. -/
def injectVoid (d n : Nat) (float : Bool) (v : SlotVal) (s : State) : SlotVal × State :=
  let new := List.replicate n (code48MakeVoid float 3)
  (⟨v.hdr.turnVoid 3, new ++ v.vals.drop n⟩,
    countK (tlyPage d) R.TLY_CNT 8 (newlyIs (code48Void float) (v.vals.take n) new)
      (setSticky (tlyPage d) S.TLY_SLOT_VOID s))

/-- INJECT bits 8 and 10 act on the slot of the next dump, after that dump (R248). -/
def injectSlot (d : Nat) (float : Bool) (v : SlotVal) (s : State) : SlotVal × State :=
  let i := takeArmed (tlyPage d) S.TLY_SLOT_VOID s
  let x := if i.1 then injectVoid d 1 float v i.2 else (v, i.2)
  let j := takeArmed (tlyPage d) S.TLY_HBM_UNCORR x.2
  if j.1 then injectVoid d 32 float x.1 (setSticky (tlyPage d) S.TLY_HBM_UNCORR j.2) else (x.1, j.2)

/-- Stored values plus a dump, the stored value first (R230 step 2, R41). -/
def addDump (float : Bool) (vals : List Code48) (x : List (Int × Int)) : List Code48 :=
  let flat := x.flatMap (fun p => [p.1, p.2])
  (vals.zip flat).map (fun p => code48Add float p.1 (code48OfInt float p.2))

/-- An outcome enters its slot: a dump is added and counted, a miss notice counted (R230). -/
def applySlot (d : Nat) (x : TlyItem) (c : TlyCtx) (g : Integ) (s : State) : State :=
  let q := x.slotId
  let v := takeSlot d c g q s
  match x.kind with
  | .dump =>
    let old := v.1.vals
    let new := addDump c.float old x.values
    let h := turnedHdr c.float v.1.hdr old new
    let s := noteFirst d x.ctx g.num (x.chan * c.slots + x.slot) (newlyIs (code48Void c.float) old new)
      (newlyIs (code48Inf c.float) old new) v.2
    let i := injectSlot d c.float ⟨{ h with counted := sat32 h.counted 1 }, new⟩ s
    countK (tlyPage d) R.TLY_CNT 0 1 (putSlot c g q i.1 i.2)
  | .miss =>
    let h := { v.1.hdr with missed := sat32 v.1.hdr.missed 1 }
    countK (tlyPage d) R.TLY_CNT 1 1 (putSlot c g q ⟨h, v.1.vals⟩ v.2)
  | .resolve => v.2

/-- Whether an outcome settles a job of its integration: not a miss whose job is replayed (R237). -/
def TlyItem.settles (x : TlyItem) : Bool := !x.awaits

/-- The wait an outcome ends or begins (R231). -/
def TlyItem.wait (x : TlyItem) : TlyWait := ⟨x.ctx, x.slot, x.chan, x.batch⟩

/-- A replay's outcome ends the wait of its slot; a miss whose job is replayed begins one (R231). -/
def noteWait (d : Nat) (x : TlyItem) (s : State) : State :=
  let t := tlyDie s d
  let waits := if x.replay then removeFirst (fun w => decide (w = x.wait)) t.waits else t.waits
  setTlyDie d { t with waits := if x.awaits then x.wait :: waits else waits } s

/-- The integration of an outcome. -/
def itemInteg (s : State) (d : Nat) (x : TlyItem) : Option Integ := x.int.bind (ctxOf s d x.ctx).integ

/-- An outcome is off its integration's account; `applied`: its slot is no longer stale. -/
def settleItem (d : Nat) (x : TlyItem) (applied : Bool) (s : State) : State :=
  match x.int with
  | none => s
  | some n =>
    let e := x.chan * (ctxOf s d x.ctx).slots + x.slot
    updInteg d x.ctx n (fun g =>
      { g with
        opened := if x.settles then g.opened - 1 else g.opened
        touched := if applied then withElem g.touched e else g.touched }) s

/-- An outcome is applied; while the page is disabled it is discarded and counted, and where its integration is skipped, or it
belongs to none, discarded (R230, R236, R249). -/
def applyItem (d : Nat) (x : TlyItem) (s : State) : State :=
  let s := noteWait d x s
  if !flag s (tlyPage d) F.PAGE_CTRL_ENABLE then
    settleItem d x false (if x.kind = .resolve then s else countK (tlyPage d) R.TLY_CNT 1 1 s)
  else
    match itemInteg s d x with
    | none => s
    | some g =>
      if g.skipped || decide (x.kind = .resolve) then settleItem d x false s
      else settleItem d x true (applySlot d x (ctxOf s d x.ctx) g s)

/-! ## Batch order (R231, R239) -/

/-- Whether two outcomes belong to one slot. -/
def sameSlot (x y : TlyItem) : Bool := decide (x.ctx = y.ctx ∧ x.slot = y.slot ∧ x.chan = y.chan)

/-- An integration whose image is the context's other buffer continues its sum (R239). -/
def continuesSum (c : TlyCtx) (g : Integ) : Bool :=
  decide (c.preload = 2) && decide (g.preBase = c.base (1 - g.num % 2))

/-- Whether the slot of a dump awaits the replay of an earlier batch, or an earlier dump of it waits (R231). -/
def awaitsEarlier (s : State) (d : Nat) (x : TlyItem) : Bool :=
  let t := tlyDie s d
  t.waits.any (fun w => decide (w.ctx = x.ctx ∧ w.slot = x.slot ∧ w.chan = x.chan ∧ w.batch < x.batch)) ||
    t.reorder.any (fun y => sameSlot x y && decide (y.batch < x.batch))

/-- Whether the slot of an outcome waits to be preloaded from the sum before, which is not yet final (R239). -/
def awaitsSum (c : TlyCtx) (g : Integ) (x : TlyItem) : Bool :=
  continuesSum c g && !decide ((x.chan * c.slots + x.slot) ∈ g.touched) &&
    c.ints.any (fun p => decide (p.num + 1 = g.num) && !p.combined && !p.skipped)

/-- Whether an outcome has to wait: its slot awaits a replay of an earlier batch, or continues a sum that is not yet
final (R231, R239). What is discarded does not wait (R236, R249). -/
def mustWait (s : State) (d : Nat) (x : TlyItem) : Bool :=
  match itemInteg s d x with
  | none => false
  | some g =>
    flag s (tlyPage d) F.PAGE_CTRL_ENABLE && !g.skipped && decide (x.kind ≠ .resolve) &&
      ((decide (x.kind = .dump) && awaitsEarlier s d x) || awaitsSum (ctxOf s d x.ctx) g x)

/-- The reorder store gives up what need no longer wait, in order, as often as something leaves it (R231). -/
def drainFuel (d : Nat) : Nat → State → State
  | 0, s => s
  | n + 1, s =>
    let t := tlyDie s d
    match t.reorder.find? (fun x => !mustWait s d x) with
    | none => s
    | some x =>
      drainFuel d n (applyItem d x (setTlyDie d { t with reorder := removeFirst (fun y => decide (y = x)) t.reorder } s))

/-- The reorder store gives up what need no longer wait. -/
def drainReorder (d : Nat) (s : State) : State := drainFuel d (tlyDie s d).reorder.length s

/-- Whether an outcome can be taken now: applied at once, or put into the reorder store of 256. -/
def canTake (s : State) (d : Nat) (x : TlyItem) : Bool :=
  !mustWait s d x || decide ((tlyDie s d).reorder.length < 256)

/-- Outcomes in the inbox that come before `x` in its slot: of earlier batches, and of its own batch sent before it
(R231). -/
def outcomesAhead (x : TlyItem) (l : List TlyItem) : List TlyItem :=
  l.filter (fun y => sameSlot x y && decide (y.batch < x.batch)) ++
    (l.takeWhile (fun y => !decide (y = x))).filter (fun y => sameSlot x y && decide (y.batch = x.batch))

/-- An outcome leaves the inbox: into its slot, or into the reorder store. One that finds no room stays. -/
def takeOne (d : Nat) (s : State) (x : TlyItem) : State :=
  let t := tlyDie s d
  let inbox := removeFirst (fun y => decide (y = x)) t.inbox
  if !canTake s d x then s
  else if mustWait s d x then
    let s := setTlyDie d { t with inbox := inbox, reorder := t.reorder ++ [x] } s
    if x.kind = .dump then countK (tlyPage d) R.TLY_CNT 2 1 s else s
  else drainReorder d (applyItem d x (setTlyDie d { t with inbox := inbox } s))

/-- Whether a dump waits at its lathe: it has to wait, and the reorder store is full (R231). -/
def dumpHeld (s : State) (d : Nat) (x : TlyItem) : Bool := decide (x.kind = .dump) && !canTake s d x

/-- The oldest outcome of a kind that Tally can take is taken, behind those that come before it in its slot (R231). A dump
that has to wait while the store is full stays at its lathe, sets REORDER_FULL, and its cycles count. -/
def tallyTake (d : Nat) (kinds : List TlyKind) (held : Nat) (s : State) : State :=
  let l := (tlyDie s d).inbox.filter (fun x => decide (x.kind ∈ kinds))
  let t := match l.find? (canTake s d) with
    | some x => (outcomesAhead x (tlyDie s d).inbox ++ [x]).foldl (takeOne d) s
    | none => s
  if l.any (dumpHeld s d) then countK (tlyPage d) R.TLY_CNT 10 held (setSticky (tlyPage d) S.TLY_REORDER_FULL t) else t

/-- DUMP (R230). `held`: cycles the lathe was held for the reorder store. -/
def execDump (die held : Nat) (s : State) : Result := .next (tallyTake die [.dump, .resolve] held s)

/-- MISS_NOTICE (R230, R232). -/
def execMissNotice (die : Nat) (s : State) : Result := .next (tallyTake die [.miss] 0 s)

/-- An outcome is sent to Tally. -/
def tallySend (d : Nat) (x : TlyItem) (s : State) : State :=
  let t := tlyDie s d
  setTlyDie d { t with inbox := t.inbox ++ [x] } s

/-! ## Integration boundaries (R235, R236) -/

/-- The integration in progress: the last one that is not yet stopped. -/
def TlyCtx.current (c : TlyCtx) : Option Integ := if c.running then c.ints.getLast? else none

/-- A boundary closes an integration: its batches are fixed, SHORT where it holds fewer than LENGTH, or where the page is
disabled as the boundary passes (R235, R249). A skipped one leaves its jobs to the next. -/
def stopInteg (live : Bool) (e : Nat) (c : TlyCtx) : TlyCtx :=
  match c.ints.getLast? with
  | none => c
  | some g =>
    if g.stop.isSome then c
    else
      let short := decide (c.length ≠ 0 ∧ e - g.first < c.length) || !live
      let g := { g with stop := some e, flags := if short then orFlag g.flags fShort else g.flags }
      if g.skipped then { c with ints := c.ints.dropLast, skipCarry := c.skipCarry ++ [e - g.first] }
      else { c with ints := c.ints.dropLast ++ [g] }

/-- An integration begins at a boundary; it is skipped where its buffer is still in use (R236). Answers whether it was
skipped. -/
def openInteg (b : Nat) (entries : List CutEntry) (c : TlyCtx) : TlyCtx × Bool :=
  let n := c.nextNum
  let ints := c.ints.filter (fun g => !g.freed)
  let skip := ints.any (fun g => decide (g.num % 2 = n % 2))
  let g : Integ :=
    { num := n, first := b, stop := none, opened := 0, touched := [], flags := 0,
      carry := if skip then [] else c.skipCarry, skipped := skip, entries := entries, closed := false, partials := [],
      combined := false, freed := false, chans := [], recs := [], serial := 0, pre := c.word 4, rings := c.word 5, voided := []
      infed := [] }
  ({ c with
      ints := ints ++ [g], nextNum := n + 1, running := true
      skipCarry := if skip then c.skipCarry else []
      skips := if skip then satAdd 16 c.skips 1 else c.skips }, skip)

/-- What has happened to a context at boundaries so far: integrations skipped, and whether one began or ended. -/
structure Rolled where
  ctx : TlyCtx
  skips : Nat
  moved : Bool
  deriving DecidableEq, Repr

/-- Integrations follow one another back to back up to batch `b`: the next begins at each multiple of LENGTH not after
`b` (`strict`: before `b`). -/
def rollTo (live strict : Bool) (b : Nat) (entries : List CutEntry) : Nat → Rolled → Rolled
  | 0, r => r
  | n + 1, r =>
    match r.ctx.current with
    | none => r
    | some g =>
      let e := g.first + r.ctx.length
      if r.ctx.length = 0 || decide (b < e) || (strict && decide (b = e)) then r
      else
        let o := openInteg e entries (stopInteg live e r.ctx)
        rollTo live strict b entries n ⟨o.1, r.skips + (if o.2 then 1 else 0), true⟩

/-- A due request acts at its boundary (R235). -/
def actRequest (live : Bool) (beta : Nat) (entries : List CutEntry) (r : Rolled) (q : TlyReq) : Rolled :=
  let b := if q.notBefore = 0 then beta else q.notBefore
  let r := rollTo live true b entries (beta + 1) r
  let c := if r.ctx.running then stopInteg live b r.ctx else r.ctx
  if q.start then
    if r.ctx.running && decide (r.ctx.current.map (·.first) = some b) then r
    else
      let o := openInteg b entries c
      ⟨o.1, r.skips + (if o.2 then 1 else 0), true⟩
  else ⟨{ c with running := false }, r.skips, r.moved || r.ctx.running⟩

/-- Requests in the order they act: by boundary, ends before starts (R235, R292). -/
def requestOrder (beta : Nat) (a b : TlyReq) : Bool :=
  let p := fun (q : TlyReq) => 2 * (if q.notBefore = 0 then beta else q.notBefore) + (if q.start then 1 else 0)
  decide (p a ≤ p b)

/-- The integration a batch belongs to: the newest that began at or before it and did not end before it. -/
def TlyCtx.integAt (c : TlyCtx) (b : Nat) : Option Integ :=
  c.ints.reverse.find? (fun g => decide (g.first ≤ b) && decide (∀ e ∈ g.stop, b < e))

/-- A batch of a region reaches Tally (R235): due requests act, integrations roll on. Answers the integration the batch
belongs to, its first batch, and whether an integration began or ended. -/
def tallyBatch (d ctx beta : Nat) (entries : List CutEntry) (s : State) : (Option Nat × Nat × Bool) × State :=
  let c := ctxOf s d ctx
  let live := flag s (tlyPage d) F.PAGE_CTRL_ENABLE
  let due := sortBy (requestOrder beta) (c.reqs.filter (fun q => decide (q.notBefore ≤ beta)))
  let r : Rolled := ⟨{ c with reqs := c.reqs.filter (fun q => !decide (q.notBefore ≤ beta)) }, 0, false⟩
  let r := due.foldl (actRequest live beta entries) r
  let r := rollTo live false beta entries (beta + 1) r
  let s := setCtx d ctx r.ctx s
  let s := if r.skips = 0 then s else countK (tlyPage d) R.TLY_CNT 4 r.skips (setSticky (tlyPage d) S.TLY_SKIPPED s)
  match r.ctx.integAt beta with
  | some g => ((some g.num, g.first, r.moved), s)
  | none => ((none, beta, r.moved), s)

/-- The plan of a context has become invalid: its integration closes at batch `e` (R235). -/
def tallyPlanGone (d ctx e : Nat) (s : State) : State :=
  let c := ctxOf s d ctx
  if c.running then
    setCtx d ctx { stopInteg (flag s (tlyPage d) F.PAGE_CTRL_ENABLE) e c with running := false } s
  else s

/-- A job is issued for an integration. -/
def tallyIssue (d ctx n : Nat) (s : State) : State := updInteg d ctx n (fun g => { g with opened := g.opened + 1 }) s

/-- A request of a context. -/
def tallyRequest (d ctx : Nat) (q : TlyReq) (s : State) : State :=
  let c := ctxOf s d ctx
  setCtx d ctx { c with reqs := c.reqs ++ [q] } s

end Sys2Proof.Machine
end

