-- ==== Sys2Proof/Machine/Plan.lean ====
section
/-! DEFINITION. Pass plans (R186 to R199, R209 to R211, R228): the checks of a plan write, its planned load, its fences,
and the end of a plan. -/

namespace Sys2Proof.Machine

/-! ## What a plan names in HBM -/

/-- Owner numbers of the fences a plan or a weight set holds. -/
abbrev planFence (d r : Nat) : Nat := 0x1000 + 16 * d + r
abbrev wsetFence (d i : Nat) : Nat := 0x2000 + 16 * d + i

/-- The cut list at an address: its entries up to the first END or the given number (R183). -/
def readCut : Nat → Nat → State → List CutEntry × State
  | 0, _, s => ([], s)
  | n + 1, a, s =>
    let r := hbmRead a 32 s
    let w := wordsOf 4 r.1.bytes
    let e : CutEntry := ⟨w.getD 0 0, w.getD 1 0, w.getD 2 0, w.getD 3 0⟩
    if e.op = 0 then ([], r.2)
    else
      let q := readCut n (a + 32) r.2
      (e :: q.1, q.2)

/-- The stage table at an address (R189). -/
def readStages : Nat → Nat → State → List StageEntry × State
  | 0, _, s => ([], s)
  | n + 1, a, s =>
    let r := hbmRead a 16 s
    let w := wordsOf 2 r.1.bytes
    let q := readStages n (a + 16) r.2
    (⟨w.getD 0 0, w.getD 1 0⟩ :: q.1, q.2)

def planWords (w : List Word) (k : Nat) : Word := w.getD k 0
def pwRegion (w : List Word) : Nat := fieldOf (planWords w 0) 1 4
def pwCtx (w : List Word) : Nat := fieldOf (planWords w 0) 6 4
def pwStages (w : List Word) : Nat := fieldOf (planWords w 0) 16 16
def pwEntries (w : List Word) : Nat := fieldOf (planWords w 0) 32 32

/-! ## Field checks (R186, R188, R189, R210, R228) -/

/-- Whether a word has no bit outside a mask. -/
def onlyBits (w mask : Word) : Bool := decide (w &&& ~~~ mask = 0)

/-- Tiles an entry expands into (R184). -/
def CutEntry.tileCount (e : CutEntry) : Nat :=
  let b := e.rowHi + 1 - e.rowLo
  let w := e.param
  if e.op = 1 then 1
  else if e.op = 2 then b * (b + 1) / 2
  else if e.op = 3 then (if w < b then b * (w + 1) - w * (w + 1) / 2 else b * (b + 1) / 2)
  else if e.op = 4 then b / w * (w * (w + 1) / 2) + b % w * (b % w + 1) / 2
  else if e.op = 5 then b * (e.colHi + 1 - e.colLo)
  else 0

/-- Producers of an entry, one slot each (R185). -/
def CutEntry.prodCount (e : CutEntry) : Nat := e.tileCount * e.split

/-- Whether the fields of a correlation entry are ones the plan takes (R183, R186). -/
def corrFieldsOk (blocks : Nat) (e : CutEntry) : Bool :=
  onlyBits e.w0 0x1FFF1FFF1FFF000F#64 && onlyBits e.w1 0x3FFF3FFF1FFF1FFF#64 && onlyBits e.w2 0xFFFFFFFFFF#64 &&
  decide (e.w3 = 0) && decide (e.rowLo ≤ e.rowHi ∧ e.rowHi < blocks) &&
  (if e.op = 1 then decide (e.colLo < blocks)
   else if e.op = 5 then decide (e.colLo ≤ e.colHi ∧ e.colHi < blocks) else true) &&
  (if e.op = 4 then decide (1 ≤ e.param) else decide (e.op = 3 ∨ e.param = 0))

/-- Whether the fields of a gouge entry are ones the plan takes (R209, R210). -/
def gougeFieldsOk (s : State) (d r : Nat) (e : CutEntry) : Bool :=
  let w := wsetOf s d e.wset
  decide (e.w0 = 6) && onlyBits e.w1 0x3FFF3FFF00001FFF#64 && onlyBits e.w2 0x1F1F003F000F#64 &&
  onlyBits e.w3 0x703FF#64 && w.valid && decide (w.region = r) &&
  decide (e.block0 + w.links ≤ regionBlocks s d r) && decide (e.groupLo ≤ e.groupHi ∧ e.groupHi < w.groups) &&
  decide (e.chHi < w.channels) && decide (e.beam0 + 32 * (e.groupHi + 1 - e.groupLo) ≤ 1024) &&
  weightMatches (regionFormat s d r) w.fmt

/-- Whether an entry is in range for its plan (R186, R210, R228, R263). -/
def entryOk (s : State) (d r : Nat) (c : TlyCtx) (e : CutEntry) : Bool :=
  decide (1 ≤ e.op ∧ e.op ≤ 6) && decide (e.chLo ≤ e.chHi ∧ e.chHi < regionChans s d r ∧ e.chHi < c.channels) &&
  (if e.isGouge then gougeFieldsOk s d r e
   else corrFieldsOk (regionBlocks s d r) e && decide (e.slot0 + e.prodCount ≤ c.slots) &&
     (decide (gangMode s r ≠ 2) || decide (e.splitCode = 0)))

/-- Whether a stage-table entry has no reserved bit (R189). -/
def stageBitsOk (e : StageEntry) : Bool := onlyBits e.w0 0x1FFF1FFF1FFF1FFF#64 && onlyBits e.w1 0x1FFF1FFF#64

/-- Whether two entries' slot ranges overlap (R186). -/
def slotsOverlap (a b : CutEntry) : Bool :=
  decide (a.slot0 < b.slot0 + b.prodCount ∧ b.slot0 < a.slot0 + a.prodCount)

/-- Whether some two of a list stand in a relation. -/
def somePair {α : Type} (p : α → α → Bool) : List α → Bool
  | [] => false
  | x :: l => l.any (p x) || somePair p l

/-! ## Stages (R190) -/

/-- 22 MiB, a half of the blank store. -/
abbrev halfBytes : Nat := 22 * 2 ^ 20

/-- Bytes a stage loads. -/
def stageBytes (s : State) (d r : Nat) (e : StageEntry) : Nat :=
  e.blocks.length * e.len (regionT s d r) * 32 * operandBytes (regionFormat s d r)

/-- The stages of a plan, the implicit one where it has no table (R189). -/
def stagesOf (s : State) (d r : Nat) (l : List StageEntry) : List StageEntry :=
  if l.isEmpty then [implicitStage (regionBlocks s d r)] else l

/-- Whether the segments of a group run from spectrum 0 to T in order. -/
def segmentsRun (t : Nat) : Nat → List StageEntry → Bool
  | x, [] => decide (x = t)
  | x, e :: l => decide (e.first = x) && segmentsRun t (x + e.len t) l

/-- Row range and loaded blocks of a group. -/
def groupHolds (g : List StageEntry) (r : Nat) : Bool :=
  match g.head? with
  | some e => decide (e.rowLo ≤ r ∧ r ≤ e.rowHi)
  | none => false

def groupLoads (g : List StageEntry) (k : Nat) : Bool :=
  match g.head? with
  | some e => decide (e.rowLo ≤ k ∧ k ≤ e.rowHi) || decide (e.colLo ≤ k ∧ k ≤ e.colHi)
  | none => false

/-- Whether a group holds the whole chain of a gouge entry (R210). -/
def groupChain (s : State) (d : Nat) (g : List StageEntry) (e : CutEntry) : Bool :=
  (List.range (wsetOf s d e.wset).links).all (fun l => groupLoads g (e.block0 + l))

/-- The group a gouge entry runs in: the first that holds its chain (R210). -/
def gougeGroup (s : State) (d : Nat) (gs : List (List StageEntry)) (e : CutEntry) : Option Nat :=
  gs.findIdx? (fun g => groupChain s d g e)

/-- Seats of the producers that run in a group on one local channel. -/
def groupSeats (es : List CutEntry) (g : List StageEntry) (c : Nat) : List Nat :=
  es.flatMap (fun e => if e.isGouge || !e.hasChan c then [] else
    e.producers.filterMap (fun p => if groupHolds g p.row then some p.seat else none))

/-- Whether the stages cover the work of a plan as R190 and R210 ask. -/
def coverageOk (s : State) (d r : Nat) (es : List CutEntry) (st : List StageEntry) : Bool :=
  let gs := stageGroups st
  let t := regionT s d r
  st.all (fun e => !e.blocks.isEmpty && e.blocks.all (fun k => decide (k < regionBlocks s d r))) &&
  !somePair (fun a b => decide ((a.headD ⟨0, 0⟩).rowLo ≤ (b.headD ⟨0, 0⟩).rowHi ∧
      (b.headD ⟨0, 0⟩).rowLo ≤ (a.headD ⟨0, 0⟩).rowHi)) gs &&
  es.all (fun e =>
    if e.isGouge then (gougeGroup s d gs e).isSome
    else e.tiles.all (fun x => gs.any (fun g => groupHolds g x.1 && groupLoads g x.2))) &&
  gs.all (segmentsRun t 0) &&
  gs.all (fun g => decide (g.length ≤ 1) ||
    es.all (fun e => let l := groupSeats es g e.chLo; decide (l.dedup = l)))

/-! ## Planned load (R197 to R199, R211) -/

/-- Cycles of the lathe clock per second. -/
def latheHz : Rat := 1250000000

/-- Cycles per spectrum of a correlation stroke (R166, R197). -/
def corrCycles (fmt : Nat) : Rat := if fmt = 0 then 1 / 4 else if fmt = 1 then 1 else 4

/-- Issue cycles per spectrum and link of a gouge stroke (R205). -/
def gougeCycles (fmt : Nat) : Nat := if fmt ≤ 1 then 1 else 4

/-- How many of `n` consecutive producers from seat `a` on fall on seat `k`. -/
def onSeat (a n k : Nat) : Nat := n / 64 + (if (k + 64 - a % 64) % 64 < n % 64 then 1 else 0)

/-- Channel rate of a plan as it was written (R188). -/
def pwRate (w : List Word) : Rat := mkRat (planWords w 3).toNat (2 ^ 32)

/-- Occupancy an entry puts on a seat, in cycles per second (R197, R211). -/
def entryLoad (s : State) (d r : Nat) (rate : Rat) (k : Nat) (e : CutEntry) : Rat :=
  let fmt := regionFormat s d r
  let ch : Rat := (e.chans : Nat)
  if e.isGouge then
    ((onSeat e.seat (e.groupHi + 1 - e.groupLo) k * (wsetOf s d e.wset).links * gougeCycles fmt : Nat) : Rat) * ch * rate
  else ((onSeat e.seat0 e.prodCount k : Nat) : Rat) * ch * rate * corrCycles fmt / ((e.split : Nat) : Rat)

/-- What of a plan its load depends on: region, words, entries, stages. -/
structure PlanLoad where
  region : Nat
  words : List Word
  entries : List CutEntry
  stages : List StageEntry
  deriving DecidableEq, Repr

/-- Sum of rationals over a list. -/
def ratSum {α : Type} (f : α → Rat) (l : List α) : Rat := l.foldl (fun a x => a + f x) 0

/-- The largest of a list of rationals, 0 for none. -/
def ratMax (l : List Rat) : Rat := l.foldl (fun a x => if a < x then x else a) 0

/-- U of a seat (R197). -/
def seatOccupancy (s : State) (d : Nat) (ps : List PlanLoad) (k : Nat) : Rat :=
  ratSum (fun p => ratSum (entryLoad s d p.region (pwRate p.words) k) p.entries) ps / latheHz

/-- Dumps per second of a plan. -/
def planDumps (s : State) (d : Nat) (p : PlanLoad) : Rat :=
  ratSum (fun e => if e.isGouge then 0 else
    ((e.tileCount * e.chans : Nat) : Rat) * pwRate p.words / ((max 1 (regionT s d p.region) : Nat) : Rat)) p.entries

/-- V (R198). -/
def dumpRate (s : State) (d : Nat) (ps : List PlanLoad) : Rat := ratSum (planDumps s d) ps * 1024 / latheHz

/-- Lowest and highest local channel a plan's entries name. -/
def chanSpan (es : List CutEntry) : Nat × Nat :=
  match es with
  | [] => (1, 0)
  | e :: l => l.foldl (fun a x => (min a.1 x.chLo, max a.2 x.chHi)) (e.chLo, e.chHi)

/-- Planned traffic of one plan in bytes per second (R199). -/
def planTraffic (s : State) (d : Nat) (p : PlanLoad) : Rat :=
  let r := p.region
  let t : Rat := ((max 1 (regionT s d r) : Nat) : Rat)
  let rate := pwRate p.words
  let span := chanSpan p.entries
  let c := ctxOf s d (pwCtx p.words)
  let stage := ((p.stages.map (stageBytes s d r)).sum * (span.2 + 1 - span.1) : Nat)
  ((32 * regionBlocks s d r * regionChans s d r * operandBytes (regionFormat s d r) : Nat) : Rat) * rate
    + (stage : Rat) * rate / t
    + planDumps s d p * 24704
    + (if c.length = 0 then 0 else
        ((2 * c.slots * c.channels * slotBytes : Nat) : Rat) * rate / (((c.length : Nat) : Rat) * t))

/-- Planned traffic of a stack (R199). -/
def stackTraffic (s : State) (d : Nat) (ps : List PlanLoad) : Rat := ratSum (planTraffic s d) ps

/-- The load of every valid plan of a die. -/
def planLoads (s : State) (d : Nat) : List PlanLoad :=
  (plansOf s d).map (fun p => ⟨p.1, p.2.words, p.2.entries, stagesOf s d p.1 p.2.stages⟩)

/-- Word 6 of a plan and SCH_LOAD: largest occupancy, dump rate and traffic, rounded up (R188). -/
def loadWord (s : State) (d : Nat) (ps : List PlanLoad) : Word :=
  let occ := (ratMax ((List.range 64).map (seatOccupancy s d ps)) * 65536).ceil.toNat
  let v := (dumpRate s d ps * 1024).ceil.toNat
  let m := (stackTraffic s d ps / 1000000).ceil.toNat
  BitVec.ofNat 64 (min 65535 occ + min 65535 v * 2 ^ 16 + m % 2 ^ 32 * 2 ^ 32)

/-- Word 7 of a plan: tiles, and the largest stage in KiB. -/
def tilesWord (s : State) (d : Nat) (p : PlanLoad) : Word :=
  let kib := (p.stages.map (fun e => ceilDiv (stageBytes s d p.region e) 1024)).foldl max 0
  BitVec.ofNat 64 ((p.entries.map CutEntry.tileCount).sum % 2 ^ 32 + kib * 2 ^ 32)

/-! ## The plan write (R186 to R190, R197 to R199, R210, R228, R346) -/

/-- Whether the words of a plan are in range (R188). -/
def planWordsOk (d : Nat) (w : List Word) : Bool :=
  decide (fieldOf (planWords w 0) 10 6 = 0) && decide (fieldOf (planWords w 4) 32 32 = 0) && decide (planWords w 5 = 0) &&
  decide (1 ≤ pwEntries w ∧ pwEntries w ≤ 1048576) && decide ((planWords w 1).toNat % 64 = 0) &&
  decide (stackBytes * d ≤ (planWords w 1).toNat ∧
    (planWords w 1).toNat + 32 * pwEntries w ≤ stackBytes * d + stackUsable) &&
  (decide (pwStages w = 0) || decide ((planWords w 2).toNat % 64 = 0 ∧
    (planWords w 2).toNat + 16 * pwStages w ≤ 4 * stackBytes))

/-- The context of a plan must be valid and of its region (R228). -/
def planCtxOk (s : State) (d : Nat) (w : List Word) : Bool :=
  (ctxOf s d (pwCtx w)).valid && decide ((ctxOf s d (pwCtx w)).region = pwRegion w)

/-- The checks on a plan whose lists have been read, 0 for none failing. -/
def planListCheck (s : State) (d : Nat) (p : PlanLoad) (table : List StageEntry) : Nat :=
  let r := p.region
  let ps := p :: planLoads s d
  if !(p.entries.all (entryOk s d r (ctxOf s d (pwCtx p.words))) && table.all stageBitsOk) then 2
  else if somePair slotsOverlap (p.entries.filter (fun e => !e.isGouge)) then 3
  else if p.stages.any (fun e => decide (halfBytes < stageBytes s d r e)) then 4
  else if !coverageOk s d r p.entries p.stages then 5
  else if (List.range 64).any (fun k => decide ((23 : Rat) / 25 < seatOccupancy s d ps k)) then 6
  else if (16 : Rat) < dumpRate s d ps then 7
  else if (1044480000000 : Rat) < stackTraffic s d ps then 8
  else 0

/-- The fences a plan needs (R187, R346). -/
def planFences (d : Nat) (p : PlanLoad) (table : List StageEntry) : List HbmFence :=
  let n := min (pwEntries p.words) (p.entries.length + 1)
  ⟨(planWords p.words 1).toNat, 32 * n, schPage d, S.CFG_REFUSED, planFence d p.region⟩ ::
    (if table.isEmpty then [] else
      [⟨(planWords p.words 2).toNat, 16 * table.length, schPage d, S.CFG_REFUSED, planFence d p.region⟩])

/-- Fences are set one by one where the controllers have room; none is kept where one has not (R346). -/
def setFences (owner : Nat) (l : List HbmFence) (s : State) : Bool × State :=
  let r := l.foldl (fun a f => if a.1 && fenceRoom a.2 f.lo then (true, addFence f a.2) else (false, a.2)) (true, s)
  if r.1 then r else (false, dropFences owner r.2)

/-- The pending lathe of a seat takes over the share: it shows whose it carries and is no spare any more (LTH_STATUS). -/
def carryShare (d k : Nat) (s : State) : State :=
  let n := seatPending s d k
  let old := seatLathe s d k
  if n = noLathe ∨ old = noLathe then s
  else
    let c := fld s (lthPage old) F.LTH_STATUS_CARRIES
    setFld (lthPage n) F.LTH_STATUS_CARRIES (if c = noLathe then old else c) (setFld (lthPage n) F.LTH_STATUS_SPARE 0 s)

/-- A pending seat's lathe becomes its lathe once every valid plan has moved (R201). -/
def settleSeat (d k : Nat) (s : State) : State :=
  if seatPending s d k ≠ noLathe ∧ (plansOf s d).all (fun p => seatMoved s d k p.1) then
    let n := seatPending s d k
    let s := setFld (schPage d) (F.SCH_SEAT_LATHE.at k) n (carryShare d k s)
    let s := setFld (schPage d) (F.SCH_SEAT_PENDING.at k) noLathe s
    setSticky (schPage d) S.SCH_REMAP_DONE (setFld (schPage d) (F.SCH_SEAT_MOVED.at k) 0 s)
  else s

/-- Every pending seat of a die that can settle does. -/
def settleSeats (d : Nat) (s : State) : State := (List.range 64).foldl (fun s k => settleSeat d k s) s

/-- The plan of region `r` moves every pending seat (R201). -/
def moveSeats (d r : Nat) (s : State) : State :=
  (List.range 64).foldl (fun s k =>
    if seatPending s d k = noLathe then s
    else
      let f := F.SCH_SEAT_MOVED.at k
      setFld (schPage d) f (fld s (schPage d) f ||| 2 ^ r) (carryShare d k s)) s

/-- A plan comes to its end: dropped, its fences with it, its integration closed at the next batch, and seats settle
(R187, R188, R201, R235). -/
def endPlan (d r : Nat) (s : State) : State :=
  match planOf s d r with
  | none => s
  | some p =>
    let s := tallyPlanGone d p.ctx (ntGet (schDie s d).next r) s
    settleSeats d (dropFences (planFence d r) (dropPlan d r s))

/-- Whether a batch of a region is in progress: being staged, or its strokes not all finished. -/
def batchInProgress (s : State) (d r : Nat) : Bool :=
  (match (schDie s d).cur with
    | some c => decide (c.region = r)
    | none => false) ||
  (schDie s d).loaded.any (fun x => decide (x.region = r))

/-- A plan stops at the next batch boundary of its region (R188). -/
def stopPlan (d r : Nat) (s : State) : State :=
  match planOf s d r with
  | none => s
  | some p => if batchInProgress s d r then setPlan d r { p with stopping := true } s else endPlan d r s

/-- The words of SCH_PLAN_DATA. -/
def planData (s : State) (d : Nat) : List Word := regsFrom s (schPage d) R.SCH_PLAN_DATA 6

/-- A plan that passes every check becomes valid. -/
def acceptPlan (d : Nat) (p : PlanLoad) (table : List StageEntry) (s : State) : State :=
  let words := p.words ++ [loadWord s d (p :: planLoads s d), tilesWord s d p]
  let s := setPlan d p.region ⟨words, p.entries, table, false⟩ s
  moveSeats d p.region s

/-- Map entries of any Faceplate that name a region: Faceplate and word 0. -/
def regionEntries (s : State) (r : Nat) : List (Nat × Word) :=
  (List.range 16).flatMap (fun f => (mapList s f).filterMap (fun e => if mapRegion e.2 = r then some (f, e.2) else none))

/-- What every stream of a correlation set shares (R12): native rate, origin, sample format, preset, channels, taps and operand
format. -/
def streamKind (s : State) (e : Nat × Word) : Rat × Nat × Nat × Nat × Nat × Nat × Nat :=
  let n := mapStream e.2
  (mkRat (stRateNum s n) (stRateDen s n), stOrigin s n, stFormat s n, stPreset s n, fplN s e.1, fplTaps s e.1, fplFormat s e.1)

/-- Whether the streams that map entries bind to a region agree as R12 asks. -/
def setAgrees (s : State) (r : Nat) : Bool :=
  match regionEntries s r with
  | [] => true
  | e :: l => l.all (fun x => decide (streamKind s x = streamKind s e))

/-- A write with VALID 1: the checks in order, and the plan where all pass. Answers RESULT. A set whose streams differ (R12) is
refused as a disagreeing region, 1: DEDUCED, R12 names no code (log entry 87). -/
def planValidWrite (d : Nat) (w : List Word) (s : State) : Nat × State :=
  let r := pwRegion w
  let a := fld s (schPage d) F.SCH_PLAN_ADDR_REGION
  if (planOf s d a).isSome then (9, s)
  else if r ≠ a then (2, s)
  else if !regionAgrees s r || !setAgrees s r || !planCtxOk s d w then (1, s)
  else if !planWordsOk d w then (2, s)
  else
    let c := readCut (pwEntries w) (planWords w 1).toNat s
    let t := readStages (pwStages w) (planWords w 2).toNat c.2
    let p : PlanLoad := ⟨r, w, c.1, stagesOf t.2 d r t.1⟩
    let x := planListCheck t.2 d p t.1
    if x ≠ 0 then (x, t.2)
    else
      let f := setFences (planFence d r) (planFences d p t.1) t.2
      if f.1 then (0, settleSeats d (acceptPlan d p t.1 f.2)) else (10, f.2)

/-- The effect of a WRITE of SCH_PLAN_CTRL (R186 to R188). -/
def planWrite (d : Nat) (s : State) : State :=
  let w := planData s d
  if bitOf (planWords w 0) 0 then
    let r := planValidWrite d w s
    tableResult (schPage d) F.SCH_PLAN_CTRL_RESULT r.1 r.2
  else
    tableResult (schPage d) F.SCH_PLAN_CTRL_RESULT 0 (stopPlan d (fld s (schPage d) F.SCH_PLAN_ADDR_REGION) s)

/-- The effect of a READ of SCH_PLAN_CTRL: the valid plan of the region, zeroes where there is none. -/
def planRead (d : Nat) (s : State) : State :=
  let words := match planOf s d (fld s (schPage d) F.SCH_PLAN_ADDR_REGION) with
    | some p => p.words
    | none => List.replicate 8 0
  setFld (schPage d) F.SCH_PLAN_CTRL_RESULT 0 (setRegsFrom (schPage d) R.SCH_PLAN_DATA words s)

/-- A write of SCH_PLAN_CTRL: READ, then WRITE (R473). -/
def writePlanCtrl (d : Nat) (v : Word) (s : State) : State := actIf v 1 (planWrite d) (actIf v 0 (planRead d) s)

/-- SCH_PLAN_READ (R188). -/
def execSchPlanRead (m die : Nat) (v : Word) (s : State) : Result :=
  .next (guardedWrite m (schPage die) R.SCH_PLAN_CTRL (v ||| 1#64) (writePlanCtrl die (v ||| 1#64)) s)

/-- SCH_PLAN_WRITE (R186 to R190, R197 to R199, R475). -/
def execSchPlanWrite (m die : Nat) (v : Word) (s : State) : Result :=
  .next (guardedWrite m (schPage die) R.SCH_PLAN_CTRL (v ||| 2#64) (writePlanCtrl die (v ||| 2#64)) s)

end Sys2Proof.Machine
end

