-- ==== Sys2Proof/Machine/Beam.lean ====
section
/-! DEFINITION. Times of a region's batches (R8, R188), beam records, power intervals and what detectors take of a gouge
job (R215 to R220). -/

namespace Sys2Proof.Machine

/-! ## Time of a region (R8, R15, R138, R188) -/

/-- What places the batches of a region in time: origin, rate, spectrum stride in native samples, taps, T. -/
structure RegionTiming where
  origin : Nat
  num : Nat
  den : Nat
  stride : Nat
  taps : Nat
  t : Nat
  deriving DecidableEq, Repr

/-- The stream of a list of map entries at the lowest position, with its Faceplate. -/
def lowestPos : List (Nat × Word) → Option (Nat × Word)
  | [] => none
  | e :: l =>
    match lowestPos l with
    | none => some e
    | some x => if mapPos e.2 ≤ mapPos x.2 then some e else some x


/-- Timing of a region: that of the stream at its lowest position, since all of its streams agree (R12). -/
def regionTiming (s : State) (d r : Nat) : Option RegionTiming :=
  match lowestPos (regionEntries s r) with
  | none => none
  | some (f, w) =>
    let n := mapStream w
    if stRateNum s n = 0 ∨ regionT s d r = 0 then none
    else some ⟨stOrigin s n, stRateNum s n, stRateDen s n, fplM s f n * stD s n, fplTaps s f, regionT s d r⟩

/-- Device time of a native sample (R8). -/
def RegionTiming.at (q : RegionTiming) (i : Nat) : Nat := q.origin + ceilDiv (i * q.den * secondUnits) q.num

/-- Device time at which a spectrum begins. -/
def RegionTiming.spectrumAt (q : RegionTiming) (p : Nat) : Nat := q.at (p * q.stride)

/-- Nominal end of a batch: the sample that ends its last spectrum (R188). -/
def RegionTiming.nominalEnd (q : RegionTiming) (b : Nat) : Nat :=
  q.at ((b * q.t + q.t - 1 + q.taps) * q.stride - 1)

/-- First batch boundary at or after a device time (R20, R26). -/
def RegionTiming.batchFrom (q : RegionTiming) (t : Nat) : Nat :=
  ceilDiv (resolveIndex t q.origin q.num q.den) (q.stride * q.t)

/-- Whether a phase step lies in the span from spectrum `a` to the end of spectrum `b` (R217, R233). -/
def phaseStepIn (s : State) (d r a b : Nat) : Bool :=
  match regionTiming s d r with
  | none => false
  | some q => s.tru.steps.any (fun t => decide (q.spectrumAt a ≤ t ∧ t < q.spectrumAt (b + 1)))

/-! ## Beam records (R217, R218) -/

/-- What a beam or detector header holds. -/
structure BeamHdr where
  kind : Nat
  format : Nat
  beam0 : Nat
  channel : Nat
  batch : Nat
  first : Nat
  spectra : Nat
  flags : Nat
  sats : Nat
  missing : Nat
  level : Nat
  oldState : Nat
  newState : Nat
  deriving DecidableEq, Repr

/-- The 64 bytes of a header (R217). -/
def BeamHdr.bytes (h : BeamHdr) : List Byte :=
  leBytes 1 h.kind ++ leBytes 1 h.format ++ leBytes 2 h.beam0 ++ leBytes 4 h.channel ++ leBytes 8 h.batch
    ++ leBytes 8 h.first ++ leBytes 4 h.spectra ++ leBytes 4 h.flags ++ leBytes 4 h.sats ++ leBytes 4 h.missing
    ++ leBytes 6 h.level ++ leBytes 1 h.oldState ++ leBytes 1 h.newState ++ List.replicate 16 0

/-- Producer ID of the Gouge of a C-die (R340). -/
abbrev gougeMaster (d : Nat) : Nat := 40 + d

/-- RTYPE of a beam record (R371). -/
abbrev beamRtype : Nat := 1

/-- A beam record is committed, or dropped for want of room or as too big (R218). -/
def beamRecord (d ring : Nat) (payload : List Byte) (s : State) : State :=
  let r := emitRecord ring (gougeMaster d) beamRtype d payload s
  if r.1 = .done then countK (ggePage d) R.GGE_CNT 5 1 r.2
  else countK (ggePage d) R.GGE_CNT 6 1 (setSticky (ggePage d) S.GGE_RECORD_DROP r.2)

/-- Flags of a beam record. -/
def beamFlags (phase sat bank : Bool) : Nat := (if phase then 1 else 0) + (if sat then 2 else 0) + (if bank then 4 else 0)

/-! ## What a gouge job covers -/

/-- A gouge job as the beams see it: weight set, region, local channel, first beam, spectra from and how many, batch,
entry's POWER_EN, bank. -/
structure BeamJob where
  wset : Nat
  region : Nat
  chan : Nat
  beam0 : Nat
  first : Nat
  count : Nat
  batch : Nat
  powerEn : Bool
  bankB : Bool
  deriving DecidableEq, Repr

/-- First device beam of the group a gouge job forms (R209). -/
def GougeJob.beam0 (g : GougeJob) : Nat := g.entry.beam0 + 32 * (g.group - g.entry.groupLo)

/-- The beam job of a stroke over `count` spectra, the first at `seg` in its batch. -/
def beamJob (s : State) (d : Nat) (k : Stroke) (g : GougeJob) (seg count : Nat) : BeamJob :=
  ⟨g.entry.wset, k.region, k.chan, g.beam0, k.batch * regionT s d k.region + seg, count, k.batch, g.entry.powerEn, g.bankB⟩

/-! ## Voltage records (R208, R215, R217) -/

/-- Operand bytes of a spectrum of beams in C8 or C16 (R31, R217). -/
def beamBytes (vfmt : Nat) (us : List (Int × Int)) : List Byte :=
  let f := if vfmt = 0 then 1 else 3
  us.flatMap (fun u => leBytes (operandBytes f) (operandCode f u.1 u.2))

def voltsOf (s : State) (d : Nat) : List VoltInt := alGet [] s.gge.volts d

def setVolts (d : Nat) (l : List VoltInt) (s : State) : State :=
  { s with gge := { s.gge with volts := alSet [] s.gge.volts d l } }

/-- Whether a record in progress is that of a stroke's batch, channel and group. -/
def sameVolt (k : Stroke) (g : GougeJob) (x : VoltInt) : Bool :=
  decide (x.region = k.region ∧ x.chan = k.chan ∧ x.beam0 = g.beam0 ∧ x.batch = k.batch)

/-- The voltage record of a stroke's job, begun or in progress. -/
def voltOf (s : State) (d : Nat) (k : Stroke) (g : GougeJob) : VoltInt :=
  ((voltsOf s d).find? (sameVolt k g)).getD ⟨k.region, k.chan, g.beam0, k.batch, 0, [], 0, false, false⟩

/-- The voltage record of a batch, channel and group: T × 32 values (R217). -/
def voltRecord (d : Nat) (g : GougeJob) (x : VoltInt) (s : State) : State :=
  let f := g.entry.voltFmt
  let t := regionT s d x.region
  let p0 := x.batch * t
  let h : BeamHdr :=
    { kind := 1, format := f, beam0 := x.beam0, channel := globalChan s d x.region x.chan, batch := x.batch, first := p0
      spectra := t, flags := beamFlags (phaseStepIn s d x.region p0 (p0 + t - 1)) (decide (x.clamps ≠ 0)) g.bankB
      sats := min (2 ^ 32 - 1) x.clamps, missing := 0, level := 0, oldState := 0, newState := 0 }
  let rows := sortBy (fun a b => decide (a.1 ≤ b.1)) x.values
  beamRecord d (fld s (ggePage d) F.GGE_RINGS_VOLT_RING) (h.bytes ++ rows.flatMap (fun r => beamBytes f r.2)) s

/-- The voltage record of a failed stroke is rewound (R24, R208). -/
def voltRewind (d : Nat) (g : GougeJob) (t : Nat) (s : State) : State :=
  let ring := fld s (ggePage d) F.GGE_RINGS_VOLT_RING
  let r := ringReserve ring (gougeMaster d) (recordUnits (64 + t * 32 * (if g.entry.voltFmt = 0 then 2 else 4))) s
  match r.1 with
  | .granted start => ringRewind ring start r.2
  | _ => r.2

/-- A record in progress, complete once all T spectra of its batch are accounted for: committed, or rewound where a part of it
failed after a stroke of it ran (R208, R217). -/
def voltStore (d : Nat) (k : Stroke) (g : GougeJob) (x : VoltInt) (s : State) : State :=
  let rest := (voltsOf s d).filter (fun y => !sameVolt k g y)
  let t := regionT s d k.region
  if x.taken < t then setVolts d (x :: rest) s
  else
    let s := setVolts d rest s
    if !x.failed then voltRecord d g x s else if x.ran then voltRewind d g t s else s

/-- The spectra of a passed stroke enter the voltage record of its batch: their values from spectrum `first` on, and clamps. -/
def voltTake (d : Nat) (k : Stroke) (g : GougeJob) (first : Nat) (us : List (List (Int × Int))) (clamps : Nat) (s : State) : State :=
  if !g.entry.voltEn then s
  else
    let x := voltOf s d k g
    voltStore d k g
      { x with
        taken := x.taken + us.length, values := x.values ++ us.zipIdx.map (fun p => (first + p.2, p.1))
        clamps := x.clamps + clamps, ran := true } s

/-- `count` spectra of a job are missing from the voltage record of its batch. -/
def voltMissing (d : Nat) (k : Stroke) (g : GougeJob) (count : Nat) (s : State) : State :=
  if !g.entry.voltEn then s
  else
    let x := voltOf s d k g
    voltStore d k g { x with taken := x.taken + count, failed := true } s

/-- A stroke of a job has run: what it wrote of its voltage record is there to be rewound. -/
def voltRan (d : Nat) (k : Stroke) (g : GougeJob) (s : State) : State :=
  if !g.entry.voltEn then s
  else setVolts d ({ voltOf s d k g with ran := true } :: (voltsOf s d).filter (fun y => !sameVolt k g y)) s

/-! ## Power intervals (R216, R218) -/

/-- What a job gives a spectrum: powers of its 32 beams and clamps, or nothing where it is missing. -/
abbrev SpectrumPowers := Option (List Int × Nat)

/-- Power intervals of weight set `i`. -/
def powersOf (s : State) (d i : Nat) : List PowerInt := alGet [] s.gge.powers (16 * d + i)

def setPowers (d i : Nat) (l : List PowerInt) (s : State) : State :=
  { s with gge := { s.gge with powers := alSet [] s.gge.powers (16 * d + i) l } }

/-- The interval of a job that spectrum `start` begins. -/
def samePower (j : BeamJob) (start : Nat) (x : PowerInt) : Bool :=
  decide (x.region = j.region ∧ x.chan = j.chan ∧ x.beam0 = j.beam0 ∧ x.start = start)

/-- The power record of an interval, of the batch that holds its last spectrum (R216, R217). -/
def powerRecord (d len : Nat) (s : State) (x : PowerInt) : State :=
  let last := x.start + len - 1
  let h : BeamHdr :=
    { kind := 2, format := 2, beam0 := x.beam0, channel := globalChan s d x.region x.chan
      batch := last / max 1 (regionT s d x.region), first := x.start, spectra := len
      flags := beamFlags (phaseStepIn s d x.region x.start last) (decide (x.clamps ≠ 0)) x.bankB
      sats := min (2 ^ 32 - 1) x.clamps, missing := len - x.seen, level := 0, oldState := 0, newState := 0 }
  let vals := x.sums.map (fun v => t48OfI48 0 (i48OfInt v))
  beamRecord d (fld s (ggePage d) F.GGE_RINGS_POWER_RING) (h.bytes ++ codeBytes vals) s

/-- A spectrum enters an interval, present or missing. -/
def PowerInt.take (x : PowerInt) (e : SpectrumPowers) : PowerInt :=
  match e with
  | some u => { x with sums := x.sums.zipWith (· + ·) u.1, seen := x.seen + 1, clamps := x.clamps + u.2 }
  | none => { x with absent := x.absent + 1 }

/-- One spectrum of a job enters its power interval. -/
def powerSpectrum (d : Nat) (j : BeamJob) (s : State) (e : Nat × SpectrumPowers) : State :=
  let len := (wsetOf s d j.wset).powerLen
  let start := e.1 / len * len
  let l := powersOf s d j.wset
  let x := (l.find? (samePower j start)).getD
    ⟨j.region, j.chan, j.beam0, start, List.replicate 32 0, 0, 0, 0, false, j.bankB⟩
  let x := x.take e.2
  let x := if e.1 % len = len - 1 then { x with ended := true, bankB := j.bankB } else x
  setPowers d j.wset (x :: l.filter (fun y => !samePower j start y)) s

/-- Whether a gouge stroke with spectra of an interval is still to end (R218). -/
def beamPending (s : State) (d len : Nat) (x : PowerInt) : Bool :=
  let t := regionT s d x.region
  (dieStrokes s d).any (fun k =>
    match k.gouge with
    | some g => decide (k.region = x.region ∧ k.chan = x.chan ∧ g.beam0 = x.beam0 ∧
        k.batch * t < x.start + len ∧ x.start < (k.batch + 1) * t)
    | none => false)

/-- Whether an interval is complete: every spectrum is accounted for, or its last one is and no stroke brings another (the first
interval of a plan holds spectra before its first batch). -/
def powerDone (s : State) (d len : Nat) (x : PowerInt) : Bool :=
  decide (x.seen + x.absent = len) || (x.ended && !beamPending s d len x)

/-- The complete intervals of a job's beams are committed, oldest first (R216, R218). -/
def finishPowers (d : Nat) (j : BeamJob) (s : State) : State :=
  let len := (wsetOf s d j.wset).powerLen
  let done := fun (x : PowerInt) =>
    decide (x.region = j.region ∧ x.chan = j.chan ∧ x.beam0 = j.beam0) && powerDone s d len x
  let l := powersOf s d j.wset
  (sortBy (fun a b => decide (a.start ≤ b.start)) (l.filter done)).foldl (powerRecord d len)
    (setPowers d j.wset (l.filter (fun x => !done x)) s)

/-! ## Detectors (R219) -/

def Detector.enable (x : Detector) : Bool := bitOf x.w0 0
def Detector.latch (x : Detector) : Bool := bitOf x.w0 1
def Detector.beam (x : Detector) : Nat := fieldOf x.w0 2 10
def Detector.chLo (x : Detector) : Nat := fieldOf x.w0 12 14
def Detector.chHi (x : Detector) : Nat := fieldOf x.w0 26 14
def Detector.units (x : Detector) : Nat := fieldOf x.w0 40 8 + 1
def Detector.shift (x : Detector) : Nat := fieldOf x.w0 48 5
def Detector.region (x : Detector) : Nat := fieldOf x.w0 53 4
def Detector.onLevel (x : Detector) : Nat := fieldOf x.w1 0 48
def Detector.offLevel (x : Detector) : Nat := fieldOf x.w2 0 48
def Detector.minOn (x : Detector) : Nat := fieldOf x.w3 0 16

/-- Whether a detector watches a job. -/
def Detector.watches (x : Detector) (j : BeamJob) : Bool :=
  decide (x.st ≠ 0 ∧ x.region = j.region ∧ j.beam0 ≤ x.beam ∧ x.beam < j.beam0 + 32 ∧ x.chLo ≤ j.chan ∧ j.chan ≤ x.chHi)

/-- Insertion of a tick in order. -/
def tickPut (y : DetTick) : List DetTick → List DetTick
  | [] => [y]
  | x :: l =>
    if y.tick < x.tick then y :: x :: l
    else if y.tick = x.tick then { x with sum := x.sum + y.sum, seen := x.seen + y.seen } :: l
    else x :: tickPut y l

/-- One spectrum of a job reaches a detector: its power where the job has one, the tick alone where it is missing. -/
def detSpectrum (j : BeamJob) (x : Detector) (e : Nat × SpectrumPowers) : Detector :=
  let k := e.1 / 256
  let y : DetTick := match e.2 with
    | some u => ⟨k, (roundShift (u.1.getD (x.beam - j.beam0) 0) x.shift).toNat, 1⟩
    | none => ⟨k, 0, 0⟩
  match x.next with
  | some n => if k < n then x else { x with ticks := tickPut y x.ticks }
  | none => { x with ticks := tickPut y x.ticks, next := some k }

/-- A job reaches the detectors of its die (R219, R220). -/
def detectorsTake (d : Nat) (j : BeamJob) (l : List (Nat × SpectrumPowers)) (s : State) : State :=
  (List.range 16).foldl (fun s i =>
    let x := detOf s d i
    if x.watches j then setDet d i (l.foldl (detSpectrum j) x) s else s) s

/-- The spectra of a job enter the power interval and the detectors. -/
def beamTake (d : Nat) (j : BeamJob) (l : List SpectrumPowers) (s : State) : State :=
  let e := l.zipIdx.map (fun x => (j.first + x.2, x.1))
  let s := if j.powerEn then finishPowers d j (e.foldl (powerSpectrum d j) s) else s
  detectorsTake d j e s

/-- A gouge job is missing, whatever the cause (R208, R225). -/
def gougeMissing (d : Nat) (k : Stroke) (g : GougeJob) (seg count : Nat) (s : State) : State :=
  beamTake d (beamJob s d k g seg count) (List.replicate count none)
    (voltMissing d k g count (countK (ggePage d) R.GGE_CNT 1 1 s))

end Sys2Proof.Machine
end

