-- ==== Sys2Proof/Machine/Sched.lean ====
section
/-! DEFINITION. The cut-list scheduler (08_cut_lists.md): arrival of operands, readiness, staging, the strokes it issues, the
fate of failed ones, seats and the release of turn-buffer slots. -/

namespace Sys2Proof.Machine

/-! ## Turn-buffer slots (R155 to R158) -/

/-- Key of the slot of batch `b`. -/
def slotKey (s : State) (d r b : Nat) : Nat := (16 * d + r) * 64 + b % max 1 (regionDepth s d r)

def tbSlot (s : State) (d r b : Nat) : TbSlot := alGet {} s.fpl.slots (slotKey s d r b)

def setTbSlot (d r b : Nat) (x : TbSlot) (s : State) : State :=
  { s with fpl := { s.fpl with slots := alSet {} s.fpl.slots (slotKey s d r b) x } }

/-- Whether a batch holds its slot. -/
def slotHolds (s : State) (d r b : Nat) : Bool := (tbSlot s d r b).busy && decide ((tbSlot s d r b).batch = b)

/-- A slot opens for a batch: every operand reads zero until it is written (R156). -/
def openSlot (d r b : Nat) (s : State) : State :=
  let x := tbSlot s d r b
  let a := regionBase s d r + b % max 1 (regionDepth s d r) * regionChans s d r * regionChBytes s d r
  let s := hbmClear a (regionChans s d r * regionChBytes s d r) (operandBytes (regionFormat s d r)) s
  setTbSlot d r b { busy := true, batch := b, past := x.past, arrived := [], ready := false, staged := false, replayOnly := false } s

/-- A slot is released (R158, R194). -/
def freeSlot (d r b : Nat) (s : State) : State :=
  if slotHolds s d r b then setTbSlot d r b { past := b + 1 } s else s

/-! ## Strokes that come to nothing (R19, R175 to R177) -/

/-- The outcome of a correlation stroke for Tally. -/
def strokeItem (k : Stroke) (kind : TlyKind) (values : List (Int × Int)) (awaits : Bool) : TlyItem :=
  ⟨kind, k.ctx, k.int, k.slot, k.chan, k.batch, k.row, k.col, k.producer, k.split, values, k.replay, awaits⟩

/-- Half `h` of the blank store of a die: 0 or 1. -/
def halfOf (s : State) (d h : Nat) : Option BlankHalf := if h = 0 then (schDie s d).halfA else (schDie s d).halfB

/-- The worse of two states of a block: 2 an uncorrectable turn-buffer error, 1 a blank-store one, 0 sound (R196). -/
def worseBlock (a b : Nat) : Nat := max a b

/-- Two stages over the same blocks as one: the spectra of the first, then those of the second (R190). -/
def BlankHalf.append (x y : BlankHalf) : BlankHalf :=
  ⟨x.first, x.blocks.map (fun b =>
    match y.blocks.find? (fun z => decide (z.block = b.block)) with
    | some z => ⟨b.block, worseBlock b.bad z.bad, b.rows ++ z.rows⟩
    | none => b)⟩

/-- Stages over the same blocks, in order, as one. -/
def joinHalves : List BlankHalf → Option BlankHalf
  | [] => none
  | x :: l => some (l.foldl BlankHalf.append x)

/-- The operands a stroke has at hand and has not taken in: a replay's own, else its loaded segments. -/
def strokeLoaded (s : State) (d : Nat) (k : Stroke) : Option BlankHalf :=
  match k.own with
  | some x => some x
  | none => joinHalves (k.segs.filterMap (halfOf s d))

/-- The operands a stroke ends with; none while a segment of it is still to be loaded (R190). -/
def strokeData (s : State) (d : Nat) (k : Stroke) : Option BlankHalf := if k.more then none else strokeLoaded s d k

/-- Spectra of a stored stage. -/
def BlankHalf.count (x : BlankHalf) : Nat := ((x.blocks.map (fun b => b.rows.length)).head?).getD 0

/-- A stroke failed: a gouge job is missing; a correlation job is missed in its slot, and waits for a replay where its plan
is in REPLAY mode and its batch still in the turn buffer (`again`: its operands are readable there, R196; R176, R177, R208,
R231). -/
def missStroke (d : Nat) (k : Stroke) (again : Bool) (s : State) : State :=
  match k.gouge with
  | some g =>
    let x := (strokeData s d k).getD ⟨0, []⟩
    gougeMissing d k g x.first x.count s
  | none =>
    let replayMode := ((planOf s d k.region).map Plan.replayMode).getD false
    let awaits := again && replayMode && !k.replay && slotHolds s d k.region k.batch
    let s := tallySend d (strokeItem k .miss [] awaits) s
    if awaits then
      let q := schDie s d
      let again := { k with segs := [], own := none, more := false, acc := [], held := 0, bad := 0, replay := true }
      setSchDie d { q with replays := q.replays ++ [again] } s
    else s

/-! ## Batches (R188, R194) -/

/-- Whether a stroke belongs to a batch. -/
def Stroke.ofBatch (k : Stroke) (r b : Nat) : Bool := decide (k.region = r ∧ k.batch = b)

/-- Replays of a batch that have not started are dropped (R194, R231). -/
def dropReplays (d r b : Nat) (s : State) : State :=
  let q := schDie s d
  let l := q.replays.filter (fun k => k.ofBatch r b)
  let s := setSchDie d { q with replays := q.replays.filter (fun k => !k.ofBatch r b) } s
  l.foldl (fun s k =>
    tallySend d (strokeItem k .resolve [] false)
      (countK (schPage d) R.SCH_CNT 6 1 (setSticky (schPage d) S.SCH_REPLAY_DROPPED s))) s

/-- A fully loaded batch is finished once no stroke and no replay of it is left: its slot is released, and a plan that
stops here ends (R188, R194). -/
def finishBatch (d : Nat) (s : State) (x : SchReady) : State :=
  let q := schDie s d
  if (dieStrokes s d).any (fun k => k.ofBatch x.region x.batch) || q.replays.any (fun k => k.ofBatch x.region x.batch)
  then s
  else
    let s := setSchDie d { q with loaded := q.loaded.filter (fun y => decide (y ≠ x)) } s
    let s := freeSlot d x.region x.batch s
    if ((planOf s d x.region).map (·.stopping)).getD false && !batchInProgress s d x.region then endPlan d x.region s
    else s

/-- Every finished batch of a die. -/
def finishBatches (d : Nat) (s : State) : State := (schDie s d).loaded.foldl (finishBatch d) s

/-! ## Lathes that leave (R164, R177, R201, R202) -/

/-- Every stroke of a lathe is abandoned. -/
def dropQueue (n : Nat) (again : Bool) (s : State) : State :=
  let x := lathe s n
  x.queue.foldl (fun s k => missStroke (n / 68) k again s) (setLathe n { x with queue := [] } s)

/-- Strokes that fall with a lathe count as failed before a move (SCH_CNT 4). -/
def countFallen (d : Nat) (l : List Stroke) (s : State) : State :=
  if l.isEmpty then s else countK (schPage d) R.SCH_CNT 4 l.length s

/-- A seat that has lost its lathe, or its pending one, gets the lowest free spare, or becomes bare (R201, R202). -/
def reseat (d k : Nat) (s : State) : State :=
  let p := schPage d
  let s := setFld p (F.SCH_SEAT_MOVED.at k) 0 s
  match (freeSpares s d).head? with
  | some n => settleSeat d k (setFld p (F.SCH_SEAT_PENDING.at k) n s)
  | none =>
    setSticky p S.SCH_SEAT_BARE (setFld p (F.SCH_SEAT_PENDING.at k) noLathe (setFld p (F.SCH_SEAT_LATHE.at k) noLathe s))

/-- A lathe at its threshold is retired and stops at once; its strokes fail, and its share waits for a spare (R163, R176,
R177, R201, R202). -/
def retireLathe (n : Nat) (s : State) : State :=
  let d := n / 68
  let s := retireUnit (lthPage n) 1 n s
  let s := dropQueue n true (countFallen d (lathe s n).queue s)
  (List.range 64).foldl (fun s k => if seatLathe s d k = n ∨ seatPending s d k = n then reseat d k s else s) s

/-! ## Arrival and readiness (R17, R158, R192, R194, R200) -/

/-- Positions of a region that the tables of other members name, in a gang region (R262, R263). -/
def gangPositions (s : State) (r : Nat) : List Nat :=
  if gangMode s r = 0 then []
  else s.zhk.tables.flatMap (fun t => (t.positions.filter (fun p => decide (p.1 = r))).map (·.2))

/-- Positions whose streams make up the correlation set: those a map entry names, here or on another member of a gang region,
and those that have delivered (R17, R262; log entry 91). -/
def setPositions (s : State) (d r b : Nat) : List Nat :=
  let mapped := (regionEntries s r).map (fun e => mapPos e.2) ++ gangPositions s r
  let seen := if slotHolds s d r b then (tbSlot s d r b).arrived.map (fun e => e.1 / 65536) else []
  (mapped ++ seen).dedup

/-- Local channels of a position whose T spectra are not all there: all of them where the batch has no slot. -/
def absentPairs (s : State) (d r b : Nat) : List (Nat × Nat) :=
  let x := tbSlot s d r b
  let t := regionT s d r
  (setPositions s d r b).flatMap (fun i =>
    (List.range (regionChans s d r)).filterMap (fun c =>
      if slotHolds s d r b && decide (t ≤ ntGet x.arrived (i * 65536 + c)) then none else some (i, c)))

/-- A batch becomes ready for staging (R17). -/
def makeReady (d r b : Nat) (s : State) : State :=
  let q := schDie s d
  let s := setSchDie d { q with ready := q.ready ++ [⟨r, b, s.mono, absentPairs s d r b⟩] } s
  if slotHolds s d r b then setTbSlot d r b { tbSlot s d r b with ready := true } s else s

/-- Whether a batch was passed over: a later one was staged before it (R17, R192). -/
def batchSkipped (s : State) (d r b : Nat) : Bool :=
  (schDie s d).gaps.any (fun x => decide (x.1 = r ∧ x.2.1 ≤ b ∧ b < x.2.2))

/-- Whether a batch was staged before. -/
def batchStaged (s : State) (d r b : Nat) : Bool := decide (b < ntGet (schDie s d).next r) && !batchSkipped s d r b

/-- Whether a batch waits for staging, is being staged, or was staged or released before. -/
def batchKnown (s : State) (d r b : Nat) : Bool :=
  (schDie s d).ready.any (fun x => decide (x.region = r ∧ x.batch = b)) || batchStaged s d r b ||
    decide (b < (tbSlot s d r b).past)

/-- A batch of a region begins to arrive: the last 65 arrivals are held against the declared rate (R200). -/
def noteArrival (d r : Nat) (s : State) : State :=
  let q := schDie s d
  let l := alGet [] q.times r ++ [s.mono]
  let l := l.drop (l.length - 65)
  let s := setSchDie d { q with times := alSet [] q.times r l } s
  match planOf s d r, l.head? with
  | some p, some t0 =>
    stickyIf (decide (l.length = 65 ∧ (s.mono - t0) * 101 < 100 * (64 * p.span (regionT s d r)))) (schPage d) S.SCH_RATE_EXCEEDED s
  | _, _ => s

/-- A batch that holds a slot for its replays alone gives it up to the operands of a later one (R194). -/
def earlyRelease (d r : Nat) (x : TbSlot) (s : State) : State := freeSlot d r x.batch (dropReplays d r x.batch s)

/-- What becomes of an arriving operand. -/
inductive Landing where
  | write | late | full
  deriving DecidableEq, Repr

/-- Where an operand of batch `b` lands (R17, R158, R194): its slot is opened or freed for it where it may be. -/
def landing (d r b : Nat) (s : State) : Landing × State :=
  let x := tbSlot s d r b
  if x.busy && decide (x.batch = b) then (if x.staged then .late else .write, s)
  else if decide (b < x.past) || batchStaged s d r b then (.late, s)
  else if x.busy then
    if x.replayOnly && decide (x.batch < b) then (.write, noteArrival d r (openSlot d r b (earlyRelease d r x s)))
    else if b < x.batch then (.late, s) else (.full, s)
  else (.write, noteArrival d r (openSlot d r b s))

/-- Bytes of an operand (R31). -/
def operandCells (s : State) (o : TurnOperand) (d : Nat) : List Byte := leBytes (operandBytes (regionFormat s d o.region)) o.code

/-- An operand has arrived at its C-die (R155, R158). -/
def operandArrives (d : Nat) (o : TurnOperand) (s : State) : State :=
  let r := o.region
  if !regionValid s d r then s
  else
    let l := landing d r o.batch s
    let s := l.2
    let p := fplPage o.fpl
    let full := evalDetector p S.FPL_TB_FULL (decide (l.1 = .full)) s
    let late := evalDetector p S.FPL_LATE (decide (l.1 = .late)) full.2
    let s := late.2
    if full.1 then countK p R.FPL_CNT 7 1 (setSticky p S.FPL_TB_FULL s)
    else if late.1 then countK p R.FPL_CNT 6 1 (setSticky p S.FPL_LATE s)
    else
      let lc := o.chan / chanDiv s r
      let s := (hbmWrite (operandAddr s d r o.pos lc o.batch o.t) (operandCells s o d) s).2
      let s := countK p R.FPL_CNT 1 1 s
      let x := tbSlot s d r o.batch
      let k := o.pos * 65536 + lc
      let n := ntGet x.arrived k + 1
      let s := setTbSlot d r o.batch { x with arrived := ntSet x.arrived k n } s
      if !x.ready && !batchKnown s d r o.batch && decide (n = regionT s d r) && (absentPairs s d r o.batch).isEmpty then
        makeReady d r o.batch s
      else s

/-- The oldest operand bound for a C-die arrives. -/
def arriveOne (d : Nat) (s : State) : State :=
  match s.fpl.transit.find? (fun o => decide (o.chan % 4 = d)) with
  | none => s
  | some o => operandArrives d o { s with fpl := { s.fpl with transit := removeFirst (fun x => decide (x = o)) s.fpl.transit } }

/-- TURN_WRITE (R155, R157, R158): the oldest `count` operands bound for the C-die arrive. -/
def execTurnWrite (die count : Nat) (s : State) : Result := .next ((List.range count).foldl (fun s _ => arriveOne die s) s)

/-- Batch span of a region in block time (R192). -/
def batchSpan (s : State) (d r : Nat) : Option Nat :=
  match regionTiming s d r with
  | some q => some (ceilDiv (q.t * q.stride * q.den * secondUnits) q.num)
  | none => (planOf s d r).map (fun p => p.span (regionT s d r))

/-- A ready batch that has waited over one batch span sets BACKLOG (R192). -/
def noteBacklog (d : Nat) (s : State) : State :=
  let late := (schDie s d).ready.any (fun x =>
    match batchSpan s d x.region with
    | some t => decide (x.since + t < s.mono) && (planOf s d x.region).isSome
    | none => false)
  stickyIf late (schPage d) S.SCH_BACKLOG s

/-! ## Jobs of a batch (R184, R185, R190, R209) -/

/-- Correlation jobs of an entry in one group, one channel and one batch, as strokes without operands. -/
def corrJobs (r : Nat) (p : Plan) (b beta0 c : Nat) (int : Option Nat) (g : List StageEntry) (fmt : Nat) (e : CutEntry) :
    List Stroke :=
  if e.isGouge || !e.hasChan c then [] else
    e.producers.filterMap (fun x =>
      if groupHolds g x.row && decide ((b - beta0) % e.split = x.num) then
        some { seat := x.seat, region := r, ctx := p.ctx, chan := c, batch := b, int := int, gouge := none, row := x.row
               col := x.col, slot := x.slot, producer := x.num, split := x.splitCode, fmt := fmt, segs := [], own := none
               acc := [], held := 0, replay := false }
      else none)

/-- Gouge jobs of an entry in group number `gi`, one channel and one batch. -/
def gougeJobs (s : State) (d r : Nat) (p : Plan) (gs : List (List StageEntry)) (gi b c fmt : Nat) (e : CutEntry) :
    List Stroke :=
  if !e.isGouge || !e.hasChan c || gougeGroup s d gs e ≠ some gi then [] else
    (upTo e.groupLo e.groupHi).map (fun g =>
      { seat := (e.seat + g - e.groupLo) % 64, region := r, ctx := p.ctx, chan := c, batch := b, int := none
        gouge := some { entry := e, group := g, bankB := (wsetOf s d e.wset).activeB }, row := 0, col := 0, slot := 0
        producer := 0, split := 0, fmt := fmt, segs := [], own := none, acc := [], held := 0, replay := false })

/-! ## Staging (R191, R193, R196) -/

/-- The next batch to stage: oldest ready first, ties by region (R192). -/
def pickReady (s : State) (d : Nat) : List SchReady → Option SchReady
  | [] => none
  | x :: l =>
    let ok := match planOf s d x.region with
      | some p => !p.stopping
      | none => false
    match pickReady s d l with
    | none => if ok then some x else none
    | some y =>
      if ok && decide (x.since < y.since ∨ (x.since = y.since ∧ (x.region < y.region ∨ (x.region = y.region ∧ x.batch < y.batch))))
      then some x else some y

/-! ## Weight stores (R206, R207) -/

/-- Weights of one link: 32 beams of 32 inputs, as stored (R31, R212). -/
def linkWeights (wfmt : Nat) (l : List Byte) : List (List (Int × Int)) :=
  let f := wfmt + 1
  let w := operandBytes f
  (List.range 32).map (fun b => (List.range 32).map (fun q =>
    operandValue f (ofLeBytes ((l.drop ((b * 32 + q) * w)).take w))))

/-- The weights of a job, link by link, from the bank its batch uses (R18, R207, R212, R214). -/
def readWeights (w : WSet) (bank : Bool) (c g : Nat) : Nat → Nat → State → List (List (List (Int × Int))) × State
  | 0, _, s => ([], s)
  | n + 1, l, s =>
    let a := w.bankBase bank + ((c * w.groups + g) * w.links + l) * 1024 * w.weightBytes
    let r := hbmRead a (1024 * w.weightBytes) s
    let q := readWeights w bank c g n (l + 1) r.2
    (linkWeights w.fmt r.1.bytes :: q.1, q.2)

/-- A gouge stroke's weights are in a store: read now where they are not yet (R207). -/
def loadStroke (d : Nat) (k : Stroke) (s : State) : Stroke × State :=
  match k.gouge with
  | none => (k, s)
  | some g =>
    if g.weights.isSome then (k, s)
    else
      let w := wsetOf s d g.entry.wset
      let r := readWeights w g.bankB k.chan g.group w.links 0 s
      ({ k with gouge := some { g with weights := some r.1 } }, r.2)

/-- Weights of the gouge strokes of a queue that `p` picks are loaded, for the first `n` gouge strokes. -/
def loadStrokes (d : Nat) (p : Stroke → Bool) : Nat → List Stroke → State → List Stroke × State
  | _, [], s => ([], s)
  | n, k :: l, s =>
    let r := if k.gouge.isSome && decide (n ≠ 0) && p k then loadStroke d k s else (k, s)
    let q := loadStrokes d p (if k.gouge.isSome then n - 1 else n) l r.2
    (r.1 :: q.1, q.2)

/-- The two weight stores of a lathe hold the weights of its first two gouge strokes (R207). -/
def fillStores (n : Nat) (s : State) : State :=
  let r := loadStrokes (n / 68) (fun _ => true) 2 (lathe s n).queue s
  setLathe n { lathe r.2 n with queue := r.1 } r.2

/-- Before a set's banks swap, the strokes of earlier batches that use it take their weights: one bank serves a whole batch
(R18, R214; log entry 85). -/
def settleWeights (d i : Nat) (s : State) : State :=
  (List.range 68).foldl (fun s j =>
    let n := 68 * d + j
    if (lathe s n).queue.isEmpty then s
    else
      let uses := fun (k : Stroke) => decide (k.gouge.map (·.entry.wset) = some i)
      let r := loadStrokes d uses (lathe s n).queue.length (lathe s n).queue s
      setLathe n { lathe r.2 n with queue := r.1 } r.2) s

/-- Weight sets of a region swap at a batch boundary (R214). -/
def wsetBoundary (d r b : Nat) (s : State) : State :=
  (List.range 16).foldl (fun s i =>
    let w := wsetOf s d i
    let due := (w.swaps.filter (fun q => decide (q.notBefore ≤ b))).map (fun q => if q.notBefore = 0 then b else q.notBefore)
    if !w.valid || decide (w.region ≠ r) || due.isEmpty then s
    else
      let n := due.dedup.length
      let flip := decide (n % 2 = 1)
      let s := settleWeights d i s
      let w := { w with
        w0 := if flip then withBit w.w0 44 (!w.activeB) else w.w0
        swaps := w.swaps.filter (fun q => !decide (q.notBefore ≤ b)) }
      let s := setWset d i w s
      let s := stickyIf (decide (n < due.length)) (ggePage d) S.GGE_WSWAP_COLLAPSED s
      let s := dropFences (wsetFence d i) s
      let s := addFence ⟨w.activeBase, w.size, ggePage d, S.GGE_WEIGHT_WRITE_REFUSED, wsetFence d i⟩ s
      countK (ggePage d) R.GGE_CNT 7 n s) s

/-- The loads a batch needs: channels in order, within each the stages in table order (R191). -/
def loadSteps (p : Plan) (stages : List StageEntry) : List (Nat × Nat) :=
  let span := chanSpan p.entries
  (upTo span.1 span.2).flatMap (fun c => (List.range stages.length).map (fun k => (c, k)))

/-- Gaps with batch `b` of region `r` taken out. -/
def closeGap (r b : Nat) (l : List (Nat × Nat × Nat)) : List (Nat × Nat × Nat) :=
  l.flatMap (fun x =>
    if x.1 = r ∧ x.2.1 ≤ b ∧ b < x.2.2 then
      [(r, x.2.1, b), (r, b + 1, x.2.2)].filter (fun y => decide (y.2.1 < y.2.2))
    else [x])

/-- Batch `b` of a region is taken for staging: the batches before it that were not are passed over (R192). -/
def takeBatch (r b : Nat) (q : SchDie) : SchDie :=
  let n := ntGet q.next r
  { q with
    next := ntSet q.next r (max n (b + 1))
    gaps := if n < b then q.gaps ++ [(r, n, b)] else closeGap r b q.gaps }

/-- A batch boundary of a region passes: Tally and the weight sets act on it, and seats move where an integration began or ended
(R201, R214, R235). Answers the integration the batch belongs to and its first batch. -/
def passBoundary (d r b : Nat) (p : Plan) (s : State) : (Option Nat × Nat) × State :=
  let t := tallyBatch d p.ctx b p.entries s
  let s := wsetBoundary d r b t.2
  ((t.1.1, t.1.2.1), if t.1.2.2 then settleSeats d (moveSeats d r s) else s)

/-- The first stage load of a batch begins: boundaries act, absent streams are zapped (R191 to R193, R201, R214, R235). -/
def beginBatch (d : Nat) (x : SchReady) (p : Plan) (s : State) : State :=
  let r := x.region
  let s := noteBacklog d s
  let q := schDie s d
  let s := wakeOnBatch d r (setSchDie d (takeBatch r x.batch { q with ready := removeFirst (fun y => decide (y = x)) q.ready }) s)
  let s := if slotHolds s d r x.batch then setTbSlot d r x.batch { tbSlot s d r x.batch with staged := true } s else s
  let t := passBoundary d r x.batch p s
  let s := t.2
  let s := if x.absent.isEmpty then s else
    countK (schPage d) R.SCH_CNT 7 x.absent.length (setSticky (schPage d) S.SCH_DEADLINE_ZAP s)
  let q := schDie s d
  setSchDie d { q with cur := some ⟨r, x.batch, x.absent, t.1.1, t.1.2, loadSteps p (stagesOf s d r p.stages)⟩ } s

/-- `n` spectra of a block as bytes, cut into rows of 32 operands, absent positions zero. -/
def blockRows (fmt : Nat) (absent : List Nat) : Nat → List Byte → List (List (Int × Int))
  | 0, _ => []
  | n + 1, l =>
    let w := operandBytes fmt
    let row := (List.range 32).map (fun q =>
      if q ∈ absent then (0, 0) else operandValue fmt (ofLeBytes ((l.drop (q * w)).take w)))
    row :: blockRows fmt absent n (l.drop (32 * w))

/-- One block of a stage as it comes from the turn buffer (R155, R193, R196). `bad`: an uncorrectable blank-store error. -/
def loadBlock (d r b c first count : Nat) (absent : List (Nat × Nat)) (bad : Bool) (k : Nat) (s : State) : BlockData × State :=
  let fmt := regionFormat s d r
  let a := operandAddr s d r (32 * k) c b first
  let h := hbmRead a (count * 32 * operandBytes fmt) s
  let tb := h.1.poison || h.1.err
  let gone := absent.filterMap (fun x => if x.2 = c ∧ x.1 / 32 = k then some (x.1 % 32) else none)
  (⟨k, if tb then 2 else if bad then 1 else 0, blockRows fmt gone count h.1.bytes⟩,
    stickyIf tb (schPage d) S.SCH_TB_UNCORR h.2)

/-- Blocks of a stage or a replay, one after the other. `errs`: blank-store errors by block, corrected or not. -/
def loadBlocks (d r b c first count : Nat) (absent : List (Nat × Nat)) (errs : List (Nat × Bool)) : List Nat → State →
    List BlockData × State
  | [], s => ([], s)
  | k :: l, s =>
    let bad := errs.any (fun e => decide (e.1 = k) && e.2)
    let x := loadBlock d r b c first count absent bad k s
    let q := loadBlocks d r b c first count absent errs l x.2
    (x.1 :: q.1, q.2)

/-- Blank-store errors of a load, an injected one with them (R75, R196). -/
def blankErrors (d : Nat) (blocks : List Nat) (errs : List (Nat × Bool)) (s : State) : List (Nat × Bool) × State :=
  let c := takeArmed (schPage d) S.SCH_BLANK_CORR s
  let u := takeArmed (schPage d) S.SCH_BLANK_UNCORR c.2
  let l := errs.filter (fun e => decide (e.1 ∈ blocks))
  let first := blocks.headD 0
  let l := l ++ (if c.1 then [(first, false)] else []) ++ (if u.1 then [(first, true)] else [])
  let s := stickyIf (l.any (fun e => !e.2)) (schPage d) S.SCH_BLANK_CORR u.2
  (l, stickyIf (l.any (fun e => e.2)) (schPage d) S.SCH_BLANK_UNCORR s)

/-- A stroke of the first block whose staging read an injection makes uncorrectable. -/
def injectTb (d : Nat) (l : List BlockData) (s : State) : List BlockData × State :=
  let i := takeArmed (schPage d) S.SCH_TB_UNCORR s
  if i.1 then
    (match l with
      | [] => []
      | x :: l => { x with bad := 2 } :: l, setSticky (schPage d) S.SCH_TB_UNCORR i.2)
  else (l, i.2)

/-! ## Accumulation (R165) -/

/-- x · conj(y). -/
def mulConj (x y : Int × Int) : Int × Int := (x.1 * y.1 + x.2 * y.2, x.2 * y.1 - x.1 * y.2)

def addPair (x y : Int × Int) : Int × Int := (x.1 + y.1, x.2 + y.2)

/-- An operand vector with its witness operand, the exact sum, as element 32. -/
def withWitness (l : List (Int × Int)) : List (Int × Int) := l ++ [l.foldl addPair (0, 0)]

/-- The products of one spectrum, cell (i, j) at 33 i + j. -/
def outer (x y : List (Int × Int)) : List (Int × Int) := (withWitness x).flatMap (fun a => (withWitness y).map (mulConj a))

/-- An empty live set. -/
def noAcc : List (Int × Int) := List.replicate 1089 (0, 0)

/-- Accumulation over spectra of row and column operands. -/
def accumulate (acc : List (Int × Int)) (xs ys : List (List (Int × Int))) : List (Int × Int) :=
  (xs.zip ys).foldl (fun a p => a.zipWith addPair (outer p.1 p.2)) acc

/-- A block of a stored stage. -/
def BlankHalf.block (x : BlankHalf) (k : Nat) : BlockData := (x.blocks.find? (fun b => decide (b.block = k))).getD ⟨k, 0, []⟩

/-- Accumulators of a stroke before a segment. -/
def Stroke.accOr (k : Stroke) : List (Int × Int) := if k.acc.isEmpty then noAcc else k.acc

/-- Whether the blocks of a job were read with an error: 0 no, 1 in the blank store, 2 in the turn buffer (R196). -/
def dataBad (x : BlankHalf) (blocks : List Nat) : Nat := (blocks.map (fun k => (x.block k).bad)).foldl worseBlock 0

/-- A stroke has taken in its first loaded segment, `x`, and waits for the next (R190). -/
def takeSegment (x : BlankHalf) (k : Stroke) : Stroke :=
  { k with
    segs := k.segs.drop 1, acc := accumulate k.accOr (x.block k.row).rows (x.block k.col).rows, held := k.held + x.count
    bad := worseBlock k.bad (dataBad x [k.row, k.col]) }

/-- A stroke that has half `h` as a segment which is not its last takes it in. -/
def passSegment (h : Nat) (x : BlankHalf) (k : Stroke) : Stroke :=
  if k.own.isNone && k.gouge.isNone && decide (k.segs.head? = some h) && (k.more || decide (1 < k.segs.length)) then
    takeSegment x k
  else k

/-- The strokes in front of the lathes of a die end the segment they read from half `h`; a halted lathe issues nothing
(R180, R191). -/
def passHalf (d h : Nat) (s : State) : State :=
  match halfOf s d h with
  | none => s
  | some x =>
    { s with sch := { s.sch with
        lathes := s.sch.lathes.map (fun e =>
          if e.1 / 68 = d ∧ flag s (lthPage e.1) F.LTH_SNAP_CTRL_HALTED = false then
            match e.2.queue with
            | [] => e
            | k :: l => (e.1, { e.2 with queue := passSegment h x k :: l })
          else e) } }

/-! ## Issue -/

/-- A job is issued on the lathe of its seat, or fails there and then (R71, R177, R201, R202). The weights of a gouge job are
loaded as a store is free for them (R207). -/
def issueJob (d : Nat) (s : State) (k : Stroke) : State :=
  let s := match k.int with
    | some n => if k.gouge.isNone then tallyIssue d k.ctx n s else s
    | none => s
  match runningLathe s d k.seat k.region with
  | none => missStroke d k true (countK (schPage d) R.SCH_CNT 4 1 s)
  | some n =>
    if !flag s (lthPage n) F.PAGE_CTRL_ENABLE then missStroke d k true s
    else if k.gouge.isSome && !flag s (ggePage d) F.PAGE_CTRL_ENABLE then missStroke d k false s
    else
      let x := lathe s n
      let s := countK (schPage d) R.SCH_CNT 3 1 (setLathe n { x with queue := x.queue ++ [k] } s)
      if k.gouge.isSome then fillStores n s else s

/-- A later segment, in half `h`, reaches the strokes its group holds open. -/
def feedSegment (d r b c : Nat) (rows : List StageEntry) (h : Nat) (last : Bool) (s : State) : State :=
  { s with sch := { s.sch with
      lathes := s.sch.lathes.map (fun e =>
        if e.1 / 68 = d then
          (e.1, { e.2 with queue := e.2.queue.map (fun k =>
            if k.more ∧ k.region = r ∧ k.batch = b ∧ k.chan = c ∧ groupHolds rows k.row then
              { k with segs := k.segs ++ [h], more := !last }
            else k) })
        else e) } }

/-- Number of a stage's group, its place in the group, and the group. -/
def stagePlace : List (List StageEntry) → Nat → Option (Nat × Nat × List StageEntry)
  | [], _ => none
  | g :: gs, k =>
    if k < g.length then some (0, k, g)
    else (stagePlace gs (k - g.length)).map (fun x => (x.1 + 1, x.2))

/-- The jobs a load of channel `c` opens, entry by entry (R191): correlation jobs with the first segment of their group, gouge
jobs with every segment (R210). -/
def stepJobs (s : State) (d : Nat) (p : Plan) (q : SchCur) (gs : List (List StageEntry)) (c : Nat)
    (place : Nat × Nat × List StageEntry) : List Stroke :=
  let r := q.region
  let fmt := regionFormat s d r
  p.entries.flatMap (fun e =>
    if e.isGouge then gougeJobs s d r p gs place.1 q.batch c fmt e
    else if place.2.1 = 0 then corrJobs r p q.batch q.beta0 c q.int place.2.2 fmt e
    else [])

/-- The jobs of a load: its segment reaches the strokes held open, and those it opens are issued in order. -/
def runStage (d : Nat) (p : Plan) (q : SchCur) (gs : List (List StageEntry)) (c h : Nat) (place : Nat × Nat × List StageEntry)
    (s : State) : State :=
  let last := decide (place.2.1 + 1 = place.2.2.length)
  let jobs := (stepJobs s d p q gs c place).map (fun k => { k with segs := [h], more := k.gouge.isNone && !last })
  jobs.foldl (issueJob d) (feedSegment d q.region q.batch c place.2.2 h last s)

/-- Whether half `h` of a die is free: no stroke reads it (R191). -/
def halfFree (s : State) (d h : Nat) : Bool := !(dieStrokes s d).any (fun k => decide (h ∈ k.segs))

/-- The last stage of a batch has been loaded (R191, R194). -/
def endLoads (d : Nat) (p : Plan) (q : SchCur) (s : State) : State :=
  let x := schDie s d
  let s := setSchDie d { x with cur := none, loaded := x.loaded ++ [⟨q.region, q.batch, 0, q.absent⟩] } s
  let s := countK (schPage d) R.SCH_CNT 0 1 s
  let s :=
    if p.replayMode then
      (if slotHolds s d q.region q.batch then
        setTbSlot d q.region q.batch { tbSlot s d q.region q.batch with replayOnly := true } s else s)
    else freeSlot d q.region q.batch s
  finishBatches d s

/-- One stage is loaded into the free half, and its jobs are issued (R190, R191, R196). -/
def loadStep (d : Nat) (errs : List (Nat × Bool)) (p : Plan) (q : SchCur) (s : State) : State :=
  match q.steps with
  | [] => endLoads d p q s
  | (c, k) :: rest =>
    let h := if (schDie s d).useB then 1 else 0
    let s := passHalf d h s
    if !halfFree s d h then s
    else
      let st := stagesOf s d q.region p.stages
      let e := st.getD k (implicitStage 1)
      let count := e.len (regionT s d q.region)
      let be := blankErrors d e.blocks errs s
      let l := loadBlocks d q.region q.batch c e.first count q.absent be.1 e.blocks be.2
      let i := injectTb d l.1 l.2
      let x : BlankHalf := ⟨e.first, i.1⟩
      let z := schDie i.2 d
      let s := setSchDie d { z with
        halfA := if h = 0 then some x else z.halfA
        halfB := if h = 0 then z.halfB else some x
        useB := !z.useB
        cur := some { q with steps := rest } } i.2
      let s := countK (schPage d) R.SCH_CNT 1 1 s
      let s := countK (schPage d) R.SCH_CNT 2 (ceilDiv (stageBytes s d q.region e) 64) s
      let gs := stageGroups st
      let s := match stagePlace gs k with
        | some place => runStage d p q gs c h place s
        | none => s
      if rest.isEmpty then endLoads d p { q with steps := [] } s else s

/-- STAGE_LOAD (R191 to R193, R196): the next load of the batch in progress, or of the next ready one. `errs`: blank-store
errors by block, true where uncorrectable. -/
def stageLoad (d : Nat) (errs : List (Nat × Bool)) (s : State) : State :=
  if !pageLive s (schPage d) then s
  else
    let go := fun (s : State) =>
      match (schDie s d).cur with
      | some q =>
        match planOf s d q.region with
        | some p => loadStep d errs p q s
        | none => s
      | none => s
    if (schDie s d).cur.isSome then go s
    else
      match pickReady s d (schDie s d).ready with
      | none => s
      | some x =>
        match planOf s d x.region with
        | some p => go (beginBatch d x p s)
        | none => s

/-- STAGE_LOAD. -/
def execStageLoad (die : Nat) (errs : List (Nat × Bool)) (s : State) : Result := .next (stageLoad die errs s)

/-- A job of a load that is not done fails: `first`, `count` its spectra in the batch. -/
def missJob (d first count : Nat) (s : State) (k : Stroke) : State :=
  match k.gouge with
  | some g => gougeMissing d k g first count s
  | none =>
    missStroke d k false (match k.int with
      | some n => tallyIssue d k.ctx n s
      | none => s)

/-- Every job of the loads a batch in progress still has to do fails without being issued (R71, R203). -/
def missSteps (d : Nat) (p : Plan) (q : SchCur) (s : State) : State :=
  let st := stagesOf s d q.region p.stages
  let gs := stageGroups st
  let t := regionT s d q.region
  q.steps.foldl (fun s z =>
    let e := st.getD z.2 (implicitStage 1)
    match stagePlace gs z.2 with
    | some place => (stepJobs s d p q gs z.1 place).foldl (missJob d e.first (e.len t)) s
    | none => s) s

/-- Every job of a batch fails without being issued: the scheduler is disabled at the deadline (R71). -/
def skipBatch (d : Nat) (x : SchReady) (p : Plan) (s : State) : State :=
  let s := beginBatch d x p s
  match (schDie s d).cur with
  | none => s
  | some q => freeSlot d q.region q.batch (missSteps d p q (setSchDie d { schDie s d with cur := none } s))

/-- Whether this member stages a batch: in a batch-wise gang region one member owns it (R263). -/
def ownsBatch (s : State) (d r b : Nat) : Bool :=
  decide (gangMode s r ≠ 2 ∨ ownerMember s r d b = gangMember s)

/-- The time of a batch's staging deadline, where the timing of its region is known (R17). -/
def toDeadline (d r b : Nat) (p : Plan) (s : State) : State :=
  match regionTiming s d r with
  | some q => advanceTo (q.nominalEnd b + p.deadlineUs * usUnits) s
  | none => s

/-- A staging deadline passes (R17, R71, R192): a batch not yet ready is so now. Of a batch another member owns, the boundary
alone passes here (R263, R265; log entry 86). -/
def stagingDeadline (d r b : Nat) (s : State) : State :=
  match planOf s d r with
  | none => s
  | some p =>
    let s := toDeadline d r b p s
    if !ownsBatch s d r b then (passBoundary d r b p s).2
    else
      let s := if batchKnown s d r b then s else makeReady d r b s
      let s := noteBacklog d s
      match (schDie s d).ready.find? (fun x => decide (x.region = r ∧ x.batch = b)) with
      | some x => if pageLive s (schPage d) || p.stopping then s else skipBatch d x p s
      | none => s

/-- STAGING_DEADLINE. -/
def execStagingDeadline (die region batch : Nat) (s : State) : Result := .next (stagingDeadline die region batch s)

end Sys2Proof.Machine
end

