-- ==== Sys2Proof/Machine/Lathe.lean ====
section
/-! DEFINITION. Lathes (07_lathes.md): the drain token and the witness check, failures, replays, and debug access. -/

namespace Sys2Proof.Machine

/-! ## What a token brings (R165, R168, R173) -/


/-- The 48-bit codes of a set, faults and an injected addition included. -/
def faultCode (fs : List CellFault) (inj : Option (Nat × Bool)) (cell : Nat) (im : Bool) (x : Int) : Code48 :=
  let x := if inj = some (cell, im) then x + 1 else x
  fs.foldl (fun c f => if f.row * 33 + f.col = cell ∧ f.im = im then c ^^^ f.mask else c) (BitVec.ofInt 48 x)

/-- The set as the shadow takes it. -/
def faultSet (fs : List CellFault) (inj : Option (Nat × Bool)) (acc : List (Int × Int)) : List (Code48 × Code48) :=
  acc.zipIdx.map (fun p => (faultCode fs inj p.2 false p.1.1, faultCode fs inj p.2 true p.1.2))

/-- Whether a code is finite. -/
def codeFinite (c : Code48) : Bool := !code48Void false c && !code48Inf false c

/-- A failing equation: kind 0 row, 1 column, 2 corner by rows, 3 corner by columns; index, component, sum − witness. -/
structure Equation where
  kind : Nat
  index : Nat
  im : Bool
  diff : Int
  deriving DecidableEq, Repr

/-- Cell (i, j) of a set of values. -/
def cellAt (v : List (Int × Int)) (i j : Nat) : Int × Int := v.getD (33 * i + j) (0, 0)

/-- Sum of the first 32 cells of a row or a column. -/
def rowSum (v : List (Int × Int)) (i : Nat) : Int × Int := (List.range 32).foldl (fun a j => addPair a (cellAt v i j)) (0, 0)
def colSum (v : List (Int × Int)) (j : Nat) : Int × Int := (List.range 32).foldl (fun a i => addPair a (cellAt v i j)) (0, 0)

/-- Both components of an equation. -/
def equationOf (kind index : Nat) (sum wit : Int × Int) : List Equation :=
  [⟨kind, index, false, sum.1 - wit.1⟩, ⟨kind, index, true, sum.2 - wit.2⟩]

/-- The 132 equations in the order of R173. -/
def equations (v : List (Int × Int)) : List Equation :=
  (List.range 32).flatMap (fun i => equationOf 0 i (rowSum v i) (cellAt v i 32)) ++
  (List.range 32).flatMap (fun j => equationOf 1 j (colSum v j) (cellAt v 32 j)) ++
  equationOf 2 0 (colSum v 32) (cellAt v 32 32) ++ equationOf 3 0 (rowSum v 32) (cellAt v 32 32)

/-- The equations that fail. -/
def failing (v : List (Int × Int)) : List Equation := (equations v).filter (fun e => decide (e.diff ≠ 0))

/-! ## Reporting a failure (R175, R208) -/

/-- A job in the layout of LTH_JOB. What ROW_BLOCK and COL_BLOCK hold for a gouge job is not stated: free values. -/
def jobWord (d : Nat) (k : Stroke) (s : State) : Word × State :=
  let r := if k.gouge.isSome then takeFree s else (BitVec.ofNat 64 (k.row % 2 ^ 13 + k.col % 2 ^ 13 * 2 ^ 16), s)
  let kind := if k.gouge.isSome then 2 else 1
  (BitVec.ofNat 64 (fieldOf r.1 0 13 + fieldOf r.1 16 13 * 2 ^ 16 + globalChan s d k.region k.chan % 2 ^ 16 * 2 ^ 32
    + kind * 2 ^ 48 + k.fmt % 4 * 2 ^ 50 + k.batch % 4096 * 2 ^ 52), r.2)

/-- What LTH_WIT_FAIL, LTH_WIT_MASK and LTH_WIT_DIFF take. -/
structure WitReport where
  cause : Nat
  kind : Nat
  index : Nat
  im : Bool
  failed : Nat
  mask : Nat
  diff : Int
  deriving DecidableEq, Repr

/-- Bits of the failing row and column equations. -/
def witMask (l : List Equation) : Nat :=
  let bits := fun kind => ((l.filter (fun e => decide (e.kind = kind))).map (·.index)).dedup.map (2 ^ ·)
  (bits 0).sum + (bits 1).sum * 2 ^ 32

/-- The report of a mismatch. -/
def mismatch (l : List Equation) : WitReport :=
  match l.head? with
  | some e => ⟨1, e.kind, e.index, e.im, l.length, witMask l, e.diff⟩
  | none => ⟨1, 0, 0, false, 0, 0, 0⟩

/-- The registers of a failed stroke (R175). -/
def loadWit (n : Nat) (k : Stroke) (w : WitReport) (s : State) : State :=
  let p := lthPage n
  let s := setReg p R.LTH_WIT_FAIL (BitVec.ofNat 64 (w.cause + w.kind * 4 + w.index * 16 + (if w.im then 512 else 0)
    + w.failed % 256 * 2 ^ 16)) s
  let s := setReg p R.LTH_WIT_MASK (BitVec.ofNat 64 w.mask) s
  let s := setReg p R.LTH_WIT_DIFF (BitVec.ofInt 64 w.diff) s
  let j := jobWord (n / 68) k s
  setReg p R.LTH_WIT_JOB j.1 j.2

/-- A stroke fails on its lathe (R172, R175, R177): reported, counted toward retry, missed; the lathe retires at its
threshold. -/
def failStroke (n : Nat) (k : Stroke) (w : WitReport) (s : State) : State :=
  let p := lthPage n
  let s := setSticky p (if w.cause = 3 then S.LTH_HANDSHAKE_TO else S.LTH_WIT_FAIL) s
  let s := if w.cause = 3 then countK p R.LTH_CNT 7 1 s else s
  let s := countK p R.LTH_CNT 2 1 (loadWit n k w s)
  let s := missStroke (n / 68) k true s
  let r := countRetry p s
  if r.2 && !pageRetired r.1 p then retireLathe n r.1 else r.1

/-- The state with the stroke at the front of a lathe gone; a weight store is free for the next gouge stroke (R207). -/
def popStroke (n : Nat) (s : State) : State :=
  let x := lathe s n
  fillStores n (setLathe n { x with queue := x.queue.drop 1 } s)

/-- Whether a lathe is halted for inspection (R179). -/
def latheHalted (s : State) (n : Nat) : Bool := flag s (lthPage n) F.LTH_SNAP_CTRL_HALTED

/-- Issue cycles of a correlation stroke (R166). -/
def strokeCycles (fmt t : Nat) : Nat := if fmt = 0 then t / 4 else if fmt = 1 then t else 4 * t

/-! ## DRAIN_TOKEN -/

/-- The cell an injected failure acts on (LTH_INJ_CELL). -/
def injCell (s : State) (n : Nat) : Nat × Bool :=
  let p := lthPage n
  (33 * fld s p F.LTH_INJ_CELL_ROW + fld s p F.LTH_INJ_CELL_COL, flag s p F.LTH_INJ_CELL_IM)

/-- The witness check of the shadow set and what follows it: the dump, or the failure (R168, R170, R173, R175). -/
def witnessCheck (n : Nat) (k : Stroke) (sh : List (Code48 × Code48)) (s : State) : State :=
  let p := lthPage n
  let vals := sh.map (fun c => (c.1.toInt, c.2.toInt))
  let x := lathe s n
  let s := setLathe n { x with shadow := vals, tokenSeen := x.tokenSeen || x.snapping } s
  let bad := sh.any (fun c => !codeFinite c.1 || !codeFinite c.2)
  let l := failing vals
  if bad then failStroke n k ⟨2, 0, 0, false, 0, 0, 0⟩ s
  else if l ≠ [] then failStroke n k (mismatch l) s
  else
    let i := takeArmed p S.LTH_HANDSHAKE_TO s
    if i.1 then failStroke n k ⟨3, 0, 0, false, 0, 0, 0⟩ i.2
    else
      let s := countK p R.LTH_CNT 0 1 i.2
      tallySend (n / 68) (strokeItem k .dump ((List.range 1024).map (fun v => cellAt vals (v / 32) (v % 32))) false) s

/-- The token of the stroke in front (R169): its accumulators, the cycles it took, and the check. A stroke whose data was
read with an error fails without blame on the lathe (R196). -/
def drainToken (n : Nat) (fs : List CellFault) (held stretched : Nat) (s : State) : State :=
  let d := n / 68
  let p := lthPage n
  match (lathe s n).queue.head? with
  | none => s
  | some k =>
    match strokeData s d k with
    | none => s
    | some h =>
      if latheHalted s n || k.gouge.isSome || pageRetired s p then s
      else
        let t := k.held + h.count
        let s := popStroke n s
        let s := countK p R.LTH_CNT 4 (strokeCycles k.fmt t) s
        let s := countK p R.LTH_CNT 6 stretched (countK p R.LTH_CNT 5 held s)
        let bad := worseBlock k.bad (dataBad h [k.row, k.col])
        let s :=
          if bad ≠ 0 then missStroke d k (decide (bad = 1)) (countK p R.LTH_CNT 2 1 s)
          else
            let i := takeArmed p S.LTH_WIT_FAIL s
            let acc := accumulate k.accOr (h.block k.row).rows (h.block k.col).rows
            witnessCheck n k (faultSet fs (if i.1 then some (injCell s n) else none) acc) i.2
        finishBatches d s

/-- DRAIN_TOKEN (R165 to R177). `held`, `stretched`: cycles. -/
def execDrainToken (lathe : Nat) (faults : List CellFault) (held stretched : Nat) (s : State) : Result :=
  .next (drainToken lathe faults held stretched s)

/-- HANDSHAKE_TO (R172): the stroke in progress fails. -/
def execHandshakeTo (lth : Nat) (s : State) : Result :=
  match (lathe s lth).queue.head? with
  | none => .next s
  | some k => .next (finishBatches (lth / 68) (failStroke lth k ⟨3, 0, 0, false, 0, 0, 0⟩ (popStroke lth s)))

/-! ## REPLAY (R176, R195) -/

/-- Replays running on the spares of a die. -/
def runningReplays (s : State) (d : Nat) : Nat := ((dieStrokes s d).filter (fun k => k.replay)).length

/-- The spare a replay would run on: the lowest free one that is enabled and idle (R71, R176). -/
def replaySpare (s : State) (d : Nat) : Option Nat :=
  (freeSpares s d).find? (fun n => flag s (lthPage n) F.PAGE_CTRL_ENABLE && (lathe s n).queue.isEmpty && !latheHalted s n)

/-- The (position, channel) pairs that were absent from a batch when it was staged. -/
def batchAbsent (s : State) (d r b : Nat) : List (Nat × Nat) :=
  let q := schDie s d
  match q.cur with
  | some c => if c.region = r ∧ c.batch = b then c.absent else
      ((q.loaded.find? (fun x => decide (x.region = r ∧ x.batch = b))).map (·.absent)).getD []
  | none => ((q.loaded.find? (fun x => decide (x.region = r ∧ x.batch = b))).map (·.absent)).getD []

/-- The oldest failed job runs again on a free spare, at most two at once on a die. -/
def replayNext (d : Nat) (errs : List (Nat × Bool)) (s : State) : State :=
  match (schDie s d).replays.head?, replaySpare s d with
  | some k, some n =>
    if 2 ≤ runningReplays s d then s
    else
      let q := schDie s d
      let s := setSchDie d { q with replays := q.replays.drop 1 } s
      let blocks := [k.row, k.col].dedup
      let be := blankErrors d blocks errs s
      let l := loadBlocks d k.region k.batch k.chan 0 (regionT s d k.region) (batchAbsent s d k.region k.batch) be.1 blocks be.2
      let s := countK (lthPage n) R.LTH_CNT 3 1 (countK (schPage d) R.SCH_CNT 5 1 l.2)
      setLathe n { lathe s n with queue := [{ k with own := some ⟨0, l.1⟩ }] } s
  | _, _ => s

/-- REPLAY. `errs`: replay-area errors by block, true where uncorrectable. -/
def execReplay (die : Nat) (errs : List (Nat × Bool)) (s : State) : Result := .next (replayNext die errs s)

/-! ## Debug access (R178 to R180) -/

/-- SNAPSHOT takes effect only in debug mode and on a lathe that is not halted. -/
def snapshot (n : Nat) (s : State) : State :=
  if !flag s (lthPage n) F.PAGE_CTRL_DEBUG then refuseBit (lthPage n) S.LOCK_REFUSED s
  else if latheHalted s n then s
  else setLathe n { lathe s n with snapping := true, tokenSeen := false } s

/-- RESUME, written or by the end of debug: issuing goes on where it stopped. -/
def latheResume (n : Nat) (s : State) : State :=
  setFld (lthPage n) F.LTH_SNAP_CTRL_HALTED 0 (setLathe n { lathe s n with snapping := false } s)

/-- A write of LTH_SNAP_CTRL: SNAPSHOT, then RESUME (R473). -/
def writeSnapCtrl (n : Nat) (v : Word) (s : State) : State :=
  let s := actIf v 0 (snapshot n) s
  actIf v 1 (fun s => if latheHalted s n then latheResume n s else s) s

/-- SNAPSHOT (R178, R179). -/
def execSnapshot (m lathe : Nat) (v : Word) (s : State) : Result :=
  .next (guardedWrite m (lthPage lathe) R.LTH_SNAP_CTRL (v ||| 1#64) (writeSnapCtrl lathe (v ||| 1#64)) s)

/-- LTH_RESUME (R180). -/
def execLthResume (m lathe : Nat) (v : Word) (s : State) : Result :=
  .next (guardedWrite m (lthPage lathe) R.LTH_SNAP_CTRL (v ||| 2#64) (writeSnapCtrl lathe (v ||| 2#64)) s)

/-- The live set of a lathe after `samples` spectra of the stroke in front: none where no correlation stroke is. -/
def liveSet (s : State) (n samples : Nat) : List (Int × Int) × Nat :=
  match (lathe s n).queue.head? with
  | none => (noAcc, 0)
  | some k =>
    if k.gouge.isSome then (noAcc, 0)
    else
      match strokeLoaded s (n / 68) k with
      | none => (k.accOr, k.held)
      | some h =>
        let m := min (samples - k.held) h.count
        (accumulate k.accOr ((h.block k.row).rows.take m) ((h.block k.col).rows.take m), k.held + m)

/-- SNAP_DONE (R179): the pipeline is empty and the lathe halts. `samples`: spectra issued of the stroke in front. -/
def snapDone (n samples : Nat) (s : State) : State :=
  let x := lathe s n
  if !x.snapping then s
  else
    let v := liveSet s n samples
    let s := setLathe n { x with live := v.1, snapping := false } s
    let s := setReg (lthPage n) R.LTH_SNAP_INFO (BitVec.ofNat 64 (v.2 % 2 ^ 21 + (if x.tokenSeen then 2 ^ 24 else 0))) s
    setSticky (lthPage n) S.LTH_SNAP_DONE (setFld (lthPage n) F.LTH_SNAP_CTRL_HALTED 1 s)

/-- SNAP_DONE. -/
def execSnapDone (lathe samples : Nat) (s : State) : Result := .next (snapDone lathe samples s)

/-! ## Registers, enable and reset -/

/-- STATE of a lathe. -/
def latheState (s : State) (n : Nat) : Nat :=
  let p := lthPage n
  if pageRetired s p then 4
  else if latheHalted s n then 3
  else
    match (lathe s n).queue.head? with
    | some k => if (strokeLoaded s (n / 68) k).isSome then 1 else 2
    | none => if flag s p F.PAGE_CTRL_ENABLE then 0 else 5

/-- A read of LTH_STATUS; the stretched fraction is measured. -/
def readLthStatus (n : Nat) (s : State) : Word × State :=
  let f := takeFree s
  let rep := ((lathe s n).queue.head?.map (·.replay)).getD false
  let w := reg s (lthPage n) R.LTH_STATUS
  (withField (withBit (withField w 0 3 (latheState s n)) 4 rep) 32 16 f.1.toNat, f.2)

/-- A read of LTH_JOB: the stroke in front. -/
def readLthJob (n : Nat) (s : State) : Word × State :=
  match (lathe s n).queue.head? with
  | some k => jobWord (n / 68) k s
  | none => (0, s)

/-- A read of LTH_ACC_RE or LTH_ACC_IM (R178, R179). -/
def readAcc (s : State) (n : Nat) (im : Bool) : Word :=
  let p := lthPage n
  if !latheHalted s n || !flag s p F.PAGE_CTRL_DEBUG then 0
  else
    let x := lathe s n
    let set := if flag s p F.LTH_ACC_ADDR_SET then x.shadow else x.live
    let c := cellAt set (fld s p F.LTH_ACC_ADDR_ROW) (fld s p F.LTH_ACC_ADDR_COL)
    BitVec.ofNat 64 (BitVec.ofInt 48 (if im then c.2 else c.1)).toNat

/-- ENABLE of a lathe goes to 0: the stroke in front completes, the others fail (R71, R164). -/
def latheDisable (n : Nat) (s : State) : State :=
  let x := lathe s n
  let s := setLathe n { x with queue := x.queue.take 1 } s
  finishBatches (n / 68) ((x.queue.drop 1).foldl (fun s k => missStroke (n / 68) k true s) s)

/-- A soft reset of a lathe: the stroke in progress and the shadow set are abandoned (R164). -/
def resetLathe (n : Nat) (s : State) : State :=
  let x := lathe s n
  let s := fillStores n (setLathe n { queue := x.queue.drop 1 } s)
  finishBatches (n / 68) (match x.queue.head? with
    | some k => missStroke (n / 68) k true s
    | none => s)

end Sys2Proof.Machine
end

