-- ==== Sys2Proof/Machine/Gouge.lean ====
section
/-! DEFINITION. Gouge strokes, detectors, weight sets and detector lines (09_gouge_beams.md). -/

namespace Sys2Proof.Machine

/-! ## The stroke (R204 to R206) -/


/-- w · x, with no conjugate (R204). -/
def mulPlain (w x : Int × Int) : Int × Int := (w.1 * x.1 - w.2 * x.2, w.1 * x.2 + w.2 * x.1)

/-- Sum of products over the inputs of a link. -/
def dotPlain (w x : List (Int × Int)) : Int × Int := (w.zip x).foldl (fun a p => addPair a (mulPlain p.1 p.2)) (0, 0)

/-- The weights of a link with the witness row W as row 32 (R206). -/
def withWitnessRow (w : List (List (Int × Int))) : List (List (Int × Int)) :=
  w ++ [w.foldl (fun a r => a.zipWith addPair r) (List.replicate 32 (0, 0))]

/-- The 33 row sums of one spectrum over all links (R204, R206). -/
def beamSums (ws : List (List (List (Int × Int)))) (xs : List (List (Int × Int))) : List (Int × Int) :=
  (ws.zip xs).foldl (fun a p => a.zipWith addPair (p.1.map (fun r => dotPlain r p.2))) (List.replicate 33 (0, 0))

/-- The row sums of a spectrum as a disturbance leaves them. -/
def disturb (fs : List BeamFault) (t : Nat) (y : List (Int × Int)) : List (Int × Int) :=
  fs.foldl (fun y f =>
    if f.spectrum = t then y.modify f.row (fun p => if f.im then (p.1, p.2 + f.add) else (p.1 + f.add, p.2)) else y) y

/-- The two checks of a spectrum: component and sum − witness where it is not zero (R206). -/
def beamChecks (y : List (Int × Int)) : List (Bool × Int) :=
  let sum := (y.take 32).foldl addPair (0, 0)
  let wit := y.getD 32 (0, 0)
  [(false, sum.1 - wit.1), (true, sum.2 - wit.2)].filter (fun e => decide (e.2 ≠ 0))

/-- u of a beam, with its clamps (R215). -/
def beamU (shift : Nat) (m : Int) (y : Int × Int) : (Int × Int) × Nat :=
  let a := requantise m y.1 shift
  let b := requantise m y.2 shift
  ((a.1, b.1), (if a.2 then 1 else 0) + (if b.2 then 1 else 0))

/-- |u|² (R216). -/
def power (u : Int × Int) : Int := u.1 * u.1 + u.2 * u.2

/-- Clamps of beam components (R215). -/
def noteClamps (d n : Nat) (s : State) : State :=
  if n = 0 then s else countK (ggePage d) R.GGE_CNT 2 n (setSticky (ggePage d) S.GGE_VOLT_SAT s)

/-- The beams of row sums, requantised with largest magnitude `m`, each with its clamps (R215). -/
def beamsOf (shift : Nat) (m : Int) (ys : List (List (Int × Int))) : List (List ((Int × Int) × Nat)) :=
  ys.map (fun y => (y.take 32).map (beamU shift m))

/-- Clamps of a list of beams. -/
def clampSum (l : List (List ((Int × Int) × Nat))) : Nat := ((l.flatten).map (·.2)).sum

/-- A gouge stroke that has passed (R206, R215 to R219). -/
def gougePass (n : Nat) (k : Stroke) (g : GougeJob) (first : Nat) (ys : List (List (Int × Int))) (s : State) : State :=
  let d := n / 68
  let w := wsetOf s d g.entry.wset
  let s := countK (lthPage n) R.LTH_CNT 1 1 (countK (ggePage d) R.GGE_CNT 0 1 s)
  let us := beamsOf w.shift 32767 ys
  let s := noteClamps d (clampSum us) s
  let vs := if g.entry.voltFmt = 0 then beamsOf w.shift 127 ys else us
  let s := if g.entry.voltEn && decide (g.entry.voltFmt = 0) then noteClamps d (clampSum vs) s else s
  let s := voltTake d k g first (vs.map (fun l => l.map (·.1))) (clampSum vs) s
  beamTake d (beamJob s d k g first ys.length)
    (us.map (fun l => some (l.map (fun u => power u.1), (l.map (·.2)).sum))) s

/-- The gouge stroke a lathe runs: its first stroke, or the first behind strokes that wait for a later segment (R190, R210). -/
def gougeFront : List Stroke → Option Stroke
  | [] => none
  | k :: l => if k.gouge.isSome then some k else if k.more then gougeFront l else none

/-- The state without stroke `k` of a lathe; a weight store is free for the next gouge stroke (R207). -/
def dropStroke (n : Nat) (k : Stroke) (s : State) : State :=
  let x := lathe s n
  fillStores n (setLathe n { x with queue := removeFirst (fun y => decide (y = k)) x.queue } s)

/-- GOUGE_STROKE (R204 to R208): the gouge stroke in front of a lathe ends. -/
def gougeStroke (n : Nat) (fs : List BeamFault) (held stretched : Nat) (s : State) : State :=
  let d := n / 68
  let p := lthPage n
  match gougeFront (lathe s n).queue with
  | none => s
  | some k =>
    match k.gouge, strokeData s d k with
    | some g, some h =>
      if latheHalted s n || pageRetired s p then s
      else
        let w := wsetOf s d g.entry.wset
        let l := loadStroke d k s
        let ws := (((l.1.gouge.bind (·.weights)).getD []).map withWitnessRow)
        let s := dropStroke n k l.2
        let s := countK p R.LTH_CNT 4 (h.count * w.links * gougeCycles k.fmt) s
        let s := countK p R.LTH_CNT 6 stretched (countK p R.LTH_CNT 5 held s)
        let blocks := (List.range w.links).map (fun l => g.entry.block0 + l)
        let s :=
          if !flag s (ggePage d) F.PAGE_CTRL_ENABLE then gougeMissing d k g h.first h.count s
          else if dataBad h blocks ≠ 0 then missStroke d k false (voltRan d k g (countK p R.LTH_CNT 2 1 s))
          else
            let i := takeArmed p S.LTH_WIT_FAIL s
            let s := i.2
            let fs := if i.1 then ⟨h.count - 1, fld s p F.LTH_INJ_CELL_ROW, flag s p F.LTH_INJ_CELL_IM, 1⟩ :: fs else fs
            let ys := (List.range h.count).map (fun t =>
              disturb fs t (beamSums ws (blocks.map (fun b => (h.block b).rows.getD t []))))
            let bad := ys.flatMap beamChecks
            match bad.head? with
            | none => gougePass n k g h.first ys s
            | some e => failStroke n k ⟨1, 0, 0, e.1, min 132 bad.length, 0, e.2⟩ (voltRan d k g s)
        finishBatches d s
    | _, _ => s

/-- GOUGE_STROKE. `held`, `stretched`: cycles. -/
def execGougeStroke (lathe : Nat) (faults : List BeamFault) (held stretched : Nat) (s : State) : Result :=
  .next (refreshPins (gougeStroke lathe faults held stretched s))

/-! ## Detectors (R219 to R221) -/

/-- T48 code of a window sum (R217). -/
def levelCode (x : Nat) : Nat := (t48OfI48 0 (.fin (x : Int))).toNat

/-- The detector record of a move (R217, R221). -/
def detRecord (d i old new last : Nat) (x : Detector) (sum : Nat) (s : State) : State :=
  let h : BeamHdr :=
    { kind := 3, format := 0, beam0 := 16 * d + i, channel := 0, batch := last / max 1 (regionT s d x.region)
      first := last, spectra := 256 * x.units
      flags := beamFlags (phaseStepIn s d x.region (last + 1 - 256 * x.units) last) false false
      sats := 0, missing := 0, level := levelCode sum
      oldState := old, newState := new }
  beamRecord d (fld s (ggePage d) F.GGE_RINGS_DET_RING) h.bytes s

/-- What GGE_DET_STATUS shows of a detector. -/
def showDet (d i : Nat) (sum : Nat) (s : State) : State :=
  setReg (ggePage d) (R.GGE_DET_STATUS + 8 * i) (BitVec.ofNat 64 ((detOf s d i).st + sum % 2 ^ 48 * 2 ^ 16)) s

/-- Sum a detector showed last. -/
def lastSum (s : State) (d i : Nat) : Nat := fieldOf (reg s (ggePage d) (R.GGE_DET_STATUS + 8 * i)) 16 48

/-- Whether a stroke forms the beam of a detector in one of its channels. -/
def Detector.needs (x : Detector) (k : Stroke) : Bool :=
  match k.gouge with
  | some g => decide (k.region = x.region ∧ g.beam0 ≤ x.beam ∧ x.beam < g.beam0 + 32 ∧ x.chLo ≤ k.chan ∧ k.chan ≤ x.chHi)
  | none => false

/-- Whether a load still to come of the batch in progress opens a job a detector needs. -/
def jobsToCome (s : State) (d b : Nat) (x : Detector) : Bool :=
  match (schDie s d).cur with
  | none => false
  | some c =>
    decide (c.region = x.region ∧ c.batch = b) &&
      match planOf s d c.region with
      | none => false
      | some p =>
        let gs := stageGroups (stagesOf s d c.region p.stages)
        c.steps.any (fun z =>
          match stagePlace gs z.2 with
          | some place => (stepJobs s d p c gs z.1 place).any x.needs
          | none => false)

/-- Whether every gouge stroke of a batch for a detector's beam and channels has ended (R220). -/
def strokesEnded (s : State) (d b : Nat) (x : Detector) : Bool :=
  batchStaged s d x.region b && !jobsToCome s d b x &&
    !(dieStrokes s d).any (fun k => decide (k.batch = b) && x.needs k)

/-- Window of a detector at a tick: its sum where it is whole; whether a spectrum is missing; whether it is filled. -/
def window (x : Detector) (k : Nat) : Nat × Bool × Bool :=
  let l := x.ticks.filter (fun t => decide (k < t.tick + x.units ∧ t.tick ≤ k))
  let full := 256 * (x.chHi + 1 - x.chLo)
  ((l.map (·.sum)).sum, l.any (fun t => decide (t.seen < full)), decide (l.length = x.units))

/-- An evaluation with a whole window (R221): the state after it, and whether it moved into or out of ALARM. -/
def detMove (x : Detector) (sum : Nat) : Detector × Bool :=
  if x.st = 3 then
    let x := { x with evals := x.evals + 1 }
    if sum < x.offLevel ∧ x.minOn ≤ x.evals ∧ (x.latch = false ∨ x.acked = true) then ({ x with st := 2 }, true)
    else (x, false)
  else if x.onLevel ≤ sum then ({ x with st := 3, evals := 0, acked := false }, true)
  else ({ x with st := 2 }, false)

/-- The next tick of a detector is evaluated (R219 to R221). -/
def detEvaluate (d i : Nat) (s : State) : State :=
  let x := detOf s d i
  let p := ggePage d
  match x.next with
  | none => s
  | some k =>
    let t := max 1 (regionT s d x.region)
    if x.st = 0 || !pageLive s p || !strokesEnded s d (k * 256 / t) x then s
    else
      let x := { x with ticks := tickPut ⟨k, 0, 0⟩ (x.ticks.filter (fun y => decide (k < y.tick + x.units))), next := some (k + 1) }
      let w := window x k
      let inj := takeArmed p S.GGE_DET_SKIP s
      let s := inj.2
      if w.2.1 || inj.1 then countK p R.GGE_CNT 4 1 (setSticky p S.GGE_DET_SKIP (setDet d i x s))
      else if x.st = 1 && !w.2.2 then setDet d i x s
      else
        let old := x.st
        let m := detMove x w.1
        let s := showDet d i w.1 (countK p R.GGE_CNT 3 1 (setDet d i m.1 s))
        if m.2 then
          let s := detRecord d i (if old = 1 then 2 else old) m.1.st (k * 256 + 255) x w.1 s
          if m.1.st = 3 then setSticky p (32 + i) s else s
        else s

/-- DETECTOR_EVALUATION (R220, R221): the next tick of a detector. -/
def execDetectorEvaluation (die det : Nat) (s : State) : Result := .next (refreshPins (detEvaluate die det s))

/-- A write of GGE_DET_STATUS: ACK (R221). -/
def writeDetStatus (d i : Nat) (v : Word) (s : State) : State :=
  actIf v 2 (fun s => let x := detOf s d i; if x.st = 3 then setDet d i { x with acked := true } s else s) s

/-- DET_ACK (R221). -/
def execDetAck (m die det : Nat) (v : Word) (s : State) : Result :=
  .next (guardedWrite m (ggePage die) (R.GGE_DET_STATUS + 8 * det) (v ||| 4#64) (writeDetStatus die det (v ||| 4#64)) s)

/-- The detector a page's window names. -/
def detAddr (s : State) (d : Nat) : Nat := fld s (ggePage d) F.GGE_DET_ADDR_DET

/-- A READ of GGE_DET_CTRL. -/
def detRead (d : Nat) (s : State) : State :=
  let x := detOf s d (detAddr s d)
  setRegsFrom (ggePage d) R.GGE_DET_DATA [x.w0, x.w1, x.w2, x.w3] s

/-- Whether the words of a detector are refused (R219, R221). -/
def detRefused (old : Detector) (ws : List Word) : Bool :=
  let n : Detector := { w0 := ws.getD 0 0, w1 := ws.getD 1 0, w2 := ws.getD 2 0, w3 := ws.getD 3 0 }
  !onlyBits n.w0 0x1FFFFFFFFFFFFFF#64 || !onlyBits n.w1 0xFFFFFFFFFFFF#64 || !onlyBits n.w2 0xFFFFFFFFFFFF#64 ||
  !onlyBits n.w3 0xFFFF#64 || decide (65536 * 2 ^ n.shift < (n.chHi + 1 - n.chLo) * (256 * n.units)) ||
  decide (n.onLevel < n.offLevel) || (old.enable && decide (n.w0 ||| 3#64 ≠ old.w0 ||| 3#64))

/-- A WRITE of GGE_DET_CTRL (R219, R221). -/
def detWrite (d : Nat) (s : State) : State :=
  let i := detAddr s d
  let old := detOf s d i
  let ws := regsFrom s (ggePage d) R.GGE_DET_DATA 4
  if detRefused old ws then refuseCfg (ggePage d) s
  else
    let x := { old with w0 := ws.getD 0 0, w1 := ws.getD 1 0, w2 := ws.getD 2 0, w3 := ws.getD 3 0 }
    if x.enable && decide (old.st = 0) then
      showDet d i 0 (setDet d i { x with st := 1, evals := 0, acked := false, next := none, ticks := [] } s)
    else if !x.enable && decide (old.st ≠ 0) then
      let sum := lastSum s d i
      let s := showDet d i sum (setDet d i { x with st := 0, evals := 0, acked := false, next := none, ticks := [] } s)
      if old.st = 3 then detRecord d i 3 0 (old.next.getD 0 * 256 - 1) old sum s else s
    else setDet d i x s

/-- A write of GGE_DET_CTRL: READ, then WRITE (R473). -/
def writeDetCtrl (d : Nat) (v : Word) (s : State) : State := actIf v 1 (detWrite d) (actIf v 0 (detRead d) s)

/-- GGE_DET_READ. -/
def execGgeDetRead (m die : Nat) (v : Word) (s : State) : Result :=
  .next (refreshPins (guardedWrite m (ggePage die) R.GGE_DET_CTRL (v ||| 1#64) (writeDetCtrl die (v ||| 1#64)) s))

/-- GGE_DET_WRITE (R219, R221). -/
def execGgeDetWrite (m die : Nat) (v : Word) (s : State) : Result :=
  .next (refreshPins (guardedWrite m (ggePage die) R.GGE_DET_CTRL (v ||| 2#64) (writeDetCtrl die (v ||| 2#64)) s))

/-! ## Detector lines (R222 to R224) -/

/-- A write of a detector line that its page has judged (R224): TRIG_OUT and FCO have 16 lines; the claim is recorded. -/
def writeLine (m d i : Nat) (v : Word) (s : State) : State :=
  let p := ggePage d
  let off := R.GGE_LINE + 8 * i
  if (fieldOf v 34 2 = 2 ∨ fieldOf v 34 2 = 3) ∧ 16 ≤ fieldOf v 36 5 then refuseCfg p s
  else
    let s := storePlain p off v s
    let w := withField (withBit (reg s p off) 43 false) 48 16 (masterClaim s m)
    let s := setReg p off w s
    { s with gge := { s.gge with frozen := ntSet s.gge.frozen (16 * d + i) 0 } }

/-- GGE_LINE (R79, R224). -/
def execGgeLine (m die line : Nat) (v : Word) (s : State) : Result :=
  .next (refreshPins (guardedWrite m (ggePage die) (R.GGE_LINE + 8 * line) v (writeLine m die line v) s))

/-- A read of a detector line: VALUE is its current value. -/
def readLine (s : State) (d i : Nat) : Word :=
  let w := reg s (ggePage d) (R.GGE_LINE + 8 * i)
  withBit w 42 (lineNow s (16 * d + i))

/-! ## Weight sets (R212 to R214) -/

def wsetAddr (s : State) (d : Nat) : Nat := fld s (ggePage d) F.GGE_WSET_ADDR_WSET

/-- A READ of GGE_WSET_CTRL. -/
def wsetRead (d : Nat) (s : State) : State :=
  let w := wsetOf s d (wsetAddr s d)
  setRegsFrom (ggePage d) R.GGE_WSET_DATA [w.w0, w.w1, w.w2, BitVec.ofNat 64 w.size] s

/-- Whether a set's words are in range, valid or not (R7, R472): banks on 64 KiB in stack d, 1 to 16,384 channels, no reserved
bit. -/
def wsetOk (d : Nat) (w : WSet) : Bool :=
  let inStack := fun (b : Nat) => decide (b % 65536 = 0 ∧ stackBytes * d ≤ b ∧ b + w.size ≤ stackBytes * d + stackUsable)
  onlyBits w.w0 0x1FFFFFFF7FFF#64 && decide (1 ≤ w.channels ∧ w.channels ≤ 16384) && inStack w.w1.toNat && inStack w.w2.toNat

/-- The fence of the active bank of a set (R213, R346). -/
def wsetGuard (d i : Nat) (w : WSet) : HbmFence :=
  ⟨w.activeBase, w.size, ggePage d, S.GGE_WEIGHT_WRITE_REFUSED, wsetFence d i⟩

/-- A WRITE of GGE_WSET_CTRL (R213, R346). -/
def wsetWrite (d : Nat) (s : State) : State :=
  let i := wsetAddr s d
  let old := wsetOf s d i
  let ws := regsFrom s (ggePage d) R.GGE_WSET_DATA 3
  let w : WSet := { old with w0 := withBit (ws.getD 0 0) 44 old.activeB, w1 := ws.getD 1 0, w2 := ws.getD 2 0 }
  if !wsetOk d w then refuseCfg (ggePage d) s
  else if !w.valid then
    if old.valid && wsetNamed s d i then refuseCfg (ggePage d) s
    else setWset d i { w with swaps := [] } (dropFences (wsetFence d i) s)
  else
    let f := setFences (wsetFence d i) [wsetGuard d i w] (dropFences (wsetFence d i) s)
    if f.1 then setWset d i w f.2
    else refuseCfg (ggePage d) { f.2 with hbm := { f.2.hbm with fences := s.hbm.fences } }

/-- A swap request of a set, for the boundary `nb` or the next (R214). -/
def wsetSwap (d i nb : Nat) (s : State) : State :=
  let w := wsetOf s d i
  if w.valid then setWset d i { w with swaps := w.swaps ++ [⟨nb⟩] } s else s

/-- A write of GGE_WSET_CTRL: READ, WRITE, SWAP (R473). -/
def writeWsetCtrl (d : Nat) (v : Word) (s : State) : State :=
  actIf v 2 (fun s => wsetSwap d (wsetAddr s d) 0 s) (actIf v 1 (wsetWrite d) (actIf v 0 (wsetRead d) s))

/-- A read of GGE_WSET_CTRL: SWAP_PENDING of the set addressed. -/
def readWsetCtrl (s : State) (d : Nat) : Word := if (wsetOf s d (wsetAddr s d)).swaps.isEmpty then 0 else 8

/-- GGE_WSET_READ. -/
def execGgeWsetRead (m die : Nat) (v : Word) (s : State) : Result :=
  .next (guardedWrite m (ggePage die) R.GGE_WSET_CTRL (v ||| 1#64) (writeWsetCtrl die (v ||| 1#64)) s)

/-- GGE_WSET_WRITE (R213, R346). -/
def execGgeWsetWrite (m die : Nat) (v : Word) (s : State) : Result :=
  .next (guardedWrite m (ggePage die) R.GGE_WSET_CTRL (v ||| 2#64) (writeWsetCtrl die (v ||| 2#64)) s)

/-- SWAP (R214). -/
def execSwap (m die : Nat) (v : Word) (s : State) : Result :=
  .next (guardedWrite m (ggePage die) R.GGE_WSET_CTRL (v ||| 4#64) (writeWsetCtrl die (v ||| 4#64)) s)

/-- The boundary a region-wise mark action waits for, and whether it comes late (R26, R290): the first batch boundary at or
after the mark, or the next one where that has been staged already. -/
def markBoundary (s : State) (d r t : Nat) : Nat × Bool :=
  match regionTiming s d r with
  | none => (0, false)
  | some q =>
    let b := q.batchFrom t
    if b < ntGet (schDie s d).next r then (0, true) else (b, false)

/-- WEIGHT_SWAP (R214, R290): ARG8[3:0] the set, ARG64[3:0] the C-dies. -/
def execWeightSwap (h : Nat) (s : State) : Result :=
  .next (sampleAction h 0x06 (fun o s =>
    (bitsSet (o.arg64 % 16) 4).foldl (fun a d =>
      let i := o.arg8 % 16
      if (wsetOf a.2 d i).valid then
        let b := markBoundary a.2 d (wsetOf a.2 d i).region o.time
        (a.1 || b.2, wsetSwap d i b.1 a.2)
      else a) (false, s)) s)

/-! ## Soft reset (R225) -/

/-- What a soft reset of a GGE page does beyond its registers: sets become invalid and their plans stop, detectors go OFF. -/
def resetGge (d : Nat) (s : State) : State :=
  let named := (plansOf s d).filter (fun p => p.2.entries.any (fun e => e.isGouge))
  let s := (List.range 16).foldl (fun s i => setWset d i {} (dropFences (wsetFence d i) s)) s
  let s := setVolts d [] ((List.range 16).foldl (fun s i => setPowers d i [] (setDet d i {} s)) s)
  refreshPins (named.foldl (fun s p => stopPlan d p.1 s) s)

end Sys2Proof.Machine
end

