-- ==== Sys2Proof/Machine/Close.lean ====
section
/-! DEFINITION. The end of an integration (R237, R240 to R246, R265, R266), context writes and requests (R229, R235). -/

namespace Sys2Proof.Machine

/-! ## Final slots -/

/-- Slots an integration fills, as its plan names them: every producer in every channel of its entry. -/
def Integ.slots (g : Integ) : List SlotId :=
  g.entries.flatMap (fun e => if e.isGouge then [] else
    (upTo e.chLo e.chHi).flatMap (fun c => e.producers.map (fun p => ⟨p.slot, c, p.row, p.col, p.num, p.splitCode⟩)))

/-- Order of emission: channels, then slots. -/
def slotBefore (a b : SlotId) : Bool := decide (a.chan < b.chan ∨ (a.chan = b.chan ∧ a.slot ≤ b.slot))

/-- The final slots of an integration, ascending (R240). -/
def Integ.finals (g : Integ) : List SlotId := sortBy slotBefore (g.slots.filter (fun q => decide (q.producer = 0)))

/-- Channels with a final slot, ascending. -/
def Integ.channels (g : Integ) : List Nat := (g.finals.map (·.chan)).dedup

/-- Number of a slot in a buffer. -/
def TlyCtx.slotNum (c : TlyCtx) (q : SlotId) : Nat := q.chan * c.slots + q.slot

/-! ## Closing (R237 steps 1 and 2, R240) -/

/-- Batches of an integration that gang member `m` owns (R263). -/
def memberBatches (size n m : Nat) : Nat := (n + size - 1 - m) / size

/-- One past the last batch of an integration that this member owns. -/
def lastOwn (s : State) (r first stop : Nat) : Nat :=
  if gangMode s r = 2 then
    let n := memberBatches (gangSize s) (stop - first) (gangMember s)
    if n = 0 then first else first + (n - 1) * gangSize s + gangMember s + 1
  else stop

/-- Where an integration ends, once that is known: fixed, or LENGTH batches on (R235). -/
def Integ.ending (c : TlyCtx) (g : Integ) : Option Nat :=
  match g.stop with
  | some e => some e
  | none => if c.length = 0 then none else some (g.first + c.length)

/-- Whether a batch of an integration, before batch `e`, was passed over and is still to be staged here (R17, R192, R263). -/
def batchOpen (s : State) (d r first e : Nat) : Bool :=
  (schDie s d).gaps.any (fun x =>
    let lo := max x.2.1 first
    decide (x.1 = r) && (List.range (min x.2.2 e - lo)).any (fun i =>
      decide (gangMode s r ≠ 2 ∨ (lo + i - first) % gangSize s = gangMember s)))

/-- Whether an integration can close: its batches have been staged in full, and every job has an outcome (R237). -/
def closable (s : State) (d : Nat) (c : TlyCtx) (g : Integ) : Bool :=
  match g.ending c with
  | none => false
  | some e =>
    let r := c.region
    let q := schDie s d
    let last := lastOwn s r g.first e
    let staging := match q.cur with
      | some x => decide (x.region = r ∧ x.batch < e)
      | none => false
    !g.closed && !g.skipped && decide (g.opened = 0) && !staging && decide (last ≤ ntGet q.next r) &&
      !batchOpen s d r g.first e

/-- Flags a slot ends with beside its own (R233, R235). -/
def closeFlags (s : State) (d : Nat) (c : TlyCtx) (g : Integ) (e : Nat) : Nat :=
  let t := regionT s d c.region
  if phaseStepIn s d c.region (g.first * t) (e * t - 1) then orFlag g.flags fPhase else g.flags

/-- A slot is brought to its final header: preloaded where it is stale, FLAGS and BATCHES as the integration ended
(R237 step 2). -/
def settleSlot (d ctx : Nat) (flags batches : Nat) (n : Nat) (s : State) (q : SlotId) : State :=
  let c := ctxOf s d ctx
  match c.integ n with
  | none => s
  | some g =>
    let v := takeSlot d c g q s
    let lost := v.1.hdr.flags.testBit fHdrLost
    let h := { v.1.hdr with flags := if lost then v.1.hdr.flags else v.1.hdr.flags ||| flags, batches := batches }
    let e := c.slotNum q
    updInteg d ctx n (fun g => { g with touched := withElem g.touched e })
      (putSlot c g q { v.1 with hdr := h } v.2)

/-- Two partials become one (R240, R54): values added, counts summed, flags joined; with the components that newly became
VOID and infinite. -/
def combineSlots (float : Bool) (a b : SlotVal × Nat × Nat) : SlotVal × Nat × Nat :=
  let vals := a.1.vals.zipWith (code48Add float) b.1.vals
  let fresh := fun (p : Code48 → Bool) =>
    (((a.1.vals.zip b.1.vals).zip vals).filter (fun x => !p x.1.1 && !p x.1.2 && p x.2)).length
  let nv := fresh (code48Void float)
  let ni := fresh (code48Inf float)
  let h := a.1.hdr
  let k := b.1.hdr
  let fl := orFlag (h.flags ||| k.flags) fCombined
  let fl := if nv = 0 then fl else orFlag fl fVoid
  let fl := if ni = 0 then fl else orFlag fl fInf
  let cause := if h.cause ≠ 0 then h.cause else if k.cause ≠ 0 then k.cause else if nv = 0 then 0 else 1
  let h := { h with counted := sat32 h.counted k.counted, missed := sat32 h.missed k.missed, flags := fl, cause := cause }
  (⟨h, vals⟩, a.2.1 + b.2.1 + nv, a.2.2 + b.2.2 + ni)


/-- The partial slots of a tile are read in producer order. -/
def readPartials (d : Nat) (c : TlyCtx) (g : Integ) : List SlotId → State → List SlotVal × State
  | [], s => ([], s)
  | q :: l, s =>
    let v := takeSlot d c g q s
    let r := readPartials d c g l v.2
    (v.1 :: r.1, r.2)

/-- The split partials of one tile and channel are combined into the slot of producer 0 (R55, R240). -/
def combineTile (d ctx n : Nat) (s : State) (q : SlotId) : State :=
  let c := ctxOf s d ctx
  match c.integ n with
  | none => s
  | some g =>
    if q.split = 0 then s
    else
      let r := readPartials d c g ((List.range (2 ^ q.split)).map (fun m => { q with slot := q.slot + m, producer := m })) s
      match combineBalanced (combineSlots c.float) (r.1.map (fun v => (v, 0, 0))) with
      | x :: _ => noteFirst d ctx n (c.slotNum q) x.2.1 x.2.2 (putSlot c g q x.1 r.2)
      | [] => r.2

/-- Members that send their final slots to member `a`, by width (R265). -/
def partialSenders (size a : Nat) : List Nat :=
  ([1, 2, 4].filter (fun w => decide (a % (2 * w) = 0 ∧ a + w < size))).map (fun w => a + w)

/-- The member a member sends its final slots to, 0 for member 0. -/
def partialTarget (a : Nat) : Nat := if a % 2 = 1 then a - 1 else if a % 4 = 2 then a - 2 else a - 4

/-- Whether every partial this member waits for has been added. -/
def partialsIn (s : State) (c : TlyCtx) (g : Integ) : Bool :=
  (partialSenders (gangSize s) (gangMember s)).all (fun m =>
    g.finals.all (fun q => decide ((m + 8 * c.slotNum q) ∈ g.partials)))


/-- A final slot leaves for another member in PARTIAL packets (R256, R265); `last` marks the last slot of the member. -/
def sendPartial (d ctx : Nat) (c : TlyCtx) (g : Integ) (last : Bool) (q : SlotId) (s : State) : State :=
  let v := takeSlot d c g q s
  let b := v.1.hdr.bytes ++ codeBytes v.1.vals
  let ps := payloads 8 b
  (List.range ps.length).foldl (fun s i =>
    let k := zhkPacket s 2 (partialTarget (gangMember s)) (ctx + 16 * d) (c.slotAddr (g.num % 2) q.slot q.chan + 4096 * i) (ps.getD i [])
    zhkSend { k with note := if last && decide (i + 1 = ps.length) then .partials d ctx g.num else .none } s) v.2

/-- The final slots of a member leave, the last one marked. -/
def sendPartials (d ctx : Nat) (c : TlyCtx) (g : Integ) : List SlotId → State → State
  | [], s => s
  | q :: l, s => sendPartials d ctx c g l (sendPartial d ctx c g l.isEmpty q s)

/-- The last PARTIAL packet of an integration has been acknowledged, or is lost: its buffer is free (R265). -/
def partialsGone (d ctx n : Nat) (s : State) : State :=
  drainReorder d (updInteg d ctx n (fun g => { g with freed := true }) s)

/-- Every partial is in: member 0, or a device on its own, begins to emit; another member sends its slots on, and frees
its buffer once the last of them is acknowledged (R237, R265). -/
def afterCombine (d ctx n : Nat) (s : State) : State :=
  let c := ctxOf s d ctx
  match c.integ n with
  | none => s
  | some g =>
    if gangMode s c.region = 2 ∧ gangMember s ≠ 0 then
      let s := updInteg d ctx n (fun g => { g with combined := true, freed := g.finals.isEmpty }) s
      drainReorder d (sendPartials d ctx c g g.finals s)
    else
      let chans := g.channels
      let s := updInteg d ctx n (fun g => { g with combined := true, chans := chans, freed := chans.isEmpty }) s
      let s := if chans.isEmpty then countK (tlyPage d) R.TLY_CNT 3 1 s else s
      drainReorder d s

/-- Jobs of a slot that the partials member `m` sends to member `a` stand for: those of members m to m + w − 1 (R265). -/
def partialJobs (size a batches m : Nat) : Nat :=
  ((List.range (m - a)).map (fun i => memberBatches size batches (m + i))).sum

/-- A slot of an integration that lacks partials: SHORT, and MISSED grows by the jobs of those absent from it (R266). -/
def markLost (d ctx n batches : Nat) (s : State) (q : SlotId) : State :=
  let c := ctxOf s d ctx
  match c.integ n with
  | none => s
  | some g =>
    let a := gangMember s
    let absent := (partialSenders (gangSize s) a).filter (fun m => !decide ((m + 8 * c.slotNum q) ∈ g.partials))
    let missed := (absent.map (partialJobs (gangSize s) a batches)).sum
    let v := takeSlot d c g q s
    let h := { v.1.hdr with missed := sat32 v.1.hdr.missed missed, flags := orFlag v.1.hdr.flags fShort }
    putSlot c g q { v.1 with hdr := h } v.2

/-- The partials that have not come are given up; the loss shows on member 0 (R266), where another member's loss is known by
the SHORT its slots arrive with (DEDUCED, log entry 92). -/
def givePartialsUp (d ctx n e : Nat) (s : State) : State :=
  let c := ctxOf s d ctx
  match c.integ n with
  | none => s
  | some g =>
    if partialsIn s c g then s
    else stickyIf (decide (gangMember s = 0)) 0x320 S.ZHK_PARTIAL_LOST (g.finals.foldl (markLost d ctx n (e - g.first)) s)

/-! ## PARTIAL packets that arrive (R265) -/

/-- What becomes of a partial. -/
inductive PartialFate where
  | add | hold | drop
  deriving DecidableEq, Repr

/-- Whether every partial of the smaller widths is in (R265). -/
def widthsBelow (s : State) (c : TlyCtx) (g : Integ) (m : Nat) : Bool :=
  ((partialSenders (gangSize s) (gangMember s)).filter (fun x => decide (x < m))).all (fun x =>
    g.finals.all (fun y => decide ((x + 8 * c.slotNum y) ∈ g.partials)))

/-- The final slot of this member a partial belongs to. -/
def partialSlot (g : Integ) (x : EarlyPartial) : Option SlotId :=
  g.finals.find? (fun q => decide (q.slot = x.slot ∧ q.chan = x.chan))

/-- A partial is added once this member has closed and every slot of the smaller widths has been added, and held until then;
one that nothing waits for is dropped. `last`: no further partial will come, so smaller widths are not awaited (R265, R266). -/
def partialFate (last : Bool) (x : EarlyPartial) (s : State) : PartialFate :=
  let c := ctxOf s x.die x.ctx
  if x.member ∉ partialSenders (gangSize s) (gangMember s) then .drop
  else
    match c.integ x.int with
    | none => if c.valid && decide (c.nextNum ≤ x.int) then .hold else .drop
    | some g =>
      if g.combined || g.skipped then .drop
      else if !g.closed then .hold
      else
        match partialSlot g x with
        | none => .drop
        | some q =>
          if (x.member + 8 * c.slotNum q) ∈ g.partials then .drop
          else if last || widthsBelow s c g x.member then .add else .hold

/-- A partial is added to the slot, with this member's own value first (R265). -/
def addPartial (x : EarlyPartial) (s : State) : State :=
  let c := ctxOf s x.die x.ctx
  match c.integ x.int with
  | none => s
  | some g =>
    match partialSlot g x with
    | none => s
    | some q =>
      let v := takeSlot x.die c g q s
      let o : SlotVal := ⟨hdrOf (x.bytes.take 64), codesOf 2048 (x.bytes.drop 64)⟩
      let y := combineSlots c.float (v.1, 0, 0) (o, 0, 0)
      let s := noteFirst x.die x.ctx x.int (c.slotNum q) y.2.1 y.2.2 (putSlot c g q y.1 v.2)
      let lost := decide (gangMember s = 0) && o.hdr.flags.testBit fShort && !g.flags.testBit fShort
      let s := stickyIf lost 0x320 S.ZHK_PARTIAL_LOST s
      updInteg x.die x.ctx x.int (fun g => { g with partials := (x.member + 8 * c.slotNum q) :: g.partials }) s

/-- A partial goes on once it is added: the last one ends the combine. -/
def partialStep (last : Bool) (s : State) (x : EarlyPartial) : State :=
  match partialFate last x s with
  | .drop => s
  | .hold => { s with zhk := { s.zhk with early := s.zhk.early ++ [x] } }
  | .add =>
    let s := addPartial x s
    match (ctxOf s x.die x.ctx).integ x.int with
    | some g => if partialsIn s (ctxOf s x.die x.ctx) g then afterCombine x.die x.ctx x.int s else s
    | none => s

/-- The partials held for a context are looked at again, those of smaller widths first. -/
def retryPartials (last : Bool) (d ctx : Nat) (s : State) : State :=
  let mine := fun (x : EarlyPartial) => decide (x.die = d ∧ x.ctx = ctx)
  let l := sortBy (fun x y => decide (x.member ≤ y.member)) (s.zhk.early.filter mine)
  l.foldl (partialStep last) { s with zhk := { s.zhk with early := s.zhk.early.filter (fun x => !mine x) } }

/-- A partial of another member arrives. -/
def takePartial (x : EarlyPartial) (s : State) : State :=
  match partialFate false x s with
  | .add => retryPartials false x.die x.ctx (partialStep false s x)
  | _ => partialStep false s x

/-- Steps 1 and 2 of a close (R237). -/
def closeInteg (d ctx n : Nat) (s : State) : State :=
  let c := ctxOf s d ctx
  match c.integ n with
  | none => s
  | some g =>
    match g.ending c with
    | none => s
    | some e =>
      let flags := closeFlags s d c g e
      let s := updInteg d ctx n (fun g => { g with stop := some e }) s
      let s := g.slots.foldl (settleSlot d ctx flags (e - g.first) n) s
      let s := g.finals.foldl (combineTile d ctx n) s
      retryPartials false d ctx (updInteg d ctx n (fun g => { g with closed := true }) s)

/-- INTEGRATION_CLOSE (R237, R265, R266): the oldest integration of a context that can close does. `lost`: the partials not
yet received will not come. -/
def integrationClose (d ctx : Nat) (lost : Bool) (s : State) : State :=
  if !pageLive s (tlyPage d) then s
  else
    let c := ctxOf s d ctx
    match c.ints.find? (fun g => !g.combined && !g.skipped) with
    | none => s
    | some g =>
      let s := if closable s d c g then closeInteg d ctx g.num s else s
      let c := ctxOf s d ctx
      match c.integ g.num with
      | none => s
      | some g =>
        if !g.closed || g.combined then s
        else if gangMode s c.region ≠ 2 || partialsIn s c g then afterCombine d ctx g.num s
        else if lost then
          let s := retryPartials true d ctx s
          match (ctxOf s d ctx).integ g.num with
          | none => s
          | some g =>
            if g.combined then s else afterCombine d ctx g.num (givePartialsUp d ctx g.num (g.stop.getD g.first) s)
        else s

/-- INTEGRATION_CLOSE. -/
def execIntegrationClose (die ctx : Nat) (lost : Bool) (s : State) : Result := .next (integrationClose die ctx lost s)

/-! ## Row statistics (R241, R242, R244) -/

/-- The cause a NaN carries that stands for a VOID of a slot with VOID_CAUSE `cause` (R48). A slot whose header was lost reads
VOID_CAUSE 0 (R234), and no NaN carries cause 0 with bits [31:0] zero (R44): the spec states no code there, and the cause is
free, from 1 to 127 (log entry 84). -/
def nanCause (cause : Nat) : Nat := if cause = 0 then 1 + Config.lostCause.toNat % 127 else cause

/-- P of a value in T48, NaN of its cause where a component is VOID or NaN (R241). -/
def crossPower (float : Bool) (cause : Nat) (re im : Code48) : Code48 :=
  let nan := fun c => if float then t48Nan (t48Cause c) else t48Nan (nanCause cause)
  if code48Void float re then nan re
  else if code48Void float im then nan im
  else if code48Inf float re || code48Inf float im then t48Inf false
  else if float then
    let a := t48Parts re
    let b := t48Parts im
    let e := min (2 * a.2) (2 * b.2)
    let x := a.1 * a.1 * ((2 ^ (2 * a.2 - e) : Nat) : Int) + b.1 * b.1 * ((2 ^ (2 * b.2 - e) : Nat) : Int)
    t48OfExact x ((e : Int) - 166)
  else
    match i48OfCode re, i48OfCode im with
    | .fin x, .fin y => t48OfExact (x * x + y * y) 166
    | _, _ => t48Inf false

/-- Component `k` of a slot. -/
def SlotVal.comp (v : SlotVal) (k : Nat) : Code48 := v.vals.getD k 0

/-- P of value `i`, `j` of a slot. -/
def slotPower (float : Bool) (v : SlotVal) (i j : Nat) : Code48 :=
  crossPower float v.hdr.cause (v.comp (2 * (32 * i + j))) (v.comp (2 * (32 * i + j) + 1))

/-- Cross terms of input `a` in a slot, ascending by value: the other input and P (R241, R242). -/
def slotTerms (float : Bool) (a : Nat) (v : SlotVal) : List (Nat × Code48) :=
  let r := v.hdr.row
  let k := v.hdr.col
  let i := a % 32
  if r = k then
    if a / 32 ≠ r then [] else
      (List.range i).map (fun x => (32 * r + x, slotPower float v x i)) ++
      (List.range (31 - i)).map (fun x => (32 * r + i + 1 + x, slotPower float v i (i + 1 + x)))
  else if a / 32 = r then (List.range 32).map (fun j => (32 * k + j, slotPower float v i j))
  else if a / 32 = k then (List.range 32).map (fun x => (32 * r + x, slotPower float v x i))
  else []

/-- Order of two powers that are no NaN. -/
def t48Less (a b : Code48) : Bool := decide (natField a.toNat 0 47 < natField b.toNat 0 47)

/-- MAX and ARGMAX over terms that are no NaN; a tie goes to the lowest input. -/
def maxTerm : List (Nat × Code48) → Option (Nat × Code48)
  | [] => none
  | x :: l =>
    match maxTerm l with
    | none => if t48IsNan x.2 then none else some x
    | some y =>
      if t48IsNan x.2 then some y
      else if t48Less x.2 y.2 then some y
      else if t48Less y.2 x.2 then some x
      else if x.1 ≤ y.1 then some x else some y

/-- AUTO of an input: the diagonal tile of its block, lowest slot first (R241). -/
def autoOf (float : Bool) (a : Nat) (l : List SlotVal) : Option Code48 :=
  (l.find? (fun v => decide (v.hdr.row = a / 32 ∧ v.hdr.col = a / 32))).map (fun v =>
    let c := v.comp (2 * (33 * (a % 32)))
    if float then c else t48OfI48 (nanCause v.hdr.cause) (i48OfCode c))

/-- The 24 bytes of a row (R244). Where every term is a NaN, MAX and ARGMAX are not stated: free values. -/
def rowEntry (float : Bool) (l : List SlotVal) (a : Nat) (s : State) : List Byte × State :=
  let terms := l.flatMap (slotTerms float a)
  let sum := terms.foldl (fun x t => t48Add x t.2) (t48Zero false)
  let nan := terms.any (fun t => t48IsNan t.2)
  let auto := autoOf float a l
  let m := maxTerm terms
  let f := takeFree s
  let open' := m.isNone && !terms.isEmpty
  let mx := match m with
    | some x => (x.2.toNat, x.1)
    | none => if open' then (natField f.1.toNat 0 48, natField f.1.toNat 0 32) else (0, 2 ^ 32 - 1)
  let flags := (if auto.isNone then 1 else 0) + (if nan then 2 else 0) + (if terms.isEmpty then 4 else 0)
  (leBytes 6 sum.toNat ++ leBytes 6 mx.1 ++ leBytes 6 ((auto.getD (t48Zero false)).toNat) ++ leBytes 4 mx.2
    ++ leBytes 1 flags ++ [0], if open' then f.2 else s)

/-- The rows from `a` on, `n` of them. -/
def rowEntries (float : Bool) (l : List SlotVal) : Nat → Nat → State → List Byte × State
  | 0, _, s => ([], s)
  | n + 1, a, s =>
    let x := rowEntry float l a s
    let r := rowEntries float l n (a + 1) x.2
    (x.1 ++ r.1, r.2)

/-! ## Emission (R243 to R246) -/

/-- The 64-byte header of an integration or row-statistics record (R243). -/
def tallyHdr (kind : Nat) (s : State) (d ctx : Nat) (c : TlyCtx) (g : Integ) (first count flags cl : Nat) : List Byte :=
  leBytes 1 kind ++ leBytes 1 (if c.float then 2 else 3) ++ leBytes 1 ctx ++ leBytes 1 d ++ leBytes 4 first
    ++ leBytes 2 count ++ leBytes 2 flags ++ leBytes 4 (globalChan s d c.region cl) ++ leBytes 8 g.num ++ leBytes 8 g.first
    ++ leBytes 4 (g.batchCount c.length) ++ leBytes 4 g.serial ++ leBytes 1 c.region ++ List.replicate 23 0

/-- Words written to the row scratch, whose contents are not stated. -/
def scratchRows (a : Nat) : Nat → State → State
  | 0, s => s
  | n + 1, s =>
    let f := takeFree s
    scratchRows (a + 8) n (hbmWrite a (leBytes 8 f.1.toNat) f.2).2

/-- Slots read one after the other. -/
def readSlots (d : Nat) (c : TlyCtx) (g : Integ) : List SlotId → State → List SlotVal × State
  | [], s => ([], s)
  | q :: l, s =>
    let v := takeSlot d c g q s
    let r := readSlots d c g l v.2
    (v.1 :: r.1, r.2)

/-- The records of a channel: row statistics in runs of 512 rows where they are on, then the final slots (R241, R245). -/
def channelRecs (d : Nat) (c : TlyCtx) (g : Integ) (cl : Nat) (s : State) : List TlyRec × State :=
  let qs := g.finals.filter (fun q => decide (q.chan = cl))
  let slots := qs.map (fun q => TlyRec.slot q.slot)
  if !c.rowstat then (slots, s)
  else
    let v := readSlots d c g qs s
    let rows := 32 * (c.rowBlkHi + 1 - c.rowBlkLo)
    let s := scratchRows c.rowstatBase (rows * 4) v.2
    let x := rowEntries c.float v.1 rows (32 * c.rowBlkLo) s
    let recs := (List.range (ceilDiv rows 512)).map (fun i =>
      TlyRec.rows ((x.1.drop (i * 512 * 24)).take (512 * 24)))
    (recs ++ slots, x.2)

/-- The payload of a record and the ring it goes to. -/
def recPayload (d ctx : Nat) (c : TlyCtx) (g : Integ) (cl done : Nat) (x : TlyRec) (s : State) : (Nat × List Byte) × State :=
  match x with
  | .rows l =>
    let t := regionT s d c.region
    let e := g.stop.getD g.first
    let phase := phaseStepIn s d c.region (g.first * t) (e * t - 1)
    let flags := (if phase then 4 else 0) + (if g.flags.testBit fShort then 64 else 0) + (if g.carry = [] then 0 else 256)
    ((g.ringRow, tallyHdr 5 s d ctx c g (32 * c.rowBlkLo + 512 * done) (l.length / 24) flags cl ++ l), s)
  | .slot n =>
    match g.finals.find? (fun q => decide (q.slot = n ∧ q.chan = cl)) with
    | none => ((g.ringInt, []), s)
    | some q =>
      let v := takeSlot d c g q s
      ((g.ringInt, tallyHdr 4 s d ctx c g n 1 v.1.hdr.flags cl ++ v.1.hdr.bytes ++ codeBytes v.1.vals), v.2)

/-- RTYPE of a Tally record (R371) and its producer ID (R340). -/
abbrev tallyRtype : Nat := 2
abbrev tallyMaster (d : Nat) : Nat := 36 + d

/-- A record is attempted, and once more after an error (R245, R246). -/
def emitTwice (d ring : Nat) (l : List Byte) (s : State) : Emit × State :=
  let r := emitRecord ring (tallyMaster d) tallyRtype d l s
  if r.1 = .error then emitRecord ring (tallyMaster d) tallyRtype d l r.2 else r

/-- A record is behind: the next one, the next channel, or the end of the emission (R237 step 5). -/
def recordDone (d ctx n : Nat) (s : State) : State :=
  let s := updInteg d ctx n (fun g =>
    let recs := g.recs.drop 1
    { g with recs := recs, serial := g.serial + 1, chans := if recs.isEmpty then g.chans.drop 1 else g.chans }) s
  let c := ctxOf s d ctx
  match c.integ n with
  | some g =>
    if g.chans.isEmpty then countK (tlyPage d) R.TLY_CNT 3 1 (updInteg d ctx n (fun g => { g with freed := true }) s) else s
  | none => s

/-- Whether a record is a row-statistics one. -/
def TlyRec.isRows (x : TlyRec) : Bool :=
  match x with
  | .rows _ => true
  | .slot _ => false

/-- RECORD_EMIT (R241 to R246): the next record of the integration that emits. -/
def recordEmit (d ctx : Nat) (s : State) : State :=
  if !pageLive s (tlyPage d) then s
  else
    match (ctxOf s d ctx).ints.find? (fun g => g.combined && !g.freed) with
    | none => s
    | some g =>
      match g.chans.head? with
      | none => s
      | some cl =>
        let r := if g.recs.isEmpty then channelRecs d (ctxOf s d ctx) g cl s else (g.recs, s)
        let s := updInteg d ctx g.num (fun g => { g with recs := r.1 }) r.2
        match r.1.head? with
        | none => s
        | some x =>
          let rows := ceilDiv (32 * ((ctxOf s d ctx).rowBlkHi + 1 - (ctxOf s d ctx).rowBlkLo)) 512
          let done := rows - (r.1.filter TlyRec.isRows).length
          let p := recPayload d ctx (ctxOf s d ctx) g cl done x s
          let e := emitTwice d p.1.1 p.1.2 p.2
          match e.1 with
          | .noRoom => setSticky (tlyPage d) S.TLY_RING_WAIT e.2
          | .done => recordDone d ctx g.num (countK (tlyPage d) R.TLY_CNT (if x.isRows then 6 else 5) 1 e.2)
          | .error =>
            recordDone d ctx g.num (countK (tlyPage d) R.TLY_CNT 7 1 (setSticky (tlyPage d) S.TLY_EMIT_FAIL e.2))

/-- RECORD_EMIT. -/
def execRecordEmit (die ctx : Nat) (s : State) : Result := .next (recordEmit die ctx s)

/-! ## Context writes (R229) and requests (R235) -/

def ctxAddr (s : State) (d : Nat) : Nat := fld s (tlyPage d) F.TLY_CTX_ADDR_CTX

/-- Whether two ranges of bytes meet. -/
def rangesMeet (a n b m : Nat) : Bool := decide (a < b + m ∧ b < a + n)

/-- Whether a buffer of a context meets another valid context's, or a valid turn region of the die. -/
def bufferTaken (s : State) (d i a n : Nat) : Bool :=
  (List.range 16).any (fun k =>
    let o := ctxOf s d k
    decide (k ≠ i) && o.valid && (rangesMeet a n (o.base 0) o.bufBytes || rangesMeet a n (o.base 1) o.bufBytes)) ||
  (List.range 16).any (fun r => regionValid s d r && rangesMeet a n (regionBase s d r) (regionSize s d r))

/-- The first failing check of a context write, 0 for none (R229). -/
def ctxResult (s : State) (d i : Nat) (old new : TlyCtx) : Nat :=
  let n := new.bufBytes
  let inStack := fun (a : Nat) => decide (stackBytes * d ≤ a ∧ a + n ≤ stackBytes * d + stackUsable)
  if decide (new.base 0 % 65536 ≠ 0 ∨ new.base 1 % 65536 ≠ 0 ∨ (new.word 4).toNat % 64 ≠ 0 ∨
      new.rowstatBase % 65536 ≠ 0) || !inStack (new.base 0) || !inStack (new.base 1) then 1
  else if rangesMeet (new.base 0) n (new.base 1) n || bufferTaken s d i (new.base 0) n ||
      bufferTaken s d i (new.base 1) n then 2
  else if !onlyBits (new.word 0) 0xFFFFFFFF07FF#64 || !onlyBits (new.word 1) 0x1FFF1FFFFFFFFFFF#64 ||
      !onlyBits (new.word 5) 0x3FFFFFFFFFFFF#64 || decide (new.preload = 3 ∨ new.slots = 0) ||
      (new.rowstat && decide (new.rowBlkHi < new.rowBlkLo)) then 3
  else if ctxNamed s d i && (decide ([0, 1, 2, 3, 6].any (fun k => old.word k ≠ new.word k)) ||
      decide (old.channels ≠ new.channels)) then 4
  else 0

/-- INT of every header of both buffers is set to none (R229). -/
def initHeaders (c : TlyCtx) (s : State) : State :=
  (List.range 2).foldl (fun s x => (List.range c.channels).foldl (fun s cl => (List.range c.slots).foldl (fun s i =>
    (hbmWrite (c.slotAddr x i cl) (leBytes 8 noInt) s).2) s) s) s

/-- A WRITE of TLY_CTX_CTRL (R229). -/
def ctxWrite (d : Nat) (s : State) : State :=
  let i := ctxAddr s d
  let old := ctxOf s d i
  let words := regsFrom s (tlyPage d) R.TLY_CTX_DATA 7
  let r := ctxResult s d i old { words := words }
  let s := tableResult (tlyPage d) F.TLY_CTX_CTRL_RESULT r s
  if r ≠ 0 then s
  else if old.valid && bitOf (words.getD 0 0) 0 then setCtx d i { old with words := words } s
  else
    let new : TlyCtx := { words := words }
    let t := tlyDie s d
    let s := setTlyDie d { t with
      inbox := t.inbox.filter (fun x => decide (x.ctx ≠ i))
      reorder := t.reorder.filter (fun x => decide (x.ctx ≠ i))
      waits := t.waits.filter (fun x => decide (x.ctx ≠ i)) } s
    let s := setCtx d i new s
    if new.valid then initHeaders new s else s

/-- A READ of TLY_CTX_CTRL. -/
def ctxRead (d : Nat) (s : State) : State :=
  let c := ctxOf s d (ctxAddr s d)
  let num := match c.current with
    | some g => g.num
    | none => c.nextNum - 1
  setFld (tlyPage d) F.TLY_CTX_CTRL_RESULT 0
    (setRegsFrom (tlyPage d) R.TLY_CTX_DATA ((List.range 7).map c.word ++ [BitVec.ofNat 64 num]) s)

/-- START or STOP of the context addressed (R235); refused where it is not valid. -/
def ctxRequest (d : Nat) (start : Bool) (s : State) : State :=
  let i := ctxAddr s d
  if (ctxOf s d i).valid then tallyRequest d i ⟨start, 0⟩ (setFld (tlyPage d) F.TLY_CTX_CTRL_RESULT 0 s)
  else refuseCfg (tlyPage d) s

/-- A write of TLY_CTX_CTRL: READ, WRITE, START, STOP (R473). -/
def writeCtxCtrl (d : Nat) (v : Word) (s : State) : State :=
  let s := actIf v 1 (ctxWrite d) (actIf v 0 (ctxRead d) s)
  actIf v 4 (ctxRequest d false) (actIf v 3 (ctxRequest d true) s)

/-- TLY_CTX_READ. -/
def execTlyCtxRead (m die : Nat) (v : Word) (s : State) : Result :=
  .next (guardedWrite m (tlyPage die) R.TLY_CTX_CTRL (v ||| 1#64) (writeCtxCtrl die (v ||| 1#64)) s)

/-- TLY_CTX_WRITE (R229, R475). -/
def execTlyCtxWrite (m die : Nat) (v : Word) (s : State) : Result :=
  .next (guardedWrite m (tlyPage die) R.TLY_CTX_CTRL (v ||| 2#64) (writeCtxCtrl die (v ||| 2#64)) s)

/-- TLY_START (R235). -/
def execTlyStart (m die : Nat) (v : Word) (s : State) : Result :=
  .next (guardedWrite m (tlyPage die) R.TLY_CTX_CTRL (v ||| 8#64) (writeCtxCtrl die (v ||| 8#64)) s)

/-- TLY_STOP (R235). -/
def execTlyStop (m die : Nat) (v : Word) (s : State) : Result :=
  .next (guardedWrite m (tlyPage die) R.TLY_CTX_CTRL (v ||| 16#64) (writeCtxCtrl die (v ||| 16#64)) s)

/-- INT_START or INT_END (R235, R290): ARG8[3:0] the context, ARG64[3:0] the C-dies. -/
def markInteg (start : Bool) (o : MarkOcc) (s : State) : Bool × State :=
  (bitsSet (o.arg64 % 16) 4).foldl (fun a d =>
    let i := o.arg8 % 16
    if (ctxOf a.2 d i).valid then
      let b := markBoundary a.2 d (ctxOf a.2 d i).region o.time
      (a.1 || b.2, tallyRequest d i ⟨start, b.1⟩ a.2)
    else a) (false, s)

/-- INT_START (R235, R290). -/
def execIntStart (h : Nat) (s : State) : Result := .next (sampleAction h 0x01 (markInteg true) s)

/-- INT_END (R235, R290). -/
def execIntEnd (h : Nat) (s : State) : Result := .next (sampleAction h 0x02 (markInteg false) s)

/-! ## Reads and resets -/

/-- A read of TLY_STATUS. -/
def readTlyStatus (s : State) (d : Nat) : Word :=
  let bits := fun (p : TlyCtx → Bool) => ((List.range 16).map (fun c => if p (ctxOf s d c) then 2 ^ c else 0)).sum
  BitVec.ofNat 64 ((tlyDie s d).reorder.length % 512 + bits TlyCtx.valid * 2 ^ 16 + bits (·.running) * 2 ^ 32)

/-- A read of TLY_CTX_STATUS of context `i`. -/
def readCtxStatus (s : State) (d i : Nat) : Word :=
  let c := ctxOf s d i
  let st := if !c.valid then 0 else if c.running then 3 else 2
  let num := match c.current with
    | some g => g.num
    | none => c.nextNum - 1
  let emitting := c.ints.any (fun g => decide (some g.num ≠ c.current.map (·.num)) && !g.freed && !g.skipped)
  BitVec.ofNat 64 (st + num % 2 * 8 + (if emitting then 16 else 0) + c.skips * 2 ^ 16 + num % 2 ^ 32 * 2 ^ 32)

/-- What a soft reset of a Tally page does beyond its registers (R249). -/
def resetTally (d : Nat) (s : State) : State :=
  let named := plansOf s d
  let s := setTlyDie d {} s
  named.foldl (fun s p => stopPlan d p.1 s) s

/-- What a soft reset of a scheduler does beyond its registers (R203): every plan becomes invalid at once, and the strokes of
the batches in progress are missed. -/
def resetSched (d : Nat) (s : State) : State :=
  let s := (List.range 68).foldl (fun s i => dropQueue (68 * d + i) false s) s
  let s := (schDie s d).replays.foldl (fun s k => tallySend d (strokeItem k .resolve [] false) s) s
  let q := schDie s d
  let s := match q.cur.bind (fun c => (planOf s d c.region).map (fun p => (p, c))) with
    | some x => missSteps d x.1 x.2 s
    | none => s
  let held := q.loaded.map (fun x => (x.region, x.batch)) ++ (match q.cur with
    | some c => [(c.region, c.batch)]
    | none => [])
  let s := held.foldl (fun s x => freeSlot d x.1 x.2 s) s
  let s := (plansOf s d).foldl (fun s p => endPlan d p.1 s) s
  setSchDie d { next := q.next, gaps := q.gaps } s

/-- A read of SCH_STATUS. -/
def readSchStatus (s : State) (d : Nat) : Word :=
  let plans := ((plansOf s d).map (fun p => 2 ^ p.1)).sum
  let bare := ((List.range 64).filter (fun k => decide (seatLathe s d k = noLathe))).length
  let ready := ((schDie s d).ready.filter (fun x => (planOf s d x.region).isSome)).length
  BitVec.ofNat 64 (plans + (freeSpares s d).length * 2 ^ 16 + bare * 2 ^ 24 + ready % 2 ^ 16 * 2 ^ 32)

/-- A read of SCH_LOAD. -/
def readSchLoad (s : State) (d : Nat) : Word := loadWord s d (planLoads s d)

end Sys2Proof.Machine
end

