-- ==== Sys2Proof/Machine/Dma.lean ====
section
/-! DEFINITION. The DMA channels (R356 to R363): descriptors, COPY chains, draining of rings, enable and disable. -/

namespace Sys2Proof.Machine

/-- Page of channel `ch`, its number in the page, and the offset of a register of its block (R356). -/
def dmaPage (ch : Nat) : Nat := 0x2C8 + ch / 8
def dmaOff (off ch : Nat) : Nat := off + 0x40 * (ch % 8)

/-- A field of a channel's registers. -/
def FieldRef.chan (f : FieldRef) (ch : Nat) : FieldRef := ⟨f.off + 0x40 * (ch % 8), f.lo, f.width⟩

def dmaChan (s : State) (ch : Nat) : DmaChan := alGet {} s.dma.chans ch

def setDmaChan (ch : Nat) (c : DmaChan) (s : State) : State :=
  { s with dma := { s.dma with chans := alSet {} s.dma.chans ch c } }

def dmaEn (s : State) (ch : Nat) : Bool := decide (fld s (dmaPage ch) (F.DMA_CH_CTRL_EN.chan ch) = 1)
def dmaDrain (s : State) (ch : Nat) : Bool := decide (fld s (dmaPage ch) (F.DMA_CH_CTRL_MODE.chan ch) = 1)
def dmaState (s : State) (ch : Nat) : Nat := fld s (dmaPage ch) (F.DMA_CH_STATUS_STATE.chan ch)
def setDmaState (ch x : Nat) (s : State) : State := setFld (dmaPage ch) (F.DMA_CH_STATUS_STATE.chan ch) x s

/-- Count onto counter `k` of a channel: 0 bytes, 1 records moved, 2 records skipped. -/
def dmaCount (ch k n : Nat) (s : State) : State := countUp (dmaPage ch) (dmaOff R.DMA_CH_CNT ch + 8 * k) n s

/-- A channel halts with a cause (R358 to R362). -/
def dmaHalt (ch cause : Nat) (s : State) : State :=
  let s := setFld (dmaPage ch) (F.DMA_CH_STATUS_CAUSE.chan ch) cause (setDmaState ch 5 s)
  setSticky (dmaPage ch) (8 + ch % 8) s

/-! ## Descriptors (R357, R358) -/

/-- A DMA descriptor. -/
structure DmaDesc where
  src : Nat
  dst : Nat
  srcStride : Nat
  dstStride : Nat
  srcLine : Nat
  srcLines : Nat
  dstLine : Nat
  dstLines : Nat
  srcHost : Bool
  kind : Nat
  last : Bool
  port : Nat
  flow : Nat
  ring : Nat
  wb : Nat
  reserved : Bool
  deriving DecidableEq, Repr

/-- The descriptor in eight words. -/
def dmaDesc (w : List Word) : DmaDesc :=
  let g := fun i => w.getD i 0
  { src := (g 0).toNat, dst := (g 1).toNat, srcStride := (g 2).toNat, dstStride := (g 3).toNat,
    srcLine := fieldOf (g 4) 0 24 * 64, srcLines := fieldOf (g 4) 24 24,
    dstLine := fieldOf (g 5) 0 24 * 64, dstLines := fieldOf (g 5) 24 24,
    srcHost := bitOf (g 6) 0, kind := fieldOf (g 6) 1 2, last := bitOf (g 6) 3, port := fieldOf (g 6) 4 3,
    flow := fieldOf (g 6) 16 16, ring := fieldOf (g 6) 32 18, wb := (g 7).toNat,
    reserved := decide (fieldOf (g 4) 48 16 ≠ 0 ∨ fieldOf (g 5) 48 16 ≠ 0 ∨ fieldOf (g 6) 7 9 ≠ 0 ∨ fieldOf (g 6) 50 14 ≠ 0) }

/-- Whether an address or stride that is checked is no multiple of 64 (R358 cause 1). -/
def descUnaligned (drain : Bool) (d : DmaDesc) : Bool :=
  let buffer := decide (d.kind < 2)
  let l := if drain then (if buffer then [d.dst, d.dstStride, d.wb] else []) else [d.src, d.srcStride, d.dst, d.dstStride]
  l.any (fun x => decide (x % 64 ≠ 0))

/-- Whether the lines of a descriptor do not fit (R358 cause 2). -/
def descLines (drain : Bool) (d : DmaDesc) : Bool :=
  let dst := decide (d.dstLine = 0 ∨ d.dstLines = 0 ∨ d.dstStride < d.dstLine)
  if drain then decide (d.kind < 2) && dst
  else dst || decide (d.srcLine = 0 ∨ d.srcLines = 0 ∨ d.srcStride < d.srcLine ∨ d.srcLine * d.srcLines ≠ d.dstLine * d.dstLines)

/-- The cause a descriptor halts its channel with, 0 for none (R358). -/
def descCause (drain : Bool) (d : DmaDesc) : Nat :=
  if descUnaligned drain d then 1 else if descLines drain d then 2
  else if (!drain && decide (2 ≤ d.kind)) || d.reserved then 3 else 0

/-- Eight words from 64 bytes. -/
def descWords (l : List Byte) : List Word := (List.range 8).map (fun i => BitVec.ofNat 64 (ofLeBytes ((l.drop (8 * i)).take 8)))

/-- A descriptor is fetched from HBM: its words, or none where the read fails, and the state. -/
def fetchDesc (a : Nat) (s : State) : Option (List Word) × State :=
  let r := hbmRead a 64 s
  (if r.1.poison || r.1.err then none else some (descWords r.1.bytes), r.2)

/-! ## Lines (R359, R361) -/

/-- Address of byte `k` of lines of `line` bytes at a stride. -/
def lineAddr (base line stride k : Nat) : Nat := base + k / line * stride + k % line

/-- The pieces of `n` bytes from byte `k` of a lined buffer of `cap` bytes, with wrap; at most `fuel` of them. -/
def linePieces (base line stride cap : Nat) : Nat → Nat → Nat → List (Nat × Nat)
  | 0, _, _ => []
  | fuel + 1, k, n =>
    if n = 0 ∨ line = 0 ∨ cap = 0 then []
    else
      let p := k % cap
      let m := min n (line - p % line)
      (lineAddr base line stride p, m) :: linePieces base line stride cap fuel (k + m) (n - m)

/-- Bytes go to pieces of host memory. -/
def hostWrite (ch : Nat) : List (Nat × Nat) → List Byte → State → State
  | [], _, s => s
  | (a, n) :: l, b, s => hostWrite ch l (b.drop n) (send .hostWrite ch (a :: (b.take n).map (fun x => x.toNat)) s)

/-- Bytes go to pieces at a destination: whether any write had an error response, and the state. -/
def destWrite (ch : Nat) (host : Bool) (ps : List (Nat × Nat)) (b : List Byte) (s : State) : Bool × State :=
  if host then (false, hostWrite ch ps b s) else writePieces ps b s

/-! ## COPY (R359) -/

/-- One descriptor of a COPY chain. `host`: what host memory returns for a source there; `err`: host memory answers with an
error. -/
def copyOne (ch : Nat) (host : List Byte) (err : Bool) (s : State) : State :=
  let c := dmaChan s ch
  let f := fetchDesc c.chain s
  match f.1 with
  | none => dmaHalt ch 5 f.2
  | some w =>
    let d := dmaDesc w
    let s := f.2
    let cause := descCause false d
    if cause ≠ 0 then dmaHalt ch cause s
    else
      let n := d.srcLine * d.srcLines
      let src := linePieces d.src d.srcLine d.srcStride n (d.srcLines + 1) 0 n
      let r := if d.srcHost then (⟨host.take n ++ List.replicate (n - host.length) 0, false, err⟩, s) else readPieces src s
      if r.1.poison || r.1.err then dmaHalt ch 5 r.2
      else
        let dst := linePieces d.dst d.dstLine d.dstStride n (d.dstLines + 1) 0 n
        let w := destWrite ch (decide (d.kind = 1)) dst r.1.bytes r.2
        if w.1 || (err && decide (d.kind = 1)) then dmaHalt ch 4 w.2
        else
          let s := dmaCount ch 0 n w.2
          let done := fld s (dmaPage ch) (F.DMA_CH_STATUS_DESC_DONE.chan ch)
          let s := setFld (dmaPage ch) (F.DMA_CH_STATUS_DESC_DONE.chan ch) (done + 1) s
          let s := setDmaChan ch { dmaChan s ch with chain := c.chain + 64 } s
          if d.last then setSticky (dmaPage ch) (24 + ch % 8) (setDmaState ch 4 s) else s

/-- COPY_DESCRIPTOR (R358, R359, R362): nothing where no chain runs, or the page is disabled (R71). -/
def execCopyDescriptor (ch : Nat) (host : List Byte) (err : Bool) (s : State) : Result :=
  .next (if dmaEn s ch && !dmaDrain s ch && decide (dmaState s ch = 2) && pageLive s (dmaPage ch) then copyOne ch host err s else s)

/-! ## DRAIN (R360 to R362) -/

/-- Whether a channel drains a ring (R352, R360). -/
def drains (ch : Nat) (r : Ring) : Bool := r.valid && decide (r.consumer = 0 ∧ r.channel = ch)

/-- The ring whose record a channel in WAIT_DEST goes on with (R356). -/
def waitingRing (s : State) (ch : Nat) : Option Nat :=
  if dmaState s ch = 3 then
    (dmaChan s ch).last.filter (fun n => drains ch (ringOf s n) && (ringOf s n).oldest.isSome)
  else none

/-- The ring a channel serves next: the one it waits with, else the eligible ring in round robin by ascending number after the
last served (R360). -/
def nextRing (s : State) (ch : Nat) : Option Nat :=
  match waitingRing s ch with
  | some n => some n
  | none =>
    let mine := (s.rng.rings.filter (fun e => drains ch e.2 && ringEligible s e.1)).map (·.1)
    let after := mine.filter (fun n => match (dmaChan s ch).last with
      | some k => decide (k < n)
      | none => true)
    match after.head? with
    | some n => some n
    | none => mine.head?

/-- The bytes of the oldest visible record of a ring. -/
def recordBytes (s : State) (n : Nat) (p : RingSpan) : HbmRead × State :=
  let r := ringOf s n
  readPieces (ringPieces r.base r.size (p.start * 64) (p.len * 64)) s

/-- The RECORD packets of a record for a ring of a gang member (R253, R256, R361); the last one completes the transfer. -/
def sendRecordPackets (ch member ring : Nat) (l : List Byte) (s : State) : State :=
  let n := ceilDiv l.length 4096
  (List.range n).foldl (fun s i =>
    let k := zhkPacket s 3 member ring (4096 * i) ((l.drop (4096 * i)).take 4096)
    zhkSend { k with note := if i + 1 = n then .drained ch else .none } s) s

/-- A transfer is complete: READ passes the record, counted (R360, DMA_CH_CNT). -/
def recordMoved (ch n bytes : Nat) (s : State) : State :=
  let s := dmaCount ch 1 1 (dmaCount ch 0 bytes s)
  ringPass n (setDmaState ch 1 (setDmaChan ch { dmaChan s ch with flight := none } s))

/-- The acknowledgement of the last RECORD packet of a channel's record (R360). -/
def recordAcked (ch : Nat) (s : State) : State :=
  match (dmaChan s ch).flight with
  | none => s
  | some n =>
    match (ringOf s n).oldest with
    | none => s
    | some p => recordMoved ch n (p.len * 64) s

/-- One record goes to a buffer in HBM or host memory (R361). -/
def drainBuffer (ch n : Nat) (d : DmaDesc) (p : RingSpan) (b : List Byte) (err : Bool) (s : State) : State :=
  let c := dmaChan s ch
  let cap := d.dstLine * d.dstLines
  let len := p.len * 64
  if cap < len then dmaHalt ch 6 s
  else if (reg s (dmaPage ch) (dmaOff R.DMA_CH_RD ch)).toNat + cap < c.wp + len then setDmaState ch 3 s
  else
    let host := decide (d.kind = 1)
    let w := destWrite ch host (linePieces d.dst d.dstLine d.dstStride cap (len / 64 + 2) c.wp len) b s
    if w.1 || (err && host) then dmaHalt ch 4 w.2
    else
      let v := destWrite ch host [(d.wb, 8)] (leBytes 8 (c.wp + len)) w.2
      if v.1 then dmaHalt ch 4 v.2
      else recordMoved ch n len (setDmaChan ch { dmaChan v.2 ch with wp := c.wp + len } v.2)

/-- A record without error goes to its destination (R360, R361). -/
def drainTo (ch n : Nat) (p : RingSpan) (b : List Byte) (err : Bool) (s : State) : State :=
  let d := dmaDesc (dmaChan s ch).desc
  if d.kind = 2 then
    if flowReady s d.port d.flow then recordMoved ch n b.length (sendRecord d.port d.flow b s) else setDmaState ch 3 s
  else if d.kind = 3 then
    sendRecordPackets ch d.port d.ring b (setDmaState ch 2 (setDmaChan ch { dmaChan s ch with flight := some n } s))
  else drainBuffer ch n d p b err s

/-- A turn of a DRAIN channel (R360, R362). -/
def drainTurn (ch : Nat) (err : Bool) (s : State) : State :=
  match nextRing s ch with
  | none => s
  | some n =>
    match (ringOf s n).oldest with
    | none => s
    | some p =>
      let s := setFld (dmaPage ch) (F.DMA_CH_STATUS_RING.chan ch) n s
      let s := setDmaChan ch { dmaChan s ch with last := some n } s
      let r := recordBytes s n p
      let bad := evalDetector (dmaPage ch) (16 + ch % 8) (r.1.poison || r.1.err) r.2
      if bad.1 then
        ringPass n (setDmaState ch 1 (setSticky (dmaPage ch) (16 + ch % 8) (dmaCount ch 2 1 bad.2)))
      else drainTo ch n p r.1.bytes err bad.2

/-- RECORD_TRANSFER (R360, R361, R362): `err`: host memory answers with an error. -/
def execRecordTransfer (ch : Nat) (err : Bool) (s : State) : Result :=
  .next (if dmaEn s ch && dmaDrain s ch && decide (dmaState s ch = 1 ∨ dmaState s ch = 3) && (dmaChan s ch).flight.isNone
      && pageLive s (dmaPage ch) then drainTurn ch err s else s)

/-! ## Enable and disable (R358, R363) -/

/-- EN goes to 1: WP and RD are 0; a DRAIN channel fetches and checks its destination (R358, R363). -/
def dmaStart (ch : Nat) (s : State) : State :=
  let p := dmaPage ch
  let s := setReg p (dmaOff R.DMA_CH_RD ch) 0 (setReg p (dmaOff R.DMA_CH_STATUS ch) 1 s)
  let s := setDmaChan ch {} s
  if !dmaDrain s ch then s
  else
    let f := fetchDesc (reg s p (dmaOff R.DMA_CH_DESC ch)).toNat s
    match f.1 with
    | none => dmaHalt ch 5 f.2
    | some w =>
      let cause := descCause true (dmaDesc w)
      if cause ≠ 0 then dmaHalt ch cause f.2 else setDmaChan ch { dmaChan f.2 ch with desc := w } f.2

/-- What of a record in progress has reached its destination when it is cut short, `n` bytes (R363): bytes of a buffer
beyond WP, the datagrams already handed to the MAC, or the RECORD packets already delivered. -/
def cutRecord (ch n : Nat) (s : State) : State :=
  match nextRing s ch with
  | none => s
  | some r =>
    match (ringOf s r).oldest with
    | none => s
    | some p =>
      let b := recordBytes s r p
      let c := dmaChan s ch
      let d := dmaDesc c.desc
      let part := b.1.bytes.take n
      if d.kind < 2 then
        (destWrite ch (decide (d.kind = 1))
          (linePieces d.dst d.dstLine d.dstStride (d.dstLine * d.dstLines) (n / 64 + 2) c.wp part.length) part b.2).2
      else if d.kind = 2 then
        let e := flowOf (flowWord s d.port d.flow 0) (flowWord s d.port d.flow 1)
        let k := n / max 64 (segmentLen s d.port e)
        if flowReady s d.port d.flow then sendDatagrams d.port d.flow b.1.bytes.length k 0 b.1.bytes b.2 else b.2
      else
        (List.range (n / 4096)).foldl (fun s i =>
          zhkSend (zhkPacket s 3 d.port d.ring (4096 * i) ((b.1.bytes.drop (4096 * i)).take 4096)) s) b.2

/-- Whether a transfer can be in progress on a channel: a chain that runs, or a record to drain (R363). -/
def dmaMoving (s : State) (ch : Nat) : Bool :=
  if dmaDrain s ch then decide (dmaState s ch ≠ 5) && ((dmaChan s ch).flight.isSome || (nextRing s ch).isSome)
  else decide (dmaState s ch = 2)

/-- The counts of a channel are undefined from here until cleared (R363): free values. -/
def freeCounts (ch : Nat) (s : State) : State :=
  (List.range 3).foldl (fun s k =>
    let f := takeFree s
    setReg (dmaPage ch) (dmaOff R.DMA_CH_CNT ch + 8 * k) f.1 f.2) s

/-- EN goes to 0 (R363). `cut`: bytes a transfer in progress had moved, none where it cuts none. -/
def dmaStop (ch : Nat) (cut : Option Nat) (s : State) : State :=
  let busy := (dmaChan s ch).flight.isSome
  let cut := if dmaMoving s ch then cut else none
  let s := match cut with
    | some n => if dmaDrain s ch then cutRecord ch n s else s
    | none => s
  let s := if cut.isSome || busy then freeCounts ch s else s
  let drop := fun (k : ZhkPacket) => decide (k.note = .drained ch)
  let s := if busy then { s with zhk := { s.zhk with held := s.zhk.held.filter (fun h => !drop h.1) } } else s
  setReg (dmaPage ch) (dmaOff R.DMA_CH_STATUS ch) 0 (setDmaChan ch {} s)

/-- GO starts a chain on an enabled, idle COPY channel (R359). -/
def dmaGo (ch : Nat) (s : State) : State :=
  if dmaEn s ch && !dmaDrain s ch && decide (dmaState s ch = 1 ∨ dmaState s ch = 4) then
    let a := (reg s (dmaPage ch) (dmaOff R.DMA_CH_DESC ch)).toNat
    setReg (dmaPage ch) (dmaOff R.DMA_CH_STATUS ch) 2 (setDmaChan ch { dmaChan s ch with chain := a } s)
  else s

/-- A write of DMA_CH_CTRL (R359, R363, R473). -/
def writeDmaCtrl (ch : Nat) (cut : Option Nat) (v : Word) (s : State) : State :=
  let off := dmaOff R.DMA_CH_CTRL ch
  let was := dmaEn s ch
  let en := bitOf v 0
  if was && en && decide (bitOf v 1 ≠ dmaDrain s ch) then refuseCfg (dmaPage ch) s
  else
    let s := if was && !en then dmaStop ch cut s else s
    let s := storePlain (dmaPage ch) off v s
    let s := if !was && en then dmaStart ch s else s
    let s := actIf v 2 (dmaGo ch) s
    actIf v 3 (resetRegs (dmaPage ch) (dmaOff R.DMA_CH_CNT ch) 3) s

/-- DMA_CH_EN (R363). -/
def execDmaChEn (m ch : Nat) (v : Word) (cut : Option Nat) (s : State) : Result :=
  .next (guardedWrite m (dmaPage ch) (dmaOff R.DMA_CH_CTRL ch) v (writeDmaCtrl ch cut v) s)

/-- GO (R359). -/
def execGo (m ch : Nat) (v : Word) (s : State) : Result :=
  .next (guardedWrite m (dmaPage ch) (dmaOff R.DMA_CH_CTRL ch) (v ||| 4) (writeDmaCtrl ch none (v ||| 4)) s)

/-- A write of DMA_CH_RD (R361). -/
def writeDmaRd (ch : Nat) (v : Word) (s : State) : State :=
  let off := dmaOff R.DMA_CH_RD ch
  if (dmaChan s ch).wp < v.toNat ∨ v.toNat < (reg s (dmaPage ch) off).toNat then refuseCfg (dmaPage ch) s
  else
    setReg (dmaPage ch) off v s

/-- DMA_CH_RD (R361). -/
def execDmaChRd (m ch : Nat) (v : Word) (s : State) : Result :=
  .next (guardedWrite m (dmaPage ch) (dmaOff R.DMA_CH_RD ch) v (writeDmaRd ch v) s)

/-- A write of DMA_CH_DESC: a multiple of 64, and not while EN is 1 (R363). -/
def writeDmaDesc (ch : Nat) (v : Word) (s : State) : State :=
  if dmaEn s ch ∨ v.toNat % 64 ≠ 0 then refuseCfg (dmaPage ch) s else setReg (dmaPage ch) (dmaOff R.DMA_CH_DESC ch) v s

/-- A soft reset of a DMA page disables its channels (R363). -/
def resetDma (p : Nat) (s : State) : State :=
  (List.range 8).foldl (fun s c =>
    let ch := 8 * (p - 0x2C8) + c
    if dmaEn s ch then dmaStop ch none s else s) s

end Sys2Proof.Machine
end

