-- ==== Sys2Proof/Machine/Ethernet.lean ====
section
/-! DEFINITION. Ethernet ports: receiving, pauses, low-power idle, links and the flow table (R366 to R381;
17_ethernet.md). -/

namespace Sys2Proof.Machine

/-! ## Pauses (R375 to R377) -/

/-- Gigabits per second of a sub-port (R366). -/
def subRate (s : State) (p : Nat) : Nat :=
  let m := fld s (ethPage p) F.ETH_CFG_MODE
  if p < 4 then 400 / 2 ^ m else if m = 0 then 10 else 1

/-- `n` quanta of 512 bit times, in 2^-16 ns (R375). -/
def quanta (s : State) (p n : Nat) : Nat := n * 512 * 65536 / subRate s p

def setEthPause (p sub c : Nat) (x : EthPause) (s : State) : State :=
  let e := ethPort s p
  setEthPort p { e with pauses := alSet {} e.pauses (8 * sub + c) x } s


/-- A received pause time for a class (R375, R376). -/
def takePause (p sub c t : Nat) (s : State) : State :=
  let x := ethPause s p sub c
  if t = 0 then setEthPause p sub c {} s
  else if x.released then s
  else
    let since := if classPaused s p sub c then x.since else s.mono
    setEthPause p sub c { x with until' := some (s.mono + quanta s p t), since := since } s

/-- PAUSE_FRAME (R375, R376): a frame of the kind MODE selects acts on its classes. -/
def execPauseFrame (p sub : Nat) (pfc : Bool) (times : List (Nat × Nat)) (s : State) : Result :=
  if 6 ≤ p ∨ subUp s p sub = false then .next s
  else
    let s := countK (ethPage p) R.ETH_CNT 8 1 s
    let mode := fld s (ethPage p) F.ETH_PFC_MODE
    if mode = (if pfc then 2 else 1) then
      .next (ethFlush p (times.foldl (fun s x => takePause p sub (if pfc then x.1 % 8 else 0) x.2 s) s))
    else .next s

/-- PAUSE_EXPIRE (R375). -/
def execPauseExpire (p sub c : Nat) (s : State) : Result :=
  match (ethPause s p sub c).until' with
  | none => .next s
  | some t =>
    let s := advanceMono t s
    .next (ethFlush p (setEthPause p sub c { ethPause s p sub c with until' := none } s))

/-- When the watchdog of a class fires: WD_MS after it was paused (R376). -/
def watchdogAt (s : State) (p sub c : Nat) : Nat := (ethPause s p sub c).since + fld s (ethPage p) F.ETH_PFC_WD_MS * msUnits

/-- PAUSE_WD (R376): a class paused for longer than WD_MS is released; one whose pause ends before that is not. -/
def execPauseWd (p sub c : Nat) (s : State) : Result :=
  let page := ethPage p
  let x := ethPause s p sub c
  if !classPaused s p sub c || decide (x.until'.getD 0 ≤ watchdogAt s p sub c) then .next s
  else
    let s := advanceMono (watchdogAt s p sub c) s
    let s := setEthPause p sub c { x with until' := none, released := true } s
    .next (ethFlush p (countK page R.ETH_CNT 10 1 (setSticky page S.ETH_PAUSE_WD s)))

/-- Bytes in a port's sample buffer. -/
def sampleFill (s : State) (p : Nat) : Nat := ((ethPort s p).buffer.map (fun d => d.payload.length)).sum

/-- A pause time is sent on every sub-port that is up (R377). -/
def sendPause (p time : Nat) (s : State) : State :=
  (List.range (subPorts s p)).foldl (fun s sub =>
    if subUp s p sub then
      countK (ethPage p) R.ETH_CNT 9 1
        (macSend p { cls := fld s (ethPage p) F.ETH_PFC_SAMPLE_PCP, sub := sub, exempt := true,
                     bytes := pauseFrame (subMac s p sub) (decide (fld s (ethPage p) F.ETH_PFC_MODE = 2))
                       (fld s (ethPage p) F.ETH_PFC_SAMPLE_PCP) time } s)
    else s) s

/-- The sample buffer's fill is held against its thresholds (R377). -/
def judgeFill (p : Nat) (s : State) : State :=
  let x := ethPort s p
  let page := ethPage p
  if fld s page F.ETH_PFC_MODE = 0 then s
  else if !x.xoff && decide (fld s page F.ETH_PFC_XOFF_KIB * 1024 ≤ sampleFill s p) then
    sendPause p 0xFFFF (setEthPort p { x with xoff := true, xoffAt := s.mono } s)
  else if x.xoff && decide (sampleFill s p ≤ fld s page F.ETH_PFC_XON_KIB * 1024) then
    sendPause p 0 (setEthPort p { x with xoff := false, xoffAt := 0 } s)
  else s

/-- PAUSE_REFRESH (R377): 32,768 quanta after the last pause frame of a pause that still stands. -/
def execPauseRefresh (p : Nat) (s : State) : Result :=
  if decide (p < 4) && (ethPort s p).xoff && decide (fld s (ethPage p) F.ETH_PFC_MODE ≠ 0) &&
      decide (fld s (ethPage p) F.ETH_PFC_XON_KIB * 1024 < sampleFill s p) then
    let s := advanceMono ((ethPort s p).xoffAt + quanta s p 32768) s
    .next (sendPause p 0xFFFF (setEthPort p { ethPort s p with xoffAt := s.mono } s))
  else .next s

/-! ## Receiving (R367 to R370, R380) -/

/-- Whether a datagram is PTP over UDP: the event and general ports of the standard. -/
def UdpRx.isPtp (x : UdpRx) : Bool := decide (x.port = 319 ∨ x.port = 320)

/-- Whether content is accepted unprotected under validation (R380). -/
def secExempt (s : State) (p : Nat) (c : EthContent) : Bool :=
  match c with
  | .control => true
  | .lldp _ => true
  | .ptp => flag s (ethPage p) F.ETH_MACSEC_PTP_BYPASS
  | .udp x => x.isPtp && flag s (ethPage p) F.ETH_MACSEC_PTP_BYPASS
  | _ => false

/-- Whether a frame's tag is valid, and the state with its packet number taken (R380). -/
def secValid (p sub : Nat) (x : SecTag) (s : State) : Bool × State :=
  let key := 64 * sub + 4 + 4 * x.chan + x.an
  match sparseFind (ethPort s p).sas key with
  | none => (false, s)
  | some a =>
    if !x.good || decide (x.pn + fld s (ethPage p) F.ETH_MACSEC_REPLAY_WIN < a.pn) then (false, s)
    else
      let e := ethPort s p
      (true, setEthPort p { e with sas := sparseInsert (sparseErase e.sas key) key { a with pn := max a.pn (x.pn + 1) } } s)

/-- MACsec validation of a frame: whether it is delivered (R380). -/
def secCheck (p sub : Nat) (f : EthRx) (c : EthContent) (s : State) : Bool × State :=
  let mode := fld s (ethPage p) F.ETH_MACSEC_VALIDATE
  if mode = 0 then (true, s)
  else
    let v := match f.sec with
      | some x => secValid p sub x s
      | none => (secExempt s p c, s)
    let d := evalDetector (ethPage p) S.ETH_MACSEC_FAIL (!v.1) v.2
    if d.1 then
      (decide (mode = 1), countK (ethPage p) R.ETH_CNT 11 1 (setSticky (ethPage p) S.ETH_MACSEC_FAIL d.2))
    else (true, d.2)

/-- Whether an address is a sub-port's own (R366, R368). -/
def localAddr (s : State) (p sub : Nat) (ipv6 : Bool) (dst : Nat) : Bool :=
  decide (dst ≠ 0 ∧ dst = subIp s p sub ipv6)

/-- A frame discarded by classification (ETH_CNT[7]). -/
def discardFrame (p : Nat) (s : State) : State := countK (ethPage p) R.ETH_CNT 7 1 s

/-- The SEQ of a sample datagram from a sender (R369). -/
def trackSender (p src seq : Nat) (s : State) : State :=
  let x := ethPort s p
  let old := x.senders.find? (fun e => decide (e.src = src))
  let rest := x.senders.filter (fun e => decide (e.src ≠ src))
  let s := setEthPort p { x with senders := (⟨src, seq⟩ :: rest).take 1024 } s
  let miss : Nat := match old with
    | some e => seq - e.seq - 1
    | none => 0
  let d := evalDetector (ethPage p) S.ETH_SEQ_GAP (decide (0 < miss)) s
  if d.1 then countK (ethPage p) R.ETH_CNT 6 miss (setSticky (ethPage p) S.ETH_SEQ_GAP d.2) else d.2

/-- Whether a payload begins with the prefix of a sample datagram (R109). -/
def samplePrefix (l : List Byte) : Bool := decide (l.take 3 = [0x53, 0x44, 1] ∧ 8 ≤ l.length ∧ l.getD 3 0 ≠ 0)

/-- A datagram to the sample port: checked, and held until the ingest master takes it (R109, R369, R370). -/
def sampleIn (p : Nat) (trunc : Bool) (x : UdpRx) (payload : List Byte) (s : State) : State :=
  if x.fragment || (!trunc && (decide (x.cksum = 2) || (x.ipv6 && decide (x.cksum = 1)))) || !samplePrefix payload then
    discardFrame p s
  else
    let d := evalDetector (ethPage p) S.ETH_RX_OVERFLOW (decide (4 * 2 ^ 20 < sampleFill s p + payload.length)) s
    let s := d.2
    if d.1 then countK (ethPage p) R.ETH_CNT 4 1 (setSticky (ethPage p) S.ETH_RX_OVERFLOW s)
    else
      let e := ethPort s p
      let s := setEthPort p { e with buffer := e.buffer ++ [⟨payload, trunc⟩] } s
      let s := trackSender p x.src (ofLeBytes ((payload.drop 4).take 4)) s
      judgeFill p (countK (ethPage p) R.ETH_CNT 5 1 s)

/-- Whether a PTP page listens on a port and transport (R368). -/
def ptpListens (s : State) (p transport : Nat) : Bool :=
  (List.range 2).any (fun k =>
    decide (fld s (0x331 + k) F.PTP_CFG_PORT = p ∧ fld s (0x331 + k) F.PTP_CFG_TRANSPORT = transport))

/-- An LLDPDU leaves a management port (R378). -/
def sendLldp (p : Nat) (s : State) : State :=
  let s := ethControl p 0 true (lldpFrame (subMac s p 0) (fld s (ethPage p) F.ETH_EEE_TW_TX_US)) s
  setEthPort p { ethPort s p with lldpAt := s.mono } s

/-- An LLDPDU from the partner: the wake time it asks for is adopted (R378). -/
def takeLldp (p : Nat) (wake : Option Nat) (s : State) : State :=
  match wake with
  | some t =>
    if p < 4 ∨ t = fld s (ethPage p) F.ETH_EEE_TW_TX_US then s
    else
      sendLldp p (setFld (ethPage p) F.ETH_EEE_TW_TX_US (t % 2 ^ 16) s)
  | none => s

/-- Whether a datagram goes to a PTP page (R368). -/
def ptpTakes (s : State) (p : Nat) (x : UdpRx) : Bool := x.isPtp && ptpListens s p (if x.ipv6 then 2 else 1)

/-- A frame goes to its consumer (R367, R368). A later fragment of a datagram carries no port: on a management port it is
reassembled. -/
def classify (p sub : Nat) (trunc : Bool) (c : EthContent) (s : State) : State :=
  match c with
  | .control => s
  | .lldp w => if trunc then s else takeLldp p w s
  | .ptp => if ptpListens s p 0 then s else discardFrame p s
  | .solicit v6 dst mac src =>
    if localAddr s p sub v6 dst then
      ethControl p sub false ((if v6 then neighbourReply else arpReply) (subMac s p sub) dst mac src) s
    else discardFrame p s
  | .udp x =>
    if ptpTakes s p x then s
    else if !localAddr s p sub x.ipv6 x.dst then discardFrame p s
    else if p < 4 ∧ x.port = fld s (ethPage p) F.ETH_UDP_SAMPLE_PORT then sampleIn p trunc x x.payload s
    else if 4 ≤ p ∧ x.port = fld s (ethPage p) F.ETH_UDP_CMD_PORT then
      (if trunc then s else setEthPort p { ethPort s p with peer := ⟨x.ipv6, x.mac, x.src⟩ } s)
    else discardFrame p s
  | .fragment v6 dst => if 4 ≤ p ∧ localAddr s p sub v6 dst = true then s else discardFrame p s
  | .other => discardFrame p s

/-- What the MAC hands on of a frame: its first MAX_FRAME bytes (R367). -/
def framePart (limit : Nat) (f : EthRx) : List Byte :=
  if limit < f.len then f.bytes.take (limit + 4 + f.bytes.length - f.len) else f.bytes

/-- FRAME_RECEIVE (R367, R368, R380). What a PTP page, the command path or the pause logic does with its frame is its own
command. -/
def execFrameReceive (p sub : Nat) (f : EthRx) (s : State) : Result :=
  if 6 ≤ p ∨ subUp s p sub = false then .next s
  else
    let page := ethPage p
    if !f.fcsGood then .next (countK page R.ETH_CNT 2 1 s)
    else
      let s := countK page R.ETH_CNT 0 1 s
      let limit := fld s page F.ETH_CFG_MAX_FRAME
      let d := evalDetector page S.ETH_TRUNC (decide (limit < f.len)) s
      let s := if d.1 then countK page R.ETH_CNT 3 1 (setSticky page S.ETH_TRUNC d.2) else d.2
      let c := frameContent (framePart limit f)
      let v := secCheck p sub f c s
      if !v.1 then .next v.2 else .next (classify p sub d.1 c v.2)

/-! ## Sample datagrams (R109) -/

/-- The SPR page that reports a block of a datagram on port `p`: the page of its entry's lane; with no entry, for which the
spec names no page (R111), the page of lane 16p, the first of the C-die of that number (DESIGN CHOICE, log entry 60). -/
def datagramPage (s : State) (p id : Nat) : Nat :=
  match portEntry s p id with
  | some e => sprPage (stLane s e)
  | none => sprPage (16 * p)

/-- The blocks of a datagram from byte `off` on, at most `n` of them. -/
def datagramBlocks (p : Nat) (l : List Byte) : Nat → Nat → State → State
  | 0, _, s => s
  | n + 1, off, s =>
    let b := l.drop off
    let h := blockHeader b
    if b.length < 16 then s
    else
      let page := datagramPage s p h.stream
      let d := evalDetector page S.SPR_BLOCK_LENGTH (headerBad h) s
      if d.1 then blockMalformed page s
      else if b.length < blockBytes h then s
      else
        let s := blockReceive page (portEntry s p) (b.take (blockBytes h)) d.2
        datagramBlocks p l n (ceilTo (off + blockBytes h) 4) s

/-- SAMPLE_DATAGRAM (R109, R370): the ingest master takes the oldest datagram of a port. -/
def execSampleDatagram (p : Nat) (s : State) : Result :=
  match (ethPort s p).buffer with
  | [] => .next s
  | d :: l =>
    let s := setEthPort p { ethPort s p with buffer := l } s
    let s := datagramBlocks p d.payload (d.payload.getD 3 0).toNat 8 s
    .next (judgeFill p s)

/-! ## Low-power idle, LLDP and links (R366, R378, R381) -/

/-- LPI (R378): the transmit queue has been empty for IDLE_US. -/
def execLpi (p : Nat) (s : State) : Result :=
  let page := ethPage p
  if 4 ≤ p ∧ p < 6 ∧ subUp s p 0 = true ∧ flag s page F.ETH_EEE_EN = true ∧ (ethPort s p).queue = [] ∧
      flag s page F.ETH_STATUS_LPI = false then
    .next (countK page R.ETH_CNT 14 1 (setFld page F.ETH_STATUS_LPI 1
      (advanceMono ((ethPort s p).sentAt + fld s page F.ETH_EEE_IDLE_US * usUnits) s)))
  else .next s

/-- LLDPDU (R378): 30 s after the last one. -/
def execLldpdu (p : Nat) (s : State) : Result :=
  if p < 4 ∨ 6 ≤ p then .next s
  else .next (sendLldp p (advanceMono ((ethPort s p).lldpAt + 30 * secondUnits) s))

/-- Lanes of a port. -/
def portLanes (p : Nat) : Nat := if p < 4 then 4 else 1

def laneRetired (s : State) (p l : Nat) : Bool := bitOf (reg s (ethPage p) R.ETH_STATUS) (4 + l)

/-- A sub-port goes down: its held frames and pauses are gone. -/
def subDown (p sub : Nat) (s : State) : State :=
  let x := ethPort s p
  let s := setEthPort p { x with queue := x.queue.filter (fun f => decide (f.sub ≠ sub)),
                                 pauses := x.pauses.filter (fun e => decide (e.1 / 8 ≠ sub)) } s
  setReg (ethPage p) R.ETH_STATUS (withBit (reg s (ethPage p) R.ETH_STATUS) sub false) s

/-- Uncorrectable codewords of a lane within the retry window (R381). -/
def laneErrors (s : State) (p l : Nat) : Nat :=
  let w := fieldOf (reg s (ethPage p) R.RETRY_CFG) 0 32 * msUnits
  ((ethPort s p).uncorr.filter (fun e => decide (e.1 = l ∧ s.mono < e.2 + w))).length

/-- The lane with the most uncorrectable codewords in the window, the lower-numbered on a tie (R381). -/
def worstEthLane (s : State) (p : Nat) : List Nat → Option Nat
  | [] => none
  | l :: ls =>
    match worstEthLane s p ls with
    | none => some l
    | some k => if laneErrors s p l < laneErrors s p k then some k else some l

/-- A lane is retired (R381). -/
def retireEthLane (p l : Nat) (s : State) : State :=
  let page := ethPage p
  let s := setReg page R.ETH_STATUS (withBit (reg s page R.ETH_STATUS) (4 + l) true) s
  let s := setSticky page S.ETH_LANE_RETIRED (rlAdd 7 (4 * p + l) s)
  if (List.range (portLanes p)).all (laneRetired s p) then setFld page F.PAGE_STATUS_RETIRED 1 s else s

/-- LINK_DOWN (R381). -/
def execLinkDown (p sub : Nat) (unc : List Nat) (s : State) : Result :=
  if 6 ≤ p ∨ subUp s p sub = false then .next s
  else
    let page := ethPage p
    let x := ethPort s p
    let new := (List.range (portLanes p)).flatMap (fun l => List.replicate (unc.getD l 0) (l, s.mono))
    let s := setEthPort p { x with uncorr := x.uncorr ++ new } s
    let s := countK page R.ETH_CNT 13 new.length s
    let r := countRetry page (setSticky page S.ETH_LINK_DOWN (subDown p sub s))
    let s := r.1
    if !r.2 then .next s
    else
      match worstEthLane s p ((List.range (portLanes p)).filter (fun l => !laneRetired s p l)) with
      | some l =>
        let s := retireEthLane p l s
        .next ((List.range (subPorts s p)).foldl (fun s k => if l ∈ subLanes s p k then subDown p k s else s) s)
      | none => .next s

/-- SUBPORT_UP (R366, R381). -/
def execSubportUp (p sub : Nat) (s : State) : Result :=
  if 6 ≤ p ∨ pageLive s (ethPage p) = false ∨ subPorts s p ≤ sub ∨ ((subLanes s p sub).any (laneRetired s p)) = true then .next s
  else .next (setReg (ethPage p) R.ETH_STATUS (withBit (reg s (ethPage p) R.ETH_STATUS) sub true) s)

/-! ## The flow table (R372, R373) -/

/-- RESULT of a flow write (R373). -/
def flowResult (s : State) (p : Nat) (w0 w1 w2 w3 : Word) : Nat :=
  let f := flowOf w0 w1
  if f.valid && decide (subPorts s p ≤ f.sub) then 1
  else if f.valid && decide (fld s (ethPage p) F.ETH_CFG_MAX_FRAME < f.frameMax ∨ segmentLen s p f < 1024) then 2
  else if fieldOf w0 34 14 ≠ 0 ∨ fieldOf w1 62 2 ≠ 0 ∨ (f.ipv6 = false ∧ (fieldOf w2 32 32 ≠ 0 ∨ w3 ≠ 0)) then 3
  else 0

/-- READ of ETH_FLOW_CTRL. -/
def flowRead (p : Nat) (s : State) : State :=
  let f := fld s (ethPage p) F.ETH_FLOW_ADDR_FLOW
  setRegsFrom (ethPage p) R.ETH_FLOW_DATA ((List.range 6).map (flowWord s p f))
    (tableResult (ethPage p) F.ETH_FLOW_CTRL_RESULT 0 s)

/-- WRITE of ETH_FLOW_CTRL. A record leaves in one step, so no entry is carrying one (RESULT 4). -/
def flowWrite (p : Nat) (s : State) : State :=
  let f := fld s (ethPage p) F.ETH_FLOW_ADDR_FLOW
  let w := regsFrom s (ethPage p) R.ETH_FLOW_DATA 4
  let r := flowResult s p (w.getD 0 0) (w.getD 1 0) (w.getD 2 0) (w.getD 3 0)
  let s := tableResult (ethPage p) F.ETH_FLOW_CTRL_RESULT r s
  if r ≠ 0 then s
  else
    let x := ethPort s p
    setEthPort p { x with flows := wtSetMany x.flows (6 * f) w } s

/-- A write of ETH_FLOW_CTRL: READ, then WRITE (R473). -/
def writeFlowCtrl (p : Nat) (v : Word) (s : State) : State := actIf v 1 (flowWrite p) (actIf v 0 (flowRead p) s)

/-- ETH_FLOW_READ (R373). -/
def execEthFlowRead (m p : Nat) (v : Word) (s : State) : Result :=
  .next (guardedWrite m (ethPage p) R.ETH_FLOW_CTRL (v ||| 1#64) (writeFlowCtrl p (v ||| 1#64)) s)

/-- ETH_FLOW_WRITE (R373). -/
def execEthFlowWrite (m p : Nat) (v : Word) (s : State) : Result :=
  .next (guardedWrite m (ethPage p) R.ETH_FLOW_CTRL (v ||| 2#64) (writeFlowCtrl p (v ||| 2#64)) s)

/-! ## Registers -/

/-- A write of ETH_CFG (R366). -/
def writeEthCfg (p : Nat) (v : Word) (s : State) : State :=
  let page := ethPage p
  let m := fieldOf v 0 2
  if m = 3 ∨ (4 ≤ p ∧ 1 < m) ∨ (m ≠ fld s page F.ETH_CFG_MODE ∧ flag s page F.PAGE_CTRL_ENABLE = true) then refuseCfg page s
  else storePlain page R.ETH_CFG v s

/-- A write of ETH_PFC (R377). -/
def writeEthPfc (p : Nat) (v : Word) (s : State) : State :=
  let page := ethPage p
  if fieldOf v 0 2 = 3 ∨ fieldOf v 18 12 ≤ fieldOf v 30 12 then refuseCfg page s
  else judgeFill p (ethFlush p (storePlain page R.ETH_PFC v s))

/-- ETH_PFC as a read gives it: PAUSED and RELEASED by class. -/
def readEthPfc (s : State) (p : Nat) : Word :=
  let w := reg s (ethPage p) R.ETH_PFC
  (List.range 8).foldl (fun w c =>
    let subs := List.range 4
    withBit (withBit w (42 + c) (subs.any (fun k => classPaused s p k c))) (50 + c)
      (subs.any (fun k => (ethPause s p k c).released))) w

/-- A write of ETH_EEE: data ports have none, and EN 0 ends low-power idle (R378). -/
def writeEthEee (p : Nat) (v : Word) (s : State) : State :=
  if p < 4 then s
  else
    let s := storePlain (ethPage p) R.ETH_EEE v s
    if bitOf v 0 then s else setFld (ethPage p) F.ETH_STATUS_LPI 0 s

/-- ETH_EEE as a read gives it. -/
def readEthEee (s : State) (p : Nat) : Word := if p < 4 then 0 else reg s (ethPage p) R.ETH_EEE

/-- A write of ETH_CNT_CLEAR. -/
def writeEthCntClear (p : Nat) (v : Word) (s : State) : State :=
  if bitOf v 0 then resetRegs (ethPage p) R.ETH_CNT 16 s else s

/-- ENABLE of the page is written: at 0 every sub-port is down (R71). -/
def ethEnable (p : Nat) (on : Bool) (s : State) : State :=
  if on then s else (List.range 4).foldl (fun s k => subDown p k s) s

/-- A port's soft reset beside its registers: frames in flight, flow table and sender table go, MACsec keys and retired
lanes stay (R381). -/
def resetEth (p retired : Nat) (s : State) : State :=
  let x := ethPort s p
  let s := setEthPort p { sas := x.sas, txAn := x.txAn, uncorr := x.uncorr, peer := x.peer } s
  let s := setFld (ethPage p) F.ETH_MACSEC_TX_AN (ntGet x.txAn 0) s
  setReg (ethPage p) R.ETH_STATUS (withField (reg s (ethPage p) R.ETH_STATUS) 4 4 retired) s

end Sys2Proof.Machine
end

