-- ==== Sys2Proof/Machine/Field.lean ====
section
/-! DEFINITION. Field outputs: control cycles, the slew limiter, supervision and fail-safe (R382 to R392;
18_field_outputs.md). -/

namespace Sys2Proof.Machine

/-! ## Control cycles (R385 to R387) -/

/-- Control cycles start at cycle 0 now (R385). -/
def fldStart (c : Nat) (s : State) : State :=
  let s := setFld (fldPage c) F.FLD_CH_CTRL_RUN 1 s
  fldJudge c (setFldChan c { fldChan s c with nextAt := s.mono } s)

/-- Control cycles stop (R385, R387). -/
def fldStop (c : Nat) (s : State) : State := fldJudge c (setFld (fldPage c) F.FLD_CH_CTRL_RUN 0 s)

/-- A FAULT fail-safe ends (R389). -/
def fldResume (c : Nat) (s : State) : State :=
  fldJudge c (setReg (fldPage c) R.FLD_CH_STATUS (withBit (reg s (fldPage c) R.FLD_CH_STATUS) (8 + fsFault) false) s)

/-- A write of FLD_CH_CTRL: RUN, then RESTART, then RESUME (R385, R389, R473). -/
def writeFldCtrl (c : Nat) (v : Word) (s : State) : State :=
  let s := if bitOf v 0 then (if flag s (fldPage c) F.FLD_CH_CTRL_RUN then s else fldStart c s) else fldStop c s
  actIf v 2 (fldResume c) (actIf v 1 (fldStart c) s)

/-- FLD_RUN (R385). -/
def execFldRun (m c : Nat) (v : Word) (s : State) : Result :=
  .next (guardedWrite m (fldPage c) R.FLD_CH_CTRL v (writeFldCtrl c v) s)

/-- RESTART (R385). -/
def execRestart (m c : Nat) (v : Word) (s : State) : Result :=
  .next (guardedWrite m (fldPage c) R.FLD_CH_CTRL (v ||| 2#64) (writeFldCtrl c (v ||| 2#64)) s)

/-- FLD_RESUME (R389). -/
def execFldResume (m c : Nat) (v : Word) (s : State) : Result :=
  .next (guardedWrite m (fldPage c) R.FLD_CH_CTRL (v ||| 4#64) (writeFldCtrl c (v ||| 4#64)) s)

/-- A mark's action on the channels of a mask, each judged by its own latch (R78, R291, R385). -/
def fldMarked (f : Nat → State → State) (o : MarkOcc) (s : State) : Nat × State :=
  (bitsSet o.arg64 32).foldl (fun a c =>
    if pageGated a.2 (fldPage c) then (max a.1 mkRefused, a.2)
    else
      let r := judgeTarget (fldPage c) R.FLD_CH_CTRL o a.2
      if r.1 then (a.1, raiseLatch (fldPage c) o.claim (f c r.2)) else (max a.1 mkRefused, r.2)) (0, s)

/-- CTRL_START (R291, R385). -/
def execCtrlStart (h : Nat) (s : State) : Result := .next (tickAction h 0x0B (fldMarked fldStart) s)

/-- CTRL_STOP (R291, R385). -/
def execCtrlStop (h : Nat) (s : State) : Result := .next (tickAction h 0x0C (fldMarked fldStop) s)

/-- A control cycle in units of the block's own clock: PERIOD_NS in whole ticks (R385). -/
def fldPeriod (s : State) (c : Nat) : Nat :=
  (roundDiv (fld s (fldPage c) F.FLD_CH_PERIOD_PERIOD_NS) 4).toNat * (4 * 65536)

/-- The setpoint watchdog at a cycle start: whether it has expired (R391). -/
def fldWatch (c : Nat) (s : State) : Bool × State :=
  let x := fldChan s c
  let lim := fld s (fldPage c) F.FLD_CH_CFG_WDOG_CYCLES
  let unset := if x.written then 0 else x.unset + 1
  let s := setFldChan c { x with unset := unset, written := false } s
  let d := evalDetector (fldPage c) S.FLD_WDOG (decide (lim ≠ 0 ∧ lim ≤ unset)) s
  let old := (fld s (fldPage c) F.FLD_CH_STATUS_FS_CAUSE).testBit fsWdog
  (d.1, stickyIf (d.1 && !old) (fldPage c) S.FLD_WDOG d.2)

/-- The fail-safe state is left at a cycle start (R391). -/
def fldLeave (c : Nat) (s : State) : State :=
  if !fldFailed s c then s
  else
    let s := setFldFailed c false s
    if flag s (fldPage c) F.FLD_CH_STATUS_HIGH_Z then setFldY c (fldZero s c) (setFld (fldPage c) F.FLD_CH_STATUS_HIGH_Z 0 s)
    else s

/-- The target chosen where no cause holds (R386 orders 3 and 4). -/
def fldChoose (c : Nat) (det : Bool) (s : State) : State :=
  let p := fldPage c
  if decide (fld s p F.FLD_CH_CFG_DET_MODE = 1) && det then
    setFldChan c { fldChan s c with target := fldCode c (fld s p F.FLD_CH_CODES_ALARM_CODE) } (countK p R.FLD_CH_CNT 2 1 s)
  else setFldChan c { fldChan s c with target := fldCode c (fld s p F.FLD_CH_SETPOINT_CODE) } s

/-- What a channel does at a cycle start (R386, R391). -/
def fldCycle (c : Nat) (s : State) : State :=
  let p := fldPage c
  let s := countK p R.FLD_CH_CNT 0 1 s
  let w := fldWatch c s
  let s := w.2
  let det := detectorInput s 0 c
  let trip := decide (fld s p F.FLD_CH_CFG_DET_MODE = 2) && det
  let cause := withBit (withBit (reg s p R.FLD_CH_STATUS) (8 + fsWdog) w.1) (8 + fsDetector) trip
  let s := setReg p R.FLD_CH_STATUS cause s
  let s := if fldCauses s c = 0 then fldChoose c det (fldLeave c s) else s
  let s := fldJudge c s
  (List.range 68).foldl (fun s n => if fld s (chsPage n) F.CHS_CFG_WAKE_FLD = c then chsWake n 3 s else s) s

/-- CONTROL_CYCLE (R385, R386): the next cycle of a channel that runs them begins. -/
def execControlCycle (c : Nat) (s : State) : Result :=
  if pageGated s (fldPage c) || !flag s (fldPage c) F.FLD_CH_CTRL_RUN then .next s
  else
    let t := (fldChan s c).nextAt
    let s := advanceMono t s
    .next (fldCycle c (setFldChan c { fldChan s c with nextAt := t + fldPeriod s c } s))

/-! ## The slew limiter and supervision (R388, R389) -/

/-- Codes a channel drives, as a closed interval (R383). -/
def fldCodes (c : Nat) : Int × Int := if fldFine c then (-(2 ^ 23) + 1, 2 ^ 23 - 1) else (0, 65535)

/-- One move of the limiter. A step by RATE that leaves the codes of the channel has no stated value (log entry 3). -/
def fldMove (c : Nat) (s : State) : State :=
  let p := fldPage c
  let y := fldY s c
  let x := (fldChan s c).target
  let rate := fld s p F.FLD_CH_SLEW_RATE
  if rate = 0 ∨ (x - y).natAbs ≤ fld s p F.FLD_CH_SLEW_STEP then
    setFldY c x (setFld p F.FLD_CH_STATUS_LIMITING 0 s)
  else
    let y' := if y < x then y + rate else y - rate
    let s := countK p R.FLD_CH_CNT 3 1 (setFld p F.FLD_CH_STATUS_LIMITING 1 s)
    if (fldCodes c).1 ≤ y' ∧ y' ≤ (fldCodes c).2 then setFldY c y' s
    else
      let f := takeFree s
      setFldY c (fldCode c (if fldFine c then f.1.toNat % 2 ^ 24 else f.1.toNat % 2 ^ 16)) f.2

/-- The driven code at an update: in the fail-safe state FAILSAFE_CODE or no change, else a move to the target. -/
def fldDrive (c : Nat) (s : State) : State :=
  let p := fldPage c
  if fldFailed s c then
    if flag s p F.FLD_CH_STATUS_HIGH_Z ∨ fld s p F.FLD_CH_CFG_FAILSAFE_MODE ≠ 1 then setFld p F.FLD_CH_STATUS_LIMITING 0 s
    else setFldY c (fldCode c (fld s p F.FLD_CH_CODES_FAILSAFE_CODE)) (setFld p F.FLD_CH_STATUS_LIMITING 0 s)
  else fldMove c s

/-- The loop current that a current range drives, in µA × 65,536 (R383). -/
def fldDriven (s : State) (c : Nat) : Int :=
  if fld s (fldPage c) F.FLD_CH_CFG_RANGE = 4 then 4000 * 65536 + 16000 * fldY s c else 24000 * fldY s c

/-- Whether the condition of fault `k` holds: 0 OPEN_LOOP, 1 COMPLIANCE, 2 ILIMIT (R389). -/
def fldFaulty (s : State) (c : Nat) (ua : Int) (limit : Bool) (k : Nat) : Bool :=
  let r := fld s (fldPage c) F.FLD_CH_CFG_RANGE
  let loop := decide (r = 4 ∨ r = 5)
  let opened := decide (ua < 100 ∧ 1000 * 65536 < fldDriven s c)
  if k = 0 then loop && opened
  else if k = 1 then loop && limit && !opened && decide (ua * 65536 < fldDriven s c - 100 * 65536)
  else !loop && decide (25000 < ua.natAbs)

/-- A fault is declared (R389). -/
def fldDeclare (c k : Nat) (s : State) : State :=
  let p := fldPage c
  let x := fldChan s c
  let s := setFldChan c { x with declared := k :: x.declared } s
  let s := setSticky p (S.FLD_OPEN_LOOP + k) (countK p R.FLD_CH_CNT 5 1 s)
  if flag s p F.FLD_CH_CFG_FAULT_ACTION then
    setReg p R.FLD_CH_STATUS (withBit (reg s p R.FLD_CH_STATUS) (8 + fsFault) true) s
  else s

/-- One fault at an update: declared after 100 updates with its condition, cleared after 100 without (R389). -/
def fldSupervise (c : Nat) (bad : Bool) (k : Nat) (s : State) : State :=
  let x := fldChan s c
  let seen := if bad then ntGet x.seen k + 1 else 0
  let absent := if bad then 0 else ntGet x.absent k + 1
  let declared := if 100 ≤ absent then x.declared.filter (fun y => decide (y ≠ k)) else x.declared
  let s := setFldChan c { x with seen := ntSet x.seen k seen, absent := ntSet x.absent k absent, declared := declared } s
  let d := evalDetector (fldPage c) (S.FLD_OPEN_LOOP + k) (decide (100 ≤ seen ∧ k ∉ declared)) s
  if d.1 then fldDeclare c k d.2 else d.2

/-- An update of a channel that is high-impedance: every condition is absent, and no fault is declared (R389). -/
def fldUnloaded (c : Nat) (s : State) : State :=
  (List.range 3).foldl (fun s k =>
    let x := fldChan s c
    let absent := ntGet x.absent k + 1
    let declared := if 100 ≤ absent then x.declared.filter (fun y => decide (y ≠ k)) else x.declared
    setFldChan c { x with seen := ntSet x.seen k 0, absent := ntSet x.absent k absent, declared := declared } s) s

/-- SLEW_UPDATE (R388, R389): the driven code moves, and the output is measured: current in µA, voltage in mV, and whether
the voltage is at its limit. -/
def execSlewUpdate (c : Nat) (ua mv : Int) (limit : Bool) (s : State) : Result :=
  if pageGated s (fldPage c) then .next s
  else
    let s := fldDrive c s
    let s := setReg (fldPage c) R.FLD_CH_MEAS (BitVec.ofNat 64 (ofSigned 32 ua + ofSigned 32 mv * 2 ^ 32)) s
    let s := if flag s (fldPage c) F.FLD_CH_STATUS_HIGH_Z then fldUnloaded c s
      else (List.range 3).foldl (fun s k => fldSupervise c (fldFaulty s c ua limit k) k s) s
    .next (fldJudge c s)

/-! ## The global page (R390, R391) -/

/-- A write of FLD_GLB_CTRL. -/
def writeFldGlb (v : Word) (s : State) : State :=
  let s := storePlain fldGlb R.FLD_GLB_CTRL v s
  refreshFld (stickyIf (bitOf v 0) fldGlb S.FLDG_FAILSAFE_ALL s)

/-- FAILSAFE_ALL (R391). -/
def execFailsafeAll (m : Nat) (v : Word) (s : State) : Result :=
  .next (guardedWrite m fldGlb R.FLD_GLB_CTRL v (writeFldGlb v) s)

/-- The rails' bits of FLD_GLB_STATUS. -/
def setRailsOk (ok : Nat) (s : State) : State :=
  setReg fldGlb R.FLD_GLB_STATUS (withField (reg s fldGlb R.FLD_GLB_STATUS) 0 3 ok) s

/-- The rails of a mask are out of limits: every channel is disconnected (R390, R391). -/
def railFault (rails : Nat) (s : State) : State :=
  let s := setRailsOk (7 - rails % 8) { s with field := { s.field with rail := true } }
  refreshFld (setSticky fldGlb S.FLDG_RAIL_FAULT s)

/-- RAIL_FAULT (R390): bit 0 AVDD, 1 AVPOS, 2 AVNEG. -/
def execRailFault (rails : Nat) (s : State) : Result :=
  .next (if rails % 8 = 0 then s else railFault rails s)

/-- RAIL_RECOVERY (R390): 100 ms after all three rails are back. -/
def execRailRecovery (s : State) : Result :=
  .next (if s.field.rail then refreshFld (setRailsOk 7 { s with field := { s.field with rail := false } }) else s)

/-! ## Registers (R383, R391, R392) -/

/-- A write of FLD_CH_CFG (R383). -/
def writeFldCfg (c : Nat) (v : Word) (s : State) : State :=
  let p := fldPage c
  let r := fieldOf v 0 3
  if (if fldFine c then r < 6 else 5 < r) ∨ (r ≠ fld s p F.FLD_CH_CFG_RANGE ∧ flag s p F.PAGE_CTRL_ENABLE = true) then
    refuseCfg p s
  else fldJudge c (storePlain p R.FLD_CH_CFG v s)

/-- Whether a code may be written to a channel (R383). -/
def fldCodeOk (c w : Nat) : Bool := fldFine c || decide (w % 2 ^ 24 < 2 ^ 16)

/-- A write of FLD_CH_SETPOINT (R383, R387). -/
def writeFldSetpoint (c : Nat) (v : Word) (s : State) : State :=
  let p := fldPage c
  if fldCodeOk c v.toNat then
    setFldChan c { fldChan s c with written := true } (countK p R.FLD_CH_CNT 1 1 (storePlain p R.FLD_CH_SETPOINT v s))
  else refuseCfg p s

/-- A write of FLD_CH_CODES (R383). -/
def writeFldCodes (c : Nat) (v : Word) (s : State) : State :=
  let p := fldPage c
  if fldCodeOk c (fieldOf v 0 24) && fldCodeOk c (fieldOf v 24 24) then storePlain p R.FLD_CH_CODES v s else refuseCfg p s

/-- A write of FLD_CH_CNT_CLEAR. -/
def writeFldCntClear (c : Nat) (v : Word) (s : State) : State :=
  if bitOf v 0 then resetRegs (fldPage c) R.FLD_CH_CNT 6 s else s

/-- FLD_CH_STATUS as a read gives it: DET_IN is the detector input (R223). -/
def readFldStatus (s : State) (c : Nat) : Word :=
  withBit (reg s (fldPage c) R.FLD_CH_STATUS) 2 (detectorInput s 0 c)

/-- The global page's soft reset (R72): the rails read as before the first report; FAILSAFE goes on showing the channels,
which have pages of their own. -/
def resetFldGlb (s : State) : State :=
  setFld fldGlb F.FLD_GLB_STATUS_FAILSAFE (fld s fldGlb F.FLD_GLB_STATUS_FAILSAFE) (resetBlockRegs fldGlb s)

/-- A channel's soft reset (R72, R392): ENABLE is 0, so the channel is in its fail-safe state. -/
def resetFld (c : Nat) (s : State) : State :=
  fldJudge c (setFldFailed c true (setFldChan c {} s))

end Sys2Proof.Machine
end

