-- ==== Sys2Proof/Machine/Stewards.lean ====
section
/-! DEFINITION. Stewards, Referee, claims, events and the persisted retire list (R393 to R412). -/

namespace Sys2Proof.Machine

/-- REF, STW and first EVT page (R67). -/
abbrev refPage : Nat := 0x3D1
abbrev stwPage : Nat := 0x3D0
abbrev evtPage : Nat := 0x3D2

/-! ## Stewards as the Referee holds them (R393) -/

def stewardOf (s : State) (k : Nat) : StwState := if k = 0 then s.ref.a else s.ref.b

def setSteward (k : Nat) (x : StwState) (s : State) : State :=
  if k = 0 then { s with ref := { s.ref with a := x } } else { s with ref := { s.ref with b := x } }

/-- What is noted of a Steward begins afresh; its AGE_MS goes on from its last valid beat. -/
def freshSteward (k : Nat) (released : Option Nat) (s : State) : State :=
  setSteward k { beatAt := (stewardOf s k).beatAt, released := released } s

/-- The state and the claim of a Steward (R393, R396). -/
def setStewardState (k st : Nat) (s : State) : State :=
  if k = 0 then setFld refPage F.REF_STATUS_STATE_A st s else setFld refPage F.REF_STATUS_STATE_B st s
def setStewardClaim (k c : Nat) (s : State) : State :=
  if k = 0 then setFld refPage F.REF_STATUS_CLAIM_A c s else setFld refPage F.REF_STATUS_CLAIM_B c s

/-- A Steward's event queue is emptied (R407). -/
def emptyQueue (k : Nat) (s : State) : State := if k = 0 then { s with evtQA := [] } else { s with evtQB := [] }

/-- MAX_ISSUED (R396). -/
def maxIssued (s : State) : Nat := fld s refPage F.REF_STATUS_MAX_ISSUED

/-- HB_TIMEOUT_MS in 2^-16 ns. -/
def hbTimeout (s : State) : Nat := fld s refPage F.REF_CFG_HB_TIMEOUT_MS * msUnits

/-- Whether a Steward's last valid beat is older than HB_TIMEOUT_MS (R395). -/
def beatLate (s : State) (k : Nat) : Bool := decide (hbTimeout s < s.mono - (stewardOf s k).beatAt)

/-- A Steward is declared failed: held in reset, without claim, its queue empty (R400, R402, R407). -/
def holdSteward (k : Nat) (s : State) : State :=
  freshSteward k none (emptyQueue k (setStewardClaim k 0 (setStewardState k 4 s)))

/-- A claim is issued to a Steward, which becomes ACTIVE (R396). -/
def issueClaim (k : Nat) (s : State) : State :=
  let c := maxIssued s + 1
  setFld refPage F.REF_STATUS_ACTIVE k (setStewardState k 3 (setStewardClaim k c (setFld refPage F.REF_STATUS_MAX_ISSUED c s)))

/-- The CLAIM_EXHAUSTED detector (R396). -/
def claimsExhausted (s : State) : Bool × State :=
  evalDetector refPage S.REF_CLAIM_EXHAUSTED (decide (maxIssued s = 0xFFFF)) s

/-- Failover from Steward `k` (R400). Every request is whole within one command, so step 2 has nothing left to do. -/
def failover (k : Nat) (s : State) : State :=
  countFld refPage F.REF_COUNTS_FAILOVERS 1
    (setSticky refPage S.REF_FAILOVER (issueClaim (1 - k) (holdSteward k s)))

/-- Planned switchover from Steward `k` (R403): it uses up one claim (R404). -/
def switchover (k : Nat) (s : State) : State :=
  countFld refPage F.REF_COUNTS_SWITCHOVERS 1
    (setSticky refPage S.REF_SWITCHOVER (issueClaim (1 - k) (setStewardClaim k 0 (setStewardState k 2 s))))

/-! ## Beats (R394) -/

/-- A valid beat of Steward `k`. -/
def beatTaken (k seq : Nat) (s : State) : State :=
  let s := countFld refPage (F.REF_HB_BEATS.at k) 1 (setFld refPage (F.REF_HB_SEQ.at k) seq s)
  let s := setSteward k { (stewardOf s k) with beatAt := s.mono, fresh := false, late := false, released := none } s
  if stewardState s k = 1 then setStewardState k 2 s else s

/-- A write of REF_HB[k]. -/
def writeRefHb (m k : Nat) (v : Word) (s : State) : State :=
  if m ≠ k + 1 then refuseCfg refPage s
  else
    let seq := fieldOf v 0 16
    let good := (stewardOf s k).fresh || decide (seq = (fld s refPage (F.REF_HB_SEQ.at k) + 1) % 65536)
    let d := evalDetector refPage S.REF_BAD_BEAT (!good) s
    if d.1 then setSticky refPage S.REF_BAD_BEAT d.2 else beatTaken k seq d.2

/-- BEAT (R394). -/
def execBeat (m st : Nat) (v : Word) (s : State) : Result :=
  if st < 2 then .next (guardedWrite m refPage (R.REF_HB + 8 * st) v (writeRefHb m st v) s) else .next s

/-- A read of REF_HB[k]: AGE_MS counts from the last valid beat. -/
def readRefHb (s : State) (k : Nat) : Word :=
  let age := if fld s refPage (F.REF_HB_BEATS.at k) = 0 then 0
    else min 65535 ((s.mono - (stewardOf s k).beatAt) / msUnits)
  withField (reg s refPage (R.REF_HB + 8 * k)) 16 16 age

/-! ## The evaluation (R395, R400 to R402) -/

/-- The heartbeat condition of a Steward and its report. -/
def judgeBeat (k : Nat) (s : State) : Bool × State :=
  let d := evalDetector refPage S.REF_HB_TIMEOUT (beatLate s k) s
  let s := stickyIf (d.1 && !(stewardOf s k).late) refPage S.REF_HB_TIMEOUT d.2
  (d.1, setSteward k { (stewardOf s k) with late := d.1 } s)

/-- The external condition of a Steward, whose input has been low for `us` microseconds, and its report. -/
def judgeExt (k us : Nat) (s : State) : Bool × State :=
  let real := decide (us ≠ 0 ∧ fld s refPage F.REF_CFG_EXT_DEBOUNCE_US ≤ us)
  let d := evalDetector refPage S.REF_EXT_FAIL real s
  let s := stickyIf (d.1 && !(stewardOf s k).low) refPage S.REF_EXT_FAIL d.2
  (d.1, setSteward k { (stewardOf s k) with low := d.1 } s)

/-- Under BOTH, one condition alone for more than HB_TIMEOUT_MS is a disagreement. -/
def judgeDiffer (k : Nat) (differ : Bool) (s : State) : State :=
  let x := stewardOf s k
  let since := if differ then some (x.differ.getD s.mono) else none
  let long := match since with
    | some t => decide (hbTimeout s < s.mono - t)
    | none => false
  let d := evalDetector refPage S.REF_ARBITER_DISAGREE long (setSteward k { x with differ := since } s)
  stickyIf d.1 refPage S.REF_ARBITER_DISAGREE d.2

/-- Whether Steward `k` is failed (R395): by its beats and its REFEREE_x_OK input alone, the STANDBY Steward as the ACTIVE
one; nothing else of a Steward is tested (R404). -/
def judgeSteward (k us : Nat) (s : State) : Bool × State :=
  if stewardState s k ≠ 2 ∧ stewardState s k ≠ 3 then (false, s)
  else
    match fld s refPage F.REF_CFG_POLICY with
    | 0 => judgeBeat k s
    | 1 => judgeExt k us s
    | _ =>
      let h := judgeBeat k s
      let e := judgeExt k us h.2
      (h.1 && e.1, judgeDiffer k (h.1 != e.1) e.2)

/-- A STANDBY Steward that is failed, or one released by REINSTATE that has not beaten within 10 s (R402). -/
def standbyFails (k : Nat) (failed : Bool) (s : State) : State :=
  if (failed && decide (stewardState s k = 2)) ||
      (match (stewardOf s k).released with
       | some t => decide (stewardState s k = 1 ∧ t + 10000 * msUnits ≤ s.mono)
       | none => false)
  then holdSteward k s else s

/-- The ACTIVE Steward is failed (R400, R401). -/
def activeFails (k : Nat) (s : State) : State :=
  let d := evalDetector refPage S.REF_NO_STANDBY (decide (stewardState s (1 - k) ≠ 2)) s
  let e := claimsExhausted d.2
  let s := stickyIf e.1 refPage S.REF_CLAIM_EXHAUSTED (stickyIf d.1 refPage S.REF_NO_STANDBY e.2)
  if d.1 || e.1 then s else failover k s

/-- REFEREE_EVALUATION (R395): the next millisecond of the Referee's clock. Supervision begins with ARM (R397). -/
def execRefereeEvaluation (lowA lowB : Nat) (s : State) : Result :=
  let s := advanceMono ((s.mono / msUnits + 1) * msUnits) s
  let s := setFld refPage F.REF_STATUS_EXT_A (if lowA = 0 then 1 else 0)
    (setFld refPage F.REF_STATUS_EXT_B (if lowB = 0 then 1 else 0) s)
  if !armedRef s then .next s
  else
    let a := judgeSteward 0 lowA s
    let b := judgeSteward 1 lowB a.2
    let s := standbyFails 1 b.1 (standbyFails 0 a.1 b.2)
    if a.1 && decide (stewardState s 0 = 3) then .next (activeFails 0 s)
    else if b.1 && decide (stewardState s 1 = 3) then .next (activeFails 1 s)
    else .next s

/-! ## ARM, SWITCHOVER, REINSTATE (R397, R402, R403) -/

/-- ARM: from either Steward or the host, once per full reset. -/
def armRef (m : Nat) (s : State) : State :=
  let p := fld s refPage F.REF_CFG_PREFER
  let k := if stewardState s p = 2 then p else 1 - p
  if 2 < m ∨ armedRef s = true ∨ stewardState s k ≠ 2 then refuseCfg refPage s
  else
    let e := claimsExhausted s
    if e.1 then refuseBit refPage S.REF_CLAIM_EXHAUSTED e.2
    else setFld refPage F.REF_STATUS_ARMED 1 (issueClaim k e.2)

/-- Whether the ACTIVE Steward is failed at this moment, by what the last evaluation saw of its input. -/
def failedNow (s : State) (k : Nat) : Bool :=
  match fld s refPage F.REF_CFG_POLICY with
  | 0 => beatLate s k
  | 1 => (stewardOf s k).low
  | _ => beatLate s k && (stewardOf s k).low

/-- SWITCHOVER: from the ACTIVE Steward, where a failover could proceed; one that is failed meanwhile fails over. -/
def switchRef (m : Nat) (s : State) : State :=
  if !isActiveSteward s m then refuseCfg refPage s
  else
    let k := m - 1
    if stewardState s (1 - k) ≠ 2 ∨ failedNow s (1 - k) = true then refuseCfg refPage s
    else
      let e := claimsExhausted s
      if e.1 then refuseCfg refPage (setSticky refPage S.REF_CLAIM_EXHAUSTED e.2)
      else if failedNow s k then failover k e.2
      else switchover k e.2

/-- REINSTATE: from the ACTIVE Steward, for the other one while it is FAILED. -/
def reinstateRef (m : Nat) (s : State) : State :=
  if !isActiveSteward s m then refuseCfg refPage s
  else
    let k := 2 - m
    if stewardState s k = 4 then freshSteward k (some s.mono) (setStewardState k 1 s) else s

/-- A write of REF_CTRL, in bit order (R473). -/
def writeRefCtrl (m : Nat) (v : Word) (s : State) : State :=
  actIf v 2 (reinstateRef m) (actIf v 1 (switchRef m) (actIf v 0 (armRef m) s))

/-- ARM (R397). -/
def execArm (m : Nat) (v : Word) (s : State) : Result :=
  .next (guardedWrite m refPage R.REF_CTRL (v ||| 1#64) (writeRefCtrl m (v ||| 1#64)) s)

/-- SWITCHOVER (R403). -/
def execSwitchover (m : Nat) (v : Word) (s : State) : Result :=
  .next (guardedWrite m refPage R.REF_CTRL (v ||| 2#64) (writeRefCtrl m (v ||| 2#64)) s)

/-- REINSTATE (R402). -/
def execReinstate (m : Nat) (v : Word) (s : State) : Result :=
  .next (guardedWrite m refPage R.REF_CTRL (v ||| 4#64) (writeRefCtrl m (v ||| 4#64)) s)

/-! ## Grants and configuration (R398, R399) -/

/-- Whether a master may be named in a grant. -/
def grantable (n : Nat) : Bool :=
  decide (n = 0 ∨ (3 ≤ n ∧ n ≤ 8) ∨ (16 ≤ n ∧ n ≤ 43) ∨ (64 ≤ n ∧ n ≤ 131))

/-- A write of REF_GRANT_DATA. -/
def writeRefGrant (m : Nat) (v : Word) (s : State) : State :=
  let n := fld s refPage F.REF_GRANT_ADDR_MASTER
  let c := fieldOf v 0 16
  if isActiveSteward s m && grantable n && decide (c ≤ masterClaim s m) then
    { s with grants := ntSet s.grants n c }
  else refuseCfg refPage s

/-- REF_GRANT_DATA (R398). -/
def execRefGrantData (m : Nat) (v : Word) (s : State) : Result :=
  .next (guardedWrite m refPage R.REF_GRANT_DATA v (writeRefGrant m v) s)

/-- A read of REF_GRANT_DATA. -/
def readRefGrant (s : State) : Word := BitVec.ofNat 64 (masterClaim s (fld s refPage F.REF_GRANT_ADDR_MASTER))

/-- A write of REF_CFG (R399). -/
def writeRefCfg (m : Nat) (v : Word) (s : State) : State :=
  if armedRef s && !isActiveSteward s m then refuseCfg refPage s else storePlain refPage R.REF_CFG v s

/-- What SOFT_RESET of the REF page resets before ARM: its configuration. R393: 'only a full reset resets' the Referee
itself (R399). -/
def resetRef (s : State) : State :=
  resetRegs refPage R.REF_GRANT_ADDR 1 (resetRegs refPage R.REF_CFG 1 s)

/-! ## Events (R405 to R408) -/

/-- EVT_PENDING (R406). -/
def execEvtPending (m k : Nat) (v : Word) (s : State) : Result :=
  if k < 16 then .next (guardedWrite m 0x3D3 (R.EVT_PENDING + 8 * k) v (storePlain 0x3D3 (R.EVT_PENDING + 8 * k) v) s)
  else .next s

/-- A write of EVT_MASK[k]: a bit cleared while its event is pending requests that event's message (R405). -/
def writeEvtMask (k : Nat) (v : Word) (s : State) : State :=
  let off := R.EVT_MASK + 8 * k
  let old := reg s 0x3D3 off
  let opened := (List.range 64).filter (fun b => bitOf old b && !bitOf v b && evPending s (64 * k + b))
  opened.foldl (fun s b => msixOfEvent (64 * k + b) s) (storePlain 0x3D3 off v s)

/-- EVT_MASK (R405). -/
def execEvtMask (m k : Nat) (v : Word) (s : State) : Result :=
  if k < 16 then .next (guardedWrite m 0x3D3 (R.EVT_MASK + 8 * k) v (writeEvtMask k v) s) else .next s

/-- A vector unmasked with its pending bit set sends one message (R405). -/
def msixSettle (v : Nat) (s : State) : State :=
  if !vectorMasked s v && bitOf (reg s 0x408 (v / 64 * 8)) (v % 64) then
    msixRequest v (setReg 0x408 (v / 64 * 8) (withBit (reg s 0x408 (v / 64 * 8)) (v % 64) false) s)
  else s

/-- A write of the MSI-X table (R83, R405): 8 bytes, or the 4 bytes at an odd half. Vector Control has its Mask bit alone. -/
def writeMsix (page off size : Nat) (v : Word) (s : State) : State :=
  let base := off / 8 * 8
  let old := reg s page base
  let w := if size = 8 then v else withField old (off % 8 * 8) 32 (fieldOf v 0 32)
  let w := if base % 16 = 8 then w &&& 0x1FFFFFFFF#64 else w &&& 0xFFFFFFFFFFFFFFFC#64
  msixSettle ((page - 0x400) * 256 + base / 16) (setReg page base w s)

/-- The host writes the function mask in PCI configuration space: cleared, every vector whose pending bit is set and whose
own Mask bit is 0 sends its message (R83, R405). -/
def setFunctionMask (on : Bool) (s : State) : State :=
  (List.range 2048).foldl (fun s v => msixSettle v s) { s with msixFn := on }

/-- MSIX_UNMASK (R405): a vector by its own Mask bit, or all by the function mask. -/
def execMsixUnmask (m : Nat) (vector : MsixTarget) (v : Word) (s : State) : Result :=
  match vector with
  | .function mask => .next (setFunctionMask mask s)
  | .vector n =>
    if n < 2048 then
      let page := 0x400 + n / 256
      let off := n % 256 * 16 + 8
      .next (guardedWrite m page off v (writeMsix page off 8 v) s)
    else .next s

/-- A read of EVT_POP: the oldest entry, which leaves the queue (R65, R407). -/
def readEvtPop (st : Nat) (s : State) : Word × State :=
  match (if st = 0 then s.evtQA else s.evtQB) with
  | [] => (0, s)
  | e :: l =>
    (BitVec.ofNat 64 (e.event % 1024 + 2 ^ 15 + timeNs e.time * 2 ^ 16 + timeSeconds e.time % 2 ^ 16 * 2 ^ 48),
     if st = 0 then { s with evtQA := l } else { s with evtQB := l })

/-- EVT_POP (R407). -/
def execEvtPop (st : Nat) (s : State) : Result :=
  if pageGated s 0x3D4 then .next (setRd 0 s)
  else let r := readEvtPop st s; .next (setRd r.1 r.2)

/-- Registers of the event controller that show or change its tables. -/
def readEvtRoute (s : State) : Word := routeOf s (fld s evtPage F.EVT_ROUTE_ADDR_EVENT)
def writeEvtRoute (v : Word) (s : State) : State :=
  { s with routes := wtSet s.routes (fld s evtPage F.EVT_ROUTE_ADDR_EVENT) ((v &&& 0xF7FFF#64) ^^^ 0x4000#64) }
def readEvtIrq (s : State) : Word :=
  BitVec.ofNat 64 (((List.range 4).map (fun n => if irqAsserted s n then 2 ^ n else 0)).sum)
def readEvtCnt (s : State) : Word := BitVec.ofNat 64 (ntGet s.evtCounts (fld s 0x3D6 F.EVT_CNT_ADDR_EVENT))
def writeEvtCnt (v : Word) (s : State) : State :=
  if bitOf v 63 then { s with evtCounts := ntSet s.evtCounts (fld s 0x3D6 F.EVT_CNT_ADDR_EVENT) 0 } else s

/-- SOFT_RESET of page 0x3D2 (R408). -/
def resetEvt (s : State) : State :=
  { resetBlockRegs 0x3D6 (resetBlockRegs 0x3D3 (resetBlockRegs evtPage s)) with
      routes := [], evtCounts := [], evtQA := [], evtQB := [] }

/-! ## The retire list (R409 to R412) -/

/-- Whether a master is a command path executing a KIND 1 command (R84, R412). -/
def kindOne (s : State) (m : Nat) : Bool :=
  match sparseFind s.cmd.runs (m - 3) with
  | some r => decide (m = 3 ∨ m = 4) && r.signed
  | none => false

/-- READ of STW_RL_CTRL (R409). -/
def rlRead (s : State) : State :=
  match s.rl.entries[fld s stwPage F.STW_RL_ADDR_INDEX]? with
  | some w => tableResult stwPage F.STW_RL_CTRL_RESULT 0 (setReg stwPage R.STW_RL_DATA w s)
  | none => tableResult stwPage F.STW_RL_CTRL_RESULT 1 (setReg stwPage R.STW_RL_DATA 0 s)

/-- REMOVE of STW_RL_CTRL (R412). -/
def rlRemove (m : Nat) (s : State) : State :=
  let i := fld s stwPage F.STW_RL_ADDR_INDEX
  if !kindOne s m then refuseBit stwPage S.LOCK_REFUSED (setFld stwPage F.STW_RL_CTRL_RESULT 2 s)
  else
    match s.rl.entries[i]? with
    | none => tableResult stwPage F.STW_RL_CTRL_RESULT 1 s
    | some w =>
      let n := if bitOf w 40 then 0 else 1
      tableResult stwPage F.STW_RL_CTRL_RESULT 0
        { s with rl := { s.rl with entries := s.rl.entries.set i (withBit w 40 true), changes := s.rl.changes + n } }

/-- A write of STW_RL_CTRL, in bit order (R473). -/
def writeRlCtrl (m : Nat) (v : Word) (s : State) : State := actIf v 1 (rlRemove m) (actIf v 0 rlRead s)

/-- STW_RL_READ (R409). -/
def execStwRlRead (m : Nat) (v : Word) (s : State) : Result :=
  .next (guardedWrite m stwPage R.STW_RL_CTRL (v ||| 1#64) (writeRlCtrl m (v ||| 1#64)) s)

/-- REMOVE (R412). -/
def execRemove (m : Nat) (v : Word) (s : State) : Result :=
  .next (guardedWrite m stwPage R.STW_RL_CTRL (v ||| 2#64) (writeRlCtrl m (v ||| 2#64)) s)

/-- A read of STW_RL_STATUS. -/
def readRlStatus (s : State) : Word :=
  BitVec.ofNat 64 (s.rl.entries.length + s.rl.changes % 2 ^ 13 * 2 ^ 16 + s.rl.gen % 2 ^ 32 * 2 ^ 32)

/-- The list is written to the flash as a signed copy, the two areas in turn (R410). Without an identity nothing can sign
it (R418). -/
def rlPersist (ok : Bool) (s : State) : State :=
  if s.rl.changes = 0 ∨ s.ldg.noIdentity = true then s
  else
    let d := evalDetector stwPage S.STW_PERSIST_FAIL (!ok) s
    if d.1 then setSticky stwPage S.STW_PERSIST_FAIL d.2
    else
      let s := countSignature d.2
      let c : RlCopy := ⟨s.rl.gen + 1, s.rl.entries, true⟩
      let l := { s.rl with changes := 0, gen := s.rl.gen + 1 }
      { s with rl := if c.gen % 2 = 1 then { l with areaA := some c } else { l with areaB := some c } }

/-- RETIRE_PERSIST (R410). -/
def execRetirePersist (ok : Bool) (s : State) : Result := .next (rlPersist ok s)

end Sys2Proof.Machine
end

