-- ==== Sys2Proof/Machine/Truing.lean ====
section
/-! DEFINITION. Truing: reference monitors, selection, the DPLL, holdover and the clock outputs (R296 to R310;
13_truing_clocks.md). -/

namespace Sys2Proof.Machine

/-! ## References (R296 to R298) -/

/-- OFFSET of a reference in ppt. -/
def refOffset (s : State) (r : Nat) : Int := toSigned 32 (fld s truPage (F.TRU_REF_STATUS_OFFSET.at r))


/-- Nominal frequency of a reference in Hz (R296; that of a recovered clock is log entry 9). -/
def refHz (s : State) (r : Nat) : Nat :=
  if r ≤ 3 then
    [10000000, 25000000, 100000000, 125000000, 156250000, 250000000].getD (fld s truPage (F.TRU_REF_CFG_FREQ.at r)) 10000000
  else if 6 ≤ r ∧ r ≤ 9 then 53125000000
  else 1

/-- Whether R278 lets a PPS or PTP reference be qualified; the others have no such condition (R298). -/
def refAllowed (s : State) (r : Nat) : Bool :=
  if r = 4 ∨ r = 5 then sourceQualified s (r - 1) else if r = 10 ∨ r = 11 then sourceQualified s (r - 9) else true

/-- Whether a reference is qualified: by its monitor, and a PPS or PTP reference by R278 as well (R298). -/
def refQualified (s : State) (r : Nat) : Bool := flag s truPage (F.TRU_REF_STATUS_QUALIFIED.at r) && refAllowed s r

/-- Loss of signal (R297): of REFIN as its pin shows it, of a PPS input an edge 1.5 s late, of a recovered clock its port's
link, of a PTP reference its domain. -/
def refLost (s : State) (r : Nat) (los : Bool) : Bool :=
  if r = 4 ∨ r = 5 then
    (match (ppsIn s (r - 4)).last with
     | some l => decide (l + secondUnits + secondUnits * 3 / 2 ≤ devTime s)
     | none => true)
  else if 6 ≤ r ∧ r ≤ 9 then !subUp s (r - 6) 0
  else if r = 10 ∨ r = 11 then !sourceQualified s (r - 9)
  else los

/-- TRU_REF_STATUS[r] as a read gives it. -/
def readRefStatus (s : State) (r : Nat) : Word :=
  let w := reg s truPage (R.TRU_REF_STATUS + 8 * r)
  withBit (withBit w 32 (refQualified s r)) 34 (refLost s r (bitOf w 34))

/-- OFFSET of a reference (R297): the mean of the last WINDOW_S seconds in which it had a signal. -/
def windowMean (s : State) (r : Nat) : Int :=
  let l := ((alGet [] s.tru.offs r).take (fld s truPage (F.TRU_REF_CFG_WINDOW_S.at r))).filterMap id
  roundDiv l.sum l.length

/-- A second's offset of a reference enters its window. -/
def noteOffset (r : Nat) (off : Option Int) (s : State) : State :=
  { s with tru := { s.tru with offs := alSet [] s.tru.offs r ((off :: alGet [] s.tru.offs r).take 255) } }

/-- A reference is disqualified (R298). -/
def refDisqualify (r : Nat) (s : State) : State :=
  let s := { s with tru := { s.tru with good := ntSet s.tru.good r 0 } }
  if flag s truPage (F.TRU_REF_STATUS_QUALIFIED.at r) then
    setSticky truPage S.TRU_REF_DISQ (setFld truPage (F.TRU_REF_STATUS_QUALIFIED.at r) 0 s)
  else s

/-- A reference that is not qualified counts clean updates until it requalifies (R298). -/
def refRequalify (r : Nat) (clean : Bool) (s : State) : State :=
  let n := if clean then ntGet s.tru.good r + 1 else 0
  let s := { s with tru := { s.tru with good := ntSet s.tru.good r n } }
  if !flag s truPage (F.TRU_REF_STATUS_QUALIFIED.at r) && decide (fld s truPage (F.TRU_REF_CFG_QUAL_S.at r) ≤ n) then
    setSticky truPage S.TRU_REF_QUAL (setFld truPage (F.TRU_REF_STATUS_QUALIFIED.at r) 1 s)
  else s

/-- The monitor update of one reference, whose offset over the last second was `off1` (R297, R298). -/
def refUpdate (r : Nat) (off1 : Int) (los : Bool) (s : State) : State :=
  let soft := fld s truPage (F.TRU_REF_CFG_SOFT_PPB.at r) * 1000
  let hard := fld s truPage (F.TRU_REF_CFG_HARD_PPB.at r) * 1000
  let lost := refLost s r los
  let s := noteOffset r (if lost then none else some off1) s
  let off := windowMean s r
  let above := decide (soft < off.natAbs)
  let was := flag s truPage (F.TRU_REF_STATUS_SOFT.at r)
  let s := setFld truPage (F.TRU_REF_STATUS_OFFSET.at r) (ofSigned 32 off) s
  let s := setFld truPage (F.TRU_REF_STATUS_SOFT.at r) (if above then 1 else 0) s
  let s := setFld truPage (F.TRU_REF_STATUS_LOS.at r) (if lost then 1 else 0) s
  let s := stickyIf (above && !was) truPage S.TRU_SOFT_CROSS s
  if lost || decide (hard < off.natAbs) || !refAllowed s r then refDisqualify r s
  else refRequalify r (!above) s

/-! ## Selection (R299 to R301) -/

def prioRef (s : State) (e : Nat) : Nat := fld s truPage (F.TRU_PRIO_REF.at e)
def prioRank (s : State) (e : Nat) : Nat := fld s truPage (F.TRU_PRIO_PRIO.at e)

/-- Whether an entry is a candidate (R299). -/
def isCandidate (s : State) (e : Nat) : Bool := flag s truPage (F.TRU_PRIO_EN.at e) && refQualified s (prioRef s e)

def candidates (s : State) : List Nat := (List.range 8).filter (isCandidate s)

def entryOffset (s : State) (e : Nat) : Int := refOffset s (prioRef s e)

/-- The selected entry. -/
def selectedEntry (s : State) : Option Nat :=
  if flag s truPage F.TRU_STATUS_SELECTED then some (fld s truPage F.TRU_STATUS_ENTRY) else none

/-- Whether the DPLL follows an entry: selected, and still naming the reference that was taken up. -/
def follows (s : State) (e : Nat) : Bool := decide (selectedEntry s = some e ∧ prioRef s e = s.tru.ref)

/-- The first entry of lowest rank in a list in index order. -/
def bestRank (s : State) : List Nat → Option Nat
  | [] => none
  | e :: l =>
    match bestRank s l with
    | none => some e
    | some f => if prioRank s f < prioRank s e then some f else some e

/-- The candidates of a rank that disagree with another of that rank (R301). -/
def disputers (s : State) (rank : Nat) : List Nat :=
  let l := (candidates s).filter (fun e => decide (prioRank s e = rank))
  l.filter (fun e => l.any (fun f =>
    decide (fld s truPage F.TRU_CFG_DISPUTE_PPB * 1000 < (entryOffset s e - entryOffset s f).natAbs)))

/-- The first entry of a list whose offset is closest to a value. -/
def closest (s : State) (x : Int) : List Nat → Option Nat
  | [] => none
  | e :: l =>
    match closest s x l with
    | none => some e
    | some f => if (entryOffset s f - x).natAbs < (entryOffset s e - x).natAbs then some f else some e

/-- The winner of a dispute at a rank, and whether there was no arbiter; no winner where nothing disagrees (R301). -/
def disputeWinner (s : State) (rank : Nat) : Option (Nat × Bool) :=
  let l := disputers s rank
  match l with
  | [] => none
  | e :: _ =>
    match bestRank s ((candidates s).filter (fun f => decide (f ∉ l))) with
    | some a => (closest s (entryOffset s a) l).map (fun w => (w, false))
    | none =>
      match selectedEntry s with
      | some x => some (if x ∈ l then x else e, true)
      | none => some (e, true)

/-- The best candidate of a list of candidates: lowest PRIO, the dispute's winner, lowest index (R300). -/
def bestCandidate (s : State) (l : List Nat) : Option Nat :=
  match bestRank s l with
  | none => none
  | some e =>
    match disputeWinner s (prioRank s e) with
    | some (w, _) => some w
    | none => some e

/-- S of R303: a phase difference in 2^-16 ns reduced to (-P/2, P/2] for a reference of `hz`. -/
def phaseStep (x : Int) (hz : Nat) : Int :=
  let second : Int := (secondUnits : Nat)
  let r := (x * hz) % second
  roundDiv (if second < 2 * r then r - second else r) hz

/-- The DPLL takes up an entry, with its phase step (R300, R303, R304). -/
def takeEntry (e : Nat) (phases : List Int) (s : State) : State :=
  let r := prioRef s e
  let x := phaseStep (phases.getD r 0) (refHz s r)
  let s := setFld truPage F.TRU_STATUS_SELECTED 1 (setFld truPage F.TRU_STATUS_ENTRY e s)
  let s := setFld truPage F.TRU_STATUS_STATE 1 s
  let s := countFld truPage F.TRU_STATUS_STEPS 1 s
  let s := setReg truPage R.TRU_STEP (BitVec.ofInt 64 x) s
  let t := devTime s
  let s := setReg truPage R.TRU_STEP_TIME (BitVec.ofNat 64 (timeNs t + timeSeconds t % 2 ^ 32 * 2 ^ 32)) s
  let s := { s with tru := { s.tru with steps := s.tru.steps ++ [t], ref := r, within := none } }
  setSticky truPage S.TRU_PHASE_STEP (setSticky truPage S.TRU_REF_SWITCH s)

/-- Usable samples of the span that GUARD_S and HIST_S name (R306). -/
def historySpan (s : State) : List Int :=
  ((s.tru.history.drop (fld s truPage F.TRU_CFG_GUARD_S)).take (fld s truPage F.TRU_CFG_HIST_S)).filterMap id

/-- The holdover estimate e(t) in ns, rounded down (R307). -/
def holdEstimate (s : State) (t : Nat) : Nat :=
  (fld s truPage F.TRU_HO_CFG_INIT_PPT * t * 172800 + fld s truPage F.TRU_HO_CFG_AGING_PPT * t * t) / 172800000

/-- Whether e(t) exceeds LIMIT_NS (R307). -/
def holdOver (s : State) (t : Nat) : Bool :=
  decide (fld s truPage F.TRU_HO_CFG_LIMIT_NS * 172800000 <
    fld s truPage F.TRU_HO_CFG_INIT_PPT * t * 172800 + fld s truPage F.TRU_HO_CFG_AGING_PPT * t * t)

/-- The holdover timer stands at `t` seconds (R307). -/
def holdTimer (t : Nat) (s : State) : State :=
  let above := holdOver s t
  let was := flag s truPage F.TRU_HO_STATUS_OVER
  let s := setReg truPage R.TRU_HO_STATUS (BitVec.ofNat 64
    (min t (2 ^ 32 - 1) + min (holdEstimate s t) (2 ^ 31 - 1) * 2 ^ 32 + (if above then 2 ^ 63 else 0))) s
  stickyIf (above && !was) truPage S.TRU_HO_LIMIT s

/-- HOLDOVER is entered (R306). -/
def enterHoldover (s : State) : State :=
  let l := historySpan s
  let valid := decide (16 ≤ l.length)
  let f := if valid then roundDiv l.sum l.length else 0
  let s := setReg truPage R.TRU_HO_FREQ (BitVec.ofNat 64 (ofSigned 32 f + l.length % 4096 * 2 ^ 32)) s
  let s := setFld truPage F.TRU_STATUS_HO_VALID (if valid then 1 else 0) s
  let s := setFld truPage F.TRU_STATUS_SELECTED 0 (setFld truPage F.TRU_STATUS_STATE 3 s)
  setSticky truPage S.TRU_HOLDOVER (setReg truPage R.TRU_HO_STATUS 0 s)

/-- The candidate that replaces the selected entry under REVERT (R300 rule 3). -/
def revertTo (s : State) (e : Nat) : Option Nat :=
  if flag s truPage F.TRU_CFG_REVERT then
    bestCandidate s ((candidates s).filter (fun f => decide (prioRank s f < prioRank s e ∧
      fld s truPage F.TRU_CFG_REVERT_S ≤ ntGet s.tru.candidate f)))
  else none

/-- The entry an evaluation selects; the selected one where it stays (R300, R301). -/
def chosenEntry (s : State) : Option Nat :=
  match selectedEntry s with
  | some e =>
    if isCandidate s e && follows s e then
      match revertTo s e with
      | some f => some f
      | none =>
        if e ∈ disputers s (prioRank s e) then ((disputeWinner s (prioRank s e)).map (·.1)) else some e
    else bestCandidate s (candidates s)
  | none => bestCandidate s (candidates s)

/-- The rank a dispute is looked for at (R301). -/
def disputeRank (s : State) : Option Nat :=
  match selectedEntry s with
  | some e => if isCandidate s e && follows s e then some (prioRank s e) else (bestRank s (candidates s)).map (prioRank s)
  | none => (bestRank s (candidates s)).map (prioRank s)

/-- A disagreement without an arbiter is reported (R301). -/
def noteDispute (s : State) : State :=
  let d := match disputeRank s with
    | some k => ((disputeWinner s k).map (·.2)).getD false
    | none => false
  let s := setFld truPage F.TRU_STATUS_DISPUTE (if d then 1 else 0) s
  stickyIf d truPage S.TRU_REF_DISPUTE s

/-- Selection is evaluated, with at most one switch (R300 to R303, R306); not while the page is disabled or XO_IN is lost. -/
def evalSelection (phases : List Int) (s : State) : State :=
  if !flag s truPage F.PAGE_CTRL_ENABLE || flag s truPage F.TRU_STATUS_XO_LOST then s
  else
    let e := chosenEntry s
    let s := noteDispute s
    match e with
    | some e => if follows s e && decide (fld s truPage F.TRU_STATUS_STATE ≠ 3) then s else takeEntry e phases s
    | none =>
      let st := fld s truPage F.TRU_STATUS_STATE
      if st = 1 ∨ st = 2 then enterHoldover s else s

/-- Seconds in a row that each entry has been a candidate (R300 rule 3). -/
def countCandidates (s : State) : State :=
  let c := (List.range 8).foldl (fun t e => ntSet t e (if isCandidate s e then ntGet s.tru.candidate e + 1 else 0)) []
  { s with tru := { s.tru with candidate := c } }

/-- MONITOR_UPDATE (R297 to R301, R307): one second counted on XO_IN, and so none while it is absent (R310). -/
def execMonitorUpdate (offs : List Int) (los : List Bool) (phases : List Int) (s : State) : Result :=
  if pageGated s truPage ∨ flag s truPage F.TRU_STATUS_XO_LOST = true then .next s
  else
    let s := (List.range 12).foldl (fun s r => refUpdate r (offs.getD r 0) (los.getD r true) s) s
    let s := countCandidates s
    let s := if fld s truPage F.TRU_STATUS_STATE = 3 then holdTimer (fld s truPage F.TRU_HO_STATUS_ELAPSED_S + 1) s else s
    .next (evalSelection phases s)

/-- LOS (R297, R298, R300): a reference loses its signal; selection is evaluated at once for the selected one. A PPS, recovered or
PTP reference is lost by what the device itself knows of it. -/
def execLos (ref : Nat) (phases : List Int) (s : State) : Result :=
  if pageGated s truPage ∨ 12 ≤ ref ∨ refLost s ref true = false then .next s
  else
    let mine := (selectedEntry s).isSome && decide (s.tru.ref = ref)
    let s := refDisqualify ref (setFld truPage (F.TRU_REF_STATUS_LOS.at ref) 1 s)
    .next (if mine then evalSelection phases s else s)

/-! ## The DPLL and holdover (R302, R306, R307) -/

/-- The phase error stands at `err` ps; since when it has stayed within 1 ns is kept. -/
def setPhaseErr (err : Int) (s : State) : State :=
  let since := if err.natAbs ≤ 1000 then some (s.tru.within.getD s.mono) else none
  setFld truPage F.TRU_STATUS_PHASE_ERR (ofSigned 32 err) { s with tru := { s.tru with within := since } }

/-- 10 / BW seconds; PPS and PTP references use 0.1 Hz (R302). -/
def lockTime (s : State) : Nat :=
  if s.tru.ref ≤ 3 ∨ (6 ≤ s.tru.ref ∧ s.tru.ref ≤ 9) then secondUnits * 100 / fld s truPage F.TRU_CFG_BW
  else secondUnits * 100

/-- DPLL_LOCK (R302): the phase error has stayed within 1 ns for 10 / BW seconds. -/
def execDpllLock (err : Int) (s : State) : Result :=
  if pageGated s truPage ∨ fld s truPage F.TRU_STATUS_STATE ≠ 1 ∨ 1000 < err.natAbs then .next s
  else
    let s := setPhaseErr err s
    .next (setFld truPage F.TRU_STATUS_STATE 2 (advanceMono (s.tru.within.getD s.mono + lockTime s) s))

/-- PHASE_ERR (R302). -/
def execPhaseErr (err : Int) (s : State) : Result :=
  if pageGated s truPage then .next s
  else
    let s := setPhaseErr err s
    .next (if fld s truPage F.TRU_STATUS_STATE = 2 ∧ 10000 < err.natAbs then setFld truPage F.TRU_STATUS_STATE 1 s else s)

/-- HISTORY_SAMPLE (R306). -/
def execHistorySample (freq : Int) (s : State) : Result :=
  if pageGated s truPage ∨ flag s truPage F.TRU_STATUS_XO_LOST = true then .next s
  else
    let x := if fld s truPage F.TRU_STATUS_STATE = 2 then some freq else none
    .next { s with tru := { s.tru with history := (x :: s.tru.history).take 4200 } }

/-- HO_LIMIT (R307): `t` seconds have been spent in HOLDOVER. -/
def execHoLimit (t : Nat) (s : State) : Result :=
  if pageGated s truPage ∨ fld s truPage F.TRU_STATUS_STATE ≠ 3 ∨ t < fld s truPage F.TRU_HO_STATUS_ELAPSED_S then .next s
  else .next (holdTimer t s)

/-! ## The local oscillator (R310) -/

/-- The DPLL is in FREERUN with nothing selected. -/
def freeRun (s : State) : State :=
  setFld truPage F.TRU_STATUS_STATE 0 (setFld truPage F.TRU_STATUS_SELECTED 0 s)

/-- XO_LOST (R310). -/
def execXoLost (s : State) : Result :=
  if pageGated s truPage then .next s
  else
    let s := setSticky truPage S.TRU_XO_LOST (setFld truPage F.TRU_STATUS_XO_LOST 1 (freeRun s))
    .next (refreshPins { s with tru := { s.tru with history := [] } })

/-- XO_RETURN (R310): XO_IN has been present for 1 s. -/
def execXoReturn (phases : List Int) (s : State) : Result :=
  if pageGated s truPage ∨ flag s truPage F.TRU_STATUS_XO_LOST = false then .next s
  else .next (refreshPins (evalSelection phases (setFld truPage F.TRU_STATUS_XO_LOST 0 s)))

/-! ## Outputs (R308, R309) -/

/-- A write of TRU_CLKOUT[n] (R308). -/
def writeTruClkout (n : Nat) (v : Word) (s : State) : State :=
  if flag s truPage (F.TRU_CLKOUT_EN.at n) ∧ fieldOf v 8 20 ≠ fld s truPage (F.TRU_CLKOUT_FREQ_KHZ.at n) then
    refuseCfg truPage s
  else refreshPins (storePlain truPage (R.TRU_CLKOUT + 8 * n) v s)

/-- TRU_CLKOUT (R308). -/
def execTruClkout (m n : Nat) (v : Word) (s : State) : Result :=
  .next (guardedWrite m truPage (R.TRU_CLKOUT + 8 * n) v (writeTruClkout n v) s)

/-- PPS_OUT (R309): the next whole second of device time; what leaves is the time of the rise and of the fall. -/
def execPpsOut (s : State) : Result :=
  if pageGated s truPage || !flag s truPage F.TRU_PPS_OUT_EN || !timeValid s then .next s
  else
    let t := (timeSeconds (devTime s) + 1) * secondUnits
    .next (send .ppsOut 0 [t, t + fld s truPage F.TRU_PPS_OUT_WIDTH_US * usUnits] (advanceTo t s))

/-! ## Registers (R298, R299, R302, R310) -/

/-- A write of TRU_PRIO[e] (R296, R299). -/
def writeTruPrio (e : Nat) (v : Word) (s : State) : State :=
  let r := fieldOf v 0 4
  if 11 < r ∨ (List.range 8).any (fun f => decide (f ≠ e ∧ prioRef s f = r) && flag s truPage (F.TRU_PRIO_EN.at f)) = true then
    refuseCfg truPage s
  else storePlain truPage (R.TRU_PRIO + 8 * e) v s

/-- A write of TRU_REF_CFG[r] (R298). -/
def writeTruRefCfg (r : Nat) (v : Word) (s : State) : State :=
  if fieldOf v 20 20 < fieldOf v 0 20 ∨ 100000 < fieldOf v 20 20 ∨ (r ≤ 3 ∧ 5 < fieldOf v 56 3) then refuseCfg truPage s
  else storePlain truPage (R.TRU_REF_CFG + 8 * r) v s

/-- ENABLE of the page is written: at 0 the DPLL stays in FREERUN (R302). -/
def truEnable (on : Bool) (s : State) : State := if on then s else freeRun s

/-- The page's soft reset beside its registers (R310): the history is empty, and every CLKOUT is off. -/
def resetTru (s : State) : State :=
  refreshPins { s with tru := { steps := s.tru.steps } }

end Sys2Proof.Machine
end

