-- ==== Sys2Proof/Machine/Zhok.lean ====
section
/-! DEFINITION. The Zhok links (R250 to R271; 11_gangs.md): lanes and groups, link frames with go-back-N, rate steps, packets
that arrive, and shared outputs. -/

namespace Sys2Proof.Machine

/-! ## Lanes and groups (R254, R255, R258) -/

/-- Lane `l` of link `z`. -/
def laneOf (z l : Nat) : Nat := 8 * z + l

/-- The lanes of a link; those of one group. -/
def linkLanes (z : Nat) : List Nat := (List.range 8).map (laneOf z)
def groupLanes (z g : Nat) : List Nat := (List.range 4).map (fun k => laneOf z (4 * g + k))

/-- Whether a group holds a retired lane. -/
def groupRetired (s : State) (z g : Nat) : Bool := (groupLanes z g).any (fun n => decide ((zhkLane s n).st = .retired))

/-- The lanes a link uses: all, or one group at half width. -/
def usedLanes (s : State) (z : Nat) : List Nat :=
  let l := zhkLink s z
  if l.half then groupLanes z l.group else linkLanes z

/-- Whether every lane a link uses is in RUN. -/
def linkReady (s : State) (z : Nat) : Bool :=
  pageLive s (zhkPage z) && (usedLanes s z).all (fun n => decide ((zhkLane s n).st = .run))

/-- The lanes that carry link frames, in order of logical lane (R255). -/
def frameLanes (s : State) (z : Nat) : List Nat :=
  sortBy (fun a b => decide ((zhkLane s a).txLane ≤ (zhkLane s b).txLane)) (usedLanes s z)

/-- STATE of ZHK_STATUS. -/
def linkState (s : State) (z : Nat) : Nat :=
  let l := zhkLink s z
  if pageRetired s (zhkPage z) then 5
  else if l.up then (if l.step.isSome then 4 else if l.half then 3 else 2)
  else if (linkLanes z).any (fun n => decide ((zhkLane s n).st ≠ .down ∧ (zhkLane s n).st ≠ .retired)) then 1
  else 0

/-- ZHK_STATUS of a link, but for its use fields. -/
def linkStatus (z : Nat) (s : State) : State :=
  let p := zhkPage z
  let l := zhkLink s z
  let peer := (((linkLanes z).find? (fun n => (zhkLane s n).learned)).map (fun n => (zhkLane s n).peerId % 8)).getD 0
  let ret := ((List.range 8).map (fun k => if (zhkLane s (laneOf z k)).st = .retired then 2 ^ k else 0)).sum
  let s := setFld p F.ZHK_STATUS_STATE (linkState s z) s
  let s := setFld p F.ZHK_STATUS_LANES (if l.up then (if l.half then 4 else 8) else 0) s
  let s := setFld p F.ZHK_STATUS_PEER_MEMBER peer (setFld p F.ZHK_STATUS_ROLE (linkRole s z) s)
  setFld p F.ZHK_STATUS_RETIRED_LANES ret s


/-- A link has come up or left service: where device time may follow a gang peer, its source is selected anew (R278, R279). -/
def zhokSource (s : State) : State :=
  let f := fun (r : FieldRef) => decide (fld s tbsPage r = 5)
  if f F.TBS_CFG_SOURCE || f F.TBS_CFG_BACKUP || f F.TBS_STATUS_ACTIVE then selectSource s else s

/-- After a change of lanes: the link comes up or leaves service, and packets look for routes again (R252, LINK_DOWN). -/
def linkRefresh (z : Nat) (s : State) : State :=
  let l := zhkLink s z
  let ready := linkReady s z
  if ready && !l.up then
    zhokSource (zhkRetry (sendTable (linkStatus z
      (setZhkLink z { l with up := true, ackAt := s.mono, resends := 0, lowSince := s.mono } s))))
  else if l.up && !ready then
    zhokSource (linkStatus z (setSticky (zhkPage z) S.ZHK_LINK_DOWN (setZhkLink z { l with up := false } s)))
  else linkStatus z s

/-- What a lost packet leaves behind: a buffer is free all the same (R265, R266). -/
def packetGone (k : ZhkPacket) (s : State) : State :=
  match k.note with
  | .partials d ctx n => partialsGone d ctx n s
  | _ => s

/-- A link goes DOWN: what it had not begun to send looks for another route, what it kept is lost, and its sequence starts
again when it next comes up. Packets received whole stay. -/
def linkDown (z : Nat) (s : State) : State :=
  let l := zhkLink s z
  let s := (linkLanes z).foldl (fun s n =>
    let x := zhkLane s n
    if x.st = .retired then s else setZhkLane n { x with st := .down, learned := false } s) s
  let s := setZhkLink z { half := l.half, group := l.group, attributed := l.attributed, rxBuf := l.rxBuf } s
  let s := stickyIf l.up (zhkPage z) S.ZHK_LINK_DOWN s
  let lost := (l.kept.flatMap (fun f => f.ends)) ++ (l.part.map (fun p => p.1)).toList
  let s := lost.foldl (fun s k => packetGone k s) s
  let s := { s with zhk := { s.zhk with held := s.zhk.held ++ l.waiting.map (fun k => (k, s.mono)) } }
  zhokSource (linkStatus z (zhkRetry s))

/-- Full training of the lanes a link may use (R101); on half width where a group is retired (R258). -/
def linkTrain (z : Nat) (s : State) : State :=
  let lanes := if groupRetired s z 0 then groupLanes z 1 else if groupRetired s z 1 then groupLanes z 0 else linkLanes z
  let l := zhkLink s z
  let s := setZhkLink z { l with half := groupRetired s z 0 || groupRetired s z 1, group := if groupRetired s z 0 then 1 else 0 } s
  linkStatus z (lanes.foldl (fun s n => setZhkLane n (trainFull 2 2 (zhkLane s n)) s) s)

/-- ENABLE of a ZHK page changes (R71, R250): an unused link stays down. -/
def zhkEnable (z : Nat) (on : Bool) (s : State) : State :=
  if !on then linkDown z s
  else if pageRetired s (zhkPage z) || decide (gangSize s = 8 ∧ z = 3) then linkStatus z s
  else sharedRefresh (linkTrain z s)

/-! ## Retry (R258) -/

/-- Retrains attributed to a lane of a link within the window. -/
def laneRetrains (s : State) (z l : Nat) : Nat :=
  let w := fieldOf (reg s (zhkPage z) R.RETRY_CFG) 0 32 * 1000 * usUnits
  ((zhkLink s z).attributed.filter (fun x => decide (x.1 = l ∧ devTime s < x.2 + w))).length

/-- A read of ZHK_LANE_CNT. -/
def readLaneCnt (s : State) (z l : Nat) : Word :=
  withField (reg s (zhkPage z) (R.ZHK_LANE_CNT + 8 * l)) 0 16 (min 65535 (laneRetrains s z l))

/-- The lane with the most attributed retrains among those not retired, the lower on a tie. -/
def worstLane (s : State) (z : Nat) : Nat :=
  ((List.range 8).filter (fun l => decide ((zhkLane s (laneOf z l)).st ≠ .retired))).foldl (fun b l =>
    if laneRetrains s z b < laneRetrains s z l ∨ (zhkLane s (laneOf z b)).st = .retired then l else b) 0

/-- The other group takes over after a retirement: from a quiet state it trains first. -/
def useGroup (z g : Nat) (s : State) : State :=
  let l := zhkLink s z
  let quiet := l.half && decide (l.group ≠ g)
  let s := setZhkLink z { l with half := true, group := g, step := none } s
  let s := (groupLanes z (1 - g)).foldl (fun s n =>
    let x := zhkLane s n
    if x.st = .retired then s else setZhkLane n { x with st := .down } s) s
  let s := if quiet then (groupLanes z g).foldl (fun s n => setZhkLane n (trainFast (zhkLane s n)) s) s else s
  linkRefresh z s

/-- A lane is retired (R258): its group leaves, or the link with both. -/
def retireZhkLane (z l : Nat) (s : State) : State :=
  let p := zhkPage z
  let n := laneOf z l
  let s := setSticky p S.ZHK_LANE_RETIRED (rlAdd 3 n (setZhkLane n { zhkLane s n with st := .retired } s))
  let s := { setReg p R.RETRY_COUNT 0 s with retry := alSet [] s.retry p [] }
  let g := l / 4
  if groupRetired s z (1 - g) then linkDown z (setFld p F.PAGE_STATUS_RETIRED 1 s) else useGroup z (1 - g) s

/-- A fast retrain counts toward retry, attributed to lanes (R258). -/
def zhkAttribute (z : Nat) (lanes : List Nat) (s : State) : State :=
  let l := zhkLink s z
  let s := setZhkLink z { l with attributed := l.attributed ++ lanes.map (fun k => (k, devTime s)) } s
  let r := countRetry (zhkPage z) s
  if r.2 then retireZhkLane z (worstLane r.1 z) r.1 else r.1

/-- A fast retrain of lanes of a link (R102, R257): `lost`: the lanes within the link that lost lock. -/
def zhkRetrain (z : Nat) (lanes lost : List Nat) (s : State) : State :=
  let p := zhkPage z
  let s := countK p R.ZHK_CNT 5 1 (setSticky p S.ZHK_RETRAIN s)
  let s := lanes.foldl (fun s n => setZhkLane n (trainFast (zhkLane s n)) s) s
  zhkAttribute z lost (linkRefresh z s)

/-! ## Lane training (R101, R251, R254) -/

/-- How the identity in a frame is judged for a Zhok lane: member and link by the wiring, then eight lanes of one peer with
logical lanes 0 to 7 (R97, R251, R254). -/
def zhkIdent (s : State) (n : Nat) (f : RxFrame) : Nat :=
  let z := n / 8
  if wiredTo (gangSize s) (gangMember s) z ≠ some (rxPeerId f % 8) ∨ natField (rxTxLane f) 3 2 ≠ z then 2
  else
    let used := (usedLanes s z).filter (fun k => decide (k ≠ n))
    let others := used.map (zhkLane s)
    if others.any (fun o => !o.learned) then 3
    else
      let lanes := rxTxLane f % 8 :: others.map (fun o => o.txLane)
      if others.any (fun o => decide (o.peerId ≠ rxPeerId f)) || !decide (lanes.Nodup) then 3 else 0

/-- What a Zhok link asks of training: S2, and of two members the higher-numbered one answers steps. -/
def zhkEnv (s : State) (n : Nat) (f : RxFrame) : TrainEnv :=
  { maxRate := 2, forcePol := none, ident := zhkIdent s n f, logicalMask := 7,
    answers := match wiredTo (gangSize s) (gangMember s) (n / 8) with
      | some m => decide (m < gangMember s)
      | none => false,
    now := s.mono }

/-- Full training of one Zhok lane. -/
def zhkTrain (n : Nat) (s : State) : State :=
  let l := zhkLane s n
  linkRefresh (n / 8) (setZhkLane n (trainFull 2 l.rateCap l) s)

/-- What training reports to the page of a Zhok lane. -/
def zhkNote (n : Nat) (s : State) (x : TrainNote) : State :=
  match x with
  | .orderFail => setSticky (zhkPage (n / 8)) S.ZHK_WIRING s
  | .enterRun => linkRefresh (n / 8) s
  | .fullTraining => zhkTrain n s
  | _ => s

/-- A rate cap below S2 keeps the link down (R254). -/
def zhkCapCheck (n : Nat) (s : State) : State :=
  if (zhkLane s n).rateCap < 2 then linkDown (n / 8) (setSticky (zhkPage (n / 8)) S.ZHK_STEP_FAIL s) else linkStatus (n / 8) s

/-- The lane's own TRAIN frame leaves (R254): lane and link, member and package serial. -/
def zhkSendTrain (n : Nat) (s : State) : State :=
  let l := zhkLane s n
  let id := gangMember s + natField (pkgSerial s) 0 24 * 2 ^ 8
  let data := sentTrain (n % 8 + 8 * (n / 8)) id 7 l
  let s := laneSendFrame .zhkTrain .zhkLevels n 2 data l s
  setZhkLane n (afterSend s.mono l.txFseq (frameSent 2 data l)) s

/-- A TRAIN frame on a Zhok lane. In RUN it may be the peer's retrain. -/
def zhkTrainFrame (n : Nat) (f : RxFrame) (inv : Bool) (eq : EqInput) (s : State) : State :=
  let z := n / 8
  if !pageLive s (zhkPage z) then s
  else
    let l := zhkLane s n
    match l.st with
    | .down | .retired => s
    | .run => if !peerRetrains f then s else zhkSendTrain n (zhkRetrain z [n] [] s)
    | _ =>
      let s := if f.fec = 2 then
          countFld (zhkPage z) (F.ZHK_LANE_CNT_UNCORR.at (n % 8)) 1
            (countK (zhkPage z) R.ZHK_CNT 4 1 (setSticky (zhkPage z) S.ZHK_UNCORR s))
        else s
      let r := trainRx (zhkEnv s n f) f inv eq l
      let s := r.2.foldl (zhkNote n) (setZhkLane n r.1 s)
      let s := if (zhkLane s n).st = .run then s else zhkSendTrain n s
      zhkCapCheck n s

/-! ## Sending link frames (R255 to R257) -/

/-- Header and payload of a packet (R256). -/
def packetBytes (k : ZhkPacket) : List Byte :=
  leBytes 1 k.kind ++ leBytes 1 (k.dest + 8 * k.src + (if k.detour then 64 else 0)) ++ leBytes 2 k.payload.length
    ++ leBytes 4 k.flow ++ leBytes 8 k.addr ++ k.payload

/-- The packet that goes next: of the highest class not held, the oldest (R256). -/
def nextPacket (l : ZhkLink) : Option ZhkPacket :=
  l.waiting.foldl (fun a k =>
    if l.xoff.testBit (zhkClass k.kind) then a
    else match a with
      | none => some k
      | some b => if zhkClass k.kind < zhkClass b.kind then some k else a) none

/-- The payload of the next frame, `cap` bytes at most, and the packets that end in it; `n` packets at most. -/
def fillFrame : Nat → Nat → ZhkLink → List Byte × List ZhkPacket × ZhkLink
  | 0, _, l => ([], [], l)
  | n + 1, cap, l =>
    if cap = 0 then ([], [], l)
    else
      let start := match l.part with
        | some p => some (p, l)
        | none =>
          match nextPacket l with
          | none => none
          | some k => some ((k, packetBytes k), { l with waiting := removeFirst (fun x => decide (x = k)) l.waiting })
      match start with
      | none => ([], [], l)
      | some ((k, b), l) =>
        if cap < b.length then (b.take cap, [], { l with part := some (k, b.drop cap) })
        else
          let r := fillFrame n (cap - b.length) { l with part := none }
          (b ++ r.1, k :: r.2.1, r.2.2)

/-- TX_USE: bytes of the last whole millisecond in 1/256 of 800 Gb/s (R255). -/
def txUse (bytes : Nat) : Nat := min 255 (bytes * 256 / 100000000)

/-- A use that reaches DOWN_THRESH begins the wait for a step down anew (R259). -/
def noteUse (z use : Nat) (s : State) : State :=
  if use < fld s (zhkPage z) F.ZHK_CFG_DOWN_THRESH then s else setZhkLink z { zhkLink s z with lowSince := s.mono } s

/-- Bytes sent enter the use window; a window that ends gives TX_USE. -/
def countUse (z bytes : Nat) (s : State) : State :=
  let l := zhkLink s z
  if l.winStart + msUnits ≤ s.mono then
    let last := txUse l.winBytes
    let use := if l.winStart + 2 * msUnits ≤ s.mono then 0 else last
    let s := setZhkLink z { l with winStart := s.mono, winBytes := bytes } s
    noteUse z last (setFld (zhkPage z) F.ZHK_STATUS_TX_USE use s)
  else setZhkLink z { l with winBytes := l.winBytes + bytes } s

/-- FLAGS of the next frame (R255). -/
def frameFlags (s : State) (l : ZhkLink) : Nat :=
  let step := match l.step with
    | some x => (if x.mine then (if x.acked then 0 else 2) else (if x.acked then 4 else 0)) + (if x.up then 8 else 0)
    | none => 0
  (if l.nak then 1 else 0) + step + (if timeValid s then 16 else 0)

/-- Bytes a link holds of one class, of the packets that came on a detour or of the others. -/
def bufferedBytes (l : ZhkLink) (c : Nat) (detour : Bool) : Nat :=
  ((l.rxBuf.filter (fun k => decide (zhkClass k.kind = c ∧ k.detour = detour))).map (fun k => 16 + k.payload.length)).sum

/-- Whether a receive buffer is full: an empty one never is (R252, R257; log entry 90). -/
def bufferFull (n : Nat) : Bool := if n = 0 then false else decide (Config.zhkBuffer ≤ n)

/-- XOFF: the classes whose ordinary or detour buffer is full (R252, R257). -/
def xoffBits (l : ZhkLink) : Nat :=
  ((List.range 4).map (fun c =>
    if bufferFull (bufferedBytes l c false) || bufferFull (bufferedBytes l c true) then 2 ^ c else 0)).sum

/-- The bytes of a link frame (R255): header, payload with its fill words, CRC. -/
def linkFrameBytes (s : State) (z : Nat) (f : ZhkFrame) : List Byte :=
  let l := zhkLink s z
  let sw := match l.step with
    | some x => x.switch % 256
    | none => 0
  let b := leBytes 2 f.seq ++ leBytes 2 l.rxSeq ++
    [frameFlags s l, fld s (zhkPage z) F.ZHK_STATUS_TX_USE, xoffBits l, sw].map (BitVec.ofNat 8) ++ leBytes 8 (devTime s)
    ++ f.payload
  b ++ leBytes 4 (crc32 b)

/-- One codeword of a link frame leaves on a lane, with the frame's FSEQ: the levels it is sent as (R90 to R93, R255). KIND is
DATA (DESIGN CHOICE, log entry 90). -/
def sendCodeword (n fseq : Nat) (data : List Byte) (s : State) : State :=
  let l := { zhkLane s n with txFseq := fseq % 256 }
  setZhkLane n (frameSent 0 data l) (send .zhkLevels n (frameLevels l.scr l.pre (sentCtrl 0 l) data).1 s)

/-- A frame leaves: as bytes, and lane by lane in order of logical lane (R255). A frame kept from full width and sent again at
half width takes two codewords of each lane (DESIGN CHOICE, log entry 90). -/
def emitFrame (z : Nat) (f : ZhkFrame) (s : State) : State :=
  let b := linkFrameBytes s z f
  let lanes := frameLanes s z
  let fseq := (zhkLane s (lanes.headD 0)).txFseq
  (List.range (b.length / 640)).foldl (fun s i =>
    match lanes[i % lanes.length]? with
    | some n => sendCodeword n (fseq + i / lanes.length) ((b.drop (640 * i)).take 640) s
    | none => s) (send .zhkFrame z (b.map (fun x => x.toNat)) s)

/-- Whether every lane of group 1 is in RUN, as a step up needs (R260). -/
def quietReady (s : State) (z : Nat) : Bool := (groupLanes z 1).all (fun n => decide ((zhkLane s n).st = .run))

/-- A step takes effect at its switch (R259, R260). -/
def applyStep (z : Nat) (x : ZhkStep) (s : State) : State :=
  let l := zhkLink s z
  let p := zhkPage z
  if x.up then
    linkRefresh z (countK p R.ZHK_CNT 7 1 (setZhkLink z { l with half := false, group := 0, step := none, lowSince := s.mono } s))
  else
    let s := setZhkLink z { l with half := true, group := 0, step := none } s
    let s := (groupLanes z 1).foldl (fun s n => setZhkLane n { zhkLane s n with st := .down } s) s
    linkRefresh z (countK p R.ZHK_CNT 6 1 s)

/-- After the frame of SEQ `seq`: a step that is agreed takes effect, one that is not is proposed again 64 frames on. -/
def stepAfter (z seq : Nat) (s : State) : State :=
  let l := zhkLink s z
  match l.step with
  | none => s
  | some x =>
    if seq % 256 ≠ x.switch % 256 then s
    else if x.acked && (!x.up || quietReady s z) then applyStep z x s
    else if x.mine then setZhkLink z { l with step := some { x with switch := (seq + 65) % 65536, acked := false } } s
    else s

/-- One link frame is sent, unless 512 wait for their acknowledgement (R255, R257). -/
def sendFrame (z : Nat) (s : State) : State :=
  let l := zhkLink s z
  if !l.up || decide (512 ≤ l.kept.length) then s
  else
    let cap := 640 * (usedLanes s z).length - 20
    let r := fillFrame (cap / 20 + 1) cap l
    let f : ZhkFrame := ⟨l.txSeq, r.1 ++ List.replicate (cap - r.1.length) 0xFF, r.2.1⟩
    let p := zhkPage z
    let n := l.oddBytes + r.1.length
    let s := countK p R.ZHK_CNT 9 (n / 64) (countK p R.ZHK_CNT 0 1 (if l.nak then countK p R.ZHK_CNT 3 1 s else s))
    let s := emitFrame z f s
    let x := { r.2.2 with oddBytes := n % 64, txSeq := (l.txSeq + 1) % 65536, nak := false, kept := l.kept ++ [f] }
    let s := setZhkLink z (if l.kept.isEmpty then { x with ackAt := s.mono } else x) s
    stepAfter z f.seq (countUse z r.1.length s)

/-! ## Receiving link frames (R257, R259, R260, R268) -/

/-- What the acknowledgement of a packet completes. -/
def packetAcked (s : State) (k : ZhkPacket) : State :=
  match k.note with
  | .none => s
  | .partials d ctx n => partialsGone d ctx n s
  | .drained ch => recordAcked ch s

/-- ACK: frames before it are done with, and an ordered flow may change its route (R253, R257). -/
def takeAck (z ack : Nat) (s : State) : State :=
  let l := zhkLink s z
  match l.kept.head? with
  | none => s
  | some f =>
    let n := (ack + 65536 - f.seq) % 65536
    if n = 0 ∨ l.kept.length < n then s
    else
      let s := setZhkLink z { l with kept := l.kept.drop n, resends := 0, ackAt := s.mono } s
      zhkRetry (((l.kept.take n).flatMap (fun f => f.ends)).foldl packetAcked s)

/-- Everything from ACK on is sent again; at the eighth time the link retrains (R257). -/
def resend (z : Nat) (s : State) : State :=
  let l := zhkLink s z
  if l.kept.isEmpty then s
  else
    let p := zhkPage z
    let s := countK p R.ZHK_CNT 2 l.kept.length (setSticky p S.ZHK_REPLAY s)
    let s := l.kept.foldl (fun s f => emitFrame z f s) s
    let s := setZhkLink z { zhkLink s z with resends := l.resends + 1 } s
    if 8 ≤ l.resends + 1 then zhkRetrain z (usedLanes s z) [] (setZhkLink z { zhkLink s z with resends := 0 } s) else s

/-- Whether a link is the spare of a 4-gang, which stays at half width while links 0 to 2 are up (R260). -/
def spareHeld (s : State) (z : Nat) : Bool := decide (gangSize s = 4 ∧ z = 3) && linkUp s 0 && linkUp s 1 && linkUp s 2

/-- The step flags of a received frame (R259, R260). -/
def takeStep (z flags switch : Nat) (s : State) : State :=
  let l := zhkLink s z
  let up := flags.testBit 3
  if flags.testBit 1 then
    if up then
      if !l.half || groupRetired s z 0 || groupRetired s z 1 || spareHeld s z then s
      else
        let quiet := (groupLanes z 1).any (fun n => decide ((zhkLane s n).st = .down))
        let s := if quiet && l.step.isNone then
            (groupLanes z 1).foldl (fun s n => setZhkLane n (trainFast (zhkLane s n)) s) s else s
        linkStatus z (setZhkLink z { zhkLink s z with step := some ⟨true, false, switch, quietReady s z⟩ } s)
    else if l.half || !flag s (zhkPage z) F.ZHK_CFG_STEP_EN then s
    else linkStatus z (setZhkLink z { l with step := some ⟨false, false, switch, true⟩ } s)
  else if flags.testBit 2 then
    match l.step with
    | some x => if x.mine && decide (x.up = up ∧ x.switch % 256 = switch) then setZhkLink z { l with step := some { x with acked := true } } s
                else s
    | none => s
  else s

/-- The peer's device-time offset (R268): TX_TIME against the device time at which the frame arrives, corrected by
ZHK_ASYM. -/
def takeTime (z txTime : Nat) (s : State) : State :=
  let p := zhkPage z
  let off := toSigned 64 (ofSigned 64 ((txTime : Int) - (devTime s : Int) + toSigned 32 (fld s p F.ZHK_ASYM_ASYM)))
  let s := setReg p R.ZHK_PEER_OFFSET (BitVec.ofInt 64 off) s
  let tol := fld s 0x320 F.ZHK_GANG_TIME_TOL
  let d := evalDetector 0x320 S.ZHK_TIME_SPLIT (decide (tol ≠ 0 ∧ tol < off.natAbs)) s
  let s := stickyIf d.1 0x320 S.ZHK_TIME_SPLIT d.2
  if wiredTo (gangSize s) (gangMember s) z = some 0 ∨ (zhkRoute s 4 0).map (·.1) = some z then
    sourceMeasured 5 { s with tbs := { s.tbs with zhokLink := z + 1, zhokAt := s.mono } }
  else s

/-- A member's table arrives; member 0 judges it and passes it on (R261). -/
def takeTable (t : GangTable) (s : State) : State :=
  let l := s.zhk.tables.filter (fun x => decide (x.member ≠ t.member))
  let s := judgeTables { s with zhk := { s.zhk with tables := l ++ [t] } }
  if gangMember s = 0 then
    ((otherMembers s).filter (fun m => decide (m ≠ t.member))).foldl (fun s m => send .zhkTable m (tableNats t) s) s
  else s

/-- A codeword of a lane of a link: whether it is uncorrectable, whether the lane has lost lock by it, the state (R102). -/
def zhkWord (z n : Nat) (w : LaneWord) (s : State) : Bool × Bool × State :=
  let x := zhkLane s n
  let p := zhkPage z
  let d := evalDetector p S.ZHK_UNCORR (decide (w.fec = 2)) s
  if d.1 then
    let s := countK p R.ZHK_CNT 4 1 (setSticky p S.ZHK_UNCORR d.2)
    let s := countFld p (F.ZHK_LANE_CNT_UNCORR.at (n % 8)) 1 s
    (true, decide (4 ≤ x.bad + 1), setZhkLane n { x with bad := x.bad + 1 } s)
  else
    let f := x.frameNo + (w.fseq + 256 - x.frameNo % 256) % 256
    (false, false, setZhkLane n { x with bad := 0, frameNo := f } d.2)

/-- The codewords of a link frame, lane by lane: whether all were correctable, the lanes that lost lock, the state. -/
def zhkWords (z : Nat) : List (Nat × LaneWord) → State → Bool × List Nat × State
  | [], s => (true, [], s)
  | (n, w) :: l, s =>
    let r := zhkWord z n w s
    let q := zhkWords z l r.2.2
    (!r.1 && q.1, if r.2.1 then n :: q.2.1 else q.2.1, q.2.2)

/-- Lanes more than 32 frames behind the lowest logical lane, or it where it lags (R104, R255). -/
def skewedLanes (s : State) (z : Nat) : List Nat :=
  match frameLanes s z with
  | [] => []
  | b :: l =>
    let d := fun n => skewOf (zhkLane s n).frameNo (zhkLane s b).frameNo
    l.filter (fun n => decide (d n < -32)) ++ (if l.any (fun n => decide (32 < d n)) then [b] else [])

/-- Whether codewords and bytes make a link frame of `n` lanes: one codeword of each, one FSEQ, START_PTR 255 (R255). -/
def frameFits (n : Nat) (words : List LaneWord) (data : List Byte) : Bool :=
  decide (words.length = n ∧ data.length = 640 * n) &&
    words.all (fun w => decide (w.startPtr = 255 ∧ some w.fseq = words.head?.map (·.fseq)))

/-- Whether a received link frame is good: its form, its codewords, its SEQ and its CRC (R255, R257). -/
def frameGood (s : State) (z : Nat) (clean : Bool) (words : List LaneWord) (data : List Byte) : Bool :=
  let n := data.length
  clean && frameFits (usedLanes s z).length words data && decide (bytesAt data 0 2 = (zhkLink s z).rxSeq) &&
    decide (crc32 (data.take (n - 4)) = bytesAt data (n - 4) 4)

/-- The packet a header and its payload spell (R256). -/
def packetAt (l : List Byte) : ZhkPacket :=
  let r := byteAt l 1
  ⟨byteAt l 0, r % 8, r / 8 % 8, r.testBit 6, bytesAt l 4 4, bytesAt l 8 8, (l.drop 16).take (bytesAt l 2 2), .none⟩

/-- The packets of a payload and the bytes of one that goes on (R256), over at most `n` boundaries: fill words pass, a packet of
another KIND is refused whole, and a header whose LEN is out of its range ends the payload (DESIGN CHOICE, log entry 90). -/
def parsePackets : Nat → List Byte → List ZhkPacket × List Byte
  | 0, l => ([], l)
  | n + 1, l =>
    if l.isEmpty then ([], [])
    else if bytesAt l 0 4 = 0xFFFFFFFF then parsePackets n (l.drop 4)
    else
      let len := bytesAt l 2 2
      if l.length < 16 then ([], l)
      else if len % 4 ≠ 0 ∨ len < 4 ∨ 4096 < len then ([], [])
      else if l.length < 16 + len then ([], l)
      else
        let r := parsePackets n (l.drop (16 + len))
        if 1 ≤ byteAt l 0 ∧ byteAt l 0 ≤ 5 then (packetAt l :: r.1, r.2) else r

/-- The payload of a good frame enters the receive buffers (R252, R256). -/
def takePayload (z : Nat) (payload : List Byte) (s : State) : State :=
  let l := zhkLink s z
  let b := l.rxPart ++ payload
  let r := parsePackets (b.length / 4 + 1) b
  setZhkLink z { l with rxPart := r.2, rxBuf := l.rxBuf ++ r.1 } s

/-- A good link frame (R255): ACK, NAK, XOFF, USE, steps, time, and its payload into the receive buffers. What its packets do
is for commands of their own. -/
def acceptFrame (z : Nat) (data : List Byte) (s : State) : State :=
  let p := zhkPage z
  let flags := byteAt data 4
  let l := zhkLink s z
  let s := countK p R.ZHK_CNT 1 1 (setZhkLink z { l with rxSeq := (l.rxSeq + 1) % 65536, xoff := byteAt data 6 } s)
  let s := noteUse z (byteAt data 5) (setFld p F.ZHK_STATUS_RX_USE (byteAt data 5) s)
  let s := takePayload z ((data.drop 16).take (data.length - 20)) s
  let s := takeAck z (bytesAt data 2 2) s
  let s := if flags.testBit 0 then resend z s else s
  let s := takeStep z flags (byteAt data 7) s
  if flags.testBit 4 then takeTime z (bytesAt data 8 8) s else s

/-- Codewords on a link that is not up: a lane in training takes its own, since the peer's lane may be in RUN already (R101). -/
def trainWords (z : Nat) (words : List LaneWord) (data : List Byte) (s : State) : State :=
  let l := (frameLanes s z).zip words
  (List.range l.length).foldl (fun s i =>
    match l[i]? with
    | some (n, w) =>
      zhkTrainFrame n ⟨w.fec, w.startPtr * 4 + w.fseq * 1024, (data.drop (640 * i)).take 640⟩ false ⟨false, 0⟩ s
    | none => s) s

/-- LINK_FRAME (R255, R257, R258, R268): `rx` is the device time at which its first symbol arrives; `table`, a member's table
that came with it (R261). Every frame received is answered by one frame sent. -/
def execLinkFrame (link : Nat) (words : List LaneWord) (data : List Byte) (rx : Nat) (table : Option GangTable)
    (s : State) : Result :=
  if !linkUp s link then .next (trainWords link words data s)
  else
    let c := zhkWords link ((frameLanes s link).zip words) (advanceTo rx s)
    let s := c.2.2
    let skew := skewedLanes s link
    if !c.2.1.isEmpty || !skew.isEmpty then
      .next (zhkRetrain link (c.2.1 ++ skew.filter (fun n => !decide (n ∈ c.2.1))) (c.2.1.map (fun n => n % 8)) s)
    else
      let s := if frameGood s link c.1 words data then acceptFrame link data s
        else setZhkLink link { zhkLink s link with nak := true } s
      let s := match table with
        | some t => takeTable t s
        | none => s
      .next (sendFrame link s)

/-- ACK_STALL (R257): ACK has made no progress for 100 µs. -/
def execAckStall (link : Nat) (s : State) : Result :=
  let l := zhkLink s link
  if !linkUp s link || l.kept.isEmpty then .next s
  else .next (let s := advanceMono (l.ackAt + 100 * usUnits) s; zhkRetrain link (usedLanes s link) [] s)

/-- LINK_OVERLOAD (R257): a class with packets waiting has been held by XOFF for over 1 ms. -/
def execLinkOverload (link cls : Nat) (s : State) : Result :=
  let l := zhkLink s link
  let held := linkUp s link && l.xoff.testBit cls && l.waiting.any (fun k => decide (zhkClass k.kind = cls))
  let d := evalDetector (zhkPage link) S.ZHK_LINK_OVERLOAD held s
  .next (stickyIf d.1 (zhkPage link) S.ZHK_LINK_OVERLOAD d.2)

/-! ## Rate steps (R259, R260) -/

/-- Whether a link may be asked to step down: up at full width, no step in progress, this member the lower-numbered one, and
STEP_EN (R259). -/
def mayStepDown (s : State) (z : Nat) : Bool :=
  let l := zhkLink s z
  let lower := match wiredTo (gangSize s) (gangMember s) z with
    | some m => decide (gangMember s < m)
    | none => false
  linkUp s z && !l.half && l.step.isNone && lower && flag s (zhkPage z) F.ZHK_CFG_STEP_EN

/-- The larger use of a link: that of the window in progress, that of the last one, and what the peer reported (R259). -/
def linkUse (s : State) (z : Nat) : Nat :=
  max (txUse (zhkLink s z).winBytes)
    (max (fld s (zhkPage z) F.ZHK_STATUS_TX_USE) (fld s (zhkPage z) F.ZHK_STATUS_RX_USE))

/-- STEP_DOWN (R259): the use has stayed below DOWN_THRESH for DOWN_HOLD_MS; the lower-numbered member asks. -/
def execStepDown (link : Nat) (s : State) : Result :=
  let p := zhkPage link
  if mayStepDown s link && decide (linkUse s link < fld s p F.ZHK_CFG_DOWN_THRESH) then
    let l := zhkLink s link
    let s := advanceMono (l.lowSince + fld s p F.ZHK_CFG_DOWN_HOLD_MS * msUnits) s
    .next (linkStatus link (setZhkLink link { l with step := some ⟨false, true, (l.txSeq + 64) % 65536, false⟩ } s))
  else .next s

/-- Bytes waiting in a class. -/
def classBytes (l : ZhkLink) (c : Nat) : Nat :=
  ((l.waiting.filter (fun k => decide (zhkClass k.kind = c))).map (fun k => 16 + k.payload.length)).sum

/-- STEP_UP (R260): `demand` is the transmit demand of a 1 ms window in 1/256 of full capacity. The spare link of a 4-gang
stays at half width while links 0 to 2 are up. -/
def execStepUp (link demand : Nat) (s : State) : Result :=
  let l := zhkLink s link
  let p := zhkPage link
  let due := decide (fld s p F.ZHK_CFG_UP_THRESH < demand) || (List.range 4).any (fun c => decide (256 * 1024 < classBytes l c))
  .next (if linkUp s link && l.half && l.step.isNone && due && !spareHeld s link && !groupRetired s link 0 && !groupRetired s link 1 then
    let s := (groupLanes link 1).foldl (fun s n => setZhkLane n (trainFast (zhkLane s n)) s) s
    linkStatus link (setZhkLink link { l with step := some ⟨true, true, (l.txSeq + 64) % 65536, false⟩ } s)
  else s)

/-- STEP_UP_FAIL (R260): the quiet group did not lock within 1.5 ms. -/
def execStepUpFail (link : Nat) (s : State) : Result :=
  let l := zhkLink s link
  match l.step with
  | some x =>
    if x.up && !quietReady s link then
      let missed := (groupLanes link 1).filter (fun n => decide ((zhkLane s n).st ≠ .run ∧ (zhkLane s n).st ≠ .ready))
      let s := (groupLanes link 1).foldl (fun s n => setZhkLane n { zhkLane s n with st := .down } s) s
      let s := setSticky (zhkPage link) S.ZHK_STEP_FAIL (linkStatus link (setZhkLink link { l with step := none } s))
      .next (zhkAttribute link (missed.map (fun n => n % 8)) s)
    else .next s
  | none => .next s

/-- The page of the link a packet's route would take first. -/
def firstLink (s : State) (k : ZhkPacket) : Nat :=
  let x := gangMember s ^^^ k.dest
  if gangSize s = 4 then (x - 1) % 4
  else if gangSize s = 8 then ((List.range 3).find? x.testBit).getD 0 else 0

/-- ROUTE_DROP (R252): of the packets held for want of a live route, the one held longest has waited 100 µs. Counted in the
page of the link its route would take first (log entry 40). -/
def execRouteDrop (s : State) : Result :=
  let lost := fun (h : ZhkPacket × Nat) => (zhkRoute s h.1.kind h.1.dest).isNone
  match s.zhk.held.find? lost with
  | none => .next s
  | some (k, t) =>
    let p := zhkPage (firstLink s k)
    let s := { s with zhk := { s.zhk with held := removeFirst lost s.zhk.held } }
    .next (packetGone k (countK p R.ZHK_CNT 8 1 (setSticky p S.ZHK_ROUTE_DROP (advanceMono (t + 100 * usUnits) s))))

/-! ## Packets that arrive (R253, R256, R264, R265, R267, R269, R270) -/

/-- Packets to another member go on by their route, on a detour if they came on one (R252), with at most 4,096 bytes each
(R256). -/
def relay (kind dest src flow addr : Nat) (payload : List Byte) (detour : Bool) (s : State) : State :=
  let l := payloads (payload.length / 4096 + 1) payload
  (List.range l.length).foldl (fun s i =>
    zhkSend ⟨kind, dest, src, detour, flow, addr + 4096 * i, l.getD i [], .none⟩ s) s

/-- A packet leaves its receive buffer; one for another member goes on (R252), one for this member acts. -/
def relayOr (kind dest src flow addr : Nat) (payload : List Byte) (act : State → State) (s : State) : State :=
  if gangSize s = 1 then s
  else
    let r := takeRx kind dest src s
    if dest ≠ gangMember s then relay kind dest src flow addr payload r.1 r.2 else act r.2

/-- CORNER (R264): an operand of a gang region reaches the member that owns it. -/
def execCorner (dest src region pos chan batch t code : Nat) (s : State) : Result :=
  let o : TurnOperand := ⟨0, region, pos, chan, batch, t, code⟩
  let d := chan % 4
  .next (relayOr 1 dest src (region + 16 * d) (operandAddr s d region pos (chan / chanDiv s region) batch t) (leBytes 4 code)
    (fun s => if gangMode s region = 0 then s else operandArrives d { o with fpl := 4 * d } s) s)

/-- PARTIAL (R256, R265): a final slot of another member, whose bytes come in packets of 4,096. -/
def execPartialOp (dest src die ctx int slot chan : Nat) (bytes : List Byte) (s : State) : Result :=
  let n := (bytes.length + 4095) / 4096 - 1
  let a := (ctxOf s die ctx).slotAddr (int % 2) slot chan
  .next (relayOr 2 dest src (ctx + 16 * die) a bytes (takePartial ⟨die, ctx, int, src, slot, chan, bytes⟩)
    (if gangSize s = 1 then s else (List.range n).foldl (fun s _ => (takeRx 2 dest src s).2) s))

/-- A record arriving tries for its reservation as soon as its header is in, and is committed when it is whole (R253). -/
def recvAdvance (r : ZhkRecv) (s : State) : Option ZhkRecv × State :=
  let len := bytesAt r.data 8 4
  if r.data.length < 64 then (some r, s)
  else
    let g := match r.start with
      | some a => (Grant.granted a, s)
      | none => if (openSpan s r.ring 7).isSome then (Grant.noRoom, s) else ringReserve r.ring 7 (recordUnits len) s
    match g.1 with
    | .noRoom => (some r, g.2)
    | .error => (none, g.2)
    | .granted a =>
      if r.data.length < 64 + len then (some { r with start := some a }, g.2)
      else
        let q := commitOf g.2 r.ring a 7 (byteAt r.data 6) (byteAt r.data 7) ((r.data.drop 64).take len)
        (none, evalAbove r.ring (commitRecord q g.2).2)

/-- Every record arriving is taken as far as it goes. -/
def recvAll (s : State) : State :=
  s.zhk.records.foldl (fun s r =>
    let x := recvAdvance r s
    match x.1 with
    | some y => { x.2 with zhk := { x.2.zhk with records := x.2.zhk.records ++ [y] } }
    | none => x.2) { s with zhk := { s.zhk with records := [] } }

/-- Bytes of a record for a ring of this member (R253). -/
def recordIn (src ring off : Nat) (bytes : List Byte) (s : State) : State :=
  let mine := fun (r : ZhkRecv) => decide (r.src = src ∧ r.ring = ring)
  let old := if off = 0 then ⟨src, ring, none, [], 0⟩ else (s.zhk.records.find? mine).getD ⟨src, ring, none, [], 0⟩
  if old.data.length ≠ off then s
  else
    let r : ZhkRecv := { old with data := old.data ++ bytes, seen := s.mono }
    recvAll { s with zhk := { s.zhk with records := (s.zhk.records.filter (fun x => !mine x)) ++ [r] } }

/-- RECORD (R253). A packet at offset 0 while a record of the same source is unfinished there begins that record anew; what it
had reserved is rewound. -/
def execRecord (dest src ring off : Nat) (bytes : List Byte) (s : State) : Result :=
  .next (relayOr 3 dest src ring off bytes (fun s =>
    let stale := s.zhk.records.find? (fun r => decide (r.src = src ∧ r.ring = ring ∧ off = 0))
    let s := match stale.bind (fun r => r.start) with
      | some a => evalAbove ring (ringRewind ring a s)
      | none => s
    recordIn src ring off bytes s) s)

/-- RECORD_TIMEOUT (R253): no further packet for an unfinished record within 1 ms. -/
def execRecordTimeout (src ring : Nat) (s : State) : Result :=
  let mine := fun (r : ZhkRecv) => decide (r.src = src ∧ r.ring = ring)
  match s.zhk.records.find? mine with
  | none => .next s
  | some r =>
    if 64 ≤ r.data.length ∧ 64 + bytesAt r.data 8 4 ≤ r.data.length then .next (recvAll s)
    else
      let s := advanceMono (r.seen + msUnits) s
      let s := { s with zhk := { s.zhk with records := s.zhk.records.filter (fun x => !mine x) } }
      .next (recvAll (match r.start with
        | some a => evalAbove ring (ringRewind ring a s)
        | none => s))

/-- The time of a mark as its words give it. -/
def wordsTime (w : List Word) : Nat :=
  (w.getD 0 0).toNat * secondUnits + fieldOf (w.getD 1 0) 0 32 * 65536 + fieldOf (w.getD 1 0) 32 16

/-- MARK (R267). -/
def execMark (dest src : Nat) (mark : GangMark) (s : State) : Result :=
  match mark with
  | .enter h claim w =>
    .next (relayOr 4 dest src (h + claim * 2 ^ 16) 0 (w.flatMap (fun x => leBytes 8 x.toNat))
      (gangMarkIn h claim (wordsTime w) w) s)
  | .answer h ok => .next (relayOr 4 dest src h (if ok then 1 else 2) (leBytes 4 h) (gangMarkAnswer h ok) s)

/-- A member's claims are noted (R269, R270). -/
def takeClaims (src : Nat) (claims : List (Nat × Nat)) (s : State) : State :=
  let listed := fun (r : ZhkReport) => decide (r.member ≠ src) || claims.any (fun c => decide (c.1 = r.gid))
  let s := { s with zhk := { s.zhk with reports := s.zhk.reports.filter listed } }
  let s := claims.foldl (fun s c =>
    let l := s.zhk.reports.filter (fun r => !decide (r.gid = c.1 ∧ r.member = src))
    let s := { s with zhk := { s.zhk with reports := l ++ [⟨c.1, src, c.2, s.mono⟩] } }
    setFld 0x3D1 F.REF_STATUS_MAX_ISSUED (max (fld s 0x3D1 F.REF_STATUS_MAX_ISSUED) c.2) s) s
  let clear := fun (i : Nat) (s : State) =>
    if claims.any (fun c => decide (c.1 = fieldOf (sharedWord s i) 8 4)) then
      let st : ZhkStand := alGet {} s.zhk.stands i
      { s with zhk := { s.zhk with stands := alSet {} s.zhk.stands i { st with isolated := false } } }
    else s
  refreshPins (sharedRefresh ((List.range 16).foldl (fun s i => clear i s) s))

/-- CLAIM (R269, R270): `claims`: gang identifiers and latched claims. -/
def execClaim (dest src : Nat) (claims : List (Nat × Nat)) (s : State) : Result :=
  .next (relayOr 5 dest src 0 0 (claims.flatMap (fun c => leBytes 2 c.1 ++ leBytes 2 c.2)) (takeClaims src claims) s)

/-- CLAIM_REPORT (R270). -/
def execClaimReport (s : State) : Result :=
  .next (if pageLive s 0x320 && decide (1 < gangSize s) then refreshPins (sharedRefresh (reportClaims s)) else s)

/-- SHARED_ISOLATED (R271): the owner of an entry has heard nothing for 10 ms from a member listing its identifier. -/
def execSharedIsolated (entry member : Nat) (s : State) : Result :=
  let w := sharedWord s entry
  let last := (reportsOf s (fieldOf w 8 4)).find? (fun r => decide (r.member = member))
  let real := bitOf w 0 && bitOf w 12 && last.isSome
  let d := evalDetector 0x320 S.ZHK_SHARED_ISOLATED real s
  if !d.1 || !bitOf w 0 then .next d.2
  else
    let s := match last with
      | some r => advanceMono (r.time + 10 * msUnits) d.2
      | none => d.2
    let st : ZhkStand := alGet {} s.zhk.stands entry
    let s := { s with zhk := { s.zhk with stands := alSet {} s.zhk.stands entry { st with isolated := true } } }
    let s := setReg 0x320 (R.ZHK_SHARED + 8 * entry) (withBit (sharedWord s entry) 12 false) s
    .next (refreshPins (setSticky 0x320 S.ZHK_SHARED_ISOLATED s))

/-- SHARED_TAKEOVER (R271): 12 ms have passed since this member's claim became the highest. -/
def execSharedTakeover (entry : Nat) (s : State) : Result :=
  match (alGet ({} : ZhkStand) s.zhk.stands entry).since with
  | none => .next s
  | some t => .next (refreshPins (sharedRefresh (advanceMono (t + 12 * msUnits) s)))

/-! ## Registers -/

/-- Whether any ZHK page is enabled. -/
def anyZhkEnabled (s : State) : Bool := (List.range 4).any (fun z => flag s (zhkPage z) F.PAGE_CTRL_ENABLE)

/-- A write of ZHK_GANG: refused while a link is enabled, or for a member that is not below G. -/
def writeZhkGang (v : Word) (s : State) : State :=
  if anyZhkEnabled s ∨ 2 ^ fieldOf v 0 2 ≤ fieldOf v 2 3 then refuseCfg 0x320 s
  else
    let s := storePlain 0x320 R.ZHK_GANG v s
    (List.range 4).foldl (fun s z => linkStatus z s) s

/-- Whether a valid pass plan names region `r`. -/
def planNames (s : State) (r : Nat) : Bool := s.sch.plans.any (fun e => decide (e.1 % 16 = r))

/-- A write of ZHK_REGION: refused while a valid plan names the region; a change is judged on member 0 and goes out (R261). -/
def writeZhkRegion (r : Nat) (v : Word) (s : State) : State :=
  if planNames s r then refuseCfg 0x320 s
  else
    let t := storePlain 0x320 (R.ZHK_REGION + 8 * r) v s
    if fld t 0x320 (F.ZHK_REGION_MODE.at r) = fld s 0x320 (F.ZHK_REGION_MODE.at r) ∨ gangSize s = 1 then t
    else sendTable (judgeTables t)

/-- Whether TARGET names an output of its KIND: channel 0 to 31, line 0 to 15, CLKOUT 0 to 7 (R472). -/
def sharedTargetOk (v : Word) : Bool :=
  decide (fieldOf v 3 5 < (match fieldOf v 1 2 with | 0 => 32 | 2 => 8 | _ => 16))

/-- A write of ZHK_SHARED: only while page 0x320 is disabled (R270), and only with a target of its kind. -/
def writeZhkShared (i : Nat) (v : Word) (s : State) : State :=
  if flag s 0x320 F.PAGE_CTRL_ENABLE || !sharedTargetOk v then refuseCfg 0x320 s
  else
    let off := R.ZHK_SHARED + 8 * i
    let w := mergedWord s 0x320 off v
    let s := { s with zhk := { s.zhk with stands := alSet {} s.zhk.stands i ({} : ZhkStand) } }
    sendTable (refreshPins (setReg 0x320 off (withField (withBit w 12 false) 16 19 0) s))

/-- A write of ZHK_CNT_CLEAR. -/
def writeZhkCntClear (z : Nat) (v : Word) (s : State) : State :=
  if bitOf v 0 then
    let s := resetRegs (zhkPage z) R.ZHK_LANE_CNT 8 (resetRegs (zhkPage z) R.ZHK_CNT 10 s)
    setZhkLink z { zhkLink s z with attributed := [] } s
  else s

/-- A soft reset of a ZHK page; page 0x320 takes what the gang shares with it (R72). -/
def resetZhk (z : Nat) (s : State) : State :=
  let s := linkDown z s
  let s := setZhkLink z {} s
  if z ≠ 0 then s
  else { s with zhk := { s.zhk with records := [], reports := [], stands := [], tables := [], early := [] } }

end Sys2Proof.Machine
end

