-- ==== Sys2Proof/Machine/BusRead.lean ====
section
/-! DEFINITION. Reads of the register space (R63 to R66, R83): what each register reads as, and what a read changes. -/

namespace Sys2Proof.Machine

/-- All ones. -/
abbrev allOnes : Word := 0xFFFFFFFFFFFFFFFF#64

/-- PAGE_STATUS of a page that is not gated (R71, R77). -/
def readPageStatus (s : State) (p : Nat) : Word :=
  let w := reg s p R.PAGE_STATUS
  let w := if p = 0 then w else withBit w 0 true
  withBit w 3 (flag s p F.WRITE_LOCK_LOCKED)

/-- Counted events of a page within the window in force: of an HPC page, those of its fullest tracker (R76, R337). -/
def inWindow (s : State) (p : Nat) : Nat :=
  if pageBlock p = some .hpc then trackerTop s (p - 0x240) else (retryInWindow s p).length

/-- RETRY_COUNT: IN_WINDOW counts the events within the window now (R76); TOTAL of an HPC page counts those of every
tracker (log entry 82). -/
def readRetryCount (s : State) (p : Nat) : Word := withField (reg s p R.RETRY_COUNT) 0 16 (min 65535 (inWindow s p))

/-- LIFECYCLE of HWD_STATUS (R425): 0 UNOWNED, 1 OWNED, 2 RECOVERY. -/
def lifecycle (s : State) : Nat :=
  if s.hwd.recovery then 2
  else if s.hwd.owners.any (fun o => match o with | .active _ => true | _ => false) then 1 else 0

/-- The code of an owner slot in HWD_STATUS. -/
def ownerCode (o : OwnerSlot) : Nat :=
  match o with
  | .empty => 0
  | .active _ => 1
  | .revoked _ => 2

/-- HWD_STATUS. -/
def readHwdStatus (s : State) : Word :=
  let h := s.hwd
  let owner := ((List.range 4).map (fun k => ownerCode (h.owners.getD k .empty) * 4 ^ k)).sum
  BitVec.ofNat 64 (lifecycle s + h.running % 2 * 4 + (if h.trial then 8 else 0) + (if h.unlock.isSome then 16 else 0)
    + owner * 2 ^ 8 + h.fwSvn % 128 * 2 ^ 16 + h.workSvn % 128 * 2 ^ 24)

/-- AON_SECONDS (R443): counted by the block's own clock from a power-on reset. -/
def aonSeconds (s : State) : Nat := (s.mono - s.pwr.aonBase) / secondUnits % 2 ^ 32

/-- Value of a header register of a page that is not gated. -/
def peekHeader (s : State) (p off : Nat) : Word :=
  if off = R.PAGE_STATUS then readPageStatus s p
  else if off = R.RETRY_COUNT then readRetryCount s p
  else reg s p off

/-- Values of block registers of the ingest and data path that are more than a stored word. -/
def peekData (s : State) (b : Block) (p off : Nat) : Option Word :=
  match b with
  | .spr => if off = R.SPR_LINK_STATUS then some (readLinkStatus s (p - 0x10)) else none
  | .rch =>
    if off = R.RCH_STATUS then some (readRchStatus s (p - 0x50))
    else if off = R.RCH_COEF_DATA then some (readCoefTap s (p - 0x50)) else none
  | .fpl =>
    if off = R.FPL_STATUS then some (readFplStatus s (p - 0x90))
    else if off = R.FPL_COEF_DATA then some (readCoefData (p - 0x90) s).1
    else if off = R.FPL_GAIN_DATA then some (readGainData (p - 0x90) s).1
    else if 0x180 ≤ off ∧ off < 0x1C0 ∧ p % 4 ≠ 0 then some 0 else none
  | .lth =>
    if off = R.LTH_JOB then some (readLthJob (p - 0x100) s).1
    else if off = R.LTH_ACC_RE then some (readAcc s (p - 0x100) false)
    else if off = R.LTH_ACC_IM then some (readAcc s (p - 0x100) true) else none
  | .sch =>
    if off = R.SCH_STATUS then some (readSchStatus s (p - 0x220))
    else if off = R.SCH_LOAD then some (readSchLoad s (p - 0x220)) else none
  | .tly =>
    if off = R.TLY_STATUS then some (readTlyStatus s (p - 0x224))
    else if R.TLY_CTX_STATUS ≤ off ∧ off < R.TLY_CTX_STATUS + 128 then
      some (readCtxStatus s (p - 0x224) ((off - R.TLY_CTX_STATUS) / 8)) else none
  | .gge =>
    if off = R.GGE_WSET_CTRL then some (reg s p off ||| readWsetCtrl s (p - 0x228))
    else if R.GGE_LINE ≤ off ∧ off < R.GGE_LINE + 128 then some (readLine s (p - 0x228) ((off - R.GGE_LINE) / 8)) else none
  | .chs | .chl =>
    let n := if b = .chs then p - 0x350 else 64 + (p - 0x394)
    if off = R.CHS_STATUS then some (readChsStatus s n)
    else if off = R.CHS_MEM_DATA then some (readChsMem n s).1
    else if off = R.CHL_POST then some (if b = .chl then readChlPost s n else 0)
    else if off = R.CHL_HBASE ∧ b = .chs then some 0 else none
  | .hpc => if off = R.HPC_STATUS then some (readHpcStatus s p) else none
  | _ => none

/-- Values of block registers of transport, time, supervision and trust that are more than a stored word. -/
def peekControl (s : State) (b : Block) (p off : Nat) : Option Word :=
  match b with
  | .xbr =>
    if off = R.XBR_PAIR_DATA then some (readPairData s)
    else if off = R.XBR_MASTER_STATUS then some (readMasterStatus s) else none
  | .rng =>
    if off = R.RNG_WM_POP then some (readWmPop s).1
    else if R.RNG_FCO ≤ off ∧ off < R.RNG_FCO + 128 then some (withBit (reg s p off) 32 (fcoLevel s ((off - R.RNG_FCO) / 8)))
    else none
  | .eth =>
    if off = R.ETH_PFC then some (readEthPfc s (p - 0x310))
    else if off = R.ETH_EEE then some (readEthEee s (p - 0x310)) else none
  | .tru =>
    if R.TRU_REF_STATUS ≤ off ∧ off < R.TRU_REF_STATUS + 96 then some (readRefStatus s ((off - R.TRU_REF_STATUS) / 8)) else none
  | .zhk =>
    if R.ZHK_LANE_CNT ≤ off ∧ off < R.ZHK_LANE_CNT + 64 then some (readLaneCnt s (p - 0x320) ((off - R.ZHK_LANE_CNT) / 8))
    else if R.ZHK_GANG ≤ off ∧ p ≠ 0x320 then some 0 else none
  | .tbs =>
    if off = R.TBS_TIME_S then some (BitVec.ofNat 64 (timeSeconds (devTime s)))
    else if off = R.TBS_ST32_NOW then some (BitVec.ofNat 64 (st32Of (devTime s)))
    else if off = R.TBS_TRIGIN_POP then some (popTrigIn s).1
    else if R.TBS_TRIG_CFG ≤ off ∧ off < R.TBS_TRIG_CFG + 128 then
      some (withBit (reg s p off) 17 (trigLevel s ((off - R.TBS_TRIG_CFG) / 8))) else none
  | .mrk =>
    if off = R.MRK_STATUS then some (readMrkStatus s)
    else if off = R.MRK_DONE then some (popMarkDone s).1 else none
  | .fld => if off = R.FLD_CH_STATUS then some (readFldStatus s (p - 0x3A1)) else none
  | .ref =>
    if R.REF_HB ≤ off ∧ off < R.REF_HB + 16 then some (readRefHb s ((off - R.REF_HB) / 8))
    else if off = R.REF_GRANT_DATA then some (readRefGrant s) else none
  | .evt => if off = R.EVT_ROUTE_DATA then some (readEvtRoute s) else none
  | .evt2 => if off = R.EVT_POP then some (readEvtPop (p - 0x3D4) s).1 else none
  | .evt4 =>
    if off = R.EVT_IRQ_STATUS then some (readEvtIrq s)
    else if off = R.EVT_CNT_DATA then some (readEvtCnt s) else none
  | .stw => if off = R.STW_RL_STATUS then some (readRlStatus s) else none
  | .hwd => if off = R.HWD_STATUS then some (readHwdStatus s) else none
  | .pwr => if off = R.PWR_AON then some (BitVec.ofNat 64 (aonSeconds s)) else none
  | _ => none

/-- The value of a register of a page that is not gated, as a read that changes nothing gives it. -/
def peekReg (s : State) (p off : Nat) : Word :=
  match pageBlock p with
  | none => 0
  | some b =>
    if b = .msix ∨ b = .pba then (if b = .pba ∧ 0x100 ≤ off then 0 else reg s p off)
    else if off < 0x100 then peekHeader s p off
    else ((peekData s b p off).or (peekControl s b p off)).getD (reg s p off)

/-- The registers whose read changes state (R65): pops, the latching time read and AUTO_INC windows; a lathe's measured
status takes a free value (R178). -/
def readEffect (m : Nat) (b : Block) (p off : Nat) (s : State) : Option (Word × State) :=
  match b with
  | .fpl =>
    if off = R.FPL_COEF_DATA then some (readCoefData (p - 0x90) s)
    else if off = R.FPL_GAIN_DATA then some (readGainData (p - 0x90) s) else none
  | .lth => if off = R.LTH_STATUS then some (readLthStatus (p - 0x100) s) else none
  | .rng => if off = R.RNG_WM_POP then some (readWmPop s) else none
  | .tbs =>
    if off = R.TBS_TIME_S then some (readTimeS m s)
    else if off = R.TBS_TIME_SUB then some (readTimeSub m s)
    else if off = R.TBS_TRIGIN_POP then some (popTrigIn s) else none
  | .mrk => if off = R.MRK_DONE then some (popMarkDone s) else none
  | .chs => if off = R.CHS_MEM_DATA then some (readChsMem (p - 0x350) s) else none
  | .chl => if off = R.CHS_MEM_DATA then some (readChsMem (64 + (p - 0x394)) s) else none
  | .evt2 => if off = R.EVT_POP then some (readEvtPop (p - 0x3D4) s) else none
  | _ => none

/-- What a register of a gated page reads as (R66). -/
def readGated (s : State) (p off : Nat) : Word :=
  if off = R.PAGE_ID then reg s p off else if off = R.PAGE_STATUS then 4 else 0

/-- A read of an aligned register by a master (R65, R66). -/
def readReg (m p off : Nat) (s : State) : Word × State :=
  match pageBlock p with
  | none => (0, s)
  | some b =>
    if pageGated s p then (readGated s p off, s)
    else (readEffect m b p off s).getD (peekReg s p off, s)

/-- A BAR0 read by a master: value, whether it met a fault or a gated page, and the state (R64, R66). -/
def busRead (m addr size : Nat) (s : State) : Word × Bool × State :=
  let p := addr / 0x1000
  let off := addr % 0x1000
  let s := countBar0 m s
  if accessFaults s p off size then (allOnes, true, refusedWrite p .fault s)
  else if size = 4 then
    (BitVec.ofNat 64 (fieldOf (readReg m p (off / 8 * 8) s).1 (off % 8 * 8) 32), pageGated s p, s)
  else
    let r := readReg m p off s
    (r.1, (pageBlock p).isSome && pageGated s p, r.2)

end Sys2Proof.Machine
end

