-- ==== Sys2Proof/Machine/Heartwood.lean ====
section
/-! DEFINITION. Heartwood (R413 to R432): signed images, firmware slots, identity, operations, attestation, key agreement,
debug unlock and write locks. -/

namespace Sys2Proof.Machine

/-! ## Signed images (R415, R416) -/

/-- A little-endian field of `n` bytes at byte `a`. -/
def byteField (l : List Byte) (a n : Nat) : Nat := ofLeBytes ((l.drop a).take n)

/-- Length of an image header. -/
abbrev headerLen : Nat := 7360

/-- The measurement of an image (R416). -/
def imageMeasure (l : List Byte) : List Byte := sha3_512 (l.take 2680)

/-- Whether the fixed fields of an image header stand as R415 has them. -/
def imageForm (l : List Byte) : Bool :=
  decide (l.take 4 = [0x54, 0x5A, 0x49, 0x4D] ∧ byteField l 4 2 = 1 ∧ byteField l 7 1 ≤ 4 ∧ byteField l 8 1 ≤ 64 ∧
    byteField l 10 6 = 0 ∧ ((l.drop 7307).take 53).all (fun b => decide (b = 0)) = true ∧
    (byteField l 6 1 = 1 → byteField l 16 8 ≤ 2 ^ 24 - headerLen))

/-- VENDOR_KEY_HASH (R413). -/
def vendorHash : List Byte := (List.range 64).map Config.vendorKeyHash

/-- The fuse hash a KEY code names: the vendor's, or that of an ACTIVE owner slot (R415, R416). -/
def keyHash (s : State) (key : Nat) : Option (List Byte) :=
  if key = 0 then some vendorHash
  else
    match s.hwd.owners.getD (key - 1) .empty with
    | .active h => some h
    | _ => none

/-- Owner slots that are ACTIVE. -/
def activeOwners (s : State) : List Nat :=
  (List.range 4).filter (fun k => match s.hwd.owners.getD k .empty with | .active _ => true | _ => false)

/-- The stepping codes of all six dies (R2, R423). -/
def steppings (s : State) : List Nat := (List.range 6).map (fun k => fieldOf (reg s (1 + k) R.DIE_INFO) 8 8)

/-- The check of an image of a kind (R416): the RESULT of HWD_OP_CTRL, 0 where it is accepted. -/
def checkImage (s : State) (kind : Nat) (l : List Byte) : Nat :=
  let key := byteField l 7 1
  let svn := if kind = 1 then s.hwd.fwSvn else s.hwd.workSvn
  if !imageForm l then 9
  else if byteField l 6 1 ≠ kind then 5
  else if keyHash s key ≠ some (sha3_512 ((l.drop 24).take 2592)) then 3
  else if kind = 2 ∧ activeOwners s ≠ [] ∧ key = 0 then 3
  else if !Config.verifies ((l.drop 24).take 2592) (l.take 2680) ((l.drop 2680).take 4627) then 2
  else if (l.drop 2616).take 64 ≠ sha3_512 (l.drop headerLen) then 2
  else if byteField l 8 1 < svn then 4
  else if (steppings s).any (fun x => decide (x ≠ byteField l 9 1)) then 5
  else 0

/-- An image as Heartwood reads it from HBM: header, then the body its header names (R415); none where that body does not
lie in HBM. -/
def readImage (a : Nat) (s : State) : Option (List Byte) × State :=
  let h := hbmRead a headerLen s
  let n := byteField h.1.bytes 16 8
  if hbmInside (a + headerLen) n then
    let b := hbmRead (a + headerLen) n h.2
    (some (h.1.bytes ++ b.1.bytes), b.2)
  else (none, h.2)

/-- An image at HWD_OP_ADDR is read and checked: RESULT, the image, and the state (R416). -/
def fetchImage (a kind : Nat) (s : State) : Nat × List Byte × State :=
  let r := readImage a s
  match r.1 with
  | none => (9, [], r.2)
  | some l => (checkImage r.2 kind l, l, r.2)

/-! ## Firmware slots (R417 to R419) -/

def fwSlot (s : State) (k : Nat) : FwSlot := if k = 0 then s.hwd.slot0 else s.hwd.slot1

def setFwSlot (k : Nat) (x : FwSlot) (s : State) : State :=
  if k = 0 then { s with hwd := { s.hwd with slot0 := x } } else { s with hwd := { s.hwd with slot1 := x } }

/-- Whether a slot passes R416 at a start; its flash content may be damaged. -/
def slotGood (s : State) (damaged : List Nat) (k : Nat) : Bool :=
  !decide (k ∈ damaged) &&
    match fwSlot s k with
    | .empty => false
    | .factory => decide (s.hwd.fwSvn ≤ Config.factorySvn)
    | .image l => decide (checkImage s 1 l = 0)

/-- Measurement and SVN of the firmware in a slot. -/
def slotMeasure (s : State) (k : Nat) : List Byte × Nat :=
  match fwSlot s k with
  | .image l => (imageMeasure l, byteField l 8 1)
  | _ => ((List.range 64).map Config.factoryMeas, Config.factorySvn)

/-- FW_MEAS: the measurement of the running firmware, zero in RECOVERY, where none runs (R416, R425). -/
def runningMeasure (s : State) : List Byte :=
  if s.hwd.recovery then List.replicate 64 0 else (slotMeasure s s.hwd.running).1

/-- Bytes stored as measurement `j` of HWD_MEAS: 0 firmware, 1 work image, 2 identity. -/
def setMeasure (j : Nat) (l : List Byte) (s : State) : State := setRegsFrom hwdPage (R.HWD_MEAS + 64 * j) (wordsOf 8 l) s

/-- A slot is booted (R417 steps 4 and 5). -/
def bootSlot (k : Nat) (trial : Bool) (s : State) : State :=
  let m := slotMeasure s k
  let s := { s with hwd := { s.hwd with running := k, trial := trial, runSvn := m.2, recovery := false } }
  setMeasure 0 m.1 s

/-- The slot of a start (R418, R419): a TRIAL slot boots once; not confirmed before the following start, the selector goes
back to the other slot. A slot that fails makes the other boot; both failing is RECOVERY. -/
def bootFirmware (damaged : List Nat) (s : State) : State :=
  let x := s.hwd.sel
  let x : FwSelector :=
    if x.trial && x.booted then { gen := x.gen + 1, slot := 1 - x.slot }
    else if x.trial then { x with booted := true } else x
  let s := { s with hwd := { s.hwd with sel := x } }
  if slotGood s damaged x.slot then bootSlot x.slot x.trial s
  else if slotGood s damaged (1 - x.slot) then
    bootSlot (1 - x.slot) false (setSticky hwdPage S.HWD_BOOT_FALLBACK s)
  else setSticky hwdPage S.HWD_BOOT_FALLBACK { s with hwd := { s.hwd with recovery := true } }

/-! ## Who may run an operation (R424) -/

/-- HWD_OP registers another command in execution has written are held against every other master (R424). -/
def hwdOpHeld (s : State) (m : Nat) : Bool := s.cmd.runs.any (fun r => decide (r.1 + 3 ≠ m) && !r.2.wrote.isEmpty)

/-- A command's write of an HWD_OP register is noted (R424). -/
def noteOpWrite (m off : Nat) (s : State) : State :=
  match sparseFind s.cmd.runs (m - 3) with
  | some r =>
    if m = 3 ∨ m = 4 then
      { s with cmd := { s.cmd with runs := sparseInsert (sparseErase s.cmd.runs (m - 3)) (m - 3) { r with wrote := off :: r.wrote } } }
    else s
  | none => s

/-- Whether a KIND 1 command has written every register of a list (R424). -/
def commandWrote (s : State) (m : Nat) (offs : List Nat) : Bool :=
  kindOne s m &&
    match sparseFind s.cmd.runs (m - 3) with
    | some r => offs.all (fun o => decide (o ∈ r.wrote))
    | none => false

/-- The registers of the 64-byte input. -/
def opInRegs : List Nat := (List.range 8).map (fun k => R.HWD_OP_IN + 8 * k)

/-- HWD_OP_ADDR and HWD_OP_IN. -/
def opAddr (s : State) : Nat := (reg s hwdPage R.HWD_OP_ADDR).toNat
def opIn (s : State) : List Byte := bytesOf (regsFrom s hwdPage R.HWD_OP_IN 8)
def setOpOut (l : List Byte) (s : State) : State := setRegsFrom hwdPage R.HWD_OP_OUT (wordsOf 8 l) s

/-- BOOT_NONCE of the current boot, and the package serial, as bytes. -/
def bootNonce (s : State) : List Byte := bytesOf (regsFrom s hwdPage R.HWD_BOOT_NONCE 2)
def serialBytes (s : State) : List Byte := leBytes 8 (pkgSerial s)

/-- The IDCODE of the JTAG port: stepping 1, B0, in bits 31 to 28 (R465). -/
def jtagIdcode : BitVec 32 := 1#4 ++ Config.idcodePart

/-- Whether an input of `n` bytes at HWD_OP_ADDR lies in HBM, at a multiple of 64. -/
def opInputOk (s : State) (n : Nat) : Bool := decide (opAddr s % 64 = 0) && hbmInside (opAddr s) n

/-! ## Images as operations -/

/-- INSTALL_FW (R419). -/
def opInstallFw (m : Nat) (flash : Bool) (s : State) : Nat × State :=
  if !(isActiveSteward s m || kindOne s m || (decide (m = 0) && s.hwd.recovery)) then (1, s)
  else if !opInputOk s headerLen then (9, s)
  else
    let r := fetchImage (opAddr s) 1 s
    let s := r.2.2
    if r.1 ≠ 0 then (r.1, s)
    else if !flash then (7, s)
    else
      let k := if s.hwd.recovery then 1 - s.hwd.sel.slot else 1 - s.hwd.running
      let s := setFwSlot k (.image r.2.1) s
      (0, { s with hwd := { s.hwd with sel := { gen := s.hwd.sel.gen + 1, slot := k, trial := true } } })

/-- VERIFY_WORK (R416): any master; the measurement is recorded. -/
def opVerifyWork (s : State) : Nat × State :=
  if !opInputOk s headerLen then (9, s)
  else
    let r := fetchImage (opAddr s) 2 s
    let s := r.2.2
    if r.1 ≠ 0 then (r.1, s)
    else
      let h := imageMeasure r.2.1
      (0, setOpOut h (setMeasure 1 h { s with hwd := { s.hwd with work := some (byteField r.2.1 8 1) } }))

/-! ## Debug unlock (R430, R431) -/

/-- The check of a debug unlock token. -/
def checkToken (s : State) (l : List Byte) : Nat :=
  if l.take 4 ≠ [0x54, 0x5A, 0x44, 0x55] ∨ byteField l 4 1 ≠ 1 ∨ 4 < byteField l 5 1 ∨ 3 < byteField l 6 1 ∨
      byteField l 7 1 ≠ 0 ∨ byteField l 32 4 = 0 ∨ 86400 < byteField l 32 4 ∨ byteField l 36 4 ≠ 0 then 9
  else
    match keyHash s (byteField l 5 1) with
    | none => 3
    | some h =>
      if !Config.verifies h (l.take 104) ((l.drop 104).take 4627) then 2
      else if (l.drop 8).take 8 ≠ serialBytes s ∨ (l.drop 16).take 16 ≠ bootNonce s then 9
      else if (l.drop 40).take 64 ≠ identityHash then 6
      else 0

/-- DEBUG_UNLOCK (R430, R431). -/
def opDebugUnlock (s : State) : Nat × State :=
  if !opInputOk s 4731 then (9, s)
  else
    let r := hbmRead (opAddr s) 4731 s
    let c := checkToken r.2 r.1.bytes
    if c ≠ 0 then (c, r.2)
    else
      let u : DebugUnlock := ⟨byteField r.1.bytes 6 1, r.2.mono + byteField r.1.bytes 32 4 * secondUnits⟩
      (0, setSticky hwdPage S.HWD_UNLOCK { r.2 with hwd := { r.2.hwd with unlock := some u } })

/-- Pages with the common header whose DEBUG bit is set: those below 0x400 (R67). -/
def debugPages (s : State) : List Nat :=
  (s.regs.filter (fun e => decide (e.1 < 0x400000 ∧ e.1 % 0x1000 = R.PAGE_CTRL) && bitOf e.2 2)).map (fun e => e.1 / 0x1000)

/-- DEBUG of a page is cleared; a halted lathe resumes (R73, R180). -/
def clearDebug (p : Nat) (s : State) : State :=
  let s := setFld p F.PAGE_CTRL_DEBUG 0 s
  if pageBlock p = some .lth then latheResume (p - 0x100) s else s

/-- A debug unlock ends (R73, R431). -/
def endUnlock (s : State) : State :=
  if s.hwd.unlock.isNone then s
  else
    let s := setSticky hwdPage S.HWD_RELOCK { s with hwd := { s.hwd with unlock := none } }
    (debugPages s).foldl (fun s p => clearDebug p s) s

/-! ## Attestation (R425) -/

/-- The RW and RWG fields of a word of a register. -/
def configWord (r : RegDef) (w : Word) : Word :=
  (r.fields.filter (fun f => decide (f.acc = .rw ∨ f.acc = .rwg))).foldl
    (fun a f => a ||| (w &&& fieldMask f.lo f.width)) 0

/-- What a register gives to CFG_MEAS, 8 bytes; nothing where there is no register. -/
def configBytes (s : State) (p off : Nat) : List Byte :=
  match regDef p off with
  | some r => leBytes 8 (configWord r (peekReg s p off)).toNat
  | none => []

/-- What a page gives to CFG_MEAS. -/
def configPage (s : State) (p : Nat) : List Byte :=
  leBytes 2 p ++ configBytes s p R.PAGE_CTRL ++ configBytes s p R.WRITE_LOCK
    ++ (List.range 480).flatMap (fun k => configBytes s p (0x100 + 8 * k))

/-- The assigned pages that carry the common header, ascending (R67, R69). -/
def headerPages : List Nat :=
  (pageRows.filter (fun r => decide (r.block ≠ .msix ∧ r.block ≠ .pba))).flatMap
    (fun r => (List.range (r.last + 1 - r.first)).map (fun k => r.first + k))

/-- CFG_MEAS. -/
def configMeasure (s : State) : List Byte :=
  sha3_512 ((headerPages.filter (fun p => !pageGated s p)).flatMap (configPage s))

/-- The 16-byte entry of a die. -/
def dieEntry (s : State) (k : Nat) : List Byte :=
  (leBytes 8 (reg s (1 + k) R.DIE_ID).toNat).take 7 ++ (leBytes 8 (reg s (1 + k) R.DIE_INFO).toNat).take 2
    ++ List.replicate 7 0

/-- The attestation report without its signature, bytes 0 to 527. -/
def attestBody (s : State) : List Byte :=
  opIn s ++ bootNonce s ++ serialBytes s ++ leBytes 2 (fld s 0 F.PKG_DATE_DATE) ++ leBytes 1 (lifecycle s)
    ++ leBytes 1 (if s.hwd.unlock.isSome then 1 else 0) ++ leBytes 1 ((activeOwners s).map (2 ^ ·)).sum
    ++ leBytes 1 (s.hwd.running + (if s.hwd.trial then 128 else 0)) ++ leBytes 1 s.hwd.fwSvn ++ leBytes 1 s.hwd.workSvn
    ++ (List.range 6).flatMap (dieEntry s) ++ identityHash ++ runningMeasure s
    ++ bytesOf (regsFrom s hwdPage (R.HWD_MEAS + 64) 8) ++ configMeasure s ++ leBytes 8 (reg s ldgPage R.LDG_CKPT).toNat
    ++ lastChain s ++ leBytes 4 (ldgEpoch s) ++ List.replicate 4 0
where
  /-- The chain value at LAST_CKPT: that of the newest checkpoint of this epoch in the Ledger ring that has been committed; without one its value is not stated. -/
  lastChain (s : State) : List Byte :=
    match s.ldg.slots.find? (fun x => !x.isEpoch && decide (x.epoch = ldgEpoch s) &&
        decide (ofLeBytes (x.payload.take 8) = (reg s ldgPage R.LDG_CKPT).toNat)) with
    | some x => (x.payload.drop 48).take 64
    | none => bytesOf ((List.range 8).map (fun k => Config.freeValue (s.free + k)))

/-- ATTEST (R425): a report of RTYPE 7 into ATTEST_RING. -/
def opAttest (s : State) : Nat × State :=
  if s.ldg.noIdentity then (8, s)
  else
    let body := attestBody s
    let s := countSignature { s with free := s.free + 8 }
    let e := emitRecord (fld s ldgPage F.LDG_RINGS_ATTEST_RING) heartwood 7 4 (body ++ signature s) s
    (if e.1 = .done then 0 else 9, e.2)

/-! ## Key agreement (R426, R427) -/

/-- The derived bytes (R427). -/
def kemDerive (s : State) (secret ct : List Byte) (usage : Nat) : List Byte :=
  shake256 44 (secret ++ [0x54, 0x5A, 0x48, 0x34, 0x38, 0x2D, 0x4B, 0x45, 0x4D] ++ leBytes 1 usage ++ serialBytes s
    ++ bootNonce s ++ sha3_512 ct)

/-- The association a transmit key is installed in: the one not in transmit use, or the one in use while it has no key
(R427). -/
def txInstallKey (s : State) (p sub : Nat) : Nat :=
  if (sparseFind (ethPort s p).sas (txKey s p sub)).isSome then txKeyNext s p sub else txKey s p sub

/-- A key is put into an association of a port. -/
def installSa (p key : Nat) (a : EthSa) (s : State) : State :=
  let x := ethPort s p
  setEthPort p { x with sas := sparseInsert (sparseErase x.sas key) key a } s

/-- The installation USE names (R427). -/
def kemInstall (key : List Byte) (s : State) : State :=
  let p := fld s hwdPage F.HWD_OP_ARG_PAGE
  let sub := fld s hwdPage F.HWD_OP_ARG_SUBPORT
  match fld s hwdPage F.HWD_OP_ARG_USE with
  | 1 => installSa p (txInstallKey s p sub) ⟨key, 0, 0, 1⟩ s
  | 2 =>
    installSa p (64 * sub + 4 + 4 * fld s hwdPage F.HWD_OP_ARG_SC + fld s hwdPage F.HWD_OP_ARG_AN)
      ⟨key, (reg s hwdPage R.HWD_OP_SCI).toNat, fld s hwdPage F.HWD_OP_ARG_SSCI, 1⟩ s
  | _ =>
    let k := fld s hwdPage F.HWD_OP_ARG_SLOT
    { s with hwd := { s.hwd with sessions := sparseInsert (sparseErase s.hwd.sessions k) k key } }

/-- Registers KEM reads (R424). -/
def kemRegs (s : State) : List Nat :=
  [R.HWD_OP_ADDR, R.HWD_OP_ARG] ++ opInRegs ++ (if fld s hwdPage F.HWD_OP_ARG_USE = 2 then [R.HWD_OP_SCI] else [])

/-- KEM (R426). -/
def opKem (m : Nat) (s : State) : Nat × State :=
  if !commandWrote s m (kemRegs s) then (1, s)
  else if !opInputOk s 3168 ∨ fld s hwdPage F.HWD_OP_ARG_USE = 0 ∨
      (fld s hwdPage F.HWD_OP_ARG_USE ≠ 3 ∧ 5 < fld s hwdPage F.HWD_OP_ARG_PAGE) then (9, s)
  else
    let r := hbmRead (opAddr s) 1568 s
    if sha3_512 r.1.bytes ≠ opIn s then (6, r.2)
    else
      let n := r.2.free
      let ct := (List.range 1568).map (Config.kemCipher r.1.bytes n)
      let secret := (List.range 32).map (Config.kemSecret r.1.bytes n)
      let s := (hbmWrite (opAddr s + 1600) ct { r.2 with free := n + 1 }).2
      (0, kemInstall (kemDerive s secret ct (fld s hwdPage F.HWD_OP_ARG_USE)) (setOpOut (sha3_512 ct) s))

/-! ## Owner keys (R424) -/

def setOwner (k : Nat) (o : OwnerSlot) (s : State) : State := { s with hwd := { s.hwd with owners := s.hwd.owners.set k o } }

/-- OWNER_PROG. -/
def opOwnerProg (m : Nat) (s : State) : Nat × State :=
  let host := decide (m = 0) && (activeOwners s).isEmpty
  if !host && !commandWrote s m (R.HWD_OP_ARG :: opInRegs) then (1, s)
  else
    let k := fld s hwdPage F.HWD_OP_ARG_INDEX
    if s.hwd.owners.getD k .empty = .empty then (0, setOwner k (.active (opIn s)) s) else (9, s)

/-- OWNER_REVOKE: refused for the last ACTIVE slot. -/
def opOwnerRevoke (m : Nat) (s : State) : Nat × State :=
  if !commandWrote s m [R.HWD_OP_ARG] then (1, s)
  else
    let k := fld s hwdPage F.HWD_OP_ARG_INDEX
    match s.hwd.owners.getD k .empty with
    | .active h => if (activeOwners s).length ≤ 1 then (9, s) else (0, setOwner k (.revoked h) s)
    | _ => (3, s)

/-! ## The interface (R424) -/

/-- The operation OP names. -/
def hwdOperation (m : Nat) (flash : Bool) (s : State) : Nat × State :=
  match fld s hwdPage F.HWD_OP_CTRL_OP with
  | 1 => opInstallFw m flash s
  | 2 => opVerifyWork s
  | 3 => opDebugUnlock s
  | 4 => opAttest s
  | 5 => opKem m s
  | 6 => opOwnerProg m s
  | 7 => opOwnerRevoke m s
  | _ => (9, s)

/-- GO: the operation runs, its RESULT is set, and a nonzero one sets OP_REFUSED (R424, R475). -/
def hwdGo (m : Nat) (flash : Bool) (s : State) : State :=
  let r := hwdOperation m flash s
  stickyIf (decide (r.1 ≠ 0)) hwdPage S.HWD_OP_REFUSED (setFld hwdPage F.HWD_OP_CTRL_RESULT r.1 r.2)

/-- A write of an HWD_OP register other than HWD_OP_CTRL. -/
def writeHwdOp (m off : Nat) (v : Word) (s : State) : State :=
  if hwdOpHeld s m ∨ (off = R.HWD_OP_ADDR ∧ v.toNat % 64 ≠ 0) then refuseCfg hwdPage s
  else noteOpWrite m off (storePlain hwdPage off v s)

/-- A write of HWD_OP_CTRL. -/
def writeHwdOpCtrl (m : Nat) (flash : Bool) (v : Word) (s : State) : State :=
  if hwdOpHeld s m then refuseCfg hwdPage s
  else actIf v 3 (hwdGo m flash) (noteOpWrite m R.HWD_OP_CTRL (storePlain hwdPage R.HWD_OP_CTRL v s))

/-- The word that runs operation `op`. -/
def goWord (op : Nat) (v : Word) : Word := withField v 0 3 op ||| 8#64

/-- An operation as a write of HWD_OP_CTRL. -/
def runOp (op m : Nat) (flash : Bool) (v : Word) (s : State) : State :=
  guardedWrite m hwdPage R.HWD_OP_CTRL (goWord op v) (writeHwdOpCtrl m flash (goWord op v)) s

/-- INSTALL_FW (R419). -/
def execInstallFw (m : Nat) (v : Word) (flash : Bool) (s : State) : Result := .next (runOp 1 m flash v s)

/-- VERIFY_WORK (R416). -/
def execVerifyWork (m : Nat) (v : Word) (s : State) : Result := .next (runOp 2 m true v s)

/-- DEBUG_UNLOCK (R430). -/
def execDebugUnlock (m : Nat) (v : Word) (s : State) : Result := .next (runOp 3 m true v s)

/-- ATTEST (R425). -/
def execAttest (m : Nat) (v : Word) (s : State) : Result := .next (runOp 4 m true v s)

/-- KEM (R426). -/
def execKem (m : Nat) (v : Word) (s : State) : Result := .next (runOp 5 m true v s)

/-- OWNER_PROG (R424). -/
def execOwnerProg (m : Nat) (v : Word) (s : State) : Result := .next (runOp 6 m true v s)

/-- OWNER_REVOKE (R424). -/
def execOwnerRevoke (m : Nat) (v : Word) (s : State) : Result := .next (runOp 7 m true v s)

/-! ## HWD_CTRL (R419, R420, R431) -/

/-- CONFIRM makes the TRIAL slot ACTIVE. -/
def hwdConfirm (s : State) : State :=
  if s.hwd.trial then
    { s with hwd := { s.hwd with trial := false, sel := { gen := s.hwd.sel.gen + 1, slot := s.hwd.running } } }
  else s

/-- Whether a counter may be advanced: by the ACTIVE Steward or a KIND 1 command, once the running slot is confirmed. -/
def mayAdvance (s : State) (m : Nat) : Bool := (isActiveSteward s m || kindOne s m) && !s.hwd.trial

/-- ADVANCE_FW_SVN. -/
def advanceFw (m : Nat) (s : State) : State :=
  if mayAdvance s m then { s with hwd := { s.hwd with fwSvn := max s.hwd.fwSvn (min 64 s.hwd.runSvn) } }
  else refuseCfg hwdPage s

/-- ADVANCE_WORK_SVN. -/
def advanceWork (m : Nat) (s : State) : State :=
  if mayAdvance s m then { s with hwd := { s.hwd with workSvn := max s.hwd.workSvn (min 64 (s.hwd.work.getD 0)) } }
  else refuseCfg hwdPage s

/-- A write of HWD_CTRL, in bit order (R473). -/
def writeHwdCtrl (m : Nat) (v : Word) (s : State) : State :=
  actIf v 3 (advanceWork m) (actIf v 2 (advanceFw m) (actIf v 1 endUnlock (actIf v 0 hwdConfirm s)))

/-- CONFIRM (R419). -/
def execConfirm (m : Nat) (v : Word) (s : State) : Result :=
  .next (guardedWrite m hwdPage R.HWD_CTRL (v ||| 1#64) (writeHwdCtrl m (v ||| 1#64)) s)

/-- RELOCK (R431). -/
def execRelock (m : Nat) (v : Word) (s : State) : Result :=
  .next (guardedWrite m hwdPage R.HWD_CTRL (v ||| 2#64) (writeHwdCtrl m (v ||| 2#64)) s)

/-- ADVANCE_FW_SVN (R420). -/
def execAdvanceFwSvn (m : Nat) (v : Word) (s : State) : Result :=
  .next (guardedWrite m hwdPage R.HWD_CTRL (v ||| 4#64) (writeHwdCtrl m (v ||| 4#64)) s)

/-- ADVANCE_WORK_SVN (R420). -/
def execAdvanceWorkSvn (m : Nat) (v : Word) (s : State) : Result :=
  .next (guardedWrite m hwdPage R.HWD_CTRL (v ||| 8#64) (writeHwdCtrl m (v ||| 8#64)) s)

/-- UNLOCK_EXPIRY (R431): DURATION_S has passed on the block's own clock. -/
def execUnlockExpiry (s : State) : Result :=
  match s.hwd.unlock with
  | none => .next s
  | some u => .next (endUnlock (advanceMono u.ends s))

/-! ## Write locks (R432) -/

/-- APPLY of HWD_LOCK: bits that set are the ACTIVE Steward's or a KIND 1 command's, bits that clear the command's alone. -/
def lockApply (m : Nat) (v : Word) (s : State) : State :=
  let p := fieldOf v 0 16
  let old := reg s p R.WRITE_LOCK
  let clears := (bitOf old 0 && !bitOf v 16) || (bitOf old 1 && !bitOf v 17)
  if !(kindOne s m || (isActiveSteward s m && !clears)) then refuseBit hwdPage S.LOCK_REFUSED s
  else if p ∉ headerPages then refuseCfg hwdPage s
  else setReg p R.WRITE_LOCK (BitVec.ofNat 64 (fieldOf v 16 2)) (storePlain hwdPage R.HWD_LOCK v s)

/-- A write of HWD_LOCK. -/
def writeHwdLock (m : Nat) (v : Word) (s : State) : State :=
  if bitOf v 18 then lockApply m v s else storePlain hwdPage R.HWD_LOCK v s

/-- LOCK_APPLY (R432). -/
def execLockApply (m : Nat) (v : Word) (s : State) : Result :=
  .next (guardedWrite m hwdPage R.HWD_LOCK (v ||| 0x40000#64) (writeHwdLock m (v ||| 0x40000#64)) s)

/-! ## Soft resets of the HWD and LDG pages (R72, R433) -/

/-- Every register but BOOT_NONCE, which only a full reset draws again, returns to its reset value; an unlock ends (R431), the
verified work image is forgotten. The keys stay, which only a full reset or a gating of PD4 loses (R427), and so do the fuses,
the flash and what was booted from it (R443). -/
def resetHwd (s : State) : State :=
  let s := endUnlock (resetRegs hwdPage R.HWD_CTRL 477 s)
  { s with hwd := { s.hwd with work := none } }

/-- LDG_CFG and LDG_CNT return to their reset values, and nothing else (R433). -/
def resetLdg (s : State) : State :=
  resetRegs ldgPage R.LDG_CFG 1 (resetRegs ldgPage R.LDG_CNT 5 { s with ldg := { s.ldg with hashed := 0 } })

end Sys2Proof.Machine
end

