-- ==== Sys2Proof/Machine/Power.lean ====
section
/-! DEFINITION. Power domains, resets, start, orderly shutdown and the closing test (R438 to R452, R460, R461). -/

namespace Sys2Proof.Machine

/-- PWR page and CLT page (R67). -/
abbrev pwrPage : Nat := 0x3F0
abbrev cltPage : Nat := 0x3F1

/-! ## Domains (R438) -/

/-- Domains in the order of a start (R446); a request powers in this order and gates in its reverse (R439). -/
def startOrder : List Nat :=
  [0, 20, 1, 2, 3, 4, 17, 18, 19, 9, 10, 11, 12, 5, 6, 7, 8, 13, 14, 15, 16, 21, 22, 23]

/-- Domains a domain requires (R438). -/
def domainNeeds (d : Nat) : List Nat :=
  if 5 ≤ d ∧ d ≤ 8 then [d + 4]
  else if d = 9 ∨ d = 10 then [2, 18]
  else if d = 11 ∨ d = 12 then [2, 19]
  else []

/-- Pages of a domain. -/
def domainPages (d : Nat) : List Nat := headerPages.filter (fun p => decide (domainOf p = d))

/-- Marks a domain powered or gated in PWR_DOMAIN_STATUS. -/
def setDomain (d : Nat) (on : Bool) (s : State) : State :=
  setReg pwrPage R.PWR_DOMAIN_STATUS (withBit (reg s pwrPage R.PWR_DOMAIN_STATUS) d on) s

/-- A page loses its registers and detectors; its latch is held in PD0, its unit stays retired (R78, R163, R439). -/
def clearPage (p : Nat) (s : State) : State :=
  let claim := reg s p R.CLAIM
  let ret := fld s p F.PAGE_STATUS_RETIRED
  let s := resetRegs p 0 512 s
  let s := { s with armed := s.armed.filter (fun a => decide (a.page ≠ p)), retry := alSet [] s.retry p [] }
  setFld p F.PAGE_STATUS_RETIRED ret (setReg p R.CLAIM claim s)

/-! ## Gating (R440) -/

/-- Open reservations of a producer are rewound. -/
def rewindMaster (m : Nat) (s : State) : State :=
  s.rng.rings.foldl (fun s e =>
    match openSpan s e.1 m with
    | some q => ringRewind e.1 q.start s
    | none => s) s

/-- The lathes and Chisel-S cores of C-die `d` lose their state. -/
def gateCompute (d : Nat) (s : State) : State :=
  let s := { s with sch := { s.sch with lathes := s.sch.lathes.filter (fun e => decide (e.1 / 68 ≠ d)) } }
  { s with chs := { s.chs with cores := s.chs.cores.filter (fun e => decide (64 ≤ e.1 ∨ e.1 / 16 ≠ d)) } }

/-- The roughing engines and Faceplates of C-die `d` lose their state. -/
def gateIngest (d : Nat) (s : State) : State :=
  let s := (List.range 16).foldl (fun s i => setRchQueue (16 * d + i) [] (rchForget (16 * d + i) s)) s
  let s := (List.range 4).foldl (fun s i => resetFaceplate (4 * d + i) s) s
  { s with fpl := { s.fpl with
      transit := s.fpl.transit.filter (fun o => decide (o.fpl / 4 ≠ d))
      slots := s.fpl.slots.filter (fun e => decide (e.1 / 1024 ≠ d)) } }

/-- Scheduler, Tally and Gouge of C-die `d` lose their state; records in progress are rewound (R246). -/
def gateResults (d : Nat) (s : State) : State :=
  let s := rewindMaster (36 + d) (rewindMaster (40 + d) (rewindMaster (32 + d) s))
  let s := (List.range 16).foldl (fun s r => dropFences (planFence d r) (dropFences (wsetFence d r) s)) s
  let s := { s with sch := { s.sch with
      dies := s.sch.dies.filter (fun e => decide (e.1 ≠ d))
      plans := s.sch.plans.filter (fun e => decide (e.1 / 16 ≠ d)) } }
  let s := { s with tly := { s.tly with dies := s.tly.dies.filter (fun e => decide (e.1 ≠ d)) } }
  let out (k : Nat) : Bool := decide (k / 16 ≠ d)
  { s with gge := { s.gge with
      wsets := s.gge.wsets.filter (fun e => out e.1), dets := s.gge.dets.filter (fun e => out e.1)
      powers := s.gge.powers.filter (fun e => out e.1), volts := s.gge.volts.filter (fun e => decide (e.1 ≠ d))
      frozen := s.gge.frozen.filter (fun e => out e.1), held := s.gge.held.filter (fun e => out e.1) } }

/-- A Spur lane of a gated domain: DOWN, its training forgotten (R440). -/
def gateSpur (n : Nat) (s : State) : State :=
  let s := sprDown n s
  if (sprLane s n).st = .retired then s else setSprLane n {} s

/-- A stack of a gated domain enters self-refresh where it was in service; its queues are empty (R334). -/
def gateStack (k : Nat) (s : State) : State :=
  let old := reg s (hbmPage k) R.HBM_STATUS
  let st := fieldOf old 0 3
  let s := (clearPage (hbmPage k) s)
  let s := setReg (hbmPage k) R.HBM_STATUS (withField old 0 3 (if st = 2 ∨ st = 3 then 3 else 0)) s
  { s with hbm := { s.hbm with pcs := s.hbm.pcs.filter (fun e => decide (e.1 / 32 ≠ k)) } }

/-- What gating does to the blocks of a domain, beyond their registers (R427, R440). -/
def gateBlocks (d : Nat) (s : State) : State :=
  if d = 1 then { s with mrk := {}, dma := {}, tbs := {}, routes := [], evtCounts := [], evtQA := [], evtQB := [] }
  else if d = 2 then rngReset s
  else if d = 3 then
    (List.range 2).foldl (fun s k => freshSteward k none (emptyQueue k (setStewardClaim k 0 (setStewardState k 0 s)))) s
  else if d = 4 then
    let ports := s.eth.ports.map (fun e => (e.1, { e.2 with sas := [], txAn := [] }))
    let s := { s with eth := { s.eth with ports := ports } }
    { s with hwd := { s.hwd with sessions := [] }, cmd := {} }
  else if 5 ≤ d ∧ d ≤ 8 then gateCompute (d - 5) s
  else if 9 ≤ d ∧ d ≤ 12 then gateResults (d - 9) (gateIngest (d - 9) s)
  else if d = 13 then (List.range 32).foldl (fun s n => gateSpur n s) s
  else if d = 14 then (List.range 32).foldl (fun s n => gateSpur (32 + n) s) s
  else if d = 15 then (List.range 4).foldl (fun s z => resetZhk z s) s
  else if d = 16 then (List.range 4).foldl (fun s p => resetEth p 0 (ethEnable p false s)) s
  else if d = 17 then (List.range 2).foldl (fun s p => resetEth (4 + p) 0 (ethEnable (4 + p) false s)) s
  else if d = 18 then gateStack 1 (gateStack 0 s)
  else if d = 19 then gateStack 3 (gateStack 2 s)
  else if d = 21 then (List.range 28).foldl (fun s c => setFldFailed c true (setFldChan c {} s)) s
  else if d = 22 then (List.range 4).foldl (fun s c => setFldFailed (28 + c) true (setFldChan (28 + c) {} s)) s
  else if d = 23 then { s with chs := { s.chs with cores := s.chs.cores.filter (fun e => decide (e.1 < 64)) } }
  else s

/-- A domain is gated: its blocks, then its registers. A stack's status tells what to restore. -/
def gateDomain (d : Nat) (s : State) : State :=
  if !domainOn s d then s
  else
    let s := gateBlocks d s
    let pages := (domainPages d).filter (fun p => decide (p < 0x230 ∨ 0x233 < p))
    setDomain d false (pages.foldl (fun s p => clearPage p s) s)

/-! ## Powering (R182, R339, R411, R440, R441, R460) -/

/-- Seats are bound by the retire list (R182): seat k to lathe k of the die, else to the lowest free spare, else bare. -/
def bindSeats (d : Nat) (s : State) : State :=
  let s := (List.range 68).foldl (fun s i =>
    setFld (lthPage (68 * d + i)) F.LTH_STATUS_CARRIES noLathe
      (setFld (lthPage (68 * d + i)) F.LTH_STATUS_SPARE (if latheSpare i then 1 else 0) s)) s
  let s := (List.range 64).foldl (fun s k =>
    setFld (schPage d) (F.SCH_SEAT_MOVED.at k) 0 (setFld (schPage d) (F.SCH_SEAT_PENDING.at k) noLathe
      (setFld (schPage d) (F.SCH_SEAT_LATHE.at k) (68 * d + k) s))) s
  (List.range 64).foldl (fun s k =>
    let n := 68 * d + k
    if !pageRetired s (lthPage n) then s
    else
      match (freeSpares s d).head? with
      | some x =>
        setFld (lthPage x) F.LTH_STATUS_CARRIES n (setFld (lthPage x) F.LTH_STATUS_SPARE 0
          (setFld (schPage d) (F.SCH_SEAT_LATHE.at k) x s))
      | none => setFld (schPage d) (F.SCH_SEAT_LATHE.at k) noLathe s) s

/-- Nominal voltage of a rail in mV (R459, R460). -/
def railNominal (k : Nat) : Int :=
  if k < 4 then 720 + 5 * (min 16 (Config.vid k) : Nat)
  else [800, 850, 900, 1200, 1800, 1100, 400, 1800, 5000, 15000, -15000].getD (k - 4) 0

/-- A PMBus transaction with the regulator of a rail leaves: 0 VOUT_COMMAND in mV, 1 OPERATION, 2 a read of STATUS_WORD. -/
def pmbus (k cmd val : Nat) (s : State) : State := send .pmbus (0x40 + k) [cmd, val] s

/-- Training values of a stack, committed (R339). -/
def setTraining (k : Nat) (l : List Byte) (s : State) : State :=
  { s with pwr := { s.pwr with training := sparseInsert (sparseErase s.pwr.training k) k l } }

/-- Full training of a stack (R339). -/
def trainStack (env : PowerEnv) (k : Nat) (s : State) : State :=
  let p := hbmPage k
  if k ∈ env.failed then setSticky p S.HBM_TRAIN_FAIL (setFld p F.HBM_STATUS_STATE 4 s)
  else
    let l := (List.range 512).map (Config.trainingByte k s.free)
    setFld p F.HBM_STATUS_QUICK 0 (setFld p F.HBM_STATUS_STATE 2 (setTraining k l { s with free := s.free + 1 }))

/-- Committed values are restored and verified, or the stack is fully trained (R339, R440). -/
def restoreStack (env : PowerEnv) (k : Nat) (s : State) : State :=
  if k ∈ env.misses then trainStack env k (setSticky (hbmPage k) S.HBM_QUICK_MISS s)
  else setFld (hbmPage k) F.HBM_STATUS_QUICK 1 (setFld (hbmPage k) F.HBM_STATUS_STATE 2 s)

/-- A stack is powered: restored where it holds committed values, else trained. -/
def powerStack (env : PowerEnv) (k : Nat) (s : State) : State :=
  if (sparseFind s.pwr.training k).isSome then restoreStack env k s else trainStack env k s

/-- The regulator of a C-die is set and turned on before its first domain is powered; answers whether it obeyed (R460). -/
def powerRail (env : PowerEnv) (d : Nat) (s : State) : Bool × State :=
  if domainOn s (5 + d) || domainOn s (9 + d) then (true, s)
  else
    let real := decide (d ∈ env.dead)
    let x := evalDetector pwrPage S.PWR_PMBUS_FAIL real s
    if x.1 then (false, setSticky pwrPage S.PWR_PMBUS_FAIL x.2)
    else
      (true, setFld pwrPage (F.PWR_RAIL_TARGET_MV.at d) (railNominal d).toNat
        (pmbus d 1 1 (pmbus d 0 (railNominal d).toNat x.2)))

/-- Retired lanes of an Ethernet port show in its status (R381, R411). -/
def showEthLanes (p : Nat) (s : State) : State :=
  (portLanesOf p).foldl (fun s l =>
    if rlListed s 7 (4 * p + l) then
      setReg (ethPage p) R.ETH_STATUS (withBit (reg s (ethPage p) R.ETH_STATUS) (4 + l) true) s
    else s) s
where
  /-- Lanes of a port. -/
  portLanesOf (p : Nat) : List Nat := List.range (portLanes p)

/-- What powering does to the blocks of a domain: they start at reset. -/
def powerBlocks (env : PowerEnv) (d : Nat) (s : State) : State :=
  if d = 3 then (List.range 2).foldl (fun s k => freshSteward k none (setStewardState k 1 s)) s
  else if 5 ≤ d ∧ d ≤ 8 then
    (List.range 16).foldl (fun s i =>
      let n := 16 * (d - 5) + i
      if pageRetired s (chsPage n) then updChs n (fun c => { c with st := .retired }) s else s) s
  else if 9 ≤ d ∧ d ≤ 12 then bindSeats (d - 9) s
  else if d = 16 then (List.range 4).foldl (fun s p => showEthLanes p s) s
  else if d = 18 then powerStack env 1 (powerStack env 0 s)
  else if d = 19 then powerStack env 3 (powerStack env 2 s)
  else if d = 23 then
    (List.range 4).foldl (fun s i =>
      if pageRetired s (chsPage (64 + i)) then updChs (64 + i) (fun c => { c with st := .retired }) s else s) s
  else s

/-- A domain is powered where the domains it requires are on and, for a C-die, its regulator obeys (R438, R460). -/
def powerDomain (env : PowerEnv) (d : Nat) (s : State) : State :=
  if domainOn s d || !(domainNeeds d).all (domainOn s) then s
  else if 5 ≤ d ∧ d ≤ 12 then
    let r := powerRail env ((d - 5) % 4) s
    if r.1 then powerBlocks env d (setDomain d true r.2) else r.2
  else powerBlocks env d (setDomain d true s)

/-! ## PWR_DOMAIN_REQ (R439) -/

/-- Whether a request gates a domain that is on. -/
def reqGates (s : State) (req d : Nat) : Bool := domainOn s d && !req.testBit d

/-- Whether a plan or tally context of C-die `d` is valid. -/
def dieInUse (s : State) (d : Nat) : Bool := !(plansOf s d).isEmpty || (List.range 16).any (fun c => (ctxOf s d c).valid)

/-- The first failing check of a request, 0 for none. -/
def domainCheck (s : State) (m req : Nat) : Nat :=
  if armedRef s && !(isActiveSteward s m || kindOne s m) then 1
  else if [0, 1, 4, 17, 20].any (reqGates s req) || (armedRef s && reqGates s req 3) then 2
  else if (List.range 4).any (fun d => (reqGates s req (5 + d) || reqGates s req (9 + d)) && dieInUse s d) then 3
  else if (List.range 24).any (fun d => req.testBit d && !(domainNeeds d).all (fun n => req.testBit n)) then 4
  else 0

/-- A write of PWR_DOMAIN_REQ. -/
def writeDomainReq (m : Nat) (env : PowerEnv) (v : Word) (s : State) : State :=
  let req := fieldOf v 0 24
  let r := domainCheck s m req
  let s := setFld pwrPage F.PWR_DOMAIN_STATUS_RESULT r s
  if r ≠ 0 then refuseBit pwrPage S.PWR_GATE_REFUSED s
  else
    let s := setReg pwrPage R.PWR_DOMAIN_REQ (BitVec.ofNat 64 req) s
    let s := startOrder.reverse.foldl (fun s d => if req.testBit d then s else gateDomain d s) s
    refreshPins (startOrder.foldl (fun s d => if req.testBit d then powerDomain env d s else s) s)

/-- PWR_DOMAIN_REQ (R439). -/
def execPwrDomainReq (m : Nat) (v : Word) (env : PowerEnv) (s : State) : Result :=
  .next (guardedWrite m pwrPage R.PWR_DOMAIN_REQ v (writeDomainReq m env v) s)

/-! ## Rails, power and temperature (R441, R442, R460) -/

/-- Target of a rail in mV as its register shows it. -/
def railTarget (s : State) (k : Nat) : Int :=
  let t := fld s pwrPage (F.PWR_RAIL_TARGET_MV.at k)
  if k = 14 then toSigned 16 t else t

/-- Whether a voltage lies outside a tolerance in parts per thousand of its target. -/
def railOutside (mv target : Int) (perMille : Nat) : Bool :=
  decide (target ≠ 0 ∧ perMille * target.natAbs < 1000 * (mv - target).natAbs)

/-- One rail is read. -/
def readRail (x : Nat × Int × Nat) (s : State) : State :=
  let k := x.1
  if 15 ≤ k then s
  else
    let s := if k < 4 then s else setFld pwrPage (F.PWR_RAIL_TARGET_MV.at k) (ofSigned 16 (railNominal k)) s
    setFld pwrPage (F.PWR_RAIL_CURRENT.at k) (x.2.2 % 65536) (setFld pwrPage (F.PWR_RAIL_MV.at k) (ofSigned 16 x.2.1) s)

/-- RAIL_MONITOR (R441). -/
def execRailMonitor (rails : List (Nat × Int × Nat)) (watts : Nat) (s : State) : Result :=
  let s := rails.foldl (fun s x => readRail x s) s
  let out := fun (s : State) (n : Nat) => rails.any (fun x => decide (x.1 < 15) && railOutside x.2.1 (railTarget s x.1) n)
  let w := evalDetector pwrPage S.PWR_RAIL_WARN (out s 25) s
  let s := stickyIf w.1 pwrPage S.PWR_RAIL_WARN w.2
  let f := evalDetector pwrPage S.PWR_RAIL_FAULT (out s 50) s
  let s := stickyIf f.1 pwrPage S.PWR_RAIL_FAULT f.2
  let now := min 65535 watts
  let s := setFld pwrPage F.PWR_POWER_PEAK_W (max now (fld s pwrPage F.PWR_POWER_PEAK_W)) (setFld pwrPage F.PWR_POWER_NOW_W now s)
  let h := evalDetector pwrPage S.PWR_POWER_HIGH (decide (fld s pwrPage F.PWR_CFG_POWER_WARN_W < watts)) s
  .next (stickyIf h.1 pwrPage S.PWR_POWER_HIGH h.2)

/-- The upper Tj limit of the ordering code, °C (R1). -/
def tjLimit : Int := if Config.extendedTemp then 105 else 95

/-- A junction temperature is reported: TEMP_HIGH as it rises above the limit (R442). -/
def reportTj (die : Nat) (tj : Int) (s : State) : State :=
  let hot := decide (tjLimit < tj)
  let was := s.pwr.hot.testBit die
  let s := setReg pwrPage R.PWR_TEMP (withField (reg s pwrPage R.PWR_TEMP) (8 * die) 8 (ofSigned 8 tj)) s
  let h := if hot = was then s.pwr.hot else s.pwr.hot ^^^ 2 ^ die
  let d := evalDetector pwrPage S.PWR_TEMP_HIGH (hot && !was) { s with pwr := { s.pwr with hot := h } }
  stickyIf d.1 pwrPage S.PWR_TEMP_HIGH d.2

/-- TEMP_HIGH (R442). -/
def execTempHigh (die : Nat) (tj : Int) (s : State) : Result := .next (if die < 6 then reportTj die tj s else s)

/-- The regulators of the C-dies are turned off; one that does not acknowledge sets PMBUS_FAIL (R460). -/
def railsOff (dead : List Nat) (s : State) : State :=
  (List.range 4).foldl (fun s d =>
    let x := evalDetector pwrPage S.PWR_PMBUS_FAIL (decide (d ∈ dead)) (setFld pwrPage (F.PWR_RAIL_TARGET_MV.at d) 0 s)
    if x.1 then setSticky pwrPage S.PWR_PMBUS_FAIL x.2 else pmbus d 1 0 x.2) s

/-- ENABLE of every field channel is cleared: the fail-safe state with cause DISABLED. -/
def fieldOff (s : State) : State :=
  (List.range 32).foldl (fun s c =>
    if pageGated s (fldPage c) then s else fldJudge c (setFld (fldPage c) F.PAGE_CTRL_ENABLE 0 s)) s

/-- The thermal trip (R442, R460). -/
def thermalTrip (dead : List Nat) (s : State) : State :=
  let s := fieldOff (setSticky pwrPage S.PWR_TEMP_TRIP s)
  let keep : List Nat := [0, 1, 2, 3, 4, 17, 20]
  refreshPins (railsOff dead (startOrder.reverse.foldl (fun s d => if d ∈ keep then s else gateDomain d s) s))

/-- TEMP_TRIP (R442): above the limit by more than TRIP_MARGIN. -/
def execTempTrip (die : Nat) (tj : Int) (dead : List Nat) (s : State) : Result :=
  if 6 ≤ die then .next s
  else
    let s := reportTj die tj s
    let d := evalDetector pwrPage S.PWR_TEMP_TRIP (decide (tjLimit + fld s pwrPage F.PWR_CFG_TRIP_MARGIN < tj)) s
    .next (if d.1 then thermalTrip dead d.2 else d.2)

/-- SMB_ALERT (R460): STATUS_WORD of every regulator is read. -/
def execSmbAlert (faults dead : List Nat) (s : State) : Result :=
  let s := (List.range 15).foldl (fun s k => pmbus k 2 0 s) s
  let x := evalDetector pwrPage S.PWR_PMBUS_FAIL (dead.any (fun k => decide (k < 15))) s
  let s := stickyIf x.1 pwrPage S.PWR_PMBUS_FAIL x.2
  let y := evalDetector pwrPage S.PWR_RAIL_FAULT (faults.any (fun k => decide (k < 15 ∧ k ∉ dead))) s
  .next (stickyIf y.1 pwrPage S.PWR_RAIL_FAULT y.2)

/-! ## Resets (R443, R444) -/

/-- Registers of the PWR page, kept by a full reset but for its lock (R443). -/
def pwrRegs (s : State) : WordTab :=
  (s.regs.filter (fun e => decide (e.1 / 0x1000 = pwrPage ∧ e.1 % 0x1000 ≠ R.WRITE_LOCK)))

/-- What the fuses and the flash hold of Heartwood. -/
def keptHwd (h : HwdState) : HwdState :=
  { owners := h.owners, fwSvn := h.fwSvn, workSvn := h.workSvn, slot0 := h.slot0, slot1 := h.slot1, sel := h.sel }

/-- A full reset (R443): everything outside PD0, the Referee, latches, grants, locks, device time, and BOOT_NONCE, which is
drawn again. The flash, the fuses, the PWR page and the always-on counter stay; the outputs fall to their safe levels. -/
def fullReset (s : State) : State :=
  let n := s.free
  let t : State := { State.reset with
    pending := s.pending, mono := s.mono, free := n + 2, out := s.out, rd := s.rd, wst := s.wst, regs := pwrRegs s,
    armed := s.armed.filter (fun a => decide (a.page = pwrPage)), retry := s.retry.filter (fun e => decide (e.1 = pwrPage)),
    rl := { areaA := s.rl.areaA, areaB := s.rl.areaB }, ldg := { slots := s.ldg.slots, gen := s.ldg.gen },
    hwd := keptHwd s.hwd, pwr := { aonBase := s.pwr.aonBase, hot := s.pwr.hot, area := s.pwr.area },
    pins := { s.pins with pulses := [] } }
  let t := setReg pwrPage R.PWR_DOMAIN_STATUS (withField (reg t pwrPage R.PWR_DOMAIN_STATUS) 0 24 1) t
  let t := setReg hwdPage R.HWD_BOOT_NONCE (Config.freeValue n) (setReg hwdPage (R.HWD_BOOT_NONCE + 8) (Config.freeValue (n + 1)) t)
  refreshPins t

/-- A power-on reset (R443): PD0 as well; AON_SESSION is drawn, AON_SECONDS begins at 0. -/
def powerOnReset (s : State) : State :=
  let t := fullReset s
  let t := { t with regs := t.regs.filter (fun e => decide (e.1 / 0x1000 ≠ pwrPage)), armed := [], retry := [], free := t.free + 1 }
  let t := setReg pwrPage R.PWR_AON_SESSION (Config.freeValue (t.free - 1)) t
  { t with pwr := { aonBase := t.mono, area := t.pwr.area } }

/-- POWER_ON (R443, R461). -/
def execPowerOn (s : State) : Result := .next (powerOnReset s)

/-- RESET_N (R443). -/
def execResetN (s : State) : Result := .next (fullReset s)

/-- Whether a master may reset or shut down: the ACTIVE Steward or a KIND 1 command, or any before ARM (R444, R448). -/
def mayControl (s : State) (m : Nat) : Bool := !armedRef s || isActiveSteward s m || kindOne s m

/-- A write of PWR_CTRL (R444). -/
def writePwrCtrl (m : Nat) (v : Word) (s : State) : State :=
  actIf v 0 (fun s => if mayControl s m then fullReset s else refuseCfg pwrPage s) s

/-- FULL_RESET (R444). -/
def execFullReset (m : Nat) (v : Word) (s : State) : Result :=
  .next (guardedWrite m pwrPage R.PWR_CTRL (v ||| 1#64) (writePwrCtrl m (v ||| 1#64)) s)

/-! ## Closing-test records (R451) -/

/-- Codes of KIND and RESULT of a record. -/
abbrev cltClosing : Nat := 1
abbrev cltStart : Nat := 2
abbrev cltConsumed : Nat := 3
abbrev cltPass : Nat := 1
abbrev cltFail : Nat := 2
abbrev cltNotRun : Nat := 3

/-- Bit of FAILED of a unit, by retire-list kind; kind 4 names a stack here. -/
def failedBit (kind unit : Nat) : Option Nat :=
  match kind with
  | 1 => if unit < 272 then some unit else none
  | 2 => if unit < 64 then some (340 + unit) else none
  | 3 => if unit < 32 then some (404 + unit) else none
  | 4 => if unit < 4 then some (454 + unit) else none
  | 5 => if unit < 64 then some (272 + unit) else none
  | 6 => if unit < 4 then some (336 + unit) else none
  | 7 => if unit < 16 then some (436 + unit) else if unit = 16 then some 452 else if unit = 20 then some 453 else none
  | _ => none

/-- The FAILED bit map, 80 bytes. -/
def failedMap (units : List (Nat × Nat)) : List Byte :=
  leBytes 80 (((units.filterMap (fun u => failedBit u.1 u.2)).dedup.map (2 ^ ·)).sum)

/-- The training blocks of a record. -/
def trainingBytes (s : State) : List Byte :=
  (List.range 4).flatMap (fun k => (sparseFind s.pwr.training k).getD (List.replicate 512 0))

/-- Generation of the next record. -/
def nextRecordGen (s : State) : Nat :=
  match s.pwr.area.head? with
  | some l => byteField l 16 8 + 1
  | none => 1

/-- A record without its signature. -/
def recordBody (s : State) (kind result notRun groups ms : Nat) (units : List (Nat × Nat)) (training : List Byte) : List Byte :=
  [0x54, 0x5A, 0x43, 0x54] ++ leBytes 1 kind ++ leBytes 1 result ++ leBytes 1 notRun ++ leBytes 1 0 ++ leBytes 2 groups
    ++ leBytes 6 0 ++ leBytes 8 (nextRecordGen s) ++ leBytes 8 (reg s pwrPage R.PWR_AON_SESSION).toNat
    ++ leBytes 4 (aonSeconds s) ++ leBytes 4 ms ++ leBytes 8 (if timeValid s then timeSeconds (devTime s) else 0)
    ++ identityHash ++ runningMeasure s ++ failedMap units ++ training

/-- A signed record is written as the next generation of the area, which keeps two copies (R414, R451). -/
def writeRecord (body : List Byte) (s : State) : State :=
  let s := countSignature s
  let l := body ++ signature s
  let s := setFld cltPage F.CLT_STATUS_GROUPS (byteField body 8 2) s
  { s with pwr := { s.pwr with area := l :: s.pwr.area.take 1 } }

/-- Whether a domain of a list is among those of a mask. -/
def anyDomain (mask : Nat) (l : List Nat) : Bool := l.any (fun d => mask.testBit d)

/-- Domains with units of a test group (R450). -/
def groupDomains (g : Nat) : List Nat :=
  [[5, 6, 7, 8], [2, 5, 6, 7, 8, 9, 10, 11, 12, 23], [18, 19], [13, 14], [15], [16, 17], [5, 6, 7, 8, 23]].getD g []

/-- Group of a failing unit, by retire-list kind. -/
def unitGroup (kind : Nat) : Nat := [7, 0, 3, 4, 2, 6, 6, 5].getD kind 7

/-- GROUPS of a test on the domains of a mask: 0 not tested, 1 PASS, 2 FAIL. -/
def groupCodes (mask : Nat) (units : List (Nat × Nat)) (sram : Bool) : Nat :=
  ((List.range 7).map (fun g =>
    if !anyDomain mask (groupDomains g) then 0
    else if units.any (fun u => decide (unitGroup u.1 = g)) || (sram && decide (g = 1)) then 2 * 4 ^ g else 4 ^ g)).sum

/-- Whether every group of a record is PASS. -/
def allPass (groups : Nat) : Bool := decide (groups = 0x1555)

/-! ## Start (R411, R417, R445 to R447) -/

/-- Page of a retirable unit that has one of its own. -/
def unitPage (kind unit : Nat) : Option Nat :=
  match kind with
  | 1 => if unit < 272 then some (lthPage unit) else none
  | 2 => if unit < 64 then some (sprPage unit) else none
  | 5 => if unit < 64 then some (chsPage unit) else none
  | 6 => if unit < 4 then some (chsPage (64 + unit)) else none
  | _ => none

/-- A row of the retire list: its repair is applied again, or it is fenced (R337, R338, R411). -/
def applyRow (u : Nat) (s : State) : State :=
  if u ∈ s.hbm.retired then s
  else
    let bank := u / 2 ^ 15
    let page := hbmPage (u / 2 ^ 26 % 4)
    let used := ntGet s.hbm.repairs bank
    let h := { s.hbm with retired := u :: s.hbm.retired }
    let s := countFld page F.HBM_STATUS_ROWS_RETIRED 1
      { s with hbm := if used < 2 then { h with repairs := ntSet h.repairs bank (used + 1) } else { h with fenced := u :: h.fenced } }
    if used < 2 then s else countFld page F.HBM_STATUS_ROWS_FENCED 1 s

/-- An entry of the retire list is applied (R411). -/
def applyEntry (s : State) (w : Word) : State :=
  let kind := fieldOf w 0 8
  let u := fieldOf w 8 32
  let s := match unitPage kind u with
    | some p => setFld p F.PAGE_STATUS_RETIRED 1 s
    | none => s
  match kind with
  | 2 => if u < 64 then setSprLane u { sprLane s u with st := .retired } s else s
  | 3 =>
    if 32 ≤ u then s
    else
      let s := setZhkLane u { zhkLane s u with st := .retired } s
      let z := u / 8
      if groupRetired s z 0 && groupRetired s z 1 then setFld (zhkPage z) F.PAGE_STATUS_RETIRED 1 s
      else useGroup z (1 - u % 8 / 4) s
  | 4 => applyRow u s
  | 5 => if u < 64 then updChs u (fun c => { c with st := .retired }) s else s
  | 6 => if u < 4 then updChs (64 + u) (fun c => { c with st := .retired }) s else s
  | 7 =>
    let p := u / 4
    if 6 ≤ p then s
    else
      let s := setReg (ethPage p) R.ETH_STATUS (withBit (reg s (ethPage p) R.ETH_STATUS) (4 + u % 4) true) s
      if (List.range (portLanes p)).all (laneRetired s p) then setFld (ethPage p) F.PAGE_STATUS_RETIRED 1 s else s
  | _ => s

/-- The retire list of the newer valid copy, without what was removed; empty with LIST_INVALID where none verifies (R411). -/
def loadList (bad : List Nat) (s : State) : State :=
  let copies := ((if 0 ∈ bad then [] else s.rl.areaA.toList) ++ (if 1 ∈ bad then [] else s.rl.areaB.toList)).filter (·.valid)
  let best := copies.foldl (fun a c =>
    match a with
    | none => some c
    | some b => if b.gen < c.gen then some c else a) none
  match best with
  | some c =>
    let l := { s.rl with entries := c.entries.filter (fun w => !bitOf w 40), gen := c.gen, changes := 0 }
    { s with rl := l }
  | none => setSticky stwPage S.STW_LIST_INVALID { s with rl := { s.rl with entries := [], gen := 0, changes := 0 } }

/-- EPOCH of the start, and LEDGER_SEQ of RESUME (R436). -/
def openEpoch (s : State) : State :=
  let e := (s.ldg.slots.map (·.epoch)).foldl max 0 + 1
  let first := match bestCheckpoint s with
    | some p => byteField p 0 8 + 1
    | none => 0
  let s := setReg ldgPage R.LDG_SEQ (BitVec.ofNat 64 first) (setFld ldgPage F.LDG_STATUS_EPOCH e s)
  if s.ldg.noIdentity then s
  else
    let s := countSignature s
    let x : LdgSlot := ⟨s.ldg.gen, true, e, []⟩
    { s with ldg := { s.ldg with slots := (x :: s.ldg.slots).take 2048, gen := s.ldg.gen + 1 } }

/-- Heartwood's part of a start (R417): identity, firmware slot, Stewards, retire list and epoch. -/
def startHeartwood (env : StartEnv) (s : State) : State :=
  let s := setMeasure 2 identityHash s
  let s := if env.idOk then s
    else setSticky hwdPage S.HWD_IDENTITY_FAIL { s with ldg := { s.ldg with noIdentity := true } }
  let s := bootFirmware env.damaged s
  if s.hwd.recovery then
    (List.range 2).foldl (fun s k => setStewardState k 0 s) s
  else openEpoch (loadList env.badLists s)

/-- Whether the start is quick (R445). -/
def startQuick (s : State) : Bool :=
  match s.pwr.area.head? with
  | none => false
  | some l =>
    flag s cltPage F.CLT_CFG_QUICK_EN && !s.ldg.noIdentity &&
    decide (byteField l 4 1 = cltClosing ∧ byteField l 5 1 = cltPass ∧ allPass (byteField l 8 2) = true ∧
      byteField l 24 8 = (reg s pwrPage R.PWR_AON_SESSION).toNat ∧ aonSeconds s - byteField l 32 4 < 3888000 ∧
      (l.drop 48).take 64 = identityHash ∧ (l.drop 112).take 64 = runningMeasure s)

/-- Step 4 of a start: the record examined, QUICK and AGE_S, then CONSUMED (R445, R446). A quick start takes the training
values of the record. -/
def startDecide (s : State) : Bool × State :=
  let q := startQuick s
  let age := match s.pwr.area.head? with
    | some l => if byteField l 24 8 = (reg s pwrPage R.PWR_AON_SESSION).toNat then aonSeconds s - byteField l 32 4 else 2 ^ 32 - 1
    | none => 0
  let s := setFld cltPage F.CLT_STATUS_AGE_S age (setFld cltPage F.CLT_STATUS_QUICK (if q then 1 else 0) s)
  let rec' := s.pwr.area.headD []
  let s := if !q then s
    else
      let s := (List.range 4).foldl (fun s k =>
        let l := (rec'.drop (256 + 512 * k)).take 512
        if l.all (fun b => decide (b = 0)) then s else setTraining k l s) s
      setFld cltPage F.CLT_STATUS_LAST_RESULT cltPass { s with pwr := { s.pwr with used := some rec' } }
  (q, if s.ldg.noIdentity then s else writeRecord (recordBody s cltConsumed 0 0 0 0 [] (List.replicate 2048 0)) s)

/-- Power domain of a unit, by retire-list kind; kind 4 names a stack here (R438). -/
def unitDomain (u : Nat × Nat) : Option Nat :=
  match u.1 with
  | 1 => if u.2 < 272 then some (5 + u.2 / 68) else none
  | 2 => if u.2 < 64 then some (13 + u.2 / 32) else none
  | 3 => if u.2 < 32 then some 15 else none
  | 4 => if u.2 < 4 then some (18 + u.2 / 2) else none
  | 5 => if u.2 < 64 then some (5 + u.2 / 16) else none
  | 6 => if u.2 < 4 then some 23 else none
  | 7 => if u.2 < 16 then some 16 else if u.2 = 16 ∨ u.2 = 20 then some 17 else none
  | _ => none

/-- The units of a list whose domain is among those of a mask: only they are tested (R447, R450). -/
def testedUnits (mask : Nat) (l : List (Nat × Nat)) : List (Nat × Nat) :=
  l.filter (fun u => (unitDomain u).any (mask.testBit ·))

/-- A unit that fails the start test is retired as at its threshold; a stack has failed its training (R339, R447). -/
def failUnit (s : State) (u : Nat × Nat) : State :=
  match u.1 with
  | 1 => retireUnit (lthPage u.2) 1 u.2 (setSticky (lthPage u.2) S.PERMANENT s)
  | 2 => retireSprLane u.2 (setSticky (sprPage u.2) S.PERMANENT s)
  | 3 => retireZhkLane (u.2 / 8) (u.2 % 8) (setSticky (zhkPage (u.2 / 8)) S.PERMANENT s)
  | 4 => setSticky (hbmPage u.2) S.HBM_TRAIN_FAIL (setFld (hbmPage u.2) F.HBM_STATUS_STATE 4 s)
  | 5 => retireUnit (chsPage u.2) 5 u.2 (updChs u.2 (fun c => { c with st := .retired }) (setSticky (chsPage u.2) S.PERMANENT s))
  | 6 =>
    let n := 64 + u.2
    retireUnit (chsPage n) 6 u.2 (updChs n (fun c => { c with st := .retired }) (setSticky (chsPage n) S.PERMANENT s))
  | 7 => retireEthLane (u.2 / 4) (u.2 % 4) (setSticky (ethPage (u.2 / 4)) S.PERMANENT s)
  | _ => s

/-- Step 6 of a full start: the start test (R447). -/
def startTest (env : StartEnv) (s : State) : State :=
  let on := fld s pwrPage F.PWR_DOMAIN_STATUS_ON
  let s := (testedUnits on env.units).foldl failUnit (advanceMono (s.mono + env.testMs * msUnits) s)
  let failedStacks := ((List.range 4).filter (fun k => decide (fld s (hbmPage k) F.HBM_STATUS_STATE = 4))).map (fun k => (4, k))
  let units := testedUnits on env.units ++ failedStacks
  let groups := groupCodes on units env.sram
  let res := if units.isEmpty && !env.sram then cltPass else cltFail
  let s := stickyIf env.sram cltPage S.CLT_START_FAIL s
  if s.ldg.noIdentity then s
  else
    let s := setFld cltPage F.CLT_STATUS_LAST_RESULT res s
    let s := writeRecord (recordBody s cltStart res 0 groups env.testMs units (trainingBytes s)) s
    { s with pwr := { s.pwr with used := s.pwr.area.head? } }

/-- Step 7: the retire list is applied, and the device is READY unless a stack or an SRAM failed (R339, R411, R447). -/
def startReady (sram : Bool) (s : State) : State :=
  let s := s.rl.entries.foldl applyEntry s
  let s := (List.range 4).foldl (fun s d => if domainOn s (9 + d) then bindSeats d s else s) s
  let failed := (List.range 4).any (fun k => decide (fld s (hbmPage k) F.HBM_STATUS_STATE = 4))
  if failed || sram then s else setFld 0 F.PAGE_STATUS_READY 1 s

/-- A start from the end of a reset (R446, R461). -/
def startDevice (env : StartEnv) (s : State) : State :=
  let early := [20, 1, 2, 3, 4, 17]
  let s := early.foldl (fun s d => setDomain d true s) s
  let s := setRailsOk (if s.field.rail then fld s fldGlb F.FLD_GLB_STATUS_AVDD_OK else 7) s
  let s := (List.range 2).foldl (fun s k => setSteward k {} (setStewardState k 1 s)) s
  let s := startHeartwood env s
  if s.hwd.recovery then s
  else
    let q := startDecide s
    let want := fld q.2 pwrPage F.PWR_CFG_START_ON
    let s := startOrder.foldl (fun s d => if want.testBit d then powerDomain env.power d s else s) q.2
    refreshPins (startReady (env.sram && !q.1) (if q.1 then s else startTest env s))

/-- START (R446): after a reset, once; while a rail of indices 4 to 11 is outside ±5% it waits at step 1 (R461). -/
def execStart (env : StartEnv) (s : State) : Result :=
  if fld s pwrPage F.PWR_DOMAIN_STATUS_ON ≠ 1 ∨ deviceReady s = true ∨ fld s cltPage F.CLT_STATUS_PHASE ≠ 0 then .next s
  else if env.rails.any (fun k => decide (4 ≤ k ∧ k ≤ 11)) then .next (setSticky pwrPage S.PWR_RAIL_FAULT s)
  else .next (startDevice env s)

/-! ## Orderly shutdown (R448 to R450) -/

/-- Step 1: every valid plan is made invalid at its next batch boundary. -/
def beginShutdown (s : State) : State :=
  let s := setFld cltPage F.CLT_STATUS_PHASE 1 s
  let s := { s with pwr := { s.pwr with shutAt := s.mono, shutOn := fld s pwrPage F.PWR_DOMAIN_STATUS_ON } }
  s.sch.plans.foldl (fun s e => stopPlan (e.1 / 16) (e.1 % 16) s) s

/-- A write of CLT_CTRL (R71, R448). -/
def writeCltCtrl (m : Nat) (v : Word) (s : State) : State :=
  actIf v 0 (fun s =>
    if !flag s cltPage F.PAGE_CTRL_ENABLE || !mayControl s m then refuseCfg cltPage s
    else if fld s cltPage F.CLT_STATUS_PHASE ≠ 0 then s
    else beginShutdown s) s

/-- SHUTDOWN (R448). -/
def execShutdown (m : Nat) (v : Word) (s : State) : Result :=
  .next (guardedWrite m cltPage R.CLT_CTRL (v ||| 1#64) (writeCltCtrl m (v ||| 1#64)) s)

/-- Whether a ring still holds a record to send. -/
def ringsFull (s : State) : Bool := s.rng.rings.any (fun e => e.2.valid && decide (0 < e.2.fill))

/-- Step 4: open reservations are rewound; the checkpoint of REASON 3 is taken, after 1 s where one was taken less than
that ago, persisted and committed. -/
def closeLedger (ok : Bool) (s : State) : State :=
  let s := s.rng.rings.foldl (fun s e =>
    (e.2.spans.filter (fun q => decide (q.st = .opened))).foldl (fun s q => ringRewind e.1 q.start s) s) s
  let s := ckptTrigger 3 (ckptCommit (ckptPersist ok s))
  let s := if s.ldg.pendingCkpt.isNone && !s.ldg.held.isEmpty then
      ckptStartHeld (advanceMono ((s.ldg.lastStart.map (· + 1000 * msUnits)).getD 0) s)
    else s
  ckptCommit (ckptPersist ok s)

/-- The conditions that keep the closing test from running, as cause bits (R449). -/
def notRunCause (env : CloseEnv) (s : State) : Nat :=
  (if env.rails.any (fun k => decide (k ≤ 11)) then 1 else 0)
    + (if fld s truPage F.TRU_STATUS_STATE = 2 then 0 else 2) + (if env.refOk then 0 else 4)
    + (if s.ldg.noIdentity then 8 else 0)

/-- Steps 5 and 6: the closing test and its record (R449 to R451). -/
def closingTest (env : CloseEnv) (s : State) : State :=
  let cause := notRunCause env s
  let s := setFld cltPage F.CLT_STATUS_NOT_RUN_CAUSE cause s
  let keep (result groups ms : Nat) (units : List (Nat × Nat)) (s : State) : State :=
    if s.ldg.noIdentity || !env.recordOk then s
    else writeRecord (recordBody s cltClosing result cause groups ms units (trainingBytes s)) s
  if cause ≠ 0 then keep cltNotRun 0 0 [] (setSticky cltPage S.CLT_NOT_RUN s)
  else
    let units := testedUnits s.pwr.shutOn env.units
    let groups := groupCodes s.pwr.shutOn units env.sram
    let fails := !units.isEmpty || env.sram
    let s := stickyIf fails cltPage S.CLT_GROUP_FAIL (advanceMono (s.mono + env.testMs * msUnits) s)
    keep (if fails then cltFail else cltPass) groups env.testMs units s

/-- Step 7: every domain but PD0 is gated, the stacks in self-refresh, until a full reset. -/
def shutOff (dead : List Nat) (s : State) : State :=
  let status := reg s cltPage R.CLT_STATUS
  let s := railsOff dead (startOrder.reverse.foldl (fun s d => if d = 0 then s else gateDomain d s) s)
  refreshPins (setReg cltPage R.CLT_STATUS (withField status 0 3 4) s)

/-- DRAIN_MS (R448): the shutdown leaves step 2, at its limit while a ring still holds a record, and runs to its end. -/
def execDrainMs (env : CloseEnv) (s : State) : Result :=
  if fld s cltPage F.CLT_STATUS_PHASE ≠ 1 then .next s
  else
    let s := if ringsFull s then advanceMono (s.pwr.shutAt + fld s cltPage F.CLT_CFG_DRAIN_MS * msUnits) s else s
    .next (shutOff env.dead (closingTest env (closeLedger env.ckptOk (fieldOff s))))

/-! ## Soft resets of the PWR, CLT and REF pages -/

/-- PWR: its configuration, and what it has measured; ON goes on showing the domains, which only a request or a reset of
their own gates (R439), and the always-on counter and session change at a power-on reset alone (R443). -/
def resetPwr (s : State) : State :=
  let on := fld s pwrPage F.PWR_DOMAIN_STATUS_ON
  let session := reg s pwrPage R.PWR_AON_SESSION
  let s := { resetBlockRegs pwrPage s with pwr := { s.pwr with hot := 0 } }
  setReg pwrPage R.PWR_AON_SESSION session (setFld pwrPage F.PWR_DOMAIN_STATUS_ON on s)

/-- CLT: its configuration and status; a shutdown in progress is abandoned with what it has committed (R452). -/
def resetClt (s : State) : State :=
  { resetBlockRegs cltPage s with pwr := { s.pwr with shutAt := 0, shutOn := 0 } }

end Sys2Proof.Machine
end

