-- ==== Sys2Proof/Machine/BusWrite.lean ====
section
/-! DEFINITION. Writes of the register space (R63 to R81, R473, R475): what each register does with a write that was not
turned away, the common header (R69 to R76), soft resets (R72) and injection (R75). -/

namespace Sys2Proof.Machine

/-! ## Block registers -/

/-- A write of 1 to bit 0 of a `_CNT_CLEAR` register clears `n` counters from `base` on. -/
def clearCounters (p base n : Nat) (v : Word) (s : State) : State := if bitOf v 0 then resetRegs p base n s else s

/-- Index of a register in an array of 8-byte registers. -/
def regIndex (base off : Nat) : Nat := (off - base) / 8

/-- Whether an offset lies in an array of `n` registers. -/
def inArray (base n off : Nat) : Bool := decide (base ≤ off ∧ off < base + 8 * n)

/-- Writes of the ingest registers that do more than store. -/
def writeIngest (b : Block) (p off : Nat) (v : Word) : Option (State → State) :=
  match b with
  | .spr =>
    let n := p - 0x10
    if off = R.SPR_SYNC_CMD then some (writeSyncCmd n v)
    else if off = R.SPR_ST_CTRL then some (writeStCtrl n v)
    else if off = R.SPR_CNT_CLEAR then some (clearCounters p R.SPR_CNT 11 v) else none
  | .rch =>
    let e := p - 0x50
    if off = R.RCH_CTRL then some (writeRchCtrl e v)
    else if off = R.RCH_CNT_CLEAR then some (writeRchCntClear e v) else none
  | .fpl =>
    let f := p - 0x90
    if off = R.FPL_CFG then some (writeFplCfg f v)
    else if off = R.FPL_SWAP then some (writeFplSwap f v)
    else if off = R.FPL_MODEL_CTRL then some (writeModelCtrl f v)
    else if off = R.FPL_COEF_DATA then some (writeCoefData f v)
    else if off = R.FPL_GAIN_DATA then some (writeGainData f v)
    else if off = R.FPL_MAP_CTRL then some (writeMapCtrl f v)
    else if off = R.FPL_REGION_CTRL then some (writeRegionCtrl f v)
    else if inArray R.FPL_REGION_ADDR 6 off && decide (f % 4 ≠ 0) then some id
    else if off = R.FPL_CNT_CLEAR then some (clearCounters p R.FPL_CNT 9 v) else none
  | _ => none

/-- Writes of the compute and result registers that do more than store. -/
def writeCompute (m : Nat) (b : Block) (p off : Nat) (v : Word) : Option (State → State) :=
  match b with
  | .lth =>
    if off = R.LTH_SNAP_CTRL then some (writeSnapCtrl (p - 0x100) v)
    else if off = R.LTH_CNT_CLEAR then some (clearCounters p R.LTH_CNT 8 v) else none
  | .sch =>
    if off = R.SCH_PLAN_CTRL then some (writePlanCtrl (p - 0x220) v)
    else if off = R.SCH_CNT_CLEAR then some (clearCounters p R.SCH_CNT 8 v) else none
  | .tly =>
    if off = R.TLY_CTX_CTRL then some (writeCtxCtrl (p - 0x224) v)
    else if off = R.TLY_CNT_CLEAR then some (clearCounters p R.TLY_CNT 11 v) else none
  | .gge =>
    let d := p - 0x228
    if off = R.GGE_WSET_CTRL then some (writeWsetCtrl d v)
    else if off = R.GGE_DET_CTRL then some (fun s => refreshPins (writeDetCtrl d v s))
    else if off = R.GGE_CNT_CLEAR then some (clearCounters p R.GGE_CNT 8 v)
    else if inArray R.GGE_DET_STATUS 16 off then
      some (fun s => refreshPins (writeDetStatus d (regIndex R.GGE_DET_STATUS off) v s))
    else if inArray R.GGE_LINE 16 off then some (fun s => refreshPins (writeLine m d (regIndex R.GGE_LINE off) v s)) else none
  | .chs | .chl =>
    let n := if b = .chs then p - 0x350 else 64 + (p - 0x394)
    if off = R.CHS_CTRL then some (writeChsCtrl n v)
    else if off = R.CHS_CFG then some (writeChsCfg n v)
    else if off = R.CHS_MEM_DATA then some (writeChsMem n v)
    else if off = R.CHL_HBASE then some (writeChlHbase n v)
    else if off = R.CHS_CNT_CLEAR then some (writeChsCntClear n v) else none
  | _ => none

/-- Writes of the memory, transport and network registers that do more than store. -/
def writeTransport (b : Block) (p off : Nat) (v : Word) : Option (State → State) :=
  match b with
  | .hbm => if off = R.HBM_CNT_CLEAR then some (clearCounters p R.HBM_CNT 6 v) else none
  | .xbr =>
    if off = R.XBR_PAIR_DATA then some (writePairData v)
    else if off = R.XBR_CNT_CLEAR then some (clearCounters p R.XBR_CNT 4 v) else none
  | .dma =>
    let c := (off - 0x100) / 0x40
    let ch := 8 * (p - 0x2C8) + c
    let o := 0x100 + (off - 0x100) % 0x40
    if off < 0x100 ∨ 0x300 ≤ off then none
    else if o = R.DMA_CH_CTRL then some (writeDmaCtrl ch none v)
    else if o = R.DMA_CH_DESC then some (writeDmaDesc ch v)
    else if o = R.DMA_CH_RD then some (writeDmaRd ch v) else none
  | .rng =>
    if off = R.RNG_CTRL then some (writeRngCtrl v)
    else if off = R.RNG_ADVANCE then some (writeRngAdvance v)
    else if inArray R.RNG_FCO 16 off then some (fun s => refreshPins (storePlain p off v s)) else none
  | .eth =>
    let k := p - 0x310
    if off = R.ETH_CFG then some (writeEthCfg k v)
    else if off = R.ETH_PFC then some (writeEthPfc k v)
    else if off = R.ETH_FLOW_CTRL then some (writeFlowCtrl k v)
    else if off = R.ETH_EEE then some (writeEthEee k v)
    else if off = R.ETH_CNT_CLEAR then some (writeEthCntClear k v) else none
  | .zhk =>
    let z := p - 0x320
    if off = R.ZHK_CNT_CLEAR then some (writeZhkCntClear z v)
    else if off < R.ZHK_GANG then none
    else if z ≠ 0 then some id
    else if off = R.ZHK_GANG then some (writeZhkGang v)
    else if inArray R.ZHK_REGION 16 off then some (writeZhkRegion (regIndex R.ZHK_REGION off) v)
    else if inArray R.ZHK_SHARED 16 off then some (writeZhkShared (regIndex R.ZHK_SHARED off) v) else none
  | .pci =>
    if off = R.PCI_BAR2_BASE then
      some (fun s => if v.toNat % 2 ^ 40 % 2 ^ 30 ≠ 0 ∨ 80 * 2 ^ 30 < v.toNat % 2 ^ 40 then refuseCfg p s else storePlain p off v s)
    else if off = R.PCI_CNT_CLEAR then some (clearCounters p R.PCI_CNT 4 v) else none
  | _ => none

/-- Writes of the time, clock and output registers that do more than store. -/
def writeOutput (m : Nat) (b : Block) (p off : Nat) (v : Word) : Option (State → State) :=
  match b with
  | .tbs =>
    if off = R.TBS_CFG then some (writeTbsCfg v)
    else if off = R.TBS_SET_SUB then some (writeTbsSet v)
    else if inArray R.TBS_TRIG_CFG 16 off then some (fun s => refreshPins (storePlain p off v s)) else none
  | .mrk => if off = R.MRK_CTRL then some (writeMrkCtrl m v) else none
  | .tru =>
    if inArray R.TRU_PRIO 8 off then some (writeTruPrio (regIndex R.TRU_PRIO off) v)
    else if inArray R.TRU_REF_CFG 12 off then some (writeTruRefCfg (regIndex R.TRU_REF_CFG off) v)
    else if inArray R.TRU_CLKOUT 8 off then some (writeTruClkout (regIndex R.TRU_CLKOUT off) v) else none
  | .fldg => if off = R.FLD_GLB_CTRL then some (writeFldGlb v) else none
  | .fld =>
    let c := p - 0x3A1
    if off = R.FLD_CH_CFG then some (writeFldCfg c v)
    else if off = R.FLD_CH_CTRL then some (writeFldCtrl c v)
    else if off = R.FLD_CH_SETPOINT then some (writeFldSetpoint c v)
    else if off = R.FLD_CH_CODES then some (writeFldCodes c v)
    else if off = R.FLD_CH_CNT_CLEAR then some (writeFldCntClear c v) else none
  | _ => none

/-- Writes of the supervision, trust and power registers that do more than store. -/
def writeSystem (m : Nat) (b : Block) (off : Nat) (v : Word) : Option (State → State) :=
  match b with
  | .stw => if off = R.STW_RL_CTRL then some (writeRlCtrl m v) else none
  | .ref =>
    if off = R.REF_CFG then some (writeRefCfg m v)
    else if off = R.REF_CTRL then some (writeRefCtrl m v)
    else if off = R.REF_GRANT_DATA then some (writeRefGrant m v)
    else if inArray R.REF_HB 2 off then some (writeRefHb m (regIndex R.REF_HB off) v) else none
  | .evt => if off = R.EVT_ROUTE_DATA then some (writeEvtRoute v) else none
  | .evt1 => if inArray R.EVT_MASK 16 off then some (writeEvtMask (regIndex R.EVT_MASK off) v) else none
  | .evt4 => if off = R.EVT_CNT_DATA then some (writeEvtCnt v) else none
  | .hwd =>
    if off = R.HWD_CTRL then some (writeHwdCtrl m v)
    else if off = R.HWD_OP_CTRL then some (writeHwdOpCtrl m true v)
    else if off = R.HWD_OP_ADDR ∨ off = R.HWD_OP_ARG ∨ off = R.HWD_OP_SCI ∨ inArray R.HWD_OP_IN 8 off = true then
      some (writeHwdOp m off v)
    else if off = R.HWD_LOCK then some (writeHwdLock m v) else none
  | .ldg =>
    if off = R.LDG_CTRL then some (writeLdgCtrl v)
    else if off = R.LDG_CNT_CLEAR then some (writeLdgCntClear v)
    else if off = R.LDG_RINGS then some (writeLdgRings v) else none
  | .pwr =>
    if off = R.PWR_DOMAIN_REQ then some (writeDomainReq m ⟨[], [], []⟩ v)
    else if off = R.PWR_CTRL then some (writePwrCtrl m v) else none
  | .clt => if off = R.CLT_CTRL then some (writeCltCtrl m v) else none
  | _ => none

/-- What a block register does with a write. -/
def writeBlock (m : Nat) (b : Block) (p off : Nat) (v : Word) (s : State) : State :=
  let h := (((writeIngest b p off v).or (writeCompute m b p off v)).or (writeTransport b p off v)).or
    ((writeOutput m b p off v).or (writeSystem m b off v))
  match h with
  | some f => f s
  | none => storePlain p off v s

/-! ## PAGE_CTRL (R70 to R73) -/

/-- What a block does when its ENABLE changes (R71). -/
def enableChanged (b : Block) (p : Nat) (on : Bool) (s : State) : State :=
  match b with
  | .spr => if on then sprEnable (p - 0x10) s else sprDown (p - 0x10) s
  | .rch => if on then rchEnable (p - 0x50) s else rchEmpty (p - 0x50) s
  | .lth => if on then s else latheDisable (p - 0x100) s
  | .tly => if on then s else drainReorder (p - 0x224) s
  | .gge => if on then refreshPins s else holdLines (p - 0x228) s
  | .chs => chsEnable (p - 0x350) on s
  | .chl => chsEnable (64 + (p - 0x394)) on s
  | .eth => ethEnable (p - 0x310) on s
  | .zhk => zhkEnable (p - 0x320) on s
  | .ptp => ptpEnable (p - 0x331) on s
  | .tru => truEnable on s
  | .fld => refreshFld (fldJudge (p - 0x3A1) s)
  | _ => s

/-- ENABLE of a page takes a value. -/
def setEnable (b : Block) (p : Nat) (on : Bool) (s : State) : State :=
  if flag s p F.PAGE_CTRL_ENABLE = on then s
  else enableChanged b p on (setFld p F.PAGE_CTRL_ENABLE (if on then 1 else 0) s)

/-- A page's block registers return to their reset values, but for those named: `keep` registers from `base` on. -/
def resetRegsKeep (p base keep : Nat) (s : State) : State :=
  resetRegs p (base + 8 * keep) ((0x1000 - base) / 8 - keep) (resetRegs p 0x100 ((base - 0x100) / 8) s)

/-- The row trackers of a pseudo-channel are forgotten, and with them their counts. -/
def forgetTrackers (i : Nat) (s : State) : State :=
  { s with hbm := { s.hbm with pcs := alSet {} s.hbm.pcs i { alGet {} s.hbm.pcs i with trackers := [] } } }

/-- A pseudo-channel returns to its state at reset; requests held at their source enter its empty queue. -/
def resetPc (i : Nat) (s : State) : State :=
  let held := (alGet {} s.hbm.pcs i).held
  { s with hbm := { s.hbm with pcs := alSet {} s.hbm.pcs i { queue := held.take 64, held := held.drop 64 } } }

/-- A soft reset of an HBM page. STATE and QUICK, and the counts of rows, show the stack, which goes on serving (R71), and
the retire list, which is kept (R410): they stay; the temperature is as before the first measurement. -/
def resetHbm (p : Nat) (s : State) : State :=
  setFld p F.HBM_STATUS_TEMP 0 (resetRegsKeep p R.HBM_STATUS 1 s)

/-- What a soft reset does to the ingest and data blocks. -/
def softData (b : Block) (p : Nat) (s : State) : State :=
  match b with
  | .spr => resetBlockRegs p (gateSpur (p - 0x10) s)
  | .rch => resetBlockRegs p (rchForget (p - 0x50) s)
  | .fpl => resetBlockRegs p (resetFaceplate (p - 0x90) s)
  | .lth => resetBlockRegs p (resetLathe (p - 0x100) s)
  | .sch => bindSeats (p - 0x220) (resetBlockRegs p (resetSched (p - 0x220) s))
  | .tly => resetBlockRegs p (resetTally (p - 0x224) s)
  | .gge => resetRegsKeep p R.GGE_LINE 16 (resetGge (p - 0x228) s)
  | .chs => resetBlockRegs p (resetChs (p - 0x350) s)
  | .chl => resetBlockRegs p (resetChs (64 + (p - 0x394)) s)
  | .hbm => resetHbm p s
  | .hpc => resetBlockRegs p (resetPc (p - 0x240) s)
  | .xbr => resetBlockRegs p { s with hbm := { s.hbm with prio := [] } }
  | .dma => resetBlockRegs p (resetDma p s)
  | .rng => refreshPins (resetRegsKeep p R.RNG_FCO 16 (rngReset s))
  | _ => s

/-- What a soft reset does to the other blocks. -/
def softControl (b : Block) (p : Nat) (s : State) : State :=
  match b with
  | .eth =>
    let retired := fld s p F.ETH_STATUS_RETIRED_LANES
    resetEth (p - 0x310) retired (resetBlockRegs p s)
  | .zhk => resetBlockRegs p (resetZhk (p - 0x320) s)
  | .tbs => resetTbs s
  | .ptp => resetBlockRegs p (ptpEnable (p - 0x331) false s)
  | .mrk => resetBlockRegs p (resetMrk s)
  | .tru => resetTru (resetBlockRegs p s)
  | .fld => resetFld (p - 0x3A1) (resetBlockRegs p s)
  | .fldg => refreshFld (resetFldGlb s)
  | .stw => resetRegs p R.STW_RL_ADDR 3 s
  | .ref => resetRef s
  | .evt => resetEvt s
  | .hwd => resetHwd s
  | .ldg => resetLdg s
  | .pwr => resetPwr s
  | .clt => resetClt s
  | .pci => resetBlockRegs p s
  | _ => s

/-- SOFT_RESET (R72): ENABLE clears, then the block and its registers return to reset. After ARM that of the REF page is
refused (R399). -/
def softReset (b : Block) (p : Nat) (s : State) : State :=
  if b = .ref ∧ armedRef s = true then refuseCfg p s else softControl b p (softData b p (setEnable b p false s))

/-- DEBUG of a page takes a value; a cleared DEBUG lets a halted lathe go on (R180). -/
def setDebug (p : Nat) (on : Bool) (s : State) : State :=
  if on then setFld p F.PAGE_CTRL_DEBUG 1 s else if flag s p F.PAGE_CTRL_DEBUG then clearDebug p s else s

/-- Whether a debug unlock is in force whose scope allows PAGE_CTRL.DEBUG: bit 0 of SCOPE (R73, R430). -/
def debugAllowed (s : State) : Bool :=
  match s.hwd.unlock with
  | some u => u.scope.testBit 0
  | none => false

/-- A write of PAGE_CTRL: DEBUG 1 is accepted only while a debug unlock is in force, else the whole write is refused
(R73). R73 sets LOCK_REFUSED though no WRITE_LOCK refuses; DESIGN CHOICE (log entry 82): the status of a command is then
5, refused by the target block, and not 2, lock. -/
def writePageCtrl (b : Block) (p : Nat) (v : Word) (s : State) : State :=
  if bitOf v 2 && !debugAllowed s then refuseBit p S.LOCK_REFUSED s
  else
    let s := setDebug p (bitOf v 2) s
    if bitOf v 1 then softReset b p s else setEnable b p (bitOf v 0) s

/-! ## Header (R68, R74 to R76) -/

/-- Bits of the block-defined detectors of a page. -/
def blockDetectors (b : Block) : List Nat :=
  let span (lo hi : Nat) : List Nat := (List.range (hi + 1 - lo)).map (fun k => lo + k)
  match b with
  | .spr => span 5 22
  | .rch => span 5 8
  | .fpl => span 5 15
  | .lth => span 5 7
  | .sch => span 5 13
  | .gge => span 5 10 ++ span 32 47
  | .tly => span 5 12
  | .hbm => span 5 9
  | .hpc => span 5 7
  | .xbr => span 5 7
  | .dma => span 8 31
  | .rng => span 5 10
  | .eth => span 5 13
  | .zhk => span 5 20
  | .tbs => span 5 10
  | .ptp => span 5 8
  | .mrk => span 5 8 ++ span 48 63
  | .tru => span 5 13
  | .chs => span 5 12
  | .chl => span 5 14
  | .fld => span 5 9
  | .fldg => span 5 6
  | .stw => span 5 9
  | .ref => span 5 12
  | .evt => span 5 6
  | .hwd => span 5 10
  | .ldg => span 5 7
  | .pwr => span 5 11
  | .clt => span 5 7
  | .pci => span 5 8
  | _ => []

/-- Bits of every detector of a page. -/
def pageDetectors (b : Block) : List Nat := [0, 1, 2, 3, 4] ++ blockDetectors b

/-- A detector is armed, in place of what it was armed with before (R75). -/
def armDetector (p b : Nat) (s : State) : State :=
  let mode := fld s p F.INJECT_MODE_MODE
  let a : Armed :=
    ⟨p, b, if mode = 0 then .once else if mode = 1 then .persistent else .count, fld s p F.INJECT_MODE_COUNT⟩
  let rest := s.armed.filter (fun a => !decide (a.page = p ∧ a.bit = b))
  { s with armed := if a.mode = .count ∧ a.left = 0 then rest else a :: rest }

/-- A write of INJECT (R75). -/
def writeInject (b : Block) (p : Nat) (v : Word) (s : State) : State :=
  ((pageDetectors b).filter (fun k => bitOf v k)).foldl (fun s k => armDetector p k s) s

/-- A write of INJECT_MODE (R75). -/
def writeInjectMode (p : Nat) (v : Word) (s : State) : State :=
  let s := if bitOf v 2 then { s with armed := s.armed.filter (fun a => decide (a.page ≠ p)) } else s
  storePlain p R.INJECT_MODE v s

/-- A write of STICKY_EVT_EN: an enable that rises over a set sticky bit pulses its source (R68). -/
def writeEvtEn (p : Nat) (v : Word) (s : State) : State :=
  let old := reg s p R.STICKY_EVT_EN
  let rise := (List.range 64).filter (fun k => bitOf v k && !bitOf old k && bitOf (reg s p R.STICKY) k)
  let s := storePlain p R.STICKY_EVT_EN v s
  if pageEvents p = 0 then s else rise.foldl (fun s k => evPulse 4 (pageFirstEvent p + k % pageEvents p) s) s

/-- A write of RETRY_COUNT (R76). -/
def writeRetryCount (p : Nat) (v : Word) (s : State) : State :=
  if bitOf v 63 then
    let s := if pageBlock p = some .hpc then forgetTrackers (p - 0x240) s else s
    setReg p R.RETRY_COUNT 0 { s with retry := alSet [] s.retry p [] }
  else s

/-- What a header register does with a write (R69). -/
def writeHeader (b : Block) (p off : Nat) (v : Word) (s : State) : State :=
  if off = R.PAGE_CTRL then writePageCtrl b p v s
  else if off = R.STICKY_EVT_EN then writeEvtEn p v s
  else if off = R.INJECT then writeInject b p v s
  else if off = R.INJECT_MODE then writeInjectMode p v s
  else if off = R.RETRY_COUNT then writeRetryCount p v s
  else storePlain p off v s

/-! ## The register space -/

/-- What a register does with a write that was not turned away before its block (R63, R83). -/
def regWrite (m p off size : Nat) (v : Word) (s : State) : State :=
  match pageBlock p with
  | none => s
  | some b =>
    if b = .msix then writeMsix p off size v s
    else if b = .pba then s
    else if off < 0x100 then writeHeader b p off v s
    else writeBlock m b p off v s

/-- A write to BAR0 by a master: judged, then handed to its register. -/
def busWrite (m addr size : Nat) (v : Word) (s : State) : State :=
  let p := addr / 0x1000
  let off := addr % 0x1000
  match judge s m p off size v with
  | .ok => acceptedWrite m p off v (regWrite m p off size v) (arriveWrite .ok m p off s)
  | x => refusedWrite p x (arriveWrite x m p off s)

/-! ## Writes that meet in one cycle (R80, R81) -/

/-- Turn matrix target of a page: the register pages of its die (R340). -/
def pageTarget (p : Nat) : Nat := if pageDie p < 4 then 5 + pageDie p else if pageDie p = 4 then 4 else 9

/-- A write placed among others of its cycle, in front of those of no higher priority. -/
def insertWrite (s : State) (t : Nat) (x : Nat × Word) : List (Nat × Word) → List (Nat × Word)
  | [] => [x]
  | y :: r => if pairPrio s y.1 t ≤ pairPrio s x.1 t then x :: y :: r else y :: insertWrite s t x r

/-- Writes of one cycle in the order of their (master, target) priority, highest first (R80). -/
def byWritePrio (s : State) (t : Nat) (l : List (Nat × Word)) : List (Nat × Word) := l.foldr (insertWrite s t) []

/-- Writes that meet at a guarded register: the one with the highest claim is judged, the others are refused; where two
carry it, all are (R81). -/
def guardedMeet (addr size : Nat) (l : List (Nat × Word)) (s : State) : State :=
  let p := addr / 0x1000
  let top := (l.map (fun x => masterClaim s x.1)).foldl max 0
  let best := l.filter (fun x => decide (masterClaim s x.1 = top))
  let off := addr % 0x1000
  if 2 ≤ best.length then setWst 1 (setSticky p S.CLAIM_TIE (l.foldl (fun s x => arriveWrite .tied x.1 p off s) s))
  else
    let lost := l.filter (fun x => decide (masterClaim s x.1 ≠ top))
    let s := lost.foldl (fun s x => refusedWrite p .lowClaim (arriveWrite .lowClaim x.1 p off s)) s
    best.foldl (fun s x => busWrite x.1 addr size x.2 s) s

/-- Writes that reach one register in one cycle; those that miss it, or find its page gated, do not meet. -/
def meetWrites (addr size : Nat) (l : List (Nat × Word)) (s : State) : State :=
  if regGuarded (addr / 0x1000) (addr % 0x1000) && decide (2 ≤ l.length) && accessAligned (addr / 0x1000) (addr % 0x1000) size
    && !pageGated s (addr / 0x1000) then guardedMeet addr size l s
  else (byWritePrio s (pageTarget (addr / 0x1000)) l).foldl (fun s x => busWrite x.1 addr size x.2 s) s

end Sys2Proof.Machine
end

