-- ==== Sys2Proof/Machine/ChiselOps.lean ====
section
/-! DEFINITION. The Chisel instructions that act on the core and its memories (R315 to R317, R319, R321, R322, R324). -/

namespace Sys2Proof.Machine

/-! ## Control -/

/-- NOP (R315). -/
def execNop (n : Nat) (s : State) : Result := .next (chsIssue n 0x00 (inCore fun _ c => .done c 0 none) s)

/-- HALT (R315). -/
def execHalt (n : Nat) (s : State) : Result :=
  .next (chsIssue n 0x01 (inCore fun _ c => .done { c with st := .stopped } 0 none) s)

/-- JMP (R315, R319). -/
def execJmp (n : Nat) (s : State) : Result := .next (chsIssue n 0x02 (inCore fun i c => .done c 0 (some i.target)) s)

/-- JCC (R315, R319). -/
def execJcc (n : Nat) (s : State) : Result :=
  .next (chsIssue n 0x03 (inCore fun i c =>
    match condHolds c.z c.n c.v i.dd with
    | none => .fault 1
    | some b => .done c 0 (if b then some i.target else none)) s)

/-- CALL (R315, R319, R327). -/
def execCall (n : Nat) (s : State) : Result :=
  .next (chsIssue n 0x04 (inCore fun i c =>
    if 8 ≤ c.calls.length then .fault 2
    else .done { c with calls := chsNextPc n c.pc :: c.calls } 0 (some i.target)) s)

/-- RET (R315, R319, R327). -/
def execRet (n : Nat) (s : State) : Result :=
  .next (chsIssue n 0x05 (inCore fun _ c =>
    match c.calls with
    | [] => .fault 2
    | t :: l => .done { c with calls := l } 0 (some t)) s)

/-- LOOP (R319, R327): a count of 0 goes on as after the body's last instruction. -/
def execLoop (n : Nat) (s : State) : Result :=
  .next (chsIssue n 0x06 (inCore fun i c =>
    if c.lc = 0 then
      let r := loopNext n i.target c.loops
      .done { c with loops := r.2 } 0 (some r.1)
    else if 4 ≤ c.loops.length then .fault 3
    else .done { c with loops := ⟨chsNextPc n c.pc, i.target, c.lc.toNat⟩ :: c.loops } 0 none) s)

/-- LDLC (R315). -/
def execLdlc (n : Nat) (s : State) : Result :=
  .next (chsIssue n 0x07 (inCore fun i c => .done { c with lc := i.imm.setWidth 24 } 0 none) s)

/-- MOVLC (R315). -/
def execMovlc (n : Nat) (s : State) : Result :=
  .next (chsIssue n 0x08 (inCore fun i c => .done { c with lc := (c.dReg i.da).setWidth 24 } 0 none) s)

/-- WAITW (R321). -/
def execWaitw (n : Nat) (s : State) : Result :=
  .next (chsIssue n 0x09 (fun i c s =>
    let c := { c with fed := s.mono }
    let hit := c.causes &&& i.target
    if hit = 0 then (s, .done { c with st := .waiting, wait := some (.causes i.target i.dd) } 0 none)
    else (countK (chsPage n) R.CHS_CNT 2 1 s, .done (c.wake hit i.dd) 0 none)) s)

/-- WAITM (R322). -/
def execWaitm (n : Nat) (s : State) : Result :=
  .next (chsIssue n 0x0A (fun i c s =>
    let c := { c with fed := s.mono }
    match c.posts with
    | [] => (s, .done { c with st := .waiting, wait := some (.post i.dd) } 0 none)
    | x :: l => (countK (chsPage n) R.CHS_CNT 2 1 s, .done (c.popPost x l i.dd) 0 none)) s)

/-- Entry word `k` of the mark at T word `a` (R322). -/
def markWord (n : Nat) (c : ChsCore) (a k : Nat) : Word :=
  BitVec.ofNat 64 ((chsMemGet n c 0 (a + 2 * k)).toNat + (chsMemGet n c 0 (a + 2 * k + 1)).toNat % 2 ^ 16 * 2 ^ 48)

/-- MKINS (R293, R322). -/
def execMkins (n : Nat) (s : State) : Result :=
  .next (chsIssue n 0x0B (fun i c s =>
    let a := (gAddr (c.gReg i.gauge)).toNat
    let r := markInsert (masterClaim s (chsMaster n)) ((List.range 4).map (markWord n c a)) s
    (r.2.2, .done (c.setD i.dd (BitVec.ofNat 48 (r.2.1 + r.1 * 2 ^ 12))) 0 none)) s)

/-- OUTF (R324): it waits while the queue holds four descriptors. -/
def execOutf (n : Nat) (s : State) : Result :=
  .next (chsIssue n 0x0E (inCore fun i c =>
    if 4 ≤ c.outq.length then .hold
    else
      let a := (gAddr (c.gReg i.gauge)).toNat
      let w (k : Nat) := chsMemGet n c 0 (a + k)
      .done { c with outq := c.outq ++ [⟨w 0, w 1, w 2, w 3⟩] } 0 none) s)

/-- SYNC (R315): it waits while a descriptor is queued; every BWR and H-window store has taken effect at its own step. -/
def execSync (n : Nat) (s : State) : Result :=
  .next (chsIssue n 0x0F (inCore fun _ c => if c.outq.isEmpty then .done c 0 none else .hold) s)

/-- EVT (R315). -/
def execEvt (n : Nat) (s : State) : Result :=
  .next (chsIssue n 0x10 (fun i c s =>
    (setSticky (chsPage n) S.CHS_USER s, .done { c with user := i.target } 0 none)) s)

/-! ## Data and accumulators -/

/-- LDI (R315). -/
def execLdi (n : Nat) (s : State) : Result :=
  .next (chsIssue n 0x18 (inCore fun i c => .done (c.setD i.dd i.imm) 0 none) s)

/-- MOV (R315). -/
def execMov (n : Nat) (s : State) : Result := .next (chsIssue n 0x19 (inCore fun i c => plainResult i c (c.dReg i.da)) s)

/-- SETG (R315). -/
def execSetg (n : Nat) (s : State) : Result :=
  .next (chsIssue n 0x1A (inCore fun i c => .done (c.setG i.dd (c.dReg i.da)) 0 none) s)

/-- GETG (R315). -/
def execGetg (n : Nat) (s : State) : Result := .next (chsIssue n 0x1B (inCore fun i c => plainResult i c (c.gReg i.da)) s)

/-- RND (R316). -/
def execRnd (n : Nat) (s : State) : Result :=
  .next (chsIssue n 0x1C (inCore fun i c => realResult i c (roundShift (c.aReg i.aa).toInt i.sh)) s)

/-- CRND (R316). -/
def execCrnd (n : Nat) (s : State) : Result :=
  .next (chsIssue n 0x1D (inCore fun i c =>
    complexResult i c (roundShift (aRe (c.aReg i.aa)) i.sh) (roundShift (aIm (c.aReg i.aa)) i.sh)) s)

/-- CLRA (R315). -/
def execClra (n : Nat) (s : State) : Result := .next (chsIssue n 0x1E (inCore fun i c => .done (c.setA i.aa 0) 0 none) s)

/-- LDA (R315). -/
def execLda (n : Nat) (s : State) : Result :=
  .next (chsIssue n 0x1F (inCore fun i c => .done (c.setA i.aa ((c.dReg i.da).signExtend 104)) 0 none) s)

/-- CLDA (R315). -/
def execClda (n : Nat) (s : State) : Result :=
  .next (chsIssue n 0x20 (inCore fun i c =>
    .done (c.setA i.aa (BitVec.ofInt 52 (dIm (c.dReg i.da)) ++ BitVec.ofInt 52 (dRe (c.dReg i.da)))) 0 none) s)

/-! ## Real arithmetic -/

/-- ADD (R315). -/
def execAdd (n : Nat) (s : State) : Result :=
  .next (chsIssue n 0x28 (inCore fun i c => realResult i c ((c.dReg i.da).toInt + (c.dReg i.db).toInt)) s)

/-- SUB (R315). -/
def execSub (n : Nat) (s : State) : Result :=
  .next (chsIssue n 0x29 (inCore fun i c => realResult i c ((c.dReg i.da).toInt - (c.dReg i.db).toInt)) s)

/-- NEG (R315). -/
def execNeg (n : Nat) (s : State) : Result :=
  .next (chsIssue n 0x2A (inCore fun i c => realResult i c (-(c.dReg i.da).toInt)) s)

/-- ABS (R315). -/
def execAbs (n : Nat) (s : State) : Result :=
  .next (chsIssue n 0x2B (inCore fun i c => realResult i c ((c.dReg i.da).toInt.natAbs : Nat)) s)

/-- MUL (R315). -/
def execMul (n : Nat) (s : State) : Result :=
  .next (chsIssue n 0x2C (inCore fun i c => realResult i c ((c.dReg i.da).toInt * (c.dReg i.db).toInt)) s)

/-- AND (R315). -/
def execAndOp (n : Nat) (s : State) : Result :=
  .next (chsIssue n 0x2D (inCore fun i c => plainResult i c (c.dReg i.da &&& c.dReg i.db)) s)

/-- OR (R315). -/
def execOrOp (n : Nat) (s : State) : Result :=
  .next (chsIssue n 0x2E (inCore fun i c => plainResult i c (c.dReg i.da ||| c.dReg i.db)) s)

/-- XOR (R315). -/
def execXor (n : Nat) (s : State) : Result :=
  .next (chsIssue n 0x2F (inCore fun i c => plainResult i c (c.dReg i.da ^^^ c.dReg i.db)) s)

/-- SHL (R315). -/
def execShl (n : Nat) (s : State) : Result :=
  .next (chsIssue n 0x30 (inCore fun i c => realResult i c ((c.dReg i.da).toInt * 2 ^ i.sh)) s)

/-- SHRA (R315). -/
def execShra (n : Nat) (s : State) : Result :=
  .next (chsIssue n 0x31 (inCore fun i c => plainResult i c ((c.dReg i.da).sshiftRight i.sh)) s)

/-- SHRL (R315). -/
def execShrl (n : Nat) (s : State) : Result :=
  .next (chsIssue n 0x32 (inCore fun i c => plainResult i c (c.dReg i.da >>> i.sh)) s)

/-- CMP (R315, R316): flags of the exact difference, V where it needs more than 48 bits; nothing is written or counted. -/
def execCmp (n : Nat) (s : State) : Result :=
  .next (chsIssue n 0x33 (inCore fun i c =>
    let x := (c.dReg i.da).toInt - (c.dReg i.db).toInt
    .done { c with z := decide (x = 0), n := decide (x < 0), v := (fitTo 48 false x).2 } 0 none) s)

/-- MIN (R315). -/
def execMin (n : Nat) (s : State) : Result :=
  .next (chsIssue n 0x34 (inCore fun i c =>
    plainResult i c (if (c.dReg i.da).toInt ≤ (c.dReg i.db).toInt then c.dReg i.da else c.dReg i.db)) s)

/-- MAX (R315). -/
def execMax (n : Nat) (s : State) : Result :=
  .next (chsIssue n 0x35 (inCore fun i c =>
    plainResult i c (if (c.dReg i.da).toInt ≤ (c.dReg i.db).toInt then c.dReg i.db else c.dReg i.da)) s)

/-- MPY (R315, R316): the product always fits. -/
def execMpy (n : Nat) (s : State) : Result :=
  .next (chsIssue n 0x38 (inCore fun i c =>
    .done (c.setA i.aa (BitVec.ofInt 104 ((c.dReg i.da).toInt * (c.dReg i.db).toInt))) 0 none) s)

/-- MAC (R315, R316). -/
def execMac (n : Nat) (s : State) : Result :=
  .next (chsIssue n 0x39 (inCore fun i c =>
    accResult i c ((c.aReg i.aa).toInt + (c.dReg i.da).toInt * (c.dReg i.db).toInt)) s)

/-- MSU (R315, R316). -/
def execMsu (n : Nat) (s : State) : Result :=
  .next (chsIssue n 0x3A (inCore fun i c =>
    accResult i c ((c.aReg i.aa).toInt - (c.dReg i.da).toInt * (c.dReg i.db).toInt)) s)

/-- ADDA (R315). -/
def execAdda (n : Nat) (s : State) : Result :=
  .next (chsIssue n 0x3B (inCore fun i c => accResult i c ((c.aReg i.aa).toInt + (c.aReg i.ab).toInt)) s)

/-! ## Complex arithmetic -/

/-- Real and imaginary part of DA · DB, and of DA · conj(DB). -/
def mulRe (a b : BitVec 48) : Int := dRe a * dRe b - dIm a * dIm b
def mulIm (a b : BitVec 48) : Int := dRe a * dIm b + dIm a * dRe b
def mulJRe (a b : BitVec 48) : Int := dRe a * dRe b + dIm a * dIm b
def mulJIm (a b : BitVec 48) : Int := dIm a * dRe b - dRe a * dIm b

/-- CADD (R315). -/
def execCadd (n : Nat) (s : State) : Result :=
  .next (chsIssue n 0x40 (inCore fun i c =>
    let a := c.dReg i.da
    let b := c.dReg i.db
    complexResult i c (dRe a + dRe b) (dIm a + dIm b)) s)

/-- CSUB (R315). -/
def execCsub (n : Nat) (s : State) : Result :=
  .next (chsIssue n 0x41 (inCore fun i c =>
    let a := c.dReg i.da
    let b := c.dReg i.db
    complexResult i c (dRe a - dRe b) (dIm a - dIm b)) s)

/-- CONJ (R315). -/
def execConj (n : Nat) (s : State) : Result :=
  .next (chsIssue n 0x42 (inCore fun i c => complexResult i c (dRe (c.dReg i.da)) (-dIm (c.dReg i.da))) s)

/-- CMUL (R315, R316). -/
def execCmul (n : Nat) (s : State) : Result :=
  .next (chsIssue n 0x43 (inCore fun i c =>
    let a := c.dReg i.da
    let b := c.dReg i.db
    complexResult i c (roundShift (mulRe a b) i.sh) (roundShift (mulIm a b) i.sh)) s)

/-- CMAC (R315, R316). -/
def execCmac (n : Nat) (s : State) : Result :=
  .next (chsIssue n 0x44 (inCore fun i c =>
    let a := c.dReg i.da
    let b := c.dReg i.db
    accComplexResult i c (aRe (c.aReg i.aa) + mulRe a b) (aIm (c.aReg i.aa) + mulIm a b)) s)

/-- CMACJ (R315, R316). -/
def execCmacj (n : Nat) (s : State) : Result :=
  .next (chsIssue n 0x45 (inCore fun i c =>
    let a := c.dReg i.da
    let b := c.dReg i.db
    accComplexResult i c (aRe (c.aReg i.aa) + mulJRe a b) (aIm (c.aReg i.aa) + mulJIm a b)) s)

/-- CMPY (R315, R316): the product always fits. -/
def execCmpy (n : Nat) (s : State) : Result :=
  .next (chsIssue n 0x46 (inCore fun i c =>
    let a := c.dReg i.da
    let b := c.dReg i.db
    .done (c.setA i.aa (BitVec.ofInt 52 (mulIm a b) ++ BitVec.ofInt 52 (mulRe a b))) 0 none) s)

/-- CMULJ (R315, R316). -/
def execCmulj (n : Nat) (s : State) : Result :=
  .next (chsIssue n 0x47 (inCore fun i c =>
    let a := c.dReg i.da
    let b := c.dReg i.db
    complexResult i c (roundShift (mulJRe a b) i.sh) (roundShift (mulJIm a b) i.sh)) s)

/-- CPOW (R315, R316): the power is added as a real 104-bit value. -/
def execCpow (n : Nat) (s : State) : Result :=
  .next (chsIssue n 0x48 (inCore fun i c =>
    let a := c.dReg i.da
    accResult i c ((c.aReg i.aa).toInt + (dRe a * dRe a + dIm a * dIm a))) s)

/-- CSCL (R315, R316). -/
def execCscl (n : Nat) (s : State) : Result :=
  .next (chsIssue n 0x49 (inCore fun i c =>
    let a := c.dReg i.da
    let k := dRe (c.dReg i.db)
    complexResult i c (roundShift (dRe a * k) i.sh) (roundShift (dIm a * k) i.sh)) s)

/-- The phasor of a phase in units of 2^-20 turn: each part 2^22 times cosine and sine, correctly rounded (R317). -/
def phasor (q : Nat) : Int × Int :=
  let x := cosSin q 20
  (roundShift (x.1 * 2 ^ 22) trigBits, roundShift (x.2 * 2 ^ 22) trigBits)

/-- PHS (R317): the phasor always fits, and V stays. -/
def execPhs (n : Nat) (s : State) : Result :=
  .next (chsIssue n 0x4A (inCore fun i c =>
    let x := phasor ((c.dReg i.da).toNat % 2 ^ 20)
    let d := (fitComplex i.sat x.1 x.2).1
    let fl := complexFlags d
    .done { c.setD i.dd d with z := fl.1, n := fl.2 } 0 none) s)

end Sys2Proof.Machine
end

