-- ==== Sys2Proof/Machine/ChiselBus.lean ====
section
/-! DEFINITION. Register access of a Chisel core: BRD and BWR (R323). -/

namespace Sys2Proof.Machine

/-- Register index of a gauge, as a BAR0 address (R323). -/
def chsBusAddr (c : ChsCore) (gauge : Nat) : Nat := 8 * ((gAddr (c.gReg gauge)).toNat % 2 ^ 23)

/-- A refused access of a core: BUS_REFUSED and CHS_CNT[4] (R323). -/
def chsBusRefused (n : Nat) (s : State) : State := countK (chsPage n) R.CHS_CNT 4 1 (setSticky (chsPage n) S.CHS_BUS_REFUSED s)

/-- BRD (R323): a read of a gated page, or one that meets an access fault, is refused and returns all ones. -/
def execBrd (n : Nat) (s : State) : Result :=
  .next (chsIssue n 0x0C (fun i c s =>
    let r := busRead (chsMaster n) (chsBusAddr c i.gauge) 8 s
    let s := if r.2.1 then chsBusRefused n r.2.2 else r.2.2
    let w := if r.2.1 then allOnes else r.1
    (s, .done (((chsCore s n).setD i.dd (w.setWidth 48)).setD (i.dd + 1) ((w >>> 48).setWidth 48)) 0 none)) s)

/-- BWR (R323): a write refused by claim, lock, gating or as a fault is reported in the core's page; a refusal of the block
itself appears in that block's page alone. -/
def execBwr (n : Nat) (s : State) : Result :=
  .next (chsIssue n 0x0D (fun i c s =>
    let w : Word := (c.dReg i.da).setWidth 64 ||| (((c.dReg (i.da + 1)).setWidth 64 &&& 0xFFFF#64) <<< 48)
    let s := busWrite (chsMaster n) (chsBusAddr c i.gauge) 8 w s
    let s := if s.wst = 1 ∨ s.wst = 2 ∨ s.wst = 3 then chsBusRefused n s else s
    (s, .done (chsCore s n) 0 none)) s)

end Sys2Proof.Machine
end

