-- ==== Sys2Proof/Machine/Commands.lean ====
section
/-! DEFINITION. Register writes, injection, signed commands and the PCI Express windows (R63 to R86; 03_register_pages.md). -/

namespace Sys2Proof.Machine

/-! ## Register writes (R64, R68, R70 to R75, R80, R81) -/

/-- REGISTER_WRITE (R64), with the writes that reach the register in the same cycle (R80, R81). -/
def execRegisterWrite (m addr size : Nat) (v : Word) (also : List (Nat × Word)) (s : State) : Result :=
  .next (meetWrites addr size ((m, v) :: also) s)

/-- PAGE_ENABLE (R70, R71). -/
def execPageEnable (m page : Nat) (v : Word) (s : State) : Result := .next (busWrite m (regAddr page R.PAGE_CTRL) 8 v s)

/-- PAGE_DEBUG (R73): a write of PAGE_CTRL with DEBUG 1. -/
def execPageDebug (m page : Nat) (v : Word) (s : State) : Result :=
  .next (busWrite m (regAddr page R.PAGE_CTRL) 8 (v ||| 4#64) s)

/-- SOFT_RESET (R72). -/
def execSoftReset (m page : Nat) (v : Word) (s : State) : Result :=
  .next (busWrite m (regAddr page R.PAGE_CTRL) 8 (v ||| 2#64) s)

/-- INJECT (R75). -/
def execInject (m page : Nat) (v : Word) (s : State) : Result := .next (busWrite m (regAddr page R.INJECT) 8 v s)

/-- DISARM (R75). -/
def execDisarm (m page : Nat) (v : Word) (s : State) : Result :=
  .next (busWrite m (regAddr page R.INJECT_MODE) 8 (v ||| 4#64) s)

/-- STICKY_EVT_EN (R68). -/
def execStickyEvtEn (m page : Nat) (v : Word) (s : State) : Result :=
  .next (busWrite m (regAddr page R.STICKY_EVT_EN) 8 v s)

/-! ## Injected firings (R75) -/

/-- Whether a detector is evaluated at a frame, stroke, access or sample of its block, and so fires there. -/
def ownPoint (b : Block) (k : Nat) : Bool :=
  let l : List Nat :=
    match b with
    | .spr =>
      [S.SPR_UNCORR, S.SPR_LOCK_LOST, S.SPR_BLOCK_CRC, S.SPR_STEP_FAIL, S.SPR_INDEX_GAP, S.SPR_INDEX_BACK,
        S.SPR_UNKNOWN_STREAM, S.SPR_FORMAT_MISMATCH, S.SPR_OVERRANGE, S.SPR_BLOCK_LENGTH]
    | .rch => [S.RCH_OVERRUN, S.RCH_STATE_CORR, S.RCH_STATE_UNCORR]
    | .fpl =>
      [S.FPL_UNMAPPED, S.FPL_COEF_WRITE_REFUSED, S.FPL_GAIN_WRITE_REFUSED, S.FPL_MODEL_RANGE, S.FPL_TB_FULL, S.FPL_LATE,
        S.FPL_MEM_CORR, S.FPL_MEM_UNCORR]
    | .lth => [S.LTH_WIT_FAIL, S.LTH_HANDSHAKE_TO]
    | .sch => [S.SCH_BLANK_CORR, S.SCH_BLANK_UNCORR, S.SCH_TB_UNCORR]
    | .gge => [S.GGE_DET_SKIP]
    | .tly => [S.TLY_SLOT_VOID, S.TLY_HBM_UNCORR]
    | .zhk =>
      [S.ZHK_UNCORR, S.ZHK_LINK_OVERLOAD, S.ZHK_MARK_LATE, S.ZHK_MARK_INCOMPLETE, S.ZHK_TIME_SPLIT, S.ZHK_SHARED_TIE,
        S.ZHK_SHARED_ISOLATED, S.ZHK_GANG_CFG]
    | .tbs => [S.TBS_TRIGIN_OVF]
    | .ptp => [S.PTP_GM_CHANGE]
    | .mrk => [S.MRK_TABLE_FULL]
    | .chs | .chl => [S.CHS_MEM_CORR, S.CHS_MEM_UNCORR, S.CHS_OUT_REFUSED, S.CHS_WAKE_OVERRUN, S.CHS_POST_OVF, S.CHS_H_ERROR]
    | .hbm => [S.HBM_RESERVED_ACCESS]
    | .hpc => [S.HPC_ECC_CORR, S.HPC_ECC_UNCORR]
    | .dma => (List.range 8).map (fun c => 16 + c)
    | .rng => [S.RNG_NO_ROOM, S.RNG_TOO_BIG, S.RNG_ADVANCE_REFUSED, S.RNG_WM_OVF]
    | .eth => [S.ETH_TRUNC, S.ETH_SEQ_GAP, S.ETH_RX_OVERFLOW, S.ETH_MACSEC_FAIL, S.ETH_PN_LIMIT, S.ETH_CMD_REJECTED]
    | .fld => [S.FLD_OPEN_LOOP, S.FLD_OPEN_LOOP + 1, S.FLD_OPEN_LOOP + 2, S.FLD_WDOG]
    | .ref =>
      [S.REF_HB_TIMEOUT, S.REF_EXT_FAIL, S.REF_NO_STANDBY, S.REF_CLAIM_EXHAUSTED, S.REF_ARBITER_DISAGREE, S.REF_BAD_BEAT]
    | .stw => [S.STW_PERSIST_FAIL]
    | .ldg => [S.LDG_PERSIST_FAIL]
    | .pwr => [S.PWR_RAIL_WARN, S.PWR_RAIL_FAULT, S.PWR_POWER_HIGH, S.PWR_TEMP_HIGH, S.PWR_TEMP_TRIP, S.PWR_PMBUS_FAIL]
    | .pci => [S.PCI_ACCESS_FAULT, S.PCI_GATED_WRITE, S.PCI_BAR2_ERROR, S.PCI_LINK_DOWN]
    | _ => []
  decide (k ∈ l)

/-- Whether a detector without an evaluation of its own counts toward retry (R117, R258, R381). -/
def countsRetry (b : Block) (k : Nat) : Bool :=
  match b with
  | .spr => decide (k = S.SPR_RETRAIN ∨ k = S.SPR_RETRAIN_FAIL)
  | .zhk => decide (k = S.ZHK_RETRAIN)
  | .eth => decide (k = S.ETH_LINK_DOWN)
  | _ => false

/-- INJECT_FIRE (R75): an armed detector with no frame, stroke, access or sample of its own is evaluated once every
microsecond; it sets its bit, pulses its event and counts toward retry, and takes no other action. -/
def execInjectFire (page bit : Nat) (s : State) : Result :=
  match pageBlock page with
  | none => .next s
  | some b =>
    if ownPoint b bit || pageGated s page then .next s
    else
      let r := takeArmed page bit s
      if r.1 then
        let s := setSticky page bit r.2
        .next (if countsRetry b bit then (countRetry page s).1 else s)
      else .next r.2

/-! ## Commands over the management ports (R84 to R86) -/

/-- ETH page of management port `p` (R67). -/
def mgmtPage (p : Nat) : Nat := 0x314 + p

/-- Operation `k` of a command (R84). -/
def cmdOp (l : List Byte) (k : Nat) : CmdOp :=
  let at' := 64 + 24 * k
  ⟨byteField l at' 2, byteField l (at' + 2) 2, byteField l (at' + 4) 1, BitVec.ofNat 64 (byteField l (at' + 8) 8),
    BitVec.ofNat 64 (byteField l (at' + 16) 8)⟩

/-- Operations of a command. -/
def cmdOps (l : List Byte) : Nat := byteField l 7 1

/-- Bytes of a command before its authenticator. -/
def cmdLen (l : List Byte) : Nat := 64 + 24 * cmdOps l

/-- Bytes of the authenticator of a kind (R84). -/
def authLen (kind : Nat) : Nat := if kind = 1 then 4627 else 16

/-- Whether the fixed fields, the counts, the length and the reserved fields of a command are as R84 states. -/
def cmdFormed (l : List Byte) : Bool :=
  decide (l.take 4 = [0x54#8, 0x5A#8, 0x43#8, 0x4D#8]) && decide (byteField l 4 2 = 1) &&
    decide (byteField l 6 1 = 1 ∨ byteField l 6 1 = 2) && decide (1 ≤ cmdOps l ∧ cmdOps l ≤ 64) &&
    decide (l.length = cmdLen l + authLen (byteField l 6 1) ∧ l.length ≤ 8192) &&
    decide (byteField l 41 23 = 0) &&
    (List.range (cmdOps l)).all (fun k =>
      decide (byteField l (64 + 24 * k + 5) 3 = 0) && decide (1 ≤ (cmdOp l k).op ∧ (cmdOp l k).op ≤ 3))

/-- The tag of a session over bytes, as a command or a reply (R428). -/
def sessionTag (key : List Byte) (seq : Nat) (reply : Bool) (l : List Byte) : List Byte :=
  let iv := leBytes 8 seq ++ [if reply then 1#8 else 0#8, 0#8, 0#8, 0#8]
  (List.range 16).map (fun k => Config.gcmTag (key.take 32) iv l k)

/-- Whether the authenticator of a command holds (R84, R428). -/
def cmdAuthentic (s : State) (l : List Byte) : Bool :=
  let body := l.take (cmdLen l)
  let auth := l.drop (cmdLen l)
  let key := byteField l 40 1
  if byteField l 6 1 = 1 then
    match s.hwd.owners.getD key .empty with
    | .active hash => Config.verifies hash body auth
    | _ => false
  else
    match sparseFind s.hwd.sessions key with
    | some k => decide (sessionTag k (byteField l 32 8) false body = auth)
    | none => false

/-- Whether a command is accepted (R85). -/
def cmdAccepted (s : State) (l : List Byte) : Bool :=
  cmdFormed l && cmdAuthentic s l && decide (byteField l 8 8 = pkgSerial s) && decide ((l.drop 16).take 16 = bootNonce s) &&
    (match s.cmd.lastSeq with
     | some q => decide (q < byteField l 32 8)
     | none => true)

/-- The bits of a register that a masked write outside its mask leaves as they stand; the others have nothing to keep. -/
def storedBits (p off : Nat) : Word :=
  match regDef p off with
  | some r => r.fields.foldl (fun w f => match f.acc with
    | .rw | .rwg => w ||| fieldMask f.lo f.width
    | _ => w) 0
  | none => if pageBlock p = some .msix then 0xFFFFFFFFFFFFFFFF#64 else 0

/-- The word a masked write gives a register: the bits of the mask new, the others as they stand (R84, R86). -/
def maskedWord (s : State) (p off : Nat) (mask v : Word) : Word :=
  (v &&& mask) ||| (peekReg s p off &&& storedBits p off &&& ~~~ mask)

/-- An operation of a command by master `m`: status, value read, state (R86). An offset beyond the page names no register
(R7). -/
def runCmdOp (m : Nat) (o : CmdOp) (s : State) : Nat × Word × State :=
  let addr := regAddr o.page o.off
  if 0x1000 ≤ o.off ∧ o.off % 8 = 0 then (0, 0, s)
  else if o.op = 1 then
    let r := busRead m (if 0x1000 ≤ o.off then 1 else addr) 8 s
    (if r.2.1 then 3 else 0, r.1, r.2.2)
  else
    let v := if o.op = 2 then o.value else maskedWord s o.page o.off o.mask o.value
    let s := busWrite m (if 0x1000 ≤ o.off then 1 else addr) 8 v s
    (s.wst, 0, s)

/-- Statuses and read values of a finished command: what was not executed has status 4 (R86). -/
def replyBody (r : CmdRun) : List Byte :=
  let all : List (Nat × Word) := r.done ++ r.rest.map (fun _ => (4, 0#64))
  r.bytes.take 64 ++ all.map (fun x : Nat × Word => BitVec.ofNat 8 x.1) ++ all.flatMap (fun x => leBytes 8 x.2.toNat)

/-- The reply of a command leaves its management port, authenticated as the command was (R86, R428). Without an identity
no signed reply is made (R418). -/
def sendReply (p : Nat) (r : CmdRun) (s : State) : State :=
  let body := replyBody r
  let out (auth : List Byte) (s : State) : State :=
    ethReply (4 + p) (body ++ auth) s
  if r.signed then
    if s.ldg.noIdentity then s else out (signature s) (countSignature s)
  else
    match sparseFind s.hwd.sessions r.key with
    | some k => out (sessionTag k r.seq true body) s
    | none => s

/-- A command ends: reply and command record (R86). -/
def finishCmd (p : Nat) (s : State) : State :=
  match sparseFind s.cmd.runs p with
  | none => s
  | some r =>
    let s := { s with cmd := { s.cmd with runs := sparseErase s.cmd.runs p } }
    let s := sendReply p r s
    let statuses : List Byte := (r.done.map Prod.fst ++ r.rest.map (fun _ => 4)).map (fun x : Nat => BitVec.ofNat 8 x)
    (emitRecord (fld s ldgPage F.LDG_RINGS_CMD_RING) (3 + p) 3 4 (r.bytes ++ statuses) s).2

/-- The next operation of the command on port `p`; a refusal stops it, and the last operation ends it (R86). -/
def nextOp (p : Nat) (s : State) : State :=
  match sparseFind s.cmd.runs p with
  | none => s
  | some r =>
    match r.rest with
    | [] => finishCmd p s
    | o :: l =>
      let x := runCmdOp (3 + p) o s
      let s := x.2.2
      match sparseFind s.cmd.runs p with
      | none => s
      | some r =>
        let r := { r with rest := l, done := r.done ++ [(x.1, x.2.1)] }
        let s := { s with cmd := { s.cmd with runs := sparseInsert (sparseErase s.cmd.runs p) p r } }
        if x.1 ≠ 0 ∨ l = [] then finishCmd p s else s

/-- Up to `n` operations of the command on port `p`. -/
def runCmd (p : Nat) : Nat → State → State
  | 0, s => s
  | n + 1, s => runCmd p n (nextOp p s)

/-- COMMAND (R85, R86). -/
def execCommand (p : Nat) (bytes : List Byte) (held : Bool) (s : State) : Result :=
  if 2 ≤ p ∨ pageLive s (mgmtPage p) = false then .next s
  else
    let s := runCmd p 64 s
    let d := evalDetector (mgmtPage p) S.ETH_CMD_REJECTED (!cmdAccepted s bytes) s
    let s := d.2
    if d.1 then .next (setSticky (mgmtPage p) S.ETH_CMD_REJECTED s)
    else
      let seq := byteField bytes 32 8
      let r : CmdRun :=
        ⟨decide (byteField bytes 6 1 = 1), byteField bytes 40 1, seq, bytes,
          (List.range (cmdOps bytes)).map (fun k => cmdOp bytes k), [], []⟩
      let s := { s with cmd := { lastSeq := some seq, runs := sparseInsert (sparseErase s.cmd.runs p) p r } }
      .next (if held then s else runCmd p 64 s)

/-- The next operation of the command held on port `p`, if it has the opcode. -/
def stepCmd (p op : Nat) (s : State) : State :=
  match (sparseFind s.cmd.runs p).bind (fun r => r.rest.head?) with
  | some o => if o.op = op then nextOp p s else s
  | none => s

/-- CMD_READ (R86). -/
def execCmdRead (p : Nat) (s : State) : Result := .next (stepCmd p 1 s)

/-- CMD_WRITE (R86). -/
def execCmdWrite (p : Nat) (s : State) : Result := .next (stepCmd p 2 s)

/-- WRITE_MASKED (R86). -/
def execWriteMasked (p : Nat) (s : State) : Result := .next (stepCmd p 3 s)

/-! ## PCI Express (R82, R83, R443) -/

abbrev pciPage : Nat := 0x3F2

/-- A BAR2 request that ended with an error response or poisoned data is flagged (R346). -/
def bar2Judge (bad : Bool) (s : State) : State :=
  let d := evalDetector pciPage S.PCI_BAR2_ERROR bad s
  stickyIf d.1 pciPage S.PCI_BAR2_ERROR d.2

/-- A BAR2 access cut into requests of at most `k` granules (R331). -/
def bar2Requests (write : Bool) : Nat → Nat → Nat → List Byte → List HbmReq
  | 0, _, _, _ => []
  | k + 1, a, n, l =>
    let m := min n (256 - a % 256)
    if n = 0 then [] else ⟨0, 0, a, m, write, l.take m, 0⟩ :: bar2Requests write k (a + m) (n - m) (l.drop m)

/-- BAR2_ACCESS (R82): `bytes` are written, or `len` bytes are read and returned to the host. A stack that is OFF or TRAINING holds
the requests at their source, until HBM_REQUEST finds it in service (R339). -/
def execBar2Access (write : Bool) (addr len : Nat) (bytes : List Byte) (s : State) : Result :=
  let n := if write then bytes.length else len
  if pageGated s pciPage ∨ 64 * 2 ^ 30 < addr + n then .next s
  else
    let a := fld s pciPage F.PCI_BAR2_BASE_BASE + addr
    let s := countK pciPage R.PCI_CNT 1 1 s
    if stackHolds s (stackOf a) || stackHolds s (stackOf (a + n - 1)) then
      .next ((bar2Requests write (n / 256 + 2) a n bytes).foldl (fun s r => arrive r s) s)
    else if write then
      let r := hbmWrite a bytes s
      .next (bar2Judge r.1 r.2)
    else
      let r := hbmRead a n s
      .next (bar2Judge (r.1.err || r.1.poison) (readReply 0 r.1 r.2))

/-- A PCI reset (R443): BAR2_BASE, the MSI-X table and the pending bits return to reset; requests of master 0 are dropped. -/
def execPciReset (s : State) : Result :=
  let s := resetRegs pciPage R.PCI_BAR2_BASE 1 s
  let s := { resetRegs 0x400 0 (9 * 512) s with msixFn := false }
  let drop (l : List HbmEntry) : List HbmEntry := l.filter (fun r => decide (r.req.master ≠ 0))
  let keep (c : HbmPc) : HbmPc :=
    let q := drop c.queue
    let h := drop c.held
    { c with queue := q ++ h.take (64 - q.length), held := h.drop (64 - q.length) }
  let s := s.hbm.pcs.foldl (fun s e =>
    { s with hbm := { s.hbm with pcs := alSet {} s.hbm.pcs e.1 (keep e.2) } }) s
  .next { s with hbm := { s.hbm with
      waiting := drop s.hbm.waiting, replies := s.hbm.replies.filter (fun r => decide (r.entry.req.master ≠ 0)) } }

/-- PCI_LINK: the link reports its rate, its lanes and whether it is in L0; leaving L0 is flagged. -/
def execPciLink (speed width : Nat) (l0 : Bool) (s : State) : Result :=
  if pageGated s pciPage then .next s
  else
    let was := flag s pciPage F.PCI_LINK_L0
    let s := setFld pciPage F.PCI_LINK_L0 (if l0 then 1 else 0)
      (setFld pciPage F.PCI_LINK_WIDTH width (setFld pciPage F.PCI_LINK_SPEED speed s))
    let d := evalDetector pciPage S.PCI_LINK_DOWN (was && !l0) s
    .next (stickyIf d.1 pciPage S.PCI_LINK_DOWN d.2)

end Sys2Proof.Machine
end

