-- ==== Sys2Proof/Machine/Training.lean ====
section
/-! DEFINITION. Lane training as commands (R95 to R102, R251, R254): TRAIN frames and the timeouts of Spur and Zhok lanes. -/

namespace Sys2Proof.Machine

/-- TRAIN_FRAME (R95 to R102). -/
def execTrainFrame (lane : LanePort) (fr : RxFrame) (inv : Bool) (eq : EqInput) (s : State) : Result :=
  match lane with
  | .spur n => .next (sprReceive n fr inv eq s)
  | .zhok n => .next (zhkTrainFrame n fr inv eq s)

/-- STEP_FAIL (R100, R254): no lock 1.5 ms after a rate switch. -/
def execStepFail (lane : LanePort) (s : State) : Result :=
  match lane with
  | .spur n =>
    let r := trainStepFail (sprLane s n)
    let d := evalDetector (sprPage n) S.SPR_STEP_FAIL r.2 s
    .next (stickyIf d.1 (sprPage n) S.SPR_STEP_FAIL (setSprLane n r.1 d.2))
  | .zhok n =>
    let r := trainStepFail (zhkLane s n)
    .next (if r.2 then zhkCapCheck n (setZhkLane n r.1 s) else setZhkLane n r.1 s)

/-- TRAINING_TIMEOUT (R101): full training starts again at S0. -/
def execTrainingTimeout (lane : LanePort) (s : State) : Result :=
  match lane with
  | .spur n => .next (if inFullTraining (sprLane s n) then sprTrain n false s else s)
  | .zhok n => .next (if inFullTraining (zhkLane s n) then zhkTrain n s else s)

/-- RETRAIN_FAIL (R102): RUN has not resumed within 2 ms. -/
def execRetrainFail (lane : LanePort) (s : State) : Result :=
  match lane with
  | .spur n => .next (if inFastRetrain (sprLane s n) then sprRetrainFail n s else s)
  | .zhok n => .next (if inFastRetrain (zhkLane s n) then zhkTrain n s else s)

end Sys2Proof.Machine
end

