-- ==== Sys2Proof/Machine/Dispatch.lean ====
section
/-! DEFINITION. The dispatcher: one arm per command. -/

namespace Sys2Proof.Machine

/-- What a command does to everything but the queue. -/
def exec (i : Instr) (s : State) : Host.Outcome State Fault Refusal :=
  match i with
  | .registerWrite m addr size v also => Sys2Proof.Machine.execRegisterWrite m addr size v also s
  | .pageEnable m page v => Sys2Proof.Machine.execPageEnable m page v s
  | .pageDebug m page v => Sys2Proof.Machine.execPageDebug m page v s
  | .softReset m page v => Sys2Proof.Machine.execSoftReset m page v s
  | .inject m page v => Sys2Proof.Machine.execInject m page v s
  | .disarm m page v => Sys2Proof.Machine.execDisarm m page v s
  | .injectFire page bit => Sys2Proof.Machine.execInjectFire page bit s
  | .stickyEvtEn m page v => Sys2Proof.Machine.execStickyEvtEn m page v s
  | .command p bytes held => Sys2Proof.Machine.execCommand p bytes held s
  | .cmdRead p => Sys2Proof.Machine.execCmdRead p s
  | .cmdWrite p => Sys2Proof.Machine.execCmdWrite p s
  | .writeMasked p => Sys2Proof.Machine.execWriteMasked p s
  | .bar2Access write addr len bytes => Sys2Proof.Machine.execBar2Access write addr len bytes s
  | .pciReset => Sys2Proof.Machine.execPciReset s
  | .trainFrame lane fr inv eq => Sys2Proof.Machine.execTrainFrame lane fr inv eq s
  | .stepFail lane => Sys2Proof.Machine.execStepFail lane s
  | .trainingTimeout lane => Sys2Proof.Machine.execTrainingTimeout lane s
  | .dataFrame lane fr => Sys2Proof.Machine.execDataFrame lane fr s
  | .idleFrame lane fr => Sys2Proof.Machine.execIdleFrame lane fr s
  | .retrainFail lane => Sys2Proof.Machine.execRetrainFail lane s
  | .mgmtFrame lane fr => Sys2Proof.Machine.execMgmtFrame lane fr s
  | .ack lane seq status => Sys2Proof.Machine.execAck lane seq status s
  | .status lane arg => Sys2Proof.Machine.execStatus lane arg s
  | .send m lane v => Sys2Proof.Machine.execSend m lane v s
  | .syncTimeout lane => Sys2Proof.Machine.execSyncTimeout lane s
  | .sprStRead m lane v => Sys2Proof.Machine.execSprStRead m lane v s
  | .sprStWrite m lane v => Sys2Proof.Machine.execSprStWrite m lane v s
  | .roughingOutput engine ecc => Sys2Proof.Machine.execRoughingOutput engine ecc s
  | .roughReset h => Sys2Proof.Machine.execRoughReset h s
  | .syncNow m engine v => Sys2Proof.Machine.execSyncNow m engine v s
  | .spectrum fpl stream errs => Sys2Proof.Machine.execSpectrum fpl stream errs s
  | .turnWrite die count => Sys2Proof.Machine.execTurnWrite die count s
  | .modelLoad h => Sys2Proof.Machine.execModelLoad h s
  | .loadNow m fpl v => Sys2Proof.Machine.execLoadNow m fpl v s
  | .gainSwap h => Sys2Proof.Machine.execGainSwap h s
  | .fplGainSwap m fpl v => Sys2Proof.Machine.execFplGainSwap m fpl v s
  | .coefSwap h => Sys2Proof.Machine.execCoefSwap h s
  | .request m fpl v => Sys2Proof.Machine.execRequest m fpl v s
  | .fplCoefData m fpl wr v => Sys2Proof.Machine.execFplCoefData m fpl wr v s
  | .fplGainData m fpl wr v => Sys2Proof.Machine.execFplGainData m fpl wr v s
  | .fplMapRead m fpl v => Sys2Proof.Machine.execFplMapRead m fpl v s
  | .fplMapWrite m fpl v => Sys2Proof.Machine.execFplMapWrite m fpl v s
  | .fplRegionRead m fpl v => Sys2Proof.Machine.execFplRegionRead m fpl v s
  | .fplRegionWrite m fpl v => Sys2Proof.Machine.execFplRegionWrite m fpl v s
  | .stagingDeadline die region batch => Sys2Proof.Machine.execStagingDeadline die region batch s
  | .stageLoad die errs => Sys2Proof.Machine.execStageLoad die errs s
  | .drainToken lathe faults held stretched => Sys2Proof.Machine.execDrainToken lathe faults held stretched s
  | .handshakeTo lathe => Sys2Proof.Machine.execHandshakeTo lathe s
  | .replay die errs => Sys2Proof.Machine.execReplay die errs s
  | .snapshot m lathe v => Sys2Proof.Machine.execSnapshot m lathe v s
  | .snapDone lathe samples => Sys2Proof.Machine.execSnapDone lathe samples s
  | .lthResume m lathe v => Sys2Proof.Machine.execLthResume m lathe v s
  | .schPlanRead m die v => Sys2Proof.Machine.execSchPlanRead m die v s
  | .schPlanWrite m die v => Sys2Proof.Machine.execSchPlanWrite m die v s
  | .gougeStroke lathe faults held stretched => Sys2Proof.Machine.execGougeStroke lathe faults held stretched s
  | .detectorEvaluation die det => Sys2Proof.Machine.execDetectorEvaluation die det s
  | .detAck m die det v => Sys2Proof.Machine.execDetAck m die det v s
  | .ggeDetRead m die v => Sys2Proof.Machine.execGgeDetRead m die v s
  | .ggeDetWrite m die v => Sys2Proof.Machine.execGgeDetWrite m die v s
  | .ggeLine m die line v => Sys2Proof.Machine.execGgeLine m die line v s
  | .ggeWsetRead m die v => Sys2Proof.Machine.execGgeWsetRead m die v s
  | .ggeWsetWrite m die v => Sys2Proof.Machine.execGgeWsetWrite m die v s
  | .swap m die v => Sys2Proof.Machine.execSwap m die v s
  | .weightSwap h => Sys2Proof.Machine.execWeightSwap h s
  | .dump die held => Sys2Proof.Machine.execDump die held s
  | .missNotice die => Sys2Proof.Machine.execMissNotice die s
  | .tlyCtxRead m die v => Sys2Proof.Machine.execTlyCtxRead m die v s
  | .tlyCtxWrite m die v => Sys2Proof.Machine.execTlyCtxWrite m die v s
  | .tlyStart m die v => Sys2Proof.Machine.execTlyStart m die v s
  | .tlyStop m die v => Sys2Proof.Machine.execTlyStop m die v s
  | .intStart h => Sys2Proof.Machine.execIntStart h s
  | .intEnd h => Sys2Proof.Machine.execIntEnd h s
  | .integrationClose die ctx lost => Sys2Proof.Machine.execIntegrationClose die ctx lost s
  | .recordEmit die ctx => Sys2Proof.Machine.execRecordEmit die ctx s
  | .linkFrame link words data rx table => Sys2Proof.Machine.execLinkFrame link words data rx table s
  | .ackStall link => Sys2Proof.Machine.execAckStall link s
  | .corner dest src region pos chan batch t code => Sys2Proof.Machine.execCorner dest src region pos chan batch t code s
  | .partialOp dest src die ctx int slot chan bytes => Sys2Proof.Machine.execPartialOp dest src die ctx int slot chan bytes s
  | .record dest src ring off bytes => Sys2Proof.Machine.execRecord dest src ring off bytes s
  | .recordTimeout src ring => Sys2Proof.Machine.execRecordTimeout src ring s
  | .mark dest src mark => Sys2Proof.Machine.execMark dest src mark s
  | .claim dest src claims => Sys2Proof.Machine.execClaim dest src claims s
  | .claimReport => Sys2Proof.Machine.execClaimReport s
  | .sharedIsolated entry member => Sys2Proof.Machine.execSharedIsolated entry member s
  | .sharedTakeover entry => Sys2Proof.Machine.execSharedTakeover entry s
  | .routeDrop => Sys2Proof.Machine.execRouteDrop s
  | .stepDown link => Sys2Proof.Machine.execStepDown link s
  | .stepUp link demand => Sys2Proof.Machine.execStepUp link demand s
  | .stepUpFail link => Sys2Proof.Machine.execStepUpFail link s
  | .linkOverload link cls => Sys2Proof.Machine.execLinkOverload link cls s
  | .tbsTimeS m => Sys2Proof.Machine.execTbsTimeS m s
  | .apply m v => Sys2Proof.Machine.execApply m v s
  | .ptpMessage clock msg => Sys2Proof.Machine.execPtpMessage clock msg s
  | .announceTimeout clock => Sys2Proof.Machine.execAnnounceTimeout clock s
  | .ppsInEdge n t => Sys2Proof.Machine.execPpsInEdge n t s
  | .ppsLoss n => Sys2Proof.Machine.execPpsLoss n s
  | .revert => Sys2Proof.Machine.execRevert s
  | .trigInEdge line rising t width => Sys2Proof.Machine.execTrigInEdge line rising t width s
  | .tbsTriginPop => Sys2Proof.Machine.execTbsTriginPop s
  | .markInsert m v => Sys2Proof.Machine.execMarkInsert m v s
  | .markRead m v => Sys2Proof.Machine.execMarkRead m v s
  | .markDelete m v => Sys2Proof.Machine.execMarkDelete m v s
  | .markDispatch => Sys2Proof.Machine.execMarkDispatch s
  | .mrkDone => Sys2Proof.Machine.execMrkDone s
  | .markNop h => Sys2Proof.Machine.execMarkNop h s
  | .trigPulse h => Sys2Proof.Machine.execTrigPulse h s
  | .trigLevel h => Sys2Proof.Machine.execTrigLevel h s
  | .pulseEnd line => Sys2Proof.Machine.execPulseEnd line s
  | .syncLoad h => Sys2Proof.Machine.execSyncLoad h s
  | .ctrlStart h => Sys2Proof.Machine.execCtrlStart h s
  | .ctrlStop h => Sys2Proof.Machine.execCtrlStop h s
  | .event h => Sys2Proof.Machine.execEvent h s
  | .chiselPost h => Sys2Proof.Machine.execChiselPost h s
  | .monitorUpdate offs los phases => Sys2Proof.Machine.execMonitorUpdate offs los phases s
  | .los ref phases => Sys2Proof.Machine.execLos ref phases s
  | .dpllLock err => Sys2Proof.Machine.execDpllLock err s
  | .historySample freq => Sys2Proof.Machine.execHistorySample freq s
  | .hoLimit t => Sys2Proof.Machine.execHoLimit t s
  | .xoLost => Sys2Proof.Machine.execXoLost s
  | .xoReturn phases => Sys2Proof.Machine.execXoReturn phases s
  | .truClkout m n v => Sys2Proof.Machine.execTruClkout m n v s
  | .run m n v => Sys2Proof.Machine.execRun m n v s
  | .stop m n v => Sys2Proof.Machine.execStop m n v s
  | .doorbell m n v => Sys2Proof.Machine.execDoorbell m n v s
  | .chsMemData m n w => Sys2Proof.Machine.execChsMemData m n w s
  | .wake n cause => Sys2Proof.Machine.execWake n cause s
  | .watchdog n => Sys2Proof.Machine.execWatchdog n s
  | .hLoadTimeout n => Sys2Proof.Machine.execHLoadTimeout n s
  | .brdTimeout n => Sys2Proof.Machine.execBrdTimeout n s
  | .outfeed n => Sys2Proof.Machine.execOutfeed n s
  | .nop n => Sys2Proof.Machine.execNop n s
  | .halt n => Sys2Proof.Machine.execHalt n s
  | .jmp n => Sys2Proof.Machine.execJmp n s
  | .jcc n => Sys2Proof.Machine.execJcc n s
  | .call n => Sys2Proof.Machine.execCall n s
  | .ret n => Sys2Proof.Machine.execRet n s
  | .loop n => Sys2Proof.Machine.execLoop n s
  | .ldlc n => Sys2Proof.Machine.execLdlc n s
  | .movlc n => Sys2Proof.Machine.execMovlc n s
  | .waitw n => Sys2Proof.Machine.execWaitw n s
  | .waitm n => Sys2Proof.Machine.execWaitm n s
  | .mkins n => Sys2Proof.Machine.execMkins n s
  | .brd n => Sys2Proof.Machine.execBrd n s
  | .bwr n => Sys2Proof.Machine.execBwr n s
  | .outf n => Sys2Proof.Machine.execOutf n s
  | .sync n => Sys2Proof.Machine.execSync n s
  | .evt n => Sys2Proof.Machine.execEvt n s
  | .ldi n => Sys2Proof.Machine.execLdi n s
  | .mov n => Sys2Proof.Machine.execMov n s
  | .setg n => Sys2Proof.Machine.execSetg n s
  | .getg n => Sys2Proof.Machine.execGetg n s
  | .rnd n => Sys2Proof.Machine.execRnd n s
  | .crnd n => Sys2Proof.Machine.execCrnd n s
  | .clra n => Sys2Proof.Machine.execClra n s
  | .lda n => Sys2Proof.Machine.execLda n s
  | .clda n => Sys2Proof.Machine.execClda n s
  | .add n => Sys2Proof.Machine.execAdd n s
  | .sub n => Sys2Proof.Machine.execSub n s
  | .neg n => Sys2Proof.Machine.execNeg n s
  | .abs n => Sys2Proof.Machine.execAbs n s
  | .mul n => Sys2Proof.Machine.execMul n s
  | .andOp n => Sys2Proof.Machine.execAndOp n s
  | .orOp n => Sys2Proof.Machine.execOrOp n s
  | .xor n => Sys2Proof.Machine.execXor n s
  | .shl n => Sys2Proof.Machine.execShl n s
  | .shra n => Sys2Proof.Machine.execShra n s
  | .shrl n => Sys2Proof.Machine.execShrl n s
  | .cmp n => Sys2Proof.Machine.execCmp n s
  | .min n => Sys2Proof.Machine.execMin n s
  | .max n => Sys2Proof.Machine.execMax n s
  | .mpy n => Sys2Proof.Machine.execMpy n s
  | .mac n => Sys2Proof.Machine.execMac n s
  | .msu n => Sys2Proof.Machine.execMsu n s
  | .adda n => Sys2Proof.Machine.execAdda n s
  | .cadd n => Sys2Proof.Machine.execCadd n s
  | .csub n => Sys2Proof.Machine.execCsub n s
  | .conj n => Sys2Proof.Machine.execConj n s
  | .cmul n => Sys2Proof.Machine.execCmul n s
  | .cmac n => Sys2Proof.Machine.execCmac n s
  | .cmacj n => Sys2Proof.Machine.execCmacj n s
  | .cmpy n => Sys2Proof.Machine.execCmpy n s
  | .cmulj n => Sys2Proof.Machine.execCmulj n s
  | .cpow n => Sys2Proof.Machine.execCpow n s
  | .cscl n => Sys2Proof.Machine.execCscl n s
  | .phs n => Sys2Proof.Machine.execPhs n s
  | .hbmRequest pc arriving errs => Sys2Proof.Machine.execHbmRequest pc arriving errs s
  | .refresh pc bank => Sys2Proof.Machine.execRefresh pc bank s
  | .powerDown pc => Sys2Proof.Machine.execPowerDown pc s
  | .scrub pc word err => Sys2Proof.Machine.execScrub pc word err s
  | .timeout m wr => Sys2Proof.Machine.execTimeout m wr s
  | .reserve ring reqs => Sys2Proof.Machine.execReserve ring reqs s
  | .commit reqs => Sys2Proof.Machine.execCommit reqs s
  | .rewind ring producer => Sys2Proof.Machine.execRewind ring producer s
  | .rngAdvance m v => Sys2Proof.Machine.execRngAdvance m v s
  | .rngRead m v => Sys2Proof.Machine.execRngRead m v s
  | .rngWrite m v => Sys2Proof.Machine.execRngWrite m v s
  | .rngWmPop => Sys2Proof.Machine.execRngWmPop s
  | .flush ring => Sys2Proof.Machine.execFlush ring s
  | .dmaChEn m ch v cut => Sys2Proof.Machine.execDmaChEn m ch v cut s
  | .go m ch v => Sys2Proof.Machine.execGo m ch v s
  | .copyDescriptor ch host err => Sys2Proof.Machine.execCopyDescriptor ch host err s
  | .recordTransfer ch err => Sys2Proof.Machine.execRecordTransfer ch err s
  | .dmaChRd m ch v => Sys2Proof.Machine.execDmaChRd m ch v s
  | .frameReceive p sub f => Sys2Proof.Machine.execFrameReceive p sub f s
  | .sampleDatagram p => Sys2Proof.Machine.execSampleDatagram p s
  | .pauseFrame p sub pfc times => Sys2Proof.Machine.execPauseFrame p sub pfc times s
  | .pauseExpire p sub c => Sys2Proof.Machine.execPauseExpire p sub c s
  | .pauseWd p sub c => Sys2Proof.Machine.execPauseWd p sub c s
  | .pauseRefresh p => Sys2Proof.Machine.execPauseRefresh p s
  | .lpi p => Sys2Proof.Machine.execLpi p s
  | .lldpdu p => Sys2Proof.Machine.execLldpdu p s
  | .linkDown p sub unc => Sys2Proof.Machine.execLinkDown p sub unc s
  | .ethFlowRead m p v => Sys2Proof.Machine.execEthFlowRead m p v s
  | .ethFlowWrite m p v => Sys2Proof.Machine.execEthFlowWrite m p v s
  | .controlCycle c => Sys2Proof.Machine.execControlCycle c s
  | .slewUpdate c ua mv limit => Sys2Proof.Machine.execSlewUpdate c ua mv limit s
  | .fldRun m c v => Sys2Proof.Machine.execFldRun m c v s
  | .restart m c v => Sys2Proof.Machine.execRestart m c v s
  | .fldResume m c v => Sys2Proof.Machine.execFldResume m c v s
  | .failsafeAll m v => Sys2Proof.Machine.execFailsafeAll m v s
  | .railFault rails => Sys2Proof.Machine.execRailFault rails s
  | .railRecovery => Sys2Proof.Machine.execRailRecovery s
  | .beat m st v => Sys2Proof.Machine.execBeat m st v s
  | .refereeEvaluation lowA lowB => Sys2Proof.Machine.execRefereeEvaluation lowA lowB s
  | .arm m v => Sys2Proof.Machine.execArm m v s
  | .switchover m v => Sys2Proof.Machine.execSwitchover m v s
  | .reinstate m v => Sys2Proof.Machine.execReinstate m v s
  | .refGrantData m v => Sys2Proof.Machine.execRefGrantData m v s
  | .evtPending m k v => Sys2Proof.Machine.execEvtPending m k v s
  | .evtMask m k v => Sys2Proof.Machine.execEvtMask m k v s
  | .msixUnmask m vector v => Sys2Proof.Machine.execMsixUnmask m vector v s
  | .evtPop st => Sys2Proof.Machine.execEvtPop st s
  | .stwRlRead m v => Sys2Proof.Machine.execStwRlRead m v s
  | .remove m v => Sys2Proof.Machine.execRemove m v s
  | .retirePersist ok => Sys2Proof.Machine.execRetirePersist ok s
  | .installFw m v flash => Sys2Proof.Machine.execInstallFw m v flash s
  | .verifyWork m v => Sys2Proof.Machine.execVerifyWork m v s
  | .debugUnlock m v => Sys2Proof.Machine.execDebugUnlock m v s
  | .attest m v => Sys2Proof.Machine.execAttest m v s
  | .kem m v => Sys2Proof.Machine.execKem m v s
  | .ownerProg m v => Sys2Proof.Machine.execOwnerProg m v s
  | .ownerRevoke m v => Sys2Proof.Machine.execOwnerRevoke m v s
  | .confirm m v => Sys2Proof.Machine.execConfirm m v s
  | .relock m v => Sys2Proof.Machine.execRelock m v s
  | .unlockExpiry => Sys2Proof.Machine.execUnlockExpiry s
  | .advanceFwSvn m v => Sys2Proof.Machine.execAdvanceFwSvn m v s
  | .advanceWorkSvn m v => Sys2Proof.Machine.execAdvanceWorkSvn m v s
  | .lockApply m v => Sys2Proof.Machine.execLockApply m v s
  | .resume => Sys2Proof.Machine.execResume s
  | .ckptNow m v => Sys2Proof.Machine.execCkptNow m v s
  | .ckptTime => Sys2Proof.Machine.execCkptTime s
  | .checkpoint ok => Sys2Proof.Machine.execCheckpoint ok s
  | .ckptPersisted => Sys2Proof.Machine.execCkptPersisted s
  | .ckptLate => Sys2Proof.Machine.execCkptLate s
  | .pwrDomainReq m v env => Sys2Proof.Machine.execPwrDomainReq m v env s
  | .railMonitor rails watts => Sys2Proof.Machine.execRailMonitor rails watts s
  | .tempTrip die tj dead => Sys2Proof.Machine.execTempTrip die tj dead s
  | .smbAlert faults dead => Sys2Proof.Machine.execSmbAlert faults dead s
  | .powerOn => Sys2Proof.Machine.execPowerOn s
  | .resetN => Sys2Proof.Machine.execResetN s
  | .fullReset m v => Sys2Proof.Machine.execFullReset m v s
  | .start env => Sys2Proof.Machine.execStart env s
  | .shutdown m v => Sys2Proof.Machine.execShutdown m v s
  | .drainMs env => Sys2Proof.Machine.execDrainMs env s
  | .phaseErr err => Sys2Proof.Machine.execPhaseErr err s
  | .tempHigh die tj => Sys2Proof.Machine.execTempHigh die tj s
  | .ppsOut => Sys2Proof.Machine.execPpsOut s
  | .subportUp p sub => Sys2Proof.Machine.execSubportUp p sub s
  | .pciLink speed width l0 => Sys2Proof.Machine.execPciLink speed width l0 s

end Sys2Proof.Machine
end

