-- ==== Sys2Proof/Safety.lean ====
section
/-! DEFINITION. The words the statements use: what it is for a command to complete, and the invariants of a good state. -/

namespace Sys2Proof.Machine

/-- The command answers a next state on `s`, and `P` holds of it. -/
def completes (c : Instr) (s : State) (P : State → Prop) : Prop := ∃ t, exec c s = .next t ∧ P t

/-- A sticky bit of a page is set. -/
abbrev stuck (s : State) (p b : Nat) : Prop := bitOf (reg s p R.STICKY) b = true

/-- Counter `k` of a counter array has counted `n`, saturating. -/
abbrev counted (s t : State) (p base k n : Nat) : Prop :=
  reg t p (base + 8 * k) = BitVec.ofNat 64 (satAdd 64 (reg s p (base + 8 * k)).toNat n)

/-- No detector of a page is armed (R75). -/
abbrev unarmed (s : State) (p : Nat) : Prop := ∀ a ∈ s.armed, a.page ≠ p

/-- A page that a pulsed event may write: the event controller, the PCI counters, the pending-bit array (R405). -/
abbrev eventPage (p : Nat) : Prop := p = 0x3D2 ∨ p = 0x3D3 ∨ p = 0x3F2 ∨ p = 0x408

/-- The stores of the block are canonical: registers and HBM. -/
def canonical (s : State) : Prop := sparseWf regReset s.regs ∧ sparseWf memFill s.mem

/-- Every byte of HBM reads as before. -/
def sameMemory (s t : State) : Prop := ∀ a, memGet t a = memGet s a

/-- Every register outside a page reads as before. -/
def sameOutside (p : Nat) (s t : State) : Prop := ∀ q off, q ≠ p → off < 0x1000 → reg t q off = reg s q off

/-- Core `n` is about to issue an instruction of opcode `op` that decodes to `i` and whose move slots are both empty; no
detector of its page is armed. -/
abbrev issues (s : State) (n op : Nat) (i : ChsInstr) : Prop :=
  chsRunning s n = true ∧ unarmed s (chsPage n) ∧ chsOpcode (wtGet (chsCore s n).prog (chsCore s n).pc) = op ∧
    chsDecode n (chsCore s n) (wtGet (chsCore s n).prog (chsCore s n).pc) = some i ∧ i.m0.en = false ∧ i.m1.en = false

/-- The time on the block's own clock of the Referee's next evaluation: the first tick from the next millisecond on (R395). -/
abbrev evaluationTime (s : State) : Nat := (advanceMono ((s.mono / msUnits + 1) * msUnits) s).mono

/-! ## Frames -/

/-- The parts of the state beside the queue: what a frame of a command names. -/
inductive Part where
  | mono | dev | free | out | rd | wst | regs | grants | armed | retry | msix | routes | events | mem | spr | rch | rl | fpl | mrk
  | hbm | rng | ldg | sch | tly | gge | pins | tru | zhk | dma | eth | tbs | chs | field | ref | hwd | cmd | pwr
  deriving DecidableEq, Repr

/-- Two states agree in a part. -/
def same (x : Part) (s t : State) : Prop :=
  match x with
  | .mono => t.mono = s.mono
  | .dev => t.devFine = s.devFine
  | .free => t.free = s.free
  | .out => t.out = s.out
  | .rd => t.rd = s.rd
  | .wst => t.wst = s.wst
  | .regs => t.regs = s.regs
  | .grants => t.grants = s.grants
  | .armed => t.armed = s.armed
  | .retry => t.retry = s.retry ∧ t.retryWin = s.retryWin
  | .msix => t.msixFn = s.msixFn
  | .routes => t.routes = s.routes
  | .events => t.evtCounts = s.evtCounts ∧ t.evtQA = s.evtQA ∧ t.evtQB = s.evtQB
  | .mem => t.mem = s.mem
  | .spr => t.spr = s.spr
  | .rch => t.rch = s.rch
  | .rl => t.rl = s.rl
  | .fpl => t.fpl = s.fpl
  | .mrk => t.mrk = s.mrk
  | .hbm => t.hbm = s.hbm
  | .rng => t.rng = s.rng
  | .ldg => t.ldg = s.ldg
  | .sch => t.sch = s.sch
  | .tly => t.tly = s.tly
  | .gge => t.gge = s.gge
  | .pins => t.pins = s.pins
  | .tru => t.tru = s.tru
  | .zhk => t.zhk = s.zhk
  | .dma => t.dma = s.dma
  | .eth => t.eth = s.eth
  | .tbs => t.tbs = s.tbs
  | .chs => t.chs = s.chs
  | .field => t.field = s.field
  | .ref => t.ref = s.ref
  | .hwd => t.hwd = s.hwd
  | .cmd => t.cmd = s.cmd
  | .pwr => t.pwr = s.pwr

/-- Every part but those listed, the registers among them, is unchanged. -/
def keeps (l : List Part) (s t : State) : Prop := ∀ x, x ∉ l → same x s t

/-- Every register outside the pages listed reads as before, the pages that an event touches apart. -/
def sameRegs (l : List Nat) (s t : State) : Prop :=
  ∀ q off, q ∉ l → ¬ eventPage q → off < 0x1000 → reg t q off = reg s q off

/-! ## Strokes -/

/-- Whether the gouge strokes of a queue hold their weights, so that a stroke that leaves it lets nothing be loaded (R207). -/
def weightsStored (q : List Stroke) : Bool := q.all (fun k => (k.gouge.map (fun g => g.weights.isSome)).getD true)

/-! ## Spur lanes -/

/-- What leaves lane `via` with a management message, the latest first (R112): the message, and its frame as levels and as bytes. -/
def messageOut (s : State) (via type arg32 arg64 : Nat) : List Emission :=
  let l := sprLane s via
  let d := messageBytes type l.txMsg arg32 arg64 ++ List.replicate 608 0
  [⟨.sprMessage, via, [type, l.txMsg, arg32, arg64]⟩, ⟨.sprLevels, via, (frameLevels l.scr l.pre (sentCtrl 3 l) d).1⟩,
    ⟨.sprFrame, via, sentCtrl 3 l :: d.map (fun b => b.toNat)⟩]

/-! ## Chisel cores -/

/-- The word of `w` bits a Chisel core stores for an exact result: clamped with `sat`, wrapped without (R314). -/
def fitted (w : Nat) (sat : Bool) (x : Int) : BitVec w :=
  if -(2 ^ (w - 1)) ≤ x ∧ x < 2 ^ (w - 1) then BitVec.ofInt w x
  else if sat then BitVec.ofInt w (if x < 0 then 1 - 2 ^ (w - 1) else 2 ^ (w - 1) - 1)
  else BitVec.ofInt w x

/-- Whether an exact result does not fit `w` bits. -/
def misfit (w : Nat) (x : Int) : Bool := decide (x < -(2 ^ (w - 1)) ∨ 2 ^ (w - 1) ≤ x)

/-- Core `n` after instruction `i` of core `c` that wrote `x`: gone on to the next address, which a loop may repeat (R319). -/
def wentOn (n : Nat) (i : ChsInstr) (c x : ChsCore) : ChsCore :=
  { x with pipe := chsPipeAfter c.pipe i, pc := (loopNext n c.pc x.loops).1, loops := (loopNext n c.pc x.loops).2 }

/-- Core `n` after instruction `i` of core `c` that wrote `x` and branched (R319). -/
def jumped (n : Nat) (i : ChsInstr) (c x : ChsCore) (target : Nat) : ChsCore :=
  { x with pipe := chsPipeAfter c.pipe i, pc := target % chsProgSize n, loops := loopsKept target x.loops }

/-- Core `n` issued one instruction and is then `x`; nothing else has changed beside its counters. -/
abbrev ranAs (n : Nat) (s t : State) (x : ChsCore) : Prop :=
  chsCore t n = x ∧ (∀ k, k ≠ n → chsCore t k = chsCore s k) ∧ counted s t (chsPage n) R.CHS_CNT 0 1 ∧
    keeps [.chs, .regs] s t ∧ sameRegs [chsPage n] s t

/-- Core `n` stopped in FAULT at its instruction, for a cause that is not counted (R327). -/
abbrev faulted (n cause : Nat) (s t : State) : Prop :=
  chsCore t n = { chsCore s n with st := .fault, wait := none } ∧ stuck t (chsPage n) S.CHS_FAULT ∧
    reg t (chsPage n) R.CHS_FAULT = BitVec.ofNat 64 (cause + (chsCore s n).pc % 2 ^ 14 * 256) ∧
    (∀ k, k ≠ n → chsCore t k = chsCore s k) ∧ keeps [.chs, .regs, .out, .events] s t ∧ sameRegs [chsPage n] s t

end Sys2Proof.Machine
end

