-- ==== Sys2Proof/Certificates/Slice0/Obligations.lean ====
section
/-! DEFINITION. The statements for the provers. -/

open Sys2Proof Sys2Proof.Machine

/-- Addition and negation of I48 values, and their T48 codes. Of two codes that stand for finite I48 values, the sum
stands for the exact integer sum where it lies within ±(2^47 − 2), else for +INF or −INF by its sign. The sum does not
depend on which operand is first; VOID and a sum of opposite infinities give VOID, an infinity and a finite value that
infinity. Negating a code negates a finite value exactly, exchanges the infinities and leaves VOID. A finite value of
magnitude up to 2^40 converts to T48 and back unchanged. A T48 sum is a NaN operand, the first before the second, and
a NaN of cause 1 for infinities of opposite signs. (R36, R40) -/
def Obligations.I48Arithmetic : Prop :=
  (∀ (a b : Code48) (x y : Int), i48OfCode a = .fin x → i48OfCode b = .fin y →
    i48OfCode (code48Add false a b) = (if -(2 ^ 47 - 2) ≤ x + y ∧ x + y ≤ 2 ^ 47 - 2 then .fin (x + y) else if 0 < x + y then .posInf else .negInf)) ∧
  (∀ (a b : Code48) (x : Int), code48Add false a b = code48Add false b a ∧
    (i48OfCode a = .void → i48OfCode (code48Add false a b) = .void) ∧
    (i48OfCode a = .posInf → i48OfCode b = .negInf → i48OfCode (code48Add false a b) = .void) ∧
    (i48OfCode a = .posInf → (i48OfCode b = .posInf ∨ i48OfCode b = .fin x) → i48OfCode (code48Add false a b) = .posInf) ∧
    (i48OfCode a = .negInf → (i48OfCode b = .negInf ∨ i48OfCode b = .fin x) → i48OfCode (code48Add false a b) = .negInf)) ∧
  (∀ (a : Code48) (x : Int), (i48OfCode a = .fin x → i48OfCode (i48Code (i48Neg (i48OfCode a))) = .fin (-x)) ∧
    (i48OfCode a = .posInf → i48OfCode (i48Code (i48Neg (i48OfCode a))) = .negInf) ∧
    (i48OfCode a = .negInf → i48OfCode (i48Code (i48Neg (i48OfCode a))) = .posInf) ∧
    (i48OfCode a = .void → i48OfCode (i48Code (i48Neg (i48OfCode a))) = .void)) ∧
  (∀ (x : Int) (k : Nat), -(2 ^ 40) ≤ x → x ≤ 2 ^ 40 → i48OfT48 (t48OfI48 k (.fin x)) = (.fin x, 0)) ∧
  (∀ (a b : Code48), (t48IsNan a = true → t48Add a b = a) ∧ (t48IsNan a = false → t48IsNan b = true → t48Add a b = b) ∧
    (t48IsInf a = true → t48IsInf b = true → t48Sign a ≠ t48Sign b → t48Add a b = 0x7F8100000000#48) ∧
    (t48IsInf a = true → t48IsNan b = false → t48IsInf b = false → t48Add a b = a ∧ t48Add b a = a))

/-- A step runs the command at the front of the queue. With command c at the front of the queue, a step is exec of c on
the state with the queue's rest. The queue, first in first out, is the model's own carrier of the order in which
accesses are issued (log entry 1). (03_register_pages.md, R65) -/
def Obligations.StepRunsFrontCommand : Prop :=
  ∀ (s : State) (c : Instr) (rest : List Instr), s.pending = c :: rest → step s = exec c { s with pending := rest }

/-- On an empty queue a step is one timebase tick. The model's choice of log entry 1: with no command waiting, a step
advances the block's own clock by 4 ns and device time by 4 ns times 1 + RATE_ADJ (in units of 2^-50 ns of the stored
counter; RATE_ADJ is held in units of 2^-52, and device time always moves on), and changes nothing else.
(12_timebase.md, R273) -/
def Obligations.EmptyQueueTicks : Prop :=
  ∀ (s : State), s.pending = [] → ∃ t, step s = .next t ∧ t.mono = s.mono + 4 * 65536 ∧
    t.devFine = s.devFine + max 1 (2 ^ 52 + s.tbs.rate).toNat ∧ t.pending = [] ∧ keeps [.mono, .dev] s t

/-- Every command answers a next state. The spec gives every command of the block an effect: in every state and with every
operand a command ends in a next state, never in a fault or a refusal. (00_scope.md) -/
def Obligations.NoCommandStops : Prop :=
  ∀ (c : Instr) (s : State), ∃ t, exec c s = .next t

/-- Registers and HBM are in canonical form after reset. In the state after reset the register store and the HBM store
hold strictly rising addresses, and no entry equals what its address reads as unlisted. The form of the stores is the
model's own (log entry 81). (00_scope.md, 15_hbm_turn_matrix.md, R63) -/
def Obligations.StoresStartCanonical : Prop :=
  canonical State.reset

/-- Every step keeps the registers and HBM in canonical form. From every state whose register store and HBM store are in
canonical form, a step leads to a state whose stores are in that form again, so that equal contents of the registers
and of HBM are equal data. The form is the model's own (log entry 81). (00_scope.md, 15_hbm_turn_matrix.md, R63) -/
def Obligations.StoresStayCanonical : Prop :=
  ∀ (s t : State), canonical s → step s = .next t → canonical t

/-- PAGE_CTRL.ENABLE after reset. After reset PAGE_CTRL.ENABLE of an assigned page other than those of the MSI-X table is
1 exactly in the pages PKG, DIE, XBR, TBS, MRK, RNG, DMA, HBM, HPC, EVT, STW, REF, HWD, LDG, PWR, CLT and PCI, and 0
in every other page. (R70) -/
def Obligations.EnableAfterReset : Prop :=
  ∀ (p : Nat) (b : Block), pageBlock p = some b → b ≠ .msix → b ≠ .pba →
    (flag State.reset p F.PAGE_CTRL_ENABLE = true ↔
      b ∈ [.pkg, .die, .xbr, .tbs, .mrk, .rng, .dma, .hbm, .hpc, .evt, .evt1, .evt2, .evt4, .stw, .ref, .hwd, .ldg, .pwr, .clt, .pci])

/-- Writes that miss a register, a gated page, a locked page or a claim. A write that BAR0 does not permit (in every page
but those of MSI-X one that is no naturally aligned 8-byte access), or at which an injected ACCESS_FAULT fires, only
sets ACCESS_FAULT in the PCI page; one to a gated page only sets GATED_WRITE. In a page that is not gated and whose
LOCKED is 1 a write by a master other than a Steward to PAGE_CTRL, INJECT, INJECT_MODE, RETRY_CFG or a register at
0x100 and above is judged locked, and a write to STICKY or RETRY_COUNT is not. A guarded register of a page not locked
refuses a claim below the latch or below that of a mark that acts there at the same tick. A locked write sets
LOCK_REFUSED, one below a claim CLAIM_REFUSED, one that meets a mark of an equal claim CLAIM_TIE; nothing else of the
page changes. Two writes that reach a guarded register in one cycle with equal claims set CLAIM_TIE alone. The status
of each is that of R86. Of two with unequal claims the lower is refused and the higher judged as if it came alone,
whichever is named first. Writes that meet at a register without a guard act one by one in the order of their
priority. A write that no register takes does nothing; one that gives a field a value it cannot hold sets CFG_REFUSED
alone; one of a Steward that is FAILED, held or in STANDBY is refused (R393). The order in which the model judges is
log entry 13, the pages of MSI-X log entry 82. (R64, R66, R75, R77, R78, R81, R86, R291, 03_register_pages.md) -/
def Obligations.RefusedWrites : Prop :=
  (∀ (s : State) (m addr size : Nat) (v : Word), accessFaults s (addr / 0x1000) (addr % 0x1000) size = true →
    completes (.registerWrite m addr size v []) s (fun t => stuck t 0x3F2 S.PCI_ACCESS_FAULT ∧ t.wst = 3 ∧ keeps [.regs, .out, .events, .wst, .armed] s t ∧ sameRegs [] s t)) ∧
  (∀ (s : State) (m addr : Nat) (v : Word), accessFaults s (addr / 0x1000) (addr % 0x1000) 8 = false →
    (pageBlock (addr / 0x1000)).isSome = true → pageGated s (addr / 0x1000) = true →
    completes (.registerWrite m addr 8 v []) s (fun t => stuck t 0x3F2 S.PCI_GATED_WRITE ∧ t.wst = 3 ∧ keeps [.regs, .out, .events, .wst, .armed] s t ∧ sameRegs [] s t)) ∧
  (∀ (s : State) (m p off : Nat) (v : Word) (b : Block), pageBlock p = some b → b ≠ .msix → b ≠ .pba → unarmed s 0x3F2 →
    pageGated s p = false → flag s p F.WRITE_LOCK_LOCKED = true → m ≠ 1 → m ≠ 2 → off % 8 = 0 → (regDef p off).isSome = true → regAbsent p off = false →
    ((off = R.PAGE_CTRL ∨ off = R.INJECT ∨ off = R.INJECT_MODE ∨ off = R.RETRY_CFG ∨ 0x100 ≤ off) → judge s m p off 8 v = .locked) ∧
    ((off = R.STICKY ∨ off = R.RETRY_COUNT) → judge s m p off 8 v ≠ .locked)) ∧
  (∀ (s : State) (m p off : Nat) (v : Word), off % 8 = 0 → (regDef p off).isSome = true → regAbsent p off = false → unarmed s 0x3F2 →
    pageGated s p = false → flag s p F.WRITE_LOCK_LOCKED = false → m ≠ 1 → m ≠ 2 → regGuarded p off = true →
    (masterClaim s m < latched s (latchPage p off v) ∨ (dueClaims s (regAddr p off)).any (fun c => decide (masterClaim s m < c)) = true) →
    judge s m p off 8 v = .lowClaim) ∧
  (∀ (s : State) (m addr p : Nat) (v : Word), p = addr / 0x1000 → judge s m p (addr % 0x1000) 8 v = .locked →
    completes (.registerWrite m addr 8 v []) s (fun t => stuck t p S.LOCK_REFUSED ∧ t.wst = 2 ∧
      (¬ eventPage p → ∀ off, off < 0x1000 → off ≠ R.STICKY → reg t p off = reg s p off) ∧ keeps [.regs, .out, .events, .wst] s t ∧ sameRegs [p] s t)) ∧
  (∀ (s : State) (m addr p : Nat) (v : Word), p = addr / 0x1000 → judge s m p (addr % 0x1000) 8 v = .lowClaim →
    completes (.registerWrite m addr 8 v []) s (fun t => stuck t p S.CLAIM_REFUSED ∧ t.wst = 1 ∧
      (¬ eventPage p → ∀ off, off < 0x1000 → off ≠ R.STICKY → reg t p off = reg s p off) ∧ (dueClaims s addr = [] → t.mrk = s.mrk) ∧
      keeps [.regs, .out, .events, .wst, .mrk] s t ∧ sameRegs [p] s t)) ∧
  (∀ (s : State) (m addr p : Nat) (v : Word), p = addr / 0x1000 → judge s m p (addr % 0x1000) 8 v = .tied →
    completes (.registerWrite m addr 8 v []) s (fun t => stuck t p S.CLAIM_TIE ∧ t.wst = 1 ∧
      (¬ eventPage p → ∀ off, off < 0x1000 → off ≠ R.STICKY → reg t p off = reg s p off) ∧
      keeps [.regs, .out, .events, .wst, .mrk] s t ∧ sameRegs [p] s t)) ∧
  (∀ (s : State) (m k addr p : Nat) (v w : Word), p = addr / 0x1000 → ¬ eventPage p → regGuarded p (addr % 0x1000) = true → accessAligned p (addr % 0x1000) 8 = true →
    pageGated s p = false → masterClaim s m = masterClaim s k →
    completes (.registerWrite m addr 8 v [(k, w)]) s (fun t => stuck t p S.CLAIM_TIE ∧ t.wst = 1 ∧
      (∀ off, off < 0x1000 → off ≠ R.STICKY → reg t p off = reg s p off) ∧ (dueClaims s addr = [] → t.mrk = s.mrk) ∧
      keeps [.regs, .out, .events, .wst, .mrk] s t ∧ sameRegs [p] s t)) ∧
  (∀ (s : State) (m k addr p : Nat) (v w : Word), p = addr / 0x1000 → regGuarded p (addr % 0x1000) = true → accessAligned p (addr % 0x1000) 8 = true →
    pageGated s p = false → masterClaim s k < masterClaim s m →
    completes (.registerWrite m addr 8 v [(k, w)]) s (fun t => ∃ u, stuck u p S.CLAIM_REFUSED ∧ u.wst = 1 ∧
      keeps [.regs, .out, .events, .wst, .mrk] s u ∧ sameRegs [p] s u ∧ completes (.registerWrite m addr 8 v []) u (fun x => x = t) ∧
      completes (.registerWrite k addr 8 w [(m, v)]) s (fun x => x = t))) ∧
  (∀ (s : State) (m addr size : Nat) (v : Word) (l : List (Nat × Word)), regGuarded (addr / 0x1000) (addr % 0x1000) = false →
    completes (.registerWrite m addr size v l) s (fun t =>
      t = (byWritePrio s (pageTarget (addr / 0x1000)) ((m, v) :: l)).foldl (fun s x => busWrite x.1 addr size x.2 s) s)) ∧
  (∀ (s : State) (m addr : Nat) (v : Word), judge s m (addr / 0x1000) (addr % 0x1000) 8 v = .ignored →
    completes (.registerWrite m addr 8 v []) s (fun t => t.wst = 0 ∧ keeps [.regs, .wst] s t ∧ sameRegs [] s t)) ∧
  (∀ (s : State) (m addr p : Nat) (v : Word), p = addr / 0x1000 → judge s m p (addr % 0x1000) 8 v = .range →
    completes (.registerWrite m addr 8 v []) s (fun t => stuck t p S.CFG_REFUSED ∧ t.wst = 5 ∧
      (¬ eventPage p → ∀ off, off < 0x1000 → off ≠ R.STICKY → reg t p off = reg s p off) ∧
      keeps [.regs, .out, .events, .wst, .mrk] s t ∧ sameRegs [p] s t)) ∧
  (∀ (s : State) (m addr p : Nat) (v : Word), p = addr / 0x1000 → (judge s m p (addr % 0x1000) 8 v = .steward ∨ judge s m p (addr % 0x1000) 8 v = .standby) →
    completes (.registerWrite m addr 8 v []) s (fun t => t.wst = 2 ∧ (judge s m p (addr % 0x1000) 8 v = .standby → stuck t 0x3D0 S.STW_STANDBY_WRITE) ∧
      keeps [.regs, .out, .events, .wst] s t ∧ sameRegs (if judge s m p (addr % 0x1000) 8 v = .standby then [0x3D0] else []) s t))

/-- What accepted writes by REGISTER_WRITE and to the header registers do. An accepted REGISTER_WRITE of any register has
the effect of its register and raises the latch of a guarded one; of STICKY it clears exactly the bits written 1, and
of a register of a block with no act of its own and no guarded field it stores the writable fields. PAGE_ENABLE
without SOFT_RESET and DEBUG leaves ENABLE at the bit written: nothing happens where it had that value, else the block
does what R71 states, which for the blocks listed is nothing more. Each of the six rows is the REGISTER_WRITE of its
register, accepted or refused. Any accepted write of PAGE_CTRL sets DEBUG to the bit written and then resets the block
or gives ENABLE the bit written. PAGE_DEBUG where no debug unlock allows it sets LOCK_REFUSED and changes neither
ENABLE nor DEBUG; where one does, DEBUG becomes 1. SOFT_RESET clears ENABLE and resets the block by its own chapter;
in the PKG, DIE and three EVT pages that is all, in the XBR, HPC and PCI pages the registers return to reset; after
ARM that of the REF page is refused. INJECT arms each detector of the bits written in the mode and for the count of
INJECT_MODE, COUNT of 0 apart. DISARM leaves no detector of the page armed. STICKY_EVT_EN stores the enables written.
An armed detector without an evaluation of its own fires at INJECT_FIRE, sets its bit, and where it counts toward
retry is counted; one not armed, or evaluated elsewhere, does nothing there. Each leaves what it does not name
unchanged. Where the spec can be read in more than one way it follows log entries 14, 15, 16 and 24. (R63, R68, R70,
R71, R72, R73, R74, R75, R76, R399, R473, 03_register_pages.md) -/
def Obligations.PageHeaderCommands : Prop :=
  (∀ (s : State) (m p : Nat) (v : Word), p < 0x400 → judge s m p R.STICKY 8 v = .ok →
    completes (.registerWrite m (regAddr p R.STICKY) 8 v []) s (fun t => reg t p R.STICKY = reg s p R.STICKY &&& ~~~ v ∧ t.wst = 0 ∧
      (¬ eventPage p → ∀ off, off < 0x1000 → off ≠ R.STICKY → reg t p off = reg s p off) ∧ keeps [.regs, .wst] s t ∧ sameRegs [p] s t)) ∧
  (∀ (s : State) (m p off : Nat) (v : Word) (b : Block), pageBlock p = some b → b ≠ .msix → b ≠ .pba → ¬ eventPage p → 0x100 ≤ off → off < 0x1000 →
    writeIngest b p off v = none → writeCompute m b p off v = none → writeTransport b p off v = none → writeOutput m b p off v = none →
    writeSystem m b off v = none → regGuarded p off = false → judge s m p off 8 v = .ok →
    completes (.registerWrite m (regAddr p off) 8 v []) s (fun t => reg t p off = mergedWord s p off v ∧ t.wst = 0 ∧
      (∀ k, k < 0x1000 → k ≠ off → reg t p k = reg s p k) ∧ keeps [.regs, .wst] s t ∧ sameRegs [p] s t)) ∧
  (∀ (s : State) (m addr size : Nat) (v : Word), judge s m (addr / 0x1000) (addr % 0x1000) size v = .ok →
    completes (.registerWrite m addr size v []) s (fun t => t =
      acceptedWrite m (addr / 0x1000) (addr % 0x1000) v (regWrite m (addr / 0x1000) (addr % 0x1000) size v) (arriveWrite .ok m (addr / 0x1000) (addr % 0x1000) s))) ∧
  (∀ (s : State) (m p : Nat) (v : Word) (b : Block), pageBlock p = some b →
    b ∈ [.pkg, .die, .fpl, .sch, .hbm, .hpc, .xbr, .dma, .rng, .tbs, .mrk, .fldg, .stw, .ref, .evt, .evt1, .evt2,
      .evt4, .hwd, .ldg, .pwr, .clt, .pci] → judge s m p R.PAGE_CTRL 8 v = .ok → bitOf v 1 = false → bitOf v 2 = false →
    flag s p F.PAGE_CTRL_DEBUG = false →
    completes (.pageEnable m p v) s (fun t => flag t p F.PAGE_CTRL_ENABLE = bitOf v 0 ∧ flag t p F.PAGE_CTRL_DEBUG = false ∧ t.wst = 0 ∧
      keeps [.regs, .wst] s t ∧ sameRegs [p] s t)) ∧
  (∀ (s : State) (m p : Nat) (v : Word), p < 0x400 → judge s m p R.PAGE_CTRL 8 v = .ok → bitOf v 1 = false → bitOf v 2 = false →
    flag s p F.PAGE_CTRL_DEBUG = false → flag s p F.PAGE_CTRL_ENABLE = bitOf v 0 →
    completes (.pageEnable m p v) s (fun t => t.wst = 0 ∧ reg t p R.PAGE_CTRL = reg s p R.PAGE_CTRL ∧ keeps [.regs, .wst] s t ∧ sameRegs [] s t)) ∧
  (∀ (s : State) (m p : Nat) (v : Word) (b : Block), pageBlock p = some b → b ≠ .msix → b ≠ .pba → judge s m p R.PAGE_CTRL 8 v = .ok →
    bitOf v 1 = false → bitOf v 2 = false → flag s p F.PAGE_CTRL_DEBUG = false → flag s p F.PAGE_CTRL_ENABLE ≠ bitOf v 0 →
    completes (.pageEnable m p v) s (fun t => ∃ u, t = enableChanged b p (bitOf v 0) u ∧ flag u p F.PAGE_CTRL_ENABLE = bitOf v 0 ∧
      u.wst = 0 ∧ keeps [.regs, .wst] s u ∧ sameRegs [p] s u)) ∧
  (∀ (s : State) (m p : Nat) (v : Word), p < 0x400 → judge s m p R.PAGE_CTRL 8 (v ||| 4#64) = .ok → debugAllowed s = false →
    completes (.pageDebug m p v) s (fun t => stuck t p S.LOCK_REFUSED ∧ reg t p R.PAGE_CTRL = reg s p R.PAGE_CTRL ∧ t.wst = 5 ∧
      keeps [.regs, .out, .events, .wst] s t ∧ sameRegs [p] s t)) ∧
  (∀ (s : State) (m p : Nat) (v : Word), p < 0x400 → judge s m p R.PAGE_CTRL 8 (v ||| 4#64) = .ok → bitOf v 1 = false →
    debugAllowed s = true → bitOf v 0 = flag s p F.PAGE_CTRL_ENABLE →
    completes (.pageDebug m p v) s (fun t => flag t p F.PAGE_CTRL_DEBUG = true ∧ flag t p F.PAGE_CTRL_ENABLE = bitOf v 0 ∧ t.wst = 0 ∧
      keeps [.regs, .wst] s t ∧ sameRegs [p] s t)) ∧
  (∀ (s : State) (m p : Nat) (v x : Word) (b : Block) (c : Instr), pageBlock p = some b → b ≠ .msix → b ≠ .pba →
    (c, x) ∈ [(.pageEnable m p v, v), (.pageDebug m p v, v ||| 4#64), (.softReset m p v, v ||| 2#64)] → judge s m p R.PAGE_CTRL 8 x = .ok →
    (bitOf x 2 = true → debugAllowed s = true) →
    completes c s (fun t => t = acceptedWrite m p R.PAGE_CTRL x (fun u => if bitOf x 1 then Machine.softReset b p (setDebug p (bitOf x 2) u)
      else setEnable b p (bitOf x 0) (setDebug p (bitOf x 2) u)) (arriveWrite .ok m p R.PAGE_CTRL s))) ∧
  (∀ (s : State) (m p : Nat) (v : Word) (b : Block), pageBlock p = some b → b ∈ [.pkg, .die, .evt1, .evt2, .evt4] →
    judge s m p R.PAGE_CTRL 8 (v ||| 2#64) = .ok → bitOf v 2 = false → flag s p F.PAGE_CTRL_DEBUG = false →
    completes (.softReset m p v) s (fun t => flag t p F.PAGE_CTRL_ENABLE = false ∧ t.wst = 0 ∧ keeps [.regs, .wst] s t ∧ sameRegs [p] s t ∧
      (∀ off, 0x10 ≤ off → off < 0x1000 → reg t p off = reg s p off))) ∧
  (∀ (s : State) (m p : Nat) (v : Word) (b : Block), pageBlock p = some b → b ∈ [.xbr, .hpc, .pci] →
    judge s m p R.PAGE_CTRL 8 (v ||| 2#64) = .ok → bitOf v 2 = false → flag s p F.PAGE_CTRL_DEBUG = false →
    completes (.softReset m p v) s (fun t => flag t p F.PAGE_CTRL_ENABLE = false ∧ t.wst = 0 ∧
      (∀ off, 0x100 ≤ off → off < 0x1000 → reg t p off = regReset (regAddr p off)) ∧
      keeps [.regs, .wst, .hbm] s t ∧ sameRegs [p] s t)) ∧
  (∀ (s : State) (m p : Nat) (v : Word) (b : Block), pageBlock p = some b → b ≠ .msix → b ≠ .pba → judge s m p R.PAGE_CTRL 8 (v ||| 2#64) = .ok →
    bitOf v 2 = false → flag s p F.PAGE_CTRL_DEBUG = false → ¬ (b = .ref ∧ armedRef s = true) →
    completes (.softReset m p v) s (fun t => ∃ u w, t = softControl b p (softData b p w) ∧ (w = u ∨ w = enableChanged b p false u) ∧
      flag u p F.PAGE_CTRL_ENABLE = false ∧ u.wst = 0 ∧ keeps [.regs, .wst] s u ∧ sameRegs [p] s u)) ∧
  (∀ (s : State) (m : Nat) (v : Word), judge s m refPage R.PAGE_CTRL 8 (v ||| 2#64) = .ok → bitOf v 2 = false →
    flag s refPage F.PAGE_CTRL_DEBUG = false → armedRef s = true →
    completes (.softReset m refPage v) s (fun t => stuck t refPage S.CFG_REFUSED ∧ t.wst = 5 ∧
      (∀ off, off < 0x1000 → off ≠ R.STICKY → reg t refPage off = reg s refPage off) ∧ keeps [.regs, .out, .events, .wst] s t ∧ sameRegs [refPage] s t)) ∧
  (∀ (s : State) (m p : Nat) (v : Word) (b : Block) (k : Nat), pageBlock p = some b → p < 0x400 →
    judge s m p R.INJECT 8 v = .ok → k ∈ pageDetectors b → bitOf v k = true → (fld s p F.INJECT_MODE_MODE ≤ 1 ∨ fld s p F.INJECT_MODE_COUNT ≠ 0) →
    completes (.inject m p v) s (fun t => (∃ a ∈ t.armed, a.page = p ∧ a.bit = k ∧ a.left = fld s p F.INJECT_MODE_COUNT ∧
        a.mode = (if fld s p F.INJECT_MODE_MODE = 0 then .once else if fld s p F.INJECT_MODE_MODE = 1 then .persistent else .count)) ∧
      t.wst = 0 ∧ ((regGuarded p R.INJECT = true → masterClaim s m ≤ latched s p) →
        (∀ a, a.page ≠ p → (a ∈ t.armed ↔ a ∈ s.armed)) ∧ keeps [.regs, .wst, .armed] s t ∧ sameRegs [] s t))) ∧
  (∀ (s : State) (m p : Nat) (v : Word), judge s m p R.INJECT_MODE 8 (v ||| 4#64) = .ok → p < 0x400 →
    completes (.disarm m p v) s (fun t => unarmed t p ∧ t.wst = 0 ∧ reg t p R.INJECT_MODE = mergedWord s p R.INJECT_MODE (v ||| 4#64) ∧
      ((regGuarded p R.INJECT_MODE = true → masterClaim s m ≤ latched s p) →
        (∀ a, a.page ≠ p → (a ∈ t.armed ↔ a ∈ s.armed)) ∧ keeps [.regs, .wst, .armed] s t ∧ sameRegs [p] s t))) ∧
  (∀ (s : State) (m p : Nat) (v : Word), judge s m p R.STICKY_EVT_EN 8 v = .ok → p < 0x400 →
    completes (.stickyEvtEn m p v) s (fun t => reg t p R.STICKY_EVT_EN = v ∧ t.wst = 0 ∧
      (¬ eventPage p → ∀ off, off < 0x1000 → off ≠ R.STICKY_EVT_EN → reg t p off = reg s p off) ∧ keeps [.regs, .out, .events, .wst] s t ∧ sameRegs [p] s t)) ∧
  (∀ (s : State) (p k : Nat) (b : Block), pageBlock p = some b → ¬ eventPage p → ownPoint b k = false → countsRetry b k = false →
    pageGated s p = false → armedNow s p k = true → k < 64 →
    completes (.injectFire p k) s (fun t => stuck t p k ∧ keeps [.regs, .out, .events, .armed] s t ∧ sameRegs [p] s t)) ∧
  (∀ (s : State) (p k : Nat) (b : Block), pageBlock p = some b → ownPoint b k = false → countsRetry b k = true →
    pageGated s p = false → armedNow s p k = true → k < 64 →
    completes (.injectFire p k) s (fun t => stuck t p k ∧ devTime s ∈ alGet [] t.retry p ∧
      fld t p F.RETRY_COUNT_TOTAL = satAdd F.RETRY_COUNT_TOTAL.width (fld s p F.RETRY_COUNT_TOTAL) 1 ∧
      keeps [.regs, .out, .events, .armed, .retry] s t ∧ sameRegs [p] s t)) ∧
  (∀ (s : State) (m p off : Nat) (v x : Word) (c : Instr), p < 0x600 →
    (c, off, x) ∈ [(.pageEnable m p v, R.PAGE_CTRL, v), (.pageDebug m p v, R.PAGE_CTRL, v ||| 4#64), (.softReset m p v, R.PAGE_CTRL, v ||| 2#64),
      (.inject m p v, R.INJECT, v), (.disarm m p v, R.INJECT_MODE, v ||| 4#64), (.stickyEvtEn m p v, R.STICKY_EVT_EN, v)] →
    completes c s (fun t => completes (.registerWrite m (regAddr p off) 8 x []) s (fun u => u = t))) ∧
  (∀ (s : State) (p k : Nat), armedNow s p k = false → completes (.injectFire p k) s (fun t => keeps [.armed] s t)) ∧
  (∀ (s : State) (p k : Nat) (b : Block), pageBlock p = some b →
    (ownPoint b k = true ∨ pageGated s p = true ∨ s.armed.all (fun a => !decide (a.page = p ∧ a.bit = k)) = true) →
    completes (.injectFire p k) s (fun t => t = s))

/-- The BAR2 window, a PCI reset and the link status. A BAR2 write that no refusal, fence, fenced row or reserved byte
touches stores its bytes from the HBM address BAR2_BASE plus the offset on; a BAR2 read that is neither refused nor
poisoned returns the bytes of HBM to the host. A PCI reset returns BAR2_BASE to 0, masks every MSI-X vector and drops
the requests of master 0. PCI_LINK shows the rate, the lanes and L0. Where the spec can be read in more than one way
it follows log entry 21. (R82, R346, R443, 03_register_pages.md, 21_power_reset_test.md) -/
def Obligations.HostWindowsAndReset : Prop :=
  (∀ (s : State) (addr a : Nat) (bytes : List Byte), pageGated s 0x3F2 = false → addr + bytes.length ≤ 64 * 2 ^ 30 → a = fld s 0x3F2 F.PCI_BAR2_BASE_BASE + addr →
    bytes ≠ [] → unarmed s 0x3F2 → unarmed s (hbmPage (stackOf a)) → stackHolds s (stackOf a) = false →
    stackHolds s (stackOf (a + bytes.length - 1)) = false → hbmRefuses s a bytes.length = false → fenceHit s a bytes.length = none →
    (∀ k, k < bytes.length → hbmReserved (a + k) = false ∧ rowFenced s (a + k) = false) →
    completes (.bar2Access true addr 0 bytes) s (fun t => (∀ k, (h : k < bytes.length) → memGet t (a + k) = bytes[k]) ∧
      (∀ x, x < a ∨ a + bytes.length ≤ x → memGet t x = memGet s x) ∧ keeps [.regs, .mem, .hbm] s t ∧ sameRegs [hbmPage (stackOf a)] s t)) ∧
  (∀ (s : State) (addr a len : Nat), pageGated s 0x3F2 = false → addr + len ≤ 64 * 2 ^ 30 → 0 < len → a = fld s 0x3F2 F.PCI_BAR2_BASE_BASE + addr →
    unarmed s 0x3F2 → unarmed s (hbmPage (stackOf a)) → stackHolds s (stackOf a) = false →
    stackHolds s (stackOf (a + len - 1)) = false → hbmRefuses s a len = false → badWords s a len = [] → (∀ k, k < len → hbmReserved (a + k) = false) →
    completes (.bar2Access false addr len []) s (fun t => ⟨.readReply, 0, 0 :: 0 :: ((List.range len).map (fun k => (memGet s (a + k)).toNat))⟩ ∈ t.out ∧
      keeps [.regs, .out] s t ∧ sameRegs [hbmPage (stackOf a)] s t)) ∧
  (∀ (s : State), completes .pciReset s (fun t => fld t 0x3F2 F.PCI_BAR2_BASE_BASE = 0 ∧ (∀ v, v < 2048 → vectorMasked t v = true) ∧
      (∀ e ∈ t.hbm.waiting, e.req.master ≠ 0) ∧ (∀ r ∈ t.hbm.replies, r.entry.req.master ≠ 0) ∧
      (∀ p, p < 0x400 → ∀ off, off < 0x1000 → p ≠ 0x3F2 ∨ off ≠ R.PCI_BAR2_BASE → reg t p off = reg s p off) ∧ keeps [.regs, .hbm] s t)) ∧
  (∀ (s : State) (speed width : Nat) (l0 : Bool), pageGated s 0x3F2 = false → speed < 16 → width < 32 → unarmed s 0x3F2 →
    completes (.pciLink speed width l0) s (fun t => fld t 0x3F2 F.PCI_LINK_SPEED = speed ∧ fld t 0x3F2 F.PCI_LINK_WIDTH = width ∧
      flag t 0x3F2 F.PCI_LINK_L0 = l0 ∧
      (stuck t 0x3F2 S.PCI_LINK_DOWN ↔ stuck s 0x3F2 S.PCI_LINK_DOWN ∨ (flag s 0x3F2 F.PCI_LINK_L0 = true ∧ l0 = false)) ∧
      keeps [.regs, .out, .events] s t ∧ sameRegs [0x3F2] s t))

/-- Commands over a management port and their operations. A command on a live management port that R85 does not accept
sets CMD_REJECTED and changes no memory; an accepted one that is held enters its operations and its SEQ. one that is
not held runs its operations at once. An operation of a command in execution: a READ of an aligned register of a page
that is not gated is DONE with the value read, and the last one ends the command; a WRITE or WRITE_MASKED, not the
last, that is accepted has the effect of a write of its register by the command path and is DONE, in particular one of
STICKY clears the bits written 1 and a masked one of STICKY_EVT_EN changes the bits of the mask alone. A masked write
gives the bits outside its mask the value they have. Where the spec can be read in more than one way it follows log
entries 18, 19 and 20. (R84, R85, R86, 03_register_pages.md) -/
def Obligations.CommandOperations : Prop :=
  (∀ (s : State) (p : Nat) (bytes : List Byte) (held : Bool), p < 2 → pageLive s (mgmtPage p) = true →
    sparseFind s.cmd.runs p = none → cmdAccepted s bytes = false →
    completes (.command p bytes held) s (fun t => stuck t (mgmtPage p) S.ETH_CMD_REJECTED ∧ keeps [.regs, .out, .events, .armed] s t ∧ sameRegs [mgmtPage p] s t)) ∧
  (∀ (s : State) (p : Nat) (bytes : List Byte), p < 2 → pageLive s (mgmtPage p) = true → sparseFind s.cmd.runs p = none → cmdAccepted s bytes = true →
    unarmed s (mgmtPage p) → completes (.command p bytes true) s (fun t => t.cmd.lastSeq = some (byteField bytes 32 8) ∧ keeps [.cmd] s t ∧
      (∀ q, q ≠ p → sparseFind t.cmd.runs q = sparseFind s.cmd.runs q) ∧
      sparseFind t.cmd.runs p = some ⟨decide (byteField bytes 6 1 = 1), byteField bytes 40 1, byteField bytes 32 8, bytes, (List.range (cmdOps bytes)).map (fun k => cmdOp bytes k), [], []⟩)) ∧
  (∀ (s u : State) (p : Nat) (bytes : List Byte), p < 2 → pageLive s (mgmtPage p) = true → cmdAccepted (runCmd p 64 s) bytes = true →
    unarmed (runCmd p 64 s) (mgmtPage p) → exec (.command p bytes true) s = .next u → completes (.command p bytes false) s (fun t => t = runCmd p 64 u)) ∧
  (∀ (s : State) (p : Nat) (r : CmdRun) (o : CmdOp) (l : List CmdOp), sparseFind s.cmd.runs p = some r → r.rest = o :: l →
    l ≠ [] → o.op = 1 → o.off < 0x1000 → o.off % 8 = 0 → o.page < 0x400 → pageGated s o.page = false → unarmed s 0x3F2 →
    completes (.cmdRead p) s (fun t => sparseFind t.cmd.runs p = some { r with rest := l, done := r.done ++ [(0, (readReg (3 + p) o.page o.off s).1)] } ∧
      keeps [.cmd] (readReg (3 + p) o.page o.off s).2 t)) ∧
  (∀ (s : State) (p : Nat) (r : CmdRun) (o : CmdOp), sparseFind s.cmd.runs p = some r → r.rest = [o] →
    o.op = 1 → o.off < 0x1000 → o.off % 8 = 0 → o.page < 0x400 → pageGated s o.page = false → unarmed s 0x3F2 →
    completes (.cmdRead p) s (fun t => ∃ u, t = finishCmd p u ∧ keeps [.cmd] (readReg (3 + p) o.page o.off s).2 u ∧
      sparseFind u.cmd.runs p = some { r with rest := [], done := r.done ++ [(0, (readReg (3 + p) o.page o.off s).1)] })) ∧
  (∀ (s u : State) (p : Nat) (r : CmdRun) (o : CmdOp) (l : List CmdOp) (v : Word), sparseFind s.cmd.runs p = some r → r.rest = o :: l →
    l ≠ [] → o.off < 0x1000 → (o.op = 2 ∧ v = o.value ∨ o.op = 3 ∧ v = maskedWord s o.page o.off o.mask o.value) → judge s (3 + p) o.page o.off 8 v = .ok →
    u = acceptedWrite (3 + p) o.page o.off v (regWrite (3 + p) o.page o.off 8 v) (arriveWrite .ok (3 + p) o.page o.off s) →
    sparseFind u.cmd.runs p = some r → u.wst = 0 →
    ((o.op = 2 → completes (.cmdWrite p) s (fun t => keeps [.cmd] u t ∧ sparseFind t.cmd.runs p = some { r with rest := l, done := r.done ++ [(0, 0)] })) ∧
      (o.op = 3 → completes (.writeMasked p) s (fun t => keeps [.cmd] u t ∧ sparseFind t.cmd.runs p = some { r with rest := l, done := r.done ++ [(0, 0)] })))) ∧
  (∀ (s : State) (p : Nat) (r : CmdRun) (o : CmdOp) (l : List CmdOp), sparseFind s.cmd.runs p = some r → r.rest = o :: l →
    l ≠ [] → o.op = 2 → o.off = R.STICKY → o.page < 0x400 → judge s (3 + p) o.page o.off 8 o.value = .ok →
    completes (.cmdWrite p) s (fun t => reg t o.page R.STICKY = reg s o.page R.STICKY &&& ~~~ o.value ∧
      (∃ r' ∈ sparseFind t.cmd.runs p, r'.rest = l ∧ r'.done = r.done ++ [(0, 0)]) ∧ keeps [.regs, .wst, .cmd] s t ∧ sameRegs [o.page] s t)) ∧
  (∀ (s : State) (p : Nat) (r : CmdRun) (o : CmdOp) (l : List CmdOp), sparseFind s.cmd.runs p = some r → r.rest = o :: l →
    l ≠ [] → o.op = 3 → o.off = R.STICKY_EVT_EN → o.page < 0x400 → ¬ eventPage o.page →
    judge s (3 + p) o.page o.off 8 ((o.value &&& o.mask) ||| (reg s o.page R.STICKY_EVT_EN &&& ~~~ o.mask)) = .ok →
    completes (.writeMasked p) s (fun t =>
      reg t o.page R.STICKY_EVT_EN = (o.value &&& o.mask) ||| (reg s o.page R.STICKY_EVT_EN &&& ~~~ o.mask) ∧
      (∃ r' ∈ sparseFind t.cmd.runs p, r'.rest = l ∧ r'.done = r.done ++ [(0, 0)]) ∧ keeps [.regs, .wst, .cmd, .out, .events] s t ∧ sameRegs [o.page] s t))

/-- Training of a Spur lane. In LOCK a good TRAIN frame adds to the good ones of its polarity in a row, another one ends
the row, and one that is the fourth good one in a polarity takes a lane in LOCK to IDENTIFY and keeps that polarity.
In every other state of training the frame is taken as that state asks and answered by one of the lane's own; a lane
that is down, retired or gated takes none. A lane in READY that has sent 16 READY frames and received one enters RUN
at the next correctable frame. No lock after a rate switch returns the lane to the previous rate, which caps it, and
sets STEP_FAIL. A full training that does not end starts again at S0, is counted, and keeps RATE_CAP. A fast retrain
that fails sets RETRAIN_FAIL and starts full training at S0, unless the count of retry events reaches the threshold,
which retires the lane. Everything outside the lanes, the lane's page and events stays as it was. Where the spec can
be read in more than one way it follows log entries 26 and 29. (R96, R100, R101, R102, R117, R118, 04_spur_lanes.md) -/
def Obligations.SpurTraining : Prop :=
  (∀ (s : State) (n : Nat) (fr : RxFrame) (inv : Bool) (eq : EqInput), n < 64 → pageLive s (sprPage n) = true →
    unarmed s (sprPage n) → fr.fec = 0 → rxIsTrain fr = true → (sprLane s n).st = .lock →
    (sprLane s n).good = 3 → (sprLane s n).goodInv = inv → bitOf (sprLane s n).cfg 4 = false →
    (sprLane s n).polKnown = false → (sprLane s n).stepping = none →
    completes (.trainFrame (.spur n) fr inv eq) s (fun t => (sprLane t n).st = .identify ∧ (sprLane t n).polInv = inv ∧
      (sprLane t n).rate = (sprLane s n).rate ∧ keeps [.spr, .regs, .out] s t ∧ sameRegs [sprPage n] s t)) ∧
  (∀ (s : State) (n : Nat) (fr : RxFrame) (inv : Bool) (eq : EqInput), n < 64 → pageLive s (sprPage n) = true →
    unarmed s (sprPage n) → fr.fec ≠ 2 → (sprLane s n).st = .lock → bitOf (sprLane s n).cfg 4 = false →
    (sprLane s n).polKnown = false → (sprLane s n).stepping = none → (sprLane s n).good < 3 →
    completes (.trainFrame (.spur n) fr inv eq) s (fun t => (sprLane t n).st = .lock ∧
      (sprLane t n).good = (if rxIsTrain fr = true ∧ fr.fec = 0 then (if inv = (sprLane s n).goodInv then (sprLane s n).good + 1 else 1) else 0) ∧
      keeps [.spr, .regs, .events, .out] s t ∧ sameRegs [sprPage n] s t)) ∧
  (∀ (s : State) (n : Nat) (fr : RxFrame) (inv : Bool) (eq : EqInput) (c : Instr),
    c ∈ [.trainFrame (.spur n) fr inv eq, .dataFrame n fr, .idleFrame n fr, .mgmtFrame n fr] →
    (pageLive s (sprPage n) = false ∨ (sprLane s n).st = .down ∨ (sprLane s n).st = .retired) → completes c s (fun t => t = s)) ∧
  (∀ (s : State) (n : Nat) (fr : RxFrame) (inv : Bool) (eq : EqInput), pageLive s (sprPage n) = true → (sprLane s n).st ≠ .run →
    (sprLane s n).st ≠ .down → (sprLane s n).st ≠ .retired →
    completes (.trainFrame (.spur n) fr inv eq) s (fun t => t = sprReply n (rxInTraining n fr inv eq s))) ∧
  (∀ (s : State) (n : Nat) (fr : RxFrame) (inv : Bool) (eq : EqInput), n < 64 → pageLive s (sprPage n) = true →
    unarmed s (sprPage n) → fr.fec ≠ 2 → (sprLane s n).st = .ready →
    16 ≤ (sprLane s n).readySent → (sprLane s n).readyGot = true → inBundle (sprLane s n) = false →
    completes (.trainFrame (.spur n) fr inv eq) s (fun t => (sprLane t n).st = .run ∧
      (sprLane t n).rate = (sprLane s n).rate ∧ keeps [.spr, .regs, .out] s t ∧ sameRegs [sprPage n] s t)) ∧
  (∀ (s : State) (n r at0 : Nat), n < 64 → unarmed s (sprPage n) → (sprLane s n).st = .lock → (sprLane s n).switched = some (r, at0) →
    completes (.stepFail (.spur n)) s (fun t => (sprLane t n).rate = r ∧ (sprLane t n).rateCap = r ∧
      stuck t (sprPage n) S.SPR_STEP_FAIL ∧ keeps [.spr, .regs, .events, .out] s t ∧ sameRegs [sprPage n] s t)) ∧
  (∀ (s : State) (n : Nat), n < 64 → inFullTraining (sprLane s n) = true →
    completes (.trainingTimeout (.spur n)) s (fun t => (sprLane t n).st = .lock ∧ (sprLane t n).rate = 0 ∧
      (sprLane t n).rateCap = (sprLane s n).rateCap ∧ (sprLane t n).cfg = reg s (sprPage n) R.SPR_CFG ∧
      (reg t (sprPage n) (R.SPR_CNT + 80)).toNat = satAdd 64 (reg s (sprPage n) (R.SPR_CNT + 80)).toNat 1 ∧
      keeps [.spr, .regs] s t ∧ sameRegs [sprPage n] s t)) ∧
  (∀ (s : State) (n : Nat), n < 64 → inFastRetrain (sprLane s n) = true → fieldOf (reg s (sprPage n) R.RETRY_CFG) 32 16 = 0 →
    completes (.retrainFail (.spur n)) s (fun t => (sprLane t n).st = .lock ∧ (sprLane t n).rate = 0 ∧
      stuck t (sprPage n) S.SPR_RETRAIN_FAIL ∧ keeps [.spr, .regs, .events, .out, .retry] s t ∧ sameRegs [sprPage n] s t)) ∧
  (∀ (s : State) (n : Nat), n < 64 → inFastRetrain (sprLane s n) = true → bitOf (reg s (sprPage n) R.SPR_CFG) 2 = false →
    fieldOf (reg s (sprPage n) R.RETRY_CFG) 32 16 ≠ 0 →
    fieldOf (reg s (sprPage n) R.RETRY_CFG) 32 16 ≤ (retryInWindow s (sprPage n)).length + 1 →
    completes (.retrainFail (.spur n)) s (fun t => (sprLane t n).st = .retired ∧ stuck t (sprPage n) S.SPR_RETRAIN_FAIL ∧
      stuck t (sprPage n) S.PERMANENT ∧ pageRetired t (sprPage n) = true ∧
      keeps [.spr, .regs, .events, .out, .retry, .rl] s t ∧ sameRegs [sprPage n, 0x3D0] s t))

/-- Frames that a Spur lane receives in RUN. An uncorrectable DATA frame of a lane in RUN sets UNCORR and ends the block
in progress, as one of an impossible START_PTR does, without UNCORR; the fourth uncorrectable one in a row loses lock,
sets LOCK_LOST and RETRAIN, and starts a fast retrain at the same rate and polarity. A correctable IDLE frame moves
the lane's frame number and echo and nothing else, and the lane answers with an IDLE frame of its own. A DATA frame of
a single lane in which one whole block of a known stream in the right format ends: a block at or past the expected
index is queued in its engine, the samples skipped count as lost, and the expected index becomes its end; a block
below it is discarded and sets INDEX_BACK. A block of no entry sets UNKNOWN_STREAM. Each frame of a lane in RUN is
taken by its KIND, whichever command brings it, and answered. Where the spec can be read in more than one way it
follows log entry 25. (R14, R94, R102, R107, R110, R111, 04_spur_lanes.md) -/
def Obligations.SpurFramesInRun : Prop :=
  (∀ (s : State) (n : Nat) (fr : RxFrame), n < 64 → pageLive s (sprPage n) = true → unarmed s (sprPage n) →
    (sprLane s n).st = .run → rxBad fr = true → (sprLane s n).bad + 1 < 4 →
    (recentUnc s (sprLane s n)).length + 1 ≤ fieldOf (sprLane s n).cfg 16 8 →
    completes (.dataFrame n fr) s (fun t => (fr.fec = 2 → stuck t (sprPage n) S.SPR_UNCORR) ∧ (sprLane t n).st = .run ∧
      (sprLane t n).part = [] ∧ (sprLane t n).inSync = false ∧ (sprLane t n).bad = (sprLane s n).bad + 1 ∧
      keeps [.spr, .regs, .events, .out] s t ∧ sameRegs [sprPage n] s t)) ∧
  (∀ (s : State) (n : Nat) (fr : RxFrame), n < 64 → pageLive s (sprPage n) = true → unarmed s (sprPage n) →
    (sprLane s n).st = .run → rxBad fr = true → (sprLane s n).bad = 3 → inBundle (sprLane s n) = false →
    fieldOf (reg s (sprPage n) R.RETRY_CFG) 32 16 = 0 →
    completes (.idleFrame n fr) s (fun t => stuck t (sprPage n) S.SPR_LOCK_LOST ∧ stuck t (sprPage n) S.SPR_RETRAIN ∧
      (sprLane t n).st = .retrain ∧ (sprLane t n).rate = (sprLane s n).rate ∧ (sprLane t n).polInv = (sprLane s n).polInv ∧
      keeps [.spr, .regs, .events, .out, .retry] s t ∧ sameRegs [sprPage n] s t)) ∧
  (∀ (s : State) (n : Nat) (fr : RxFrame), n < 64 → pageLive s (sprPage n) = true → unarmed s (sprPage n) →
    (sprLane s n).st = .run → rxBad fr = false → rxKind fr = 1 → inBundle (sprLane s n) = false →
    completes (.idleFrame n fr) s (fun t => sprLane t n = frameSent 1 (List.replicate 640 0xFF) { sprLane s n with
        bad := 0, frameNo := (sprLane s n).frameNo + (rxFseq fr + 256 - (sprLane s n).frameNo % 256) % 256, peerEcho := rxEcho fr } ∧
      keeps [.spr, .regs, .out] s t ∧ sameRegs [sprPage n] s t)) ∧
  (∀ (s : State) (n e x k : Nat) (fr : RxFrame) (b : List Byte), n < 64 → pageLive s (sprPage n) = true → unarmed s (sprPage n) →
    (sprLane s n).st = .run → rxBad fr = false → rxKind fr = 0 → inBundle (sprLane s n) = false →
    readFrame false fr { sprLane s n with
      bad := 0, frameNo := (sprLane s n).frameNo + (rxFseq fr + 256 - (sprLane s n).frameNo % 256) % 256, peerEcho := rxEcho fr }
      = ⟨true, [], k, [(k, b)], 0⟩ →
    crcGood (blockHeader b) b = true → laneEntry s n (blockHeader b).stream = some e →
    stFormat s e = (blockHeader b).format → pageLive s (rchPage n) = true → unarmed s (rchPage n) →
    rchBlocks (rchQueue s n) < 256 → stExpect s e = some x → x ≤ (blockHeader b).index →
    completes (.dataFrame n fr) s (fun t => stExpect t e = some ((blockHeader b).index + (blockHeader b).nsamp) ∧
      fieldOf (stWord t e 4) 0 32 = satAdd 32 (fieldOf (stWord s e 4) 0 32) ((blockHeader b).index - x) ∧
      (rchQueue t n).getLast? =
        some ⟨e, (blockHeader b).index, (blockHeader b).nsamp, false, blockSamples (blockHeader b) b, false⟩ ∧
      keeps [.spr, .rch, .regs, .events, .out] s t ∧ sameRegs [sprPage n, rchPage n] s t)) ∧
  (∀ (s : State) (n e x k : Nat) (fr : RxFrame) (b : List Byte), n < 64 → pageLive s (sprPage n) = true → unarmed s (sprPage n) →
    (sprLane s n).st = .run → rxBad fr = false → rxKind fr = 0 → inBundle (sprLane s n) = false →
    readFrame false fr { sprLane s n with
      bad := 0, frameNo := (sprLane s n).frameNo + (rxFseq fr + 256 - (sprLane s n).frameNo % 256) % 256, peerEcho := rxEcho fr }
      = ⟨true, [], k, [(k, b)], 0⟩ →
    crcGood (blockHeader b) b = true → laneEntry s n (blockHeader b).stream = some e →
    stFormat s e = (blockHeader b).format → pageLive s (rchPage n) = true → stExpect s e = some x → (blockHeader b).index < x →
    completes (.dataFrame n fr) s (fun t => stuck t (sprPage n) S.SPR_INDEX_BACK ∧ stExpect t e = some x ∧
      keeps [.spr, .regs, .events, .out] s t ∧ sameRegs [sprPage n] s t)) ∧
  (∀ (s : State) (n k : Nat) (fr : RxFrame) (b : List Byte), n < 64 → pageLive s (sprPage n) = true → unarmed s (sprPage n) →
    (sprLane s n).st = .run → rxBad fr = false → rxKind fr = 0 → inBundle (sprLane s n) = false →
    readFrame false fr { sprLane s n with
      bad := 0, frameNo := (sprLane s n).frameNo + (rxFseq fr + 256 - (sprLane s n).frameNo % 256) % 256, peerEcho := rxEcho fr }
      = ⟨true, [], k, [(k, b)], 0⟩ →
    crcGood (blockHeader b) b = true → laneEntry s n (blockHeader b).stream = none →
    completes (.dataFrame n fr) s (fun t => stuck t (sprPage n) S.SPR_UNKNOWN_STREAM ∧ t.spr.streams = s.spr.streams ∧
      t.spr.expect = s.spr.expect ∧ keeps [.spr, .regs, .events, .out] s t ∧ sameRegs [sprPage n] s t)) ∧
  (∀ (s : State) (n : Nat) (fr : RxFrame) (c : Instr), c ∈ [.dataFrame n fr, .idleFrame n fr, .mgmtFrame n fr] →
    pageLive s (sprPage n) = true → (sprLane s n).st = .run → completes c s (fun t => t = sprReply n (rxInRun n fr s)))

/-- Management messages of a Spur lane. SEND of SYNC_LOAD or STATUS_REQ puts the message on the lane that carries it, with
its SEQ in LAST_SEQ and PENDING at 1; with no lane in RUN, or of another type, the write is refused with CFG_REFUSED
and no lane changes. An acknowledgement of the message pending clears PENDING and stores its status; a status of 1
sets SYNC_UNSUPPORTED; it may come in a MGMT frame; one that nothing awaits does nothing. A missing one clears PENDING
and sets SYNC_TIMEOUT. A STATUS, alone or in a MGMT frame, stores its word in PEER_STATUS. Where the spec can be read
in more than one way it follows log entry 26. (R112, R113, 04_spur_lanes.md) -/
def Obligations.SpurMessages : Prop :=
  (∀ (s : State) (m n via : Nat) (v : Word), n < 64 → judge s m (sprPage n) R.SPR_SYNC_CMD 8 (v ||| 0x10000#64) = .ok →
    messageLane s n = some via → fieldOf v 8 8 = 1 →
    completes (.send m n v) s (fun t => flag t (sprPage n) F.SPR_SYNC_CMD_PENDING = true ∧
      fld t (sprPage n) F.SPR_SYNC_CMD_LAST_SEQ = (sprLane s via).txMsg % 256 ∧
      t.out = messageOut s via 1 (fieldOf v 0 4) (reg s (sprPage n) R.SPR_SYNC_INDEX).toNat ++ s.out ∧
      (sprLane t n).syncTrig = some (fieldOf v 0 4, s.mono) ∧ (sprLane t n).pendSeq = (sprLane s via).txMsg ∧
      keeps [.spr, .regs, .out, .wst] s t ∧ sameRegs [sprPage n, sprPage via] s t)) ∧
  (∀ (s : State) (m n via : Nat) (v : Word), n < 64 → judge s m (sprPage n) R.SPR_SYNC_CMD 8 (v ||| 0x10000#64) = .ok →
    messageLane s n = some via → fieldOf v 8 8 = 3 →
    completes (.send m n v) s (fun t => flag t (sprPage n) F.SPR_SYNC_CMD_PENDING = true ∧
      fld t (sprPage n) F.SPR_SYNC_CMD_LAST_SEQ = (sprLane s via).txMsg % 256 ∧
      t.out = messageOut s via 3 0 0 ++ s.out ∧
      (sprLane t n).pendSeq = (sprLane s via).txMsg ∧ keeps [.spr, .regs, .out, .wst] s t ∧ sameRegs [sprPage n, sprPage via] s t)) ∧
  (∀ (s : State) (m n : Nat) (v : Word), n < 64 → judge s m (sprPage n) R.SPR_SYNC_CMD 8 (v ||| 0x10000#64) = .ok →
    messageLane s n = none →
    completes (.send m n v) s (fun t => stuck t (sprPage n) S.CFG_REFUSED ∧ t.wst = 5 ∧
      reg t (sprPage n) R.SPR_SYNC_CMD = reg s (sprPage n) R.SPR_SYNC_CMD ∧ keeps [.regs, .events, .out, .wst] s t ∧
      sameRegs [sprPage n] s t)) ∧
  (∀ (s : State) (n seq st : Nat), n < 64 → (sprLane s n).st = .run → pageLive s (sprPage n) = true →
    flag s (sprPage n) F.SPR_SYNC_CMD_PENDING = true → (sprLane s n).pendSeq = seq → st ≠ 1 →
    completes (.ack n seq st) s (fun t => flag t (sprPage n) F.SPR_SYNC_CMD_PENDING = false ∧
      fld t (sprPage n) F.SPR_SYNC_CMD_ACK_STATUS = st % 2 ∧ keeps [.regs] s t ∧ sameRegs [sprPage n] s t)) ∧
  (∀ (s : State) (n seq st : Nat), ((sprLane s n).st ≠ .run ∨ pageLive s (sprPage n) = false ∨
      ((flag s (sprPage n) F.SPR_SYNC_CMD_PENDING = false ∨ (sprLane s n).pendSeq ≠ seq) ∧ inBundle (sprLane s n) = false)) →
    completes (.ack n seq st) s (fun t => t = s)) ∧
  (∀ (s : State) (m n : Nat) (v : Word), n < 64 → judge s m (sprPage n) R.SPR_SYNC_CMD 8 (v ||| 0x10000#64) = .ok →
    fieldOf v 8 8 ≠ 1 → fieldOf v 8 8 ≠ 3 →
    completes (.send m n v) s (fun t => stuck t (sprPage n) S.CFG_REFUSED ∧ t.wst = 5 ∧
      reg t (sprPage n) R.SPR_SYNC_CMD = reg s (sprPage n) R.SPR_SYNC_CMD ∧ keeps [.regs, .events, .out, .wst] s t ∧
      sameRegs [sprPage n] s t)) ∧
  (∀ (s : State) (n seq : Nat), n < 64 → (sprLane s n).st = .run → pageLive s (sprPage n) = true →
    flag s (sprPage n) F.SPR_SYNC_CMD_PENDING = true → (sprLane s n).pendSeq = seq →
    completes (.ack n seq 1) s (fun t => flag t (sprPage n) F.SPR_SYNC_CMD_PENDING = false ∧
      fld t (sprPage n) F.SPR_SYNC_CMD_ACK_STATUS = 1 ∧ stuck t (sprPage n) S.SPR_SYNC_UNSUPPORTED ∧
      (sprLane t n).syncTrig = none ∧ keeps [.spr, .regs, .events, .out] s t ∧ sameRegs [sprPage n] s t)) ∧
  (∀ (s : State) (n : Nat), n < 64 → flag s (sprPage n) F.SPR_SYNC_CMD_PENDING = true →
    completes (.syncTimeout n) s (fun t => flag t (sprPage n) F.SPR_SYNC_CMD_PENDING = false ∧
      stuck t (sprPage n) S.SPR_SYNC_TIMEOUT ∧ keeps [.regs, .events, .out] s t ∧ sameRegs [sprPage n] s t)) ∧
  (∀ (s : State) (n arg : Nat), n < 64 → (sprLane s n).st = .run → pageLive s (sprPage n) = true →
    completes (.status n arg) s (fun t => fld t (sprPage n) F.SPR_SYNC_CMD_PEER_STATUS = arg % 2 ^ 32 ∧ keeps [.regs] s t ∧
      sameRegs [sprPage n] s t)) ∧
  (∀ (s : State) (n : Nat) (fr : RxFrame), n < 64 → pageLive s (sprPage n) = true → unarmed s (sprPage n) →
    (sprLane s n).st = .run → rxBad fr = false → rxKind fr = 3 → inBundle (sprLane s n) = false → byteAt fr.data 0 = 0x82 →
    byteAt fr.data 32 = 0 →
    completes (.mgmtFrame n fr) s (fun t => fld t (sprPage n) F.SPR_SYNC_CMD_PEER_STATUS = bytesAt fr.data 4 4 ∧
      (sprLane t n).rxMsg = byteAt fr.data 1 ∧ keeps [.spr, .regs, .out] s t ∧ sameRegs [sprPage n] s t)) ∧
  (∀ (s : State) (n : Nat) (fr : RxFrame), n < 64 → pageLive s (sprPage n) = true → unarmed s (sprPage n) →
    (sprLane s n).st = .run → rxBad fr = false → rxKind fr = 3 → inBundle (sprLane s n) = false → byteAt fr.data 0 = 0x81 →
    byteAt fr.data 32 = 0 → flag s (sprPage n) F.SPR_SYNC_CMD_PENDING = true → (sprLane s n).pendSeq = byteAt fr.data 4 →
    completes (.mgmtFrame n fr) s (fun t => flag t (sprPage n) F.SPR_SYNC_CMD_PENDING = false ∧
      fld t (sprPage n) F.SPR_SYNC_CMD_ACK_STATUS = byteAt fr.data 5 % 2 ∧ (byteAt fr.data 5 = 1 → stuck t (sprPage n) S.SPR_SYNC_UNSUPPORTED) ∧
      keeps [.spr, .regs, .events, .out] s t ∧ sameRegs [sprPage n] s t))

/-- Reading and writing the stream table. A READ loads the six words of the entry that SPR_ST_ADDR names. A WRITE that
fails a check leaves every entry as it was, shows the first failing check in RESULT and sets CFG_REFUSED. A WRITE that
passes them all stores words 0 to 3, clears word 4, leaves every other entry alone; an entry that becomes valid has no
expected index, and one that ceases to be valid leaves no block in its engine's queue. (R114, R115, R116, R475,
04_spur_lanes.md) -/
def Obligations.StreamTable : Prop :=
  (∀ (s : State) (m n : Nat) (v : Word), n < 64 → judge s m (sprPage n) R.SPR_ST_CTRL 8 (v ||| 1#64) = .ok → bitOf v 1 = false →
    completes (.sprStRead m n v) s (fun t =>
      (∀ k, k < 5 → reg t (sprPage n) (R.SPR_ST_DATA + 8 * k) = stWord s (fld s (sprPage n) F.SPR_ST_ADDR_ENTRY) k) ∧
      reg t (sprPage n) (R.SPR_ST_DATA + 40) = stNextIndex s (fld s (sprPage n) F.SPR_ST_ADDR_ENTRY) ∧
      keeps [.regs, .wst] s t ∧ sameRegs [sprPage n] s t)) ∧
  (∀ (s : State) (m n k : Nat) (v : Word), n < 64 → judge s m (sprPage n) R.SPR_ST_CTRL 8 (v ||| 2#64) = .ok → bitOf v 0 = false →
    k = fld s (sprPage n) F.SPR_ST_ADDR_ENTRY → stResult s n k (stWritten s (sprPage n)) ≠ 0 →
    completes (.sprStWrite m n v) s (fun t =>
      fld t (sprPage n) F.SPR_ST_CTRL_RESULT = stResult s n k (stWritten s (sprPage n)) ∧
      stuck t (sprPage n) S.CFG_REFUSED ∧ keeps [.regs, .wst, .events, .out] s t ∧ sameRegs [sprPage n] s t)) ∧
  (∀ (s : State) (m n k : Nat) (v : Word), n < 64 → judge s m (sprPage n) R.SPR_ST_CTRL 8 (v ||| 2#64) = .ok → bitOf v 0 = false →
    k = fld s (sprPage n) F.SPR_ST_ADDR_ENTRY → stResult s n k (stWritten s (sprPage n)) = 0 →
    completes (.sprStWrite m n v) s (fun t => fld t (sprPage n) F.SPR_ST_CTRL_RESULT = 0 ∧
      (∀ w, w < 4 → stWord t k w = (stWritten s (sprPage n)).getD w 0) ∧ stWord t k 4 = 0 ∧
      (stValid s k = false → stValid t k = true → stExpect t k = none) ∧
      (∀ j w, j ≠ k → w < 6 → stWord t j w = stWord s j w) ∧ (stValid s k = false ∨ stValid t k = true → t.rch = s.rch) ∧
      (stValid s k = true → stValid t k = false → ∀ b ∈ rchQueue t n, b.stream ≠ k) ∧
      keeps [.spr, .rch, .fpl, .regs, .wst, .events, .out] s t ∧ sameRegs [sprPage n, fplPage (stFaceplate t k)] s t))

/-- Roughing engines and their restarts. A roughing engine takes the front of its input queue and leaves the rest: of a
valid stream the samples enter its state, the outputs ready leave it, components in and out are counted, and an error
of the state is flagged and, uncorrectable, restarts the stream in the late manner. A disabled engine, or one with
nothing queued, does nothing. SYNC_NOW restarts every stream of the engine in the late manner, at the first multiple
of D at or after the next sample taken for it, without setting SYNC_LATE. A roughing-reset mark restarts every stream
of every engine it names at the index it resolves to, or in the late manner. One that names one engine with one stream
notes a restart at the first multiple of D at or after the index it resolves to, or acts as one with a start of the
stream there, and completes DONE; where outputs from there have been emitted, the stream restarts in the late manner,
SYNC_LATE and LATE are set, and the mark completes LATE. Where the spec can be read in more than one way it follows
log entry 28. (R121, R128, R131, R289, 05_roughing_chain.md) -/
def Obligations.RoughingEngines : Prop :=
  (∀ (s : State) (e : Nat) (b : RchBlock) (q : List RchBlock), e < 64 → pageLive s (rchPage e) = true → unarmed s (rchPage e) →
    rchQueue s e = b :: q →
    completes (.roughingOutput e 0) s (fun t => rchQueue t e = q ∧ keeps [.rch, .fpl, .regs, .events, .out, .free] s t)) ∧
  (∀ (s : State) (e ecc p : Nat) (b : RchBlock) (q : List RchBlock) (x y : RchStream) (r : List FplOut × Nat × RchStream), e < 64 →
    pageLive s (rchPage e) = true → unarmed s (rchPage e) → rchQueue s e = b :: q → stValid s b.stream = true → stPreset s b.stream = p →
    y = (if ecc = 2 ∧ (rchStream s b.stream).started = true then { rchStream s b.stream with late := 2 } else rchStream s b.stream) →
    x = takeBlock (presetD p) (presetN p) b y → r = produce p (roughWeights p) (b.count + presetG p + 1) x →
    completes (.roughingOutput e ecc) s (fun t => rchQueue t e = q ∧ rchStream t b.stream = trimHist (presetG p) r.2.2 ∧
      (∀ n, n ≠ b.stream → rchStream t n = rchStream s n) ∧ (ecc = 1 → stuck t (rchPage e) S.RCH_STATE_CORR) ∧
      (ecc = 2 → stuck t (rchPage e) S.RCH_STATE_UNCORR) ∧ counted s t (rchPage e) R.RCH_CNT 0 (b.count * stComponents s b.stream) ∧
      counted s t (rchPage e) R.RCH_CNT 1 (r.1.length * stComponents s b.stream) ∧
      keeps [.rch, .fpl, .regs, .events, .out, .free] s t)) ∧
  (∀ (s : State) (e ecc : Nat), (pageLive s (rchPage e) = false ∨ rchQueue s e = []) → completes (.roughingOutput e ecc) s (fun t => t = s)) ∧
  (∀ (s : State) (m e : Nat) (v : Word), e < 64 → judge s m (rchPage e) R.RCH_CTRL 8 (v ||| 1#64) = .ok →
    completes (.syncNow m e v) s (fun t => (∀ n ∈ engineStreams s e, rchStream t n = restartLate (rchStream s n)) ∧
      (∀ n, n ∉ engineStreams s e → rchStream t n = rchStream s n) ∧
      keeps [.rch, .regs, .wst] s t ∧ sameRegs [] s t)) ∧
  (∀ (s : State) (h e n r : Nat) (o : MarkOcc), markOcc s h 7 = some o → e ∈ bitsSet o.arg64 64 → (engineStreams s e).count n = 1 →
    r = ceilTo (resolveFor s n o.time) (stD s n) →
    completes (.roughReset h) s (fun t => rchStream t n = (restartAt r (rchStream s n)).1 ∧
      ((restartAt r (rchStream s n)).2 = true → stuck t (rchPage e) S.RCH_SYNC_LATE ∧ stuck t mrkPage S.MRK_LATE) ∧
      (∀ k, (∀ i ∈ bitsSet o.arg64 64, k ∉ engineStreams s i) → rchStream t k = rchStream s k) ∧
      keeps [.rch, .mrk, .regs, .events, .out] s t ∧ sameRegs (mrkPage :: (bitsSet o.arg64 64).map rchPage) s t)) ∧
  (∀ (s : State) (h e n r : Nat) (o : MarkOcc), markOcc s h 7 = some o → bitsSet o.arg64 64 = [e] → engineStreams s e = [n] →
    r = ceilTo (resolveFor s n o.time) (stD s n) →
    ((rchStream s n).started = false ∨ (rchStream s n).emitted = false ∨ (rchStream s n).next ≤ r) →
    s.mrk.done.length < 256 →
    completes (.roughReset h) s (fun t => rchStream t n = (if (rchStream s n).started = true ∧ (rchStream s n).emitted = false ∧
        r = (rchStream s n).zero then rchStream s n else addRestart r (rchStream s n)) ∧
      ⟨h, max o.status 1, timeNs o.time⟩ ∈ t.mrk.done ∧ keeps [.rch, .mrk] s t)) ∧
  (∀ (s : State) (h e n : Nat) (o : MarkOcc), e < 64 → markOcc s h 7 = some o → bitsSet o.arg64 64 = [e] → engineStreams s e = [n] →
    (rchStream s n).started = true → (rchStream s n).emitted = true →
    ceilTo (resolveFor s n o.time) (stD s n) < (rchStream s n).next →
    s.mrk.done.length < 256 →
    completes (.roughReset h) s (fun t =>
      rchStream t n = restartLate (rchStream s n) ∧
      stuck t (rchPage e) S.RCH_SYNC_LATE ∧ stuck t mrkPage S.MRK_LATE ∧
      ⟨h, max o.status 2, timeNs o.time⟩ ∈ t.mrk.done ∧ keeps [.rch, .mrk, .regs, .events, .out] s t ∧
      sameRegs [rchPage e, mrkPage] s t))

/-- The weights of a decimating preset sum to the gain of its DC output. Whatever the FIR taps below the centre are, the
weights of the inputs in the window of an output of presets ROUGH to BURNISH sum to 2^17 times R^K, so that a constant
input v16 gives v16 × 64 after the shift of R126 (log entry 6 names the taps the manual leaves open). (R124, R126,
05_roughing_chain.md) -/
def Obligations.RoughingGain : Prop :=
  ∀ p : Nat, 1 ≤ p → p ≤ 4 → (roughWeights p).sum = 2 ^ 17 * (presetR p : Int) ^ presetK p

/-- Windows onto the coefficient and gain banks. A write of a coefficient or gain word through its window into a bank that
no stream uses stores the word at the index named and no other; a write into a bank in use is refused with the sticky
bit of its bank and stores nothing. A read returns the word. The index moves by one exactly where AUTO_INC is 1. (R65,
R146, R152, 06_faceplate.md) -/
def Obligations.FaceplateBanks : Prop :=
  (∀ (s : State) (m f : Nat) (v : Word), f < 16 → judge s m (fplPage f) R.FPL_COEF_DATA 8 v = .ok → unarmed s (fplPage f) →
    coefInUse s f (fld s (fplPage f) F.FPL_COEF_ADDR_BANK) = true →
    completes (.fplCoefData m f true v) s (fun t => stuck t (fplPage f) S.FPL_COEF_WRITE_REFUSED ∧ t.wst = 5 ∧
      keeps [.regs, .wst, .events, .out] s t ∧ sameRegs [fplPage f] s t)) ∧
  (∀ (s : State) (m f : Nat) (v : Word), f < 16 → judge s m (fplPage f) R.FPL_COEF_DATA 8 v = .ok → unarmed s (fplPage f) →
    coefInUse s f (fld s (fplPage f) F.FPL_COEF_ADDR_BANK) = false →
    completes (.fplCoefData m f true v) s (fun t => wtGet t.fpl.coef (coefKey s f) = BitVec.ofNat 64 (fieldOf v 0 18) ∧
      (∀ k, k ≠ coefKey s f → wtGet t.fpl.coef k = wtGet s.fpl.coef k) ∧ t.fpl.gain = s.fpl.gain ∧ t.fpl.map = s.fpl.map ∧
      fld t (fplPage f) F.FPL_COEF_ADDR_INDEX = (fld s (fplPage f) F.FPL_COEF_ADDR_INDEX +
        (if flag s (fplPage f) F.FPL_COEF_ADDR_AUTO_INC then 1 else 0)) % 2 ^ 20 ∧
      keeps [.fpl, .regs, .wst] s t ∧ sameRegs [fplPage f] s t)) ∧
  (∀ (s : State) (m f : Nat) (v : Word), f < 16 → pageGated s (fplPage f) = false →
    completes (.fplCoefData m f false v) s (fun t => t.rd = wtGet s.fpl.coef (coefKey s f) ∧
      fld t (fplPage f) F.FPL_COEF_ADDR_INDEX = (fld s (fplPage f) F.FPL_COEF_ADDR_INDEX +
        (if flag s (fplPage f) F.FPL_COEF_ADDR_AUTO_INC then 1 else 0)) % 2 ^ 20 ∧
      keeps [.rd, .regs] s t ∧ sameRegs [fplPage f] s t)) ∧
  (∀ (s : State) (m f : Nat) (v : Word), f < 16 → judge s m (fplPage f) R.FPL_GAIN_DATA 8 v = .ok → unarmed s (fplPage f) →
    gainInUse s f (fld s (fplPage f) F.FPL_GAIN_ADDR_BANK) = true →
    completes (.fplGainData m f true v) s (fun t => stuck t (fplPage f) S.FPL_GAIN_WRITE_REFUSED ∧ t.wst = 5 ∧
      keeps [.regs, .wst, .events, .out] s t ∧ sameRegs [fplPage f] s t)) ∧
  (∀ (s : State) (m f : Nat) (v : Word), f < 16 → judge s m (fplPage f) R.FPL_GAIN_DATA 8 v = .ok → unarmed s (fplPage f) →
    gainInUse s f (fld s (fplPage f) F.FPL_GAIN_ADDR_BANK) = false →
    completes (.fplGainData m f true v) s (fun t => wtGet t.fpl.gain (gainKey s f) = BitVec.ofNat 64 (fieldOf v 0 48) ∧
      (∀ k, k ≠ gainKey s f → wtGet t.fpl.gain k = wtGet s.fpl.gain k) ∧ t.fpl.coef = s.fpl.coef ∧ t.fpl.map = s.fpl.map ∧
      fld t (fplPage f) F.FPL_GAIN_ADDR_INDEX = (fld s (fplPage f) F.FPL_GAIN_ADDR_INDEX +
        (if flag s (fplPage f) F.FPL_GAIN_ADDR_AUTO_INC then 1 else 0)) % 2 ^ 18 ∧
      keeps [.fpl, .regs, .wst] s t ∧ sameRegs [fplPage f] s t)) ∧
  (∀ (s : State) (m f : Nat) (v : Word), f < 16 → pageGated s (fplPage f) = false →
    completes (.fplGainData m f false v) s (fun t => t.rd = wtGet s.fpl.gain (gainKey s f) ∧
      fld t (fplPage f) F.FPL_GAIN_ADDR_INDEX = (fld s (fplPage f) F.FPL_GAIN_ADDR_INDEX +
        (if flag s (fplPage f) F.FPL_GAIN_ADDR_AUTO_INC then 1 else 0)) % 2 ^ 18 ∧
      keeps [.rd, .regs] s t ∧ sameRegs [fplPage f] s t))

/-- The stream map and the turn-region table. A READ loads the words of the entry that the address register names. A WRITE
shows the first failing check in RESULT and then sets CFG_REFUSED and changes no table; a WRITE that passes stores the
words, and every other entry stays as it was. The region registers of a Faceplate other than 0, 4, 8 and 12 act on
nothing. Where the spec can be read in more than one way it follows log entry 27. (R153, R154, R161, R475,
06_faceplate.md) -/
def Obligations.FaceplateTables : Prop :=
  (∀ (s : State) (m f : Nat) (v : Word), f < 16 → judge s m (fplPage f) R.FPL_MAP_CTRL 8 (v ||| 1#64) = .ok → bitOf v 1 = false →
    completes (.fplMapRead m f v) s (fun t =>
      regsFrom t (fplPage f) R.FPL_MAP_DATA 6 = mapEntry s f (fld s (fplPage f) F.FPL_MAP_ADDR_ENTRY) ∧
      keeps [.regs, .wst] s t ∧ sameRegs [fplPage f] s t)) ∧
  (∀ (s : State) (m f j : Nat) (v w : Word), f < 16 → judge s m (fplPage f) R.FPL_MAP_CTRL 8 (v ||| 2#64) = .ok →
    bitOf v 0 = false → j = fld s (fplPage f) F.FPL_MAP_ADDR_ENTRY → w = mapWord0 (reg s (fplPage f) R.FPL_MAP_DATA) →
    mapResult s f j w ≠ 0 →
    completes (.fplMapWrite m f v) s (fun t => fld t (fplPage f) F.FPL_MAP_CTRL_RESULT = mapResult s f j w ∧
      stuck t (fplPage f) S.CFG_REFUSED ∧ keeps [.regs, .wst, .events, .out] s t ∧ sameRegs [fplPage f] s t)) ∧
  (∀ (s : State) (m f j : Nat) (v w : Word), f < 16 → judge s m (fplPage f) R.FPL_MAP_CTRL 8 (v ||| 2#64) = .ok →
    bitOf v 0 = false → j = fld s (fplPage f) F.FPL_MAP_ADDR_ENTRY → w = mapWord0 (reg s (fplPage f) R.FPL_MAP_DATA) →
    mapResult s f j w = 0 →
    completes (.fplMapWrite m f v) s (fun t => fld t (fplPage f) F.FPL_MAP_CTRL_RESULT = 0 ∧ mapWord t f j 0 = w ∧
      mapWord t f j 2 = reg s (fplPage f) (R.FPL_MAP_DATA + 16) ∧
      (∀ g i k, (g, i) ≠ (f, j) → i < 16384 → k < 4 → mapWord t g i k = mapWord s g i k) ∧
      keeps [.fpl, .regs, .wst, .out] s t ∧ sameRegs [fplPage f] s t)) ∧
  (∀ (s : State) (m f : Nat) (v : Word), f < 16 → f % 4 = 0 → judge s m (fplPage f) R.FPL_REGION_CTRL 8 (v ||| 1#64) = .ok →
    bitOf v 1 = false →
    completes (.fplRegionRead m f v) s (fun t => regsFrom t (fplPage f) R.FPL_REGION_DATA 4 =
        [regionWord s (f / 4) (fld s (fplPage f) F.FPL_REGION_ADDR_REGION) 0,
         regionWord s (f / 4) (fld s (fplPage f) F.FPL_REGION_ADDR_REGION) 1,
         BitVec.ofNat 64 (regionChBytes s (f / 4) (fld s (fplPage f) F.FPL_REGION_ADDR_REGION)),
         BitVec.ofNat 64 (regionSize s (f / 4) (fld s (fplPage f) F.FPL_REGION_ADDR_REGION))] ∧
      keeps [.regs, .wst] s t ∧ sameRegs [fplPage f] s t)) ∧
  (∀ (s : State) (m f r : Nat) (v w : Word), f < 16 → f % 4 = 0 →
    judge s m (fplPage f) R.FPL_REGION_CTRL 8 (v ||| 2#64) = .ok → bitOf v 0 = false →
    r = fld s (fplPage f) F.FPL_REGION_ADDR_REGION → w = BitVec.ofNat 64 (fieldOf (reg s (fplPage f) R.FPL_REGION_DATA) 0 42) →
    regionResult s (f / 4) r w (reg s (fplPage f) (R.FPL_REGION_DATA + 8)) ≠ 0 →
    completes (.fplRegionWrite m f v) s (fun t => fld t (fplPage f) F.FPL_REGION_CTRL_RESULT =
        regionResult s (f / 4) r w (reg s (fplPage f) (R.FPL_REGION_DATA + 8)) ∧
      stuck t (fplPage f) S.CFG_REFUSED ∧ keeps [.regs, .wst, .events, .out] s t ∧ sameRegs [fplPage f] s t)) ∧
  (∀ (s : State) (m f r : Nat) (v w : Word), f < 16 → f % 4 = 0 →
    judge s m (fplPage f) R.FPL_REGION_CTRL 8 (v ||| 2#64) = .ok → bitOf v 0 = false →
    r = fld s (fplPage f) F.FPL_REGION_ADDR_REGION → w = BitVec.ofNat 64 (fieldOf (reg s (fplPage f) R.FPL_REGION_DATA) 0 42) →
    regionResult s (f / 4) r w (reg s (fplPage f) (R.FPL_REGION_DATA + 8)) = 0 →
    completes (.fplRegionWrite m f v) s (fun t => fld t (fplPage f) F.FPL_REGION_CTRL_RESULT = 0 ∧
      regionWord t (f / 4) r 0 = w ∧ regionWord t (f / 4) r 1 = reg s (fplPage f) (R.FPL_REGION_DATA + 8) ∧
      (∀ d q k, (d, q) ≠ (f / 4, r) → q < 16 → k < 2 → regionWord t d q k = regionWord s d q k) ∧
      keeps [.fpl, .regs, .wst] s t ∧ sameRegs [fplPage f] s t)) ∧
  (∀ (s : State) (m f : Nat) (v : Word), f < 16 → f % 4 ≠ 0 → judge s m (fplPage f) R.FPL_REGION_CTRL 8 (v ||| 2#64) = .ignored →
    completes (.fplRegionWrite m f v) s (fun t => keeps [.regs, .wst] s t ∧ sameRegs [] s t))

/-- Swap requests and model loads of a stream. A register request takes its place, for every stream the Faceplate takes,
among those that wait for the stream's next spectrum (coefficient swaps with F from FADE and the alignment of
ALIGN_BATCH); while a fade runs a coefficient request is queued, and replacing a queued one sets SWAP_COLLAPSED. On a
Faceplate that takes no stream a coefficient swap acts at once. A mark of the same kind notes the request, for every
stream of the Faceplates it names, for the spectrum it resolves to or for the next one; where the stream is past the
boundary at which it would act, it sets LATE and, where that is all it has to act on, completes LATE. Where the spec
can be read in more than one way it follows log entry 27. (R143, R146, R149, R151, R289, R290, 06_faceplate.md) -/
def Obligations.FaceplateRequests : Prop :=
  (∀ (s : State) (m f n : Nat) (v : Word) (x : FplStream), f < 16 → judge s m (fplPage f) R.FPL_SWAP 8 (v ||| 0x4000#64) = .ok →
    bitOf v 15 = false → (fplStreams s f).count n = 1 → x = fplTakeUp s f n → (fplStream s n).fade = none →
    completes (.request m f v) s (fun t => fplStream t n =
        { x with reqs := insertReq ⟨.coef, (fplStream s n).next, fieldOf v 0 13, bitOf v 13, true, 0, 0⟩ x.reqs } ∧
      (∀ k, k ∉ fplStreams s f → fplStream t k = fplStream s k) ∧ (fplStreams s f = [n] → keeps [.fpl, .regs, .wst] s t) ∧
      keeps [.fpl, .regs, .wst, .events, .out] s t ∧ sameRegs [fplPage f] s t)) ∧
  (∀ (s : State) (m f n : Nat) (v : Word), f < 16 → judge s m (fplPage f) R.FPL_SWAP 8 (v ||| 0x4000#64) = .ok →
    bitOf v 15 = false → (fplStreams s f).count n = 1 → (fplStream s n).fade.isSome = true →
    completes (.request m f v) s (fun t => fplStream t n = { fplStream s n with queued := some (fieldOf v 0 13) } ∧
      ((fplStream s n).queued.isSome = true → stuck t (fplPage f) S.FPL_SWAP_COLLAPSED) ∧
      keeps [.fpl, .regs, .wst, .events, .out] s t ∧ sameRegs [fplPage f] s t)) ∧
  (∀ (s : State) (m f : Nat) (v : Word), f < 16 → judge s m (fplPage f) R.FPL_SWAP 8 (v ||| 0x4000#64) = .ok →
    bitOf v 15 = false → fplStreams s f = [] →
    completes (.request m f v) s (fun t => t.fpl = { s.fpl with coefDef := ntSet s.fpl.coefDef f (1 - ntGet s.fpl.coefDef f) } ∧
      keeps [.fpl, .regs, .wst] s t ∧ sameRegs [fplPage f] s t)) ∧
  (∀ (s : State) (m f n : Nat) (v : Word) (x : FplStream), f < 16 → judge s m (fplPage f) R.FPL_SWAP 8 (v ||| 0x8000#64) = .ok →
    bitOf v 14 = false → (fplStreams s f).count n = 1 → x = fplTakeUp s f n →
    completes (.fplGainSwap m f v) s (fun t => fplStream t n =
        { x with reqs := insertReq ⟨.gain, (fplStream s n).next, 0, false, true, 0, 0⟩ x.reqs } ∧
      (∀ k, k ∉ fplStreams s f → fplStream t k = fplStream s k) ∧
      keeps [.fpl, .regs, .wst] s t ∧ sameRegs [fplPage f] s t)) ∧
  (∀ (s : State) (m f n : Nat) (v : Word) (x : FplStream), f < 16 → judge s m (fplPage f) R.FPL_MODEL_CTRL 8 (v ||| 1#64) = .ok →
    (fplStreams s f).count n = 1 → x = fplTakeUp s f n →
    completes (.loadNow m f v) s (fun t => fplStream t n =
        { x with reqs := insertReq ⟨.model, (fplStream s n).next, 0, false, true, 0, 0⟩ x.reqs } ∧
      (∀ k, k ∉ fplStreams s f → fplStream t k = fplStream s k) ∧
      keeps [.fpl, .regs, .wst] s t ∧ sameRegs [fplPage f] s t)) ∧
  (∀ (s : State) (h f n p : Nat) (o : MarkOcc) (x : FplStream) (al : Bool), f < 16 → markOcc s h 3 = some o → o.arg64.testBit f = true →
    (fplStreams s f).count n = 1 → x = fplTakeUp s f n → p = resolveSpectrum s f n o.time →
    al = flag s (fplPage f) F.FPL_SWAP_ALIGN_BATCH →
    completes (.coefSwap h) s (fun t => fplStream t n = { x with
        reqs := insertReq ⟨.coef, max p (fplStream s n).next, o.arg16 % 8192, al, false, o.time, o.order⟩ x.reqs } ∧
      (bitsSet (o.arg64 % 65536) 16 = [f] → fplStreams s f = [n] → s.mrk.done.length < 256 →
        ⟨h, max o.status (if (if al then ceilTo p (streamT s f n) else p) < (fplStream s n).next then 2 else 1), timeNs o.time⟩ ∈ t.mrk.done) ∧
      ((if al then ceilTo p (streamT s f n) else p) < (fplStream s n).next → stuck t mrkPage S.MRK_LATE) ∧
      keeps [.fpl, .mrk, .regs, .events, .out] s t ∧ sameRegs [mrkPage] s t)) ∧
  (∀ (s : State) (h f n p : Nat) (o : MarkOcc) (x : FplStream), f < 16 → markOcc s h 4 = some o → o.arg64.testBit f = true →
    (fplStreams s f).count n = 1 → x = fplTakeUp s f n → p = resolveSpectrum s f n o.time →
    completes (.gainSwap h) s (fun t => fplStream t n = { x with
        reqs := insertReq ⟨.gain, max p (fplStream s n).next, o.arg16 % 8192, false, false, o.time, o.order⟩ x.reqs } ∧
      (bitsSet (o.arg64 % 65536) 16 = [f] → fplStreams s f = [n] → s.mrk.done.length < 256 →
        ⟨h, max o.status (if p < (fplStream s n).next then 2 else 1), timeNs o.time⟩ ∈ t.mrk.done) ∧
      (p < (fplStream s n).next → stuck t mrkPage S.MRK_LATE) ∧
      keeps [.fpl, .mrk, .regs, .events, .out] s t ∧ sameRegs [mrkPage] s t)) ∧
  (∀ (s : State) (h f n p : Nat) (o : MarkOcc) (x : FplStream), f < 16 → markOcc s h 5 = some o → o.arg64.testBit f = true →
    (fplStreams s f).count n = 1 → x = fplTakeUp s f n → p = resolveSpectrum s f n o.time →
    completes (.modelLoad h) s (fun t => fplStream t n = { x with
        reqs := insertReq ⟨.model, max p (fplStream s n).next, o.arg16 % 8192, false, false, o.time, o.order⟩ x.reqs } ∧
      (bitsSet (o.arg64 % 65536) 16 = [f] → fplStreams s f = [n] → s.mrk.done.length < 256 →
        ⟨h, max o.status (if p < (fplStream s n).next then 2 else 1), timeNs o.time⟩ ∈ t.mrk.done) ∧
      (p < (fplStream s n).next → stuck t mrkPage S.MRK_LATE) ∧
      keeps [.fpl, .mrk, .regs, .events, .out] s t ∧ sameRegs [mrkPage] s t))

/-- Spectra of a stream. With its window complete, a Faceplate makes the next spectrum of a stream it takes: one operand
of every channel goes into transit and the stream moves on by one spectrum, whatever requests act and memory errors
fall there, each of which is flagged; it makes none of a stream it does not take or that does not run. With no request
due and no detector armed the spectrum is counted, one operand of every channel goes into transit and the stream moves
on by one spectrum. Where an output of the window carries a lost sample every operand is 0 + 0j. The last weight of a
fade is 65,536, at which its combination is the sum of the new bank. Where the spec can be read in more than one way
it follows log entries 7 and 27. (R138, R148, R150, R157, 06_faceplate.md) -/
def Obligations.Spectra : Prop :=
  (∀ (s : State) (f n j : Nat) (w : Word), f < 16 → pageLive s (fplPage f) = true → fplTakes s f n = true → mapOf s f n = some (j, w) →
    unarmed s (fplPage f) → gangSize s = 1 → (fplStream s n).reqs = [] → (fplStream s n).delayHeld = none →
    (fplStream s n).running = true → (fplStream s n).base ≤ (fplStream s n).next * fplM s f n + (fplStream s n).delay →
    (fplStream s n).next * fplM s f n + (fplStream s n).delay + fplTaps s f * fplM s f n ≤
      (fplStream s n).base + (fplStream s n).outs.length →
    completes (.spectrum f n []) s (fun t => (fplStream t n).next = (fplStream s n).next + 1 ∧
      (reg t (fplPage f) R.FPL_CNT).toNat = satAdd 64 (reg s (fplPage f) R.FPL_CNT).toNat 1 ∧
      t.fpl.transit.length = s.fpl.transit.length + fplN s f ∧
      keeps [.fpl, .regs, .events, .out] s t ∧ sameRegs [fplPage f] s t)) ∧
  (∀ (s : State) (f n j : Nat) (w : Word), f < 16 → pageLive s (fplPage f) = true → fplTakes s f n = true → mapOf s f n = some (j, w) →
    unarmed s (fplPage f) → gangSize s = 1 → (fplStream s n).reqs = [] → (fplStream s n).delayHeld = none →
    (fplStream s n).running = true → (fplStream s n).base ≤ (fplStream s n).next * fplM s f n + (fplStream s n).delay →
    (fplStream s n).next * fplM s f n + (fplStream s n).delay + fplTaps s f * fplM s f n ≤
      (fplStream s n).base + (fplStream s n).outs.length →
    (((fplStream s n).outs.drop ((fplStream s n).next * fplM s f n + (fplStream s n).delay - (fplStream s n).base)).take
      (fplTaps s f * fplM s f n)).any (fun o => o.lost) = true →
    completes (.spectrum f n []) s (fun t => t.fpl.transit = s.fpl.transit ++ (List.range (fplN s f)).map (fun c =>
        ⟨f, mapRegion w, mapPos w, c, (fplStream s n).next / mapT s f w, (fplStream s n).next % mapT s f w, 0⟩) ∧
      keeps [.fpl, .regs, .events, .out] s t ∧ sameRegs [fplPage f] s t)) ∧
  (∀ (s : State) (f n j : Nat) (w : Word) (errs : List MemError) (x : FplStream), f < 16 → pageLive s (fplPage f) = true → fplTakes s f n = true →
    mapOf s f n = some (j, w) → gangSize s = 1 → x = (boundary s f j (mapT s f w) (fplStream s n).next (fplStream s n)).x →
    x.running = true → x.base ≤ (fplStream s n).next * fplM s f n + x.delay →
    (fplStream s n).next * fplM s f n + x.delay + fplTaps s f * fplM s f n ≤ x.base + x.outs.length →
    completes (.spectrum f n errs) s (fun t => (fplStream t n).next = (fplStream s n).next + 1 ∧
      t.fpl.transit.length = s.fpl.transit.length + fplN s f ∧ (∀ k, k ≠ n → fplStream t k = fplStream s k) ∧
      (∀ e ∈ errs, stuck t (fplPage f) (if e.uncorr then S.FPL_MEM_UNCORR else S.FPL_MEM_CORR)) ∧
      keeps [.fpl, .regs, .events, .out, .armed] s t ∧ sameRegs [fplPage f] s t)) ∧
  (∀ (s : State) (f n j : Nat) (w : Word) (errs : List MemError), (pageLive s (fplPage f) = false ∨ fplTakes s f n = false ∨
      (mapOf s f n = some (j, w) ∧ (boundary s f j (mapT s f w) (fplStream s n).next (fplStream s n)).x.running = false)) →
    completes (.spectrum f n errs) s (fun t => t = s)) ∧
  (∀ (fd : FplFade) (a b : Int × Int), 0 < fd.len → fadeMix (fadeWeight fd (fd.start + fd.len - 1)) a b = b)

/-- Operands of a turn region lie inside it and share no byte. Within a region of DEPTH at least 1, the address of an
operand whose position, local channel and spectrum are in range lies from BASE on with all its bytes below BASE plus
SIZE, and two such operands whose bytes meet have the same position, local channel, spectrum and batch slot. (R155,
06_faceplate.md) -/
def Obligations.TurnRegionAddresses : Prop :=
  ∀ (s : State) (d r i j c e a b t u : Nat), 0 < regionDepth s d r → i < 32 * regionBlocks s d r → j < 32 * regionBlocks s d r →
    c < regionChans s d r → e < regionChans s d r → t < regionT s d r → u < regionT s d r →
    regionBase s d r ≤ operandAddr s d r i c a t ∧
    operandAddr s d r i c a t + operandBytes (regionFormat s d r) ≤ regionBase s d r + regionSize s d r ∧
    (operandAddr s d r i c a t < operandAddr s d r j e b u + operandBytes (regionFormat s d r) →
      operandAddr s d r j e b u < operandAddr s d r i c a t + operandBytes (regionFormat s d r) →
      i = j ∧ c = e ∧ t = u ∧ a % regionDepth s d r = b % regionDepth s d r)

/-- A stroke without a fault passes the witness check, whatever its operands. For every row and column operands of every
spectrum, the 132 equations of the witness check hold on the 33 × 33 sums that the lathe accumulates, whose last row
and column come from the witness operands. (R165, R173, 07_lathes.md) -/
def Obligations.UndisturbedStrokePasses : Prop :=
  ∀ (xs ys : List (List (Int × Int))), (∀ x ∈ xs, x.length = 32) → (∀ y ∈ ys, y.length = 32) →
    failing (accumulate noAcc xs ys) = []

/-- A change to a single accumulator component always fails exactly two equations. If the check holds on a set of 33 × 33
accumulators and one component of one cell then changes, exactly two equations fail, and each of them is off by that
change or its negative. (R173, R174, 07_lathes.md) -/
def Obligations.SingleFaultFailsTwice : Prop :=
  ∀ (v : List (Int × Int)) (c : Nat) (d : Int), v.length = 1089 → c < 1089 → d ≠ 0 → failing v = [] →
    (failing (v.modify c (fun p => (p.1 + d, p.2)))).length = 2 ∧ (failing (v.modify c (fun p => (p.1, p.2 + d)))).length = 2 ∧
    (∀ e ∈ failing (v.modify c (fun p => (p.1 + d, p.2))), e.im = false ∧ (e.diff = d ∨ e.diff = -d)) ∧
    (∀ e ∈ failing (v.modify c (fun p => (p.1, p.2 + d))), e.im = true ∧ (e.diff = d ∨ e.diff = -d))

/-- What the drain token of a correlation stroke brings. A stroke whose shadow set passes the check is counted and its
1,024 values go to Tally as a dump; one whose set has a failing equation or a non-finite accumulator is missed, sets
WIT_FAIL, counts in LTH_CNT[2] and reports its cause, first equation, mask and difference; one whose operands were
read with an error is missed without a sticky bit. Each frees the front of the lathe's queue, whose gouge strokes hold
their weights. With no stroke in front nothing happens. Where the spec can be read in more than one way it follows log
entries 33 and 34. (R19, R165, R168, R173, R175, R196, 07_lathes.md) -/
def Obligations.DrainTokens : Prop :=
  (∀ (s : State) (n : Nat) (h : BlankHalf) (held stretched : Nat) (k : Stroke) (q : List Stroke) (vals : List (Int × Int)),
    n < 272 → unarmed s (lthPage n) → (lathe s n).queue = k :: q → weightsStored q = true → k.gouge = none →
    strokeData s (n / 68) k = some h → latheHalted s n = false → pageRetired s (lthPage n) = false →
    (schDie s (n / 68)).loaded = [] → k.bad = 0 → dataBad h [k.row, k.col] = 0 →
    accumulate k.accOr (h.block k.row).rows (h.block k.col).rows = vals → vals.length = 1089 →
    (∀ p ∈ vals, p.1.natAbs < 2 ^ 46 ∧ p.2.natAbs < 2 ^ 46) → failing vals = [] →
    completes (.drainToken n [] held stretched) s (fun t => (lathe t n).queue = q ∧ (lathe t n).shadow = vals ∧
      (tlyDie t (n / 68)).inbox = (tlyDie s (n / 68)).inbox ++
        [strokeItem k .dump ((List.range 1024).map (fun v => cellAt vals (v / 32) (v % 32))) false] ∧
      counted s t (lthPage n) R.LTH_CNT 0 1 ∧ counted s t (lthPage n) R.LTH_CNT 5 held ∧
      counted s t (lthPage n) R.LTH_CNT 6 stretched ∧ keeps [.sch, .tly, .regs] s t ∧ sameRegs [lthPage n] s t)) ∧
  (∀ (s : State) (n : Nat) (h : BlankHalf) (held stretched : Nat) (k : Stroke) (q : List Stroke) (fs : List CellFault)
    (sh : List (Code48 × Code48)) (e : Equation) (l : List Equation), n < 272 → unarmed s (lthPage n) →
    (lathe s n).queue = k :: q → weightsStored q = true → k.gouge = none → strokeData s (n / 68) k = some h →
    latheHalted s n = false → pageRetired s (lthPage n) = false → (schDie s (n / 68)).loaded = [] →
    k.bad = 0 → dataBad h [k.row, k.col] = 0 → (countRetry (lthPage n) s).2 = false →
    faultSet fs none (accumulate k.accOr (h.block k.row).rows (h.block k.col).rows) = sh →
    sh.all (fun c => codeFinite c.1 && codeFinite c.2) = true →
    failing (sh.map (fun c => (c.1.toInt, c.2.toInt))) = e :: l →
    completes (.drainToken n fs held stretched) s (fun t => (lathe t n).queue = q ∧
      (tlyDie t (n / 68)).inbox = (tlyDie s (n / 68)).inbox ++
        [strokeItem k .miss [] (((planOf s (n / 68) k.region).map Plan.replayMode).getD false && !k.replay &&
          slotHolds s (n / 68) k.region k.batch)] ∧
      stuck t (lthPage n) S.LTH_WIT_FAIL ∧ counted s t (lthPage n) R.LTH_CNT 2 1 ∧
      reg t (lthPage n) R.LTH_WIT_FAIL = BitVec.ofNat 64 (1 + e.kind * 4 + e.index * 16 + (if e.im then 512 else 0) +
        (l.length + 1) % 256 * 2 ^ 16) ∧
      reg t (lthPage n) R.LTH_WIT_MASK = BitVec.ofNat 64 (witMask (e :: l)) ∧
      reg t (lthPage n) R.LTH_WIT_DIFF = BitVec.ofInt 64 e.diff ∧
      keeps [.sch, .tly, .regs, .retry, .events, .out] s t ∧ sameRegs [lthPage n] s t)) ∧
  (∀ (s : State) (n : Nat) (h : BlankHalf) (held stretched : Nat) (k : Stroke) (q : List Stroke) (fs : List CellFault),
    n < 272 → unarmed s (lthPage n) → (lathe s n).queue = k :: q → weightsStored q = true → k.gouge = none →
    strokeData s (n / 68) k = some h → latheHalted s n = false → pageRetired s (lthPage n) = false →
    (schDie s (n / 68)).loaded = [] → k.bad = 0 → dataBad h [k.row, k.col] = 0 → (countRetry (lthPage n) s).2 = false →
    (faultSet fs none (accumulate k.accOr (h.block k.row).rows (h.block k.col).rows)).all
      (fun c => codeFinite c.1 && codeFinite c.2) = false →
    completes (.drainToken n fs held stretched) s (fun t => (lathe t n).queue = q ∧
      stuck t (lthPage n) S.LTH_WIT_FAIL ∧ counted s t (lthPage n) R.LTH_CNT 2 1 ∧
      reg t (lthPage n) R.LTH_WIT_FAIL = 2 ∧ reg t (lthPage n) R.LTH_WIT_MASK = 0 ∧ reg t (lthPage n) R.LTH_WIT_DIFF = 0 ∧
      keeps [.sch, .tly, .regs, .retry, .events, .out] s t ∧ sameRegs [lthPage n] s t)) ∧
  (∀ (s : State) (n : Nat) (h : BlankHalf) (held stretched : Nat) (k : Stroke) (q : List Stroke) (fs : List CellFault),
    n < 272 → (lathe s n).queue = k :: q → weightsStored q = true → k.gouge = none →
    strokeData s (n / 68) k = some h → latheHalted s n = false → pageRetired s (lthPage n) = false →
    (schDie s (n / 68)).loaded = [] → dataBad h [k.row, k.col] = 2 →
    completes (.drainToken n fs held stretched) s (fun t => (lathe t n).queue = q ∧
      (tlyDie t (n / 68)).inbox = (tlyDie s (n / 68)).inbox ++ [strokeItem k .miss [] false] ∧
      reg t (lthPage n) R.STICKY = reg s (lthPage n) R.STICKY ∧ counted s t (lthPage n) R.LTH_CNT 2 1 ∧
      keeps [.sch, .tly, .regs] s t ∧ sameRegs [lthPage n] s t)) ∧
  (∀ (s : State) (n held stretched : Nat) (fs : List CellFault), (lathe s n).queue = [] →
    completes (.drainToken n fs held stretched) s (fun t => t = s))

/-- Handshake timeouts and replays. A handshake timeout fails the stroke in front, of correlation or of beams (then
GGE_CNT[1] counts it missing), and does nothing on an empty queue: HANDSHAKE_TO is set, LTH_CNT[2] and LTH_CNT[7]
count, the report has cause 3 with mask and difference 0. A replay takes the oldest failed job of a C-die to the
lowest free spare and counts on both pages; with no spare, or two replays running, nothing happens. Where the spec can
be read in more than one way it follows log entry 32. (R172, R175, R176, R195, 07_lathes.md) -/
def Obligations.HandshakesAndReplays : Prop :=
  (∀ (s : State) (n : Nat) (k : Stroke) (q : List Stroke), n < 272 → (lathe s n).queue = k :: q → weightsStored q = true → k.gouge = none →
    (schDie s (n / 68)).loaded = [] → (countRetry (lthPage n) s).2 = false →
    completes (.handshakeTo n) s (fun t => (lathe t n).queue = q ∧ stuck t (lthPage n) S.LTH_HANDSHAKE_TO ∧
      counted s t (lthPage n) R.LTH_CNT 2 1 ∧ counted s t (lthPage n) R.LTH_CNT 7 1 ∧
      reg t (lthPage n) R.LTH_WIT_FAIL = 3 ∧ reg t (lthPage n) R.LTH_WIT_MASK = 0 ∧ reg t (lthPage n) R.LTH_WIT_DIFF = 0 ∧
      keeps [.sch, .tly, .regs, .retry, .events, .out] s t ∧ sameRegs [lthPage n] s t)) ∧
  (∀ (s : State) (n : Nat) (k : Stroke) (q : List Stroke) (g : GougeJob), n < 272 → (lathe s n).queue = k :: q → weightsStored q = true →
    k.gouge = some g → g.entry.voltEn = false → g.entry.powerEn = false → s.gge.dets = [] →
    (schDie s (n / 68)).loaded = [] → (countRetry (lthPage n) s).2 = false →
    completes (.handshakeTo n) s (fun t => (lathe t n).queue = q ∧ stuck t (lthPage n) S.LTH_HANDSHAKE_TO ∧
      counted s t (lthPage n) R.LTH_CNT 2 1 ∧ counted s t (lthPage n) R.LTH_CNT 7 1 ∧ counted s t (ggePage (n / 68)) R.GGE_CNT 1 1 ∧
      reg t (lthPage n) R.LTH_WIT_FAIL = 3 ∧ reg t (lthPage n) R.LTH_WIT_MASK = 0 ∧ reg t (lthPage n) R.LTH_WIT_DIFF = 0 ∧
      keeps [.sch, .regs, .retry, .events, .out, .free] s t ∧ sameRegs [lthPage n, ggePage (n / 68)] s t)) ∧
  (∀ (s : State) (n : Nat), (lathe s n).queue = [] → completes (.handshakeTo n) s (fun t => t = s)) ∧
  (∀ (s : State) (d n : Nat) (k : Stroke) (q : List Stroke) (errs : List (Nat × Bool)), d < 4 → (schDie s d).replays = k :: q →
    replaySpare s d = some n → runningReplays s d < 2 →
    completes (.replay d errs) s (fun t => (∃ x, (lathe t n).queue = [{ k with own := some x }]) ∧
      (schDie t d).replays = q ∧ counted s t (schPage d) R.SCH_CNT 5 1 ∧ counted s t (lthPage n) R.LTH_CNT 3 1 ∧
      keeps [.sch, .regs, .events, .out, .armed, .hbm] s t)) ∧
  (∀ (s : State) (d : Nat) (errs : List (Nat × Bool)),
    ((schDie s d).replays = [] ∨ replaySpare s d = none ∨ 2 ≤ runningReplays s d) → completes (.replay d errs) s (fun t => t = s))

/-- Debug snapshots of a lathe. Outside debug mode a SNAPSHOT is refused with LOCK_REFUSED and does nothing else. In debug
mode it makes the lathe snap; once the pipeline is empty the lathe is HALTED, exposes its live set and sets SNAP_DONE.
While it is halted a drain token does nothing. RESUME clears HALTED, and the strokes go on as they stood. (R178, R179,
R180, 07_lathes.md) -/
def Obligations.LatheSnapshots : Prop :=
  (∀ (s : State) (m n : Nat) (v : Word), n < 272 → judge s m (lthPage n) R.LTH_SNAP_CTRL 8 (v ||| 1#64) = .ok → bitOf v 1 = false →
    flag s (lthPage n) F.PAGE_CTRL_DEBUG = false →
    completes (.snapshot m n v) s (fun t => stuck t (lthPage n) S.LOCK_REFUSED ∧ t.wst = 5 ∧
      keeps [.regs, .wst, .events, .out] s t ∧ sameRegs [lthPage n] s t)) ∧
  (∀ (s : State) (m n : Nat) (v : Word), n < 272 → judge s m (lthPage n) R.LTH_SNAP_CTRL 8 (v ||| 1#64) = .ok → bitOf v 1 = false →
    flag s (lthPage n) F.PAGE_CTRL_DEBUG = true → latheHalted s n = false →
    completes (.snapshot m n v) s (fun t => lathe t n = { lathe s n with snapping := true, tokenSeen := false } ∧
      (∀ k, k ≠ n → lathe t k = lathe s k) ∧ keeps [.sch, .regs, .wst] s t ∧ sameRegs [] s t)) ∧
  (∀ (s : State) (n samples : Nat), n < 272 → (lathe s n).snapping = true →
    completes (.snapDone n samples) s (fun t => latheHalted t n = true ∧ (lathe t n).queue = (lathe s n).queue ∧
      (lathe t n).live = (liveSet s n samples).1 ∧ stuck t (lthPage n) S.LTH_SNAP_DONE ∧
      fieldOf (reg t (lthPage n) R.LTH_SNAP_INFO) 0 21 = (liveSet s n samples).2 % 2 ^ 21 ∧
      keeps [.sch, .regs, .events, .out] s t ∧ sameRegs [lthPage n] s t)) ∧
  (∀ (s : State) (n held stretched : Nat) (fs : List CellFault), latheHalted s n = true →
    completes (.drainToken n fs held stretched) s (fun t => t = s)) ∧
  (∀ (s : State) (m n : Nat) (v : Word), n < 272 → judge s m (lthPage n) R.LTH_SNAP_CTRL 8 (v ||| 2#64) = .ok → bitOf v 0 = false →
    latheHalted s n = true →
    completes (.lthResume m n v) s (fun t => latheHalted t n = false ∧ (lathe t n).queue = (lathe s n).queue ∧
      (lathe t n).live = (lathe s n).live ∧ (∀ k, k ≠ n → lathe t k = lathe s k) ∧ keeps [.sch, .regs, .wst] s t ∧
      sameRegs [lthPage n] s t))

/-- How a cut-list entry expands. A correlation entry whose ranges are in order expands into as many tiles as the table of
R184 gives, and its producers fill consecutive slots from SLOT0 and seats from SEAT0 modulo 64. (R184, R185,
08_cut_lists.md) -/
def Obligations.CutListExpansion : Prop :=
  ∀ e : CutEntry, 1 ≤ e.op → e.op ≤ 5 → e.rowLo ≤ e.rowHi → (e.op = 4 → 1 ≤ e.param) → (e.op = 5 → e.colLo ≤ e.colHi) →
    e.tiles.length = e.tileCount ∧ e.producers.length = e.tileCount * e.split ∧
    e.producers.map Producer.slot = (List.range (e.tileCount * e.split)).map (fun i => e.slot0 + i) ∧
    e.producers.map Producer.seat = (List.range (e.tileCount * e.split)).map (fun i => (e.seat0 + i) % 64)

/-- Reading, writing and stopping pass plans. A READ loads the plan of the region addressed, or zeroes. A WRITE with VALID
1 shows the first failing check in RESULT, then sets CFG_REFUSED and leaves every plan as it was; one that passes
makes the plan valid with its words, cut list and stage table, and refuses later writes into both. A WRITE with VALID
0 ends a plan that has no batch in progress. Where the spec can be read in more than one way it follows log entries 30
and 31. (R186, R187, R188, R475, 08_cut_lists.md) -/
def Obligations.PassPlans : Prop :=
  (∀ (s : State) (m d : Nat) (v : Word), d < 4 → judge s m (schPage d) R.SCH_PLAN_CTRL 8 (v ||| 1#64) = .ok → bitOf v 1 = false →
    (∀ p, planOf s d (fld s (schPage d) F.SCH_PLAN_ADDR_REGION) = some p → p.words.length = 8) →
    completes (.schPlanRead m d v) s (fun t => regsFrom t (schPage d) R.SCH_PLAN_DATA 8 =
      ((planOf s d (fld s (schPage d) F.SCH_PLAN_ADDR_REGION)).map Plan.words).getD (List.replicate 8 0) ∧
      keeps [.regs, .wst] s t ∧ sameRegs [schPage d] s t)) ∧
  (∀ (s : State) (m d : Nat) (v : Word), d < 4 → judge s m (schPage d) R.SCH_PLAN_CTRL 8 (v ||| 2#64) = .ok → bitOf v 0 = false →
    bitOf (planWords (planData s d) 0) 0 = true → (planValidWrite d (planData s d) s).1 ≠ 0 →
    completes (.schPlanWrite m d v) s (fun t =>
      fld t (schPage d) F.SCH_PLAN_CTRL_RESULT = (planValidWrite d (planData s d) s).1 ∧ stuck t (schPage d) S.CFG_REFUSED ∧
      t.sch = s.sch ∧ t.mem = s.mem ∧ keeps [.hbm, .regs, .wst, .events, .out] s t)) ∧
  (∀ (s : State) (m d r : Nat) (v : Word), d < 4 → judge s m (schPage d) R.SCH_PLAN_CTRL 8 (v ||| 2#64) = .ok → bitOf v 0 = false →
    bitOf (planWords (planData s d) 0) 0 = true → pwRegion (planData s d) = r →
    (planValidWrite d (planData s d) s).1 = 0 →
    completes (.schPlanWrite m d v) s (fun t => fld t (schPage d) F.SCH_PLAN_CTRL_RESULT = 0 ∧
      (∃ p, planOf t d r = some p ∧ p.words.take 6 = planData s d ∧
        p.entries = (readCut (pwEntries (planData s d)) (planWords (planData s d) 1).toNat s).1 ∧ p.stopping = false) ∧
      (∀ q, q < 64 → q ≠ 16 * d + r → sparseFind t.sch.plans q = sparseFind s.sch.plans q) ∧
      (∃ f ∈ t.hbm.fences, f.lo = (planWords (planData s d) 1).toNat ∧ f.page = schPage d ∧ f.bit = S.CFG_REFUSED) ∧
      t.mem = s.mem ∧ keeps [.sch, .hbm, .regs, .wst, .events, .out] s t)) ∧
  (∀ (s : State) (m d r : Nat) (v : Word), d < 4 → judge s m (schPage d) R.SCH_PLAN_CTRL 8 (v ||| 2#64) = .ok → bitOf v 0 = false →
    bitOf (planWords (planData s d) 0) 0 = false → fld s (schPage d) F.SCH_PLAN_ADDR_REGION = r →
    batchInProgress s d r = false →
    completes (.schPlanWrite m d v) s (fun t => fld t (schPage d) F.SCH_PLAN_CTRL_RESULT = 0 ∧ planOf t d r = none ∧
      (∀ q, q < 64 → q ≠ 16 * d + r → sparseFind t.sch.plans q = sparseFind s.sch.plans q) ∧
      keeps [.sch, .tly, .hbm, .regs, .wst, .events, .out] s t))

/-- Operands that reach the turn buffer. The oldest operand bound for a C-die goes to its address while its batch holds
the slot and is not yet staged; once the batch has been staged it is discarded as late; while another batch holds the
slot it is discarded and the turn buffer is full. With none bound for the C-die nothing happens, and a count of
operands arrives one by one. (R17, R155, R157, R158, 08_cut_lists.md) -/
def Obligations.TurnBufferArrivals : Prop :=
  (∀ (s : State) (d a : Nat) (o : TurnOperand), d < 4 → o.fpl < 16 → unarmed s (fplPage o.fpl) →
    s.fpl.transit.find? (fun x => decide (x.chan % 4 = d)) = some o → regionValid s d o.region = true →
    slotHolds s d o.region o.batch = true → (tbSlot s d o.region o.batch).staged = false → (tbSlot s d o.region o.batch).ready = true ∨
      absentPairs s d o.region o.batch ≠ [] ∧ ntGet (tbSlot s d o.region o.batch).arrived (o.pos * 65536 + o.chan / chanDiv s o.region) + 1 < regionT s d o.region →
    operandAddr s d o.region o.pos (o.chan / chanDiv s o.region) o.batch o.t = a →
    hbmRefuses s a (operandCells s o d).length = false → fenceHit s a (operandCells s o d).length = none →
    touchesReserved a (operandCells s o d).length = false → unarmed s (hbmPage (stackOf a)) →
    (∀ k, k < (operandCells s o d).length → rowFenced s (a + k) = false) →
    completes (.turnWrite d 1) s (fun t => t.mem = (memWrite a (operandCells s o d) s).mem ∧
      t.fpl.transit = removeFirst (fun x => decide (x = o)) s.fpl.transit ∧ counted s t (fplPage o.fpl) R.FPL_CNT 1 1 ∧
      keeps [.fpl, .mem, .hbm, .regs] s t)) ∧
  (∀ (s : State) (d : Nat) (o : TurnOperand), d < 4 → o.fpl < 16 → unarmed s (fplPage o.fpl) →
    s.fpl.transit.find? (fun x => decide (x.chan % 4 = d)) = some o → regionValid s d o.region = true →
    slotHolds s d o.region o.batch = true → (tbSlot s d o.region o.batch).staged = true →
    completes (.turnWrite d 1) s (fun t => stuck t (fplPage o.fpl) S.FPL_LATE ∧ counted s t (fplPage o.fpl) R.FPL_CNT 6 1 ∧
      t.fpl.transit = removeFirst (fun x => decide (x = o)) s.fpl.transit ∧ t.fpl.slots = s.fpl.slots ∧
      keeps [.fpl, .regs, .events, .out] s t ∧ sameRegs [fplPage o.fpl] s t)) ∧
  (∀ (s : State) (d : Nat) (o : TurnOperand), d < 4 → o.fpl < 16 → unarmed s (fplPage o.fpl) →
    s.fpl.transit.find? (fun x => decide (x.chan % 4 = d)) = some o → regionValid s d o.region = true →
    (tbSlot s d o.region o.batch).busy = true → (tbSlot s d o.region o.batch).batch < o.batch →
    (tbSlot s d o.region o.batch).replayOnly = false → (tbSlot s d o.region o.batch).past ≤ o.batch →
    ntGet (schDie s d).next o.region ≤ o.batch →
    completes (.turnWrite d 1) s (fun t => stuck t (fplPage o.fpl) S.FPL_TB_FULL ∧ counted s t (fplPage o.fpl) R.FPL_CNT 7 1 ∧
      t.fpl.transit = removeFirst (fun x => decide (x = o)) s.fpl.transit ∧ t.fpl.slots = s.fpl.slots ∧
      keeps [.fpl, .regs, .events, .out] s t ∧ sameRegs [fplPage o.fpl] s t)) ∧
  (∀ (s u : State) (d n : Nat), exec (.turnWrite d 1) s = .next u →
    completes (.turnWrite d (n + 1)) s (fun t => exec (.turnWrite d n) u = .next t) ∧ completes (.turnWrite d 0) s (fun t => t = s)) ∧
  (∀ (s : State) (d n : Nat), s.fpl.transit.find? (fun x => decide (x.chan % 4 = d)) = none → completes (.turnWrite d n) s (fun t => t = s))

/-- Deadlines and stage loads. A staging deadline makes a batch that this member stages and that is not known yet ready,
with the streams absent from it; of a batch that another member of the gang owns the boundary passes, and nothing else
happens; without a plan of the region it does nothing. A stage load goes on with the batch in progress, or begins the
first of the ready ones, with all its loads to do. It takes the next load of the batch in progress into the free half,
counts it and turns to the other half; it waits while strokes still read that half once those in front have taken in
the segment they have there, and does nothing on a disabled scheduler or with no batch to stage. Where the spec can be
read in more than one way it follows log entries 31 and 33. (R17, R191, R192, R193, 08_cut_lists.md) -/
def Obligations.StagingBatches : Prop :=
  (∀ (s : State) (d r b : Nat) (p : Plan), d < 4 → r < 16 → planOf s d r = some p → ownsBatch (toDeadline d r b p s) d r b = true →
    batchKnown s d r b = false → pageLive s (schPage d) = true →
    completes (.stagingDeadline d r b) s (fun t => (∃ since, (schDie t d).ready =
        (schDie s d).ready ++ [⟨r, b, since, absentPairs s d r b⟩]) ∧ (schDie t d).cur = (schDie s d).cur ∧
      keeps [.sch, .fpl, .mono, .dev, .regs, .events, .out] s t ∧ sameRegs [schPage d] s t)) ∧
  (∀ (s u : State) (d r b : Nat) (p : Plan), d < 4 → r < 16 → planOf s d r = some p → ownsBatch (toDeadline d r b p s) d r b = false → u = toDeadline d r b p s →
    completes (.stagingDeadline d r b) s (fun t => t = (passBoundary d r b p u).2)) ∧
  (∀ (s : State) (d r b : Nat), planOf s d r = none → completes (.stagingDeadline d r b) s (fun t => t = s)) ∧
  (∀ (s : State) (d c k h : Nat) (errs : List (Nat × Bool)) (q : SchCur) (rest : List (Nat × Nat)) (p : Plan) (e : StageEntry),
    d < 4 → pageLive s (schPage d) = true → (schDie s d).cur = some q → q.steps = (c, k) :: rest → rest ≠ [] →
    planOf s d q.region = some p → p.entries.all (fun x => !x.isGouge) = true →
    (if (schDie s d).useB then 1 else 0) = h → halfFree s d h = true →
    (stagesOf s d q.region p.stages)[k]? = some e →
    completes (.stageLoad d errs) s (fun t => (schDie t d).cur = some { q with steps := rest } ∧
      (schDie t d).useB = !(schDie s d).useB ∧
      (∃ x, halfOf t d h = some x ∧ x.first = e.first ∧ x.blocks.map BlockData.block = e.blocks) ∧
      counted s t (schPage d) R.SCH_CNT 1 1 ∧ t.mem = s.mem ∧
      keeps [.sch, .tly, .hbm, .regs, .armed, .events, .out] s t)) ∧
  (∀ (s : State) (d c k h : Nat) (errs : List (Nat × Bool)) (q : SchCur) (rest : List (Nat × Nat)),
    d < 4 → pageLive s (schPage d) = true → (schDie s d).cur = some q → q.steps = (c, k) :: rest →
    (planOf s d q.region).isSome = true → (if (schDie s d).useB then 1 else 0) = h → halfFree (passHalf d h s) d h = false →
    completes (.stageLoad d errs) s (fun t => t = passHalf d h s ∧ schDie t d = schDie s d ∧ keeps [.sch] s t)) ∧
  (∀ (s : State) (d : Nat) (errs : List (Nat × Bool)) (q : SchCur) (p : Plan), pageLive s (schPage d) = true → (schDie s d).cur = some q →
    planOf s d q.region = some p → completes (.stageLoad d errs) s (fun t => t = loadStep d errs p q s)) ∧
  (∀ (s : State) (d : Nat) (errs : List (Nat × Bool)) (x : SchReady) (p : Plan), d < 4 → pageLive s (schPage d) = true → (schDie s d).cur = none →
    pickReady s d (schDie s d).ready = some x → planOf s d x.region = some p →
    completes (.stageLoad d errs) s (fun t => ∃ q, (schDie (beginBatch d x p s) d).cur = some q ∧ q.region = x.region ∧ q.batch = x.batch ∧
      q.absent = x.absent ∧ q.steps = loadSteps p (stagesOf s d x.region p.stages) ∧
      (planOf (beginBatch d x p s) d x.region = some p → t = loadStep d errs p q (beginBatch d x p s)))) ∧
  (∀ (s : State) (d : Nat) (errs : List (Nat × Bool)), (pageLive s (schPage d) = false ∨ ((schDie s d).cur = none ∧ (schDie s d).ready = [])) →
    completes (.stageLoad d errs) s (fun t => t = s))

/-- A gouge spectrum without a fault passes its checks, whatever its weights and operands. For every chain of links with
32 beams of 32 weights each, the sum of the 32 beams equals the beam of the witness row in both components; and a
disturbance of one row of that spectrum fails the check of its component, off by what it adds or its negative. (R204,
R206, 09_gouge_beams.md) -/
def Obligations.UndisturbedBeamsPass : Prop :=
  ∀ (ws : List (List (List (Int × Int)))) (xs : List (List (Int × Int))) (row t : Nat) (im : Bool) (add : Int),
    (∀ w ∈ ws, w.length = 32) → (∀ w ∈ ws, ∀ r ∈ w, r.length = 32) → (∀ x ∈ xs, x.length = 32) → row ≤ 32 → add ≠ 0 →
    beamChecks (beamSums (ws.map withWitnessRow) xs) = [] ∧
    ∃ d, beamChecks (disturb [⟨t, row, im, add⟩] t (beamSums (ws.map withWitnessRow) xs)) = [(im, d)] ∧ (d = add ∨ d = -add)

/-- What the end of a gouge stroke does. A gouge stroke whose spectra all pass leaves its lathe and hands its beams on, to
the records and detectors of its entry; one without records and detectors only counts, on its lathe and its GGE page.
A lathe without a stroke does nothing. One with a failing spectrum sets WIT_FAIL, counts in LTH_CNT[2] and GGE_CNT[1],
and reports cause 1 with the first failing component, its difference and no mask. With the GGE page disabled the job
is missing: GGE_CNT[1] counts, and the lathe's sticky bits stay. Where the spec can be read in more than one way it
follows log entry 34. (R206, R208, R225, 09_gouge_beams.md) -/
def Obligations.GougeStrokes : Prop :=
  (∀ (s : State) (n held stretched : Nat) (k : Stroke) (q : List Stroke) (g : GougeJob) (h : BlankHalf),
    n < 272 → unarmed s (lthPage n) → (lathe s n).queue = k :: q → weightsStored q = true → k.gouge = some g → strokeData s (n / 68) k = some h →
    latheHalted s n = false → pageRetired s (lthPage n) = false → flag s (ggePage (n / 68)) F.PAGE_CTRL_ENABLE = true →
    dataBad h ((List.range (wsetOf s (n / 68) g.entry.wset).links).map (fun l => g.entry.block0 + l)) = 0 →
    (g.weights.getD []).all (fun w => decide (w.length = 32) && w.all (fun r => decide (r.length = 32))) = true →
    g.entry.voltEn = false → g.entry.powerEn = false → s.gge.dets = [] → (schDie s (n / 68)).loaded = [] →
    (h.blocks.all (fun b => b.rows.all (fun r => decide (r.length = 32)))) = true →
    completes (.gougeStroke n [] held stretched) s (fun t => (lathe t n).queue = q ∧ counted s t (lthPage n) R.LTH_CNT 1 1 ∧
      counted s t (ggePage (n / 68)) R.GGE_CNT 0 1 ∧ t.gge = s.gge ∧ t.mem = s.mem ∧ t.tly = s.tly ∧ t.rng = s.rng)) ∧
  (∀ (s : State) (n held stretched : Nat) (fs : List BeamFault) (k : Stroke) (q : List Stroke) (g : GougeJob) (h : BlankHalf) (l : Stroke × State)
    (ws : List (List (List (Int × Int)))) (ys : List (List (Int × Int))), n < 272 → unarmed s (lthPage n) → (lathe s n).queue = k :: q →
    weightsStored q = true → k.gouge = some g → strokeData s (n / 68) k = some h →
    latheHalted s n = false → pageRetired s (lthPage n) = false → flag s (ggePage (n / 68)) F.PAGE_CTRL_ENABLE = true →
    dataBad h ((List.range (wsetOf s (n / 68) g.entry.wset).links).map (fun l => g.entry.block0 + l)) = 0 →
    l = loadStroke (n / 68) k s → ws = ((l.1.gouge.bind (·.weights)).getD []).map withWitnessRow →
    ys = (List.range h.count).map (fun t => disturb fs t (beamSums ws (((List.range (wsetOf s (n / 68) g.entry.wset).links).map
      (fun l => g.entry.block0 + l)).map (fun b => (h.block b).rows.getD t [])))) → ys.flatMap beamChecks = [] →
    completes (.gougeStroke n fs held stretched) s (fun t => ∃ u, t = refreshPins (finishBatches (n / 68) (gougePass n k g h.first ys u)) ∧
      (lathe u n).queue = q ∧ keeps [.sch, .regs] l.2 u ∧ sameRegs [lthPage n] l.2 u)) ∧
  (∀ (s : State) (n held stretched row : Nat) (im : Bool) (add : Int) (k : Stroke) (q : List Stroke) (g : GougeJob) (h : BlankHalf),
    n < 272 → unarmed s (lthPage n) → (lathe s n).queue = k :: q → weightsStored q = true → k.gouge = some g → strokeData s (n / 68) k = some h →
    latheHalted s n = false → pageRetired s (lthPage n) = false → flag s (ggePage (n / 68)) F.PAGE_CTRL_ENABLE = true →
    dataBad h ((List.range (wsetOf s (n / 68) g.entry.wset).links).map (fun l => g.entry.block0 + l)) = 0 →
    (g.weights.getD []).all (fun w => decide (w.length = 32) && w.all (fun r => decide (r.length = 32))) = true →
    g.entry.voltEn = false → g.entry.powerEn = false → s.gge.dets = [] → (schDie s (n / 68)).loaded = [] →
    (countRetry (lthPage n) s).2 = false → (h.blocks.all (fun b => b.rows.all (fun r => decide (r.length = 32)))) = true →
    0 < h.count → row < 32 → add ≠ 0 →
    completes (.gougeStroke n [⟨0, row, im, add⟩] held stretched) s (fun t => (lathe t n).queue = q ∧
      stuck t (lthPage n) S.LTH_WIT_FAIL ∧ counted s t (lthPage n) R.LTH_CNT 2 1 ∧
      counted s t (ggePage (n / 68)) R.GGE_CNT 1 1 ∧
      reg t (lthPage n) R.LTH_WIT_FAIL = BitVec.ofNat 64 (1 + (if im then 512 else 0) + 2 ^ 16) ∧
      reg t (lthPage n) R.LTH_WIT_MASK = 0 ∧ reg t (lthPage n) R.LTH_WIT_DIFF = BitVec.ofInt 64 add ∧
      t.gge = s.gge ∧ t.mem = s.mem ∧ t.tly = s.tly ∧ t.rng = s.rng)) ∧
  (∀ (s : State) (n held stretched : Nat) (fs : List BeamFault) (k : Stroke) (q : List Stroke) (g : GougeJob) (h : BlankHalf),
    n < 272 → (lathe s n).queue = k :: q → weightsStored q = true → k.gouge = some g → strokeData s (n / 68) k = some h →
    latheHalted s n = false → pageRetired s (lthPage n) = false → flag s (ggePage (n / 68)) F.PAGE_CTRL_ENABLE = false →
    g.entry.voltEn = false → g.entry.powerEn = false → s.gge.dets = [] → (schDie s (n / 68)).loaded = [] →
    completes (.gougeStroke n fs held stretched) s (fun t => (lathe t n).queue = q ∧
      counted s t (ggePage (n / 68)) R.GGE_CNT 1 1 ∧ reg t (lthPage n) R.STICKY = reg s (lthPage n) R.STICKY ∧
      t.gge = s.gge ∧ t.mem = s.mem ∧ t.tly = s.tly ∧ t.rng = s.rng)) ∧
  (∀ (s : State) (n held stretched : Nat) (fs : List BeamFault), ((lathe s n).queue = [] ∨ latheHalted s n = true) →
    completes (.gougeStroke n fs held stretched) s (fun t => t = refreshPins s))

/-- Detectors and detector lines. An evaluation with missing spectra is skipped: the state holds, GGE_CNT[4] counts and
DET_SKIP is set. One with a whole window moves the detector by the table of R221, counts in GGE_CNT[3], and sets the
detector's sticky bit on a move into ALARM. ACK is noted in ALARM alone. A detector write that a check refuses changes
nothing but CFG_REFUSED; one that passes stores its words. A line write that its target's latch admits stores the line
with the writer's claim, not suspended; a TRIG_OUT or FCO number above 15 is refused. Where the spec can be read in
more than one way it follows log entry 35. (R220, R221, R223, R224, 09_gouge_beams.md) -/
def Obligations.Detectors : Prop :=
  (∀ (s : State) (d i k : Nat) (x : Detector), d < 4 → i < 16 → detOf s d i = x → x.next = some k → x.st ≠ 0 →
    pageLive s (ggePage d) = true → strokesEnded s d (k * 256 / max 1 (regionT s d x.region)) x = true →
    unarmed s (ggePage d) → (window { x with ticks := tickPut ⟨k, 0, 0⟩ x.ticks } k).2.1 = true →
    completes (.detectorEvaluation d i) s (fun t => (detOf t d i).st = x.st ∧ (detOf t d i).evals = x.evals ∧
      (detOf t d i).next = some (k + 1) ∧ stuck t (ggePage d) S.GGE_DET_SKIP ∧ counted s t (ggePage d) R.GGE_CNT 4 1 ∧
      (∀ j, j ≠ i → detOf t d j = detOf s d j) ∧ t.gge.wsets = s.gge.wsets ∧ t.mem = s.mem ∧ t.sch = s.sch)) ∧
  (∀ (s : State) (d i k sum : Nat) (x : Detector), d < 4 → i < 16 → detOf s d i = x → x.next = some k → x.st ≠ 0 →
    pageLive s (ggePage d) = true → strokesEnded s d (k * 256 / max 1 (regionT s d x.region)) x = true →
    unarmed s (ggePage d) → window { x with ticks := tickPut ⟨k, 0, 0⟩ x.ticks } k = (sum, false, true) →
    completes (.detectorEvaluation d i) s (fun t => (detOf t d i).st =
        (if x.st = 3 then
          (if sum < x.offLevel ∧ x.minOn ≤ x.evals + 1 ∧ (x.latch = false ∨ x.acked = true) then 2 else 3)
        else if x.onLevel ≤ sum then 3 else 2) ∧
      (detOf t d i).next = some (k + 1) ∧ counted s t (ggePage d) R.GGE_CNT 3 1 ∧
      ((detOf t d i).st = 3 → x.st ≠ 3 → stuck t (ggePage d) (32 + i)) ∧
      (∀ j, j ≠ i → detOf t d j = detOf s d j) ∧ t.gge.wsets = s.gge.wsets ∧ t.sch = s.sch)) ∧
  (∀ (s : State) (m d i : Nat) (v : Word), d < 4 → i < 16 → judge s m (ggePage d) (R.GGE_DET_STATUS + 8 * i) 8 (v ||| 4#64) = .ok →
    completes (.detAck m d i v) s (fun t =>
      detOf t d i = (if (detOf s d i).st = 3 then { detOf s d i with acked := true } else detOf s d i) ∧
      (∀ j, j ≠ i → detOf t d j = detOf s d j) ∧ keeps [.gge, .regs, .wst] s t ∧ sameRegs [] s t)) ∧
  (∀ (s : State) (m d : Nat) (v : Word) (x : Detector), d < 4 → judge s m (ggePage d) R.GGE_DET_CTRL 8 (v ||| 1#64) = .ok →
    bitOf v 1 = false → detOf s d (detAddr s d) = x →
    completes (.ggeDetRead m d v) s (fun t => regsFrom t (ggePage d) R.GGE_DET_DATA 4 = [x.w0, x.w1, x.w2, x.w3] ∧
      t.gge = s.gge ∧ t.mem = s.mem ∧ t.sch = s.sch ∧ t.tly = s.tly)) ∧
  (∀ (s : State) (m d : Nat) (v : Word), d < 4 → judge s m (ggePage d) R.GGE_DET_CTRL 8 (v ||| 2#64) = .ok →
    bitOf v 0 = false → detRefused (detOf s d (detAddr s d)) (regsFrom s (ggePage d) R.GGE_DET_DATA 4) = true →
    completes (.ggeDetWrite m d v) s (fun t => t.gge = s.gge ∧ stuck t (ggePage d) S.CFG_REFUSED ∧ t.wst = 5 ∧
      t.mem = s.mem ∧ t.sch = s.sch ∧ t.tly = s.tly)) ∧
  (∀ (s : State) (m d : Nat) (v : Word), d < 4 → judge s m (ggePage d) R.GGE_DET_CTRL 8 (v ||| 2#64) = .ok →
    bitOf v 0 = false → detRefused (detOf s d (detAddr s d)) (regsFrom s (ggePage d) R.GGE_DET_DATA 4) = false →
    completes (.ggeDetWrite m d v) s (fun t =>
      [(detOf t d (detAddr s d)).w0, (detOf t d (detAddr s d)).w1, (detOf t d (detAddr s d)).w2, (detOf t d (detAddr s d)).w3] =
        regsFrom s (ggePage d) R.GGE_DET_DATA 4 ∧
      (detOf t d (detAddr s d)).st = (if (detOf t d (detAddr s d)).enable then
        (if (detOf s d (detAddr s d)).st = 0 then 1 else (detOf s d (detAddr s d)).st) else 0) ∧
      (∀ j, j ≠ detAddr s d → detOf t d j = detOf s d j) ∧ t.gge.wsets = s.gge.wsets ∧ t.sch = s.sch)) ∧
  (∀ (s : State) (m d i : Nat) (v : Word), d < 4 → i < 16 → judge s m (ggePage d) (R.GGE_LINE + 8 * i) 8 v = .ok →
    ¬ ((fieldOf v 34 2 = 2 ∨ fieldOf v 34 2 = 3) ∧ 16 ≤ fieldOf v 36 5) →
    completes (.ggeLine m d i v) s (fun t =>
      fieldOf (reg t (ggePage d) (R.GGE_LINE + 8 * i)) 0 7 = fieldOf v 0 7 ∧
      fieldOf (reg t (ggePage d) (R.GGE_LINE + 8 * i)) 32 10 = fieldOf v 32 10 ∧
      bitOf (reg t (ggePage d) (R.GGE_LINE + 8 * i)) 43 = false ∧
      fieldOf (reg t (ggePage d) (R.GGE_LINE + 8 * i)) 48 16 = masterClaim s m % 2 ^ 16 ∧
      (∀ j, j < 16 → j ≠ i → fieldOf (reg t (ggePage d) (R.GGE_LINE + 8 * j)) 0 42 =
        fieldOf (reg s (ggePage d) (R.GGE_LINE + 8 * j)) 0 42) ∧ t.gge.dets = s.gge.dets ∧ t.mem = s.mem)) ∧
  (∀ (s : State) (m d i : Nat) (v : Word), d < 4 → i < 16 → judge s m (ggePage d) (R.GGE_LINE + 8 * i) 8 v = .ok →
    (fieldOf v 34 2 = 2 ∨ fieldOf v 34 2 = 3) → 16 ≤ fieldOf v 36 5 →
    completes (.ggeLine m d i v) s (fun t => stuck t (ggePage d) S.CFG_REFUSED ∧ t.wst = 5 ∧ t.gge = s.gge ∧
      fieldOf (reg t (ggePage d) (R.GGE_LINE + 8 * i)) 0 42 = fieldOf (reg s (ggePage d) (R.GGE_LINE + 8 * i)) 0 42))

/-- Weight sets and their swaps. A READ loads a set and its size. A WRITE that would make a set invalid while a valid plan
names it, or whose words are out of range, is refused; a set whose words are in range is stored with its ACTIVE bit as
it was, and where it is valid later writes into its active bank are refused. SWAP and the weight-swap mark note a swap
of each valid set they name, for the next batch boundary or for the one the mark resolves to; the mark completes DONE
or LATE. Where the spec can be read in more than one way it follows log entry 36. (R212, R213, R214, R290, R346,
09_gouge_beams.md) -/
def Obligations.WeightSets : Prop :=
  (∀ (s : State) (m d : Nat) (v : Word) (w : WSet), d < 4 → judge s m (ggePage d) R.GGE_WSET_CTRL 8 (v ||| 1#64) = .ok →
    bitOf v 1 = false → bitOf v 2 = false → wsetOf s d (wsetAddr s d) = w →
    completes (.ggeWsetRead m d v) s (fun t =>
      regsFrom t (ggePage d) R.GGE_WSET_DATA 4 = [w.w0, w.w1, w.w2, BitVec.ofNat 64 w.size] ∧
      keeps [.regs, .wst] s t ∧ sameRegs [ggePage d] s t)) ∧
  (∀ (s : State) (m d : Nat) (v : Word), d < 4 → judge s m (ggePage d) R.GGE_WSET_CTRL 8 (v ||| 2#64) = .ok →
    bitOf v 0 = false → bitOf v 2 = false →
    ((bitOf (reg s (ggePage d) R.GGE_WSET_DATA) 0 = false ∧ (wsetOf s d (wsetAddr s d)).valid = true ∧
        wsetNamed s d (wsetAddr s d) = true) ∨
      wsetOk d { w0 := withBit (reg s (ggePage d) R.GGE_WSET_DATA) 44 (wsetOf s d (wsetAddr s d)).activeB,
                 w1 := reg s (ggePage d) (R.GGE_WSET_DATA + 8), w2 := reg s (ggePage d) (R.GGE_WSET_DATA + 16) } = false) →
    completes (.ggeWsetWrite m d v) s (fun t => stuck t (ggePage d) S.CFG_REFUSED ∧ t.wst = 5 ∧
      keeps [.regs, .wst, .events, .out] s t ∧ sameRegs [ggePage d] s t)) ∧
  (∀ (s : State) (m d : Nat) (v : Word) (w : WSet), d < 4 → judge s m (ggePage d) R.GGE_WSET_CTRL 8 (v ||| 2#64) = .ok →
    bitOf v 0 = false → bitOf v 2 = false → bitOf (reg s (ggePage d) R.GGE_WSET_DATA) 0 = true →
    w = { w0 := withBit (reg s (ggePage d) R.GGE_WSET_DATA) 44 (wsetOf s d (wsetAddr s d)).activeB,
          w1 := reg s (ggePage d) (R.GGE_WSET_DATA + 8), w2 := reg s (ggePage d) (R.GGE_WSET_DATA + 16),
          swaps := (wsetOf s d (wsetAddr s d)).swaps } → wsetOk d w = true →
    (setFences (wsetFence d (wsetAddr s d)) [wsetGuard d (wsetAddr s d) w] (dropFences (wsetFence d (wsetAddr s d)) s)).1 = true →
    completes (.ggeWsetWrite m d v) s (fun t => wsetOf t d (wsetAddr s d) = w ∧
      (∀ i, i ≠ wsetAddr s d → wsetOf t d i = wsetOf s d i) ∧
      (∃ f ∈ t.hbm.fences, f.lo = w.activeBase ∧ f.len = w.size ∧ f.bit = S.GGE_WEIGHT_WRITE_REFUSED) ∧
      t.gge.dets = s.gge.dets ∧ keeps [.gge, .hbm, .regs, .wst] s t ∧ sameRegs [] s t)) ∧
  (∀ (s : State) (m d : Nat) (v : Word) (w : WSet), d < 4 → judge s m (ggePage d) R.GGE_WSET_CTRL 8 (v ||| 2#64) = .ok →
    bitOf v 0 = false → bitOf v 2 = false → bitOf (reg s (ggePage d) R.GGE_WSET_DATA) 0 = false →
    w = { w0 := withBit (reg s (ggePage d) R.GGE_WSET_DATA) 44 (wsetOf s d (wsetAddr s d)).activeB,
          w1 := reg s (ggePage d) (R.GGE_WSET_DATA + 8), w2 := reg s (ggePage d) (R.GGE_WSET_DATA + 16), swaps := [] } →
    wsetOk d w = true → ((wsetOf s d (wsetAddr s d)).valid = false ∨ wsetNamed s d (wsetAddr s d) = false) →
    completes (.ggeWsetWrite m d v) s (fun t => wsetOf t d (wsetAddr s d) = w ∧
      (∀ i, i ≠ wsetAddr s d → wsetOf t d i = wsetOf s d i) ∧ t.gge.dets = s.gge.dets ∧
      keeps [.gge, .hbm, .regs, .wst] s t ∧ sameRegs [] s t)) ∧
  (∀ (s : State) (m d : Nat) (v : Word) (w : WSet), d < 4 → judge s m (ggePage d) R.GGE_WSET_CTRL 8 (v ||| 4#64) = .ok →
    bitOf v 0 = false → bitOf v 1 = false → wsetOf s d (wsetAddr s d) = w →
    completes (.swap m d v) s (fun t => wsetOf t d (wsetAddr s d) = (if w.valid then { w with swaps := w.swaps ++ [⟨0⟩] } else w) ∧
      (∀ i, i ≠ wsetAddr s d → wsetOf t d i = wsetOf s d i) ∧ t.gge.dets = s.gge.dets ∧
      keeps [.gge, .regs, .wst] s t ∧ sameRegs [] s t)) ∧
  (∀ (s : State) (h d : Nat) (w : WSet) (o : MarkOcc), markOcc s h 6 = some o → bitsSet (o.arg64 % 16) 4 = [d] →
    wsetOf s d (o.arg8 % 16) = w → w.valid = true → s.mrk.done.length < 256 →
    completes (.weightSwap h) s (fun t =>
      wsetOf t d (o.arg8 % 16) = { w with swaps := w.swaps ++ [⟨(markBoundary s d w.region o.time).1⟩] } ∧
      (∀ i, i ≠ o.arg8 % 16 → wsetOf t d i = wsetOf s d i) ∧ t.gge.dets = s.gge.dets ∧
      ⟨h, max o.status (if (markBoundary s d w.region o.time).2 then 2 else 1), timeNs o.time⟩ ∈ t.mrk.done ∧
      keeps [.gge, .mrk, .regs, .events, .out] s t ∧ sameRegs [mrkPage] s t)) ∧
  (∀ (s : State) (h d : Nat) (w : WSet) (o : MarkOcc), markOcc s h 6 = some o → d < 4 → wsetOf s d (o.arg8 % 16) = w →
    completes (.weightSwap h) s (fun t =>
      wsetOf t d (o.arg8 % 16) = (if o.arg64.testBit d && w.valid
        then { w with swaps := w.swaps ++ [⟨(markBoundary s d w.region o.time).1⟩] } else w) ∧
      (∀ i, i ≠ o.arg8 % 16 → wsetOf t d i = wsetOf s d i) ∧ t.gge.dets = s.gge.dets ∧
      (o.arg64.testBit d = true → w.valid = true → (markBoundary s d w.region o.time).2 = true → stuck t mrkPage S.MRK_LATE) ∧
      keeps [.gge, .mrk, .regs, .events, .out] s t ∧ sameRegs [mrkPage] s t))

/-- Dumps and miss notices enter their slots. With the first outcome waiting one before which none of its slot comes: a
dump for a stale slot of a context with PRELOAD ZERO writes the header of its integration with COUNTED 1 and the dump
over zeroes; a dump for a slot of the same integration adds each component to the stored one and raises COUNTED; a
miss notice raises MISSED alone. Each writes the 12,352 bytes of that slot in its buffer and no other byte. With the
page disabled the outcome is counted in TLY_CNT[1] and discarded; an outcome that must wait goes to the reorder store.
With nothing waiting, nothing happens. Where the spec can be read in more than one way it follows log entries 37 and
38. (R37, R226, R227, R230, R231, R249, 10_tally.md) -/
def Obligations.DumpsAndNotices : Prop :=
  (∀ (s : State) (d held a : Nat) (x : TlyItem) (l : List TlyItem) (c : TlyCtx) (g : Integ), d < 4 → unarmed s (tlyPage d) →
    (tlyDie s d).inbox = x :: l → outcomesAhead x (x :: l) = [] → (tlyDie s d).reorder = [] → x.kind = .dump → mustWait s d x = false → ctxOf s d x.ctx = c →
    itemInteg s d x = some g → flag s (tlyPage d) F.PAGE_CTRL_ENABLE = true → g.skipped = false → c.preload = 0 →
    c.slotAddr (g.num % 2) x.slot x.chan = a → hbmRefuses s a 64 = false → hbmRefuses s a slotBytes = false → fenceHit s a slotBytes = none →
    badWords s a 64 = [] → touchesReserved a slotBytes = false → unarmed s (hbmPage (stackOf a)) →
    (∀ k, k < slotBytes → rowFenced s (a + k) = false) →
    (hdrOf (memRead s a 64)).int ≠ g.num → x.values.length = 1024 →
    (∀ p ∈ x.values, p.1.natAbs < 2 ^ 46 ∧ p.2.natAbs < 2 ^ 46) →
    completes (.dump d held) s (fun t => t.mem = (memWrite a (({ freshHdr g c.length (slotWays s c x.slotId) (slotProducer s c x.slotId) with counted := 1 }).bytes ++
        codeBytes (addDump c.float (List.replicate 2048 (code48OfInt c.float 0)) x.values)) s).mem ∧
      (tlyDie t d).inbox = l ∧ counted s t (tlyPage d) R.TLY_CNT 0 1 ∧ keeps [.tly, .mem, .hbm, .regs] s t)) ∧
  (∀ (s : State) (d held a : Nat) (x : TlyItem) (l : List TlyItem) (c : TlyCtx) (g : Integ) (new : List Code48), d < 4 → unarmed s (tlyPage d) →
    (tlyDie s d).inbox = x :: l → outcomesAhead x (x :: l) = [] → (tlyDie s d).reorder = [] → x.kind = .dump → mustWait s d x = false → ctxOf s d x.ctx = c →
    itemInteg s d x = some g → flag s (tlyPage d) F.PAGE_CTRL_ENABLE = true → g.skipped = false →
    c.slotAddr (g.num % 2) x.slot x.chan = a → hbmRefuses s a slotBytes = false → fenceHit s a slotBytes = none →
    badWords s a slotBytes = [] → touchesReserved a slotBytes = false → unarmed s (hbmPage (stackOf a)) → (hdrOf (memRead s a 64)).int = g.num →
    addDump c.float (codesOf 2048 (memRead s (a + 64) 12288)) x.values = new →
    new.all (fun v => !code48Void c.float v && !code48Inf c.float v) = true →
    completes (.dump d held) s (fun t => t.mem = (memWrite a (({ hdrOf (memRead s a 64) with
        counted := sat32 (hdrOf (memRead s a 64)).counted 1 }).bytes ++ codeBytes new) s).mem ∧
      (tlyDie t d).inbox = l ∧ counted s t (tlyPage d) R.TLY_CNT 0 1 ∧ keeps [.tly, .mem, .hbm, .regs] s t)) ∧
  (∀ (s : State) (d a : Nat) (x : TlyItem) (l : List TlyItem) (c : TlyCtx) (g : Integ), d < 4 →
    (tlyDie s d).inbox = x :: l → outcomesAhead x (x :: l) = [] → (tlyDie s d).reorder = [] → x.kind = .miss → x.awaits = false → mustWait s d x = false →
    ctxOf s d x.ctx = c → itemInteg s d x = some g → flag s (tlyPage d) F.PAGE_CTRL_ENABLE = true → g.skipped = false → c.preload = 0 →
    c.slotAddr (g.num % 2) x.slot x.chan = a → hbmRefuses s a 64 = false → hbmRefuses s a slotBytes = false → fenceHit s a slotBytes = none →
    badWords s a 64 = [] → touchesReserved a slotBytes = false → unarmed s (hbmPage (stackOf a)) →
    (∀ k, k < slotBytes → rowFenced s (a + k) = false) → (hdrOf (memRead s a 64)).int ≠ g.num → g.carry = [] →
    completes (.missNotice d) s (fun t => t.mem = (memWrite a (({ freshHdr g c.length (slotWays s c x.slotId) (slotProducer s c x.slotId) with missed := 1 }).bytes ++
        codeBytes (List.replicate 2048 (code48OfInt c.float 0))) s).mem ∧
      (tlyDie t d).inbox = l ∧ counted s t (tlyPage d) R.TLY_CNT 1 1 ∧ keeps [.tly, .mem, .hbm, .regs] s t)) ∧
  (∀ (s : State) (d held : Nat) (x : TlyItem) (l : List TlyItem), d < 4 →
    (tlyDie s d).inbox = x :: l → outcomesAhead x (x :: l) = [] → (tlyDie s d).reorder = [] → x.kind = .dump →
    flag s (tlyPage d) F.PAGE_CTRL_ENABLE = false →
    completes (.dump d held) s (fun t => (tlyDie t d).inbox = l ∧ counted s t (tlyPage d) R.TLY_CNT 1 1 ∧
      keeps [.tly, .regs] s t ∧ sameRegs [tlyPage d] s t)) ∧
  (∀ (s : State) (d held : Nat) (x : TlyItem) (l : List TlyItem), d < 4 → (tlyDie s d).inbox = x :: l → outcomesAhead x (x :: l) = [] → x.kind = .dump →
    mustWait s d x = true → (tlyDie s d).reorder.length < 256 →
    completes (.dump d held) s (fun t => (tlyDie t d).inbox = l ∧ (tlyDie t d).reorder = (tlyDie s d).reorder ++ [x] ∧
      counted s t (tlyPage d) R.TLY_CNT 2 1 ∧ keeps [.tly, .regs] s t ∧ sameRegs [tlyPage d] s t)) ∧
  (∀ (s : State) (d : Nat), (tlyDie s d).inbox = [] → completes (.dump d 0) s (fun t => t = s) ∧ completes (.missNotice d) s (fun t => t = s))

/-- Contexts, starts and ends of integrations. A READ loads the words of the context addressed. A WRITE shows its first
failing check in RESULT and then changes no context and no memory; one that passes stores its words, and every other
context stays. START and STOP note a request for the next batch boundary of a valid context and are refused for
another; an integration mark notes one for the boundary it resolves to, and completes DONE or LATE. Where the spec can
be read in more than one way it follows log entry 37. (R229, R235, R290, R475, 10_tally.md) -/
def Obligations.TallyContexts : Prop :=
  (∀ (s : State) (m d : Nat) (v : Word), d < 4 → judge s m (tlyPage d) R.TLY_CTX_CTRL 8 (v ||| 1#64) = .ok →
    bitOf v 1 = false → bitOf v 3 = false → bitOf v 4 = false →
    completes (.tlyCtxRead m d v) s (fun t => regsFrom t (tlyPage d) R.TLY_CTX_DATA 7 =
      (List.range 7).map (ctxOf s d (ctxAddr s d)).word ∧ keeps [.regs, .wst] s t ∧ sameRegs [tlyPage d] s t)) ∧
  (∀ (s : State) (m d r : Nat) (v : Word), d < 4 → judge s m (tlyPage d) R.TLY_CTX_CTRL 8 (v ||| 2#64) = .ok →
    bitOf v 0 = false → bitOf v 3 = false → bitOf v 4 = false →
    ctxResult s d (ctxAddr s d) (ctxOf s d (ctxAddr s d)) { words := regsFrom s (tlyPage d) R.TLY_CTX_DATA 7 } = r → r ≠ 0 →
    completes (.tlyCtxWrite m d v) s (fun t => fld t (tlyPage d) F.TLY_CTX_CTRL_RESULT = r ∧ stuck t (tlyPage d) S.CFG_REFUSED ∧
      keeps [.regs, .wst, .events, .out] s t ∧ sameRegs [tlyPage d] s t)) ∧
  (∀ (s : State) (m d : Nat) (v : Word), d < 4 → judge s m (tlyPage d) R.TLY_CTX_CTRL 8 (v ||| 2#64) = .ok →
    bitOf v 0 = false → bitOf v 3 = false → bitOf v 4 = false →
    ctxResult s d (ctxAddr s d) (ctxOf s d (ctxAddr s d)) { words := regsFrom s (tlyPage d) R.TLY_CTX_DATA 7 } = 0 →
    completes (.tlyCtxWrite m d v) s (fun t => fld t (tlyPage d) F.TLY_CTX_CTRL_RESULT = 0 ∧
      (ctxOf t d (ctxAddr s d)).words = regsFrom s (tlyPage d) R.TLY_CTX_DATA 7 ∧
      (∀ i, i ≠ ctxAddr s d → ctxOf t d i = ctxOf s d i) ∧ keeps [.tly, .mem, .hbm, .regs, .wst, .armed, .events, .out] s t)) ∧
  (∀ (s : State) (m d : Nat) (v : Word) (c : TlyCtx), d < 4 → judge s m (tlyPage d) R.TLY_CTX_CTRL 8 (v ||| 8#64) = .ok →
    bitOf v 0 = false → bitOf v 1 = false → bitOf v 4 = false → ctxOf s d (ctxAddr s d) = c → c.valid = true →
    completes (.tlyStart m d v) s (fun t => ctxOf t d (ctxAddr s d) = { c with reqs := c.reqs ++ [⟨true, 0⟩] } ∧
      (∀ i, i ≠ ctxAddr s d → ctxOf t d i = ctxOf s d i) ∧ keeps [.tly, .regs, .wst] s t ∧ sameRegs [tlyPage d] s t)) ∧
  (∀ (s : State) (m d : Nat) (v : Word) (c : TlyCtx), d < 4 → judge s m (tlyPage d) R.TLY_CTX_CTRL 8 (v ||| 16#64) = .ok →
    bitOf v 0 = false → bitOf v 1 = false → bitOf v 3 = false → ctxOf s d (ctxAddr s d) = c → c.valid = true →
    completes (.tlyStop m d v) s (fun t => ctxOf t d (ctxAddr s d) = { c with reqs := c.reqs ++ [⟨false, 0⟩] } ∧
      (∀ i, i ≠ ctxAddr s d → ctxOf t d i = ctxOf s d i) ∧ keeps [.tly, .regs, .wst] s t ∧ sameRegs [tlyPage d] s t)) ∧
  (∀ (s : State) (m d : Nat) (v : Word), d < 4 → judge s m (tlyPage d) R.TLY_CTX_CTRL 8 (v ||| 8#64) = .ok →
    bitOf v 0 = false → bitOf v 1 = false → bitOf v 4 = false → (ctxOf s d (ctxAddr s d)).valid = false →
    completes (.tlyStart m d v) s (fun t => stuck t (tlyPage d) S.CFG_REFUSED ∧ t.wst = 5 ∧ t.tly = s.tly ∧ sameRegs [tlyPage d] s t)) ∧
  (∀ (s : State) (h d : Nat) (c : TlyCtx) (o : MarkOcc), markOcc s h 1 = some o → bitsSet (o.arg64 % 16) 4 = [d] →
    ctxOf s d (o.arg8 % 16) = c → c.valid = true → s.mrk.done.length < 256 →
    completes (.intStart h) s (fun t =>
      ctxOf t d (o.arg8 % 16) = { c with reqs := c.reqs ++ [⟨true, (markBoundary s d c.region o.time).1⟩] } ∧
      (∀ i, i ≠ o.arg8 % 16 → ctxOf t d i = ctxOf s d i) ∧
      ⟨h, max o.status (if (markBoundary s d c.region o.time).2 then 2 else 1), timeNs o.time⟩ ∈ t.mrk.done ∧
      keeps [.tly, .mrk, .regs, .events, .out] s t ∧ sameRegs [mrkPage] s t)) ∧
  (∀ (s : State) (h d : Nat) (c : TlyCtx) (o : MarkOcc), markOcc s h 2 = some o → bitsSet (o.arg64 % 16) 4 = [d] →
    ctxOf s d (o.arg8 % 16) = c → c.valid = true → s.mrk.done.length < 256 →
    completes (.intEnd h) s (fun t =>
      ctxOf t d (o.arg8 % 16) = { c with reqs := c.reqs ++ [⟨false, (markBoundary s d c.region o.time).1⟩] } ∧
      (∀ i, i ≠ o.arg8 % 16 → ctxOf t d i = ctxOf s d i) ∧
      ⟨h, max o.status (if (markBoundary s d c.region o.time).2 then 2 else 1), timeNs o.time⟩ ∈ t.mrk.done ∧
      keeps [.tly, .mrk, .regs, .events, .out] s t ∧ sameRegs [mrkPage] s t)) ∧
  (∀ (s : State) (h k d : Nat) (b : Bool) (i : Instr) (c : TlyCtx) (o : MarkOcc), markOcc s h k = some o → d < 4 →
    (i = .intStart h ∧ k = 1 ∧ b = true ∨ i = .intEnd h ∧ k = 2 ∧ b = false) → ctxOf s d (o.arg8 % 16) = c →
    completes i s (fun t =>
      ctxOf t d (o.arg8 % 16) = (if o.arg64.testBit d && c.valid
        then { c with reqs := c.reqs ++ [⟨b, (markBoundary s d c.region o.time).1⟩] } else c) ∧
      (∀ j, j ≠ o.arg8 % 16 → ctxOf t d j = ctxOf s d j) ∧
      (o.arg64.testBit d = true → c.valid = true → (markBoundary s d c.region o.time).2 = true → stuck t mrkPage S.MRK_LATE) ∧
      keeps [.tly, .mrk, .regs, .events, .out] s t ∧ sameRegs [mrkPage] s t))

/-- Closing an integration and emitting its records. An integration of a region that is not SPLIT whose last batch is
staged and whose jobs all have outcomes closes: its end is fixed, it is combined, and its channels are due for
emission. One that cannot close, or in a SPLIT region still lacks partials, stays as it was. Partials given up set
PARTIAL_LOST on member 0; another member's slots leave for member 0 and its buffer stays taken. An emission whose ring
has no room sets RING_WAIT and leaves the record first in line; a committed record is counted, one that failed twice
counts in TLY_CNT[7] and sets EMIT_FAIL, and after either the next one with the next SERIAL is due. Where the spec can
be read in more than one way it follows log entries 31 and 38. (R237, R243, R245, R246, 10_tally.md) -/
def Obligations.IntegrationsCloseAndEmit : Prop :=
  (∀ (s : State) (d ctx e : Nat) (lost : Bool) (g : Integ) (l : List Integ), d < 4 → ctx < 16 → pageLive s (tlyPage d) = true → (ctxOf s d ctx).ints = g :: l →
    g.combined = false → closable s d (ctxOf s d ctx) g = true → g.ending (ctxOf s d ctx) = some e →
    gangMode s (ctxOf s d ctx).region ≠ 2 → (tlyDie s d).reorder = [] → (∀ x ∈ l, x.num ≠ g.num) →
    (∀ x ∈ s.zhk.early, ¬ (x.die = d ∧ x.ctx = ctx)) →
    completes (.integrationClose d ctx lost) s (fun t =>
      (∃ x, (ctxOf t d ctx).integ g.num = some x ∧ x.stop = some e ∧ x.closed = true ∧ x.combined = true ∧
        x.chans = g.channels ∧ x.first = g.first ∧ x.serial = g.serial) ∧
      (∀ i, i ≠ ctx → ctxOf t d i = ctxOf s d i) ∧ keeps [.tly, .mem, .hbm, .regs, .armed, .events, .out, .free] s t)) ∧
  (∀ (s : State) (d ctx : Nat) (lost : Bool) (g : Integ) (l : List Integ), (ctxOf s d ctx).ints = g :: l → g.combined = false → g.skipped = false →
    g.closed = false → closable s d (ctxOf s d ctx) g = false →
    completes (.integrationClose d ctx lost) s (fun t => t = s)) ∧
  (∀ (s : State) (d ctx : Nat) (g : Integ) (l : List Integ), (ctxOf s d ctx).ints = g :: l → g.combined = false → g.skipped = false →
    g.closed = true → gangMode s (ctxOf s d ctx).region = 2 → partialsIn s (ctxOf s d ctx) g = false →
    completes (.integrationClose d ctx false) s (fun t => t = s)) ∧
  (∀ (s : State) (d ctx : Nat) (g : Integ) (l : List Integ), d < 4 → ctx < 16 → pageLive s (tlyPage d) = true →
    (ctxOf s d ctx).ints = g :: l → (∀ x ∈ l, x.num ≠ g.num) → g.combined = false → g.skipped = false → g.closed = true →
    gangMode s (ctxOf s d ctx).region = 2 → gangMember s = 0 → partialsIn s (ctxOf s d ctx) g = false → s.zhk.early = [] →
    (tlyDie s d).reorder = [] →
    completes (.integrationClose d ctx true) s (fun t => stuck t 0x320 S.ZHK_PARTIAL_LOST ∧
      (∃ y, (ctxOf t d ctx).integ g.num = some y ∧ y.combined = true ∧ y.chans = g.channels) ∧ (∀ i, i ≠ ctx → ctxOf t d i = ctxOf s d i))) ∧
  (∀ (s : State) (d ctx : Nat) (lost : Bool) (g : Integ) (l : List Integ), d < 4 → ctx < 16 → pageLive s (tlyPage d) = true →
    (ctxOf s d ctx).ints = g :: l → (∀ x ∈ l, x.num ≠ g.num) → g.combined = false → g.skipped = false → g.closed = true →
    gangMode s (ctxOf s d ctx).region = 2 → gangMember s ≠ 0 → partialsIn s (ctxOf s d ctx) g = true → (tlyDie s d).reorder = [] →
    completes (.integrationClose d ctx lost) s (fun t =>
      ∃ y, (ctxOf t d ctx).integ g.num = some y ∧ y.combined = true ∧ y.freed = g.finals.isEmpty ∧ y.closed = true)) ∧
  (∀ (s : State) (d ctx cl done : Nat) (g : Integ) (l : List Integ) (cs : List Nat) (x : TlyRec) (rest : List TlyRec)
    (p : (Nat × List Byte) × State), d < 4 → ctx < 16 → pageLive s (tlyPage d) = true → (ctxOf s d ctx).ints = g :: l →
    g.combined = true → g.freed = false → g.chans = cl :: cs → g.recs = x :: rest → (∀ y ∈ l, y.num ≠ g.num) →
    ceilDiv (32 * ((ctxOf s d ctx).rowBlkHi + 1 - (ctxOf s d ctx).rowBlkLo)) 512 - ((x :: rest).filter TlyRec.isRows).length = done →
    recPayload d ctx (ctxOf s d ctx) g cl done x (updInteg d ctx g.num (fun g => { g with recs := x :: rest }) s) = p →
    (emitTwice d p.1.1 p.1.2 p.2).1 = .noRoom →
    completes (.recordEmit d ctx) s (fun t => stuck t (tlyPage d) S.TLY_RING_WAIT ∧ (ctxOf t d ctx).ints = g :: l)) ∧
  (∀ (s : State) (d ctx cl done : Nat) (g : Integ) (l : List Integ) (cs : List Nat) (x : TlyRec) (rest : List TlyRec)
    (p : (Nat × List Byte) × State), d < 4 → ctx < 16 → pageLive s (tlyPage d) = true → (ctxOf s d ctx).ints = g :: l →
    g.combined = true → g.freed = false → g.chans = cl :: cs → g.recs = x :: rest → (∀ y ∈ l, y.num ≠ g.num) →
    ceilDiv (32 * ((ctxOf s d ctx).rowBlkHi + 1 - (ctxOf s d ctx).rowBlkLo)) 512 - ((x :: rest).filter TlyRec.isRows).length = done →
    recPayload d ctx (ctxOf s d ctx) g cl done x (updInteg d ctx g.num (fun g => { g with recs := x :: rest }) s) = p →
    (emitTwice d p.1.1 p.1.2 p.2).1 = .done →
    completes (.recordEmit d ctx) s (fun t => counted (emitTwice d p.1.1 p.1.2 p.2).2 t (tlyPage d) R.TLY_CNT (if x.isRows then 6 else 5) 1 ∧
      (∃ y, (ctxOf t d ctx).integ g.num = some y ∧ y.recs = rest ∧ y.serial = g.serial + 1 ∧
        y.chans = (if rest.isEmpty then cs else cl :: cs)))) ∧
  (∀ (s : State) (d ctx cl done : Nat) (g : Integ) (l : List Integ) (cs : List Nat) (x : TlyRec) (rest : List TlyRec)
    (p : (Nat × List Byte) × State), d < 4 → ctx < 16 → pageLive s (tlyPage d) = true → (ctxOf s d ctx).ints = g :: l →
    g.combined = true → g.freed = false → g.chans = cl :: cs → g.recs = x :: rest → (∀ y ∈ l, y.num ≠ g.num) →
    ceilDiv (32 * ((ctxOf s d ctx).rowBlkHi + 1 - (ctxOf s d ctx).rowBlkLo)) 512 - ((x :: rest).filter TlyRec.isRows).length = done →
    recPayload d ctx (ctxOf s d ctx) g cl done x (updInteg d ctx g.num (fun g => { g with recs := x :: rest }) s) = p →
    (emitTwice d p.1.1 p.1.2 p.2).1 = .error →
    completes (.recordEmit d ctx) s (fun t => stuck t (tlyPage d) S.TLY_EMIT_FAIL ∧ counted (emitTwice d p.1.1 p.1.2 p.2).2 t (tlyPage d) R.TLY_CNT 7 1 ∧
      (∃ y, (ctxOf t d ctx).integ g.num = some y ∧ y.recs = rest ∧ y.serial = g.serial + 1 ∧
        y.chans = (if rest.isEmpty then cs else cl :: cs)))) ∧
  (∀ (s : State) (d ctx : Nat) (lost : Bool), (pageLive s (tlyPage d) = false ∨ (ctxOf s d ctx).ints = []) →
    completes (.recordEmit d ctx) s (fun t => t = s) ∧ completes (.integrationClose d ctx lost) s (fun t => t = s))

/-- Zhok lanes and link frames. A link frame whose codewords, SEQ and CRC are good advances the expected SEQ, counts as
accepted and shows the peer's use; another one leaves the SEQ and is answered with NAK. A NAK has every kept frame
sent again, counted and flagged. ACK without progress starts a fast retrain of the lanes in use. A link that is down
takes no frame. A class held by XOFF with packets waiting is flagged. Full training starts at S0; no lock after a rate
switch returns the lane to the previous rate, and one below S2 leaves the link DOWN with STEP_FAIL. A lane's fourth
good TRAIN frame in LOCK takes it to IDENTIFY. Every frame of a link whose lanes stay locked is accepted or answered
by NAK, its table is judged, and one frame is sent. Where the spec can be read in more than one way it follows log
entries 29 and 39. (R101, R102, R254, R255, R257, R258, 11_gangs.md) -/
def Obligations.ZhokLinkFrames : Prop :=
  (∀ (s s1 : State) (z rx : Nat) (words : List LaneWord) (data : List Byte), z < 4 → linkUp s z = true →
    (zhkWords z ((frameLanes s z).zip words) (advanceTo rx s)).1 = true → (zhkWords z ((frameLanes s z).zip words) (advanceTo rx s)).2.1 = [] →
    s1 = (zhkWords z ((frameLanes s z).zip words) (advanceTo rx s)).2.2 → skewedLanes s1 z = [] →
    frameGood s1 z true words data = true → byteAt data 4 = 0 → (zhkLink s z).kept = [] → (zhkLink s z).step = none →
    completes (.linkFrame z words data rx none) s (fun t =>
      (zhkLink t z).rxSeq = ((zhkLink s z).rxSeq + 1) % 65536 ∧ counted s1 t (zhkPage z) R.ZHK_CNT 1 1 ∧
      fld t (zhkPage z) F.ZHK_STATUS_RX_USE = byteAt data 5 ∧ (zhkLink t z).txSeq = ((zhkLink s z).txSeq + 1) % 65536 ∧
      counted s1 t (zhkPage z) R.ZHK_CNT 0 1 ∧ keeps [.zhk, .regs, .out] s1 t ∧ sameRegs [zhkPage z] s1 t)) ∧
  (∀ (s s1 : State) (z rx : Nat) (ok : Bool) (words : List LaneWord) (data : List Byte), z < 4 → linkUp s z = true →
    (zhkWords z ((frameLanes s z).zip words) (advanceTo rx s)).1 = ok → (zhkWords z ((frameLanes s z).zip words) (advanceTo rx s)).2.1 = [] →
    s1 = (zhkWords z ((frameLanes s z).zip words) (advanceTo rx s)).2.2 → skewedLanes s1 z = [] →
    frameGood s1 z ok words data = false → (zhkLink s z).kept.length < 512 → (zhkLink s z).step = none →
    completes (.linkFrame z words data rx none) s (fun t => (zhkLink t z).rxSeq = (zhkLink s z).rxSeq ∧
      counted s1 t (zhkPage z) R.ZHK_CNT 3 1 ∧ counted s1 t (zhkPage z) R.ZHK_CNT 1 0 ∧
      (zhkLink t z).txSeq = ((zhkLink s z).txSeq + 1) % 65536 ∧ keeps [.zhk, .regs, .out] s1 t ∧ sameRegs [zhkPage z] s1 t)) ∧
  (∀ (s s1 : State) (z rx : Nat) (f : ZhkFrame) (l : List ZhkFrame) (words : List LaneWord) (data : List Byte), z < 4 →
    linkUp s z = true → (zhkWords z ((frameLanes s z).zip words) (advanceTo rx s)).1 = true → (zhkWords z ((frameLanes s z).zip words) (advanceTo rx s)).2.1 = [] →
    s1 = (zhkWords z ((frameLanes s z).zip words) (advanceTo rx s)).2.2 → skewedLanes s1 z = [] →
    frameGood s1 z true words data = true → byteAt data 4 = 1 → (zhkLink s z).kept = f :: l → f.seq = bytesAt data 2 2 →
    (zhkLink s z).resends < 7 → (zhkLink s z).step = none →
    completes (.linkFrame z words data rx none) s (fun t => (zhkLink t z).resends = (zhkLink s z).resends + 1 ∧
      stuck t (zhkPage z) S.ZHK_REPLAY ∧ counted s1 t (zhkPage z) R.ZHK_CNT 2 (l.length + 1) ∧
      (∃ k, (zhkLink t z).kept = f :: l ++ k) ∧ keeps [.zhk, .regs, .out, .events] s1 t ∧ sameRegs [zhkPage z] s1 t)) ∧
  (∀ (s : State) (z rx : Nat) (words : List LaneWord) (data : List Byte) (table : Option GangTable), linkUp s z = false →
    completes (.linkFrame z words data rx table) s (fun t => t = trainWords z words data s ∧ (pageLive s (zhkPage z) = false → t = s))) ∧
  (∀ (s s1 : State) (z : Nat), z < 4 → linkUp s z = true → (zhkLink s z).kept ≠ [] →
    s1 = countK (zhkPage z) R.ZHK_CNT 5 1 (setSticky (zhkPage z) S.ZHK_RETRAIN (advanceMono ((zhkLink s z).ackAt + 100 * usUnits) s)) →
    (countRetry (zhkPage z) (linkRefresh z ((usedLanes s z).foldl (fun u n => setZhkLane n (trainFast (zhkLane u n)) u) s1))).2 = false →
    completes (.ackStall z) s (fun t => stuck t (zhkPage z) S.ZHK_RETRAIN ∧ counted s t (zhkPage z) R.ZHK_CNT 5 1 ∧
      (∀ n ∈ usedLanes s z, (zhkLane t n).st = .retrain) ∧ (zhkLink t z).up = false ∧
      (zhkLink t z).kept = (zhkLink s z).kept ∧ (zhkLink s z).ackAt + 100 * usUnits ≤ t.mono ∧
      keeps [.zhk, .regs, .out, .events, .retry, .mono, .dev, .tbs, .free] s t ∧ sameRegs [zhkPage z, tbsPage] s t)) ∧
  (∀ (s : State) (z cls : Nat), z < 4 → linkUp s z = true → (zhkLink s z).xoff.testBit cls = true →
    (zhkLink s z).waiting.any (fun k => decide (zhkClass k.kind = cls)) = true →
    completes (.linkOverload z cls) s (fun t => stuck t (zhkPage z) S.ZHK_LINK_OVERLOAD ∧
      keeps [.regs, .out, .events, .armed] s t ∧ sameRegs [zhkPage z] s t)) ∧
  (∀ (s : State) (n : Nat), n < 32 → inFullTraining (zhkLane s n) = true →
    completes (.trainingTimeout (.zhok n)) s (fun t => (zhkLane t n).st = .lock ∧ (zhkLane t n).rate = 0 ∧
      (zhkLane t n).rateCap = (zhkLane s n).rateCap ∧ keeps [.zhk, .regs, .out, .events, .tbs, .dev, .free] s t ∧
      sameRegs [zhkPage (n / 8), tbsPage] s t)) ∧
  (∀ (s : State) (n : Nat), n < 32 → inFastRetrain (zhkLane s n) = true →
    completes (.retrainFail (.zhok n)) s (fun t => (zhkLane t n).st = .lock ∧ (zhkLane t n).rate = 0 ∧
      keeps [.zhk, .regs, .out, .events, .tbs, .dev, .free] s t ∧ sameRegs [zhkPage (n / 8), tbsPage] s t)) ∧
  (∀ (s : State) (n r t0 : Nat), n < 32 → (zhkLane s n).st = .lock → (zhkLane s n).switched = some (r, t0) → r < 2 →
    completes (.stepFail (.zhok n)) s (fun t => (zhkLane t n).st = .down ∧ (zhkLane t n).rateCap = r ∧
      (zhkLink t (n / 8)).up = false ∧ stuck t (zhkPage (n / 8)) S.ZHK_STEP_FAIL)) ∧
  (∀ (s : State) (n r t0 : Nat), n < 32 → (zhkLane s n).st = .lock → (zhkLane s n).switched = some (r, t0) → 2 ≤ r →
    completes (.stepFail (.zhok n)) s (fun t => (zhkLane t n).st = .lock ∧ (zhkLane t n).rate = r ∧ (zhkLane t n).rateCap = r)) ∧
  (∀ (s s1 : State) (z rx : Nat) (ok : Bool) (words : List LaneWord) (data : List Byte) (tb : Option GangTable), linkUp s z = true →
    (zhkWords z ((frameLanes s z).zip words) (advanceTo rx s)).1 = ok → (zhkWords z ((frameLanes s z).zip words) (advanceTo rx s)).2.1 = [] →
    s1 = (zhkWords z ((frameLanes s z).zip words) (advanceTo rx s)).2.2 → skewedLanes s1 z = [] →
    completes (.linkFrame z words data rx tb) s (fun t => t = sendFrame z (tb.elim id takeTable
      (if frameGood s1 z ok words data then acceptFrame z data s1 else setZhkLink z { zhkLink s1 z with nak := true } s1)))) ∧
  (∀ (s : State) (n : Nat) (fr : RxFrame) (inv : Bool) (eq : EqInput), n < 32 → pageLive s (zhkPage (n / 8)) = true → fr.fec = 0 → rxIsTrain fr = true →
    (zhkLane s n).st = .lock → (zhkLane s n).good = 3 → (zhkLane s n).goodInv = inv → (zhkLane s n).polKnown = false →
    (zhkLane s n).stepping = none →
    completes (.trainFrame (.zhok n) fr inv eq) s (fun t => (zhkLane t n).st = .identify ∧ (zhkLane t n).polInv = inv ∧
      (zhkLane t n).rate = (zhkLane s n).rate ∧ keeps [.zhk, .regs, .out, .events, .tbs, .dev, .free] s t ∧ sameRegs [zhkPage (n / 8), tbsPage] s t)) ∧
  (∀ (s : State) (z cls : Nat), unarmed s (zhkPage z) → (linkUp s z = false ∨ (zhkLink s z).xoff.testBit cls = false) →
    completes (.linkOverload z cls) s (fun t => t = s) ∧ (linkUp s z = false → completes (.ackStall z) s (fun t => t = s))) ∧
  (∀ (s : State) (n : Nat) (fr : RxFrame) (inv : Bool) (eq : EqInput), n < 32 → (zhkLane s n).st = .run → peerRetrains fr = false →
    completes (.trainFrame (.zhok n) fr inv eq) s (fun t => t = s))

/-- Steps of a Zhok link between full and half width. The lower-numbered member of a link at full width whose uses are
below DOWN_THRESH asks for a step down 64 frames ahead, where STEP_EN is 1; the link goes on at full width until the
switch. A link at half width whose demand exceeds UP_THRESH trains its quiet group and asks for a step up. A quiet
group that does not lock leaves the link at half width with STEP_FAIL. Where the spec can be read in more than one way
it follows log entry 39. (R259, R260, 11_gangs.md) -/
def Obligations.ZhokRateSteps : Prop :=
  (∀ (s : State) (z : Nat), z < 4 → linkUp s z = true → (zhkLink s z).half = false → (zhkLink s z).step = none →
    (∃ m, wiredTo (gangSize s) (gangMember s) z = some m ∧ gangMember s < m) → flag s (zhkPage z) F.ZHK_CFG_STEP_EN = true →
    linkUse s z < fld s (zhkPage z) F.ZHK_CFG_DOWN_THRESH →
    completes (.stepDown z) s (fun t =>
      zhkLink t z = { zhkLink s z with step := some ⟨false, true, ((zhkLink s z).txSeq + 64) % 65536, false⟩ } ∧
      (zhkLink s z).lowSince + fld s (zhkPage z) F.ZHK_CFG_DOWN_HOLD_MS * msUnits ≤ t.mono ∧
      t.zhk.lanes = s.zhk.lanes ∧ keeps [.zhk, .regs, .mono, .dev] s t ∧ sameRegs [zhkPage z] s t)) ∧
  (∀ (s : State) (z : Nat), (flag s (zhkPage z) F.ZHK_CFG_STEP_EN = false ∨ (zhkLink s z).half = true ∨
      fld s (zhkPage z) F.ZHK_CFG_DOWN_THRESH ≤ linkUse s z) →
    completes (.stepDown z) s (fun t => t = s)) ∧
  (∀ (s : State) (z demand : Nat), z < 4 → linkUp s z = true → (zhkLink s z).half = true → (zhkLink s z).step = none →
    spareHeld s z = false → groupRetired s z 0 = false → groupRetired s z 1 = false → (fld s (zhkPage z) F.ZHK_CFG_UP_THRESH < demand ∨ (List.range 4).any (fun c => decide (256 * 1024 < classBytes (zhkLink s z) c)) = true) →
    completes (.stepUp z demand) s (fun t =>
      zhkLink t z = { zhkLink s z with step := some ⟨true, true, ((zhkLink s z).txSeq + 64) % 65536, false⟩ } ∧
      (∀ n ∈ groupLanes z 1, zhkLane t n = trainFast (zhkLane s n)) ∧ (∀ n, n ∉ groupLanes z 1 → zhkLane t n = zhkLane s n) ∧
      keeps [.zhk, .regs] s t ∧ sameRegs [zhkPage z] s t)) ∧
  (∀ (s : State) (z : Nat) (x : ZhkStep), z < 4 → (zhkLink s z).step = some x → x.up = true → quietReady s z = false →
    (countRetry (zhkPage z) s).2 = false →
    completes (.stepUpFail z) s (fun t => stuck t (zhkPage z) S.ZHK_STEP_FAIL ∧ (zhkLink t z).step = none ∧
      (zhkLink t z).half = (zhkLink s z).half ∧ (zhkLink t z).up = (zhkLink s z).up ∧
      (∀ n ∈ groupLanes z 1, (zhkLane t n).st = .down) ∧
      keeps [.zhk, .regs, .out, .events, .retry] s t ∧ sameRegs [zhkPage z] s t))

/-- Packets that arrive over the Zhok links. A packet for another member, of any KIND, is passed on by its route, or held
without one and dropped, counted and flagged after 100 µs; a device alone takes none. A PARTIAL of a member this one
waits for is added to the slot with the own value first; one that is not expected changes nothing. RECORD bytes in
order join their record, whose reservation is tried for with its header, and a whole record is committed; bytes out of
order are ignored, and a record that stops arriving gives up its reservation. A gang mark that arrives less than 100
µs before its time is refused with MARK_LATE; one in time is entered; a refusal that comes back leaves the mark
incomplete, an acceptance changes nothing. Where the spec can be read in more than one way it follows log entries 40,
43 and 44. (R252, R253, R264, R265, R267, 11_gangs.md) -/
def Obligations.ZhokPackets : Prop :=
  (∀ (s : State) (dest src region pos chan batch t0 code : Nat), gangSize s ≠ 1 → dest ≠ gangMember s → linksUp s = [] →
    completes (.corner dest src region pos chan batch t0 code) s (fun t => (∃ k, t.zhk.held = s.zhk.held ++ [(k, s.mono)] ∧
      k.kind = 1 ∧ k.dest = dest ∧ k.src = src ∧ k.flow = region + 16 * (chan % 4) ∧ k.payload = leBytes 4 code) ∧
      keeps [.zhk] s t)) ∧
  (∀ (s : State) (dest src region pos chan batch t0 code z : Nat) (det : Bool), gangSize s ≠ 1 → dest ≠ gangMember s →
    zhkRoute s 1 dest = some (z, det) →
    completes (.corner dest src region pos chan batch t0 code) s (fun t => (∃ k, (zhkLink t z).waiting = (zhkLink s z).waiting ++ [k] ∧
      k.kind = 1 ∧ k.dest = dest ∧ k.src = src ∧ k.detour = ((takeRx 1 dest src s).1 || det) ∧ k.payload = leBytes 4 code) ∧
      t.zhk.held = s.zhk.held ∧ keeps [.zhk] s t)) ∧
  (∀ (s : State) (dest src d a : Nat) (o : TurnOperand), d = o.chan % 4 → o.fpl = 4 * d → unarmed s (fplPage (4 * d)) →
    gangSize s ≠ 1 → dest = gangMember s → gangMode s o.region ≠ 0 → regionValid s d o.region = true →
    slotHolds s d o.region o.batch = true → (tbSlot s d o.region o.batch).staged = false → (tbSlot s d o.region o.batch).ready = true ∨
      absentPairs s d o.region o.batch ≠ [] ∧ ntGet (tbSlot s d o.region o.batch).arrived (o.pos * 65536 + o.chan / chanDiv s o.region) + 1 < regionT s d o.region →
    operandAddr s d o.region o.pos (o.chan / chanDiv s o.region) o.batch o.t = a →
    hbmRefuses s a (operandCells s o d).length = false → fenceHit s a (operandCells s o d).length = none →
    touchesReserved a (operandCells s o d).length = false → unarmed s (hbmPage (stackOf a)) →
    (∀ k, k < (operandCells s o d).length → rowFenced s (a + k) = false) →
    completes (.corner dest src o.region o.pos o.chan o.batch o.t o.code) s (fun t =>
      t.mem = (memWrite a (operandCells s o d) s).mem ∧ counted s t (fplPage (4 * d)) R.FPL_CNT 1 1 ∧
      keeps [.fpl, .mem, .hbm, .regs, .zhk] s t)) ∧
  (∀ (s : State) (dest src region pos chan batch t0 code : Nat), gangSize s ≠ 1 → dest = gangMember s →
    (gangMode s region = 0 ∨ regionValid s (chan % 4) region = false) →
    completes (.corner dest src region pos chan batch t0 code) s (fun t => t = (takeRx 1 dest src s).2)) ∧
  (∀ (s : State) (k : ZhkPacket) (t0 p : Nat), s.zhk.held.find? (fun h => (zhkRoute s h.1.kind h.1.dest).isNone) = some (k, t0) →
    k.note = .none → zhkPage (firstLink s k) = p →
    completes .routeDrop s (fun t => t.zhk.held = removeFirst (fun h => (zhkRoute s h.1.kind h.1.dest).isNone) s.zhk.held ∧
      stuck t p S.ZHK_ROUTE_DROP ∧ counted s t p R.ZHK_CNT 8 1 ∧
      t0 + 100 * usUnits ≤ t.mono ∧ keeps [.zhk, .regs, .out, .events, .mono, .dev] s t ∧ sameRegs [p] s t)) ∧
  (∀ (s : State) (k : ZhkPacket) (t0 p : Nat), s.zhk.held.find? (fun h => (zhkRoute s h.1.kind h.1.dest).isNone) = some (k, t0) →
    zhkPage (firstLink s k) = p →
    completes .routeDrop s (fun t => ∃ u, t = packetGone k u ∧
      u.zhk.held = removeFirst (fun h => (zhkRoute s h.1.kind h.1.dest).isNone) s.zhk.held ∧ stuck u p S.ZHK_ROUTE_DROP ∧
      counted s u p R.ZHK_CNT 8 1 ∧ t0 + 100 * usUnits ≤ u.mono ∧ keeps [.zhk, .regs, .out, .events, .mono, .dev] s u ∧ sameRegs [p] s u)) ∧
  (∀ s : State, s.zhk.held.find? (fun h => (zhkRoute s h.1.kind h.1.dest).isNone) = none → completes .routeDrop s (fun t => t = s)) ∧
  (∀ (s : State) (dest src z k ring off d ctx n slot chan : Nat) (det : Bool) (pl : List Byte) (c : Instr) (x : GangMark) (cl : List (Nat × Nat)),
    gangSize s ≠ 1 → dest ≠ gangMember s → zhkRoute s k dest = some (z, det) → pl ≠ [] → pl.length ≤ 4096 → s.zhk.held = [] →
    (ntGet s.zhk.flowLink dest = 0 ∨ ntGet s.zhk.flowLink dest = z + 1) →
    ((c, k, pl) = (.partialOp dest src d ctx n slot chan pl, 2, pl) ∨ (c, k, pl) = (.record dest src ring off pl, 3, pl) ∨
      ((c, k) = (.mark dest src x, 4) ∧ (∀ h b, x = .answer h b → pl = leBytes 4 h) ∧
        (∀ h b w, x = .enter h b w → pl = w.flatMap (fun y => leBytes 8 y.toNat))) ∨
      (c, k, pl) = (.claim dest src cl, 5, cl.flatMap (fun y => leBytes 2 y.1 ++ leBytes 2 y.2))) →
    completes c s (fun t => (∃ q, (zhkLink t z).waiting = (zhkLink s z).waiting ++ [q] ∧ q.kind = k ∧ q.dest = dest ∧ q.src = src ∧
      q.payload = pl) ∧ t.zhk.held = [] ∧ keeps [.zhk] s t)) ∧
  (∀ (s : State) (dest src k ring off d ctx n slot chan : Nat) (pl : List Byte) (c : Instr) (x : GangMark) (cl : List (Nat × Nat)), gangSize s = 1 →
    c ∈ [.corner dest src d slot chan n k off, .partialOp dest src d ctx n slot chan pl, .record dest src ring off pl, .mark dest src x, .claim dest src cl] →
    completes c s (fun t => t = s)) ∧
  (∀ (s : State) (dest src d ctx n slot chan : Nat) (l : List Byte), gangSize s ≠ 1 → dest = gangMember s → (ctxOf s d ctx).integ n = none →
    (src ∉ partialSenders (gangSize s) (gangMember s) ∨ (ctxOf s d ctx).valid = false ∨ n < (ctxOf s d ctx).nextNum) →
    completes (.partialOp dest src d ctx n slot chan l) s (fun t => t.zhk.early = s.zhk.early ∧ t.zhk.held = s.zhk.held ∧ keeps [.zhk] s t)) ∧
  (∀ (s : State) (src d ctx n slot chan : Nat) (l : List Byte), gangSize s ≠ 1 → src ∈ partialSenders (gangSize s) (gangMember s) →
    (ctxOf s d ctx).integ n = none → (ctxOf s d ctx).valid = true → (ctxOf s d ctx).nextNum ≤ n →
    completes (.partialOp (gangMember s) src d ctx n slot chan l) s (fun t =>
      t.zhk.early = s.zhk.early ++ [⟨d, ctx, n, src, slot, chan, l⟩] ∧ t.zhk.held = s.zhk.held ∧ keeps [.zhk] s t)) ∧
  (∀ (s u : State) (src d ctx n : Nat) (l : List Byte) (c : TlyCtx) (g : Integ) (q : SlotId) (r : SlotVal × State), d < 4 →
    gangSize s = 4 → gangMember s = 0 → src = 1 → ctxOf s d ctx = c → c.integ n = some g → g.closed = true → g.combined = false →
    g.skipped = false → g.finals.find? (fun x => decide (x.slot = q.slot ∧ x.chan = q.chan)) = some q →
    (1 + 8 * c.slotNum q) ∉ g.partials → (2 + 8 * c.slotNum q) ∉ g.partials →
    (s.zhk.early.filter (fun x => decide (x.die = d ∧ x.ctx = ctx))) = [] →
    u = (takeRx 2 0 src ((List.range ((l.length + 4095) / 4096 - 1)).foldl (fun s _ => (takeRx 2 0 src s).2) s)).2 → takeSlot d c g q u = r →
    completes (.partialOp 0 src d ctx n q.slot q.chan l) s (fun t =>
      t.mem = (putSlot c g q (combineSlots c.float (r.1, 0, 0) (⟨hdrOf (l.take 64), codesOf 2048 (l.drop 64)⟩, 0, 0)).1 r.2).mem ∧
      (∃ y, (ctxOf t d ctx).integ n = some y ∧ y.partials = (1 + 8 * c.slotNum q) :: g.partials))) ∧
  (∀ (s : State) (src ring off : Nat) (bytes : List Byte), gangSize s ≠ 1 → off ≠ 0 →
    s.zhk.records.find? (fun r => decide (r.src = src ∧ r.ring = ring)) = none →
    completes (.record (gangMember s) src ring off bytes) s (fun t => t = (takeRx 3 (gangMember s) src s).2 ∧ t.zhk.records = s.zhk.records)) ∧
  (∀ (s : State) (src ring : Nat) (bytes : List Byte), gangSize s ≠ 1 → s.zhk.records = [] → bytes.length < 64 →
    completes (.record (gangMember s) src ring 0 bytes) s (fun t => t.zhk.records = [⟨src, ring, none, bytes, s.mono⟩] ∧ keeps [.zhk] s t)) ∧
  (∀ (s u : State) (src ring off : Nat) (r : ZhkRecv) (bytes : List Byte), gangSize s ≠ 1 → s.zhk.records = [r] → r.src = src → r.ring = ring →
    r.data.length = off → off ≠ 0 → u = (takeRx 3 (gangMember s) src s).2 →
    completes (.record (gangMember s) src ring off bytes) s (fun t =>
      t = recvAll { u with zhk := { u.zhk with records := [{ r with data := r.data ++ bytes, seen := s.mono }] } } ∧
      (off + bytes.length < 64 → t.zhk.records = [{ r with data := r.data ++ bytes, seen := s.mono }]))) ∧
  (∀ (s u s1 : State) (src ring len a : Nat) (bytes : List Byte), gangSize s ≠ 1 → s.zhk.records = [] → bytesAt bytes 8 4 = len →
    bytes.length = 64 + len → u = (takeRx 3 (gangMember s) src s).2 → openSpan s ring 7 = none →
    ringReserve ring 7 (recordUnits len) u = (.granted a, s1) → s1.zhk = u.zhk →
    completes (.record (gangMember s) src ring 0 bytes) s (fun t => t = evalAbove ring (commitRecord
      (commitOf s1 ring a 7 (byteAt bytes 6) (byteAt bytes 7) ((bytes.drop 64).take len)) s1).2)) ∧
  (∀ (s u : State) (src ring a : Nat) (r : ZhkRecv), s.zhk.records = [r] → r.src = src → r.ring = ring → r.start = some a →
    (r.data.length < 64 ∨ r.data.length < 64 + bytesAt r.data 8 4) →
    u = { advanceMono (r.seen + msUnits) s with zhk := { (advanceMono (r.seen + msUnits) s).zhk with records := [] } } →
    completes (.recordTimeout src ring) s (fun t => t.zhk.records = [] ∧ ringOf t ring = ringOf (evalAbove ring (ringRewind ring a u)) ring)) ∧
  (∀ (s : State) (src ring : Nat) (r : ZhkRecv), s.zhk.records = [r] → r.src = src → r.ring = ring → r.data.length < 64 → r.start = none →
    completes (.recordTimeout src ring) s (fun t => t.zhk.records = [] ∧ r.seen + msUnits ≤ t.mono ∧ keeps [.zhk, .mono, .dev] s t)) ∧
  (∀ (s : State) (src h claim : Nat) (w : List Word), gangSize s ≠ 1 → unarmed s 0x320 → unarmed s mrkPage →
    wordsTime w < devTime s + 100 * usUnits →
    completes (.mark (gangMember s) src (.enter h claim w)) s (fun t => stuck t 0x320 S.ZHK_MARK_LATE ∧
      t.mrk = s.mrk ∧ keeps [.zhk, .regs, .out, .events] s t ∧ sameRegs [0x320] s t)) ∧
  (∀ (s : State) (src h claim : Nat) (w : List Word), gangSize s ≠ 1 → unarmed s 0x320 → unarmed s mrkPage →
    devTime s + 100 * usUnits ≤ wordsTime w → markFull s = false →
    completes (.mark (gangMember s) src (.enter h claim w)) s (fun t => t.mrk = (markEnter claim (wordsTime w) w s).2.mrk ∧
      keeps [.zhk, .mrk] s t)) ∧
  (∀ (s : State) (src h : Nat) (e : MarkEntry), gangSize s ≠ 1 → unarmed s 0x320 → sparseFind s.mrk.entries h = some e →
    completes (.mark (gangMember s) src (.answer h false)) s (fun t => stuck t 0x320 S.ZHK_MARK_INCOMPLETE ∧
      sparseFind t.mrk.entries h = some { e with refused := true } ∧
      (∀ k, k ≠ h → sparseFind t.mrk.entries k = sparseFind s.mrk.entries k) ∧
      keeps [.zhk, .mrk, .regs, .out, .events] s t ∧ sameRegs [0x320] s t)) ∧
  (∀ (s : State) (src h : Nat), gangSize s ≠ 1 → unarmed s 0x320 →
    completes (.mark (gangMember s) src (.answer h true)) s (fun t => t = (takeRx 4 (gangMember s) src s).2))

/-- Who drives a shared output. After the claims of another member are taken, or this member reports its own, an entry of
ZHK_SHARED whose OWNER bit is 1 is one whose highest claim is this member's alone, not released on silence. A member's
claims are held until it reports again, and count among the claims issued. An owner that hears nothing from a member
for 10 ms releases the output and sets SHARED_ISOLATED; a takeover waits for 12 ms without a report. Where the spec
can be read in more than one way it follows log entry 42. (R269, R270, R271, 11_gangs.md) -/
def Obligations.SharedOutputs : Prop :=
  (∀ (s : State) (src i : Nat) (claims : List (Nat × Nat)), 1 < gangSize s → unarmed s 0x320 → pageLive s 0x320 = true → i < 16 →
    completes (.claim (gangMember s) src claims) s (fun t =>
      (bitOf (sharedWord t i) 0 = true → bitOf (sharedWord t i) 12 = true →
        bestClaim t (fieldOf (sharedWord t i) 8 4) (latched t (sharedPage (sharedWord t i))) =
          (latched t (sharedPage (sharedWord t i)), gangMember t) ∧
        claimTied t (fieldOf (sharedWord t i) 8 4) (latched t (sharedPage (sharedWord t i)))
          (latched t (sharedPage (sharedWord t i))) = false) ∧
      (∀ c ∈ claims, c.2 ≤ 65535 → c.2 ≤ fld t 0x3D1 F.REF_STATUS_MAX_ISSUED))) ∧
  (∀ (s : State) (i : Nat), 1 < gangSize s → unarmed s 0x320 → pageLive s 0x320 = true → i < 16 →
    completes .claimReport s (fun t => t.zhk.reports = s.zhk.reports ∧
      (bitOf (sharedWord t i) 0 = true → bitOf (sharedWord t i) 12 = true →
        bestClaim t (fieldOf (sharedWord t i) 8 4) (latched t (sharedPage (sharedWord t i))) =
          (latched t (sharedPage (sharedWord t i)), gangMember t) ∧
        claimTied t (fieldOf (sharedWord t i) 8 4) (latched t (sharedPage (sharedWord t i)))
          (latched t (sharedPage (sharedWord t i))) = false))) ∧
  (∀ (s : State) (i m : Nat) (r : ZhkReport), i < 16 → unarmed s 0x320 → bitOf (sharedWord s i) 0 = true → bitOf (sharedWord s i) 12 = true →
    (reportsOf s (fieldOf (sharedWord s i) 8 4)).find? (fun x => decide (x.member = m)) = some r →
    completes (.sharedIsolated i m) s (fun t => stuck t 0x320 S.ZHK_SHARED_ISOLATED ∧ bitOf (sharedWord t i) 12 = false ∧
      (alGet ({} : ZhkStand) t.zhk.stands i).isolated = true ∧ r.time + 10 * msUnits ≤ t.mono)) ∧
  (∀ (s : State) (i t0 : Nat), i < 16 → 1 < gangSize s → unarmed s 0x320 → pageLive s 0x320 = true →
    (alGet ({} : ZhkStand) s.zhk.stands i) = { since := some t0, isolated := false } → bitOf (sharedWord s i) 0 = true →
    bestClaim s (fieldOf (sharedWord s i) 8 4) (latched s (sharedPage (sharedWord s i))) =
      (latched s (sharedPage (sharedWord s i)), gangMember s) →
    claimTied s (fieldOf (sharedWord s i) 8 4) (latched s (sharedPage (sharedWord s i))) (latched s (sharedPage (sharedWord s i))) = false →
    completes (.sharedTakeover i) s (fun t => bitOf (sharedWord t i) 12 = true ∧ t0 + 12 * msUnits ≤ t.mono)) ∧
  (∀ (s : State) (i : Nat), (alGet ({} : ZhkStand) s.zhk.stands i).since = none → completes (.sharedTakeover i) s (fun t => t = s))

/-- Device time, its sources, and the stamps of the trigger inputs. A read of TBS_TIME_S gives the seconds, and the same
master's next read of TBS_TIME_SUB gives the rest of the same instant. An accepted APPLY sets device time, makes it
valid and flags TIME_STEP; one with SOURCE not FREE or too many nanoseconds moves nothing. A Sync of the master
followed, one-step or with its Follow_Up, is held as offset and delay; delay responses and peer delay responses give
the mean path delay, a second responder makes the clock FAULTY, and the best master announced is followed; the loss of
Announces ends the qualification, and where the active source is lost with no other, device time holds and stays
valid. The fourth PPS edge in time qualifies its input, a late one disqualifies it. REVERT returns to SOURCE without a
step where steps are not permitted, RATE_ADJ within SLEW_PPM. An edge of a trigger input is stamped to 125 ps, or not
where its pulse is short; reading the queue takes the oldest stamp out. Where the spec can be read in more than one
way it follows log entries 45, 46 and 47. (R272, R274, R278, R279, R280, R281, R284, 12_timebase.md) -/
def Obligations.DeviceTime : Prop :=
  (∀ (s : State) (m : Nat), pageGated s tbsPage = false →
    completes (.tbsTimeS m) s (fun t => t.rd = BitVec.ofNat 64 (devTime s / 65536 / 1000000000) ∧
      (readTimeSub m t).1 = BitVec.ofNat 64 (devTime s % 65536 + devTime s / 65536 % 1000000000 * 65536) ∧ keeps [.rd, .tbs] s t)) ∧
  (∀ (s : State) (m : Nat) (v : Word), judge s m tbsPage R.TBS_SET_SUB 8 (withBit v 48 true) = .ok →
    fieldOf v 16 32 ≤ 999999999 → fld s tbsPage F.TBS_CFG_SOURCE = 0 →
    completes (.apply m v) s (fun t =>
      devTime t = (reg s tbsPage R.TBS_SET_S).toNat * secondUnits + fieldOf v 16 32 * 65536 + fieldOf v 0 16 ∧
      timeValid t = true ∧ stuck t tbsPage S.TBS_TIME_STEP ∧ t.wst = 0 ∧
      keeps [.dev, .tbs, .regs, .out, .events, .wst] s t ∧ sameRegs [tbsPage] s t)) ∧
  (∀ (s : State) (m : Nat) (v : Word), judge s m tbsPage R.TBS_SET_SUB 8 (withBit v 48 true) = .ok →
    (999999999 < fieldOf v 16 32 ∨ fld s tbsPage F.TBS_CFG_SOURCE ≠ 0) →
    completes (.apply m v) s (fun t => stuck t tbsPage S.CFG_REFUSED ∧ t.wst = 5 ∧ keeps [.regs, .out, .events, .wst] s t ∧
      sameRegs [tbsPage] s t)) ∧
  (∀ (s : State) (k origin rx d : Nat) (h : PtpHead) (predicted : Int), k < 2 → pageLive s (ptpPage k) = true →
    (fld s (ptpPage k) F.PTP_STATUS_STATE = 2 ∨ fld s (ptpPage k) F.PTP_STATUS_STATE = 3) → ptpOwn s k h = true →
    unarmed s (ethPage (fld s (ptpPage k) F.PTP_CFG_PORT)) → (ptpClock s k).parent = some h.src → (ptpClock s k).delay = some d →
    fld s tbsPage F.TBS_CFG_SOURCE = 0 → fld s tbsPage F.TBS_STATUS_ACTIVE = 0 → flag s tbsPage F.TBS_CFG_AUTO = false →
    completes (.ptpMessage k ⟨.sync h (some origin), rx, predicted⟩) s (fun t =>
      reg t (ptpPage k) R.PTP_OFFSET = BitVec.ofInt 64
        ((origin : Int) + h.corr + d - devTime (advanceTo rx s) + toSigned 32 (fld s (ptpPage k) F.PTP_ASYM_ASYM)) ∧
      reg t (ptpPage k) R.PTP_PATH_DELAY = BitVec.ofNat 64 d ∧ fld t (ptpPage k) F.PTP_STATUS_STATE = 3 ∧ rx ≤ devTime t ∧
      keeps [.tbs, .regs, .out, .events, .mono, .dev, .eth] s t ∧
      sameRegs [tbsPage, ptpPage k, ethPage (fld s (ptpPage k) F.PTP_CFG_PORT), 0x3E0] s t)) ∧
  (∀ (s : State) (k rx : Nat) (msg : PtpMsg) (predicted : Int), (pageLive s (ptpPage k) = false ∨ fld s (ptpPage k) F.PTP_STATUS_STATE = 0 ∨
      4 ≤ fld s (ptpPage k) F.PTP_STATUS_STATE ∨ ptpOwn s k (ptpHead msg) = false) →
    completes (.ptpMessage k ⟨msg, rx, predicted⟩) s (fun t => t = s)) ∧
  (∀ (s : State) (k rx : Nat) (h : PtpHead) (predicted : Int), k < 2 → pageLive s (ptpPage k) = true → 1 ≤ fld s (ptpPage k) F.PTP_STATUS_STATE → fld s (ptpPage k) F.PTP_STATUS_STATE ≤ 3 →
    ptpOwn s k h = true → unarmed s (ptpPage k) → fld s tbsPage F.TBS_CFG_SOURCE = 0 → fld s tbsPage F.TBS_STATUS_ACTIVE = 0 → flag s tbsPage F.TBS_CFG_AUTO = false →
    ptpFromParent s k h = true →
    completes (.ptpMessage k ⟨.sync h none, rx, predicted⟩) s (fun t =>
      ptpClock t k = { ptpClock s k with pending := some (h.seq, devTime (advanceTo rx s), h.corr) } ∧ rx ≤ devTime t ∧
      keeps [.tbs, .regs, .mono, .dev] s t ∧ sameRegs [tbsPage] s t)) ∧
  (∀ (s : State) (k rx : Nat) (h : PtpHead) (predicted : Int) (origin : Nat), k < 2 → pageLive s (ptpPage k) = true → 1 ≤ fld s (ptpPage k) F.PTP_STATUS_STATE → fld s (ptpPage k) F.PTP_STATUS_STATE ≤ 3 →
    ptpOwn s k h = true → unarmed s (ptpPage k) → fld s tbsPage F.TBS_CFG_SOURCE = 0 → fld s tbsPage F.TBS_STATUS_ACTIVE = 0 → flag s tbsPage F.TBS_CFG_AUTO = false →
    ptpFromParent s k h = true → (ptpClock s k).delay = none →
    completes (.ptpMessage k ⟨.sync h (some origin), rx, predicted⟩) s (fun t =>
      (ptpClock t k).sync = some ((origin : Int) + h.corr, devTime (advanceTo rx s)) ∧ (ptpClock t k).pending = none ∧
      reg t (ptpPage k) R.PTP_OFFSET = reg s (ptpPage k) R.PTP_OFFSET ∧ rx ≤ devTime t)) ∧
  (∀ (s : State) (k rx : Nat) (h : PtpHead) (predicted : Int) (origin d stamp : Nat) (corr : Int), k < 2 → pageLive s (ptpPage k) = true → 1 ≤ fld s (ptpPage k) F.PTP_STATUS_STATE → fld s (ptpPage k) F.PTP_STATUS_STATE ≤ 3 →
    ptpOwn s k h = true → unarmed s (ptpPage k) → fld s tbsPage F.TBS_CFG_SOURCE = 0 → fld s tbsPage F.TBS_STATUS_ACTIVE = 0 → flag s tbsPage F.TBS_CFG_AUTO = false →
    2 ≤ fld s (ptpPage k) F.PTP_STATUS_STATE → ptpFromParent s k h = true → (ptpClock s k).delay = some d → (ptpClock s k).pending = some (h.seq, stamp, corr) →
    unarmed s (ethPage (fld s (ptpPage k) F.PTP_CFG_PORT)) →
    completes (.ptpMessage k ⟨.followUp h origin, rx, predicted⟩) s (fun t =>
      reg t (ptpPage k) R.PTP_OFFSET = BitVec.ofInt 64
        ((origin : Int) + corr + h.corr + d - stamp + toSigned 32 (fld s (ptpPage k) F.PTP_ASYM_ASYM)) ∧
      reg t (ptpPage k) R.PTP_PATH_DELAY = BitVec.ofNat 64 d ∧ fld t (ptpPage k) F.PTP_STATUS_STATE = 3 ∧ rx ≤ devTime t)) ∧
  (∀ (s : State) (k rx : Nat) (h : PtpHead) (predicted : Int) (r t2 t3 t4 : Nat) (t1 : Int), k < 2 → pageLive s (ptpPage k) = true → 1 ≤ fld s (ptpPage k) F.PTP_STATUS_STATE → fld s (ptpPage k) F.PTP_STATUS_STATE ≤ 3 →
    ptpOwn s k h = true → unarmed s (ptpPage k) → fld s tbsPage F.TBS_CFG_SOURCE = 0 → fld s tbsPage F.TBS_STATUS_ACTIVE = 0 → flag s tbsPage F.TBS_CFG_AUTO = false →
    flag s (ptpPage k) F.PTP_CFG_P2P = false → ptpFromParent s k h = true → h.seq = (ptpClock s k).seq → r = ptpIdentity s k →
    (ptpClock s k).sync = some (t1, t2) → (ptpClock s k).asked = some t3 →
    completes (.ptpMessage k ⟨.delayResp h t4 r, rx, predicted⟩) s (fun t =>
      (ptpClock t k).delay = some (((t2 : Int) - t1 + ((t4 : Int) - h.corr - t3)) / 2).toNat ∧
      reg t (ptpPage k) R.PTP_PATH_DELAY = BitVec.ofNat 64 (((t2 : Int) - t1 + ((t4 : Int) - h.corr - t3)) / 2).toNat ∧
      (ptpClock t k).asked = none ∧ keeps [.tbs, .regs, .mono, .dev] s t ∧ sameRegs [tbsPage, ptpPage k] s t)) ∧
  (∀ (s : State) (k rx : Nat) (h : PtpHead) (predicted : Int), k < 2 → pageLive s (ptpPage k) = true → 1 ≤ fld s (ptpPage k) F.PTP_STATUS_STATE → fld s (ptpPage k) F.PTP_STATUS_STATE ≤ 3 →
    ptpOwn s k h = true → unarmed s (ptpPage k) → fld s tbsPage F.TBS_CFG_SOURCE = 0 → fld s tbsPage F.TBS_STATUS_ACTIVE = 0 → flag s tbsPage F.TBS_CFG_AUTO = false →
    flag s (ptpPage k) F.PTP_CFG_P2P = true → unarmed s (ethPage (fld s (ptpPage k) F.PTP_CFG_PORT)) →
    (ethPort s (fld s (ptpPage k) F.PTP_CFG_PORT)).queue = [] →
    completes (.ptpMessage k ⟨.pdelayReq h, rx, predicted⟩) s (fun t =>
      t.eth = (ptpAnswer k h (advanceTo rx s)).eth ∧ ptpClock t k = ptpClock s k ∧ rx ≤ devTime t)) ∧
  (∀ (s : State) (k rx : Nat) (h : PtpHead) (predicted : Int) (r t1 t2 : Nat), k < 2 → pageLive s (ptpPage k) = true → 1 ≤ fld s (ptpPage k) F.PTP_STATUS_STATE → fld s (ptpPage k) F.PTP_STATUS_STATE ≤ 3 →
    ptpOwn s k h = true → unarmed s (ptpPage k) → fld s tbsPage F.TBS_CFG_SOURCE = 0 → fld s tbsPage F.TBS_STATUS_ACTIVE = 0 → flag s tbsPage F.TBS_CFG_AUTO = false →
    flag s (ptpPage k) F.PTP_CFG_P2P = true → h.seq = (ptpClock s k).seq → r = ptpIdentity s k → (ptpClock s k).asked = some t1 → (ptpClock s k).responder = none →
    completes (.ptpMessage k ⟨.pdelayResp h t2 r false, rx, predicted⟩) s (fun t =>
      (ptpClock t k).delay = some (((devTime (advanceTo rx s) : Int) - t1 - h.corr) / 2).toNat ∧
      reg t (ptpPage k) R.PTP_PATH_DELAY = BitVec.ofNat 64 (((devTime (advanceTo rx s) : Int) - t1 - h.corr) / 2).toNat ∧
      keeps [.tbs, .regs, .mono, .dev] s t ∧ sameRegs [tbsPage, ptpPage k] s t)) ∧
  (∀ (s : State) (k rx : Nat) (h : PtpHead) (predicted : Int) (r t1 t2 : Nat), k < 2 → pageLive s (ptpPage k) = true → 1 ≤ fld s (ptpPage k) F.PTP_STATUS_STATE → fld s (ptpPage k) F.PTP_STATUS_STATE ≤ 3 →
    ptpOwn s k h = true → unarmed s (ptpPage k) → fld s tbsPage F.TBS_CFG_SOURCE = 0 → fld s tbsPage F.TBS_STATUS_ACTIVE = 0 → flag s tbsPage F.TBS_CFG_AUTO = false →
    flag s (ptpPage k) F.PTP_CFG_P2P = true → h.seq = (ptpClock s k).seq → r = ptpIdentity s k → (ptpClock s k).asked = some t1 → (ptpClock s k).responder = none →
    completes (.ptpMessage k ⟨.pdelayResp h t2 r true, rx, predicted⟩) s (fun t =>
      ptpClock t k = { ptpClock s k with responder := some h.src, answer := some (h.src, h.seq, (t2 : Int) - h.corr, devTime (advanceTo rx s)) } ∧
      keeps [.tbs, .regs, .mono, .dev] s t ∧ sameRegs [tbsPage] s t)) ∧
  (∀ (s : State) (k rx : Nat) (h : PtpHead) (predicted : Int) (r t2 : Nat) (two : Bool), k < 2 → pageLive s (ptpPage k) = true → 1 ≤ fld s (ptpPage k) F.PTP_STATUS_STATE → fld s (ptpPage k) F.PTP_STATUS_STATE ≤ 3 →
    ptpOwn s k h = true → unarmed s (ptpPage k) → fld s tbsPage F.TBS_CFG_SOURCE = 0 → fld s tbsPage F.TBS_STATUS_ACTIVE = 0 → flag s tbsPage F.TBS_CFG_AUTO = false →
    flag s (ptpPage k) F.PTP_CFG_P2P = true → h.seq = (ptpClock s k).seq → r = ptpIdentity s k → (ptpClock s k).asked.isSome = true → (ptpClock s k).responder.isSome = true → (ptpClock s k).responder ≠ some h.src →
    completes (.ptpMessage k ⟨.pdelayResp h t2 r two, rx, predicted⟩) s (fun t =>
      fld t (ptpPage k) F.PTP_STATUS_STATE = 4 ∧ flag t (ptpPage k) F.PTP_STATUS_QUALIFIED = false ∧ ptpClock t k = {})) ∧
  (∀ (s : State) (k rx : Nat) (h : PtpHead) (predicted : Int) (r t1 t3 t4 : Nat) (t2 : Int), k < 2 → pageLive s (ptpPage k) = true → 1 ≤ fld s (ptpPage k) F.PTP_STATUS_STATE → fld s (ptpPage k) F.PTP_STATUS_STATE ≤ 3 →
    ptpOwn s k h = true → unarmed s (ptpPage k) → fld s tbsPage F.TBS_CFG_SOURCE = 0 → fld s tbsPage F.TBS_STATUS_ACTIVE = 0 → flag s tbsPage F.TBS_CFG_AUTO = false →
    flag s (ptpPage k) F.PTP_CFG_P2P = true → r = ptpIdentity s k → (ptpClock s k).asked = some t1 →
    (ptpClock s k).answer = some (h.src, h.seq, t2, t4) →
    completes (.ptpMessage k ⟨.pdelayFollowUp h t3 r, rx, predicted⟩) s (fun t =>
      (ptpClock t k).delay = some (((t4 : Int) - t1 - ((t3 : Int) + h.corr - t2)) / 2).toNat ∧
      reg t (ptpPage k) R.PTP_PATH_DELAY = BitVec.ofNat 64 (((t4 : Int) - t1 - ((t3 : Int) + h.corr - t2)) / 2).toNat ∧
      keeps [.tbs, .regs, .mono, .dev] s t ∧ sameRegs [tbsPage, ptpPage k] s t)) ∧
  (∀ (s : State) (k rx : Nat) (h : PtpHead) (predicted : Int) (q : List Nat) (gm steps : Nat) (b : PtpMaster), k < 2 → pageLive s (ptpPage k) = true → 1 ≤ fld s (ptpPage k) F.PTP_STATUS_STATE → fld s (ptpPage k) F.PTP_STATUS_STATE ≤ 3 →
    ptpOwn s k h = true → unarmed s (ptpPage k) → fld s tbsPage F.TBS_CFG_SOURCE = 0 → fld s tbsPage F.TBS_STATUS_ACTIVE = 0 → flag s tbsPage F.TBS_CFG_AUTO = false →
    steps < 255 → gm < 2 ^ 64 → b.gm < 2 ^ 64 → bestMaster (advanceTo rx s).mono ((ptpClock s k).masters.filter (fun x => decide (x.src ≠ h.src)) ++
      [⟨h.src, q ++ [gm, steps, h.src], gm,
        ((advanceTo rx s).mono :: (((ptpClock s k).masters.find? (fun m => decide (m.src = h.src))).map (·.times)).getD []).take 2, logSeconds h.log⟩]) = some b →
    completes (.ptpMessage k ⟨.announce h q gm steps, rx, predicted⟩) s (fun t =>
      (reg t (ptpPage k) R.PTP_GM_ID).toNat = b.gm ∧ 2 ≤ fld t (ptpPage k) F.PTP_STATUS_STATE ∧
      (fld s (ptpPage k) F.PTP_STATUS_STATE = 1 → (ptpClock t k).parent = some b.src))) ∧
  (∀ (s : State) (k rx : Nat) (h : PtpHead) (predicted : Int) (q : List Nat) (gm steps : Nat), k < 2 → pageLive s (ptpPage k) = true → 1 ≤ fld s (ptpPage k) F.PTP_STATUS_STATE → fld s (ptpPage k) F.PTP_STATUS_STATE ≤ 3 →
    ptpOwn s k h = true → unarmed s (ptpPage k) → fld s tbsPage F.TBS_CFG_SOURCE = 0 → fld s tbsPage F.TBS_STATUS_ACTIVE = 0 → flag s tbsPage F.TBS_CFG_AUTO = false →
    (255 ≤ steps ∨ (ptpClock s k).masters = []) →
    completes (.ptpMessage k ⟨.announce h q gm steps, rx, predicted⟩) s (fun t =>
      fld t (ptpPage k) F.PTP_STATUS_STATE = fld s (ptpPage k) F.PTP_STATUS_STATE ∧ (ptpClock t k).parent = (ptpClock s k).parent ∧
      (255 ≤ steps → ptpClock t k = ptpClock s k) ∧ keeps [.tbs, .regs, .mono, .dev] s t ∧ sameRegs [tbsPage] s t)) ∧
  (∀ (s : State) (k rx : Nat) (h : PtpHead) (predicted : Int) (msg : PtpMsg), k < 2 → pageLive s (ptpPage k) = true → 1 ≤ fld s (ptpPage k) F.PTP_STATUS_STATE → fld s (ptpPage k) F.PTP_STATUS_STATE ≤ 3 →
    ptpOwn s k h = true → unarmed s (ptpPage k) → fld s tbsPage F.TBS_CFG_SOURCE = 0 → fld s tbsPage F.TBS_STATUS_ACTIVE = 0 → flag s tbsPage F.TBS_CFG_AUTO = false →
    ptpFromParent s k h = false → ((∃ x, msg = .sync h x) ∨ (∃ x, msg = .followUp h x) ∨ (∃ x r, msg = .delayResp h x r)) →
    completes (.ptpMessage k ⟨msg, rx, predicted⟩) s (fun t =>
      ptpClock t k = ptpClock s k ∧ keeps [.tbs, .regs, .mono, .dev] s t ∧ sameRegs [tbsPage] s t)) ∧
  (∀ (s : State) (k : Nat), k < 2 → pageLive s (ptpPage k) = true → 2 ≤ fld s (ptpPage k) F.PTP_STATUS_STATE →
    fld s tbsPage F.TBS_CFG_SOURCE = 0 → fld s tbsPage F.TBS_STATUS_ACTIVE = 0 → flag s tbsPage F.TBS_CFG_AUTO = false →
    completes (.announceTimeout k) s (fun t => stuck t (ptpPage k) S.PTP_ANNOUNCE_TO ∧ fld t (ptpPage k) F.PTP_STATUS_STATE = 1 ∧
      flag t (ptpPage k) F.PTP_STATUS_QUALIFIED = false ∧ keeps [.tbs, .regs, .out, .events] s t ∧ sameRegs [tbsPage, ptpPage k] s t)) ∧
  (∀ (s : State) (k : Nat), k < 2 → pageLive s (ptpPage k) = true → 2 ≤ fld s (ptpPage k) F.PTP_STATUS_STATE →
    fld s tbsPage F.TBS_CFG_SOURCE = k + 1 → flag s tbsPage F.TBS_CFG_AUTO = false → timeValid s = true →
    flag s tbsPage F.TBS_STATUS_HOLD = false →
    completes (.announceTimeout k) s (fun t => flag t tbsPage F.TBS_STATUS_HOLD = true ∧ stuck t tbsPage S.TBS_SRC_LOST ∧
      timeValid t = true ∧ fld t tbsPage F.TBS_STATUS_RATE_ADJ = fld s tbsPage F.TBS_STATUS_RATE_ADJ ∧
      keeps [.tbs, .regs, .out, .events] s t)) ∧
  (∀ (s : State) (n t0 width : Nat) (x : PpsIn), n < 2 → ppsIn s n = x → ppsStamped x t0 width = true → 3 ≤ x.run →
    ppsInTime x (stampOf t0) = true →
    fld s tbsPage F.TBS_CFG_SOURCE = 0 → fld s tbsPage F.TBS_STATUS_ACTIVE = 0 → flag s tbsPage F.TBS_CFG_AUTO = false →
    completes (.ppsInEdge n ⟨t0, width⟩) s (fun t => (ppsIn t n).qual = true ∧ (ppsIn t n).last = some (stampOf t0) ∧ t0 ≤ devTime t ∧
      keeps [.tbs, .regs, .mono, .dev] s t ∧ sameRegs [tbsPage] s t)) ∧
  (∀ (s : State) (n : Nat), n < 2 → fld s tbsPage F.TBS_CFG_SOURCE = 0 → fld s tbsPage F.TBS_STATUS_ACTIVE = 0 →
    flag s tbsPage F.TBS_CFG_AUTO = false →
    completes (.ppsLoss n) s (fun t => (ppsIn t n).qual = false ∧ (ppsIn t n).run = 0 ∧
      ((ppsIn s n).last.map (fun l => l + secondUnits + secondUnits * 3 / 2)).getD 0 ≤ devTime t ∧
      keeps [.tbs, .regs, .mono, .dev] s t ∧ sameRegs [tbsPage] s t)) ∧
  (∀ (s : State) (c : Nat), flag s tbsPage F.TBS_CFG_AUTO = true → flag s tbsPage F.TBS_CFG_REVERT = true →
    fld s tbsPage F.TBS_CFG_SOURCE = c → sourceQualified s c = true → fld s tbsPage F.TBS_STATUS_ACTIVE ≠ c → timeValid s = true →
    flag s tbsPage F.TBS_CFG_STEP_EN = false →
    completes .revert s (fun t => fld t tbsPage F.TBS_STATUS_ACTIVE = c ∧ stuck t tbsPage S.TBS_SRC_SWITCH ∧
      t.devFine = (advanceMono (stayedAt (noteQualified s) c) s).devFine ∧ stayedAt (noteQualified s) c ≤ t.mono ∧
      (c ≠ 0 → (toSigned 32 (fld t tbsPage F.TBS_STATUS_RATE_ADJ)).natAbs ≤ fld s tbsPage F.TBS_CFG_SLEW_PPM * 2 ^ 40 / 1000000) ∧
      keeps [.regs, .out, .events, .free, .tbs, .mono, .dev] s t ∧ sameRegs [tbsPage] s t)) ∧
  (∀ (s : State) (line t0 width : Nat), line < 8 → unarmed s tbsPage → bitOf (reg s tbsPage R.TBS_TRIGIN_CFG) line = true →
    bitOf (reg s tbsPage R.TBS_TRIGIN_CFG) (8 + line) = false → 4 * 65536 ≤ width → ntGet s.tbs.stamped line = 0 →
    (alGet [] s.tbs.stamps line).length < 16 →
    completes (.trigInEdge line true t0 width) s (fun t =>
      alGet [] t.tbs.stamps line = alGet [] s.tbs.stamps line ++ [⟨t0 / 8192 * 8192, true, (advanceTo t0 s).mono⟩] ∧
      (∀ n, n ≠ line → alGet [] t.tbs.stamps n = alGet [] s.tbs.stamps n) ∧ keeps [.tbs, .mono, .dev] s t)) ∧
  (∀ (s : State) (line t0 width : Nat) (rising : Bool), (width < 4 * 65536 ∨ bitOf (reg s tbsPage R.TBS_TRIGIN_CFG) line = false ∨
      (rising = false ∧ bitOf (reg s tbsPage R.TBS_TRIGIN_CFG) (8 + line) = false)) →
    completes (.trigInEdge line rising t0 width) s (fun t => t.tbs.stamps = s.tbs.stamps ∧ keeps [.tbs, .mono, .dev] s t)) ∧
  (∀ (s : State) (line t0 width : Nat) (rising : Bool), line < 8 → unarmed s tbsPage → trigStamped (advanceTo t0 s) line rising t0 width = true →
    (alGet [] s.tbs.stamps line).length < 16 →
    completes (.trigInEdge line rising t0 width) s (fun t =>
      alGet [] t.tbs.stamps line = alGet [] s.tbs.stamps line ++ [⟨t0 / 8192 * 8192, rising, (advanceTo t0 s).mono⟩] ∧
      (∀ n, n ≠ line → alGet [] t.tbs.stamps n = alGet [] s.tbs.stamps n) ∧ keeps [.tbs, .mono, .dev] s t)) ∧
  (∀ (s : State) (line t0 width : Nat) (rising : Bool), line < 8 → unarmed s tbsPage → trigStamped (advanceTo t0 s) line rising t0 width = true →
    16 ≤ (alGet [] s.tbs.stamps line).length →
    completes (.trigInEdge line rising t0 width) s (fun t => t.tbs.stamps = s.tbs.stamps ∧ stuck t tbsPage S.TBS_TRIGIN_OVF ∧
      keeps [.tbs, .mono, .dev, .regs, .out, .events] s t ∧ sameRegs [tbsPage] s t)) ∧
  (∀ (s : State) (line t0 width : Nat) (rising : Bool), trigStamped (advanceTo t0 s) line rising t0 width = false →
    completes (.trigInEdge line rising t0 width) s (fun t => t.tbs.stamps = s.tbs.stamps ∧ keeps [.tbs, .mono, .dev] s t)) ∧
  (∀ (s : State) (n : Nat) (x : TrigStamp), pageGated s tbsPage = false → trigOldest s = some (n, x) → n < 8 →
    completes .tbsTriginPop s (fun t => bitOf t.rd 55 = true ∧ fieldOf t.rd 51 3 = n ∧ bitOf t.rd 54 = x.rising ∧
      alGet [] t.tbs.stamps n = (alGet [] s.tbs.stamps n).drop 1 ∧ keeps [.rd, .tbs] s t))

/-- Inserting, reading, deleting and dispatching marks. An accepted insertion enters the words under a free handle, with
the time given or widened from ST32, and returns the handle; a refused one changes no entry and shows its RESULT,
CFG_REFUSED and, where the table is full, TABLE_FULL. READ loads an entry's words, DELETE frees an entry unless an
occurrence is in flight; a free handle gives RESULT 5. A dispatch takes the earliest entry, the first inserted on a
tie, no earlier than LEAD_US before its time, and enters it again at its period while it repeats. Before device time
is valid nothing is dispatched. A read of MRK_DONE takes the oldest report out. Where the spec can be read in more
than one way it follows log entry 48. (R276, R280, R285, R289, R292, R293, R475, 12_timebase.md) -/
def Obligations.MarkTable : Prop :=
  (∀ (s : State) (m : Nat) (v : Word) (w : List Word), judge s m mrkPage R.MRK_CTRL 8 (v ||| 1) = .ok → bitOf v 1 = false → bitOf v 2 = false →
    unarmed s mrkPage → regsFrom s mrkPage R.MRK_DATA 4 = w → markResult s (markFull s) w = 0 → bitOf (w.getD 1 0) 49 = false →
    completes (.markInsert m v) s (fun t => fld t mrkPage F.MRK_CTRL_RESULT = 0 ∧ fld t mrkPage F.MRK_CTRL_HANDLE = freeHandle s ∧
      (∃ e, sparseFind t.mrk.entries (freeHandle s) = some e ∧ e.time = markTime s w ∧ e.rep = fieldOf (w.getD 1 0) 52 12 ∧
        e.w2 = w.getD 2 0 ∧ e.w3 = w.getD 3 0 ∧ e.claim = masterClaim s m ∧ e.flying = 0) ∧
      (∀ h, h ≠ freeHandle s → sparseFind t.mrk.entries h = sparseFind s.mrk.entries h) ∧ t.mrk.occs = s.mrk.occs ∧
      keeps [.mrk, .regs, .wst] s t ∧ sameRegs [mrkPage] s t)) ∧
  (∀ (s : State) (m r : Nat) (v : Word) (w : List Word), judge s m mrkPage R.MRK_CTRL 8 (v ||| 1) = .ok → bitOf v 1 = false → bitOf v 2 = false →
    unarmed s mrkPage → regsFrom s mrkPage R.MRK_DATA 4 = w → markResult s (markFull s) w = r → r ≠ 0 → r < 5 →
    completes (.markInsert m v) s (fun t => fld t mrkPage F.MRK_CTRL_RESULT = r ∧ stuck t mrkPage S.CFG_REFUSED ∧ t.mrk = s.mrk ∧
      (r = 1 → stuck t mrkPage S.MRK_TABLE_FULL) ∧ keeps [.regs, .out, .events, .wst] s t ∧ sameRegs [mrkPage] s t)) ∧
  (∀ (s : State) (m h : Nat) (v : Word) (e : MarkEntry), judge s m mrkPage R.MRK_CTRL 8 (v ||| 2) = .ok → bitOf v 0 = false → bitOf v 2 = false →
    fld (storePlain mrkPage R.MRK_CTRL (v ||| 2) s) mrkPage F.MRK_CTRL_HANDLE = h → sparseFind s.mrk.entries h = some e →
    completes (.markRead m v) s (fun t => regsFrom t mrkPage R.MRK_DATA 4 = markWords e ∧ fld t mrkPage F.MRK_CTRL_RESULT = 0 ∧
      keeps [.regs, .wst] s t ∧ sameRegs [mrkPage] s t)) ∧
  (∀ (s : State) (m h : Nat) (v : Word) (e : MarkEntry), judge s m mrkPage R.MRK_CTRL 8 (v ||| 4) = .ok → bitOf v 0 = false → bitOf v 1 = false →
    fld (storePlain mrkPage R.MRK_CTRL (v ||| 4) s) mrkPage F.MRK_CTRL_HANDLE = h → sparseFind s.mrk.entries h = some e → e.flying = 0 →
    completes (.markDelete m v) s (fun t => sparseFind t.mrk.entries h = none ∧
      (∀ k, k ≠ h → sparseFind t.mrk.entries k = sparseFind s.mrk.entries k) ∧ fld t mrkPage F.MRK_CTRL_RESULT = 0 ∧
      t.mrk.occs = s.mrk.occs ∧ keeps [.mrk, .regs, .wst] s t ∧ sameRegs [mrkPage] s t)) ∧
  (∀ (s : State) (m h : Nat) (v : Word), judge s m mrkPage R.MRK_CTRL 8 (v ||| 4) = .ok → bitOf v 0 = false → bitOf v 1 = false →
    fld (storePlain mrkPage R.MRK_CTRL (v ||| 4) s) mrkPage F.MRK_CTRL_HANDLE = h →
    (sparseFind s.mrk.entries h = none ∨ ∃ e, sparseFind s.mrk.entries h = some e ∧ e.flying ≠ 0) →
    completes (.markDelete m v) s (fun t => t.mrk = s.mrk ∧ stuck t mrkPage S.CFG_REFUSED ∧
      fld t mrkPage F.MRK_CTRL_RESULT = (if sparseFind s.mrk.entries h = none then 5 else 6) ∧
      keeps [.regs, .out, .events, .wst] s t ∧ sameRegs [mrkPage] s t)) ∧
  (∀ (s : State) (h : Nat) (e : MarkEntry), nextMark s = some (h, e) → timeValid s = true → pageLive s mrkPage = true →
    fieldOf e.w2 0 8 ≠ 0x0A → e.refused = false →
    completes .markDispatch s (fun t => t.mrk.occs = s.mrk.occs ++ [⟨h, e.time, e.skipLate, e.gang, e.w2, e.w3, e.claim, 0, 0, e.order, []⟩] ∧
      e.time - fld s mrkPage F.MRK_CFG_LEAD_US * usUnits ≤ devTime t ∧
      (∃ f, sparseFind t.mrk.entries h = some f ∧ f.flying = e.flying + 1 ∧ (e.rep = 0 → f.last = true) ∧
        (e.rep ≠ 0 → f.time = e.time + fieldOf e.w2 32 32 * 65536 ∧ f.rep = if e.rep = 4095 then 4095 else e.rep - 1)) ∧
      (∀ x ∈ s.mrk.entries, x.2.last = false → e.time < x.2.time ∨ (e.time = x.2.time ∧ e.order ≤ x.2.order)) ∧
      (∀ k, k ≠ h → sparseFind t.mrk.entries k = sparseFind s.mrk.entries k) ∧ keeps [.mrk, .mono, .dev] s t)) ∧
  (∀ (s : State), (timeValid s = false ∨ pageLive s mrkPage = false ∨ nextMark s = none) → completes .markDispatch s (fun t => t = s)) ∧
  (∀ (s : State) (r : MarkReport) (l : List MarkReport), pageGated s mrkPage = false → s.mrk.done = r :: l → r.handle < 4096 → r.status < 8 →
    completes .mrkDone s (fun t => t.mrk.done = l ∧ fieldOf t.rd 0 12 = r.handle ∧ fieldOf t.rd 12 3 = r.status ∧ bitOf t.rd 15 = true ∧
      keeps [.rd, .mrk] s t))

/-- Actions of marks at their ticks. The action of a mark that is first in table order acts at the first tick at or after
its time, or late with LATE, and its occurrence reports the status; with SKIP_LATE a late one is dropped, for every
action; one that is not first waits. TRIG_PULSE and SYNC_LOAD begin pulses that end after their width, TRIG_LEVEL sets
the level of its lines; a claim below the latch leaves the outputs as they are and reports REFUSED. CTRL_START and
CTRL_STOP set and clear RUN of the channel. EVENT sets a user bit; CHISEL_POST puts its tag into the mailbox, and is
dropped with POST_OVF where 16 wait. A handle with no such occurrence changes nothing. Where the spec can be read in
more than one way it follows log entry 48. (R286, R289, R290, R291, R292, R294, R295, R322, R385, 12_timebase.md) -/
def Obligations.MarkActions : Prop :=
  (∀ (s : State) (h : Nat) (o : MarkOcc), markOcc s h 0 = some o → tickFirst s o = true → s.mrk.done.length < 256 →
    (o.skipLate = false ∨ actsLate s o = false) →
    completes (.markNop h) s (fun t => t.mrk.done = s.mrk.done ++
        [⟨o.handle, max o.status (if actsLate s o then 2 else 1), timeNs o.time⟩] ∧
      (actsLate s o = true → stuck t mrkPage S.MRK_LATE) ∧ o.time ≤ devTime t ∧
      keeps [.mrk, .regs, .out, .events, .mono, .dev] s t ∧ sameRegs [mrkPage] s t)) ∧
  (∀ (s : State) (h k : Nat) (o : MarkOcc) (c : Instr), markOcc s h k = some o → tickFirst s o = true → s.mrk.done.length < 256 →
    o.skipLate = true → actsLate s o = true →
    (c = .markNop h ∧ k = 0 ∨ c = .trigPulse h ∧ k = 8 ∨ c = .trigLevel h ∧ k = 9 ∨ c = .syncLoad h ∧ k = 0x0A ∨
      c = .ctrlStart h ∧ k = 0x0B ∨ c = .ctrlStop h ∧ k = 0x0C ∨ c = .event h ∧ k = 0x0D ∨ c = .chiselPost h ∧ k = 0x0E) →
    completes c s (fun t => t.mrk.done = s.mrk.done ++ [⟨o.handle, max o.status 3, timeNs o.time⟩] ∧ stuck t mrkPage S.MRK_DROPPED ∧
      keeps [.mrk, .regs, .out, .events] s t ∧ sameRegs [mrkPage] s t)) ∧
  (∀ (s : State) (h k : Nat) (o : MarkOcc) (c : Instr), markOcc s h k = some o → tickFirst s o = false →
    (c = .markNop h ∧ k = 0 ∨ c = .trigPulse h ∧ k = 8 ∨ c = .trigLevel h ∧ k = 9 ∨ c = .syncLoad h ∧ k = 0x0A ∨
      c = .ctrlStart h ∧ k = 0x0B ∨ c = .ctrlStop h ∧ k = 0x0C ∨ c = .event h ∧ k = 0x0D ∨ c = .chiselPost h ∧ k = 0x0E) →
    completes c s (fun t => t = s)) ∧
  (∀ (s s1 : State) (h n : Nat) (o : MarkOcc), markOcc s h 8 = some o → tickFirst s o = true → actsLate s o = false →
    s1 = advanceTo o.time s → latched s tbsPage ≤ o.claim →
    (∀ k ∈ bitsSet o.arg16 16, ∀ x ∈ rivalClaims s1 (regAddr tbsPage (R.TBS_TRIG_CFG + 8 * k)) o, x < o.claim) → n < 16 →
    o.arg16.testBit n = true → fieldOf (reg s tbsPage (R.TBS_TRIG_CFG + 8 * n)) 0 3 = 1 → sharedOwner s 1 n = true →
    completes (.trigPulse h) s (fun t => t.pins.pulses = s.pins.pulses ++
        (bitsSet o.arg16 16).map (fun k => (k, s1.mono + ceilTo o.time 8192 + o.arg64 % 2 ^ 32 * 65536 - devTime s1)) ∧ ntGet t.pins.trig n = 1 ∧
      (o.claim ≤ latched s tbsPage → keeps [.mono, .dev, .pins, .regs, .out, .events, .mrk, .spr, .chs, .armed] s t))) ∧
  (∀ (s : State) (h k : Nat) (o : MarkOcc) (c : Instr), markOcc s h k = some o → tickFirst s o = true → s.mrk.done.length < 256 →
    actsLate s o = false → o.claim < latched s tbsPage →
    (c = .trigPulse h ∧ k = 8 ∨ c = .trigLevel h ∧ k = 9 ∨ c = .syncLoad h ∧ k = 0x0A) →
    completes c s (fun t => t.mrk.done = s.mrk.done ++ [⟨o.handle, max o.status 4, timeNs o.time⟩] ∧ stuck t mrkPage S.CLAIM_REFUSED ∧
      keeps [.mrk, .regs, .out, .events, .mono, .dev] s t ∧ sameRegs [mrkPage] s t)) ∧
  (∀ (s : State) (h n : Nat) (o : MarkOcc), markOcc s h 9 = some o → tickFirst s o = true → actsLate s o = false →
    latched s tbsPage ≤ o.claim → n < 16 →
    (∀ k ∈ bitsSet o.arg16 16, ∀ x ∈ rivalClaims (advanceTo o.time s) (regAddr tbsPage (R.TBS_TRIG_CFG + 8 * k)) o, x < o.claim) →
    completes (.trigLevel h) s (fun t => fld t tbsPage (F.TBS_TRIG_CFG_LEVEL.at n) =
        (if o.arg16.testBit n then o.arg8 % 2 else fld s tbsPage (F.TBS_TRIG_CFG_LEVEL.at n)) ∧ t.pins.pulses = s.pins.pulses ∧
      (o.claim ≤ latched s tbsPage → keeps [.mono, .dev, .pins, .regs, .out, .events, .mrk, .spr, .chs, .armed] s t))) ∧
  (∀ (s : State) (line : Nat) (x : Nat × Nat), firstPulse s line = some x →
    completes (.pulseEnd line) s (fun t => t.pins.pulses = removeFirst (fun y => decide (y = x)) s.pins.pulses ∧ x.1 = line ∧ x.2 ≤ t.mono ∧
      keeps [.mono, .dev, .pins, .regs, .out, .events, .spr, .chs, .armed] s t)) ∧
  (∀ (s s1 : State) (h : Nat) (o : MarkOcc), markOcc s h 0x0A = some o → tickFirst s o = true → actsLate s o = false →
    s1 = advanceTo o.time s → latched s tbsPage ≤ o.claim →
    (∀ k ∈ bitsSet o.lines 16, ∀ x ∈ rivalClaims s1 (regAddr tbsPage (R.TBS_TRIG_CFG + 8 * k)) o, x < o.claim) →
    completes (.syncLoad h) s (fun t => t.pins.pulses = s.pins.pulses ++
        (bitsSet o.lines 16).map (fun k => (k, s1.mono + ceilTo o.time 8192 + o.arg16 * 65536 - devTime s1)) ∧
      (o.claim ≤ latched s tbsPage → keeps [.mono, .dev, .pins, .regs, .out, .events, .mrk, .spr, .chs, .armed] s t))) ∧
  (∀ (s : State) (h c : Nat) (o : MarkOcc), markOcc s h 0x0B = some o → tickFirst s o = true → s.mrk.done.length < 256 →
    actsLate s o = false → c < 32 → o.arg64 = 2 ^ c → pageGated s (fldPage c) = false → latched s (fldPage c) ≤ o.claim →
    (∀ x ∈ rivalClaims (advanceTo o.time s) (regAddr (fldPage c) R.FLD_CH_CTRL) o, x < o.claim) →
    completes (.ctrlStart h) s (fun t => flag t (fldPage c) F.FLD_CH_CTRL_RUN = true ∧
      t.mrk.done = s.mrk.done ++ [⟨o.handle, max o.status 1, timeNs o.time⟩] ∧ (fldChan t c).nextAt = (advanceTo o.time s).mono ∧
      (o.claim ≤ latched s (fldPage c) → keeps [.mono, .dev, .pins, .regs, .out, .events, .mrk, .field] s t))) ∧
  (∀ (s : State) (h c : Nat) (o : MarkOcc), markOcc s h 0x0C = some o → tickFirst s o = true → s.mrk.done.length < 256 →
    actsLate s o = false → c < 32 → o.arg64 = 2 ^ c → pageGated s (fldPage c) = false → latched s (fldPage c) ≤ o.claim →
    (∀ x ∈ rivalClaims (advanceTo o.time s) (regAddr (fldPage c) R.FLD_CH_CTRL) o, x < o.claim) →
    completes (.ctrlStop h) s (fun t => flag t (fldPage c) F.FLD_CH_CTRL_RUN = false ∧
      t.mrk.done = s.mrk.done ++ [⟨o.handle, max o.status 1, timeNs o.time⟩] ∧
      (o.claim ≤ latched s (fldPage c) → keeps [.mono, .dev, .pins, .regs, .out, .events, .mrk] s t))) ∧
  (∀ (s : State) (h : Nat) (o : MarkOcc), markOcc s h 0x0D = some o → tickFirst s o = true → s.mrk.done.length < 256 → actsLate s o = false →
    completes (.event h) s (fun t => stuck t mrkPage (48 + o.arg8 % 16) ∧ t.mrk.done = s.mrk.done ++ [⟨o.handle, max o.status 1, timeNs o.time⟩] ∧
      keeps [.mono, .dev, .mrk, .regs, .out, .events] s t ∧ sameRegs [mrkPage] s t)) ∧
  (∀ (s : State) (h : Nat) (o : MarkOcc), markOcc s h 0x0E = some o → tickFirst s o = true → s.mrk.done.length < 256 → actsLate s o = false →
    pageGated s (chsPage (64 + o.arg8 % 4)) = false → unarmed s (chsPage (64 + o.arg8 % 4)) →
    (chsCore s (64 + o.arg8 % 4)).posts.length < 16 → (chsCore s (64 + o.arg8 % 4)).st ≠ .waiting →
    completes (.chiselPost h) s (fun t => (chsCore t (64 + o.arg8 % 4)).posts = (chsCore s (64 + o.arg8 % 4)).posts ++
        [⟨o.arg64 % 2 ^ 32, timeNs o.time + timeSeconds o.time % 2 ^ 18 * 2 ^ 30⟩] ∧
      t.mrk.done = s.mrk.done ++ [⟨o.handle, max o.status 1, timeNs o.time⟩] ∧ keeps [.mono, .dev, .mrk, .chs] s t)) ∧
  (∀ (s : State) (h k : Nat) (c : Instr), markOcc s h k = none →
    (c = .markNop h ∧ k = 0 ∨ c = .intStart h ∧ k = 1 ∨ c = .intEnd h ∧ k = 2 ∨ c = .coefSwap h ∧ k = 3 ∨ c = .gainSwap h ∧ k = 4 ∨
      c = .modelLoad h ∧ k = 5 ∨ c = .weightSwap h ∧ k = 6 ∨ c = .roughReset h ∧ k = 7 ∨ c = .trigPulse h ∧ k = 8 ∨ c = .trigLevel h ∧ k = 9 ∨
      c = .syncLoad h ∧ k = 0x0A ∨ c = .ctrlStart h ∧ k = 0x0B ∨ c = .ctrlStop h ∧ k = 0x0C ∨ c = .event h ∧ k = 0x0D ∨ c = .chiselPost h ∧ k = 0x0E) →
    completes c s (fun t => t = s)) ∧
  (∀ (s : State) (h c : Nat) (o : MarkOcc), markOcc s h 0x0B = some o → tickFirst s o = true → (o.skipLate = false ∨ actsLate s o = false) →
    c < 32 → o.arg64.testBit c = true → pageGated s (fldPage c) = false → latched s (fldPage c) ≤ o.claim →
    (∀ x ∈ rivalClaims (advanceTo o.time s) (regAddr (fldPage c) R.FLD_CH_CTRL) o, x < o.claim) →
    completes (.ctrlStart h) s (fun t => flag t (fldPage c) F.FLD_CH_CTRL_RUN = true ∧ (fldChan t c).nextAt = (advanceTo o.time s).mono ∧
      (actsLate s o = true → stuck t mrkPage S.MRK_LATE))) ∧
  (∀ (s : State) (h c : Nat) (o : MarkOcc), markOcc s h 0x0C = some o → tickFirst s o = true → (o.skipLate = false ∨ actsLate s o = false) →
    c < 32 → o.arg64.testBit c = true → pageGated s (fldPage c) = false → latched s (fldPage c) ≤ o.claim →
    (∀ x ∈ rivalClaims (advanceTo o.time s) (regAddr (fldPage c) R.FLD_CH_CTRL) o, x < o.claim) →
    completes (.ctrlStop h) s (fun t => flag t (fldPage c) F.FLD_CH_CTRL_RUN = false ∧ (actsLate s o = true → stuck t mrkPage S.MRK_LATE))) ∧
  (∀ (s : State) (h k c : Nat) (i : Instr) (o : MarkOcc), markOcc s h k = some o → tickFirst s o = true → s.mrk.done.length < 256 →
    actsLate s o = false → c < 32 → o.arg64 = 2 ^ c → pageGated s (fldPage c) = false → o.claim < latched s (fldPage c) →
    (i = .ctrlStart h ∧ k = 0x0B ∨ i = .ctrlStop h ∧ k = 0x0C) →
    completes i s (fun t => t.mrk.done = s.mrk.done ++ [⟨o.handle, max o.status 4, timeNs o.time⟩] ∧ stuck t mrkPage S.CLAIM_REFUSED ∧
      keeps [.mrk, .regs, .out, .events, .mono, .dev] s t ∧ sameRegs [mrkPage] s t)) ∧
  (∀ (s : State) (h n : Nat) (o : MarkOcc), markOcc s h 9 = some o → tickFirst s o = true → actsLate s o = true → o.skipLate = false →
    latched s tbsPage ≤ o.claim → n < 16 →
    completes (.trigLevel h) s (fun t => fld t tbsPage (F.TBS_TRIG_CFG_LEVEL.at n) =
        (if o.arg16.testBit n then o.arg8 % 2 else fld s tbsPage (F.TBS_TRIG_CFG_LEVEL.at n)) ∧ stuck t mrkPage S.MRK_LATE)) ∧
  (∀ (s : State) (h k w : Nat) (o : MarkOcc) (c : Instr) (l : List Nat), markOcc s h k = some o → tickFirst s o = true → actsLate s o = true →
    o.skipLate = false → latched s tbsPage ≤ o.claim →
    (c = .trigPulse h ∧ k = 8 ∧ w = o.arg64 % 2 ^ 32 ∧ l = bitsSet o.arg16 16 ∨ c = .syncLoad h ∧ k = 0x0A ∧ w = o.arg16 ∧ l = bitsSet o.lines 16) →
    completes c s (fun t => t.pins.pulses = s.pins.pulses ++ l.map (fun n => (n, s.mono + ceilTo (devTime s) 8192 + w * 65536 - devTime s)) ∧
      stuck t mrkPage S.MRK_LATE)) ∧
  (∀ (s : State) (h : Nat) (o : MarkOcc), markOcc s h 0x0D = some o → tickFirst s o = true → s.mrk.done.length < 256 → actsLate s o = true →
    o.skipLate = false →
    completes (.event h) s (fun t => stuck t mrkPage (48 + o.arg8 % 16) ∧ stuck t mrkPage S.MRK_LATE ∧
      t.mrk.done = s.mrk.done ++ [⟨o.handle, max o.status 2, timeNs o.time⟩])) ∧
  (∀ (s : State) (h : Nat) (o : MarkOcc), markOcc s h 0x0E = some o → tickFirst s o = true → s.mrk.done.length < 256 → actsLate s o = false →
    pageGated s (chsPage (64 + o.arg8 % 4)) = false → unarmed s (chsPage (64 + o.arg8 % 4)) →
    16 ≤ (chsCore s (64 + o.arg8 % 4)).posts.length →
    completes (.chiselPost h) s (fun t => (chsCore t (64 + o.arg8 % 4)).posts = (chsCore s (64 + o.arg8 % 4)).posts ∧
      stuck t (chsPage (64 + o.arg8 % 4)) S.CHS_POST_OVF ∧ stuck t mrkPage S.MRK_DROPPED ∧
      t.mrk.done = s.mrk.done ++ [⟨o.handle, max o.status 3, timeNs o.time⟩] ∧ keeps [.mono, .dev, .mrk, .regs, .events, .out, .chs, .armed] s t)) ∧
  (∀ (s : State) (h : Nat) (o : MarkOcc), markOcc s h 0x0E = some o → tickFirst s o = true → s.mrk.done.length < 256 → actsLate s o = true →
    o.skipLate = false → pageGated s (chsPage (64 + o.arg8 % 4)) = false → unarmed s (chsPage (64 + o.arg8 % 4)) →
    (chsCore s (64 + o.arg8 % 4)).posts.length < 16 → (chsCore s (64 + o.arg8 % 4)).st ≠ .waiting →
    completes (.chiselPost h) s (fun t => (chsCore t (64 + o.arg8 % 4)).posts = (chsCore s (64 + o.arg8 % 4)).posts ++
        [⟨o.arg64 % 2 ^ 32, timeNs o.time + timeSeconds o.time % 2 ^ 18 * 2 ^ 30⟩] ∧ stuck t mrkPage S.MRK_LATE ∧
      t.mrk.done = s.mrk.done ++ [⟨o.handle, max o.status 2, timeNs o.time⟩]))

/-- Reference monitors, selection, holdover and the clock outputs. A monitor update shows a reference's offset, its soft
mark, and disqualifies it on loss or above HARD_PPB. Loss of the selected reference takes up the one other candidate
with a phase step, or enters HOLDOVER where there is none; another reference's loss changes no selection, and device
time never moves. DPLL_LOCK leads from ACQUIRE to LOCKED, a phase error above 10 ns back. The history takes a sample
each second, usable only in LOCKED. The holdover timer flags the limit. Losing XO_IN stops every CLKOUT and forgets
the history. CLKOUT runs by its EN, whose FREQ_KHZ is refused while it runs. PPS_OUT rises at the next whole second.
Where the spec can be read in more than one way it follows log entry 49. (R297, R298, R300, R302, R303, R306, R307,
R308, R309, R310, 13_truing_clocks.md) -/
def Obligations.Truing : Prop :=
  (∀ (s : State) (r : Nat) (x : Int) (lost : Bool) (offs : List Int) (los : List Bool) (phases : List Int), r < 4 →
    pageGated s truPage = false → flag s truPage F.TRU_STATUS_XO_LOST = false → los.getD r true = lost →
    windowMean (noteOffset r (if lost then none else some (offs.getD r 0)) s) r = x → x.natAbs < 2 ^ 31 →
    completes (.monitorUpdate offs los phases) s (fun t => toSigned 32 (fld t truPage (F.TRU_REF_STATUS_OFFSET.at r)) = x ∧
      flag t truPage (F.TRU_REF_STATUS_SOFT.at r) = decide (fld s truPage (F.TRU_REF_CFG_SOFT_PPB.at r) * 1000 < x.natAbs) ∧
      flag t truPage (F.TRU_REF_STATUS_LOS.at r) = lost ∧
      (lost = true ∨ fld s truPage (F.TRU_REF_CFG_HARD_PPB.at r) * 1000 < x.natAbs → refQualified t r = false ∧
        (refQualified s r = true → stuck t truPage S.TRU_REF_DISQ)) ∧
      (lost = false → x.natAbs ≤ fld s truPage (F.TRU_REF_CFG_HARD_PPB.at r) * 1000 → refQualified s r = true → refQualified t r = true) ∧
      keeps [.tru, .regs, .out, .events] s t ∧ sameRegs [truPage] s t)) ∧
  (∀ (s : State) (offs : List Int) (los : List Bool) (phases : List Int), (pageGated s truPage = true ∨ flag s truPage F.TRU_STATUS_XO_LOST = true) →
    completes (.monitorUpdate offs los phases) s (fun t => t = s)) ∧
  (∀ (s : State) (e f ref : Nat) (phases : List Int), pageGated s truPage = false → flag s truPage F.PAGE_CTRL_ENABLE = true →
    flag s truPage F.TRU_STATUS_XO_LOST = false → selectedEntry s = some e → prioRef s e = ref → s.tru.ref = ref → ref < 12 →
    refLost s ref true = true → (candidates s).filter (fun k => decide (prioRef s k ≠ ref)) = [f] →
    completes (.los ref phases) s (fun t => selectedEntry t = some f ∧ fld t truPage F.TRU_STATUS_STATE = 1 ∧ refQualified t ref = false ∧
      reg t truPage R.TRU_STEP = BitVec.ofInt 64 (phaseStep (phases.getD (prioRef s f) 0) (refHz s (prioRef s f))) ∧
      stuck t truPage S.TRU_PHASE_STEP ∧ stuck t truPage S.TRU_REF_SWITCH ∧ t.tru.steps = s.tru.steps ++ [devTime s] ∧
      keeps [.tru, .regs, .out, .events] s t ∧ sameRegs [truPage] s t)) ∧
  (∀ (s : State) (e ref : Nat) (phases : List Int), pageGated s truPage = false → flag s truPage F.PAGE_CTRL_ENABLE = true →
    flag s truPage F.TRU_STATUS_XO_LOST = false → selectedEntry s = some e → prioRef s e = ref → s.tru.ref = ref → ref < 12 →
    refLost s ref true = true → (fld s truPage F.TRU_STATUS_STATE = 1 ∨ fld s truPage F.TRU_STATUS_STATE = 2) →
    (∀ k ∈ candidates s, prioRef s k = ref) →
    completes (.los ref phases) s (fun t => selectedEntry t = none ∧ fld t truPage F.TRU_STATUS_STATE = 3 ∧ stuck t truPage S.TRU_HOLDOVER ∧
      reg t truPage R.TRU_HO_STATUS = 0 ∧ flag t truPage F.TRU_STATUS_HO_VALID = decide (16 ≤ (historySpan s).length) ∧
      (16 ≤ (historySpan s).length → fieldOf (reg t truPage R.TRU_HO_FREQ) 0 32 = ofSigned 32 (roundDiv (historySpan s).sum (historySpan s).length)) ∧
      (¬ 16 ≤ (historySpan s).length → fieldOf (reg t truPage R.TRU_HO_FREQ) 0 32 = 0) ∧
      keeps [.tru, .regs, .out, .events] s t ∧ sameRegs [truPage] s t)) ∧
  (∀ (s : State) (ref : Nat) (phases : List Int), pageGated s truPage = false → ref < 12 → refLost s ref true = true →
    (selectedEntry s = none ∨ s.tru.ref ≠ ref) →
    completes (.los ref phases) s (fun t => reg t truPage 0x108 = reg s truPage 0x108 ∧ refQualified t ref = false ∧
      flag t truPage (F.TRU_REF_STATUS_LOS.at ref) = true ∧ keeps [.tru, .regs, .out, .events] s t ∧ sameRegs [truPage] s t)) ∧
  (∀ (s : State) (ref : Nat) (phases : List Int), (pageGated s truPage = true ∨ 12 ≤ ref ∨ refLost s ref true = false) →
    completes (.los ref phases) s (fun t => t = s)) ∧
  (∀ (s : State) (err big : Int), pageGated s truPage = false → err.natAbs ≤ 1000 → 10000 < big.natAbs → big.natAbs < 2 ^ 31 →
    (fld s truPage F.TRU_STATUS_STATE = 1 → completes (.dpllLock err) s (fun t => fld t truPage F.TRU_STATUS_STATE = 2 ∧
      toSigned 32 (fld t truPage F.TRU_STATUS_PHASE_ERR) = err ∧ s.tru.within.getD s.mono + lockTime s ≤ t.mono ∧
      keeps [.regs, .tru, .mono, .dev] s t ∧ sameRegs [truPage] s t)) ∧
    (fld s truPage F.TRU_STATUS_STATE = 2 → completes (.phaseErr big) s (fun t => fld t truPage F.TRU_STATUS_STATE = 1 ∧
      toSigned 32 (fld t truPage F.TRU_STATUS_PHASE_ERR) = big ∧ keeps [.regs, .tru] s t ∧ sameRegs [truPage] s t)) ∧
    completes (.phaseErr err) s (fun t => fld t truPage F.TRU_STATUS_STATE = fld s truPage F.TRU_STATUS_STATE ∧
      toSigned 32 (fld t truPage F.TRU_STATUS_PHASE_ERR) = err ∧ keeps [.regs, .tru] s t ∧ sameRegs [truPage] s t)) ∧
  (∀ (s : State) (freq : Int), pageGated s truPage = false → flag s truPage F.TRU_STATUS_XO_LOST = false →
    completes (.historySample freq) s (fun t => t.tru.history =
        ((if fld s truPage F.TRU_STATUS_STATE = 2 then some freq else none) :: s.tru.history).take 4200 ∧ keeps [.tru] s t)) ∧
  (∀ (s : State) (n : Nat), pageGated s truPage = false → fld s truPage F.TRU_STATUS_STATE = 3 → fld s truPage F.TRU_HO_STATUS_ELAPSED_S ≤ n →
    n < 2 ^ 32 → flag s truPage F.TRU_HO_STATUS_OVER = false →
    completes (.hoLimit n) s (fun t => fld t truPage F.TRU_HO_STATUS_ELAPSED_S = n ∧
      (flag t truPage F.TRU_HO_STATUS_OVER = true ↔ fld s truPage F.TRU_HO_CFG_LIMIT_NS * 172800000 <
        fld s truPage F.TRU_HO_CFG_INIT_PPT * n * 172800 + fld s truPage F.TRU_HO_CFG_AGING_PPT * n * n) ∧
      (flag t truPage F.TRU_HO_STATUS_OVER = true → stuck t truPage S.TRU_HO_LIMIT) ∧
      keeps [.regs, .out, .events] s t ∧ sameRegs [truPage] s t)) ∧
  (∀ (s : State), pageGated s truPage = false →
    completes .xoLost s (fun t => fld t truPage F.TRU_STATUS_STATE = 0 ∧ selectedEntry t = none ∧ flag t truPage F.TRU_STATUS_XO_LOST = true ∧
      stuck t truPage S.TRU_XO_LOST ∧ t.tru.history = [] ∧ (∀ n, n < 8 → ntGet t.pins.clk n = 0) ∧
      keeps [.tru, .pins, .regs, .out, .events, .spr, .chs, .armed] s t)) ∧
  (∀ (s : State) (phases : List Int), pageGated s truPage = false → flag s truPage F.TRU_STATUS_XO_LOST = true →
    fld s truPage F.TRU_STATUS_STATE = 0 → candidates s = [] →
    completes (.xoReturn phases) s (fun t => flag t truPage F.TRU_STATUS_XO_LOST = false ∧ fld t truPage F.TRU_STATUS_STATE = 0 ∧
      keeps [.pins, .regs, .out, .events, .spr, .chs, .armed] s t)) ∧
  (∀ (s : State) (phases : List Int), (pageGated s truPage = true ∨ flag s truPage F.TRU_STATUS_XO_LOST = false) →
    completes (.xoReturn phases) s (fun t => t = s)) ∧
  (∀ (s : State) (phases : List Int), pageGated s truPage = false → flag s truPage F.TRU_STATUS_XO_LOST = true →
    completes (.xoReturn phases) s (fun t => flag t truPage F.TRU_STATUS_XO_LOST = false ∧
      t = refreshPins (evalSelection phases (setFld truPage F.TRU_STATUS_XO_LOST 0 s)))) ∧
  (∀ (s : State) (m n : Nat) (v : Word), n < 8 → judge s m truPage (R.TRU_CLKOUT + 8 * n) 8 v = .ok →

    (flag s truPage (F.TRU_CLKOUT_EN.at n) = true → fieldOf v 8 20 = fld s truPage (F.TRU_CLKOUT_FREQ_KHZ.at n)) →
    completes (.truClkout m n v) s (fun t => flag t truPage (F.TRU_CLKOUT_EN.at n) = bitOf v 0 ∧
      fld t truPage (F.TRU_CLKOUT_FREQ_KHZ.at n) = fieldOf v 8 20 ∧
      ntGet t.pins.clk n = (if bitOf v 0 = true ∧ flag s truPage F.TRU_STATUS_XO_LOST = false ∧ sharedOwner s 2 n = true
        then fieldOf v 8 20 + 1 else 0) ∧ t.wst = 0)) ∧
  (∀ (s : State) (m n : Nat) (v : Word), n < 8 → judge s m truPage (R.TRU_CLKOUT + 8 * n) 8 v = .ok →
    flag s truPage (F.TRU_CLKOUT_EN.at n) = true → fieldOf v 8 20 ≠ fld s truPage (F.TRU_CLKOUT_FREQ_KHZ.at n) →
    completes (.truClkout m n v) s (fun t => t.wst = 5 ∧ stuck t truPage S.CFG_REFUSED ∧
      reg t truPage (R.TRU_CLKOUT + 8 * n) = reg s truPage (R.TRU_CLKOUT + 8 * n) ∧
      keeps [.regs, .out, .events, .wst] s t ∧ sameRegs [truPage] s t)) ∧
  (∀ (s : State) (a : Nat), pageGated s truPage = false → timeValid s = true → a = (devTime s / secondUnits + 1) * secondUnits →
    (flag s truPage F.TRU_PPS_OUT_EN = true → completes .ppsOut s (fun t =>
      t.out = (send .ppsOut 0 [a, a + fld s truPage F.TRU_PPS_OUT_WIDTH_US * usUnits] s).out ∧ a ≤ devTime t ∧ keeps [.out, .mono, .dev] s t)) ∧
    (flag s truPage F.TRU_PPS_OUT_EN = false → completes .ppsOut s (fun t => t = s)))

/-- Real instructions of a Chisel core. Each real instruction forms its exact result, which is stored as it is where it
fits the destination, clamped with S at 1 and wrapped with S at 0, and sets Z, N and V from it; moves and logical
operations leave V. CMP writes flags alone. Accumulator instructions write one accumulator and leave Z and N. LDI and
SETG write their register. The core goes on to the next instruction, the issue is counted, and nothing else changes. A
word that is no instruction faults the core with cause 1. Where the spec can be read in more than one way it follows
log entries 50 and 51. (R312, R314, R315, R316, R327, 14_chisel_cores.md) -/
def Obligations.ChiselRealOperations : Prop :=
  (∀ (s : State) (n op : Nat) (i : ChsInstr) (c : ChsCore) (cmd : Instr) (a b x : Int), issues s n op i → chsCore s n = c →
    (c.dReg i.da).toInt = a → (c.dReg i.db).toInt = b →
    (cmd, op, x) ∈ [(Instr.add n, 0x28, a + b), (.sub n, 0x29, a - b), (.neg n, 0x2A, -a), (.abs n, 0x2B, (a.natAbs : Int)),
      (.mul n, 0x2C, a * b), (.shl n, 0x30, a * 2 ^ i.sh), (.rnd n, 0x1C, roundShift (c.aReg i.aa).toInt i.sh)] →
    completes cmd s (fun t => ranAs n s t (wentOn n i c { c.setD i.dd (fitted 48 i.sat x) with
      z := decide (fitted 48 i.sat x = 0), n := (fitted 48 i.sat x).msb, v := misfit 48 x }) ∧
      counted s t (chsPage n) R.CHS_CNT 6 (if misfit 48 x then 1 else 0))) ∧
  (∀ (s : State) (n op : Nat) (i : ChsInstr) (c : ChsCore) (cmd : Instr) (a b x : BitVec 48), issues s n op i → chsCore s n = c →
    c.dReg i.da = a → c.dReg i.db = b →
    (cmd, op, x) ∈ [(Instr.mov n, 0x19, a), (.getg n, 0x1B, c.gReg i.da), (.andOp n, 0x2D, a &&& b), (.orOp n, 0x2E, a ||| b),
      (.xor n, 0x2F, a ^^^ b), (.shra n, 0x31, BitVec.ofInt 48 (a.toInt / 2 ^ i.sh)), (.shrl n, 0x32, BitVec.ofNat 48 (a.toNat / 2 ^ i.sh)),
      (.min n, 0x34, if a.toInt ≤ b.toInt then a else b), (.max n, 0x35, if a.toInt ≤ b.toInt then b else a)] →
    completes cmd s (fun t => ranAs n s t (wentOn n i c { c.setD i.dd x with z := decide (x = 0), n := x.msb }) ∧
      counted s t (chsPage n) R.CHS_CNT 6 0)) ∧
  (∀ (s : State) (n : Nat) (i : ChsInstr) (c : ChsCore) (x : Int), issues s n 0x33 i → chsCore s n = c →
    (c.dReg i.da).toInt - (c.dReg i.db).toInt = x →
    completes (.cmp n) s (fun t => ranAs n s t (wentOn n i c { c with z := decide (x = 0), n := decide (x < 0), v := misfit 48 x }) ∧
      counted s t (chsPage n) R.CHS_CNT 6 0)) ∧
  (∀ (s : State) (n op : Nat) (i : ChsInstr) (c : ChsCore) (cmd : Instr) (a b x : Int), issues s n op i → chsCore s n = c →
    (c.dReg i.da).toInt = a → (c.dReg i.db).toInt = b →
    (cmd, op, x) ∈ [(Instr.mac n, 0x39, (c.aReg i.aa).toInt + a * b), (.msu n, 0x3A, (c.aReg i.aa).toInt - a * b),
      (.adda n, 0x3B, (c.aReg i.aa).toInt + (c.aReg i.ab).toInt)] →
    completes cmd s (fun t => ranAs n s t (wentOn n i c { c.setA i.aa (fitted 104 i.sat x) with v := misfit 104 x }) ∧
      counted s t (chsPage n) R.CHS_CNT 6 (if misfit 104 x then 1 else 0))) ∧
  (∀ (s : State) (n op : Nat) (i : ChsInstr) (c : ChsCore) (cmd : Instr) (a b x : Int), issues s n op i → chsCore s n = c →
    (c.dReg i.da).toInt = a → (c.dReg i.db).toInt = b →
    (cmd, op, x) ∈ [(Instr.mpy n, 0x38, a * b), (.lda n, 0x1F, a), (.clra n, 0x1E, 0)] →
    completes cmd s (fun t => ranAs n s t (wentOn n i c (c.setA i.aa (BitVec.ofInt 104 x))) ∧ ((chsCore t n).aReg i.aa).toInt = x)) ∧
  (∀ (s : State) (n : Nat) (i : ChsInstr) (c : ChsCore), issues s n 0x1A i → chsCore s n = c →
    completes (.setg n) s (fun t => ranAs n s t (wentOn n i c (c.setG i.dd (c.dReg i.da))))) ∧
  (∀ (s : State) (n : Nat) (i : ChsInstr) (c : ChsCore) (w : Word), issues s n 0x18 i → chsCore s n = c → wtGet c.prog c.pc = w →
    completes (.ldi n) s (fun t => ranAs n s t (wentOn n i c (c.setD (fieldOf w 51 4) (w.setWidth 48))))) ∧
  (∀ (s : State) (n : Nat) (cmd : Instr), chsRunning s n = true → unarmed s (chsPage n) →
    chsOp (chsOpcode (wtGet (chsCore s n).prog (chsCore s n).pc)) = none →
    cmd ∈ [Instr.nop n, .halt n, .jmp n, .jcc n, .call n, .ret n, .loop n, .ldlc n, .movlc n, .waitw n, .waitm n, .mkins n, .brd n, .bwr n, .outf n, .sync n, .evt n, .ldi n, .mov n, .add n, .mul n, .mac n, .cmul n, .phs n] →
    completes cmd s (fun t => faulted n 1 s t))

/-- Complex instructions of a Chisel core. Each complex instruction forms the exact components of its result, rounds them
where the table says so, and stores each component in its 24 bits, or in its 52-bit half of the accumulator, clamped
with S at 1 and wrapped with S at 0. Z is set for a zero word, N from the real part, V where a component did not fit;
an accumulator instruction leaves Z and N. CPOW adds the power as a real value. PHS gives the phasor of the low 20
bits. The core goes on, and nothing else changes. Where the spec can be read in more than one way it follows log
entries 50 and 51. (R312, R314, R315, R316, R317, 14_chisel_cores.md) -/
def Obligations.ChiselComplexOperations : Prop :=
  (∀ (s : State) (n op : Nat) (i : ChsInstr) (c : ChsCore) (cmd : Instr) (a b d : BitVec 48) (re im : Int), issues s n op i → chsCore s n = c →
    c.dReg i.da = a → c.dReg i.db = b →
    (cmd, op, re, im) ∈ [(Instr.cadd n, 0x40, dRe a + dRe b, dIm a + dIm b), (.csub n, 0x41, dRe a - dRe b, dIm a - dIm b),
      (.conj n, 0x42, dRe a, -dIm a),
      (.cmul n, 0x43, roundShift (dRe a * dRe b - dIm a * dIm b) i.sh, roundShift (dRe a * dIm b + dIm a * dRe b) i.sh),
      (.cmulj n, 0x47, roundShift (dRe a * dRe b + dIm a * dIm b) i.sh, roundShift (dIm a * dRe b - dRe a * dIm b) i.sh),
      (.cscl n, 0x49, roundShift (dRe a * dRe b) i.sh, roundShift (dIm a * dRe b) i.sh),
      (.crnd n, 0x1D, roundShift (aRe (c.aReg i.aa)) i.sh, roundShift (aIm (c.aReg i.aa)) i.sh),
      (.phs n, 0x4A, (phasor (a.toNat % 2 ^ 20)).1, (phasor (a.toNat % 2 ^ 20)).2)] →
    complexWord (fitted 24 i.sat re) (fitted 24 i.sat im) = d →
    completes cmd s (fun t => ranAs n s t (wentOn n i c { c.setD i.dd d with
      z := decide (d = 0), n := (fitted 24 i.sat re).msb, v := misfit 24 re || misfit 24 im }) ∧
      counted s t (chsPage n) R.CHS_CNT 6 ((if misfit 24 re then 1 else 0) + (if misfit 24 im then 1 else 0)))) ∧
  (∀ (s : State) (n op : Nat) (i : ChsInstr) (c : ChsCore) (cmd : Instr) (a b : BitVec 48) (re im : Int), issues s n op i → chsCore s n = c →
    c.dReg i.da = a → c.dReg i.db = b →
    (cmd, op, re, im) ∈ [
      (Instr.cmac n, 0x44, aRe (c.aReg i.aa) + (dRe a * dRe b - dIm a * dIm b), aIm (c.aReg i.aa) + (dRe a * dIm b + dIm a * dRe b)),
      (.cmacj n, 0x45, aRe (c.aReg i.aa) + (dRe a * dRe b + dIm a * dIm b), aIm (c.aReg i.aa) + (dIm a * dRe b - dRe a * dIm b))] →
    completes cmd s (fun t => ranAs n s t (wentOn n i c { c.setA i.aa (fitted 52 i.sat im ++ fitted 52 i.sat re) with
      v := misfit 52 re || misfit 52 im }) ∧
      counted s t (chsPage n) R.CHS_CNT 6 ((if misfit 52 re then 1 else 0) + (if misfit 52 im then 1 else 0)))) ∧
  (∀ (s : State) (n op : Nat) (i : ChsInstr) (c : ChsCore) (cmd : Instr) (a b : BitVec 48) (re im : Int), issues s n op i → chsCore s n = c →
    c.dReg i.da = a → c.dReg i.db = b →
    (cmd, op, re, im) ∈ [(Instr.cmpy n, 0x46, dRe a * dRe b - dIm a * dIm b, dRe a * dIm b + dIm a * dRe b), (.clda n, 0x20, dRe a, dIm a)] →
    completes cmd s (fun t => ranAs n s t (wentOn n i c (c.setA i.aa (BitVec.ofInt 52 im ++ BitVec.ofInt 52 re))) ∧
      aRe ((chsCore t n).aReg i.aa) = re ∧ aIm ((chsCore t n).aReg i.aa) = im)) ∧
  (∀ (s : State) (n : Nat) (i : ChsInstr) (c : ChsCore) (a : BitVec 48) (x : Int), issues s n 0x48 i → chsCore s n = c → c.dReg i.da = a →
    (c.aReg i.aa).toInt + (dRe a * dRe a + dIm a * dIm a) = x →
    completes (.cpow n) s (fun t => ranAs n s t (wentOn n i c { c.setA i.aa (fitted 104 i.sat x) with v := misfit 104 x })))

/-- Control instructions of a Chisel core. NOP changes nothing but its moves: a load puts the memory's word into its
register and steps the gauge. HALT stops the core. A taken branch goes to TARGET and leaves the loops whose body it
leaves; CALL and RET use a stack of eight, LOOP one of four, and each faults beyond. WAITW takes the pending causes of
its mask or waits; WAITM takes the oldest post or waits; MKINS inserts the eight words as one mark; BRD reads a
register, BWR writes one, and a refused access is counted and flagged. OUTF queues four words of T memory, or waits
while the queue is full; SYNC waits while the queue holds anything; EVT sets USER. Where the spec can be read in more
than one way it follows log entries 50, 52, 53 and 54. (R315, R318, R319, R321, R322, R323, R324, R327,
14_chisel_cores.md) -/
def Obligations.ChiselFlow : Prop :=
  (∀ (s : State) (n : Nat) (i : ChsInstr) (c : ChsCore), chsAt s n = some i → unarmed s (chsPage n) → i.op = 0 → chsCore s n = c →
    i.m0.en = true → i.m0.store = false → i.m0.mem = 0 → i.m1.en = false → i.m0.mod' = 1 →
    completes (.nop n) s (fun t => (chsCore t n).dReg i.m0.dn = chsMemGet n c 0 (gAddr (c.gReg i.m0.gn)).toNat ∧
      gAddr ((chsCore t n).gReg i.m0.gn) = gAddr (c.gReg i.m0.gn) + 1 ∧ gStep ((chsCore t n).gReg i.m0.gn) = gStep (c.gReg i.m0.gn) ∧
      (chsCore t n).t = c.t ∧ (chsCore t n).b = c.b ∧ (chsCore t n).a = c.a ∧ (∀ k, k ≠ i.m0.dn → (chsCore t n).dReg k = c.dReg k) ∧
      keeps [.chs, .regs] s t ∧ sameRegs [chsPage n] s t)) ∧
  (∀ (s : State) (n : Nat) (i : ChsInstr) (c : ChsCore), chsCore s n = c →
    (issues s n 0x00 i → completes (.nop n) s (fun t => ranAs n s t (wentOn n i c c))) ∧
    (issues s n 0x01 i → completes (.halt n) s (fun t => ranAs n s t { c with st := .stopped, pipe := chsPipeAfter c.pipe i })) ∧
    (issues s n 0x07 i → completes (.ldlc n) s (fun t => ranAs n s t (wentOn n i c { c with lc := i.imm.setWidth 24 }))) ∧
    (issues s n 0x08 i → completes (.movlc n) s (fun t => ranAs n s t (wentOn n i c { c with lc := (c.dReg i.da).setWidth 24 })))) ∧
  (∀ (s : State) (n : Nat) (b : Bool) (i : ChsInstr) (c : ChsCore), chsCore s n = c →
    (issues s n 0x02 i → completes (.jmp n) s (fun t => ranAs n s t (jumped n i c c i.target))) ∧
    (issues s n 0x03 i → condHolds c.z c.n c.v i.dd = some b →
      completes (.jcc n) s (fun t => ranAs n s t (if b then jumped n i c c i.target else wentOn n i c c)))) ∧
  (∀ (s : State) (n x : Nat) (l : List Nat) (i : ChsInstr) (c : ChsCore), chsCore s n = c →
    (issues s n 0x04 i → c.calls.length < 8 →
      completes (.call n) s (fun t => ranAs n s t (jumped n i c { c with calls := (c.pc + 1) % chsProgSize n :: c.calls } i.target))) ∧
    (issues s n 0x04 i → 8 ≤ c.calls.length → completes (.call n) s (fun t => faulted n 2 s t)) ∧
    (issues s n 0x05 i → c.calls = x :: l → completes (.ret n) s (fun t => ranAs n s t (jumped n i c { c with calls := l } x))) ∧
    (issues s n 0x05 i → c.calls = [] → completes (.ret n) s (fun t => faulted n 2 s t))) ∧
  (∀ (s : State) (n : Nat) (i : ChsInstr) (c : ChsCore), chsCore s n = c → issues s n 0x06 i →
    (c.lc ≠ 0 → c.loops.length < 4 → completes (.loop n) s (fun t => ranAs n s t
      { c with pc := (c.pc + 1) % chsProgSize n, loops := ⟨(c.pc + 1) % chsProgSize n, i.target, c.lc.toNat⟩ :: c.loops, pipe := chsPipeAfter c.pipe i })) ∧
    (c.lc = 0 → c.loops = [] → completes (.loop n) s (fun t => ranAs n s t
      { c with pc := (i.target + 1) % chsProgSize n, pipe := chsPipeAfter c.pipe i })) ∧
    (c.lc ≠ 0 → 4 ≤ c.loops.length → completes (.loop n) s (fun t => faulted n 3 s t))) ∧
  (∀ (s : State) (n : Nat) (i : ChsInstr) (c : ChsCore), chsCore s n = c → issues s n 0x09 i →
    (c.causes &&& i.target ≠ 0 → completes (.waitw n) s (fun t => (chsCore t n).dReg i.dd = BitVec.ofNat 48 (c.causes &&& i.target) ∧
      (chsCore t n).st = .running ∧ (chsCore t n).pending = c.pending &&& (0x3F ^^^ (c.causes &&& i.target)) ∧ (chsCore t n).fed = s.mono ∧
      counted s t (chsPage n) R.CHS_CNT 2 1 ∧ keeps [.chs, .regs] s t ∧ sameRegs [chsPage n] s t)) ∧
    (c.causes &&& i.target = 0 → completes (.waitw n) s (fun t => ranAs n s t
      { c with st := .waiting, wait := some (.causes i.target i.dd), fed := s.mono, pipe := chsPipeAfter c.pipe i }))) ∧
  (∀ (s : State) (n : Nat) (i : ChsInstr) (c : ChsCore) (x : ChsPost) (l : List ChsPost), chsCore s n = c → issues s n 0x0A i →
    (c.posts = x :: l → completes (.waitm n) s (fun t => (chsCore t n).posts = l ∧ (chsCore t n).dReg i.dd = BitVec.ofNat 48 x.tag ∧
      (chsCore t n).dReg (i.dd + 1) = BitVec.ofNat 48 x.time ∧ (chsCore t n).st = .running ∧
      counted s t (chsPage n) R.CHS_CNT 2 1 ∧ keeps [.chs, .regs] s t ∧ sameRegs [chsPage n] s t)) ∧
    (c.posts = [] → completes (.waitm n) s (fun t => ranAs n s t
      { c with st := .waiting, wait := some (.post i.dd), fed := s.mono, pipe := chsPipeAfter c.pipe i }))) ∧
  (∀ (s : State) (n : Nat) (i : ChsInstr) (c : ChsCore) (r : Nat × Nat × State), chsCore s n = c → issues s n 0x0B i →
    markInsert (masterClaim s (chsMaster n)) ((List.range 4).map (markWord n c (gAddr (c.gReg i.gauge)).toNat)) s = r →
    completes (.mkins n) s (fun t => t.mrk = r.2.2.mrk ∧ (chsCore t n).dReg i.dd = BitVec.ofNat 48 (r.2.1 + r.1 * 4096) ∧
      keeps [.chs, .regs] r.2.2 t ∧ sameRegs [chsPage n] r.2.2 t)) ∧
  (∀ (s s1 : State) (n : Nat) (ref : Bool) (i : ChsInstr) (c : ChsCore) (w : Word), chsCore s n = c → issues s n 0x0C i →
    busRead (chsMaster n) (8 * ((gAddr (c.gReg i.gauge)).toNat % 2 ^ 23)) 8 s = (w, ref, s1) → chsCore s1 n = c →
    completes (.brd n) s (fun t =>
      (ref = false → (chsCore t n).dReg i.dd = w.setWidth 48 ∧ (chsCore t n).dReg (i.dd + 1) = (w >>> 48).setWidth 48 ∧
        keeps [.chs, .regs, .free] s1 t) ∧
      (ref = true → (chsCore t n).dReg i.dd = BitVec.allOnes 48 ∧ (chsCore t n).dReg (i.dd + 1) = 0xFFFF#48 ∧
        stuck t (chsPage n) S.CHS_BUS_REFUSED ∧ counted s1 t (chsPage n) R.CHS_CNT 4 1 ∧ keeps [.chs, .regs, .out, .events, .free] s1 t) ∧
      sameRegs [chsPage n] s1 t)) ∧
  (∀ (s s1 : State) (n : Nat) (i : ChsInstr) (c : ChsCore) (w : Word), chsCore s n = c → issues s n 0x0D i →
    w.setWidth 48 = c.dReg i.da → fieldOf w 48 16 = (c.dReg (i.da + 1)).toNat % 2 ^ 16 →
    busWrite (chsMaster n) (8 * ((gAddr (c.gReg i.gauge)).toNat % 2 ^ 23)) 8 w s = s1 → chsCore s1 n = c →
    completes (.bwr n) s (fun t => chsCore t n = wentOn n i c c ∧ sameRegs [chsPage n] s1 t ∧
      (s1.wst = 1 ∨ s1.wst = 2 ∨ s1.wst = 3 → stuck t (chsPage n) S.CHS_BUS_REFUSED ∧ counted s1 t (chsPage n) R.CHS_CNT 4 1 ∧
        keeps [.chs, .regs, .out, .events] s1 t) ∧
      (s1.wst = 0 ∨ s1.wst = 5 → keeps [.chs, .regs] s1 t))) ∧
  (∀ (s : State) (n a : Nat) (i : ChsInstr) (c : ChsCore), chsCore s n = c → (gAddr (c.gReg i.gauge)).toNat = a →
    (issues s n 0x0E i → c.outq.length < 4 → completes (.outf n) s (fun t => ranAs n s t (wentOn n i c { c with
      outq := c.outq ++ [⟨chsMemGet n c 0 a, chsMemGet n c 0 (a + 1), chsMemGet n c 0 (a + 2), chsMemGet n c 0 (a + 3)⟩] }))) ∧
    (issues s n 0x0E i → 4 ≤ c.outq.length → completes (.outf n) s (fun t => t = s)) ∧
    (issues s n 0x0F i → c.outq = [] → completes (.sync n) s (fun t => ranAs n s t (wentOn n i c c))) ∧
    (issues s n 0x0F i → c.outq ≠ [] → completes (.sync n) s (fun t => t = s))) ∧
  (∀ (s : State) (n : Nat) (i : ChsInstr) (c : ChsCore), chsCore s n = c → issues s n 0x10 i →
    completes (.evt n) s (fun t => chsCore t n = wentOn n i c { c with user := i.target } ∧ stuck t (chsPage n) S.CHS_USER ∧
      keeps [.chs, .regs, .out, .events] s t ∧ sameRegs [chsPage n] s t))

/-- Running, waking and stopping Chisel cores, their memory window and the outfeed. RUN starts a stopped core at START_PC
with empty stacks; STOP stops it; DOORBELL makes cause 0 pending, and a waiting core whose mask names it goes on with
the cause in its register. The window writes program words while the core is stopped, and is refused while it runs. A
watchdog, an H-window load and a BRD that do not return fault a running core with causes 5, 6 and 7. The outfeed
carries out the oldest descriptor: an ill-formed one is flagged and writes nothing. Where the spec can be read in more
than one way it follows log entries 52, 53 and 54. (R321, R323, R324, R325, R326, R327, 14_chisel_cores.md) -/
def Obligations.ChiselCores : Prop :=
  (∀ (s : State) (m n : Nat) (v : Word), n < 68 → judge s m (chsPage n) R.CHS_CTRL 8 (v ||| 1#64) = .ok → bitOf v 1 = false → bitOf v 2 = false →
    fieldOf v 8 14 < chsProgSize n → flag s (chsPage n) F.PAGE_CTRL_ENABLE = true →
    completes (.run m n v) s (fun t => t.wst = 0 ∧ sameRegs [chsPage n] s t ∧ keeps [.chs, .regs, .wst] s t ∧
      ((chsCore s n).st = .stopped ∨ (chsCore s n).st = .fault → chsCore t n = { chsCore s n with
        st := .running, pc := fieldOf v 8 14, calls := [], loops := [], wait := none, fed := s.mono, pipe := {} }) ∧
      ((chsCore s n).st ≠ .stopped ∧ (chsCore s n).st ≠ .fault → t.chs = s.chs))) ∧
  (∀ (s : State) (m n : Nat) (v : Word), n < 68 → judge s m (chsPage n) R.CHS_CTRL 8 (v ||| 2#64) = .ok → bitOf v 0 = false → bitOf v 2 = false →
    fieldOf v 8 14 < chsProgSize n →
    completes (.stop m n v) s (fun t => t.wst = 0 ∧ sameRegs [chsPage n] s t ∧ keeps [.chs, .regs, .wst] s t ∧
      ((chsCore s n).st = .running ∨ (chsCore s n).st = .waiting → chsCore t n = { chsCore s n with st := .stopped, wait := none }) ∧
      ((chsCore s n).st ≠ .running ∧ (chsCore s n).st ≠ .waiting → t.chs = s.chs))) ∧
  (∀ (s : State) (m n mask dest : Nat) (v : Word), n < 68 → judge s m (chsPage n) R.CHS_CTRL 8 (v ||| 4#64) = .ok → bitOf v 0 = false → bitOf v 1 = false →
    fieldOf v 8 14 < chsProgSize n → unarmed s (chsPage n) →
    (((chsCore s n).st = .running ∨ (chsCore s n).st = .stopped) → (chsCore s n).pending.testBit 0 = false →
      completes (.doorbell m n v) s (fun t => chsCore t n = { chsCore s n with pending := (chsCore s n).pending ||| 1 } ∧
        keeps [.chs, .regs, .wst] s t ∧ sameRegs [chsPage n] s t)) ∧
    ((chsCore s n).st = .waiting → (chsCore s n).wait = some (.causes mask dest) → mask.testBit 0 = true → (chsCore s n).pending = 0 →
      (chsCore s n).posts = [] →
      completes (.doorbell m n v) s (fun t => (chsCore t n).st = .running ∧ (chsCore t n).dReg dest = 1 ∧ (chsCore t n).pending = 0 ∧
        (chsCore t n).pc = ((chsCore s n).pc + 1) % chsProgSize n ∧ counted s t (chsPage n) R.CHS_CNT 2 1 ∧
        keeps [.chs, .regs, .wst] s t ∧ sameRegs [chsPage n] s t))) ∧
  (∀ (s : State) (n cause : Nat), n < 68 → unarmed s (chsPage n) → pageGated s (chsPage n) = false → (cause = 1 ∨ cause = 4) →
    (chsCore s n).st ≠ .waiting → (cause = 4 → fld s (chsPage n) F.CHS_CFG_TIMER_US ≠ 0) →
    (cause = 1 → planOf s (wakeRegion s n).1 (wakeRegion s n).2 = none) →
    completes (.wake n cause) s (fun t => (chsCore t n).pending = (chsCore s n).pending ||| 2 ^ cause ∧
      ((chsCore s n).pending.testBit cause = true → stuck t (chsPage n) S.CHS_WAKE_OVERRUN ∧ counted s t (chsPage n) R.CHS_CNT 3 1) ∧
      keeps [.chs, .regs, .out, .events, .mono, .dev] s t ∧ sameRegs [chsPage n] s t)) ∧
  (∀ (s : State) (n cause mask dest x : Nat) (c : ChsCore), n < 68 → unarmed s (chsPage n) → pageGated s (chsPage n) = false →
    (cause = 1 ∨ cause = 4) → (cause = 4 → fld s (chsPage n) F.CHS_CFG_TIMER_US ≠ 0) →
    (cause = 1 → planOf s (wakeRegion s n).1 (wakeRegion s n).2 = none) → (chsCore s n).st = .waiting →
    (chsCore s n).wait = some (.causes mask dest) → (chsCore s n).pending.testBit cause = false →
    c = { chsCore s n with pending := (chsCore s n).pending ||| 2 ^ cause } → c.causes &&& mask = x → x ≠ 0 →
    completes (.wake n cause) s (fun t => (chsCore t n).st = .running ∧ (chsCore t n).dReg dest = BitVec.ofNat 48 x ∧
      (chsCore t n).pending = c.pending &&& (0x3F ^^^ x) ∧ (chsCore t n).pc = ((chsCore s n).pc + 1) % chsProgSize n ∧
      counted s t (chsPage n) R.CHS_CNT 2 1 ∧ keeps [.chs, .regs, .mono, .dev] s t ∧ sameRegs [chsPage n] s t)) ∧
  (∀ (s : State) (n cause : Nat), n < 68 → (chsCore s n).st ≠ .waiting → (cause ≠ 1 ∧ cause ≠ 4 ∨
      cause = 4 ∧ fld s (chsPage n) F.CHS_CFG_TIMER_US = 0 ∨ cause = 1 ∧ planOf s (wakeRegion s n).1 (wakeRegion s n).2 ≠ none) →
    completes (.wake n cause) s (fun t => t = s)) ∧
  (∀ (s : State) (m n k : Nat) (v : Word), n < 68 → judge s m (chsPage n) R.CHS_MEM_DATA 8 v = .ok →
    fld s (chsPage n) F.CHS_MEM_ADDR_INDEX = k → k < chsProgSize n → fld s (chsPage n) F.CHS_MEM_ADDR_SPACE = 0 →
    ((chsCore s n).st = .stopped → completes (.chsMemData m n (some v)) s (fun t => wtGet (chsCore t n).prog k = v ∧
      (∀ j, j ≠ k → wtGet (chsCore t n).prog j = wtGet (chsCore s n).prog j) ∧ t.wst = 0 ∧
      keeps [.chs, .regs, .wst] s t ∧ sameRegs [chsPage n] s t)) ∧
    ((chsCore s n).st = .running → completes (.chsMemData m n (some v)) s (fun t => t.chs = s.chs ∧ t.wst = 5 ∧
      stuck t (chsPage n) S.CFG_REFUSED ∧ keeps [.regs, .out, .events, .wst] s t ∧ sameRegs [chsPage n] s t)) ∧
    ((chsCore s n).st = .stopped → completes (.chsMemData m n none) s (fun t => t.rd = wtGet (chsCore s n).prog k ∧
      keeps [.rd, .regs] s t ∧ sameRegs [chsPage n] s t))) ∧
  (∀ (s : State) (n : Nat), chsRunning s n = true → fld s (chsPage n) F.CHS_CFG_WATCHDOG_US ≠ 0 →
    completes (.watchdog n) s (fun t => (chsCore t n).st = .fault ∧ stuck t (chsPage n) S.CHS_WATCHDOG ∧ stuck t (chsPage n) S.CHS_FAULT ∧
      fieldOf (reg t (chsPage n) R.CHS_FAULT) 0 4 = 5 ∧ (chsCore s n).fed + fld s (chsPage n) F.CHS_CFG_WATCHDOG_US * usUnits ≤ t.mono ∧
      keeps [.chs, .regs, .out, .events, .mono, .dev] s t ∧ sameRegs [chsPage n] s t)) ∧
  (∀ (s : State) (n : Nat) (i : ChsInstr), chsAt s n = some i →
    (i.op = 0x0C → completes (.brdTimeout n) s (fun t => faulted n 7 s t)) ∧
    (i.op ≠ 0x0C → completes (.brdTimeout n) s (fun t => t = s)) ∧
    ((chsMoves i).any (fun m => decide (m.mem = 2) && !m.store) = true → completes (.hLoadTimeout n) s (fun t => faulted n 6 s t))) ∧
  (∀ (s : State) (n : Nat) (i : ChsInstr), chsAt s n = some i →
    ((chsMoves i).any (fun m => decide (m.mem = 2) && !m.store) = true → completes (.hLoadTimeout n) s (fun t => faulted n 6 s t)) ∧
    ((chsMoves i).any (fun m => decide (m.mem = 2) && !m.store) = false → completes (.hLoadTimeout n) s (fun t => t = s))) ∧
  (∀ (s : State) (n : Nat) (o : ChsOut) (l : List ChsOut), n < 68 → pageGated s (chsPage n) = false → (chsCore s n).outq = o :: l →
    outLegal n o = false →
    completes (.outfeed n) s (fun t => chsCore t n = { chsCore s n with outq := l } ∧ stuck t (chsPage n) S.CHS_OUT_REFUSED ∧
      keeps [.chs, .regs, .out, .events, .armed] s t ∧ sameRegs [chsPage n] s t)) ∧
  (∀ (s : State) (n : Nat) (o : ChsOut) (l : List ChsOut) (ws : List (List Byte × Nat)), n < 68 → pageGated s (chsPage n) = false →
    (chsCore s n).outq = o :: l → outLegal n o = true → unarmed s (chsPage n) →
    (List.range o.w1.toNat).map (fun k => outWord (o.w0.extractLsb' 17 3).toNat (o.w0.extractLsb' 20 6).toNat
      (chsMemGet n (chsCore s n) (if o.w0.getLsbD 16 then 1 else 0) ((o.w0.extractLsb' 0 16).toNat + k))) = ws →
    completes (.outfeed n) s (fun t => (chsCore t n).outq = l ∧ (∀ a, (a < o.w2.toNat ∨ o.w2.toNat + o.w1.toNat * outBytes (o.w0.extractLsb' 17 3).toNat ≤ a) →
        memGet t a = memGet s a) ∧
      t.mem = (outWrite o.w2.toNat ((ws.flatMap (·.1)).length / 64 + 1) (ws.flatMap (·.1)) s).2.mem ∧
      counted s t (chsPage n) R.CHS_CNT 5 ((ws.map (·.2)).sum)))

/-- Requests, errors and power of a pseudo-channel of HBM. A write that meets an idle pseudo-channel in service puts its
bytes into memory and changes no other; a read answers its master with the bytes. A fenced write changes nothing and
is flagged and counted; a request to a stack in self-refresh is refused at once, a read with all ones; one to a stack
not in service waits, and so does one that would close a cycle of waits, which is counted. The oldest row hit is
served first, and after sixteen hits to a bank the oldest request, counted as forced. A scrub corrects and counts a
correctable error; an uncorrectable one poisons the word and retires its row. A refresh closes the row; an empty queue
may power down; a timeout drops the oldest request of its master. Where the spec can be read in more than one way it
follows log entry 56. (R329, R331, R333, R334, R335, R336, R337, R342, R343, R344, R346, 15_hbm_turn_matrix.md) -/
def Obligations.HbmController : Prop :=
  (∀ (s : State) (r : HbmReq) (pc : Nat), hpcOf r.addr = pc → (alGet {} s.hbm.pcs pc).queue = [] → (alGet {} s.hbm.pcs pc).held = [] →
    s.hbm.waiting = [] → s.hbm.replies = [] →
    mustHold s ⟨r, s.hbm.nextSeq, false, s.mono⟩ = false → (∀ k, k < r.len → rowFenced s (r.addr + k) = false) → r.wr = true → r.data.length = r.len → 0 < r.len → r.addr % 256 + r.len ≤ 256 → r.resends = 0 →
    hbmInside r.addr r.len = true → touchesReserved r.addr r.len = false → fenceHit s r.addr r.len = none →
    badWords s r.addr r.len = [] → hbmRefuses s r.addr r.len = false → unarmed s (hpcPage pc) → unarmed s (hbmPage (stackOf r.addr)) →
    completes (.hbmRequest pc [r] []) s (fun t =>
      (∀ a, memGet t a = if r.addr ≤ a ∧ a < r.addr + r.len then r.data.getD (a - r.addr) 0 else memGet s a) ∧
      (alGet {} t.hbm.pcs pc).queue = [] ∧ ntGet (alGet {} t.hbm.pcs pc).rows (bankKey r.addr) = pcRow r.addr + 1 ∧
      counted s t (hbmPage (stackOf r.addr)) R.HBM_CNT 0 1 ∧ keeps [.hbm, .mem, .regs] s t ∧ sameRegs [hbmPage (stackOf r.addr), 0x2C0] s t)) ∧
  (∀ (s : State) (r : HbmReq) (pc w : Nat), hpcOf r.addr = pc → (alGet {} s.hbm.pcs pc).queue = [] → (alGet {} s.hbm.pcs pc).held = [] →
    s.hbm.waiting = [] → s.hbm.replies = [] → mustHold s ⟨r, s.hbm.nextSeq, false, s.mono⟩ = false → r.wr = true → r.data.length = r.len →
    0 < r.len → r.addr % 256 + r.len ≤ 256 → r.resends = 0 → hbmInside r.addr r.len = true → touchesReserved r.addr r.len = false →
    fenceHit s r.addr r.len = none → hbmRefuses s r.addr r.len = false → unarmed s (hpcPage pc) → unarmed s (hbmPage (stackOf r.addr)) →
    w ∈ s.hbm.poison → (∀ x ∈ wordsRead r, x = w) → w ∈ wordsRead r → rowFenced s (w * 32) = false → hpcOf (w * 32) = pc →
    stackOf (w * 32) = stackOf r.addr →
    completes (.hbmRequest pc [r] []) s (fun t => stuck t (hpcPage pc) S.HPC_ECC_UNCORR ∧ w ∈ t.hbm.poison ∧
      fld t (hpcPage pc) F.HPC_ERR_ADDR_ADDR = w * 32 % 2 ^ 40 ∧ counted s t (hbmPage (stackOf r.addr)) R.HBM_CNT 4 1)) ∧
  (∀ (s : State) (r : HbmReq) (pc : Nat), hpcOf r.addr = pc → (alGet {} s.hbm.pcs pc).queue = [] → (alGet {} s.hbm.pcs pc).held = [] →
    s.hbm.waiting = [] → s.hbm.replies = [] →
    mustHold s ⟨r, s.hbm.nextSeq, false, s.mono⟩ = false → aheadHere s ⟨r, s.hbm.nextSeq, false, s.mono⟩ = false →
    badWords s r.addr r.len = [] → r.wr = false → 0 < r.len → r.addr % 256 + r.len ≤ 256 → r.resends = 0 →
    hbmInside r.addr r.len = true → touchesReserved r.addr r.len = false → hbmRefuses s r.addr r.len = false →
    unarmed s (hpcPage pc) → unarmed s (hbmPage (stackOf r.addr)) →
    completes (.hbmRequest pc [r] []) s (fun t =>
      t.out = ⟨.readReply, r.master, 0 :: 0 :: (List.range r.len).map (fun k => (memGet s (r.addr + k)).toNat)⟩ :: s.out ∧
      keeps [.hbm, .out, .regs] s t ∧ sameRegs [hbmPage (stackOf r.addr), 0x2C0] s t)) ∧
  (∀ (s : State) (r : HbmReq) (pc : Nat) (f : HbmFence), hpcOf r.addr = pc → (alGet {} s.hbm.pcs pc).queue = [] → (alGet {} s.hbm.pcs pc).held = [] →
    s.hbm.waiting = [] → s.hbm.replies = [] →
    mustHold s ⟨r, s.hbm.nextSeq, false, s.mono⟩ = false → r.wr = true → r.data.length = r.len → 0 < r.len → r.addr % 256 + r.len ≤ 256 → r.resends = 0 →
    hbmInside r.addr r.len = true → fenceHit s r.addr r.len = some f → f.page < 0x600 → f.page ≠ 0x2C0 → f.bit < 64 →
    hbmRefuses s r.addr r.len = false → unarmed s (hpcPage pc) →
    completes (.hbmRequest pc [r] []) s (fun t => stuck t f.page f.bit ∧ counted s t (hbmPage (stackOf r.addr)) R.HBM_CNT 5 1 ∧
      (alGet {} t.hbm.pcs pc).queue = [] ∧ keeps [.hbm, .out, .regs, .events] s t)) ∧
  (∀ (s : State) (r : HbmReq) (pc : Nat), (alGet {} s.hbm.pcs pc).queue = [] → s.hbm.waiting = [] → s.hbm.replies = [] → r.wr = false →
    r.resends = 0 → aheadHere s ⟨r, s.hbm.nextSeq, false, s.mono⟩ = false → stackRefuses s (stackOf r.addr) = true →
    completes (.hbmRequest pc [r] []) s (fun t => t.out = ⟨.readReply, r.master, 1 :: 0 :: List.replicate r.len 255⟩ :: s.out ∧ keeps [.out, .hbm] s t ∧
      t.hbm.waiting = [])) ∧
  (∀ (s : State) (r : HbmReq) (pc : Nat), (alGet {} s.hbm.pcs pc).queue = [] → s.hbm.waiting = [] → s.hbm.replies = [] →
    r.resends = 0 → hbmInside r.addr r.len = true → 0 < r.len → r.addr % 256 + r.len ≤ 256 → stackHolds s (stackOf r.addr) = true →
    outstanding s r.master < 256 → chainBack s ⟨r, s.hbm.nextSeq, false, s.mono⟩ = false →
    completes (.hbmRequest pc [r] []) s (fun t => t.hbm.waiting = [⟨r, s.hbm.nextSeq, false, s.mono⟩] ∧ keeps [.hbm] s t)) ∧
  (∀ (s : State) (r : HbmReq) (pc : Nat), (alGet {} s.hbm.pcs pc).queue = [] → s.hbm.waiting = [] → s.hbm.replies = [] →
    r.resends = 0 → hbmRefuses s r.addr r.len = false → 0 < r.len → r.addr % 256 + r.len ≤ 256 →
    outstanding s r.master < 256 → chainBack s ⟨r, s.hbm.nextSeq, false, s.mono⟩ = true →
    completes (.hbmRequest pc [r] []) s (fun t => t.hbm.waiting = [⟨r, s.hbm.nextSeq, true, s.mono⟩] ∧ counted s t 0x2C0 R.XBR_CNT 2 1 ∧
      keeps [.hbm, .regs] s t ∧ sameRegs [0x2C0] s t)) ∧
  (∀ (s : State) (pc : Nat) (e f : HbmEntry) (c : HbmPc), alGet {} s.hbm.pcs pc = c → c.queue = [e, f] → c.held = [] → s.hbm.waiting = [] →
    s.hbm.replies = [] → e.req.wr = true → f.req.wr = true → e ≠ f → stackOf e.req.addr = stackOf f.req.addr → stackOf e.req.addr < 4 →
    (c.runLen < 16 → rowHit c e.req = false → rowHit c f.req = true →
      completes (.hbmRequest pc [] []) s (fun t => (alGet {} t.hbm.pcs pc).queue = [e] ∧
        counted s t (hbmPage (stackOf f.req.addr)) R.HBM_CNT 1 1)) ∧
    (16 ≤ c.runLen → completes (.hbmRequest pc [] []) s (fun t => (alGet {} t.hbm.pcs pc).queue = [f] ∧
        counted s t (hbmPage (stackOf e.req.addr)) R.HBM_CNT 2 1 ∧ (alGet {} t.hbm.pcs pc).runLen = 0))) ∧
  (∀ (s : State) (pc w : Nat), hpcOf (w * 32) = pc → w * 32 < 4 * stackBytes → flag s (hbmPage (stackOf (w * 32))) F.PAGE_CTRL_ENABLE = true →
    fld s (hbmPage (stackOf (w * 32))) F.HBM_STATUS_STATE = 2 → (alGet {} s.hbm.pcs pc).queue = [] →
    rowUnit (w * 32) ∉ s.hbm.retired →
    (badWords s (w * 32) 32 = [] → completes (.scrub pc w none) s (fun t => t = s)) ∧
    (badWords s (w * 32) 32 ≠ [] → completes (.scrub pc w none) s (fun t => stuck t (hpcPage pc) S.HPC_ECC_UNCORR ∧
      fld t (hpcPage pc) F.HPC_ERR_ADDR_ADDR = w * 32 ∧ keeps [.regs, .out, .events] s t)) ∧
    completes (.scrub pc w (some false)) s (fun t => stuck t (hpcPage pc) S.HPC_ECC_CORR ∧ t.mem = s.mem ∧ t.hbm.poison = s.hbm.poison ∧
      fld t (hpcPage pc) F.HPC_ERR_ADDR_ADDR = w * 32) ∧
    completes (.scrub pc w (some true)) s (fun t => stuck t (hpcPage pc) S.HPC_ECC_UNCORR ∧ stuck t (hpcPage pc) S.HPC_ROW_RETIRED ∧
      stuck t (hpcPage pc) S.PERMANENT ∧ w ∈ t.hbm.poison ∧ rowUnit (w * 32) ∈ t.hbm.retired ∧ t.mem = s.mem)) ∧
  (∀ (s : State) (pc bank temp : Nat), completes (.refresh pc ⟨bank, temp⟩) s (fun t => ntGet (alGet {} t.hbm.pcs pc).rows bank = 0 ∧
    (alGet {} t.hbm.pcs pc).runLen = 0 ∧ (alGet {} t.hbm.pcs pc).queue = (alGet {} s.hbm.pcs pc).queue ∧
    (∀ k, k ≠ bank → ntGet (alGet {} t.hbm.pcs pc).rows k = ntGet (alGet {} s.hbm.pcs pc).rows k) ∧
    fld t (hbmPage (pc / 32)) F.HBM_STATUS_TEMP = min temp 255 ∧ (85 < temp → stuck t (hbmPage (pc / 32)) S.HBM_TEMP_HIGH) ∧
    keeps [.hbm, .regs, .out, .events] s t ∧ sameRegs [hbmPage (pc / 32)] s t)) ∧
  (∀ (s : State) (pc : Nat), completes (.powerDown pc) s (fun t => keeps [.hbm, .mono, .dev] s t ∧
    (fld s (hbmPage (pc / 32)) F.HBM_CFG_PD_IDLE_NS ≠ 0 → (alGet {} s.hbm.pcs pc).queue = [] → (alGet {} t.hbm.pcs pc).down = true ∧
      (alGet {} s.hbm.pcs pc).idle + fld s (hbmPage (pc / 32)) F.HBM_CFG_PD_IDLE_NS * 65536 ≤ t.mono) ∧
    (fld s (hbmPage (pc / 32)) F.HBM_CFG_PD_IDLE_NS = 0 ∨ (alGet {} s.hbm.pcs pc).queue ≠ [] → t = s))) ∧
  (∀ (s : State) (m : Nat) (e : HbmEntry), firstEntry ((issuedEntries s).filter (fun x => decide (x.req.master = m ∧ x.req.wr = true))) = some e →
    s.hbm.waiting = [] →
    completes (.timeout m true) s (fun t => e ∉ (alGet {} t.hbm.pcs (hpcOf e.req.addr)).queue ∧ stuck t 0x2C0 S.XBR_TIMEOUT ∧
      e.since + requestTime ≤ t.mono ∧ keeps [.hbm, .regs, .out, .events, .mono, .dev] s t ∧ sameRegs [0x2C0] s t)) ∧
  (∀ (s : State) (m : Nat) (e : HbmEntry), firstEntry ((issuedEntries s).filter (fun x => decide (x.req.master = m ∧ x.req.wr = false))) = some e →
    s.hbm.waiting = [] → s.hbm.replies = [] → aheadHere s e = false →
    completes (.timeout m false) s (fun t => t.rd = BitVec.allOnes 64 ∧ stuck t 0x2C0 S.XBR_TIMEOUT ∧ e.since + requestTime ≤ t.mono ∧
      (∃ l, t.out = ⟨.readReply, m, 1 :: 0 :: List.replicate e.req.len 255⟩ :: l) ∧
      keeps [.rd, .hbm, .regs, .out, .events, .mono, .dev] s t ∧ sameRegs [0x2C0] s t)) ∧
  (∀ (s : State) (m : Nat), issuedEntries s = [] → s.hbm.waiting = [] →
    completes (.timeout m false) s (fun t => t.rd = BitVec.allOnes 64 ∧ stuck t 0x2C0 S.XBR_TIMEOUT ∧
      keeps [.rd, .regs, .out, .events] s t ∧ sameRegs [0x2C0] s t)) ∧
  (∀ (s : State) (pc : Nat) (errs : List WordError), (alGet {} s.hbm.pcs pc).queue = [] → s.hbm.waiting = [] → s.hbm.replies = [] →
    completes (.hbmRequest pc [] errs) s (fun t => t = s)) ∧
  (∀ (s s1 : State) (a b : HbmReq) (pc : Nat) (e f : HbmEntry), byPrio s [a, b] = [a, b] → s1 = arrive b (arrive a s) → s1.hbm.waiting = [] →
    s1.hbm.replies = [] → (alGet {} s1.hbm.pcs pc).queue = [e, f] → (alGet {} s1.hbm.pcs pc).held = [] → (alGet {} s1.hbm.pcs pc).runLen < 16 →
    (rowHit (alGet {} s1.hbm.pcs pc) e.req = true ∨ rowHit (alGet {} s1.hbm.pcs pc) f.req = false) → e.req.wr = true → f.req.wr = true → e ≠ f →
    completes (.hbmRequest pc [a, b] []) s (fun t => (alGet {} t.hbm.pcs pc).queue = [f] ∧ t.hbm.waiting = [])) ∧
  (∀ (s : State) (r : HbmReq) (pc w : Nat) (u : Bool), hpcOf r.addr = pc → (alGet {} s.hbm.pcs pc).queue = [] → (alGet {} s.hbm.pcs pc).held = [] →
    s.hbm.waiting = [] → s.hbm.replies = [] → mustHold s ⟨r, s.hbm.nextSeq, false, s.mono⟩ = false →
    aheadHere s ⟨r, s.hbm.nextSeq, false, s.mono⟩ = false → r.wr = false → 0 < r.len → r.addr % 256 + r.len ≤ 256 → r.resends = 0 →
    hbmInside r.addr r.len = true → touchesReserved r.addr r.len = false → hbmRefuses s r.addr r.len = false →
    unarmed s (hpcPage pc) → unarmed s (hbmPage (stackOf r.addr)) → w * 32 < r.addr + r.len → r.addr < w * 32 + 32 → hpcOf (w * 32) = pc →
    completes (.hbmRequest pc [r] [⟨w, u⟩]) s (fun t => stuck t (hpcPage pc) (if u then S.HPC_ECC_UNCORR else S.HPC_ECC_CORR) ∧
      (u = true → w ∈ t.hbm.poison) ∧ t.mem = s.mem ∧ (alGet {} t.hbm.pcs pc).queue = [])) ∧
  (∀ (s : State) (pc w : Nat) (err : Option Bool), (flag s (hbmPage (stackOf (w * 32))) F.PAGE_CTRL_ENABLE = false ∨
      fld s (hbmPage (stackOf (w * 32))) F.HBM_STATUS_STATE ≠ 2) →
    completes (.scrub pc w err) s (fun t => t = s)) ∧
  (∀ (s : State) (pc w : Nat) (e : HbmEntry), hpcOf (w * 32) = pc → w * 32 < 4 * stackBytes → flag s (hbmPage (stackOf (w * 32))) F.PAGE_CTRL_ENABLE = true →
    fld s (hbmPage (stackOf (w * 32))) F.HBM_STATUS_STATE = 2 → e ∈ (alGet {} s.hbm.pcs pc).queue → e.req.wr = true → e.req.addr ≤ w * 32 →
    w * 32 + 32 ≤ e.req.addr + e.req.len → rowUnit (w * 32) ∉ s.hbm.retired →
    completes (.scrub pc w (some true)) s (fun t => stuck t (hpcPage pc) S.HPC_ECC_UNCORR ∧ stuck t (hpcPage pc) S.HPC_ROW_RETIRED ∧
      rowUnit (w * 32) ∈ t.hbm.retired ∧ t.hbm.poison = s.hbm.poison ∧ t.mem = s.mem ∧ t.hbm.pcs = s.hbm.pcs)) ∧
  (∀ (s : State) (m : Nat), issuedEntries s = [] → s.hbm.waiting = [] →
    completes (.timeout m true) s (fun t => stuck t 0x2C0 S.XBR_TIMEOUT ∧ keeps [.regs, .out, .events] s t ∧ sameRegs [0x2C0] s t))

/-- Reservations, commits, rewinds and the consumer side of rings. A reservation that fits takes the next units and stays
open; one above half the ring or without room changes no ring and is flagged. A commit after RESUME enters the chain,
takes the next ledger sequence number and commits the span; before RESUME it waits. A rewind of the newest reservation
gives its units back. An accepted advance moves READ to a record boundary; another one is refused and leaves READ.
READ loads a descriptor; a WRITE with a nonzero RESULT changes no ring, and one that makes a ring valid clears its
counts. A read of RNG_WM_POP takes the oldest entry. FLUSH makes a ring eligible. Where the spec can be read in more
than one way it follows log entry 57. (R349, R350, R351, R352, R354, R355, R433, R475, 16_dma_rings.md) -/
def Obligations.Rings : Prop :=
  (∀ (s : State) (ring m k : Nat) (r : Ring), ringOf s ring = r → r.valid = true → pageLive s rngPage = true → unarmed s rngPage →
    openSpan s ring m = none → k ≤ r.size / 128 → r.reserve - r.taken + k ≤ r.units → r.aboveNow = r.above →
    completes (.reserve ring [(m, k)]) s (fun t => ringOf t ring =
      { r with reserve := r.reserve + k, spans := r.spans ++ [⟨r.reserve, k, .opened, m, none⟩] } ∧
      (∀ j, j ≠ ring → ringOf t j = ringOf s j) ∧ keeps [.rng] s t)) ∧
  (∀ (s : State) (ring m k : Nat) (r : Ring), ringOf s ring = r → r.valid = true → pageLive s rngPage = true → unarmed s rngPage →
    openSpan s ring m = none → (r.size / 128 < k ∨ r.units < r.reserve - r.taken + k) → r.aboveNow = r.above →
    completes (.reserve ring [(m, k)]) s (fun t => t.rng = s.rng ∧
      (r.size / 128 < k → stuck t rngPage S.RNG_TOO_BIG) ∧ (k ≤ r.size / 128 → stuck t rngPage S.RNG_NO_ROOM) ∧
      keeps [.regs, .out, .events] s t ∧ sameRegs [rngPage] s t)) ∧
  (∀ (s s1 : State) (q : CommitReq) (p : RingSpan) (c : LdgCommit), openSpan s q.ring q.producer = some p → p.len = recordUnits q.payload.length →
    commitOf s q.ring p.start q.producer q.rtype q.die q.payload = c →
    writePieces (recordPieces c 0 (recordUnits q.payload.length * 64)) (producerBytes c) s = (false, s1) → ldgOpen s1 = true →
    completes (.commit [q]) s (fun t => ldgNext t = (ldgNext s1 + 1) % 2 ^ 64 ∧
      regsFrom t ldgPage R.LDG_CHAIN 8 = wordsOf 8 (sha3_512 (ldgChain s1 ++ committedHeader s1 c ++ sha3_512 q.payload)) ∧
      (∃ x ∈ (ringOf t q.ring).spans, x.start = p.start ∧ x.st = .committed) ∧ counted s1 t ldgPage R.LDG_CNT 0 1)) ∧
  (∀ (s s1 : State) (q : CommitReq) (p : RingSpan) (c : LdgCommit), openSpan s q.ring q.producer = some p → p.len = recordUnits q.payload.length →
    commitOf s q.ring p.start q.producer q.rtype q.die q.payload = c →
    writePieces (recordPieces c 0 (recordUnits q.payload.length * 64)) (producerBytes c) s = (false, s1) → ldgOpen s1 = false →
    completes (.commit [q]) s (fun t => t.ldg.waiting = s1.ldg.waiting ++ [c] ∧ openSpan t q.ring q.producer ≠ some p ∧
      (∃ x ∈ (ringOf t q.ring).spans, x.start = p.start ∧ x.st = .entered) ∧ reg t ldgPage R.LDG_SEQ = reg s1 ldgPage R.LDG_SEQ)) ∧
  (∀ (s : State) (ring m : Nat) (p x : RingSpan) (l : List RingSpan), openSpan s ring m = some p → (ringOf s ring).spans = l ++ [p] →
    l.getLast? = some x → x.st = .committed → x.start + x.len = p.start → (∀ y ∈ l, y.start ≠ p.start) → (ringOf s ring).visible ≤ p.start →
    completes (.rewind ring m) s (fun t => (ringOf t ring).reserve = p.start ∧ openSpan t ring m = l.find? (fun y => decide (y.st = .opened ∧ y.producer = m)) ∧
      (∀ j, j ≠ ring → ringOf t j = ringOf s j))) ∧
  (∀ (s : State) (ring m : Nat), openSpan s ring m = none → completes (.rewind ring m) s (fun t => t = s)) ∧
  (∀ (s : State) (m ring : Nat) (v : Word) (r : Ring) (p : RingSpan), judge s m rngPage R.RNG_ADVANCE 8 v = .ok → fieldOf v 0 18 = ring →
    unarmed s rngPage → ringOf s ring = r → r.valid = true → r.consumer = 1 → r.oldest = some p → p.start = r.taken → p.len ≠ 0 →
    fieldOf v 32 32 = p.len →
    completes (.rngAdvance m v) s (fun t => (ringOf t ring).taken = r.pass.taken ∧ (ringOf t ring).spans = r.pass.spans ∧
      (r.spans = [p] → (ringOf t ring).taken = p.start + p.len) ∧ (∀ j, j ≠ ring → ringOf t j = ringOf s j) ∧ t.wst = 0)) ∧
  (∀ (s : State) (m ring : Nat) (v : Word), judge s m rngPage R.RNG_ADVANCE 8 v = .ok → fieldOf v 0 18 = ring → unarmed s rngPage →
    ((ringOf s ring).valid = false ∨ (ringOf s ring).consumer = 0 ∨
      advanceBy (ringOf s ring) ((ringOf s ring).taken + fieldOf v 32 32) ((ringOf s ring).spans.length + 1) = none) →
    completes (.rngAdvance m v) s (fun t => t.rng = s.rng ∧ stuck t rngPage S.RNG_ADVANCE_REFUSED ∧ t.wst = 5 ∧
      keeps [.regs, .out, .events, .wst] s t ∧ sameRegs [rngPage] s t)) ∧
  (∀ (s : State) (m ring : Nat) (v : Word), judge s m rngPage R.RNG_CTRL 8 (v ||| 1) = .ok → bitOf v 1 = false →
    fld s rngPage F.RNG_ADDR_RING = ring →
    completes (.rngRead m v) s (fun t => regsFrom t rngPage R.RNG_DATA 8 = ringWords (ringOf s ring) ∧ fld t rngPage F.RNG_CTRL_RESULT = 0 ∧
      keeps [.regs, .wst] s t ∧ sameRegs [rngPage] s t)) ∧
  (∀ (s : State) (m ring k : Nat) (v : Word) (new : Ring), judge s m rngPage R.RNG_CTRL 8 (v ||| 2) = .ok → bitOf v 0 = false →
    fld s rngPage F.RNG_ADDR_RING = ring →
    new = { ringOf s ring with w0 := reg s rngPage R.RNG_DATA, w1 := reg s rngPage (R.RNG_DATA + 8), w2 := reg s rngPage (R.RNG_DATA + 16), w3 := reg s rngPage (R.RNG_DATA + 24) } →
    ringCheck (s.dma.chans.any (fun c => decide (c.2.flight = some ring))) (ringOf s ring) new = k → k ≠ 0 →
    completes (.rngWrite m v) s (fun t => fld t rngPage F.RNG_CTRL_RESULT = k ∧ t.rng = s.rng ∧ stuck t rngPage S.CFG_REFUSED ∧
      keeps [.regs, .out, .events, .wst] s t ∧ sameRegs [rngPage] s t)) ∧
  (∀ (s : State) (m ring : Nat) (v : Word) (new : Ring), judge s m rngPage R.RNG_CTRL 8 (v ||| 2) = .ok → bitOf v 0 = false →
    fld s rngPage F.RNG_ADDR_RING = ring → (ringOf s ring).valid = false → new.valid = true →
    new = { ringOf s ring with w0 := reg s rngPage R.RNG_DATA, w1 := reg s rngPage (R.RNG_DATA + 8), w2 := reg s rngPage (R.RNG_DATA + 16), w3 := reg s rngPage (R.RNG_DATA + 24) } →
    ringCheck (s.dma.chans.any (fun c => decide (c.2.flight = some ring))) (ringOf s ring) new = 0 →
    ldgOpen s = true → s.ldg.pendingCkpt = none → s.pwr.used = none →
    completes (.rngWrite m v) s (fun t => fld t rngPage F.RNG_CTRL_RESULT = 0 ∧ t.wst = 0 ∧
      ringOf t ring = { new with reserve := 0, visible := 0, taken := 0, spans := [], rewinds := 0, above := false } ∧
      (∀ j, j ≠ ring → ringOf t j = ringOf s j) ∧ t.dma = s.dma ∧ t.ldg = s.ldg ∧ t.mem = s.mem)) ∧
  (∀ (s : State) (n : Nat) (a : Bool) (l : List (Nat × Bool)), pageGated s rngPage = false → s.rng.wm = (n, a) :: l → n < 262144 →
    completes .rngWmPop s (fun t => fieldOf t.rd 0 18 = n ∧ bitOf t.rd 18 = a ∧ bitOf t.rd 19 = true ∧ t.rng.wm = l ∧
      t.rng.rings = s.rng.rings ∧ keeps [.rd, .rng] s t)) ∧
  (∀ (s : State) (ring : Nat) (p : RingSpan), (ringOf s ring).oldest = some p → (ringOf s ring).flushUs ≠ 0 →
    completes (.flush ring) s (fun t => ringEligible t ring = true ∧ keeps [.mono, .dev] s t)) ∧
  (∀ (s : State) (ring : Nat) (a b : Nat × Nat), sortBy (reserveFirst s ring) [a, b] = [a, b] →
    completes (.reserve ring [a, b]) s (fun t => t = evalAbove ring (reserveOne ring b (reserveOne ring a s)))) ∧
  (∀ (s : State) (ring m k : Nat), ((openSpan s ring m).isSome = true ∨ (ringOf s ring).valid = false ∨ pageGated s rngPage = true) →
    (ringOf s ring).aboveNow = (ringOf s ring).above →
    completes (.reserve ring [(m, k)]) s (fun t => t = s) ∧ completes (.reserve ring []) s (fun t => t = s)) ∧
  (∀ (s : State) (ring m k : Nat) (r : Ring), ringOf s ring = r → r.valid = true → pageGated s rngPage = false →
    flag s rngPage F.PAGE_CTRL_ENABLE = false → unarmed s rngPage → openSpan s ring m = none → r.aboveNow = r.above →
    completes (.reserve ring [(m, k)]) s (fun t => t.rng = s.rng ∧ stuck t rngPage (if r.size / 128 < k then S.RNG_TOO_BIG else S.RNG_NO_ROOM))) ∧
  (∀ (s : State) (q : CommitReq), (∀ p, openSpan s q.ring q.producer = some p → p.len ≠ recordUnits q.payload.length) →
    (ringOf s q.ring).aboveNow = (ringOf s q.ring).above → completes (.commit [q]) s (fun t => t = s)) ∧
  (∀ (s : State) (q r : CommitReq), q.producer ≤ r.producer →
    completes (.commit [q, r]) s (fun t => t = evalAbove r.ring (evalAbove q.ring (commitOne r (commitOne q s))))) ∧
  (∀ (s s1 : State) (q : CommitReq) (p : RingSpan) (c : LdgCommit), openSpan s q.ring q.producer = some p → p.len = recordUnits q.payload.length →
    commitOf s q.ring p.start q.producer q.rtype q.die q.payload = c →
    writePieces (recordPieces c 0 (recordUnits q.payload.length * 64)) (producerBytes c) s = (true, s1) →
    completes (.commit [q]) s (fun t => t = evalAbove q.ring (ringRewind q.ring p.start s1))) ∧
  (∀ (s : State) (m ring : Nat) (v : Word) (new : Ring), judge s m rngPage R.RNG_CTRL 8 (v ||| 2) = .ok → bitOf v 0 = false →
    fld s rngPage F.RNG_ADDR_RING = ring → (ringOf s ring).valid = true → new.valid = true →
    new = { ringOf s ring with w0 := reg s rngPage R.RNG_DATA, w1 := reg s rngPage (R.RNG_DATA + 8), w2 := reg s rngPage (R.RNG_DATA + 16), w3 := reg s rngPage (R.RNG_DATA + 24) } →
    ringCheck (s.dma.chans.any (fun c => decide (c.2.flight = some ring))) (ringOf s ring) new = 0 → s.ldg.pendingCkpt = none →
    s.pwr.used = none → ldgOpen s = true →
    completes (.rngWrite m v) s (fun t => fld t rngPage F.RNG_CTRL_RESULT = 0 ∧ t.wst = 0 ∧ (ringOf t ring).reserve = (ringOf s ring).reserve ∧
      (ringOf t ring).visible = (ringOf s ring).visible ∧ (ringOf t ring).taken = (ringOf s ring).taken ∧ (ringOf t ring).spans = (ringOf s ring).spans ∧
      (ringOf t ring).w2 = new.w2 ∧ (ringOf t ring).w3 = new.w3 ∧ (∀ j, j ≠ ring → ringOf t j = ringOf s j) ∧ t.mem = s.mem)) ∧
  (∀ (s : State) (m ring : Nat) (v : Word) (new : Ring), judge s m rngPage R.RNG_CTRL 8 (v ||| 2) = .ok → bitOf v 0 = false →
    fld s rngPage F.RNG_ADDR_RING = ring → new.valid = false →
    new = { ringOf s ring with w0 := reg s rngPage R.RNG_DATA, w1 := reg s rngPage (R.RNG_DATA + 8), w2 := reg s rngPage (R.RNG_DATA + 16), w3 := reg s rngPage (R.RNG_DATA + 24) } →
    ringCheck (s.dma.chans.any (fun c => decide (c.2.flight = some ring))) (ringOf s ring) new = 0 → s.ldg.pendingCkpt = none →
    s.pwr.used = none → ldgOpen s = true →
    completes (.rngWrite m v) s (fun t => fld t rngPage F.RNG_CTRL_RESULT = 0 ∧ t.wst = 0 ∧ (ringOf t ring).valid = false ∧ (ringOf t ring).spans = [] ∧
      (ringDiscards (ringOf s ring) = true → stuck t rngPage S.RNG_DISCARDED) ∧ (∀ j, j ≠ ring → ringOf t j = ringOf s j) ∧ t.mem = s.mem)) ∧
  (∀ (s : State) (ring : Nat), ((ringOf s ring).oldest = none ∨ (ringOf s ring).flushUs = 0) → completes (.flush ring) s (fun t => t = s)) ∧
  (∀ (s : State), (pageGated s rngPage = true ∨ s.rng.wm = []) →
    completes .rngWmPop s (fun t => t.rd = 0 ∧ keeps [.rd] s t))

/-- Enabling, copying and draining by DMA channels. EN makes a COPY channel idle with its positions at 0; clearing it
makes the channel OFF, and the counts stay where no transfer is cut. GO starts the chain at the descriptor address. A
descriptor with a fault halts the channel with its cause before any byte moves; a good one copies its lines, and the
last one completes the chain. A drained record goes to the buffer, WP covers it and READ passes it; one longer than
the buffer halts the channel, one that does not fit now waits. A write of DMA_CH_RD outside its range is refused.
Where the spec can be read in more than one way it follows log entry 58. (R357, R358, R359, R360, R361, R362, R363,
16_dma_rings.md) -/
def Obligations.DmaChannels : Prop :=
  (∀ (s : State) (m ch : Nat) (v : Word) (cut : Option Nat), ch < 64 → judge s m (dmaPage ch) (dmaOff R.DMA_CH_CTRL ch) 8 v = .ok →
    dmaEn s ch = false → bitOf v 0 = true → bitOf v 1 = false → bitOf v 2 = false → bitOf v 3 = false →
    completes (.dmaChEn m ch v cut) s (fun t => dmaEn t ch = true ∧ dmaDrain t ch = false ∧ dmaState t ch = 1 ∧ dmaChan t ch = {} ∧
      reg t (dmaPage ch) (dmaOff R.DMA_CH_RD ch) = 0 ∧ t.wst = 0 ∧ keeps [.dma, .regs, .wst] s t ∧ sameRegs [dmaPage ch] s t)) ∧
  (∀ (s : State) (m ch : Nat) (v : Word), ch < 64 → judge s m (dmaPage ch) (dmaOff R.DMA_CH_CTRL ch) 8 v = .ok →
    dmaEn s ch = true → bitOf v 0 = false → bitOf v 2 = false → bitOf v 3 = false → (dmaChan s ch).flight = none →
    completes (.dmaChEn m ch v none) s (fun t => dmaEn t ch = false ∧ dmaState t ch = 0 ∧ dmaChan t ch = {} ∧ t.rng = s.rng ∧
      (∀ k, k < 3 → reg t (dmaPage ch) (dmaOff R.DMA_CH_CNT ch + 8 * k) = reg s (dmaPage ch) (dmaOff R.DMA_CH_CNT ch + 8 * k)) ∧
      keeps [.dma, .regs, .wst] s t ∧ sameRegs [dmaPage ch] s t)) ∧
  (∀ (s : State) (m ch : Nat) (v : Word), ch < 64 → judge s m (dmaPage ch) (dmaOff R.DMA_CH_CTRL ch) 8 (v ||| 4) = .ok →
    dmaEn s ch = true → dmaDrain s ch = false → bitOf v 0 = true → bitOf v 1 = false → bitOf v 3 = false → dmaState s ch = 1 →
    completes (.go m ch v) s (fun t => dmaState t ch = 2 ∧ (dmaChan t ch).chain = (reg s (dmaPage ch) (dmaOff R.DMA_CH_DESC ch)).toNat ∧
      t.wst = 0 ∧ keeps [.dma, .regs, .wst] s t ∧ sameRegs [dmaPage ch] s t)) ∧
  (∀ (s s1 : State) (ch k : Nat) (w : List Word) (host : List Byte) (err : Bool), ch < 64 → dmaEn s ch = true → dmaDrain s ch = false →
    dmaState s ch = 2 → pageLive s (dmaPage ch) = true → fetchDesc (dmaChan s ch).chain s = (some w, s1) → descCause false (dmaDesc w) = k → k ≠ 0 →
    completes (.copyDescriptor ch host err) s (fun t => dmaState t ch = 5 ∧ fld t (dmaPage ch) (F.DMA_CH_STATUS_CAUSE.chan ch) = k ∧
      stuck t (dmaPage ch) (8 + ch % 8) ∧ keeps [.regs, .out, .events] s1 t ∧ sameRegs [dmaPage ch] s1 t)) ∧
  (∀ (s s1 s2 : State) (ch n : Nat) (d : DmaDesc) (w : List Word) (host : List Byte) (r : HbmRead × State), ch < 64 → dmaEn s ch = true → dmaDrain s ch = false →
    dmaState s ch = 2 → pageLive s (dmaPage ch) = true → fetchDesc (dmaChan s ch).chain s = (some w, s1) → dmaDesc w = d →
    descCause false d = 0 → d.srcLine * d.srcLines = n →
    (if d.srcHost then (⟨host.take n ++ List.replicate (n - host.length) 0, false, false⟩, s1)
      else readPieces (linePieces d.src d.srcLine d.srcStride n (d.srcLines + 1) 0 n) s1) = r → r.1.poison = false → r.1.err = false →
    destWrite ch (decide (d.kind = 1)) (linePieces d.dst d.dstLine d.dstStride n (d.dstLines + 1) 0 n) r.1.bytes r.2 = (false, s2) →
    completes (.copyDescriptor ch host false) s (fun t => t.mem = s2.mem ∧ (dmaChan t ch).chain = (dmaChan s ch).chain + 64 ∧
      counted s2 t (dmaPage ch) (dmaOff R.DMA_CH_CNT ch) 0 n ∧
      (d.last = true → dmaState t ch = 4 ∧ stuck t (dmaPage ch) (24 + ch % 8)) ∧ keeps [.regs, .out, .events, .dma] s2 t ∧ sameRegs [dmaPage ch] s2 t)) ∧
  (∀ (s : State) (ch n : Nat) (p : RingSpan) (d : DmaDesc) (r : HbmRead × State), ch < 64 → unarmed s (dmaPage ch) → dmaEn s ch = true → dmaDrain s ch = true →
    dmaState s ch = 1 → pageLive s (dmaPage ch) = true → (dmaChan s ch).flight = none → nextRing s ch = some n → (ringOf s n).oldest = some p →
    dmaDesc (dmaChan s ch).desc = d → d.kind = 0 →
    recordBytes (setDmaChan ch { dmaChan s ch with last := some n } (setFld (dmaPage ch) (F.DMA_CH_STATUS_RING.chan ch) n s)) n p = r →
    r.1.poison = false → r.1.err = false →
    (d.dstLine * d.dstLines < p.len * 64 → completes (.recordTransfer ch false) s (fun t => dmaState t ch = 5 ∧
      fld t (dmaPage ch) (F.DMA_CH_STATUS_CAUSE.chan ch) = 6 ∧ stuck t (dmaPage ch) (8 + ch % 8) ∧ t.rng = s.rng ∧ t.mem = s.mem)) ∧
    (p.len * 64 ≤ d.dstLine * d.dstLines → (reg s (dmaPage ch) (dmaOff R.DMA_CH_RD ch)).toNat + d.dstLine * d.dstLines < (dmaChan s ch).wp + p.len * 64 →
      completes (.recordTransfer ch false) s (fun t => dmaState t ch = 3 ∧ t.rng = s.rng ∧ t.mem = s.mem ∧ (dmaChan t ch).wp = (dmaChan s ch).wp)) ∧
    (p.len * 64 ≤ d.dstLine * d.dstLines → (dmaChan s ch).wp + p.len * 64 ≤ (reg s (dmaPage ch) (dmaOff R.DMA_CH_RD ch)).toNat + d.dstLine * d.dstLines →
      completes (.recordTransfer ch false) s (fun t =>
        (dmaState t ch = 1 → (dmaChan t ch).wp = (dmaChan s ch).wp + p.len * 64 ∧ (ringOf t n).taken = (ringOf s n).pass.taken ∧
          counted s t (dmaPage ch) (dmaOff R.DMA_CH_CNT ch) 1 1) ∧
        (dmaState t ch ≠ 1 → dmaState t ch = 5 ∧ fld t (dmaPage ch) (F.DMA_CH_STATUS_CAUSE.chan ch) = 4 ∧ t.rng = s.rng)))) ∧
  (∀ (s : State) (m ch : Nat) (v : Word), ch < 64 → judge s m (dmaPage ch) (dmaOff R.DMA_CH_RD ch) 8 v = .ok →
    ((reg s (dmaPage ch) (dmaOff R.DMA_CH_RD ch)).toNat ≤ v.toNat → v.toNat ≤ (dmaChan s ch).wp →
      completes (.dmaChRd m ch v) s (fun t => reg t (dmaPage ch) (dmaOff R.DMA_CH_RD ch) = v ∧ t.wst = 0 ∧ keeps [.regs, .wst] s t ∧ sameRegs [dmaPage ch] s t)) ∧
    (v.toNat < (reg s (dmaPage ch) (dmaOff R.DMA_CH_RD ch)).toNat ∨ (dmaChan s ch).wp < v.toNat →
      completes (.dmaChRd m ch v) s (fun t => stuck t (dmaPage ch) S.CFG_REFUSED ∧ t.wst = 5 ∧ t.dma = s.dma ∧
        reg t (dmaPage ch) (dmaOff R.DMA_CH_RD ch) = reg s (dmaPage ch) (dmaOff R.DMA_CH_RD ch) ∧ sameRegs [dmaPage ch] s t))) ∧
  (∀ (s : State) (m ch n : Nat) (v : Word), ch < 64 → judge s m (dmaPage ch) (dmaOff R.DMA_CH_CTRL ch) 8 v = .ok →
    dmaEn s ch = true → bitOf v 0 = false → bitOf v 2 = false → bitOf v 3 = false →
    completes (.dmaChEn m ch v (some n)) s (fun t => dmaEn t ch = false ∧ dmaState t ch = 0 ∧ dmaChan t ch = {} ∧ t.rng = s.rng ∧ t.wst = 0)) ∧
  (∀ (s : State) (m ch : Nat) (v : Word) (cut : Option Nat), ch < 64 → judge s m (dmaPage ch) (dmaOff R.DMA_CH_CTRL ch) 8 v = .ok →
    dmaEn s ch = true → bitOf v 0 = false → bitOf v 2 = false → bitOf v 3 = false → (dmaChan s ch).flight.isSome = true →
    completes (.dmaChEn m ch v cut) s (fun t => dmaEn t ch = false ∧ dmaState t ch = 0 ∧ dmaChan t ch = {} ∧ t.rng = s.rng ∧ t.wst = 0)) ∧
  (∀ (s s1 : State) (m ch : Nat) (v : Word) (cut : Option Nat) (w : List Word), ch < 64 → judge s m (dmaPage ch) (dmaOff R.DMA_CH_CTRL ch) 8 v = .ok →
    dmaEn s ch = false → bitOf v 0 = true → bitOf v 1 = true → bitOf v 2 = false → bitOf v 3 = false →
    fetchDesc (reg s (dmaPage ch) (dmaOff R.DMA_CH_DESC ch)).toNat (setDmaChan ch {} (setReg (dmaPage ch) (dmaOff R.DMA_CH_RD ch) 0
      (setReg (dmaPage ch) (dmaOff R.DMA_CH_STATUS ch) 1 (storePlain (dmaPage ch) (dmaOff R.DMA_CH_CTRL ch) v s)))) = (some w, s1) →
    completes (.dmaChEn m ch v cut) s (fun t => dmaEn t ch = true ∧ dmaDrain t ch = true ∧
      (descCause true (dmaDesc w) = 0 → dmaState t ch = 1 ∧ (dmaChan t ch).desc = w) ∧
      (descCause true (dmaDesc w) ≠ 0 → dmaState t ch = 5 ∧ stuck t (dmaPage ch) (8 + ch % 8) ∧
        fld t (dmaPage ch) (F.DMA_CH_STATUS_CAUSE.chan ch) = descCause true (dmaDesc w)))) ∧
  (∀ (s : State) (m ch : Nat) (v : Word) (cut : Option Nat), ch < 64 → judge s m (dmaPage ch) (dmaOff R.DMA_CH_CTRL ch) 8 v = .ok →
    dmaEn s ch = true → bitOf v 0 = true → bitOf v 1 ≠ dmaDrain s ch →
    completes (.dmaChEn m ch v cut) s (fun t => stuck t (dmaPage ch) S.CFG_REFUSED ∧ t.wst = 5 ∧ dmaEn t ch = true ∧
      dmaDrain t ch = dmaDrain s ch ∧ t.dma = s.dma ∧ keeps [.regs, .out, .events, .wst] s t ∧ sameRegs [dmaPage ch] s t)) ∧
  (∀ (s : State) (m ch : Nat) (v : Word) (cut : Option Nat), ch < 64 → judge s m (dmaPage ch) (dmaOff R.DMA_CH_CTRL ch) 8 v = .ok →
    dmaEn s ch = bitOf v 0 → (bitOf v 0 = true → bitOf v 1 = dmaDrain s ch) → bitOf v 2 = false →
    completes (.dmaChEn m ch v cut) s (fun t => dmaEn t ch = bitOf v 0 ∧ dmaDrain t ch = bitOf v 1 ∧ t.dma = s.dma ∧ t.wst = 0 ∧
      (∀ k, k < 3 → reg t (dmaPage ch) (dmaOff R.DMA_CH_CNT ch + 8 * k) =
        if bitOf v 3 then 0 else reg s (dmaPage ch) (dmaOff R.DMA_CH_CNT ch + 8 * k)) ∧ keeps [.regs, .wst] s t ∧ sameRegs [dmaPage ch] s t)) ∧
  (∀ (s : State) (m ch : Nat) (v : Word), ch < 64 → judge s m (dmaPage ch) (dmaOff R.DMA_CH_CTRL ch) 8 (v ||| 4) = .ok → bitOf v 0 = true →
    dmaEn s ch = true → bitOf v 1 = dmaDrain s ch → bitOf v 3 = false → (dmaDrain s ch = true ∨ (dmaState s ch ≠ 1 ∧ dmaState s ch ≠ 4)) →
    completes (.go m ch v) s (fun t => t.dma = s.dma ∧ dmaState t ch = dmaState s ch ∧ t.wst = 0 ∧ keeps [.regs, .wst] s t ∧ sameRegs [dmaPage ch] s t)) ∧
  (∀ (s : State) (ch : Nat) (host : List Byte) (err : Bool), (dmaEn s ch = false ∨ dmaDrain s ch = true ∨ dmaState s ch ≠ 2 ∨ pageLive s (dmaPage ch) = false) →
    completes (.copyDescriptor ch host err) s (fun t => t = s)) ∧
  (∀ (s s1 : State) (ch : Nat) (host : List Byte) (err : Bool), ch < 64 → dmaEn s ch = true → dmaDrain s ch = false →
    dmaState s ch = 2 → pageLive s (dmaPage ch) = true → fetchDesc (dmaChan s ch).chain s = (none, s1) →
    completes (.copyDescriptor ch host err) s (fun t => dmaState t ch = 5 ∧ fld t (dmaPage ch) (F.DMA_CH_STATUS_CAUSE.chan ch) = 5 ∧
      stuck t (dmaPage ch) (8 + ch % 8) ∧ keeps [.regs, .out, .events] s1 t ∧ sameRegs [dmaPage ch] s1 t)) ∧
  (∀ (s s1 : State) (ch : Nat) (d : DmaDesc) (w : List Word) (host : List Byte), ch < 64 → dmaEn s ch = true → dmaDrain s ch = false →
    dmaState s ch = 2 → pageLive s (dmaPage ch) = true → fetchDesc (dmaChan s ch).chain s = (some w, s1) → dmaDesc w = d →
    descCause false d = 0 → d.srcHost = true →
    completes (.copyDescriptor ch host true) s (fun t => dmaState t ch = 5 ∧ fld t (dmaPage ch) (F.DMA_CH_STATUS_CAUSE.chan ch) = 5 ∧
      stuck t (dmaPage ch) (8 + ch % 8) ∧ t.mem = s1.mem ∧ keeps [.regs, .out, .events] s1 t ∧ sameRegs [dmaPage ch] s1 t)) ∧
  (∀ (s : State) (ch : Nat) (err : Bool), (dmaEn s ch = false ∨ dmaDrain s ch = false ∨ (dmaState s ch ≠ 1 ∧ dmaState s ch ≠ 3) ∨
      (dmaChan s ch).flight.isSome = true ∨ pageLive s (dmaPage ch) = false ∨ nextRing s ch = none) →
    completes (.recordTransfer ch err) s (fun t => t = s)) ∧
  (∀ (s : State) (ch n : Nat) (err : Bool) (p : RingSpan) (r : HbmRead × State), ch < 64 → unarmed s (dmaPage ch) → dmaEn s ch = true → dmaDrain s ch = true →
    (dmaState s ch = 1 ∨ dmaState s ch = 3) → pageLive s (dmaPage ch) = true → (dmaChan s ch).flight = none → nextRing s ch = some n →
    (ringOf s n).oldest = some p →
    recordBytes (setDmaChan ch { dmaChan s ch with last := some n } (setFld (dmaPage ch) (F.DMA_CH_STATUS_RING.chan ch) n s)) n p = r →
    (r.1.poison = true ∨ r.1.err = true) →
    completes (.recordTransfer ch err) s (fun t => dmaState t ch = 1 ∧ stuck t (dmaPage ch) (16 + ch % 8) ∧ t.mem = r.2.mem ∧
      (ringOf t n).taken = (ringOf s n).pass.taken)) ∧
  (∀ (s s1 s2 : State) (ch n : Nat) (err : Bool) (p : RingSpan) (d : DmaDesc) (b : List Byte), ch < 64 → unarmed s (dmaPage ch) → dmaEn s ch = true →
    dmaDrain s ch = true → (dmaState s ch = 1 ∨ dmaState s ch = 3) → pageLive s (dmaPage ch) = true → (dmaChan s ch).flight = none →
    nextRing s ch = some n → (ringOf s n).oldest = some p → dmaDesc (dmaChan s ch).desc = d →
    setDmaChan ch { dmaChan s ch with last := some n } (setFld (dmaPage ch) (F.DMA_CH_STATUS_RING.chan ch) n s) = s1 →
    recordBytes s1 n p = (⟨b, false, false⟩, s2) →
    completes (.recordTransfer ch err) s (fun t =>
      t = (if d.kind = 2 then (if flowReady s2 d.port d.flow then recordMoved ch n b.length (sendRecord d.port d.flow b s2) else setDmaState ch 3 s2)
        else if d.kind = 3 then sendRecordPackets ch d.port d.ring b (setDmaState ch 2 (setDmaChan ch { dmaChan s2 ch with flight := some n } s2))
        else drainBuffer ch n d p b err s2)))

/-- Ethernet frames, sample datagrams, pauses, low-power idle, links and flows. A frame with a bad FCS is counted and
dropped; one of no consumer is counted by classification, flagged when truncated; an unprotected one is dropped under
STRICT. A sample datagram enters the buffer and moves its sender's SEQ, or is dropped when the buffer is full; the
ingest master takes the oldest one. A pause stops its class until its time ends or the watchdog releases it; a zero
time ends it. A standing pause of the buffer is repeated after 32,768 quanta. An idle management port enters low-power
idle, and LLDPDUs end it. A link that goes down clears its LINK bit and, at the retry threshold, retires the worst
lane. Flow entries are read and written by RESULT. A sub-port whose lanes are not retired comes up. Where the spec can
be read in more than one way it follows log entries 60, 61 and 62. (R366, R367, R368, R369, R370, R373, R375, R376,
R377, R378, R381, 17_ethernet.md) -/
def Obligations.EthernetPorts : Prop :=
  (∀ (s : State) (p sub : Nat) (f : EthRx), p < 6 → subUp s p sub = true → f.fcsGood = false →
    completes (.frameReceive p sub f) s (fun t => counted s t (ethPage p) R.ETH_CNT 2 1 ∧ keeps [.regs] s t ∧ sameRegs [ethPage p] s t)) ∧
  (∀ (s : State) (p sub : Nat) (f : EthRx), p < 6 → subUp s p sub = true → f.fcsGood = true →
    frameContent (framePart (fld s (ethPage p) F.ETH_CFG_MAX_FRAME) f) = .other → unarmed s (ethPage p) →
    fld s (ethPage p) F.ETH_MACSEC_VALIDATE = 0 →
    completes (.frameReceive p sub f) s (fun t => counted s t (ethPage p) R.ETH_CNT 0 1 ∧ counted s t (ethPage p) R.ETH_CNT 7 1 ∧
      (fld s (ethPage p) F.ETH_CFG_MAX_FRAME < f.len → stuck t (ethPage p) S.ETH_TRUNC ∧ counted s t (ethPage p) R.ETH_CNT 3 1) ∧
      (f.len ≤ fld s (ethPage p) F.ETH_CFG_MAX_FRAME → counted s t (ethPage p) R.ETH_CNT 3 0) ∧
      keeps [.regs, .out, .events] s t ∧ sameRegs [ethPage p] s t)) ∧
  (∀ (s : State) (p sub : Nat) (f : EthRx) (c : EthContent), p < 6 → subUp s p sub = true → f.fcsGood = true → f.sec = none →
    frameContent (framePart (fld s (ethPage p) F.ETH_CFG_MAX_FRAME) f) = c → secExempt s p c = false → fld s (ethPage p) F.ETH_MACSEC_VALIDATE = 2 → unarmed s (ethPage p) →
    completes (.frameReceive p sub f) s (fun t => counted s t (ethPage p) R.ETH_CNT 11 1 ∧ stuck t (ethPage p) S.ETH_MACSEC_FAIL ∧
      counted s t (ethPage p) R.ETH_CNT 5 0 ∧ keeps [.regs, .out, .events] s t ∧ sameRegs [ethPage p] s t)) ∧
  (∀ (s : State) (p sub : Nat) (f : EthRx) (x : UdpRx) (e : EthSender), p < 4 → subUp s p sub = true → f.fcsGood = true → frameContent f.bytes = .udp x → ptpTakes s p x = false →
    fld s (ethPage p) F.ETH_MACSEC_VALIDATE = 0 → unarmed s (ethPage p) → f.len ≤ fld s (ethPage p) F.ETH_CFG_MAX_FRAME →
    localAddr s p sub x.ipv6 x.dst = true → x.port = fld s (ethPage p) F.ETH_UDP_SAMPLE_PORT → x.fragment = false → x.cksum ≠ 2 →
    (x.ipv6 = true → x.cksum ≠ 1) → samplePrefix x.payload = true → fld s (ethPage p) F.ETH_PFC_MODE = 0 →
    (ethPort s p).senders.find? (fun y => decide (y.src = x.src)) = some e →
    (sampleFill s p + x.payload.length ≤ 4 * 2 ^ 20 → completes (.frameReceive p sub f) s (fun t =>
      (ethPort t p).buffer = (ethPort s p).buffer ++ [⟨x.payload, false⟩] ∧
      (ethPort t p).senders.head? = some ⟨x.src, ofLeBytes ((x.payload.drop 4).take 4)⟩ ∧ counted s t (ethPage p) R.ETH_CNT 5 1 ∧
      counted s t (ethPage p) R.ETH_CNT 6 (ofLeBytes ((x.payload.drop 4).take 4) - e.seq - 1) ∧
      (e.seq + 1 < ofLeBytes ((x.payload.drop 4).take 4) → stuck t (ethPage p) S.ETH_SEQ_GAP) ∧
      keeps [.regs, .eth, .out, .events] s t ∧ sameRegs [ethPage p] s t)) ∧
    (4 * 2 ^ 20 < sampleFill s p + x.payload.length → completes (.frameReceive p sub f) s (fun t =>
      counted s t (ethPage p) R.ETH_CNT 4 1 ∧ stuck t (ethPage p) S.ETH_RX_OVERFLOW ∧ keeps [.regs, .out, .events] s t ∧ sameRegs [ethPage p] s t))) ∧
  (∀ (s : State) (p : Nat), (ethPort s p).buffer = [] → completes (.sampleDatagram p) s (fun t => t = s)) ∧
  (∀ (s s1 : State) (p e : Nat) (d : EthDatagram) (l : List EthDatagram), (ethPort s p).buffer = d :: l → fld s (ethPage p) F.ETH_PFC_MODE = 0 →
    s1 = setEthPort p { ethPort s p with buffer := l } s → (d.payload.getD 3 0).toNat = 1 → 16 ≤ (d.payload.drop 8).length →
    unarmed s (sprPage (stLane s1 e)) → headerBad (blockHeader (d.payload.drop 8)) = false → blockBytes (blockHeader (d.payload.drop 8)) ≤ (d.payload.drop 8).length →
    portEntry s1 p (blockHeader (d.payload.drop 8)).stream = some e →
    fld (blockReceive (sprPage (stLane s1 e)) (portEntry s1 p) ((d.payload.drop 8).take (blockBytes (blockHeader (d.payload.drop 8)))) s1) (ethPage p) F.ETH_PFC_MODE = 0 →
    completes (.sampleDatagram p) s (fun t => t =
      blockReceive (sprPage (stLane s1 e)) (portEntry s1 p) ((d.payload.drop 8).take (blockBytes (blockHeader (d.payload.drop 8)))) s1)) ∧
  (∀ (s : State) (p sub c n : Nat), p < 6 → sub < 4 → c < 8 → subUp s p sub = true → fld s (ethPage p) F.ETH_PFC_MODE = 2 → (ethPort s p).queue = [] →
    (ethPause s p sub c).released = false →
    (0 < n → completes (.pauseFrame p sub true [(c, n)]) s (fun t => (ethPause t p sub c).until' = some (s.mono + n * 512 * 65536 / subRate s p) ∧
      (classPaused s p sub c = false → (ethPause t p sub c).since = s.mono) ∧
      (classPaused s p sub c = true → (ethPause t p sub c).since = (ethPause s p sub c).since) ∧ counted s t (ethPage p) R.ETH_CNT 8 1 ∧
      (∀ k, k < 8 → k ≠ c → ethPause t p sub k = ethPause s p sub k) ∧ keeps [.eth, .regs] s t ∧ sameRegs [ethPage p] s t)) ∧
    (n = 0 → completes (.pauseFrame p sub true [(c, n)]) s (fun t => classPaused t p sub c = false ∧ counted s t (ethPage p) R.ETH_CNT 8 1 ∧
      (∀ k, k < 8 → k ≠ c → ethPause t p sub k = ethPause s p sub k) ∧ keeps [.eth, .regs] s t ∧ sameRegs [ethPage p] s t))) ∧
  (∀ (s : State) (p sub c n : Nat), p < 6 → sub < 4 → c < 8 → subUp s p sub = true → fld s (ethPage p) F.ETH_PFC_MODE = 2 → (ethPort s p).queue = [] →
    (ethPause s p sub c).released = true → 0 < n →
    completes (.pauseFrame p sub true [(c, n)]) s (fun t => (∀ k, ethPause t p sub k = ethPause s p sub k) ∧ counted s t (ethPage p) R.ETH_CNT 8 1 ∧
      keeps [.eth, .regs] s t ∧ sameRegs [ethPage p] s t)) ∧
  (∀ (s : State) (p sub c t0 : Nat), (ethPause s p sub c).until' = some t0 → (ethPort s p).queue = [] →
    completes (.pauseExpire p sub c) s (fun t => classPaused t p sub c = false ∧ (ethPause t p sub c).released = (ethPause s p sub c).released ∧
      t0 ≤ t.mono ∧ keeps [.eth, .mono, .dev] s t)) ∧
  (∀ (s : State) (p sub c : Nat), p < 6 → classPaused s p sub c = true → (ethPort s p).queue = [] →
    (watchdogAt s p sub c < (ethPause s p sub c).until'.getD 0 → completes (.pauseWd p sub c) s (fun t =>
      classPaused t p sub c = false ∧ (ethPause t p sub c).released = true ∧ stuck t (ethPage p) S.ETH_PAUSE_WD ∧
      counted s t (ethPage p) R.ETH_CNT 10 1 ∧ (ethPause s p sub c).since + fld s (ethPage p) F.ETH_PFC_WD_MS * msUnits ≤ t.mono ∧
      keeps [.eth, .regs, .out, .events, .mono, .dev] s t ∧ sameRegs [ethPage p] s t)) ∧
    ((ethPause s p sub c).until'.getD 0 ≤ watchdogAt s p sub c → completes (.pauseWd p sub c) s (fun t => t = s))) ∧
  (∀ (s : State) (p : Nat) (l : List Byte), p < 4 →
    l = pauseFrame (subMac s p 0) (decide (fld s (ethPage p) F.ETH_PFC_MODE = 2)) (fld s (ethPage p) F.ETH_PFC_SAMPLE_PCP) 0xFFFF → fld s (ethPage p) F.ETH_CFG_MODE = 0 → subUp s p 0 = true → fld s (ethPage p) F.ETH_PFC_MODE ≠ 0 →
    (ethPort s p).xoff = true → fld s (ethPage p) F.ETH_PFC_XON_KIB * 1024 < sampleFill s p →
    completes (.pauseRefresh p) s (fun t => t.out = ⟨.ethFrame, p, [0, fld s (ethPage p) F.ETH_PFC_SAMPLE_PCP, 0] ++
        (l ++ List.replicate (60 - l.length) 0).map (fun b : Byte => b.toNat)⟩ :: s.out ∧ counted s t (ethPage p) R.ETH_CNT 9 1 ∧
      (ethPort s p).xoffAt + 32768 * 512 * 65536 / subRate s p ≤ t.mono ∧ (ethPort t p).xoffAt = t.mono ∧ (ethPort t p).xoff = true ∧
      keeps [.eth, .regs, .out, .mono, .dev] s t ∧ sameRegs [ethPage p] s t)) ∧
  (∀ (s : State) (p : Nat), (ethPort s p).xoff = false ∨ fld s (ethPage p) F.ETH_PFC_MODE = 0 → completes (.pauseRefresh p) s (fun t => t = s)) ∧
  (∀ (s : State) (p : Nat), 4 ≤ p → p < 6 → subUp s p 0 = true → flag s (ethPage p) F.ETH_EEE_EN = true → (ethPort s p).queue = [] →
    flag s (ethPage p) F.ETH_STATUS_LPI = false →
    completes (.lpi p) s (fun t => flag t (ethPage p) F.ETH_STATUS_LPI = true ∧ counted s t (ethPage p) R.ETH_CNT 14 1 ∧
      (ethPort s p).sentAt + fld s (ethPage p) F.ETH_EEE_IDLE_US * usUnits ≤ t.mono ∧ keeps [.regs, .mono, .dev] s t ∧ sameRegs [ethPage p] s t)) ∧
  (∀ (s : State) (p : Nat) (l : List Byte), 4 ≤ p → p < 6 → subUp s p 0 = true → l = lldpFrame (subMac s p 0) (fld s (ethPage p) F.ETH_EEE_TW_TX_US) → (ethPort s p).queue = [] → classPaused s p 0 (pauseClass s p (fld s (ethPage p) F.ETH_PFC_CTRL_PCP)) = false →
    completes (.lldpdu p) s (fun t => t.out = ⟨.ethFrame, p, [0, fld s (ethPage p) F.ETH_PFC_CTRL_PCP, 0] ++ (l ++ List.replicate (60 - l.length) 0).map (fun b : Byte => b.toNat)⟩ :: s.out ∧
      (ethPort s p).lldpAt + 30 * secondUnits ≤ t.mono ∧ flag t (ethPage p) F.ETH_STATUS_LPI = false ∧ counted s t (ethPage p) R.ETH_CNT 1 1 ∧ keeps [.eth, .regs, .out, .mono, .dev] s t ∧ sameRegs [ethPage p] s t)) ∧
  (∀ (s : State) (p : Nat), p < 4 → completes (.lpi p) s (fun t => t = s) ∧ completes (.lldpdu p) s (fun t => t = s)) ∧
  (∀ (s : State) (p sub : Nat) (unc : List Nat), p < 6 → sub < 4 → subUp s p sub = true → (countRetry (ethPage p) s).2 = false →
    completes (.linkDown p sub unc) s (fun t => subUp t p sub = false ∧ stuck t (ethPage p) S.ETH_LINK_DOWN ∧
      (∀ f ∈ (ethPort t p).queue, f.sub ≠ sub) ∧ counted s t (ethPage p) R.ETH_CNT 13 (((List.range (portLanes p)).map (fun k => unc.getD k 0)).sum) ∧
      (∀ l, l < 4 → laneRetired t p l = laneRetired s p l) ∧ (∀ k, k < 4 → k ≠ sub → subUp t p k = subUp s p k) ∧
      keeps [.eth, .regs, .out, .events, .retry] s t ∧ sameRegs [ethPage p] s t)) ∧
  (∀ (s : State) (p sub l : Nat), p < 6 → sub < 4 → subUp s p sub = true → (countRetry (ethPage p) s).2 = true → l < portLanes p →
    worstEthLane s p ((List.range (portLanes p)).filter (fun k => !laneRetired s p k)) = some l →
    completes (.linkDown p sub []) s (fun t => laneRetired t p l = true ∧ (∀ k, k < 4 → k ≠ l → laneRetired t p k = laneRetired s p k) ∧
      (∀ k, k < subPorts s p → k < 4 → l ∈ subLanes s p k → subUp t p k = false) ∧ subUp t p sub = false ∧
      stuck t (ethPage p) S.ETH_LANE_RETIRED ∧ stuck t (ethPage p) S.PERMANENT ∧ stuck t (ethPage p) S.ETH_LINK_DOWN)) ∧
  (∀ (s : State) (m p : Nat) (v : Word), p < 6 → judge s m (ethPage p) R.ETH_FLOW_CTRL 8 (v ||| 1) = .ok → bitOf v 1 = false →
    completes (.ethFlowRead m p v) s (fun t =>
      (∀ k, k < 6 → reg t (ethPage p) (R.ETH_FLOW_DATA + 8 * k) = flowWord s p (fld s (ethPage p) F.ETH_FLOW_ADDR_FLOW) k) ∧
      fld t (ethPage p) F.ETH_FLOW_CTRL_RESULT = 0 ∧ t.wst = 0 ∧ keeps [.regs, .wst] s t ∧ sameRegs [ethPage p] s t)) ∧
  (∀ (s : State) (m p r : Nat) (v : Word) (w : List Word), p < 6 → judge s m (ethPage p) R.ETH_FLOW_CTRL 8 (v ||| 2) = .ok → bitOf v 0 = false →
    regsFrom s (ethPage p) R.ETH_FLOW_DATA 4 = w → flowResult s p (w.getD 0 0) (w.getD 1 0) (w.getD 2 0) (w.getD 3 0) = r →
    completes (.ethFlowWrite m p v) s (fun t => fld t (ethPage p) F.ETH_FLOW_CTRL_RESULT = r ∧ t.wst = 0 ∧
      (r = 0 → (∀ k, k < 4 → flowWord t p (fld s (ethPage p) F.ETH_FLOW_ADDR_FLOW) k = w.getD k 0) ∧
        (∀ k, k < 6144 → k / 6 ≠ fld s (ethPage p) F.ETH_FLOW_ADDR_FLOW ∨ 4 ≤ k % 6 →
          wtGet (ethPort t p).flows k = wtGet (ethPort s p).flows k)) ∧
      (r ≠ 0 → t.eth = s.eth ∧ stuck t (ethPage p) S.CFG_REFUSED) ∧
      keeps [.eth, .regs, .out, .events, .wst] s t ∧ sameRegs [ethPage p] s t)) ∧
  (∀ (s : State) (p sub : Nat), p < 6 → sub < 4 → pageLive s (ethPage p) = true → sub < subPorts s p →
    ((subLanes s p sub).any (laneRetired s p) = false → completes (.subportUp p sub) s (fun t => subUp t p sub = true ∧
      (∀ k, k ≠ sub → subUp t p k = subUp s p k) ∧ (∀ l, laneRetired t p l = laneRetired s p l) ∧ keeps [.regs] s t ∧ sameRegs [ethPage p] s t)) ∧
    ((subLanes s p sub).any (laneRetired s p) = true → completes (.subportUp p sub) s (fun t => t = s))) ∧
  (∀ (s : State) (p sub : Nat) (f : EthRx) (pfc : Bool) (l : List (Nat × Nat)), subUp s p sub = false →
    completes (.frameReceive p sub f) s (fun t => t = s) ∧ completes (.pauseFrame p sub pfc l) s (fun t => t = s)) ∧
  (∀ (s : State) (p sub c n : Nat), p < 6 → sub < 4 → subUp s p sub = true → fld s (ethPage p) F.ETH_PFC_MODE = 1 → (ethPort s p).queue = [] →
    (ethPause s p sub 0).released = false → 0 < n →
    completes (.pauseFrame p sub false [(c, n)]) s (fun t => (ethPause t p sub 0).until' = some (s.mono + n * 512 * 65536 / subRate s p) ∧
      counted s t (ethPage p) R.ETH_CNT 8 1 ∧ (∀ k, k < 8 → k ≠ 0 → ethPause t p sub k = ethPause s p sub k) ∧
      keeps [.eth, .regs] s t ∧ sameRegs [ethPage p] s t)) ∧
  (∀ (s : State) (p sub c n : Nat), p < 6 → sub < 4 → fld s (ethPage p) F.ETH_PFC_MODE ≠ 1 →
    completes (.pauseFrame p sub false [(c, n)]) s (fun t => (∀ k, ethPause t p sub k = ethPause s p sub k) ∧ keeps [.eth, .regs] s t ∧ sameRegs [ethPage p] s t)) ∧
  (∀ (s : State) (p sub : Nat), subUp s p sub = false → completes (.linkDown p sub []) s (fun t => t = s)) ∧
  (∀ (s : State) (p sub c : Nat), (ethPause s p sub c).until' = none → completes (.pauseExpire p sub c) s (fun t => t = s)) ∧
  (∀ (s : State) (p sub c : Nat), classPaused s p sub c = false → completes (.pauseWd p sub c) s (fun t => t = s)) ∧
  (∀ (s : State) (p sub : Nat), (pageLive s (ethPage p) = false ∨ subPorts s p ≤ sub) → completes (.subportUp p sub) s (fun t => t = s)) ∧
  (∀ (s : State) (p sub : Nat) (f : EthRx), p < 6 → subUp s p sub = true → f.fcsGood = true →
    completes (.frameReceive p sub f) s (fun t => counted s t (ethPage p) R.ETH_CNT 0 1 ∧ counted s t (ethPage p) R.ETH_CNT 2 0)) ∧
  (∀ (s : State) (p sub : Nat) (f : EthRx), p < 6 → subUp s p sub = true → f.fcsGood = true → unarmed s (ethPage p) →
    fld s (ethPage p) F.ETH_MACSEC_VALIDATE = 0 →
    completes (.frameReceive p sub f) s (fun t => t =
      classify p sub (decide (fld s (ethPage p) F.ETH_CFG_MAX_FRAME < f.len)) (frameContent (framePart (fld s (ethPage p) F.ETH_CFG_MAX_FRAME) f))
        (if fld s (ethPage p) F.ETH_CFG_MAX_FRAME < f.len
          then countK (ethPage p) R.ETH_CNT 3 1 (setSticky (ethPage p) S.ETH_TRUNC (countK (ethPage p) R.ETH_CNT 0 1 s))
          else countK (ethPage p) R.ETH_CNT 0 1 s))) ∧
  (∀ (s : State) (p sub c n : Nat) (l : List (Nat × Nat)), p < 6 → sub < 4 → c < 8 → subUp s p sub = true → fld s (ethPage p) F.ETH_PFC_MODE = 2 →
    (ethPort s p).queue = [] → (c, n) ∈ l → (∀ x ∈ l, x.1 % 8 = c → x = (c, n)) → (ethPause s p sub c).released = false → 0 < n →
    completes (.pauseFrame p sub true l) s (fun t => (ethPause t p sub c).until' = some (s.mono + n * 512 * 65536 / subRate s p) ∧
      (∀ k, k < 8 → (∀ x ∈ l, x.1 % 8 ≠ k) → ethPause t p sub k = ethPause s p sub k) ∧ counted s t (ethPage p) R.ETH_CNT 8 1 ∧
      keeps [.eth, .regs] s t ∧ sameRegs [ethPage p] s t))

/-- Control cycles, slew limiter, supervision and fail-safe state of field channels. Starting or restarting cycles begins
cycle 0 now; stopping them keeps the target. A cycle start counts, comes one period after the last, takes SETPOINT or
the alarm code as target and leaves the fail-safe state where no cause holds; under a cause it keeps the target and
the channel is in the fail-safe state; the watchdog and a detector trip are such causes. An update moves Y to the
target within STEP, else by RATE, and drives FAILSAFE_CODE in that state. A fault is declared at the 100th update with
its condition, none while high-impedance. FAILSAFE_ALL and a rail fault put every channel in its fail-safe state; the
rails' recovery ends that cause alone. Where the spec can be read in more than one way it follows log entries 63 and
64. (R383, R385, R386, R387, R388, R389, R390, R391, 18_field_outputs.md) -/
def Obligations.FieldChannels : Prop :=
  (∀ (s : State) (m c : Nat) (v : Word), c < 32 → judge s m (fldPage c) R.FLD_CH_CTRL 8 v = .ok →
    bitOf v 0 = true → bitOf v 1 = false → bitOf v 2 = false → flag s (fldPage c) F.FLD_CH_CTRL_RUN = false →
    completes (.fldRun m c v) s (fun t => flag t (fldPage c) F.FLD_CH_CTRL_RUN = true ∧ (fldChan t c).nextAt = s.mono ∧ t.wst = 0 ∧
      (fldCauses s c = 0 → fldFailed s c = false → fld t (fldPage c) F.FLD_CH_STATUS_STATE = 1) ∧
      (masterClaim s m ≤ latched s (fldPage c) → (dueClaims s (regAddr (fldPage c) R.FLD_CH_CTRL) = [] → t.mrk = s.mrk) ∧
        keeps [.regs, .field, .pins, .out, .events, .wst, .mrk] s t ∧ sameRegs [fldPage c, fldGlb] s t))) ∧
  (∀ (s : State) (m c : Nat) (v : Word), c < 32 → judge s m (fldPage c) R.FLD_CH_CTRL 8 v = .ok →
    bitOf v 0 = false → bitOf v 1 = false → bitOf v 2 = false →
    completes (.fldRun m c v) s (fun t => flag t (fldPage c) F.FLD_CH_CTRL_RUN = false ∧ fldChan t c = fldChan s c ∧ t.wst = 0 ∧
      (fldCauses s c = 0 → fldFailed s c = false → fld t (fldPage c) F.FLD_CH_STATUS_STATE = 0) ∧
      (masterClaim s m ≤ latched s (fldPage c) → (dueClaims s (regAddr (fldPage c) R.FLD_CH_CTRL) = [] → t.mrk = s.mrk) ∧
        keeps [.regs, .pins, .out, .events, .wst, .mrk] s t ∧ sameRegs [fldPage c, fldGlb] s t))) ∧
  (∀ (s : State) (m c : Nat) (v : Word), c < 32 → judge s m (fldPage c) R.FLD_CH_CTRL 8 (v ||| 2) = .ok →
    bitOf v 2 = false →
    completes (.restart m c v) s (fun t => flag t (fldPage c) F.FLD_CH_CTRL_RUN = true ∧
      fldChan t c = { fldChan s c with nextAt := s.mono } ∧ t.wst = 0 ∧
      (masterClaim s m ≤ latched s (fldPage c) → (dueClaims s (regAddr (fldPage c) R.FLD_CH_CTRL) = [] → t.mrk = s.mrk) ∧
        keeps [.regs, .field, .pins, .out, .events, .wst, .mrk] s t ∧ sameRegs [fldPage c, fldGlb] s t))) ∧
  (∀ (s : State) (m c : Nat) (v : Word), c < 32 → judge s m (fldPage c) R.FLD_CH_CTRL 8 (v ||| 4) = .ok →
    bitOf v 0 = flag s (fldPage c) F.FLD_CH_CTRL_RUN → bitOf v 1 = false →
    completes (.fldResume m c v) s (fun t => bitOf (reg t (fldPage c) R.FLD_CH_STATUS) (8 + fsFault) = false ∧
      (fldFailed s c = true → fldFailed t c = true) ∧ fldChan t c = fldChan s c ∧ t.wst = 0 ∧
      (masterClaim s m ≤ latched s (fldPage c) → (dueClaims s (regAddr (fldPage c) R.FLD_CH_CTRL) = [] → t.mrk = s.mrk) ∧
        keeps [.regs, .pins, .out, .events, .wst, .mrk] s t ∧ sameRegs [fldPage c, fldGlb] s t))) ∧
  (∀ (s : State) (c : Nat), flag s (fldPage c) F.FLD_CH_CTRL_RUN = false → completes (.controlCycle c) s (fun t => t = s)) ∧
  (∀ (s : State) (c : Nat), c < 32 → pageGated s (fldPage c) = false → flag s (fldPage c) F.FLD_CH_CTRL_RUN = true → unarmed s (fldPage c) →
    flag s (fldPage c) F.PAGE_CTRL_ENABLE = true → sharedOwner s 0 c = true → flag s fldGlb F.FLD_GLB_CTRL_FAILSAFE_ALL = false →
    s.field.rail = false → bitOf (reg s (fldPage c) R.FLD_CH_STATUS) (8 + fsFault) = false →
    fld s (fldPage c) F.FLD_CH_CFG_WDOG_CYCLES = 0 → fld s (fldPage c) F.FLD_CH_CFG_DET_MODE ≠ 2 →
    completes (.controlCycle c) s (fun t =>
      (fldChan t c).target = fldCode c (if fld s (fldPage c) F.FLD_CH_CFG_DET_MODE = 1 ∧ detectorInput s 0 c = true then
        fld s (fldPage c) F.FLD_CH_CODES_ALARM_CODE else fld s (fldPage c) F.FLD_CH_SETPOINT_CODE) ∧
      fldFailed t c = false ∧ fld t (fldPage c) F.FLD_CH_STATUS_STATE = 1 ∧ flag t (fldPage c) F.FLD_CH_STATUS_HIGH_Z = (!fldFailed s c && flag s (fldPage c) F.FLD_CH_STATUS_HIGH_Z) ∧
      counted s t (fldPage c) R.FLD_CH_CNT 0 1 ∧
      (fldChan t c).nextAt = (fldChan s c).nextAt + (roundDiv (fld s (fldPage c) F.FLD_CH_PERIOD_PERIOD_NS) 4).toNat * 262144 ∧
      (fldChan s c).nextAt ≤ t.mono ∧ (∀ k, k ≠ c → fldChan t k = fldChan s k) ∧
      keeps [.regs, .field, .pins, .out, .events, .mono, .dev, .chs, .armed] s t)) ∧
  (∀ (s : State) (c : Nat), c < 32 → pageGated s (fldPage c) = false → flag s (fldPage c) F.FLD_CH_CTRL_RUN = true → unarmed s (fldPage c) →
    (flag s (fldPage c) F.PAGE_CTRL_ENABLE = false ∨ sharedOwner s 0 c = false ∨ flag s fldGlb F.FLD_GLB_CTRL_FAILSAFE_ALL = true ∨
      s.field.rail = true ∨ bitOf (reg s (fldPage c) R.FLD_CH_STATUS) (8 + fsFault) = true ∨
      (fld s (fldPage c) F.FLD_CH_CFG_WDOG_CYCLES ≠ 0 ∧ (fldChan s c).written = false ∧ fld s (fldPage c) F.FLD_CH_CFG_WDOG_CYCLES ≤ (fldChan s c).unset + 1) ∨
      (fld s (fldPage c) F.FLD_CH_CFG_DET_MODE = 2 ∧ detectorInput s 0 c = true)) →
    completes (.controlCycle c) s (fun t => (fldChan t c).target = (fldChan s c).target ∧ fldFailed t c = true ∧
      fld t (fldPage c) F.FLD_CH_STATUS_STATE = 2 ∧ counted s t (fldPage c) R.FLD_CH_CNT 0 1 ∧
      (fldFailed s c = false → stuck t (fldPage c) S.FLD_FAILSAFE ∧ counted s t (fldPage c) R.FLD_CH_CNT 4 1) ∧
      (s.field.rail = true ∨ sharedOwner s 0 c = false → flag t (fldPage c) F.FLD_CH_STATUS_HIGH_Z = true) ∧
      keeps [.regs, .field, .pins, .out, .events, .mono, .dev, .chs, .armed] s t)) ∧
  (∀ (s : State) (c : Nat) (ua mv x : Int) (limit : Bool), c < 32 → pageGated s (fldPage c) = false → fldFailed s c = false →
    flag s (fldPage c) F.FLD_CH_STATUS_HIGH_Z = false → (fldCodes c).1 ≤ x → x ≤ (fldCodes c).2 →
    x = (if fld s (fldPage c) F.FLD_CH_SLEW_RATE = 0 ∨ ((fldChan s c).target - fldY s c).natAbs ≤ fld s (fldPage c) F.FLD_CH_SLEW_STEP then (fldChan s c).target
      else if fldY s c < (fldChan s c).target then fldY s c + fld s (fldPage c) F.FLD_CH_SLEW_RATE else fldY s c - fld s (fldPage c) F.FLD_CH_SLEW_RATE) →
    completes (.slewUpdate c ua mv limit) s (fun t => fldY t c = x ∧ (fldChan t c).target = (fldChan s c).target ∧
      counted s t (fldPage c) R.FLD_CH_CNT 3 (if fld s (fldPage c) F.FLD_CH_SLEW_RATE = 0 ∨ ((fldChan s c).target - fldY s c).natAbs ≤ fld s (fldPage c) F.FLD_CH_SLEW_STEP then 0 else 1) ∧
      fld t (fldPage c) F.FLD_CH_STATUS_LIMITING = (if fld s (fldPage c) F.FLD_CH_SLEW_RATE = 0 ∨ ((fldChan s c).target - fldY s c).natAbs ≤ fld s (fldPage c) F.FLD_CH_SLEW_STEP then 0 else 1) ∧
      reg t (fldPage c) R.FLD_CH_MEAS = BitVec.ofInt 32 mv ++ BitVec.ofInt 32 ua ∧
      keeps [.regs, .field, .pins, .out, .events, .armed] s t ∧ sameRegs [fldPage c, fldGlb] s t)) ∧
  (∀ (s : State) (c : Nat) (ua mv : Int) (limit : Bool), c < 32 → pageGated s (fldPage c) = false → fldFailed s c = true →
    flag s (fldPage c) F.FLD_CH_STATUS_HIGH_Z = false →
    completes (.slewUpdate c ua mv limit) s (fun t =>
      fldY t c = (if fld s (fldPage c) F.FLD_CH_CFG_FAILSAFE_MODE = 1 then fldCode c (fld s (fldPage c) F.FLD_CH_CODES_FAILSAFE_CODE) else fldY s c) ∧
      fld t (fldPage c) F.FLD_CH_STATUS_LIMITING = 0 ∧ keeps [.regs, .field, .pins, .out, .events, .armed] s t ∧ sameRegs [fldPage c, fldGlb] s t)) ∧
  (∀ (s : State) (c k : Nat) (ua mv : Int) (limit : Bool), c < 32 → k < 3 → pageGated s (fldPage c) = false → fldFailed s c = false →
    flag s (fldPage c) F.FLD_CH_STATUS_HIGH_Z = false → (fldChan s c).target = fldY s c → (fldCodes c).1 ≤ fldY s c → fldY s c ≤ (fldCodes c).2 →
    fldFaulty s c ua limit k = true → ntGet (fldChan s c).seen k = 99 → k ∉ (fldChan s c).declared →
    completes (.slewUpdate c ua mv limit) s (fun t => stuck t (fldPage c) (S.FLD_OPEN_LOOP + k) ∧ k ∈ (fldChan t c).declared ∧
      (flag s (fldPage c) F.FLD_CH_CFG_FAULT_ACTION = true → fldFailed t c = true ∧ bitOf (reg t (fldPage c) R.FLD_CH_STATUS) (8 + fsFault) = true) ∧
      keeps [.regs, .field, .pins, .out, .events, .armed] s t ∧ sameRegs [fldPage c, fldGlb] s t)) ∧
  (∀ (s : State) (c : Nat) (ua mv : Int) (limit : Bool), c < 32 → pageGated s (fldPage c) = false → fldFailed s c = true →
    flag s (fldPage c) F.FLD_CH_STATUS_HIGH_Z = true →
    completes (.slewUpdate c ua mv limit) s (fun t => (∀ k, k < 3 → ntGet (fldChan t c).seen k = 0 ∧
        bitOf (reg t (fldPage c) R.STICKY) (S.FLD_OPEN_LOOP + k) = bitOf (reg s (fldPage c) R.STICKY) (S.FLD_OPEN_LOOP + k)) ∧
      keeps [.regs, .field, .pins, .out] s t ∧ sameRegs [fldPage c] s t)) ∧
  (∀ (s : State) (m : Nat) (v : Word), judge s m fldGlb R.FLD_GLB_CTRL 8 v = .ok → bitOf v 0 = true →
    completes (.failsafeAll m v) s (fun t => flag t fldGlb F.FLD_GLB_CTRL_FAILSAFE_ALL = true ∧ stuck t fldGlb S.FLDG_FAILSAFE_ALL ∧ t.wst = 0 ∧
      (∀ c, c < 32 → pageGated s (fldPage c) = false → fldFailed t c = true ∧ bitOf (reg t (fldPage c) R.FLD_CH_STATUS) (8 + fsGlobal) = true ∧
        fld t (fldPage c) F.FLD_CH_STATUS_STATE = 2) ∧ t.field = s.field ∧
      (masterClaim s m ≤ latched s fldGlb → keeps [.regs, .pins, .out, .events, .wst] s t))) ∧
  (∀ (s : State) (m : Nat) (v : Word), judge s m fldGlb R.FLD_GLB_CTRL 8 v = .ok → bitOf v 0 = false →
    completes (.failsafeAll m v) s (fun t => flag t fldGlb F.FLD_GLB_CTRL_FAILSAFE_ALL = false ∧ t.wst = 0 ∧
      (∀ c, c < 32 → pageGated s (fldPage c) = false → bitOf (reg t (fldPage c) R.FLD_CH_STATUS) (8 + fsGlobal) = false ∧
        (fldFailed s c = true → fldFailed t c = true)) ∧ t.field = s.field ∧
      (masterClaim s m ≤ latched s fldGlb → keeps [.regs, .pins, .out, .events, .wst] s t))) ∧
  (∀ (s : State) (rails : Nat), rails % 8 ≠ 0 →
    completes (.railFault rails) s (fun t => t.field.rail = true ∧ t.field.chans = s.field.chans ∧ stuck t fldGlb S.FLDG_RAIL_FAULT ∧
      fieldOf (reg t fldGlb R.FLD_GLB_STATUS) 0 3 = 7 - rails % 8 ∧
      (∀ c, c < 32 → pageGated s (fldPage c) = false → fldFailed t c = true ∧ flag t (fldPage c) F.FLD_CH_STATUS_HIGH_Z = true ∧
        bitOf (reg t (fldPage c) R.FLD_CH_STATUS) (8 + fsRail) = true) ∧ keeps [.regs, .field, .pins, .out, .events] s t)) ∧
  (∀ (s : State), s.field.rail = true →
    completes .railRecovery s (fun t => t.field = { s.field with rail := false } ∧ fieldOf (reg t fldGlb R.FLD_GLB_STATUS) 0 3 = 7 ∧
      (∀ c, c < 32 → pageGated s (fldPage c) = false → bitOf (reg t (fldPage c) R.FLD_CH_STATUS) (8 + fsRail) = false ∧
        (fldFailed s c = true → fldFailed t c = true)) ∧ keeps [.regs, .field, .pins, .out, .events] s t)) ∧
  (∀ (s : State), (completes (.railFault 0) s (fun t => t = s)) ∧ (s.field.rail = false → completes .railRecovery s (fun t => t = s)))

/-- Beats, evaluations, ARM, switchover, reinstatement and grants. A valid beat is counted and makes a booting Steward
STANDBY; a wrong one is flagged; another master's is refused. An evaluation before ARM changes no state. After it, a
failed ACTIVE Steward loses its claim and is FAILED, and the STANDBY one becomes ACTIVE under MAX_ISSUED + 1; with
none in STANDBY it stays ACTIVE. A failed STANDBY Steward becomes FAILED. Healthy Stewards keep their states. Under
BOTH a lone condition for longer than the timeout is flagged. ARM issues the first claim; it is refused a second time,
from other masters, and without a STANDBY Steward. SWITCHOVER exchanges the roles; REINSTATE releases a FAILED
Steward; a grant of the ACTIVE Steward within its own claim is stored, another one refused. Where the spec can be read
in more than one way it follows log entries 65 and 66. (R393, R394, R395, R396, R397, R398, R400, R401, R402, R403,
19_stewards_events.md) -/
def Obligations.StewardsAndReferee : Prop :=
  (∀ (s : State) (m k : Nat) (v : Word), k < 2 → m = k + 1 → judge s m refPage (R.REF_HB + 8 * k) 8 v = .ok → unarmed s refPage →
    ((stewardOf s k).fresh = true ∨ fieldOf v 0 16 = (fld s refPage (F.REF_HB_SEQ.at k) + 1) % 65536) →
    completes (.beat m k v) s (fun t => fld t refPage (F.REF_HB_SEQ.at k) = fieldOf v 0 16 ∧
      fld t refPage (F.REF_HB_BEATS.at k) = satAdd 32 (fld s refPage (F.REF_HB_BEATS.at k)) 1 ∧
      (stewardOf t k).beatAt = s.mono ∧ (stewardOf t k).fresh = false ∧ (stewardOf t k).released = none ∧
      stewardState t k = (if stewardState s k = 1 then 2 else stewardState s k) ∧ stewardOf t (1 - k) = stewardOf s (1 - k) ∧
      stewardState t (1 - k) = stewardState s (1 - k) ∧ maxIssued t = maxIssued s ∧ t.wst = 0 ∧
      keeps [.regs, .ref, .wst] s t ∧ sameRegs [refPage] s t)) ∧
  (∀ (s : State) (m k : Nat) (v : Word), k < 2 → m = k + 1 → judge s m refPage (R.REF_HB + 8 * k) 8 v = .ok →
    (stewardOf s k).fresh = false → fieldOf v 0 16 ≠ (fld s refPage (F.REF_HB_SEQ.at k) + 1) % 65536 →
    completes (.beat m k v) s (fun t => stuck t refPage S.REF_BAD_BEAT ∧ reg t refPage (R.REF_HB + 8 * k) = reg s refPage (R.REF_HB + 8 * k) ∧
      reg t refPage 0x110 = reg s refPage 0x110 ∧ keeps [.regs, .out, .events, .wst, .armed] s t ∧ sameRegs [refPage] s t)) ∧
  (∀ (s : State) (m k : Nat) (v : Word), k < 2 → m ≠ k + 1 → judge s m refPage (R.REF_HB + 8 * k) 8 v = .ok →
    completes (.beat m k v) s (fun t => stuck t refPage S.CFG_REFUSED ∧ t.wst = 5 ∧
      reg t refPage (R.REF_HB + 8 * k) = reg s refPage (R.REF_HB + 8 * k) ∧ reg t refPage 0x110 = reg s refPage 0x110 ∧
      keeps [.regs, .out, .events, .wst] s t ∧ sameRegs [refPage] s t)) ∧
  (∀ (s : State) (a b : Nat), armedRef s = false →
    completes (.refereeEvaluation a b) s (fun t => (∀ k, k < 2 → stewardState t k = stewardState s k) ∧ masterClaim t 1 = masterClaim s 1 ∧
      masterClaim t 2 = masterClaim s 2 ∧ maxIssued t = maxIssued s ∧ t.mono = evaluationTime s ∧
      flag t refPage F.REF_STATUS_EXT_A = decide (a = 0) ∧ flag t refPage F.REF_STATUS_EXT_B = decide (b = 0) ∧
      keeps [.regs, .mono, .dev] s t ∧ sameRegs [refPage] s t)) ∧
  (∀ (s : State) (a b k us other : Nat) (late otherLate : Bool), k < 2 → armedRef s = true → stewardState s k = 3 → stewardState s (1 - k) = 2 →
    unarmed s refPage → maxIssued s < 0xFFFF → us = (if k = 0 then a else b) → other = (if k = 0 then b else a) →
    late = decide (hbTimeout s < evaluationTime s - (stewardOf s k).beatAt) →
    otherLate = decide (hbTimeout s < evaluationTime s - (stewardOf s (1 - k)).beatAt) →
    ((fld s refPage F.REF_CFG_POLICY = 0 ∧ late = true ∧ otherLate = false) ∨
      (fld s refPage F.REF_CFG_POLICY = 1 ∧ us ≠ 0 ∧ fld s refPage F.REF_CFG_EXT_DEBOUNCE_US ≤ us ∧ other = 0) ∨
      (fld s refPage F.REF_CFG_POLICY = 2 ∧ late = true ∧ us ≠ 0 ∧ fld s refPage F.REF_CFG_EXT_DEBOUNCE_US ≤ us ∧ otherLate = false ∧ other = 0)) →
    completes (.refereeEvaluation a b) s (fun t => stewardState t k = 4 ∧ masterClaim t (k + 1) = 0 ∧ stewardState t (1 - k) = 3 ∧
      masterClaim t (2 - k) = maxIssued s + 1 ∧ maxIssued t = maxIssued s + 1 ∧ fld t refPage F.REF_STATUS_ACTIVE = 1 - k ∧
      stuck t refPage S.REF_FAILOVER ∧ fld t refPage F.REF_COUNTS_FAILOVERS = satAdd 16 (fld s refPage F.REF_COUNTS_FAILOVERS) 1 ∧
      keeps [.regs, .ref, .mono, .dev, .out, .events] s t ∧ sameRegs [refPage] s t)) ∧
  (∀ (s : State) (a b k : Nat), k < 2 → armedRef s = true → stewardState s k = 3 → stewardState s (1 - k) ≠ 2 → stewardState s (1 - k) ≠ 3 →
    fld s refPage F.REF_CFG_POLICY = 0 → hbTimeout s < evaluationTime s - (stewardOf s k).beatAt →
    completes (.refereeEvaluation a b) s (fun t => stewardState t k = 3 ∧ masterClaim t (k + 1) = masterClaim s (k + 1) ∧ maxIssued t = maxIssued s ∧
      stuck t refPage S.REF_NO_STANDBY ∧ fld t refPage F.REF_COUNTS_FAILOVERS = fld s refPage F.REF_COUNTS_FAILOVERS ∧
      keeps [.regs, .ref, .mono, .dev, .out, .events, .armed] s t ∧ sameRegs [refPage] s t)) ∧
  (∀ (s : State) (a b : Nat), armedRef s = true → fld s refPage F.REF_CFG_POLICY = 0 → unarmed s refPage →
    (∀ k, k < 2 → evaluationTime s - (stewardOf s k).beatAt ≤ hbTimeout s ∧ (stewardOf s k).released = none) →
    completes (.refereeEvaluation a b) s (fun t => (∀ k, k < 2 → stewardState t k = stewardState s k) ∧ masterClaim t 1 = masterClaim s 1 ∧
      masterClaim t 2 = masterClaim s 2 ∧ maxIssued t = maxIssued s ∧ keeps [.regs, .ref, .mono, .dev] s t ∧ sameRegs [refPage] s t)) ∧
  (∀ (s : State) (a b k : Nat), k < 2 → armedRef s = true → stewardState s k = 2 → stewardState s (1 - k) = 3 → unarmed s refPage →
    fld s refPage F.REF_CFG_POLICY = 0 → hbTimeout s < evaluationTime s - (stewardOf s k).beatAt →
    evaluationTime s - (stewardOf s (1 - k)).beatAt ≤ hbTimeout s →
    completes (.refereeEvaluation a b) s (fun t => stewardState t k = 4 ∧ stewardState t (1 - k) = 3 ∧
      masterClaim t (2 - k) = masterClaim s (2 - k) ∧ maxIssued t = maxIssued s ∧ keeps [.regs, .ref, .mono, .dev, .out, .events] s t ∧ sameRegs [refPage] s t)) ∧
  (∀ (s : State) (a b t0 : Nat), armedRef s = true → unarmed s refPage → fld s refPage F.REF_CFG_POLICY = 2 → stewardState s 0 = 3 → a = 0 → b = 0 →
    (stewardOf s 0).differ = some t0 → hbTimeout s < evaluationTime s - t0 →
    hbTimeout s < evaluationTime s - (stewardOf s 0).beatAt → (stewardOf s 0).released = none → (stewardOf s 1).released = none →
    completes (.refereeEvaluation a b) s (fun t => stuck t refPage S.REF_ARBITER_DISAGREE ∧ (∀ k, k < 2 → stewardState t k = stewardState s k) ∧
      maxIssued t = maxIssued s ∧ keeps [.regs, .ref, .mono, .dev, .out, .events] s t ∧ sameRegs [refPage] s t)) ∧
  (∀ (s : State) (m k : Nat) (v : Word), judge s m refPage R.REF_CTRL 8 (v ||| 1) = .ok → bitOf v 1 = false → bitOf v 2 = false → unarmed s refPage →
    m ≤ 2 → armedRef s = false → maxIssued s < 0xFFFF → stewardState s k = 2 →
    k = (if stewardState s (fld s refPage F.REF_CFG_PREFER) = 2 then fld s refPage F.REF_CFG_PREFER else 1 - fld s refPage F.REF_CFG_PREFER) →
    completes (.arm m v) s (fun t => armedRef t = true ∧ stewardState t k = 3 ∧ masterClaim t (k + 1) = maxIssued s + 1 ∧
      maxIssued t = maxIssued s + 1 ∧ fld t refPage F.REF_STATUS_ACTIVE = k ∧ stewardState t (1 - k) = stewardState s (1 - k) ∧ t.wst = 0 ∧
      keeps [.regs, .wst] s t ∧ sameRegs [refPage] s t)) ∧
  (∀ (s : State) (m : Nat) (v : Word), judge s m refPage R.REF_CTRL 8 (v ||| 1) = .ok → bitOf v 1 = false → bitOf v 2 = false →
    (2 < m ∨ armedRef s = true ∨ (stewardState s 0 ≠ 2 ∧ stewardState s 1 ≠ 2)) →
    completes (.arm m v) s (fun t => stuck t refPage S.CFG_REFUSED ∧ t.wst = 5 ∧ reg t refPage 0x110 = reg s refPage 0x110 ∧
      keeps [.regs, .out, .events, .wst] s t ∧ sameRegs [refPage] s t)) ∧
  (∀ (s : State) (m k : Nat) (v : Word), judge s m refPage R.REF_CTRL 8 (v ||| 2) = .ok → bitOf v 0 = false → bitOf v 2 = false → unarmed s refPage →
    k < 2 → m = k + 1 → stewardState s k = 3 → stewardState s (1 - k) = 2 → maxIssued s < 0xFFFF → failedNow s k = false → failedNow s (1 - k) = false →
    completes (.switchover m v) s (fun t => stewardState t k = 2 ∧ masterClaim t (k + 1) = 0 ∧ stewardState t (1 - k) = 3 ∧
      masterClaim t (2 - k) = maxIssued s + 1 ∧ maxIssued t = maxIssued s + 1 ∧ stuck t refPage S.REF_SWITCHOVER ∧ t.wst = 0 ∧
      fld t refPage F.REF_COUNTS_SWITCHOVERS = satAdd 16 (fld s refPage F.REF_COUNTS_SWITCHOVERS) 1 ∧
      keeps [.regs, .out, .events, .wst] s t ∧ sameRegs [refPage] s t)) ∧
  (∀ (s : State) (m : Nat) (v : Word), judge s m refPage R.REF_CTRL 8 (v ||| 2) = .ok → bitOf v 0 = false → bitOf v 2 = false →
    (isActiveSteward s m = false ∨ (m = 1 ∧ stewardState s 1 ≠ 2) ∨ (m = 2 ∧ stewardState s 0 ≠ 2)) →
    completes (.switchover m v) s (fun t => stuck t refPage S.CFG_REFUSED ∧ t.wst = 5 ∧ reg t refPage 0x110 = reg s refPage 0x110 ∧
      t.ref = s.ref ∧ keeps [.regs, .out, .events, .wst] s t ∧ sameRegs [refPage] s t)) ∧
  (∀ (s : State) (m k : Nat) (v : Word), judge s m refPage R.REF_CTRL 8 (v ||| 4) = .ok → bitOf v 0 = false → bitOf v 1 = false →
    k < 2 → m = k + 1 → stewardState s k = 3 → stewardState s (1 - k) = 4 →
    completes (.reinstate m v) s (fun t => stewardState t (1 - k) = 1 ∧ (stewardOf t (1 - k)).released = some s.mono ∧
      (stewardOf t (1 - k)).fresh = true ∧ stewardState t k = 3 ∧ maxIssued t = maxIssued s ∧ t.wst = 0 ∧
      keeps [.regs, .ref, .wst] s t ∧ sameRegs [refPage] s t)) ∧
  (∀ (s : State) (m : Nat) (v : Word), judge s m refPage R.REF_CTRL 8 (v ||| 4) = .ok → bitOf v 0 = false → bitOf v 1 = false → isActiveSteward s m = false →
    completes (.reinstate m v) s (fun t => stuck t refPage S.CFG_REFUSED ∧ t.wst = 5 ∧ reg t refPage 0x110 = reg s refPage 0x110 ∧
      keeps [.regs, .out, .events, .wst] s t ∧ sameRegs [refPage] s t)) ∧
  (∀ (s : State) (m n : Nat) (v : Word), judge s m refPage R.REF_GRANT_DATA 8 v = .ok → fld s refPage F.REF_GRANT_ADDR_MASTER = n →
    (isActiveSteward s m = true → grantable n = true → fieldOf v 0 16 ≤ masterClaim s m →
      completes (.refGrantData m v) s (fun t => masterClaim t n = fieldOf v 0 16 ∧ (∀ j, j ≠ n → masterClaim t j = masterClaim s j) ∧ t.wst = 0 ∧
        keeps [.grants, .wst, .regs] s t ∧ sameRegs [] s t)) ∧
    ((isActiveSteward s m = false ∨ grantable n = false ∨ masterClaim s m < fieldOf v 0 16) →
      completes (.refGrantData m v) s (fun t => stuck t refPage S.CFG_REFUSED ∧ t.wst = 5 ∧ (∀ j, masterClaim t j = masterClaim s j) ∧
        keeps [.regs, .out, .events, .wst] s t ∧ sameRegs [refPage] s t)))

/-- Pending bits, masks, vectors, Steward queues and the persisted retire list. A write of EVT_PENDING clears the bits
written 1. A mask bit cleared while its event is pending and routed to MSI-X sends the message of its vector. A vector
unmasked with its pending-bit set sends one message and clears the bit; one left masked sends nothing. Cleared, the
function mask lets every vector that is not masked itself send what it holds; set, it sends nothing. EVT_POP takes the
oldest entry of a Steward's queue. STW_RL_READ shows an entry of the retire list, or RESULT 1. REMOVE marks an entry
removed from a KIND 1 command alone. A change is persisted as a signed copy with the next generation in the area of
its parity; a failed flash write is flagged and leaves the change to be persisted. Where the spec can be read in more
than one way it follows log entries 67 and 68. (R405, R406, R407, R409, R410, R412, 19_stewards_events.md) -/
def Obligations.EventsAndRetireList : Prop :=
  (∀ (s : State) (m k : Nat) (v : Word), k < 16 → judge s m 0x3D3 (R.EVT_PENDING + 8 * k) 8 v = .ok →
    completes (.evtPending m k v) s (fun t => reg t 0x3D3 (R.EVT_PENDING + 8 * k) = reg s 0x3D3 (R.EVT_PENDING + 8 * k) &&& ~~~ v ∧
      (∀ j, j < 32 → j ≠ k → reg t 0x3D3 (R.EVT_PENDING + 8 * j) = reg s 0x3D3 (R.EVT_PENDING + 8 * j)) ∧ t.wst = 0 ∧
      keeps [.regs, .wst] s t ∧ sameRegs [] s t)) ∧
  (∀ (s : State) (m k : Nat) (v : Word), k < 16 → judge s m 0x3D3 (R.EVT_MASK + 8 * k) 8 v = .ok →
    (∀ b, b < 64 → bitOf (reg s 0x3D3 (R.EVT_MASK + 8 * k)) b = true → bitOf v b = false → evPending s (64 * k + b) = false) →
    completes (.evtMask m k v) s (fun t => reg t 0x3D3 (R.EVT_MASK + 8 * k) = v ∧
      (∀ j, j < 32 → j ≠ 16 + k → reg t 0x3D3 (R.EVT_PENDING + 8 * j) = reg s 0x3D3 (R.EVT_PENDING + 8 * j)) ∧ t.wst = 0 ∧
      keeps [.regs, .wst] s t ∧ sameRegs [] s t)) ∧
  (∀ (s : State) (m k b x : Nat) (v : Word), k < 16 → b < 64 → judge s m 0x3D3 (R.EVT_MASK + 8 * k) 8 v = .ok →
    bitOf (reg s 0x3D3 (R.EVT_MASK + 8 * k)) b = true → v = withBit (reg s 0x3D3 (R.EVT_MASK + 8 * k)) b false →
    evPending s (64 * k + b) = true → bitOf (routeOf s (64 * k + b)) 11 = true → fieldOf (routeOf s (64 * k + b)) 0 11 = x → vectorMasked s x = false →
    completes (.evtMask m k v) s (fun t => reg t 0x3D3 (R.EVT_MASK + 8 * k) = v ∧
      t.out = ⟨.msix, x, [(reg s (0x400 + x / 256) (x % 256 * 16)).toNat, fieldOf (reg s (0x400 + x / 256) (x % 256 * 16 + 8)) 0 32]⟩ :: s.out ∧
      keeps [.regs, .wst, .out] s t ∧ sameRegs [] s t)) ∧
  (∀ (s : State) (m x : Nat) (v : Word), x < 2048 → judge s m (0x400 + x / 256) (x % 256 * 16 + 8) 8 v = .ok → bitOf v 32 = false →
    s.msixFn = false → bitOf (reg s 0x408 (x / 64 * 8)) (x % 64) = true →
    completes (.msixUnmask m (.vector x) v) s (fun t => vectorMasked t x = false ∧ bitOf (reg t 0x408 (x / 64 * 8)) (x % 64) = false ∧
      t.out = ⟨.msix, x, [(reg s (0x400 + x / 256) (x % 256 * 16)).toNat, fieldOf v 0 32]⟩ :: s.out ∧
      keeps [.regs, .wst, .out] s t ∧ sameRegs [0x400 + x / 256] s t)) ∧
  (∀ (s : State) (m x : Nat) (v : Word), x < 2048 → judge s m (0x400 + x / 256) (x % 256 * 16 + 8) 8 v = .ok →
    (s.msixFn = true ∨ bitOf v 32 = true ∨ bitOf (reg s 0x408 (x / 64 * 8)) (x % 64) = false) →
    completes (.msixUnmask m (.vector x) v) s (fun t => vectorMasked t x = (s.msixFn || bitOf v 32) ∧ reg t 0x408 (x / 64 * 8) = reg s 0x408 (x / 64 * 8) ∧
      keeps [.regs, .wst] s t ∧ sameRegs [0x400 + x / 256] s t)) ∧
  (∀ (s : State) (m : Nat) (v : Word) (on : Bool), completes (.msixUnmask m (.function on) v) s (fun t => t.msixFn = on ∧
      (∀ k, k < 2048 → bitOf (reg t 0x408 (k / 64 * 8)) (k % 64) =
        (bitOf (reg s 0x408 (k / 64 * 8)) (k % 64) && (on || bitOf (reg s (0x400 + k / 256) (k % 256 * 16 + 8)) 32))) ∧
      (on = true → t.out = s.out) ∧ keeps [.regs, .msix, .out] s t ∧ sameRegs [] s t)) ∧
  (∀ (s : State) (st : Nat) (e : EvEntry) (l : List EvEntry), st < 2 → pageGated s 0x3D4 = false → (if st = 0 then s.evtQA else s.evtQB) = e :: l →
    completes (.evtPop st) s (fun t => fieldOf t.rd 0 10 = e.event % 1024 ∧ bitOf t.rd 15 = true ∧ fieldOf t.rd 16 32 = timeNs e.time ∧
      fieldOf t.rd 48 16 = timeSeconds e.time % 65536 ∧ (if st = 0 then t.evtQA else t.evtQB) = l ∧
      (if st = 0 then t.evtQB else t.evtQA) = (if st = 0 then s.evtQB else s.evtQA) ∧ t.evtCounts = s.evtCounts ∧ keeps [.rd, .events] s t)) ∧
  (∀ (s : State) (st : Nat), st < 2 → (if st = 0 then s.evtQA else s.evtQB) = [] → completes (.evtPop st) s (fun t => t.rd = 0 ∧ keeps [.rd] s t)) ∧
  (∀ (s : State) (m i : Nat) (v : Word), judge s m stwPage R.STW_RL_CTRL 8 (v ||| 1) = .ok → bitOf v 1 = false → fld s stwPage F.STW_RL_ADDR_INDEX = i →
    completes (.stwRlRead m v) s (fun t => reg t stwPage R.STW_RL_DATA = s.rl.entries.getD i 0 ∧
      fld t stwPage F.STW_RL_CTRL_RESULT = (if i < s.rl.entries.length then 0 else 1) ∧ t.wst = 0 ∧
      keeps [.regs, .wst, .out, .events] s t ∧ sameRegs [stwPage] s t)) ∧
  (∀ (s : State) (m i : Nat) (v w : Word), judge s m stwPage R.STW_RL_CTRL 8 (v ||| 2) = .ok → bitOf v 0 = false → fld s stwPage F.STW_RL_ADDR_INDEX = i →
    kindOne s m = true → s.rl.entries[i]? = some w →
    completes (.remove m v) s (fun t => t.rl.entries = s.rl.entries.set i (withBit w 40 true) ∧
      t.rl.changes = s.rl.changes + (if bitOf w 40 then 0 else 1) ∧ t.rl.gen = s.rl.gen ∧ fld t stwPage F.STW_RL_CTRL_RESULT = 0 ∧ t.wst = 0 ∧
      keeps [.regs, .wst, .rl] s t ∧ sameRegs [stwPage] s t)) ∧
  (∀ (s : State) (m : Nat) (v : Word), judge s m stwPage R.STW_RL_CTRL 8 (v ||| 2) = .ok → bitOf v 0 = false → kindOne s m = false →
    completes (.remove m v) s (fun t => t.rl = s.rl ∧ stuck t stwPage S.LOCK_REFUSED ∧ fld t stwPage F.STW_RL_CTRL_RESULT = 2 ∧ t.wst = 5 ∧
      keeps [.regs, .wst, .out, .events] s t ∧ sameRegs [stwPage] s t)) ∧
  (∀ (s : State), s.rl.changes ≠ 0 → s.ldg.noIdentity = false → unarmed s stwPage →
    completes (.retirePersist true) s (fun t => t.rl.changes = 0 ∧ t.rl.gen = s.rl.gen + 1 ∧ t.rl.entries = s.rl.entries ∧
      (s.rl.gen % 2 = 0 → t.rl.areaA = some ⟨s.rl.gen + 1, s.rl.entries, true⟩ ∧ t.rl.areaB = s.rl.areaB) ∧
      (s.rl.gen % 2 = 1 → t.rl.areaB = some ⟨s.rl.gen + 1, s.rl.entries, true⟩ ∧ t.rl.areaA = s.rl.areaA) ∧
      counted s t ldgPage R.LDG_CNT 3 1 ∧ keeps [.regs, .rl, .free] s t ∧ sameRegs [ldgPage] s t)) ∧
  (∀ (s : State), s.rl.changes ≠ 0 → s.ldg.noIdentity = false →
    completes (.retirePersist false) s (fun t => t.rl = s.rl ∧ stuck t stwPage S.STW_PERSIST_FAIL ∧
      keeps [.regs, .out, .events, .armed] s t ∧ sameRegs [stwPage] s t)) ∧
  (∀ (s : State) (ok : Bool), s.rl.changes = 0 → completes (.retirePersist ok) s (fun t => t = s))

/-- Heartwood's operations, confirmation, counters, unlock and write locks. An operation runs for the masters R424 names
and shows its RESULT; a nonzero one sets OP_REFUSED. INSTALL_FW writes a checked image into the inactive slot and
names it TRIAL; VERIFY_WORK records the measurement; DEBUG_UNLOCK starts an unlock by a checked token; ATTEST emits a
report of RTYPE 7, or answers 8 without an identity; KEM installs the derived key where USE says; OWNER_PROG fills an
EMPTY slot and OWNER_REVOKE revokes all but the last ACTIVE one. CONFIRM makes the TRIAL slot ACTIVE. A counter rises
for an ACTIVE Steward after CONFIRM. An unlock ends by RELOCK or its time with every DEBUG bit cleared. LOCK_APPLY
sets a WRITE_LOCK for those R432 names. RESULT values where the spec leaves the order of checks open follow the
model's log. Where the spec can be read in more than one way it follows log entries 69, 70, 71, 72 and 73. (R416,
R418, R419, R420, R424, R425, R426, R427, R430, R431, R432, 20_heartwood.md) -/
def Obligations.Heartwood : Prop :=
  (∀ (s s0 : State) (m k : Nat) (v : Word) (flash : Bool) (r : Nat × List Byte × State), judge s m hwdPage R.HWD_OP_CTRL 8 (goWord 1 v) = .ok → hwdOpHeld s m = false →
    s0 = noteOpWrite m R.HWD_OP_CTRL (storePlain hwdPage R.HWD_OP_CTRL (goWord 1 v) (setWst 0 (countBar0 m s))) →
    (isActiveSteward s m = true ∨ (m = 0 ∧ s.hwd.recovery = true)) → opInputOk s headerLen = true → r = fetchImage (opAddr s) 1 s0 →
    k = 1 - (if s.hwd.recovery then s.hwd.sel.slot else s.hwd.running) →
    completes (.installFw m v flash) s (fun t => fld t hwdPage F.HWD_OP_CTRL_RESULT = (if r.1 ≠ 0 then r.1 else if flash then 0 else 7) ∧
      (r.1 = 0 ∧ flash = true → fwSlot t k = .image r.2.1 ∧ fwSlot t (1 - k) = fwSlot s (1 - k) ∧ t.hwd.sel = { gen := s.hwd.sel.gen + 1, slot := k, trial := true } ∧
        t.hwd.running = s.hwd.running) ∧
      (r.1 ≠ 0 ∨ flash = false → t.hwd = s.hwd ∧ stuck t hwdPage S.HWD_OP_REFUSED) ∧ keeps [.regs, .out, .events, .wst, .hwd, .cmd, .armed] s t)) ∧
  (∀ (s : State) (m : Nat) (v : Word) (flash : Bool), judge s m hwdPage R.HWD_OP_CTRL 8 (goWord 1 v) = .ok → hwdOpHeld s m = false →
    isActiveSteward s m = false → kindOne s m = false → (m ≠ 0 ∨ s.hwd.recovery = false) →
    completes (.installFw m v flash) s (fun t => fld t hwdPage F.HWD_OP_CTRL_RESULT = 1 ∧ stuck t hwdPage S.HWD_OP_REFUSED ∧ t.hwd = s.hwd ∧
      keeps [.regs, .out, .events, .wst, .cmd] s t)) ∧
  (∀ (s s0 : State) (m : Nat) (v : Word) (r : Nat × List Byte × State), judge s m hwdPage R.HWD_OP_CTRL 8 (goWord 2 v) = .ok → hwdOpHeld s m = false →
    s0 = noteOpWrite m R.HWD_OP_CTRL (storePlain hwdPage R.HWD_OP_CTRL (goWord 2 v) (setWst 0 (countBar0 m s))) →
    opInputOk s headerLen = true → r = fetchImage (opAddr s) 2 s0 →
    completes (.verifyWork m v) s (fun t => fld t hwdPage F.HWD_OP_CTRL_RESULT = r.1 ∧
      (r.1 = 0 → t.hwd = { s.hwd with work := some (byteField r.2.1 8 1) } ∧
        regsFrom t hwdPage (R.HWD_MEAS + 64) 8 = wordsOf 8 (sha3_512 (r.2.1.take 2680)) ∧ regsFrom t hwdPage R.HWD_OP_OUT 8 = wordsOf 8 (sha3_512 (r.2.1.take 2680))) ∧
      (r.1 ≠ 0 → t.hwd = s.hwd ∧ stuck t hwdPage S.HWD_OP_REFUSED) ∧ keeps [.regs, .out, .events, .wst, .hwd, .cmd, .armed] s t)) ∧
  (∀ (s s0 : State) (m : Nat) (v : Word) (r : HbmRead × State), judge s m hwdPage R.HWD_OP_CTRL 8 (goWord 3 v) = .ok → hwdOpHeld s m = false →
    s0 = noteOpWrite m R.HWD_OP_CTRL (storePlain hwdPage R.HWD_OP_CTRL (goWord 3 v) (setWst 0 (countBar0 m s))) →
    opInputOk s 4731 = true → r = hbmRead (opAddr s) 4731 s0 →
    completes (.debugUnlock m v) s (fun t => fld t hwdPage F.HWD_OP_CTRL_RESULT = checkToken r.2 r.1.bytes ∧
      (checkToken r.2 r.1.bytes = 0 → t.hwd = { s.hwd with unlock := some ⟨byteField r.1.bytes 6 1, s.mono + byteField r.1.bytes 32 4 * secondUnits⟩ } ∧
        stuck t hwdPage S.HWD_UNLOCK) ∧
      (checkToken r.2 r.1.bytes ≠ 0 → t.hwd = s.hwd ∧ stuck t hwdPage S.HWD_OP_REFUSED) ∧ keeps [.regs, .out, .events, .wst, .hwd, .cmd, .armed] s t)) ∧
  (∀ (s : State) (m : Nat) (v : Word), judge s m hwdPage R.HWD_OP_CTRL 8 (goWord 4 v) = .ok → hwdOpHeld s m = false → s.ldg.noIdentity = true →
    completes (.attest m v) s (fun t => fld t hwdPage F.HWD_OP_CTRL_RESULT = 8 ∧ stuck t hwdPage S.HWD_OP_REFUSED ∧ keeps [.regs, .out, .events, .wst, .cmd] s t)) ∧
  (∀ (s s0 s1 : State) (m : Nat) (v : Word) (e : Emit × State), judge s m hwdPage R.HWD_OP_CTRL 8 (goWord 4 v) = .ok → hwdOpHeld s m = false → s.ldg.noIdentity = false →
    s0 = noteOpWrite m R.HWD_OP_CTRL (storePlain hwdPage R.HWD_OP_CTRL (goWord 4 v) (setWst 0 (countBar0 m s))) →
    s1 = countSignature { s0 with free := s0.free + 8 } →
    e = emitRecord (fld s ldgPage F.LDG_RINGS_ATTEST_RING) 8 7 4 (attestBody s0 ++ signature s1) s1 →
    completes (.attest m v) s (fun t => fld t hwdPage F.HWD_OP_CTRL_RESULT = (if e.1 = .done then 0 else 9) ∧
      (attestBody s0).take 64 = bytesOf (regsFrom s hwdPage R.HWD_OP_IN 8) ∧ keeps [.regs, .out, .events] e.2 t ∧ sameRegs [hwdPage] e.2 t)) ∧
  (∀ (s s0 : State) (m : Nat) (v : Word) (r : HbmRead × State) (ct key : List Byte), judge s m hwdPage R.HWD_OP_CTRL 8 (goWord 5 v) = .ok → hwdOpHeld s m = false →
    commandWrote s m (kemRegs s) = true → opInputOk s 3168 = true → fld s hwdPage F.HWD_OP_ARG_USE ≠ 0 →
    (fld s hwdPage F.HWD_OP_ARG_USE = 3 ∨ fld s hwdPage F.HWD_OP_ARG_PAGE ≤ 5) →
    s0 = noteOpWrite m R.HWD_OP_CTRL (storePlain hwdPage R.HWD_OP_CTRL (goWord 5 v) (setWst 0 (countBar0 m s))) → r = hbmRead (opAddr s) 1568 s0 →
    ct = (List.range 1568).map (Config.kemCipher r.1.bytes s.free) →
    key = kemDerive s ((List.range 32).map (Config.kemSecret r.1.bytes s.free)) ct (fld s hwdPage F.HWD_OP_ARG_USE) →
    completes (.kem m v) s (fun t =>
      (sha3_512 r.1.bytes ≠ bytesOf (regsFrom s hwdPage R.HWD_OP_IN 8) → fld t hwdPage F.HWD_OP_CTRL_RESULT = 6 ∧ t.hwd = s.hwd ∧ t.eth = s.eth ∧ t.mem = s.mem) ∧
      (sha3_512 r.1.bytes = bytesOf (regsFrom s hwdPage R.HWD_OP_IN 8) → fld t hwdPage F.HWD_OP_CTRL_RESULT = 0 ∧
        regsFrom t hwdPage R.HWD_OP_OUT 8 = wordsOf 8 (sha3_512 ct) ∧ t.free = s.free + 1 ∧
        t.mem = (hbmWrite (opAddr s + 1600) ct { r.2 with free := s.free + 1 }).2.mem ∧
        (fld s hwdPage F.HWD_OP_ARG_USE = 3 → sparseFind t.hwd.sessions (fld s hwdPage F.HWD_OP_ARG_SLOT) = some key ∧ t.eth = s.eth) ∧
        (fld s hwdPage F.HWD_OP_ARG_USE = 2 → t.hwd = s.hwd ∧ sparseFind (ethPort t (fld s hwdPage F.HWD_OP_ARG_PAGE)).sas
            (64 * fld s hwdPage F.HWD_OP_ARG_SUBPORT + 4 + 4 * fld s hwdPage F.HWD_OP_ARG_SC + fld s hwdPage F.HWD_OP_ARG_AN) =
          some ⟨key, (reg s hwdPage R.HWD_OP_SCI).toNat, fld s hwdPage F.HWD_OP_ARG_SSCI, 1⟩) ∧
        (fld s hwdPage F.HWD_OP_ARG_USE = 1 → t.hwd = s.hwd ∧ sparseFind (ethPort t (fld s hwdPage F.HWD_OP_ARG_PAGE)).sas
            (txInstallKey s (fld s hwdPage F.HWD_OP_ARG_PAGE) (fld s hwdPage F.HWD_OP_ARG_SUBPORT)) = some ⟨key, 0, 0, 1⟩)))) ∧
  (∀ (s : State) (m : Nat) (v : Word), judge s m hwdPage R.HWD_OP_CTRL 8 (goWord 5 v) = .ok → hwdOpHeld s m = false → kindOne s m = false →
    completes (.kem m v) s (fun t => fld t hwdPage F.HWD_OP_CTRL_RESULT = 1 ∧ stuck t hwdPage S.HWD_OP_REFUSED ∧ keeps [.regs, .out, .events, .wst, .cmd] s t)) ∧
  (∀ (s : State) (m k : Nat) (v : Word), judge s m hwdPage R.HWD_OP_CTRL 8 (goWord 6 v) = .ok → hwdOpHeld s m = false → m = 0 → activeOwners s = [] →
    fld s hwdPage F.HWD_OP_ARG_INDEX = k → k < s.hwd.owners.length →
    completes (.ownerProg m v) s (fun t =>
      (s.hwd.owners.getD k .empty = .empty → fld t hwdPage F.HWD_OP_CTRL_RESULT = 0 ∧
        t.hwd = { s.hwd with owners := s.hwd.owners.set k (.active (bytesOf (regsFrom s hwdPage R.HWD_OP_IN 8))) }) ∧
      (s.hwd.owners.getD k .empty ≠ .empty → fld t hwdPage F.HWD_OP_CTRL_RESULT = 9 ∧ t.hwd = s.hwd ∧ stuck t hwdPage S.HWD_OP_REFUSED) ∧
      keeps [.regs, .out, .events, .wst, .cmd, .hwd] s t ∧ sameRegs [hwdPage] s t)) ∧
  (∀ (s : State) (m : Nat) (v : Word), judge s m hwdPage R.HWD_OP_CTRL 8 (goWord 6 v) = .ok → hwdOpHeld s m = false → kindOne s m = false →
    (m ≠ 0 ∨ activeOwners s ≠ []) →
    completes (.ownerProg m v) s (fun t => fld t hwdPage F.HWD_OP_CTRL_RESULT = 1 ∧ t.hwd = s.hwd ∧ stuck t hwdPage S.HWD_OP_REFUSED ∧
      keeps [.regs, .out, .events, .wst, .cmd] s t ∧ sameRegs [hwdPage] s t)) ∧
  (∀ (s : State) (m k : Nat) (v : Word) (h : List Byte), judge s m hwdPage R.HWD_OP_CTRL 8 (goWord 7 v) = .ok → hwdOpHeld s m = false →
    commandWrote s m [R.HWD_OP_ARG] = true → fld s hwdPage F.HWD_OP_ARG_INDEX = k → s.hwd.owners.getD k .empty = .active h →
    completes (.ownerRevoke m v) s (fun t =>
      (2 ≤ (activeOwners s).length → fld t hwdPage F.HWD_OP_CTRL_RESULT = 0 ∧ t.hwd = { s.hwd with owners := s.hwd.owners.set k (.revoked h) }) ∧
      ((activeOwners s).length < 2 → fld t hwdPage F.HWD_OP_CTRL_RESULT ≠ 0 ∧ t.hwd = s.hwd ∧ stuck t hwdPage S.HWD_OP_REFUSED) ∧
      keeps [.regs, .out, .events, .wst, .cmd, .hwd] s t ∧ sameRegs [hwdPage] s t)) ∧
  (∀ (s : State) (m : Nat) (v : Word), judge s m hwdPage R.HWD_CTRL 8 (v ||| 1) = .ok → bitOf v 1 = false → bitOf v 2 = false → bitOf v 3 = false →
    completes (.confirm m v) s (fun t => t.wst = 0 ∧
      (s.hwd.trial = true → t.hwd = { s.hwd with trial := false, sel := { gen := s.hwd.sel.gen + 1, slot := s.hwd.running } }) ∧
      (s.hwd.trial = false → t.hwd = s.hwd) ∧ keeps [.hwd, .wst, .regs] s t ∧ sameRegs [] s t)) ∧
  (∀ (s : State) (m : Nat) (v : Word), judge s m hwdPage R.HWD_CTRL 8 (v ||| 2) = .ok → bitOf v 0 = false → bitOf v 2 = false → bitOf v 3 = false →
    s.hwd.unlock ≠ none →
    completes (.relock m v) s (fun t => t.hwd = { s.hwd with unlock := none } ∧ stuck t hwdPage S.HWD_RELOCK ∧ (∀ p, p < 0x400 → flag t p F.PAGE_CTRL_DEBUG = false) ∧ t.wst = 0 ∧
      keeps [.hwd, .wst, .regs, .out, .events, .sch] s t)) ∧
  (∀ (s : State) (u : DebugUnlock), s.hwd.unlock = some u →
    completes .unlockExpiry s (fun t => t.hwd = { s.hwd with unlock := none } ∧ stuck t hwdPage S.HWD_RELOCK ∧ (∀ p, p < 0x400 → flag t p F.PAGE_CTRL_DEBUG = false) ∧ u.ends ≤ t.mono ∧
      keeps [.hwd, .regs, .out, .events, .sch, .mono, .dev] s t)) ∧
  (∀ (s : State) (m : Nat) (v : Word), bitOf v 0 = false → bitOf v 1 = false → (isActiveSteward s m = true ∨ kindOne s m = true) → s.hwd.trial = false →
    (judge s m hwdPage R.HWD_CTRL 8 (v ||| 4) = .ok → bitOf v 3 = false →
      completes (.advanceFwSvn m v) s (fun t => t.hwd = { s.hwd with fwSvn := max s.hwd.fwSvn (min 64 s.hwd.runSvn) } ∧ t.wst = 0 ∧ keeps [.hwd, .wst] s t)) ∧
    (judge s m hwdPage R.HWD_CTRL 8 (v ||| 8) = .ok → bitOf v 2 = false →
      completes (.advanceWorkSvn m v) s (fun t => t.hwd = { s.hwd with workSvn := max s.hwd.workSvn (min 64 (s.hwd.work.getD 0)) } ∧ t.wst = 0 ∧ keeps [.hwd, .wst] s t))) ∧
  (∀ (s : State) (m : Nat) (v : Word), bitOf v 0 = false → bitOf v 1 = false → ((isActiveSteward s m = false ∧ kindOne s m = false) ∨ s.hwd.trial = true) →
    (judge s m hwdPage R.HWD_CTRL 8 (v ||| 4) = .ok → bitOf v 3 = false →
      completes (.advanceFwSvn m v) s (fun t => t.hwd = s.hwd ∧ stuck t hwdPage S.CFG_REFUSED ∧ t.wst = 5 ∧ keeps [.regs, .out, .events, .wst] s t)) ∧
    (judge s m hwdPage R.HWD_CTRL 8 (v ||| 8) = .ok → bitOf v 2 = false →
      completes (.advanceWorkSvn m v) s (fun t => t.hwd = s.hwd ∧ stuck t hwdPage S.CFG_REFUSED ∧ t.wst = 5 ∧ keeps [.regs, .out, .events, .wst] s t))) ∧
  (∀ (s : State) (m p : Nat) (v : Word), judge s m hwdPage R.HWD_LOCK 8 (v ||| 0x40000) = .ok → fieldOf v 0 16 = p → p ∈ headerPages →
    (kindOne s m = true ∨ (isActiveSteward s m = true ∧ (bitOf (reg s p R.WRITE_LOCK) 0 = true → bitOf v 16 = true) ∧ (bitOf (reg s p R.WRITE_LOCK) 1 = true → bitOf v 17 = true))) →
    completes (.lockApply m v) s (fun t => bitOf (reg t p R.WRITE_LOCK) 0 = bitOf v 16 ∧ bitOf (reg t p R.WRITE_LOCK) 1 = bitOf v 17 ∧ t.wst = 0 ∧
      keeps [.regs, .wst] s t ∧ sameRegs [hwdPage, p] s t)) ∧
  (∀ (s : State) (m : Nat) (v : Word), judge s m hwdPage R.HWD_LOCK 8 (v ||| 0x40000) = .ok → kindOne s m = false →
    (isActiveSteward s m = false ∨ (bitOf (reg s (fieldOf v 0 16) R.WRITE_LOCK) 0 = true ∧ bitOf v 16 = false) ∨ (bitOf (reg s (fieldOf v 0 16) R.WRITE_LOCK) 1 = true ∧ bitOf v 17 = false)) →
    completes (.lockApply m v) s (fun t => stuck t hwdPage S.LOCK_REFUSED ∧ (∀ p, p < 0x400 → reg t p R.WRITE_LOCK = reg s p R.WRITE_LOCK) ∧ t.wst = 5 ∧
      keeps [.regs, .out, .events, .wst] s t ∧ sameRegs [hwdPage] s t))

/-- RESUME and checkpoints. RESUME is committed in CKPT_RING as soon as the ring can hold it, and opens the Ledger; with
an unusable ring nothing happens. CKPT_NOW and CKPT_TIME start a checkpoint of the last committed position, hold the
trigger while one is pending, and do nothing before RESUME. CHECKPOINT signs and persists the pending payload, or
flags the failure and ends it; held triggers start one checkpoint together, with REASON 3 if one of them is the
shutdown, else that of the earliest. A persisted checkpoint is committed as soon as the ring takes it, and is flagged
once it has waited 1 s. Where the spec can be read in more than one way it follows log entry 59. (R417, R435, R436,
20_heartwood.md) -/
def Obligations.LedgerCheckpoints : Prop :=
  (∀ (s : State) (ring : Nat) (r : Ring), ldgOpen s = false → ldgEpoch s ≠ 0 → bestCheckpoint s = none → fld s ldgPage F.LDG_RINGS_CKPT_RING = ring →
    ringOf s ring = r → r.valid = true → 79 ≤ r.size / 128 → r.reserve - r.taken + 79 ≤ r.units → pageLive s rngPage = true → unarmed s rngPage →
    s.ldg.waiting = [] → s.pwr.used = none → hbmInside r.base r.size = true → (∀ d, d < 4 → stackRefuses s d = false) → s.hbm.fences = [] →
    completes .resume s (fun t => ldgOpen t = true ∧ stuck t ldgPage S.LDG_RESUMED ∧ ldgNext t = (ldgNext s + 1) % 2 ^ 64 ∧ t.ldg.first = ldgNext s ∧
      counted s t ldgPage R.LDG_CNT 0 1 ∧ (ringOf t ring).reserve = r.reserve + 79 ∧
      (∃ x ∈ (ringOf t ring).spans, x.start = r.reserve ∧ x.len = 79 ∧ x.st = .committed ∧ x.producer = 8) ∧ (∀ j, j ≠ ring → ringOf t j = ringOf s j))) ∧
  (∀ (s : State), ldgOpen s = false → (ringOf s (fld s ldgPage F.LDG_RINGS_CKPT_RING)).valid = false → completes .resume s (fun t => t = s)) ∧
  (∀ (s : State) (m : Nat) (v : Word), judge s m ldgPage R.LDG_CTRL 8 (v ||| 1) = .ok → ldgOpen s = false →
    completes (.ckptNow m v) s (fun t => t.ldg = s.ldg ∧ t.wst = 0 ∧ keeps [.wst, .regs] s t ∧ sameRegs [] s t)) ∧
  (∀ (s : State) (m : Nat) (v : Word), judge s m ldgPage R.LDG_CTRL 8 (v ||| 1) = .ok → ldgOpen s = true → s.ldg.noIdentity = false → s.ldg.pendingCkpt = none →
    s.ldg.held = [] → (∀ t0, s.ldg.lastStart = some t0 → t0 + 1000 * msUnits ≤ s.mono) →
    completes (.ckptNow m v) s (fun t => t.ldg.pendingCkpt = some ⟨ldgNext s - 1, checkpointBody s (ldgNext s - 1) 4 (devTime s), false, s.mono⟩ ∧
      flag t ldgPage F.LDG_STATUS_PENDING = true ∧ t.ldg.lastStart = some s.mono ∧ t.ldg.lastTrigger = s.mono ∧ t.ldg.held = [] ∧ t.wst = 0 ∧
      keeps [.ldg, .wst, .regs] s t ∧ sameRegs [ldgPage] s t)) ∧
  (∀ (s : State) (m : Nat) (v : Word), judge s m ldgPage R.LDG_CTRL 8 (v ||| 1) = .ok → ldgOpen s = true → s.ldg.noIdentity = false →
    (s.ldg.pendingCkpt ≠ none ∨ ∃ t0 ∈ s.ldg.lastStart, s.mono < t0 + 1000 * msUnits) →
    completes (.ckptNow m v) s (fun t => t.ldg = { s.ldg with lastTrigger := s.mono, held := s.ldg.held ++ [⟨4, devTime s⟩] } ∧
      counted s t ldgPage R.LDG_CNT 2 (if s.ldg.held = [] then 0 else 1) ∧ keeps [.ldg, .wst, .regs] s t ∧ sameRegs [ldgPage] s t)) ∧
  (∀ (s : State), ldgOpen s = false → completes .ckptTime s (fun t => t = s)) ∧
  (∀ (s s1 : State), ldgOpen s = true → s.ldg.noIdentity = false → s.ldg.held = [] →
    s1 = advanceMono (s.ldg.lastTrigger + fld s ldgPage F.LDG_CFG_CKPT_MS * msUnits) s → ckptMayStart s1 = true →
    completes .ckptTime s (fun t => t.ldg.pendingCkpt = some ⟨ldgNext s - 1, checkpointBody s1 (ldgNext s - 1) 2 (devTime s1), false, s1.mono⟩ ∧
      s.ldg.lastTrigger + fld s ldgPage F.LDG_CFG_CKPT_MS * msUnits ≤ t.mono ∧ flag t ldgPage F.LDG_STATUS_PENDING = true ∧
      keeps [.ldg, .regs, .mono, .dev] s t ∧ sameRegs [ldgPage] s t)) ∧
  (∀ (s : State) (p : LdgPending), s.ldg.pendingCkpt = some p → p.persisted = false → unarmed s ldgPage →
    completes (.checkpoint true) s (fun t => (reg t ldgPage R.LDG_PERSISTED).toNat = p.covers % 2 ^ 64 ∧
      t.ldg.pendingCkpt = some { p with payload := p.payload ++ signature s, persisted := true, since := s.mono } ∧ t.ldg.gen = s.ldg.gen + 1 ∧
      t.ldg.slots.head? = some ⟨s.ldg.gen, false, ldgEpoch s, p.payload ++ signature s⟩ ∧ counted s t ldgPage R.LDG_CNT 3 1 ∧
      keeps [.ldg, .regs, .free] s t ∧ sameRegs [ldgPage] s t)) ∧
  (∀ (s : State) (p : LdgPending), s.ldg.pendingCkpt = some p → p.persisted = false →
    completes (.checkpoint false) s (fun t => t.ldg = { s.ldg with pendingCkpt := none } ∧ stuck t ldgPage S.LDG_PERSIST_FAIL ∧
      flag t ldgPage F.LDG_STATUS_PENDING = false ∧ reg t ldgPage R.LDG_PERSISTED = reg s ldgPage R.LDG_PERSISTED)) ∧
  (∀ (s : State) (k : Nat), s.ldg.pendingCkpt = none → s.ldg.held ≠ [] → unarmed s ldgPage → k < 256 →
    k = (if s.ldg.held.any (fun h => decide (h.reason = 3)) then 3 else ((s.ldg.held.head?).map (·.reason)).getD 0) →
    completes (.checkpoint true) s (fun t => t.ldg.held = [] ∧ (∃ q, t.ldg.pendingCkpt = some q ∧ q.persisted = true ∧ q.covers = ldgNext s - 1 ∧
        (q.payload.getD 20 0).toNat = k) ∧ (∀ t0 ∈ s.ldg.lastStart, t0 + 1000 * msUnits ≤ t.mono))) ∧
  (∀ (s : State) (ok : Bool), s.ldg.pendingCkpt = none → s.ldg.held = [] → completes (.checkpoint ok) s (fun t => t = s)) ∧
  (∀ (s : State) (p : LdgPending) (e : Emit × State), s.ldg.pendingCkpt = some p → p.persisted = true →
    e = emitRecord (fld s ldgPage F.LDG_RINGS_CKPT_RING) 8 5 4 p.payload s →
    completes .ckptPersisted s (fun t =>
      (e.1 = .done → (reg t ldgPage R.LDG_CKPT).toNat = p.covers % 2 ^ 64 ∧ t.ldg = { e.2.ldg with pendingCkpt := none } ∧ flag t ldgPage F.LDG_STATUS_PENDING = false ∧
        counted e.2 t ldgPage R.LDG_CNT 1 1 ∧ keeps [.ldg, .regs] e.2 t ∧ sameRegs [ldgPage] e.2 t) ∧
      (e.1 ≠ .done → t = e.2))) ∧
  (∀ (s : State), (∀ p ∈ s.ldg.pendingCkpt, p.persisted = false) → completes .ckptPersisted s (fun t => t = s)) ∧
  (∀ (s : State) (p : LdgPending), s.ldg.pendingCkpt = some p →
    completes .ckptLate s (fun t => stuck t ldgPage S.LDG_CKPT_LATE ∧ p.since + 1000 * msUnits ≤ t.mono ∧ t.ldg = s.ldg ∧
      keeps [.regs, .out, .events, .mono, .dev] s t ∧ sameRegs [ldgPage] s t))

/-- Domain requests, rails and temperatures, resets, the start and the orderly shutdown. A domain request is refused whole
with the first failing check, or its domains are exactly what it names, C-dies whose regulator does not obey apart;
latched claims stay. Rails, package power and temperatures set their bits by the stated limits. A thermal trip leaves
only PD0 to PD4, PD17 and PD20 on, every field output high-impedance. A power-on reset leaves the reset state, the
flash and fuses apart; a full reset keeps the PWR page too, with every output low. FULL_RESET and SHUTDOWN are refused
to a master they are not open to. A start waits for its rails; otherwise it is quick exactly under R445, writes its
record and is READY unless a stack or an SRAM failed. A shutdown begins by stopping every plan and ends with every
domain but PD0 gated, the closing record written. The regulator transactions and the record's free values are the
model's choice. Where the spec can be read in more than one way it follows log entries 74, 75, 76, 77 and 78. (R438,
R439, R441, R442, R443, R444, R445, R446, R448, R449, R460, R461) -/
def Obligations.PowerResetAndStart : Prop :=
  (∀ (s : State) (m : Nat) (v : Word) (env : PowerEnv) (c1 c2 c3 c4 : Bool), judge s m pwrPage R.PWR_DOMAIN_REQ 8 v = .ok →
    c1 = (armedRef s && !isActiveSteward s m && !kindOne s m) →
    c2 = ([0, 1, 4, 17, 20].any (fun d => domainOn s d && !bitOf v d) || (armedRef s && domainOn s 3 && !bitOf v 3)) →
    c3 = (List.range 4).any (fun d => ((domainOn s (5 + d) && !bitOf v (5 + d)) || (domainOn s (9 + d) && !bitOf v (9 + d))) && dieInUse s d) →
    c4 = ((List.range 4).any (fun d => (bitOf v (5 + d) && !bitOf v (9 + d)) || (bitOf v (9 + d) && (!bitOf v 2 || !bitOf v (18 + d / 2))))) →
    (c1 || c2 || c3 || c4) = true →
    completes (.pwrDomainReq m v env) s (fun t => fld t pwrPage F.PWR_DOMAIN_STATUS_RESULT = (if c1 then 1 else if c2 then 2 else if c3 then 3 else 4) ∧
      stuck t pwrPage S.PWR_GATE_REFUSED ∧ t.wst = 5 ∧ reg t pwrPage R.PWR_DOMAIN_REQ = reg s pwrPage R.PWR_DOMAIN_REQ ∧
      (∀ d, d < 24 → domainOn t d = domainOn s d) ∧ keeps [.regs, .out, .events, .wst] s t ∧ sameRegs [pwrPage] s t)) ∧
  (∀ (s : State) (m : Nat) (v : Word) (env : PowerEnv), judge s m pwrPage R.PWR_DOMAIN_REQ 8 v = .ok → unarmed s pwrPage →
    (armedRef s = false ∨ ((isActiveSteward s m = true ∨ kindOne s m = true) ∧ (domainOn s 3 = true → bitOf v 3 = true))) →
    (∀ d, d ∈ [0, 1, 4, 17, 20] → domainOn s d = true → bitOf v d = true) →
    (∀ d, d < 4 → dieInUse s d = true → (domainOn s (5 + d) = true → bitOf v (5 + d) = true) ∧ (domainOn s (9 + d) = true → bitOf v (9 + d) = true)) →
    (∀ d, d < 24 → bitOf v d = true → ∀ n, n ∈ domainNeeds d → bitOf v n = true) →
    completes (.pwrDomainReq m v env) s (fun t => fld t pwrPage F.PWR_DOMAIN_STATUS_RESULT = 0 ∧ t.wst = 0 ∧
      (reg t pwrPage R.PWR_DOMAIN_REQ).toNat = fieldOf v 0 24 ∧ (∀ d, d < 24 → bitOf v d = false → domainOn t d = false) ∧
      (∀ d, d < 24 → bitOf v d = true → (d < 5 ∨ 12 < d ∨ (d - 5) % 4 ∉ env.dead) → domainOn t d = true) ∧
      (∀ d, d < 4 → d ∈ env.dead → domainOn s (5 + d) = false → domainOn s (9 + d) = false → bitOf v (9 + d) = true →
        domainOn t (5 + d) = false ∧ domainOn t (9 + d) = false ∧ stuck t pwrPage S.PWR_PMBUS_FAIL) ∧
      (∀ c, c < 32 → fld t (fldPage c) F.CLAIM_LATCHED = fld s (fldPage c) F.CLAIM_LATCHED) ∧ same .mono s t ∧ same .mem s t ∧ same .grants s t)) ∧
  (∀ (s : State) (rails : List (Nat × Int × Nat)) (watts : Nat), unarmed s pwrPage →
    completes (.railMonitor rails watts) s (fun t =>
      (stuck t pwrPage S.PWR_RAIL_WARN ↔ stuck s pwrPage S.PWR_RAIL_WARN ∨
        ∃ x ∈ rails, x.1 < 15 ∧ railOutside x.2.1 (if x.1 < 4 then (fld s pwrPage (F.PWR_RAIL_TARGET_MV.at x.1) : Int) else railNominal x.1) 25 = true) ∧
      (stuck t pwrPage S.PWR_RAIL_FAULT ↔ stuck s pwrPage S.PWR_RAIL_FAULT ∨
        ∃ x ∈ rails, x.1 < 15 ∧ railOutside x.2.1 (if x.1 < 4 then (fld s pwrPage (F.PWR_RAIL_TARGET_MV.at x.1) : Int) else railNominal x.1) 50 = true) ∧
      (stuck t pwrPage S.PWR_POWER_HIGH ↔ stuck s pwrPage S.PWR_POWER_HIGH ∨ fld s pwrPage F.PWR_CFG_POWER_WARN_W < watts) ∧
      fld t pwrPage F.PWR_POWER_NOW_W = min 65535 watts ∧ fld t pwrPage F.PWR_POWER_PEAK_W = max (min 65535 watts) (fld s pwrPage F.PWR_POWER_PEAK_W) ∧
      (rails.Pairwise (fun a b => a.1 ≠ b.1) → ∀ x ∈ rails, x.1 < 15 → fld t pwrPage (F.PWR_RAIL_MV.at x.1) = ofSigned 16 x.2.1 ∧
        fld t pwrPage (F.PWR_RAIL_CURRENT.at x.1) = x.2.2 % 65536 ∧ (4 ≤ x.1 → fld t pwrPage (F.PWR_RAIL_TARGET_MV.at x.1) = ofSigned 16 (railNominal x.1))) ∧
      (∀ d, d < 24 → domainOn t d = domainOn s d) ∧ keeps [.regs, .out, .events] s t ∧ sameRegs [pwrPage] s t)) ∧
  (∀ (s : State) (die : Nat) (tj : Int), die < 6 → unarmed s pwrPage →
    completes (.tempHigh die tj) s (fun t => (stuck t pwrPage S.PWR_TEMP_HIGH ↔ stuck s pwrPage S.PWR_TEMP_HIGH ∨
        ((if Config.extendedTemp then 105 else 95) < tj ∧ s.pwr.hot.testBit die = false)) ∧
      fieldOf (reg t pwrPage R.PWR_TEMP) (8 * die) 8 = ofSigned 8 tj ∧ t.pwr.hot.testBit die = decide ((if Config.extendedTemp then 105 else 95) < tj) ∧
      (∀ k, k < 6 → k ≠ die → fieldOf (reg t pwrPage R.PWR_TEMP) (8 * k) 8 = fieldOf (reg s pwrPage R.PWR_TEMP) (8 * k) 8) ∧
      (∀ d, d < 24 → domainOn t d = domainOn s d) ∧ keeps [.regs, .out, .events, .pwr] s t ∧ sameRegs [pwrPage] s t)) ∧
  (∀ (s : State) (die : Nat) (tj : Int) (dead : List Nat), die < 6 → 105 + (fld s pwrPage F.PWR_CFG_TRIP_MARGIN : Nat) < tj →
    completes (.tempTrip die tj dead) s (fun t => stuck t pwrPage S.PWR_TEMP_TRIP ∧ fieldOf (reg t pwrPage R.PWR_TEMP) (8 * die) 8 = ofSigned 8 tj ∧
      (∀ d, d < 24 → domainOn t d = (domainOn s d && decide (d ∈ [0, 1, 2, 3, 4, 17, 20]))) ∧ (∀ c, c < 32 → ntGet t.pins.field c = 0) ∧
      (∀ d, d < 4 → fld t pwrPage (F.PWR_RAIL_TARGET_MV.at d) = 0) ∧ (∀ d, d < 4 → d ∈ dead → stuck t pwrPage S.PWR_PMBUS_FAIL) ∧
      same .mono s t ∧ same .mem s t ∧ same .grants s t ∧ same .ref s t)) ∧
  (∀ (s : State) (die : Nat) (tj : Int) (dead : List Nat), die < 6 → unarmed s pwrPage → tj ≤ 95 + (fld s pwrPage F.PWR_CFG_TRIP_MARGIN : Nat) →
    completes (.tempTrip die tj dead) s (fun t => (stuck t pwrPage S.PWR_TEMP_TRIP ↔ stuck s pwrPage S.PWR_TEMP_TRIP) ∧
      (∀ d, d < 24 → domainOn t d = domainOn s d) ∧ keeps [.regs, .out, .events, .pwr] s t ∧ sameRegs [pwrPage] s t)) ∧
  (∀ (s : State) (faults dead : List Nat), unarmed s pwrPage →
    completes (.smbAlert faults dead) s (fun t =>
      (stuck t pwrPage S.PWR_RAIL_FAULT ↔ stuck s pwrPage S.PWR_RAIL_FAULT ∨ ∃ k ∈ faults, k < 15 ∧ k ∉ dead) ∧
      (stuck t pwrPage S.PWR_PMBUS_FAIL ↔ stuck s pwrPage S.PWR_PMBUS_FAIL ∨ ∃ k ∈ dead, k < 15) ∧
      (∀ k, k < 15 → ⟨.pmbus, 0x40 + k, [2, 0]⟩ ∈ t.out) ∧ (∀ d, d < 24 → domainOn t d = domainOn s d) ∧
      keeps [.regs, .out, .events] s t ∧ sameRegs [pwrPage] s t)) ∧
  (∀ (s : State), completes .powerOn s (fun t => keeps [.mono, .free, .out, .rd, .wst, .regs, .rl, .ldg, .hwd, .pwr, .pins] State.reset t ∧
      sameRegs [hwdPage, pwrPage] State.reset t ∧ (∀ d, d < 24 → domainOn t d = decide (d = 0)) ∧
      fld t pwrPage F.PWR_CFG_TRIP_MARGIN = 10 ∧ fld t pwrPage F.PWR_CFG_POWER_WARN_W = 540 ∧ fld t pwrPage F.PWR_CFG_START_ON = 0xFFFFFF ∧
      reg t pwrPage R.PWR_AON_SESSION = Config.freeValue (s.free + 2) ∧ aonSeconds t = 0 ∧ reg t hwdPage R.HWD_BOOT_NONCE = Config.freeValue s.free ∧
      t.free = s.free + 3 ∧ t.pwr.area = s.pwr.area ∧ t.rl.areaA = s.rl.areaA ∧ t.rl.areaB = s.rl.areaB ∧ t.ldg.slots = s.ldg.slots ∧
      t.hwd.owners = s.hwd.owners ∧ t.hwd.fwSvn = s.hwd.fwSvn ∧ t.hwd.workSvn = s.hwd.workSvn ∧ t.hwd.sel = s.hwd.sel ∧ t.hwd.unlock = none)) ∧
  (∀ (s : State), completes .resetN s (fun t => keeps [.mono, .free, .out, .rd, .wst, .regs, .armed, .retry, .rl, .ldg, .hwd, .pwr, .pins] State.reset t ∧
      sameRegs [hwdPage, pwrPage] State.reset t ∧ (∀ d, d < 24 → domainOn t d = decide (d = 0)) ∧ fld t pwrPage F.WRITE_LOCK_LOCKED = 0 ∧
      (∀ off, off < 0x1000 → off ≠ R.WRITE_LOCK → off ≠ R.PWR_DOMAIN_STATUS → reg t pwrPage off = reg s pwrPage off) ∧ aonSeconds t = aonSeconds s ∧
      reg t hwdPage R.HWD_BOOT_NONCE = Config.freeValue s.free ∧ t.free = s.free + 2 ∧ t.pwr.area = s.pwr.area ∧ t.rl.areaA = s.rl.areaA ∧
      t.rl.areaB = s.rl.areaB ∧ t.ldg.slots = s.ldg.slots ∧ t.hwd.owners = s.hwd.owners ∧ t.hwd.unlock = none ∧ same .mono s t ∧
      (∀ n, n < 16 → ntGet t.pins.trig n = 0 ∧ ntGet t.pins.fco n = 0) ∧ (∀ n, n < 8 → ntGet t.pins.clk n = 0) ∧ (∀ c, c < 32 → ntGet t.pins.field c = 0))) ∧
  (∀ (s : State) (m : Nat) (v : Word), judge s m pwrPage R.PWR_CTRL 8 (v ||| 1) = .ok → (armedRef s = false ∨ isActiveSteward s m = true ∨ kindOne s m = true) →
    completes (.fullReset m v) s (fun t => keeps [.mono, .free, .out, .rd, .wst, .regs, .armed, .retry, .rl, .ldg, .hwd, .pwr, .pins] State.reset t ∧
      sameRegs [hwdPage, pwrPage] State.reset t ∧ (∀ d, d < 24 → domainOn t d = decide (d = 0)) ∧ aonSeconds t = aonSeconds s ∧
      reg t pwrPage R.PWR_AON_SESSION = reg s pwrPage R.PWR_AON_SESSION ∧ reg t hwdPage R.HWD_BOOT_NONCE = Config.freeValue s.free ∧
      t.pwr.area = s.pwr.area ∧ t.ldg.slots = s.ldg.slots ∧ same .mono s t ∧ t.wst = 0 ∧ (∀ c, c < 32 → ntGet t.pins.field c = 0))) ∧
  (∀ (s : State) (m : Nat) (v : Word), judge s m pwrPage R.PWR_CTRL 8 (v ||| 1) = .ok → armedRef s = true → isActiveSteward s m = false → kindOne s m = false →
    completes (.fullReset m v) s (fun t => stuck t pwrPage S.CFG_REFUSED ∧ t.wst = 5 ∧ (∀ d, d < 24 → domainOn t d = domainOn s d) ∧
      keeps [.regs, .out, .events, .wst] s t ∧ sameRegs [pwrPage] s t)) ∧
  (∀ (s : State) (env : StartEnv), fld s pwrPage F.PWR_DOMAIN_STATUS_ON = 1 → deviceReady s = false → fld s cltPage F.CLT_STATUS_PHASE = 0 →
    (∃ k ∈ env.rails, 4 ≤ k ∧ k ≤ 11) →
    completes (.start env) s (fun t => stuck t pwrPage S.PWR_RAIL_FAULT ∧ fld t pwrPage F.PWR_DOMAIN_STATUS_ON = 1 ∧ deviceReady t = false ∧
      keeps [.regs, .out, .events] s t ∧ sameRegs [pwrPage] s t)) ∧
  (∀ (s : State) (env : StartEnv), fld s pwrPage F.PWR_DOMAIN_STATUS_ON ≠ 1 ∨ deviceReady s = true ∨ fld s cltPage F.CLT_STATUS_PHASE ≠ 0 →
    completes (.start env) s (fun t => t = s)) ∧
  (∀ (s : State) (env : StartEnv), fld s pwrPage F.PWR_DOMAIN_STATUS_ON = 1 → deviceReady s = false → fld s cltPage F.CLT_STATUS_PHASE = 0 →
    (∀ k ∈ env.rails, k < 4 ∨ 11 < k) →
    completes (.start env) s (fun t => (∀ d, d ∈ [0, 1, 2, 3, 4, 17, 20] → domainOn t d = true) ∧
      (t.hwd.recovery = true → deviceReady t = false ∧ ∀ d, d < 24 → d ∉ [0, 1, 2, 3, 4, 17, 20] → domainOn t d = false) ∧
      (t.hwd.recovery = false →
        (∀ d, d < 24 → d < 5 ∨ 12 < d → bitOf (reg s pwrPage R.PWR_CFG) d = true → domainOn t d = true) ∧
        deviceReady t = ((List.range 4).all (fun k => decide (fld t (hbmPage k) F.HBM_STATUS_STATE ≠ 4)) && (!env.sram || flag t cltPage F.CLT_STATUS_QUICK)) ∧
        (t.ldg.noIdentity = false → t.pwr.area.head?.map (byteField · 4 1) = some (if flag t cltPage F.CLT_STATUS_QUICK then 3 else 2)) ∧
        (t.ldg.noIdentity = true → t.pwr.area = s.pwr.area) ∧
        (flag t cltPage F.CLT_STATUS_QUICK = true ↔ t.ldg.noIdentity = false ∧ flag s cltPage F.CLT_CFG_QUICK_EN = true ∧ ∃ l ∈ s.pwr.area.head?,
          byteField l 4 1 = 1 ∧ byteField l 5 1 = 1 ∧ byteField l 8 2 = 0x1555 ∧ byteField l 24 8 = (reg s pwrPage R.PWR_AON_SESSION).toNat ∧
          aonSeconds s - byteField l 32 4 < 3888000 ∧ (l.drop 48).take 64 = identityHash ∧
          (l.drop 112).take 64 = runningMeasure t)))) ∧
  (∀ (s : State) (m : Nat) (v : Word), judge s m cltPage R.CLT_CTRL 8 (v ||| 1) = .ok → flag s cltPage F.PAGE_CTRL_ENABLE = true →
    (armedRef s = false ∨ isActiveSteward s m = true ∨ kindOne s m = true) → fld s cltPage F.CLT_STATUS_PHASE = 0 →
    completes (.shutdown m v) s (fun t => fld t cltPage F.CLT_STATUS_PHASE = 1 ∧ t.wst = 0 ∧ t.pwr.shutAt = s.mono ∧ t.pwr.shutOn = fld s pwrPage F.PWR_DOMAIN_STATUS_ON ∧
      (∀ d, d < 24 → domainOn t d = domainOn s d) ∧ same .mono s t ∧ same .grants s t ∧ same .hwd s t ∧
      (s.sch.plans = [] → keeps [.regs, .wst, .pwr] s t ∧ sameRegs [cltPage] s t) ∧
      (∀ e ∈ s.sch.plans.head?, s.sch.plans = [e] → planOf t (e.1 / 16) (e.1 % 16) =
        if batchInProgress s (e.1 / 16) (e.1 % 16) then some { e.2 with stopping := true } else none))) ∧
  (∀ (s : State) (m : Nat) (v : Word), judge s m cltPage R.CLT_CTRL 8 (v ||| 1) = .ok →
    (flag s cltPage F.PAGE_CTRL_ENABLE = false ∨ (armedRef s = true ∧ isActiveSteward s m = false ∧ kindOne s m = false)) →
    completes (.shutdown m v) s (fun t => stuck t cltPage S.CFG_REFUSED ∧ t.wst = 5 ∧ fld t cltPage F.CLT_STATUS_PHASE = fld s cltPage F.CLT_STATUS_PHASE ∧
      keeps [.regs, .out, .events, .wst] s t ∧ sameRegs [cltPage] s t)) ∧
  (∀ (s : State) (m : Nat) (v : Word), judge s m cltPage R.CLT_CTRL 8 (v ||| 1) = .ok → flag s cltPage F.PAGE_CTRL_ENABLE = true →
    (armedRef s = false ∨ isActiveSteward s m = true ∨ kindOne s m = true) → fld s cltPage F.CLT_STATUS_PHASE ≠ 0 →
    completes (.shutdown m v) s (fun t => t.wst = 0 ∧ keeps [.regs, .wst] s t ∧ sameRegs [] s t)) ∧
  (∀ (s : State) (env : CloseEnv), fld s cltPage F.CLT_STATUS_PHASE ≠ 1 → completes (.drainMs env) s (fun t => t = s)) ∧
  (∀ (s : State) (env : CloseEnv), fld s cltPage F.CLT_STATUS_PHASE = 1 →
    completes (.drainMs env) s (fun t => fld t cltPage F.CLT_STATUS_PHASE = 4 ∧ (∀ d, d < 24 → domainOn t d = (domainOn s d && decide (d = 0))) ∧
      fld t cltPage F.CLT_STATUS_NOT_RUN_CAUSE = (if env.rails.any (fun k => decide (k ≤ 11)) then 1 else 0) +
        (if fld s truPage F.TRU_STATUS_STATE = 2 then 0 else 2) + (if env.refOk then 0 else 4) + (if s.ldg.noIdentity then 8 else 0) ∧
      (∀ c, c < 32 → ntGet t.pins.field c = 0) ∧ (domainOn s 1 = true → domainOn s 2 = true → ∀ n, n < 16 → ntGet t.pins.trig n = 0 ∧ ntGet t.pins.fco n = 0) ∧
      (∀ n, n < 8 → ntGet t.pins.clk n = 0) ∧ (s.ldg.noIdentity = true ∨ env.recordOk = false → t.pwr.area = s.pwr.area) ∧
      (s.ldg.noIdentity = false ∧ env.recordOk = true → t.pwr.area.tail = s.pwr.area.take 1 ∧ t.pwr.area.head?.map (byteField · 4 1) = some 1 ∧
        t.pwr.area.head?.map (byteField · 5 1) = some (if fld t cltPage F.CLT_STATUS_NOT_RUN_CAUSE ≠ 0 then 3
          else if testedUnits s.pwr.shutOn env.units ≠ [] ∨ env.sram = true then 2 else 1)) ∧
      same .grants s t))
end

