-- ==== Sys2Proof/Laws/Bits.lean ====
section
/-! SUPPORT. The laws of bit fields: a field reads as it was last written, and a write leaves the other bits. -/

namespace Sys2Proof.Machine

/-- A bit of a field mask. -/
theorem fieldMask_bit (lo n b : Nat) : bitOf (fieldMask lo n) b = (decide (b < 64) && decide (lo ≤ b) && decide (b < lo + n)) := by
  unfold bitOf fieldMask
  rw [BitVec.getLsbD_ofNat, Nat.mul_comm, Nat.testBit_two_pow_mul, Nat.testBit_two_pow_sub_one]
  by_cases h : lo ≤ b
  · simp only [h, decide_true, Bool.true_and, Bool.and_true]
    congr 1
    by_cases h2 : b < lo + n
    · simp [h2]; omega
    · simp [h2]; omega
  · simp [h]

/-- A bit of a word with a field written. -/
theorem withField_bit (w : Word) (lo n v b : Nat) :
    bitOf (withField w lo n v) b =
      if lo ≤ b ∧ b < lo + n then decide (b < 64) && v.testBit (b - lo) else bitOf w b := by
  have hm := fieldMask_bit lo n b
  unfold bitOf at hm ⊢
  unfold withField
  rw [BitVec.getLsbD_or, BitVec.getLsbD_and, BitVec.getLsbD_not, hm, BitVec.getLsbD_ofNat, Nat.mul_comm, Nat.testBit_two_pow_mul,
    Nat.testBit_mod_two_pow]
  by_cases h64 : b < 64
  · by_cases h1 : lo ≤ b
    · by_cases h2 : b < lo + n
      · have : b - lo < n := by omega
        simp [h64, h1, h2, this]
      · have : ¬ b - lo < n := by omega
        simp [h64, h1, h2, this]
    · simp [h64, h1]
  · have hw : w.getLsbD b = false := BitVec.getLsbD_of_ge w b (by omega)
    simp [h64, hw]

/-- A bit of a field of a word. -/
theorem fieldOf_bit (w : Word) (lo n k : Nat) : (fieldOf w lo n).testBit k = (decide (k < n) && bitOf w (lo + k)) := by
  unfold fieldOf natField bitOf
  rw [Nat.testBit_mod_two_pow, Nat.testBit_div_two_pow, BitVec.testBit_toNat, Nat.add_comm]

/-- A field reads as it was last written. -/
theorem fieldOf_withField_self (w : Word) (lo n v : Nat) (h : lo + n ≤ 64) : fieldOf (withField w lo n v) lo n = v % 2 ^ n := by
  apply Nat.eq_of_testBit_eq
  intro k
  rw [fieldOf_bit, withField_bit, Nat.testBit_mod_two_pow]
  by_cases hk : k < n
  · have h1 : lo + k < 64 := by omega
    simp [hk, h1]
  · simp [hk]

/-- A write of a field leaves a field that does not meet it. -/
theorem fieldOf_withField_ne (w : Word) (lo n lo' n' v : Nat) (h : lo + n ≤ lo' ∨ lo' + n' ≤ lo) :
    fieldOf (withField w lo n v) lo' n' = fieldOf w lo' n' := by
  apply Nat.eq_of_testBit_eq
  intro k
  rw [fieldOf_bit, fieldOf_bit, withField_bit]
  by_cases hk : k < n'
  · have : ¬ (lo ≤ lo' + k ∧ lo' + k < lo + n) := by omega
    simp [this]
  · simp [hk]

/-- A bit reads as it was last written. -/
theorem bitOf_withBit_self (w : Word) (b : Nat) (v : Bool) (h : b < 64) : bitOf (withBit w b v) b = v := by
  unfold withBit
  rw [withField_bit]
  cases v <;> simp [h]

/-- A write of a bit leaves every other bit. -/
theorem bitOf_withBit_ne (w : Word) {b c : Nat} (v : Bool) (h : c ≠ b) : bitOf (withBit w b v) c = bitOf w c := by
  unfold withBit
  rw [withField_bit, if_neg (by omega)]

/-- The little-endian bytes of a number, and the number they spell. -/
theorem leBytes_length (n x : Nat) : (leBytes n x).length = n := by
  induction n generalizing x with
  | zero => rfl
  | succ n ih => simp [leBytes, ih]

theorem ofLeBytes_leBytes (n x : Nat) : ofLeBytes (leBytes n x) = x % 256 ^ n := by
  induction n generalizing x with
  | zero => simp [leBytes, ofLeBytes, Nat.mod_one]
  | succ n ih =>
    simp only [leBytes, ofLeBytes, ih, BitVec.toNat_ofNat]
    rw [Nat.pow_succ' (n := n) (m := 256), Nat.mod_mul]

end Sys2Proof.Machine
end

