-- ==== Sys2Proof/Laws/Sparse.lean ====
section
/-! SUPPORT. The laws of sparse stores: a read after a write, and what keeps the canonical form. -/

namespace Sys2Proof.Machine

variable {α : Type}

@[simp] theorem sparseFind_nil (a : Nat) : sparseFind ([] : List (Nat × α)) a = none := rfl

theorem sparseFind_cons (e : Nat × α) (l : List (Nat × α)) (a : Nat) :
    sparseFind (e :: l) a = if e.1 = a then some e.2 else sparseFind l a := rfl

theorem sparseErase_cons (e : Nat × α) (l : List (Nat × α)) (a : Nat) :
    sparseErase (e :: l) a = if e.1 = a then sparseErase l a else e :: sparseErase l a := by
  by_cases h : e.1 = a <;> simp [sparseErase, h]

/-- Erasing a key leaves nothing at it. -/
@[simp] theorem sparseFind_erase_self (l : List (Nat × α)) (a : Nat) : sparseFind (sparseErase l a) a = none := by
  induction l with
  | nil => rfl
  | cons e l ih => by_cases h : e.1 = a <;> simp [sparseErase_cons, h, sparseFind_cons, ih]

/-- Erasing a key leaves every other key. -/
theorem sparseFind_erase_ne (l : List (Nat × α)) {a b : Nat} (h : b ≠ a) : sparseFind (sparseErase l a) b = sparseFind l b := by
  induction l with
  | nil => rfl
  | cons e l ih =>
    by_cases hk : e.1 = a
    · simp [sparseErase_cons, hk, sparseFind_cons, ih, Ne.symm h]
    · simp [sparseErase_cons, hk, sparseFind_cons, ih]

/-- Leaving out keys leaves what stands at the others. -/
theorem sparseFind_filter (l : List (Nat × α)) (p : Nat → Bool) (a : Nat) :
    sparseFind (l.filter (fun e => p e.1)) a = if p a then sparseFind l a else none := by
  induction l with
  | nil => simp
  | cons e l ih =>
    by_cases he : e.1 = a
    · by_cases hp : p a <;> simp [sparseFind_cons, he, hp, ih]
    · by_cases hp : p e.1 <;> simp [sparseFind_cons, he, hp, ih]

/-- A key just inserted is found, where it was not listed before. -/
theorem sparseFind_insert_self (l : List (Nat × α)) (a : Nat) (v : α) (h : sparseFind l a = none) :
    sparseFind (sparseInsert l a v) a = some v := by
  induction l with
  | nil => simp [sparseInsert, sparseFind_cons]
  | cons e l ih =>
    rw [sparseFind_cons] at h
    split at h
    · cases h
    · rename_i hk
      by_cases hlt : a < e.1 <;> simp [sparseInsert, hlt, sparseFind_cons, hk, ih h]

/-- An insertion leaves every other key. -/
theorem sparseFind_insert_ne (l : List (Nat × α)) {a b : Nat} (v : α) (h : b ≠ a) :
    sparseFind (sparseInsert l a v) b = sparseFind l b := by
  induction l with
  | nil => simp [sparseInsert, sparseFind_cons, Ne.symm h]
  | cons e l ih =>
    by_cases hlt : a < e.1 <;> simp [sparseInsert, hlt, sparseFind_cons, ih, Ne.symm h]

section Stores
variable [DecidableEq α]

/-- A store reads at a key what was last written there. -/
@[simp] theorem sparseGet_set_self (d : Nat → α) (l : List (Nat × α)) (a : Nat) (v : α) : sparseGet d (sparseSet d l a v) a = v := by
  unfold sparseSet sparseGet
  split
  · rename_i h; simp [h]
  · simp [sparseFind_insert_self _ a v (sparseFind_erase_self l a)]

/-- A write leaves what every other key reads as. -/
theorem sparseGet_set_ne (d : Nat → α) (l : List (Nat × α)) {a b : Nat} (v : α) (h : b ≠ a) :
    sparseGet d (sparseSet d l a v) b = sparseGet d l b := by
  unfold sparseSet sparseGet
  split
  · rw [sparseFind_erase_ne l h]
  · rw [sparseFind_insert_ne _ v h, sparseFind_erase_ne l h]

theorem sparseWf_nil (d : Nat → α) : sparseWf d ([] : List (Nat × α)) := by simp [sparseWf]

/-- Leaving entries out keeps the canonical form. -/
theorem sparseWf_filter (d : Nat → α) (l : List (Nat × α)) (p : Nat × α → Bool) (h : sparseWf d l) : sparseWf d (l.filter p) :=
  ⟨h.1.filter p, fun e he => h.2 e (List.mem_of_mem_filter he)⟩

theorem mem_sparseInsert (l : List (Nat × α)) (a : Nat) (v : α) (e : Nat × α) :
    e ∈ sparseInsert l a v ↔ e = (a, v) ∨ e ∈ l := by
  induction l with
  | nil => simp [sparseInsert]
  | cons x l ih =>
    by_cases h : a < x.1
    · simp [sparseInsert, h]
    · simp only [sparseInsert, h, if_false, List.mem_cons, ih]; tauto

theorem sparseInsert_rises (l : List (Nat × α)) (a : Nat) (v : α) (h : l.Pairwise (fun x y => x.1 < y.1))
    (ha : ∀ e ∈ l, e.1 ≠ a) : (sparseInsert l a v).Pairwise (fun x y => x.1 < y.1) := by
  induction l with
  | nil => simp [sparseInsert]
  | cons x l ih =>
    have hx := List.pairwise_cons.1 h
    by_cases hlt : a < x.1
    · simp only [sparseInsert, hlt, if_true, List.pairwise_cons]
      refine ⟨?_, hx.1, hx.2⟩
      intro e he
      rcases List.mem_cons.1 he with rfl | he
      · exact hlt
      · exact lt_trans hlt (hx.1 e he)
    · simp only [sparseInsert, hlt, if_false, List.pairwise_cons]
      refine ⟨?_, ih hx.2 (fun e he => ha e (List.mem_cons_of_mem _ he))⟩
      intro e he
      rcases (mem_sparseInsert l a v e).1 he with rfl | he
      · exact lt_of_le_of_ne (not_lt.1 hlt) (ha x (List.mem_cons_self))
      · exact hx.1 e he

/-- A write keeps the canonical form. -/
theorem sparseWf_set (d : Nat → α) (l : List (Nat × α)) (a : Nat) (v : α) (h : sparseWf d l) : sparseWf d (sparseSet d l a v) := by
  have he : sparseWf d (sparseErase l a) := sparseWf_filter d l _ h
  unfold sparseSet
  split
  · exact he
  · rename_i hv
    refine ⟨sparseInsert_rises _ a v he.1 (fun e hm => ?_), fun e hm => ?_⟩
    · simpa [sparseErase] using (List.mem_filter.1 hm).2
    · rcases (mem_sparseInsert _ a v e).1 hm with rfl | hm
      · exact hv
      · exact he.2 e hm

end Stores

end Sys2Proof.Machine
end

