-- ==== Sys2Proof/Laws/State.lean ====
section
/-! SUPPORT. What each basic operation leaves of the state, field by field. -/

namespace Sys2Proof.Machine

/-! ## A register -/

@[simp] theorem setReg_pending (p off : Nat) (w : Word) (s : State) : (setReg p off w s).pending = s.pending := rfl
@[simp] theorem setReg_mono (p off : Nat) (w : Word) (s : State) : (setReg p off w s).mono = s.mono := rfl
@[simp] theorem setReg_devFine (p off : Nat) (w : Word) (s : State) : (setReg p off w s).devFine = s.devFine := rfl
@[simp] theorem setReg_free (p off : Nat) (w : Word) (s : State) : (setReg p off w s).free = s.free := rfl
@[simp] theorem setReg_out (p off : Nat) (w : Word) (s : State) : (setReg p off w s).out = s.out := rfl
@[simp] theorem setReg_rd (p off : Nat) (w : Word) (s : State) : (setReg p off w s).rd = s.rd := rfl
@[simp] theorem setReg_wst (p off : Nat) (w : Word) (s : State) : (setReg p off w s).wst = s.wst := rfl
@[simp] theorem setReg_grants (p off : Nat) (w : Word) (s : State) : (setReg p off w s).grants = s.grants := rfl
@[simp] theorem setReg_armed (p off : Nat) (w : Word) (s : State) : (setReg p off w s).armed = s.armed := rfl
@[simp] theorem setReg_retry (p off : Nat) (w : Word) (s : State) : (setReg p off w s).retry = s.retry := rfl
@[simp] theorem setReg_retryWin (p off : Nat) (w : Word) (s : State) : (setReg p off w s).retryWin = s.retryWin := rfl
@[simp] theorem setReg_msixFn (p off : Nat) (w : Word) (s : State) : (setReg p off w s).msixFn = s.msixFn := rfl
@[simp] theorem setReg_routes (p off : Nat) (w : Word) (s : State) : (setReg p off w s).routes = s.routes := rfl
@[simp] theorem setReg_evtCounts (p off : Nat) (w : Word) (s : State) : (setReg p off w s).evtCounts = s.evtCounts := rfl
@[simp] theorem setReg_evtQA (p off : Nat) (w : Word) (s : State) : (setReg p off w s).evtQA = s.evtQA := rfl
@[simp] theorem setReg_evtQB (p off : Nat) (w : Word) (s : State) : (setReg p off w s).evtQB = s.evtQB := rfl
@[simp] theorem setReg_mem (p off : Nat) (w : Word) (s : State) : (setReg p off w s).mem = s.mem := rfl
@[simp] theorem setReg_spr (p off : Nat) (w : Word) (s : State) : (setReg p off w s).spr = s.spr := rfl
@[simp] theorem setReg_rch (p off : Nat) (w : Word) (s : State) : (setReg p off w s).rch = s.rch := rfl
@[simp] theorem setReg_rl (p off : Nat) (w : Word) (s : State) : (setReg p off w s).rl = s.rl := rfl
@[simp] theorem setReg_fpl (p off : Nat) (w : Word) (s : State) : (setReg p off w s).fpl = s.fpl := rfl
@[simp] theorem setReg_mrk (p off : Nat) (w : Word) (s : State) : (setReg p off w s).mrk = s.mrk := rfl
@[simp] theorem setReg_hbm (p off : Nat) (w : Word) (s : State) : (setReg p off w s).hbm = s.hbm := rfl
@[simp] theorem setReg_rng (p off : Nat) (w : Word) (s : State) : (setReg p off w s).rng = s.rng := rfl
@[simp] theorem setReg_ldg (p off : Nat) (w : Word) (s : State) : (setReg p off w s).ldg = s.ldg := rfl
@[simp] theorem setReg_sch (p off : Nat) (w : Word) (s : State) : (setReg p off w s).sch = s.sch := rfl
@[simp] theorem setReg_tly (p off : Nat) (w : Word) (s : State) : (setReg p off w s).tly = s.tly := rfl
@[simp] theorem setReg_gge (p off : Nat) (w : Word) (s : State) : (setReg p off w s).gge = s.gge := rfl
@[simp] theorem setReg_pins (p off : Nat) (w : Word) (s : State) : (setReg p off w s).pins = s.pins := rfl
@[simp] theorem setReg_tru (p off : Nat) (w : Word) (s : State) : (setReg p off w s).tru = s.tru := rfl
@[simp] theorem setReg_zhk (p off : Nat) (w : Word) (s : State) : (setReg p off w s).zhk = s.zhk := rfl
@[simp] theorem setReg_dma (p off : Nat) (w : Word) (s : State) : (setReg p off w s).dma = s.dma := rfl
@[simp] theorem setReg_eth (p off : Nat) (w : Word) (s : State) : (setReg p off w s).eth = s.eth := rfl
@[simp] theorem setReg_tbs (p off : Nat) (w : Word) (s : State) : (setReg p off w s).tbs = s.tbs := rfl
@[simp] theorem setReg_chs (p off : Nat) (w : Word) (s : State) : (setReg p off w s).chs = s.chs := rfl
@[simp] theorem setReg_field (p off : Nat) (w : Word) (s : State) : (setReg p off w s).field = s.field := rfl
@[simp] theorem setReg_ref (p off : Nat) (w : Word) (s : State) : (setReg p off w s).ref = s.ref := rfl
@[simp] theorem setReg_hwd (p off : Nat) (w : Word) (s : State) : (setReg p off w s).hwd = s.hwd := rfl
@[simp] theorem setReg_cmd (p off : Nat) (w : Word) (s : State) : (setReg p off w s).cmd = s.cmd := rfl
@[simp] theorem setReg_pwr (p off : Nat) (w : Word) (s : State) : (setReg p off w s).pwr = s.pwr := rfl

/-! ## A field of a register -/

@[simp] theorem setFld_pending (p : Nat) (f : FieldRef) (v : Nat) (s : State) : (setFld p f v s).pending = s.pending := rfl
@[simp] theorem setFld_mono (p : Nat) (f : FieldRef) (v : Nat) (s : State) : (setFld p f v s).mono = s.mono := rfl
@[simp] theorem setFld_devFine (p : Nat) (f : FieldRef) (v : Nat) (s : State) : (setFld p f v s).devFine = s.devFine := rfl
@[simp] theorem setFld_free (p : Nat) (f : FieldRef) (v : Nat) (s : State) : (setFld p f v s).free = s.free := rfl
@[simp] theorem setFld_out (p : Nat) (f : FieldRef) (v : Nat) (s : State) : (setFld p f v s).out = s.out := rfl
@[simp] theorem setFld_rd (p : Nat) (f : FieldRef) (v : Nat) (s : State) : (setFld p f v s).rd = s.rd := rfl
@[simp] theorem setFld_wst (p : Nat) (f : FieldRef) (v : Nat) (s : State) : (setFld p f v s).wst = s.wst := rfl
@[simp] theorem setFld_grants (p : Nat) (f : FieldRef) (v : Nat) (s : State) : (setFld p f v s).grants = s.grants := rfl
@[simp] theorem setFld_armed (p : Nat) (f : FieldRef) (v : Nat) (s : State) : (setFld p f v s).armed = s.armed := rfl
@[simp] theorem setFld_retry (p : Nat) (f : FieldRef) (v : Nat) (s : State) : (setFld p f v s).retry = s.retry := rfl
@[simp] theorem setFld_retryWin (p : Nat) (f : FieldRef) (v : Nat) (s : State) : (setFld p f v s).retryWin = s.retryWin := rfl
@[simp] theorem setFld_msixFn (p : Nat) (f : FieldRef) (v : Nat) (s : State) : (setFld p f v s).msixFn = s.msixFn := rfl
@[simp] theorem setFld_routes (p : Nat) (f : FieldRef) (v : Nat) (s : State) : (setFld p f v s).routes = s.routes := rfl
@[simp] theorem setFld_evtCounts (p : Nat) (f : FieldRef) (v : Nat) (s : State) : (setFld p f v s).evtCounts = s.evtCounts := rfl
@[simp] theorem setFld_evtQA (p : Nat) (f : FieldRef) (v : Nat) (s : State) : (setFld p f v s).evtQA = s.evtQA := rfl
@[simp] theorem setFld_evtQB (p : Nat) (f : FieldRef) (v : Nat) (s : State) : (setFld p f v s).evtQB = s.evtQB := rfl
@[simp] theorem setFld_mem (p : Nat) (f : FieldRef) (v : Nat) (s : State) : (setFld p f v s).mem = s.mem := rfl
@[simp] theorem setFld_spr (p : Nat) (f : FieldRef) (v : Nat) (s : State) : (setFld p f v s).spr = s.spr := rfl
@[simp] theorem setFld_rch (p : Nat) (f : FieldRef) (v : Nat) (s : State) : (setFld p f v s).rch = s.rch := rfl
@[simp] theorem setFld_rl (p : Nat) (f : FieldRef) (v : Nat) (s : State) : (setFld p f v s).rl = s.rl := rfl
@[simp] theorem setFld_fpl (p : Nat) (f : FieldRef) (v : Nat) (s : State) : (setFld p f v s).fpl = s.fpl := rfl
@[simp] theorem setFld_mrk (p : Nat) (f : FieldRef) (v : Nat) (s : State) : (setFld p f v s).mrk = s.mrk := rfl
@[simp] theorem setFld_hbm (p : Nat) (f : FieldRef) (v : Nat) (s : State) : (setFld p f v s).hbm = s.hbm := rfl
@[simp] theorem setFld_rng (p : Nat) (f : FieldRef) (v : Nat) (s : State) : (setFld p f v s).rng = s.rng := rfl
@[simp] theorem setFld_ldg (p : Nat) (f : FieldRef) (v : Nat) (s : State) : (setFld p f v s).ldg = s.ldg := rfl
@[simp] theorem setFld_sch (p : Nat) (f : FieldRef) (v : Nat) (s : State) : (setFld p f v s).sch = s.sch := rfl
@[simp] theorem setFld_tly (p : Nat) (f : FieldRef) (v : Nat) (s : State) : (setFld p f v s).tly = s.tly := rfl
@[simp] theorem setFld_gge (p : Nat) (f : FieldRef) (v : Nat) (s : State) : (setFld p f v s).gge = s.gge := rfl
@[simp] theorem setFld_pins (p : Nat) (f : FieldRef) (v : Nat) (s : State) : (setFld p f v s).pins = s.pins := rfl
@[simp] theorem setFld_tru (p : Nat) (f : FieldRef) (v : Nat) (s : State) : (setFld p f v s).tru = s.tru := rfl
@[simp] theorem setFld_zhk (p : Nat) (f : FieldRef) (v : Nat) (s : State) : (setFld p f v s).zhk = s.zhk := rfl
@[simp] theorem setFld_dma (p : Nat) (f : FieldRef) (v : Nat) (s : State) : (setFld p f v s).dma = s.dma := rfl
@[simp] theorem setFld_eth (p : Nat) (f : FieldRef) (v : Nat) (s : State) : (setFld p f v s).eth = s.eth := rfl
@[simp] theorem setFld_tbs (p : Nat) (f : FieldRef) (v : Nat) (s : State) : (setFld p f v s).tbs = s.tbs := rfl
@[simp] theorem setFld_chs (p : Nat) (f : FieldRef) (v : Nat) (s : State) : (setFld p f v s).chs = s.chs := rfl
@[simp] theorem setFld_field (p : Nat) (f : FieldRef) (v : Nat) (s : State) : (setFld p f v s).field = s.field := rfl
@[simp] theorem setFld_ref (p : Nat) (f : FieldRef) (v : Nat) (s : State) : (setFld p f v s).ref = s.ref := rfl
@[simp] theorem setFld_hwd (p : Nat) (f : FieldRef) (v : Nat) (s : State) : (setFld p f v s).hwd = s.hwd := rfl
@[simp] theorem setFld_cmd (p : Nat) (f : FieldRef) (v : Nat) (s : State) : (setFld p f v s).cmd = s.cmd := rfl
@[simp] theorem setFld_pwr (p : Nat) (f : FieldRef) (v : Nat) (s : State) : (setFld p f v s).pwr = s.pwr := rfl

/-! ## A counter -/

@[simp] theorem countK_pending (p base k n : Nat) (s : State) : (countK p base k n s).pending = s.pending := rfl
@[simp] theorem countK_mono (p base k n : Nat) (s : State) : (countK p base k n s).mono = s.mono := rfl
@[simp] theorem countK_devFine (p base k n : Nat) (s : State) : (countK p base k n s).devFine = s.devFine := rfl
@[simp] theorem countK_free (p base k n : Nat) (s : State) : (countK p base k n s).free = s.free := rfl
@[simp] theorem countK_out (p base k n : Nat) (s : State) : (countK p base k n s).out = s.out := rfl
@[simp] theorem countK_rd (p base k n : Nat) (s : State) : (countK p base k n s).rd = s.rd := rfl
@[simp] theorem countK_wst (p base k n : Nat) (s : State) : (countK p base k n s).wst = s.wst := rfl
@[simp] theorem countK_grants (p base k n : Nat) (s : State) : (countK p base k n s).grants = s.grants := rfl
@[simp] theorem countK_armed (p base k n : Nat) (s : State) : (countK p base k n s).armed = s.armed := rfl
@[simp] theorem countK_retry (p base k n : Nat) (s : State) : (countK p base k n s).retry = s.retry := rfl
@[simp] theorem countK_retryWin (p base k n : Nat) (s : State) : (countK p base k n s).retryWin = s.retryWin := rfl
@[simp] theorem countK_msixFn (p base k n : Nat) (s : State) : (countK p base k n s).msixFn = s.msixFn := rfl
@[simp] theorem countK_routes (p base k n : Nat) (s : State) : (countK p base k n s).routes = s.routes := rfl
@[simp] theorem countK_evtCounts (p base k n : Nat) (s : State) : (countK p base k n s).evtCounts = s.evtCounts := rfl
@[simp] theorem countK_evtQA (p base k n : Nat) (s : State) : (countK p base k n s).evtQA = s.evtQA := rfl
@[simp] theorem countK_evtQB (p base k n : Nat) (s : State) : (countK p base k n s).evtQB = s.evtQB := rfl
@[simp] theorem countK_mem (p base k n : Nat) (s : State) : (countK p base k n s).mem = s.mem := rfl
@[simp] theorem countK_spr (p base k n : Nat) (s : State) : (countK p base k n s).spr = s.spr := rfl
@[simp] theorem countK_rch (p base k n : Nat) (s : State) : (countK p base k n s).rch = s.rch := rfl
@[simp] theorem countK_rl (p base k n : Nat) (s : State) : (countK p base k n s).rl = s.rl := rfl
@[simp] theorem countK_fpl (p base k n : Nat) (s : State) : (countK p base k n s).fpl = s.fpl := rfl
@[simp] theorem countK_mrk (p base k n : Nat) (s : State) : (countK p base k n s).mrk = s.mrk := rfl
@[simp] theorem countK_hbm (p base k n : Nat) (s : State) : (countK p base k n s).hbm = s.hbm := rfl
@[simp] theorem countK_rng (p base k n : Nat) (s : State) : (countK p base k n s).rng = s.rng := rfl
@[simp] theorem countK_ldg (p base k n : Nat) (s : State) : (countK p base k n s).ldg = s.ldg := rfl
@[simp] theorem countK_sch (p base k n : Nat) (s : State) : (countK p base k n s).sch = s.sch := rfl
@[simp] theorem countK_tly (p base k n : Nat) (s : State) : (countK p base k n s).tly = s.tly := rfl
@[simp] theorem countK_gge (p base k n : Nat) (s : State) : (countK p base k n s).gge = s.gge := rfl
@[simp] theorem countK_pins (p base k n : Nat) (s : State) : (countK p base k n s).pins = s.pins := rfl
@[simp] theorem countK_tru (p base k n : Nat) (s : State) : (countK p base k n s).tru = s.tru := rfl
@[simp] theorem countK_zhk (p base k n : Nat) (s : State) : (countK p base k n s).zhk = s.zhk := rfl
@[simp] theorem countK_dma (p base k n : Nat) (s : State) : (countK p base k n s).dma = s.dma := rfl
@[simp] theorem countK_eth (p base k n : Nat) (s : State) : (countK p base k n s).eth = s.eth := rfl
@[simp] theorem countK_tbs (p base k n : Nat) (s : State) : (countK p base k n s).tbs = s.tbs := rfl
@[simp] theorem countK_chs (p base k n : Nat) (s : State) : (countK p base k n s).chs = s.chs := rfl
@[simp] theorem countK_field (p base k n : Nat) (s : State) : (countK p base k n s).field = s.field := rfl
@[simp] theorem countK_ref (p base k n : Nat) (s : State) : (countK p base k n s).ref = s.ref := rfl
@[simp] theorem countK_hwd (p base k n : Nat) (s : State) : (countK p base k n s).hwd = s.hwd := rfl
@[simp] theorem countK_cmd (p base k n : Nat) (s : State) : (countK p base k n s).cmd = s.cmd := rfl
@[simp] theorem countK_pwr (p base k n : Nat) (s : State) : (countK p base k n s).pwr = s.pwr := rfl

/-! ## Registers returned to reset -/

@[simp] theorem resetRegs_pending (p off n : Nat) (s : State) : (resetRegs p off n s).pending = s.pending := rfl
@[simp] theorem resetRegs_mono (p off n : Nat) (s : State) : (resetRegs p off n s).mono = s.mono := rfl
@[simp] theorem resetRegs_devFine (p off n : Nat) (s : State) : (resetRegs p off n s).devFine = s.devFine := rfl
@[simp] theorem resetRegs_free (p off n : Nat) (s : State) : (resetRegs p off n s).free = s.free := rfl
@[simp] theorem resetRegs_out (p off n : Nat) (s : State) : (resetRegs p off n s).out = s.out := rfl
@[simp] theorem resetRegs_rd (p off n : Nat) (s : State) : (resetRegs p off n s).rd = s.rd := rfl
@[simp] theorem resetRegs_wst (p off n : Nat) (s : State) : (resetRegs p off n s).wst = s.wst := rfl
@[simp] theorem resetRegs_grants (p off n : Nat) (s : State) : (resetRegs p off n s).grants = s.grants := rfl
@[simp] theorem resetRegs_armed (p off n : Nat) (s : State) : (resetRegs p off n s).armed = s.armed := rfl
@[simp] theorem resetRegs_retry (p off n : Nat) (s : State) : (resetRegs p off n s).retry = s.retry := rfl
@[simp] theorem resetRegs_retryWin (p off n : Nat) (s : State) : (resetRegs p off n s).retryWin = s.retryWin := rfl
@[simp] theorem resetRegs_msixFn (p off n : Nat) (s : State) : (resetRegs p off n s).msixFn = s.msixFn := rfl
@[simp] theorem resetRegs_routes (p off n : Nat) (s : State) : (resetRegs p off n s).routes = s.routes := rfl
@[simp] theorem resetRegs_evtCounts (p off n : Nat) (s : State) : (resetRegs p off n s).evtCounts = s.evtCounts := rfl
@[simp] theorem resetRegs_evtQA (p off n : Nat) (s : State) : (resetRegs p off n s).evtQA = s.evtQA := rfl
@[simp] theorem resetRegs_evtQB (p off n : Nat) (s : State) : (resetRegs p off n s).evtQB = s.evtQB := rfl
@[simp] theorem resetRegs_mem (p off n : Nat) (s : State) : (resetRegs p off n s).mem = s.mem := rfl
@[simp] theorem resetRegs_spr (p off n : Nat) (s : State) : (resetRegs p off n s).spr = s.spr := rfl
@[simp] theorem resetRegs_rch (p off n : Nat) (s : State) : (resetRegs p off n s).rch = s.rch := rfl
@[simp] theorem resetRegs_rl (p off n : Nat) (s : State) : (resetRegs p off n s).rl = s.rl := rfl
@[simp] theorem resetRegs_fpl (p off n : Nat) (s : State) : (resetRegs p off n s).fpl = s.fpl := rfl
@[simp] theorem resetRegs_mrk (p off n : Nat) (s : State) : (resetRegs p off n s).mrk = s.mrk := rfl
@[simp] theorem resetRegs_hbm (p off n : Nat) (s : State) : (resetRegs p off n s).hbm = s.hbm := rfl
@[simp] theorem resetRegs_rng (p off n : Nat) (s : State) : (resetRegs p off n s).rng = s.rng := rfl
@[simp] theorem resetRegs_ldg (p off n : Nat) (s : State) : (resetRegs p off n s).ldg = s.ldg := rfl
@[simp] theorem resetRegs_sch (p off n : Nat) (s : State) : (resetRegs p off n s).sch = s.sch := rfl
@[simp] theorem resetRegs_tly (p off n : Nat) (s : State) : (resetRegs p off n s).tly = s.tly := rfl
@[simp] theorem resetRegs_gge (p off n : Nat) (s : State) : (resetRegs p off n s).gge = s.gge := rfl
@[simp] theorem resetRegs_pins (p off n : Nat) (s : State) : (resetRegs p off n s).pins = s.pins := rfl
@[simp] theorem resetRegs_tru (p off n : Nat) (s : State) : (resetRegs p off n s).tru = s.tru := rfl
@[simp] theorem resetRegs_zhk (p off n : Nat) (s : State) : (resetRegs p off n s).zhk = s.zhk := rfl
@[simp] theorem resetRegs_dma (p off n : Nat) (s : State) : (resetRegs p off n s).dma = s.dma := rfl
@[simp] theorem resetRegs_eth (p off n : Nat) (s : State) : (resetRegs p off n s).eth = s.eth := rfl
@[simp] theorem resetRegs_tbs (p off n : Nat) (s : State) : (resetRegs p off n s).tbs = s.tbs := rfl
@[simp] theorem resetRegs_chs (p off n : Nat) (s : State) : (resetRegs p off n s).chs = s.chs := rfl
@[simp] theorem resetRegs_field (p off n : Nat) (s : State) : (resetRegs p off n s).field = s.field := rfl
@[simp] theorem resetRegs_ref (p off n : Nat) (s : State) : (resetRegs p off n s).ref = s.ref := rfl
@[simp] theorem resetRegs_hwd (p off n : Nat) (s : State) : (resetRegs p off n s).hwd = s.hwd := rfl
@[simp] theorem resetRegs_cmd (p off n : Nat) (s : State) : (resetRegs p off n s).cmd = s.cmd := rfl
@[simp] theorem resetRegs_pwr (p off n : Nat) (s : State) : (resetRegs p off n s).pwr = s.pwr := rfl

/-! ## A byte of HBM -/

@[simp] theorem memSet_pending (a : Nat) (b : Byte) (s : State) : (memSet a b s).pending = s.pending := rfl
@[simp] theorem memSet_mono (a : Nat) (b : Byte) (s : State) : (memSet a b s).mono = s.mono := rfl
@[simp] theorem memSet_devFine (a : Nat) (b : Byte) (s : State) : (memSet a b s).devFine = s.devFine := rfl
@[simp] theorem memSet_free (a : Nat) (b : Byte) (s : State) : (memSet a b s).free = s.free := rfl
@[simp] theorem memSet_out (a : Nat) (b : Byte) (s : State) : (memSet a b s).out = s.out := rfl
@[simp] theorem memSet_rd (a : Nat) (b : Byte) (s : State) : (memSet a b s).rd = s.rd := rfl
@[simp] theorem memSet_wst (a : Nat) (b : Byte) (s : State) : (memSet a b s).wst = s.wst := rfl
@[simp] theorem memSet_regs (a : Nat) (b : Byte) (s : State) : (memSet a b s).regs = s.regs := rfl
@[simp] theorem memSet_grants (a : Nat) (b : Byte) (s : State) : (memSet a b s).grants = s.grants := rfl
@[simp] theorem memSet_armed (a : Nat) (b : Byte) (s : State) : (memSet a b s).armed = s.armed := rfl
@[simp] theorem memSet_retry (a : Nat) (b : Byte) (s : State) : (memSet a b s).retry = s.retry := rfl
@[simp] theorem memSet_retryWin (a : Nat) (b : Byte) (s : State) : (memSet a b s).retryWin = s.retryWin := rfl
@[simp] theorem memSet_msixFn (a : Nat) (b : Byte) (s : State) : (memSet a b s).msixFn = s.msixFn := rfl
@[simp] theorem memSet_routes (a : Nat) (b : Byte) (s : State) : (memSet a b s).routes = s.routes := rfl
@[simp] theorem memSet_evtCounts (a : Nat) (b : Byte) (s : State) : (memSet a b s).evtCounts = s.evtCounts := rfl
@[simp] theorem memSet_evtQA (a : Nat) (b : Byte) (s : State) : (memSet a b s).evtQA = s.evtQA := rfl
@[simp] theorem memSet_evtQB (a : Nat) (b : Byte) (s : State) : (memSet a b s).evtQB = s.evtQB := rfl
@[simp] theorem memSet_spr (a : Nat) (b : Byte) (s : State) : (memSet a b s).spr = s.spr := rfl
@[simp] theorem memSet_rch (a : Nat) (b : Byte) (s : State) : (memSet a b s).rch = s.rch := rfl
@[simp] theorem memSet_rl (a : Nat) (b : Byte) (s : State) : (memSet a b s).rl = s.rl := rfl
@[simp] theorem memSet_fpl (a : Nat) (b : Byte) (s : State) : (memSet a b s).fpl = s.fpl := rfl
@[simp] theorem memSet_mrk (a : Nat) (b : Byte) (s : State) : (memSet a b s).mrk = s.mrk := rfl
@[simp] theorem memSet_hbm (a : Nat) (b : Byte) (s : State) : (memSet a b s).hbm = s.hbm := rfl
@[simp] theorem memSet_rng (a : Nat) (b : Byte) (s : State) : (memSet a b s).rng = s.rng := rfl
@[simp] theorem memSet_ldg (a : Nat) (b : Byte) (s : State) : (memSet a b s).ldg = s.ldg := rfl
@[simp] theorem memSet_sch (a : Nat) (b : Byte) (s : State) : (memSet a b s).sch = s.sch := rfl
@[simp] theorem memSet_tly (a : Nat) (b : Byte) (s : State) : (memSet a b s).tly = s.tly := rfl
@[simp] theorem memSet_gge (a : Nat) (b : Byte) (s : State) : (memSet a b s).gge = s.gge := rfl
@[simp] theorem memSet_pins (a : Nat) (b : Byte) (s : State) : (memSet a b s).pins = s.pins := rfl
@[simp] theorem memSet_tru (a : Nat) (b : Byte) (s : State) : (memSet a b s).tru = s.tru := rfl
@[simp] theorem memSet_zhk (a : Nat) (b : Byte) (s : State) : (memSet a b s).zhk = s.zhk := rfl
@[simp] theorem memSet_dma (a : Nat) (b : Byte) (s : State) : (memSet a b s).dma = s.dma := rfl
@[simp] theorem memSet_eth (a : Nat) (b : Byte) (s : State) : (memSet a b s).eth = s.eth := rfl
@[simp] theorem memSet_tbs (a : Nat) (b : Byte) (s : State) : (memSet a b s).tbs = s.tbs := rfl
@[simp] theorem memSet_chs (a : Nat) (b : Byte) (s : State) : (memSet a b s).chs = s.chs := rfl
@[simp] theorem memSet_field (a : Nat) (b : Byte) (s : State) : (memSet a b s).field = s.field := rfl
@[simp] theorem memSet_ref (a : Nat) (b : Byte) (s : State) : (memSet a b s).ref = s.ref := rfl
@[simp] theorem memSet_hwd (a : Nat) (b : Byte) (s : State) : (memSet a b s).hwd = s.hwd := rfl
@[simp] theorem memSet_cmd (a : Nat) (b : Byte) (s : State) : (memSet a b s).cmd = s.cmd := rfl
@[simp] theorem memSet_pwr (a : Nat) (b : Byte) (s : State) : (memSet a b s).pwr = s.pwr := rfl

/-! ## An emission -/

@[simp] theorem send_pending (k : EmKind) (u : Nat) (l : List Nat) (s : State) : (send k u l s).pending = s.pending := rfl
@[simp] theorem send_mono (k : EmKind) (u : Nat) (l : List Nat) (s : State) : (send k u l s).mono = s.mono := rfl
@[simp] theorem send_devFine (k : EmKind) (u : Nat) (l : List Nat) (s : State) : (send k u l s).devFine = s.devFine := rfl
@[simp] theorem send_free (k : EmKind) (u : Nat) (l : List Nat) (s : State) : (send k u l s).free = s.free := rfl
@[simp] theorem send_rd (k : EmKind) (u : Nat) (l : List Nat) (s : State) : (send k u l s).rd = s.rd := rfl
@[simp] theorem send_wst (k : EmKind) (u : Nat) (l : List Nat) (s : State) : (send k u l s).wst = s.wst := rfl
@[simp] theorem send_regs (k : EmKind) (u : Nat) (l : List Nat) (s : State) : (send k u l s).regs = s.regs := rfl
@[simp] theorem send_grants (k : EmKind) (u : Nat) (l : List Nat) (s : State) : (send k u l s).grants = s.grants := rfl
@[simp] theorem send_armed (k : EmKind) (u : Nat) (l : List Nat) (s : State) : (send k u l s).armed = s.armed := rfl
@[simp] theorem send_retry (k : EmKind) (u : Nat) (l : List Nat) (s : State) : (send k u l s).retry = s.retry := rfl
@[simp] theorem send_retryWin (k : EmKind) (u : Nat) (l : List Nat) (s : State) : (send k u l s).retryWin = s.retryWin := rfl
@[simp] theorem send_msixFn (k : EmKind) (u : Nat) (l : List Nat) (s : State) : (send k u l s).msixFn = s.msixFn := rfl
@[simp] theorem send_routes (k : EmKind) (u : Nat) (l : List Nat) (s : State) : (send k u l s).routes = s.routes := rfl
@[simp] theorem send_evtCounts (k : EmKind) (u : Nat) (l : List Nat) (s : State) : (send k u l s).evtCounts = s.evtCounts := rfl
@[simp] theorem send_evtQA (k : EmKind) (u : Nat) (l : List Nat) (s : State) : (send k u l s).evtQA = s.evtQA := rfl
@[simp] theorem send_evtQB (k : EmKind) (u : Nat) (l : List Nat) (s : State) : (send k u l s).evtQB = s.evtQB := rfl
@[simp] theorem send_mem (k : EmKind) (u : Nat) (l : List Nat) (s : State) : (send k u l s).mem = s.mem := rfl
@[simp] theorem send_spr (k : EmKind) (u : Nat) (l : List Nat) (s : State) : (send k u l s).spr = s.spr := rfl
@[simp] theorem send_rch (k : EmKind) (u : Nat) (l : List Nat) (s : State) : (send k u l s).rch = s.rch := rfl
@[simp] theorem send_rl (k : EmKind) (u : Nat) (l : List Nat) (s : State) : (send k u l s).rl = s.rl := rfl
@[simp] theorem send_fpl (k : EmKind) (u : Nat) (l : List Nat) (s : State) : (send k u l s).fpl = s.fpl := rfl
@[simp] theorem send_mrk (k : EmKind) (u : Nat) (l : List Nat) (s : State) : (send k u l s).mrk = s.mrk := rfl
@[simp] theorem send_hbm (k : EmKind) (u : Nat) (l : List Nat) (s : State) : (send k u l s).hbm = s.hbm := rfl
@[simp] theorem send_rng (k : EmKind) (u : Nat) (l : List Nat) (s : State) : (send k u l s).rng = s.rng := rfl
@[simp] theorem send_ldg (k : EmKind) (u : Nat) (l : List Nat) (s : State) : (send k u l s).ldg = s.ldg := rfl
@[simp] theorem send_sch (k : EmKind) (u : Nat) (l : List Nat) (s : State) : (send k u l s).sch = s.sch := rfl
@[simp] theorem send_tly (k : EmKind) (u : Nat) (l : List Nat) (s : State) : (send k u l s).tly = s.tly := rfl
@[simp] theorem send_gge (k : EmKind) (u : Nat) (l : List Nat) (s : State) : (send k u l s).gge = s.gge := rfl
@[simp] theorem send_pins (k : EmKind) (u : Nat) (l : List Nat) (s : State) : (send k u l s).pins = s.pins := rfl
@[simp] theorem send_tru (k : EmKind) (u : Nat) (l : List Nat) (s : State) : (send k u l s).tru = s.tru := rfl
@[simp] theorem send_zhk (k : EmKind) (u : Nat) (l : List Nat) (s : State) : (send k u l s).zhk = s.zhk := rfl
@[simp] theorem send_dma (k : EmKind) (u : Nat) (l : List Nat) (s : State) : (send k u l s).dma = s.dma := rfl
@[simp] theorem send_eth (k : EmKind) (u : Nat) (l : List Nat) (s : State) : (send k u l s).eth = s.eth := rfl
@[simp] theorem send_tbs (k : EmKind) (u : Nat) (l : List Nat) (s : State) : (send k u l s).tbs = s.tbs := rfl
@[simp] theorem send_chs (k : EmKind) (u : Nat) (l : List Nat) (s : State) : (send k u l s).chs = s.chs := rfl
@[simp] theorem send_field (k : EmKind) (u : Nat) (l : List Nat) (s : State) : (send k u l s).field = s.field := rfl
@[simp] theorem send_ref (k : EmKind) (u : Nat) (l : List Nat) (s : State) : (send k u l s).ref = s.ref := rfl
@[simp] theorem send_hwd (k : EmKind) (u : Nat) (l : List Nat) (s : State) : (send k u l s).hwd = s.hwd := rfl
@[simp] theorem send_cmd (k : EmKind) (u : Nat) (l : List Nat) (s : State) : (send k u l s).cmd = s.cmd := rfl
@[simp] theorem send_pwr (k : EmKind) (u : Nat) (l : List Nat) (s : State) : (send k u l s).pwr = s.pwr := rfl

/-! ## The value of a read -/

@[simp] theorem setRd_pending (w : Word) (s : State) : (setRd w s).pending = s.pending := rfl
@[simp] theorem setRd_mono (w : Word) (s : State) : (setRd w s).mono = s.mono := rfl
@[simp] theorem setRd_devFine (w : Word) (s : State) : (setRd w s).devFine = s.devFine := rfl
@[simp] theorem setRd_free (w : Word) (s : State) : (setRd w s).free = s.free := rfl
@[simp] theorem setRd_out (w : Word) (s : State) : (setRd w s).out = s.out := rfl
@[simp] theorem setRd_wst (w : Word) (s : State) : (setRd w s).wst = s.wst := rfl
@[simp] theorem setRd_regs (w : Word) (s : State) : (setRd w s).regs = s.regs := rfl
@[simp] theorem setRd_grants (w : Word) (s : State) : (setRd w s).grants = s.grants := rfl
@[simp] theorem setRd_armed (w : Word) (s : State) : (setRd w s).armed = s.armed := rfl
@[simp] theorem setRd_retry (w : Word) (s : State) : (setRd w s).retry = s.retry := rfl
@[simp] theorem setRd_retryWin (w : Word) (s : State) : (setRd w s).retryWin = s.retryWin := rfl
@[simp] theorem setRd_msixFn (w : Word) (s : State) : (setRd w s).msixFn = s.msixFn := rfl
@[simp] theorem setRd_routes (w : Word) (s : State) : (setRd w s).routes = s.routes := rfl
@[simp] theorem setRd_evtCounts (w : Word) (s : State) : (setRd w s).evtCounts = s.evtCounts := rfl
@[simp] theorem setRd_evtQA (w : Word) (s : State) : (setRd w s).evtQA = s.evtQA := rfl
@[simp] theorem setRd_evtQB (w : Word) (s : State) : (setRd w s).evtQB = s.evtQB := rfl
@[simp] theorem setRd_mem (w : Word) (s : State) : (setRd w s).mem = s.mem := rfl
@[simp] theorem setRd_spr (w : Word) (s : State) : (setRd w s).spr = s.spr := rfl
@[simp] theorem setRd_rch (w : Word) (s : State) : (setRd w s).rch = s.rch := rfl
@[simp] theorem setRd_rl (w : Word) (s : State) : (setRd w s).rl = s.rl := rfl
@[simp] theorem setRd_fpl (w : Word) (s : State) : (setRd w s).fpl = s.fpl := rfl
@[simp] theorem setRd_mrk (w : Word) (s : State) : (setRd w s).mrk = s.mrk := rfl
@[simp] theorem setRd_hbm (w : Word) (s : State) : (setRd w s).hbm = s.hbm := rfl
@[simp] theorem setRd_rng (w : Word) (s : State) : (setRd w s).rng = s.rng := rfl
@[simp] theorem setRd_ldg (w : Word) (s : State) : (setRd w s).ldg = s.ldg := rfl
@[simp] theorem setRd_sch (w : Word) (s : State) : (setRd w s).sch = s.sch := rfl
@[simp] theorem setRd_tly (w : Word) (s : State) : (setRd w s).tly = s.tly := rfl
@[simp] theorem setRd_gge (w : Word) (s : State) : (setRd w s).gge = s.gge := rfl
@[simp] theorem setRd_pins (w : Word) (s : State) : (setRd w s).pins = s.pins := rfl
@[simp] theorem setRd_tru (w : Word) (s : State) : (setRd w s).tru = s.tru := rfl
@[simp] theorem setRd_zhk (w : Word) (s : State) : (setRd w s).zhk = s.zhk := rfl
@[simp] theorem setRd_dma (w : Word) (s : State) : (setRd w s).dma = s.dma := rfl
@[simp] theorem setRd_eth (w : Word) (s : State) : (setRd w s).eth = s.eth := rfl
@[simp] theorem setRd_tbs (w : Word) (s : State) : (setRd w s).tbs = s.tbs := rfl
@[simp] theorem setRd_chs (w : Word) (s : State) : (setRd w s).chs = s.chs := rfl
@[simp] theorem setRd_field (w : Word) (s : State) : (setRd w s).field = s.field := rfl
@[simp] theorem setRd_ref (w : Word) (s : State) : (setRd w s).ref = s.ref := rfl
@[simp] theorem setRd_hwd (w : Word) (s : State) : (setRd w s).hwd = s.hwd := rfl
@[simp] theorem setRd_cmd (w : Word) (s : State) : (setRd w s).cmd = s.cmd := rfl
@[simp] theorem setRd_pwr (w : Word) (s : State) : (setRd w s).pwr = s.pwr := rfl

/-! ## The status of a write -/

@[simp] theorem setWst_pending (n : Nat) (s : State) : (setWst n s).pending = s.pending := rfl
@[simp] theorem setWst_mono (n : Nat) (s : State) : (setWst n s).mono = s.mono := rfl
@[simp] theorem setWst_devFine (n : Nat) (s : State) : (setWst n s).devFine = s.devFine := rfl
@[simp] theorem setWst_free (n : Nat) (s : State) : (setWst n s).free = s.free := rfl
@[simp] theorem setWst_out (n : Nat) (s : State) : (setWst n s).out = s.out := rfl
@[simp] theorem setWst_rd (n : Nat) (s : State) : (setWst n s).rd = s.rd := rfl
@[simp] theorem setWst_regs (n : Nat) (s : State) : (setWst n s).regs = s.regs := rfl
@[simp] theorem setWst_grants (n : Nat) (s : State) : (setWst n s).grants = s.grants := rfl
@[simp] theorem setWst_armed (n : Nat) (s : State) : (setWst n s).armed = s.armed := rfl
@[simp] theorem setWst_retry (n : Nat) (s : State) : (setWst n s).retry = s.retry := rfl
@[simp] theorem setWst_retryWin (n : Nat) (s : State) : (setWst n s).retryWin = s.retryWin := rfl
@[simp] theorem setWst_msixFn (n : Nat) (s : State) : (setWst n s).msixFn = s.msixFn := rfl
@[simp] theorem setWst_routes (n : Nat) (s : State) : (setWst n s).routes = s.routes := rfl
@[simp] theorem setWst_evtCounts (n : Nat) (s : State) : (setWst n s).evtCounts = s.evtCounts := rfl
@[simp] theorem setWst_evtQA (n : Nat) (s : State) : (setWst n s).evtQA = s.evtQA := rfl
@[simp] theorem setWst_evtQB (n : Nat) (s : State) : (setWst n s).evtQB = s.evtQB := rfl
@[simp] theorem setWst_mem (n : Nat) (s : State) : (setWst n s).mem = s.mem := rfl
@[simp] theorem setWst_spr (n : Nat) (s : State) : (setWst n s).spr = s.spr := rfl
@[simp] theorem setWst_rch (n : Nat) (s : State) : (setWst n s).rch = s.rch := rfl
@[simp] theorem setWst_rl (n : Nat) (s : State) : (setWst n s).rl = s.rl := rfl
@[simp] theorem setWst_fpl (n : Nat) (s : State) : (setWst n s).fpl = s.fpl := rfl
@[simp] theorem setWst_mrk (n : Nat) (s : State) : (setWst n s).mrk = s.mrk := rfl
@[simp] theorem setWst_hbm (n : Nat) (s : State) : (setWst n s).hbm = s.hbm := rfl
@[simp] theorem setWst_rng (n : Nat) (s : State) : (setWst n s).rng = s.rng := rfl
@[simp] theorem setWst_ldg (n : Nat) (s : State) : (setWst n s).ldg = s.ldg := rfl
@[simp] theorem setWst_sch (n : Nat) (s : State) : (setWst n s).sch = s.sch := rfl
@[simp] theorem setWst_tly (n : Nat) (s : State) : (setWst n s).tly = s.tly := rfl
@[simp] theorem setWst_gge (n : Nat) (s : State) : (setWst n s).gge = s.gge := rfl
@[simp] theorem setWst_pins (n : Nat) (s : State) : (setWst n s).pins = s.pins := rfl
@[simp] theorem setWst_tru (n : Nat) (s : State) : (setWst n s).tru = s.tru := rfl
@[simp] theorem setWst_zhk (n : Nat) (s : State) : (setWst n s).zhk = s.zhk := rfl
@[simp] theorem setWst_dma (n : Nat) (s : State) : (setWst n s).dma = s.dma := rfl
@[simp] theorem setWst_eth (n : Nat) (s : State) : (setWst n s).eth = s.eth := rfl
@[simp] theorem setWst_tbs (n : Nat) (s : State) : (setWst n s).tbs = s.tbs := rfl
@[simp] theorem setWst_chs (n : Nat) (s : State) : (setWst n s).chs = s.chs := rfl
@[simp] theorem setWst_field (n : Nat) (s : State) : (setWst n s).field = s.field := rfl
@[simp] theorem setWst_ref (n : Nat) (s : State) : (setWst n s).ref = s.ref := rfl
@[simp] theorem setWst_hwd (n : Nat) (s : State) : (setWst n s).hwd = s.hwd := rfl
@[simp] theorem setWst_cmd (n : Nat) (s : State) : (setWst n s).cmd = s.cmd := rfl
@[simp] theorem setWst_pwr (n : Nat) (s : State) : (setWst n s).pwr = s.pwr := rfl

/-! ## A tick -/

@[simp] theorem tick_pending (s : State) : (tick s).pending = s.pending := rfl
@[simp] theorem tick_free (s : State) : (tick s).free = s.free := rfl
@[simp] theorem tick_out (s : State) : (tick s).out = s.out := rfl
@[simp] theorem tick_rd (s : State) : (tick s).rd = s.rd := rfl
@[simp] theorem tick_wst (s : State) : (tick s).wst = s.wst := rfl
@[simp] theorem tick_regs (s : State) : (tick s).regs = s.regs := rfl
@[simp] theorem tick_grants (s : State) : (tick s).grants = s.grants := rfl
@[simp] theorem tick_armed (s : State) : (tick s).armed = s.armed := rfl
@[simp] theorem tick_retry (s : State) : (tick s).retry = s.retry := rfl
@[simp] theorem tick_retryWin (s : State) : (tick s).retryWin = s.retryWin := rfl
@[simp] theorem tick_msixFn (s : State) : (tick s).msixFn = s.msixFn := rfl
@[simp] theorem tick_routes (s : State) : (tick s).routes = s.routes := rfl
@[simp] theorem tick_evtCounts (s : State) : (tick s).evtCounts = s.evtCounts := rfl
@[simp] theorem tick_evtQA (s : State) : (tick s).evtQA = s.evtQA := rfl
@[simp] theorem tick_evtQB (s : State) : (tick s).evtQB = s.evtQB := rfl
@[simp] theorem tick_mem (s : State) : (tick s).mem = s.mem := rfl
@[simp] theorem tick_spr (s : State) : (tick s).spr = s.spr := rfl
@[simp] theorem tick_rch (s : State) : (tick s).rch = s.rch := rfl
@[simp] theorem tick_rl (s : State) : (tick s).rl = s.rl := rfl
@[simp] theorem tick_fpl (s : State) : (tick s).fpl = s.fpl := rfl
@[simp] theorem tick_mrk (s : State) : (tick s).mrk = s.mrk := rfl
@[simp] theorem tick_hbm (s : State) : (tick s).hbm = s.hbm := rfl
@[simp] theorem tick_rng (s : State) : (tick s).rng = s.rng := rfl
@[simp] theorem tick_ldg (s : State) : (tick s).ldg = s.ldg := rfl
@[simp] theorem tick_sch (s : State) : (tick s).sch = s.sch := rfl
@[simp] theorem tick_tly (s : State) : (tick s).tly = s.tly := rfl
@[simp] theorem tick_gge (s : State) : (tick s).gge = s.gge := rfl
@[simp] theorem tick_pins (s : State) : (tick s).pins = s.pins := rfl
@[simp] theorem tick_tru (s : State) : (tick s).tru = s.tru := rfl
@[simp] theorem tick_zhk (s : State) : (tick s).zhk = s.zhk := rfl
@[simp] theorem tick_dma (s : State) : (tick s).dma = s.dma := rfl
@[simp] theorem tick_eth (s : State) : (tick s).eth = s.eth := rfl
@[simp] theorem tick_tbs (s : State) : (tick s).tbs = s.tbs := rfl
@[simp] theorem tick_chs (s : State) : (tick s).chs = s.chs := rfl
@[simp] theorem tick_field (s : State) : (tick s).field = s.field := rfl
@[simp] theorem tick_ref (s : State) : (tick s).ref = s.ref := rfl
@[simp] theorem tick_hwd (s : State) : (tick s).hwd = s.hwd := rfl
@[simp] theorem tick_cmd (s : State) : (tick s).cmd = s.cmd := rfl
@[simp] theorem tick_pwr (s : State) : (tick s).pwr = s.pwr := rfl

@[simp] theorem setRd_value (w : Word) (s : State) : (setRd w s).rd = w := rfl
@[simp] theorem setWst_value (n : Nat) (s : State) : (setWst n s).wst = n := rfl
@[simp] theorem send_out_value (k : EmKind) (u : Nat) (l : List Nat) (s : State) : (send k u l s).out = ⟨k, u, l⟩ :: s.out := rfl

end Sys2Proof.Machine
end

