-- ==== Sys2Proof/Laws/Ops.lean ====
section
/-! SUPPORT. What the shared operations do: registers, HBM, sticky bits, counters, refusals; the canonical form of the stores,
and the frames of the statements. -/

namespace Sys2Proof.Machine

/-! ## Registers -/

/-- Addresses of two registers within their pages differ where pages or offsets do. -/
theorem regAddr_ne {p q off off' : Nat} (ho : off < 0x1000) (ho' : off' < 0x1000) (h : p ≠ q ∨ off ≠ off') :
    regAddr p off ≠ regAddr q off' := by
  unfold regAddr; omega

/-- A register reads as it was last written. -/
@[simp] theorem reg_setReg_self (p off : Nat) (w : Word) (s : State) : reg (setReg p off w s) p off = w :=
  sparseGet_set_self _ _ _ _

/-- A write of a register leaves every other one. -/
theorem reg_setReg_ne {p off q off' : Nat} (w : Word) (s : State) (h : regAddr q off' ≠ regAddr p off) :
    reg (setReg p off w s) q off' = reg s q off' := sparseGet_set_ne _ _ _ h

/-- A field reads as it was last written. -/
theorem fld_setFld_self (p : Nat) (f : FieldRef) (v : Nat) (s : State) (h : f.lo + f.width ≤ 64) :
    fld (setFld p f v s) p f = v % 2 ^ f.width := by
  unfold fld setFld
  rw [reg_setReg_self, fieldOf_withField_self _ _ _ _ h]

/-- A write of a field leaves a field of its register that it does not meet. -/
theorem fld_setFld_apart (p : Nat) (f g : FieldRef) (v : Nat) (s : State) (ho : f.off = g.off)
    (h : f.lo + f.width ≤ g.lo ∨ g.lo + g.width ≤ f.lo) : fld (setFld p f v s) p g = fld s p g := by
  unfold fld setFld
  rw [← ho, reg_setReg_self, fieldOf_withField_ne _ _ _ _ _ _ h]

/-- A write of a field leaves every other register. -/
theorem reg_setFld_ne {p q off : Nat} (f : FieldRef) (v : Nat) (s : State) (h : regAddr q off ≠ regAddr p f.off) :
    reg (setFld p f v s) q off = reg s q off := reg_setReg_ne _ _ h

/-- A counter counts. -/
theorem counted_countK (p base k n : Nat) (s : State) : counted s (countK p base k n s) p base k n := by
  unfold counted countK countUp; simp

/-- Registers returned to reset read as their reset values, the others as before. -/
theorem reg_resetRegs (p off n q off' : Nat) (s : State) :
    reg (resetRegs p off n s) q off' =
      if regAddr p off ≤ regAddr q off' ∧ regAddr q off' < regAddr p off + 8 * n then regReset (regAddr q off') else reg s q off' := by
  have h := sparseFind_filter s.regs (fun k => decide (k < regAddr p off ∨ regAddr p off + 8 * n ≤ k)) (regAddr q off')
  unfold reg resetRegs sparseGet
  simp only [h]
  by_cases hc : regAddr p off ≤ regAddr q off' ∧ regAddr q off' < regAddr p off + 8 * n
  · have : ¬ (regAddr q off' < regAddr p off ∨ regAddr p off + 8 * n ≤ regAddr q off') := by omega
    rw [if_pos hc, if_neg (by simpa using this)]; rfl
  · have : regAddr q off' < regAddr p off ∨ regAddr p off + 8 * n ≤ regAddr q off' := by omega
    rw [if_neg hc, if_pos (by simpa using this)]

/-! ## HBM -/

/-- A byte of HBM reads as it was last written. -/
@[simp] theorem memGet_memSet_self (a : Nat) (b : Byte) (s : State) : memGet (memSet a b s) a = b := sparseGet_set_self _ _ _ _

/-- A write of a byte leaves every other byte. -/
theorem memGet_memSet_ne {a x : Nat} (b : Byte) (s : State) (h : x ≠ a) : memGet (memSet a b s) x = memGet s x :=
  sparseGet_set_ne _ _ _ h

/-- A write of bytes leaves every byte outside them. -/
theorem memGet_memWrite_outside (l : List Byte) (a x : Nat) (s : State) (h : x < a ∨ a + l.length ≤ x) :
    memGet (memWrite a l s) x = memGet s x := by
  induction l generalizing a s with
  | nil => rfl
  | cons b l ih =>
    simp only [List.length_cons] at h
    rw [memWrite, ih (a + 1) _ (by omega), memGet_memSet_ne _ _ (by omega)]

/-- The bytes of a write read back. -/
theorem memGet_memWrite_inside (l : List Byte) (a k : Nat) (s : State) (h : k < l.length) :
    memGet (memWrite a l s) (a + k) = l[k] := by
  induction l generalizing a k s with
  | nil => simp at h
  | cons b l ih =>
    rw [memWrite]
    cases k with
    | zero => rw [memGet_memWrite_outside _ _ _ _ (by omega)]; simp
    | succ k =>
      have := ih (a + 1) k (memSet a b s) (by simpa using h)
      rw [show a + (k + 1) = a + 1 + k from by omega, this]; simp

/-! ## The canonical form -/

/-- HBM after reset is in canonical form. -/
theorem Memory.wf_reset : Memory.wf State.reset.mem = true := rfl

/-- A write of a byte keeps the canonical form of HBM. -/
theorem Memory.wf_memSet (a : Nat) (b : Byte) (s : State) (h : Memory.wf s.mem = true) : Memory.wf (memSet a b s).mem = true :=
  decide_eq_true (sparseWf_set _ _ _ _ (of_decide_eq_true h))

/-- A write of bytes keeps the canonical form of HBM. -/
theorem Memory.wf_memWrite (l : List Byte) (a : Nat) (s : State) (h : Memory.wf s.mem = true) : Memory.wf (memWrite a l s).mem = true := by
  induction l generalizing a s with
  | nil => exact h
  | cons b l ih => exact ih _ _ (Memory.wf_memSet a b s h)

/-- Leaving bytes out (a clear) keeps the canonical form of HBM. -/
theorem Memory.wf_filter (m : List Host.Cell) (p : Host.Cell → Bool) (h : Memory.wf m = true) : Memory.wf (m.filter p) = true :=
  decide_eq_true (sparseWf_filter _ _ _ (of_decide_eq_true h))

/-- What touches neither store keeps the canonical form. -/
theorem canonical_of_eq {s t : State} (hr : t.regs = s.regs) (hm : t.mem = s.mem) (h : canonical s) : canonical t := by
  unfold canonical at *; rw [hr, hm]; exact h

theorem canonical_setReg (p off : Nat) (w : Word) (s : State) (h : canonical s) : canonical (setReg p off w s) :=
  ⟨sparseWf_set _ _ _ _ h.1, h.2⟩

theorem canonical_setFld (p : Nat) (f : FieldRef) (v : Nat) (s : State) (h : canonical s) : canonical (setFld p f v s) :=
  canonical_setReg _ _ _ _ h

theorem canonical_countK (p base k n : Nat) (s : State) (h : canonical s) : canonical (countK p base k n s) :=
  canonical_setReg _ _ _ _ h

theorem canonical_resetRegs (p off n : Nat) (s : State) (h : canonical s) : canonical (resetRegs p off n s) :=
  ⟨sparseWf_filter _ _ _ h.1, h.2⟩

theorem canonical_memSet (a : Nat) (b : Byte) (s : State) (h : canonical s) : canonical (memSet a b s) :=
  ⟨h.1, sparseWf_set _ _ _ _ h.2⟩

theorem canonical_memWrite (l : List Byte) (a : Nat) (s : State) (h : canonical s) : canonical (memWrite a l s) := by
  induction l generalizing a s with
  | nil => exact h
  | cons b l ih => exact ih _ _ (canonical_memSet a b s h)

/-! ## Frames -/

theorem same_refl (x : Part) (s : State) : same x s s := by cases x <;> simp [same]

theorem same_trans {x : Part} {s t u : State} (h : same x s t) (k : same x t u) : same x s u := by
  cases x <;> simp_all [same]

theorem keeps_refl (l : List Part) (s : State) : keeps l s s := fun x _ => same_refl x s

theorem keeps_trans {l : List Part} {s t u : State} (h : keeps l s t) (k : keeps l t u) : keeps l s u :=
  fun x hx => same_trans (h x hx) (k x hx)

/-- A frame holds with more parts named. -/
theorem keeps_mono {l k : List Part} {s t : State} (hl : ∀ x ∈ l, x ∈ k) (h : keeps l s t) : keeps k s t :=
  fun x hx => h x (fun y => hx (hl x y))

theorem sameRegs_refl (l : List Nat) (s : State) : sameRegs l s s := fun _ _ _ _ _ => rfl

theorem sameRegs_trans {l : List Nat} {s t u : State} (h : sameRegs l s t) (k : sameRegs l t u) : sameRegs l s u :=
  fun q off hq he ho => (k q off hq he ho).trans (h q off hq he ho)

theorem sameRegs_mono {l k : List Nat} {s t : State} (hl : ∀ x ∈ l, x ∈ k) (h : sameRegs l s t) : sameRegs k s t :=
  fun q off hq he ho => h q off (fun y => hq (hl q y)) he ho

/-- Equal register stores read alike. -/
theorem sameRegs_of_eq {l : List Nat} {s t : State} (h : t.regs = s.regs) : sameRegs l s t := by
  intro q off _ _ _; unfold reg; rw [h]

theorem keeps_setReg (p off : Nat) (w : Word) (s : State) : keeps [.regs] s (setReg p off w s) := by
  intro x hx; cases x <;> simp_all [same]

theorem sameRegs_setReg {p off : Nat} (w : Word) (s : State) (ho : off < 0x1000) : sameRegs [p] s (setReg p off w s) := by
  intro q off' hq _ ho'
  exact reg_setReg_ne _ _ (regAddr_ne ho' ho (.inl (by simpa using hq)))

theorem sameRegs_setReg_event {p off : Nat} (w : Word) (s : State) (hp : eventPage p) (ho : off < 0x1000) :
    sameRegs [] s (setReg p off w s) := by
  intro q off' _ he ho'
  exact reg_setReg_ne _ _ (regAddr_ne ho' ho (.inl (fun h => he (h ▸ hp))))

theorem keeps_setWst (n : Nat) (s : State) : keeps [.wst] s (setWst n s) := by
  intro x hx; cases x <;> simp_all [same]

/-! ## Refusals -/

/-- What reaches a register is judged first; only a write judged in order reaches the block. -/
theorem guardedWrite_ok {m p off : Nat} {v : Word} {h : State → State} {s : State} (j : judge s m p off 8 v = .ok) :
    guardedWrite m p off v h s = acceptedWrite m p off v h (arriveWrite .ok m p off s) := by
  unfold guardedWrite; rw [j]

theorem guardedWrite_refused {m p off : Nat} {v : Word} {h : State → State} {s : State} {x : Verdict}
    (j : judge s m p off 8 v = x) (n : x ≠ .ok) : guardedWrite m p off v h s = refusedWrite p x (arriveWrite x m p off s) := by
  unfold guardedWrite; rw [j]; cases x <;> simp_all

/-- A write of a register that holds no guarded field meets no mark: it is counted alone. -/
theorem arriveWrite_plain {x : Verdict} {m p off : Nat} {s : State} (g : regGuarded p off = false) :
    arriveWrite x m p off s = countBar0 m s := by
  simp [arriveWrite, g]

/-- An accepted write of a register that holds no guarded field is the block's effect alone. -/
theorem acceptedWrite_plain {m p off : Nat} {v : Word} {h : State → State} {s : State} (g : regGuarded p off = false) :
    acceptedWrite m p off v h s = h (setWst 0 s) := by
  unfold acceptedWrite; simp [g]

/-- A detector of a page where none is armed fires on the real condition alone. -/
theorem takeArmed_unarmed {s : State} {p : Nat} (b : Nat) (h : unarmed s p) : takeArmed p b s = (false, s) := by
  have : s.armed.find? (fun a => decide (a.page = p ∧ a.bit = b)) = none := by
    rw [List.find?_eq_none]; intro a ha; simp [h a ha]
  unfold takeArmed; rw [this]

theorem evalDetector_unarmed {s : State} {p : Nat} (b : Nat) (real : Bool) (h : unarmed s p) :
    evalDetector p b real s = (real, s) := by
  simp [evalDetector, takeArmed_unarmed b h]

/-! ## Sticky bits and events -/

/-- What sets a sticky bit: the bit alone where it does not pulse, and no change where it is set. -/
theorem stickyRise_stuck (p b : Nat) (s : State) (hb : b < 64) : stuck (stickyRise p b s).1 p b := by
  unfold stickyRise stuck
  by_cases h : bitOf (reg s p R.STICKY) b
  · simp [h]
  · simp [h, bitOf_withBit_self _ _ _ hb]

theorem keeps_stickyRise (p b : Nat) (s : State) : keeps [.regs] s (stickyRise p b s).1 := by
  unfold stickyRise
  by_cases h : bitOf (reg s p R.STICKY) b
  · simpa [h] using keeps_refl _ _
  · simpa [h] using keeps_setReg _ _ _ _

theorem canonical_stickyRise (p b : Nat) (s : State) (h : canonical s) : canonical (stickyRise p b s).1 := by
  unfold stickyRise
  by_cases hb : bitOf (reg s p R.STICKY) b
  · simpa [hb] using h
  · simpa [hb] using canonical_setReg _ _ _ _ h

/-- A message leaves or its pending bit is set: no part but the registers and what left changes. -/
theorem keeps_msixRequest (v : Nat) (s : State) : keeps [.regs, .out] s (msixRequest v s) := by
  unfold msixRequest
  split <;> (intro x hx; cases x <;> simp_all [same])

theorem canonical_msixRequest (v : Nat) (s : State) (h : canonical s) : canonical (msixRequest v s) := by
  unfold msixRequest
  split
  · exact canonical_setReg _ _ _ _ h
  · exact canonical_countK _ _ _ _ _ (canonical_of_eq rfl rfl h)

theorem keeps_evLatch (e : Nat) (s : State) : keeps [.regs, .out, .events] s (evLatch e s) := by
  unfold evLatch msixOfEvent
  dsimp only
  split
  · intro x hx; cases x <;> simp_all [same]
  · split
    · refine keeps_trans ?_ (keeps_mono (by simp) (keeps_msixRequest _ _))
      intro x hx; cases x <;> simp_all [same]
    · intro x hx; cases x <;> simp_all [same]

theorem canonical_evLatch (e : Nat) (s : State) (h : canonical s) : canonical (evLatch e s) := by
  unfold evLatch msixOfEvent
  dsimp only
  have k : canonical (setReg 0x3D3 (R.EVT_PENDING + 8 * (e / 64))
      (withBit (reg { s with evtCounts := ntSet s.evtCounts e (satAdd 32 (ntGet s.evtCounts e) 1) } 0x3D3 (R.EVT_PENDING + 8 * (e / 64)))
        (e % 64) true) { s with evtCounts := ntSet s.evtCounts e (satAdd 32 (ntGet s.evtCounts e) 1) }) :=
    canonical_setReg _ _ _ _ (canonical_of_eq rfl rfl h)
  split
  · exact k
  · split
    · exact canonical_msixRequest _ _ k
    · exact k

theorem keeps_evEnqueue (a : Bool) (e : Nat) (s : State) : keeps [.events] s (evEnqueue a e s).1 := by
  unfold evEnqueue
  dsimp only
  split <;> split <;> (intro x hx; cases x <;> simp_all [same])

theorem evEnqueue_stores (a : Bool) (e : Nat) (s : State) : (evEnqueue a e s).1.regs = s.regs ∧ (evEnqueue a e s).1.mem = s.mem := by
  unfold evEnqueue
  dsimp only
  split <;> split <;> simp

/-- A relation between states that latching an event, queueing it and setting a bit of the EVT page keep holds over a pulse. -/
theorem evPulse_rel (P : State → State → Prop) (hr : ∀ s, P s s) (ht : ∀ {s t u}, P s t → P t u → P s u)
    (hl : ∀ e s, P s (evLatch e s)) (hq : ∀ a e s, P s (evEnqueue a e s).1) (hs : ∀ b s, P s (stickyRise 0x3D2 b s).1) :
    ∀ n e s, P s (evPulse n e s) := by
  have hop : ∀ n (ih : ∀ e s, P s (evPulse n e s)) (a : Bool) (b e : Nat) (s : State),
      P s (match evEnqueue a e s with
        | (s, false) => s
        | (s, true) =>
          match stickyRise 0x3D2 b s with
          | (s, some e') => evPulse n e' s
          | (s, none) => s) := by
    intro n ih a b e s
    have h1 := hq a e s
    generalize evEnqueue a e s = x at h1
    obtain ⟨s1, c⟩ := x
    cases c with
    | false => exact h1
    | true =>
      have h2 := hs b s1
      dsimp only
      generalize stickyRise 0x3D2 b s1 = y at h2
      obtain ⟨s2, o⟩ := y
      cases o with
      | none => exact ht h1 h2
      | some e' => exact ht (ht h1 h2) (ih e' s2)
  intro n
  induction n with
  | zero => intro e s; exact hr s
  | succ n ih =>
    intro e s
    unfold evPulse
    dsimp only
    have hite : ∀ (c : Bool) (s x y : State), P s x → P s y → P s (if c then x else y) := by
      intro c s x y hx hy; cases c <;> assumption
    refine ht (hl e s) ?_
    refine hite _ _ _ _ (ht ?_ (hop n ih false S.EVT_QUEUE_OVF_B e _)) ?_ <;>
      exact hite _ _ _ _ (hop n ih true S.EVT_QUEUE_OVF_A e _) (hr _)

theorem keeps_evPulse (n e : Nat) (s : State) : keeps [.regs, .out, .events] s (evPulse n e s) :=
  evPulse_rel _ (keeps_refl _) keeps_trans keeps_evLatch (fun a e s => keeps_mono (by simp) (keeps_evEnqueue a e s))
    (fun b s => keeps_mono (by simp) (keeps_stickyRise 0x3D2 b s)) n e s

theorem canonical_evPulse (n e : Nat) (s : State) (h : canonical s) : canonical (evPulse n e s) :=
  evPulse_rel (fun s t => canonical s → canonical t) (fun _ h => h) (fun h k x => k (h x)) canonical_evLatch
    (fun a e s h => canonical_of_eq (evEnqueue_stores a e s).1 (evEnqueue_stores a e s).2 h)
    (fun b s => canonical_stickyRise 0x3D2 b s) n e s h

/-- A sticky bit set by a detector changes registers, what left and the event queues alone. -/
theorem keeps_setSticky (p b : Nat) (s : State) : keeps [.regs, .out, .events] s (setSticky p b s) := by
  have h := keeps_stickyRise p b s
  unfold setSticky
  generalize stickyRise p b s = x at h
  obtain ⟨t, o⟩ := x
  cases o with
  | none => exact keeps_mono (by simp) h
  | some e => exact keeps_trans (keeps_mono (by simp) h) (keeps_evPulse 4 e t)

theorem canonical_setSticky (p b : Nat) (s : State) (h : canonical s) : canonical (setSticky p b s) := by
  have k := canonical_stickyRise p b s h
  unfold setSticky
  generalize stickyRise p b s = x at k
  obtain ⟨t, o⟩ := x
  cases o with
  | none => exact k
  | some e => exact canonical_evPulse 4 e t k

theorem keeps_stickyIf (c : Bool) (p b : Nat) (s : State) : keeps [.regs, .out, .events] s (stickyIf c p b s) := by
  cases c
  · exact keeps_refl _ s
  · exact keeps_setSticky p b s

theorem canonical_stickyIf (c : Bool) (p b : Nat) (s : State) (h : canonical s) : canonical (stickyIf c p b s) := by
  cases c
  · exact h
  · exact canonical_setSticky p b s h

/-- A refusal leaves status 5, its bit, and every part but registers, what left and the event queues. -/
theorem refuseBit_spec (p b : Nat) (s : State) : (refuseBit p b s).wst = 5 ∧ keeps [.regs, .out, .events, .wst] s (refuseBit p b s) :=
  ⟨rfl, keeps_trans (keeps_mono (by simp) (keeps_setSticky p b s)) (keeps_mono (by simp) (keeps_setWst 5 _))⟩

theorem canonical_refuseBit (p b : Nat) (s : State) (h : canonical s) : canonical (refuseBit p b s) :=
  canonical_of_eq rfl rfl (canonical_setSticky p b s h)

/-! ## Registers over a pulse -/

/-- Every page's events are among the 1,024 of the device (R67). -/
theorem pageEvent_lt (p b : Nat) (h : pageEvents p ≠ 0) : pageFirstEvent p + b % pageEvents p < 1024 := by
  have key : ∀ r ∈ pageRows, r.first ≤ r.last ∧ r.firstEvent + (r.last - r.first + 1) * r.events ≤ 1024 := by decide
  unfold pageEvents at h ⊢
  unfold pageFirstEvent
  cases hr : pageRow p with
  | none => simp [hr] at h
  | some r =>
    simp only [hr, Option.map_some, Option.getD_some] at h ⊢
    have hm := key r (List.mem_of_find?_eq_some hr)
    have hp : r.first ≤ p ∧ p ≤ r.last := by simpa using List.find?_some hr
    have hb := Nat.mod_lt b (Nat.pos_of_ne_zero h)
    have hmul : (p - r.first + 1) * r.events ≤ (r.last - r.first + 1) * r.events := Nat.mul_le_mul_right _ (by omega)
    rw [Nat.add_mul, Nat.one_mul] at hmul
    rw [if_neg h]
    omega

/-- A message request writes the pending-bit array or a PCI counter alone. -/
theorem sameRegs_msixRequest (v : Nat) (s : State) (hv : v < 2048) : sameRegs [] s (msixRequest v s) := by
  unfold msixRequest
  split
  · exact sameRegs_setReg_event _ s (by simp [eventPage]) (by omega)
  · exact sameRegs_trans (sameRegs_of_eq rfl) (sameRegs_setReg_event (p := 0x3F2) _ _ (by simp [eventPage]) (by decide))

theorem sameRegs_evLatch (e : Nat) (s : State) (he : e < 1024) : sameRegs [] s (evLatch e s) := by
  have ho : R.EVT_PENDING + 8 * (e / 64) < 0x1000 := by simp only [R.EVT_PENDING]; omega
  have hv : ∀ w : Word, fieldOf w 0 11 < 2048 := fun w => Nat.mod_lt _ (by decide)
  unfold evLatch msixOfEvent
  dsimp only
  have k : sameRegs [] s (setReg 0x3D3 (R.EVT_PENDING + 8 * (e / 64))
      (withBit (reg { s with evtCounts := ntSet s.evtCounts e (satAdd 32 (ntGet s.evtCounts e) 1) } 0x3D3 (R.EVT_PENDING + 8 * (e / 64)))
        (e % 64) true) { s with evtCounts := ntSet s.evtCounts e (satAdd 32 (ntGet s.evtCounts e) 1) }) :=
    sameRegs_trans (sameRegs_of_eq rfl) (sameRegs_setReg_event _ _ (by simp [eventPage]) ho)
  split
  · exact k
  · split
    · exact sameRegs_trans k (sameRegs_msixRequest _ _ (hv _))
    · exact k

/-- The event a rising bit pulses is one of the device's. -/
theorem stickyRise_event (p b : Nat) (s : State) {e : Nat} (h : (stickyRise p b s).2 = some e) : e < 1024 := by
  unfold stickyRise at h
  by_cases hb : bitOf (reg s p R.STICKY) b
  · simp [hb] at h
  · simp only [hb, Bool.false_eq_true, if_false] at h
    split at h
    · rename_i hc
      simp only [Bool.and_eq_true, decide_eq_true_eq] at hc
      obtain rfl := Option.some.inj h
      exact pageEvent_lt p b hc.2
    · cases h

/-- A pulse of one of the device's events writes pages of the event controller and the PCI page alone. -/
theorem sameRegs_evPulse (n e : Nat) (s : State) (he : e < 1024) : sameRegs [] s (evPulse n e s) := by
  have hop : ∀ n (ih : ∀ e s, e < 1024 → sameRegs [] s (evPulse n e s)) (a : Bool) (b e : Nat) (s : State),
      sameRegs [] s (match evEnqueue a e s with
        | (s, false) => s
        | (s, true) =>
          match stickyRise 0x3D2 b s with
          | (s, some e') => evPulse n e' s
          | (s, none) => s) := by
    intro n ih a b e s
    have h1 : sameRegs [] s (evEnqueue a e s).1 := sameRegs_of_eq (evEnqueue_stores a e s).1
    generalize evEnqueue a e s = x at h1
    obtain ⟨s1, c⟩ := x
    cases c with
    | false => exact h1
    | true =>
      have h2 : sameRegs [] s1 (stickyRise 0x3D2 b s1).1 := by
        unfold stickyRise
        by_cases hb : bitOf (reg s1 0x3D2 R.STICKY) b
        · simpa [hb] using sameRegs_refl _ _
        · simpa [hb] using sameRegs_setReg_event (p := 0x3D2) (off := R.STICKY) _ s1 (by simp [eventPage]) (by decide)
      have h3 := @stickyRise_event 0x3D2 b s1
      dsimp only
      generalize stickyRise 0x3D2 b s1 = y at h2 h3
      obtain ⟨s2, o⟩ := y
      cases o with
      | none => exact sameRegs_trans h1 h2
      | some e' => exact sameRegs_trans (sameRegs_trans h1 h2) (ih e' s2 (h3 rfl))
  induction n generalizing e s with
  | zero => exact sameRegs_refl _ s
  | succ n ih =>
    unfold evPulse
    dsimp only
    refine sameRegs_trans (sameRegs_evLatch e s he) ?_
    have ih' : ∀ e s, e < 1024 → sameRegs [] s (evPulse n e s) := fun e s h => ih e s h
    have hite : ∀ (c : Bool) (s x y : State), sameRegs [] s x → sameRegs [] s y → sameRegs [] s (if c then x else y) := by
      intro c s x y hx hy; cases c <;> assumption
    refine hite _ _ _ _ (sameRegs_trans ?_ (hop n ih' false S.EVT_QUEUE_OVF_B e _)) ?_ <;>
      exact hite _ _ _ _ (hop n ih' true S.EVT_QUEUE_OVF_A e _) (sameRegs_refl _ _)

/-- A sticky bit set by a detector leaves the registers of every other page, those that an event touches apart. -/
theorem sameRegs_setSticky (p b : Nat) (s : State) : sameRegs [p] s (setSticky p b s) := by
  have h : sameRegs [p] s (stickyRise p b s).1 := by
    unfold stickyRise
    by_cases hb : bitOf (reg s p R.STICKY) b
    · simpa [hb] using sameRegs_refl _ _
    · simpa [hb] using sameRegs_setReg (p := p) (off := R.STICKY) _ s (by decide)
  have k := @stickyRise_event p b s
  unfold setSticky
  generalize stickyRise p b s = x at h k
  obtain ⟨t, o⟩ := x
  cases o with
  | none => exact h
  | some e => exact sameRegs_trans h (sameRegs_mono (by simp) (sameRegs_evPulse 4 e t (k rfl)))

/-- Outside the pages that an event touches, a sticky bit set by a detector is set, and nothing else of its page changes. -/
theorem setSticky_page {p b : Nat} {s : State} (hp : ¬ eventPage p) (hb : b < 64) :
    stuck (setSticky p b s) p b ∧ ∀ off, off < 0x1000 → off ≠ R.STICKY → reg (setSticky p b s) p off = reg s p off := by
  have h1 := stickyRise_stuck p b s hb
  have h2 : ∀ off, off < 0x1000 → off ≠ R.STICKY → reg (stickyRise p b s).1 p off = reg s p off := by
    intro off ho hn
    unfold stickyRise
    by_cases hb : bitOf (reg s p R.STICKY) b
    · simp [hb]
    · simpa [hb] using reg_setReg_ne _ s (regAddr_ne ho (by decide) (.inr hn))
  have k := @stickyRise_event p b s
  unfold setSticky
  generalize stickyRise p b s = x at h1 h2 k
  obtain ⟨t, o⟩ := x
  cases o with
  | none => exact ⟨h1, h2⟩
  | some e =>
    have hs := sameRegs_evPulse 4 e t (k rfl)
    refine ⟨?_, fun off ho hn => (hs p off (by simp) hp ho).trans (h2 off ho hn)⟩
    have := hs p R.STICKY (by simp) hp (by decide)
    dsimp only [stuck] at h1 ⊢
    rw [this]; exact h1

end Sys2Proof.Machine
end

