-- ==== Sys2Proof/WellFormed.lean ====
section
/-! DEFINITION. Well-formed commands: every operand names something the device has. The model gives a meaning to the others
too; a unit that is not there does nothing. -/

namespace Sys2Proof

/-- A number of a unit of which the device has `n`. -/
def wfUnder (n x : Nat) : Bool := decide (x < n)

/-- An assigned Turn matrix master (R340). -/
def wfMaster (m : Nat) : Bool := decide (m ≤ 8 ∨ (16 ≤ m ∧ m ≤ 43) ∨ (64 ≤ m ∧ m ≤ 131))

/-- A lane that exists: 64 Spur lanes, 32 Zhok lanes. -/
def wfLane : LanePort → Bool
  | .spur n => wfUnder 64 n
  | .zhok l => wfUnder 32 l

/-- A received codeword: how the FEC found it is 0 to 2, 20 message bits. -/
def wfFrame (f : RxFrame) : Bool := wfUnder 3 f.fec && wfUnder 0x100000 f.ctrl

/-- What an equaliser finds: the request fits its field (R98). -/
def wfEq (e : EqInput) : Bool := wfUnder 64 e.req

/-- A memory request: its master exists, it is not empty, and a write carries its bytes. -/
def wfRequest (r : HbmReq) : Bool :=
  wfMaster r.master && decide (0 < r.len) && decide (r.wr = true → r.data.length = r.len)

/-- A commit of a producer that exists. -/
def wfCommit (r : CommitReq) : Bool := wfMaster r.producer && wfUnder 0x40000 r.ring && wfUnder 6 r.die

/-- A lane's codeword in a link frame. -/
def wfLaneWord (w : LaneWord) : Bool := wfUnder 3 w.fec && wfUnder 256 w.startPtr

/-- What powering meets: rails and stacks that exist. -/
def wfPower (e : PowerEnv) : Bool := e.dead.all (wfUnder 12) && e.misses.all (wfUnder 4) && e.failed.all (wfUnder 4)

/-- What a start and a shutdown meet: rails that exist. -/
def wfStart (e : StartEnv) : Bool := e.rails.all (wfUnder 12) && wfPower e.power
def wfClose (e : CloseEnv) : Bool := e.rails.all (wfUnder 12) && e.dead.all (wfUnder 12)

/-- Well-formedness of a command. -/
def Instr.wf (i : Instr) : Bool :=
  match i with
  | .registerWrite m _ _ _ also => wfMaster m && also.all (fun w => wfMaster w.1)
  | .pageEnable m page _ | .pageDebug m page _ | .softReset m page _ | .inject m page _ | .disarm m page _
  | .stickyEvtEn m page _ => wfMaster m && wfUnder 0x4000 page
  | .injectFire page bit => wfUnder 0x4000 page && wfUnder 64 bit
  | .command p _ _ | .cmdRead p | .cmdWrite p | .writeMasked p => wfUnder 2 p
  | .bar2Access _ _ _ _ | .pciReset | .claimReport | .routeDrop | .revert | .tbsTriginPop | .markDispatch | .mrkDone
  | .monitorUpdate _ _ _ | .dpllLock _ | .historySample _ | .hoLimit _ | .xoLost | .xoReturn _ | .rngWmPop
  | .railFault _ | .railRecovery | .refereeEvaluation _ _ | .retirePersist _ | .unlockExpiry | .resume | .ckptTime
  | .checkpoint _ | .ckptPersisted | .ckptLate | .powerOn | .resetN | .phaseErr _ | .ppsOut | .pciLink _ _ _ => true
  | .trainFrame lane fr _ eq => wfLane lane && wfFrame fr && wfEq eq
  | .stepFail lane | .trainingTimeout lane | .retrainFail lane => wfLane lane
  | .dataFrame lane fr | .idleFrame lane fr | .mgmtFrame lane fr => wfUnder 64 lane && wfFrame fr
  | .ack lane _ _ | .status lane _ | .syncTimeout lane => wfUnder 64 lane
  | .send m lane _ | .sprStRead m lane _ | .sprStWrite m lane _ => wfMaster m && wfUnder 64 lane
  | .roughingOutput engine ecc => wfUnder 64 engine && wfUnder 3 ecc
  | .roughReset h | .modelLoad h | .gainSwap h | .coefSwap h | .weightSwap h | .intStart h | .intEnd h | .markNop h
  | .trigPulse h | .trigLevel h | .syncLoad h | .ctrlStart h | .ctrlStop h | .event h | .chiselPost h => wfUnder 4096 h
  | .syncNow m engine _ => wfMaster m && wfUnder 64 engine
  | .spectrum fpl stream _ => wfUnder 16 fpl && wfUnder 0x40000 stream
  | .turnWrite die _ | .stageLoad die _ | .replay die _ | .dump die _ | .missNotice die => wfUnder 4 die
  | .loadNow m fpl _ | .fplGainSwap m fpl _ | .request m fpl _ | .fplCoefData m fpl _ _ | .fplGainData m fpl _ _
  | .fplMapRead m fpl _ | .fplMapWrite m fpl _ | .fplRegionRead m fpl _ | .fplRegionWrite m fpl _ =>
    wfMaster m && wfUnder 16 fpl
  | .stagingDeadline die region _ => wfUnder 4 die && wfUnder 16 region
  | .drainToken lathe faults _ _ => wfUnder 272 lathe && faults.all (fun f => wfUnder 33 f.row && wfUnder 33 f.col)
  | .handshakeTo lathe | .snapDone lathe _ => wfUnder 272 lathe
  | .snapshot m lathe _ | .lthResume m lathe _ => wfMaster m && wfUnder 272 lathe
  | .schPlanRead m die _ | .schPlanWrite m die _ | .ggeDetRead m die _ | .ggeDetWrite m die _ | .ggeWsetRead m die _
  | .ggeWsetWrite m die _ | .swap m die _ | .tlyCtxRead m die _ | .tlyCtxWrite m die _ | .tlyStart m die _
  | .tlyStop m die _ => wfMaster m && wfUnder 4 die
  | .gougeStroke lathe faults _ _ => wfUnder 272 lathe && faults.all (fun f => wfUnder 33 f.row)
  | .detectorEvaluation die det => wfUnder 4 die && wfUnder 16 det
  | .detAck m die det _ => wfMaster m && wfUnder 4 die && wfUnder 16 det
  | .ggeLine m die line _ => wfMaster m && wfUnder 4 die && wfUnder 16 line
  | .integrationClose die ctx _ | .recordEmit die ctx => wfUnder 4 die && wfUnder 16 ctx
  | .linkFrame link words _ _ _ => wfUnder 4 link && words.all wfLaneWord
  | .ackStall link | .stepDown link | .stepUp link _ | .stepUpFail link => wfUnder 4 link
  | .corner dest src region _ _ _ _ _ => wfUnder 8 dest && wfUnder 8 src && wfUnder 16 region
  | .partialOp dest src die ctx _ _ _ _ => wfUnder 8 dest && wfUnder 8 src && wfUnder 4 die && wfUnder 16 ctx
  | .record dest src ring _ _ => wfUnder 8 dest && wfUnder 8 src && wfUnder 0x40000 ring
  | .recordTimeout src ring => wfUnder 8 src && wfUnder 0x40000 ring
  | .mark dest src _ | .claim dest src _ => wfUnder 8 dest && wfUnder 8 src
  | .sharedIsolated entry member => wfUnder 16 entry && wfUnder 8 member
  | .sharedTakeover entry => wfUnder 16 entry
  | .linkOverload link cls => wfUnder 4 link && wfUnder 8 cls
  | .tbsTimeS m | .apply m _ | .markInsert m _ | .markRead m _ | .markDelete m _ | .timeout m _ | .rngAdvance m _
  | .rngRead m _ | .rngWrite m _ | .failsafeAll m _ | .arm m _ | .switchover m _ | .reinstate m _ | .refGrantData m _
  | .stwRlRead m _ | .remove m _ | .installFw m _ _ | .verifyWork m _ | .debugUnlock m _ | .attest m _ | .kem m _
  | .ownerProg m _ | .ownerRevoke m _ | .confirm m _ | .relock m _ | .advanceFwSvn m _ | .advanceWorkSvn m _
  | .lockApply m _ | .ckptNow m _ | .fullReset m _ | .shutdown m _ => wfMaster m
  | .ptpMessage clock _ | .announceTimeout clock => wfUnder 2 clock
  | .ppsInEdge n _ | .ppsLoss n => wfUnder 2 n
  | .trigInEdge line _ _ _ => wfUnder 8 line
  | .pulseEnd line => wfUnder 16 line
  | .los ref _ => wfUnder 12 ref
  | .truClkout m n _ => wfMaster m && wfUnder 8 n
  | .run m n _ | .stop m n _ | .doorbell m n _ | .chsMemData m n _ => wfMaster m && wfUnder 68 n
  | .wake n cause => wfUnder 68 n && wfUnder 6 cause
  | .watchdog n | .hLoadTimeout n | .brdTimeout n | .outfeed n | .nop n | .halt n | .jmp n | .jcc n | .call n
  | .ret n | .loop n | .ldlc n | .movlc n | .waitw n | .waitm n | .mkins n | .brd n | .bwr n | .outf n | .sync n
  | .evt n | .ldi n | .mov n | .setg n | .getg n | .rnd n | .crnd n | .clra n | .lda n | .clda n | .add n | .sub n
  | .neg n | .abs n | .mul n | .andOp n | .orOp n | .xor n | .shl n | .shra n | .shrl n | .cmp n | .min n | .max n
  | .mpy n | .mac n | .msu n | .adda n | .cadd n | .csub n | .conj n | .cmul n | .cmac n | .cmacj n | .cmpy n
  | .cmulj n | .cpow n | .cscl n | .phs n => wfUnder 68 n
  | .hbmRequest pc arriving _ => wfUnder 128 pc && arriving.all wfRequest
  | .refresh pc _ | .powerDown pc | .scrub pc _ _ => wfUnder 128 pc
  | .reserve ring reqs => wfUnder 0x40000 ring && reqs.all (fun r => wfMaster r.1)
  | .commit reqs => reqs.all wfCommit
  | .rewind ring producer => wfUnder 0x40000 ring && wfMaster producer
  | .flush ring => wfUnder 0x40000 ring
  | .dmaChEn m ch _ _ | .go m ch _ | .dmaChRd m ch _ => wfMaster m && wfUnder 64 ch
  | .copyDescriptor ch _ _ | .recordTransfer ch _ => wfUnder 64 ch
  | .frameReceive p sub' _ | .pauseFrame p sub' _ _ | .linkDown p sub' _ | .subportUp p sub' =>
    wfUnder 6 p && wfUnder 4 sub'
  | .sampleDatagram p | .pauseRefresh p | .lpi p | .lldpdu p => wfUnder 6 p
  | .pauseExpire p sub' c | .pauseWd p sub' c => wfUnder 6 p && wfUnder 4 sub' && wfUnder 8 c
  | .ethFlowRead m p _ | .ethFlowWrite m p _ => wfMaster m && wfUnder 6 p
  | .controlCycle c | .slewUpdate c _ _ _ => wfUnder 32 c
  | .fldRun m c _ | .restart m c _ | .fldResume m c _ => wfMaster m && wfUnder 32 c
  | .beat m st _ => wfMaster m && wfUnder 2 st
  | .evtPending m k _ | .evtMask m k _ => wfMaster m && wfUnder 16 k
  | .msixUnmask m (.vector n) _ => wfMaster m && wfUnder 2048 n
  | .msixUnmask m (.function _) _ => wfMaster m
  | .evtPop st => wfUnder 2 st
  | .pwrDomainReq m _ env => wfMaster m && wfPower env
  | .railMonitor rails _ => rails.all (fun r => wfUnder 12 r.1)
  | .tempTrip die _ dead => wfUnder 6 die && dead.all (wfUnder 4)
  | .smbAlert faults dead => faults.all (wfUnder 12) && dead.all (wfUnder 12)
  | .start env => wfStart env
  | .drainMs env => wfClose env
  | .tempHigh die _ => wfUnder 6 die

end Sys2Proof
end

