-- ==== Sys2Proof/Tests/Slice0.lean ====
section
/-! SUPPORT. Tests: the well-formedness checks, worked values of the spec, and for each statement states and operands that meet
its hypotheses. -/

namespace Sys2Proof.Machine.Tests

set_option linter.unusedVariables false
set_option Elab.async false

/-! ## Well-formedness: one ill-formed term for each check -/

/-- Ill-formed commands, one check each. -/
theorem test_ill_formed_1 : ([
    .registerWrite 9 0 0 0 [], .registerWrite 0 0 0 0 [(9, 0)], .pageEnable 9 0 0, .pageEnable 0 0x4000 0,
    .pageDebug 9 0 0, .pageDebug 0 0x4000 0, .softReset 9 0 0, .softReset 0 0x4000 0, .inject 9 0 0, .inject 0 0x4000 0,
    .disarm 9 0 0, .disarm 0 0x4000 0, .injectFire 0x4000 0, .injectFire 0 64, .stickyEvtEn 9 0 0,
    .stickyEvtEn 0 0x4000 0, .command 2 [] false, .cmdRead 2, .cmdWrite 2, .writeMasked 2,
    .trainFrame (.spur 64) ⟨0, 0, []⟩ false ⟨false, 0⟩, .trainFrame (.zhok 32) ⟨0, 0, []⟩ false ⟨false, 0⟩,
    .trainFrame (.spur 0) ⟨3, 0, []⟩ false ⟨false, 0⟩, .trainFrame (.spur 0) ⟨0, 0x100000, []⟩ false ⟨false, 0⟩,
    .trainFrame (.spur 0) ⟨0, 0, []⟩ false ⟨false, 64⟩,
    .stepFail (.spur 64), .stepFail (.zhok 32), .trainingTimeout (.spur 64), .trainingTimeout (.zhok 32),
    .dataFrame 64 ⟨0, 0, []⟩, .dataFrame 0 ⟨3, 0, []⟩, .dataFrame 0 ⟨0, 0x100000, []⟩, .idleFrame 64 ⟨0, 0, []⟩,
    .idleFrame 0 ⟨3, 0, []⟩, .idleFrame 0 ⟨0, 0x100000, []⟩, .retrainFail (.spur 64), .retrainFail (.zhok 32),
    .mgmtFrame 64 ⟨0, 0, []⟩, .mgmtFrame 0 ⟨3, 0, []⟩, .mgmtFrame 0 ⟨0, 0x100000, []⟩, .ack 64 0 0, .status 64 0,
    .send 9 0 0, .send 0 64 0, .syncTimeout 64, .sprStRead 9 0 0, .sprStRead 0 64 0, .sprStWrite 9 0 0,
    .sprStWrite 0 64 0, .roughingOutput 64 0, .roughingOutput 0 3, .roughReset 4096, .syncNow 9 0 0, .syncNow 0 64 0,
    .spectrum 16 0 [], .spectrum 0 0x40000 [], .turnWrite 4 0, .modelLoad 4096, .loadNow 9 0 0] : List Instr).all (fun i => !i.wf) = true := by decide +kernel

/-- Ill-formed commands, one check each. -/
theorem test_ill_formed_2 : ([
    .loadNow 0 16 0, .gainSwap 4096, .fplGainSwap 9 0 0, .fplGainSwap 0 16 0, .coefSwap 4096, .request 9 0 0,
    .request 0 16 0, .fplCoefData 9 0 false 0, .fplCoefData 0 16 false 0, .fplGainData 9 0 false 0,
    .fplGainData 0 16 false 0, .fplMapRead 9 0 0, .fplMapRead 0 16 0, .fplMapWrite 9 0 0, .fplMapWrite 0 16 0,
    .fplRegionRead 9 0 0, .fplRegionRead 0 16 0, .fplRegionWrite 9 0 0, .fplRegionWrite 0 16 0, .stagingDeadline 4 0 0,
    .stagingDeadline 0 16 0, .stageLoad 4 [], .drainToken 272 [] 0 0, .drainToken 0 [⟨33, 0, false, 0⟩] 0 0,
    .drainToken 0 [⟨0, 33, false, 0⟩] 0 0, .handshakeTo 272, .replay 4 [], .snapshot 9 0 0, .snapshot 0 272 0,
    .snapDone 272 0, .lthResume 9 0 0, .lthResume 0 272 0, .schPlanRead 9 0 0, .schPlanRead 0 4 0, .schPlanWrite 9 0 0,
    .schPlanWrite 0 4 0, .gougeStroke 272 [] 0 0, .gougeStroke 0 [⟨0, 33, false, 0⟩] 0 0, .detectorEvaluation 4 0,
    .detectorEvaluation 0 16, .detAck 9 0 0 0, .detAck 0 4 0 0, .detAck 0 0 16 0, .ggeDetRead 9 0 0, .ggeDetRead 0 4 0,
    .ggeDetWrite 9 0 0, .ggeDetWrite 0 4 0, .ggeLine 9 0 0 0, .ggeLine 0 4 0 0, .ggeLine 0 0 16 0, .ggeWsetRead 9 0 0,
    .ggeWsetRead 0 4 0, .ggeWsetWrite 9 0 0, .ggeWsetWrite 0 4 0, .swap 9 0 0, .swap 0 4 0, .weightSwap 4096, .dump 4 0,
    .missNotice 4, .tlyCtxRead 9 0 0] : List Instr).all (fun i => !i.wf) = true := by decide +kernel

/-- Ill-formed commands, one check each. -/
theorem test_ill_formed_3 : ([
    .tlyCtxRead 0 4 0, .tlyCtxWrite 9 0 0, .tlyCtxWrite 0 4 0, .tlyStart 9 0 0, .tlyStart 0 4 0, .tlyStop 9 0 0,
    .tlyStop 0 4 0, .intStart 4096, .intEnd 4096, .integrationClose 4 0 false, .integrationClose 0 16 false,
    .recordEmit 4 0, .recordEmit 0 16, .linkFrame 4 [] [] 0 none, .linkFrame 0 [⟨3, 0, 255⟩] [] 0 none, .ackStall 4,
    .corner 8 0 0 0 0 0 0 0, .corner 0 8 0 0 0 0 0 0, .corner 0 0 16 0 0 0 0 0, .partialOp 8 0 0 0 0 0 0 [],
    .partialOp 0 8 0 0 0 0 0 [], .partialOp 0 0 4 0 0 0 0 [], .partialOp 0 0 0 16 0 0 0 [], .record 8 0 0 0 [],
    .record 0 8 0 0 [], .record 0 0 0x40000 0 [], .recordTimeout 8 0, .recordTimeout 0 0x40000,
    .mark 8 0 (.answer 0 true), .mark 0 8 (.answer 0 true), .claim 8 0 [], .claim 0 8 [], .sharedIsolated 16 0,
    .sharedIsolated 0 8, .sharedTakeover 16, .stepDown 4, .stepUp 4 0, .stepUpFail 4, .linkOverload 4 0,
    .linkOverload 0 8, .tbsTimeS 9, .apply 9 0, .ptpMessage 2 ⟨.pdelayReq ⟨0, 0, 0, 0, 0, 0, 0⟩, 0, 0⟩, .announceTimeout 2,
    .ppsInEdge 2 ⟨0, 0⟩, .ppsLoss 2, .trigInEdge 8 false 0 0, .markInsert 9 0, .markRead 9 0, .markDelete 9 0, .markNop 4096,
    .trigPulse 4096, .trigLevel 4096, .pulseEnd 16, .syncLoad 4096, .ctrlStart 4096, .ctrlStop 4096, .event 4096,
    .chiselPost 4096, .los 12 []] : List Instr).all (fun i => !i.wf) = true := by decide +kernel

/-- Ill-formed commands, one check each. -/
theorem test_ill_formed_4 : ([
    .truClkout 9 0 0, .truClkout 0 8 0, .run 9 0 0, .run 0 68 0, .stop 9 0 0, .stop 0 68 0, .doorbell 9 0 0,
    .doorbell 0 68 0, .chsMemData 9 0 none, .chsMemData 0 68 none, .wake 68 0, .wake 0 6, .watchdog 68, .hLoadTimeout 68,
    .brdTimeout 68, .outfeed 68, .nop 68, .halt 68, .jmp 68, .jcc 68, .call 68, .ret 68, .loop 68, .ldlc 68, .movlc 68,
    .waitw 68, .waitm 68, .mkins 68, .brd 68, .bwr 68, .outf 68, .sync 68, .evt 68, .ldi 68, .mov 68, .setg 68, .getg 68,
    .rnd 68, .crnd 68, .clra 68, .lda 68, .clda 68, .add 68, .sub 68, .neg 68, .abs 68, .mul 68, .andOp 68, .orOp 68,
    .xor 68, .shl 68, .shra 68, .shrl 68, .cmp 68, .min 68, .max 68, .mpy 68, .mac 68, .msu 68, .adda 68] : List Instr).all (fun i => !i.wf) = true := by decide +kernel

/-- Ill-formed commands, one check each. -/
theorem test_ill_formed_5 : ([
    .cadd 68, .csub 68, .conj 68, .cmul 68, .cmac 68, .cmacj 68, .cmpy 68, .cmulj 68, .cpow 68, .cscl 68, .phs 68,
    .hbmRequest 128 [] [], .hbmRequest 0 [⟨9, 0, 0, 32, false, [], 0⟩] [], .hbmRequest 0 [⟨0, 0, 0, 0, false, [], 0⟩] [],
    .hbmRequest 0 [⟨0, 0, 0, 2, true, [1], 0⟩] [], .refresh 128 ⟨0, 0⟩, .powerDown 128, .scrub 128 0 none, .timeout 9 false,
    .reserve 0x40000 [], .reserve 0 [(9, 0)], .commit [⟨0, 9, 0, 0, []⟩], .commit [⟨0x40000, 0, 0, 0, []⟩],
    .commit [⟨0, 0, 0, 6, []⟩], .rewind 0x40000 0, .rewind 0 9, .rngAdvance 9 0, .rngRead 9 0, .rngWrite 9 0,
    .flush 0x40000, .dmaChEn 9 0 0 none, .dmaChEn 0 64 0 none, .go 9 0 0, .go 0 64 0, .copyDescriptor 64 [] false,
    .recordTransfer 64 false, .dmaChRd 9 0 0, .dmaChRd 0 64 0, .frameReceive 6 0 ⟨0, true, none, []⟩,
    .frameReceive 0 4 ⟨0, true, none, []⟩, .sampleDatagram 6, .pauseFrame 6 0 false [], .pauseFrame 0 4 false [],
    .pauseExpire 6 0 0, .pauseExpire 0 4 0, .pauseExpire 0 0 8, .pauseWd 6 0 0, .pauseWd 0 4 0, .pauseWd 0 0 8,
    .pauseRefresh 6, .lpi 6, .lldpdu 6, .linkDown 6 0 [], .linkDown 0 4 [], .ethFlowRead 9 0 0, .ethFlowRead 0 6 0,
    .ethFlowWrite 9 0 0, .ethFlowWrite 0 6 0, .controlCycle 32, .slewUpdate 32 0 0 false] : List Instr).all (fun i => !i.wf) = true := by decide +kernel

/-- Ill-formed commands, one check each. -/
theorem test_ill_formed_6 : ([
    .fldRun 9 0 0, .fldRun 0 32 0, .restart 9 0 0, .restart 0 32 0, .fldResume 9 0 0, .fldResume 0 32 0, .failsafeAll 9 0,
    .beat 9 0 0, .beat 0 2 0, .arm 9 0, .switchover 9 0, .reinstate 9 0, .refGrantData 9 0, .evtPending 9 0 0,
    .evtPending 0 16 0, .evtMask 9 0 0, .evtMask 0 16 0, .msixUnmask 9 (.vector 0) 0, .msixUnmask 0 (.vector 2048) 0, .evtPop 2,
    .stwRlRead 9 0, .remove 9 0, .installFw 9 0 false, .verifyWork 9 0, .debugUnlock 9 0, .attest 9 0, .kem 9 0,
    .ownerProg 9 0, .ownerRevoke 9 0, .confirm 9 0, .relock 9 0, .advanceFwSvn 9 0, .advanceWorkSvn 9 0, .lockApply 9 0,
    .ckptNow 9 0, .pwrDomainReq 9 0 ⟨[], [], []⟩, .pwrDomainReq 0 0 ⟨[12], [], []⟩, .pwrDomainReq 0 0 ⟨[], [4], []⟩,
    .pwrDomainReq 0 0 ⟨[], [], [4]⟩, .railMonitor [(12, 0, 0)] 0, .tempTrip 6 0 [], .tempTrip 0 0 [4], .smbAlert [12] [],
    .smbAlert [] [12], .fullReset 9 0, .start ⟨true, [], [], [12], ⟨[], [], []⟩, [], false, 0⟩,
    .start ⟨true, [], [], [], ⟨[], [], [4]⟩, [], false, 0⟩, .shutdown 9 0,
    .drainMs ⟨true, true, [12], true, [], false, 0, []⟩, .drainMs ⟨true, true, [], true, [], false, 0, [12]⟩,
    .tempHigh 6 0, .subportUp 6 0, .subportUp 0 4] : List Instr).all (fun i => !i.wf) = true := by decide +kernel

/-- Each command with operands that exist. -/
theorem test_well_formed_1 : ([
    .registerWrite 0 0 0 0 [], .pageEnable 0 0 0, .pageDebug 0 0 0, .softReset 0 0 0, .inject 0 0 0, .disarm 0 0 0,
    .injectFire 0 0, .stickyEvtEn 0 0 0, .command 0 [] false, .cmdRead 0, .cmdWrite 0, .writeMasked 0,
    .bar2Access false 0 0 [], .pciReset, .trainFrame (.spur 0) ⟨0, 0, []⟩ false ⟨false, 0⟩, .stepFail (.spur 0),
    .trainingTimeout (.spur 0), .dataFrame 0 ⟨0, 0, []⟩, .idleFrame 0 ⟨0, 0, []⟩, .retrainFail (.spur 0),
    .mgmtFrame 0 ⟨0, 0, []⟩, .ack 0 0 0, .status 0 0, .send 0 0 0, .syncTimeout 0, .sprStRead 0 0 0, .sprStWrite 0 0 0,
    .roughingOutput 0 0, .roughReset 0, .syncNow 0 0 0, .spectrum 0 0 [], .turnWrite 0 0, .modelLoad 0, .loadNow 0 0 0,
    .gainSwap 0, .fplGainSwap 0 0 0, .coefSwap 0, .request 0 0 0, .fplCoefData 0 0 false 0, .fplGainData 0 0 false 0,
    .fplMapRead 0 0 0, .fplMapWrite 0 0 0, .fplRegionRead 0 0 0, .fplRegionWrite 0 0 0, .stagingDeadline 0 0 0,
    .stageLoad 0 [], .drainToken 0 [] 0 0, .handshakeTo 0, .replay 0 [], .snapshot 0 0 0, .snapDone 0 0, .lthResume 0 0 0,
    .schPlanRead 0 0 0, .schPlanWrite 0 0 0, .gougeStroke 0 [] 0 0, .detectorEvaluation 0 0, .detAck 0 0 0 0,
    .ggeDetRead 0 0 0, .ggeDetWrite 0 0 0, .ggeLine 0 0 0 0] : List Instr).all (fun i => i.wf) = true := by decide +kernel

/-- Each command with operands that exist. -/
theorem test_well_formed_2 : ([
    .ggeWsetRead 0 0 0, .ggeWsetWrite 0 0 0, .swap 0 0 0, .weightSwap 0, .dump 0 0, .missNotice 0, .tlyCtxRead 0 0 0,
    .tlyCtxWrite 0 0 0, .tlyStart 0 0 0, .tlyStop 0 0 0, .intStart 0, .intEnd 0, .integrationClose 0 0 false,
    .recordEmit 0 0, .linkFrame 0 [] [] 0 none, .ackStall 0, .corner 0 0 0 0 0 0 0 0, .partialOp 0 0 0 0 0 0 0 [],
    .record 0 0 0 0 [], .recordTimeout 0 0, .mark 0 0 (.answer 0 true), .claim 0 0 [], .claimReport, .sharedIsolated 0 0,
    .sharedTakeover 0, .routeDrop, .stepDown 0, .stepUp 0 0, .stepUpFail 0, .linkOverload 0 0, .tbsTimeS 0, .apply 0 0,
    .ptpMessage 0 ⟨.pdelayReq ⟨0, 0, 0, 0, 0, 0, 0⟩, 0, 0⟩, .announceTimeout 0, .ppsInEdge 0 ⟨0, 0⟩, .ppsLoss 0, .revert,
    .trigInEdge 0 false 0 0, .tbsTriginPop, .markInsert 0 0, .markRead 0 0, .markDelete 0 0, .markDispatch, .mrkDone,
    .markNop 0, .trigPulse 0, .trigLevel 0, .pulseEnd 0, .syncLoad 0, .ctrlStart 0, .ctrlStop 0, .event 0, .chiselPost 0,
    .monitorUpdate [] [] [], .los 0 [], .dpllLock 0, .historySample 0, .hoLimit 0, .xoLost, .xoReturn []] : List Instr).all (fun i => i.wf) = true := by decide +kernel

/-- Each command with operands that exist. -/
theorem test_well_formed_3 : ([
    .truClkout 0 0 0, .run 0 0 0, .stop 0 0 0, .doorbell 0 0 0, .chsMemData 0 0 none, .wake 0 0, .watchdog 0,
    .hLoadTimeout 0, .brdTimeout 0, .outfeed 0, .nop 0, .halt 0, .jmp 0, .jcc 0, .call 0, .ret 0, .loop 0, .ldlc 0,
    .movlc 0, .waitw 0, .waitm 0, .mkins 0, .brd 0, .bwr 0, .outf 0, .sync 0, .evt 0, .ldi 0, .mov 0, .setg 0, .getg 0,
    .rnd 0, .crnd 0, .clra 0, .lda 0, .clda 0, .add 0, .sub 0, .neg 0, .abs 0, .mul 0, .andOp 0, .orOp 0, .xor 0, .shl 0,
    .shra 0, .shrl 0, .cmp 0, .min 0, .max 0, .mpy 0, .mac 0, .msu 0, .adda 0, .cadd 0, .csub 0, .conj 0, .cmul 0,
    .cmac 0, .cmacj 0] : List Instr).all (fun i => i.wf) = true := by decide +kernel

/-- Each command with operands that exist. -/
theorem test_well_formed_4 : ([
    .cmpy 0, .cmulj 0, .cpow 0, .cscl 0, .phs 0, .hbmRequest 0 [] [], .refresh 0 ⟨0, 0⟩, .powerDown 0, .scrub 0 0 none,
    .timeout 0 false, .reserve 0 [], .commit [], .rewind 0 0, .rngAdvance 0 0, .rngRead 0 0, .rngWrite 0 0, .rngWmPop,
    .flush 0, .dmaChEn 0 0 0 none, .go 0 0 0, .copyDescriptor 0 [] false, .recordTransfer 0 false, .dmaChRd 0 0 0,
    .frameReceive 0 0 ⟨0, true, none, []⟩, .sampleDatagram 0, .pauseFrame 0 0 false [], .pauseExpire 0 0 0,
    .pauseWd 0 0 0, .pauseRefresh 0, .lpi 0, .lldpdu 0, .linkDown 0 0 [], .ethFlowRead 0 0 0, .ethFlowWrite 0 0 0,
    .controlCycle 0, .slewUpdate 0 0 0 false, .fldRun 0 0 0, .restart 0 0 0, .fldResume 0 0 0, .failsafeAll 0 0,
    .railFault 0, .railRecovery, .beat 0 0 0, .refereeEvaluation 0 0, .arm 0 0, .switchover 0 0, .reinstate 0 0,
    .refGrantData 0 0, .evtPending 0 0 0, .evtMask 0 0 0, .msixUnmask 0 (.vector 0) 0, .evtPop 0, .stwRlRead 0 0, .remove 0 0,
    .retirePersist false, .installFw 0 0 false, .verifyWork 0 0, .debugUnlock 0 0, .attest 0 0, .kem 0 0] : List Instr).all (fun i => i.wf) = true := by decide +kernel

/-- Each command with operands that exist. -/
theorem test_well_formed_5 : ([
    .ownerProg 0 0, .ownerRevoke 0 0, .confirm 0 0, .relock 0 0, .unlockExpiry, .advanceFwSvn 0 0, .advanceWorkSvn 0 0,
    .lockApply 0 0, .resume, .ckptNow 0 0, .ckptTime, .checkpoint false, .ckptPersisted, .ckptLate,
    .pwrDomainReq 0 0 ⟨[], [], []⟩, .railMonitor [] 0, .tempTrip 0 0 [], .smbAlert [] [], .powerOn, .resetN,
    .fullReset 0 0, .start ⟨true, [], [], [], ⟨[], [], []⟩, [], false, 0⟩, .shutdown 0 0,
    .drainMs ⟨true, true, [], true, [], false, 0, []⟩, .phaseErr 0, .tempHigh 0 0, .ppsOut, .subportUp 0 0,
    .pciLink 0 0 false] : List Instr).all (fun i => i.wf) = true := by decide +kernel

/-! ## States for the witnesses -/

/-- A state with every domain powered and the device READY. -/
def w0 : State := setFld 0 F.PAGE_STATUS_READY 1 (setReg 0x3F0 R.PWR_DOMAIN_STATUS 0xFFFFFF State.reset)

/-- A page enabled. -/
def wOn (p : Nat) (s : State) : State := setFld p F.PAGE_CTRL_ENABLE 1 s

/-- Spur lane `n` enabled and given. -/
def wLane (n : Nat) (l : LaneTrain) : State := { wOn (0x10 + n) w0 with spr := { lanes := [(n, l)] } }

/-- A TRAIN frame with an intact MARKER. -/
def wTrain : RxFrame := ⟨0, 1022, trainMarker ++ List.replicate 24 0⟩

/-- A block of one REAL16 sample of stream 5 at index 100 (R106, R108). -/
def wBlock : List Byte :=
  let b := leBytes 8 (5 + 4 * 2 ^ 16 + 2 ^ 20) ++ leBytes 8 100 ++ leBytes 2 7
  b ++ leBytes 4 (crc32 b)

/-- A DATA frame that the block opens, with fill after it. -/
def wDataFrame : RxFrame := ⟨0, 0, wBlock ++ List.replicate 618 0xFF⟩

/-- Lane 3 in RUN with stream 5 as entry 7, REAL16 under ROUGH at 1 MS/s, expecting index `x`; its engine is enabled. -/
def wStream (x : Nat) : State :=
  { wOn 0x53 (wOn 0x13 w0) with
    spr := { lanes := [(3, { st := .run })],
             streams := [(42, BitVec.ofNat 64 (1 + 3 * 4 + 5 * 1024 + 4 * 2 ^ 26 + 2 ^ 30)), (43, BitVec.ofNat 64 (1000000 + 2 ^ 40))],
             expect := [(7, x + 1)] } }

/-- One dispatched occurrence of mark `h` at `t` ns with action `k` and ARG64 `a`. -/
def wMark (h t k : Nat) (a : Word) : MrkState := { occs := [⟨h, t * 65536, false, false, BitVec.ofNat 64 k, a, 0, 0, 0, 0, []⟩] }

/-- Entry 7 of `wStream` mapped at entry 2 of Faceplate 1, position 5 of region 0 (C8, 64 channels, T 256, 1 block, DEPTH 2 on
every C-die); P is 4; the Faceplate holds record `x` of the stream. -/
def wFpl (x : FplStream) : State :=
  let s := wStream 90
  { setReg 0x91 R.FPL_CFG (BitVec.ofNat 64 (6 + 128 + 512)) (wOn 0x91 s) with
    spr := { s.spr with streams := [(42, BitVec.ofNat 64 (1 + 3 * 4 + 5 * 1024 + 4 * 2 ^ 26 + 2 ^ 30 + 2 ^ 33)), (43, BitVec.ofNat 64 (1000000 + 2 ^ 40))] }
    fpl := {
      map := [(65544, BitVec.ofNat 64 (1 + 7 * 2 + 5 * 2 ^ 23))]
      streams := [(7, x)]
      regions := (List.range 4).flatMap (fun d => [(32 * d, BitVec.ofNat 64 (1 + 1 * 2 + 6 * 8 + 256 + 2 ^ 21 + 2 ^ 36)), (32 * d + 1, BitVec.ofNat 64 (0x900000000 * d + 65536))]) } }


/-- A blank-store half with one spectrum of block 0, every operand 1. -/
def wHalf : BlankHalf := ⟨0, [⟨0, 0, [List.replicate 32 (1, 0)]⟩]⟩

/-- A correlation stroke of tile (0, 0) on half 0, batch 5 of region 0. -/
def wStroke : Stroke :=
  { seat := 10, region := 0, ctx := 0, chan := 0, batch := 5, int := some 3, gouge := none, row := 0, col := 0, slot := 7,
    producer := 0, split := 0, fmt := 1, segs := [0], own := none, acc := [], held := 0, replay := false }

/-- Lathe 10 enabled with strokes, half 0 of C-die 0 holding `wHalf`; failed jobs `r` wait for a replay. -/
def wLathe (q r : List Stroke) : State :=
  { wOn 0x10A (wOn 0x140 w0) with sch := { lathes := [(10, { queue := q })], dies := [(0, { halfA := some wHalf, replays := r })] } }

/-- Region 0 of C-die 0: C8, N 64, T 256, 1 block, DEPTH 2, at 64 KiB; a TRIANGLE over block 0 at 1 MiB; tally context 0 of
one slot and 16 channels on region 0; the pass plan of region 0 in SCH_PLAN_DATA names them. -/
def wPlan (data0 : Word) : State :=
  let s := wFpl { next := 1 }
  let s := memPut 1048576 32 (2 + (15 <<< (64 + 48))) s
  let s := setRegsFrom 0x220 0x110 [data0, 1048576, 0, 2 ^ 32, 0, 0] (wOn 0x224 (wOn 0x220 s))
  { s with tly := { dies := [(0, { ctxs := [(0, { words := [1, 1, 131072 * 16, 131072 * 32, 0, BitVec.ofNat 64 (15 * 2 ^ 36), 0] })] })] } }

/-- `wPlan` with its plan valid, in STREAMING mode; batch 0 is being staged, its first load still to come, channel 0. -/
def wStaging : State :=
  let s := (planValidWrite 0 (planData (wPlan (1 + 2 ^ 32)) 0) (wPlan (1 + 2 ^ 32))).2
  setSchDie 0 { cur := some ⟨0, 0, [], none, 0, [(0, 0), (1, 0)]⟩, next := [(0, 1)] } s

/-- A job of weight set 2 whose weights are still to be read. -/
def wGougeJob : GougeJob := ⟨⟨6, 0, 2, 0⟩, 0, false, none⟩

/-- `wLathe` of C-die 0 with weight set 2 valid (C8, one group, one link, region 0, one channel, both banks zero), the GGE page
enabled, and a stroke of job `g` in front of lathe 10. -/
def wGougeOf (g : GougeJob) : State :=
  { wOn 0x228 (wLathe [{ wStroke with gouge := some g, int := none }] []) with
    gge := { wsets := [(2, { w0 := BitVec.ofNat 64 (1 + 65536), w1 := 1048576, w2 := 2097152 })] } }

/-- The same with the job whose weights are still to be read. -/
def wGouge : State := wGougeOf wGougeJob

/-- That job with weights 1 + 2i in its store. -/
def wGougeLoaded : GougeJob := { wGougeJob with weights := some [List.replicate 32 (List.replicate 32 (1, 2))] }

/-- Detector 5 of C-die 1: beam 7 of region 0, channels 0 to 0, one tick, ON 1000, OFF 500, MIN_ON 2. -/
def wDetector (x : Detector) : State :=
  { wOn 0x229 w0 with gge := { dets := [(21, { x with w0 := BitVec.ofNat 64 (1 + 7 * 4), w1 := 1000, w2 := 500, w3 := 2 })] },
                      sch := { dies := [(1, { next := [(0, 9999)] })] } }

/-- An integration number 4 from batch 3 on, and a dump of batch 5 for slot 0 of channel 0 of it. -/
def wInteg : Integ :=
  { num := 4, first := 3, stop := none, opened := 1, touched := [], flags := 0, carry := [], skipped := false, entries := [],
    closed := false, partials := [], combined := false, freed := false, chans := [], recs := [], serial := 0, pre := 0, rings := 0, voided := [], infed := [] }
def wItem (k : TlyKind) : TlyItem := ⟨k, 0, some 4, 0, 0, 5, 0, 0, 0, 0, if k = .dump then List.replicate 1024 (3, -2) else [], false, false⟩

/-- Tally 0 enabled with context 0 (one slot, one channel, region 0, LENGTH 1) in integration `g`, outcomes `l` waiting. -/
def wTally (g : Integ) (l : List TlyItem) : State :=
  { wOn 0x224 w0 with
    tly := { dies := [(0, { inbox := l, ctxs := [(0, { words := [65537, 1, 1048576, 2097152, 0, 0, 0], running := true, nextNum := 5, ints := [g] })] })] } }

/-- Ring `n` valid, 16 KiB at 3 MiB, with the counts of `r`. -/
def wRing (n : Nat) (r : Ring) (s : State) : State :=
  { s with rng := { rings := [(n, { r with w0 := 29, w1 := 3145728 })] } }

/-- The integration of `wTally` with one record still to emit, a page of row statistics of three bytes. -/
def wEmitting : Integ := { wInteg with closed := true, combined := true, chans := [0], recs := [.rows [1, 2, 3]], stop := some 4 }
def wEmit (s : State) : (Nat × List Byte) × State :=
  recPayload 0 0 (ctxOf s 0 0) wEmitting 0 0 (.rows [1, 2, 3]) (updInteg 0 0 4 (fun g => { g with recs := [.rows [1, 2, 3]] }) s)

/-- Member 0 of a gang of two, page 0x320 enabled, region 0 BY_CHANNEL, link 0 as given with its lanes in RUN. -/
def wGang (l : ZhkLink) : State :=
  { setFld 0x320 F.ZHK_REGION_MODE 1 (setFld 0x320 F.ZHK_GANG_SIZE 1 (wOn 0x320 w0)) with
    zhk := { links := [(0, l)], lanes := (List.range 8).map (fun n => (n, { st := .run, rate := 2 })) } }

/-- PTP clock 0 enabled in state `st`, P2P as given, with what `c` holds. -/
def wPtp (st p2p : Nat) (c : PtpClock) : State :=
  { setFld 0x331 F.PTP_CFG_P2P p2p (setFld 0x331 F.PTP_STATUS_STATE st (wOn 0x331 w0)) with tbs := { ptp := [(0, c)] } }

/-- `wTally` on member `m` of a gang of two whose region 0 is SPLIT: the integration of one slot has closed, the partials `p` are in. -/
def wSplitInteg (p : List Nat) : Integ :=
  { wInteg with closed := true, opened := 0, stop := some 4, entries := [⟨2#64, 0#64, 0#64, 0#64⟩], partials := p }
def wSplit (m : Nat) (p : List Nat) : State :=
  setFld 0x320 F.ZHK_REGION_MODE 2 (setFld 0x320 F.ZHK_GANG_MEMBER m (setFld 0x320 F.ZHK_GANG_SIZE 1
    (wOn 0x320 (wTally (wSplitInteg p) []))))

/-- A link frame of four lanes with SEQ `seq`, ACK `ack`, FLAGS `fl` and USE 9, its payload fill words, and its codewords. -/
def wLinkFrame (seq ack fl : Nat) : List Byte :=
  let b := leBytes 2 seq ++ leBytes 2 ack ++ leBytes 1 fl ++ leBytes 1 9 ++ leBytes 10 0 ++ List.replicate 2540 0xFF
  b ++ leBytes 4 (crc32 b)
def wWords : List LaneWord := List.replicate 4 ⟨0, 0, 255⟩

/-- A CORNER packet of this member to member 1. -/
def wPacket : ZhkPacket := ⟨1, 1, 0, false, 0, 64, [1, 2, 3, 4], .none⟩

/-- `wGang` with entry 2 of ZHK_SHARED valid: field channel 5 under gang identifier 3, `o` the OWNER bit; reports `r`, stand `x`. -/
def wShared (o : Nat) (r : List ZhkReport) (x : ZhkStand) : State :=
  let s := wGang { up := true }
  { setReg 0x320 (0x2C8 + 16) (BitVec.ofNat 64 (1 + 5 * 8 + 3 * 256 + o * 4096)) (setFld 0x3A6 F.CLAIM_LATCHED 7 s) with
    zhk := { s.zhk with reports := r, stands := [(2, x)] } }

/-- Core `n` running with `w` at its PC 0 and what `c` holds. -/
def wChs (n : Nat) (w : Word) (c : ChsCore) : State :=
  { wOn (chsPage n) w0 with chs := { cores := [(n, { c with st := .running, prog := [(0, w)] })] } }

/-- A format-A word of an opcode: D1, D2, D3, A1, A2, shift 4; and a core with values in them. -/
def wA (op : Nat) (dd da db aa ab sh : Nat) : Word :=
  BitVec.ofNat 64 (op * 2 ^ 56 + dd * 2 ^ 51 + da * 2 ^ 47 + db * 2 ^ 43 + aa * 2 ^ 41 + ab * 2 ^ 39 + sh * 2 ^ 33)
def wCore : ChsCore :=
  { d := [(2, 0xFFFFFFFF0003), (3, 0x000002FFFFFE)], a := [(1, 1000), (2, 77)], g := [(2, 0x000005000010)], v := true }

def wChsI (n : Nat) (w : Word) (c : ChsCore) : ChsInstr := (chsAt (wChs n w c) n).getD (chsFields 0 .a)
def wChsC (n : Nat) (w : Word) (c : ChsCore) : ChsCore := chsCore (wChs n w c) n

/-- Stack 0 READY, its HBM page enabled, pseudo-channel 3 (of address 768) as given. -/
def wHbm (c : HbmPc) : State := { setFld 0x230 F.HBM_STATUS_STATE 2 (wOn 0x243 (wOn 0x230 w0)) with hbm := { pcs := [(3, c)], nextSeq := 50 } }
def wReq (w : Bool) (a : Nat) (l : List Byte) : HbmReq := ⟨5, 0, a, if w then l.length else 4, w, l, 0⟩

/-- Ring 4 valid, 4 KiB at 3 MiB, consumer 1, one record visible in units 0 to 3, one reservation of master 5 open behind it. -/
def wRing4 : Ring :=
  { w0 := BitVec.ofNat 64 (1 + 12 * 2 + 64), w1 := 3145728, w2 := BitVec.ofNat 64 (40 + 2 ^ 33), reserve := 8, visible := 4, taken := 0,
    spans := [⟨0, 4, .committed, 5, some 7⟩, ⟨4, 4, .opened, 5, none⟩] }
def wRings (r : Ring) : State := { wOn 0x300 w0 with rng := { rings := [(4, r)] } }

/-- A drain channel 3, enabled, serving ring 4 into HBM at 4 MiB: one line of `n` units. -/
def wDrain (n : Nat) : State :=
  let s := wRings { wRing4 with w0 := BitVec.ofNat 64 (1 + 12 * 2 + 3 * 2 ^ 7), above := true }
  { setReg 0x2C8 (R.DMA_CH_CTRL + 0xC0) 3 (setReg 0x2C8 (R.DMA_CH_STATUS + 0xC0) 1 (wOn 0x2C8 s)) with
    dma := { chans := [(3, { desc := [0, 4194304, 0, 4096, 0, BitVec.ofNat 64 (n + 2 ^ 24), 0, 5242880] })] } }

/-- Ethernet port `p` enabled with sub-port 0 up and what `x` holds; its IPv4 address is 9. -/
def wEth (p : Nat) (x : EthPort) : State :=
  { setReg (ethPage p) R.ETH_IP4 9 (setReg (ethPage p) R.ETH_STATUS 1 (wOn (ethPage p) w0)) with eth := { ports := [(p, x)] } }

/-- A sample datagram of SEQ `n` with the block of `wBlock`, and the frame that carries it. -/
def wSample (n : Nat) : List Byte := [0x53, 0x44, 1, 1] ++ leBytes 4 n ++ wBlock
def wUdp (n : Nat) : UdpRx := ⟨false, 9, 77, 0, 47811, false, 1, wSample n⟩
def wFrame (n : Nat) : List Byte :=
  let u := beBytes 2 77 ++ beBytes 2 47811 ++ beBytes 2 (8 + (wSample n).length) ++ beBytes 2 0 ++ wSample n
  let head (ck : Nat) : List Byte :=
    [0x45] ++ beBytes 1 0 ++ beBytes 2 (20 + u.length) ++ beBytes 4 0 ++ beBytes 2 0x4011 ++ beBytes 2 ck ++ beBytes 8 9
  macHead 5 0 none 0x0800 ++ head (inetChecksum (head 0)) ++ u
def wRx (l : List Byte) : EthRx := ⟨120, true, none, l⟩

/-- `wStream` whose entry 7 takes its blocks from data port 1, with a datagram of its block waiting there. -/
def wDatagram : State :=
  let s := wStream 90
  { s with spr := { s.spr with streams := [(42, BitVec.ofNat 64 (1 + 2 + 3 * 4 + 256 + 5 * 1024 + 4 * 2 ^ 26 + 2 ^ 30)), (43, BitVec.ofNat 64 (1000000 + 2 ^ 40))] }
           eth := { ports := [(1, { buffer := [⟨wSample 5, false⟩] })] } }

/-- Field channel `c` enabled, connected and out of its fail-safe state (CODE), cycles running, RANGE 4 (or 6), and what `x` holds. -/
def wFld (c : Nat) (x : FldChan) : State :=
  let p := fldPage c
  { setReg fldGlb R.FLD_GLB_STATUS 0 (setReg p R.FLD_CH_STATUS 1 (setReg p R.FLD_CH_CTRL 1
      (setReg p R.FLD_CH_CFG (if fldFine c then 14 else 12) (wOn fldGlb (wOn p w0))))) with field := { chans := [(c, x)] } }

/-- Armed Referee of policy `pol`: Steward A ACTIVE under claim 6 (MAX_ISSUED 6), B in state `b`; last beats at `x` and `y` ms. -/
def wRef (pol b x y : Nat) : State :=
  { setReg refPage R.REF_CFG (BitVec.ofNat 64 (pol + 50 * 2 ^ 8 + 1000 * 2 ^ 18)) (setReg refPage 0x110 (BitVec.ofNat 64 (1 + 3 * 256 + b * 2048 + 6 * 65536 + 6 * 2 ^ 48)) w0) with
    mono := 100 * msUnits, ref := ⟨{ beatAt := x * msUnits, fresh := false }, { beatAt := y * msUnits, fresh := false }⟩ }

/-- Event 70 pending and masked, routed to vector 9 by MSI-X; vector 9 has address 64 and data 5. -/
def wEvt : State :=
  setReg 0x400 144 64 (setReg 0x400 152 5 (setReg 0x3D3 (R.EVT_MASK + 8) 64 (setReg 0x3D3 (R.EVT_PENDING + 8) 64
    { w0 with routes := [(70, 0x809#64 ^^^ 0x4000#64)] })))

/-- A KIND 1 command in execution on path 0 (master 3) that has written the registers of a list. -/
def wCmd1 (l : List Nat) (s : State) : State := { s with cmd := { runs := [(0, ⟨true, 0, 0, [], [], [], l⟩)] } }

/-- An ACTIVE Steward A, an operation input at 64 MiB. -/
def wHwd : State := setReg hwdPage R.HWD_OP_ADDR 67108864 (wRef 0 2 60 60)

/-- The Ledger in epoch 1, open where `o` says so, its rings all ring 0: 32 KiB at 3 MiB, empty. -/
def wLedger (o : Nat) : State :=
  { setFld ldgPage F.LDG_STATUS_OPEN o (setFld ldgPage F.LDG_STATUS_EPOCH 1 (wOn rngPage w0)) with
    rng := { rings := [(0, { w0 := 1 + 15 * 2, w1 := 3145728, w2 := BitVec.ofNat 64 (40 + 2 ^ 33) })] }, mono := 5000 * msUnits }

/-- `w0` of package serial 7 with a boot nonce. -/
def wBoot : State :=
  let l := sparseInsert (sparseInsert w0.regs (regAddr 0 R.PKG_SERIAL) 7) (regAddr hwdPage R.HWD_BOOT_NONCE) 1
  { w0 with regs := sparseInsert l (regAddr hwdPage (R.HWD_BOOT_NONCE + 8)) 2 }

/-- A session command of one operation and its tag under an empty key; port 1 is live, key slot 0 holds the empty key. -/
def wCmdBody : List Byte :=
  [0x54, 0x5A, 0x43, 0x4D] ++ leBytes 2 1 ++ [2, 1] ++ leBytes 8 7 ++ bootNonce wBoot ++ leBytes 8 5 ++ leBytes 24 0 ++
    leBytes 2 0x12 ++ leBytes 2 8 ++ leBytes 4 1 ++ leBytes 16 0
def wCmdBytes : List Byte := wCmdBody ++ sessionTag [] 5 false wCmdBody
def wCommand : State := { wOn 0x315 wBoot with hwd := { sessions := [(0, [])] } }

/-! ## Worked values of the spec -/

/-- The state an outcome gives. -/
def after (r : Host.Outcome State Fault Refusal) : State :=
  match r with
  | .next t => t
  | _ => State.reset

/-- The REAL12 bytes of R30. -/
theorem test_real12 : (List.range 2).map (sampleAt 3 (ofLeBytes [0x05, 0xE0, 0xFF])) = [(5, 0), (-2, 0)] := by decide +kernel

/-- The C8 word of R31 and its bytes. -/
theorem test_c8 : operandCode 1 (-3) 5 = 0x05FD ∧ leBytes 2 0x05FD = [0xFD, 0x05] ∧ operandValue 1 0x8000 = (0, -128) := by decide +kernel

/-- The halves of the requantisation table of R33. -/
theorem test_requantise : [253, 251, 255, -255].map (fun x => requantise 127 x 1) =
    [(126, false), (126, false), (127, true), (-127, true)] := by decide +kernel

/-- The conversion table of R49: to T48. -/
theorem test_to_t48 : [t48OfI48 0 (.fin 1099511627777), t48OfI48 0 (.fin 1099511627779), t48OfI48 0 .negInf, t48OfI48 2 .void] =
    [0x538000000000, 0x538000000002, 0xFF8000000000, 0x7F8200000000] := by decide +kernel

/-- The conversion table of R49: 2.5, 3.5 and 2^47 to I48. -/
theorem test_to_i48 : [i48OfT48 (t48OfExact 5 165), i48OfT48 (t48OfExact 7 165), i48OfT48 (t48OfExact (2 ^ 47) 166)] =
    [(.fin 2, 0), (.fin 4, 0), (.posInf, 0)] := by decide +kernel

/-- The EXACT splits worked under R57: unsplit and 4-way overflow, 2-way does not. -/
theorem test_exact_splits :
    let add := fun a b => i48Add a b
    let p : I48 := .fin 140737000000000
    let d : List I48 := [.fin 300000000, .fin 300000000, .fin (-400000000), .fin (-100000000)]
    d.foldl add p = .posInf ∧
    combineBalanced add [add (add p (.fin 300000000)) (.fin (-400000000)), add (.fin 300000000) (.fin (-100000000))] = [.fin 140737100000000] ∧
    combineBalanced add [add p (.fin 300000000), .fin 300000000, .fin (-400000000), .fin (-100000000)] = [.posInf] := by decide +kernel

/-- The FLOAT splits worked under R59, as offsets from 2^41: 32 unsplit, 28 in 8 producers. -/
theorem test_float_splits :
    let x : Int → Code48 := fun v => t48OfExact v 166
    let p := x (2 ^ 41)
    (List.replicate 8 (x 3)).foldl t48Add p = x (2 ^ 41 + 32) ∧
    combineBalanced t48Add (t48Add p (x 3) :: List.replicate 7 (x 3)) = [x (2 ^ 41 + 28)] := by decide +kernel

/-- The pages and events worked under R68 and in the tables of blocks. -/
theorem test_page_events : lthPage 141 = 0x18D ∧ hpcPage 81 = 0x291 ∧
    [0x18D, 0x291, 0x288].map pageFirstEvent = [375, 699, 690] := by decide +kernel

/-- The turn-buffer operand decoded under R330. -/
theorem test_hbm_decode :
    let a := 0x1200000000 + 0x81982FA4
    stackOf a = 2 ∧ hpcPage (hpcOf a) = 0x288 ∧ pcOffset a = 67944868 ∧ pcSid a = 0 ∧ pcRow a = 4147 ∧ pcBank a = 0 ∧ pcCol a = 420 := by
  decide +kernel

/-- The fade worked under R151: the first and last weights of 256 spectra, steps of 4,096 in 16. -/
theorem test_fade : fadeWeight ⟨1000, 256⟩ 1000 = 256 ∧ fadeWeight ⟨1000, 256⟩ 1255 = 65536 ∧
    (List.range 4).map (fun k => fadeWeight ⟨1256, 16⟩ (1256 + k)) = [4096, 8192, 12288, 16384] := by decide +kernel

/-- The evaluations of detector 21 worked under R221. -/
theorem test_detector :
    let x : Detector := { w1 := 4000000000, w2 := 2500000000, w3 := 4, st := 2 }
    let run := [1200000000, 4600000000, 3100000000, 2200000000, 2000000000, 1900000000, 3900000000].foldl
      (fun (p : Detector × List Nat) v => let r := detMove p.1 v; (r.1, p.2 ++ [r.1.st])) (x, [])
    run.2 = [2, 3, 3, 3, 3, 2, 2] := by decide +kernel

/-- The segment length worked under R374. -/
theorem test_segment : 64 * ((9216 - (18 + 4 + 32 + 20 + 8 + 16)) / 64) = 9088 ∧
    segmentLen (setFld (ethPage 0) F.ETH_MACSEC_PROTECT 1 w0) 0 { flowOf 0 0 with vlan := true, ipv6 := false, frameMax := 9216 } = 9088 := by
  decide +kernel

/-- The instruction word worked under R326: CMAC A1, D2, D3 with its two loads. -/
theorem test_chisel_word : (chsDecode 0 {} 0x44011A00902094E8).map (fun i => (i.op, i.sat, i.da, i.db, i.aa)) = some (0x44, false, 2, 3, 1) ∧
    (chsDecode 0 {} 0x44011A00902094E8).map (fun i => ((i.m0.store, i.m0.dn, i.m0.gn, i.m0.mod', i.m0.mem), (i.m1.store, i.m1.dn, i.m1.gn, i.m1.mod', i.m1.mem))) =
      some ((false, 4, 0, 1, 0), (false, 5, 1, 3, 1)) := by decide +kernel

/-- PHS of a quarter turn, and the CMUL after it, as worked under R326. -/
theorem test_phs : (chsCore (after (exec (.phs 3) (wChs 3 (wA 0x4A 1 0 0 0 0 0) { d := [(0, 0x40000)] }))) 3).dReg 1 = 0x400000000000 := by
  decide +kernel
theorem test_cmul : (chsCore (after (exec (.cmul 3) (wChs 3 (wA 0x43 3 1 2 0 0 22) { d := [(1, 0x400000000000), (2, 100)] }))) 3).dReg 3 =
    0x000064000000 := by decide +kernel

/-- A step runs the front command; an empty queue lets a cycle pass. -/
theorem test_step_front : (after (step { State.reset with pending := [.ppsOut, .revert] })).pending = [.revert] := by decide +kernel

/-- The writers at field channel 3 worked under R81: what LATCHED and SETPOINT hold after each step. -/
def wField : State := setFld 0x3A4 F.CLAIM_LATCHED 6 (setFld 0x3D1 F.REF_STATUS_CLAIM_B 7 (setFld 0x3D1 F.REF_STATUS_CLAIM_A 6
  (setFld 0x3D1 F.REF_STATUS_STATE_A 3 (setFld 0x3D1 F.REF_STATUS_STATE_B 3 { wOn 0x3A4 w0 with grants := [(64, 7)] }))))
def wFieldWrite (m : Nat) (v : Word) (also : List (Nat × Word)) (s : State) : State :=
  after (exec (.registerWrite m (0x3A4 * 0x1000 + R.FLD_CH_SETPOINT) 8 v also) s)
def wFieldStand (s : State) : List Nat := [latched s 0x3A4, (reg s 0x3A4 R.FLD_CH_SETPOINT).toNat, fieldOf (reg s 0x3A4 R.STICKY) 2 2]
theorem test_claims_1 : wFieldStand (wFieldWrite 1 100 [(0, 200)] wField) = [6, 100, 1] := by decide +kernel
theorem test_claims_2 : wFieldStand (wFieldWrite 2 300 [] wField) = [7, 300, 0] := by decide +kernel
theorem test_claims_3 : wFieldStand (wFieldWrite 1 400 [] (wFieldWrite 2 300 [] wField)) = [7, 300, 1] := by decide +kernel
theorem test_claims_4 : wFieldStand (wFieldWrite 2 500 [(64, 600)] (wFieldWrite 2 300 [] wField)) = [7, 300, 2] := by decide +kernel

/-! Lemmas for the witnesses whose plain evaluation is long -/

theorem cellAt_zeros (n i j : Nat) : cellAt (List.replicate n (0, 0)) i j = (0, 0) := by
  simp [cellAt, List.getD_eq_getElem?_getD, List.getElem?_replicate]; split <;> rfl

theorem sum_zeros (l : List Nat) : l.foldl (fun a _ => addPair a (0, 0)) ((0, 0) : Int × Int) = (0, 0) := by
  induction l with
  | nil => rfl
  | cons x l ih => exact ih

theorem equationOf_zeros (k i : Nat) : ∀ x ∈ equationOf k i (0, 0) (0, 0), x.diff = 0 := by
  intro x hx
  simp only [equationOf, List.mem_cons, List.not_mem_nil, or_false] at hx
  rcases hx with rfl | rfl <;> rfl

theorem failing_zeros (n : Nat) : failing (List.replicate n (0, 0)) = [] := by
  have h : ∀ x ∈ equations (List.replicate n (0, 0)), x.diff = 0 := by
    intro x hx
    simp only [equations, rowSum, colSum, cellAt_zeros, sum_zeros, List.mem_append, List.mem_flatMap] at hx
    rcases hx with ((⟨_, _, hx⟩ | ⟨_, _, hx⟩) | hx) | hx <;> exact equationOf_zeros _ _ x hx
  simpa [failing, List.filter_eq_nil_iff] using h

theorem memRead_zeros (s : State) (n a : Nat) (h : ∀ x, a ≤ x → memGet s x = 0) : memRead s a n = List.replicate n 0 := by
  induction n generalizing a with
  | zero => rfl
  | succ n ih => rw [memRead, h a (Nat.le_refl a), ih (a + 1) (fun x hx => h x (by omega))]; rfl

theorem codesOf_zeros (n m : Nat) : codesOf n (List.replicate m 0) = List.replicate n 0#48 := by
  induction n generalizing m with
  | zero => rfl
  | succ n ih =>
    rw [codesOf, List.drop_replicate, ih, List.take_replicate, List.replicate_succ]
    congr 1
    have h : ∀ k, ofLeBytes (List.replicate k 0) = 0 := by
      intro k; induction k with
      | zero => rfl
      | succ k ih => simp only [List.replicate_succ, ofLeBytes, ih]; rfl
    rw [h]

theorem wCommand_accepted : cmdAccepted wCommand wCmdBytes = true := by
  have hl : cmdLen wCmdBytes = wCmdBody.length := by decide +kernel
  have ha : cmdAuthentic wCommand wCmdBytes = true := by
    have h6 : byteField wCmdBytes 6 1 = 2 := by decide +kernel
    have h40 : byteField wCmdBytes 40 1 = 0 := by decide +kernel
    have h32 : byteField wCmdBytes 32 8 = 5 := by decide +kernel
    have hs : sparseFind wCommand.hwd.sessions 0 = some [] := by decide +kernel
    have ht : wCmdBytes.take wCmdBody.length = wCmdBody := List.take_left
    have hd : wCmdBytes.drop wCmdBody.length = sessionTag [] 5 false wCmdBody := List.drop_left
    simp only [cmdAuthentic, hl, h6, h40, h32, ht, hd, hs]
    simp
  have hf : cmdFormed wCmdBytes = true := by decide +kernel
  have hn : byteField wCmdBytes 8 8 = pkgSerial wCommand := by decide +kernel
  have hb : (wCmdBytes.drop 16).take 16 = bootNonce wCommand := by decide +kernel
  have hq : wCommand.cmd.lastSeq = none := by decide +kernel
  simp only [cmdAccepted, hf, ha, hn, hb, hq]
  decide

/-- `wHalf` with every operand 0. -/
def wHalfZ : BlankHalf := ⟨0, [⟨0, 0, [List.replicate 32 (0, 0)]⟩]⟩

/-- The shadow of `wHalf` under a single fault in row 5. -/
def wShadow : List (Code48 × Code48) :=
  faultSet [⟨5, 17, false, 4096#48⟩] none (accumulate noAcc [List.replicate 32 (1, 0)] [List.replicate 32 (1, 0)])

theorem wShadow_fails : ∃ e l, failing (wShadow.map (fun c => (c.1.toInt, c.2.toInt))) = e :: l := by
  refine List.exists_cons_of_ne_nil (List.ne_nil_of_mem (a := ⟨0, 5, false, 4096⟩) (List.mem_filter.2 ⟨?_, by decide⟩))
  refine List.mem_append_left _ (List.mem_append_left _ (List.mem_append_left _ (List.mem_flatMap.2 ⟨5, by decide, ?_⟩)))
  decide +kernel

/-- A dump waiting for a slot whose header is of its integration, the rest of memory zero. -/
def wSlot : State :=
  memWrite 1048576 ({ freshHdr wInteg 1 1 ⟨0, 0, 0, 0, 0, 0⟩ with counted := 6, missed := 2 } : SlotHdr).bytes (wTally wInteg [wItem .dump])

theorem wSlot_finite :
    (addDump (ctxOf (wTally wInteg []) 0 0).float (codesOf 2048 (memRead wSlot (1048576 + 64) 12288)) (wItem .dump).values).all
      (fun v => !code48Void (ctxOf (wTally wInteg []) 0 0).float v && !code48Inf (ctxOf (wTally wInteg []) 0 0).float v) = true := by
  rw [memRead_zeros, codesOf_zeros]
  · decide +kernel
  · intro x hx
    have hl : ({ freshHdr wInteg 1 1 ⟨0, 0, 0, 0, 0, 0⟩ with counted := 6, missed := 2 } : SlotHdr).bytes.length = 64 := by decide +kernel
    rw [wSlot, memGet_memWrite_outside _ _ _ _ (Or.inr (by rw [hl]; exact hx))]
    rfl

theorem wCommand_idle (n : Nat) : runCmd 1 n wCommand = wCommand := by
  induction n with
  | zero => rfl
  | succ n ih => exact ih

theorem wCommand_runs : cmdAccepted (runCmd 1 64 wCommand) wCmdBytes = true := by
  rw [wCommand_idle]; exact wCommand_accepted

theorem wCommand_held : ∃ u, exec (.command 1 wCmdBytes true) wCommand = .next u := by
  simp only [exec, execCommand]
  split
  · exact ⟨_, rfl⟩
  · split <;> exact ⟨_, rfl⟩

theorem crcBit_lt (c : Nat) (h : c < 2 ^ 32) : crcBit c < 2 ^ 32 := by
  unfold crcBit; split
  · exact Nat.xor_lt_two_pow (by omega) (by decide)
  · omega

theorem crcByte_lt (c : Nat) (b : Byte) (h : c < 2 ^ 32) : crcByte c b < 2 ^ 32 := by
  have hb : b.toNat < 2 ^ 32 := by have := b.isLt; omega
  simp only [crcByte]
  iterate 8 refine crcBit_lt _ ?_
  exact Nat.xor_lt_two_pow h hb

theorem crc32_lt (l : List Byte) : crc32 l < 2 ^ 32 := by
  have h : ∀ (l : List Byte) (c : Nat), c < 2 ^ 32 → l.foldl crcByte c < 2 ^ 32 := by
    intro l; induction l with
    | nil => exact fun c hc => hc
    | cons b l ih => exact fun c hc => ih _ (crcByte_lt c b hc)
  exact Nat.xor_lt_two_pow (h l _ (by decide)) (by decide)

/-- A frame of four lanes that carries its own CRC is good where its SEQ is. -/
theorem ownCrc_good (s : State) (z : Nat) (b : List Byte) (hl : (usedLanes s z).length = 4) (hb : b.length = 2556)
    (hq : bytesAt b 0 2 = (zhkLink s z).rxSeq) : frameGood s z true wWords (b ++ leBytes 4 (crc32 b)) = true := by
  have hc : (leBytes 4 (crc32 b)).length = 4 := rfl
  have hn : (b ++ leBytes 4 (crc32 b)).length = 2560 := by rw [List.length_append, hb, hc]
  have h0 : bytesAt (b ++ leBytes 4 (crc32 b)) 0 2 = bytesAt b 0 2 := by
    simp only [bytesAt, List.drop_zero]; rw [List.take_append_of_le_length (by rw [hb]; decide)]
  have h4 : bytesAt (b ++ leBytes 4 (crc32 b)) 2556 4 = crc32 b := by
    rw [bytesAt, List.drop_left' hb, List.take_of_length_le (by rw [hc]), ofLeBytes_leBytes]
    exact Nat.mod_eq_of_lt (crc32_lt b)
  simp only [frameGood, hn, h0, hq, frameFits, hl, List.take_left' hb, h4]
  simp [wWords]

theorem wLinkFrame_good (s : State) (z seq ack fl : Nat) (hl : (usedLanes s z).length = 4)
    (hq : bytesAt (leBytes 2 seq) 0 2 = (zhkLink s z).rxSeq) : frameGood s z true wWords (wLinkFrame seq ack fl) = true := by
  refine ownCrc_good s z _ hl ?_ ?_
  · simp only [List.length_append, List.length_replicate]; rfl
  · rw [← hq]; rfl

/-! ## Witnesses of the hypotheses -/

theorem test_witness_I48Arithmetic :
    (∃ (a : Code48) (b : Code48) (x : Int) (y : Int),
    i48OfCode a = .fin x ∧ i48OfCode b = .fin y) ∧
    (∃ (a : Code48) (b : Code48) (x : Int) (y : Int),
    i48OfCode a = .fin x ∧ i48OfCode b = .fin y) ∧
    (∃ (x : Int) (k : Nat),
    -(2 ^ 40) ≤ x ∧ x ≤ 2 ^ 40) :=
  ⟨⟨0x7FFFFFFFFFFE#48, 1#48, 140737488355326, 1, by decide +kernel⟩,
   ⟨0x7FFFFFFFFFFE#48, 0x800000000002#48, 140737488355326, -140737488355326, by decide +kernel⟩,
   ⟨-1099511627776, 3, by decide +kernel⟩⟩

theorem test_witness_StepRunsFrontCommand : ∃ (s : State) (c : Instr) (rest : List Instr),
    s.pending = c :: rest :=
  ⟨{ w0 with pending := [.ppsOut, .resetN] }, .ppsOut, [.resetN], by decide +kernel⟩

theorem test_witness_EmptyQueueTicks : ∃ (s : State),
    s.pending = [] :=
  ⟨w0, by decide +kernel⟩

theorem test_witness_StoresStayCanonical : ∃ (s : State) (t : State),
    canonical s ∧ step s = .next t :=
  ⟨State.reset, { State.reset with mono := 4 * 65536, devFine := 2 ^ 52 }, ⟨by decide, by decide⟩, by rfl⟩

theorem test_witness_EnableAfterReset : ∃ (p : Nat) (b : Block),
    pageBlock p = some b ∧ b ≠ .msix ∧ b ≠ .pba :=
  ⟨0x10, .spr, by decide +kernel⟩

theorem test_witness_RefusedWrites_1 :
    (∃ (s : State) (m : Nat) (addr : Nat) (size : Nat) (v : Word),
    accessFaults s (addr / 0x1000) (addr % 0x1000) size = true) ∧
    (∃ (s : State) (m : Nat) (addr : Nat) (size : Nat) (v : Word),
    accessFaults s (addr / 0x1000) (addr % 0x1000) size = true) ∧
    (∃ (s : State) (m : Nat) (addr : Nat) (v : Word),
    accessFaults s (addr / 0x1000) (addr % 0x1000) 8 = false ∧ (pageBlock (addr / 0x1000)).isSome = true ∧ pageGated s (addr / 0x1000) = true) ∧
    (∃ (s : State) (m : Nat) (p : Nat) (off : Nat) (v : Word) (b : Block),
    pageBlock p = some b ∧ b ≠ .msix ∧ b ≠ .pba ∧ unarmed s 0x3F2 ∧ pageGated s p = false ∧ flag s p F.WRITE_LOCK_LOCKED = true ∧ m ≠ 1 ∧ m ≠ 2 ∧ off % 8 = 0 ∧ (regDef p off).isSome = true ∧ regAbsent p off = false) :=
  ⟨⟨w0, 0, 0x10104, 8, 1#64, by decide +kernel⟩,
   ⟨w0, 0, 0x10100, 4, 1#64, by decide +kernel⟩,
   ⟨setReg 0x3F0 R.PWR_DOMAIN_STATUS 0xFFDFFF w0, 0, 0x10108, 1#64, by decide +kernel⟩,
   ⟨setFld 0x3A3 F.WRITE_LOCK_LOCKED 1 w0, 0, 0x3A3, R.PAGE_CTRL, 1#64, .fld, by decide +kernel⟩⟩

theorem test_witness_RefusedWrites_2 :
    (∃ (s : State) (m : Nat) (p : Nat) (off : Nat) (v : Word) (b : Block),
    pageBlock p = some b ∧ b ≠ .msix ∧ b ≠ .pba ∧ unarmed s 0x3F2 ∧ pageGated s p = false ∧ flag s p F.WRITE_LOCK_LOCKED = true ∧ m ≠ 1 ∧ m ≠ 2 ∧ off % 8 = 0 ∧ (regDef p off).isSome = true ∧ regAbsent p off = false) ∧
    (∃ (s : State) (m : Nat) (p : Nat) (off : Nat) (v : Word),
    off % 8 = 0 ∧ (regDef p off).isSome = true ∧ regAbsent p off = false ∧ unarmed s 0x3F2 ∧ pageGated s p = false ∧ flag s p F.WRITE_LOCK_LOCKED = false ∧ m ≠ 1 ∧ m ≠ 2 ∧ regGuarded p off = true ∧ ((masterClaim s m < latched s (latchPage p off v) ∨ (dueClaims s (regAddr p off)).any (fun c => decide (masterClaim s m < c)) = true))) ∧
    (∃ (s : State) (m : Nat) (p : Nat) (off : Nat) (v : Word),
    off % 8 = 0 ∧ (regDef p off).isSome = true ∧ regAbsent p off = false ∧ unarmed s 0x3F2 ∧ pageGated s p = false ∧ flag s p F.WRITE_LOCK_LOCKED = false ∧ m ≠ 1 ∧ m ≠ 2 ∧ regGuarded p off = true ∧ ((masterClaim s m < latched s (latchPage p off v) ∨ (dueClaims s (regAddr p off)).any (fun c => decide (masterClaim s m < c)) = true))) ∧
    (∃ (s : State) (m : Nat) (addr : Nat) (p : Nat) (v : Word),
    p = addr / 0x1000 ∧ judge s m p (addr % 0x1000) 8 v = .locked) :=
  ⟨⟨setFld 0x3A3 F.WRITE_LOCK_LOCKED 1 w0, 3, 0x3A3, R.STICKY, 1#64, .fld, by decide +kernel⟩,
   ⟨setFld 0x3A3 F.CLAIM_LATCHED 5 w0, 0, 0x3A3, R.FLD_CH_CFG, 1#64, by decide +kernel⟩,
   ⟨{ w0 with mrk := { occs := [⟨3, 0, false, false, 0x0B, 1, 4, 0, 0, 0, []⟩] } }, 0, 0x3A1, R.FLD_CH_CTRL, 1#64, by decide +kernel⟩,
   ⟨setFld 0x3A3 F.WRITE_LOCK_LOCKED 1 w0, 0, 0x3A3108, 0x3A3, 1#64, by decide +kernel⟩⟩

theorem test_witness_RefusedWrites_3 :
    (∃ (s : State) (m : Nat) (addr : Nat) (p : Nat) (v : Word),
    p = addr / 0x1000 ∧ judge s m p (addr % 0x1000) 8 v = .lowClaim) ∧
    (∃ (s : State) (m : Nat) (addr : Nat) (p : Nat) (v : Word),
    p = addr / 0x1000 ∧ judge s m p (addr % 0x1000) 8 v = .tied) ∧
    (∃ (s : State) (m : Nat) (k : Nat) (addr : Nat) (p : Nat) (v : Word) (w : Word),
    p = addr / 0x1000 ∧ ¬ eventPage p ∧ regGuarded p (addr % 0x1000) = true ∧ accessAligned p (addr % 0x1000) 8 = true ∧ pageGated s p = false ∧ masterClaim s m = masterClaim s k) ∧
    (∃ (s : State) (m : Nat) (k : Nat) (addr : Nat) (p : Nat) (v : Word) (w : Word),
    p = addr / 0x1000 ∧ regGuarded p (addr % 0x1000) = true ∧ accessAligned p (addr % 0x1000) 8 = true ∧ pageGated s p = false ∧ masterClaim s k < masterClaim s m) :=
  ⟨⟨setFld 0x3A3 F.CLAIM_LATCHED 5 w0, 0, regAddr 0x3A3 R.FLD_CH_CFG, 0x3A3, 1#64, by decide +kernel⟩,
   ⟨{ w0 with mrk := { occs := [⟨3, 0, false, false, 0x0B, 1, 0, 0, 0, 0, []⟩] } }, 0, regAddr 0x3A1 R.FLD_CH_CTRL, 0x3A1, 1#64, by decide +kernel⟩,
   ⟨w0, 0, 3, regAddr 0x3A3 R.FLD_CH_CFG, 0x3A3, 1#64, 2#64, by decide +kernel⟩,
   ⟨{ w0 with grants := [(3, 7)] }, 3, 0, regAddr 0x3A3 R.FLD_CH_CFG, 0x3A3, 8#64, 2#64, by decide +kernel⟩⟩

theorem test_witness_RefusedWrites_4 :
    (∃ (s : State) (m : Nat) (addr : Nat) (size : Nat) (v : Word) (l : List (Nat × Word)),
    regGuarded (addr / 0x1000) (addr % 0x1000) = false) ∧
    (∃ (s : State) (m : Nat) (addr : Nat) (v : Word),
    judge s m (addr / 0x1000) (addr % 0x1000) 8 v = .ignored) ∧
    (∃ (s : State) (m : Nat) (addr : Nat) (p : Nat) (v : Word),
    p = addr / 0x1000 ∧ judge s m p (addr % 0x1000) 8 v = .range) ∧
    (∃ (s : State) (m : Nat) (addr : Nat) (p : Nat) (v : Word),
    p = addr / 0x1000 ∧ ((judge s m p (addr % 0x1000) 8 v = .steward ∨ judge s m p (addr % 0x1000) 8 v = .standby))) :=
  ⟨⟨w0, 0, 0x10108, 8, 1#64, [(1, 3#64), (4, 2#64)], by decide +kernel⟩,
   ⟨w0, 0, 0x13FF8, 1#64, by decide +kernel⟩,
   ⟨w0, 0, regAddr 0x3A1 R.FLD_CH_CFG, 0x3A1, 0xFFFFFFFFFFFFFFFF#64, by decide +kernel⟩,
   ⟨wRef 0 2 60 60, 2, regAddr 0x13 R.SPR_CFG, 0x13, 1#64, by decide +kernel⟩⟩

theorem test_witness_RefusedWrites_5 : ∃ (s : State) (m : Nat) (addr : Nat) (p : Nat) (v : Word),
    p = addr / 0x1000 ∧ ((judge s m p (addr % 0x1000) 8 v = .steward ∨ judge s m p (addr % 0x1000) 8 v = .standby)) :=
  ⟨wRef 0 4 60 60, 2, regAddr 0x13 R.SPR_CFG, 0x13, 1#64, by decide +kernel⟩

theorem test_witness_PageHeaderCommands_1 :
    (∃ (s : State) (m : Nat) (p : Nat) (v : Word),
    p < 0x400 ∧ judge s m p R.STICKY 8 v = .ok) ∧
    (∃ (s : State) (m : Nat) (p : Nat) (off : Nat) (v : Word) (b : Block),
    pageBlock p = some b ∧ b ≠ .msix ∧ b ≠ .pba ∧ ¬ eventPage p ∧ 0x100 ≤ off ∧ off < 0x1000 ∧ writeIngest b p off v = none ∧ writeCompute m b p off v = none ∧ writeTransport b p off v = none ∧ writeOutput m b p off v = none ∧ writeSystem m b off v = none ∧ regGuarded p off = false ∧ judge s m p off 8 v = .ok) ∧
    (∃ (s : State) (m : Nat) (addr : Nat) (size : Nat) (v : Word),
    judge s m (addr / 0x1000) (addr % 0x1000) size v = .ok) ∧
    (∃ (s : State) (m : Nat) (p : Nat) (v : Word) (b : Block),
    pageBlock p = some b ∧ b ∈ [.pkg, .die, .fpl, .sch, .hbm, .hpc, .xbr, .dma, .rng, .tbs, .mrk, .fldg, .stw, .ref, .evt, .evt1, .evt2, .evt4, .hwd, .ldg, .pwr, .clt, .pci] ∧ judge s m p R.PAGE_CTRL 8 v = .ok ∧ bitOf v 1 = false ∧ bitOf v 2 = false ∧ flag s p F.PAGE_CTRL_DEBUG = false) :=
  ⟨⟨setReg 0x12 R.STICKY 0x70 w0, 0, 0x12, 0x30#64, by decide +kernel⟩,
   ⟨w0, 0, 0x13, R.SPR_CFG, 0#64, .spr, by decide +kernel⟩,
   ⟨w0, 0, regAddr 0x3A3 R.FLD_CH_CFG, 8, 8#64, by decide +kernel⟩,
   ⟨w0, 0, 0x220, 1#64, .sch, by decide +kernel⟩⟩

theorem test_witness_PageHeaderCommands_2 :
    (∃ (s : State) (m : Nat) (p : Nat) (v : Word),
    p < 0x400 ∧ judge s m p R.PAGE_CTRL 8 v = .ok ∧ bitOf v 1 = false ∧ bitOf v 2 = false ∧ flag s p F.PAGE_CTRL_DEBUG = false ∧ flag s p F.PAGE_CTRL_ENABLE = bitOf v 0) ∧
    (∃ (s : State) (m : Nat) (p : Nat) (v : Word) (b : Block),
    pageBlock p = some b ∧ b ≠ .msix ∧ b ≠ .pba ∧ judge s m p R.PAGE_CTRL 8 v = .ok ∧ bitOf v 1 = false ∧ bitOf v 2 = false ∧ flag s p F.PAGE_CTRL_DEBUG = false ∧ flag s p F.PAGE_CTRL_ENABLE ≠ bitOf v 0) ∧
    (∃ (s : State) (m : Nat) (p : Nat) (v : Word) (b : Block),
    pageBlock p = some b ∧ b ≠ .msix ∧ b ≠ .pba ∧ judge s m p R.PAGE_CTRL 8 v = .ok ∧ bitOf v 1 = false ∧ bitOf v 2 = false ∧ flag s p F.PAGE_CTRL_DEBUG = false ∧ flag s p F.PAGE_CTRL_ENABLE ≠ bitOf v 0) ∧
    (∃ (s : State) (m : Nat) (p : Nat) (v : Word),
    p < 0x400 ∧ judge s m p R.PAGE_CTRL 8 (v ||| 4#64) = .ok ∧ debugAllowed s = false) :=
  ⟨⟨wOn 0x13 w0, 0, 0x13, 1#64, by decide +kernel⟩,
   ⟨w0, 3, 0x13, 1#64, .spr, by decide +kernel⟩,
   ⟨wOn 0x228 w0, 0, 0x228, 0#64, .gge, by decide +kernel⟩,
   ⟨w0, 0, 0x100, 0#64, by decide +kernel⟩⟩

theorem test_witness_PageHeaderCommands_3 :
    (∃ (s : State) (m : Nat) (p : Nat) (v : Word),
    p < 0x400 ∧ judge s m p R.PAGE_CTRL 8 (v ||| 4#64) = .ok ∧ debugAllowed s = false) ∧
    (∃ (s : State) (m : Nat) (p : Nat) (v : Word),
    p < 0x400 ∧ judge s m p R.PAGE_CTRL 8 (v ||| 4#64) = .ok ∧ bitOf v 1 = false ∧ debugAllowed s = true ∧ bitOf v 0 = flag s p F.PAGE_CTRL_ENABLE) ∧
    (∃ (s : State) (m : Nat) (p : Nat) (v : Word) (x : Word) (b : Block) (c : Instr),
    pageBlock p = some b ∧ b ≠ .msix ∧ b ≠ .pba ∧ (c, x) ∈ [(.pageEnable m p v, v), (.pageDebug m p v, v ||| 4#64), (.softReset m p v, v ||| 2#64)] ∧ judge s m p R.PAGE_CTRL 8 x = .ok ∧ ((bitOf x 2 = true → debugAllowed s = true))) ∧
    (∃ (s : State) (m : Nat) (p : Nat) (v : Word) (b : Block),
    pageBlock p = some b ∧ b ∈ [.pkg, .die, .evt1, .evt2, .evt4] ∧ judge s m p R.PAGE_CTRL 8 (v ||| 2#64) = .ok ∧ bitOf v 2 = false ∧ flag s p F.PAGE_CTRL_DEBUG = false) :=
  ⟨⟨{ w0 with hwd := { unlock := some ⟨2, 10⟩ } }, 0, 0x13, 1#64, by decide +kernel⟩,
   ⟨{ w0 with hwd := { unlock := some ⟨1, 10⟩ } }, 0, 0x100, 0#64, by decide +kernel⟩,
   ⟨{ w0 with hwd := { unlock := some ⟨1, 10⟩ } }, 0, 0x13, 1#64, 5#64, .spr, .pageDebug 0 0x13 1#64, by decide +kernel⟩,
   ⟨w0, 0, 1, 0#64, .die, by decide +kernel⟩⟩

theorem test_witness_PageHeaderCommands_4 :
    (∃ (s : State) (m : Nat) (p : Nat) (v : Word) (b : Block),
    pageBlock p = some b ∧ b ∈ [.xbr, .hpc, .pci] ∧ judge s m p R.PAGE_CTRL 8 (v ||| 2#64) = .ok ∧ bitOf v 2 = false ∧ flag s p F.PAGE_CTRL_DEBUG = false) ∧
    (∃ (s : State) (m : Nat) (p : Nat) (v : Word) (b : Block),
    pageBlock p = some b ∧ b ≠ .msix ∧ b ≠ .pba ∧ judge s m p R.PAGE_CTRL 8 (v ||| 2#64) = .ok ∧ bitOf v 2 = false ∧ flag s p F.PAGE_CTRL_DEBUG = false ∧ (¬ (b = .ref ∧ armedRef s = true))) ∧
    (∃ (s : State) (m : Nat) (v : Word),
    judge s m refPage R.PAGE_CTRL 8 (v ||| 2#64) = .ok ∧ bitOf v 2 = false ∧ flag s refPage F.PAGE_CTRL_DEBUG = false ∧ armedRef s = true) ∧
    (∃ (s : State) (m : Nat) (p : Nat) (v : Word) (b : Block) (k : Nat),
    pageBlock p = some b ∧ p < 0x400 ∧ judge s m p R.INJECT 8 v = .ok ∧ k ∈ pageDetectors b ∧ bitOf v k = true ∧ ((fld s p F.INJECT_MODE_MODE ≤ 1 ∨ fld s p F.INJECT_MODE_COUNT ≠ 0))) :=
  ⟨⟨setReg 0x240 0x100 9 w0, 0, 0x240, 0#64, .hpc, by decide +kernel⟩,
   ⟨wOn 0x13 w0, 0, 0x13, 1#64, .spr, by decide +kernel⟩,
   ⟨wRef 0 2 60 60, 0, 0#64, by decide +kernel⟩,
   ⟨w0, 0, 0x10, 0x30#64, .spr, 5, by decide +kernel⟩⟩

theorem test_witness_PageHeaderCommands_5 :
    (∃ (s : State) (m : Nat) (p : Nat) (v : Word) (b : Block) (k : Nat),
    pageBlock p = some b ∧ p < 0x400 ∧ judge s m p R.INJECT 8 v = .ok ∧ k ∈ pageDetectors b ∧ bitOf v k = true ∧ ((fld s p F.INJECT_MODE_MODE ≤ 1 ∨ fld s p F.INJECT_MODE_COUNT ≠ 0))) ∧
    (∃ (s : State) (m : Nat) (p : Nat) (v : Word),
    judge s m p R.INJECT_MODE 8 (v ||| 4#64) = .ok ∧ p < 0x400) ∧
    (∃ (s : State) (m : Nat) (p : Nat) (v : Word),
    judge s m p R.STICKY_EVT_EN 8 v = .ok ∧ p < 0x400) ∧
    (∃ (s : State) (p : Nat) (k : Nat) (b : Block),
    pageBlock p = some b ∧ ¬ eventPage p ∧ ownPoint b k = false ∧ countsRetry b k = false ∧ pageGated s p = false ∧ armedNow s p k = true ∧ k < 64) :=
  ⟨⟨setReg 0x3A3 R.INJECT_MODE 0x30002 w0, 0, 0x3A3, 0x30#64, .fld, 5, by decide +kernel⟩,
   ⟨{ w0 with armed := [⟨0x10, 5, .persistent, 0⟩] }, 0, 0x10, 0#64, by decide +kernel⟩,
   ⟨setReg 0x12 R.STICKY 0x70 w0, 0, 0x12, 0x30#64, by decide +kernel⟩,
   ⟨{ w0 with armed := [⟨0x330, S.TBS_SRC_LOST, .once, 0⟩] }, 0x330, S.TBS_SRC_LOST, .tbs, by decide +kernel⟩⟩

theorem test_witness_PageHeaderCommands_6 :
    (∃ (s : State) (p : Nat) (k : Nat) (b : Block),
    pageBlock p = some b ∧ ¬ eventPage p ∧ ownPoint b k = false ∧ countsRetry b k = false ∧ pageGated s p = false ∧ armedNow s p k = true ∧ k < 64) ∧
    (∃ (s : State) (p : Nat) (k : Nat) (b : Block),
    pageBlock p = some b ∧ ownPoint b k = false ∧ countsRetry b k = true ∧ pageGated s p = false ∧ armedNow s p k = true ∧ k < 64) ∧
    (∃ (s : State) (m : Nat) (p : Nat) (off : Nat) (v : Word) (x : Word) (c : Instr),
    p < 0x600 ∧ (c, off, x) ∈ [(.pageEnable m p v, R.PAGE_CTRL, v), (.pageDebug m p v, R.PAGE_CTRL, v ||| 4#64), (.softReset m p v, R.PAGE_CTRL, v ||| 2#64), (.inject m p v, R.INJECT, v), (.disarm m p v, R.INJECT_MODE, v ||| 4#64), (.stickyEvtEn m p v, R.STICKY_EVT_EN, v)]) ∧
    (∃ (s : State) (m : Nat) (p : Nat) (off : Nat) (v : Word) (x : Word) (c : Instr),
    p < 0x600 ∧ (c, off, x) ∈ [(.pageEnable m p v, R.PAGE_CTRL, v), (.pageDebug m p v, R.PAGE_CTRL, v ||| 4#64), (.softReset m p v, R.PAGE_CTRL, v ||| 2#64), (.inject m p v, R.INJECT, v), (.disarm m p v, R.INJECT_MODE, v ||| 4#64), (.stickyEvtEn m p v, R.STICKY_EVT_EN, v)]) :=
  ⟨⟨{ w0 with armed := [⟨0x330, S.TBS_SRC_LOST, .count, 3⟩] }, 0x330, S.TBS_SRC_LOST, .tbs, by decide +kernel⟩,
   ⟨{ w0 with armed := [⟨0x10, S.SPR_RETRAIN, .persistent, 0⟩] }, 0x10, S.SPR_RETRAIN, .spr, by decide +kernel⟩,
   ⟨setFld 0x13 F.WRITE_LOCK_LOCKED 1 w0, 0, 0x13, R.INJECT, 3#64, 3#64, .inject 0 0x13 3#64, by decide +kernel⟩,
   ⟨setReg 0x3F0 R.PWR_DOMAIN_STATUS 0xFFDFFF w0, 0, 0x10, R.INJECT_MODE, 0#64, 4#64, .disarm 0 0x10 0#64, by decide +kernel⟩⟩

theorem test_witness_PageHeaderCommands_7 :
    (∃ (s : State) (p : Nat) (k : Nat),
    armedNow s p k = false) ∧
    (∃ (s : State) (p : Nat) (k : Nat) (b : Block),
    pageBlock p = some b ∧ ((ownPoint b k = true ∨ pageGated s p = true ∨ s.armed.all (fun a => !decide (a.page = p ∧ a.bit = k)) = true))) :=
  ⟨⟨{ w0 with armed := [⟨0x330, S.TBS_SRC_LOST, .count, 0⟩] }, 0x330, S.TBS_SRC_LOST, by decide +kernel⟩,
   ⟨{ w0 with armed := [⟨0x13, 6, .once, 0⟩] }, 0x13, 7, .spr, by decide +kernel⟩⟩

theorem test_witness_HostWindowsAndReset :
    (∃ (s : State) (addr : Nat) (a : Nat) (bytes : List Byte),
    a = fld s 0x3F2 F.PCI_BAR2_BASE_BASE + addr ∧ pageGated s 0x3F2 = false ∧ addr + bytes.length ≤ 64 * 2 ^ 30 ∧ bytes ≠ [] ∧ unarmed s 0x3F2 ∧ unarmed s (hbmPage (stackOf a)) ∧ stackHolds s (stackOf a) = false ∧ stackHolds s (stackOf (a + bytes.length - 1)) = false ∧ hbmRefuses s a bytes.length = false ∧ fenceHit s a bytes.length = none ∧ ((∀ k, k < bytes.length → hbmReserved (a + k) = false ∧ rowFenced s (a + k) = false))) ∧
    (∃ (s : State) (addr : Nat) (a : Nat) (len : Nat),
    a = fld s 0x3F2 F.PCI_BAR2_BASE_BASE + addr ∧ pageGated s 0x3F2 = false ∧ addr + len ≤ 64 * 2 ^ 30 ∧ 0 < len ∧ unarmed s 0x3F2 ∧ unarmed s (hbmPage (stackOf a)) ∧ stackHolds s (stackOf a) = false ∧ stackHolds s (stackOf (a + len - 1)) = false ∧ hbmRefuses s a len = false ∧ badWords s a len = [] ∧ ((∀ k, k < len → hbmReserved (a + k) = false))) ∧
    (∃ (s : State) (speed : Nat) (width : Nat) (l0 : Bool),
    pageGated s 0x3F2 = false ∧ speed < 16 ∧ width < 32 ∧ unarmed s 0x3F2) ∧
    (∃ (s : State) (speed : Nat) (width : Nat) (l0 : Bool),
    pageGated s 0x3F2 = false ∧ speed < 16 ∧ width < 32 ∧ unarmed s 0x3F2) :=
  ⟨⟨setFld 0x231 F.HBM_STATUS_STATE 2 (setFld 0x3F2 F.PCI_BAR2_BASE_BASE 68719476736 (wHbm {})), 5, _, [7, 8, 9], rfl, by decide +kernel⟩,
   ⟨setFld 0x3F2 F.PCI_BAR2_BASE_BASE 4 (memPut 8 4 77 (wHbm {})), 4, _, 3, rfl, by decide +kernel⟩,
   ⟨setFld 0x3F2 F.PCI_LINK_L0 1 w0, 5, 16, true, by decide +kernel⟩,
   ⟨setFld 0x3F2 F.PCI_LINK_L0 1 w0, 0, 0, false, by decide +kernel⟩⟩

theorem test_witness_CommandOperations_1 : ∃ (s : State) (u : State) (p : Nat) (bytes : List Byte),
    cmdAccepted (runCmd p 64 s) bytes = true ∧ exec (.command p bytes true) s = .next u ∧ p < 2 ∧ pageLive s (mgmtPage p) = true ∧ unarmed (runCmd p 64 s) (mgmtPage p) :=
  by
  obtain ⟨u, h⟩ := wCommand_held
  exact ⟨wCommand, u, 1, wCmdBytes, wCommand_runs, h, by decide +kernel⟩

theorem test_witness_CommandOperations_2 :
    (∃ (s : State) (p : Nat) (bytes : List Byte) (held : Bool),
    p < 2 ∧ pageLive s (mgmtPage p) = true ∧ sparseFind s.cmd.runs p = none ∧ cmdAccepted s bytes = false) ∧
    (∃ (s : State) (p : Nat) (bytes : List Byte),
    cmdAccepted s bytes = true ∧ p < 2 ∧ pageLive s (mgmtPage p) = true ∧ sparseFind s.cmd.runs p = none ∧ unarmed s (mgmtPage p)) ∧
    (∃ (s : State) (p : Nat) (r : CmdRun) (o : CmdOp) (l : List CmdOp),
    sparseFind s.cmd.runs p = some r ∧ r.rest = o :: l ∧ l ≠ [] ∧ o.op = 1 ∧ o.off < 0x1000 ∧ o.off % 8 = 0 ∧ o.page < 0x400 ∧ pageGated s o.page = false ∧ unarmed s 0x3F2) ∧
    (∃ (s : State) (p : Nat) (r : CmdRun) (o : CmdOp),
    sparseFind s.cmd.runs p = some r ∧ r.rest = [o] ∧ o.op = 1 ∧ o.off < 0x1000 ∧ o.off % 8 = 0 ∧ o.page < 0x400 ∧ pageGated s o.page = false ∧ unarmed s 0x3F2) :=
  ⟨⟨wOn 0x314 w0, 0, [0x54, 0x5A], true, by decide +kernel⟩,
   ⟨wCommand, 1, wCmdBytes, wCommand_accepted, by decide +kernel⟩,
   ⟨{ w0 with cmd := { runs := [(0, ⟨true, 0, 0, [], [⟨0x12, R.PAGE_CTRL, 1, 0, 0⟩, ⟨0x12, 0, 1, 0, 0⟩], [(0, 9)], []⟩)] } }, 0, ⟨true, 0, 0, [], [⟨0x12, R.PAGE_CTRL, 1, 0, 0⟩, ⟨0x12, 0, 1, 0, 0⟩], [(0, 9)], []⟩, ⟨0x12, R.PAGE_CTRL, 1, 0, 0⟩, [⟨0x12, 0, 1, 0, 0⟩], by decide +kernel⟩,
   ⟨{ w0 with cmd := { runs := [(0, ⟨true, 0, 0, [], [⟨0x12, R.PAGE_CTRL, 1, 0, 0⟩], [(0, 9)], []⟩)] } }, 0, ⟨true, 0, 0, [], [⟨0x12, R.PAGE_CTRL, 1, 0, 0⟩], [(0, 9)], []⟩, ⟨0x12, R.PAGE_CTRL, 1, 0, 0⟩, by decide +kernel⟩⟩

theorem test_witness_CommandOperations_3 :
    (∃ (s : State) (u : State) (p : Nat) (r : CmdRun) (o : CmdOp) (l : List CmdOp) (v : Word),
    u = acceptedWrite (3 + p) o.page o.off v (regWrite (3 + p) o.page o.off 8 v) (arriveWrite .ok (3 + p) o.page o.off s) ∧ sparseFind s.cmd.runs p = some r ∧ r.rest = o :: l ∧ l ≠ [] ∧ o.off < 0x1000 ∧ ((o.op = 2 ∧ v = o.value ∨ o.op = 3 ∧ v = maskedWord s o.page o.off o.mask o.value)) ∧ judge s (3 + p) o.page o.off 8 v = .ok ∧ sparseFind u.cmd.runs p = some r ∧ u.wst = 0) ∧
    (∃ (s : State) (p : Nat) (r : CmdRun) (o : CmdOp) (l : List CmdOp),
    sparseFind s.cmd.runs p = some r ∧ r.rest = o :: l ∧ l ≠ [] ∧ o.op = 2 ∧ o.off = R.STICKY ∧ o.page < 0x400 ∧ judge s (3 + p) o.page o.off 8 o.value = .ok) ∧
    (∃ (s : State) (p : Nat) (r : CmdRun) (o : CmdOp) (l : List CmdOp),
    sparseFind s.cmd.runs p = some r ∧ r.rest = o :: l ∧ l ≠ [] ∧ o.op = 3 ∧ o.off = R.STICKY_EVT_EN ∧ o.page < 0x400 ∧ ¬ eventPage o.page ∧ judge s (3 + p) o.page o.off 8 ((o.value &&& o.mask) ||| (reg s o.page R.STICKY_EVT_EN &&& ~~~ o.mask)) = .ok) :=
  ⟨⟨{ w0 with cmd := { runs := [(1, ⟨true, 0, 0, [], [⟨0x13, R.SPR_CFG, 2, 0, 0⟩, ⟨0x12, 0, 1, 0, 0⟩], [], []⟩)] } }, _, 1, ⟨true, 0, 0, [], [⟨0x13, R.SPR_CFG, 2, 0, 0⟩, ⟨0x12, 0, 1, 0, 0⟩], [], []⟩, ⟨0x13, R.SPR_CFG, 2, 0, 0⟩, [⟨0x12, 0, 1, 0, 0⟩], 0#64, rfl, by decide +kernel⟩,
   ⟨setReg 0x12 R.STICKY 0x70 { w0 with cmd := { runs := [(1, ⟨true, 0, 0, [], [⟨0x12, R.STICKY, 2, 0, 0x30⟩, ⟨0x12, 0, 1, 0, 0⟩], [], []⟩)] } }, 1, ⟨true, 0, 0, [], [⟨0x12, R.STICKY, 2, 0, 0x30⟩, ⟨0x12, 0, 1, 0, 0⟩], [], []⟩, ⟨0x12, R.STICKY, 2, 0, 0x30⟩, [⟨0x12, 0, 1, 0, 0⟩], by decide +kernel⟩,
   ⟨setReg 0x12 R.STICKY_EVT_EN 0x70 { w0 with cmd := { runs := [(1, ⟨true, 0, 0, [], [⟨0x12, R.STICKY_EVT_EN, 3, 0x30, 0x10⟩, ⟨0x12, 0, 1, 0, 0⟩], [], []⟩)] } }, 1, ⟨true, 0, 0, [], [⟨0x12, R.STICKY_EVT_EN, 3, 0x30, 0x10⟩, ⟨0x12, 0, 1, 0, 0⟩], [], []⟩, ⟨0x12, R.STICKY_EVT_EN, 3, 0x30, 0x10⟩, [⟨0x12, 0, 1, 0, 0⟩], by decide +kernel⟩⟩

theorem test_witness_SpurTraining_1 :
    (∃ (s : State) (n : Nat) (fr : RxFrame) (inv : Bool) (eq : EqInput),
    n < 64 ∧ pageLive s (sprPage n) = true ∧ unarmed s (sprPage n) ∧ fr.fec = 0 ∧ rxIsTrain fr = true ∧ (sprLane s n).st = .lock ∧ (sprLane s n).good = 3 ∧ (sprLane s n).goodInv = inv ∧ bitOf (sprLane s n).cfg 4 = false ∧ (sprLane s n).polKnown = false ∧ (sprLane s n).stepping = none) ∧
    (∃ (s : State) (n : Nat) (fr : RxFrame) (inv : Bool) (eq : EqInput),
    n < 64 ∧ pageLive s (sprPage n) = true ∧ unarmed s (sprPage n) ∧ fr.fec ≠ 2 ∧ (sprLane s n).st = .lock ∧ bitOf (sprLane s n).cfg 4 = false ∧ (sprLane s n).polKnown = false ∧ (sprLane s n).stepping = none ∧ (sprLane s n).good < 3) ∧
    (∃ (s : State) (n : Nat) (fr : RxFrame) (inv : Bool) (eq : EqInput) (c : Instr),
    c ∈ [.trainFrame (.spur n) fr inv eq, .dataFrame n fr, .idleFrame n fr, .mgmtFrame n fr] ∧ ((pageLive s (sprPage n) = false ∨ (sprLane s n).st = .down ∨ (sprLane s n).st = .retired))) ∧
    (∃ (s : State) (n : Nat) (fr : RxFrame) (inv : Bool) (eq : EqInput) (c : Instr),
    c ∈ [.trainFrame (.spur n) fr inv eq, .dataFrame n fr, .idleFrame n fr, .mgmtFrame n fr] ∧ ((pageLive s (sprPage n) = false ∨ (sprLane s n).st = .down ∨ (sprLane s n).st = .retired))) :=
  ⟨⟨wLane 3 { st := .lock, good := 3 }, 3, wTrain, false, ⟨false, 0⟩, by decide +kernel⟩,
   ⟨wLane 3 { st := .lock, good := 1 }, 3, wTrain, false, ⟨false, 0⟩, by decide +kernel⟩,
   ⟨wLane 3 { st := .down }, 3, wTrain, false, ⟨false, 0⟩, .mgmtFrame 3 wTrain, by decide +kernel⟩,
   ⟨wLane 3 { st := .retired }, 3, wTrain, false, ⟨false, 0⟩, .trainFrame (.spur 3) wTrain false ⟨false, 0⟩, by decide +kernel⟩⟩

theorem test_witness_SpurTraining_2 :
    (∃ (s : State) (n : Nat) (fr : RxFrame) (inv : Bool) (eq : EqInput),
    pageLive s (sprPage n) = true ∧ (sprLane s n).st ≠ .run ∧ (sprLane s n).st ≠ .down ∧ (sprLane s n).st ≠ .retired) ∧
    (∃ (s : State) (n : Nat) (fr : RxFrame) (inv : Bool) (eq : EqInput),
    n < 64 ∧ pageLive s (sprPage n) = true ∧ unarmed s (sprPage n) ∧ fr.fec ≠ 2 ∧ (sprLane s n).st = .ready ∧ 16 ≤ (sprLane s n).readySent ∧ (sprLane s n).readyGot = true ∧ inBundle (sprLane s n) = false) ∧
    (∃ (s : State) (n : Nat) (r : Nat) (at0 : Nat),
    n < 64 ∧ unarmed s (sprPage n) ∧ (sprLane s n).st = .lock ∧ (sprLane s n).switched = some (r, at0)) ∧
    (∃ (s : State) (n : Nat),
    n < 64 ∧ inFullTraining (sprLane s n) = true) :=
  ⟨⟨wLane 3 { st := .identify }, 3, wTrain, false, ⟨false, 0⟩, by decide +kernel⟩,
   ⟨wLane 3 { st := .ready, readySent := 16, readyGot := true }, 3, wTrain, false, ⟨false, 0⟩, by decide +kernel⟩,
   ⟨wLane 3 { st := .lock, rate := 1, switched := some (0, 0) }, 3, 0, 0, by decide +kernel⟩,
   ⟨wLane 3 { st := .tune, rate := 2 }, 3, by decide +kernel⟩⟩

theorem test_witness_SpurTraining_3 :
    (∃ (s : State) (n : Nat),
    n < 64 ∧ inFastRetrain (sprLane s n) = true ∧ fieldOf (reg s (sprPage n) R.RETRY_CFG) 32 16 = 0) ∧
    (∃ (s : State) (n : Nat),
    n < 64 ∧ inFastRetrain (sprLane s n) = true ∧ bitOf (reg s (sprPage n) R.SPR_CFG) 2 = false ∧ fieldOf (reg s (sprPage n) R.RETRY_CFG) 32 16 ≠ 0 ∧ fieldOf (reg s (sprPage n) R.RETRY_CFG) 32 16 ≤ (retryInWindow s (sprPage n)).length + 1) :=
  ⟨⟨setReg 0x13 R.RETRY_CFG 0 (wLane 3 { st := .retrain, rate := 2, fast := true }), 3, by decide +kernel⟩,
   ⟨setReg 0x13 R.RETRY_CFG (60000 + 2 ^ 32) (wLane 3 { st := .retrain, rate := 2, fast := true }), 3, by decide +kernel⟩⟩

theorem test_witness_SpurFramesInRun_1 :
    (∃ (s : State) (n : Nat) (fr : RxFrame),
    n < 64 ∧ pageLive s (sprPage n) = true ∧ unarmed s (sprPage n) ∧ (sprLane s n).st = .run ∧ rxBad fr = true ∧ (sprLane s n).bad + 1 < 4 ∧ (recentUnc s (sprLane s n)).length + 1 ≤ fieldOf (sprLane s n).cfg 16 8) ∧
    (∃ (s : State) (n : Nat) (fr : RxFrame),
    n < 64 ∧ pageLive s (sprPage n) = true ∧ unarmed s (sprPage n) ∧ (sprLane s n).st = .run ∧ rxBad fr = true ∧ (sprLane s n).bad + 1 < 4 ∧ (recentUnc s (sprLane s n)).length + 1 ≤ fieldOf (sprLane s n).cfg 16 8) ∧
    (∃ (s : State) (n : Nat) (fr : RxFrame),
    n < 64 ∧ pageLive s (sprPage n) = true ∧ unarmed s (sprPage n) ∧ (sprLane s n).st = .run ∧ rxBad fr = true ∧ (sprLane s n).bad = 3 ∧ inBundle (sprLane s n) = false ∧ fieldOf (reg s (sprPage n) R.RETRY_CFG) 32 16 = 0) ∧
    (∃ (s : State) (n : Nat) (fr : RxFrame),
    n < 64 ∧ pageLive s (sprPage n) = true ∧ unarmed s (sprPage n) ∧ (sprLane s n).st = .run ∧ rxBad fr = false ∧ rxKind fr = 1 ∧ inBundle (sprLane s n) = false) :=
  ⟨⟨wLane 3 { st := .run, bad := 1, cfg := 0x100000, part := [1] }, 3, ⟨2, 1020, []⟩, by decide +kernel⟩,
   ⟨wLane 3 { st := .run, bad := 1, cfg := 0x100000, part := [1] }, 3, ⟨0, 800, []⟩, by decide +kernel⟩,
   ⟨setReg 0x13 R.RETRY_CFG 0 (wLane 3 { st := .run, bad := 3, rate := 2, cfg := 0x100000, part := [1] }), 3, ⟨2, 1021, []⟩, by decide +kernel⟩,
   ⟨wLane 3 { st := .run, bad := 3, rate := 2, part := [1], inSync := true }, 3, ⟨0, 1021 + 5 * 1024, []⟩, by decide +kernel⟩⟩

theorem test_witness_SpurFramesInRun_2 :
    (∃ (s : State) (n : Nat) (e : Nat) (x : Nat) (k : Nat) (fr : RxFrame) (b : List Byte),
    n < 64 ∧ pageLive s (sprPage n) = true ∧ unarmed s (sprPage n) ∧ (sprLane s n).st = .run ∧ rxBad fr = false ∧ rxKind fr = 0 ∧ inBundle (sprLane s n) = false ∧ readFrame false fr { sprLane s n with bad := 0, frameNo := (sprLane s n).frameNo + (rxFseq fr + 256 - (sprLane s n).frameNo % 256) % 256, peerEcho := rxEcho fr } = ⟨true, [], k, [(k, b)], 0⟩ ∧ crcGood (blockHeader b) b = true ∧ laneEntry s n (blockHeader b).stream = some e ∧ stFormat s e = (blockHeader b).format ∧ pageLive s (rchPage n) = true ∧ unarmed s (rchPage n) ∧ rchBlocks (rchQueue s n) < 256 ∧ stExpect s e = some x ∧ x ≤ (blockHeader b).index) ∧
    (∃ (s : State) (n : Nat) (e : Nat) (x : Nat) (k : Nat) (fr : RxFrame) (b : List Byte),
    n < 64 ∧ pageLive s (sprPage n) = true ∧ unarmed s (sprPage n) ∧ (sprLane s n).st = .run ∧ rxBad fr = false ∧ rxKind fr = 0 ∧ inBundle (sprLane s n) = false ∧ readFrame false fr { sprLane s n with bad := 0, frameNo := (sprLane s n).frameNo + (rxFseq fr + 256 - (sprLane s n).frameNo % 256) % 256, peerEcho := rxEcho fr } = ⟨true, [], k, [(k, b)], 0⟩ ∧ crcGood (blockHeader b) b = true ∧ laneEntry s n (blockHeader b).stream = some e ∧ stFormat s e = (blockHeader b).format ∧ pageLive s (rchPage n) = true ∧ stExpect s e = some x ∧ (blockHeader b).index < x) ∧
    (∃ (s : State) (n : Nat) (k : Nat) (fr : RxFrame) (b : List Byte),
    n < 64 ∧ pageLive s (sprPage n) = true ∧ unarmed s (sprPage n) ∧ (sprLane s n).st = .run ∧ rxBad fr = false ∧ rxKind fr = 0 ∧ inBundle (sprLane s n) = false ∧ readFrame false fr { sprLane s n with bad := 0, frameNo := (sprLane s n).frameNo + (rxFseq fr + 256 - (sprLane s n).frameNo % 256) % 256, peerEcho := rxEcho fr } = ⟨true, [], k, [(k, b)], 0⟩ ∧ crcGood (blockHeader b) b = true ∧ laneEntry s n (blockHeader b).stream = none) ∧
    (∃ (s : State) (n : Nat) (fr : RxFrame) (c : Instr),
    c ∈ [.dataFrame n fr, .idleFrame n fr, .mgmtFrame n fr] ∧ pageLive s (sprPage n) = true ∧ (sprLane s n).st = .run) :=
  ⟨⟨wStream 90, 3, 7, 90, 0, wDataFrame, wBlock, by decide +kernel⟩,
   ⟨wStream 101, 3, 7, 101, 0, wDataFrame, wBlock, by decide +kernel⟩,
   ⟨{ wStream 101 with spr := { (wStream 101).spr with streams := [] } }, 3, 0, wDataFrame, wBlock, by decide +kernel⟩,
   ⟨wStream 90, 3, wDataFrame, .dataFrame 3 wDataFrame, by decide +kernel⟩⟩

theorem test_witness_SpurMessages_1 :
    (∃ (s : State) (m : Nat) (n : Nat) (via : Nat) (v : Word),
    n < 64 ∧ judge s m (sprPage n) R.SPR_SYNC_CMD 8 (v ||| 0x10000#64) = .ok ∧ messageLane s n = some via ∧ fieldOf v 8 8 = 1) ∧
    (∃ (s : State) (m : Nat) (n : Nat) (via : Nat) (v : Word),
    n < 64 ∧ judge s m (sprPage n) R.SPR_SYNC_CMD 8 (v ||| 0x10000#64) = .ok ∧ messageLane s n = some via ∧ fieldOf v 8 8 = 3) ∧
    (∃ (s : State) (m : Nat) (n : Nat) (v : Word),
    n < 64 ∧ judge s m (sprPage n) R.SPR_SYNC_CMD 8 (v ||| 0x10000#64) = .ok ∧ messageLane s n = none) ∧
    (∃ (s : State) (n : Nat) (seq : Nat) (st : Nat),
    n < 64 ∧ (sprLane s n).st = .run ∧ pageLive s (sprPage n) = true ∧ flag s (sprPage n) F.SPR_SYNC_CMD_PENDING = true ∧ (sprLane s n).pendSeq = seq ∧ st ≠ 1) :=
  ⟨⟨wLane 3 { st := .run, txMsg := 9 }, 0, 3, 3, 0x105#64, by decide +kernel⟩,
   ⟨wLane 3 { st := .run, txMsg := 9 }, 0, 3, 3, 0x300#64, by decide +kernel⟩,
   ⟨wLane 3 { st := .lock }, 0, 3, 0x105#64, by decide +kernel⟩,
   ⟨setReg 0x13 R.SPR_SYNC_CMD 0x9020105 (wLane 3 { st := .run, syncTrig := some (5, 0), pendSeq := 9 }), 3, 9, 0, by decide +kernel⟩⟩

theorem test_witness_SpurMessages_2 :
    (∃ (s : State) (n : Nat) (seq : Nat) (st : Nat),
    (((sprLane s n).st ≠ .run ∨ pageLive s (sprPage n) = false ∨ ((flag s (sprPage n) F.SPR_SYNC_CMD_PENDING = false ∨ (sprLane s n).pendSeq ≠ seq) ∧ inBundle (sprLane s n) = false)))) ∧
    (∃ (s : State) (m : Nat) (n : Nat) (v : Word),
    n < 64 ∧ judge s m (sprPage n) R.SPR_SYNC_CMD 8 (v ||| 0x10000#64) = .ok ∧ fieldOf v 8 8 ≠ 1 ∧ fieldOf v 8 8 ≠ 3) ∧
    (∃ (s : State) (n : Nat) (seq : Nat),
    n < 64 ∧ (sprLane s n).st = .run ∧ pageLive s (sprPage n) = true ∧ flag s (sprPage n) F.SPR_SYNC_CMD_PENDING = true ∧ (sprLane s n).pendSeq = seq) ∧
    (∃ (s : State) (n : Nat),
    n < 64 ∧ flag s (sprPage n) F.SPR_SYNC_CMD_PENDING = true) :=
  ⟨⟨wLane 3 { st := .run }, 3, 9, 0, by decide +kernel⟩,
   ⟨wLane 3 { st := .run }, 0, 3, 0x205#64, by decide +kernel⟩,
   ⟨setReg 0x13 R.SPR_SYNC_CMD 0x9020105 (wLane 3 { st := .run, syncTrig := some (5, 0), pendSeq := 9 }), 3, 9, by decide +kernel⟩,
   ⟨setReg 0x13 R.SPR_SYNC_CMD 0x9020105 (wLane 3 { st := .run }), 3, by decide +kernel⟩⟩

theorem test_witness_SpurMessages_3 :
    (∃ (s : State) (n : Nat) (arg : Nat),
    n < 64 ∧ (sprLane s n).st = .run ∧ pageLive s (sprPage n) = true) ∧
    (∃ (s : State) (n : Nat) (fr : RxFrame),
    n < 64 ∧ pageLive s (sprPage n) = true ∧ unarmed s (sprPage n) ∧ (sprLane s n).st = .run ∧ rxBad fr = false ∧ rxKind fr = 3 ∧ inBundle (sprLane s n) = false ∧ byteAt fr.data 0 = 0x82 ∧ byteAt fr.data 32 = 0) ∧
    (∃ (s : State) (n : Nat) (fr : RxFrame),
    n < 64 ∧ pageLive s (sprPage n) = true ∧ unarmed s (sprPage n) ∧ (sprLane s n).st = .run ∧ rxBad fr = false ∧ rxKind fr = 3 ∧ inBundle (sprLane s n) = false ∧ byteAt fr.data 0 = 0x81 ∧ byteAt fr.data 32 = 0 ∧ flag s (sprPage n) F.SPR_SYNC_CMD_PENDING = true ∧ (sprLane s n).pendSeq = byteAt fr.data 4) :=
  ⟨⟨wLane 3 { st := .run }, 3, 77, by decide +kernel⟩,
   ⟨wLane 3 { st := .run }, 3, ⟨0, 1023, [0x82, 4, 0, 0, 0x44, 0x33, 0x22, 0x11]⟩, by decide +kernel⟩,
   ⟨setReg 0x13 R.SPR_SYNC_CMD 0x9020105 (wLane 3 { st := .run, syncTrig := some (5, 0), pendSeq := 9 }), 3, ⟨0, 1023, [0x81, 4, 0, 0, 9, 1, 0, 0]⟩, by decide +kernel⟩⟩

theorem test_witness_StreamTable :
    (∃ (s : State) (m : Nat) (n : Nat) (v : Word),
    n < 64 ∧ judge s m (sprPage n) R.SPR_ST_CTRL 8 (v ||| 1#64) = .ok ∧ bitOf v 1 = false) ∧
    (∃ (s : State) (m : Nat) (n : Nat) (k : Nat) (v : Word),
    n < 64 ∧ judge s m (sprPage n) R.SPR_ST_CTRL 8 (v ||| 2#64) = .ok ∧ bitOf v 0 = false ∧ k = fld s (sprPage n) F.SPR_ST_ADDR_ENTRY ∧ stResult s n k (stWritten s (sprPage n)) ≠ 0) ∧
    (∃ (s : State) (m : Nat) (n : Nat) (k : Nat) (v : Word),
    n < 64 ∧ judge s m (sprPage n) R.SPR_ST_CTRL 8 (v ||| 2#64) = .ok ∧ bitOf v 0 = false ∧ k = fld s (sprPage n) F.SPR_ST_ADDR_ENTRY ∧ stResult s n k (stWritten s (sprPage n)) = 0) :=
  ⟨⟨wStream 90, 0, 3, 0#64, by decide +kernel⟩,
   ⟨setReg 0x13 R.SPR_ST_DATA 1 (wStream 90), 0, 3, 0, 0#64, by decide +kernel⟩,
   ⟨setReg 0x13 (R.SPR_ST_DATA + 8) (1000000 + 2 ^ 40) (setReg 0x13 R.SPR_ST_DATA (1 + 3 * 4 + 6 * 1024 + 4 * 2 ^ 26 + 2 ^ 30) (wStream 90)), 0, 3, 0, 0#64, by decide +kernel⟩⟩

theorem test_witness_RoughingEngines_1 :
    (∃ (s : State) (e : Nat) (b : RchBlock) (q : List RchBlock),
    e < 64 ∧ pageLive s (rchPage e) = true ∧ unarmed s (rchPage e) ∧ rchQueue s e = b :: q) ∧
    (∃ (s : State) (e : Nat) (ecc : Nat) (p : Nat) (b : RchBlock) (q : List RchBlock) (x : RchStream) (y : RchStream) (r : List FplOut × Nat × RchStream),
    (y = (if ecc = 2 ∧ (rchStream s b.stream).started = true then { rchStream s b.stream with late := 2 } else rchStream s b.stream)) ∧ x = takeBlock (presetD p) (presetN p) b y ∧ r = produce p (roughWeights p) (b.count + presetG p + 1) x ∧ e < 64 ∧ pageLive s (rchPage e) = true ∧ unarmed s (rchPage e) ∧ rchQueue s e = b :: q ∧ stValid s b.stream = true ∧ stPreset s b.stream = p) ∧
    (∃ (s : State) (e : Nat) (ecc : Nat) (p : Nat) (b : RchBlock) (q : List RchBlock) (x : RchStream) (y : RchStream) (r : List FplOut × Nat × RchStream),
    (y = (if ecc = 2 ∧ (rchStream s b.stream).started = true then { rchStream s b.stream with late := 2 } else rchStream s b.stream)) ∧ x = takeBlock (presetD p) (presetN p) b y ∧ r = produce p (roughWeights p) (b.count + presetG p + 1) x ∧ e < 64 ∧ pageLive s (rchPage e) = true ∧ unarmed s (rchPage e) ∧ rchQueue s e = b :: q ∧ stValid s b.stream = true ∧ stPreset s b.stream = p) ∧
    (∃ (s : State) (e : Nat) (ecc : Nat),
    ((pageLive s (rchPage e) = false ∨ rchQueue s e = []))) :=
  ⟨⟨{ wStream 90 with rch := { queue := [(3, [⟨7, 100, 1, false, [(5, 0)], true⟩])] } }, 3, ⟨7, 100, 1, false, [(5, 0)], true⟩, [], by decide +kernel⟩,
   ⟨{ wStream 90 with rch := { queue := [(3, [⟨7, 100, 1, false, [(5, 0)], true⟩])] } }, 3, 1, 1, ⟨7, 100, 1, false, [(5, 0)], true⟩, [], _, _, _, rfl, rfl, rfl, by decide +kernel⟩,
   ⟨{ wStream 90 with rch := { queue := [(3, [⟨7, 101, 2, true, [], false⟩])], streams := [(7, { started := true, base := 100, hist := [(1, 0)], next := 100, emitted := true })] } }, 3, 2, 1, ⟨7, 101, 2, true, [], false⟩, [], _, _, _, rfl, rfl, rfl, by decide +kernel⟩,
   ⟨wStream 90, 3, 1, by decide +kernel⟩⟩

theorem test_witness_RoughingEngines_2 :
    (∃ (s : State) (m : Nat) (e : Nat) (v : Word),
    e < 64 ∧ judge s m (rchPage e) R.RCH_CTRL 8 (v ||| 1#64) = .ok) ∧
    (∃ (s : State) (h : Nat) (e : Nat) (n : Nat) (r : Nat) (o : MarkOcc),
    r = ceilTo (resolveFor s n o.time) (stD s n) ∧ markOcc s h 7 = some o ∧ e ∈ bitsSet o.arg64 64 ∧ (engineStreams s e).count n = 1) ∧
    (∃ (s : State) (h : Nat) (e : Nat) (n : Nat) (r : Nat) (o : MarkOcc),
    r = ceilTo (resolveFor s n o.time) (stD s n) ∧ markOcc s h 7 = some o ∧ bitsSet o.arg64 64 = [e] ∧ engineStreams s e = [n] ∧ (((rchStream s n).started = false ∨ (rchStream s n).emitted = false ∨ (rchStream s n).next ≤ r)) ∧ s.mrk.done.length < 256) ∧
    (∃ (s : State) (h : Nat) (e : Nat) (n : Nat) (o : MarkOcc),
    e < 64 ∧ markOcc s h 7 = some o ∧ bitsSet o.arg64 64 = [e] ∧ engineStreams s e = [n] ∧ (rchStream s n).started = true ∧ (rchStream s n).emitted = true ∧ ceilTo (resolveFor s n o.time) (stD s n) < (rchStream s n).next ∧ s.mrk.done.length < 256) :=
  ⟨⟨{ wStream 90 with rch := { streams := [(7, { started := true, base := 100, hist := [(1, 0), (2, 0), (3, 0)], next := 98 })] } }, 0, 3, 0#64, by decide +kernel⟩,
   ⟨{ wStream 90 with mrk := wMark 6 10 7 (0x8C : Word) }, 6, 3, 7, _, ⟨6, 655360, false, false, 7, 0x8C, 0, 0, 0, 0, []⟩, rfl, by decide +kernel⟩,
   ⟨{ wStream 90 with mrk := wMark 6 10 7 (8 : Word) }, 6, 3, 7, _, ⟨6, 655360, false, false, 7, 8, 0, 0, 0, 0, []⟩, rfl, by decide +kernel⟩,
   ⟨{ wStream 90 with mrk := wMark 6 10 7 (8 : Word), rch := { streams := [(7, { started := true, base := 100, hist := [(1, 0)], next := 98, emitted := true })] } }, 6, 3, 7, ⟨6, 655360, false, false, 7, 8, 0, 0, 0, 0, []⟩, by decide +kernel⟩⟩

theorem test_witness_FaceplateBanks_1 :
    (∃ (s : State) (m : Nat) (f : Nat) (v : Word),
    f < 16 ∧ judge s m (fplPage f) R.FPL_COEF_DATA 8 v = .ok ∧ unarmed s (fplPage f) ∧ coefInUse s f (fld s (fplPage f) F.FPL_COEF_ADDR_BANK) = true) ∧
    (∃ (s : State) (m : Nat) (f : Nat) (v : Word),
    f < 16 ∧ judge s m (fplPage f) R.FPL_COEF_DATA 8 v = .ok ∧ unarmed s (fplPage f) ∧ coefInUse s f (fld s (fplPage f) F.FPL_COEF_ADDR_BANK) = false) ∧
    (∃ (s : State) (m : Nat) (f : Nat) (v : Word),
    f < 16 ∧ pageGated s (fplPage f) = false) ∧
    (∃ (s : State) (m : Nat) (f : Nat) (v : Word),
    f < 16 ∧ judge s m (fplPage f) R.FPL_GAIN_DATA 8 v = .ok ∧ unarmed s (fplPage f) ∧ gainInUse s f (fld s (fplPage f) F.FPL_GAIN_ADDR_BANK) = true) :=
  ⟨⟨wFpl { next := 1 }, 0, 1, 9#64, by decide +kernel⟩,
   ⟨setReg 0x91 0x118 0x300005 (wFpl { next := 1 }), 0, 1, 9#64, by decide +kernel⟩,
   ⟨setReg 0x91 0x118 0x300005 (wFpl { next := 1 }), 0, 1, 9#64, by decide +kernel⟩,
   ⟨wFpl { next := 1 }, 0, 1, 9#64, by decide +kernel⟩⟩

theorem test_witness_FaceplateBanks_2 :
    (∃ (s : State) (m : Nat) (f : Nat) (v : Word),
    f < 16 ∧ judge s m (fplPage f) R.FPL_GAIN_DATA 8 v = .ok ∧ unarmed s (fplPage f) ∧ gainInUse s f (fld s (fplPage f) F.FPL_GAIN_ADDR_BANK) = false) ∧
    (∃ (s : State) (m : Nat) (f : Nat) (v : Word),
    f < 16 ∧ pageGated s (fplPage f) = false) :=
  ⟨⟨setReg 0x91 0x128 0xC0005 (wFpl { next := 1 }), 0, 1, 9#64, by decide +kernel⟩,
   ⟨setReg 0x91 0x128 0xC0005 (wFpl { next := 1 }), 0, 1, 9#64, by decide +kernel⟩⟩

theorem test_witness_FaceplateTables_1 :
    (∃ (s : State) (m : Nat) (f : Nat) (v : Word),
    f < 16 ∧ judge s m (fplPage f) R.FPL_MAP_CTRL 8 (v ||| 1#64) = .ok ∧ bitOf v 1 = false) ∧
    (∃ (s : State) (m : Nat) (f : Nat) (j : Nat) (v : Word) (w : Word),
    j = fld s (fplPage f) F.FPL_MAP_ADDR_ENTRY ∧ w = mapWord0 (reg s (fplPage f) R.FPL_MAP_DATA) ∧ f < 16 ∧ judge s m (fplPage f) R.FPL_MAP_CTRL 8 (v ||| 2#64) = .ok ∧ bitOf v 0 = false ∧ mapResult s f j w ≠ 0) ∧
    (∃ (s : State) (m : Nat) (f : Nat) (j : Nat) (v : Word) (w : Word),
    j = fld s (fplPage f) F.FPL_MAP_ADDR_ENTRY ∧ w = mapWord0 (reg s (fplPage f) R.FPL_MAP_DATA) ∧ f < 16 ∧ judge s m (fplPage f) R.FPL_MAP_CTRL 8 (v ||| 2#64) = .ok ∧ bitOf v 0 = false ∧ mapResult s f j w = 0) ∧
    (∃ (s : State) (m : Nat) (f : Nat) (v : Word),
    f < 16 ∧ f % 4 = 0 ∧ judge s m (fplPage f) R.FPL_REGION_CTRL 8 (v ||| 1#64) = .ok ∧ bitOf v 1 = false) :=
  ⟨⟨wFpl { next := 1 }, 0, 1, 0#64, by decide +kernel⟩,
   ⟨setReg 0x91 R.FPL_MAP_DATA 15 (wFpl { next := 1 }), 0, 1, _, 0#64, _, rfl, rfl, by decide +kernel⟩,
   ⟨setReg 0x91 R.FPL_MAP_DATA 0x1800003 (wFpl { next := 1 }), 0, 1, _, 0#64, _, rfl, rfl, by decide +kernel⟩,
   ⟨wOn 0x94 (wFpl { next := 1 }), 0, 4, 0#64, by decide +kernel⟩⟩

theorem test_witness_FaceplateTables_2 :
    (∃ (s : State) (m : Nat) (f : Nat) (r : Nat) (v : Word) (w : Word),
    r = fld s (fplPage f) F.FPL_REGION_ADDR_REGION ∧ w = BitVec.ofNat 64 (fieldOf (reg s (fplPage f) R.FPL_REGION_DATA) 0 42) ∧ f < 16 ∧ f % 4 = 0 ∧ judge s m (fplPage f) R.FPL_REGION_CTRL 8 (v ||| 2#64) = .ok ∧ bitOf v 0 = false ∧ regionResult s (f / 4) r w (reg s (fplPage f) (R.FPL_REGION_DATA + 8)) ≠ 0) ∧
    (∃ (s : State) (m : Nat) (f : Nat) (r : Nat) (v : Word) (w : Word),
    r = fld s (fplPage f) F.FPL_REGION_ADDR_REGION ∧ w = BitVec.ofNat 64 (fieldOf (reg s (fplPage f) R.FPL_REGION_DATA) 0 42) ∧ f < 16 ∧ f % 4 = 0 ∧ judge s m (fplPage f) R.FPL_REGION_CTRL 8 (v ||| 2#64) = .ok ∧ bitOf v 0 = false ∧ regionResult s (f / 4) r w (reg s (fplPage f) (R.FPL_REGION_DATA + 8)) = 0) ∧
    (∃ (s : State) (m : Nat) (f : Nat) (v : Word),
    f < 16 ∧ f % 4 ≠ 0 ∧ judge s m (fplPage f) R.FPL_REGION_CTRL 8 (v ||| 2#64) = .ignored) :=
  ⟨⟨setReg 0x94 R.FPL_REGION_DATA 1 (wFpl { next := 1 }), 0, 4, _, 0#64, _, rfl, rfl, by decide +kernel⟩,
   ⟨setReg 0x94 R.FPL_REGION_ADDR 3 (setReg 0x94 R.FPL_REGION_DATA 0x1000200133 (setReg 0x94 (R.FPL_REGION_DATA + 8) 0x910000000 (wFpl { next := 1 }))), 0, 4, _, 0#64, _, rfl, rfl, by decide +kernel⟩,
   ⟨wFpl { next := 1 }, 0, 1, 0#64, by decide +kernel⟩⟩

theorem test_witness_FaceplateRequests_1 :
    (∃ (s : State) (m : Nat) (f : Nat) (n : Nat) (v : Word) (x : FplStream),
    x = fplTakeUp s f n ∧ f < 16 ∧ judge s m (fplPage f) R.FPL_SWAP 8 (v ||| 0x4000#64) = .ok ∧ bitOf v 15 = false ∧ (fplStreams s f).count n = 1 ∧ (fplStream s n).fade = none) ∧
    (∃ (s : State) (m : Nat) (f : Nat) (n : Nat) (v : Word) (x : FplStream),
    x = fplTakeUp s f n ∧ f < 16 ∧ judge s m (fplPage f) R.FPL_SWAP 8 (v ||| 0x4000#64) = .ok ∧ bitOf v 15 = false ∧ (fplStreams s f).count n = 1 ∧ (fplStream s n).fade = none) ∧
    (∃ (s : State) (m : Nat) (f : Nat) (n : Nat) (v : Word),
    f < 16 ∧ judge s m (fplPage f) R.FPL_SWAP 8 (v ||| 0x4000#64) = .ok ∧ bitOf v 15 = false ∧ (fplStreams s f).count n = 1 ∧ (fplStream s n).fade.isSome = true) ∧
    (∃ (s : State) (m : Nat) (f : Nat) (v : Word),
    f < 16 ∧ judge s m (fplPage f) R.FPL_SWAP 8 (v ||| 0x4000#64) = .ok ∧ bitOf v 15 = false ∧ fplStreams s f = []) :=
  ⟨⟨wFpl { next := 1 }, 0, 1, 7, 16#64, _, rfl, by decide +kernel⟩,
   ⟨wFpl {}, 0, 1, 7, 0x2010#64, _, rfl, by decide +kernel⟩,
   ⟨wFpl { next := 5, fade := some ⟨3, 16⟩, queued := some 4 }, 0, 1, 7, 16#64, by decide +kernel⟩,
   ⟨setReg 0x91 R.FPL_MAP_DATA 0 { wFpl {} with fpl := {} }, 0, 1, 16#64, by decide +kernel⟩⟩

theorem test_witness_FaceplateRequests_2 :
    (∃ (s : State) (m : Nat) (f : Nat) (n : Nat) (v : Word) (x : FplStream),
    x = fplTakeUp s f n ∧ f < 16 ∧ judge s m (fplPage f) R.FPL_SWAP 8 (v ||| 0x8000#64) = .ok ∧ bitOf v 14 = false ∧ (fplStreams s f).count n = 1) ∧
    (∃ (s : State) (m : Nat) (f : Nat) (n : Nat) (v : Word) (x : FplStream),
    x = fplTakeUp s f n ∧ f < 16 ∧ judge s m (fplPage f) R.FPL_MODEL_CTRL 8 (v ||| 1#64) = .ok ∧ (fplStreams s f).count n = 1) ∧
    (∃ (s : State) (h : Nat) (f : Nat) (n : Nat) (p : Nat) (o : MarkOcc) (x : FplStream) (al : Bool),
    x = fplTakeUp s f n ∧ al = flag s (fplPage f) F.FPL_SWAP_ALIGN_BATCH ∧ f < 16 ∧ markOcc s h 3 = some o ∧ o.arg64.testBit f = true ∧ (fplStreams s f).count n = 1 ∧ p = resolveSpectrum s f n o.time) ∧
    (∃ (s : State) (h : Nat) (f : Nat) (n : Nat) (p : Nat) (o : MarkOcc) (x : FplStream),
    x = fplTakeUp s f n ∧ f < 16 ∧ markOcc s h 4 = some o ∧ o.arg64.testBit f = true ∧ (fplStreams s f).count n = 1 ∧ p = resolveSpectrum s f n o.time) :=
  ⟨⟨wFpl { next := 1 }, 0, 1, 7, 1#64, _, rfl, by decide +kernel⟩,
   ⟨wFpl { next := 1 }, 0, 1, 7, 0#64, _, rfl, by decide +kernel⟩,
   ⟨{ wFpl { next := 1 } with mrk := wMark 6 10 3 (2 : Word) }, 6, 1, 7, 1, ⟨6, 655360, false, false, 3, 2, 0, 0, 0, 0, []⟩, _, _, rfl, rfl, by decide +kernel⟩,
   ⟨{ wFpl { next := 1 } with mrk := wMark 6 10 4 (2 : Word) }, 6, 1, 7, 1, ⟨6, 655360, false, false, 4, 2, 0, 0, 0, 0, []⟩, _, rfl, by decide +kernel⟩⟩

theorem test_witness_FaceplateRequests_3 : ∃ (s : State) (h : Nat) (f : Nat) (n : Nat) (p : Nat) (o : MarkOcc) (x : FplStream),
    x = fplTakeUp s f n ∧ f < 16 ∧ markOcc s h 5 = some o ∧ o.arg64.testBit f = true ∧ (fplStreams s f).count n = 1 ∧ p = resolveSpectrum s f n o.time :=
  ⟨{ wFpl { next := 9 } with mrk := wMark 6 10 5 (2 : Word) }, 6, 1, 7, 1, ⟨6, 655360, false, false, 5, 2, 0, 0, 0, 0, []⟩, _, rfl, by decide +kernel⟩

theorem test_witness_Spectra_1 :
    (∃ (s : State) (f : Nat) (n : Nat) (j : Nat) (w : Word),
    f < 16 ∧ pageLive s (fplPage f) = true ∧ fplTakes s f n = true ∧ mapOf s f n = some (j, w) ∧ unarmed s (fplPage f) ∧ gangSize s = 1 ∧ (fplStream s n).reqs = [] ∧ (fplStream s n).delayHeld = none ∧ (fplStream s n).running = true ∧ (fplStream s n).base ≤ (fplStream s n).next * fplM s f n + (fplStream s n).delay ∧ (fplStream s n).next * fplM s f n + (fplStream s n).delay + fplTaps s f * fplM s f n ≤ (fplStream s n).base + (fplStream s n).outs.length) ∧
    (∃ (s : State) (f : Nat) (n : Nat) (j : Nat) (w : Word),
    f < 16 ∧ pageLive s (fplPage f) = true ∧ fplTakes s f n = true ∧ mapOf s f n = some (j, w) ∧ unarmed s (fplPage f) ∧ gangSize s = 1 ∧ (fplStream s n).reqs = [] ∧ (fplStream s n).delayHeld = none ∧ (fplStream s n).running = true ∧ (fplStream s n).base ≤ (fplStream s n).next * fplM s f n + (fplStream s n).delay ∧ (fplStream s n).next * fplM s f n + (fplStream s n).delay + fplTaps s f * fplM s f n ≤ (fplStream s n).base + (fplStream s n).outs.length ∧ (((fplStream s n).outs.drop ((fplStream s n).next * fplM s f n + (fplStream s n).delay - (fplStream s n).base)).take (fplTaps s f * fplM s f n)).any (fun o => o.lost) = true) ∧
    (∃ (s : State) (f : Nat) (n : Nat) (j : Nat) (w : Word) (errs : List MemError) (x : FplStream),
    f < 16 ∧ pageLive s (fplPage f) = true ∧ fplTakes s f n = true ∧ mapOf s f n = some (j, w) ∧ gangSize s = 1 ∧ x = (boundary s f j (mapT s f w) (fplStream s n).next (fplStream s n)).x ∧ x.running = true ∧ x.base ≤ (fplStream s n).next * fplM s f n + x.delay ∧ (fplStream s n).next * fplM s f n + x.delay + fplTaps s f * fplM s f n ≤ x.base + x.outs.length) ∧
    (∃ (s : State) (f : Nat) (n : Nat) (j : Nat) (w : Word) (errs : List MemError),
    ((pageLive s (fplPage f) = false ∨ fplTakes s f n = false ∨ (mapOf s f n = some (j, w) ∧ (boundary s f j (mapT s f w) (fplStream s n).next (fplStream s n)).x.running = false)))) :=
  ⟨⟨wFpl { running := true, next := 1, outs := List.replicate 640 ⟨0, 0, false, false⟩ }, 1, 7, 2, BitVec.ofNat 64 (1 + 7 * 2 + 5 * 2 ^ 23), by decide +kernel⟩,
   ⟨wFpl { running := true, next := 1, outs := List.replicate 640 ⟨0, 0, false, true⟩ }, 1, 7, 2, BitVec.ofNat 64 (1 + 7 * 2 + 5 * 2 ^ 23), by decide +kernel⟩,
   ⟨{ wFpl { running := true, next := 1, outs := List.replicate 640 ⟨0, 0, false, false⟩, reqs := [⟨.coef, 1, 16, false, true, 0, 0⟩] } with armed := [⟨0x91, S.FPL_MEM_UNCORR, .once, 0⟩] }, 1, 7, 2, BitVec.ofNat 64 (1 + 7 * 2 + 5 * 2 ^ 23), [⟨0, 5, true⟩], (boundary (wFpl { running := true, next := 1, outs := List.replicate 640 ⟨0, 0, false, false⟩, reqs := [⟨.coef, 1, 16, false, true, 0, 0⟩] }) 1 2 256 1 { running := true, next := 1, outs := List.replicate 640 ⟨0, 0, false, false⟩, reqs := [⟨.coef, 1, 16, false, true, 0, 0⟩] }).x, by decide +kernel⟩,
   ⟨wFpl { next := 1, outs := List.replicate 639 ⟨0, 0, false, false⟩ }, 1, 7, 2, BitVec.ofNat 64 (1 + 7 * 2 + 5 * 2 ^ 23), [], by decide +kernel⟩⟩

theorem test_witness_Spectra_2 : ∃ (fd : FplFade) (a : Int × Int) (b : Int × Int),
    0 < fd.len :=
  ⟨⟨10, 3⟩, (1, 2), (5, 7), by decide +kernel⟩

theorem test_witness_TurnRegionAddresses : ∃ (s : State) (d : Nat) (r : Nat) (i : Nat) (j : Nat) (c : Nat) (e : Nat) (a : Nat) (b : Nat) (t : Nat) (u : Nat),
    0 < regionDepth s d r ∧ i < 32 * regionBlocks s d r ∧ j < 32 * regionBlocks s d r ∧ c < regionChans s d r ∧ e < regionChans s d r ∧ t < regionT s d r ∧ u < regionT s d r :=
  ⟨wFpl { next := 1 }, 0, 0, 1, 1, 3, 3, 4, 6, 5, 5, by decide +kernel⟩

theorem test_witness_UndisturbedStrokePasses : ∃ (xs : List (List (Int × Int))) (ys : List (List (Int × Int))),
    ((∀ x ∈ xs, x.length = 32)) ∧ ((∀ y ∈ ys, y.length = 32)) :=
  ⟨[List.replicate 32 (-8, 7)], [List.replicate 32 (2047, -2048)], by decide +kernel⟩

theorem test_witness_SingleFaultFailsTwice : ∃ (v : List (Int × Int)) (c : Nat) (d : Int),
    v.length = 1089 ∧ c < 1089 ∧ d ≠ 0 ∧ failing v = [] :=
  ⟨List.replicate 1089 (0, 0), 40, 3, List.length_replicate, by decide, by decide, failing_zeros 1089⟩

theorem test_witness_DrainTokens_1 : ∃ (s : State) (n : Nat) (h : BlankHalf) (held : Nat) (stretched : Nat) (k : Stroke) (q : List Stroke) (fs : List CellFault) (sh : List (Code48 × Code48)) (e : Equation) (l : List Equation),
    failing (sh.map (fun c => (c.1.toInt, c.2.toInt))) = e :: l ∧ n < 272 ∧ unarmed s (lthPage n) ∧ (lathe s n).queue = k :: q ∧ weightsStored q = true ∧ k.gouge = none ∧ strokeData s (n / 68) k = some h ∧ latheHalted s n = false ∧ pageRetired s (lthPage n) = false ∧ (schDie s (n / 68)).loaded = [] ∧ k.bad = 0 ∧ dataBad h [k.row, k.col] = 0 ∧ (countRetry (lthPage n) s).2 = false ∧ faultSet fs none (accumulate k.accOr (h.block k.row).rows (h.block k.col).rows) = sh ∧ sh.all (fun c => codeFinite c.1 && codeFinite c.2) = true :=
  by
  obtain ⟨e, l, h⟩ := wShadow_fails
  exact ⟨wLathe [wStroke] [], 10, wHalf, 2, 1, wStroke, [], [⟨5, 17, false, 4096#48⟩], wShadow, e, l, h, by decide +kernel⟩

theorem test_witness_DrainTokens_2 :
    (∃ (s : State) (n : Nat) (h : BlankHalf) (held : Nat) (stretched : Nat) (k : Stroke) (q : List Stroke) (vals : List (Int × Int)),
    vals.length = 1089 ∧ failing vals = [] ∧ n < 272 ∧ unarmed s (lthPage n) ∧ (lathe s n).queue = k :: q ∧ weightsStored q = true ∧ k.gouge = none ∧ strokeData s (n / 68) k = some h ∧ latheHalted s n = false ∧ pageRetired s (lthPage n) = false ∧ (schDie s (n / 68)).loaded = [] ∧ k.bad = 0 ∧ dataBad h [k.row, k.col] = 0 ∧ accumulate k.accOr (h.block k.row).rows (h.block k.col).rows = vals ∧ ((∀ p ∈ vals, p.1.natAbs < 2 ^ 46 ∧ p.2.natAbs < 2 ^ 46))) ∧
    (∃ (s : State) (n : Nat) (h : BlankHalf) (held : Nat) (stretched : Nat) (k : Stroke) (q : List Stroke) (fs : List CellFault),
    n < 272 ∧ unarmed s (lthPage n) ∧ (lathe s n).queue = k :: q ∧ weightsStored q = true ∧ k.gouge = none ∧ strokeData s (n / 68) k = some h ∧ latheHalted s n = false ∧ pageRetired s (lthPage n) = false ∧ (schDie s (n / 68)).loaded = [] ∧ k.bad = 0 ∧ dataBad h [k.row, k.col] = 0 ∧ (countRetry (lthPage n) s).2 = false ∧ (faultSet fs none (accumulate k.accOr (h.block k.row).rows (h.block k.col).rows)).all (fun c => codeFinite c.1 && codeFinite c.2) = false) ∧
    (∃ (s : State) (n : Nat) (h : BlankHalf) (held : Nat) (stretched : Nat) (k : Stroke) (q : List Stroke) (fs : List CellFault),
    n < 272 ∧ (lathe s n).queue = k :: q ∧ weightsStored q = true ∧ k.gouge = none ∧ strokeData s (n / 68) k = some h ∧ latheHalted s n = false ∧ pageRetired s (lthPage n) = false ∧ (schDie s (n / 68)).loaded = [] ∧ dataBad h [k.row, k.col] = 2) ∧
    (∃ (s : State) (n : Nat) (held : Nat) (stretched : Nat) (fs : List CellFault),
    (lathe s n).queue = []) :=
  ⟨⟨{ wLathe [wStroke] [] with sch := { lathes := [(10, { queue := [wStroke] })], dies := [(0, { halfA := some wHalfZ })] } }, 10, wHalfZ, 2, 1, wStroke, [], List.replicate 1089 (0, 0), List.length_replicate, failing_zeros 1089, by decide +kernel⟩,
   ⟨wLathe [wStroke] [], 10, wHalf, 2, 1, wStroke, [], [⟨5, 17, false, 0x800000000001#48⟩], by decide +kernel⟩,
   ⟨{ wLathe [wStroke] [] with sch := { lathes := [(10, { queue := [wStroke] })], dies := [(0, { halfA := some ⟨0, [⟨0, 2, []⟩]⟩ })] } }, 10, ⟨0, [⟨0, 2, []⟩]⟩, 2, 1, wStroke, [], [], by decide +kernel⟩,
   ⟨wLathe [] [], 10, 2, 1, [], by decide +kernel⟩⟩

theorem test_witness_HandshakesAndReplays_1 :
    (∃ (s : State) (n : Nat) (k : Stroke) (q : List Stroke),
    n < 272 ∧ (lathe s n).queue = k :: q ∧ weightsStored q = true ∧ k.gouge = none ∧ (schDie s (n / 68)).loaded = [] ∧ (countRetry (lthPage n) s).2 = false) ∧
    (∃ (s : State) (n : Nat) (k : Stroke) (q : List Stroke) (g : GougeJob),
    n < 272 ∧ (lathe s n).queue = k :: q ∧ weightsStored q = true ∧ k.gouge = some g ∧ g.entry.voltEn = false ∧ g.entry.powerEn = false ∧ s.gge.dets = [] ∧ (schDie s (n / 68)).loaded = [] ∧ (countRetry (lthPage n) s).2 = false) ∧
    (∃ (s : State) (n : Nat),
    (lathe s n).queue = []) ∧
    (∃ (s : State) (d : Nat) (n : Nat) (k : Stroke) (q : List Stroke) (errs : List (Nat × Bool)),
    d < 4 ∧ (schDie s d).replays = k :: q ∧ replaySpare s d = some n ∧ runningReplays s d < 2) :=
  ⟨⟨wLathe [wStroke] [], 10, wStroke, [], by decide +kernel⟩,
   ⟨wGouge, 10, { wStroke with gouge := some wGougeJob, int := none }, [], wGougeJob, by decide +kernel⟩,
   ⟨wLathe [] [], 10, by decide +kernel⟩,
   ⟨wLathe [] [wStroke], 0, 64, wStroke, [], [], by decide +kernel⟩⟩

theorem test_witness_HandshakesAndReplays_2 : ∃ (s : State) (d : Nat) (errs : List (Nat × Bool)),
    (((schDie s d).replays = [] ∨ replaySpare s d = none ∨ 2 ≤ runningReplays s d)) :=
  ⟨wLathe [] [], 0, [], by decide +kernel⟩

theorem test_witness_LatheSnapshots_1 :
    (∃ (s : State) (m : Nat) (n : Nat) (v : Word),
    n < 272 ∧ judge s m (lthPage n) R.LTH_SNAP_CTRL 8 (v ||| 1#64) = .ok ∧ bitOf v 1 = false ∧ flag s (lthPage n) F.PAGE_CTRL_DEBUG = false) ∧
    (∃ (s : State) (m : Nat) (n : Nat) (v : Word),
    n < 272 ∧ judge s m (lthPage n) R.LTH_SNAP_CTRL 8 (v ||| 1#64) = .ok ∧ bitOf v 1 = false ∧ flag s (lthPage n) F.PAGE_CTRL_DEBUG = true ∧ latheHalted s n = false) ∧
    (∃ (s : State) (n : Nat) (samples : Nat),
    n < 272 ∧ (lathe s n).snapping = true) ∧
    (∃ (s : State) (n : Nat) (held : Nat) (stretched : Nat) (fs : List CellFault),
    latheHalted s n = true) :=
  ⟨⟨wLathe [wStroke] [], 0, 10, 0#64, by decide +kernel⟩,
   ⟨setFld 0x10A F.PAGE_CTRL_DEBUG 1 (wLathe [wStroke] []), 0, 10, 0#64, by decide +kernel⟩,
   ⟨{ wLathe [wStroke] [] with sch := { lathes := [(10, { queue := [wStroke], snapping := true })], dies := [(0, { halfA := some wHalf })] } }, 10, 1, by decide +kernel⟩,
   ⟨setFld 0x10A F.LTH_SNAP_CTRL_HALTED 1 (wLathe [wStroke] []), 10, 0, 0, [], by decide +kernel⟩⟩

theorem test_witness_LatheSnapshots_2 : ∃ (s : State) (m : Nat) (n : Nat) (v : Word),
    n < 272 ∧ judge s m (lthPage n) R.LTH_SNAP_CTRL 8 (v ||| 2#64) = .ok ∧ bitOf v 0 = false ∧ latheHalted s n = true :=
  ⟨setFld 0x10A F.LTH_SNAP_CTRL_HALTED 1 (wLathe [wStroke] []), 0, 10, 0#64, by decide +kernel⟩

theorem test_witness_CutListExpansion : ∃ (e : CutEntry),
    1 ≤ e.op ∧ e.op ≤ 5 ∧ e.rowLo ≤ e.rowHi ∧ ((e.op = 4 → 1 ≤ e.param)) ∧ ((e.op = 5 → e.colLo ≤ e.colHi)) :=
  ⟨⟨4 + 2 ^ 32 * 6 + 2 ^ 48 * 3, 0, 5 + 2 ^ 32 * 60 + 2 ^ 38, 0⟩, by decide +kernel⟩

theorem test_witness_PassPlans :
    (∃ (s : State) (m : Nat) (d : Nat) (v : Word),
    d < 4 ∧ judge s m (schPage d) R.SCH_PLAN_CTRL 8 (v ||| 1#64) = .ok ∧ bitOf v 1 = false ∧ ((∀ p, planOf s d (fld s (schPage d) F.SCH_PLAN_ADDR_REGION) = some p → p.words.length = 8))) ∧
    (∃ (s : State) (m : Nat) (d : Nat) (v : Word),
    d < 4 ∧ judge s m (schPage d) R.SCH_PLAN_CTRL 8 (v ||| 2#64) = .ok ∧ bitOf v 0 = false ∧ bitOf (planWords (planData s d) 0) 0 = true ∧ (planValidWrite d (planData s d) s).1 ≠ 0) ∧
    (∃ (s : State) (m : Nat) (d : Nat) (r : Nat) (v : Word),
    d < 4 ∧ judge s m (schPage d) R.SCH_PLAN_CTRL 8 (v ||| 2#64) = .ok ∧ bitOf v 0 = false ∧ bitOf (planWords (planData s d) 0) 0 = true ∧ pwRegion (planData s d) = r ∧ (planValidWrite d (planData s d) s).1 = 0) ∧
    (∃ (s : State) (m : Nat) (d : Nat) (r : Nat) (v : Word),
    d < 4 ∧ judge s m (schPage d) R.SCH_PLAN_CTRL 8 (v ||| 2#64) = .ok ∧ bitOf v 0 = false ∧ bitOf (planWords (planData s d) 0) 0 = false ∧ fld s (schPage d) F.SCH_PLAN_ADDR_REGION = r ∧ batchInProgress s d r = false) :=
  ⟨⟨wPlan (1 + 2 ^ 32), 0, 0, 0#64, by decide +kernel⟩,
   ⟨wPlan (1 + 2 ^ 10 + 2 ^ 32), 0, 0, 0#64, by decide +kernel⟩,
   ⟨wPlan (1 + 2 ^ 32), 0, 0, 0, 0#64, by decide +kernel⟩,
   ⟨setReg 0x220 0x110 0 (setSchDie 0 {} wStaging), 0, 0, 0, 0#64, by decide +kernel⟩⟩

theorem test_witness_TurnBufferArrivals_1 :
    (∃ (s : State) (d : Nat) (a : Nat) (o : TurnOperand),
    d < 4 ∧ o.fpl < 16 ∧ unarmed s (fplPage o.fpl) ∧ s.fpl.transit.find? (fun x => decide (x.chan % 4 = d)) = some o ∧ regionValid s d o.region = true ∧ slotHolds s d o.region o.batch = true ∧ (tbSlot s d o.region o.batch).staged = false ∧ ((tbSlot s d o.region o.batch).ready = true ∨ absentPairs s d o.region o.batch ≠ [] ∧ ntGet (tbSlot s d o.region o.batch).arrived (o.pos * 65536 + o.chan / chanDiv s o.region) + 1 < regionT s d o.region) ∧ operandAddr s d o.region o.pos (o.chan / chanDiv s o.region) o.batch o.t = a ∧ hbmRefuses s a (operandCells s o d).length = false ∧ fenceHit s a (operandCells s o d).length = none ∧ touchesReserved a (operandCells s o d).length = false ∧ unarmed s (hbmPage (stackOf a)) ∧ ((∀ k, k < (operandCells s o d).length → rowFenced s (a + k) = false))) ∧
    (∃ (s : State) (d : Nat) (o : TurnOperand),
    d < 4 ∧ o.fpl < 16 ∧ unarmed s (fplPage o.fpl) ∧ s.fpl.transit.find? (fun x => decide (x.chan % 4 = d)) = some o ∧ regionValid s d o.region = true ∧ slotHolds s d o.region o.batch = true ∧ (tbSlot s d o.region o.batch).staged = true) ∧
    (∃ (s : State) (d : Nat) (o : TurnOperand),
    d < 4 ∧ o.fpl < 16 ∧ unarmed s (fplPage o.fpl) ∧ s.fpl.transit.find? (fun x => decide (x.chan % 4 = d)) = some o ∧ regionValid s d o.region = true ∧ (tbSlot s d o.region o.batch).busy = true ∧ (tbSlot s d o.region o.batch).batch < o.batch ∧ (tbSlot s d o.region o.batch).replayOnly = false ∧ (tbSlot s d o.region o.batch).past ≤ o.batch ∧ ntGet (schDie s d).next o.region ≤ o.batch) ∧
    (∃ (s : State) (u : State) (d : Nat) (n : Nat),
    exec (.turnWrite d 1) s = .next u) :=
  ⟨⟨{ wFpl { next := 1 } with fpl := { (wFpl { next := 1 }).fpl with transit := [⟨1, 0, 5, 4, 6, 9, 0x1234⟩], slots := [(0, { busy := true, batch := 6 })] } }, 0, operandAddr (wFpl { next := 1 }) 0 0 5 1 6 9, ⟨1, 0, 5, 4, 6, 9, 0x1234⟩, by decide +kernel⟩,
   ⟨{ wFpl { next := 1 } with fpl := { (wFpl { next := 1 }).fpl with transit := [⟨1, 0, 5, 4, 6, 9, 0x1234⟩], slots := [(0, { busy := true, batch := 6, staged := true })] } }, 0, ⟨1, 0, 5, 4, 6, 9, 0x1234⟩, by decide +kernel⟩,
   ⟨{ wFpl { next := 1 } with fpl := { (wFpl { next := 1 }).fpl with transit := [⟨1, 0, 5, 4, 6, 9, 0x1234⟩], slots := [(0, { busy := true, batch := 4 })] } }, 0, ⟨1, 0, 5, 4, 6, 9, 0x1234⟩, by decide +kernel⟩,
   ⟨{ wFpl { next := 1 } with fpl := { (wFpl { next := 1 }).fpl with transit := [⟨1, 0, 5, 4, 6, 9, 0x1234⟩], slots := [(0, { busy := true, batch := 6 })] } }, _, 0, 2, rfl⟩⟩

theorem test_witness_TurnBufferArrivals_2 : ∃ (s : State) (d : Nat) (n : Nat),
    s.fpl.transit.find? (fun x => decide (x.chan % 4 = d)) = none :=
  ⟨w0, 0, 7, by decide +kernel⟩

theorem test_witness_StagingBatches_1 :
    (∃ (s : State) (d : Nat) (r : Nat) (b : Nat) (p : Plan),
    d < 4 ∧ r < 16 ∧ planOf s d r = some p ∧ ownsBatch (toDeadline d r b p s) d r b = true ∧ batchKnown s d r b = false ∧ pageLive s (schPage d) = true) ∧
    (∃ (s : State) (u : State) (d : Nat) (r : Nat) (b : Nat) (p : Plan),
    u = toDeadline d r b p s ∧ d < 4 ∧ r < 16 ∧ planOf s d r = some p ∧ ownsBatch (toDeadline d r b p s) d r b = false) ∧
    (∃ (s : State) (d : Nat) (r : Nat) (b : Nat),
    planOf s d r = none) ∧
    (∃ (s : State) (d : Nat) (c : Nat) (k : Nat) (h : Nat) (errs : List (Nat × Bool)) (q : SchCur) (rest : List (Nat × Nat)) (p : Plan) (e : StageEntry),
    d < 4 ∧ pageLive s (schPage d) = true ∧ (schDie s d).cur = some q ∧ q.steps = (c, k) :: rest ∧ rest ≠ [] ∧ planOf s d q.region = some p ∧ p.entries.all (fun x => !x.isGouge) = true ∧ (if (schDie s d).useB then 1 else 0) = h ∧ halfFree s d h = true ∧ (stagesOf s d q.region p.stages)[k]? = some e) :=
  ⟨⟨setSchDie 0 {} wStaging, 0, 0, 4, ((planOf wStaging 0 0).getD ⟨[], [], [], false⟩), by decide +kernel⟩,
   ⟨setFld 0x320 F.ZHK_GANG_MEMBER 1 (setFld 0x320 F.ZHK_REGION_MODE 2 (setFld 0x320 F.ZHK_GANG_SIZE 1 (setSchDie 0 {} wStaging))), _, 0, 0, 4, ((planOf wStaging 0 0).getD ⟨[], [], [], false⟩), rfl, by decide +kernel⟩,
   ⟨w0, 0, 0, 4, by decide +kernel⟩,
   ⟨wStaging, 0, 0, 0, 0, [], ⟨0, 0, [], none, 0, [(0, 0), (1, 0)]⟩, [(1, 0)], ((planOf wStaging 0 0).getD ⟨[], [], [], false⟩), implicitStage 1, by decide +kernel⟩⟩

theorem test_witness_StagingBatches_2 :
    (∃ (s : State) (d : Nat) (c : Nat) (k : Nat) (h : Nat) (errs : List (Nat × Bool)) (q : SchCur) (rest : List (Nat × Nat)),
    d < 4 ∧ pageLive s (schPage d) = true ∧ (schDie s d).cur = some q ∧ q.steps = (c, k) :: rest ∧ (planOf s d q.region).isSome = true ∧ (if (schDie s d).useB then 1 else 0) = h ∧ halfFree (passHalf d h s) d h = false) ∧
    (∃ (s : State) (d : Nat) (errs : List (Nat × Bool)) (q : SchCur) (p : Plan),
    pageLive s (schPage d) = true ∧ (schDie s d).cur = some q ∧ planOf s d q.region = some p) ∧
    (∃ (s : State) (d : Nat) (errs : List (Nat × Bool)) (x : SchReady) (p : Plan),
    d < 4 ∧ pageLive s (schPage d) = true ∧ (schDie s d).cur = none ∧ pickReady s d (schDie s d).ready = some x ∧ planOf s d x.region = some p) ∧
    (∃ (s : State) (d : Nat) (errs : List (Nat × Bool)),
    ((pageLive s (schPage d) = false ∨ ((schDie s d).cur = none ∧ (schDie s d).ready = [])))) :=
  ⟨⟨{ setSchDie 0 { schDie wStaging 0 with halfA := some wHalf } (setLathe 10 { queue := [wStroke] } wStaging) with }, 0, 0, 0, 0, [], ⟨0, 0, [], none, 0, [(0, 0), (1, 0)]⟩, [(1, 0)], by decide +kernel⟩,
   ⟨wStaging, 0, [], ⟨0, 0, [], none, 0, [(0, 0), (1, 0)]⟩, ((planOf wStaging 0 0).getD ⟨[], [], [], false⟩), by decide +kernel⟩,
   ⟨setSchDie 0 { ready := [⟨0, 4, 0, []⟩] } wStaging, 0, [], ⟨0, 4, 0, []⟩, ((planOf wStaging 0 0).getD ⟨[], [], [], false⟩), by decide +kernel⟩,
   ⟨w0, 0, [], by decide +kernel⟩⟩

theorem test_witness_UndisturbedBeamsPass : ∃ (ws : List (List (List (Int × Int)))) (xs : List (List (Int × Int))) (row : Nat) (t : Nat) (im : Bool) (add : Int),
    ((∀ w ∈ ws, w.length = 32)) ∧ ((∀ w ∈ ws, ∀ r ∈ w, r.length = 32)) ∧ ((∀ x ∈ xs, x.length = 32)) ∧ row ≤ 32 ∧ add ≠ 0 :=
  ⟨[List.replicate 32 (List.replicate 32 (1, 2))], [List.replicate 32 (3, -1)], 32, 4, true, 5, by decide +kernel⟩

theorem test_witness_GougeStrokes_1 :
    (∃ (s : State) (n : Nat) (held : Nat) (stretched : Nat) (k : Stroke) (q : List Stroke) (g : GougeJob) (h : BlankHalf),
    n < 272 ∧ unarmed s (lthPage n) ∧ (lathe s n).queue = k :: q ∧ weightsStored q = true ∧ k.gouge = some g ∧ strokeData s (n / 68) k = some h ∧ latheHalted s n = false ∧ pageRetired s (lthPage n) = false ∧ flag s (ggePage (n / 68)) F.PAGE_CTRL_ENABLE = true ∧ dataBad h ((List.range (wsetOf s (n / 68) g.entry.wset).links).map (fun l => g.entry.block0 + l)) = 0 ∧ (g.weights.getD []).all (fun w => decide (w.length = 32) && w.all (fun r => decide (r.length = 32))) = true ∧ g.entry.voltEn = false ∧ g.entry.powerEn = false ∧ s.gge.dets = [] ∧ (schDie s (n / 68)).loaded = [] ∧ (h.blocks.all (fun b => b.rows.all (fun r => decide (r.length = 32)))) = true) ∧
    (∃ (s : State) (n : Nat) (held : Nat) (stretched : Nat) (fs : List BeamFault) (k : Stroke) (q : List Stroke) (g : GougeJob) (h : BlankHalf) (l : Stroke × State) (ws : List (List (List (Int × Int)))) (ys : List (List (Int × Int))),
    l = loadStroke (n / 68) k s ∧ ws = ((l.1.gouge.bind (·.weights)).getD []).map withWitnessRow ∧ ys = (List.range h.count).map (fun t => disturb fs t (beamSums ws (((List.range (wsetOf s (n / 68) g.entry.wset).links).map (fun l => g.entry.block0 + l)).map (fun b => (h.block b).rows.getD t [])))) ∧ n < 272 ∧ unarmed s (lthPage n) ∧ (lathe s n).queue = k :: q ∧ weightsStored q = true ∧ k.gouge = some g ∧ strokeData s (n / 68) k = some h ∧ latheHalted s n = false ∧ pageRetired s (lthPage n) = false ∧ flag s (ggePage (n / 68)) F.PAGE_CTRL_ENABLE = true ∧ dataBad h ((List.range (wsetOf s (n / 68) g.entry.wset).links).map (fun l => g.entry.block0 + l)) = 0 ∧ ys.flatMap beamChecks = []) :=
  ⟨⟨wGouge, 10, 1, 1, { wStroke with gouge := some wGougeJob, int := none }, [], wGougeJob, wHalf, by decide +kernel⟩,
   ⟨wGougeOf wGougeLoaded, 10, 1, 1, [], { wStroke with gouge := some wGougeLoaded, int := none }, [], wGougeLoaded, wHalf, _, _, _, rfl, rfl, rfl, by decide +kernel⟩⟩

theorem test_witness_GougeStrokes_2 :
    (∃ (s : State) (n : Nat) (held : Nat) (stretched : Nat) (row : Nat) (im : Bool) (add : Int) (k : Stroke) (q : List Stroke) (g : GougeJob) (h : BlankHalf),
    n < 272 ∧ unarmed s (lthPage n) ∧ (lathe s n).queue = k :: q ∧ weightsStored q = true ∧ k.gouge = some g ∧ strokeData s (n / 68) k = some h ∧ latheHalted s n = false ∧ pageRetired s (lthPage n) = false ∧ flag s (ggePage (n / 68)) F.PAGE_CTRL_ENABLE = true ∧ dataBad h ((List.range (wsetOf s (n / 68) g.entry.wset).links).map (fun l => g.entry.block0 + l)) = 0 ∧ (g.weights.getD []).all (fun w => decide (w.length = 32) && w.all (fun r => decide (r.length = 32))) = true ∧ g.entry.voltEn = false ∧ g.entry.powerEn = false ∧ s.gge.dets = [] ∧ (schDie s (n / 68)).loaded = [] ∧ (countRetry (lthPage n) s).2 = false ∧ (h.blocks.all (fun b => b.rows.all (fun r => decide (r.length = 32)))) = true ∧ 0 < h.count ∧ row < 32 ∧ add ≠ 0) ∧
    (∃ (s : State) (n : Nat) (held : Nat) (stretched : Nat) (fs : List BeamFault) (k : Stroke) (q : List Stroke) (g : GougeJob) (h : BlankHalf),
    n < 272 ∧ (lathe s n).queue = k :: q ∧ weightsStored q = true ∧ k.gouge = some g ∧ strokeData s (n / 68) k = some h ∧ latheHalted s n = false ∧ pageRetired s (lthPage n) = false ∧ flag s (ggePage (n / 68)) F.PAGE_CTRL_ENABLE = false ∧ g.entry.voltEn = false ∧ g.entry.powerEn = false ∧ s.gge.dets = [] ∧ (schDie s (n / 68)).loaded = []) :=
  ⟨⟨wGouge, 10, 1, 1, 3, true, 6, { wStroke with gouge := some wGougeJob, int := none }, [], wGougeJob, wHalf, by decide +kernel⟩,
   ⟨setFld 0x228 F.PAGE_CTRL_ENABLE 0 wGouge, 10, 1, 1, [], { wStroke with gouge := some wGougeJob, int := none }, [], wGougeJob, wHalf, by decide +kernel⟩⟩

theorem test_witness_GougeStrokes_3 : ∃ (s : State) (n : Nat) (held : Nat) (stretched : Nat) (fs : List BeamFault),
    (((lathe s n).queue = [] ∨ latheHalted s n = true)) :=
  ⟨w0, 10, 1, 1, [], by decide +kernel⟩

theorem test_witness_Detectors_1 :
    (∃ (s : State) (d : Nat) (i : Nat) (k : Nat) (x : Detector),
    d < 4 ∧ i < 16 ∧ detOf s d i = x ∧ x.next = some k ∧ x.st ≠ 0 ∧ pageLive s (ggePage d) = true ∧ strokesEnded s d (k * 256 / max 1 (regionT s d x.region)) x = true ∧ unarmed s (ggePage d) ∧ (window { x with ticks := tickPut ⟨k, 0, 0⟩ x.ticks } k).2.1 = true) ∧
    (∃ (s : State) (d : Nat) (i : Nat) (k : Nat) (sum : Nat) (x : Detector),
    d < 4 ∧ i < 16 ∧ detOf s d i = x ∧ x.next = some k ∧ x.st ≠ 0 ∧ pageLive s (ggePage d) = true ∧ strokesEnded s d (k * 256 / max 1 (regionT s d x.region)) x = true ∧ unarmed s (ggePage d) ∧ window { x with ticks := tickPut ⟨k, 0, 0⟩ x.ticks } k = (sum, false, true)) ∧
    (∃ (s : State) (m : Nat) (d : Nat) (i : Nat) (v : Word),
    d < 4 ∧ i < 16 ∧ judge s m (ggePage d) (R.GGE_DET_STATUS + 8 * i) 8 (v ||| 4#64) = .ok) ∧
    (∃ (s : State) (m : Nat) (d : Nat) (v : Word) (x : Detector),
    d < 4 ∧ judge s m (ggePage d) R.GGE_DET_CTRL 8 (v ||| 1#64) = .ok ∧ bitOf v 1 = false ∧ detOf s d (detAddr s d) = x) :=
  ⟨⟨wDetector { st := 2, next := some 3, ticks := [⟨3, 0, 0⟩] }, 1, 5, 3, { w0 := 29, w1 := 1000, w2 := 500, w3 := 2, st := 2, next := some 3, ticks := [⟨3, 0, 0⟩] }, by decide +kernel⟩,
   ⟨wDetector { st := 2, next := some 3, ticks := [⟨3, 1000, 256⟩] }, 1, 5, 3, 1000, { w0 := 29, w1 := 1000, w2 := 500, w3 := 2, st := 2, next := some 3, ticks := [⟨3, 1000, 256⟩] }, by decide +kernel⟩,
   ⟨wDetector { st := 3, next := some 3, ticks := [] }, 0, 1, 5, 0#64, by decide +kernel⟩,
   ⟨setReg 0x229 0x138 5 (wDetector { st := 3, next := some 3, ticks := [] }), 0, 1, 0#64, { w0 := 29, w1 := 1000, w2 := 500, w3 := 2, st := 3, next := some 3, ticks := [] }, by decide +kernel⟩⟩

theorem test_witness_Detectors_2 :
    (∃ (s : State) (m : Nat) (d : Nat) (v : Word),
    d < 4 ∧ judge s m (ggePage d) R.GGE_DET_CTRL 8 (v ||| 2#64) = .ok ∧ bitOf v 0 = false ∧ detRefused (detOf s d (detAddr s d)) (regsFrom s (ggePage d) R.GGE_DET_DATA 4) = true) ∧
    (∃ (s : State) (m : Nat) (d : Nat) (v : Word),
    d < 4 ∧ judge s m (ggePage d) R.GGE_DET_CTRL 8 (v ||| 2#64) = .ok ∧ bitOf v 0 = false ∧ detRefused (detOf s d (detAddr s d)) (regsFrom s (ggePage d) R.GGE_DET_DATA 4) = false) ∧
    (∃ (s : State) (m : Nat) (d : Nat) (i : Nat) (v : Word),
    d < 4 ∧ i < 16 ∧ judge s m (ggePage d) (R.GGE_LINE + 8 * i) 8 v = .ok ∧ (¬ ((fieldOf v 34 2 = 2 ∨ fieldOf v 34 2 = 3) ∧ 16 ≤ fieldOf v 36 5))) ∧
    (∃ (s : State) (m : Nat) (d : Nat) (i : Nat) (v : Word),
    d < 4 ∧ i < 16 ∧ judge s m (ggePage d) (R.GGE_LINE + 8 * i) 8 v = .ok ∧ ((fieldOf v 34 2 = 2 ∨ fieldOf v 34 2 = 3)) ∧ 16 ≤ fieldOf v 36 5) :=
  ⟨⟨setReg 0x229 0x138 5 (wDetector { st := 3, next := some 3, ticks := [] }), 0, 1, 0#64, by decide +kernel⟩,
   ⟨setRegsFrom 0x229 0x138 [5, 0, 1, 9, 8, 7] (wOn 0x229 w0), 0, 1, 0#64, by decide +kernel⟩,
   ⟨wOn 0x229 w0, 0, 1, 4, 0x45#64, by decide +kernel⟩,
   ⟨wOn 0x229 w0, 0, 1, 4, BitVec.ofNat 64 (2 * 2 ^ 34 + 17 * 2 ^ 36), by decide +kernel⟩⟩

theorem test_witness_WeightSets_1 :
    (∃ (s : State) (m : Nat) (d : Nat) (v : Word) (w : WSet),
    d < 4 ∧ judge s m (ggePage d) R.GGE_WSET_CTRL 8 (v ||| 1#64) = .ok ∧ bitOf v 1 = false ∧ bitOf v 2 = false ∧ wsetOf s d (wsetAddr s d) = w) ∧
    (∃ (s : State) (m : Nat) (d : Nat) (v : Word),
    d < 4 ∧ judge s m (ggePage d) R.GGE_WSET_CTRL 8 (v ||| 2#64) = .ok ∧ bitOf v 0 = false ∧ bitOf v 2 = false ∧ (((bitOf (reg s (ggePage d) R.GGE_WSET_DATA) 0 = false ∧ (wsetOf s d (wsetAddr s d)).valid = true ∧ wsetNamed s d (wsetAddr s d) = true) ∨ wsetOk d { w0 := withBit (reg s (ggePage d) R.GGE_WSET_DATA) 44 (wsetOf s d (wsetAddr s d)).activeB, w1 := reg s (ggePage d) (R.GGE_WSET_DATA + 8), w2 := reg s (ggePage d) (R.GGE_WSET_DATA + 16) } = false))) ∧
    (∃ (s : State) (m : Nat) (d : Nat) (v : Word) (w : WSet),
    w = { w0 := withBit (reg s (ggePage d) R.GGE_WSET_DATA) 44 (wsetOf s d (wsetAddr s d)).activeB, w1 := reg s (ggePage d) (R.GGE_WSET_DATA + 8), w2 := reg s (ggePage d) (R.GGE_WSET_DATA + 16), swaps := (wsetOf s d (wsetAddr s d)).swaps } ∧ d < 4 ∧ judge s m (ggePage d) R.GGE_WSET_CTRL 8 (v ||| 2#64) = .ok ∧ bitOf v 0 = false ∧ bitOf v 2 = false ∧ bitOf (reg s (ggePage d) R.GGE_WSET_DATA) 0 = true ∧ wsetOk d w = true ∧ (setFences (wsetFence d (wsetAddr s d)) [wsetGuard d (wsetAddr s d) w] (dropFences (wsetFence d (wsetAddr s d)) s)).1 = true) ∧
    (∃ (s : State) (m : Nat) (d : Nat) (v : Word) (w : WSet),
    w = { w0 := withBit (reg s (ggePage d) R.GGE_WSET_DATA) 44 (wsetOf s d (wsetAddr s d)).activeB, w1 := reg s (ggePage d) (R.GGE_WSET_DATA + 8), w2 := reg s (ggePage d) (R.GGE_WSET_DATA + 16), swaps := [] } ∧ d < 4 ∧ judge s m (ggePage d) R.GGE_WSET_CTRL 8 (v ||| 2#64) = .ok ∧ bitOf v 0 = false ∧ bitOf v 2 = false ∧ bitOf (reg s (ggePage d) R.GGE_WSET_DATA) 0 = false ∧ wsetOk d w = true ∧ (((wsetOf s d (wsetAddr s d)).valid = false ∨ wsetNamed s d (wsetAddr s d) = false))) :=
  ⟨⟨setReg 0x228 0x100 2 wGouge, 0, 0, 0#64, { w0 := 65537, w1 := 1048576, w2 := 2097152 }, by decide +kernel⟩,
   ⟨setRegsFrom 0x228 0x100 [2, 0, 65537, 1048577, 2097152] wGouge, 0, 0, 0#64, by decide +kernel⟩,
   ⟨setRegsFrom 0x228 0x100 [2, 0, 65537, 1048576 + 65536, 2097152] wGouge, 0, 0, 0#64, _, rfl, by decide +kernel⟩,
   ⟨setRegsFrom 0x228 0x100 [2, 0, 65536, 1048576 + 65536, 2097152] wGouge, 0, 0, 0#64, _, rfl, by decide +kernel⟩⟩

theorem test_witness_WeightSets_2 :
    (∃ (s : State) (m : Nat) (d : Nat) (v : Word) (w : WSet),
    d < 4 ∧ judge s m (ggePage d) R.GGE_WSET_CTRL 8 (v ||| 4#64) = .ok ∧ bitOf v 0 = false ∧ bitOf v 1 = false ∧ wsetOf s d (wsetAddr s d) = w) ∧
    (∃ (s : State) (h : Nat) (d : Nat) (w : WSet) (o : MarkOcc),
    markOcc s h 6 = some o ∧ bitsSet (o.arg64 % 16) 4 = [d] ∧ wsetOf s d (o.arg8 % 16) = w ∧ w.valid = true ∧ s.mrk.done.length < 256) ∧
    (∃ (s : State) (h : Nat) (d : Nat) (w : WSet) (o : MarkOcc),
    markOcc s h 6 = some o ∧ d < 4 ∧ wsetOf s d (o.arg8 % 16) = w) :=
  ⟨⟨setReg 0x228 0x100 2 wGouge, 0, 0, 0#64, { w0 := 65537, w1 := 1048576, w2 := 2097152 }, by decide +kernel⟩,
   ⟨{ wGouge with mrk := { occs := [⟨6, 655360, false, false, 518, 1, 0, 0, 0, 0, []⟩] } }, 6, 0, { w0 := 65537, w1 := 1048576, w2 := 2097152 }, ⟨6, 655360, false, false, 518, 1, 0, 0, 0, 0, []⟩, by decide +kernel⟩,
   ⟨{ wGouge with mrk := { occs := [⟨6, 655360, false, false, 518, 3, 0, 0, 0, 0, []⟩] } }, 6, 0, { w0 := 65537, w1 := 1048576, w2 := 2097152 }, ⟨6, 655360, false, false, 518, 3, 0, 0, 0, 0, []⟩, by decide +kernel⟩⟩

theorem test_witness_DumpsAndNotices_1 :
    (∃ (s : State) (d : Nat) (held : Nat) (a : Nat) (x : TlyItem) (l : List TlyItem) (c : TlyCtx) (g : Integ),
    badWords s a 64 = [] ∧ ((∀ k, k < slotBytes → rowFenced s (a + k) = false)) ∧ (hdrOf (memRead s a 64)).int ≠ g.num ∧ x.values.length = 1024 ∧ d < 4 ∧ unarmed s (tlyPage d) ∧ (tlyDie s d).inbox = x :: l ∧ outcomesAhead x (x :: l) = [] ∧ (tlyDie s d).reorder = [] ∧ x.kind = .dump ∧ mustWait s d x = false ∧ ctxOf s d x.ctx = c ∧ itemInteg s d x = some g ∧ flag s (tlyPage d) F.PAGE_CTRL_ENABLE = true ∧ g.skipped = false ∧ c.preload = 0 ∧ c.slotAddr (g.num % 2) x.slot x.chan = a ∧ hbmRefuses s a 64 = false ∧ hbmRefuses s a slotBytes = false ∧ fenceHit s a slotBytes = none ∧ touchesReserved a slotBytes = false ∧ unarmed s (hbmPage (stackOf a)) ∧ ((∀ p ∈ x.values, p.1.natAbs < 2 ^ 46 ∧ p.2.natAbs < 2 ^ 46))) ∧
    (∃ (s : State) (d : Nat) (held : Nat) (a : Nat) (x : TlyItem) (l : List TlyItem) (c : TlyCtx) (g : Integ) (new : List Code48),
    addDump c.float (codesOf 2048 (memRead s (a + 64) 12288)) x.values = new ∧ new.all (fun v => !code48Void c.float v && !code48Inf c.float v) = true ∧ d < 4 ∧ unarmed s (tlyPage d) ∧ (tlyDie s d).inbox = x :: l ∧ outcomesAhead x (x :: l) = [] ∧ (tlyDie s d).reorder = [] ∧ x.kind = .dump ∧ mustWait s d x = false ∧ ctxOf s d x.ctx = c ∧ itemInteg s d x = some g ∧ flag s (tlyPage d) F.PAGE_CTRL_ENABLE = true ∧ g.skipped = false ∧ c.slotAddr (g.num % 2) x.slot x.chan = a ∧ hbmRefuses s a slotBytes = false ∧ fenceHit s a slotBytes = none ∧ badWords s a slotBytes = [] ∧ touchesReserved a slotBytes = false ∧ unarmed s (hbmPage (stackOf a)) ∧ (hdrOf (memRead s a 64)).int = g.num) ∧
    (∃ (s : State) (d : Nat) (a : Nat) (x : TlyItem) (l : List TlyItem) (c : TlyCtx) (g : Integ),
    badWords s a 64 = [] ∧ ((∀ k, k < slotBytes → rowFenced s (a + k) = false)) ∧ (hdrOf (memRead s a 64)).int ≠ g.num ∧ d < 4 ∧ (tlyDie s d).inbox = x :: l ∧ outcomesAhead x (x :: l) = [] ∧ (tlyDie s d).reorder = [] ∧ x.kind = .miss ∧ x.awaits = false ∧ mustWait s d x = false ∧ ctxOf s d x.ctx = c ∧ itemInteg s d x = some g ∧ flag s (tlyPage d) F.PAGE_CTRL_ENABLE = true ∧ g.skipped = false ∧ c.preload = 0 ∧ c.slotAddr (g.num % 2) x.slot x.chan = a ∧ hbmRefuses s a 64 = false ∧ hbmRefuses s a slotBytes = false ∧ fenceHit s a slotBytes = none ∧ touchesReserved a slotBytes = false ∧ unarmed s (hbmPage (stackOf a)) ∧ g.carry = []) ∧
    (∃ (s : State) (d : Nat) (held : Nat) (x : TlyItem) (l : List TlyItem),
    d < 4 ∧ (tlyDie s d).inbox = x :: l ∧ outcomesAhead x (x :: l) = [] ∧ (tlyDie s d).reorder = [] ∧ x.kind = .dump ∧ flag s (tlyPage d) F.PAGE_CTRL_ENABLE = false) :=
  ⟨⟨wTally wInteg [wItem .dump], 0, 0, 1048576, wItem .dump, [], ctxOf (wTally wInteg []) 0 0, wInteg, by decide +kernel, fun _ _ => rfl, by decide +kernel, by decide +kernel, by decide +kernel⟩,
   ⟨wSlot, 0, 0, 1048576, wItem .dump, [], ctxOf (wTally wInteg []) 0 0, wInteg, _, rfl, wSlot_finite, by decide +kernel⟩,
   ⟨wTally wInteg [wItem .miss], 0, 1048576, wItem .miss, [], ctxOf (wTally wInteg []) 0 0, wInteg, by decide +kernel, fun _ _ => rfl, by decide +kernel, by decide +kernel⟩,
   ⟨setFld 0x224 F.PAGE_CTRL_ENABLE 0 (wTally wInteg [wItem .dump]), 0, 0, wItem .dump, [], by decide +kernel⟩⟩

theorem test_witness_DumpsAndNotices_2 :
    (∃ (s : State) (d : Nat) (held : Nat) (x : TlyItem) (l : List TlyItem),
    d < 4 ∧ (tlyDie s d).inbox = x :: l ∧ outcomesAhead x (x :: l) = [] ∧ x.kind = .dump ∧ mustWait s d x = true ∧ (tlyDie s d).reorder.length < 256) ∧
    (∃ (s : State) (d : Nat),
    (tlyDie s d).inbox = []) :=
  ⟨⟨{ wTally wInteg [wItem .dump] with tly := { dies := [(0, { inbox := [wItem .dump], waits := [⟨0, 0, 0, 4⟩], ctxs := (tlyDie (wTally wInteg []) 0).ctxs })] } }, 0, 0, wItem .dump, [], by decide +kernel⟩,
   ⟨w0, 0, by decide +kernel⟩⟩

theorem test_witness_TallyContexts_1 :
    (∃ (s : State) (m : Nat) (d : Nat) (v : Word),
    d < 4 ∧ judge s m (tlyPage d) R.TLY_CTX_CTRL 8 (v ||| 1#64) = .ok ∧ bitOf v 1 = false ∧ bitOf v 3 = false ∧ bitOf v 4 = false) ∧
    (∃ (s : State) (m : Nat) (d : Nat) (r : Nat) (v : Word),
    d < 4 ∧ judge s m (tlyPage d) R.TLY_CTX_CTRL 8 (v ||| 2#64) = .ok ∧ bitOf v 0 = false ∧ bitOf v 3 = false ∧ bitOf v 4 = false ∧ ctxResult s d (ctxAddr s d) (ctxOf s d (ctxAddr s d)) { words := regsFrom s (tlyPage d) R.TLY_CTX_DATA 7 } = r ∧ r ≠ 0) ∧
    (∃ (s : State) (m : Nat) (d : Nat) (v : Word),
    d < 4 ∧ judge s m (tlyPage d) R.TLY_CTX_CTRL 8 (v ||| 2#64) = .ok ∧ bitOf v 0 = false ∧ bitOf v 3 = false ∧ bitOf v 4 = false ∧ ctxResult s d (ctxAddr s d) (ctxOf s d (ctxAddr s d)) { words := regsFrom s (tlyPage d) R.TLY_CTX_DATA 7 } = 0) ∧
    (∃ (s : State) (m : Nat) (d : Nat) (v : Word) (c : TlyCtx),
    d < 4 ∧ judge s m (tlyPage d) R.TLY_CTX_CTRL 8 (v ||| 8#64) = .ok ∧ bitOf v 0 = false ∧ bitOf v 1 = false ∧ bitOf v 4 = false ∧ ctxOf s d (ctxAddr s d) = c ∧ c.valid = true) :=
  ⟨⟨wTally wInteg [], 0, 0, 0#64, by decide +kernel⟩,
   ⟨setReg 0x224 0x110 0xD (wTally wInteg []), 0, 0, 3, 0#64, by decide +kernel⟩,
   ⟨setRegsFrom 0x224 0x100 [1, 0, 65537, 1, 1048576 * 4, 1048576 * 8, 0, 0, 0] (wTally wInteg []), 0, 0, 0#64, by decide +kernel⟩,
   ⟨wTally wInteg [], 0, 0, 0#64, ctxOf (wTally wInteg []) 0 0, by decide +kernel⟩⟩

theorem test_witness_TallyContexts_2 :
    (∃ (s : State) (m : Nat) (d : Nat) (v : Word) (c : TlyCtx),
    d < 4 ∧ judge s m (tlyPage d) R.TLY_CTX_CTRL 8 (v ||| 16#64) = .ok ∧ bitOf v 0 = false ∧ bitOf v 1 = false ∧ bitOf v 3 = false ∧ ctxOf s d (ctxAddr s d) = c ∧ c.valid = true) ∧
    (∃ (s : State) (m : Nat) (d : Nat) (v : Word),
    d < 4 ∧ judge s m (tlyPage d) R.TLY_CTX_CTRL 8 (v ||| 8#64) = .ok ∧ bitOf v 0 = false ∧ bitOf v 1 = false ∧ bitOf v 4 = false ∧ (ctxOf s d (ctxAddr s d)).valid = false) ∧
    (∃ (s : State) (h : Nat) (d : Nat) (c : TlyCtx) (o : MarkOcc),
    markOcc s h 1 = some o ∧ bitsSet (o.arg64 % 16) 4 = [d] ∧ ctxOf s d (o.arg8 % 16) = c ∧ c.valid = true ∧ s.mrk.done.length < 256) ∧
    (∃ (s : State) (h : Nat) (d : Nat) (c : TlyCtx) (o : MarkOcc),
    markOcc s h 2 = some o ∧ bitsSet (o.arg64 % 16) 4 = [d] ∧ ctxOf s d (o.arg8 % 16) = c ∧ c.valid = true ∧ s.mrk.done.length < 256) :=
  ⟨⟨wTally wInteg [], 0, 0, 0#64, ctxOf (wTally wInteg []) 0 0, by decide +kernel⟩,
   ⟨wOn 0x224 w0, 0, 0, 0#64, by decide +kernel⟩,
   ⟨{ wTally wInteg [] with mrk := wMark 6 10 1 (1 : Word) }, 6, 0, ctxOf (wTally wInteg []) 0 0, ⟨6, 655360, false, false, 1, 1, 0, 0, 0, 0, []⟩, by decide +kernel⟩,
   ⟨{ wTally wInteg [] with mrk := wMark 6 10 2 (1 : Word) }, 6, 0, ctxOf (wTally wInteg []) 0 0, ⟨6, 655360, false, false, 2, 1, 0, 0, 0, 0, []⟩, by decide +kernel⟩⟩

theorem test_witness_TallyContexts_3 : ∃ (s : State) (h : Nat) (k : Nat) (d : Nat) (b : Bool) (i : Instr) (c : TlyCtx) (o : MarkOcc),
    markOcc s h k = some o ∧ d < 4 ∧ ((i = .intStart h ∧ k = 1 ∧ b = true ∨ i = .intEnd h ∧ k = 2 ∧ b = false)) ∧ ctxOf s d (o.arg8 % 16) = c :=
  ⟨{ wTally wInteg [] with mrk := wMark 6 10 1 (3 : Word) }, 6, 1, 0, true, .intStart 6, ctxOf (wTally wInteg []) 0 0, ⟨6, 655360, false, false, 1, 3, 0, 0, 0, 0, []⟩, by decide +kernel⟩

theorem test_witness_IntegrationsCloseAndEmit_1 :
    (∃ (s : State) (d : Nat) (ctx : Nat) (e : Nat) (lost : Bool) (g : Integ) (l : List Integ),
    d < 4 ∧ ctx < 16 ∧ pageLive s (tlyPage d) = true ∧ (ctxOf s d ctx).ints = g :: l ∧ g.combined = false ∧ closable s d (ctxOf s d ctx) g = true ∧ g.ending (ctxOf s d ctx) = some e ∧ gangMode s (ctxOf s d ctx).region ≠ 2 ∧ (tlyDie s d).reorder = [] ∧ ((∀ x ∈ l, x.num ≠ g.num)) ∧ ((∀ x ∈ s.zhk.early, ¬ (x.die = d ∧ x.ctx = ctx)))) ∧
    (∃ (s : State) (d : Nat) (ctx : Nat) (lost : Bool) (g : Integ) (l : List Integ),
    (ctxOf s d ctx).ints = g :: l ∧ g.combined = false ∧ g.skipped = false ∧ g.closed = false ∧ closable s d (ctxOf s d ctx) g = false) ∧
    (∃ (s : State) (d : Nat) (ctx : Nat) (g : Integ) (l : List Integ),
    (ctxOf s d ctx).ints = g :: l ∧ g.combined = false ∧ g.skipped = false ∧ g.closed = true ∧ gangMode s (ctxOf s d ctx).region = 2 ∧ partialsIn s (ctxOf s d ctx) g = false) ∧
    (∃ (s : State) (d : Nat) (ctx : Nat) (g : Integ) (l : List Integ),
    d < 4 ∧ ctx < 16 ∧ pageLive s (tlyPage d) = true ∧ (ctxOf s d ctx).ints = g :: l ∧ ((∀ x ∈ l, x.num ≠ g.num)) ∧ g.combined = false ∧ g.skipped = false ∧ g.closed = true ∧ gangMode s (ctxOf s d ctx).region = 2 ∧ gangMember s = 0 ∧ partialsIn s (ctxOf s d ctx) g = false ∧ s.zhk.early = [] ∧ (tlyDie s d).reorder = []) :=
  ⟨⟨{ wTally { wInteg with opened := 0 } [] with sch := { dies := [(0, { next := [(0, 4)] })] } }, 0, 0, 4, true, { wInteg with opened := 0 }, [], by decide +kernel⟩,
   ⟨wTally wInteg [], 0, 0, false, wInteg, [], by decide +kernel⟩,
   ⟨wSplit 0 [], 0, 0, wSplitInteg [], [], by decide +kernel⟩,
   ⟨wSplit 0 [], 0, 0, wSplitInteg [], [], by decide +kernel⟩⟩

theorem test_witness_IntegrationsCloseAndEmit_2 :
    (∃ (s : State) (d : Nat) (ctx : Nat) (lost : Bool) (g : Integ) (l : List Integ),
    d < 4 ∧ ctx < 16 ∧ pageLive s (tlyPage d) = true ∧ (ctxOf s d ctx).ints = g :: l ∧ ((∀ x ∈ l, x.num ≠ g.num)) ∧ g.combined = false ∧ g.skipped = false ∧ g.closed = true ∧ gangMode s (ctxOf s d ctx).region = 2 ∧ gangMember s ≠ 0 ∧ partialsIn s (ctxOf s d ctx) g = true ∧ (tlyDie s d).reorder = []) ∧
    (∃ (s : State) (d : Nat) (ctx : Nat) (cl : Nat) (done : Nat) (g : Integ) (l : List Integ) (cs : List Nat) (x : TlyRec) (rest : List TlyRec) (p : (Nat × List Byte) × State),
    d < 4 ∧ ctx < 16 ∧ pageLive s (tlyPage d) = true ∧ (ctxOf s d ctx).ints = g :: l ∧ g.combined = true ∧ g.freed = false ∧ g.chans = cl :: cs ∧ g.recs = x :: rest ∧ ((∀ y ∈ l, y.num ≠ g.num)) ∧ ceilDiv (32 * ((ctxOf s d ctx).rowBlkHi + 1 - (ctxOf s d ctx).rowBlkLo)) 512 - ((x :: rest).filter TlyRec.isRows).length = done ∧ recPayload d ctx (ctxOf s d ctx) g cl done x (updInteg d ctx g.num (fun g => { g with recs := x :: rest }) s) = p ∧ (emitTwice d p.1.1 p.1.2 p.2).1 = .noRoom) ∧
    (∃ (s : State) (d : Nat) (ctx : Nat) (cl : Nat) (done : Nat) (g : Integ) (l : List Integ) (cs : List Nat) (x : TlyRec) (rest : List TlyRec) (p : (Nat × List Byte) × State),
    d < 4 ∧ ctx < 16 ∧ pageLive s (tlyPage d) = true ∧ (ctxOf s d ctx).ints = g :: l ∧ g.combined = true ∧ g.freed = false ∧ g.chans = cl :: cs ∧ g.recs = x :: rest ∧ ((∀ y ∈ l, y.num ≠ g.num)) ∧ ceilDiv (32 * ((ctxOf s d ctx).rowBlkHi + 1 - (ctxOf s d ctx).rowBlkLo)) 512 - ((x :: rest).filter TlyRec.isRows).length = done ∧ recPayload d ctx (ctxOf s d ctx) g cl done x (updInteg d ctx g.num (fun g => { g with recs := x :: rest }) s) = p ∧ (emitTwice d p.1.1 p.1.2 p.2).1 = .done) ∧
    (∃ (s : State) (d : Nat) (ctx : Nat) (cl : Nat) (done : Nat) (g : Integ) (l : List Integ) (cs : List Nat) (x : TlyRec) (rest : List TlyRec) (p : (Nat × List Byte) × State),
    d < 4 ∧ ctx < 16 ∧ pageLive s (tlyPage d) = true ∧ (ctxOf s d ctx).ints = g :: l ∧ g.combined = true ∧ g.freed = false ∧ g.chans = cl :: cs ∧ g.recs = x :: rest ∧ ((∀ y ∈ l, y.num ≠ g.num)) ∧ ceilDiv (32 * ((ctxOf s d ctx).rowBlkHi + 1 - (ctxOf s d ctx).rowBlkLo)) 512 - ((x :: rest).filter TlyRec.isRows).length = done ∧ recPayload d ctx (ctxOf s d ctx) g cl done x (updInteg d ctx g.num (fun g => { g with recs := x :: rest }) s) = p ∧ (emitTwice d p.1.1 p.1.2 p.2).1 = .error) :=
  ⟨⟨wSplit 1 [], 0, 0, false, wSplitInteg [], [], by decide +kernel⟩,
   ⟨wRing 0 { reserve := 255 } (wTally wEmitting []), 0, 0, 0, 0, wEmitting, [], [], .rows [1, 2, 3], [], wEmit (wRing 0 { reserve := 255 } (wTally wEmitting [])), by decide +kernel⟩,
   ⟨wRing 0 {} (wTally wEmitting []), 0, 0, 0, 0, wEmitting, [], [], .rows [1, 2, 3], [], wEmit (wRing 0 {} (wTally wEmitting [])), by decide +kernel⟩,
   ⟨wTally wEmitting [], 0, 0, 0, 0, wEmitting, [], [], .rows [1, 2, 3], [], wEmit (wTally wEmitting []), by decide +kernel⟩⟩

theorem test_witness_IntegrationsCloseAndEmit_3 : ∃ (s : State) (d : Nat) (ctx : Nat) (lost : Bool),
    ((pageLive s (tlyPage d) = false ∨ (ctxOf s d ctx).ints = [])) :=
  ⟨w0, 0, 0, false, by decide +kernel⟩

theorem test_witness_ZhokLinkFrames_1 :
    (∃ (s : State) (s1 : State) (z : Nat) (rx : Nat) (words : List LaneWord) (data : List Byte),
    s1 = (zhkWords z ((frameLanes s z).zip words) (advanceTo rx s)).2.2 ∧ frameGood s1 z true words data = true ∧ z < 4 ∧ linkUp s z = true ∧ (zhkWords z ((frameLanes s z).zip words) (advanceTo rx s)).1 = true ∧ (zhkWords z ((frameLanes s z).zip words) (advanceTo rx s)).2.1 = [] ∧ skewedLanes s1 z = [] ∧ byteAt data 4 = 0 ∧ (zhkLink s z).kept = [] ∧ (zhkLink s z).step = none) ∧
    (∃ (s : State) (s1 : State) (z : Nat) (rx : Nat) (ok : Bool) (words : List LaneWord) (data : List Byte),
    s1 = (zhkWords z ((frameLanes s z).zip words) (advanceTo rx s)).2.2 ∧ z < 4 ∧ linkUp s z = true ∧ (zhkWords z ((frameLanes s z).zip words) (advanceTo rx s)).1 = ok ∧ (zhkWords z ((frameLanes s z).zip words) (advanceTo rx s)).2.1 = [] ∧ skewedLanes s1 z = [] ∧ frameGood s1 z ok words data = false ∧ (zhkLink s z).kept.length < 512 ∧ (zhkLink s z).step = none) ∧
    (∃ (s : State) (s1 : State) (z : Nat) (rx : Nat) (f : ZhkFrame) (l : List ZhkFrame) (words : List LaneWord) (data : List Byte),
    s1 = (zhkWords z ((frameLanes s z).zip words) (advanceTo rx s)).2.2 ∧ frameGood s1 z true words data = true ∧ z < 4 ∧ linkUp s z = true ∧ (zhkWords z ((frameLanes s z).zip words) (advanceTo rx s)).1 = true ∧ (zhkWords z ((frameLanes s z).zip words) (advanceTo rx s)).2.1 = [] ∧ skewedLanes s1 z = [] ∧ byteAt data 4 = 1 ∧ (zhkLink s z).kept = f :: l ∧ f.seq = bytesAt data 2 2 ∧ (zhkLink s z).resends < 7 ∧ (zhkLink s z).step = none) ∧
    (∃ (s : State) (z : Nat) (rx : Nat) (words : List LaneWord) (data : List Byte) (table : Option GangTable),
    linkUp s z = false) :=
  ⟨⟨wGang { up := true, half := true, rxSeq := 5, txSeq := 9 }, _, 0, 3, wWords, wLinkFrame 5 0 0, rfl, wLinkFrame_good _ _ _ _ _ (by decide +kernel) (by decide +kernel), by decide +kernel⟩,
   ⟨wGang { up := true, half := true, rxSeq := 5, txSeq := 9 }, _, 0, 3, true, wWords, wLinkFrame 6 0 0, rfl, by decide +kernel⟩,
   ⟨wGang { up := true, half := true, rxSeq := 5, txSeq := 9, kept := [⟨8, [], []⟩] }, _, 0, 3, ⟨8, [], []⟩, [], wWords, wLinkFrame 5 8 1, rfl, wLinkFrame_good _ _ _ _ _ (by decide +kernel) (by decide +kernel), by decide +kernel⟩,
   ⟨wGang {}, 0, 3, [], [], none, by decide +kernel⟩⟩

theorem test_witness_ZhokLinkFrames_2 :
    (∃ (s : State) (s1 : State) (z : Nat),
    s1 = countK (zhkPage z) R.ZHK_CNT 5 1 (setSticky (zhkPage z) S.ZHK_RETRAIN (advanceMono ((zhkLink s z).ackAt + 100 * usUnits) s)) ∧ z < 4 ∧ linkUp s z = true ∧ (zhkLink s z).kept ≠ [] ∧ (countRetry (zhkPage z) (linkRefresh z ((usedLanes s z).foldl (fun u n => setZhkLane n (trainFast (zhkLane u n)) u) s1))).2 = false) ∧
    (∃ (s : State) (z : Nat) (cls : Nat),
    z < 4 ∧ linkUp s z = true ∧ (zhkLink s z).xoff.testBit cls = true ∧ (zhkLink s z).waiting.any (fun k => decide (zhkClass k.kind = cls)) = true) ∧
    (∃ (s : State) (n : Nat),
    n < 32 ∧ inFullTraining (zhkLane s n) = true) ∧
    (∃ (s : State) (n : Nat),
    n < 32 ∧ inFastRetrain (zhkLane s n) = true) :=
  ⟨⟨wGang { up := true, kept := [⟨8, [], []⟩], ackAt := 10 }, _, 0, rfl, by decide +kernel⟩,
   ⟨wGang { up := true, xoff := 2, waiting := [wPacket] }, 0, 1, by decide +kernel⟩,
   ⟨{ wGang {} with zhk := { lanes := [(3, { st := .tune, rate := 1 })] } }, 3, by decide +kernel⟩,
   ⟨{ wGang {} with zhk := { lanes := [(3, { st := .retrain, rate := 2, fast := true })] } }, 3, by decide +kernel⟩⟩

theorem test_witness_ZhokLinkFrames_3 :
    (∃ (s : State) (n : Nat) (r : Nat) (t0 : Nat),
    n < 32 ∧ (zhkLane s n).st = .lock ∧ (zhkLane s n).switched = some (r, t0) ∧ r < 2) ∧
    (∃ (s : State) (n : Nat) (r : Nat) (t0 : Nat),
    n < 32 ∧ (zhkLane s n).st = .lock ∧ (zhkLane s n).switched = some (r, t0) ∧ 2 ≤ r) ∧
    (∃ (s : State) (s1 : State) (z : Nat) (rx : Nat) (ok : Bool) (words : List LaneWord) (data : List Byte) (tb : Option GangTable),
    s1 = (zhkWords z ((frameLanes s z).zip words) (advanceTo rx s)).2.2 ∧ linkUp s z = true ∧ (zhkWords z ((frameLanes s z).zip words) (advanceTo rx s)).1 = ok ∧ (zhkWords z ((frameLanes s z).zip words) (advanceTo rx s)).2.1 = [] ∧ skewedLanes s1 z = []) ∧
    (∃ (s : State) (n : Nat) (fr : RxFrame) (inv : Bool) (eq : EqInput),
    n < 32 ∧ pageLive s (zhkPage (n / 8)) = true ∧ fr.fec = 0 ∧ rxIsTrain fr = true ∧ (zhkLane s n).st = .lock ∧ (zhkLane s n).good = 3 ∧ (zhkLane s n).goodInv = inv ∧ (zhkLane s n).polKnown = false ∧ (zhkLane s n).stepping = none) :=
  ⟨⟨{ wGang {} with zhk := { lanes := [(3, { st := .lock, rate := 2, switched := some (1, 0) })] } }, 3, 1, 0, by decide +kernel⟩,
   ⟨{ wGang {} with zhk := { lanes := [(3, { st := .lock, rate := 3, switched := some (2, 0) })] } }, 3, 2, 0, by decide +kernel⟩,
   ⟨wGang { up := true, half := true, rxSeq := 5, txSeq := 9 }, _, 0, 3, true, wWords, [], some ⟨1, [], [], []⟩, rfl, by decide +kernel⟩,
   ⟨{ wGang {} with zhk := { lanes := [(3, { st := .lock, good := 3 })] } }, 3, wTrain, false, ⟨false, 0⟩, by decide +kernel⟩⟩

theorem test_witness_ZhokLinkFrames_4 :
    (∃ (s : State) (z : Nat) (cls : Nat),
    unarmed s (zhkPage z) ∧ ((linkUp s z = false ∨ (zhkLink s z).xoff.testBit cls = false))) ∧
    (∃ (s : State) (n : Nat) (fr : RxFrame) (inv : Bool) (eq : EqInput),
    n < 32 ∧ (zhkLane s n).st = .run ∧ peerRetrains fr = false) :=
  ⟨⟨wGang { up := true }, 0, 1, by decide +kernel⟩,
   ⟨{ wGang {} with zhk := { lanes := [(3, { st := .run, rate := 2 })] } }, 3, ⟨0, 1021, []⟩, false, ⟨false, 0⟩, by decide +kernel⟩⟩

theorem test_witness_ZhokRateSteps :
    (∃ (s : State) (z : Nat),
    z < 4 ∧ linkUp s z = true ∧ (zhkLink s z).half = false ∧ (zhkLink s z).step = none ∧ ((∃ m, wiredTo (gangSize s) (gangMember s) z = some m ∧ gangMember s < m)) ∧ flag s (zhkPage z) F.ZHK_CFG_STEP_EN = true ∧ linkUse s z < fld s (zhkPage z) F.ZHK_CFG_DOWN_THRESH) ∧
    (∃ (s : State) (z : Nat),
    ((flag s (zhkPage z) F.ZHK_CFG_STEP_EN = false ∨ (zhkLink s z).half = true ∨ fld s (zhkPage z) F.ZHK_CFG_DOWN_THRESH ≤ linkUse s z))) ∧
    (∃ (s : State) (z : Nat) (demand : Nat),
    z < 4 ∧ linkUp s z = true ∧ (zhkLink s z).half = true ∧ (zhkLink s z).step = none ∧ spareHeld s z = false ∧ groupRetired s z 0 = false ∧ groupRetired s z 1 = false ∧ ((fld s (zhkPage z) F.ZHK_CFG_UP_THRESH < demand ∨ (List.range 4).any (fun c => decide (256 * 1024 < classBytes (zhkLink s z) c)) = true))) ∧
    (∃ (s : State) (z : Nat) (x : ZhkStep),
    z < 4 ∧ (zhkLink s z).step = some x ∧ x.up = true ∧ quietReady s z = false ∧ (countRetry (zhkPage z) s).2 = false) :=
  ⟨⟨wGang { up := true, txSeq := 9 }, 0, by decide +kernel⟩,
   ⟨setFld 0x320 F.ZHK_CFG_STEP_EN 0 (wGang { up := true, txSeq := 9 }), 0, by decide +kernel⟩,
   ⟨wGang { up := true, half := true, txSeq := 9 }, 0, 200, by decide +kernel⟩,
   ⟨{ wGang { up := true, half := true, step := some ⟨true, true, 9, false⟩ } with zhk := { links := [(0, { up := true, half := true, step := some ⟨true, true, 9, false⟩ })], lanes := [(4, { st := .retrain })] } }, 0, ⟨true, true, 9, false⟩, by decide +kernel⟩⟩

theorem test_witness_ZhokPackets_1 :
    (∃ (s : State) (dest : Nat) (src : Nat) (region : Nat) (pos : Nat) (chan : Nat) (batch : Nat) (t0 : Nat) (code : Nat),
    gangSize s ≠ 1 ∧ dest ≠ gangMember s ∧ linksUp s = []) ∧
    (∃ (s : State) (dest : Nat) (src : Nat) (region : Nat) (pos : Nat) (chan : Nat) (batch : Nat) (t0 : Nat) (code : Nat) (z : Nat) (det : Bool),
    gangSize s ≠ 1 ∧ dest ≠ gangMember s ∧ zhkRoute s 1 dest = some (z, det)) ∧
    (∃ (s : State) (dest : Nat) (src : Nat) (d : Nat) (a : Nat) (o : TurnOperand),
    d = o.chan % 4 ∧ dest = gangMember s ∧ o.fpl = 4 * d ∧ unarmed s (fplPage (4 * d)) ∧ gangSize s ≠ 1 ∧ gangMode s o.region ≠ 0 ∧ regionValid s d o.region = true ∧ slotHolds s d o.region o.batch = true ∧ (tbSlot s d o.region o.batch).staged = false ∧ ((tbSlot s d o.region o.batch).ready = true ∨ absentPairs s d o.region o.batch ≠ [] ∧ ntGet (tbSlot s d o.region o.batch).arrived (o.pos * 65536 + o.chan / chanDiv s o.region) + 1 < regionT s d o.region) ∧ operandAddr s d o.region o.pos (o.chan / chanDiv s o.region) o.batch o.t = a ∧ hbmRefuses s a (operandCells s o d).length = false ∧ fenceHit s a (operandCells s o d).length = none ∧ touchesReserved a (operandCells s o d).length = false ∧ unarmed s (hbmPage (stackOf a)) ∧ ((∀ k, k < (operandCells s o d).length → rowFenced s (a + k) = false))) ∧
    (∃ (s : State) (dest : Nat) (src : Nat) (region : Nat) (pos : Nat) (chan : Nat) (batch : Nat) (t0 : Nat) (code : Nat),
    dest = gangMember s ∧ gangSize s ≠ 1 ∧ ((gangMode s region = 0 ∨ regionValid s (chan % 4) region = false))) :=
  ⟨⟨wGang {}, 1, 0, 0, 1, 4, 0, 0, 7, by decide +kernel⟩,
   ⟨wGang { up := true }, 1, 0, 0, 1, 4, 0, 0, 7, 0, false, by decide +kernel⟩,
   ⟨{ wGang { up := true } with fpl := { (wFpl { next := 1 }).fpl with slots := [(0, { busy := true, batch := 6 })] } }, _, 1, _, operandAddr { wGang {} with fpl := (wFpl { next := 1 }).fpl } 0 0 1 0 6 9, ⟨0, 0, 1, 4, 6, 9, 0x1234⟩, rfl, rfl, by decide +kernel⟩,
   ⟨wGang { up := true }, _, 1, 3, 1, 4, 0, 0, 7, rfl, by decide +kernel⟩⟩

theorem test_witness_ZhokPackets_2 :
    (∃ (s : State) (k : ZhkPacket) (t0 : Nat) (p : Nat),
    s.zhk.held.find? (fun h => (zhkRoute s h.1.kind h.1.dest).isNone) = some (k, t0) ∧ k.note = .none ∧ zhkPage (firstLink s k) = p) ∧
    (∃ (s : State) (k : ZhkPacket) (t0 : Nat) (p : Nat),
    s.zhk.held.find? (fun h => (zhkRoute s h.1.kind h.1.dest).isNone) = some (k, t0) ∧ zhkPage (firstLink s k) = p) ∧
    (∃ (s : State),
    s.zhk.held.find? (fun h => (zhkRoute s h.1.kind h.1.dest).isNone) = none) ∧
    (∃ (s : State) (dest : Nat) (src : Nat) (z : Nat) (k : Nat) (ring : Nat) (off : Nat) (d : Nat) (ctx : Nat) (n : Nat) (slot : Nat) (chan : Nat) (det : Bool) (pl : List Byte) (c : Instr) (x : GangMark) (cl : List (Nat × Nat)),
    (((c, k, pl) = (.partialOp dest src d ctx n slot chan pl, 2, pl) ∨ (c, k, pl) = (.record dest src ring off pl, 3, pl) ∨ ((c, k) = (.mark dest src x, 4) ∧ (∀ h b, x = .answer h b → pl = leBytes 4 h) ∧ (∀ h b w, x = .enter h b w → pl = w.flatMap (fun y => leBytes 8 y.toNat))) ∨ (c, k, pl) = (.claim dest src cl, 5, cl.flatMap (fun y => leBytes 2 y.1 ++ leBytes 2 y.2)))) ∧ gangSize s ≠ 1 ∧ dest ≠ gangMember s ∧ zhkRoute s k dest = some (z, det) ∧ pl ≠ [] ∧ pl.length ≤ 4096 ∧ s.zhk.held = [] ∧ ((ntGet s.zhk.flowLink dest = 0 ∨ ntGet s.zhk.flowLink dest = z + 1))) :=
  ⟨⟨{ wGang {} with zhk := { held := [(wPacket, 10)] } }, wPacket, 10, 0x320, by decide +kernel⟩,
   ⟨{ wGang {} with zhk := { held := [({ wPacket with note := .partials 0 0 4 }, 10)] } }, { wPacket with note := .partials 0 0 4 }, 10, 0x320, by decide +kernel⟩,
   ⟨wGang { up := true }, by decide +kernel⟩,
   ⟨wGang { up := true }, 1, 0, 0, 3, 4, 64, 0, 2, 4, 0, 0, false, [7, 8, 9], .record 1 0 4 64 [7, 8, 9], .answer 5 true, [], Or.inr (Or.inl rfl), by decide +kernel⟩⟩

theorem test_witness_ZhokPackets_3 :
    (∃ (s : State) (dest : Nat) (src : Nat) (z : Nat) (k : Nat) (ring : Nat) (off : Nat) (d : Nat) (ctx : Nat) (n : Nat) (slot : Nat) (chan : Nat) (det : Bool) (pl : List Byte) (c : Instr) (x : GangMark) (cl : List (Nat × Nat)),
    (((c, k, pl) = (.partialOp dest src d ctx n slot chan pl, 2, pl) ∨ (c, k, pl) = (.record dest src ring off pl, 3, pl) ∨ ((c, k) = (.mark dest src x, 4) ∧ (∀ h b, x = .answer h b → pl = leBytes 4 h) ∧ (∀ h b w, x = .enter h b w → pl = w.flatMap (fun y => leBytes 8 y.toNat))) ∨ (c, k, pl) = (.claim dest src cl, 5, cl.flatMap (fun y => leBytes 2 y.1 ++ leBytes 2 y.2)))) ∧ gangSize s ≠ 1 ∧ dest ≠ gangMember s ∧ zhkRoute s k dest = some (z, det) ∧ pl ≠ [] ∧ pl.length ≤ 4096 ∧ s.zhk.held = [] ∧ ((ntGet s.zhk.flowLink dest = 0 ∨ ntGet s.zhk.flowLink dest = z + 1))) ∧
    (∃ (s : State) (dest : Nat) (src : Nat) (k : Nat) (ring : Nat) (off : Nat) (d : Nat) (ctx : Nat) (n : Nat) (slot : Nat) (chan : Nat) (pl : List Byte) (c : Instr) (x : GangMark) (cl : List (Nat × Nat)),
    gangSize s = 1 ∧ c ∈ [.corner dest src d slot chan n k off, .partialOp dest src d ctx n slot chan pl, .record dest src ring off pl, .mark dest src x, .claim dest src cl]) ∧
    (∃ (s : State) (dest : Nat) (src : Nat) (d : Nat) (ctx : Nat) (n : Nat) (slot : Nat) (chan : Nat) (l : List Byte),
    dest = gangMember s ∧ gangSize s ≠ 1 ∧ (ctxOf s d ctx).integ n = none ∧ ((src ∉ partialSenders (gangSize s) (gangMember s) ∨ (ctxOf s d ctx).valid = false ∨ n < (ctxOf s d ctx).nextNum))) ∧
    (∃ (s : State) (src : Nat) (d : Nat) (ctx : Nat) (n : Nat) (slot : Nat) (chan : Nat) (l : List Byte),
    gangSize s ≠ 1 ∧ src ∈ partialSenders (gangSize s) (gangMember s) ∧ (ctxOf s d ctx).integ n = none ∧ (ctxOf s d ctx).valid = true ∧ (ctxOf s d ctx).nextNum ≤ n) :=
  ⟨⟨wGang { up := true }, 1, 0, 0, 5, 4, 64, 0, 2, 4, 0, 0, false, [3, 0, 9, 0], .claim 1 0 [(3, 9)], .answer 5 true, [(3, 9)], Or.inr (Or.inr (Or.inr rfl)), by decide +kernel⟩,
   ⟨w0, 1, 0, 0, 4, 64, 0, 2, 4, 0, 0, [], .claim 1 0 [], .answer 5 true, [], by decide +kernel⟩,
   ⟨wGang {}, _, 1, 0, 2, 4, 0, 0, [], rfl, by decide +kernel⟩,
   ⟨setFld 0x320 F.ZHK_GANG_SIZE 1 (wOn 0x320 (wTally wInteg [])), 1, 0, 0, 7, 0, 0, [], by decide +kernel⟩⟩

theorem test_witness_ZhokPackets_4 :
    (∃ (s : State) (u : State) (src : Nat) (d : Nat) (ctx : Nat) (n : Nat) (l : List Byte) (c : TlyCtx) (g : Integ) (q : SlotId) (r : SlotVal × State),
    src = 1 ∧ u = (takeRx 2 0 src ((List.range ((l.length + 4095) / 4096 - 1)).foldl (fun s _ => (takeRx 2 0 src s).2) s)).2 ∧ d < 4 ∧ gangSize s = 4 ∧ gangMember s = 0 ∧ ctxOf s d ctx = c ∧ c.integ n = some g ∧ g.closed = true ∧ g.combined = false ∧ g.skipped = false ∧ (g.finals.find? (fun x => decide (x.slot = q.slot ∧ x.chan = q.chan)) = some q) ∧ (1 + 8 * c.slotNum q) ∉ g.partials ∧ (2 + 8 * c.slotNum q) ∉ g.partials ∧ ((s.zhk.early.filter (fun x => decide (x.die = d ∧ x.ctx = ctx))) = []) ∧ takeSlot d c g q u = r) ∧
    (∃ (s : State) (src : Nat) (ring : Nat) (off : Nat) (bytes : List Byte),
    gangSize s ≠ 1 ∧ off ≠ 0 ∧ (s.zhk.records.find? (fun r => decide (r.src = src ∧ r.ring = ring)) = none)) ∧
    (∃ (s : State) (src : Nat) (ring : Nat) (bytes : List Byte),
    gangSize s ≠ 1 ∧ s.zhk.records = [] ∧ bytes.length < 64) ∧
    (∃ (s : State) (u : State) (src : Nat) (ring : Nat) (off : Nat) (r : ZhkRecv) (bytes : List Byte),
    u = (takeRx 3 (gangMember s) src s).2 ∧ gangSize s ≠ 1 ∧ s.zhk.records = [r] ∧ r.src = src ∧ r.ring = ring ∧ r.data.length = off ∧ off ≠ 0) :=
  ⟨⟨{ wTally { wInteg with closed := true, entries := [⟨2, 0, 0, 0⟩] } [] with regs := (setFld 0x320 F.ZHK_GANG_SIZE 2 (wTally wInteg [])).regs }, _, _, 0, 0, 4, [], ctxOf (wTally { wInteg with closed := true, entries := [⟨2, 0, 0, 0⟩] } []) 0 0, { wInteg with closed := true, entries := [⟨2, 0, 0, 0⟩] }, ⟨0, 0, 0, 0, 0, 0⟩, takeSlot 0 (ctxOf (wTally { wInteg with closed := true, entries := [⟨2, 0, 0, 0⟩] } []) 0 0) { wInteg with closed := true, entries := [⟨2, 0, 0, 0⟩] } ⟨0, 0, 0, 0, 0, 0⟩ { wTally { wInteg with closed := true, entries := [⟨2, 0, 0, 0⟩] } [] with regs := (setFld 0x320 F.ZHK_GANG_SIZE 2 (wTally wInteg [])).regs }, rfl, rfl, by decide +kernel⟩,
   ⟨wGang {}, 1, 4, 64, [1, 2], by decide +kernel⟩,
   ⟨wGang {}, 1, 4, [1, 2], by decide +kernel⟩,
   ⟨{ wGang {} with zhk := { records := [⟨1, 4, none, [1, 2], 10⟩] } }, _, 1, 4, 2, ⟨1, 4, none, [1, 2], 10⟩, [9], rfl, by decide +kernel⟩⟩

theorem test_witness_ZhokPackets_5 :
    (∃ (s : State) (u : State) (s1 : State) (src : Nat) (ring : Nat) (len : Nat) (a : Nat) (bytes : List Byte),
    u = (takeRx 3 (gangMember s) src s).2 ∧ gangSize s ≠ 1 ∧ s.zhk.records = [] ∧ bytesAt bytes 8 4 = len ∧ bytes.length = 64 + len ∧ openSpan s ring 7 = none ∧ ringReserve ring 7 (recordUnits len) u = (.granted a, s1) ∧ s1.zhk = u.zhk) ∧
    (∃ (s : State) (u : State) (src : Nat) (ring : Nat) (a : Nat) (r : ZhkRecv),
    u = { advanceMono (r.seen + msUnits) s with zhk := { (advanceMono (r.seen + msUnits) s).zhk with records := [] } } ∧ s.zhk.records = [r] ∧ r.src = src ∧ r.ring = ring ∧ r.start = some a ∧ ((r.data.length < 64 ∨ r.data.length < 64 + bytesAt r.data 8 4))) ∧
    (∃ (s : State) (src : Nat) (ring : Nat) (r : ZhkRecv),
    s.zhk.records = [r] ∧ r.src = src ∧ r.ring = ring ∧ r.data.length < 64 ∧ r.start = none) ∧
    (∃ (s : State) (src : Nat) (h : Nat) (claim : Nat) (w : List Word),
    gangSize s ≠ 1 ∧ unarmed s 0x320 ∧ unarmed s mrkPage ∧ wordsTime w < devTime s + 100 * usUnits) :=
  ⟨⟨wRing 4 {} (wGang {}), _, (ringReserve 4 7 (recordUnits 3) (takeRx 3 0 1 (wRing 4 {} (wGang {}))).2).2, 1, 4, 3, 0, [0, 0, 0, 0, 0, 0, 2, 1, 3, 0, 0, 0] ++ List.replicate 52 0 ++ [5, 6, 7], rfl, by decide +kernel⟩,
   ⟨wRing 4 { reserve := 2, spans := [⟨0, 2, .opened, 7, none⟩] } { wGang {} with zhk := { records := [⟨1, 4, some 0, [1, 2], 10⟩] } }, _, 1, 4, 0, ⟨1, 4, some 0, [1, 2], 10⟩, rfl, by decide +kernel⟩,
   ⟨{ wGang {} with zhk := { records := [⟨1, 4, none, [1, 2], 10⟩] } }, 1, 4, ⟨1, 4, none, [1, 2], 10⟩, by decide +kernel⟩,
   ⟨wGang { up := true }, 0, 5, 2, [0, 7, 0, 0], by decide +kernel⟩⟩

theorem test_witness_ZhokPackets_6 :
    (∃ (s : State) (src : Nat) (h : Nat) (claim : Nat) (w : List Word),
    gangSize s ≠ 1 ∧ unarmed s 0x320 ∧ unarmed s mrkPage ∧ devTime s + 100 * usUnits ≤ wordsTime w ∧ markFull s = false) ∧
    (∃ (s : State) (src : Nat) (h : Nat) (e : MarkEntry),
    gangSize s ≠ 1 ∧ unarmed s 0x320 ∧ sparseFind s.mrk.entries h = some e) ∧
    (∃ (s : State) (src : Nat) (h : Nat),
    gangSize s ≠ 1 ∧ unarmed s 0x320) :=
  ⟨⟨wGang { up := true }, 0, 5, 2, [9, 7, 0, 0], by decide +kernel⟩,
   ⟨{ wGang { up := true } with mrk := (markEnter 2 655360 [0, 10, 0, 0] w0).2.mrk }, 1, 0, ((sparseFind (markEnter 2 655360 [0, 10, 0, 0] w0).2.mrk.entries 0).getD ⟨0, false, false, 0, 0, 0, 0, 0, false, 0, false⟩), by decide +kernel⟩,
   ⟨wGang { up := true }, 1, 0, by decide +kernel⟩⟩

theorem test_witness_SharedOutputs_1 :
    (∃ (s : State) (src : Nat) (i : Nat) (claims : List (Nat × Nat)),
    1 < gangSize s ∧ unarmed s 0x320 ∧ pageLive s 0x320 = true ∧ i < 16) ∧
    (∃ (s : State) (i : Nat),
    1 < gangSize s ∧ unarmed s 0x320 ∧ pageLive s 0x320 = true ∧ i < 16) ∧
    (∃ (s : State) (i : Nat) (m : Nat) (r : ZhkReport),
    i < 16 ∧ unarmed s 0x320 ∧ bitOf (sharedWord s i) 0 = true ∧ bitOf (sharedWord s i) 12 = true ∧ (reportsOf s (fieldOf (sharedWord s i) 8 4)).find? (fun x => decide (x.member = m)) = some r) ∧
    (∃ (s : State) (i : Nat) (t0 : Nat),
    i < 16 ∧ 1 < gangSize s ∧ unarmed s 0x320 ∧ pageLive s 0x320 = true ∧ (alGet ({} : ZhkStand) s.zhk.stands i) = { since := some t0, isolated := false } ∧ bitOf (sharedWord s i) 0 = true ∧ bestClaim s (fieldOf (sharedWord s i) 8 4) (latched s (sharedPage (sharedWord s i))) = (latched s (sharedPage (sharedWord s i)), gangMember s) ∧ claimTied s (fieldOf (sharedWord s i) 8 4) (latched s (sharedPage (sharedWord s i))) (latched s (sharedPage (sharedWord s i))) = false) :=
  ⟨⟨wShared 1 [⟨3, 1, 4, 0⟩] {}, 1, 2, [(3, 9)], by decide +kernel⟩,
   ⟨wShared 1 [⟨3, 1, 4, 0⟩] {}, 2, by decide +kernel⟩,
   ⟨wShared 1 [⟨3, 1, 4, 0⟩] {}, 2, 1, ⟨3, 1, 4, 0⟩, by decide +kernel⟩,
   ⟨wShared 0 [⟨3, 1, 4, 0⟩] { since := some 5 }, 2, 5, by decide +kernel⟩⟩

theorem test_witness_SharedOutputs_2 : ∃ (s : State) (i : Nat),
    (alGet ({} : ZhkStand) s.zhk.stands i).since = none :=
  ⟨wShared 0 [⟨3, 1, 4, 0⟩] {}, 2, by decide +kernel⟩

theorem test_witness_DeviceTime_1 :
    (∃ (s : State) (m : Nat),
    pageGated s tbsPage = false) ∧
    (∃ (s : State) (m : Nat) (v : Word),
    judge s m tbsPage R.TBS_SET_SUB 8 (withBit v 48 true) = .ok ∧ fieldOf v 16 32 ≤ 999999999 ∧ fld s tbsPage F.TBS_CFG_SOURCE = 0) ∧
    (∃ (s : State) (m : Nat) (v : Word),
    judge s m tbsPage R.TBS_SET_SUB 8 (withBit v 48 true) = .ok ∧ ((999999999 < fieldOf v 16 32 ∨ fld s tbsPage F.TBS_CFG_SOURCE ≠ 0))) ∧
    (∃ (s : State) (k : Nat) (origin : Nat) (rx : Nat) (d : Nat) (h : PtpHead) (predicted : Int),
    k < 2 ∧ pageLive s (ptpPage k) = true ∧ ((fld s (ptpPage k) F.PTP_STATUS_STATE = 2 ∨ fld s (ptpPage k) F.PTP_STATUS_STATE = 3)) ∧ ptpOwn s k h = true ∧ unarmed s (ethPage (fld s (ptpPage k) F.PTP_CFG_PORT)) ∧ (ptpClock s k).parent = some h.src ∧ (ptpClock s k).delay = some d ∧ fld s tbsPage F.TBS_CFG_SOURCE = 0 ∧ fld s tbsPage F.TBS_STATUS_ACTIVE = 0 ∧ flag s tbsPage F.TBS_CFG_AUTO = false) :=
  ⟨⟨{ w0 with devFine := 7 * 65536 * 1000000000 * 2^34 + 5 * 2^34 }, 3, by decide +kernel⟩,
   ⟨setReg 0x330 R.TBS_SET_S 9 (wOn 0x330 w0), 3, BitVec.ofNat 64 (5 * 65536 + 3), by decide +kernel⟩,
   ⟨setFld 0x330 F.TBS_CFG_SOURCE 1 (wOn 0x330 w0), 3, 5#64, by decide +kernel⟩,
   ⟨wPtp 2 0 { parent := some 5, delay := some 50 }, 0, 1000, 700, 50, ⟨0, 1, 0, 5, 9, 3, 0⟩, 350, by decide +kernel⟩⟩

theorem test_witness_DeviceTime_2 :
    (∃ (s : State) (k : Nat) (rx : Nat) (msg : PtpMsg) (predicted : Int),
    ((pageLive s (ptpPage k) = false ∨ fld s (ptpPage k) F.PTP_STATUS_STATE = 0 ∨ 4 ≤ fld s (ptpPage k) F.PTP_STATUS_STATE ∨ ptpOwn s k (ptpHead msg) = false))) ∧
    (∃ (s : State) (k : Nat) (rx : Nat) (h : PtpHead) (predicted : Int),
    k < 2 ∧ pageLive s (ptpPage k) = true ∧ 1 ≤ fld s (ptpPage k) F.PTP_STATUS_STATE ∧ fld s (ptpPage k) F.PTP_STATUS_STATE ≤ 3 ∧ ptpOwn s k h = true ∧ unarmed s (ptpPage k) ∧ fld s tbsPage F.TBS_CFG_SOURCE = 0 ∧ fld s tbsPage F.TBS_STATUS_ACTIVE = 0 ∧ flag s tbsPage F.TBS_CFG_AUTO = false ∧ ptpFromParent s k h = true) ∧
    (∃ (s : State) (k : Nat) (rx : Nat) (h : PtpHead) (predicted : Int) (origin : Nat),
    k < 2 ∧ pageLive s (ptpPage k) = true ∧ 1 ≤ fld s (ptpPage k) F.PTP_STATUS_STATE ∧ fld s (ptpPage k) F.PTP_STATUS_STATE ≤ 3 ∧ ptpOwn s k h = true ∧ unarmed s (ptpPage k) ∧ fld s tbsPage F.TBS_CFG_SOURCE = 0 ∧ fld s tbsPage F.TBS_STATUS_ACTIVE = 0 ∧ flag s tbsPage F.TBS_CFG_AUTO = false ∧ ptpFromParent s k h = true ∧ (ptpClock s k).delay = none) ∧
    (∃ (s : State) (k : Nat) (rx : Nat) (h : PtpHead) (predicted : Int) (origin : Nat) (d : Nat) (stamp : Nat) (corr : Int),
    k < 2 ∧ pageLive s (ptpPage k) = true ∧ 1 ≤ fld s (ptpPage k) F.PTP_STATUS_STATE ∧ fld s (ptpPage k) F.PTP_STATUS_STATE ≤ 3 ∧ ptpOwn s k h = true ∧ unarmed s (ptpPage k) ∧ fld s tbsPage F.TBS_CFG_SOURCE = 0 ∧ fld s tbsPage F.TBS_STATUS_ACTIVE = 0 ∧ flag s tbsPage F.TBS_CFG_AUTO = false ∧ 2 ≤ fld s (ptpPage k) F.PTP_STATUS_STATE ∧ ptpFromParent s k h = true ∧ (ptpClock s k).delay = some d ∧ (ptpClock s k).pending = some (h.seq, stamp, corr) ∧ unarmed s (ethPage (fld s (ptpPage k) F.PTP_CFG_PORT))) :=
  ⟨⟨setFld 0x331 F.PTP_STATUS_STATE 2 (wOn 0x331 w0), 0, 700, .sync ⟨0, 0, 1, 5, 9, 3, 0⟩ none, 350, by decide +kernel⟩,
   ⟨wPtp 2 0 { parent := some 5 }, 0, 700, ⟨0, 1, 0, 5, 9, 3, 0⟩, 350, by decide +kernel⟩,
   ⟨wPtp 2 0 { parent := some 5 }, 0, 700, ⟨0, 1, 0, 5, 9, 3, 0⟩, 350, 1000, by decide +kernel⟩,
   ⟨wPtp 3 0 { parent := some 5, delay := some 50, pending := some (9, 650, 2) }, 0, 700, ⟨0, 1, 0, 5, 9, 3, 0⟩, 350, 1000, 50, 650, 2, by decide +kernel⟩⟩

theorem test_witness_DeviceTime_3 :
    (∃ (s : State) (k : Nat) (rx : Nat) (h : PtpHead) (predicted : Int) (r : Nat) (t2 : Nat) (t3 : Nat) (t4 : Nat) (t1 : Int),
    r = ptpIdentity s k ∧ k < 2 ∧ pageLive s (ptpPage k) = true ∧ 1 ≤ fld s (ptpPage k) F.PTP_STATUS_STATE ∧ fld s (ptpPage k) F.PTP_STATUS_STATE ≤ 3 ∧ ptpOwn s k h = true ∧ unarmed s (ptpPage k) ∧ fld s tbsPage F.TBS_CFG_SOURCE = 0 ∧ fld s tbsPage F.TBS_STATUS_ACTIVE = 0 ∧ flag s tbsPage F.TBS_CFG_AUTO = false ∧ flag s (ptpPage k) F.PTP_CFG_P2P = false ∧ ptpFromParent s k h = true ∧ h.seq = (ptpClock s k).seq ∧ (ptpClock s k).sync = some (t1, t2) ∧ (ptpClock s k).asked = some t3) ∧
    (∃ (s : State) (k : Nat) (rx : Nat) (h : PtpHead) (predicted : Int),
    k < 2 ∧ pageLive s (ptpPage k) = true ∧ 1 ≤ fld s (ptpPage k) F.PTP_STATUS_STATE ∧ fld s (ptpPage k) F.PTP_STATUS_STATE ≤ 3 ∧ ptpOwn s k h = true ∧ unarmed s (ptpPage k) ∧ fld s tbsPage F.TBS_CFG_SOURCE = 0 ∧ fld s tbsPage F.TBS_STATUS_ACTIVE = 0 ∧ flag s tbsPage F.TBS_CFG_AUTO = false ∧ flag s (ptpPage k) F.PTP_CFG_P2P = true ∧ unarmed s (ethPage (fld s (ptpPage k) F.PTP_CFG_PORT)) ∧ (ethPort s (fld s (ptpPage k) F.PTP_CFG_PORT)).queue = []) ∧
    (∃ (s : State) (k : Nat) (rx : Nat) (h : PtpHead) (predicted : Int) (r : Nat) (t1 : Nat) (t2 : Nat),
    r = ptpIdentity s k ∧ k < 2 ∧ pageLive s (ptpPage k) = true ∧ 1 ≤ fld s (ptpPage k) F.PTP_STATUS_STATE ∧ fld s (ptpPage k) F.PTP_STATUS_STATE ≤ 3 ∧ ptpOwn s k h = true ∧ unarmed s (ptpPage k) ∧ fld s tbsPage F.TBS_CFG_SOURCE = 0 ∧ fld s tbsPage F.TBS_STATUS_ACTIVE = 0 ∧ flag s tbsPage F.TBS_CFG_AUTO = false ∧ flag s (ptpPage k) F.PTP_CFG_P2P = true ∧ h.seq = (ptpClock s k).seq ∧ (ptpClock s k).asked = some t1 ∧ (ptpClock s k).responder = none) ∧
    (∃ (s : State) (k : Nat) (rx : Nat) (h : PtpHead) (predicted : Int) (r : Nat) (t1 : Nat) (t2 : Nat),
    r = ptpIdentity s k ∧ k < 2 ∧ pageLive s (ptpPage k) = true ∧ 1 ≤ fld s (ptpPage k) F.PTP_STATUS_STATE ∧ fld s (ptpPage k) F.PTP_STATUS_STATE ≤ 3 ∧ ptpOwn s k h = true ∧ unarmed s (ptpPage k) ∧ fld s tbsPage F.TBS_CFG_SOURCE = 0 ∧ fld s tbsPage F.TBS_STATUS_ACTIVE = 0 ∧ flag s tbsPage F.TBS_CFG_AUTO = false ∧ flag s (ptpPage k) F.PTP_CFG_P2P = true ∧ h.seq = (ptpClock s k).seq ∧ (ptpClock s k).asked = some t1 ∧ (ptpClock s k).responder = none) :=
  ⟨⟨wPtp 2 0 { parent := some 5, sync := some (100, 160), seq := 9, asked := some 300 }, 0, 700, ⟨0, 1, 0, 5, 9, 3, 0⟩, 350, _, 160, 300, 380, 100, rfl, by decide +kernel⟩,
   ⟨wPtp 2 1 { parent := some 5 }, 0, 700, ⟨0, 1, 0, 5, 9, 3, 0⟩, 350, by decide +kernel⟩,
   ⟨wPtp 2 1 { parent := some 5, seq := 9, asked := some 300 }, 0, 700, ⟨0, 1, 0, 5, 9, 3, 0⟩, 350, _, 300, 380, rfl, by decide +kernel⟩,
   ⟨wPtp 2 1 { parent := some 5, seq := 9, asked := some 300 }, 0, 700, ⟨0, 1, 0, 5, 9, 3, 0⟩, 350, _, 300, 380, rfl, by decide +kernel⟩⟩

theorem test_witness_DeviceTime_4 :
    (∃ (s : State) (k : Nat) (rx : Nat) (h : PtpHead) (predicted : Int) (r : Nat) (t2 : Nat) (two : Bool),
    r = ptpIdentity s k ∧ k < 2 ∧ pageLive s (ptpPage k) = true ∧ 1 ≤ fld s (ptpPage k) F.PTP_STATUS_STATE ∧ fld s (ptpPage k) F.PTP_STATUS_STATE ≤ 3 ∧ ptpOwn s k h = true ∧ unarmed s (ptpPage k) ∧ fld s tbsPage F.TBS_CFG_SOURCE = 0 ∧ fld s tbsPage F.TBS_STATUS_ACTIVE = 0 ∧ flag s tbsPage F.TBS_CFG_AUTO = false ∧ flag s (ptpPage k) F.PTP_CFG_P2P = true ∧ h.seq = (ptpClock s k).seq ∧ (ptpClock s k).asked.isSome = true ∧ (ptpClock s k).responder.isSome = true ∧ (ptpClock s k).responder ≠ some h.src) ∧
    (∃ (s : State) (k : Nat) (rx : Nat) (h : PtpHead) (predicted : Int) (r : Nat) (t1 : Nat) (t3 : Nat) (t4 : Nat) (t2 : Int),
    r = ptpIdentity s k ∧ k < 2 ∧ pageLive s (ptpPage k) = true ∧ 1 ≤ fld s (ptpPage k) F.PTP_STATUS_STATE ∧ fld s (ptpPage k) F.PTP_STATUS_STATE ≤ 3 ∧ ptpOwn s k h = true ∧ unarmed s (ptpPage k) ∧ fld s tbsPage F.TBS_CFG_SOURCE = 0 ∧ fld s tbsPage F.TBS_STATUS_ACTIVE = 0 ∧ flag s tbsPage F.TBS_CFG_AUTO = false ∧ flag s (ptpPage k) F.PTP_CFG_P2P = true ∧ (ptpClock s k).asked = some t1 ∧ (ptpClock s k).answer = some (h.src, h.seq, t2, t4)) ∧
    (∃ (s : State) (k : Nat) (rx : Nat) (h : PtpHead) (predicted : Int) (q : List Nat) (gm : Nat) (steps : Nat) (b : PtpMaster),
    k < 2 ∧ pageLive s (ptpPage k) = true ∧ 1 ≤ fld s (ptpPage k) F.PTP_STATUS_STATE ∧ fld s (ptpPage k) F.PTP_STATUS_STATE ≤ 3 ∧ ptpOwn s k h = true ∧ unarmed s (ptpPage k) ∧ fld s tbsPage F.TBS_CFG_SOURCE = 0 ∧ fld s tbsPage F.TBS_STATUS_ACTIVE = 0 ∧ flag s tbsPage F.TBS_CFG_AUTO = false ∧ steps < 255 ∧ gm < 2 ^ 64 ∧ b.gm < 2 ^ 64 ∧ bestMaster (advanceTo rx s).mono ((ptpClock s k).masters.filter (fun x => decide (x.src ≠ h.src)) ++ [⟨h.src, q ++ [gm, steps, h.src], gm, ((advanceTo rx s).mono :: (((ptpClock s k).masters.find? (fun m => decide (m.src = h.src))).map (·.times)).getD []).take 2, logSeconds h.log⟩]) = some b) ∧
    (∃ (s : State) (k : Nat) (rx : Nat) (h : PtpHead) (predicted : Int) (q : List Nat) (gm : Nat) (steps : Nat),
    k < 2 ∧ pageLive s (ptpPage k) = true ∧ 1 ≤ fld s (ptpPage k) F.PTP_STATUS_STATE ∧ fld s (ptpPage k) F.PTP_STATUS_STATE ≤ 3 ∧ ptpOwn s k h = true ∧ unarmed s (ptpPage k) ∧ fld s tbsPage F.TBS_CFG_SOURCE = 0 ∧ fld s tbsPage F.TBS_STATUS_ACTIVE = 0 ∧ flag s tbsPage F.TBS_CFG_AUTO = false ∧ ((255 ≤ steps ∨ (ptpClock s k).masters = []))) :=
  ⟨⟨wPtp 2 1 { parent := some 5, seq := 9, asked := some 300, responder := some 6 }, 0, 700, ⟨0, 1, 0, 5, 9, 3, 0⟩, 350, _, 380, true, rfl, by decide +kernel⟩,
   ⟨wPtp 2 1 { parent := some 5, seq := 9, asked := some 300, answer := some (5, 9, 377, 700) }, 0, 700, ⟨0, 1, 0, 5, 9, 3, 0⟩, 350, _, 300, 390, 700, 377, rfl, by decide +kernel⟩,
   ⟨wPtp 1 0 { masters := [⟨5, [1, 2, 3, 4, 5, 77, 0, 5], 77, [0], 65536000000000⟩] }, 0, 700, ⟨0, 1, 0, 5, 9, 3, 0⟩, 350, [1, 2, 3, 4, 5], 77, 0, ⟨5, [1, 2, 3, 4, 5, 77, 0, 5], 77, [262144, 0], 65536000000000⟩, by decide +kernel⟩,
   ⟨wPtp 1 0 {}, 0, 700, ⟨0, 1, 0, 5, 9, 3, 0⟩, 350, [1, 2, 3, 4, 5], 77, 0, by decide +kernel⟩⟩

theorem test_witness_DeviceTime_5 :
    (∃ (s : State) (k : Nat) (rx : Nat) (h : PtpHead) (predicted : Int) (msg : PtpMsg),
    (((∃ x, msg = .sync h x) ∨ (∃ x, msg = .followUp h x) ∨ (∃ x r, msg = .delayResp h x r))) ∧ k < 2 ∧ pageLive s (ptpPage k) = true ∧ 1 ≤ fld s (ptpPage k) F.PTP_STATUS_STATE ∧ fld s (ptpPage k) F.PTP_STATUS_STATE ≤ 3 ∧ ptpOwn s k h = true ∧ unarmed s (ptpPage k) ∧ fld s tbsPage F.TBS_CFG_SOURCE = 0 ∧ fld s tbsPage F.TBS_STATUS_ACTIVE = 0 ∧ flag s tbsPage F.TBS_CFG_AUTO = false ∧ ptpFromParent s k h = false) ∧
    (∃ (s : State) (k : Nat),
    k < 2 ∧ pageLive s (ptpPage k) = true ∧ 2 ≤ fld s (ptpPage k) F.PTP_STATUS_STATE ∧ fld s tbsPage F.TBS_CFG_SOURCE = 0 ∧ fld s tbsPage F.TBS_STATUS_ACTIVE = 0 ∧ flag s tbsPage F.TBS_CFG_AUTO = false) ∧
    (∃ (s : State) (k : Nat),
    k < 2 ∧ pageLive s (ptpPage k) = true ∧ 2 ≤ fld s (ptpPage k) F.PTP_STATUS_STATE ∧ fld s tbsPage F.TBS_CFG_SOURCE = k + 1 ∧ flag s tbsPage F.TBS_CFG_AUTO = false ∧ timeValid s = true ∧ flag s tbsPage F.TBS_STATUS_HOLD = false) ∧
    (∃ (s : State) (n : Nat) (t0 : Nat) (width : Nat) (x : PpsIn),
    n < 2 ∧ ppsIn s n = x ∧ ppsStamped x t0 width = true ∧ 3 ≤ x.run ∧ ppsInTime x (stampOf t0) = true ∧ fld s tbsPage F.TBS_CFG_SOURCE = 0 ∧ fld s tbsPage F.TBS_STATUS_ACTIVE = 0 ∧ flag s tbsPage F.TBS_CFG_AUTO = false) :=
  ⟨⟨wPtp 2 0 { parent := some 6 }, 0, 700, ⟨0, 1, 0, 5, 9, 3, 0⟩, 350, .sync ⟨0, 1, 0, 5, 9, 3, 0⟩ none, Or.inl ⟨none, rfl⟩, by decide +kernel⟩,
   ⟨setFld 0x331 F.PTP_STATUS_QUALIFIED 1 (setFld 0x331 F.PTP_STATUS_STATE 3 (wOn 0x331 w0)), 0, by decide +kernel⟩,
   ⟨setFld 0x330 F.TBS_STATUS_TIME_VALID 1 (setFld 0x330 F.TBS_STATUS_ACTIVE 2 (setFld 0x330 F.TBS_CFG_SOURCE 2 (setFld 0x332 F.PTP_STATUS_QUALIFIED 1 (setFld 0x332 F.PTP_STATUS_STATE 3 (wOn 0x332 w0))))), 1, by decide +kernel⟩,
   ⟨{ w0 with devFine := 4 * 65536 * 1000000000 * 2^34, tbs := { pps := [(1, ⟨some (4 * 65536 * 1000000000), 3, false, 0⟩)] } }, 1, 5 * 65536 * 1000000000 + 9, 65536 * 9, ⟨some (4 * 65536 * 1000000000), 3, false, 0⟩, by decide +kernel⟩⟩

theorem test_witness_DeviceTime_6 :
    (∃ (s : State) (n : Nat),
    n < 2 ∧ fld s tbsPage F.TBS_CFG_SOURCE = 0 ∧ fld s tbsPage F.TBS_STATUS_ACTIVE = 0 ∧ flag s tbsPage F.TBS_CFG_AUTO = false) ∧
    (∃ (s : State) (c : Nat),
    flag s tbsPage F.TBS_CFG_AUTO = true ∧ flag s tbsPage F.TBS_CFG_REVERT = true ∧ fld s tbsPage F.TBS_CFG_SOURCE = c ∧ sourceQualified s c = true ∧ fld s tbsPage F.TBS_STATUS_ACTIVE ≠ c ∧ timeValid s = true ∧ flag s tbsPage F.TBS_CFG_STEP_EN = false) ∧
    (∃ (s : State) (line : Nat) (t0 : Nat) (width : Nat),
    line < 8 ∧ unarmed s tbsPage ∧ bitOf (reg s tbsPage R.TBS_TRIGIN_CFG) line = true ∧ bitOf (reg s tbsPage R.TBS_TRIGIN_CFG) (8 + line) = false ∧ 4 * 65536 ≤ width ∧ ntGet s.tbs.stamped line = 0 ∧ (alGet [] s.tbs.stamps line).length < 16) ∧
    (∃ (s : State) (line : Nat) (t0 : Nat) (width : Nat) (rising : Bool),
    ((width < 4 * 65536 ∨ bitOf (reg s tbsPage R.TBS_TRIGIN_CFG) line = false ∨ (rising = false ∧ bitOf (reg s tbsPage R.TBS_TRIGIN_CFG) (8 + line) = false)))) :=
  ⟨⟨{ w0 with tbs := { pps := [(1, ⟨some 9, 4, true, 0⟩)] } }, 1, by decide +kernel⟩,
   ⟨setReg 0x331 R.PTP_OFFSET 999999999999 (setFld 0x330 F.TBS_CFG_REVERT 1 (setFld 0x330 F.TBS_CFG_AUTO 1 (setFld 0x330 F.TBS_STATUS_TIME_VALID 1 (setFld 0x330 F.TBS_STATUS_ACTIVE 2 (setFld 0x330 F.TBS_CFG_SOURCE 1 (setFld 0x331 F.PTP_STATUS_QUALIFIED 1 (wOn 0x331 w0))))))), 1, by decide +kernel⟩,
   ⟨setReg 0x330 R.TBS_TRIGIN_CFG 0x20 (wOn 0x330 w0), 5, 123456, 65536 * 9, by decide +kernel⟩,
   ⟨setReg 0x330 R.TBS_TRIGIN_CFG 0x20 (wOn 0x330 w0), 5, 123456, 65536 * 3, true, by decide +kernel⟩⟩

theorem test_witness_DeviceTime_7 :
    (∃ (s : State) (line : Nat) (t0 : Nat) (width : Nat) (rising : Bool),
    line < 8 ∧ unarmed s tbsPage ∧ trigStamped (advanceTo t0 s) line rising t0 width = true ∧ (alGet [] s.tbs.stamps line).length < 16) ∧
    (∃ (s : State) (line : Nat) (t0 : Nat) (width : Nat) (rising : Bool),
    line < 8 ∧ unarmed s tbsPage ∧ trigStamped (advanceTo t0 s) line rising t0 width = true ∧ 16 ≤ (alGet [] s.tbs.stamps line).length) ∧
    (∃ (s : State) (line : Nat) (t0 : Nat) (width : Nat) (rising : Bool),
    trigStamped (advanceTo t0 s) line rising t0 width = false) ∧
    (∃ (s : State) (n : Nat) (x : TrigStamp),
    pageGated s tbsPage = false ∧ trigOldest s = some (n, x) ∧ n < 8) :=
  ⟨⟨setReg 0x330 R.TBS_TRIGIN_CFG 0x2020 (wOn 0x330 w0), 5, 123456, 65536 * 9, false, by decide +kernel⟩,
   ⟨{ setReg 0x330 R.TBS_TRIGIN_CFG 0x2020 (wOn 0x330 w0) with tbs := { stamps := [(5, List.replicate 16 ⟨8192, true, 7⟩)] } }, 5, 123456, 65536 * 9, true, by decide +kernel⟩,
   ⟨{ setReg 0x330 R.TBS_TRIGIN_CFG 0x2020 (wOn 0x330 w0) with tbs := { stamped := [(5, 123000)] } }, 5, 123456, 65536 * 9, true, by decide +kernel⟩,
   ⟨{ wOn 0x330 w0 with tbs := { stamps := [(5, [⟨8192, true, 7⟩])] } }, 5, ⟨8192, true, 7⟩, by decide +kernel⟩⟩

theorem test_witness_MarkTable_1 :
    (∃ (s : State) (m : Nat) (v : Word) (w : List Word),
    judge s m mrkPage R.MRK_CTRL 8 (v ||| 1) = .ok ∧ bitOf v 1 = false ∧ bitOf v 2 = false ∧ unarmed s mrkPage ∧ regsFrom s mrkPage R.MRK_DATA 4 = w ∧ markResult s (markFull s) w = 0 ∧ bitOf (w.getD 1 0) 49 = false) ∧
    (∃ (s : State) (m : Nat) (r : Nat) (v : Word) (w : List Word),
    judge s m mrkPage R.MRK_CTRL 8 (v ||| 1) = .ok ∧ bitOf v 1 = false ∧ bitOf v 2 = false ∧ unarmed s mrkPage ∧ regsFrom s mrkPage R.MRK_DATA 4 = w ∧ markResult s (markFull s) w = r ∧ r ≠ 0 ∧ r < 5) ∧
    (∃ (s : State) (m : Nat) (h : Nat) (v : Word) (e : MarkEntry),
    judge s m mrkPage R.MRK_CTRL 8 (v ||| 2) = .ok ∧ bitOf v 0 = false ∧ bitOf v 2 = false ∧ fld (storePlain mrkPage R.MRK_CTRL (v ||| 2) s) mrkPage F.MRK_CTRL_HANDLE = h ∧ sparseFind s.mrk.entries h = some e) ∧
    (∃ (s : State) (m : Nat) (h : Nat) (v : Word) (e : MarkEntry),
    judge s m mrkPage R.MRK_CTRL 8 (v ||| 4) = .ok ∧ bitOf v 0 = false ∧ bitOf v 1 = false ∧ fld (storePlain mrkPage R.MRK_CTRL (v ||| 4) s) mrkPage F.MRK_CTRL_HANDLE = h ∧ sparseFind s.mrk.entries h = some e ∧ e.flying = 0) :=
  ⟨⟨setRegsFrom 0x333 R.MRK_DATA [9, 500#64, 7#64 + 1000#64 <<< 32, 0x10] (wOn 0x333 w0), 3, 0#64, [9, 500#64, 7#64 + 1000#64 <<< 32, 0x10], by decide +kernel⟩,
   ⟨setRegsFrom 0x333 R.MRK_DATA [9, 500#64, 0x55, 0x10] (wOn 0x333 w0), 3, 2, 0#64, [9, 500#64, 0x55, 0x10], by decide +kernel⟩,
   ⟨{ wOn 0x333 w0 with mrk := (markEnter 2 655360 [0, 10, 0, 5] w0).2.mrk }, 3, 0, 0#64, ((sparseFind (markEnter 2 655360 [0, 10, 0, 5] w0).2.mrk.entries 0).getD ⟨0, false, false, 0, 0, 0, 0, 0, false, 0, false⟩), by decide +kernel⟩,
   ⟨{ wOn 0x333 w0 with mrk := (markEnter 2 655360 [0, 10, 0, 5] w0).2.mrk }, 3, 0, 0#64, ((sparseFind (markEnter 2 655360 [0, 10, 0, 5] w0).2.mrk.entries 0).getD ⟨0, false, false, 0, 0, 0, 0, 0, false, 0, false⟩), by decide +kernel⟩⟩

theorem test_witness_MarkTable_2 :
    (∃ (s : State) (m : Nat) (h : Nat) (v : Word),
    judge s m mrkPage R.MRK_CTRL 8 (v ||| 4) = .ok ∧ bitOf v 0 = false ∧ bitOf v 1 = false ∧ fld (storePlain mrkPage R.MRK_CTRL (v ||| 4) s) mrkPage F.MRK_CTRL_HANDLE = h ∧ ((sparseFind s.mrk.entries h = none ∨ ∃ e, sparseFind s.mrk.entries h = some e ∧ e.flying ≠ 0))) ∧
    (∃ (s : State) (h : Nat) (e : MarkEntry),
    nextMark s = some (h, e) ∧ timeValid s = true ∧ pageLive s mrkPage = true ∧ fieldOf e.w2 0 8 ≠ 0x0A ∧ e.refused = false) ∧
    (∃ (s : State),
    ((timeValid s = false ∨ pageLive s mrkPage = false ∨ nextMark s = none))) ∧
    (∃ (s : State) (r : MarkReport) (l : List MarkReport),
    pageGated s mrkPage = false ∧ s.mrk.done = r :: l ∧ r.handle < 4096 ∧ r.status < 8) :=
  ⟨⟨wOn 0x333 w0, 3, 0, 0#64, by decide +kernel⟩,
   ⟨let q := wOn 0x333 (setFld 0x330 F.TBS_STATUS_TIME_VALID 1 w0); { q with mrk := (markEnter 2 655360 [0, 10 + 1#64 <<< 52, 8 + 2000#64 <<< 32, 9] w0).2.mrk }, 0, ((sparseFind (markEnter 2 655360 [0, 10 + 1#64 <<< 52, 8 + 2000#64 <<< 32, 9] w0).2.mrk.entries 0).getD ⟨0, false, false, 0, 0, 0, 0, 0, false, 0, false⟩), by decide +kernel⟩,
   ⟨{ wOn 0x333 w0 with mrk := (markEnter 2 655360 [0, 10, 0, 5] w0).2.mrk }, by decide +kernel⟩,
   ⟨{ wOn 0x333 w0 with mrk := { done := [⟨7, 2, 99⟩] } }, ⟨7, 2, 99⟩, [], by decide +kernel⟩⟩

theorem test_witness_MarkActions_1 :
    (∃ (s : State) (h : Nat) (o : MarkOcc),
    markOcc s h 0 = some o ∧ tickFirst s o = true ∧ s.mrk.done.length < 256 ∧ ((o.skipLate = false ∨ actsLate s o = false))) ∧
    (∃ (s : State) (h : Nat) (k : Nat) (o : MarkOcc) (c : Instr),
    markOcc s h k = some o ∧ tickFirst s o = true ∧ s.mrk.done.length < 256 ∧ o.skipLate = true ∧ actsLate s o = true ∧ ((c = .markNop h ∧ k = 0 ∨ c = .trigPulse h ∧ k = 8 ∨ c = .trigLevel h ∧ k = 9 ∨ c = .syncLoad h ∧ k = 0x0A ∨ c = .ctrlStart h ∧ k = 0x0B ∨ c = .ctrlStop h ∧ k = 0x0C ∨ c = .event h ∧ k = 0x0D ∨ c = .chiselPost h ∧ k = 0x0E))) ∧
    (∃ (s : State) (h : Nat) (k : Nat) (o : MarkOcc) (c : Instr),
    markOcc s h k = some o ∧ tickFirst s o = false ∧ ((c = .markNop h ∧ k = 0 ∨ c = .trigPulse h ∧ k = 8 ∨ c = .trigLevel h ∧ k = 9 ∨ c = .syncLoad h ∧ k = 0x0A ∨ c = .ctrlStart h ∧ k = 0x0B ∨ c = .ctrlStop h ∧ k = 0x0C ∨ c = .event h ∧ k = 0x0D ∨ c = .chiselPost h ∧ k = 0x0E))) ∧
    (∃ (s : State) (s1 : State) (h : Nat) (n : Nat) (o : MarkOcc),
    s1 = advanceTo o.time s ∧ markOcc s h 8 = some o ∧ tickFirst s o = true ∧ actsLate s o = false ∧ latched s tbsPage ≤ o.claim ∧ ((∀ k ∈ bitsSet o.arg16 16, ∀ x ∈ rivalClaims s1 (regAddr tbsPage (R.TBS_TRIG_CFG + 8 * k)) o, x < o.claim)) ∧ n < 16 ∧ o.arg16.testBit n = true ∧ fieldOf (reg s tbsPage (R.TBS_TRIG_CFG + 8 * n)) 0 3 = 1 ∧ sharedOwner s 1 n = true) :=
  ⟨⟨{ wOn 0x333 w0 with mrk := wMark 5 10 0 0 }, 5, ⟨5, 655360, false, false, 0, 0, 0, 0, 0, 0, []⟩, by decide +kernel⟩,
   ⟨{ wOn 0x333 w0 with devFine := 655360 * 4 * 2^34, mrk := { occs := [⟨5, 655360, true, false, 8, 9, 0, 0, 0, 0, []⟩] } }, 5, 8, ⟨5, 655360, true, false, 8, 9, 0, 0, 0, 0, []⟩, .trigPulse 5, by decide +kernel⟩,
   ⟨{ wOn 0x333 w0 with mrk := { occs := [⟨5, 655360, false, false, 8, 9, 0, 0, 0, 3, []⟩, ⟨6, 655360, false, false, 8, 9, 0, 0, 0, 2, []⟩] } }, 5, 8, ⟨5, 655360, false, false, 8, 9, 0, 0, 0, 3, []⟩, .trigPulse 5, by decide +kernel⟩,
   ⟨{ setReg 0x330 (R.TBS_TRIG_CFG + 16) 1 (wOn 0x333 w0) with mrk := { occs := [⟨5, 655360, false, false, 0x40008, 9, 0, 0, 0, 0, []⟩] } }, _, 5, 2, ⟨5, 655360, false, false, 0x40008, 9, 0, 0, 0, 0, []⟩, rfl, by decide +kernel⟩⟩

theorem test_witness_MarkActions_2 :
    (∃ (s : State) (h : Nat) (k : Nat) (o : MarkOcc) (c : Instr),
    markOcc s h k = some o ∧ tickFirst s o = true ∧ s.mrk.done.length < 256 ∧ actsLate s o = false ∧ o.claim < latched s tbsPage ∧ ((c = .trigPulse h ∧ k = 8 ∨ c = .trigLevel h ∧ k = 9 ∨ c = .syncLoad h ∧ k = 0x0A))) ∧
    (∃ (s : State) (h : Nat) (n : Nat) (o : MarkOcc),
    markOcc s h 9 = some o ∧ tickFirst s o = true ∧ actsLate s o = false ∧ latched s tbsPage ≤ o.claim ∧ n < 16 ∧ ((∀ k ∈ bitsSet o.arg16 16, ∀ x ∈ rivalClaims (advanceTo o.time s) (regAddr tbsPage (R.TBS_TRIG_CFG + 8 * k)) o, x < o.claim))) ∧
    (∃ (s : State) (line : Nat) (x : Nat × Nat),
    firstPulse s line = some x) ∧
    (∃ (s : State) (s1 : State) (h : Nat) (o : MarkOcc),
    s1 = advanceTo o.time s ∧ markOcc s h 0x0A = some o ∧ tickFirst s o = true ∧ actsLate s o = false ∧ latched s tbsPage ≤ o.claim ∧ ((∀ k ∈ bitsSet o.lines 16, ∀ x ∈ rivalClaims s1 (regAddr tbsPage (R.TBS_TRIG_CFG + 8 * k)) o, x < o.claim))) :=
  ⟨⟨{ setFld 0x330 F.CLAIM_LATCHED 5 (wOn 0x333 w0) with mrk := { occs := [⟨5, 655360, false, false, 0x40009, 9, 3, 0, 0, 0, []⟩] } }, 5, 9, ⟨5, 655360, false, false, 0x40009, 9, 3, 0, 0, 0, []⟩, .trigLevel 5, by decide +kernel⟩,
   ⟨{ wOn 0x333 w0 with mrk := { occs := [⟨5, 655360, false, false, 0x40109, 0, 0, 0, 0, 0, []⟩] } }, 5, 2, ⟨5, 655360, false, false, 0x40109, 0, 0, 0, 0, 0, []⟩, by decide +kernel⟩,
   ⟨{ w0 with pins := { pulses := [(2, 99), (3, 50), (2, 70)] } }, 2, (2, 70), by decide +kernel⟩,
   ⟨{ wOn 0x333 w0 with mrk := { occs := [⟨5, 655360, false, false, 0x32000A, 7, 0, 0, 6, 0, []⟩] } }, _, 5, ⟨5, 655360, false, false, 0x32000A, 7, 0, 0, 6, 0, []⟩, rfl, by decide +kernel⟩⟩

theorem test_witness_MarkActions_3 :
    (∃ (s : State) (h : Nat) (c : Nat) (o : MarkOcc),
    markOcc s h 0x0B = some o ∧ tickFirst s o = true ∧ s.mrk.done.length < 256 ∧ actsLate s o = false ∧ c < 32 ∧ o.arg64 = 2 ^ c ∧ pageGated s (fldPage c) = false ∧ latched s (fldPage c) ≤ o.claim ∧ ((∀ x ∈ rivalClaims (advanceTo o.time s) (regAddr (fldPage c) R.FLD_CH_CTRL) o, x < o.claim))) ∧
    (∃ (s : State) (h : Nat) (c : Nat) (o : MarkOcc),
    markOcc s h 0x0C = some o ∧ tickFirst s o = true ∧ s.mrk.done.length < 256 ∧ actsLate s o = false ∧ c < 32 ∧ o.arg64 = 2 ^ c ∧ pageGated s (fldPage c) = false ∧ latched s (fldPage c) ≤ o.claim ∧ ((∀ x ∈ rivalClaims (advanceTo o.time s) (regAddr (fldPage c) R.FLD_CH_CTRL) o, x < o.claim))) ∧
    (∃ (s : State) (h : Nat) (o : MarkOcc),
    markOcc s h 0x0D = some o ∧ tickFirst s o = true ∧ s.mrk.done.length < 256 ∧ actsLate s o = false) ∧
    (∃ (s : State) (h : Nat) (o : MarkOcc),
    markOcc s h 0x0E = some o ∧ tickFirst s o = true ∧ s.mrk.done.length < 256 ∧ actsLate s o = false ∧ pageGated s (chsPage (64 + o.arg8 % 4)) = false ∧ unarmed s (chsPage (64 + o.arg8 % 4)) ∧ (chsCore s (64 + o.arg8 % 4)).posts.length < 16 ∧ (chsCore s (64 + o.arg8 % 4)).st ≠ .waiting) :=
  ⟨⟨{ wOn 0x3A6 (wOn 0x333 w0) with mrk := { occs := [⟨5, 655360, false, false, 0xB, 32, 0, 0, 0, 0, []⟩] } }, 5, 5, ⟨5, 655360, false, false, 0xB, 32, 0, 0, 0, 0, []⟩, by decide +kernel⟩,
   ⟨{ wOn 0x3A6 (wOn 0x333 w0) with mrk := { occs := [⟨5, 655360, false, false, 0xC, 32, 0, 0, 0, 0, []⟩] } }, 5, 5, ⟨5, 655360, false, false, 0xC, 32, 0, 0, 0, 0, []⟩, by decide +kernel⟩,
   ⟨{ wOn 0x333 w0 with mrk := { occs := [⟨5, 655360, false, false, 0x30D, 0, 0, 0, 0, 0, []⟩] } }, 5, ⟨5, 655360, false, false, 0x30D, 0, 0, 0, 0, 0, []⟩, by decide +kernel⟩,
   ⟨{ wOn 0x333 w0 with mrk := { occs := [⟨5, 655360, false, false, 0x10E, 77, 0, 0, 0, 0, []⟩] } }, 5, ⟨5, 655360, false, false, 0x10E, 77, 0, 0, 0, 0, []⟩, by decide +kernel⟩⟩

theorem test_witness_MarkActions_4 :
    (∃ (s : State) (h : Nat) (k : Nat) (c : Instr),
    markOcc s h k = none ∧ ((c = .markNop h ∧ k = 0 ∨ c = .intStart h ∧ k = 1 ∨ c = .intEnd h ∧ k = 2 ∨ c = .coefSwap h ∧ k = 3 ∨ c = .gainSwap h ∧ k = 4 ∨ c = .modelLoad h ∧ k = 5 ∨ c = .weightSwap h ∧ k = 6 ∨ c = .roughReset h ∧ k = 7 ∨ c = .trigPulse h ∧ k = 8 ∨ c = .trigLevel h ∧ k = 9 ∨ c = .syncLoad h ∧ k = 0x0A ∨ c = .ctrlStart h ∧ k = 0x0B ∨ c = .ctrlStop h ∧ k = 0x0C ∨ c = .event h ∧ k = 0x0D ∨ c = .chiselPost h ∧ k = 0x0E))) ∧
    (∃ (s : State) (h : Nat) (c : Nat) (o : MarkOcc),
    markOcc s h 0x0B = some o ∧ tickFirst s o = true ∧ ((o.skipLate = false ∨ actsLate s o = false)) ∧ c < 32 ∧ o.arg64.testBit c = true ∧ pageGated s (fldPage c) = false ∧ latched s (fldPage c) ≤ o.claim ∧ ((∀ x ∈ rivalClaims (advanceTo o.time s) (regAddr (fldPage c) R.FLD_CH_CTRL) o, x < o.claim))) ∧
    (∃ (s : State) (h : Nat) (c : Nat) (o : MarkOcc),
    markOcc s h 0x0C = some o ∧ tickFirst s o = true ∧ ((o.skipLate = false ∨ actsLate s o = false)) ∧ c < 32 ∧ o.arg64.testBit c = true ∧ pageGated s (fldPage c) = false ∧ latched s (fldPage c) ≤ o.claim ∧ ((∀ x ∈ rivalClaims (advanceTo o.time s) (regAddr (fldPage c) R.FLD_CH_CTRL) o, x < o.claim))) ∧
    (∃ (s : State) (h : Nat) (k : Nat) (c : Nat) (i : Instr) (o : MarkOcc),
    markOcc s h k = some o ∧ tickFirst s o = true ∧ s.mrk.done.length < 256 ∧ actsLate s o = false ∧ c < 32 ∧ o.arg64 = 2 ^ c ∧ pageGated s (fldPage c) = false ∧ o.claim < latched s (fldPage c) ∧ ((i = .ctrlStart h ∧ k = 0x0B ∨ i = .ctrlStop h ∧ k = 0x0C))) :=
  ⟨⟨w0, 5, 3, .coefSwap 5, by decide +kernel⟩,
   ⟨{ wOn 0x3A6 (wOn 0x3A4 (wOn 0x333 w0)) with mrk := { occs := [⟨5, 655360, false, false, 0xB, 40, 0, 0, 0, 0, []⟩] } }, 5, 5, ⟨5, 655360, false, false, 0xB, 40, 0, 0, 0, 0, []⟩, by decide +kernel⟩,
   ⟨{ wOn 0x3A6 (wOn 0x3A4 (wOn 0x333 w0)) with mrk := { occs := [⟨5, 655360, false, false, 0xC, 40, 0, 0, 0, 0, []⟩] } }, 5, 5, ⟨5, 655360, false, false, 0xC, 40, 0, 0, 0, 0, []⟩, by decide +kernel⟩,
   ⟨{ setFld 0x3A6 F.CLAIM_LATCHED 5 (wOn 0x3A6 (wOn 0x333 w0)) with mrk := { occs := [⟨5, 655360, false, false, 0xB, 32, 0, 0, 0, 0, []⟩] } }, 5, 0x0B, 5, .ctrlStart 5, ⟨5, 655360, false, false, 0xB, 32, 0, 0, 0, 0, []⟩, by decide +kernel⟩⟩

theorem test_witness_MarkActions_5 :
    (∃ (s : State) (h : Nat) (n : Nat) (o : MarkOcc),
    markOcc s h 9 = some o ∧ tickFirst s o = true ∧ actsLate s o = true ∧ o.skipLate = false ∧ latched s tbsPage ≤ o.claim ∧ n < 16) ∧
    (∃ (s : State) (h : Nat) (k : Nat) (w : Nat) (o : MarkOcc) (c : Instr) (l : List Nat),
    markOcc s h k = some o ∧ tickFirst s o = true ∧ actsLate s o = true ∧ o.skipLate = false ∧ latched s tbsPage ≤ o.claim ∧ ((c = .trigPulse h ∧ k = 8 ∧ w = o.arg64 % 2 ^ 32 ∧ l = bitsSet o.arg16 16 ∨ c = .syncLoad h ∧ k = 0x0A ∧ w = o.arg16 ∧ l = bitsSet o.lines 16))) ∧
    (∃ (s : State) (h : Nat) (o : MarkOcc),
    markOcc s h 0x0D = some o ∧ tickFirst s o = true ∧ s.mrk.done.length < 256 ∧ actsLate s o = true ∧ o.skipLate = false) ∧
    (∃ (s : State) (h : Nat) (o : MarkOcc),
    markOcc s h 0x0E = some o ∧ tickFirst s o = true ∧ s.mrk.done.length < 256 ∧ actsLate s o = false ∧ pageGated s (chsPage (64 + o.arg8 % 4)) = false ∧ unarmed s (chsPage (64 + o.arg8 % 4)) ∧ 16 ≤ (chsCore s (64 + o.arg8 % 4)).posts.length) :=
  ⟨⟨{ wOn 0x333 w0 with devFine := 655360 * 4 * 2^34, mrk := { occs := [⟨5, 655360, false, false, 0x40109, 0, 0, 0, 0, 0, []⟩] } }, 5, 2, ⟨5, 655360, false, false, 0x40109, 0, 0, 0, 0, 0, []⟩, by decide +kernel⟩,
   ⟨{ wOn 0x333 w0 with devFine := 655360 * 4 * 2^34, mrk := { occs := [⟨5, 655360, false, false, 0x40008, 9, 0, 0, 0, 0, []⟩] } }, 5, 8, 9, ⟨5, 655360, false, false, 0x40008, 9, 0, 0, 0, 0, []⟩, .trigPulse 5, [2], by decide +kernel⟩,
   ⟨{ wOn 0x333 w0 with devFine := 655360 * 4 * 2^34, mrk := { occs := [⟨5, 655360, false, false, 0x30D, 0, 0, 0, 0, 0, []⟩] } }, 5, ⟨5, 655360, false, false, 0x30D, 0, 0, 0, 0, 0, []⟩, by decide +kernel⟩,
   ⟨{ wOn 0x333 w0 with mrk := { occs := [⟨5, 655360, false, false, 0x10E, 77, 0, 0, 0, 0, []⟩] }, chs := { cores := [(65, { posts := List.replicate 16 ⟨1, 1⟩ })] } }, 5, ⟨5, 655360, false, false, 0x10E, 77, 0, 0, 0, 0, []⟩, by decide +kernel⟩⟩

theorem test_witness_MarkActions_6 : ∃ (s : State) (h : Nat) (o : MarkOcc),
    markOcc s h 0x0E = some o ∧ tickFirst s o = true ∧ s.mrk.done.length < 256 ∧ actsLate s o = true ∧ o.skipLate = false ∧ pageGated s (chsPage (64 + o.arg8 % 4)) = false ∧ unarmed s (chsPage (64 + o.arg8 % 4)) ∧ (chsCore s (64 + o.arg8 % 4)).posts.length < 16 ∧ (chsCore s (64 + o.arg8 % 4)).st ≠ .waiting :=
  ⟨{ wOn 0x333 w0 with devFine := 655360 * 4 * 2^34, mrk := { occs := [⟨5, 655360, false, false, 0x10E, 77, 0, 0, 0, 0, []⟩] } }, 5, ⟨5, 655360, false, false, 0x10E, 77, 0, 0, 0, 0, []⟩, by decide +kernel⟩

theorem test_witness_Truing_1 :
    (∃ (s : State) (r : Nat) (x : Int) (lost : Bool) (offs : List Int) (los : List Bool) (phases : List Int),
    r < 4 ∧ pageGated s truPage = false ∧ flag s truPage F.TRU_STATUS_XO_LOST = false ∧ los.getD r true = lost ∧ windowMean (noteOffset r (if lost then none else some (offs.getD r 0)) s) r = x ∧ x.natAbs < 2 ^ 31) ∧
    (∃ (s : State) (offs : List Int) (los : List Bool) (phases : List Int),
    ((pageGated s truPage = true ∨ flag s truPage F.TRU_STATUS_XO_LOST = true))) ∧
    (∃ (s : State) (e : Nat) (f : Nat) (ref : Nat) (phases : List Int),
    pageGated s truPage = false ∧ flag s truPage F.PAGE_CTRL_ENABLE = true ∧ flag s truPage F.TRU_STATUS_XO_LOST = false ∧ selectedEntry s = some e ∧ prioRef s e = ref ∧ s.tru.ref = ref ∧ ref < 12 ∧ refLost s ref true = true ∧ (candidates s).filter (fun k => decide (prioRef s k ≠ ref)) = [f]) ∧
    (∃ (s : State) (e : Nat) (ref : Nat) (phases : List Int),
    pageGated s truPage = false ∧ flag s truPage F.PAGE_CTRL_ENABLE = true ∧ flag s truPage F.TRU_STATUS_XO_LOST = false ∧ selectedEntry s = some e ∧ prioRef s e = ref ∧ s.tru.ref = ref ∧ ref < 12 ∧ refLost s ref true = true ∧ ((fld s truPage F.TRU_STATUS_STATE = 1 ∨ fld s truPage F.TRU_STATUS_STATE = 2)) ∧ ((∀ k ∈ candidates s, prioRef s k = ref))) :=
  ⟨⟨setFld 0x340 (F.TRU_REF_STATUS_QUALIFIED.at 2) 1 (wOn 0x340 w0), 2, -50000, false, [0, 0, -50000], [true, true, false], [], by decide +kernel⟩,
   ⟨setFld 0x340 F.TRU_STATUS_XO_LOST 1 (wOn 0x340 w0), [], [], [], by decide +kernel⟩,
   ⟨setReg 0x340 (R.TRU_PRIO + 8) 0x111 (setReg 0x340 R.TRU_PRIO 0x10 (setFld 0x340 (F.TRU_REF_STATUS_QUALIFIED.at 0) 1 (setFld 0x340 (F.TRU_REF_STATUS_QUALIFIED.at 1) 1 (setFld 0x340 F.TRU_STATUS_STATE 2 (setFld 0x340 F.TRU_STATUS_SELECTED 1 (wOn 0x340 w0)))))), 0, 1, 0, [0, 999], by decide +kernel⟩,
   ⟨{ setReg 0x340 R.TRU_PRIO 0x10 (setFld 0x340 (F.TRU_REF_STATUS_QUALIFIED.at 0) 1 (setFld 0x340 F.TRU_STATUS_STATE 2 (setFld 0x340 F.TRU_STATUS_SELECTED 1 (wOn 0x340 w0)))) with tru := { history := List.replicate 80 (some 7) } }, 0, 0, [], by decide +kernel⟩⟩

theorem test_witness_Truing_2 :
    (∃ (s : State) (ref : Nat) (phases : List Int),
    pageGated s truPage = false ∧ ref < 12 ∧ refLost s ref true = true ∧ ((selectedEntry s = none ∨ s.tru.ref ≠ ref))) ∧
    (∃ (s : State) (ref : Nat) (phases : List Int),
    ((pageGated s truPage = true ∨ 12 ≤ ref ∨ refLost s ref true = false))) ∧
    (∃ (s : State) (err : Int) (big : Int),
    pageGated s truPage = false ∧ err.natAbs ≤ 1000 ∧ 10000 < big.natAbs ∧ big.natAbs < 2 ^ 31) ∧
    (∃ (s : State) (err : Int) (big : Int),
    pageGated s truPage = false ∧ err.natAbs ≤ 1000 ∧ 10000 < big.natAbs ∧ big.natAbs < 2 ^ 31) :=
  ⟨⟨setReg 0x340 R.TRU_PRIO 0x10 (setFld 0x340 F.TRU_STATUS_SELECTED 1 (wOn 0x340 w0)), 3, [], by decide +kernel⟩,
   ⟨{ wOn 0x340 w0 with tbs := { pps := [(0, { last := some 9 })] } }, 4, [], by decide +kernel⟩,
   ⟨setFld 0x340 F.TRU_STATUS_STATE 1 (wOn 0x340 w0), -900, 10001, by decide +kernel⟩,
   ⟨setFld 0x340 F.TRU_STATUS_STATE 2 (wOn 0x340 w0), -1000, -10001, by decide +kernel⟩⟩

theorem test_witness_Truing_3 :
    (∃ (s : State) (freq : Int),
    pageGated s truPage = false ∧ flag s truPage F.TRU_STATUS_XO_LOST = false) ∧
    (∃ (s : State) (n : Nat),
    pageGated s truPage = false ∧ fld s truPage F.TRU_STATUS_STATE = 3 ∧ fld s truPage F.TRU_HO_STATUS_ELAPSED_S ≤ n ∧ n < 2 ^ 32 ∧ flag s truPage F.TRU_HO_STATUS_OVER = false) ∧
    (∃ (s : State),
    pageGated s truPage = false) ∧
    (∃ (s : State) (phases : List Int),
    pageGated s truPage = false ∧ flag s truPage F.TRU_STATUS_XO_LOST = true ∧ fld s truPage F.TRU_STATUS_STATE = 0 ∧ candidates s = []) :=
  ⟨⟨{ setFld 0x340 F.TRU_STATUS_STATE 2 (wOn 0x340 w0) with tru := { history := [none] } }, 12, by decide +kernel⟩,
   ⟨setFld 0x340 F.TRU_STATUS_STATE 3 (wOn 0x340 w0), 9481, by decide +kernel⟩,
   ⟨{ setReg 0x340 R.TRU_CLKOUT (1 + 10000 * 256) (setFld 0x340 F.TRU_STATUS_STATE 2 (wOn 0x340 w0)) with tru := { history := [some 9] }, pins := { clk := [(0, 10001)] } }, by decide +kernel⟩,
   ⟨setFld 0x340 F.TRU_STATUS_XO_LOST 1 (wOn 0x340 w0), [], by decide +kernel⟩⟩

theorem test_witness_Truing_4 :
    (∃ (s : State) (phases : List Int),
    ((pageGated s truPage = true ∨ flag s truPage F.TRU_STATUS_XO_LOST = false))) ∧
    (∃ (s : State) (phases : List Int),
    pageGated s truPage = false ∧ flag s truPage F.TRU_STATUS_XO_LOST = true) ∧
    (∃ (s : State) (m : Nat) (n : Nat) (v : Word),
    n < 8 ∧ judge s m truPage (R.TRU_CLKOUT + 8 * n) 8 v = .ok ∧ ((flag s truPage (F.TRU_CLKOUT_EN.at n) = true → fieldOf v 8 20 = fld s truPage (F.TRU_CLKOUT_FREQ_KHZ.at n)))) ∧
    (∃ (s : State) (m : Nat) (n : Nat) (v : Word),
    n < 8 ∧ judge s m truPage (R.TRU_CLKOUT + 8 * n) 8 v = .ok ∧ flag s truPage (F.TRU_CLKOUT_EN.at n) = true ∧ fieldOf v 8 20 ≠ fld s truPage (F.TRU_CLKOUT_FREQ_KHZ.at n)) :=
  ⟨⟨wOn 0x340 w0, [], by decide +kernel⟩,
   ⟨setFld 0x340 F.TRU_STATUS_XO_LOST 1 (wOn 0x340 w0), [5], by decide +kernel⟩,
   ⟨wOn 0x340 w0, 3, 5, BitVec.ofNat 64 (1 + 20000 * 256), by decide +kernel⟩,
   ⟨setReg 0x340 (R.TRU_CLKOUT + 40) (1 + 10000 * 256) (wOn 0x340 w0), 3, 5, BitVec.ofNat 64 (1 + 20000 * 256), by decide +kernel⟩⟩

theorem test_witness_Truing_5 :
    (∃ (s : State) (a : Nat),
    a = (devTime s / secondUnits + 1) * secondUnits ∧ pageGated s truPage = false ∧ timeValid s = true) ∧
    (∃ (s : State) (a : Nat),
    a = (devTime s / secondUnits + 1) * secondUnits ∧ pageGated s truPage = false ∧ timeValid s = true) :=
  ⟨⟨setFld 0x340 F.TRU_PPS_OUT_EN 1 (setFld 0x330 F.TBS_STATUS_TIME_VALID 1 (wOn 0x340 w0)), _, rfl, by decide +kernel⟩,
   ⟨setFld 0x330 F.TBS_STATUS_TIME_VALID 1 (wOn 0x340 w0), _, rfl, by decide +kernel⟩⟩

theorem test_witness_ChiselRealOperations_1 :
    (∃ (s : State) (n : Nat) (op : Nat) (i : ChsInstr) (c : ChsCore) (cmd : Instr) (a : Int) (b : Int) (x : Int),
    issues s n op i ∧ chsCore s n = c ∧ (c.dReg i.da).toInt = a ∧ (c.dReg i.db).toInt = b ∧ (cmd, op, x) ∈ [(Instr.add n, 0x28, a + b), (.sub n, 0x29, a - b), (.neg n, 0x2A, -a), (.abs n, 0x2B, (a.natAbs : Int)), (.mul n, 0x2C, a * b), (.shl n, 0x30, a * 2 ^ i.sh), (.rnd n, 0x1C, roundShift (c.aReg i.aa).toInt i.sh)]) ∧
    (∃ (s : State) (n : Nat) (op : Nat) (i : ChsInstr) (c : ChsCore) (cmd : Instr) (a : BitVec 48) (b : BitVec 48) (x : BitVec 48),
    issues s n op i ∧ chsCore s n = c ∧ c.dReg i.da = a ∧ c.dReg i.db = b ∧ (cmd, op, x) ∈ [(Instr.mov n, 0x19, a), (.getg n, 0x1B, c.gReg i.da), (.andOp n, 0x2D, a &&& b), (.orOp n, 0x2E, a ||| b), (.xor n, 0x2F, a ^^^ b), (.shra n, 0x31, BitVec.ofInt 48 (a.toInt / 2 ^ i.sh)), (.shrl n, 0x32, BitVec.ofNat 48 (a.toNat / 2 ^ i.sh)), (.min n, 0x34, if a.toInt ≤ b.toInt then a else b), (.max n, 0x35, if a.toInt ≤ b.toInt then b else a)]) ∧
    (∃ (s : State) (n : Nat) (i : ChsInstr) (c : ChsCore) (x : Int),
    issues s n 0x33 i ∧ chsCore s n = c ∧ (c.dReg i.da).toInt - (c.dReg i.db).toInt = x) ∧
    (∃ (s : State) (n : Nat) (op : Nat) (i : ChsInstr) (c : ChsCore) (cmd : Instr) (a : Int) (b : Int) (x : Int),
    issues s n op i ∧ chsCore s n = c ∧ (c.dReg i.da).toInt = a ∧ (c.dReg i.db).toInt = b ∧ (cmd, op, x) ∈ [(Instr.mac n, 0x39, (c.aReg i.aa).toInt + a * b), (.msu n, 0x3A, (c.aReg i.aa).toInt - a * b), (.adda n, 0x3B, (c.aReg i.aa).toInt + (c.aReg i.ab).toInt)]) :=
  ⟨⟨wChs 3 (wA 0x28 1 2 3 0 0 0) wCore, 3, 0x28, (chsAt (wChs 3 (wA 0x28 1 2 3 0 0 0) wCore) 3).getD (chsFields 0 .a), { wCore with st := .running, prog := [(0, wA 0x28 1 2 3 0 0 0)] }, .add 3, (0xFFFFFFFF0003#48).toInt, (0x000002FFFFFE#48).toInt, (0xFFFFFFFF0003#48).toInt + (0x000002FFFFFE#48).toInt, by decide +kernel⟩,
   ⟨wChs 3 (wA 0x34 1 2 3 0 0 0) wCore, 3, 0x34, (chsAt (wChs 3 (wA 0x34 1 2 3 0 0 0) wCore) 3).getD (chsFields 0 .a), { wCore with st := .running, prog := [(0, wA 0x34 1 2 3 0 0 0)] }, .min 3, 0xFFFFFFFF0003#48, 0x000002FFFFFE#48, 0xFFFFFFFF0003#48, by decide +kernel⟩,
   ⟨wChs 3 (wA 0x33 0 2 3 0 0 0) wCore, 3, (chsAt (wChs 3 (wA 0x33 0 2 3 0 0 0) wCore) 3).getD (chsFields 0 .a), { wCore with st := .running, prog := [(0, wA 0x33 0 2 3 0 0 0)] }, (0xFFFFFFFF0003#48).toInt - (0x000002FFFFFE#48).toInt, by decide +kernel⟩,
   ⟨wChs 3 (wA 0x39 0 2 3 1 0 0) wCore, 3, 0x39, (chsAt (wChs 3 (wA 0x39 0 2 3 1 0 0) wCore) 3).getD (chsFields 0 .a), { wCore with st := .running, prog := [(0, wA 0x39 0 2 3 1 0 0)] }, .mac 3, (0xFFFFFFFF0003#48).toInt, (0x000002FFFFFE#48).toInt, 1000 + (0xFFFFFFFF0003#48).toInt * (0x000002FFFFFE#48).toInt, by decide +kernel⟩⟩

theorem test_witness_ChiselRealOperations_2 :
    (∃ (s : State) (n : Nat) (op : Nat) (i : ChsInstr) (c : ChsCore) (cmd : Instr) (a : Int) (b : Int) (x : Int),
    issues s n op i ∧ chsCore s n = c ∧ (c.dReg i.da).toInt = a ∧ (c.dReg i.db).toInt = b ∧ (cmd, op, x) ∈ [(Instr.mpy n, 0x38, a * b), (.lda n, 0x1F, a), (.clra n, 0x1E, 0)]) ∧
    (∃ (s : State) (n : Nat) (i : ChsInstr) (c : ChsCore),
    issues s n 0x1A i ∧ chsCore s n = c) ∧
    (∃ (s : State) (n : Nat) (i : ChsInstr) (c : ChsCore) (w : Word),
    issues s n 0x18 i ∧ chsCore s n = c ∧ wtGet c.prog c.pc = w) ∧
    (∃ (s : State) (n : Nat) (cmd : Instr),
    chsRunning s n = true ∧ unarmed s (chsPage n) ∧ chsOp (chsOpcode (wtGet (chsCore s n).prog (chsCore s n).pc)) = none ∧ cmd ∈ [Instr.nop n, .halt n, .jmp n, .jcc n, .call n, .ret n, .loop n, .ldlc n, .movlc n, .waitw n, .waitm n, .mkins n, .brd n, .bwr n, .outf n, .sync n, .evt n, .ldi n, .mov n, .add n, .mul n, .mac n, .cmul n, .phs n]) :=
  ⟨⟨wChs 3 (wA 0x38 0 2 3 1 0 0) wCore, 3, 0x38, (chsAt (wChs 3 (wA 0x38 0 2 3 1 0 0) wCore) 3).getD (chsFields 0 .a), { wCore with st := .running, prog := [(0, wA 0x38 0 2 3 1 0 0)] }, .mpy 3, (0xFFFFFFFF0003#48).toInt, (0x000002FFFFFE#48).toInt, (0xFFFFFFFF0003#48).toInt * (0x000002FFFFFE#48).toInt, by decide +kernel⟩,
   ⟨wChs 3 (wA 0x1A 2 3 0 0 0 0) wCore, 3, (chsAt (wChs 3 (wA 0x1A 2 3 0 0 0 0) wCore) 3).getD (chsFields 0 .a), { wCore with st := .running, prog := [(0, wA 0x1A 2 3 0 0 0 0)] }, by decide +kernel⟩,
   ⟨wChs 3 (BitVec.ofNat 64 (0x18 * 2 ^ 56 + 2 ^ 51 + 0x40000)) wCore, 3, (chsAt (wChs 3 (BitVec.ofNat 64 (0x18 * 2 ^ 56 + 2 ^ 51 + 0x40000)) wCore) 3).getD (chsFields 0 .a), { wCore with st := .running, prog := [(0, BitVec.ofNat 64 (0x18 * 2 ^ 56 + 2 ^ 51 + 0x40000))] }, BitVec.ofNat 64 (0x18 * 2 ^ 56 + 2 ^ 51 + 0x40000), by decide +kernel⟩,
   ⟨wChs 3 (BitVec.ofNat 64 (0x77 * 2 ^ 56)) wCore, 3, .nop 3, by decide +kernel⟩⟩

theorem test_witness_ChiselComplexOperations :
    (∃ (s : State) (n : Nat) (op : Nat) (i : ChsInstr) (c : ChsCore) (cmd : Instr) (a : BitVec 48) (b : BitVec 48) (d : BitVec 48) (re : Int) (im : Int),
    issues s n op i ∧ chsCore s n = c ∧ c.dReg i.da = a ∧ c.dReg i.db = b ∧ (cmd, op, re, im) ∈ [(Instr.cadd n, 0x40, dRe a + dRe b, dIm a + dIm b), (.csub n, 0x41, dRe a - dRe b, dIm a - dIm b), (.conj n, 0x42, dRe a, -dIm a), (.cmul n, 0x43, roundShift (dRe a * dRe b - dIm a * dIm b) i.sh, roundShift (dRe a * dIm b + dIm a * dRe b) i.sh), (.cmulj n, 0x47, roundShift (dRe a * dRe b + dIm a * dIm b) i.sh, roundShift (dIm a * dRe b - dRe a * dIm b) i.sh), (.cscl n, 0x49, roundShift (dRe a * dRe b) i.sh, roundShift (dIm a * dRe b) i.sh), (.crnd n, 0x1D, roundShift (aRe (c.aReg i.aa)) i.sh, roundShift (aIm (c.aReg i.aa)) i.sh), (.phs n, 0x4A, (phasor (a.toNat % 2 ^ 20)).1, (phasor (a.toNat % 2 ^ 20)).2)] ∧ complexWord (fitted 24 i.sat re) (fitted 24 i.sat im) = d) ∧
    (∃ (s : State) (n : Nat) (op : Nat) (i : ChsInstr) (c : ChsCore) (cmd : Instr) (a : BitVec 48) (b : BitVec 48) (re : Int) (im : Int),
    issues s n op i ∧ chsCore s n = c ∧ c.dReg i.da = a ∧ c.dReg i.db = b ∧ (cmd, op, re, im) ∈ [ (Instr.cmac n, 0x44, aRe (c.aReg i.aa) + (dRe a * dRe b - dIm a * dIm b), aIm (c.aReg i.aa) + (dRe a * dIm b + dIm a * dRe b)), (.cmacj n, 0x45, aRe (c.aReg i.aa) + (dRe a * dRe b + dIm a * dIm b), aIm (c.aReg i.aa) + (dIm a * dRe b - dRe a * dIm b))]) ∧
    (∃ (s : State) (n : Nat) (op : Nat) (i : ChsInstr) (c : ChsCore) (cmd : Instr) (a : BitVec 48) (b : BitVec 48) (re : Int) (im : Int),
    issues s n op i ∧ chsCore s n = c ∧ c.dReg i.da = a ∧ c.dReg i.db = b ∧ (cmd, op, re, im) ∈ [(Instr.cmpy n, 0x46, dRe a * dRe b - dIm a * dIm b, dRe a * dIm b + dIm a * dRe b), (.clda n, 0x20, dRe a, dIm a)]) ∧
    (∃ (s : State) (n : Nat) (i : ChsInstr) (c : ChsCore) (a : BitVec 48) (x : Int),
    issues s n 0x48 i ∧ chsCore s n = c ∧ c.dReg i.da = a ∧ (c.aReg i.aa).toInt + (dRe a * dRe a + dIm a * dIm a) = x) :=
  ⟨⟨wChs 3 (wA 0x43 1 2 3 0 0 4) wCore, 3, 0x43, (chsAt (wChs 3 (wA 0x43 1 2 3 0 0 4) wCore) 3).getD (chsFields 0 .a), { wCore with st := .running, prog := [(0, wA 0x43 1 2 3 0 0 4)] }, .cmul 3, 0xFFFFFFFF0003#48, 0x000002FFFFFE#48, complexWord (fitted 24 false (roundShift (mulRe 0xFFFFFFFF0003#48 0x000002FFFFFE#48) 4)) (fitted 24 false (roundShift (mulIm 0xFFFFFFFF0003#48 0x000002FFFFFE#48) 4)), roundShift (mulRe 0xFFFFFFFF0003#48 0x000002FFFFFE#48) 4, roundShift (mulIm 0xFFFFFFFF0003#48 0x000002FFFFFE#48) 4, by decide +kernel⟩,
   ⟨wChs 3 (wA 0x44 0 2 3 1 0 0) wCore, 3, 0x44, (chsAt (wChs 3 (wA 0x44 0 2 3 1 0 0) wCore) 3).getD (chsFields 0 .a), { wCore with st := .running, prog := [(0, wA 0x44 0 2 3 1 0 0)] }, .cmac 3, 0xFFFFFFFF0003#48, 0x000002FFFFFE#48, 1000 + mulRe 0xFFFFFFFF0003#48 0x000002FFFFFE#48, mulIm 0xFFFFFFFF0003#48 0x000002FFFFFE#48, by decide +kernel⟩,
   ⟨wChs 3 (wA 0x46 0 2 3 1 0 0) wCore, 3, 0x46, (chsAt (wChs 3 (wA 0x46 0 2 3 1 0 0) wCore) 3).getD (chsFields 0 .a), { wCore with st := .running, prog := [(0, wA 0x46 0 2 3 1 0 0)] }, .cmpy 3, 0xFFFFFFFF0003#48, 0x000002FFFFFE#48, mulRe 0xFFFFFFFF0003#48 0x000002FFFFFE#48, mulIm 0xFFFFFFFF0003#48 0x000002FFFFFE#48, by decide +kernel⟩,
   ⟨wChs 3 (wA 0x48 0 2 0 1 0 0) wCore, 3, (chsAt (wChs 3 (wA 0x48 0 2 0 1 0 0) wCore) 3).getD (chsFields 0 .a), { wCore with st := .running, prog := [(0, wA 0x48 0 2 0 1 0 0)] }, 0xFFFFFFFF0003#48, 1000 + (dRe 0xFFFFFFFF0003#48 * dRe 0xFFFFFFFF0003#48 + dIm 0xFFFFFFFF0003#48 * dIm 0xFFFFFFFF0003#48), by decide +kernel⟩⟩

theorem test_witness_ChiselFlow_1 :
    (∃ (s : State) (n : Nat) (i : ChsInstr) (c : ChsCore),
    chsAt s n = some i ∧ unarmed s (chsPage n) ∧ i.op = 0 ∧ chsCore s n = c ∧ i.m0.en = true ∧ i.m0.store = false ∧ i.m0.mem = 0 ∧ i.m1.en = false ∧ i.m0.mod' = 1) ∧
    (∃ (s : State) (n : Nat) (i : ChsInstr) (c : ChsCore),
    chsCore s n = c) ∧
    (∃ (s : State) (n : Nat) (i : ChsInstr) (c : ChsCore),
    chsCore s n = c) ∧
    (∃ (s : State) (n : Nat) (i : ChsInstr) (c : ChsCore),
    chsCore s n = c) :=
  ⟨⟨wChs 3 (BitVec.ofNat 64 (0x80000000 + 4 * 2 ^ 26 + 2 * 2 ^ 23 + 2 ^ 21)) { wCore with t := [(16, 99)] }, 3, (chsAt (wChs 3 (BitVec.ofNat 64 (0x80000000 + 4 * 2 ^ 26 + 2 * 2 ^ 23 + 2 ^ 21)) wCore) 3).getD (chsFields 0 .a), { wCore with st := .running, t := [(16, 99)], prog := [(0, BitVec.ofNat 64 (0x80000000 + 4 * 2 ^ 26 + 2 * 2 ^ 23 + 2 ^ 21))] }, by decide +kernel⟩,
   ⟨wChs 3 (BitVec.ofNat 64 (0x00 * 2 ^ 56 + 0)) wCore, 3, wChsI 3 (BitVec.ofNat 64 (0x00 * 2 ^ 56 + 0)) wCore, wChsC 3 (BitVec.ofNat 64 (0x00 * 2 ^ 56 + 0)) wCore, by decide +kernel⟩,
   ⟨wChs 3 (BitVec.ofNat 64 (0x07 * 2 ^ 56 + 500)) wCore, 3, wChsI 3 (BitVec.ofNat 64 (0x07 * 2 ^ 56 + 500)) wCore, wChsC 3 (BitVec.ofNat 64 (0x07 * 2 ^ 56 + 500)) wCore, by decide +kernel⟩,
   ⟨wChs 3 (BitVec.ofNat 64 (0x08 * 2 ^ 56 + 3 * 2 ^ 51)) wCore, 3, wChsI 3 (BitVec.ofNat 64 (0x08 * 2 ^ 56 + 3 * 2 ^ 51)) wCore, wChsC 3 (BitVec.ofNat 64 (0x08 * 2 ^ 56 + 3 * 2 ^ 51)) wCore, by decide +kernel⟩⟩

theorem test_witness_ChiselFlow_2 :
    (∃ (s : State) (n : Nat) (i : ChsInstr) (c : ChsCore),
    chsCore s n = c) ∧
    (∃ (s : State) (n : Nat) (b : Bool) (i : ChsInstr) (c : ChsCore),
    chsCore s n = c) ∧
    (∃ (s : State) (n : Nat) (b : Bool) (i : ChsInstr) (c : ChsCore),
    chsCore s n = c) ∧
    (∃ (s : State) (n : Nat) (b : Bool) (i : ChsInstr) (c : ChsCore),
    chsCore s n = c) :=
  ⟨⟨wChs 3 (BitVec.ofNat 64 (0x01 * 2 ^ 56)) wCore, 3, (chsAt (wChs 3 (BitVec.ofNat 64 (0x01 * 2 ^ 56)) wCore) 3).getD (chsFields 0 .a), { wCore with st := .running, prog := [(0, BitVec.ofNat 64 (0x01 * 2 ^ 56))] }, by decide +kernel⟩,
   ⟨wChs 3 (BitVec.ofNat 64 (0x02 * 2 ^ 56 + 40 * 2 ^ 32)) wCore, 3, true, wChsI 3 (BitVec.ofNat 64 (0x02 * 2 ^ 56 + 40 * 2 ^ 32)) wCore, wChsC 3 (BitVec.ofNat 64 (0x02 * 2 ^ 56 + 40 * 2 ^ 32)) wCore, by decide +kernel⟩,
   ⟨wChs 3 (BitVec.ofNat 64 (0x03 * 2 ^ 56 + 2 ^ 51 + 40 * 2 ^ 32)) wCore, 3, false, wChsI 3 (BitVec.ofNat 64 (0x03 * 2 ^ 56 + 2 ^ 51 + 40 * 2 ^ 32)) wCore, wChsC 3 (BitVec.ofNat 64 (0x03 * 2 ^ 56 + 2 ^ 51 + 40 * 2 ^ 32)) wCore, by decide +kernel⟩,
   ⟨wChs 3 (BitVec.ofNat 64 (0x03 * 2 ^ 56 + 7 * 2 ^ 51 + 40 * 2 ^ 32)) wCore, 3, true, (chsAt (wChs 3 (BitVec.ofNat 64 (0x03 * 2 ^ 56 + 7 * 2 ^ 51 + 40 * 2 ^ 32)) wCore) 3).getD (chsFields 0 .a), { wCore with st := .running, prog := [(0, BitVec.ofNat 64 (0x03 * 2 ^ 56 + 7 * 2 ^ 51 + 40 * 2 ^ 32))] }, by decide +kernel⟩⟩

theorem test_witness_ChiselFlow_3 :
    (∃ (s : State) (n : Nat) (x : Nat) (l : List Nat) (i : ChsInstr) (c : ChsCore),
    chsCore s n = c) ∧
    (∃ (s : State) (n : Nat) (x : Nat) (l : List Nat) (i : ChsInstr) (c : ChsCore),
    chsCore s n = c) ∧
    (∃ (s : State) (n : Nat) (x : Nat) (l : List Nat) (i : ChsInstr) (c : ChsCore),
    chsCore s n = c) ∧
    (∃ (s : State) (n : Nat) (x : Nat) (l : List Nat) (i : ChsInstr) (c : ChsCore),
    chsCore s n = c) :=
  ⟨⟨wChs 3 (BitVec.ofNat 64 (0x04 * 2 ^ 56 + 4 * 2 ^ 32)) { wCore with calls := [1, 2, 3, 4, 5, 6, 7, 8] }, 3, 0, [], wChsI 3 (BitVec.ofNat 64 (0x04 * 2 ^ 56 + 4 * 2 ^ 32)) { wCore with calls := [1, 2, 3, 4, 5, 6, 7, 8] }, wChsC 3 (BitVec.ofNat 64 (0x04 * 2 ^ 56 + 4 * 2 ^ 32)) { wCore with calls := [1, 2, 3, 4, 5, 6, 7, 8] }, by decide +kernel⟩,
   ⟨wChs 3 (BitVec.ofNat 64 (0x05 * 2 ^ 56 + 0)) { wCore with calls := [5] }, 3, 5, [], wChsI 3 (BitVec.ofNat 64 (0x05 * 2 ^ 56 + 0)) { wCore with calls := [5] }, wChsC 3 (BitVec.ofNat 64 (0x05 * 2 ^ 56 + 0)) { wCore with calls := [5] }, by decide +kernel⟩,
   ⟨wChs 3 (BitVec.ofNat 64 (0x05 * 2 ^ 56 + 0)) wCore, 3, 0, [], wChsI 3 (BitVec.ofNat 64 (0x05 * 2 ^ 56 + 0)) wCore, wChsC 3 (BitVec.ofNat 64 (0x05 * 2 ^ 56 + 0)) wCore, by decide +kernel⟩,
   ⟨wChs 3 (BitVec.ofNat 64 (0x04 * 2 ^ 56 + 40 * 2 ^ 32)) wCore, 3, 5, [], (chsAt (wChs 3 (BitVec.ofNat 64 (0x04 * 2 ^ 56 + 40 * 2 ^ 32)) wCore) 3).getD (chsFields 0 .a), { wCore with st := .running, prog := [(0, BitVec.ofNat 64 (0x04 * 2 ^ 56 + 40 * 2 ^ 32))] }, by decide +kernel⟩⟩

theorem test_witness_ChiselFlow_4 :
    (∃ (s : State) (n : Nat) (i : ChsInstr) (c : ChsCore),
    chsCore s n = c ∧ issues s n 0x06 i) ∧
    (∃ (s : State) (n : Nat) (i : ChsInstr) (c : ChsCore),
    chsCore s n = c ∧ issues s n 0x06 i) ∧
    (∃ (s : State) (n : Nat) (i : ChsInstr) (c : ChsCore),
    chsCore s n = c ∧ issues s n 0x06 i) ∧
    (∃ (s : State) (n : Nat) (i : ChsInstr) (c : ChsCore),
    chsCore s n = c ∧ issues s n 0x09 i) :=
  ⟨⟨wChs 3 (BitVec.ofNat 64 (0x06 * 2 ^ 56 + 4 * 2 ^ 32)) wCore, 3, wChsI 3 (BitVec.ofNat 64 (0x06 * 2 ^ 56 + 4 * 2 ^ 32)) wCore, wChsC 3 (BitVec.ofNat 64 (0x06 * 2 ^ 56 + 4 * 2 ^ 32)) wCore, by decide +kernel⟩,
   ⟨wChs 3 (BitVec.ofNat 64 (0x06 * 2 ^ 56 + 4 * 2 ^ 32)) { wCore with loops := [⟨1, 9, 2⟩, ⟨1, 9, 2⟩, ⟨1, 9, 2⟩, ⟨1, 9, 2⟩], lc := 3 }, 3, wChsI 3 (BitVec.ofNat 64 (0x06 * 2 ^ 56 + 4 * 2 ^ 32)) { wCore with loops := [⟨1, 9, 2⟩, ⟨1, 9, 2⟩, ⟨1, 9, 2⟩, ⟨1, 9, 2⟩], lc := 3 }, wChsC 3 (BitVec.ofNat 64 (0x06 * 2 ^ 56 + 4 * 2 ^ 32)) { wCore with loops := [⟨1, 9, 2⟩, ⟨1, 9, 2⟩, ⟨1, 9, 2⟩, ⟨1, 9, 2⟩], lc := 3 }, by decide +kernel⟩,
   ⟨wChs 3 (BitVec.ofNat 64 (0x06 * 2 ^ 56 + 4 * 2 ^ 32)) { wCore with lc := 9 }, 3, (chsAt (wChs 3 (BitVec.ofNat 64 (0x06 * 2 ^ 56 + 4 * 2 ^ 32)) wCore) 3).getD (chsFields 0 .a), { wCore with st := .running, lc := 9, prog := [(0, BitVec.ofNat 64 (0x06 * 2 ^ 56 + 4 * 2 ^ 32))] }, by decide +kernel⟩,
   ⟨wChs 3 (BitVec.ofNat 64 (0x09 * 2 ^ 56 + 2 ^ 51 + 3 * 2 ^ 32)) wCore, 3, wChsI 3 (BitVec.ofNat 64 (0x09 * 2 ^ 56 + 2 ^ 51 + 3 * 2 ^ 32)) wCore, wChsC 3 (BitVec.ofNat 64 (0x09 * 2 ^ 56 + 2 ^ 51 + 3 * 2 ^ 32)) wCore, by decide +kernel⟩⟩

theorem test_witness_ChiselFlow_5 :
    (∃ (s : State) (n : Nat) (i : ChsInstr) (c : ChsCore),
    chsCore s n = c ∧ issues s n 0x09 i) ∧
    (∃ (s : State) (n : Nat) (i : ChsInstr) (c : ChsCore) (x : ChsPost) (l : List ChsPost),
    chsCore s n = c ∧ issues s n 0x0A i) ∧
    (∃ (s : State) (n : Nat) (i : ChsInstr) (c : ChsCore) (x : ChsPost) (l : List ChsPost),
    chsCore s n = c ∧ issues s n 0x0A i) ∧
    (∃ (s : State) (n : Nat) (i : ChsInstr) (c : ChsCore) (r : Nat × Nat × State),
    chsCore s n = c ∧ issues s n 0x0B i ∧ markInsert (masterClaim s (chsMaster n)) ((List.range 4).map (markWord n c (gAddr (c.gReg i.gauge)).toNat)) s = r) :=
  ⟨⟨wChs 3 (BitVec.ofNat 64 (0x09 * 2 ^ 56 + 2 ^ 51 + 3 * 2 ^ 32)) { wCore with pending := 6 }, 3, (chsAt (wChs 3 (BitVec.ofNat 64 (0x09 * 2 ^ 56 + 2 ^ 51 + 3 * 2 ^ 32)) wCore) 3).getD (chsFields 0 .a), { wCore with st := .running, pending := 6, prog := [(0, BitVec.ofNat 64 (0x09 * 2 ^ 56 + 2 ^ 51 + 3 * 2 ^ 32))] }, by decide +kernel⟩,
   ⟨wChs 65 (BitVec.ofNat 64 (0x0A * 2 ^ 56 + 4 * 2 ^ 51)) wCore, 65, wChsI 65 (BitVec.ofNat 64 (0x0A * 2 ^ 56 + 4 * 2 ^ 51)) wCore, wChsC 65 (BitVec.ofNat 64 (0x0A * 2 ^ 56 + 4 * 2 ^ 51)) wCore, ⟨0, 0⟩, [], by decide +kernel⟩,
   ⟨wChs 65 (BitVec.ofNat 64 (0x0A * 2 ^ 56 + 4 * 2 ^ 51)) { wCore with posts := [⟨77, 5⟩] }, 65, (chsAt (wChs 65 (BitVec.ofNat 64 (0x0A * 2 ^ 56 + 4 * 2 ^ 51)) wCore) 65).getD (chsFields 0 .a), { wCore with st := .running, posts := [⟨77, 5⟩], prog := [(0, BitVec.ofNat 64 (0x0A * 2 ^ 56 + 4 * 2 ^ 51))] }, ⟨77, 5⟩, [], by decide +kernel⟩,
   ⟨wChs 65 (BitVec.ofNat 64 (0x0B * 2 ^ 56 + 4 * 2 ^ 51 + 2 * 2 ^ 47)) { wCore with t := [(16, 9), (18, 500), (20, 13)] }, 65, (chsAt (wChs 65 (BitVec.ofNat 64 (0x0B * 2 ^ 56 + 4 * 2 ^ 51 + 2 * 2 ^ 47)) wCore) 65).getD (chsFields 0 .a), { wCore with st := .running, t := [(16, 9), (18, 500), (20, 13)], prog := [(0, BitVec.ofNat 64 (0x0B * 2 ^ 56 + 4 * 2 ^ 51 + 2 * 2 ^ 47))] }, markInsert 0 [9, 500, 13, 0] (wChs 65 (BitVec.ofNat 64 (0x0B * 2 ^ 56 + 4 * 2 ^ 51 + 2 * 2 ^ 47)) { wCore with t := [(16, 9), (18, 500), (20, 13)] }), by decide +kernel⟩⟩

theorem test_witness_ChiselFlow_6 :
    (∃ (s : State) (s1 : State) (n : Nat) (ref : Bool) (i : ChsInstr) (c : ChsCore) (w : Word),
    chsCore s n = c ∧ issues s n 0x0C i ∧ busRead (chsMaster n) (8 * ((gAddr (c.gReg i.gauge)).toNat % 2 ^ 23)) 8 s = (w, ref, s1) ∧ chsCore s1 n = c) ∧
    (∃ (s : State) (s1 : State) (n : Nat) (i : ChsInstr) (c : ChsCore) (w : Word),
    chsCore s n = c ∧ issues s n 0x0D i ∧ w.setWidth 48 = c.dReg i.da ∧ fieldOf w 48 16 = (c.dReg (i.da + 1)).toNat % 2 ^ 16 ∧ busWrite (chsMaster n) (8 * ((gAddr (c.gReg i.gauge)).toNat % 2 ^ 23)) 8 w s = s1 ∧ chsCore s1 n = c) ∧
    (∃ (s : State) (n : Nat) (a : Nat) (i : ChsInstr) (c : ChsCore),
    chsCore s n = c ∧ (gAddr (c.gReg i.gauge)).toNat = a) :=
  ⟨⟨wChs 3 (BitVec.ofNat 64 (0x0C * 2 ^ 56 + 4 * 2 ^ 51 + 3 * 2 ^ 47)) { wCore with g := [(3, BitVec.ofNat 48 (512 * 0x330))] }, (busRead 67 (8 * 512 * 0x330) 8 (wChs 3 (BitVec.ofNat 64 (0x0C * 2 ^ 56 + 4 * 2 ^ 51 + 3 * 2 ^ 47)) { wCore with g := [(3, BitVec.ofNat 48 (512 * 0x330))] })).2.2, 3, false, (chsAt (wChs 3 (BitVec.ofNat 64 (0x0C * 2 ^ 56 + 4 * 2 ^ 51 + 3 * 2 ^ 47)) wCore) 3).getD (chsFields 0 .a), { wCore with st := .running, g := [(3, BitVec.ofNat 48 (512 * 0x330))], prog := [(0, BitVec.ofNat 64 (0x0C * 2 ^ 56 + 4 * 2 ^ 51 + 3 * 2 ^ 47))] }, (busRead 67 (8 * 512 * 0x330) 8 (wChs 3 (BitVec.ofNat 64 (0x0C * 2 ^ 56 + 4 * 2 ^ 51 + 3 * 2 ^ 47)) { wCore with g := [(3, BitVec.ofNat 48 (512 * 0x330))] })).1, by decide +kernel⟩,
   ⟨wChs 3 (BitVec.ofNat 64 (0x0D * 2 ^ 56 + 4 * 2 ^ 51 + 3 * 2 ^ 47)) { wCore with d := [(4, 5)], g := [(3, BitVec.ofNat 48 (512 * 0x330 + 0x128 / 8))] }, busWrite 67 (8 * (512 * 0x330 + 0x128 / 8)) 8 5#64 (wChs 3 (BitVec.ofNat 64 (0x0D * 2 ^ 56 + 4 * 2 ^ 51 + 3 * 2 ^ 47)) { wCore with d := [(4, 5)], g := [(3, BitVec.ofNat 48 (512 * 0x330 + 0x128 / 8))] }), 3, (chsAt (wChs 3 (BitVec.ofNat 64 (0x0D * 2 ^ 56 + 4 * 2 ^ 51 + 3 * 2 ^ 47)) wCore) 3).getD (chsFields 0 .a), { wCore with st := .running, d := [(4, 5)], g := [(3, BitVec.ofNat 48 (512 * 0x330 + 0x128 / 8))], prog := [(0, BitVec.ofNat 64 (0x0D * 2 ^ 56 + 4 * 2 ^ 51 + 3 * 2 ^ 47))] }, 5#64, by decide +kernel⟩,
   ⟨wChs 3 (BitVec.ofNat 64 (0x0F * 2 ^ 56 + 0)) wCore, 3, 0, wChsI 3 (BitVec.ofNat 64 (0x0F * 2 ^ 56 + 0)) wCore, wChsC 3 (BitVec.ofNat 64 (0x0F * 2 ^ 56 + 0)) wCore, by decide +kernel⟩⟩

theorem test_witness_ChiselFlow_7 :
    (∃ (s : State) (n : Nat) (a : Nat) (i : ChsInstr) (c : ChsCore),
    chsCore s n = c ∧ (gAddr (c.gReg i.gauge)).toNat = a) ∧
    (∃ (s : State) (n : Nat) (a : Nat) (i : ChsInstr) (c : ChsCore),
    chsCore s n = c ∧ (gAddr (c.gReg i.gauge)).toNat = a) ∧
    (∃ (s : State) (n : Nat) (a : Nat) (i : ChsInstr) (c : ChsCore),
    chsCore s n = c ∧ (gAddr (c.gReg i.gauge)).toNat = a) ∧
    (∃ (s : State) (n : Nat) (i : ChsInstr) (c : ChsCore),
    chsCore s n = c ∧ issues s n 0x10 i) :=
  ⟨⟨wChs 3 (BitVec.ofNat 64 (0x0F * 2 ^ 56 + 0)) { wCore with outq := [⟨0, 5, 64, 0⟩] }, 3, 0, wChsI 3 (BitVec.ofNat 64 (0x0F * 2 ^ 56 + 0)) { wCore with outq := [⟨0, 5, 64, 0⟩] }, wChsC 3 (BitVec.ofNat 64 (0x0F * 2 ^ 56 + 0)) { wCore with outq := [⟨0, 5, 64, 0⟩] }, by decide +kernel⟩,
   ⟨wChs 3 (BitVec.ofNat 64 (0x0E * 2 ^ 56 + 0)) { wCore with outq := [⟨0, 5, 64, 0⟩, ⟨0, 5, 64, 0⟩, ⟨0, 5, 64, 0⟩, ⟨0, 5, 64, 0⟩] }, 3, 0, wChsI 3 (BitVec.ofNat 64 (0x0E * 2 ^ 56 + 0)) { wCore with outq := [⟨0, 5, 64, 0⟩, ⟨0, 5, 64, 0⟩, ⟨0, 5, 64, 0⟩, ⟨0, 5, 64, 0⟩] }, wChsC 3 (BitVec.ofNat 64 (0x0E * 2 ^ 56 + 0)) { wCore with outq := [⟨0, 5, 64, 0⟩, ⟨0, 5, 64, 0⟩, ⟨0, 5, 64, 0⟩, ⟨0, 5, 64, 0⟩] }, by decide +kernel⟩,
   ⟨wChs 3 (BitVec.ofNat 64 (0x0E * 2 ^ 56 + 2 * 2 ^ 47)) { wCore with t := [(16, 9), (17, 64)] }, 3, 16, (chsAt (wChs 3 (BitVec.ofNat 64 (0x0E * 2 ^ 56 + 2 * 2 ^ 47)) wCore) 3).getD (chsFields 0 .a), { wCore with st := .running, t := [(16, 9), (17, 64)], prog := [(0, BitVec.ofNat 64 (0x0E * 2 ^ 56 + 2 * 2 ^ 47))] }, by decide +kernel⟩,
   ⟨wChs 3 (BitVec.ofNat 64 (0x10 * 2 ^ 56 + 77 * 2 ^ 32)) wCore, 3, wChsI 3 (BitVec.ofNat 64 (0x10 * 2 ^ 56 + 77 * 2 ^ 32)) wCore, wChsC 3 (BitVec.ofNat 64 (0x10 * 2 ^ 56 + 77 * 2 ^ 32)) wCore, by decide +kernel⟩⟩

theorem test_witness_ChiselFlow_8 : ∃ (s : State) (n : Nat) (i : ChsInstr) (c : ChsCore),
    chsCore s n = c ∧ issues s n 0x10 i :=
  ⟨wChs 3 (BitVec.ofNat 64 (0x10 * 2 ^ 56 + 77 * 2 ^ 32)) wCore, 3, (chsAt (wChs 3 (BitVec.ofNat 64 (0x10 * 2 ^ 56 + 77 * 2 ^ 32)) wCore) 3).getD (chsFields 0 .a), { wCore with st := .running, prog := [(0, BitVec.ofNat 64 (0x10 * 2 ^ 56 + 77 * 2 ^ 32))] }, by decide +kernel⟩

theorem test_witness_ChiselCores_1 :
    (∃ (s : State) (m : Nat) (n : Nat) (v : Word),
    n < 68 ∧ judge s m (chsPage n) R.CHS_CTRL 8 (v ||| 1#64) = .ok ∧ bitOf v 1 = false ∧ bitOf v 2 = false ∧ fieldOf v 8 14 < chsProgSize n ∧ flag s (chsPage n) F.PAGE_CTRL_ENABLE = true) ∧
    (∃ (s : State) (m : Nat) (n : Nat) (v : Word),
    n < 68 ∧ judge s m (chsPage n) R.CHS_CTRL 8 (v ||| 2#64) = .ok ∧ bitOf v 0 = false ∧ bitOf v 2 = false ∧ fieldOf v 8 14 < chsProgSize n) ∧
    (∃ (s : State) (m : Nat) (n : Nat) (mask : Nat) (dest : Nat) (v : Word),
    n < 68 ∧ judge s m (chsPage n) R.CHS_CTRL 8 (v ||| 4#64) = .ok ∧ bitOf v 0 = false ∧ bitOf v 1 = false ∧ fieldOf v 8 14 < chsProgSize n ∧ unarmed s (chsPage n)) ∧
    (∃ (s : State) (n : Nat) (cause : Nat),
    n < 68 ∧ unarmed s (chsPage n) ∧ pageGated s (chsPage n) = false ∧ ((cause = 1 ∨ cause = 4)) ∧ (chsCore s n).st ≠ .waiting ∧ ((cause = 4 → fld s (chsPage n) F.CHS_CFG_TIMER_US ≠ 0)) ∧ ((cause = 1 → planOf s (wakeRegion s n).1 (wakeRegion s n).2 = none))) :=
  ⟨⟨wOn 0x353 w0, 3, 3, BitVec.ofNat 64 (40 * 256), by decide +kernel⟩,
   ⟨wChs 3 0#64 {}, 3, 3, BitVec.ofNat 64 (40 * 256), by decide +kernel⟩,
   ⟨{ wChs 3 0#64 {} with chs := { cores := [(3, { st := .waiting, wait := some (.causes 5 7) })] } }, 3, 3, 5, 7, 0#64, by decide +kernel⟩,
   ⟨{ wChs 3 0#64 {} with chs := { cores := [(3, { pending := 2 })] } }, 3, 1, by decide +kernel⟩⟩

theorem test_witness_ChiselCores_2 :
    (∃ (s : State) (n : Nat) (cause : Nat) (mask : Nat) (dest : Nat) (x : Nat) (c : ChsCore),
    c = { chsCore s n with pending := (chsCore s n).pending ||| 2 ^ cause } ∧ n < 68 ∧ unarmed s (chsPage n) ∧ pageGated s (chsPage n) = false ∧ ((cause = 1 ∨ cause = 4)) ∧ ((cause = 4 → fld s (chsPage n) F.CHS_CFG_TIMER_US ≠ 0)) ∧ ((cause = 1 → planOf s (wakeRegion s n).1 (wakeRegion s n).2 = none)) ∧ (chsCore s n).st = .waiting ∧ (chsCore s n).wait = some (.causes mask dest) ∧ (chsCore s n).pending.testBit cause = false ∧ c.causes &&& mask = x ∧ x ≠ 0) ∧
    (∃ (s : State) (n : Nat) (cause : Nat),
    n < 68 ∧ (chsCore s n).st ≠ .waiting ∧ ((cause ≠ 1 ∧ cause ≠ 4 ∨ cause = 4 ∧ fld s (chsPage n) F.CHS_CFG_TIMER_US = 0 ∨ cause = 1 ∧ planOf s (wakeRegion s n).1 (wakeRegion s n).2 ≠ none))) ∧
    (∃ (s : State) (m : Nat) (n : Nat) (k : Nat) (v : Word),
    n < 68 ∧ judge s m (chsPage n) R.CHS_MEM_DATA 8 v = .ok ∧ fld s (chsPage n) F.CHS_MEM_ADDR_INDEX = k ∧ k < chsProgSize n ∧ fld s (chsPage n) F.CHS_MEM_ADDR_SPACE = 0) ∧
    (∃ (s : State) (n : Nat),
    chsRunning s n = true ∧ fld s (chsPage n) F.CHS_CFG_WATCHDOG_US ≠ 0) :=
  ⟨⟨setFld 0x353 F.CHS_CFG_TIMER_US 3 { wChs 3 0#64 {} with chs := { cores := [(3, { st := .waiting, wait := some (.causes 17 7) })] } }, 3, 4, 17, 7, 16, _, rfl, by decide +kernel⟩,
   ⟨wChs 3 0#64 {}, 3, 2, by decide +kernel⟩,
   ⟨setReg 0x353 0x120 0x40005 (wOn 0x353 w0), 3, 3, 5, 0x1234#64, by decide +kernel⟩,
   ⟨setFld 0x353 F.CHS_CFG_WATCHDOG_US 7 (wChs 3 0#64 {}), 3, by decide +kernel⟩⟩

theorem test_witness_ChiselCores_3 :
    (∃ (s : State) (n : Nat) (i : ChsInstr),
    chsAt s n = some i) ∧
    (∃ (s : State) (n : Nat) (i : ChsInstr),
    chsAt s n = some i) ∧
    (∃ (s : State) (n : Nat) (o : ChsOut) (l : List ChsOut),
    n < 68 ∧ pageGated s (chsPage n) = false ∧ (chsCore s n).outq = o :: l ∧ outLegal n o = false) ∧
    (∃ (s : State) (n : Nat) (o : ChsOut) (l : List ChsOut) (ws : List (List Byte × Nat)),
    n < 68 ∧ pageGated s (chsPage n) = false ∧ (chsCore s n).outq = o :: l ∧ outLegal n o = true ∧ unarmed s (chsPage n) ∧ (List.range o.w1.toNat).map (fun k => outWord (o.w0.extractLsb' 17 3).toNat (o.w0.extractLsb' 20 6).toNat (chsMemGet n (chsCore s n) (if o.w0.getLsbD 16 then 1 else 0) ((o.w0.extractLsb' 0 16).toNat + k))) = ws) :=
  ⟨⟨wChs 3 (BitVec.ofNat 64 (0x0C * 2 ^ 56 + 4 * 2 ^ 51 + 3 * 2 ^ 47)) {}, 3, (chsAt (wChs 3 (BitVec.ofNat 64 (0x0C * 2 ^ 56 + 4 * 2 ^ 51 + 3 * 2 ^ 47)) {}) 3).getD (chsFields 0 .a), by decide +kernel⟩,
   ⟨wChs 64 (BitVec.ofNat 64 (0x80000000 + 4 * 2 ^ 26 + 2 * 2 ^ 23 + 2 * 2 ^ 19)) {}, 64, (chsAt (wChs 64 (BitVec.ofNat 64 (0x80000000 + 4 * 2 ^ 26 + 2 * 2 ^ 23 + 2 * 2 ^ 19)) {}) 64).getD (chsFields 0 .a), by decide +kernel⟩,
   ⟨let q := wOn 0x353 w0; { q with chs := { cores := [(3, { outq := [⟨0, 5, 64, 0⟩] })] } }, 3, ⟨0, 5, 64, 0⟩, [], by decide +kernel⟩,
   ⟨let q := wOn 0x353 w0; { q with chs := { cores := [(3, { t := [(0, 7)], outq := [⟨0, 32, 64, 0⟩] })] } }, 3, ⟨0, 32, 64, 0⟩, [], (leBytes 6 7, 0) :: List.replicate 31 (leBytes 6 0, 0), by decide +kernel⟩⟩

theorem test_witness_HbmController_1 :
    (∃ (s : State) (r : HbmReq) (pc : Nat),
    hpcOf r.addr = pc ∧ (alGet {} s.hbm.pcs pc).queue = [] ∧ (alGet {} s.hbm.pcs pc).held = [] ∧ s.hbm.waiting = [] ∧ s.hbm.replies = [] ∧ mustHold s ⟨r, s.hbm.nextSeq, false, s.mono⟩ = false ∧ ((∀ k, k < r.len → rowFenced s (r.addr + k) = false)) ∧ r.wr = true ∧ r.data.length = r.len ∧ 0 < r.len ∧ r.addr % 256 + r.len ≤ 256 ∧ r.resends = 0 ∧ hbmInside r.addr r.len = true ∧ touchesReserved r.addr r.len = false ∧ fenceHit s r.addr r.len = none ∧ badWords s r.addr r.len = [] ∧ hbmRefuses s r.addr r.len = false ∧ unarmed s (hpcPage pc) ∧ unarmed s (hbmPage (stackOf r.addr))) ∧
    (∃ (s : State) (r : HbmReq) (pc : Nat) (w : Nat),
    hpcOf r.addr = pc ∧ (alGet {} s.hbm.pcs pc).queue = [] ∧ (alGet {} s.hbm.pcs pc).held = [] ∧ s.hbm.waiting = [] ∧ s.hbm.replies = [] ∧ mustHold s ⟨r, s.hbm.nextSeq, false, s.mono⟩ = false ∧ r.wr = true ∧ r.data.length = r.len ∧ 0 < r.len ∧ r.addr % 256 + r.len ≤ 256 ∧ r.resends = 0 ∧ hbmInside r.addr r.len = true ∧ touchesReserved r.addr r.len = false ∧ fenceHit s r.addr r.len = none ∧ hbmRefuses s r.addr r.len = false ∧ unarmed s (hpcPage pc) ∧ unarmed s (hbmPage (stackOf r.addr)) ∧ w ∈ s.hbm.poison ∧ ((∀ x ∈ wordsRead r, x = w)) ∧ w ∈ wordsRead r ∧ rowFenced s (w * 32) = false ∧ hpcOf (w * 32) = pc ∧ stackOf (w * 32) = stackOf r.addr) ∧
    (∃ (s : State) (r : HbmReq) (pc : Nat),
    hpcOf r.addr = pc ∧ (alGet {} s.hbm.pcs pc).queue = [] ∧ (alGet {} s.hbm.pcs pc).held = [] ∧ s.hbm.waiting = [] ∧ s.hbm.replies = [] ∧ mustHold s ⟨r, s.hbm.nextSeq, false, s.mono⟩ = false ∧ aheadHere s ⟨r, s.hbm.nextSeq, false, s.mono⟩ = false ∧ badWords s r.addr r.len = [] ∧ r.wr = false ∧ 0 < r.len ∧ r.addr % 256 + r.len ≤ 256 ∧ r.resends = 0 ∧ hbmInside r.addr r.len = true ∧ touchesReserved r.addr r.len = false ∧ hbmRefuses s r.addr r.len = false ∧ unarmed s (hpcPage pc) ∧ unarmed s (hbmPage (stackOf r.addr))) ∧
    (∃ (s : State) (r : HbmReq) (pc : Nat) (f : HbmFence),
    hpcOf r.addr = pc ∧ (alGet {} s.hbm.pcs pc).queue = [] ∧ (alGet {} s.hbm.pcs pc).held = [] ∧ s.hbm.waiting = [] ∧ s.hbm.replies = [] ∧ mustHold s ⟨r, s.hbm.nextSeq, false, s.mono⟩ = false ∧ r.wr = true ∧ r.data.length = r.len ∧ 0 < r.len ∧ r.addr % 256 + r.len ≤ 256 ∧ r.resends = 0 ∧ hbmInside r.addr r.len = true ∧ fenceHit s r.addr r.len = some f ∧ f.page < 0x600 ∧ f.page ≠ 0x2C0 ∧ f.bit < 64 ∧ hbmRefuses s r.addr r.len = false ∧ unarmed s (hpcPage pc)) :=
  ⟨⟨wHbm {}, wReq true 770 [1, 2, 3, 4], 3, by decide +kernel⟩,
   ⟨{ wHbm {} with hbm := { (wHbm {}).hbm with poison := [24] } }, wReq true 770 [1, 2, 3, 4], 3, 24, by decide +kernel⟩,
   ⟨memPut 770 2 513 (wHbm {}), wReq false 770 [], 3, by decide +kernel⟩,
   ⟨{ wHbm {} with hbm := { fences := [⟨772, 100, 0x220, 7, 1⟩] } }, wReq true 770 [1, 2, 3, 4], 3, ⟨772, 100, 0x220, 7, 1⟩, by decide +kernel⟩⟩

theorem test_witness_HbmController_2 :
    (∃ (s : State) (r : HbmReq) (pc : Nat),
    (alGet {} s.hbm.pcs pc).queue = [] ∧ s.hbm.waiting = [] ∧ s.hbm.replies = [] ∧ r.wr = false ∧ r.resends = 0 ∧ aheadHere s ⟨r, s.hbm.nextSeq, false, s.mono⟩ = false ∧ stackRefuses s (stackOf r.addr) = true) ∧
    (∃ (s : State) (r : HbmReq) (pc : Nat),
    (alGet {} s.hbm.pcs pc).queue = [] ∧ s.hbm.waiting = [] ∧ s.hbm.replies = [] ∧ r.resends = 0 ∧ hbmInside r.addr r.len = true ∧ 0 < r.len ∧ r.addr % 256 + r.len ≤ 256 ∧ stackHolds s (stackOf r.addr) = true ∧ outstanding s r.master < 256 ∧ chainBack s ⟨r, s.hbm.nextSeq, false, s.mono⟩ = false) ∧
    (∃ (s : State) (r : HbmReq) (pc : Nat),
    (alGet {} s.hbm.pcs pc).queue = [] ∧ s.hbm.waiting = [] ∧ s.hbm.replies = [] ∧ r.resends = 0 ∧ hbmRefuses s r.addr r.len = false ∧ 0 < r.len ∧ r.addr % 256 + r.len ≤ 256 ∧ outstanding s r.master < 256 ∧ chainBack s ⟨r, s.hbm.nextSeq, false, s.mono⟩ = true) ∧
    (∃ (s : State) (pc : Nat) (e : HbmEntry) (f : HbmEntry) (c : HbmPc),
    alGet {} s.hbm.pcs pc = c ∧ c.queue = [e, f] ∧ c.held = [] ∧ s.hbm.waiting = [] ∧ s.hbm.replies = [] ∧ e.req.wr = true ∧ f.req.wr = true ∧ e ≠ f ∧ stackOf e.req.addr = stackOf f.req.addr ∧ stackOf e.req.addr < 4) :=
  ⟨⟨setFld 0x230 F.HBM_STATUS_STATE 3 (wHbm {}), wReq false 770 [], 3, by decide +kernel⟩,
   ⟨setFld 0x230 F.HBM_STATUS_STATE 1 (wHbm {}), wReq false 770 [], 3, by decide +kernel⟩,
   ⟨setFld 0x231 F.HBM_STATUS_STATE 2 { wHbm {} with hbm := { pcs := [(3, { queue := [⟨wReq true 770 [9], 1, false, 0⟩, ⟨{ wReq true 770 [9] with master := 6 }, 3, false, 0⟩] }), (35, { queue := [⟨{ wReq true (770 + 0x900000000) [9] with master := 6 }, 2, false, 0⟩] })], nextSeq := 50 } }, { wReq true 0x900000000 [7] with id := 1 }, 32, by decide +kernel⟩,
   ⟨wHbm { queue := [⟨wReq true 770 [9], 1, false, 0⟩, ⟨wReq true 780 [7], 2, false, 0⟩], rows := [(0, 1)], runLen := 16 }, 3, ⟨wReq true 770 [9], 1, false, 0⟩, ⟨wReq true 780 [7], 2, false, 0⟩, { queue := [⟨wReq true 770 [9], 1, false, 0⟩, ⟨wReq true 780 [7], 2, false, 0⟩], rows := [(0, 1)], runLen := 16 }, by decide +kernel⟩⟩

theorem test_witness_HbmController_3 :
    (∃ (s : State) (pc : Nat) (e : HbmEntry) (f : HbmEntry) (c : HbmPc),
    alGet {} s.hbm.pcs pc = c ∧ c.queue = [e, f] ∧ c.held = [] ∧ s.hbm.waiting = [] ∧ s.hbm.replies = [] ∧ e.req.wr = true ∧ f.req.wr = true ∧ e ≠ f ∧ stackOf e.req.addr = stackOf f.req.addr ∧ stackOf e.req.addr < 4 ∧ (rowHit { queue := [], rows := [(1, 1), (0, 5)] } (wReq true (780 + 262144) [7]) = false)) ∧
    (∃ (s : State) (pc : Nat) (w : Nat),
    hpcOf (w * 32) = pc ∧ w * 32 < 4 * stackBytes ∧ flag s (hbmPage (stackOf (w * 32))) F.PAGE_CTRL_ENABLE = true ∧ fld s (hbmPage (stackOf (w * 32))) F.HBM_STATUS_STATE = 2 ∧ (alGet {} s.hbm.pcs pc).queue = [] ∧ rowUnit (w * 32) ∉ s.hbm.retired) ∧
    (∃ (s : State) (pc : Nat) (w : Nat),
    hpcOf (w * 32) = pc ∧ w * 32 < 4 * stackBytes ∧ flag s (hbmPage (stackOf (w * 32))) F.PAGE_CTRL_ENABLE = true ∧ fld s (hbmPage (stackOf (w * 32))) F.HBM_STATUS_STATE = 2 ∧ (alGet {} s.hbm.pcs pc).queue = [] ∧ rowUnit (w * 32) ∉ s.hbm.retired) ∧
    (∃ (s : State) (m : Nat) (e : HbmEntry),
    (firstEntry ((issuedEntries s).filter (fun x => decide (x.req.master = m ∧ x.req.wr = true))) = some e) ∧ s.hbm.waiting = []) :=
  ⟨⟨wHbm { queue := [⟨wReq true 770 [9], 1, false, 0⟩, ⟨wReq true (780 + 262144) [7], 2, false, 0⟩], rows := [(1, 1), (0, 5)], runLen := 0 }, 3, ⟨wReq true 770 [9], 1, false, 0⟩, ⟨wReq true (780 + 262144) [7], 2, false, 0⟩, { queue := [⟨wReq true 770 [9], 1, false, 0⟩, ⟨wReq true (780 + 262144) [7], 2, false, 0⟩], rows := [(1, 1), (0, 5)], runLen := 0 }, by decide +kernel⟩,
   ⟨wHbm {}, 3, 24, by decide +kernel⟩,
   ⟨{ wHbm {} with hbm := { poison := [24] } }, 3, 24, by decide +kernel⟩,
   ⟨wHbm { queue := [⟨wReq true 770 [9], 1, false, 0⟩] }, 5, ⟨wReq true 770 [9], 1, false, 0⟩, by decide +kernel⟩⟩

theorem test_witness_HbmController_4 :
    (∃ (s : State) (m : Nat) (e : HbmEntry),
    (firstEntry ((issuedEntries s).filter (fun x => decide (x.req.master = m ∧ x.req.wr = false))) = some e) ∧ s.hbm.waiting = [] ∧ s.hbm.replies = [] ∧ aheadHere s e = false) ∧
    (∃ (s : State) (m : Nat),
    issuedEntries s = [] ∧ s.hbm.waiting = []) ∧
    (∃ (s : State) (pc : Nat) (errs : List WordError),
    (alGet {} s.hbm.pcs pc).queue = [] ∧ s.hbm.waiting = [] ∧ s.hbm.replies = []) ∧
    (∃ (s : State) (s1 : State) (a : HbmReq) (b : HbmReq) (pc : Nat) (e : HbmEntry) (f : HbmEntry),
    s1 = arrive b (arrive a s) ∧ byPrio s [a, b] = [a, b] ∧ s1.hbm.waiting = [] ∧ s1.hbm.replies = [] ∧ (alGet {} s1.hbm.pcs pc).queue = [e, f] ∧ (alGet {} s1.hbm.pcs pc).held = [] ∧ (alGet {} s1.hbm.pcs pc).runLen < 16 ∧ ((rowHit (alGet {} s1.hbm.pcs pc) e.req = true ∨ rowHit (alGet {} s1.hbm.pcs pc) f.req = false)) ∧ e.req.wr = true ∧ f.req.wr = true ∧ e ≠ f) :=
  ⟨⟨wHbm { queue := [⟨wReq false 770 [], 1, false, 0⟩] }, 5, ⟨wReq false 770 [], 1, false, 0⟩, by decide +kernel⟩,
   ⟨wHbm {}, 5, by decide +kernel⟩,
   ⟨wHbm {}, 3, [⟨24, true⟩], by decide +kernel⟩,
   ⟨wHbm {}, _, wReq true 770 [9], wReq true 780 [7], 3, ⟨wReq true 770 [9], 50, false, 0⟩, ⟨wReq true 780 [7], 51, false, 0⟩, rfl, by decide +kernel⟩⟩

theorem test_witness_HbmController_5 :
    (∃ (s : State) (r : HbmReq) (pc : Nat) (w : Nat) (u : Bool),
    hpcOf r.addr = pc ∧ (alGet {} s.hbm.pcs pc).queue = [] ∧ (alGet {} s.hbm.pcs pc).held = [] ∧ s.hbm.waiting = [] ∧ s.hbm.replies = [] ∧ mustHold s ⟨r, s.hbm.nextSeq, false, s.mono⟩ = false ∧ aheadHere s ⟨r, s.hbm.nextSeq, false, s.mono⟩ = false ∧ r.wr = false ∧ 0 < r.len ∧ r.addr % 256 + r.len ≤ 256 ∧ r.resends = 0 ∧ hbmInside r.addr r.len = true ∧ touchesReserved r.addr r.len = false ∧ hbmRefuses s r.addr r.len = false ∧ unarmed s (hpcPage pc) ∧ unarmed s (hbmPage (stackOf r.addr)) ∧ w * 32 < r.addr + r.len ∧ r.addr < w * 32 + 32 ∧ hpcOf (w * 32) = pc) ∧
    (∃ (s : State) (pc : Nat) (w : Nat) (err : Option Bool),
    ((flag s (hbmPage (stackOf (w * 32))) F.PAGE_CTRL_ENABLE = false ∨ fld s (hbmPage (stackOf (w * 32))) F.HBM_STATUS_STATE ≠ 2))) ∧
    (∃ (s : State) (pc : Nat) (w : Nat) (e : HbmEntry),
    hpcOf (w * 32) = pc ∧ w * 32 < 4 * stackBytes ∧ flag s (hbmPage (stackOf (w * 32))) F.PAGE_CTRL_ENABLE = true ∧ fld s (hbmPage (stackOf (w * 32))) F.HBM_STATUS_STATE = 2 ∧ e ∈ (alGet {} s.hbm.pcs pc).queue ∧ e.req.wr = true ∧ e.req.addr ≤ w * 32 ∧ w * 32 + 32 ≤ e.req.addr + e.req.len ∧ rowUnit (w * 32) ∉ s.hbm.retired) ∧
    (∃ (s : State) (m : Nat),
    issuedEntries s = [] ∧ s.hbm.waiting = []) :=
  ⟨⟨memPut 770 2 513 (wHbm {}), wReq false 770 [], 3, 24, false, by decide +kernel⟩,
   ⟨setFld 0x230 F.HBM_STATUS_STATE 3 (wHbm {}), 3, 24, some true, by decide +kernel⟩,
   ⟨wHbm { queue := [⟨wReq true 768 (List.replicate 32 9), 1, false, 0⟩] }, 3, 24, ⟨wReq true 768 (List.replicate 32 9), 1, false, 0⟩, by decide +kernel⟩,
   ⟨wHbm {}, 5, by decide +kernel⟩⟩

theorem test_witness_Rings_1 :
    (∃ (s : State) (ring : Nat) (m : Nat) (k : Nat) (r : Ring),
    ringOf s ring = r ∧ r.valid = true ∧ pageLive s rngPage = true ∧ unarmed s rngPage ∧ openSpan s ring m = none ∧ k ≤ r.size / 128 ∧ r.reserve - r.taken + k ≤ r.units ∧ r.aboveNow = r.above) ∧
    (∃ (s : State) (ring : Nat) (m : Nat) (k : Nat) (r : Ring),
    ringOf s ring = r ∧ r.valid = true ∧ pageLive s rngPage = true ∧ unarmed s rngPage ∧ openSpan s ring m = none ∧ ((r.size / 128 < k ∨ r.units < r.reserve - r.taken + k)) ∧ r.aboveNow = r.above) ∧
    (∃ (s : State) (ring : Nat) (m : Nat) (k : Nat) (r : Ring),
    ringOf s ring = r ∧ r.valid = true ∧ pageLive s rngPage = true ∧ unarmed s rngPage ∧ openSpan s ring m = none ∧ ((r.size / 128 < k ∨ r.units < r.reserve - r.taken + k)) ∧ r.aboveNow = r.above) ∧
    (∃ (s : State) (s1 : State) (q : CommitReq) (p : RingSpan) (c : LdgCommit),
    openSpan s q.ring q.producer = some p ∧ p.len = recordUnits q.payload.length ∧ commitOf s q.ring p.start q.producer q.rtype q.die q.payload = c ∧ writePieces (recordPieces c 0 (recordUnits q.payload.length * 64)) (producerBytes c) s = (false, s1) ∧ ldgOpen s1 = true) :=
  ⟨⟨wRings wRing4, 4, 6, 3, wRing4, by decide +kernel⟩,
   ⟨wRings wRing4, 4, 6, 33, wRing4, by decide +kernel⟩,
   ⟨wRings { wRing4 with reserve := 60 }, 4, 6, 5, { wRing4 with reserve := 60 }, by decide +kernel⟩,
   ⟨setFld 0x3E1 F.LDG_STATUS_OPEN 1 (wRings wRing4), (writePieces (recordPieces ⟨4, 3145728, 4096, 4, 5, 2, 1, [1, 2]⟩ 0 256) (producerBytes ⟨4, 3145728, 4096, 4, 5, 2, 1, [1, 2]⟩) (setFld 0x3E1 F.LDG_STATUS_OPEN 1 (wRings wRing4))).2, ⟨4, 5, 2, 1, [1, 2]⟩, ⟨4, 4, .opened, 5, none⟩, ⟨4, 3145728, 4096, 4, 5, 2, 1, [1, 2]⟩, by decide +kernel⟩⟩

theorem test_witness_Rings_2 :
    (∃ (s : State) (s1 : State) (q : CommitReq) (p : RingSpan) (c : LdgCommit),
    openSpan s q.ring q.producer = some p ∧ p.len = recordUnits q.payload.length ∧ commitOf s q.ring p.start q.producer q.rtype q.die q.payload = c ∧ writePieces (recordPieces c 0 (recordUnits q.payload.length * 64)) (producerBytes c) s = (false, s1) ∧ ldgOpen s1 = false) ∧
    (∃ (s : State) (ring : Nat) (m : Nat) (p : RingSpan) (x : RingSpan) (l : List RingSpan),
    openSpan s ring m = some p ∧ (ringOf s ring).spans = l ++ [p] ∧ l.getLast? = some x ∧ x.st = .committed ∧ x.start + x.len = p.start ∧ ((∀ y ∈ l, y.start ≠ p.start)) ∧ (ringOf s ring).visible ≤ p.start) ∧
    (∃ (s : State) (ring : Nat) (m : Nat),
    openSpan s ring m = none) ∧
    (∃ (s : State) (m : Nat) (ring : Nat) (v : Word) (r : Ring) (p : RingSpan),
    judge s m rngPage R.RNG_ADVANCE 8 v = .ok ∧ fieldOf v 0 18 = ring ∧ unarmed s rngPage ∧ ringOf s ring = r ∧ r.valid = true ∧ r.consumer = 1 ∧ r.oldest = some p ∧ p.start = r.taken ∧ p.len ≠ 0 ∧ fieldOf v 32 32 = p.len) :=
  ⟨⟨wRings wRing4, (writePieces (recordPieces ⟨4, 3145728, 4096, 4, 5, 2, 1, [1, 2]⟩ 0 256) (producerBytes ⟨4, 3145728, 4096, 4, 5, 2, 1, [1, 2]⟩) (wRings wRing4)).2, ⟨4, 5, 2, 1, [1, 2]⟩, ⟨4, 4, .opened, 5, none⟩, ⟨4, 3145728, 4096, 4, 5, 2, 1, [1, 2]⟩, by decide +kernel⟩,
   ⟨wRings wRing4, 4, 5, ⟨4, 4, .opened, 5, none⟩, ⟨0, 4, .committed, 5, some 7⟩, [⟨0, 4, .committed, 5, some 7⟩], by decide +kernel⟩,
   ⟨wRings wRing4, 4, 9, by decide +kernel⟩,
   ⟨wRings wRing4, 3, 4, BitVec.ofNat 64 (4 + 4 * 2 ^ 32), wRing4, ⟨0, 4, .committed, 5, some 7⟩, by decide +kernel⟩⟩

theorem test_witness_Rings_3 :
    (∃ (s : State) (m : Nat) (ring : Nat) (v : Word),
    judge s m rngPage R.RNG_ADVANCE 8 v = .ok ∧ fieldOf v 0 18 = ring ∧ unarmed s rngPage ∧ (((ringOf s ring).valid = false ∨ (ringOf s ring).consumer = 0 ∨ advanceBy (ringOf s ring) ((ringOf s ring).taken + fieldOf v 32 32) ((ringOf s ring).spans.length + 1) = none))) ∧
    (∃ (s : State) (m : Nat) (ring : Nat) (v : Word),
    judge s m rngPage R.RNG_CTRL 8 (v ||| 1) = .ok ∧ bitOf v 1 = false ∧ fld s rngPage F.RNG_ADDR_RING = ring) ∧
    (∃ (s : State) (m : Nat) (ring : Nat) (k : Nat) (v : Word) (new : Ring),
    new = { ringOf s ring with w0 := reg s rngPage R.RNG_DATA, w1 := reg s rngPage (R.RNG_DATA + 8), w2 := reg s rngPage (R.RNG_DATA + 16), w3 := reg s rngPage (R.RNG_DATA + 24) } ∧ judge s m rngPage R.RNG_CTRL 8 (v ||| 2) = .ok ∧ bitOf v 0 = false ∧ fld s rngPage F.RNG_ADDR_RING = ring ∧ ringCheck (s.dma.chans.any (fun c => decide (c.2.flight = some ring))) (ringOf s ring) new = k ∧ k ≠ 0) ∧
    (∃ (s : State) (m : Nat) (ring : Nat) (v : Word) (new : Ring),
    new = { ringOf s ring with w0 := reg s rngPage R.RNG_DATA, w1 := reg s rngPage (R.RNG_DATA + 8), w2 := reg s rngPage (R.RNG_DATA + 16), w3 := reg s rngPage (R.RNG_DATA + 24) } ∧ judge s m rngPage R.RNG_CTRL 8 (v ||| 2) = .ok ∧ bitOf v 0 = false ∧ fld s rngPage F.RNG_ADDR_RING = ring ∧ (ringOf s ring).valid = false ∧ new.valid = true ∧ ringCheck (s.dma.chans.any (fun c => decide (c.2.flight = some ring))) (ringOf s ring) new = 0 ∧ ldgOpen s = true ∧ s.ldg.pendingCkpt = none ∧ s.pwr.used = none) :=
  ⟨⟨wRings wRing4, 3, 4, BitVec.ofNat 64 (4 + 3 * 2 ^ 32), by decide +kernel⟩,
   ⟨setReg 0x300 0x100 4 (wRings wRing4), 3, 4, 0#64, by decide +kernel⟩,
   ⟨setReg 0x300 0x100 9 (setReg 0x300 R.RNG_DATA 1 (wRings wRing4)), 3, 9, 1, 0#64, _, rfl, by decide +kernel⟩,
   ⟨setFld 0x3E1 F.LDG_STATUS_OPEN 1 (setReg 0x300 0x100 9 (setReg 0x300 R.RNG_DATA 29 (setReg 0x300 (R.RNG_DATA + 8) 8388608 (setReg 0x300 (R.RNG_DATA + 16) 2 (wRings wRing4))))), 3, 9, 0#64, _, rfl, by decide +kernel⟩⟩

theorem test_witness_Rings_4 :
    (∃ (s : State) (n : Nat) (a : Bool) (l : List (Nat × Bool)),
    pageGated s rngPage = false ∧ s.rng.wm = (n, a) :: l ∧ n < 262144) ∧
    (∃ (s : State) (ring : Nat) (p : RingSpan),
    (ringOf s ring).oldest = some p ∧ (ringOf s ring).flushUs ≠ 0) ∧
    (∃ (s : State) (ring : Nat) (a : Nat × Nat) (b : Nat × Nat),
    sortBy (reserveFirst s ring) [a, b] = [a, b]) ∧
    (∃ (s : State) (ring : Nat) (m : Nat) (k : Nat),
    (((openSpan s ring m).isSome = true ∨ (ringOf s ring).valid = false ∨ pageGated s rngPage = true)) ∧ (ringOf s ring).aboveNow = (ringOf s ring).above) :=
  ⟨⟨{ wOn 0x300 w0 with rng := { wm := [(9, true), (8, false)] } }, 9, true, [(8, false)], by decide +kernel⟩,
   ⟨wRings { wRing4 with w3 := 5 }, 4, ⟨0, 4, .committed, 5, some 7⟩, by decide +kernel⟩,
   ⟨wRings { wRing4 with above := true }, 4, (6, 3), (7, 2), by decide +kernel⟩,
   ⟨wRings wRing4, 4, 5, 3, by decide +kernel⟩⟩

theorem test_witness_Rings_5 :
    (∃ (s : State) (ring : Nat) (m : Nat) (k : Nat),
    (((openSpan s ring m).isSome = true ∨ (ringOf s ring).valid = false ∨ pageGated s rngPage = true)) ∧ (ringOf s ring).aboveNow = (ringOf s ring).above) ∧
    (∃ (s : State) (ring : Nat) (m : Nat) (k : Nat) (r : Ring),
    ringOf s ring = r ∧ r.valid = true ∧ pageGated s rngPage = false ∧ flag s rngPage F.PAGE_CTRL_ENABLE = false ∧ unarmed s rngPage ∧ openSpan s ring m = none ∧ r.aboveNow = r.above) ∧
    (∃ (s : State) (q : CommitReq),
    ((∀ p, openSpan s q.ring q.producer = some p → p.len ≠ recordUnits q.payload.length)) ∧ (ringOf s q.ring).aboveNow = (ringOf s q.ring).above) ∧
    (∃ (s : State) (q : CommitReq) (r : CommitReq),
    q.producer ≤ r.producer) :=
  ⟨⟨wRings wRing4, 9, 6, 3, by decide +kernel⟩,
   ⟨setFld 0x300 F.PAGE_CTRL_ENABLE 0 (wRings wRing4), 4, 6, 3, wRing4, by decide +kernel⟩,
   ⟨wRings wRing4, ⟨4, 5, 2, 1, List.replicate 300 1⟩, by decide +kernel⟩,
   ⟨setFld 0x3E1 F.LDG_STATUS_OPEN 1 (wRings wRing4), ⟨4, 5, 2, 1, [1, 2]⟩, ⟨4, 6, 2, 1, [1, 2]⟩, by decide +kernel⟩⟩

theorem test_witness_Rings_6 :
    (∃ (s : State) (s1 : State) (q : CommitReq) (p : RingSpan) (c : LdgCommit),
    openSpan s q.ring q.producer = some p ∧ p.len = recordUnits q.payload.length ∧ commitOf s q.ring p.start q.producer q.rtype q.die q.payload = c ∧ writePieces (recordPieces c 0 (recordUnits q.payload.length * 64)) (producerBytes c) s = (true, s1)) ∧
    (∃ (s : State) (m : Nat) (ring : Nat) (v : Word) (new : Ring),
    new = { ringOf s ring with w0 := reg s rngPage R.RNG_DATA, w1 := reg s rngPage (R.RNG_DATA + 8), w2 := reg s rngPage (R.RNG_DATA + 16), w3 := reg s rngPage (R.RNG_DATA + 24) } ∧ judge s m rngPage R.RNG_CTRL 8 (v ||| 2) = .ok ∧ bitOf v 0 = false ∧ fld s rngPage F.RNG_ADDR_RING = ring ∧ (ringOf s ring).valid = true ∧ new.valid = true ∧ ringCheck (s.dma.chans.any (fun c => decide (c.2.flight = some ring))) (ringOf s ring) new = 0 ∧ s.ldg.pendingCkpt = none ∧ s.pwr.used = none ∧ ldgOpen s = true) ∧
    (∃ (s : State) (m : Nat) (ring : Nat) (v : Word) (new : Ring),
    new = { ringOf s ring with w0 := reg s rngPage R.RNG_DATA, w1 := reg s rngPage (R.RNG_DATA + 8), w2 := reg s rngPage (R.RNG_DATA + 16), w3 := reg s rngPage (R.RNG_DATA + 24) } ∧ judge s m rngPage R.RNG_CTRL 8 (v ||| 2) = .ok ∧ bitOf v 0 = false ∧ fld s rngPage F.RNG_ADDR_RING = ring ∧ new.valid = false ∧ ringCheck (s.dma.chans.any (fun c => decide (c.2.flight = some ring))) (ringOf s ring) new = 0 ∧ s.ldg.pendingCkpt = none ∧ s.pwr.used = none ∧ ldgOpen s = true) ∧
    (∃ (s : State) (ring : Nat),
    (((ringOf s ring).oldest = none ∨ (ringOf s ring).flushUs = 0))) :=
  ⟨⟨setFld 0x230 F.HBM_STATUS_STATE 3 (wRings { wRing4 with above := true }), (writePieces (recordPieces ⟨4, 3145728, 4096, 4, 5, 2, 1, [1, 2]⟩ 0 256) (producerBytes ⟨4, 3145728, 4096, 4, 5, 2, 1, [1, 2]⟩) (setFld 0x230 F.HBM_STATUS_STATE 3 (wRings { wRing4 with above := true }))).2, ⟨4, 5, 2, 1, [1, 2]⟩, ⟨4, 4, .opened, 5, none⟩, ⟨4, 3145728, 4096, 4, 5, 2, 1, [1, 2]⟩, by decide +kernel⟩,
   ⟨setFld 0x3E1 F.LDG_STATUS_OPEN 1 (setReg 0x300 0x100 4 (setReg 0x300 R.RNG_DATA (1 + 12 * 2 + 64) (setReg 0x300 (R.RNG_DATA + 8) 3145728 (setReg 0x300 (R.RNG_DATA + 16) (41 + 2 ^ 33) (wRings wRing4))))), 3, 4, 0#64, _, rfl, by decide +kernel⟩,
   ⟨setFld 0x3E1 F.LDG_STATUS_OPEN 1 (setReg 0x300 0x100 4 (wRings { wRing4 with spans := [⟨0, 4, .committed, 5, some 7⟩] })), 3, 4, 0#64, _, rfl, by decide +kernel⟩,
   ⟨wRings wRing4, 4, by decide +kernel⟩⟩

theorem test_witness_Rings_7 : ∃ (s : State),
    ((pageGated s rngPage = true ∨ s.rng.wm = [])) :=
  ⟨wOn 0x300 w0, by decide +kernel⟩

theorem test_witness_DmaChannels_1 :
    (∃ (s : State) (m : Nat) (ch : Nat) (v : Word) (cut : Option Nat),
    ch < 64 ∧ judge s m (dmaPage ch) (dmaOff R.DMA_CH_CTRL ch) 8 v = .ok ∧ dmaEn s ch = false ∧ bitOf v 0 = true ∧ bitOf v 1 = false ∧ bitOf v 2 = false ∧ bitOf v 3 = false) ∧
    (∃ (s : State) (m : Nat) (ch : Nat) (v : Word),
    ch < 64 ∧ judge s m (dmaPage ch) (dmaOff R.DMA_CH_CTRL ch) 8 v = .ok ∧ dmaEn s ch = true ∧ bitOf v 0 = false ∧ bitOf v 2 = false ∧ bitOf v 3 = false ∧ (dmaChan s ch).flight = none) ∧
    (∃ (s : State) (m : Nat) (ch : Nat) (v : Word),
    ch < 64 ∧ judge s m (dmaPage ch) (dmaOff R.DMA_CH_CTRL ch) 8 (v ||| 4) = .ok ∧ dmaEn s ch = true ∧ dmaDrain s ch = false ∧ bitOf v 0 = true ∧ bitOf v 1 = false ∧ bitOf v 3 = false ∧ dmaState s ch = 1) ∧
    (∃ (s : State) (s1 : State) (ch : Nat) (k : Nat) (w : List Word) (host : List Byte) (err : Bool),
    ch < 64 ∧ dmaEn s ch = true ∧ dmaDrain s ch = false ∧ dmaState s ch = 2 ∧ pageLive s (dmaPage ch) = true ∧ fetchDesc (dmaChan s ch).chain s = (some w, s1) ∧ descCause false (dmaDesc w) = k ∧ k ≠ 0) :=
  ⟨⟨wOn 0x2C8 w0, 3, 3, 1#64, none, by decide +kernel⟩,
   ⟨wDrain 32, 3, 3, 2#64, by decide +kernel⟩,
   ⟨setReg 0x2C8 (R.DMA_CH_DESC + 0xC0) 4096 (setReg 0x2C8 (R.DMA_CH_CTRL + 0xC0) 1 (setReg 0x2C8 (R.DMA_CH_STATUS + 0xC0) 1 (wOn 0x2C8 w0))), 3, 3, 1#64, by decide +kernel⟩,
   ⟨let q := setReg 0x2C8 (R.DMA_CH_CTRL + 0xC0) 1 (setReg 0x2C8 (R.DMA_CH_STATUS + 0xC0) 2 (wOn 0x2C8 w0)); { q with dma := { chans := [(3, { chain := 4096 })] } }, let q := setReg 0x2C8 (R.DMA_CH_CTRL + 0xC0) 1 (setReg 0x2C8 (R.DMA_CH_STATUS + 0xC0) 2 (wOn 0x2C8 w0)); (fetchDesc 4096 { q with dma := { chans := [(3, { chain := 4096 })] } }).2, 3, 2, List.replicate 8 0, [], false, by decide +kernel⟩⟩

theorem test_witness_DmaChannels_2 :
    (∃ (s : State) (s1 : State) (s2 : State) (ch : Nat) (n : Nat) (d : DmaDesc) (w : List Word) (host : List Byte) (r : HbmRead × State),
    ch < 64 ∧ dmaEn s ch = true ∧ dmaDrain s ch = false ∧ dmaState s ch = 2 ∧ pageLive s (dmaPage ch) = true ∧ fetchDesc (dmaChan s ch).chain s = (some w, s1) ∧ dmaDesc w = d ∧ descCause false d = 0 ∧ d.srcLine * d.srcLines = n ∧ (if d.srcHost then (⟨host.take n ++ List.replicate (n - host.length) 0, false, false⟩, s1) else readPieces (linePieces d.src d.srcLine d.srcStride n (d.srcLines + 1) 0 n) s1) = r ∧ r.1.poison = false ∧ r.1.err = false ∧ destWrite ch (decide (d.kind = 1)) (linePieces d.dst d.dstLine d.dstStride n (d.dstLines + 1) 0 n) r.1.bytes r.2 = (false, s2)) ∧
    (∃ (s : State) (ch : Nat) (n : Nat) (p : RingSpan) (d : DmaDesc) (r : HbmRead × State),
    ch < 64 ∧ unarmed s (dmaPage ch) ∧ dmaEn s ch = true ∧ dmaDrain s ch = true ∧ dmaState s ch = 1 ∧ pageLive s (dmaPage ch) = true ∧ (dmaChan s ch).flight = none ∧ nextRing s ch = some n ∧ (ringOf s n).oldest = some p ∧ dmaDesc (dmaChan s ch).desc = d ∧ d.kind = 0 ∧ recordBytes (setDmaChan ch { dmaChan s ch with last := some n } (setFld (dmaPage ch) (F.DMA_CH_STATUS_RING.chan ch) n s)) n p = r ∧ r.1.poison = false ∧ r.1.err = false) :=
  ⟨⟨let q := memWrite 4096 ((([8192, 12288, 64, 64, 16777217, 16777217, 8, 0] : List Word)).flatMap (fun w => leBytes 8 w.toNat)) (setReg 0x2C8 (R.DMA_CH_CTRL + 0xC0) 1 (setReg 0x2C8 (R.DMA_CH_STATUS + 0xC0) 2 (wOn 0x2C8 w0))); { q with dma := { chans := [(3, { chain := 4096 })] } }, let q := memWrite 4096 ((([8192, 12288, 64, 64, 16777217, 16777217, 8, 0] : List Word)).flatMap (fun w => leBytes 8 w.toNat)) (setReg 0x2C8 (R.DMA_CH_CTRL + 0xC0) 1 (setReg 0x2C8 (R.DMA_CH_STATUS + 0xC0) 2 (wOn 0x2C8 w0))); (fetchDesc 4096 { q with dma := { chans := [(3, { chain := 4096 })] } }).2, let q := memWrite 4096 ((([8192, 12288, 64, 64, 16777217, 16777217, 8, 0] : List Word)).flatMap (fun w => leBytes 8 w.toNat)) (setReg 0x2C8 (R.DMA_CH_CTRL + 0xC0) 1 (setReg 0x2C8 (R.DMA_CH_STATUS + 0xC0) 2 (wOn 0x2C8 w0))); let r := readPieces [(8192, 64)] (fetchDesc 4096 { q with dma := { chans := [(3, { chain := 4096 })] } }).2; (writePieces [(12288, 64)] r.1.bytes r.2).2, 3, 64, dmaDesc [8192, 12288, 64, 64, 16777217, 16777217, 8, 0], [8192, 12288, 64, 64, 16777217, 16777217, 8, 0], [], let q := memWrite 4096 ((([8192, 12288, 64, 64, 16777217, 16777217, 8, 0] : List Word)).flatMap (fun w => leBytes 8 w.toNat)) (setReg 0x2C8 (R.DMA_CH_CTRL + 0xC0) 1 (setReg 0x2C8 (R.DMA_CH_STATUS + 0xC0) 2 (wOn 0x2C8 w0))); readPieces [(8192, 64)] (fetchDesc 4096 { q with dma := { chans := [(3, { chain := 4096 })] } }).2, by decide +kernel⟩,
   ⟨wDrain 32, 3, 4, ⟨0, 4, .committed, 5, some 7⟩, dmaDesc [0, 4194304, 0, 4096, 0, BitVec.ofNat 64 (32 + 2 ^ 24), 0, 5242880], recordBytes (setDmaChan 3 { dmaChan (wDrain 32) 3 with last := some 4 } (setFld 0x2C8 (F.DMA_CH_STATUS_RING.chan 3) 4 (wDrain 32))) 4 ⟨0, 4, .committed, 5, some 7⟩, by decide +kernel⟩⟩

theorem test_witness_DmaChannels_3 :
    (∃ (s : State) (ch : Nat) (n : Nat) (p : RingSpan) (d : DmaDesc) (r : HbmRead × State),
    ch < 64 ∧ unarmed s (dmaPage ch) ∧ dmaEn s ch = true ∧ dmaDrain s ch = true ∧ dmaState s ch = 1 ∧ pageLive s (dmaPage ch) = true ∧ (dmaChan s ch).flight = none ∧ nextRing s ch = some n ∧ (ringOf s n).oldest = some p ∧ dmaDesc (dmaChan s ch).desc = d ∧ d.kind = 0 ∧ recordBytes (setDmaChan ch { dmaChan s ch with last := some n } (setFld (dmaPage ch) (F.DMA_CH_STATUS_RING.chan ch) n s)) n p = r ∧ r.1.poison = false ∧ r.1.err = false) ∧
    (∃ (s : State) (m : Nat) (ch : Nat) (v : Word),
    ch < 64 ∧ judge s m (dmaPage ch) (dmaOff R.DMA_CH_RD ch) 8 v = .ok) ∧
    (∃ (s : State) (m : Nat) (ch : Nat) (v : Word),
    ch < 64 ∧ judge s m (dmaPage ch) (dmaOff R.DMA_CH_RD ch) 8 v = .ok) ∧
    (∃ (s : State) (m : Nat) (ch : Nat) (n : Nat) (v : Word),
    ch < 64 ∧ judge s m (dmaPage ch) (dmaOff R.DMA_CH_CTRL ch) 8 v = .ok ∧ dmaEn s ch = true ∧ bitOf v 0 = false ∧ bitOf v 2 = false ∧ bitOf v 3 = false) :=
  ⟨⟨wDrain 3, 3, 4, ⟨0, 4, .committed, 5, some 7⟩, dmaDesc [0, 4194304, 0, 4096, 0, BitVec.ofNat 64 (3 + 2 ^ 24), 0, 5242880], recordBytes (setDmaChan 3 { dmaChan (wDrain 3) 3 with last := some 4 } (setFld 0x2C8 (F.DMA_CH_STATUS_RING.chan 3) 4 (wDrain 3))) 4 ⟨0, 4, .committed, 5, some 7⟩, by decide +kernel⟩,
   ⟨{ wOn 0x2C8 w0 with dma := { chans := [(3, { wp := 300 })] } }, 3, 3, 300#64, by decide +kernel⟩,
   ⟨{ wOn 0x2C8 w0 with dma := { chans := [(3, { wp := 300 })] } }, 3, 3, 301#64, by decide +kernel⟩,
   ⟨wDrain 32, 3, 3, 128, 2#64, by decide +kernel⟩⟩

theorem test_witness_DmaChannels_4 :
    (∃ (s : State) (m : Nat) (ch : Nat) (v : Word) (cut : Option Nat),
    ch < 64 ∧ judge s m (dmaPage ch) (dmaOff R.DMA_CH_CTRL ch) 8 v = .ok ∧ dmaEn s ch = true ∧ bitOf v 0 = false ∧ bitOf v 2 = false ∧ bitOf v 3 = false ∧ (dmaChan s ch).flight.isSome = true) ∧
    (∃ (s : State) (s1 : State) (m : Nat) (ch : Nat) (v : Word) (cut : Option Nat) (w : List Word),
    ch < 64 ∧ judge s m (dmaPage ch) (dmaOff R.DMA_CH_CTRL ch) 8 v = .ok ∧ dmaEn s ch = false ∧ bitOf v 0 = true ∧ bitOf v 1 = true ∧ bitOf v 2 = false ∧ bitOf v 3 = false ∧ fetchDesc (reg s (dmaPage ch) (dmaOff R.DMA_CH_DESC ch)).toNat (setDmaChan ch {} (setReg (dmaPage ch) (dmaOff R.DMA_CH_RD ch) 0 (setReg (dmaPage ch) (dmaOff R.DMA_CH_STATUS ch) 1 (storePlain (dmaPage ch) (dmaOff R.DMA_CH_CTRL ch) v s)))) = (some w, s1)) ∧
    (∃ (s : State) (m : Nat) (ch : Nat) (v : Word) (cut : Option Nat),
    ch < 64 ∧ judge s m (dmaPage ch) (dmaOff R.DMA_CH_CTRL ch) 8 v = .ok ∧ dmaEn s ch = true ∧ bitOf v 0 = true ∧ bitOf v 1 ≠ dmaDrain s ch) ∧
    (∃ (s : State) (m : Nat) (ch : Nat) (v : Word) (cut : Option Nat),
    ch < 64 ∧ judge s m (dmaPage ch) (dmaOff R.DMA_CH_CTRL ch) 8 v = .ok ∧ dmaEn s ch = bitOf v 0 ∧ ((bitOf v 0 = true → bitOf v 1 = dmaDrain s ch)) ∧ bitOf v 2 = false) :=
  ⟨⟨{ wDrain 32 with dma := { chans := [(3, { dmaChan (wDrain 32) 3 with flight := some 4 })] } }, 3, 3, 2#64, none, by decide +kernel⟩,
   ⟨setReg 0x2C8 (R.DMA_CH_DESC + 0xC0) 8192 (setReg 0x2C8 (R.DMA_CH_CTRL + 0xC0) 0 (wDrain 32)), (fetchDesc 8192 (setDmaChan 3 {} (setReg 0x2C8 (dmaOff R.DMA_CH_RD 3) 0 (setReg 0x2C8 (dmaOff R.DMA_CH_STATUS 3) 1 (storePlain 0x2C8 (dmaOff R.DMA_CH_CTRL 3) 3#64 (setReg 0x2C8 (R.DMA_CH_DESC + 0xC0) 8192 (setReg 0x2C8 (R.DMA_CH_CTRL + 0xC0) 0 (wDrain 32)))))))).2, 3, 3, 3#64, none, List.replicate 8 0, by decide +kernel⟩,
   ⟨wDrain 32, 3, 3, 1#64, none, by decide +kernel⟩,
   ⟨wDrain 32, 3, 3, 11#64, none, by decide +kernel⟩⟩

theorem test_witness_DmaChannels_5 :
    (∃ (s : State) (m : Nat) (ch : Nat) (v : Word),
    ch < 64 ∧ judge s m (dmaPage ch) (dmaOff R.DMA_CH_CTRL ch) 8 (v ||| 4) = .ok ∧ bitOf v 0 = true ∧ dmaEn s ch = true ∧ bitOf v 1 = dmaDrain s ch ∧ bitOf v 3 = false ∧ ((dmaDrain s ch = true ∨ (dmaState s ch ≠ 1 ∧ dmaState s ch ≠ 4)))) ∧
    (∃ (s : State) (ch : Nat) (host : List Byte) (err : Bool),
    ((dmaEn s ch = false ∨ dmaDrain s ch = true ∨ dmaState s ch ≠ 2 ∨ pageLive s (dmaPage ch) = false))) ∧
    (∃ (s : State) (s1 : State) (ch : Nat) (host : List Byte) (err : Bool),
    ch < 64 ∧ dmaEn s ch = true ∧ dmaDrain s ch = false ∧ dmaState s ch = 2 ∧ pageLive s (dmaPage ch) = true ∧ fetchDesc (dmaChan s ch).chain s = (none, s1)) ∧
    (∃ (s : State) (s1 : State) (ch : Nat) (d : DmaDesc) (w : List Word) (host : List Byte),
    ch < 64 ∧ dmaEn s ch = true ∧ dmaDrain s ch = false ∧ dmaState s ch = 2 ∧ pageLive s (dmaPage ch) = true ∧ fetchDesc (dmaChan s ch).chain s = (some w, s1) ∧ dmaDesc w = d ∧ descCause false d = 0 ∧ d.srcHost = true) :=
  ⟨⟨wDrain 32, 3, 3, 3#64, by decide +kernel⟩,
   ⟨wDrain 32, 3, [], true, by decide +kernel⟩,
   ⟨let q := setReg 0x2C8 (R.DMA_CH_CTRL + 0xC0) 1 (setReg 0x2C8 (R.DMA_CH_STATUS + 0xC0) 2 (wOn 0x2C8 w0)); { setFld 0x230 F.HBM_STATUS_STATE 3 q with dma := { chans := [(3, { chain := 4096 })] } }, let q := setReg 0x2C8 (R.DMA_CH_CTRL + 0xC0) 1 (setReg 0x2C8 (R.DMA_CH_STATUS + 0xC0) 2 (wOn 0x2C8 w0)); (fetchDesc 4096 { setFld 0x230 F.HBM_STATUS_STATE 3 q with dma := { chans := [(3, { chain := 4096 })] } }).2, 3, [], false, by decide +kernel⟩,
   ⟨let q := memWrite 4096 ((([8192, 12288, 64, 64, 16777217, 16777217, 9, 0] : List Word)).flatMap (fun w => leBytes 8 w.toNat)) (setReg 0x2C8 (R.DMA_CH_CTRL + 0xC0) 1 (setReg 0x2C8 (R.DMA_CH_STATUS + 0xC0) 2 (wOn 0x2C8 w0))); { q with dma := { chans := [(3, { chain := 4096 })] } }, let q := memWrite 4096 ((([8192, 12288, 64, 64, 16777217, 16777217, 9, 0] : List Word)).flatMap (fun w => leBytes 8 w.toNat)) (setReg 0x2C8 (R.DMA_CH_CTRL + 0xC0) 1 (setReg 0x2C8 (R.DMA_CH_STATUS + 0xC0) 2 (wOn 0x2C8 w0))); (fetchDesc 4096 { q with dma := { chans := [(3, { chain := 4096 })] } }).2, 3, dmaDesc [8192, 12288, 64, 64, 16777217, 16777217, 9, 0], [8192, 12288, 64, 64, 16777217, 16777217, 9, 0], [], by decide +kernel⟩⟩

theorem test_witness_DmaChannels_6 :
    (∃ (s : State) (ch : Nat) (err : Bool),
    ((dmaEn s ch = false ∨ dmaDrain s ch = false ∨ (dmaState s ch ≠ 1 ∧ dmaState s ch ≠ 3) ∨ (dmaChan s ch).flight.isSome = true ∨ pageLive s (dmaPage ch) = false ∨ nextRing s ch = none))) ∧
    (∃ (s : State) (ch : Nat) (err : Bool),
    ((dmaEn s ch = false ∨ dmaDrain s ch = false ∨ (dmaState s ch ≠ 1 ∧ dmaState s ch ≠ 3) ∨ (dmaChan s ch).flight.isSome = true ∨ pageLive s (dmaPage ch) = false ∨ nextRing s ch = none))) ∧
    (∃ (s : State) (ch : Nat) (n : Nat) (err : Bool) (p : RingSpan) (r : HbmRead × State),
    ch < 64 ∧ unarmed s (dmaPage ch) ∧ dmaEn s ch = true ∧ dmaDrain s ch = true ∧ ((dmaState s ch = 1 ∨ dmaState s ch = 3)) ∧ pageLive s (dmaPage ch) = true ∧ (dmaChan s ch).flight = none ∧ nextRing s ch = some n ∧ (ringOf s n).oldest = some p ∧ recordBytes (setDmaChan ch { dmaChan s ch with last := some n } (setFld (dmaPage ch) (F.DMA_CH_STATUS_RING.chan ch) n s)) n p = r ∧ ((r.1.poison = true ∨ r.1.err = true))) ∧
    (∃ (s : State) (s1 : State) (s2 : State) (ch : Nat) (n : Nat) (err : Bool) (p : RingSpan) (d : DmaDesc) (b : List Byte),
    ch < 64 ∧ unarmed s (dmaPage ch) ∧ dmaEn s ch = true ∧ dmaDrain s ch = true ∧ ((dmaState s ch = 1 ∨ dmaState s ch = 3)) ∧ pageLive s (dmaPage ch) = true ∧ (dmaChan s ch).flight = none ∧ nextRing s ch = some n ∧ (ringOf s n).oldest = some p ∧ dmaDesc (dmaChan s ch).desc = d ∧ setDmaChan ch { dmaChan s ch with last := some n } (setFld (dmaPage ch) (F.DMA_CH_STATUS_RING.chan ch) n s) = s1 ∧ recordBytes s1 n p = (⟨b, false, false⟩, s2)) :=
  ⟨⟨wRings wRing4, 3, false, by decide +kernel⟩,
   ⟨setReg 0x2C8 (R.DMA_CH_STATUS + 0xC0) 1 (setReg 0x2C8 (R.DMA_CH_CTRL + 0xC0) 3 (wRings wRing4)), 3, false, by decide +kernel⟩,
   ⟨{ wDrain 32 with hbm := { poison := [98304] } }, 3, 4, false, ⟨0, 4, .committed, 5, some 7⟩, recordBytes (setDmaChan 3 { dmaChan (wDrain 32) 3 with last := some 4 } (setFld 0x2C8 (F.DMA_CH_STATUS_RING.chan 3) 4 { wDrain 32 with hbm := { poison := [98304] } })) 4 ⟨0, 4, .committed, 5, some 7⟩, by decide +kernel⟩,
   ⟨setReg 0x2C8 (R.DMA_CH_STATUS + 0xC0) 3 (let q := wDrain 32; { q with dma := { chans := [(3, { desc := [0, 4194304, 0, 4096, 0, BitVec.ofNat 64 (32 + 2 ^ 24), 2, 5242880] })] } }), setDmaChan 3 { dmaChan (let q := wDrain 32; { q with dma := { chans := [(3, { desc := [0, 4194304, 0, 4096, 0, BitVec.ofNat 64 (32 + 2 ^ 24), 2, 5242880] })] } }) 3 with last := some 4 } (setFld 0x2C8 (F.DMA_CH_STATUS_RING.chan 3) 4 (setReg 0x2C8 (R.DMA_CH_STATUS + 0xC0) 3 (let q := wDrain 32; { q with dma := { chans := [(3, { desc := [0, 4194304, 0, 4096, 0, BitVec.ofNat 64 (32 + 2 ^ 24), 2, 5242880] })] } }))), (recordBytes (setDmaChan 3 { dmaChan (let q := wDrain 32; { q with dma := { chans := [(3, { desc := [0, 4194304, 0, 4096, 0, BitVec.ofNat 64 (32 + 2 ^ 24), 2, 5242880] })] } }) 3 with last := some 4 } (setFld 0x2C8 (F.DMA_CH_STATUS_RING.chan 3) 4 (setReg 0x2C8 (R.DMA_CH_STATUS + 0xC0) 3 (let q := wDrain 32; { q with dma := { chans := [(3, { desc := [0, 4194304, 0, 4096, 0, BitVec.ofNat 64 (32 + 2 ^ 24), 2, 5242880] })] } })))) 4 ⟨0, 4, .committed, 5, some 7⟩).2, 3, 4, true, ⟨0, 4, .committed, 5, some 7⟩, dmaDesc [0, 4194304, 0, 4096, 0, BitVec.ofNat 64 (32 + 2 ^ 24), 2, 5242880], List.replicate 256 0, by decide +kernel⟩⟩

theorem test_witness_EthernetPorts_1 :
    (∃ (s : State) (p : Nat) (sub : Nat) (f : EthRx),
    p < 6 ∧ subUp s p sub = true ∧ f.fcsGood = false) ∧
    (∃ (s : State) (p : Nat) (sub : Nat) (f : EthRx),
    p < 6 ∧ subUp s p sub = true ∧ f.fcsGood = true ∧ frameContent (framePart (fld s (ethPage p) F.ETH_CFG_MAX_FRAME) f) = .other ∧ unarmed s (ethPage p) ∧ fld s (ethPage p) F.ETH_MACSEC_VALIDATE = 0) ∧
    (∃ (s : State) (p : Nat) (sub : Nat) (f : EthRx),
    p < 6 ∧ subUp s p sub = true ∧ f.fcsGood = true ∧ frameContent (framePart (fld s (ethPage p) F.ETH_CFG_MAX_FRAME) f) = .other ∧ unarmed s (ethPage p) ∧ fld s (ethPage p) F.ETH_MACSEC_VALIDATE = 0) ∧
    (∃ (s : State) (p : Nat) (sub : Nat) (f : EthRx) (c : EthContent),
    p < 6 ∧ subUp s p sub = true ∧ f.fcsGood = true ∧ f.sec = none ∧ frameContent (framePart (fld s (ethPage p) F.ETH_CFG_MAX_FRAME) f) = c ∧ secExempt s p c = false ∧ fld s (ethPage p) F.ETH_MACSEC_VALIDATE = 2 ∧ unarmed s (ethPage p)) :=
  ⟨⟨wEth 1 {}, 1, 0, { wRx [] with fcsGood := false }, by decide +kernel⟩,
   ⟨wEth 1 {}, 1, 0, wRx (macHead 5 0 none 0x1234), by decide +kernel⟩,
   ⟨wEth 1 {}, 1, 0, { wRx (macHead 5 0 none 0x1234) with len := 9217 }, by decide +kernel⟩,
   ⟨setFld 0x311 F.ETH_MACSEC_VALIDATE 2 (wEth 1 {}), 1, 0, wRx (wFrame 5), .udp (wUdp 5), by decide +kernel⟩⟩

theorem test_witness_EthernetPorts_2 :
    (∃ (s : State) (p : Nat) (sub : Nat) (f : EthRx) (x : UdpRx) (e : EthSender),
    p < 4 ∧ subUp s p sub = true ∧ f.fcsGood = true ∧ frameContent f.bytes = .udp x ∧ ptpTakes s p x = false ∧ fld s (ethPage p) F.ETH_MACSEC_VALIDATE = 0 ∧ unarmed s (ethPage p) ∧ f.len ≤ fld s (ethPage p) F.ETH_CFG_MAX_FRAME ∧ localAddr s p sub x.ipv6 x.dst = true ∧ x.port = fld s (ethPage p) F.ETH_UDP_SAMPLE_PORT ∧ x.fragment = false ∧ x.cksum ≠ 2 ∧ ((x.ipv6 = true → x.cksum ≠ 1)) ∧ samplePrefix x.payload = true ∧ fld s (ethPage p) F.ETH_PFC_MODE = 0 ∧ (ethPort s p).senders.find? (fun y => decide (y.src = x.src)) = some e) ∧
    (∃ (s : State) (p : Nat),
    (ethPort s p).buffer = []) ∧
    (∃ (s : State) (s1 : State) (p : Nat) (e : Nat) (d : EthDatagram) (l : List EthDatagram),
    s1 = setEthPort p { ethPort s p with buffer := l } s ∧ (ethPort s p).buffer = d :: l ∧ fld s (ethPage p) F.ETH_PFC_MODE = 0 ∧ (d.payload.getD 3 0).toNat = 1 ∧ 16 ≤ (d.payload.drop 8).length ∧ unarmed s (sprPage (stLane s1 e)) ∧ headerBad (blockHeader (d.payload.drop 8)) = false ∧ blockBytes (blockHeader (d.payload.drop 8)) ≤ (d.payload.drop 8).length ∧ portEntry s1 p (blockHeader (d.payload.drop 8)).stream = some e ∧ fld (blockReceive (sprPage (stLane s1 e)) (portEntry s1 p) ((d.payload.drop 8).take (blockBytes (blockHeader (d.payload.drop 8)))) s1) (ethPage p) F.ETH_PFC_MODE = 0) ∧
    (∃ (s : State) (p : Nat) (sub : Nat) (c : Nat) (n : Nat),
    p < 6 ∧ sub < 4 ∧ c < 8 ∧ subUp s p sub = true ∧ fld s (ethPage p) F.ETH_PFC_MODE = 2 ∧ (ethPort s p).queue = [] ∧ (ethPause s p sub c).released = false) :=
  ⟨⟨wEth 1 { senders := [⟨77, 2⟩] }, 1, 0, wRx (wFrame 5), wUdp 5, ⟨77, 2⟩, by decide +kernel⟩,
   ⟨wEth 1 {}, 1, by decide +kernel⟩,
   ⟨wDatagram, _, 1, 7, ⟨wSample 5, false⟩, [], rfl, by decide +kernel⟩,
   ⟨setFld 0x311 F.ETH_PFC_MODE 2 (wEth 1 {}), 1, 0, 3, 65535, by decide +kernel⟩⟩

theorem test_witness_EthernetPorts_3 :
    (∃ (s : State) (p : Nat) (sub : Nat) (c : Nat) (n : Nat),
    p < 6 ∧ sub < 4 ∧ c < 8 ∧ subUp s p sub = true ∧ fld s (ethPage p) F.ETH_PFC_MODE = 2 ∧ (ethPort s p).queue = [] ∧ (ethPause s p sub c).released = false) ∧
    (∃ (s : State) (p : Nat) (sub : Nat) (c : Nat) (n : Nat),
    p < 6 ∧ sub < 4 ∧ c < 8 ∧ subUp s p sub = true ∧ fld s (ethPage p) F.ETH_PFC_MODE = 2 ∧ (ethPort s p).queue = [] ∧ (ethPause s p sub c).released = true ∧ 0 < n) ∧
    (∃ (s : State) (p : Nat) (sub : Nat) (c : Nat) (t0 : Nat),
    (ethPause s p sub c).until' = some t0 ∧ (ethPort s p).queue = []) ∧
    (∃ (s : State) (p : Nat) (sub : Nat) (c : Nat),
    p < 6 ∧ classPaused s p sub c = true ∧ (ethPort s p).queue = []) :=
  ⟨⟨setFld 0x311 F.ETH_PFC_MODE 2 (wEth 1 { pauses := [(3, { until' := some 900, since := 0 })] }), 1, 0, 3, 0, by decide +kernel⟩,
   ⟨setFld 0x311 F.ETH_PFC_MODE 2 (wEth 1 { pauses := [(3, { released := true })] }), 1, 0, 3, 9, by decide +kernel⟩,
   ⟨wEth 1 { pauses := [(3, { until' := some 900 })] }, 1, 0, 3, 900, by decide +kernel⟩,
   ⟨setFld 0x311 F.ETH_PFC_MODE 2 (wEth 1 { pauses := [(3, { until' := some (51 * msUnits), since := 0 })] }), 1, 0, 3, by decide +kernel⟩⟩

theorem test_witness_EthernetPorts_4 :
    (∃ (s : State) (p : Nat) (l : List Byte),
    l = pauseFrame (subMac s p 0) (decide (fld s (ethPage p) F.ETH_PFC_MODE = 2)) (fld s (ethPage p) F.ETH_PFC_SAMPLE_PCP) 0xFFFF ∧ p < 4 ∧ fld s (ethPage p) F.ETH_CFG_MODE = 0 ∧ subUp s p 0 = true ∧ fld s (ethPage p) F.ETH_PFC_MODE ≠ 0 ∧ (ethPort s p).xoff = true ∧ fld s (ethPage p) F.ETH_PFC_XON_KIB * 1024 < sampleFill s p) ∧
    (∃ (s : State) (p : Nat),
    ((ethPort s p).xoff = false ∨ fld s (ethPage p) F.ETH_PFC_MODE = 0)) ∧
    (∃ (s : State) (p : Nat),
    4 ≤ p ∧ p < 6 ∧ subUp s p 0 = true ∧ flag s (ethPage p) F.ETH_EEE_EN = true ∧ (ethPort s p).queue = [] ∧ flag s (ethPage p) F.ETH_STATUS_LPI = false) ∧
    (∃ (s : State) (p : Nat) (l : List Byte),
    l = lldpFrame (subMac s p 0) (fld s (ethPage p) F.ETH_EEE_TW_TX_US) ∧ 4 ≤ p ∧ p < 6 ∧ subUp s p 0 = true ∧ (ethPort s p).queue = [] ∧ classPaused s p 0 (pauseClass s p (fld s (ethPage p) F.ETH_PFC_CTRL_PCP)) = false) :=
  ⟨⟨setFld 0x311 F.ETH_PFC_XON_KIB 0 (setFld 0x311 F.ETH_PFC_MODE 2 (wEth 1 { xoff := true, xoffAt := 5, buffer := [⟨wSample 5, false⟩] })), 1, _, rfl, by decide +kernel⟩,
   ⟨wEth 1 {}, 1, by decide +kernel⟩,
   ⟨wEth 4 {}, 4, by decide +kernel⟩,
   ⟨setFld 0x314 F.ETH_STATUS_LPI 1 (wEth 4 {}), 4, _, rfl, by decide +kernel⟩⟩

theorem test_witness_EthernetPorts_5 :
    (∃ (s : State) (p : Nat),
    p < 4) ∧
    (∃ (s : State) (p : Nat) (sub : Nat) (unc : List Nat),
    p < 6 ∧ sub < 4 ∧ subUp s p sub = true ∧ (countRetry (ethPage p) s).2 = false) ∧
    (∃ (s : State) (p : Nat) (sub : Nat) (l : Nat),
    p < 6 ∧ sub < 4 ∧ subUp s p sub = true ∧ (countRetry (ethPage p) s).2 = true ∧ l < portLanes p ∧ worstEthLane s p ((List.range (portLanes p)).filter (fun k => !laneRetired s p k)) = some l) ∧
    (∃ (s : State) (m : Nat) (p : Nat) (v : Word),
    p < 6 ∧ judge s m (ethPage p) R.ETH_FLOW_CTRL 8 (v ||| 1) = .ok ∧ bitOf v 1 = false) :=
  ⟨⟨wEth 1 {}, 1, by decide +kernel⟩,
   ⟨wEth 1 { queue := [{ cls := 3, sub := 0, exempt := false, bytes := [1] }] }, 1, 0, [2, 1], by decide +kernel⟩,
   ⟨setReg 0x311 R.RETRY_CFG (BitVec.ofNat 64 (60000 + 2 ^ 32)) (wEth 1 { uncorr := [(2, 0), (3, 0)] }), 1, 0, 2, by decide +kernel⟩,
   ⟨setReg 0x311 0x1A0 5 (wEth 1 { flows := [(30, 7), (34, 9)] }), 3, 1, 0#64, by decide +kernel⟩⟩

theorem test_witness_EthernetPorts_6 :
    (∃ (s : State) (m : Nat) (p : Nat) (r : Nat) (v : Word) (w : List Word),
    p < 6 ∧ judge s m (ethPage p) R.ETH_FLOW_CTRL 8 (v ||| 2) = .ok ∧ bitOf v 0 = false ∧ regsFrom s (ethPage p) R.ETH_FLOW_DATA 4 = w ∧ flowResult s p (w.getD 0 0) (w.getD 1 0) (w.getD 2 0) (w.getD 3 0) = r) ∧
    (∃ (s : State) (m : Nat) (p : Nat) (r : Nat) (v : Word) (w : List Word),
    p < 6 ∧ judge s m (ethPage p) R.ETH_FLOW_CTRL 8 (v ||| 2) = .ok ∧ bitOf v 0 = false ∧ regsFrom s (ethPage p) R.ETH_FLOW_DATA 4 = w ∧ flowResult s p (w.getD 0 0) (w.getD 1 0) (w.getD 2 0) (w.getD 3 0) = r) ∧
    (∃ (s : State) (p : Nat) (sub : Nat),
    p < 6 ∧ sub < 4 ∧ pageLive s (ethPage p) = true ∧ sub < subPorts s p) ∧
    (∃ (s : State) (p : Nat) (sub : Nat),
    p < 6 ∧ sub < 4 ∧ pageLive s (ethPage p) = true ∧ sub < subPorts s p) :=
  ⟨⟨setReg 0x311 (R.ETH_FLOW_DATA + 8) (BitVec.ofNat 64 (9216 * 2 ^ 48)) (setReg 0x311 R.ETH_FLOW_DATA 1 (wEth 1 { flows := [(4, 9)] })), 3, 1, 0, 0#64, [1, BitVec.ofNat 64 (9216 * 2 ^ 48), 0, 0], by decide +kernel⟩,
   ⟨setReg 0x311 (R.ETH_FLOW_DATA + 8) (BitVec.ofNat 64 (600 * 2 ^ 48)) (setReg 0x311 R.ETH_FLOW_DATA 1 (wEth 1 {})), 3, 1, 2, 0#64, [1, BitVec.ofNat 64 (600 * 2 ^ 48), 0, 0], by decide +kernel⟩,
   ⟨wEth 1 {}, 1, 0, by decide +kernel⟩,
   ⟨setReg 0x311 R.ETH_STATUS 0 (wEth 1 {}), 1, 0, by decide +kernel⟩⟩

theorem test_witness_EthernetPorts_7 :
    (∃ (s : State) (p : Nat) (sub : Nat),
    p < 6 ∧ sub < 4 ∧ pageLive s (ethPage p) = true ∧ sub < subPorts s p) ∧
    (∃ (s : State) (p : Nat) (sub : Nat) (f : EthRx) (pfc : Bool) (l : List (Nat × Nat)),
    subUp s p sub = false) ∧
    (∃ (s : State) (p : Nat) (sub : Nat) (c : Nat) (n : Nat),
    p < 6 ∧ sub < 4 ∧ subUp s p sub = true ∧ fld s (ethPage p) F.ETH_PFC_MODE = 1 ∧ (ethPort s p).queue = [] ∧ (ethPause s p sub 0).released = false ∧ 0 < n) ∧
    (∃ (s : State) (p : Nat) (sub : Nat) (c : Nat) (n : Nat),
    p < 6 ∧ sub < 4 ∧ fld s (ethPage p) F.ETH_PFC_MODE ≠ 1) :=
  ⟨⟨setReg 0x311 R.ETH_STATUS 0x20 (wEth 1 {}), 1, 0, by decide +kernel⟩,
   ⟨setReg 0x311 R.ETH_STATUS 0 (wEth 1 {}), 1, 0, wRx [], true, [(3, 9)], by decide +kernel⟩,
   ⟨setFld 0x311 F.ETH_PFC_MODE 1 (wEth 1 {}), 1, 0, 0, 65535, by decide +kernel⟩,
   ⟨setFld 0x311 F.ETH_PFC_MODE 2 (wEth 1 {}), 1, 0, 3, 65535, by decide +kernel⟩⟩

theorem test_witness_EthernetPorts_8 :
    (∃ (s : State) (p : Nat) (sub : Nat),
    subUp s p sub = false) ∧
    (∃ (s : State) (p : Nat) (sub : Nat) (c : Nat),
    (ethPause s p sub c).until' = none) ∧
    (∃ (s : State) (p : Nat) (sub : Nat) (c : Nat),
    classPaused s p sub c = false) ∧
    (∃ (s : State) (p : Nat) (sub : Nat),
    ((pageLive s (ethPage p) = false ∨ subPorts s p ≤ sub))) :=
  ⟨⟨setReg 0x311 R.ETH_STATUS 0 (wEth 1 {}), 1, 0, by decide +kernel⟩,
   ⟨wEth 1 {}, 1, 0, 3, by decide +kernel⟩,
   ⟨wEth 1 {}, 1, 0, 3, by decide +kernel⟩,
   ⟨setFld 0x311 F.PAGE_CTRL_ENABLE 0 (wEth 1 {}), 1, 0, by decide +kernel⟩⟩

theorem test_witness_EthernetPorts_9 :
    (∃ (s : State) (p : Nat) (sub : Nat) (f : EthRx),
    p < 6 ∧ subUp s p sub = true ∧ f.fcsGood = true) ∧
    (∃ (s : State) (p : Nat) (sub : Nat) (f : EthRx),
    p < 6 ∧ subUp s p sub = true ∧ f.fcsGood = true) ∧
    (∃ (s : State) (p : Nat) (sub : Nat) (f : EthRx),
    p < 6 ∧ subUp s p sub = true ∧ f.fcsGood = true ∧ unarmed s (ethPage p) ∧ fld s (ethPage p) F.ETH_MACSEC_VALIDATE = 0) ∧
    (∃ (s : State) (p : Nat) (sub : Nat) (f : EthRx),
    p < 6 ∧ subUp s p sub = true ∧ f.fcsGood = true ∧ unarmed s (ethPage p) ∧ fld s (ethPage p) F.ETH_MACSEC_VALIDATE = 0) :=
  ⟨⟨wEth 1 {}, 1, 0, wRx (wFrame 5), by decide +kernel⟩,
   ⟨setFld 0x311 F.ETH_MACSEC_VALIDATE 2 (wEth 1 {}), 1, 0, wRx (wFrame 5), by decide +kernel⟩,
   ⟨wEth 1 {}, 1, 0, wRx (wFrame 5), by decide +kernel⟩,
   ⟨wEth 1 {}, 1, 0, { wRx (wFrame 5) with len := 9217 }, by decide +kernel⟩⟩

theorem test_witness_EthernetPorts_10 : ∃ (s : State) (p : Nat) (sub : Nat) (c : Nat) (n : Nat) (l : List (Nat × Nat)),
    p < 6 ∧ sub < 4 ∧ c < 8 ∧ subUp s p sub = true ∧ fld s (ethPage p) F.ETH_PFC_MODE = 2 ∧ (ethPort s p).queue = [] ∧ (c, n) ∈ l ∧ ((∀ x ∈ l, x.1 % 8 = c → x = (c, n))) ∧ (ethPause s p sub c).released = false ∧ 0 < n :=
  ⟨setFld 0x311 F.ETH_PFC_MODE 2 (wEth 1 {}), 1, 0, 3, 65535, [(3, 65535), (5, 7)], by decide +kernel⟩

theorem test_witness_FieldChannels_1 :
    (∃ (s : State) (m : Nat) (c : Nat) (v : Word),
    c < 32 ∧ judge s m (fldPage c) R.FLD_CH_CTRL 8 v = .ok ∧ bitOf v 0 = true ∧ bitOf v 1 = false ∧ bitOf v 2 = false ∧ flag s (fldPage c) F.FLD_CH_CTRL_RUN = false) ∧
    (∃ (s : State) (m : Nat) (c : Nat) (v : Word),
    c < 32 ∧ judge s m (fldPage c) R.FLD_CH_CTRL 8 v = .ok ∧ bitOf v 0 = false ∧ bitOf v 1 = false ∧ bitOf v 2 = false) ∧
    (∃ (s : State) (m : Nat) (c : Nat) (v : Word),
    c < 32 ∧ judge s m (fldPage c) R.FLD_CH_CTRL 8 (v ||| 2) = .ok ∧ bitOf v 2 = false) ∧
    (∃ (s : State) (m : Nat) (c : Nat) (v : Word),
    c < 32 ∧ judge s m (fldPage c) R.FLD_CH_CTRL 8 (v ||| 4) = .ok ∧ bitOf v 0 = flag s (fldPage c) F.FLD_CH_CTRL_RUN ∧ bitOf v 1 = false) :=
  ⟨⟨setReg (fldPage 3) R.FLD_CH_CTRL 0 (wFld 3 {}), 0, 3, 1#64, by decide +kernel⟩,
   ⟨wFld 3 { target := 7 }, 0, 3, 0#64, by decide +kernel⟩,
   ⟨wFld 3 { nextAt := 99 }, 0, 3, 0#64, by decide +kernel⟩,
   ⟨setFldFailed 3 true (setReg (fldPage 3) R.FLD_CH_STATUS 0x802 (wFld 3 {})), 0, 3, 1#64, by decide +kernel⟩⟩

theorem test_witness_FieldChannels_2 :
    (∃ (s : State) (c : Nat),
    flag s (fldPage c) F.FLD_CH_CTRL_RUN = false) ∧
    (∃ (s : State) (c : Nat),
    c < 32 ∧ pageGated s (fldPage c) = false ∧ flag s (fldPage c) F.FLD_CH_CTRL_RUN = true ∧ unarmed s (fldPage c) ∧ flag s (fldPage c) F.PAGE_CTRL_ENABLE = true ∧ sharedOwner s 0 c = true ∧ flag s fldGlb F.FLD_GLB_CTRL_FAILSAFE_ALL = false ∧ s.field.rail = false ∧ bitOf (reg s (fldPage c) R.FLD_CH_STATUS) (8 + fsFault) = false ∧ fld s (fldPage c) F.FLD_CH_CFG_WDOG_CYCLES = 0 ∧ fld s (fldPage c) F.FLD_CH_CFG_DET_MODE ≠ 2) ∧
    (∃ (s : State) (c : Nat),
    c < 32 ∧ pageGated s (fldPage c) = false ∧ flag s (fldPage c) F.FLD_CH_CTRL_RUN = true ∧ unarmed s (fldPage c) ∧ ((flag s (fldPage c) F.PAGE_CTRL_ENABLE = false ∨ sharedOwner s 0 c = false ∨ flag s fldGlb F.FLD_GLB_CTRL_FAILSAFE_ALL = true ∨ s.field.rail = true ∨ bitOf (reg s (fldPage c) R.FLD_CH_STATUS) (8 + fsFault) = true ∨ (fld s (fldPage c) F.FLD_CH_CFG_WDOG_CYCLES ≠ 0 ∧ (fldChan s c).written = false ∧ fld s (fldPage c) F.FLD_CH_CFG_WDOG_CYCLES ≤ (fldChan s c).unset + 1) ∨ (fld s (fldPage c) F.FLD_CH_CFG_DET_MODE = 2 ∧ detectorInput s 0 c = true)))) ∧
    (∃ (s : State) (c : Nat),
    c < 32 ∧ pageGated s (fldPage c) = false ∧ flag s (fldPage c) F.FLD_CH_CTRL_RUN = true ∧ unarmed s (fldPage c) ∧ ((flag s (fldPage c) F.PAGE_CTRL_ENABLE = false ∨ sharedOwner s 0 c = false ∨ flag s fldGlb F.FLD_GLB_CTRL_FAILSAFE_ALL = true ∨ s.field.rail = true ∨ bitOf (reg s (fldPage c) R.FLD_CH_STATUS) (8 + fsFault) = true ∨ (fld s (fldPage c) F.FLD_CH_CFG_WDOG_CYCLES ≠ 0 ∧ (fldChan s c).written = false ∧ fld s (fldPage c) F.FLD_CH_CFG_WDOG_CYCLES ≤ (fldChan s c).unset + 1) ∨ (fld s (fldPage c) F.FLD_CH_CFG_DET_MODE = 2 ∧ detectorInput s 0 c = true)))) :=
  ⟨⟨setReg (fldPage 3) R.FLD_CH_CTRL 0 (wFld 3 {}), 3, by decide +kernel⟩,
   ⟨setFldFailed 3 true (setReg (fldPage 3) R.FLD_CH_SETPOINT 500 (wFld 3 { nextAt := 9 })), 3, by decide +kernel⟩,
   ⟨setFldFailed 3 true { wFld 3 { target := 44 } with field := { chans := [(3, { target := 44 })], rail := true } }, 3, by decide +kernel⟩,
   ⟨setReg (fldPage 3) R.FLD_CH_CFG 0x20C (wFld 3 { target := 44, unset := 1 }), 3, by decide +kernel⟩⟩

theorem test_witness_FieldChannels_3 :
    (∃ (s : State) (c : Nat),
    c < 32 ∧ pageGated s (fldPage c) = false ∧ flag s (fldPage c) F.FLD_CH_CTRL_RUN = true ∧ unarmed s (fldPage c) ∧ ((flag s (fldPage c) F.PAGE_CTRL_ENABLE = false ∨ sharedOwner s 0 c = false ∨ flag s fldGlb F.FLD_GLB_CTRL_FAILSAFE_ALL = true ∨ s.field.rail = true ∨ bitOf (reg s (fldPage c) R.FLD_CH_STATUS) (8 + fsFault) = true ∨ (fld s (fldPage c) F.FLD_CH_CFG_WDOG_CYCLES ≠ 0 ∧ (fldChan s c).written = false ∧ fld s (fldPage c) F.FLD_CH_CFG_WDOG_CYCLES ≤ (fldChan s c).unset + 1) ∨ (fld s (fldPage c) F.FLD_CH_CFG_DET_MODE = 2 ∧ detectorInput s 0 c = true)))) ∧
    (∃ (s : State) (c : Nat) (ua : Int) (mv : Int) (x : Int) (limit : Bool),
    (x = (if fld s (fldPage c) F.FLD_CH_SLEW_RATE = 0 ∨ ((fldChan s c).target - fldY s c).natAbs ≤ fld s (fldPage c) F.FLD_CH_SLEW_STEP then (fldChan s c).target else if fldY s c < (fldChan s c).target then fldY s c + fld s (fldPage c) F.FLD_CH_SLEW_RATE else fldY s c - fld s (fldPage c) F.FLD_CH_SLEW_RATE)) ∧ c < 32 ∧ pageGated s (fldPage c) = false ∧ fldFailed s c = false ∧ flag s (fldPage c) F.FLD_CH_STATUS_HIGH_Z = false ∧ (fldCodes c).1 ≤ x ∧ x ≤ (fldCodes c).2) ∧
    (∃ (s : State) (c : Nat) (ua : Int) (mv : Int) (x : Int) (limit : Bool),
    (x = (if fld s (fldPage c) F.FLD_CH_SLEW_RATE = 0 ∨ ((fldChan s c).target - fldY s c).natAbs ≤ fld s (fldPage c) F.FLD_CH_SLEW_STEP then (fldChan s c).target else if fldY s c < (fldChan s c).target then fldY s c + fld s (fldPage c) F.FLD_CH_SLEW_RATE else fldY s c - fld s (fldPage c) F.FLD_CH_SLEW_RATE)) ∧ c < 32 ∧ pageGated s (fldPage c) = false ∧ fldFailed s c = false ∧ flag s (fldPage c) F.FLD_CH_STATUS_HIGH_Z = false ∧ (fldCodes c).1 ≤ x ∧ x ≤ (fldCodes c).2) ∧
    (∃ (s : State) (c : Nat) (ua : Int) (mv : Int) (x : Int) (limit : Bool),
    (x = (if fld s (fldPage c) F.FLD_CH_SLEW_RATE = 0 ∨ ((fldChan s c).target - fldY s c).natAbs ≤ fld s (fldPage c) F.FLD_CH_SLEW_STEP then (fldChan s c).target else if fldY s c < (fldChan s c).target then fldY s c + fld s (fldPage c) F.FLD_CH_SLEW_RATE else fldY s c - fld s (fldPage c) F.FLD_CH_SLEW_RATE)) ∧ c < 32 ∧ pageGated s (fldPage c) = false ∧ fldFailed s c = false ∧ flag s (fldPage c) F.FLD_CH_STATUS_HIGH_Z = false ∧ (fldCodes c).1 ≤ x ∧ x ≤ (fldCodes c).2) :=
  ⟨⟨setFld 0x228 F.PAGE_CTRL_ENABLE 1 (setReg 0x228 R.GGE_LINE (BitVec.ofNat 64 (3 * 2 ^ 36 + 2 ^ 41)) (setReg (fldPage 3) R.FLD_CH_CFG 0x04C (wFld 3 { target := 44 }))), 3, by decide +kernel⟩,
   ⟨wFld 3 { target := 500 }, 3, 4000, -7, _, false, rfl, by decide +kernel⟩,
   ⟨setReg (fldPage 3) 0x128 (BitVec.ofNat 64 (100 + 64 * 2 ^ 24)) (wFld 3 { target := 500 }), 3, 4000, 2000, _, false, rfl, by decide +kernel⟩,
   ⟨setReg (fldPage 30) 0x128 (BitVec.ofNat 64 (100 + 64 * 2 ^ 24)) (wFld 30 { target := -500 }), 30, 4000, 2000, _, false, rfl, by decide +kernel⟩⟩

theorem test_witness_FieldChannels_4 :
    (∃ (s : State) (c : Nat) (ua : Int) (mv : Int) (limit : Bool),
    c < 32 ∧ pageGated s (fldPage c) = false ∧ fldFailed s c = true ∧ flag s (fldPage c) F.FLD_CH_STATUS_HIGH_Z = false) ∧
    (∃ (s : State) (c : Nat) (k : Nat) (ua : Int) (mv : Int) (limit : Bool),
    c < 32 ∧ k < 3 ∧ pageGated s (fldPage c) = false ∧ fldFailed s c = false ∧ flag s (fldPage c) F.FLD_CH_STATUS_HIGH_Z = false ∧ (fldChan s c).target = fldY s c ∧ (fldCodes c).1 ≤ fldY s c ∧ fldY s c ≤ (fldCodes c).2 ∧ fldFaulty s c ua limit k = true ∧ ntGet (fldChan s c).seen k = 99 ∧ k ∉ (fldChan s c).declared) ∧
    (∃ (s : State) (c : Nat) (ua : Int) (mv : Int) (limit : Bool),
    c < 32 ∧ pageGated s (fldPage c) = false ∧ fldFailed s c = true ∧ flag s (fldPage c) F.FLD_CH_STATUS_HIGH_Z = true) ∧
    (∃ (s : State) (m : Nat) (v : Word),
    judge s m fldGlb R.FLD_GLB_CTRL 8 v = .ok ∧ bitOf v 0 = true) :=
  ⟨⟨setFldFailed 3 true (setReg (fldPage 3) R.FLD_CH_CODES (BitVec.ofNat 64 (600 * 2 ^ 24)) (wFld 3 { target := 5 })), 3, 0, 0, false, by decide +kernel⟩,
   ⟨setFldY 3 40000 (setReg (fldPage 3) R.FLD_CH_CFG 0x8C (wFld 3 { target := 40000, seen := [(1, 99)] })), 3, 1, 5000, 12000, true, by decide +kernel⟩,
   ⟨setFldFailed 3 true (setReg (fldPage 3) R.FLD_CH_STATUS 0x110 (wFld 3 { seen := [(0, 99)] })), 3, 0, 0, true, by decide +kernel⟩,
   ⟨wFld 3 {}, 0, 1#64, by decide +kernel⟩⟩

theorem test_witness_FieldChannels_5 :
    (∃ (s : State) (m : Nat) (v : Word),
    judge s m fldGlb R.FLD_GLB_CTRL 8 v = .ok ∧ bitOf v 0 = false) ∧
    (∃ (s : State) (rails : Nat),
    rails % 8 ≠ 0) ∧
    (∃ (s : State),
    s.field.rail = true) :=
  ⟨⟨setReg fldGlb R.FLD_GLB_CTRL 1 (setFldFailed 3 true (wFld 3 {})), 0, 0#64, by decide +kernel⟩,
   ⟨wFld 3 {}, 2, by decide +kernel⟩,
   ⟨setFldFailed 3 true { wFld 3 {} with field := { rail := true } }, by decide +kernel⟩⟩

theorem test_witness_StewardsAndReferee_1 :
    (∃ (s : State) (m : Nat) (k : Nat) (v : Word),
    k < 2 ∧ m = k + 1 ∧ judge s m refPage (R.REF_HB + 8 * k) 8 v = .ok ∧ unarmed s refPage ∧ (((stewardOf s k).fresh = true ∨ fieldOf v 0 16 = (fld s refPage (F.REF_HB_SEQ.at k) + 1) % 65536))) ∧
    (∃ (s : State) (m : Nat) (k : Nat) (v : Word),
    k < 2 ∧ m = k + 1 ∧ judge s m refPage (R.REF_HB + 8 * k) 8 v = .ok ∧ unarmed s refPage ∧ (((stewardOf s k).fresh = true ∨ fieldOf v 0 16 = (fld s refPage (F.REF_HB_SEQ.at k) + 1) % 65536))) ∧
    (∃ (s : State) (m : Nat) (k : Nat) (v : Word),
    k < 2 ∧ m = k + 1 ∧ judge s m refPage (R.REF_HB + 8 * k) 8 v = .ok ∧ (stewardOf s k).fresh = false ∧ fieldOf v 0 16 ≠ (fld s refPage (F.REF_HB_SEQ.at k) + 1) % 65536) ∧
    (∃ (s : State) (m : Nat) (k : Nat) (v : Word),
    k < 2 ∧ m ≠ k + 1 ∧ judge s m refPage (R.REF_HB + 8 * k) 8 v = .ok) :=
  ⟨⟨setFld refPage F.REF_STATUS_STATE_B 1 { wRef 0 1 60 60 with ref := ⟨{}, {}⟩ }, 2, 1, 7#64, by decide +kernel⟩,
   ⟨setFld refPage (F.REF_HB_SEQ.at 0) 65535 (wRef 0 2 60 60), 1, 0, 0#64, by decide +kernel⟩,
   ⟨setFld refPage (F.REF_HB_SEQ.at 0) 5 (wRef 0 2 60 60), 1, 0, 5#64, by decide +kernel⟩,
   ⟨wRef 0 2 60 60, 0, 1, 1#64, by decide +kernel⟩⟩

theorem test_witness_StewardsAndReferee_2 :
    (∃ (s : State) (a : Nat) (b : Nat),
    armedRef s = false) ∧
    (∃ (s : State) (a : Nat) (b : Nat) (k : Nat) (us : Nat) (other : Nat) (late : Bool) (otherLate : Bool),
    us = (if k = 0 then a else b) ∧ other = (if k = 0 then b else a) ∧ late = decide (hbTimeout s < evaluationTime s - (stewardOf s k).beatAt) ∧ otherLate = decide (hbTimeout s < evaluationTime s - (stewardOf s (1 - k)).beatAt) ∧ k < 2 ∧ armedRef s = true ∧ stewardState s k = 3 ∧ stewardState s (1 - k) = 2 ∧ unarmed s refPage ∧ maxIssued s < 0xFFFF ∧ (((fld s refPage F.REF_CFG_POLICY = 0 ∧ late = true ∧ otherLate = false) ∨ (fld s refPage F.REF_CFG_POLICY = 1 ∧ us ≠ 0 ∧ fld s refPage F.REF_CFG_EXT_DEBOUNCE_US ≤ us ∧ other = 0) ∨ (fld s refPage F.REF_CFG_POLICY = 2 ∧ late = true ∧ us ≠ 0 ∧ fld s refPage F.REF_CFG_EXT_DEBOUNCE_US ≤ us ∧ otherLate = false ∧ other = 0)))) ∧
    (∃ (s : State) (a : Nat) (b : Nat) (k : Nat) (us : Nat) (other : Nat) (late : Bool) (otherLate : Bool),
    us = (if k = 0 then a else b) ∧ other = (if k = 0 then b else a) ∧ late = decide (hbTimeout s < evaluationTime s - (stewardOf s k).beatAt) ∧ otherLate = decide (hbTimeout s < evaluationTime s - (stewardOf s (1 - k)).beatAt) ∧ k < 2 ∧ armedRef s = true ∧ stewardState s k = 3 ∧ stewardState s (1 - k) = 2 ∧ unarmed s refPage ∧ maxIssued s < 0xFFFF ∧ (((fld s refPage F.REF_CFG_POLICY = 0 ∧ late = true ∧ otherLate = false) ∨ (fld s refPage F.REF_CFG_POLICY = 1 ∧ us ≠ 0 ∧ fld s refPage F.REF_CFG_EXT_DEBOUNCE_US ≤ us ∧ other = 0) ∨ (fld s refPage F.REF_CFG_POLICY = 2 ∧ late = true ∧ us ≠ 0 ∧ fld s refPage F.REF_CFG_EXT_DEBOUNCE_US ≤ us ∧ otherLate = false ∧ other = 0)))) ∧
    (∃ (s : State) (a : Nat) (b : Nat) (k : Nat) (us : Nat) (other : Nat) (late : Bool) (otherLate : Bool),
    us = (if k = 0 then a else b) ∧ other = (if k = 0 then b else a) ∧ late = decide (hbTimeout s < evaluationTime s - (stewardOf s k).beatAt) ∧ otherLate = decide (hbTimeout s < evaluationTime s - (stewardOf s (1 - k)).beatAt) ∧ k < 2 ∧ armedRef s = true ∧ stewardState s k = 3 ∧ stewardState s (1 - k) = 2 ∧ unarmed s refPage ∧ maxIssued s < 0xFFFF ∧ (((fld s refPage F.REF_CFG_POLICY = 0 ∧ late = true ∧ otherLate = false) ∨ (fld s refPage F.REF_CFG_POLICY = 1 ∧ us ≠ 0 ∧ fld s refPage F.REF_CFG_EXT_DEBOUNCE_US ≤ us ∧ other = 0) ∨ (fld s refPage F.REF_CFG_POLICY = 2 ∧ late = true ∧ us ≠ 0 ∧ fld s refPage F.REF_CFG_EXT_DEBOUNCE_US ≤ us ∧ otherLate = false ∧ other = 0)))) :=
  ⟨⟨setFld refPage F.REF_STATUS_ARMED 0 (wRef 0 2 10 10), 0, 9000, by decide +kernel⟩,
   ⟨wRef 0 2 50 60, 0, 9000, 0, _, _, _, _, rfl, rfl, rfl, rfl, by decide +kernel⟩,
   ⟨wRef 1 2 10 10, 1000, 0, 0, _, _, _, _, rfl, rfl, rfl, rfl, by decide +kernel⟩,
   ⟨wRef 2 2 50 60, 1000, 0, 0, _, _, _, _, rfl, rfl, rfl, rfl, by decide +kernel⟩⟩

theorem test_witness_StewardsAndReferee_3 :
    (∃ (s : State) (a : Nat) (b : Nat) (k : Nat),
    k < 2 ∧ armedRef s = true ∧ stewardState s k = 3 ∧ stewardState s (1 - k) ≠ 2 ∧ stewardState s (1 - k) ≠ 3 ∧ fld s refPage F.REF_CFG_POLICY = 0 ∧ hbTimeout s < evaluationTime s - (stewardOf s k).beatAt) ∧
    (∃ (s : State) (a : Nat) (b : Nat) (k : Nat),
    k < 2 ∧ armedRef s = true ∧ stewardState s k = 3 ∧ stewardState s (1 - k) ≠ 2 ∧ stewardState s (1 - k) ≠ 3 ∧ fld s refPage F.REF_CFG_POLICY = 0 ∧ hbTimeout s < evaluationTime s - (stewardOf s k).beatAt) ∧
    (∃ (s : State) (a : Nat) (b : Nat),
    armedRef s = true ∧ fld s refPage F.REF_CFG_POLICY = 0 ∧ unarmed s refPage ∧ ((∀ k, k < 2 → evaluationTime s - (stewardOf s k).beatAt ≤ hbTimeout s ∧ (stewardOf s k).released = none))) ∧
    (∃ (s : State) (a : Nat) (b : Nat) (k : Nat),
    k < 2 ∧ armedRef s = true ∧ stewardState s k = 2 ∧ stewardState s (1 - k) = 3 ∧ unarmed s refPage ∧ fld s refPage F.REF_CFG_POLICY = 0 ∧ hbTimeout s < evaluationTime s - (stewardOf s k).beatAt ∧ evaluationTime s - (stewardOf s (1 - k)).beatAt ≤ hbTimeout s) :=
  ⟨⟨wRef 0 4 50 60, 0, 0, 0, by decide +kernel⟩,
   ⟨wRef 0 1 49 60, 0, 0, 0, by decide +kernel⟩,
   ⟨wRef 0 2 60 60, 0, 1, by decide +kernel⟩,
   ⟨wRef 0 2 60 50, 0, 0, 1, by decide +kernel⟩⟩

theorem test_witness_StewardsAndReferee_4 :
    (∃ (s : State) (a : Nat) (b : Nat) (t0 : Nat),
    a = 0 ∧ b = 0 ∧ armedRef s = true ∧ unarmed s refPage ∧ fld s refPage F.REF_CFG_POLICY = 2 ∧ stewardState s 0 = 3 ∧ (stewardOf s 0).differ = some t0 ∧ hbTimeout s < evaluationTime s - t0 ∧ hbTimeout s < evaluationTime s - (stewardOf s 0).beatAt ∧ (stewardOf s 0).released = none ∧ (stewardOf s 1).released = none) ∧
    (∃ (s : State) (m : Nat) (k : Nat) (v : Word),
    judge s m refPage R.REF_CTRL 8 (v ||| 1) = .ok ∧ bitOf v 1 = false ∧ bitOf v 2 = false ∧ unarmed s refPage ∧ m ≤ 2 ∧ armedRef s = false ∧ maxIssued s < 0xFFFF ∧ stewardState s k = 2 ∧ k = (if stewardState s (fld s refPage F.REF_CFG_PREFER) = 2 then fld s refPage F.REF_CFG_PREFER else 1 - fld s refPage F.REF_CFG_PREFER)) ∧
    (∃ (s : State) (m : Nat) (k : Nat) (v : Word),
    judge s m refPage R.REF_CTRL 8 (v ||| 1) = .ok ∧ bitOf v 1 = false ∧ bitOf v 2 = false ∧ unarmed s refPage ∧ m ≤ 2 ∧ armedRef s = false ∧ maxIssued s < 0xFFFF ∧ stewardState s k = 2 ∧ k = (if stewardState s (fld s refPage F.REF_CFG_PREFER) = 2 then fld s refPage F.REF_CFG_PREFER else 1 - fld s refPage F.REF_CFG_PREFER)) ∧
    (∃ (s : State) (m : Nat) (v : Word),
    judge s m refPage R.REF_CTRL 8 (v ||| 1) = .ok ∧ bitOf v 1 = false ∧ bitOf v 2 = false ∧ ((2 < m ∨ armedRef s = true ∨ (stewardState s 0 ≠ 2 ∧ stewardState s 1 ≠ 2)))) :=
  ⟨⟨{ wRef 2 2 0 60 with ref := ⟨{ beatAt := 0, differ := some 0, fresh := false }, { beatAt := 60 * msUnits }⟩ }, _, _, 0, rfl, rfl, by decide +kernel⟩,
   ⟨setReg refPage 0x110 (BitVec.ofNat 64 (2 * 256 + 2 * 2048 + 6 * 2 ^ 48)) (wRef 0 2 60 60), 0, 0, 0#64, by decide +kernel⟩,
   ⟨setReg refPage 0x110 (BitVec.ofNat 64 (1 * 256 + 2 * 2048 + 6 * 2 ^ 48)) (wRef 0 2 60 60), 2, 1, 0#64, by decide +kernel⟩,
   ⟨wRef 0 2 60 60, 0, 0#64, by decide +kernel⟩⟩

theorem test_witness_StewardsAndReferee_5 :
    (∃ (s : State) (m : Nat) (v : Word),
    judge s m refPage R.REF_CTRL 8 (v ||| 1) = .ok ∧ bitOf v 1 = false ∧ bitOf v 2 = false ∧ ((2 < m ∨ armedRef s = true ∨ (stewardState s 0 ≠ 2 ∧ stewardState s 1 ≠ 2)))) ∧
    (∃ (s : State) (m : Nat) (v : Word),
    judge s m refPage R.REF_CTRL 8 (v ||| 1) = .ok ∧ bitOf v 1 = false ∧ bitOf v 2 = false ∧ ((2 < m ∨ armedRef s = true ∨ (stewardState s 0 ≠ 2 ∧ stewardState s 1 ≠ 2)))) ∧
    (∃ (s : State) (m : Nat) (k : Nat) (v : Word),
    judge s m refPage R.REF_CTRL 8 (v ||| 2) = .ok ∧ bitOf v 0 = false ∧ bitOf v 2 = false ∧ unarmed s refPage ∧ k < 2 ∧ m = k + 1 ∧ stewardState s k = 3 ∧ stewardState s (1 - k) = 2 ∧ maxIssued s < 0xFFFF ∧ failedNow s k = false ∧ failedNow s (1 - k) = false) ∧
    (∃ (s : State) (m : Nat) (v : Word),
    judge s m refPage R.REF_CTRL 8 (v ||| 2) = .ok ∧ bitOf v 0 = false ∧ bitOf v 2 = false ∧ ((isActiveSteward s m = false ∨ (m = 1 ∧ stewardState s 1 ≠ 2) ∨ (m = 2 ∧ stewardState s 0 ≠ 2)))) :=
  ⟨⟨setReg refPage 0x110 0 (wRef 0 2 60 60), 0, 0#64, by decide +kernel⟩,
   ⟨setReg refPage 0x110 (BitVec.ofNat 64 (2 * 256)) (wRef 0 2 60 60), 3, 0#64, by decide +kernel⟩,
   ⟨wRef 0 2 60 60, 1, 0, 0#64, by decide +kernel⟩,
   ⟨wRef 0 2 60 60, 0, 0#64, by decide +kernel⟩⟩

theorem test_witness_StewardsAndReferee_6 :
    (∃ (s : State) (m : Nat) (v : Word),
    judge s m refPage R.REF_CTRL 8 (v ||| 2) = .ok ∧ bitOf v 0 = false ∧ bitOf v 2 = false ∧ ((isActiveSteward s m = false ∨ (m = 1 ∧ stewardState s 1 ≠ 2) ∨ (m = 2 ∧ stewardState s 0 ≠ 2)))) ∧
    (∃ (s : State) (m : Nat) (k : Nat) (v : Word),
    judge s m refPage R.REF_CTRL 8 (v ||| 4) = .ok ∧ bitOf v 0 = false ∧ bitOf v 1 = false ∧ k < 2 ∧ m = k + 1 ∧ stewardState s k = 3 ∧ stewardState s (1 - k) = 4) ∧
    (∃ (s : State) (m : Nat) (v : Word),
    judge s m refPage R.REF_CTRL 8 (v ||| 4) = .ok ∧ bitOf v 0 = false ∧ bitOf v 1 = false ∧ isActiveSteward s m = false) ∧
    (∃ (s : State) (m : Nat) (n : Nat) (v : Word),
    judge s m refPage R.REF_GRANT_DATA 8 v = .ok ∧ fld s refPage F.REF_GRANT_ADDR_MASTER = n) :=
  ⟨⟨wRef 0 4 60 60, 1, 0#64, by decide +kernel⟩,
   ⟨wRef 0 4 60 60, 1, 0, 0#64, by decide +kernel⟩,
   ⟨wRef 0 4 60 60, 3, 0#64, by decide +kernel⟩,
   ⟨setReg refPage R.REF_GRANT_ADDR 128 (wRef 0 2 60 60), 1, 128, 6#64, by decide +kernel⟩⟩

theorem test_witness_StewardsAndReferee_7 :
    (∃ (s : State) (m : Nat) (n : Nat) (v : Word),
    judge s m refPage R.REF_GRANT_DATA 8 v = .ok ∧ fld s refPage F.REF_GRANT_ADDR_MASTER = n) ∧
    (∃ (s : State) (m : Nat) (n : Nat) (v : Word),
    judge s m refPage R.REF_GRANT_DATA 8 v = .ok ∧ fld s refPage F.REF_GRANT_ADDR_MASTER = n) :=
  ⟨⟨setReg refPage R.REF_GRANT_ADDR 128 (wRef 0 2 60 60), 1, 128, 7#64, by decide +kernel⟩,
   ⟨setReg refPage R.REF_GRANT_ADDR 9 (wRef 0 2 60 60), 1, 9, 1#64, by decide +kernel⟩⟩

theorem test_witness_EventsAndRetireList_1 :
    (∃ (s : State) (m : Nat) (k : Nat) (v : Word),
    k < 16 ∧ judge s m 0x3D3 (R.EVT_PENDING + 8 * k) 8 v = .ok) ∧
    (∃ (s : State) (m : Nat) (k : Nat) (v : Word),
    k < 16 ∧ judge s m 0x3D3 (R.EVT_MASK + 8 * k) 8 v = .ok ∧ ((∀ b, b < 64 → bitOf (reg s 0x3D3 (R.EVT_MASK + 8 * k)) b = true → bitOf v b = false → evPending s (64 * k + b) = false))) ∧
    (∃ (s : State) (m : Nat) (k : Nat) (b : Nat) (x : Nat) (v : Word),
    v = withBit (reg s 0x3D3 (R.EVT_MASK + 8 * k)) b false ∧ k < 16 ∧ b < 64 ∧ judge s m 0x3D3 (R.EVT_MASK + 8 * k) 8 v = .ok ∧ bitOf (reg s 0x3D3 (R.EVT_MASK + 8 * k)) b = true ∧ evPending s (64 * k + b) = true ∧ bitOf (routeOf s (64 * k + b)) 11 = true ∧ fieldOf (routeOf s (64 * k + b)) 0 11 = x ∧ vectorMasked s x = false) ∧
    (∃ (s : State) (m : Nat) (x : Nat) (v : Word),
    x < 2048 ∧ judge s m (0x400 + x / 256) (x % 256 * 16 + 8) 8 v = .ok ∧ bitOf v 32 = false ∧ s.msixFn = false ∧ bitOf (reg s 0x408 (x / 64 * 8)) (x % 64) = true) :=
  ⟨⟨setReg 0x3D3 (R.EVT_PENDING + 16) 0xF0 w0, 0, 2, 0x11#64, by decide +kernel⟩,
   ⟨wEvt, 0, 1, 64#64, by decide +kernel⟩,
   ⟨wEvt, 3, 1, 6, 9, _, rfl, by decide +kernel⟩,
   ⟨setReg 0x408 0 512 (setReg 0x400 152 (BitVec.ofNat 64 (2 ^ 32 + 5)) wEvt), 0, 9, 5#64, by decide +kernel⟩⟩

theorem test_witness_EventsAndRetireList_2 :
    (∃ (s : State) (m : Nat) (x : Nat) (v : Word),
    x < 2048 ∧ judge s m (0x400 + x / 256) (x % 256 * 16 + 8) 8 v = .ok ∧ ((s.msixFn = true ∨ bitOf v 32 = true ∨ bitOf (reg s 0x408 (x / 64 * 8)) (x % 64) = false))) ∧
    (∃ (s : State) (st : Nat) (e : EvEntry) (l : List EvEntry),
    st < 2 ∧ pageGated s 0x3D4 = false ∧ (if st = 0 then s.evtQA else s.evtQB) = e :: l) ∧
    (∃ (s : State) (st : Nat) (e : EvEntry) (l : List EvEntry),
    st < 2 ∧ pageGated s 0x3D4 = false ∧ (if st = 0 then s.evtQA else s.evtQB) = e :: l) ∧
    (∃ (s : State) (st : Nat),
    st < 2 ∧ (if st = 0 then s.evtQA else s.evtQB) = []) :=
  ⟨⟨setReg 0x408 0 512 wEvt, 0, 9, BitVec.ofNat 64 (2 ^ 32 + 5), by decide +kernel⟩,
   ⟨{ w0 with evtQA := [⟨70, 65536 * 1500000000⟩, ⟨3, 9⟩] }, 0, ⟨70, 65536 * 1500000000⟩, [⟨3, 9⟩], by decide +kernel⟩,
   ⟨{ w0 with evtQB := [⟨70, 65536 * 1500000000⟩] }, 1, ⟨70, 65536 * 1500000000⟩, [], by decide +kernel⟩,
   ⟨w0, 1, by decide +kernel⟩⟩

theorem test_witness_EventsAndRetireList_3 :
    (∃ (s : State) (m : Nat) (i : Nat) (v : Word),
    judge s m stwPage R.STW_RL_CTRL 8 (v ||| 1) = .ok ∧ bitOf v 1 = false ∧ fld s stwPage F.STW_RL_ADDR_INDEX = i) ∧
    (∃ (s : State) (m : Nat) (i : Nat) (v : Word),
    judge s m stwPage R.STW_RL_CTRL 8 (v ||| 1) = .ok ∧ bitOf v 1 = false ∧ fld s stwPage F.STW_RL_ADDR_INDEX = i) ∧
    (∃ (s : State) (m : Nat) (i : Nat) (v : Word) (w : Word),
    judge s m stwPage R.STW_RL_CTRL 8 (v ||| 2) = .ok ∧ bitOf v 0 = false ∧ fld s stwPage F.STW_RL_ADDR_INDEX = i ∧ kindOne s m = true ∧ s.rl.entries[i]? = some w) ∧
    (∃ (s : State) (m : Nat) (v : Word),
    judge s m stwPage R.STW_RL_CTRL 8 (v ||| 2) = .ok ∧ bitOf v 0 = false ∧ kindOne s m = false) :=
  ⟨⟨setReg stwPage R.STW_RL_ADDR 1 { w0 with rl := { entries := [5, 0x10A01] } }, 0, 1, 0#64, by decide +kernel⟩,
   ⟨setReg stwPage R.STW_RL_ADDR 2 { w0 with rl := { entries := [5, 0x10A01] } }, 0, 2, 0#64, by decide +kernel⟩,
   ⟨setReg stwPage R.STW_RL_ADDR 1 { w0 with rl := { entries := [5, 0x10A01] }, cmd := { runs := [(0, ⟨true, 0, 0, [], [], [], []⟩)] } }, 3, 1, 0#64, 0x10A01, by decide +kernel⟩,
   ⟨{ w0 with rl := { entries := [5] } }, 3, 0#64, by decide +kernel⟩⟩

theorem test_witness_EventsAndRetireList_4 :
    (∃ (s : State),
    s.rl.changes ≠ 0 ∧ s.ldg.noIdentity = false ∧ unarmed s stwPage) ∧
    (∃ (s : State),
    s.rl.changes ≠ 0 ∧ s.ldg.noIdentity = false ∧ unarmed s stwPage) ∧
    (∃ (s : State),
    s.rl.changes ≠ 0 ∧ s.ldg.noIdentity = false) ∧
    (∃ (s : State) (ok : Bool),
    s.rl.changes = 0) :=
  ⟨⟨{ w0 with rl := { entries := [5], changes := 1, gen := 4 } }, by decide +kernel⟩,
   ⟨{ w0 with rl := { entries := [5], changes := 1, gen := 5 } }, by decide +kernel⟩,
   ⟨{ w0 with rl := { entries := [5], changes := 1, gen := 4 } }, by decide +kernel⟩,
   ⟨w0, true, by decide +kernel⟩⟩

theorem test_witness_Heartwood_1 :
    (∃ (s : State) (s0 : State) (m : Nat) (k : Nat) (v : Word) (flash : Bool) (r : Nat × List Byte × State),
    s0 = noteOpWrite m R.HWD_OP_CTRL (storePlain hwdPage R.HWD_OP_CTRL (goWord 1 v) (setWst 0 (countBar0 m s))) ∧ r = fetchImage (opAddr s) 1 s0 ∧ judge s m hwdPage R.HWD_OP_CTRL 8 (goWord 1 v) = .ok ∧ hwdOpHeld s m = false ∧ ((isActiveSteward s m = true ∨ (m = 0 ∧ s.hwd.recovery = true))) ∧ opInputOk s headerLen = true ∧ k = 1 - (if s.hwd.recovery then s.hwd.sel.slot else s.hwd.running)) ∧
    (∃ (s : State) (m : Nat) (v : Word) (flash : Bool),
    judge s m hwdPage R.HWD_OP_CTRL 8 (goWord 1 v) = .ok ∧ hwdOpHeld s m = false ∧ isActiveSteward s m = false ∧ kindOne s m = false ∧ ((m ≠ 0 ∨ s.hwd.recovery = false))) ∧
    (∃ (s : State) (s0 : State) (m : Nat) (v : Word) (r : Nat × List Byte × State),
    s0 = noteOpWrite m R.HWD_OP_CTRL (storePlain hwdPage R.HWD_OP_CTRL (goWord 2 v) (setWst 0 (countBar0 m s))) ∧ r = fetchImage (opAddr s) 2 s0 ∧ judge s m hwdPage R.HWD_OP_CTRL 8 (goWord 2 v) = .ok ∧ hwdOpHeld s m = false ∧ opInputOk s headerLen = true) ∧
    (∃ (s : State) (s0 : State) (m : Nat) (v : Word) (r : HbmRead × State),
    s0 = noteOpWrite m R.HWD_OP_CTRL (storePlain hwdPage R.HWD_OP_CTRL (goWord 3 v) (setWst 0 (countBar0 m s))) ∧ r = hbmRead (opAddr s) 4731 s0 ∧ judge s m hwdPage R.HWD_OP_CTRL 8 (goWord 3 v) = .ok ∧ hwdOpHeld s m = false ∧ opInputOk s 4731 = true) :=
  ⟨⟨wHwd, _, 1, 1, 0#64, true, _, rfl, rfl, by decide +kernel⟩,
   ⟨wHwd, 6, 0#64, true, by decide +kernel⟩,
   ⟨wHwd, _, 6, 0#64, _, rfl, rfl, by decide +kernel⟩,
   ⟨wHwd, _, 0, 0#64, _, rfl, rfl, by decide +kernel⟩⟩

theorem test_witness_Heartwood_2 :
    (∃ (s : State) (m : Nat) (v : Word),
    judge s m hwdPage R.HWD_OP_CTRL 8 (goWord 4 v) = .ok ∧ hwdOpHeld s m = false ∧ s.ldg.noIdentity = true) ∧
    (∃ (s : State) (s0 : State) (s1 : State) (m : Nat) (v : Word) (e : Emit × State),
    s0 = noteOpWrite m R.HWD_OP_CTRL (storePlain hwdPage R.HWD_OP_CTRL (goWord 4 v) (setWst 0 (countBar0 m s))) ∧ s1 = countSignature { s0 with free := s0.free + 8 } ∧ e = emitRecord (fld s ldgPage F.LDG_RINGS_ATTEST_RING) 8 7 4 (attestBody s0 ++ signature s1) s1 ∧ judge s m hwdPage R.HWD_OP_CTRL 8 (goWord 4 v) = .ok ∧ hwdOpHeld s m = false ∧ s.ldg.noIdentity = false) ∧
    (∃ (s : State) (s0 : State) (m : Nat) (v : Word) (r : HbmRead × State) (ct : List Byte) (key : List Byte),
    s0 = noteOpWrite m R.HWD_OP_CTRL (storePlain hwdPage R.HWD_OP_CTRL (goWord 5 v) (setWst 0 (countBar0 m s))) ∧ r = hbmRead (opAddr s) 1568 s0 ∧ ct = (List.range 1568).map (Config.kemCipher r.1.bytes s.free) ∧ key = kemDerive s ((List.range 32).map (Config.kemSecret r.1.bytes s.free)) ct (fld s hwdPage F.HWD_OP_ARG_USE) ∧ judge s m hwdPage R.HWD_OP_CTRL 8 (goWord 5 v) = .ok ∧ hwdOpHeld s m = false ∧ commandWrote s m (kemRegs s) = true ∧ opInputOk s 3168 = true ∧ fld s hwdPage F.HWD_OP_ARG_USE ≠ 0 ∧ ((fld s hwdPage F.HWD_OP_ARG_USE = 3 ∨ fld s hwdPage F.HWD_OP_ARG_PAGE ≤ 5))) ∧
    (∃ (s : State) (m : Nat) (v : Word),
    judge s m hwdPage R.HWD_OP_CTRL 8 (goWord 5 v) = .ok ∧ hwdOpHeld s m = false ∧ kindOne s m = false) :=
  ⟨⟨{ wHwd with ldg := { noIdentity := true } }, 0, 0#64, by decide +kernel⟩,
   ⟨wHwd, _, _, 0, 0#64, _, rfl, rfl, rfl, by decide +kernel⟩,
   ⟨wCmd1 (R.HWD_OP_ADDR :: R.HWD_OP_ARG :: opInRegs) (setReg hwdPage R.HWD_OP_ARG 3 wHwd), _, 3, 0#64, _, _, _, rfl, rfl, rfl, rfl, by decide +kernel⟩,
   ⟨wHwd, 1, 0#64, by decide +kernel⟩⟩

theorem test_witness_Heartwood_3 :
    (∃ (s : State) (m : Nat) (k : Nat) (v : Word),
    judge s m hwdPage R.HWD_OP_CTRL 8 (goWord 6 v) = .ok ∧ hwdOpHeld s m = false ∧ m = 0 ∧ activeOwners s = [] ∧ fld s hwdPage F.HWD_OP_ARG_INDEX = k ∧ k < s.hwd.owners.length) ∧
    (∃ (s : State) (m : Nat) (k : Nat) (v : Word),
    judge s m hwdPage R.HWD_OP_CTRL 8 (goWord 6 v) = .ok ∧ hwdOpHeld s m = false ∧ m = 0 ∧ activeOwners s = [] ∧ fld s hwdPage F.HWD_OP_ARG_INDEX = k ∧ k < s.hwd.owners.length) ∧
    (∃ (s : State) (m : Nat) (v : Word),
    judge s m hwdPage R.HWD_OP_CTRL 8 (goWord 6 v) = .ok ∧ hwdOpHeld s m = false ∧ kindOne s m = false ∧ ((m ≠ 0 ∨ activeOwners s ≠ []))) ∧
    (∃ (s : State) (m : Nat) (k : Nat) (v : Word) (h : List Byte),
    judge s m hwdPage R.HWD_OP_CTRL 8 (goWord 7 v) = .ok ∧ hwdOpHeld s m = false ∧ commandWrote s m [R.HWD_OP_ARG] = true ∧ fld s hwdPage F.HWD_OP_ARG_INDEX = k ∧ s.hwd.owners.getD k .empty = .active h) :=
  ⟨⟨setReg hwdPage R.HWD_OP_ARG 0x2000 wHwd, 0, 2, 0#64, by decide +kernel⟩,
   ⟨setReg hwdPage R.HWD_OP_ARG 0x2000 { wHwd with hwd := { owners := [.empty, .empty, .revoked [], .empty] } }, 0, 2, 0#64, by decide +kernel⟩,
   ⟨{ wHwd with hwd := { owners := [.active [], .empty, .empty, .empty] } }, 0, 0#64, by decide +kernel⟩,
   ⟨wCmd1 [R.HWD_OP_ARG] { wHwd with hwd := { owners := [.active [1], .active [2], .empty, .empty] } }, 3, 0, 0#64, [1], by decide +kernel⟩⟩

theorem test_witness_Heartwood_4 :
    (∃ (s : State) (m : Nat) (k : Nat) (v : Word) (h : List Byte),
    judge s m hwdPage R.HWD_OP_CTRL 8 (goWord 7 v) = .ok ∧ hwdOpHeld s m = false ∧ commandWrote s m [R.HWD_OP_ARG] = true ∧ fld s hwdPage F.HWD_OP_ARG_INDEX = k ∧ s.hwd.owners.getD k .empty = .active h) ∧
    (∃ (s : State) (m : Nat) (v : Word),
    judge s m hwdPage R.HWD_CTRL 8 (v ||| 1) = .ok ∧ bitOf v 1 = false ∧ bitOf v 2 = false ∧ bitOf v 3 = false) ∧
    (∃ (s : State) (m : Nat) (v : Word),
    judge s m hwdPage R.HWD_CTRL 8 (v ||| 1) = .ok ∧ bitOf v 1 = false ∧ bitOf v 2 = false ∧ bitOf v 3 = false) ∧
    (∃ (s : State) (m : Nat) (v : Word),
    judge s m hwdPage R.HWD_CTRL 8 (v ||| 2) = .ok ∧ bitOf v 0 = false ∧ bitOf v 2 = false ∧ bitOf v 3 = false ∧ s.hwd.unlock ≠ none) :=
  ⟨⟨wCmd1 [R.HWD_OP_ARG] { wHwd with hwd := { owners := [.active [1], .revoked [2], .empty, .empty] } }, 3, 0, 0#64, [1], by decide +kernel⟩,
   ⟨{ wHwd with hwd := { running := 1, trial := true, sel := { gen := 4, slot := 1, trial := true } } }, 1, 0#64, by decide +kernel⟩,
   ⟨wHwd, 1, 0#64, by decide +kernel⟩,
   ⟨setFld 0x10A F.PAGE_CTRL_DEBUG 1 { wHwd with hwd := { unlock := some ⟨3, 99⟩ } }, 1, 0#64, by decide +kernel⟩⟩

theorem test_witness_Heartwood_5 :
    (∃ (s : State) (u : DebugUnlock),
    s.hwd.unlock = some u) ∧
    (∃ (s : State) (m : Nat) (v : Word),
    bitOf v 0 = false ∧ bitOf v 1 = false ∧ ((isActiveSteward s m = true ∨ kindOne s m = true)) ∧ s.hwd.trial = false) ∧
    (∃ (s : State) (m : Nat) (v : Word),
    bitOf v 0 = false ∧ bitOf v 1 = false ∧ (((isActiveSteward s m = false ∧ kindOne s m = false) ∨ s.hwd.trial = true))) ∧
    (∃ (s : State) (m : Nat) (v : Word),
    bitOf v 0 = false ∧ bitOf v 1 = false ∧ (((isActiveSteward s m = false ∧ kindOne s m = false) ∨ s.hwd.trial = true))) :=
  ⟨⟨setFld 0x10A F.PAGE_CTRL_DEBUG 1 { wHwd with hwd := { unlock := some ⟨3, 99⟩ } }, ⟨3, 99⟩, by decide +kernel⟩,
   ⟨{ wHwd with hwd := { runSvn := 70, fwSvn := 3, workSvn := 4, work := some 9 } }, 1, 0#64, by decide +kernel⟩,
   ⟨{ wHwd with hwd := { runSvn := 7, trial := true, work := some 9 } }, 1, 0#64, by decide +kernel⟩,
   ⟨{ wHwd with hwd := { runSvn := 7, work := some 9 } }, 0, 0#64, by decide +kernel⟩⟩

theorem test_witness_Heartwood_6 :
    (∃ (s : State) (m : Nat) (p : Nat) (v : Word),
    judge s m hwdPage R.HWD_LOCK 8 (v ||| 0x40000) = .ok ∧ fieldOf v 0 16 = p ∧ p ∈ headerPages ∧ ((kindOne s m = true ∨ (isActiveSteward s m = true ∧ (bitOf (reg s p R.WRITE_LOCK) 0 = true → bitOf v 16 = true) ∧ (bitOf (reg s p R.WRITE_LOCK) 1 = true → bitOf v 17 = true))))) ∧
    (∃ (s : State) (m : Nat) (p : Nat) (v : Word),
    judge s m hwdPage R.HWD_LOCK 8 (v ||| 0x40000) = .ok ∧ fieldOf v 0 16 = p ∧ p ∈ headerPages ∧ ((kindOne s m = true ∨ (isActiveSteward s m = true ∧ (bitOf (reg s p R.WRITE_LOCK) 0 = true → bitOf v 16 = true) ∧ (bitOf (reg s p R.WRITE_LOCK) 1 = true → bitOf v 17 = true))))) ∧
    (∃ (s : State) (m : Nat) (v : Word),
    judge s m hwdPage R.HWD_LOCK 8 (v ||| 0x40000) = .ok ∧ kindOne s m = false ∧ ((isActiveSteward s m = false ∨ (bitOf (reg s (fieldOf v 0 16) R.WRITE_LOCK) 0 = true ∧ bitOf v 16 = false) ∨ (bitOf (reg s (fieldOf v 0 16) R.WRITE_LOCK) 1 = true ∧ bitOf v 17 = false)))) ∧
    (∃ (s : State) (m : Nat) (v : Word),
    judge s m hwdPage R.HWD_LOCK 8 (v ||| 0x40000) = .ok ∧ kindOne s m = false ∧ ((isActiveSteward s m = false ∨ (bitOf (reg s (fieldOf v 0 16) R.WRITE_LOCK) 0 = true ∧ bitOf v 16 = false) ∨ (bitOf (reg s (fieldOf v 0 16) R.WRITE_LOCK) 1 = true ∧ bitOf v 17 = false)))) :=
  ⟨⟨wHwd, 1, 0x3A4, BitVec.ofNat 64 (0x3A4 + 3 * 65536), by decide +kernel⟩,
   ⟨wCmd1 [] (setReg 0x3A4 R.WRITE_LOCK 3 wHwd), 3, 0x3A4, BitVec.ofNat 64 (0x3A4 + 2 * 65536), by decide +kernel⟩,
   ⟨setReg 0x3A4 R.WRITE_LOCK 3 wHwd, 1, BitVec.ofNat 64 (0x3A4 + 2 * 65536), by decide +kernel⟩,
   ⟨wHwd, 0, BitVec.ofNat 64 (0x3A4 + 2 * 65536), by decide +kernel⟩⟩

theorem test_witness_LedgerCheckpoints_1 :
    (∃ (s : State) (ring : Nat) (r : Ring),
    ldgOpen s = false ∧ ldgEpoch s ≠ 0 ∧ bestCheckpoint s = none ∧ fld s ldgPage F.LDG_RINGS_CKPT_RING = ring ∧ ringOf s ring = r ∧ r.valid = true ∧ 79 ≤ r.size / 128 ∧ r.reserve - r.taken + 79 ≤ r.units ∧ pageLive s rngPage = true ∧ unarmed s rngPage ∧ s.ldg.waiting = [] ∧ s.pwr.used = none ∧ hbmInside r.base r.size = true ∧ ((∀ d, d < 4 → stackRefuses s d = false)) ∧ s.hbm.fences = []) ∧
    (∃ (s : State),
    ldgOpen s = false ∧ (ringOf s (fld s ldgPage F.LDG_RINGS_CKPT_RING)).valid = false) ∧
    (∃ (s : State) (m : Nat) (v : Word),
    judge s m ldgPage R.LDG_CTRL 8 (v ||| 1) = .ok ∧ ldgOpen s = false) ∧
    (∃ (s : State) (m : Nat) (v : Word),
    judge s m ldgPage R.LDG_CTRL 8 (v ||| 1) = .ok ∧ ldgOpen s = true ∧ s.ldg.noIdentity = false ∧ s.ldg.pendingCkpt = none ∧ s.ldg.held = [] ∧ ((∀ t0, s.ldg.lastStart = some t0 → t0 + 1000 * msUnits ≤ s.mono))) :=
  ⟨⟨wLedger 0, 0, { w0 := 1 + 15 * 2, w1 := 3145728, w2 := BitVec.ofNat 64 (40 + 2 ^ 33) }, by decide +kernel⟩,
   ⟨setFld ldgPage F.LDG_RINGS_CKPT_RING 5 (wLedger 0), by decide +kernel⟩,
   ⟨wLedger 0, 0, 0#64, by decide +kernel⟩,
   ⟨{ wLedger 1 with ldg := { lastStart := some 0 } }, 0, 0#64, by decide +kernel⟩⟩

theorem test_witness_LedgerCheckpoints_2 :
    (∃ (s : State) (m : Nat) (v : Word),
    judge s m ldgPage R.LDG_CTRL 8 (v ||| 1) = .ok ∧ ldgOpen s = true ∧ s.ldg.noIdentity = false ∧ ((s.ldg.pendingCkpt ≠ none ∨ ∃ t0 ∈ s.ldg.lastStart, s.mono < t0 + 1000 * msUnits))) ∧
    (∃ (s : State) (m : Nat) (v : Word),
    judge s m ldgPage R.LDG_CTRL 8 (v ||| 1) = .ok ∧ ldgOpen s = true ∧ s.ldg.noIdentity = false ∧ ((s.ldg.pendingCkpt ≠ none ∨ ∃ t0 ∈ s.ldg.lastStart, s.mono < t0 + 1000 * msUnits))) ∧
    (∃ (s : State),
    ldgOpen s = false) ∧
    (∃ (s : State) (s1 : State),
    s1 = advanceMono (s.ldg.lastTrigger + fld s ldgPage F.LDG_CFG_CKPT_MS * msUnits) s ∧ ldgOpen s = true ∧ s.ldg.noIdentity = false ∧ s.ldg.held = [] ∧ ckptMayStart s1 = true) :=
  ⟨⟨{ wLedger 1 with ldg := { pendingCkpt := some ⟨1, [], true, 0⟩ } }, 0, 0#64, by decide +kernel⟩,
   ⟨{ wLedger 1 with ldg := { lastStart := some (4900 * msUnits), held := [⟨2, 7⟩] } }, 0, 0#64, by decide +kernel⟩,
   ⟨wLedger 0, by decide +kernel⟩,
   ⟨wLedger 1, _, rfl, by decide +kernel⟩⟩

theorem test_witness_LedgerCheckpoints_3 :
    (∃ (s : State) (p : LdgPending),
    s.ldg.pendingCkpt = some p ∧ p.persisted = false ∧ unarmed s ldgPage) ∧
    (∃ (s : State) (p : LdgPending),
    s.ldg.pendingCkpt = some p ∧ p.persisted = false) ∧
    (∃ (s : State) (k : Nat),
    s.ldg.pendingCkpt = none ∧ s.ldg.held ≠ [] ∧ unarmed s ldgPage ∧ k < 256 ∧ k = (if s.ldg.held.any (fun h => decide (h.reason = 3)) then 3 else ((s.ldg.held.head?).map (·.reason)).getD 0)) ∧
    (∃ (s : State) (k : Nat),
    s.ldg.pendingCkpt = none ∧ s.ldg.held ≠ [] ∧ unarmed s ldgPage ∧ k < 256 ∧ k = (if s.ldg.held.any (fun h => decide (h.reason = 3)) then 3 else ((s.ldg.held.head?).map (·.reason)).getD 0)) :=
  ⟨⟨{ wLedger 1 with ldg := { pendingCkpt := some ⟨6, [1, 2], false, 0⟩, gen := 3 } }, ⟨6, [1, 2], false, 0⟩, by decide +kernel⟩,
   ⟨{ wLedger 1 with ldg := { pendingCkpt := some ⟨6, [1, 2], false, 0⟩, gen := 3 } }, ⟨6, [1, 2], false, 0⟩, by decide +kernel⟩,
   ⟨{ wLedger 1 with ldg := { held := [⟨4, 7⟩, ⟨3, 9⟩] } }, 3, by decide +kernel⟩,
   ⟨{ wLedger 1 with ldg := { held := [⟨2, 7⟩, ⟨4, 9⟩] } }, 2, by decide +kernel⟩⟩

theorem test_witness_LedgerCheckpoints_4 :
    (∃ (s : State) (ok : Bool),
    s.ldg.pendingCkpt = none ∧ s.ldg.held = []) ∧
    (∃ (s : State) (p : LdgPending) (e : Emit × State),
    e = emitRecord (fld s ldgPage F.LDG_RINGS_CKPT_RING) 8 5 4 p.payload s ∧ s.ldg.pendingCkpt = some p ∧ p.persisted = true) ∧
    (∃ (s : State),
    ((∀ p ∈ s.ldg.pendingCkpt, p.persisted = false))) ∧
    (∃ (s : State),
    ((∀ p ∈ s.ldg.pendingCkpt, p.persisted = false))) :=
  ⟨⟨wLedger 1, true, by decide +kernel⟩,
   ⟨{ wLedger 1 with ldg := { pendingCkpt := some ⟨6, [1, 2], true, 0⟩ } }, ⟨6, [1, 2], true, 0⟩, _, rfl, by decide +kernel⟩,
   ⟨wLedger 1, by decide +kernel⟩,
   ⟨{ wLedger 1 with ldg := { pendingCkpt := some ⟨6, [1, 2], false, 0⟩ } }, by decide +kernel⟩⟩

theorem test_witness_LedgerCheckpoints_5 : ∃ (s : State) (p : LdgPending),
    s.ldg.pendingCkpt = some p :=
  ⟨{ wLedger 1 with ldg := { pendingCkpt := some ⟨6, [1, 2], true, 4900 * msUnits⟩ } }, ⟨6, [1, 2], true, 4900 * msUnits⟩, by decide +kernel⟩

theorem test_witness_PowerResetAndStart_1 :
    (∃ (s : State) (m : Nat) (v : Word) (env : PowerEnv) (c1 : Bool) (c2 : Bool) (c3 : Bool) (c4 : Bool),
    c1 = (armedRef s && !isActiveSteward s m && !kindOne s m) ∧ c2 = ([0, 1, 4, 17, 20].any (fun d => domainOn s d && !bitOf v d) || (armedRef s && domainOn s 3 && !bitOf v 3)) ∧ c3 = (List.range 4).any (fun d => ((domainOn s (5 + d) && !bitOf v (5 + d)) || (domainOn s (9 + d) && !bitOf v (9 + d))) && dieInUse s d) ∧ c4 = ((List.range 4).any (fun d => (bitOf v (5 + d) && !bitOf v (9 + d)) || (bitOf v (9 + d) && (!bitOf v 2 || !bitOf v (18 + d / 2))))) ∧ judge s m pwrPage R.PWR_DOMAIN_REQ 8 v = .ok ∧ (c1 || c2 || c3 || c4) = true) ∧
    (∃ (s : State) (m : Nat) (v : Word) (env : PowerEnv) (c1 : Bool) (c2 : Bool) (c3 : Bool) (c4 : Bool),
    c1 = (armedRef s && !isActiveSteward s m && !kindOne s m) ∧ c2 = ([0, 1, 4, 17, 20].any (fun d => domainOn s d && !bitOf v d) || (armedRef s && domainOn s 3 && !bitOf v 3)) ∧ c3 = (List.range 4).any (fun d => ((domainOn s (5 + d) && !bitOf v (5 + d)) || (domainOn s (9 + d) && !bitOf v (9 + d))) && dieInUse s d) ∧ c4 = ((List.range 4).any (fun d => (bitOf v (5 + d) && !bitOf v (9 + d)) || (bitOf v (9 + d) && (!bitOf v 2 || !bitOf v (18 + d / 2))))) ∧ judge s m pwrPage R.PWR_DOMAIN_REQ 8 v = .ok ∧ (c1 || c2 || c3 || c4) = true) ∧
    (∃ (s : State) (m : Nat) (v : Word) (env : PowerEnv) (c1 : Bool) (c2 : Bool) (c3 : Bool) (c4 : Bool),
    c1 = (armedRef s && !isActiveSteward s m && !kindOne s m) ∧ c2 = ([0, 1, 4, 17, 20].any (fun d => domainOn s d && !bitOf v d) || (armedRef s && domainOn s 3 && !bitOf v 3)) ∧ c3 = (List.range 4).any (fun d => ((domainOn s (5 + d) && !bitOf v (5 + d)) || (domainOn s (9 + d) && !bitOf v (9 + d))) && dieInUse s d) ∧ c4 = ((List.range 4).any (fun d => (bitOf v (5 + d) && !bitOf v (9 + d)) || (bitOf v (9 + d) && (!bitOf v 2 || !bitOf v (18 + d / 2))))) ∧ judge s m pwrPage R.PWR_DOMAIN_REQ 8 v = .ok ∧ (c1 || c2 || c3 || c4) = true) ∧
    (∃ (s : State) (m : Nat) (v : Word) (env : PowerEnv) (c1 : Bool) (c2 : Bool) (c3 : Bool) (c4 : Bool),
    c1 = (armedRef s && !isActiveSteward s m && !kindOne s m) ∧ c2 = ([0, 1, 4, 17, 20].any (fun d => domainOn s d && !bitOf v d) || (armedRef s && domainOn s 3 && !bitOf v 3)) ∧ c3 = (List.range 4).any (fun d => ((domainOn s (5 + d) && !bitOf v (5 + d)) || (domainOn s (9 + d) && !bitOf v (9 + d))) && dieInUse s d) ∧ c4 = ((List.range 4).any (fun d => (bitOf v (5 + d) && !bitOf v (9 + d)) || (bitOf v (9 + d) && (!bitOf v 2 || !bitOf v (18 + d / 2))))) ∧ judge s m pwrPage R.PWR_DOMAIN_REQ 8 v = .ok ∧ (c1 || c2 || c3 || c4) = true) :=
  ⟨⟨wRef 0 2 60 60, 0, 0xFFFFFF#64, ⟨[], [], []⟩, _, _, _, _, rfl, rfl, rfl, rfl, by decide +kernel⟩,
   ⟨w0, 0, 0xFFFFFD#64, ⟨[], [], []⟩, _, _, _, _, rfl, rfl, rfl, rfl, by decide +kernel⟩,
   ⟨{ w0 with tly := { dies := [(2, { ctxs := [(0, { words := [1] })] })] } }, 0, 0xFFFF7F#64, ⟨[], [], []⟩, _, _, _, _, rfl, rfl, rfl, rfl, by decide +kernel⟩,
   ⟨w0, 0, 0xFBFFFF#64, ⟨[], [], []⟩, _, _, _, _, rfl, rfl, rfl, rfl, by decide +kernel⟩⟩

theorem test_witness_PowerResetAndStart_2 :
    (∃ (s : State) (m : Nat) (v : Word) (env : PowerEnv),
    judge s m pwrPage R.PWR_DOMAIN_REQ 8 v = .ok ∧ unarmed s pwrPage ∧ ((armedRef s = false ∨ ((isActiveSteward s m = true ∨ kindOne s m = true) ∧ (domainOn s 3 = true → bitOf v 3 = true)))) ∧ ((∀ d, d ∈ [0, 1, 4, 17, 20] → domainOn s d = true → bitOf v d = true)) ∧ ((∀ d, d < 4 → dieInUse s d = true → (domainOn s (5 + d) = true → bitOf v (5 + d) = true) ∧ (domainOn s (9 + d) = true → bitOf v (9 + d) = true))) ∧ ((∀ d, d < 24 → bitOf v d = true → ∀ n, n ∈ domainNeeds d → bitOf v n = true))) ∧
    (∃ (s : State) (m : Nat) (v : Word) (env : PowerEnv),
    judge s m pwrPage R.PWR_DOMAIN_REQ 8 v = .ok ∧ unarmed s pwrPage ∧ ((armedRef s = false ∨ ((isActiveSteward s m = true ∨ kindOne s m = true) ∧ (domainOn s 3 = true → bitOf v 3 = true)))) ∧ ((∀ d, d ∈ [0, 1, 4, 17, 20] → domainOn s d = true → bitOf v d = true)) ∧ ((∀ d, d < 4 → dieInUse s d = true → (domainOn s (5 + d) = true → bitOf v (5 + d) = true) ∧ (domainOn s (9 + d) = true → bitOf v (9 + d) = true))) ∧ ((∀ d, d < 24 → bitOf v d = true → ∀ n, n ∈ domainNeeds d → bitOf v n = true))) ∧
    (∃ (s : State) (m : Nat) (v : Word) (env : PowerEnv),
    judge s m pwrPage R.PWR_DOMAIN_REQ 8 v = .ok ∧ unarmed s pwrPage ∧ ((armedRef s = false ∨ ((isActiveSteward s m = true ∨ kindOne s m = true) ∧ (domainOn s 3 = true → bitOf v 3 = true)))) ∧ ((∀ d, d ∈ [0, 1, 4, 17, 20] → domainOn s d = true → bitOf v d = true)) ∧ ((∀ d, d < 4 → dieInUse s d = true → (domainOn s (5 + d) = true → bitOf v (5 + d) = true) ∧ (domainOn s (9 + d) = true → bitOf v (9 + d) = true))) ∧ ((∀ d, d < 24 → bitOf v d = true → ∀ n, n ∈ domainNeeds d → bitOf v n = true))) ∧
    (∃ (s : State) (rails : List (Nat × Int × Nat)) (watts : Nat),
    unarmed s pwrPage) :=
  ⟨⟨setFld (fldPage 3) F.CLAIM_LATCHED 9 w0, 0, 0x12001F#64, ⟨[], [], []⟩, by decide +kernel⟩,
   ⟨setReg pwrPage R.PWR_DOMAIN_STATUS 0x12001F w0, 0, 0xFFFFFF#64, ⟨[1], [0], [2]⟩, by decide +kernel⟩,
   ⟨wRef 0 2 60 60, 1, 0xFFFFFF#64, ⟨[], [], []⟩, by decide +kernel⟩,
   ⟨w0, [(4, 800, 12), (5, 871, 3), (14, -15750, 2)], 540, by decide +kernel⟩⟩

theorem test_witness_PowerResetAndStart_3 :
    (∃ (s : State) (rails : List (Nat × Int × Nat)) (watts : Nat),
    unarmed s pwrPage) ∧
    (∃ (s : State) (rails : List (Nat × Int × Nat)) (watts : Nat),
    unarmed s pwrPage) ∧
    (∃ (s : State) (die : Nat) (tj : Int),
    die < 6 ∧ unarmed s pwrPage) ∧
    (∃ (s : State) (die : Nat) (tj : Int),
    die < 6 ∧ unarmed s pwrPage) :=
  ⟨⟨w0, [(8, 1891, 12), (20, 0, 0)], 541, by decide +kernel⟩,
   ⟨setFld pwrPage (F.PWR_RAIL_TARGET_MV.at 1) 720 w0, [(1, 739, 12), (0, 0, 0)], 540, by decide +kernel⟩,
   ⟨w0, 5, 106, by decide +kernel⟩,
   ⟨{ w0 with pwr := { hot := 4 } }, 2, 120, by decide +kernel⟩⟩

theorem test_witness_PowerResetAndStart_4 :
    (∃ (s : State) (die : Nat) (tj : Int),
    die < 6 ∧ unarmed s pwrPage) ∧
    (∃ (s : State) (die : Nat) (tj : Int) (dead : List Nat),
    die < 6 ∧ 105 + (fld s pwrPage F.PWR_CFG_TRIP_MARGIN : Nat) < tj) ∧
    (∃ (s : State) (die : Nat) (tj : Int) (dead : List Nat),
    die < 6 ∧ unarmed s pwrPage ∧ tj ≤ 95 + (fld s pwrPage F.PWR_CFG_TRIP_MARGIN : Nat)) ∧
    (∃ (s : State) (faults : List Nat) (dead : List Nat),
    unarmed s pwrPage) :=
  ⟨⟨{ w0 with pwr := { hot := 4 } }, 2, -20, by decide +kernel⟩,
   ⟨w0, 5, 116, [2], by decide +kernel⟩,
   ⟨w0, 0, 105, [], by decide +kernel⟩,
   ⟨w0, [14, 3], [3], by decide +kernel⟩⟩

theorem test_witness_PowerResetAndStart_5 :
    (∃ (s : State) (faults : List Nat) (dead : List Nat),
    unarmed s pwrPage) ∧
    (∃ (s : State) (m : Nat) (v : Word),
    judge s m pwrPage R.PWR_CTRL 8 (v ||| 1) = .ok ∧ ((armedRef s = false ∨ isActiveSteward s m = true ∨ kindOne s m = true))) ∧
    (∃ (s : State) (m : Nat) (v : Word),
    judge s m pwrPage R.PWR_CTRL 8 (v ||| 1) = .ok ∧ ((armedRef s = false ∨ isActiveSteward s m = true ∨ kindOne s m = true))) ∧
    (∃ (s : State) (m : Nat) (v : Word),
    judge s m pwrPage R.PWR_CTRL 8 (v ||| 1) = .ok ∧ armedRef s = true ∧ isActiveSteward s m = false ∧ kindOne s m = false) :=
  ⟨⟨w0, [15, 3], [15, 3], by decide +kernel⟩,
   ⟨wHwd, 1, 0#64, by decide +kernel⟩,
   ⟨w0, 0, 1#64, by decide +kernel⟩,
   ⟨wHwd, 0, 0#64, by decide +kernel⟩⟩

theorem test_witness_PowerResetAndStart_6 :
    (∃ (s : State) (env : StartEnv),
    fld s pwrPage F.PWR_DOMAIN_STATUS_ON = 1 ∧ deviceReady s = false ∧ fld s cltPage F.CLT_STATUS_PHASE = 0 ∧ ((∃ k ∈ env.rails, 4 ≤ k ∧ k ≤ 11))) ∧
    (∃ (s : State) (env : StartEnv),
    (fld s pwrPage F.PWR_DOMAIN_STATUS_ON ≠ 1 ∨ deviceReady s = true ∨ fld s cltPage F.CLT_STATUS_PHASE ≠ 0)) ∧
    (∃ (s : State) (env : StartEnv),
    fld s pwrPage F.PWR_DOMAIN_STATUS_ON = 1 ∧ deviceReady s = false ∧ fld s cltPage F.CLT_STATUS_PHASE = 0 ∧ ((∀ k ∈ env.rails, k < 4 ∨ 11 < k))) ∧
    (∃ (s : State) (env : StartEnv),
    fld s pwrPage F.PWR_DOMAIN_STATUS_ON = 1 ∧ deviceReady s = false ∧ fld s cltPage F.CLT_STATUS_PHASE = 0 ∧ ((∀ k ∈ env.rails, k < 4 ∨ 11 < k))) :=
  ⟨⟨State.reset, ⟨true, [], [], [11], ⟨[], [], []⟩, [], false, 5⟩, by decide +kernel⟩,
   ⟨w0, ⟨true, [], [], [], ⟨[], [], []⟩, [], false, 5⟩, by decide +kernel⟩,
   ⟨State.reset, ⟨true, [], [], [], ⟨[], [], []⟩, [], false, 5⟩, by decide +kernel⟩,
   ⟨State.reset, ⟨false, [0, 1], [], [], ⟨[], [], []⟩, [], false, 5⟩, by decide +kernel⟩⟩

theorem test_witness_PowerResetAndStart_7 :
    (∃ (s : State) (env : StartEnv),
    fld s pwrPage F.PWR_DOMAIN_STATUS_ON = 1 ∧ deviceReady s = false ∧ fld s cltPage F.CLT_STATUS_PHASE = 0 ∧ ((∀ k ∈ env.rails, k < 4 ∨ 11 < k))) ∧
    (∃ (s : State) (m : Nat) (v : Word),
    judge s m cltPage R.CLT_CTRL 8 (v ||| 1) = .ok ∧ flag s cltPage F.PAGE_CTRL_ENABLE = true ∧ ((armedRef s = false ∨ isActiveSteward s m = true ∨ kindOne s m = true)) ∧ fld s cltPage F.CLT_STATUS_PHASE = 0) ∧
    (∃ (s : State) (m : Nat) (v : Word),
    judge s m cltPage R.CLT_CTRL 8 (v ||| 1) = .ok ∧ flag s cltPage F.PAGE_CTRL_ENABLE = true ∧ ((armedRef s = false ∨ isActiveSteward s m = true ∨ kindOne s m = true)) ∧ fld s cltPage F.CLT_STATUS_PHASE = 0) ∧
    (∃ (s : State) (m : Nat) (v : Word),
    judge s m cltPage R.CLT_CTRL 8 (v ||| 1) = .ok ∧ flag s cltPage F.PAGE_CTRL_ENABLE = true ∧ ((armedRef s = false ∨ isActiveSteward s m = true ∨ kindOne s m = true)) ∧ fld s cltPage F.CLT_STATUS_PHASE = 0) :=
  ⟨⟨State.reset, ⟨true, [], [], [], ⟨[], [], [2]⟩, [(1, 9), (4, 0), (3, 31)], true, 5⟩, by decide +kernel⟩,
   ⟨w0, 0, 0#64, by decide +kernel⟩,
   ⟨{ w0 with sch := { plans := [(17, ⟨[], [], [], false⟩)], dies := [(1, { cur := some ⟨1, 0, [], none, 0, []⟩ })] } }, 0, 0#64, by decide +kernel⟩,
   ⟨{ w0 with sch := { plans := [(17, ⟨[], [], [], false⟩)] } }, 0, 0#64, by decide +kernel⟩⟩

theorem test_witness_PowerResetAndStart_8 :
    (∃ (s : State) (m : Nat) (v : Word),
    judge s m cltPage R.CLT_CTRL 8 (v ||| 1) = .ok ∧ ((flag s cltPage F.PAGE_CTRL_ENABLE = false ∨ (armedRef s = true ∧ isActiveSteward s m = false ∧ kindOne s m = false)))) ∧
    (∃ (s : State) (m : Nat) (v : Word),
    judge s m cltPage R.CLT_CTRL 8 (v ||| 1) = .ok ∧ ((flag s cltPage F.PAGE_CTRL_ENABLE = false ∨ (armedRef s = true ∧ isActiveSteward s m = false ∧ kindOne s m = false)))) ∧
    (∃ (s : State) (m : Nat) (v : Word),
    judge s m cltPage R.CLT_CTRL 8 (v ||| 1) = .ok ∧ flag s cltPage F.PAGE_CTRL_ENABLE = true ∧ ((armedRef s = false ∨ isActiveSteward s m = true ∨ kindOne s m = true)) ∧ fld s cltPage F.CLT_STATUS_PHASE ≠ 0) ∧
    (∃ (s : State) (env : CloseEnv),
    fld s cltPage F.CLT_STATUS_PHASE ≠ 1) :=
  ⟨⟨wOn cltPage wHwd, 0, 0#64, by decide +kernel⟩,
   ⟨setFld cltPage F.PAGE_CTRL_ENABLE 0 w0, 0, 0#64, by decide +kernel⟩,
   ⟨setFld cltPage F.CLT_STATUS_PHASE 1 w0, 0, 0#64, by decide +kernel⟩,
   ⟨w0, ⟨true, true, [], true, [], false, 5, []⟩, by decide +kernel⟩⟩

theorem test_witness_PowerResetAndStart_9 :
    (∃ (s : State) (env : CloseEnv),
    fld s cltPage F.CLT_STATUS_PHASE = 1) ∧
    (∃ (s : State) (env : CloseEnv),
    fld s cltPage F.CLT_STATUS_PHASE = 1) ∧
    (∃ (s : State) (env : CloseEnv),
    fld s cltPage F.CLT_STATUS_PHASE = 1) :=
  ⟨⟨setFld truPage F.TRU_STATUS_STATE 2 (setFld cltPage F.CLT_STATUS_PHASE 1 { w0 with pwr := { shutOn := 0xFFFFFF } }), ⟨true, true, [], true, [], false, 5, []⟩, by decide +kernel⟩,
   ⟨setFld truPage F.TRU_STATUS_STATE 2 (setFld cltPage F.CLT_STATUS_PHASE 1 { w0 with pwr := { shutOn := 0xFFFFFF } }), ⟨true, true, [], true, [(2, 5)], false, 5, [1]⟩, by decide +kernel⟩,
   ⟨setFld cltPage F.CLT_STATUS_PHASE 1 w0, ⟨false, true, [11], false, [], false, 5, []⟩, by decide +kernel⟩⟩

end Sys2Proof.Machine.Tests
end

section
/-! PROOFS. The signal path: what the shared operations leave alone, the drain token of a correlation stroke, operands that
reach the turn buffer, deadlines and stage loads, and a lane that loses lock with a step of rate due. -/

namespace Sys2Proof.Machine

/-! ## Stores -/

theorem sparseErase_erase {α : Type} (l : List (Nat × α)) (a : Nat) : sparseErase (sparseErase l a) a = sparseErase l a := by
  simp [sparseErase, List.filter_filter]

theorem sparseErase_insert {α : Type} (l : List (Nat × α)) (a : Nat) (v : α) :
    sparseErase (sparseInsert l a v) a = sparseErase l a := by
  induction l with
  | nil => simp [sparseInsert, sparseErase]
  | cons e l ih =>
    by_cases hlt : a < e.1
    · simp [sparseInsert, hlt, sparseErase_cons]
    · simp [sparseInsert, hlt, sparseErase_cons, ih]

/-- Of two writes at one key the later one counts. -/
theorem sparseSet_set {α : Type} [DecidableEq α] (d : Nat → α) (l : List (Nat × α)) (a : Nat) (v w : α) :
    sparseSet d (sparseSet d l a v) a w = sparseSet d l a w := by
  have h : sparseErase (sparseSet d l a v) a = sparseErase l a := by
    unfold sparseSet
    split
    · exact sparseErase_erase l a
    · rw [sparseErase_insert, sparseErase_erase]
  unfold sparseSet at h ⊢
  rw [h]

/-! ## Records: a record reads as it was last written -/

@[simp] theorem lathe_setLathe (n : Nat) (x : Lathe) (s : State) : lathe (setLathe n x s) n = x := by
  simp [lathe, setLathe, alGet, alSet]
@[simp] theorem schDie_setSchDie (d : Nat) (x : SchDie) (s : State) : schDie (setSchDie d x s) d = x := by
  simp [schDie, setSchDie, alGet, alSet]
@[simp] theorem tlyDie_setTlyDie (d : Nat) (x : TlyDie) (s : State) : tlyDie (setTlyDie d x s) d = x := by
  simp [tlyDie, setTlyDie, alGet, alSet]
@[simp] theorem sprLane_setSprLane (n : Nat) (x : LaneTrain) (s : State) : sprLane (setSprLane n x s) n = x := by
  simp [sprLane, setSprLane, alGet, alSet]

@[simp] theorem setLathe_setLathe (n : Nat) (x y : Lathe) (s : State) : setLathe n y (setLathe n x s) = setLathe n y s := by
  simp [setLathe, alSet, sparseSet_set]

/-! ## Parts: equal parts read alike, and what a write of one record leaves -/

theorem lathe_congr {s t : State} (h : t.sch.lathes = s.sch.lathes) (n : Nat) : lathe t n = lathe s n := by simp [lathe, h]
theorem schDie_congr {s t : State} (h : t.sch.dies = s.sch.dies) (d : Nat) : schDie t d = schDie s d := by simp [schDie, h]
theorem tlyDie_congr {s t : State} (h : t.tly = s.tly) (d : Nat) : tlyDie t d = tlyDie s d := by simp [tlyDie, h]
theorem reg_congr {s t : State} (h : t.regs = s.regs) (p off : Nat) : reg t p off = reg s p off := by simp [reg, h]

theorem keeps_setLathe (n : Nat) (x : Lathe) (s : State) : keeps [.sch] s (setLathe n x s) := by
  intro y hy; cases y <;> simp_all [same, setLathe]
theorem keeps_setSchDie (d : Nat) (x : SchDie) (s : State) : keeps [.sch] s (setSchDie d x s) := by
  intro y hy; cases y <;> simp_all [same, setSchDie]
theorem keeps_setTlyDie (d : Nat) (x : TlyDie) (s : State) : keeps [.tly] s (setTlyDie d x s) := by
  intro y hy; cases y <;> simp_all [same, setTlyDie]
theorem keeps_setTbSlot (d r b : Nat) (x : TbSlot) (s : State) : keeps [.fpl] s (setTbSlot d r b x s) := by
  intro y hy; cases y <;> simp_all [same, setTbSlot]
theorem keeps_tallySend (d : Nat) (x : TlyItem) (s : State) : keeps [.tly] s (tallySend d x s) := keeps_setTlyDie _ _ _
theorem keeps_countK (p base k n : Nat) (s : State) : keeps [.regs] s (countK p base k n s) := keeps_setReg _ _ _ _

theorem sameRegs_setLathe (l : List Nat) (n : Nat) (x : Lathe) (s : State) : sameRegs l s (setLathe n x s) := fun _ _ _ _ _ => rfl
theorem sameRegs_tallySend (l : List Nat) (d : Nat) (x : TlyItem) (s : State) : sameRegs l s (tallySend d x s) := fun _ _ _ _ _ => rfl

theorem sameRegs_countK {p base k : Nat} (n : Nat) (s : State) (h : base + 8 * k < 0x1000) :
    sameRegs [p] s (countK p base k n s) := sameRegs_setReg _ _ h

@[simp] theorem lathe_countK (m p base k c : Nat) (s : State) : lathe (countK p base k c s) m = lathe s m := rfl
@[simp] theorem lathe_tallySend (m d : Nat) (x : TlyItem) (s : State) : lathe (tallySend d x s) m = lathe s m := rfl
@[simp] theorem schDie_countK (e p base k c : Nat) (s : State) : schDie (countK p base k c s) e = schDie s e := rfl
@[simp] theorem schDie_setLathe (e n : Nat) (x : Lathe) (s : State) : schDie (setLathe n x s) e = schDie s e := rfl
@[simp] theorem schDie_tallySend (e d : Nat) (x : TlyItem) (s : State) : schDie (tallySend d x s) e = schDie s e := rfl
@[simp] theorem tlyDie_countK (e p base k c : Nat) (s : State) : tlyDie (countK p base k c s) e = tlyDie s e := rfl
@[simp] theorem tlyDie_setLathe (e n : Nat) (x : Lathe) (s : State) : tlyDie (setLathe n x s) e = tlyDie s e := rfl
@[simp] theorem setLathe_plans (n : Nat) (x : Lathe) (s : State) : (setLathe n x s).sch.plans = s.sch.plans := rfl
@[simp] theorem reg_setSchDie (p off d : Nat) (x : SchDie) (s : State) : reg (setSchDie d x s) p off = reg s p off := rfl
@[simp] theorem reg_setLathe (p off n : Nat) (x : Lathe) (s : State) : reg (setLathe n x s) p off = reg s p off := rfl
@[simp] theorem reg_tallySend (p off d : Nat) (x : TlyItem) (s : State) : reg (tallySend d x s) p off = reg s p off := rfl

/-- A write of a register leaves the other registers of its page. -/
theorem reg_setReg_off {p off off' : Nat} (w : Word) (s : State) (ho : off < 0x1000) (ho' : off' < 0x1000) (h : off' ≠ off) :
    reg (setReg p off w s) p off' = reg s p off' := reg_setReg_ne w s (regAddr_ne ho' ho (.inr h))

/-- A counter leaves the other registers of its page. -/
theorem reg_countK_off {p base k off : Nat} (n : Nat) (s : State) (ho : off < 0x1000) (hb : base + 8 * k < 0x1000)
    (h : off ≠ base + 8 * k) : reg (countK p base k n s) p off = reg s p off := reg_setReg_off _ s hb ho h

/-- What a counter counts from is what its register read before. -/
theorem counted_of_eq {p base k n : Nat} {s t u : State} (h : counted t u p base k n)
    (e : reg t p (base + 8 * k) = reg s p (base + 8 * k)) :
    counted s u p base k n := by unfold counted at *; rw [h, e]

/-- A counter that nothing changes afterwards has counted. -/
theorem counted_congr {p base k n : Nat} {s t u : State} (h : counted s t p base k n)
    (e : reg u p (base + 8 * k) = reg t p (base + 8 * k)) :
    counted s u p base k n := e.trans h

@[simp] theorem setSticky_fpl (p b : Nat) (s : State) : (setSticky p b s).fpl = s.fpl := keeps_setSticky p b s .fpl (by decide)

/-! ## The stroke in front leaves its lathe (R207) -/

theorem loadStroke_stored {d : Nat} {k : Stroke} (h : (k.gouge.map (fun g => g.weights.isSome)).getD true = true) (s : State) :
    loadStroke d k s = (k, s) := by
  unfold loadStroke
  cases hg : k.gouge with
  | none => rfl
  | some g =>
    have hw : g.weights.isSome = true := by simpa [hg] using h
    simp [hw]

/-- Nothing is loaded for strokes that hold their weights. -/
theorem loadStrokes_stored {d : Nat} {p : Stroke → Bool} {q : List Stroke} (h : weightsStored q = true) (m : Nat) (s : State) :
    loadStrokes d p m q s = (q, s) := by
  induction q generalizing m with
  | nil => rfl
  | cons k q ih =>
    obtain ⟨hk, hq⟩ : (k.gouge.map (fun g => g.weights.isSome)).getD true = true ∧ weightsStored q = true := by
      simpa [weightsStored] using h
    simp [loadStrokes, loadStroke_stored hk, ih hq]

/-- Where the strokes behind hold their weights, the one in front leaves and nothing else happens. -/
theorem popStroke_stored {s : State} {n : Nat} {k : Stroke} {q : List Stroke} (hq : (lathe s n).queue = k :: q)
    (hw : weightsStored q = true) : popStroke n s = setLathe n { lathe s n with queue := q } s := by
  simp [popStroke, fillStores, hq, loadStrokes_stored hw]

/-! ## The drain token of a correlation stroke (R165 to R177) -/

/-- A correlation stroke `k` in front of a lathe, with its operands `h` at hand, that its token may end; behind it strokes `q`
that hold their weights, and no batch of the C-die waits to be finished. -/
structure TokenDue (s : State) (n : Nat) (k : Stroke) (q : List Stroke) (h : BlankHalf) : Prop where
  front : (lathe s n).queue = k :: q
  stored : weightsStored q = true
  corr : k.gouge = none
  data : strokeData s (n / 68) k = some h
  running : latheHalted s n = false
  inService : pageRetired s (lthPage n) = false
  unloaded : (schDie s (n / 68)).loaded = []

/-- A lathe whose token has come: the stroke has left it, and its cycles are counted. -/
def tokenTaken (n : Nat) (k : Stroke) (q : List Stroke) (h : BlankHalf) (held stretched : Nat) (s : State) : State :=
  countK (lthPage n) R.LTH_CNT 6 stretched (countK (lthPage n) R.LTH_CNT 5 held
    (countK (lthPage n) R.LTH_CNT 4 (strokeCycles k.fmt (k.held + h.count)) (setLathe n { lathe s n with queue := q } s)))

section Token
variable (s : State) (n : Nat) (k : Stroke) (q : List Stroke) (h : BlankHalf) (held stretched : Nat)

theorem tokenTaken_lathe : lathe (tokenTaken n k q h held stretched s) n = { lathe s n with queue := q } := by
  rw [tokenTaken, lathe_countK, lathe_countK, lathe_countK, lathe_setLathe]

theorem tokenTaken_schDie (d : Nat) : schDie (tokenTaken n k q h held stretched s) d = schDie s d := by simp [tokenTaken]

theorem tokenTaken_plans : (tokenTaken n k q h held stretched s).sch.plans = s.sch.plans := by simp [tokenTaken]

theorem tokenTaken_tlyDie (d : Nat) : tlyDie (tokenTaken n k q h held stretched s) d = tlyDie s d := by simp [tokenTaken]

theorem keeps_tokenTaken : keeps [.sch, .regs] s (tokenTaken n k q h held stretched s) := by
  have hc (k c : Nat) (s : State) : keeps [.sch, .regs] s (countK (lthPage n) R.LTH_CNT k c s) :=
    keeps_mono (by simp) (keeps_countK _ _ _ _ _)
  exact keeps_trans (keeps_trans (keeps_trans (keeps_mono (by simp) (keeps_setLathe _ _ _)) (hc 4 _ _)) (hc 5 _ _)) (hc 6 _ _)

theorem sameRegs_tokenTaken : sameRegs [lthPage n] s (tokenTaken n k q h held stretched s) := by
  exact sameRegs_trans (sameRegs_trans (sameRegs_trans (sameRegs_setLathe _ n _ s) (sameRegs_countK (k := 4) _ _ (by decide)))
    (sameRegs_countK (k := 5) _ _ (by decide))) (sameRegs_countK (k := 6) _ _ (by decide))

/-- Of the registers of its page a token touches the counters of cycles alone. -/
theorem tokenTaken_reg {off : Nat} (ho : off < 0x1000)
    (hn : off ≠ R.LTH_CNT + 8 * 4 ∧ off ≠ R.LTH_CNT + 8 * 5 ∧ off ≠ R.LTH_CNT + 8 * 6) :
    reg (tokenTaken n k q h held stretched s) (lthPage n) off = reg s (lthPage n) off := by
  obtain ⟨h4, h5, h6⟩ := hn
  unfold tokenTaken
  rw [reg_countK_off _ _ ho (by decide) h6, reg_countK_off _ _ ho (by decide) h5, reg_countK_off _ _ ho (by decide) h4, reg_setLathe]

theorem tokenTaken_counts : counted s (tokenTaken n k q h held stretched s) (lthPage n) R.LTH_CNT 5 held ∧
    counted s (tokenTaken n k q h held stretched s) (lthPage n) R.LTH_CNT 6 stretched := by
  refine ⟨counted_congr (counted_of_eq (counted_countK _ _ _ _ _) ?_) (reg_countK_off _ _ (by decide) (by decide) (by decide)),
    counted_of_eq (counted_countK _ _ _ _ _) ?_⟩ <;>
    simp (disch := decide) only [reg_countK_off, reg_setLathe]

end Token

/-- A C-die none of whose batches is fully loaded has none to finish. -/
theorem finishBatches_unloaded {d : Nat} {s : State} (h : (schDie s d).loaded = []) : finishBatches d s = s := by
  simp [finishBatches, h]

/-- What the token of a stroke brings: a miss where its operands were read with an error, else the check of its shadow set, with
the failure that is armed (R75, R173, R196). -/
theorem drainToken_eq {s : State} {n held stretched : Nat} {k : Stroke} {q : List Stroke} {h : BlankHalf} {fs : List CellFault}
    (t : TokenDue s n k q h) : drainToken n fs held stretched s = finishBatches (n / 68)
      (if worseBlock k.bad (dataBad h [k.row, k.col]) ≠ 0 then
        missStroke (n / 68) k (decide (worseBlock k.bad (dataBad h [k.row, k.col]) = 1))
          (countK (lthPage n) R.LTH_CNT 2 1 (tokenTaken n k q h held stretched s))
      else
        let i := takeArmed (lthPage n) S.LTH_WIT_FAIL (tokenTaken n k q h held stretched s)
        witnessCheck n k (faultSet fs (if i.1 then some (injCell (tokenTaken n k q h held stretched s) n) else none)
          (accumulate k.accOr (h.block k.row).rows (h.block k.col).rows)) i.2) := by
  unfold drainToken tokenTaken
  simp only [t.front, List.head?_cons, t.data, t.running, t.corr, t.inService, popStroke_stored t.front t.stored,
    Option.isSome_none, Bool.or_self, Bool.false_eq_true, if_false]

/-- The token of a stroke with an uncorrectable turn-buffer error: missed, without a replay (R196). -/
theorem drainToken_turnError {s : State} {n held stretched : Nat} {k : Stroke} {q : List Stroke} {h : BlankHalf} {fs : List CellFault}
    (t : TokenDue s n k q h) (hb : dataBad h [k.row, k.col] = 2) :
    drainToken n fs held stretched s = finishBatches (n / 68)
      (missStroke (n / 68) k false (countK (lthPage n) R.LTH_CNT 2 1 (tokenTaken n k q h held stretched s))) := by
  have h0 : worseBlock k.bad 2 ≠ 0 := by unfold worseBlock; omega
  have h1 : worseBlock k.bad 2 ≠ 1 := by unfold worseBlock; omega
  rw [drainToken_eq t, hb, if_pos h0, decide_eq_false h1]

/-- The token of a stroke with sound operands, where no failure is armed: its shadow set is checked as it is (R173). -/
theorem drainToken_sound {s : State} {n held stretched : Nat} {k : Stroke} {q : List Stroke} {h : BlankHalf} {fs : List CellFault}
    (t : TokenDue s n k q h) (hu : unarmed s (lthPage n)) (hk : k.bad = 0) (hb : dataBad h [k.row, k.col] = 0) :
    drainToken n fs held stretched s = finishBatches (n / 68)
      (witnessCheck n k (faultSet fs none (accumulate k.accOr (h.block k.row).rows (h.block k.col).rows))
        (tokenTaken n k q h held stretched s)) := by
  have ha : takeArmed (lthPage n) S.LTH_WIT_FAIL (tokenTaken n k q h held stretched s) =
      (false, tokenTaken n k q h held stretched s) := takeArmed_unarmed _ hu
  simp [drainToken_eq t, hk, hb, worseBlock, ha]

/-! ## Strokes that come to nothing (R19, R175 to R177) -/

/-- Whether a failed correlation stroke waits for a replay (R176, R196). -/
def awaitsReplay (s : State) (d : Nat) (k : Stroke) (again : Bool) : Bool :=
  again && ((planOf s d k.region).map Plan.replayMode).getD false && !k.replay && slotHolds s d k.region k.batch

theorem awaitsReplay_congr {s t : State} (hp : t.sch.plans = s.sch.plans) (hf : t.fpl = s.fpl) (d : Nat) (k : Stroke) (again : Bool) :
    awaitsReplay t d k again = awaitsReplay s d k again := by
  simp [awaitsReplay, planOf, slotHolds, tbSlot, slotKey, regionDepth, regionWord, hp, hf]

section Miss
variable {d : Nat} {k : Stroke} {again : Bool} {s : State} (hk : k.gouge = none)
include hk

/-- A missed correlation stroke is told to Tally, and queued for its replay where it has one. -/
theorem missStroke_corr : missStroke d k again s =
    if awaitsReplay s d k again then
      setSchDie d { schDie s d with replays := (schDie s d).replays ++
          [{ k with segs := [], own := none, more := false, acc := [], held := 0, bad := 0, replay := true }] }
        (tallySend d (strokeItem k .miss [] (awaitsReplay s d k again)) s)
    else tallySend d (strokeItem k .miss [] (awaitsReplay s d k again)) s := by
  unfold missStroke
  rw [hk]
  rfl

theorem missStroke_inbox : (tlyDie (missStroke d k again s) d).inbox =
    (tlyDie s d).inbox ++ [strokeItem k .miss [] (awaitsReplay s d k again)] := by
  rw [missStroke_corr hk]
  split
  · exact congrArg TlyDie.inbox (tlyDie_setTlyDie d _ s)
  · exact congrArg TlyDie.inbox (tlyDie_setTlyDie d _ s)

/-- Of the scheduler of its die a missed stroke touches the replays alone. -/
theorem missStroke_schDie : ∃ l, schDie (missStroke d k again s) d = { schDie s d with replays := l } := by
  rw [missStroke_corr hk]
  split
  · exact ⟨_, schDie_setSchDie d _ _⟩
  · exact ⟨(schDie s d).replays, rfl⟩

theorem missStroke_lathes : (missStroke d k again s).sch.lathes = s.sch.lathes := by
  rw [missStroke_corr hk]; split <;> rfl

theorem keeps_missStroke : keeps [.sch, .tly] s (missStroke d k again s) := by
  have h := keeps_mono (k := [.sch, .tly]) (by simp) (keeps_tallySend d (strokeItem k .miss [] (awaitsReplay s d k again)) s)
  rw [missStroke_corr hk]
  split
  · exact keeps_trans h (keeps_mono (by simp) (keeps_setSchDie _ _ _))
  · exact h

theorem missStroke_regs : (missStroke d k again s).regs = s.regs := keeps_missStroke hk .regs (by decide)

end Miss

/-! ## A stroke that fails on its lathe (R175, R177) -/

theorem lthPage_plain {n : Nat} (h : n < 272) : ¬ eventPage (lthPage n) := by
  simp only [eventPage, lthPage]; omega

/-- The retry window of a page is judged by its own registers, its past events and device time alone. -/
theorem countRetry_congr {s t : State} {p : Nat} (hr : t.retry = s.retry) (hw : t.retryWin = s.retryWin) (hd : t.devFine = s.devFine)
    (hc : reg t p R.RETRY_CFG = reg s p R.RETRY_CFG) : (countRetry p t).2 = (countRetry p s).2 := by
  have hl (ms : Nat) (l : List Nat) : withinMs t ms l = withinMs s ms l := by
    unfold withinMs devTime; rw [hd]
  have h (u : State) : (countRetry p u).2 = decide (fieldOf (reg u p R.RETRY_CFG) 32 16 ≠ 0 ∧ fieldOf (reg u p R.RETRY_CFG) 32 16 ≤
      (withinMs u (fieldOf (reg u p R.RETRY_CFG) 0 32) (retryInWindow u p) ++ [devTime u]).length) := by
    unfold countRetry countFld setFld
    simp only [reg_setReg_off (p := p) (off := F.RETRY_COUNT_TOTAL.off) (off' := R.RETRY_CFG) _ _ (by decide) (by decide) (by decide)]
    split <;> rename_i hx
    · exact (decide_eq_true hx).symm
    · exact (decide_eq_false hx).symm
  rw [h, h, hc, hl]
  simp [retryInWindow, hl, hr, hw, devTime, hd]

/-- A counted event below the threshold is counted in its page and its window, and nothing else happens. -/
theorem countRetry_below {p : Nat} {s : State} (h : (countRetry p s).2 = false) :
    keeps [.retry, .regs] s (countRetry p s).1 ∧ sameRegs [p] s (countRetry p s).1 ∧
      ∀ off, off < 0x1000 → off ≠ R.RETRY_COUNT → reg (countRetry p s).1 p off = reg s p off := by
  unfold countRetry at h ⊢
  dsimp only at h ⊢
  split at h
  · cases h
  · rename_i hc
    rw [if_neg hc]
    refine ⟨fun x hx => ?_, sameRegs_trans (sameRegs_of_eq rfl) (sameRegs_setReg _ _ (by decide)),
      fun off ho hn => reg_setReg_off _ _ (by decide) ho hn⟩
    cases x <;> simp_all [same, countFld]

/-- The report of a failed correlation stroke (R175): what LTH_WIT_FAIL, LTH_WIT_MASK and LTH_WIT_DIFF take. -/
def witFailWord (w : WitReport) : Word :=
  BitVec.ofNat 64 (w.cause + w.kind * 4 + w.index * 16 + (if w.im then 512 else 0) + w.failed % 256 * 2 ^ 16)

theorem loadWit_corr {k : Stroke} (hk : k.gouge = none) (n : Nat) (w : WitReport) (s : State) : ∃ j, loadWit n k w s =
    setReg (lthPage n) R.LTH_WIT_JOB j (setReg (lthPage n) R.LTH_WIT_DIFF (BitVec.ofInt 64 w.diff)
      (setReg (lthPage n) R.LTH_WIT_MASK (BitVec.ofNat 64 w.mask) (setReg (lthPage n) R.LTH_WIT_FAIL (witFailWord w) s))) := by
  have hj (u : State) : jobWord (n / 68) k u = ((jobWord (n / 68) k u).1, u) := by simp [jobWord, hk]
  unfold loadWit
  dsimp only
  rw [hj]
  exact ⟨_, rfl⟩

/-- What a correlation stroke that fails on lathe `n` below the retry threshold leaves, `w` its report (R175). -/
structure FailedOn (n : Nat) (k : Stroke) (w : WitReport) (s t : State) : Prop where
  inbox : (tlyDie t (n / 68)).inbox = (tlyDie s (n / 68)).inbox ++ [strokeItem k .miss [] (awaitsReplay s (n / 68) k true)]
  sticky : stuck t (lthPage n) S.LTH_WIT_FAIL
  missed : counted s t (lthPage n) R.LTH_CNT 2 1
  fail : reg t (lthPage n) R.LTH_WIT_FAIL = witFailWord w
  mask : reg t (lthPage n) R.LTH_WIT_MASK = BitVec.ofNat 64 w.mask
  diff : reg t (lthPage n) R.LTH_WIT_DIFF = BitVec.ofInt 64 w.diff
  frame : keeps [.sch, .tly, .regs, .retry, .events, .out] s t
  regs : sameRegs [lthPage n] s t

/-- A failure flagged, reported and counted, before its stroke is missed. -/
def failReported (n : Nat) (k : Stroke) (w : WitReport) (s : State) : State :=
  countK (lthPage n) R.LTH_CNT 2 1 (loadWit n k w (setSticky (lthPage n) S.LTH_WIT_FAIL s))

section Reported
variable {n : Nat} {k : Stroke} {w : WitReport} {s : State} (hn : n < 272) (hk : k.gouge = none)
include hn hk

/-- A register of the page that the report does not write. -/
theorem failReported_reg {off : Nat} (ho : off < 0x1000) (hs : off ≠ R.STICKY) (hc : off ≠ R.LTH_CNT + 8 * 2)
    (hw : off < 0x110 ∨ 0x128 < off) : reg (failReported n k w s) (lthPage n) off = reg s (lthPage n) off := by
  obtain ⟨j, hj⟩ := loadWit_corr hk n w (setSticky (lthPage n) S.LTH_WIT_FAIL s)
  unfold failReported
  rw [reg_countK_off _ _ ho (by decide) hc, hj, reg_setReg_off _ _ (by decide) ho (show off ≠ 0x128 by omega),
    reg_setReg_off _ _ (by decide) ho (show off ≠ 0x120 by omega), reg_setReg_off _ _ (by decide) ho (show off ≠ 0x118 by omega),
    reg_setReg_off _ _ (by decide) ho (show off ≠ 0x110 by omega)]
  exact (setSticky_page (lthPage_plain hn) (by decide)).2 off ho hs

theorem failReported_report : stuck (failReported n k w s) (lthPage n) S.LTH_WIT_FAIL ∧
    reg (failReported n k w s) (lthPage n) R.LTH_WIT_FAIL = witFailWord w ∧
    reg (failReported n k w s) (lthPage n) R.LTH_WIT_MASK = BitVec.ofNat 64 w.mask ∧
    reg (failReported n k w s) (lthPage n) R.LTH_WIT_DIFF = BitVec.ofInt 64 w.diff := by
  obtain ⟨j, hj⟩ := loadWit_corr hk n w (setSticky (lthPage n) S.LTH_WIT_FAIL s)
  have h := (setSticky_page (s := s) (lthPage_plain hn) (by decide : S.LTH_WIT_FAIL < 64)).1
  unfold failReported stuck
  rw [hj]
  refine ⟨?_, ?_, ?_, ?_⟩ <;>
    simp (disch := decide) only [reg_countK_off, reg_setReg_off, reg_setReg_self, h]

theorem failReported_missed : counted s (failReported n k w s) (lthPage n) R.LTH_CNT 2 1 := by
  obtain ⟨j, hj⟩ := loadWit_corr hk n w (setSticky (lthPage n) S.LTH_WIT_FAIL s)
  refine counted_of_eq (counted_countK _ _ _ _ _) ?_
  rw [hj]
  simp (disch := decide) only [reg_setReg_off]
  exact (setSticky_page (lthPage_plain hn) (by decide)).2 _ (by decide) (by decide)

omit hn in
theorem failReported_frame : keeps [.regs, .out, .events] s (failReported n k w s) ∧ sameRegs [lthPage n] s (failReported n k w s) := by
  obtain ⟨j, hj⟩ := loadWit_corr hk n w (setSticky (lthPage n) S.LTH_WIT_FAIL s)
  have hset (off : Nat) (v : Word) (u : State) : keeps [.regs, .out, .events] u (setReg (lthPage n) off v u) :=
    keeps_mono (by simp) (keeps_setReg _ _ _ _)
  unfold failReported
  rw [hj]
  constructor
  · exact keeps_trans (keeps_trans (keeps_trans (keeps_trans (keeps_trans (keeps_setSticky _ _ s) (hset _ _ _)) (hset _ _ _))
      (hset _ _ _)) (hset _ _ _)) (hset _ _ _)
  · exact sameRegs_trans (sameRegs_trans (sameRegs_trans (sameRegs_trans (sameRegs_trans (sameRegs_setSticky _ _ s)
      (sameRegs_setReg _ _ (by decide))) (sameRegs_setReg _ _ (by decide))) (sameRegs_setReg _ _ (by decide)))
      (sameRegs_setReg _ _ (by decide))) (sameRegs_countK _ _ (by decide))

end Reported

/-- A failure of another cause than a handshake, below the retry threshold: reported, missed, counted. -/
theorem failStroke_below {n : Nat} {k : Stroke} {w : WitReport} {s : State} (hn : n < 272) (hk : k.gouge = none) (hw : w.cause ≠ 3)
    (hr : (countRetry (lthPage n) s).2 = false) : FailedOn n k w s (failStroke n k w s) ∧
      (failStroke n k w s).sch.lathes = s.sch.lathes ∧ (schDie (failStroke n k w s) (n / 68)).loaded = (schDie s (n / 68)).loaded := by
  obtain ⟨hkeep, hsame⟩ := failReported_frame (n := n) (w := w) (s := s) hk
  obtain ⟨hstuck, hfail, hmask, hdiff⟩ := failReported_report (w := w) (s := s) hn hk
  have hmiss := keeps_missStroke (d := n / 68) (again := true) (s := failReported n k w s) hk
  have hto : keeps [.sch, .tly, .regs, .out, .events] s (missStroke (n / 68) k true (failReported n k w s)) :=
    keeps_trans (keeps_mono (by simp) hkeep) (keeps_mono (by simp) hmiss)
  have hreg (off : Nat) : reg (missStroke (n / 68) k true (failReported n k w s)) (lthPage n) off =
      reg (failReported n k w s) (lthPage n) off := reg_congr (missStroke_regs hk) _ _
  have hlow : (countRetry (lthPage n) (missStroke (n / 68) k true (failReported n k w s))).2 = false := by
    rw [countRetry_congr (hto .retry (by decide)).1 (hto .retry (by decide)).2 (hto .dev (by decide))
      ((hreg _).trans (failReported_reg hn hk (by decide) (by decide) (by decide) (by decide))), hr]
  obtain ⟨hck, hcs, hcr⟩ := countRetry_below hlow
  have heq : failStroke n k w s = (countRetry (lthPage n) (missStroke (n / 68) k true (failReported n k w s))).1 := by
    have hdef : failStroke n k w s =
        (let r := countRetry (lthPage n) (missStroke (n / 68) k true (failReported n k w s))
         if r.2 && !pageRetired r.1 (lthPage n) then retireLathe n r.1 else r.1) := by
      unfold failStroke failReported; simp only [if_neg hw]
    simp [hdef, hlow]
  have hfinal {off : Nat} (ho : off < 0x1000) (hne : off ≠ R.RETRY_COUNT) :
      reg (failStroke n k w s) (lthPage n) off = reg (failReported n k w s) (lthPage n) off := by
    rw [heq, hcr off ho hne, hreg]
  have hsch : (failStroke n k w s).sch = (missStroke (n / 68) k true (failReported n k w s)).sch := by
    rw [heq]; exact hck .sch (by decide)
  have hsch' : (failReported n k w s).sch = s.sch := hkeep .sch (by decide)
  have hwait : awaitsReplay (failReported n k w s) (n / 68) k true = awaitsReplay s (n / 68) k true :=
    awaitsReplay_congr (congrArg _ hsch') (hkeep .fpl (by decide)) _ _ _
  obtain ⟨l, hl⟩ := missStroke_schDie (d := n / 68) (again := true) (s := failReported n k w s) hk
  refine ⟨?_, by rw [hsch, missStroke_lathes hk, hsch'], by rw [schDie_congr (congrArg _ hsch), hl, schDie_congr (congrArg _ hsch')]⟩
  refine
    { inbox := ?_
      sticky := by unfold stuck; rw [hfinal (by decide) (by decide)]; exact hstuck
      missed := counted_congr (failReported_missed hn hk) (hfinal (by decide) (by decide))
      fail := (hfinal (by decide) (by decide)).trans hfail
      mask := (hfinal (by decide) (by decide)).trans hmask
      diff := (hfinal (by decide) (by decide)).trans hdiff
      frame := ?_
      regs := ?_ }
  · rw [heq, tlyDie_congr (hck .tly (by decide)), missStroke_inbox hk, tlyDie_congr (hkeep .tly (by decide)), hwait]
  · rw [heq]
    exact keeps_trans (keeps_mono (by simp) hto) (keeps_mono (by simp) hck)
  · rw [heq]
    exact sameRegs_trans (sameRegs_trans hsame (sameRegs_of_eq (missStroke_regs hk))) hcs

/-! ## The witness check (R168, R173) -/

/-- A value well inside 48 bits is stored as it is. -/
theorem toInt_ofInt48 {x : Int} (h : x.natAbs < 2 ^ 46) : (BitVec.ofInt 48 x).toInt = x := by
  rw [BitVec.toInt_ofInt]
  exact Int.bmod_eq_of_le (by omega) (by omega)

/-- A value well inside 48 bits is stored as a finite one. -/
theorem codeFinite_ofInt {x : Int} (h : x.natAbs < 2 ^ 46) : codeFinite (BitVec.ofInt 48 x) = true := by
  have ht := toInt_ofInt48 h
  have hne {c : Code48} (hc : 2 ^ 46 ≤ c.toInt.natAbs) : BitVec.ofInt 48 x ≠ c := by
    intro e; rw [← e, ht] at hc; omega
  have hfin : i48OfCode (BitVec.ofInt 48 x) = .fin (BitVec.ofInt 48 x).toInt := by
    unfold i48OfCode
    rw [if_neg (hne (by decide)), if_neg (hne (by decide)), if_neg (hne (by decide))]
  simp [codeFinite, code48Void, code48Inf, hfin]

/-- A set without faults enters the shadow as the codes of its values. -/
theorem faultSet_nil (acc : List (Int × Int)) :
    faultSet [] none acc = acc.map (fun p => (BitVec.ofInt 48 p.1, BitVec.ofInt 48 p.2)) := by
  have h : (fun p : (Int × Int) × Nat => (faultCode [] none p.2 false p.1.1, faultCode [] none p.2 true p.1.2)) =
      (fun p : Int × Int => (BitVec.ofInt 48 p.1, BitVec.ofInt 48 p.2)) ∘ Prod.fst := by
    funext p; simp [faultCode]
  rw [faultSet, h, ← List.map_map, List.zipIdx_map_fst]

/-- A set of values well inside 48 bits reads back as it was taken. -/
theorem shadowValues_eq {vals : List (Int × Int)} (h : ∀ p ∈ vals, p.1.natAbs < 2 ^ 46 ∧ p.2.natAbs < 2 ^ 46) :
    (faultSet [] none vals).map (fun c => (c.1.toInt, c.2.toInt)) = vals := by
  rw [faultSet_nil, List.map_map]
  calc _ = vals.map id := List.map_congr_left (fun p hp => by simp [toInt_ofInt48 (h p hp).1, toInt_ofInt48 (h p hp).2])
    _ = vals := List.map_id _

theorem faultSet_finite {vals : List (Int × Int)} (h : ∀ p ∈ vals, p.1.natAbs < 2 ^ 46 ∧ p.2.natAbs < 2 ^ 46) :
    (faultSet [] none vals).all (fun c => codeFinite c.1 && codeFinite c.2) = true := by
  rw [faultSet_nil, List.all_map, List.all_eq_true]
  intro p hp
  simp [codeFinite_ofInt (h p hp).1, codeFinite_ofInt (h p hp).2]

/-- The lathe with a set in its shadow, as a token leaves it. -/
def shadowTaken (n : Nat) (vals : List (Int × Int)) (s : State) : State :=
  setLathe n { lathe s n with shadow := vals, tokenSeen := (lathe s n).tokenSeen || (lathe s n).snapping } s

section Check
variable {n : Nat} {k : Stroke} {sh : List (Code48 × Code48)} {s : State}

theorem anyInfinite_eq (sh : List (Code48 × Code48)) : sh.any (fun c => !codeFinite c.1 || !codeFinite c.2) =
    !sh.all (fun c => codeFinite c.1 && codeFinite c.2) := by
  simp [List.all_eq_not_any_not, Bool.not_and]

/-- A finite set with no failing equation is dumped, where no handshake failure is armed (R168, R173). -/
theorem witnessCheck_pass (hu : unarmed s (lthPage n)) (hf : sh.all (fun c => codeFinite c.1 && codeFinite c.2) = true)
    (he : failing (sh.map (fun c => (c.1.toInt, c.2.toInt))) = []) :
    witnessCheck n k sh s = tallySend (n / 68) (strokeItem k .dump
        ((List.range 1024).map (fun v => cellAt (sh.map (fun c => (c.1.toInt, c.2.toInt))) (v / 32) (v % 32))) false)
      (countK (lthPage n) R.LTH_CNT 0 1 (shadowTaken n (sh.map (fun c => (c.1.toInt, c.2.toInt))) s)) := by
  have ha (vals : List (Int × Int)) : takeArmed (lthPage n) S.LTH_HANDSHAKE_TO (shadowTaken n vals s) = (false, shadowTaken n vals s) :=
    takeArmed_unarmed _ hu
  unfold witnessCheck
  dsimp only
  rw [← shadowTaken, anyInfinite_eq, hf, he, ha]
  rfl

/-- A finite set with a failing equation fails its stroke (R173, R175). -/
theorem witnessCheck_mismatch (hf : sh.all (fun c => codeFinite c.1 && codeFinite c.2) = true)
    (he : failing (sh.map (fun c => (c.1.toInt, c.2.toInt))) ≠ []) :
    witnessCheck n k sh s = failStroke n k (mismatch (failing (sh.map (fun c => (c.1.toInt, c.2.toInt)))))
      (shadowTaken n (sh.map (fun c => (c.1.toInt, c.2.toInt))) s) := by
  unfold witnessCheck
  dsimp only
  rw [← shadowTaken, anyInfinite_eq, hf, if_neg (by decide), if_pos he]

/-- A set that is not finite fails its stroke with cause 2 (R168, R175). -/
theorem witnessCheck_infinite (hf : sh.all (fun c => codeFinite c.1 && codeFinite c.2) = false) :
    witnessCheck n k sh s = failStroke n k ⟨2, 0, 0, false, 0, 0, 0⟩ (shadowTaken n (sh.map (fun c => (c.1.toInt, c.2.toInt))) s) := by
  unfold witnessCheck
  dsimp only
  rw [← shadowTaken, anyInfinite_eq, hf, if_pos (by decide)]

end Check

/-- A stroke that fails the check at its token, below the retry threshold: what the token leaves is what the failure leaves, with
the stroke gone from its lathe. -/
theorem drainToken_failed {s u : State} {n held stretched : Nat} {k : Stroke} {q : List Stroke} {h : BlankHalf} {fs : List CellFault}
    {w : WitReport} {vals : List (Int × Int)} (hn : n < 272) (t : TokenDue s n k q h) (hw : w.cause ≠ 3)
    (hr : (countRetry (lthPage n) s).2 = false) (hu : u = shadowTaken n vals (tokenTaken n k q h held stretched s))
    (he : drainToken n fs held stretched s = finishBatches (n / 68) (failStroke n k w u)) :
    (lathe (drainToken n fs held stretched s) n).queue = q ∧ FailedOn n k w s (drainToken n fs held stretched s) := by
  have hkeep : keeps [.sch, .regs] s u := by
    rw [hu]
    exact keeps_trans (keeps_tokenTaken s n k q h held stretched) (keeps_mono (by simp) (keeps_setLathe _ _ _))
  have hreg {off : Nat} (ho : off < 0x1000) (hne : off < R.LTH_CNT + 8 * 4) : reg u (lthPage n) off = reg s (lthPage n) off := by
    rw [hu]
    exact tokenTaken_reg s n k q h held stretched ho ⟨by omega, by omega, by omega⟩
  have hdie : schDie u (n / 68) = schDie s (n / 68) := by rw [hu, shadowTaken, schDie_setLathe, tokenTaken_schDie]
  have hlathe : (lathe u n).queue = q := by
    rw [hu, shadowTaken, lathe_setLathe, tokenTaken_lathe]
  have hlow : (countRetry (lthPage n) u).2 = false := by
    rw [countRetry_congr (hkeep .retry (by decide)).1 (hkeep .retry (by decide)).2 (hkeep .dev (by decide)) (hreg (by decide) (by decide)),
      hr]
  obtain ⟨f, hlathes, hloaded⟩ := failStroke_below hn t.corr hw hlow
  have hun : (schDie (failStroke n k w u) (n / 68)).loaded = [] := by rw [hloaded, hdie, t.unloaded]
  have hwait : awaitsReplay u (n / 68) k true = awaitsReplay s (n / 68) k true :=
    awaitsReplay_congr (by rw [hu, shadowTaken, setLathe_plans, tokenTaken_plans]) (hkeep .fpl (by decide)) _ _ _
  rw [he, finishBatches_unloaded hun]
  refine ⟨by rw [lathe_congr hlathes, hlathe],
    { f with
      inbox := by rw [f.inbox, tlyDie_congr (hkeep .tly (by decide)), hwait]
      missed := counted_of_eq f.missed (hreg (by decide) (by decide))
      frame := keeps_trans (keeps_mono (by simp) hkeep) f.frame
      regs := sameRegs_trans ?_ f.regs }⟩
  rw [hu]
  exact sameRegs_trans (sameRegs_tokenTaken s n k q h held stretched) (sameRegs_setLathe _ n _ _)

section Bring
variable {s : State} {n held stretched : Nat} {k : Stroke} {q : List Stroke} {h : BlankHalf}

/-- What a dump leaves: the stroke gone, its values in the shadow and on their way to Tally, and its counters. -/
theorem dumped_spec (vals : List (Int × Int)) (x : TlyItem) {t : State} (ht : t = tallySend (n / 68) x
    (countK (lthPage n) R.LTH_CNT 0 1 (shadowTaken n vals (tokenTaken n k q h held stretched s)))) :
    (lathe t n).queue = q ∧ (lathe t n).shadow = vals ∧ (tlyDie t (n / 68)).inbox = (tlyDie s (n / 68)).inbox ++ [x] ∧
      counted s t (lthPage n) R.LTH_CNT 0 1 ∧ counted s t (lthPage n) R.LTH_CNT 5 held ∧
      counted s t (lthPage n) R.LTH_CNT 6 stretched ∧
      keeps [.sch, .tly, .regs] s t ∧ sameRegs [lthPage n] s t := by
  obtain ⟨h5, h6⟩ := tokenTaken_counts s n k q h held stretched
  have hl : lathe t n = { lathe s n with queue := q, shadow := vals, tokenSeen := (lathe s n).tokenSeen || (lathe s n).snapping } := by
    simp [ht, shadowTaken, tokenTaken_lathe]
  have hoff {off : Nat} (ho : off < 0x1000) (hne : off ≠ R.LTH_CNT + 8 * 0) :
      reg t (lthPage n) off = reg (tokenTaken n k q h held stretched s) (lthPage n) off := by
    rw [ht, reg_tallySend, reg_countK_off _ _ ho (by decide) hne, shadowTaken, reg_setLathe]
  have h0 : counted s t (lthPage n) R.LTH_CNT 0 1 := by
    refine counted_of_eq (t := shadowTaken n vals (tokenTaken n k q h held stretched s)) ?_ ?_
    · rw [ht, counted, reg_tallySend]; exact counted_countK _ _ _ _ _
    · rw [shadowTaken, reg_setLathe, tokenTaken_reg s n k q h held stretched (by decide) (by decide)]
  refine ⟨by rw [hl], by rw [hl], ?_, h0, counted_congr h5 (hoff (by decide) (by decide)),
    counted_congr h6 (hoff (by decide) (by decide)), ?_, ?_⟩
  · rw [ht, tallySend, tlyDie_setTlyDie]
    simp [shadowTaken, tokenTaken_tlyDie]
  · rw [ht]
    exact keeps_trans (keeps_trans (keeps_trans (keeps_mono (by simp) (keeps_tokenTaken s n k q h held stretched))
      (keeps_mono (by simp) (keeps_setLathe _ _ _))) (keeps_mono (by simp) (keeps_countK _ _ _ _ _)))
      (keeps_mono (by simp) (keeps_tallySend _ _ _))
  · rw [ht]
    exact sameRegs_trans (sameRegs_trans (sameRegs_trans (sameRegs_tokenTaken s n k q h held stretched) (sameRegs_setLathe _ n _ _))
      (sameRegs_countK _ _ (by decide))) (sameRegs_tallySend _ _ _ _)

/-- What a miss without blame leaves: the stroke gone, a miss on its way to Tally, and LTH_CNT[2] (R196). -/
theorem missed_spec (hk : k.gouge = none) {t : State} (ht : t = missStroke (n / 68) k false
    (countK (lthPage n) R.LTH_CNT 2 1 (tokenTaken n k q h held stretched s))) :
    (lathe t n).queue = q ∧ (tlyDie t (n / 68)).inbox = (tlyDie s (n / 68)).inbox ++ [strokeItem k .miss [] false] ∧
      reg t (lthPage n) R.STICKY = reg s (lthPage n) R.STICKY ∧ counted s t (lthPage n) R.LTH_CNT 2 1 ∧
      keeps [.sch, .tly, .regs] s t ∧ sameRegs [lthPage n] s t := by
  have hreg (off : Nat) : reg t (lthPage n) off =
      reg (countK (lthPage n) R.LTH_CNT 2 1 (tokenTaken n k q h held stretched s)) (lthPage n) off := by
    rw [ht]; exact reg_congr (missStroke_regs hk) _ _
  refine ⟨?_, ?_, ?_, ?_, ?_, ?_⟩
  · rw [ht, lathe_congr (missStroke_lathes hk), lathe_countK, tokenTaken_lathe]
  · rw [ht, missStroke_inbox hk, tlyDie_countK, tokenTaken_tlyDie]
    rfl
  · rw [hreg, reg_countK_off _ _ (by decide) (by decide) (by decide), tokenTaken_reg s n k q h held stretched (by decide) (by decide)]
  · exact counted_congr (counted_of_eq (counted_countK _ _ _ _ _) (tokenTaken_reg s n k q h held stretched (by decide) (by decide)))
      (hreg _)
  · rw [ht]
    exact keeps_trans (keeps_trans (keeps_mono (by simp) (keeps_tokenTaken s n k q h held stretched))
      (keeps_mono (by simp) (keeps_countK _ _ _ _ _))) (keeps_mono (by simp) (keeps_missStroke hk))
  · rw [ht]
    exact sameRegs_trans (sameRegs_trans (sameRegs_tokenTaken s n k q h held stretched)
      (sameRegs_countK (k := 2) _ _ (by decide))) (sameRegs_of_eq (missStroke_regs hk))

end Bring

/-- Settles O25: a token takes the stroke off its lathe and counts it (`tokenTaken`); its shadow set then passes, or fails as every
stroke below the retry threshold does (`FailedOn`), and a turn-buffer error is a miss alone. -/
theorem drainTokens : Obligations.DrainTokens := by
  unfold Obligations.DrainTokens
  refine ⟨?pass, ?differs, ?infinite, ?turnError, ?idle⟩
  case pass =>
    intro s n h held stretched k q vals hn hu hq hw hk hd hh hr hl hb hdb ha hlen hfin hfail
    have he := drainToken_sound (held := held) (stretched := stretched) (fs := []) ⟨hq, hw, hk, hd, hh, hr, hl⟩ hu hb hdb
    have hu' : unarmed (tokenTaken n k q h held stretched s) (lthPage n) := hu
    rw [ha, witnessCheck_pass hu' (faultSet_finite hfin) (by rw [shadowValues_eq hfin]; exact hfail), shadowValues_eq hfin,
      finishBatches_unloaded (by simpa [shadowTaken, tokenTaken_schDie] using hl)] at he
    exact ⟨_, rfl, dumped_spec vals _ he⟩
  case differs =>
    intro s n h held stretched k q fs sh e l hn hu hq hw hk hd hh hr hl hb hdb hretry hsh hfin hfail
    have t : TokenDue s n k q h := ⟨hq, hw, hk, hd, hh, hr, hl⟩
    have he := drainToken_sound (held := held) (stretched := stretched) (fs := fs) t hu hb hdb
    rw [hsh, witnessCheck_mismatch hfin (by rw [hfail]; simp), hfail] at he
    obtain ⟨hqueue, f⟩ := drainToken_failed hn t (by simp [mismatch]) hretry rfl he
    exact ⟨_, rfl, hqueue, by simpa [awaitsReplay] using f.inbox, f.sticky, f.missed, f.fail, f.mask, f.diff, f.frame, f.regs⟩
  case infinite =>
    intro s n h held stretched k q fs hn hu hq hw hk hd hh hr hl hb hdb hretry hfin
    have t : TokenDue s n k q h := ⟨hq, hw, hk, hd, hh, hr, hl⟩
    have he := drainToken_sound (held := held) (stretched := stretched) (fs := fs) t hu hb hdb
    rw [witnessCheck_infinite hfin] at he
    obtain ⟨hqueue, f⟩ := drainToken_failed hn t (by decide) hretry rfl he
    exact ⟨_, rfl, hqueue, f.sticky, f.missed, f.fail, f.mask, f.diff, f.frame, f.regs⟩
  case turnError =>
    intro s n h held stretched k q fs hn hq hw hk hd hh hr hl hdb
    have he := drainToken_turnError (held := held) (stretched := stretched) (fs := fs) ⟨hq, hw, hk, hd, hh, hr, hl⟩ hdb
    obtain ⟨r, hr⟩ := missStroke_schDie (d := n / 68) (again := false)
      (s := countK (lthPage n) R.LTH_CNT 2 1 (tokenTaken n k q h held stretched s)) hk
    rw [finishBatches_unloaded (by rw [hr, schDie_countK, tokenTaken_schDie]; exact hl)] at he
    exact ⟨_, rfl, missed_spec hk he⟩
  case idle =>
    intro s n held stretched fs hq
    exact ⟨s, by simp [exec, execDrainToken, drainToken, hq], rfl⟩

/-! ## Operands that reach the turn buffer (R155, R157, R158) -/

theorem keeps_memSet (a : Nat) (b : Byte) (s : State) : keeps [.mem] s (memSet a b s) := by
  intro y hy; cases y <;> simp_all [same]

theorem keeps_memWrite (l : List Byte) (a : Nat) (s : State) : keeps [.mem] s (memWrite a l s) := by
  induction l generalizing a s with
  | nil => exact keeps_refl _ _
  | cons b l ih => exact keeps_trans (keeps_memSet a b s) (ih _ _)

/-- The bytes written depend on HBM alone. -/
theorem memWrite_mem_congr {s t : State} (h : t.mem = s.mem) (a : Nat) (l : List Byte) : (memWrite a l t).mem = (memWrite a l s).mem := by
  induction l generalizing a s t with
  | nil => exact h
  | cons b l ih => exact ih (by simp [memSet, h]) _

/-- A store outside the reserved span and the fenced rows stores every byte (R329, R338). -/
theorem hbmStore_free {l : List Byte} {a : Nat} {s : State} (hr : ∀ k, k < l.length → hbmReserved (a + k) = false)
    (hf : ∀ k, k < l.length → rowFenced s (a + k) = false) : hbmStore a l s = memWrite a l s := by
  induction l generalizing a s with
  | nil => rfl
  | cons b l ih =>
    have hr0 := hr 0 (by simp)
    have hf0 := hf 0 (by simp)
    rw [Nat.add_zero] at hr0 hf0
    have hstep (k : Nat) : a + 1 + k = a + (k + 1) := by omega
    rw [hbmStore, memWrite, hr0, hf0]
    refine ih (fun k hk => ?_) (fun k hk => ?_)
    · rw [hstep]; exact hr (k + 1) (by simpa using hk)
    · rw [hstep]; exact hf (k + 1) (by simpa using hk)

theorem hbmReserved_eq_false (x : Nat) : hbmReserved x = false ↔ x % 0x900000000 < 0x8F0000000 := by
  rw [hbmReserved, stackOff, decide_eq_false_iff_not]
  exact not_le

/-- A run shorter than the reserved span whose ends lie outside it lies outside it (R329). -/
theorem hbmReserved_between {a n k : Nat} (h : touchesReserved a n = false) (hn : n ≤ 0x10000000) (hk : k < n) :
    hbmReserved (a + k) = false := by
  rw [touchesReserved, Bool.or_eq_false_iff, hbmReserved_eq_false, hbmReserved_eq_false] at h
  rw [hbmReserved_eq_false]
  omega

/-- A write that no master is refused: served, counted, and stored (R329, R338, R346). -/
theorem hbmWrite_granted {a : Nat} {l : List Byte} {s : State} (hu : unarmed s (hbmPage (stackOf a))) (hr : hbmRefuses s a l.length = false)
    (hh : fenceHit s a l.length = none) (ht : touchesReserved a l.length = false) (hl : l.length ≤ 0x10000000)
    (hf : ∀ k, k < l.length → rowFenced s (a + k) = false) :
    (hbmWrite a l s).2 = if l = [] then s else unpoison a l.length (memWrite a l (countServed a l.length s)) := by
  have hs : hbmStore a l (countServed a l.length s) = memWrite a l (countServed a l.length s) :=
    hbmStore_free (fun k hk => hbmReserved_between ht hl hk) hf
  by_cases he : l = []
  · simp [hbmWrite, he]
  · have he' : l.isEmpty = false := by simpa using he
    simp only [hbmWrite, he', hr, hh, takeArmed_unarmed _ hu, ht, stickyIf, hs, if_neg he, Bool.or_self, Bool.false_eq_true, if_false]

theorem tbSlot_congr {s t : State} (h : t.fpl = s.fpl) (d r b : Nat) : tbSlot t d r b = tbSlot s d r b := by
  simp [tbSlot, slotKey, regionDepth, regionWord, h]

theorem regionT_congr {s t : State} (h : t.fpl = s.fpl) (d r : Nat) : regionT t d r = regionT s d r := by
  simp [regionT, regionWord, h]

/-- The cells of an operand are a few bytes. -/
theorem operandCells_length (s : State) (o : TurnOperand) (d : Nat) : (operandCells s o d).length ≤ 0x10000000 := by
  have h (f : Nat) : operandBytes f ≤ 4 := by
    unfold operandBytes operandBits; split_ifs <;> omega
  rw [operandCells, leBytes_length]
  exact (h _).trans (by omega)

/-- The oldest operand bound for a C-die has left the transit. -/
def operandTaken (o : TurnOperand) (s : State) : State :=
  { s with fpl := { s.fpl with transit := removeFirst (fun x => decide (x = o)) s.fpl.transit } }

theorem operandTaken_reg (o : TurnOperand) (s : State) (p off : Nat) : reg (operandTaken o s) p off = reg s p off := rfl

theorem sameRegs_operandTaken (l : List Nat) (o : TurnOperand) (s : State) : sameRegs l s (operandTaken o s) := fun _ _ _ _ _ => rfl

theorem arriveOne_some {s : State} {d : Nat} {o : TurnOperand} (h : s.fpl.transit.find? (fun x => decide (x.chan % 4 = d)) = some o) :
    arriveOne d s = operandArrives d o (operandTaken o s) := by
  rw [arriveOne, h]; rfl

theorem arriveOne_none {s : State} {d : Nat} (h : s.fpl.transit.find? (fun x => decide (x.chan % 4 = d)) = none) : arriveOne d s = s := by
  rw [arriveOne, h]

theorem keeps_operandTaken (o : TurnOperand) (s : State) : keeps [.fpl] s (operandTaken o s) := by
  intro y hy; cases y <;> simp_all [same, operandTaken]

/-- A late operand is discarded: flagged and counted in the page of its Faceplate (R158). -/
theorem operandArrives_late {s : State} {d : Nat} {o : TurnOperand} (hu : unarmed s (fplPage o.fpl)) (hv : regionValid s d o.region = true)
    (hl : landing d o.region o.batch s = (.late, s)) :
    operandArrives d o s = countK (fplPage o.fpl) R.FPL_CNT 6 1 (setSticky (fplPage o.fpl) S.FPL_LATE s) := by
  simp [operandArrives, hv, hl, evalDetector_unarmed _ _ hu]

/-- An operand that another batch keeps from its slot is discarded: flagged and counted in the page of its Faceplate (R158). -/
theorem operandArrives_full {s : State} {d : Nat} {o : TurnOperand} (hu : unarmed s (fplPage o.fpl)) (hv : regionValid s d o.region = true)
    (hl : landing d o.region o.batch s = (.full, s)) :
    operandArrives d o s = countK (fplPage o.fpl) R.FPL_CNT 7 1 (setSticky (fplPage o.fpl) S.FPL_TB_FULL s) := by
  simp [operandArrives, hv, hl, evalDetector_unarmed _ _ hu]

/-- An operand stored for its slot: written to its address and counted (R155). -/
def operandStored (d : Nat) (o : TurnOperand) (s : State) : State :=
  countK (fplPage o.fpl) R.FPL_CNT 1 1
    (hbmWrite (operandAddr s d o.region o.pos (o.chan / chanDiv s o.region) o.batch o.t) (operandCells s o d) s).2

/-- The slot of a batch with one more operand of a position and a channel. -/
def slotCounted (d r b key : Nat) (s : State) : State :=
  setTbSlot d r b { tbSlot s d r b with arrived := ntSet (tbSlot s d r b).arrived key (ntGet (tbSlot s d r b).arrived key + 1) } s

/-- An operand that may be written is stored and counted in its slot; it completes no batch where the slot is ready, or fewer than T
spectra of its pair are there (R155, R17). -/
theorem operandArrives_write {s : State} {d : Nat} {o : TurnOperand} (hu : unarmed s (fplPage o.fpl)) (hv : regionValid s d o.region = true)
    (hl : landing d o.region o.batch s = (.write, s))
    (hn : (tbSlot (operandStored d o s) d o.region o.batch).ready = true ∨
      ntGet (tbSlot (operandStored d o s) d o.region o.batch).arrived (o.pos * 65536 + o.chan / chanDiv s o.region) + 1 ≠
        regionT (operandStored d o s) d o.region) :
    operandArrives d o s =
      slotCounted d o.region o.batch (o.pos * 65536 + o.chan / chanDiv s o.region) (operandStored d o s) := by
  have hf : evalDetector (fplPage o.fpl) S.FPL_TB_FULL (decide (Landing.write = .full)) s = (false, s) := evalDetector_unarmed _ _ hu
  have hg : evalDetector (fplPage o.fpl) S.FPL_LATE (decide (Landing.write = .late)) s = (false, s) := evalDetector_unarmed _ _ hu
  unfold operandArrives
  simp only [hv, hl, hf, hg, Bool.not_true, Bool.false_eq_true, if_false]
  rw [← operandStored]
  refine if_neg ?_
  rcases hn with h | h
  · simp [h]
  · simp only [Bool.and_eq_true, decide_eq_true_eq]
    rintro ⟨⟨-, ht⟩, -⟩
    exact h ht

theorem keeps_unpoison (a n : Nat) (s : State) : keeps [.hbm] s (unpoison a n s) := by
  unfold unpoison
  split
  · exact keeps_refl _ _
  · intro y hy; cases y <;> simp_all [same]

theorem countServed_above (a n p off : Nat) (s : State) (hp : p < 0x230) (ho : off < 0x1000) :
    reg (countServed a n s) p off = reg s p off :=
  reg_setReg_ne _ _ (regAddr_ne ho (by decide) (.inl (show p ≠ 0x230 + stackOf a by omega)))

/-- A write that is granted stores its bytes; of the registers it touches those of the HBM pages alone. -/
theorem hbmWrite_granted_spec {a : Nat} {l : List Byte} {s : State} (hu : unarmed s (hbmPage (stackOf a)))
    (hr : hbmRefuses s a l.length = false) (hh : fenceHit s a l.length = none) (ht : touchesReserved a l.length = false)
    (hl : l.length ≤ 0x10000000) (hf : ∀ k, k < l.length → rowFenced s (a + k) = false) :
    (hbmWrite a l s).2.mem = (memWrite a l s).mem ∧ keeps [.mem, .hbm, .regs] s (hbmWrite a l s).2 ∧
      ∀ p off, p < 0x230 → off < 0x1000 → reg (hbmWrite a l s).2 p off = reg s p off := by
  rw [hbmWrite_granted hu hr hh ht hl hf]
  split
  · rename_i he
    subst he
    exact ⟨rfl, keeps_refl _ _, fun _ _ _ _ => rfl⟩
  · have hw := keeps_memWrite l a (countServed a l.length s)
    have hp := keeps_unpoison a l.length (memWrite a l (countServed a l.length s))
    refine ⟨(hp .mem (by decide)).trans (memWrite_mem_congr (s := s) (t := countServed a l.length s) rfl a l), ?_,
      fun p off hp' ho => ?_⟩
    · exact keeps_trans (keeps_trans (keeps_mono (by simp) (keeps_countK _ _ _ _ s)) (keeps_mono (by simp) hw)) (keeps_mono (by simp) hp)
    · rw [reg_congr (hp .regs (by decide)), reg_congr (hw .regs (by decide)), countServed_above _ _ _ _ _ hp' ho]

/-- What an operand stored by a write that is granted leaves. -/
theorem operandStored_spec {d a : Nat} {o : TurnOperand} {l : List Byte} {s : State} (ho : o.fpl < 16)
    (ha : operandAddr s d o.region o.pos (o.chan / chanDiv s o.region) o.batch o.t = a) (hl : operandCells s o d = l)
    (hw : (hbmWrite a l s).2.mem = (memWrite a l s).mem ∧ keeps [.mem, .hbm, .regs] s (hbmWrite a l s).2 ∧
      ∀ p off, p < 0x230 → off < 0x1000 → reg (hbmWrite a l s).2 p off = reg s p off) :
    (operandStored d o s).mem = (memWrite a l s).mem ∧ keeps [.mem, .hbm, .regs] s (operandStored d o s) ∧
      counted s (operandStored d o s) (fplPage o.fpl) R.FPL_CNT 1 1 := by
  obtain ⟨hmem, hkeep, hreg⟩ := hw
  rw [operandStored, ha, hl]
  refine ⟨hmem, keeps_trans hkeep (keeps_mono (by simp) (keeps_countK _ _ _ _ _)), counted_of_eq (counted_countK _ _ _ _ _) ?_⟩
  exact hreg _ _ (show 0x90 + o.fpl < 0x230 by omega) (by decide)

/-- What becomes of an operand whose batch holds its slot and is not staged yet (R158). -/
theorem landing_write {s : State} {d r b : Nat} (hh : slotHolds s d r b = true) (hs : (tbSlot s d r b).staged = false) :
    landing d r b s = (.write, s) := by
  rw [slotHolds] at hh
  simp only [landing, hh, hs, if_true, Bool.false_eq_true, if_false]

theorem landing_staged {s : State} {d r b : Nat} (hh : slotHolds s d r b = true) (hs : (tbSlot s d r b).staged = true) :
    landing d r b s = (.late, s) := by
  rw [slotHolds] at hh
  simp only [landing, hh, hs, if_true]

/-- What becomes of an operand whose slot an earlier batch holds that does not give it up (R158, R194). -/
theorem landing_full {s : State} {d r b : Nat} (hb : (tbSlot s d r b).busy = true) (hlt : (tbSlot s d r b).batch < b)
    (hr : (tbSlot s d r b).replayOnly = false) (hp : (tbSlot s d r b).past ≤ b) (hn : ntGet (schDie s d).next r ≤ b) :
    landing d r b s = (.full, s) := by
  have h1 : (tbSlot s d r b).batch ≠ b := by omega
  have h2 : ¬ b < (tbSlot s d r b).past := by omega
  have h3 : ¬ b < (tbSlot s d r b).batch := by omega
  have h4 : batchStaged s d r b = false := by simp [batchStaged, Nat.not_lt.2 hn]
  simp [landing, hb, hr, h1, h2, h3, h4]

theorem fplPage_plain {f : Nat} (h : f < 16) : ¬ eventPage (fplPage f) := by
  simp only [eventPage, fplPage]; omega

/-- What an operand leaves that is discarded, flagged with sticky bit `b` and counted in FPL_CNT[k]. -/
theorem discarded_spec {o : TurnOperand} {s t : State} {b k : Nat} (ho : o.fpl < 16) (hb : b < 64) (hk : k < 9)
    (ht : t = countK (fplPage o.fpl) R.FPL_CNT k 1 (setSticky (fplPage o.fpl) b (operandTaken o s))) :
    stuck t (fplPage o.fpl) b ∧ counted s t (fplPage o.fpl) R.FPL_CNT k 1 ∧
      t.fpl.transit = removeFirst (fun x => decide (x = o)) s.fpl.transit ∧ t.fpl.slots = s.fpl.slots ∧
      keeps [.fpl, .regs, .events, .out] s t ∧ sameRegs [fplPage o.fpl] s t := by
  have hoff : R.FPL_CNT + 8 * k < 0x1000 := by simp only [R.FPL_CNT]; omega
  have hne : R.FPL_CNT + 8 * k ≠ R.STICKY := by simp only [R.FPL_CNT, R.STICKY]; omega
  obtain ⟨hstuck, hpage⟩ := setSticky_page (s := operandTaken o s) (fplPage_plain ho) hb
  have hfpl : t.fpl = (operandTaken o s).fpl := by
    rw [ht, keeps_countK _ _ _ _ _ .fpl (by decide), setSticky_fpl]
  refine ⟨?_, ?_, by rw [hfpl]; rfl, by rw [hfpl]; rfl, ?_, ?_⟩
  · rw [ht, stuck, reg_countK_off _ _ (by decide) hoff hne.symm]
    exact hstuck
  · rw [ht]
    exact counted_of_eq (counted_countK _ _ _ _ _) ((hpage _ hoff hne).trans (operandTaken_reg o s _ _))
  · rw [ht]
    exact keeps_trans (keeps_trans (keeps_mono (by simp) (keeps_operandTaken o s)) (keeps_mono (by simp) (keeps_setSticky _ _ _)))
      (keeps_mono (by simp) (keeps_countK _ _ _ _ _))
  · rw [ht]
    exact sameRegs_trans (sameRegs_trans (sameRegs_operandTaken _ o s) (sameRegs_setSticky _ _ _)) (sameRegs_countK _ _ hoff)

/-- Operands arrive one by one. -/
theorem turnWrite_succ (d n : Nat) (s : State) :
    exec (.turnWrite d (n + 1)) s = exec (.turnWrite d n) (arriveOne d s) := by
  simp [exec, execTurnWrite, List.range_succ_eq_map, List.foldl_map]

theorem turnWrite_zero (d : Nat) (s : State) : exec (.turnWrite d 0) s = .next s := rfl

theorem turnWrite_one (d : Nat) (s : State) : exec (.turnWrite d 1) s = .next (arriveOne d s) := by
  rw [turnWrite_succ, turnWrite_zero]

/-- Settles O30: what an operand's `landing` is fixes what `operandArrives` does with it; a count of operands is an induction over
`arriveOne`. -/
theorem turnBufferArrivals : Obligations.TurnBufferArrivals := by
  unfold Obligations.TurnBufferArrivals
  refine ⟨?write, ?late, ?full, ?oneByOne, ?none⟩
  case write =>
    intro s d a o hd ho hu hf hv hh hs hn ha hr hfence ht hhu hrow
    subst ha
    have hw := hbmWrite_granted_spec (s := operandTaken o s) hhu hr hfence ht (operandCells_length s o d) hrow
    obtain ⟨hmem, hkeep, hcount⟩ := operandStored_spec (s := operandTaken o s) (d := d) (l := operandCells s o d) ho rfl rfl hw
    have hslot : tbSlot (operandStored d o (operandTaken o s)) d o.region o.batch = tbSlot s d o.region o.batch :=
      tbSlot_congr (hkeep .fpl (by decide)) _ _ _
    have ht : regionT (operandStored d o (operandTaken o s)) d o.region = regionT s d o.region :=
      regionT_congr (hkeep .fpl (by decide)) _ _
    refine ⟨_, turnWrite_one d s, ?_⟩
    rw [arriveOne_some hf, operandArrives_write (s := operandTaken o s) hu hv (landing_write hh hs)
      (by rw [hslot, ht]; exact hn.imp id (fun h => Nat.ne_of_lt h.2))]
    refine ⟨hmem.trans (memWrite_mem_congr (s := s) (t := operandTaken o s) rfl _ _), ?_, hcount, ?_⟩
    · exact congrArg FplState.transit (hkeep .fpl (by decide) : (operandStored d o (operandTaken o s)).fpl = (operandTaken o s).fpl)
    · exact keeps_trans (keeps_trans (keeps_mono (by simp) (keeps_operandTaken o s)) (keeps_mono (by simp) hkeep))
        (keeps_mono (by simp) (keeps_setTbSlot _ _ _ _ _))
  case late =>
    intro s d o hd ho hu hf hv hh hs
    refine ⟨_, turnWrite_one d s, ?_⟩
    rw [arriveOne_some hf, operandArrives_late (s := operandTaken o s) hu hv (landing_staged hh hs)]
    exact discarded_spec ho (by decide) (by decide) rfl
  case full =>
    intro s d o hd ho hu hf hv hb hlt hro hp hn
    refine ⟨_, turnWrite_one d s, ?_⟩
    rw [arriveOne_some hf, operandArrives_full (s := operandTaken o s) hu hv (landing_full hb hlt hro hp hn)]
    exact discarded_spec ho (by decide) (by decide) rfl
  case oneByOne =>
    intro s u d n h
    rw [turnWrite_one] at h
    injection h with h
    subst h
    exact ⟨⟨_, rfl, (turnWrite_succ d n s).symm⟩, s, turnWrite_zero d s, rfl⟩
  case none =>
    intro s d n h
    refine ⟨s, ?_, rfl⟩
    induction n with
    | zero => rfl
    | succ n ih => rw [turnWrite_succ, arriveOne_none h, ih]

/-! ## Staging deadlines (R17, R192) -/

theorem schPage_plain {d : Nat} (h : d < 4) : ¬ eventPage (schPage d) := by
  simp only [eventPage, schPage]; omega

/-- Up to a deadline time passes, and nothing else happens. -/
theorem toDeadline_eq (d r b : Nat) (p : Plan) (s : State) : ∃ m f, toDeadline d r b p s = { s with mono := m, devFine := f } := by
  unfold toDeadline advanceTo runTicks
  split
  · split
    · exact ⟨s.mono, s.devFine, rfl⟩
    · exact ⟨_, _, rfl⟩
  · exact ⟨s.mono, s.devFine, rfl⟩

theorem keeps_toDeadline (d r b : Nat) (p : Plan) (s : State) : keeps [.mono, .dev] s (toDeadline d r b p s) := by
  obtain ⟨m, f, h⟩ := toDeadline_eq d r b p s
  rw [h]
  intro y hy; cases y <;> simp_all [same]

theorem absentPairs_toDeadline (d r b : Nat) (p : Plan) (s : State) : absentPairs (toDeadline d r b p s) d r b = absentPairs s d r b := by
  obtain ⟨m, f, h⟩ := toDeadline_eq d r b p s
  rw [h]; rfl

theorem batchKnown_toDeadline (d r b : Nat) (p : Plan) (s : State) : batchKnown (toDeadline d r b p s) d r b = batchKnown s d r b := by
  obtain ⟨m, f, h⟩ := toDeadline_eq d r b p s
  rw [h]; rfl

/-- A batch made ready stands last among those that wait, with the streams absent from it (R17). -/
theorem makeReady_schDie (d r b : Nat) (s : State) : schDie (makeReady d r b s) d =
    { schDie s d with ready := (schDie s d).ready ++ [⟨r, b, s.mono, absentPairs s d r b⟩] } := by
  unfold makeReady
  dsimp only
  split
  · exact schDie_setSchDie d _ s
  · exact schDie_setSchDie d _ s

theorem keeps_makeReady (d r b : Nat) (s : State) : keeps [.sch, .fpl] s (makeReady d r b s) := by
  have h := keeps_mono (k := [.sch, .fpl]) (by simp)
    (keeps_setSchDie d { schDie s d with ready := (schDie s d).ready ++ [⟨r, b, s.mono, absentPairs s d r b⟩] } s)
  unfold makeReady
  dsimp only
  split
  · exact keeps_trans h (keeps_mono (by simp) (keeps_setTbSlot _ _ _ _ _))
  · exact h

theorem keeps_noteBacklog (d : Nat) (s : State) : keeps [.regs, .out, .events] s (noteBacklog d s) := keeps_stickyIf _ _ _ _

/-- A page is live where the registers that say so read as before. -/
theorem pageLive_congr {s t : State} {p : Nat} (hw : t.hwd = s.hwd) (hd : reg t 0x3F0 R.PWR_DOMAIN_STATUS = reg s 0x3F0 R.PWR_DOMAIN_STATUS)
    (hr : reg t 0 F.PAGE_STATUS_READY.off = reg s 0 F.PAGE_STATUS_READY.off)
    (he : reg t p F.PAGE_CTRL_ENABLE.off = reg s p F.PAGE_CTRL_ENABLE.off) :
    pageLive t p = pageLive s p := by
  unfold pageLive pageGated domainOn deviceReady flag fld
  rw [hw, hd, hr, he]

/-- A sticky bit of a page leaves the page live or not. -/
theorem pageLive_setSticky {p b : Nat} (s : State) (hp : ¬ eventPage p) (hb : b < 64) (h0 : p ≠ 0) (h3 : p ≠ 0x3F0) :
    pageLive (setSticky p b s) p = pageLive s p := by
  have hs := sameRegs_setSticky p b s
  refine pageLive_congr (keeps_setSticky p b s .hwd (by decide)) (hs _ _ (by simpa using Ne.symm h3) (by decide) (by decide))
    (hs _ _ (by simpa using Ne.symm h0) (by decide) (by decide)) ?_
  exact (setSticky_page hp hb).2 _ (by decide) (by decide)

theorem pageLive_noteBacklog {d : Nat} (hd : d < 4) (s : State) : pageLive (noteBacklog d s) (schPage d) = pageLive s (schPage d) := by
  unfold noteBacklog stickyIf
  dsimp only
  split
  · exact pageLive_setSticky s (schPage_plain hd) (by decide) (show 0x220 + d ≠ 0 by omega) (show 0x220 + d ≠ 0x3F0 by omega)
  · rfl

/-- A deadline of a batch this member stages and that is not known makes it ready, and on a live page nothing more (R17, R192). -/
theorem stagingDeadline_ready {s : State} {d r b : Nat} {p : Plan} (hd : d < 4) (hp : planOf s d r = some p)
    (ho : ownsBatch (toDeadline d r b p s) d r b = true) (hk : batchKnown s d r b = false) (hl : pageLive s (schPage d) = true) :
    stagingDeadline d r b s = noteBacklog d (makeReady d r b (toDeadline d r b p s)) := by
  have hlive : pageLive (noteBacklog d (makeReady d r b (toDeadline d r b p s))) (schPage d) = true := by
    rw [pageLive_noteBacklog hd, ← hl]
    have h1 := keeps_trans (keeps_mono (k := [.mono, .dev, .sch, .fpl]) (by simp) (keeps_toDeadline d r b p s))
      (keeps_mono (by simp) (keeps_makeReady d r b _))
    exact pageLive_congr (h1 .hwd (by decide)) (reg_congr (h1 .regs (by decide)) _ _) (reg_congr (h1 .regs (by decide)) _ _)
      (reg_congr (h1 .regs (by decide)) _ _)
  unfold stagingDeadline
  simp only [hp, ho, batchKnown_toDeadline, hk, Bool.not_true, Bool.false_eq_true, if_false, hlive, Bool.true_or, if_true]
  split <;> rfl

/-! ## Reads of HBM (R329, R334, R336) -/

theorem keeps_takeArmed (p b : Nat) (s : State) : keeps [.armed] s (takeArmed p b s).2 := by
  unfold takeArmed
  dsimp only
  split
  · exact keeps_refl _ _
  · split
    · intro y hy; cases y <;> simp_all [same]
    · exact keeps_refl _ _
    · split_ifs <;> (intro y hy; cases y <;> simp_all [same])

/-- What reads of HBM may touch: registers, detectors, events and what leaves; of the registers none of a page below the HBM pages. -/
def readOnly (s t : State) : Prop :=
  keeps [.regs, .armed, .events, .out] s t ∧ ∀ p off, p < 0x230 → off < 0x1000 → reg t p off = reg s p off

theorem readOnly_refl (s : State) : readOnly s s := ⟨keeps_refl _ _, fun _ _ _ _ => rfl⟩

theorem readOnly_trans {s t u : State} (h : readOnly s t) (k : readOnly t u) : readOnly s u :=
  ⟨keeps_trans h.1 k.1, fun p off hp ho => (k.2 p off hp ho).trans (h.2 p off hp ho)⟩

theorem eventPage_high {p : Nat} (h : p < 0x230) : ¬ eventPage p := by simp only [eventPage]; omega

theorem readOnly_setReg {p off : Nat} (w : Word) (s : State) (hp : 0x230 ≤ p) (ho : off < 0x1000) : readOnly s (setReg p off w s) :=
  ⟨keeps_mono (by simp) (keeps_setReg _ _ _ _), fun _ _ hq ho' => reg_setReg_ne _ _ (regAddr_ne ho' ho (.inl (by omega)))⟩

theorem readOnly_setSticky {p b : Nat} (s : State) (hp : 0x230 ≤ p) : readOnly s (setSticky p b s) :=
  ⟨keeps_mono (by simp) (keeps_setSticky _ _ _),
    fun q off hq ho => sameRegs_setSticky p b s q off (by simp; omega) (eventPage_high hq) ho⟩

theorem readOnly_reportUncorr (a : Nat) (s : State) : readOnly s (reportUncorr a s) := by
  have hp : 0x230 ≤ hpcPage (hpcOf a) := by simp only [hpcPage]; omega
  have hq : 0x230 ≤ hbmPage (stackOf a) := by simp only [hbmPage]; omega
  unfold reportUncorr
  exact readOnly_trans (readOnly_trans (readOnly_trans (readOnly_setSticky s hp) (readOnly_setReg _ _ hp (by decide)))
    (readOnly_setReg _ _ hp (by decide))) (readOnly_setReg _ _ hq (by decide))

/-- A fold of steps that only read, only reads. -/
theorem readOnly_foldl {α : Type} {f : State → α → State} (h : ∀ s x, readOnly s (f s x)) (l : List α) (s : State) :
    readOnly s (l.foldl f s) := by
  induction l generalizing s with
  | nil => exact readOnly_refl s
  | cons x l ih => exact readOnly_trans (h s x) (ih _)

theorem readOnly_takeArmed (p b : Nat) (s : State) : readOnly s (takeArmed p b s).2 :=
  ⟨keeps_mono (by simp) (keeps_takeArmed p b s), fun _ _ _ _ => reg_congr (keeps_takeArmed p b s .regs (by decide)) _ _⟩

theorem readOnly_hbmRead (a n : Nat) (s : State) : readOnly s (hbmRead a n s).2 := by
  have hq : 0x230 ≤ hbmPage (stackOf a) := by simp only [hbmPage]; omega
  have hsticky (c : Bool) (b : Nat) (u : State) : readOnly u (stickyIf c (hbmPage (stackOf a)) b u) := by
    cases c
    · exact readOnly_refl u
    · exact readOnly_setSticky u hq
  have hserved (u : State) : readOnly u (countServed a n u) := readOnly_setReg _ _ hq (by decide)
  have hbegun (c : Bool) : readOnly s (countServed a n (stickyIf c (hbmPage (stackOf a)) S.HBM_RESERVED_ACCESS
      (takeArmed (hbmPage (stackOf a)) S.HBM_RESERVED_ACCESS s).2)) :=
    readOnly_trans (readOnly_trans (readOnly_takeArmed _ _ s) (hsticky _ _ _)) (hserved _)
  unfold hbmRead
  split
  · exact readOnly_refl s
  · split
    · exact readOnly_refl s
    · dsimp only
      split
      · exact hbegun _
      · exact readOnly_trans (hbegun _) (readOnly_foldl (fun u w => readOnly_reportUncorr _ u) _ _)

/-! ## Stage loads (R190, R191, R196) -/

/-- What a stage takes from HBM and the blank store may touch: registers, detectors, events and what leaves; of the scheduler's page its
sticky bits alone. -/
def loadOnly (d : Nat) (s t : State) : Prop :=
  keeps [.regs, .armed, .events, .out] s t ∧ ∀ off, off < 0x1000 → off ≠ R.STICKY → reg t (schPage d) off = reg s (schPage d) off

theorem loadOnly_trans {d : Nat} {s t u : State} (h : loadOnly d s t) (k : loadOnly d t u) : loadOnly d s u :=
  ⟨keeps_trans h.1 k.1, fun off ho hn => (k.2 off ho hn).trans (h.2 off ho hn)⟩

theorem loadOnly_of_readOnly {d : Nat} {s t : State} (hd : d < 4) (h : readOnly s t) : loadOnly d s t :=
  ⟨h.1, fun off ho _ => h.2 _ off (show 0x220 + d < 0x230 by omega) ho⟩

theorem loadOnly_setSticky {d b : Nat} (s : State) (hd : d < 4) (hb : b < 64) : loadOnly d s (setSticky (schPage d) b s) :=
  ⟨keeps_mono (by simp) (keeps_setSticky _ _ _), (setSticky_page (schPage_plain hd) hb).2⟩

theorem loadOnly_stickyIf {d b : Nat} (c : Bool) (s : State) (hd : d < 4) (hb : b < 64) : loadOnly d s (stickyIf c (schPage d) b s) := by
  cases c
  · exact loadOnly_of_readOnly hd (readOnly_refl s)
  · exact loadOnly_setSticky s hd hb

theorem loadOnly_takeArmed {d : Nat} (p b : Nat) (s : State) (hd : d < 4) : loadOnly d s (takeArmed p b s).2 :=
  loadOnly_of_readOnly hd (readOnly_takeArmed p b s)

theorem loadOnly_blankErrors {d : Nat} (l : List Nat) (errs : List (Nat × Bool)) (s : State) (hd : d < 4) :
    loadOnly d s (blankErrors d l errs s).2 :=
  loadOnly_trans (loadOnly_trans (loadOnly_trans (loadOnly_takeArmed _ _ s hd) (loadOnly_takeArmed _ _ _ hd))
    (loadOnly_stickyIf _ _ hd (by decide))) (loadOnly_stickyIf _ _ hd (by decide))

theorem loadOnly_loadBlock {d : Nat} (r b c first count : Nat) (absent : List (Nat × Nat)) (bad : Bool) (k : Nat)
    (s : State) (hd : d < 4) : loadOnly d s (loadBlock d r b c first count absent bad k s).2 :=
  loadOnly_trans (loadOnly_of_readOnly hd (readOnly_hbmRead _ _ s)) (loadOnly_stickyIf _ _ hd (by decide))

section Load
variable {d : Nat} (r b c first count : Nat) (absent : List (Nat × Nat)) (errs : List (Nat × Bool)) (l : List Nat) (s : State)

theorem loadOnly_loadBlocks (hd : d < 4) : loadOnly d s (loadBlocks d r b c first count absent errs l s).2 := by
  induction l generalizing s with
  | nil => exact loadOnly_of_readOnly hd (readOnly_refl s)
  | cons k l ih => exact loadOnly_trans (loadOnly_loadBlock r b c first count absent _ k s hd) (ih _)

/-- A load takes the blocks of its stage in order. -/
theorem loadBlocks_block : (loadBlocks d r b c first count absent errs l s).1.map BlockData.block = l := by
  induction l generalizing s with
  | nil => rfl
  | cons k l ih => exact congrArg (k :: ·) (ih _)

end Load

theorem loadOnly_injectTb {d : Nat} (l : List BlockData) (s : State) (hd : d < 4) : loadOnly d s (injectTb d l s).2 := by
  unfold injectTb
  dsimp only
  split
  · exact loadOnly_trans (loadOnly_takeArmed _ _ s hd) (loadOnly_setSticky _ hd (by decide))
  · exact loadOnly_takeArmed _ _ s hd

theorem injectTb_block {d : Nat} (l : List BlockData) (s : State) : (injectTb d l s).1.map BlockData.block = l.map BlockData.block := by
  unfold injectTb
  dsimp only
  split
  · cases l <;> rfl
  · rfl

/-- No stroke takes in a segment from a half that none reads. -/
theorem passSegment_free {h : Nat} {x : BlankHalf} {k : Stroke} (hk : h ∉ k.segs) : passSegment h x k = k := by
  have hne : k.segs.head? ≠ some h := fun e => hk (List.mem_of_mem_head? e)
  simp [passSegment, hne]

/-- A lathe whose stroke in front ends the segment it reads from half `h`, which holds `x` (R180, R191). -/
def passLathe (s : State) (d h : Nat) (x : BlankHalf) (e : Nat × Lathe) : Nat × Lathe :=
  if e.1 / 68 = d ∧ flag s (lthPage e.1) F.LTH_SNAP_CTRL_HALTED = false then
    match e.2.queue with
    | [] => e
    | k :: l => (e.1, { e.2 with queue := passSegment h x k :: l })
  else e

theorem passHalf_some {s : State} {d h : Nat} {x : BlankHalf} (hx : halfOf s d h = some x) :
    passHalf d h s = { s with sch := { s.sch with lathes := s.sch.lathes.map (passLathe s d h x) } } := by
  rw [passHalf, hx]; rfl

theorem passHalf_none {s : State} {d h : Nat} (hx : halfOf s d h = none) : passHalf d h s = s := by rw [passHalf, hx]

theorem passLathe_free {s : State} {d h : Nat} {x : BlankHalf} {e : Nat × Lathe}
    (he : e.1 / 68 = d → ∀ k ∈ e.2.queue, h ∉ k.segs) :
    passLathe s d h x e = e := by
  unfold passLathe
  split
  · rename_i hc
    split
    · rfl
    · rename_i k l hq
      rw [passSegment_free (he hc.1 k (by simp [hq])), ← hq]
  · rfl

/-- Where no stroke reads a half, none has a segment of it to end (R191). -/
theorem passHalf_free {s : State} {d h : Nat} (hf : halfFree s d h = true) : passHalf d h s = s := by
  have hall : ∀ k ∈ dieStrokes s d, h ∉ k.segs := by simpa [halfFree] using hf
  cases hx : halfOf s d h with
  | none => exact passHalf_none hx
  | some x =>
    have hmap : s.sch.lathes.map (passLathe s d h x) = s.sch.lathes := by
      refine (List.map_congr_left (fun e he => passLathe_free (fun hd k hk => hall k ?_))).trans (List.map_id _)
      exact List.mem_flatMap.2 ⟨e, he, by simpa [hd] using hk⟩
    rw [passHalf_some hx, hmap]

/-- The strokes in front end their segments in the lathes alone. -/
theorem passHalf_spec (d h : Nat) (s : State) : keeps [.sch] s (passHalf d h s) ∧ schDie (passHalf d h s) d = schDie s d := by
  cases hx : halfOf s d h with
  | none => rw [passHalf_none hx]; exact ⟨keeps_refl _ _, rfl⟩
  | some x =>
    rw [passHalf_some hx]
    exact ⟨fun y hy => by cases y <;> simp_all [same], rfl⟩

/-- What issuing a load's correlation jobs may touch: lathes and replays, Tally, and of the scheduler's page SCH_CNT[3] and SCH_CNT[4]. -/
structure IssueOnly (d : Nat) (s t : State) : Prop where
  frame : keeps [.sch, .tly, .regs] s t
  die : ∃ l, schDie t d = { schDie s d with replays := l }
  regs : ∀ off, off < 0x1000 → off ≠ R.SCH_CNT + 8 * 3 → off ≠ R.SCH_CNT + 8 * 4 → reg t (schPage d) off = reg s (schPage d) off

theorem IssueOnly.trans {d : Nat} {s t u : State} (h : IssueOnly d s t) (k : IssueOnly d t u) : IssueOnly d s u := by
  obtain ⟨hf, ⟨l, hl⟩, hr⟩ := h
  obtain ⟨kf, ⟨m, km⟩, kr⟩ := k
  exact ⟨keeps_trans hf kf, ⟨m, by rw [km, hl]⟩, fun off ho h3 h4 => (kr off ho h3 h4).trans (hr off ho h3 h4)⟩

theorem IssueOnly.of_keeps {d : Nat} {s t : State} (h : keeps [.sch, .tly] s t)
    (hd : ∃ l, schDie t d = { schDie s d with replays := l }) :
    IssueOnly d s t :=
  ⟨keeps_mono (by simp) h, hd, fun _ _ _ _ => reg_congr (h .regs (by decide)) _ _⟩

theorem issueOnly_refl (d : Nat) (s : State) : IssueOnly d s s := .of_keeps (keeps_refl _ _) ⟨(schDie s d).replays, rfl⟩

theorem issueOnly_count {d k : Nat} (s : State) (hk : k = 3 ∨ k = 4) : IssueOnly d s (countK (schPage d) R.SCH_CNT k 1 s) := by
  refine ⟨keeps_mono (by simp) (keeps_countK _ _ _ _ _), ⟨(schDie s d).replays, rfl⟩, fun off ho h3 h4 => ?_⟩
  rcases hk with rfl | rfl
  · exact reg_countK_off _ _ ho (by decide) h3
  · exact reg_countK_off _ _ ho (by decide) h4

theorem issueOnly_missStroke {d : Nat} {k : Stroke} (hk : k.gouge = none) (again : Bool) (s : State) :
    IssueOnly d s (missStroke d k again s) := .of_keeps (keeps_missStroke hk) (missStroke_schDie hk)

theorem issueOnly_tallyIssue (d ctx n : Nat) (s : State) : IssueOnly d s (tallyIssue d ctx n s) := by
  unfold tallyIssue updInteg
  dsimp only
  split
  · exact .of_keeps (keeps_mono (by simp) (keeps_setTlyDie d _ s)) ⟨(schDie s d).replays, rfl⟩
  · exact issueOnly_refl d s

/-- A job of an integration is on its account before it is issued (R235). -/
def jobNoted (d : Nat) (k : Stroke) (s : State) : State :=
  match k.int with
  | some n => if k.gouge.isNone then tallyIssue d k.ctx n s else s
  | none => s

theorem issueOnly_jobNoted (d : Nat) (k : Stroke) (s : State) : IssueOnly d s (jobNoted d k s) := by
  unfold jobNoted
  split
  · split
    · exact issueOnly_tallyIssue d k.ctx _ s
    · exact issueOnly_refl d s
  · exact issueOnly_refl d s

/-- A correlation job is issued on the lathe of its seat, or fails (R71, R177, R201). -/
theorem issueJob_corr {d : Nat} {k : Stroke} (hk : k.gouge = none) (s : State) :
    issueJob d s k = missStroke d k true (countK (schPage d) R.SCH_CNT 4 1 (jobNoted d k s)) ∨
      issueJob d s k = missStroke d k true (jobNoted d k s) ∨
      ∃ n x, issueJob d s k = countK (schPage d) R.SCH_CNT 3 1 (setLathe n x (jobNoted d k s)) := by
  have h : issueJob d s k = (match runningLathe (jobNoted d k s) d k.seat k.region with
      | none => missStroke d k true (countK (schPage d) R.SCH_CNT 4 1 (jobNoted d k s))
      | some n =>
        if !flag (jobNoted d k s) (lthPage n) F.PAGE_CTRL_ENABLE then missStroke d k true (jobNoted d k s)
        else if k.gouge.isSome && !flag (jobNoted d k s) (ggePage d) F.PAGE_CTRL_ENABLE then missStroke d k false (jobNoted d k s)
        else
          let x := lathe (jobNoted d k s) n
          let s := countK (schPage d) R.SCH_CNT 3 1 (setLathe n { x with queue := x.queue ++ [k] } (jobNoted d k s))
          if k.gouge.isSome then fillStores n s else s) := rfl
  rw [h]
  cases runningLathe (jobNoted d k s) d k.seat k.region with
  | none => exact .inl rfl
  | some n =>
    simp only [hk, Option.isSome_none, Bool.false_and, Bool.false_eq_true, if_false]
    split
    · exact .inr (.inl rfl)
    · exact .inr (.inr ⟨n, _, rfl⟩)

theorem issueOnly_issueJob {d : Nat} {k : Stroke} (hk : k.gouge = none) (s : State) : IssueOnly d s (issueJob d s k) := by
  have hn := issueOnly_jobNoted d k s
  rcases issueJob_corr hk s with h | h | ⟨n, x, h⟩
  · rw [h]
    exact hn.trans ((issueOnly_count _ (.inr rfl)).trans (issueOnly_missStroke hk true _))
  · rw [h]
    exact hn.trans (issueOnly_missStroke hk true _)
  · have hx : IssueOnly d (jobNoted d k s) (setLathe n x (jobNoted d k s)) :=
      .of_keeps (keeps_mono (by simp) (keeps_setLathe _ _ _)) ⟨_, schDie_setLathe d n x _⟩
    rw [h]
    exact hn.trans (hx.trans (issueOnly_count _ (.inl rfl)))

theorem issueOnly_feedSegment (d r b c : Nat) (rows : List StageEntry) (h : Nat) (last : Bool) (s : State) :
    IssueOnly d s (feedSegment d r b c rows h last s) := by
  refine .of_keeps (fun y hy => ?_) ⟨(schDie s d).replays, rfl⟩
  cases y <;> simp_all [same, feedSegment]

/-- Of a plan without gouge entries every job is a correlation job. -/
theorem stepJobs_corr {s : State} {d c : Nat} {p : Plan} {q : SchCur} {gs : List (List StageEntry)} {place : Nat × Nat × List StageEntry}
    (hp : p.entries.all (fun x => !x.isGouge) = true) {k : Stroke} (hk : k ∈ stepJobs s d p q gs c place) : k.gouge = none := by
  obtain ⟨e, he, hke⟩ := List.mem_flatMap.1 hk
  have hg : e.isGouge = false := by simpa using List.all_eq_true.1 hp e he
  simp only [hg, Bool.false_eq_true, if_false] at hke
  split at hke
  · unfold corrJobs at hke
    split at hke
    · cases hke
    · obtain ⟨x, -, hx⟩ := List.mem_filterMap.1 hke
      split at hx
      · rw [← Option.some.inj hx]
      · cases hx
  · cases hke

theorem issueOnly_foldl {d : Nat} {l : List Stroke} (hl : ∀ k ∈ l, k.gouge = none) (s : State) : IssueOnly d s (l.foldl (issueJob d) s) := by
  induction l generalizing s with
  | nil => exact issueOnly_refl d s
  | cons k l ih =>
    exact (issueOnly_issueJob (hl k (by simp)) s).trans (ih (fun k hk => hl k (by simp [hk])) _)

theorem issueOnly_runStage {d : Nat} {p : Plan} (hp : p.entries.all (fun x => !x.isGouge) = true) (q : SchCur)
    (gs : List (List StageEntry)) (c h : Nat) (place : Nat × Nat × List StageEntry) (s : State) :
    IssueOnly d s (runStage d p q gs c h place s) := by
  refine (issueOnly_feedSegment d q.region q.batch c place.2.2 h _ s).trans (issueOnly_foldl (fun k hk => ?_) _)
  obtain ⟨j, hj, rfl⟩ := List.mem_map.1 hk
  have hg : j.gouge = none := stepJobs_corr hp hj
  exact hg

/-- The blocks of a stage as they come into the blank store, errors and injections included (R75, R155, R196). -/
def stageRead (d : Nat) (errs : List (Nat × Bool)) (q : SchCur) (c : Nat) (e : StageEntry) (s : State) : List BlockData × State :=
  let be := blankErrors d e.blocks errs s
  let l := loadBlocks d q.region q.batch c e.first (e.len (regionT s d q.region)) q.absent be.1 e.blocks be.2
  injectTb d l.1 l.2

theorem loadOnly_stageRead {d : Nat} (errs : List (Nat × Bool)) (q : SchCur) (c : Nat) (e : StageEntry) (s : State) (hd : d < 4) :
    loadOnly d s (stageRead d errs q c e s).2 :=
  loadOnly_trans (loadOnly_trans (loadOnly_blankErrors _ _ s hd) (loadOnly_loadBlocks _ _ _ _ _ _ _ _ _ hd)) (loadOnly_injectTb _ _ hd)

theorem stageRead_block (d : Nat) (errs : List (Nat × Bool)) (q : SchCur) (c : Nat) (e : StageEntry) (s : State) :
    (stageRead d errs q c e s).1.map BlockData.block = e.blocks :=
  (injectTb_block _ _).trans (loadBlocks_block _ _ _ _ _ _ _ _ _)

/-- The scheduler with a stage in half `h`: the batch has loads `rest` still to do, and the next goes to the other half. -/
def halfTaken (h : Nat) (x : BlankHalf) (q : SchCur) (rest : List (Nat × Nat)) (z : SchDie) : SchDie :=
  { z with
    halfA := if h = 0 then some x else z.halfA
    halfB := if h = 0 then z.halfB else some x
    useB := !z.useB
    cur := some { q with steps := rest } }

/-- A stage has been taken into half `h` and counted, before its jobs are issued. -/
def stageStored (d h : Nat) (errs : List (Nat × Bool)) (q : SchCur) (c : Nat) (rest : List (Nat × Nat)) (e : StageEntry) (s : State) : State :=
  let i := stageRead d errs q c e s
  let t := countK (schPage d) R.SCH_CNT 1 1 (setSchDie d (halfTaken h ⟨e.first, i.1⟩ q rest (schDie i.2 d)) i.2)
  countK (schPage d) R.SCH_CNT 2 (ceilDiv (stageBytes t d q.region e) 64) t

section Stored
variable {d : Nat} (h : Nat) (errs : List (Nat × Bool)) (q : SchCur) (c : Nat) (rest : List (Nat × Nat)) (e : StageEntry) (s : State)
  (hd : d < 4)
include hd

theorem stageStored_schDie : schDie (stageStored d h errs q c rest e s) d =
    halfTaken h ⟨e.first, (stageRead d errs q c e s).1⟩ q rest (schDie s d) := by
  have hr : schDie (stageRead d errs q c e s).2 d = schDie s d :=
    schDie_congr (congrArg SchState.dies ((loadOnly_stageRead errs q c e s hd).1 .sch (by decide))) d
  rw [stageStored, schDie_countK, schDie_countK, schDie_setSchDie, hr]

theorem keeps_stageStored : keeps [.sch, .regs, .armed, .events, .out] s (stageStored d h errs q c rest e s) :=
  keeps_trans (keeps_trans (keeps_trans (keeps_mono (by simp) (loadOnly_stageRead errs q c e s hd).1)
    (keeps_mono (by simp) (keeps_setSchDie _ _ _))) (keeps_mono (by simp) (keeps_countK _ _ _ _ _)))
    (keeps_mono (by simp) (keeps_countK _ _ _ _ _))

theorem stageStored_counted : counted s (stageStored d h errs q c rest e s) (schPage d) R.SCH_CNT 1 1 := by
  refine counted_congr (counted_of_eq (counted_countK _ _ _ _ _) ?_) (reg_countK_off _ _ (by decide) (by decide) (by decide))
  rw [reg_setSchDie, (loadOnly_stageRead errs q c e s hd).2 _ (by decide) (by decide)]

end Stored

/-- A load that is not the last of its batch: where half `h` is free, the stage is taken into it, and what follows is the issue of its
jobs (R191). -/
theorem loadStep_stored {d h c k : Nat} {errs : List (Nat × Bool)} {p : Plan} {q : SchCur} {rest : List (Nat × Nat)} {e : StageEntry}
    {s : State} (hs : q.steps = (c, k) :: rest) (hrest : rest ≠ []) (hp : p.entries.all (fun x => !x.isGouge) = true)
    (hh : (if (schDie s d).useB then 1 else 0) = h) (hf : halfFree s d h = true) (he : (stagesOf s d q.region p.stages)[k]? = some e) :
    IssueOnly d (stageStored d h errs q c rest e s) (loadStep d errs p q s) := by
  have hrest' : rest.isEmpty = false := by simpa using hrest
  have hst : (stagesOf s d q.region p.stages).getD k (implicitStage 1) = e := by rw [List.getD_eq_getElem?_getD, he]; rfl
  unfold loadStep
  rw [hs]
  dsimp only
  rw [hh, passHalf_free hf, hf, hst, hrest']
  simp only [Bool.not_true, Bool.false_eq_true, if_false]
  split
  · exact issueOnly_runStage hp q _ c h _ (stageStored d h errs q c rest e s)
  · exact issueOnly_refl d (stageStored d h errs q c rest e s)

/-- A load waits while strokes still read the half it would take (R191). -/
theorem loadStep_waits {d h c k : Nat} {errs : List (Nat × Bool)} {p : Plan} {q : SchCur} {rest : List (Nat × Nat)} {s : State}
    (hs : q.steps = (c, k) :: rest) (hh : (if (schDie s d).useB then 1 else 0) = h) (hf : halfFree (passHalf d h s) d h = false) :
    loadStep d errs p q s = passHalf d h s := by
  unfold loadStep
  rw [hs]
  dsimp only
  rw [hh, hf]
  rfl

theorem sameRegs_noteBacklog (d : Nat) (s : State) : sameRegs [schPage d] s (noteBacklog d s) := by
  unfold noteBacklog stickyIf
  dsimp only
  split
  · exact sameRegs_setSticky _ _ s
  · exact sameRegs_refl _ s

/-! ## The first load of a batch (R192, R193, R201, R214, R235) -/

/-- A fold of steps that keep something keeps it. -/
theorem foldl_keeps {α β : Type} {g : State → β} {f : State → α → State} (h : ∀ s x, g (f s x) = g s) (l : List α) (s : State) :
    g (l.foldl f s) = g s := by
  induction l generalizing s with
  | nil => rfl
  | cons x l ih => exact (ih _).trans (h s x)

theorem readWeights_fpl (w : WSet) (bank : Bool) (c g n l : Nat) (s : State) : (readWeights w bank c g n l s).2.fpl = s.fpl := by
  induction n generalizing l s with
  | zero => rfl
  | succ n ih => exact (ih _ _).trans ((readOnly_hbmRead _ _ s).1 .fpl (by decide))

theorem loadStroke_fpl (d : Nat) (k : Stroke) (s : State) : (loadStroke d k s).2.fpl = s.fpl := by
  unfold loadStroke
  split
  · rfl
  · dsimp only
    split
    · rfl
    · exact readWeights_fpl _ _ _ _ _ _ s

theorem loadStrokes_fpl (d : Nat) (p : Stroke → Bool) (n : Nat) (l : List Stroke) (s : State) : (loadStrokes d p n l s).2.fpl = s.fpl := by
  induction l generalizing n s with
  | nil => rfl
  | cons k l ih =>
    refine (ih _ _).trans ?_
    split
    · exact loadStroke_fpl d k s
    · rfl

theorem settleWeights_fpl (d i : Nat) (s : State) : (settleWeights d i s).fpl = s.fpl := by
  refine foldl_keeps (g := State.fpl) (fun s j => ?_) _ s
  dsimp only
  split
  · rfl
  · exact loadStrokes_fpl _ _ _ _ s

theorem stickyIf_fpl (c : Bool) (p b : Nat) (s : State) : (stickyIf c p b s).fpl = s.fpl := keeps_stickyIf c p b s .fpl (by decide)

theorem addFence_fpl (f : HbmFence) (s : State) : (addFence f s).fpl = s.fpl := rfl
theorem dropFences_fpl (owner : Nat) (s : State) : (dropFences owner s).fpl = s.fpl := rfl
theorem setWset_fpl (d i : Nat) (x : WSet) (s : State) : (setWset d i x s).fpl = s.fpl := rfl

theorem wsetBoundary_fpl (d r b : Nat) (s : State) : (wsetBoundary d r b s).fpl = s.fpl := by
  refine foldl_keeps (g := State.fpl) (fun s i => ?_) _ s
  dsimp only
  split
  · rfl
  · rw [countK_fpl, addFence_fpl, dropFences_fpl, stickyIf_fpl, setWset_fpl, settleWeights_fpl]

theorem tallyBatch_fpl (d ctx beta : Nat) (entries : List CutEntry) (s : State) : (tallyBatch d ctx beta entries s).2.fpl = s.fpl := by
  unfold tallyBatch
  dsimp only
  split <;> split
  · rfl
  · exact setSticky_fpl _ _ _
  · rfl
  · exact setSticky_fpl _ _ _

theorem carryShare_fpl (d k : Nat) (s : State) : (carryShare d k s).fpl = s.fpl := by
  unfold carryShare
  dsimp only
  split <;> rfl

theorem settleSeats_fpl (d : Nat) (s : State) : (settleSeats d s).fpl = s.fpl := by
  refine foldl_keeps (g := State.fpl) (fun s k => ?_) _ s
  unfold settleSeat
  split
  · rw [setSticky_fpl, setFld_fpl, setFld_fpl, setFld_fpl, carryShare_fpl]
  · rfl

theorem moveSeats_fpl (d r : Nat) (s : State) : (moveSeats d r s).fpl = s.fpl := by
  refine foldl_keeps (g := State.fpl) (fun s k => ?_) _ s
  split
  · rfl
  · exact carryShare_fpl d k s

/-- A batch boundary leaves the turn buffer alone. -/
theorem passBoundary_fpl (d r b : Nat) (p : Plan) (s : State) : (passBoundary d r b p s).2.fpl = s.fpl := by
  have h := (wsetBoundary_fpl d r b (tallyBatch d p.ctx b p.entries s).2).trans (tallyBatch_fpl d p.ctx b p.entries s)
  unfold passBoundary
  dsimp only
  split
  · exact (settleSeats_fpl d _).trans ((moveSeats_fpl d r _).trans h)
  · exact h

theorem takeArmed_fpl (p b : Nat) (s : State) : (takeArmed p b s).2.fpl = s.fpl := keeps_takeArmed p b s .fpl (by decide)

theorem setChsCore_fpl (n : Nat) (c : ChsCore) (s : State) : (setChsCore n c s).fpl = s.fpl := rfl

theorem chsEndWait_fpl (n : Nat) (s : State) : (chsEndWait n s).fpl = s.fpl := by
  unfold chsEndWait
  dsimp only
  split
  · split <;> rfl
  · split <;> rfl
  · rfl

theorem chsWake_fpl (n cause : Nat) (s : State) : (chsWake n cause s).fpl = s.fpl := by
  unfold chsWake
  split
  · rfl
  · refine (chsEndWait_fpl n _).trans ?_
    rw [setChsCore_fpl]
    split
    · exact (setSticky_fpl _ _ _).trans (takeArmed_fpl _ _ s)
    · exact takeArmed_fpl _ _ s

theorem wakeOnBatch_fpl (d r : Nat) (s : State) : (wakeOnBatch d r s).fpl = s.fpl := by
  refine foldl_keeps (g := State.fpl) (fun s n => ?_) _ s
  split
  · exact chsWake_fpl n 1 s
  · rfl

theorem stagesOf_congr {s t : State} (h : t.fpl.regions = s.fpl.regions) (d r : Nat) (l : List StageEntry) : stagesOf t d r l = stagesOf s d r l := by
  simp [stagesOf, regionBlocks, regionWord, h]

theorem setTbSlot_regions (d r b : Nat) (x : TbSlot) (s : State) : (setTbSlot d r b x s).fpl.regions = s.fpl.regions := rfl

theorem setSchDie_fpl (d : Nat) (x : SchDie) (s : State) : (setSchDie d x s).fpl = s.fpl := rfl

/-- The slot of a batch whose staging begins: what reaches it from now on is late (R158). -/
theorem stagedSlot_regions (d r b : Nat) (s : State) :
    (if slotHolds s d r b then setTbSlot d r b { tbSlot s d r b with staged := true } s else s).fpl.regions = s.fpl.regions := by
  split
  · exact setTbSlot_regions _ _ _ _ s
  · rfl

/-- The batch taken is in progress, with all its loads to do (R191, R192). -/
theorem beginBatch_cur (d : Nat) (x : SchReady) (p : Plan) (s : State) : ∃ q, (schDie (beginBatch d x p s) d).cur = some q ∧
    q.region = x.region ∧ q.batch = x.batch ∧ q.absent = x.absent ∧ q.steps = loadSteps p (stagesOf s d x.region p.stages) := by
  unfold beginBatch
  refine ⟨_, congrArg SchDie.cur (schDie_setSchDie d _ _), rfl, rfl, rfl, congrArg (loadSteps p) (stagesOf_congr ?_ _ _ _)⟩
  have hzap (c : Bool) (n : Nat) (u : State) :
      (if c then u else countK (schPage d) R.SCH_CNT 7 n (setSticky (schPage d) S.SCH_DEADLINE_ZAP u)).fpl = u.fpl := by
    split
    · rfl
    · rw [countK_fpl, setSticky_fpl]
  rw [hzap, passBoundary_fpl, stagedSlot_regions, wakeOnBatch_fpl, setSchDie_fpl, keeps_noteBacklog d s .fpl (by decide)]

/-! ## Deadlines and stage loads together -/

/-- A stage load on a live page with a batch in progress takes the next load of that batch (R191). -/
theorem stageLoad_cur {s : State} {d : Nat} (errs : List (Nat × Bool)) {q : SchCur} {p : Plan} (hl : pageLive s (schPage d) = true)
    (hc : (schDie s d).cur = some q) (hp : planOf s d q.region = some p) : stageLoad d errs s = loadStep d errs p q s := by
  simp [stageLoad, hl, hc, hp]

/-- A stage load with no batch in progress begins the first of the ready ones and takes its first load (R192). -/
theorem stageLoad_begin {s : State} {d : Nat} (errs : List (Nat × Bool)) {q : SchCur} {x : SchReady} {p : Plan}
    (hl : pageLive s (schPage d) = true) (hc : (schDie s d).cur = none) (hx : pickReady s d (schDie s d).ready = some x)
    (hp : planOf s d x.region = some p) (hq : (schDie (beginBatch d x p s) d).cur = some q)
    (hp' : planOf (beginBatch d x p s) d q.region = some p) : stageLoad d errs s = loadStep d errs p q (beginBatch d x p s) := by
  simp [stageLoad, hl, hc, hx, hp, hq, hp']

/-- A stage load on a disabled scheduler, or with no batch to stage, does nothing (R71, R192). -/
theorem stageLoad_idle {s : State} {d : Nat} (errs : List (Nat × Bool))
    (h : pageLive s (schPage d) = false ∨ ((schDie s d).cur = none ∧ (schDie s d).ready = [])) : stageLoad d errs s = s := by
  rcases h with h | ⟨hc, hr⟩
  · simp [stageLoad, h]
  · simp [stageLoad, hc, hr, pickReady]

/-- Settles O31: a deadline makes a batch ready (`stagingDeadline_ready`) or passes its boundary alone; a stage load is a `loadStep` of
the batch in progress, which stores a stage and then only issues jobs (`IssueOnly`), or waits. -/
theorem stagingBatches : Obligations.StagingBatches := by
  unfold Obligations.StagingBatches
  refine ⟨?ready, ?owned, ?noPlan, ?stored, ?waits, ?goesOn, ?begins, ?idle⟩
  case ready =>
    intro s d r b p hd hr hp ho hk hl
    refine ⟨_, rfl, ?_⟩
    have ht := keeps_toDeadline d r b p s
    have hdie : schDie (stagingDeadline d r b s) d =
        { schDie s d with ready := (schDie s d).ready ++ [⟨r, b, (toDeadline d r b p s).mono, absentPairs s d r b⟩] } := by
      rw [stagingDeadline_ready hd hp ho hk hl, schDie_congr (congrArg _ (keeps_noteBacklog d _ .sch (by decide))), makeReady_schDie,
        absentPairs_toDeadline, schDie_congr (congrArg _ (ht .sch (by decide)))]
    refine ⟨⟨_, congrArg SchDie.ready hdie⟩, by rw [hdie], ?_, ?_⟩
    · rw [stagingDeadline_ready hd hp ho hk hl]
      exact keeps_trans (keeps_trans (keeps_mono (by simp) ht) (keeps_mono (by simp) (keeps_makeReady d r b _)))
        (keeps_mono (by simp) (keeps_noteBacklog d _))
    · rw [stagingDeadline_ready hd hp ho hk hl]
      exact sameRegs_trans (sameRegs_of_eq (t := makeReady d r b (toDeadline d r b p s))
        ((keeps_makeReady d r b _ .regs (by decide)).trans (ht .regs (by decide)))) (sameRegs_noteBacklog d _)
  case owned =>
    intro s u d r b p hd hr hp ho hu
    exact ⟨_, rfl, by simp [stagingDeadline, hp, ho, hu]⟩
  case noPlan =>
    intro s d r b hp
    exact ⟨_, rfl, by simp [stagingDeadline, hp]⟩
  case stored =>
    intro s d c k h errs q rest p e hd hl hc hs hrest hp hg hh hf he
    refine ⟨_, rfl, ?_⟩
    rw [stageLoad_cur errs hl hc hp]
    obtain ⟨hframe, ⟨l, hdie⟩, hregs⟩ := loadStep_stored (errs := errs) hs hrest hg hh hf he
    rw [stageStored_schDie h errs q c rest e s hd] at hdie
    have hk := keeps_stageStored h errs q c rest e s hd
    refine ⟨by rw [hdie]; rfl, by rw [hdie]; rfl, ?_, counted_congr (stageStored_counted h errs q c rest e s hd)
      (hregs _ (by decide) (by decide) (by decide)), (hframe .mem (by decide)).trans (hk .mem (by decide)),
      keeps_trans (keeps_mono (by simp) hk) (keeps_mono (by simp) hframe)⟩
    refine ⟨⟨e.first, (stageRead d errs q c e s).1⟩, ?_, rfl, stageRead_block d errs q c e s⟩
    rw [halfOf, hdie]
    by_cases h0 : h = 0 <;> simp [h0, halfTaken]
  case waits =>
    intro s d c k h errs q rest hd hl hc hs hp hh hf
    obtain ⟨p, hp⟩ := Option.isSome_iff_exists.1 hp
    obtain ⟨hkeep, hdie⟩ := passHalf_spec d h s
    refine ⟨_, rfl, ?_⟩
    rw [stageLoad_cur errs hl hc hp, loadStep_waits hs hh hf]
    exact ⟨rfl, hdie, hkeep⟩
  case goesOn =>
    intro s d errs q p hl hc hp
    exact ⟨_, rfl, stageLoad_cur errs hl hc hp⟩
  case begins =>
    intro s d errs x p hd hl hc hx hp
    obtain ⟨q, hq, hr, hb, ha, hs⟩ := beginBatch_cur d x p s
    exact ⟨_, rfl, q, hq, hr, hb, ha, hs, fun hp' => stageLoad_begin errs hl hc hx hp hq (by rw [hr]; exact hp')⟩
  case idle =>
    intro s d errs h
    exact ⟨_, rfl, stageLoad_idle errs h⟩

/-! ## A lane that loses lock with a step of rate due (R99, R102) -/

/-- What a lane is after its TRAIN frame: its own frame sent, and the switch of rate taken where it was due (R95, R99). -/
theorem sprSendTrain_lane (n : Nat) (s : State) : sprLane (sprSendTrain n s) n =
    afterSend s.mono (sprLane s n).txFseq (frameSent 2
      (sentTrain (if inBundle (sprLane s n) then n % 4 else 0) 0 7 (sprLane s n)) (sprLane s n)) := by
  unfold sprSendTrain sprSend
  dsimp only
  rw [sprLane_setSprLane, sprLane_setSprLane]
  rfl

/-- An acknowledged step of rate whose SWITCH_FSEQ a lane's TRAIN frame carries takes the lane to LOCK, whatever state it is in (R99). -/
theorem sprSendTrain_switches {n r : Nat} {s : State} (hs : (sprLane s n).stepping = some (r, (sprLane s n).txFseq))
    (ha : (sprLane s n).stepAcked = true) : (sprLane (sprSendTrain n s) n).st = .lock := by
  rw [sprSendTrain_lane]
  simp [afterSend, frameSent, hs, ha]

/-- A lane in RUN, three uncorrectable codewords in a row behind it, that holds an acknowledged step of rate for its next FSEQ: no
clause of the statement excludes it. -/
def steppingLane : LaneTrain := { st := .run, bad := 3, stepping := some (1, 0), stepAcked := true }

/-- Lane 0 powered and enabled in that condition, its retry threshold 0. -/
def steppingState : State :=
  { setReg (sprPage 0) R.RETRY_CFG 0 (setFld (sprPage 0) F.PAGE_CTRL_ENABLE 1
      (setFld 0 F.PAGE_STATUS_READY 1 (setReg 0x3F0 R.PWR_DOMAIN_STATUS 0xFFFFFF State.reset))) with
    spr := { lanes := [(0, steppingLane)] } }

/-- An uncorrectable frame. -/
def badFrame : RxFrame := ⟨2, 0, []⟩

/-- The fourth uncorrectable frame starts the fast retrain, which keeps the step that is due. -/
theorem steppingState_retrains : (sprLane (rxInRun 0 badFrame steppingState) 0).st = .retrain ∧
    (sprLane (rxInRun 0 badFrame steppingState) 0).stepping = some (1, (sprLane (rxInRun 0 badFrame steppingState) 0).txFseq) ∧
    (sprLane (rxInRun 0 badFrame steppingState) 0).stepAcked = true := by decide +kernel

/-- The reply to that frame, the first TRAIN frame of the retrain, carries the SWITCH_FSEQ: the lane leaves RETRAIN for LOCK. -/
theorem steppingState_locks : exec (.idleFrame 0 badFrame) steppingState = .next (sprReply 0 (rxInRun 0 badFrame steppingState)) ∧
    (sprLane (sprReply 0 (rxInRun 0 badFrame steppingState)) 0).st = .lock := by
  obtain ⟨hst, hstep, hack⟩ := steppingState_retrains
  refine ⟨?_, ?_⟩
  · have hlive : pageLive steppingState (sprPage 0) = true := by decide +kernel
    have hrun : (sprLane steppingState 0).st = .run := by decide +kernel
    simp [exec, execIdleFrame, sprReceive, hlive, hrun]
  · rw [sprReply, hst]
    exact sprSendTrain_switches hstep hack

/-- Refutes O13: its second clause says that the lane is in RETRAIN after the fourth uncorrectable frame. A lane that holds an
acknowledged step of rate (`steppingLane`) keeps it over the start of the retrain; where its next FSEQ is the SWITCH_FSEQ, the frame it
answers with makes the switch, and it is in LOCK. -/
theorem not_spurFramesInRun : ¬ Obligations.SpurFramesInRun := by
  unfold Obligations.SpurFramesInRun
  rintro ⟨-, hlost, -⟩
  obtain ⟨t, ht, -, -, hretrain, -⟩ := hlost steppingState 0 badFrame (by decide) (by decide +kernel) (by decide +kernel)
    (by decide +kernel) (by decide) (by decide +kernel) (by decide +kernel) (by decide +kernel)
  obtain ⟨hexec, hlock⟩ := steppingState_locks
  obtain rfl : sprReply 0 (rxInRun 0 badFrame steppingState) = t := by rw [hexec] at ht; injection ht
  rw [hlock] at hretrain
  cases hretrain

end Sys2Proof.Machine
end

section
/-! PROOFS. The numbers: I48 values and their codes, T48 codes and what they round and convert to, and the sums of both. -/

namespace Sys2Proof.Machine

/-! ## I48 values and their codes (R34 to R40) -/

/-- The values that have a code: the finite ones within ±(2^47 − 2), the infinities and VOID (R34). -/
def I48.Coded : I48 → Prop
  | .fin x => -i48Max ≤ x ∧ x ≤ i48Max
  | _ => True

theorem coded_i48OfCode (c : Code48) : (i48OfCode c).Coded := by
  have hne {x : Code48} {n : Int} (h : c ≠ x) (hx : x.toInt = n) : c.toInt ≠ n :=
    fun e => h (BitVec.eq_of_toInt_eq (e.trans hx.symm))
  have hlt : c.toInt < 2 ^ 47 := BitVec.toInt_lt
  have hle : -2 ^ 47 ≤ c.toInt := BitVec.le_toInt c
  unfold i48OfCode
  split_ifs with hpos hneg hvoid
  · trivial
  · trivial
  · trivial
  · have h1 := hne (n := 2 ^ 47 - 1) hpos (by decide)
    have h2 := hne (n := -(2 ^ 47 - 1)) hneg (by decide)
    have h3 := hne (n := -2 ^ 47) hvoid (by decide)
    simp only [I48.Coded, i48Max]
    omega

/-- The code of a finite value is its two's complement, none of the three codes set apart (R34). -/
theorem i48OfCode_ofInt {x : Int} (h : -i48Max ≤ x ∧ x ≤ i48Max) : i48OfCode (BitVec.ofInt 48 x) = .fin x := by
  simp only [i48Max] at h
  have ht : (BitVec.ofInt 48 x).toInt = x := by
    rw [BitVec.toInt_ofInt]
    exact Int.bmod_eq_of_le (by omega) (by omega)
  have hne {c : Code48} {n : Int} (hc : c.toInt = n) (hn : x ≠ n) : BitVec.ofInt 48 x ≠ c := by
    rintro rfl
    exact hn (ht.symm.trans hc)
  unfold i48OfCode
  rw [if_neg (hne (n := 2 ^ 47 - 1) (by decide) (by omega)), if_neg (hne (n := -(2 ^ 47 - 1)) (by decide) (by omega)),
    if_neg (hne (n := -2 ^ 47) (by decide) (by omega)), ht]

/-- A value that has a code is what its code stands for (R34). -/
theorem i48OfCode_i48Code {v : I48} (h : v.Coded) : i48OfCode (i48Code v) = v := by
  cases v with
  | fin x => exact i48OfCode_ofInt h
  | posInf => rfl
  | negInf => rfl
  | void => rfl

/-- An exact integer as I48, the range written out (R36). -/
theorem i48OfInt_eq (x : Int) : i48OfInt x =
    if -(2 ^ 47 - 2) ≤ x ∧ x ≤ 2 ^ 47 - 2 then .fin x else if 0 < x then .posInf else .negInf := by
  have hiff : (-(2 ^ 47 - 2) ≤ x ∧ x ≤ 2 ^ 47 - 2) ↔ (¬ i48Max < x ∧ ¬ x < -i48Max) := by
    rw [not_lt, not_lt, And.comm]
    rfl
  unfold i48OfInt
  by_cases hhi : i48Max < x
  · have hpos : 0 < x := lt_trans (by decide) hhi
    rw [if_pos hhi, if_neg (fun h => (hiff.1 h).1 hhi), if_pos hpos]
  · by_cases hlo : x < -i48Max
    · have hneg : ¬ 0 < x := not_lt.2 (le_of_lt (lt_trans hlo (by decide)))
      rw [if_neg hhi, if_pos hlo, if_neg (fun h => (hiff.1 h).2 hlo), if_neg hneg]
    · rw [if_neg hhi, if_neg hlo, if_pos (hiff.2 ⟨hhi, hlo⟩)]

theorem coded_i48OfInt (x : Int) : (i48OfInt x).Coded := by
  unfold i48OfInt
  split_ifs with hhi hlo
  · trivial
  · trivial
  · exact ⟨not_lt.1 hlo, not_lt.1 hhi⟩

theorem coded_i48Add (a b : I48) : (i48Add a b).Coded := by
  cases a with
  | fin x =>
    cases b with
    | fin y => exact coded_i48OfInt (x + y)
    | posInf | negInf | void => trivial
  | posInf | negInf | void => cases b <;> trivial

theorem coded_i48Neg {a : I48} (h : a.Coded) : (i48Neg a).Coded := by
  cases a with
  | fin x => exact ⟨neg_le_neg h.2, neg_le.1 h.1⟩
  | posInf | negInf | void => trivial

theorem i48Add_comm (a b : I48) : i48Add a b = i48Add b a := by
  cases a with
  | fin x =>
    cases b with
    | fin y => exact congrArg i48OfInt (Int.add_comm x y)
    | posInf | negInf | void => rfl
  | posInf | negInf | void => cases b <;> rfl

/-- The sum of two codes stands for the sum of what they stand for (R37). -/
theorem i48OfCode_add (a b : Code48) : i48OfCode (code48Add false a b) = i48Add (i48OfCode a) (i48OfCode b) :=
  i48OfCode_i48Code (coded_i48Add _ _)

/-- The code of a negated value stands for it (R40). -/
theorem i48OfCode_neg (a : Code48) : i48OfCode (i48Code (i48Neg (i48OfCode a))) = i48Neg (i48OfCode a) :=
  i48OfCode_i48Code (coded_i48Neg (coded_i48OfCode a))

/-! ## The fields of a T48 code (R42 to R44) -/

/-- The T48 code of a sign, an exponent and a fraction (R42). -/
def t48Pack (neg : Bool) (ex f : Nat) : Code48 := BitVec.ofNat 48 ((if neg then 2 ^ 47 else 0) + ex * 2 ^ 39 + f)

section Pack
variable {neg : Bool} {ex f : Nat} (he : ex < 256) (hf : f < 2 ^ 39)
include he hf

theorem t48Pack_toNat : (t48Pack neg ex f).toNat = (if neg then 2 ^ 47 else 0) + ex * 2 ^ 39 + f := by
  rw [t48Pack, BitVec.toNat_ofNat]
  split <;> omega

theorem t48Sign_pack : t48Sign (t48Pack neg ex f) = neg := by
  rw [t48Sign, BitVec.getLsbD, t48Pack_toNat he hf, Nat.testBit_eq_decide_div_mod_eq]
  cases neg
  · exact decide_eq_false (by simp only [Bool.false_eq_true, if_false]; omega)
  · exact decide_eq_true (by simp only [if_true]; omega)

theorem t48Exp_pack : t48Exp (t48Pack neg ex f) = ex := by
  rw [t48Exp, natField, t48Pack_toNat he hf]
  split <;> omega

theorem t48Frac_pack : t48Frac (t48Pack neg ex f) = f := by
  rw [t48Frac, natField, t48Pack_toNat he hf]
  split <;> omega

end Pack

theorem t48IsNan_of_exp {c : Code48} (h : t48Exp c < 255) : t48IsNan c = false :=
  decide_eq_false (fun hc => by omega)

theorem t48IsInf_of_exp {c : Code48} (h : t48Exp c < 255) : t48IsInf c = false :=
  decide_eq_false (fun hc => by omega)

/-- An infinity is no NaN (R44). -/
theorem t48IsNan_of_isInf {c : Code48} (h : t48IsInf c = true) : t48IsNan c = false :=
  decide_eq_false (fun hc => hc.2 (of_decide_eq_true h).2)

/-! ## Rounding to T48 (R45) -/

/-- The 40-bit significand a magnitude `x` is rounded to, and its exponent before it is held to the range of T48 (R45). -/
def t48Norm (x : Nat) (e : Int) : Nat × Int :=
  if Nat.log2 x + 1 ≤ 40 then (x * 2 ^ (40 - (Nat.log2 x + 1)), e - ((40 - (Nat.log2 x + 1) : Nat) : Int))
  else if (roundShift (x : Int) (Nat.log2 x + 1 - 40)).toNat = 2 ^ 40 then
    (2 ^ 39, e + ((Nat.log2 x + 1 - 40 : Nat) : Int) + 1)
  else ((roundShift (x : Int) (Nat.log2 x + 1 - 40)).toNat, e + ((Nat.log2 x + 1 - 40 : Nat) : Int))

theorem t48Round_zero (neg : Bool) (e : Int) : t48Round neg 0 e = t48Zero neg := rfl

theorem t48Round_norm (neg : Bool) {x : Nat} (e : Int) (h : x ≠ 0) : t48Round neg x e =
    if 254 < (t48Norm x e).2 then t48Inf neg
    else if (t48Norm x e).2 < 1 then t48Zero neg
    else t48Pack neg (t48Norm x e).2.toNat ((t48Norm x e).1 - 2 ^ 39) := by
  rw [t48Round, if_neg h]
  rfl

/-- A multiple of 2^k is divided by it exactly. -/
theorem roundShift_mul_pow (x : Int) (k : Nat) : roundShift (x * 2 ^ k) k = x := by
  unfold roundShift
  split_ifs with hk
  · simp [hk]
  · have hd : ((2 ^ k : Nat) : Int) = 2 ^ k := by norm_num
    have hpos : (0 : Int) < 2 ^ k := by positivity
    simp only [hd, Int.mul_emod_left, Int.mul_ediv_cancel x hpos.ne', mul_zero, if_pos hpos]

/-- What is rounded does not pass a bound that is exact. -/
theorem roundShift_le {x M : Int} {k : Nat} (h : x ≤ M * 2 ^ k) : roundShift x k ≤ M := by
  unfold roundShift
  split_ifs with hk
  · simpa [hk] using h
  · have hd : ((2 ^ k : Nat) : Int) = 2 ^ k := by norm_num
    have hpos : (0 : Int) < 2 ^ k := by positivity
    have hq : x / 2 ^ k ≤ M := Int.ediv_le_of_le_mul hpos h
    have hlt (hr : 2 * (x % 2 ^ k) ≥ 2 ^ k) : x / 2 ^ k < M := by
      refine lt_of_le_of_ne hq (fun hM => ?_)
      have := Int.mul_ediv_add_emod x (2 ^ k)
      rw [hM, Int.mul_comm] at this
      omega
    simp only [hd]
    split_ifs <;> omega

/-- The significand has at most 40 bits. -/
theorem t48Norm_fst_lt (x : Nat) (e : Int) : (t48Norm x e).1 < 2 ^ 40 := by
  have hx : x < 2 ^ (Nat.log2 x + 1) := Nat.lt_log2_self
  unfold t48Norm
  split_ifs with hl hr
  · calc x * 2 ^ (40 - (Nat.log2 x + 1)) < 2 ^ (Nat.log2 x + 1) * 2 ^ (40 - (Nat.log2 x + 1)) :=
          Nat.mul_lt_mul_of_pos_right hx (by positivity)
      _ = 2 ^ 40 := by rw [← Nat.pow_add]; congr 1; omega
  · exact Nat.pow_lt_pow_right (by decide) (by decide)
  · have hle : roundShift (x : Int) (Nat.log2 x + 1 - 40) ≤ 2 ^ 40 := by
      refine roundShift_le ?_
      rw [← pow_add]
      have : 40 + (Nat.log2 x + 1 - 40) = Nat.log2 x + 1 := by omega
      rw [this]
      exact_mod_cast hx.le
    dsimp only at hr ⊢
    omega

/-- The exponent of a magnitude below 2^n. -/
theorem t48Norm_snd_le {x n : Nat} (e : Int) (h0 : x ≠ 0) (hx : x < 2 ^ n) : (t48Norm x e).2 ≤ e + n - 39 := by
  have hn : Nat.log2 x < n := (Nat.log2_lt h0).2 hx
  unfold t48Norm
  split_ifs with hl hr
  · dsimp only; omega
  · dsimp only; omega
  · dsimp only; omega

/-- A magnitude below 2^n, of exponent e, rounds to a code whose exponent field is at most e + n − 39: no infinity and no NaN. -/
theorem t48Exp_round_le (neg : Bool) {x n B : Nat} {e : Int} (hx : x < 2 ^ n) (hB : e + n ≤ B + 39) (hB' : B ≤ 254) :
    t48Exp (t48Round neg x e) ≤ B := by
  have hzero : t48Exp (t48Zero neg) = 0 := by cases neg <;> rfl
  by_cases h0 : x = 0
  · rw [h0, t48Round_zero, hzero]; omega
  · have hle := t48Norm_snd_le e h0 hx
    have hlt := t48Norm_fst_lt x e
    rw [t48Round_norm neg e h0, if_neg (by omega)]
    split_ifs with h1
    · rw [hzero]; omega
    · rw [t48Exp_pack (by omega) (by omega)]; omega

/-- A magnitude of at most 2^40 is held exactly: shifted up to 40 bits, or 2^40 itself. -/
theorem t48Norm_small {x : Nat} (e : Int) (h0 : x ≠ 0) (hx : x ≤ 2 ^ 40) :
    (∃ k : Nat, k < 40 ∧ t48Norm x e = (x * 2 ^ k, e - k) ∧ 2 ^ 39 ≤ x * 2 ^ k) ∨ (x = 2 ^ 40 ∧ t48Norm x e = (2 ^ 39, e + 1)) := by
  by_cases h : x = 2 ^ 40
  · subst h
    refine .inr ⟨rfl, ?_⟩
    have hl : Nat.log2 (2 ^ 40) = 40 := Nat.log2_two_pow
    have hr : roundShift ((2 ^ 40 : Nat) : Int) 1 = 2 ^ 39 := by decide
    simp only [t48Norm, hl, if_neg (show ¬ 40 + 1 ≤ 40 by decide), show 40 + 1 - 40 = 1 from rfl, hr]
    rfl
  · have hl : Nat.log2 x < 40 := (Nat.log2_lt h0).2 (by omega)
    have hself : 2 ^ Nat.log2 x ≤ x := Nat.log2_self_le h0
    refine .inl ⟨40 - (Nat.log2 x + 1), by omega, ?_, ?_⟩
    · simp only [t48Norm, if_pos (show Nat.log2 x + 1 ≤ 40 by omega)]
    · calc 2 ^ 39 = 2 ^ Nat.log2 x * 2 ^ (40 - (Nat.log2 x + 1)) := by rw [← Nat.pow_add]; congr 1; omega
        _ ≤ x * 2 ^ (40 - (Nat.log2 x + 1)) := Nat.mul_le_mul_right _ hself

/-! ## Conversions between I48 and T48 (R48, R49) -/

/-- An integer of a sign and a magnitude. -/
def signed (neg : Bool) (x : Nat) : Int := if neg then -(x : Int) else x

theorem natAbs_signed (neg : Bool) (x : Nat) : (signed neg x).natAbs = x := by
  cases neg <;> simp [signed]

theorem signed_natAbs (x : Int) : signed (decide (x < 0)) x.natAbs = x := by
  by_cases hx : x < 0
  · simp only [signed, hx, decide_true, if_true]
    omega
  · simp only [signed, hx, decide_false, Bool.false_eq_true, if_false]
    omega

theorem roundShift_signed (neg : Bool) (x k : Nat) : roundShift (signed neg (x * 2 ^ k)) k = signed neg x := by
  cases neg
  · simpa [signed] using roundShift_mul_pow x k
  · simpa [signed] using roundShift_mul_pow (-x) k

/-- What a T48 code that counts fractions of 1 converts to: its significand rounded to an integer (R49). -/
theorem i48OfT48_pack {neg : Bool} {k f : Nat} (hk : k < 166) (hf : f < 2 ^ 39) :
    i48OfT48 (t48Pack neg (166 - k) f) = (i48OfInt (roundShift (signed neg (2 ^ 39 + f)) k), 0) := by
  have he : 166 - k < 256 := by omega
  have hexp : t48Exp (t48Pack neg (166 - k) f) < 255 := by rw [t48Exp_pack he hf]; omega
  have hparts : t48Parts (t48Pack neg (166 - k) f) = (signed neg (2 ^ 39 + f), 166 - k) := by
    rw [t48Parts, t48Exp_pack he hf, t48Frac_pack he hf, t48Sign_pack he hf, if_neg (by omega)]
    rfl
  rw [i48OfT48, if_neg (by simp [t48IsNan_of_exp hexp]), if_neg (by simp [t48IsInf_of_exp hexp]), hparts]
  dsimp only
  by_cases h0 : k = 0
  · subst h0
    simp [roundShift]
  · rw [if_neg (by omega), show 166 - (166 - k) = k by omega]

/-- A magnitude of at most 2^40 converts to T48 and back unchanged (R48, R49). -/
theorem i48OfT48_round (neg : Bool) {x : Nat} (hx : x ≤ 2 ^ 40) : i48OfT48 (t48Round neg x 166) = (.fin (signed neg x), 0) := by
  by_cases h0 : x = 0
  · subst h0
    cases neg <;> decide
  · rcases t48Norm_small 166 h0 hx with ⟨k, hk, hn, hle⟩ | ⟨rfl, hn⟩
    · have hlt : x * 2 ^ k < 2 ^ 40 := by simpa [hn] using t48Norm_fst_lt x 166
      have hex : ((166 : Int) - k).toNat = 166 - k := by omega
      have hfin : i48OfInt (signed neg x) = .fin (signed neg x) := by
        have := natAbs_signed neg x
        rw [i48OfInt_eq, if_pos (by omega)]
      rw [t48Round_norm neg 166 h0, hn, if_neg (by dsimp only; omega), if_neg (by dsimp only; omega), hex,
        i48OfT48_pack (by omega) (by dsimp only; omega), Nat.add_sub_cancel' hle, roundShift_signed, hfin]
    · cases neg <;> decide

/-! ## T48 addition (R46, R47) -/

theorem t48Add_nan_left {a : Code48} (b : Code48) (h : t48IsNan a = true) : t48Add a b = a := by
  rw [t48Add, if_pos h]

theorem t48Add_nan_right {a b : Code48} (ha : t48IsNan a = false) (hb : t48IsNan b = true) : t48Add a b = b := by
  simp [t48Add, ha, hb]

/-- Infinities of opposite signs conflict: a NaN of cause 1 (R46). -/
theorem t48Add_conflict {a b : Code48} (ha : t48IsInf a = true) (hb : t48IsInf b = true) (hs : t48Sign a ≠ t48Sign b) :
    t48Add a b = t48Nan 1 := by
  simp [t48Add, t48IsNan_of_isInf ha, t48IsNan_of_isInf hb, ha, hb, hs]

/-- An infinity and a finite value give that infinity, whichever is first (R46). -/
theorem t48Add_inf_finite {a b : Code48} (ha : t48IsInf a = true) (hn : t48IsNan b = false) (hi : t48IsInf b = false) :
    t48Add a b = a ∧ t48Add b a = a := by
  simp [t48Add, t48IsNan_of_isInf ha, ha, hn, hi]

/-- Settles O1: the code of a sum or of a negation stands for the value itself (`i48OfCode_add`, `i48OfCode_neg`), which the tables of R37
and R40 give; the conversions and T48 sums case by case. -/
theorem i48Arithmetic : Obligations.I48Arithmetic := by
  unfold Obligations.I48Arithmetic
  refine ⟨?sum, ?table, ?negation, ?conversion, ?t48Sum⟩
  case sum =>
    intro a b x y ha hb
    rw [i48OfCode_add, ha, hb, ← i48OfInt_eq]
    rfl
  case table =>
    intro a b x
    have hcomm : code48Add false a b = code48Add false b a := congrArg i48Code (i48Add_comm _ _)
    simp only [i48OfCode_add]
    refine ⟨hcomm, ?_, ?_, ?_, ?_⟩
    · intro ha
      rw [ha]
      rfl
    · intro ha hb
      rw [ha, hb]
      rfl
    · rintro ha (hb | hb) <;> rw [ha, hb] <;> rfl
    · rintro ha (hb | hb) <;> rw [ha, hb] <;> rfl
  case negation =>
    intro a x
    rw [i48OfCode_neg]
    exact ⟨fun ha => by rw [ha]; rfl, fun ha => by rw [ha]; rfl, fun ha => by rw [ha]; rfl, fun ha => by rw [ha]; rfl⟩
  case conversion =>
    intro x k hlo hhi
    have h := i48OfT48_round (decide (x < 0)) (x := x.natAbs) (by omega)
    rwa [signed_natAbs] at h
  case t48Sum =>
    intro a b
    exact ⟨t48Add_nan_left b, t48Add_nan_right, t48Add_conflict, t48Add_inf_finite⟩

end Sys2Proof.Machine
end

section
/-! PROOFS. Tally: spans of HBM that reads and writes reach, a slot taken and written back, and outcomes that enter their slots. -/

namespace Sys2Proof.Machine

/-! ## Parts of a span of HBM (R328, R329, R336, R346) -/

theorem memRead_length (s : State) (a n : Nat) : (memRead s a n).length = n := by
  induction n generalizing a with
  | zero => rfl
  | succ n ih => simp [memRead, ih]

theorem memRead_add (s : State) (a m n : Nat) : memRead s a (m + n) = memRead s a m ++ memRead s (a + m) n := by
  induction m generalizing a with
  | zero => simp [memRead]
  | succ m ih =>
    rw [show m + 1 + n = m + n + 1 by omega, memRead, memRead, ih, show a + 1 + m = a + (m + 1) by omega]
    rfl

theorem memRead_congr {s t : State} (h : t.mem = s.mem) (a n : Nat) : memRead t a n = memRead s a n := by
  induction n generalizing a with
  | zero => rfl
  | succ n ih => simp only [memRead, ih, memGet, h]

/-- Bytes outside the reserved span read as they are stored (R329). -/
theorem hbmBytes_free {s : State} {a n : Nat} (h : ∀ k, k < n → hbmReserved (a + k) = false) : hbmBytes s a n = memRead s a n := by
  induction n generalizing a with
  | zero => rfl
  | succ n ih =>
    have h0 : hbmReserved a = false := h 0 (by omega)
    rw [hbmBytes, memRead, h0, ih (fun k hk => by rw [show a + 1 + k = a + (k + 1) by omega]; exact h (k + 1) (by omega))]
    rfl

/-- Bytes `n` from `a` that every master may reach: in HBM, outside the reserved span, in stacks that refuse nothing, no firing
armed there (R75, R328, R329, R334). -/
structure Reachable (s : State) (a n : Nat) : Prop where
  short : n ≤ 0x10000000
  idle : unarmed s (hbmPage (stackOf a))
  served : hbmRefuses s a n = false
  usable : touchesReserved a n = false

/-- Part of a span shorter than the reserved span, its ends outside that, lies in one stack (R328, R329). -/
theorem stackOf_part {a n o : Nat} (ht : touchesReserved a n = false) (hn : n ≤ 0x10000000) (ho : o < n) :
    stackOf (a + o) = stackOf a := by
  rw [touchesReserved, Bool.or_eq_false_iff, hbmReserved_eq_false, hbmReserved_eq_false] at ht
  unfold stackOf stackBytes
  omega

theorem hbmRefuses_eq_false {s : State} {a n : Nat} : hbmRefuses s a n = false ↔
    a + n ≤ 4 * stackBytes ∧ stackRefuses s (stackOf a) = false ∧ stackRefuses s (stackOf (a + n - 1)) = false := by
  simp [hbmRefuses, hbmInside, and_assoc]

/-- What can be reached can be reached in part. -/
theorem Reachable.part {s : State} {a n o m : Nat} (h : Reachable s a n) (hm : m ≠ 0) (ho : o + m ≤ n) : Reachable s (a + o) m := by
  have hfree (k : Nat) (hk : k < n) : hbmReserved (a + k) = false := hbmReserved_between h.usable h.short hk
  have hstack (k : Nat) (hk : k < n) : stackOf (a + k) = stackOf a := stackOf_part h.usable h.short hk
  have hlast : a + o + m - 1 = a + (o + m - 1) := by omega
  obtain ⟨hin, hst, -⟩ := hbmRefuses_eq_false.1 h.served
  have hshort := h.short
  refine ⟨by omega, ?_, hbmRefuses_eq_false.2 ⟨by omega, ?_, ?_⟩, ?_⟩
  · rw [hstack o (by omega)]; exact h.idle
  · rw [hstack o (by omega)]; exact hst
  · rw [hlast, hstack _ (by omega)]; exact hst
  · rw [touchesReserved, hlast, hfree o (by omega), hfree _ (by omega)]; rfl

/-- The start of a span that can be reached. -/
theorem Reachable.head {s : State} {a n m : Nat} (h : Reachable s a n) (hm : m ≠ 0) (hle : m ≤ n) : Reachable s a m :=
  h.part (o := 0) hm (by omega)

theorem badWords_eq_nil {s : State} {a n : Nat} : badWords s a n = [] ↔
    ∀ w, a / 32 ≤ w → w < (a + n + 31) / 32 → w ∉ s.hbm.poison ∧ rowFenced s (w * 32) = false := by
  unfold badWords
  split_ifs with he
  · obtain ⟨hp, hf⟩ : s.hbm.poison = [] ∧ s.hbm.fenced = [] := by simpa using he
    simp [rowFenced, hp, hf]
  · simp only [List.filter_eq_nil_iff, List.forall_mem_map, List.mem_range, Bool.or_eq_true, decide_eq_true_eq, not_or, Bool.not_eq_true]
    constructor
    · intro h w hlo hhi
      have := h (w - a / 32) (by omega)
      rwa [Nat.add_sub_cancel' hlo] at this
    · exact fun h k hk => h (a / 32 + k) (by omega) (by omega)

/-- Part of a span without bad words has none. -/
theorem badWords_part {s : State} {a n o m : Nat} (h : badWords s a n = []) (ho : o + m ≤ n) : badWords s (a + o) m = [] := by
  rw [badWords_eq_nil] at h ⊢
  exact fun w hlo hhi => h w (by omega) (by omega)

/-- The 32 bytes of a word lie in one row (R330, R337). -/
theorem rowUnit_word (a : Nat) : rowUnit (a / 32 * 32) = rowUnit a := by
  have hs : stackOf (a / 32 * 32) = stackOf a := by unfold stackOf stackBytes; omega
  have hg : stackOff (a / 32 * 32) / 256 = stackOff a / 256 := by unfold stackOff stackBytes; omega
  have hh : hpcOf (a / 32 * 32) = hpcOf a := by unfold hpcOf; rw [hs, hg]
  have hp : pcOffset (a / 32 * 32) / 1024 = pcOffset a / 1024 := by unfold pcOffset; rw [hg]; omega
  have hr : pcRow (a / 32 * 32) = pcRow a := by unfold pcRow; omega
  have hb : pcBank (a / 32 * 32) = pcBank a := by unfold pcBank; omega
  have hi : pcSid (a / 32 * 32) = pcSid a := by unfold pcSid; omega
  simp only [rowUnit, hs, hh, hr, hb, hi]

theorem rowFenced_word (s : State) (a : Nat) : rowFenced s (a / 32 * 32) = rowFenced s a := by
  rw [rowFenced, rowUnit_word, rowFenced]

/-- No byte of a span without bad words lies in a fenced row (R336, R338). -/
theorem rowFenced_of_badWords {s : State} {a n k : Nat} (h : badWords s a n = []) (hk : k < n) : rowFenced s (a + k) = false := by
  rw [← rowFenced_word]
  exact (badWords_eq_nil.1 h ((a + k) / 32) (by omega) (by omega)).2

/-- A span that meets no fence meets none at its start (R346). -/
theorem fenceHit_head {s : State} {a n m : Nat} (h : fenceHit s a n = none) (hm : m ≤ n) : fenceHit s a m = none := by
  rw [fenceHit, List.head?_eq_none_iff, fencesHit, List.filter_eq_nil_iff] at h ⊢
  intro f hf hc
  have := h f hf
  simp only [decide_eq_true_eq] at hc this
  omega

/-! ## Reads that are served (R329, R334, R336) -/

/-- What reads that are served leave: the counters of the HBM pages alone change. -/
structure ServedOnly (s t : State) : Prop where
  frame : keeps [.regs] s t
  regs : ∀ p off, off < 0x1000 → p < 0x230 ∨ off ≠ R.HBM_CNT → reg t p off = reg s p off

theorem servedOnly_refl (s : State) : ServedOnly s s := ⟨keeps_refl _ _, fun _ _ _ _ => rfl⟩

theorem ServedOnly.trans {s t u : State} (h : ServedOnly s t) (k : ServedOnly t u) : ServedOnly s u :=
  ⟨keeps_trans h.frame k.frame, fun p off ho hp => (k.regs p off ho hp).trans (h.regs p off ho hp)⟩

theorem servedOnly_countServed (a n : Nat) (s : State) : ServedOnly s (countServed a n s) :=
  ⟨keeps_countK _ _ _ _ _, fun p off ho hp => reg_setReg_ne _ _ (regAddr_ne ho (by decide) (by
    rcases hp with hp | hp
    · exact .inl (show p ≠ 0x230 + stackOf a by omega)
    · exact .inr hp))⟩

section Served
variable {s t : State} (h : ServedOnly s t)
include h

theorem ServedOnly.mem : t.mem = s.mem := h.frame .mem (by decide)
theorem ServedOnly.hbm : t.hbm = s.hbm := h.frame .hbm (by decide)
theorem ServedOnly.armed : t.armed = s.armed := h.frame .armed (by decide)

theorem ServedOnly.rowFenced_eq (a : Nat) : rowFenced t a = rowFenced s a := by simp only [rowFenced, h.hbm]

theorem ServedOnly.badWords_eq (a n : Nat) : badWords t a n = badWords s a n := by
  simp only [badWords, h.hbm, h.rowFenced_eq]

theorem ServedOnly.fenceHit_eq (a n : Nat) : fenceHit t a n = fenceHit s a n := by simp only [fenceHit, fencesHit, h.hbm]

/-- A served read leaves a span that can be reached so. -/
theorem ServedOnly.reachable {a n : Nat} (k : Reachable s a n) : Reachable t a n := by
  have hst (d : Nat) : stackRefuses t d = stackRefuses s d := by
    have hf : fld t (hbmPage d) F.HBM_STATUS_STATE = fld s (hbmPage d) F.HBM_STATUS_STATE := by
      rw [fld, fld, h.regs _ _ (by decide) (.inr (by decide))]
    rw [stackRefuses, stackRefuses, hf]
  refine ⟨k.short, ?_, ?_, k.usable⟩
  · rw [unarmed, h.armed]; exact k.idle
  · rw [hbmRefuses, hst, hst]; exact k.served

/-- A served read leaves what a gang makes of a region (R262, R263). -/
theorem ServedOnly.gang {r : Nat} (hr : r < 16) :
    gangSize t = gangSize s ∧ gangMember t = gangMember s ∧ gangMode t r = gangMode s r := by
  have hf {f : FieldRef} (ho : f.off < 0x1000) (hn : f.off ≠ R.HBM_CNT) : fld t 0x320 f = fld s 0x320 f := by
    rw [fld, fld, h.regs _ _ ho (.inr hn)]
  have hsize : gangSize t = gangSize s := congrArg (2 ^ ·) (hf (by decide) (by decide))
  have hmode : fld t 0x320 (F.ZHK_REGION_MODE.at r) = fld s 0x320 (F.ZHK_REGION_MODE.at r) :=
    hf (show 0x248 + 8 * r < 0x1000 by omega) (show 0x248 + 8 * r ≠ 0x180 by omega)
  exact ⟨hsize, hf (by decide) (by decide), by rw [gangMode, gangMode, hsize, hmode]⟩

end Served

theorem countServed_mem (a n : Nat) (s : State) : (countServed a n s).mem = s.mem := rfl

/-- A read that is served and finds no bad word returns the bytes stored there (R329, R336). -/
theorem hbmRead_served {s : State} {a n : Nat} (h : Reachable s a n) (hn : n ≠ 0) (hb : badWords s a n = []) :
    hbmRead a n s = (⟨memRead s a n, false, false⟩, countServed a n s) := by
  have hbad : badWords (countServed a n s) a n = [] := hb
  have hbytes : hbmBytes (countServed a n s) a n = memRead s a n := by
    rw [hbmBytes_free (fun k hk => hbmReserved_between h.usable h.short hk), memRead_congr (countServed_mem a n s)]
  simp only [hbmRead, if_neg hn, h.served, takeArmed_unarmed _ h.idle, h.usable, stickyIf, Bool.or_self, Bool.false_eq_true, if_false,
    hbad, hbytes, List.isEmpty_nil, Bool.not_true, List.foldl_nil]

/-! ## The bytes of a slot (R35, R226, R227) -/

theorem hdrBytes_length (h : SlotHdr) : h.bytes.length = 64 := by
  simp [SlotHdr.bytes, leBytes_length]

theorem codeBytes_length (l : List Code48) : (codeBytes l).length = 6 * l.length := by
  rw [codeBytes, List.length_flatMap, List.map_congr_left (fun c _ => leBytes_length 6 c.toNat)]
  simp [Nat.mul_comm]

theorem codesOf_length (n : Nat) (l : List Byte) : (codesOf n l).length = n := by
  induction n generalizing l with
  | zero => rfl
  | succ n ih => simp [codesOf, ih]

/-- Codes are read from the bytes they are packed in, whatever follows these (R35). -/
theorem codesOf_append {m n : Nat} {l k : List Byte} (h : l.length = 6 * m) : codesOf (m + n) (l ++ k) = codesOf m l ++ codesOf n k := by
  induction m generalizing l with
  | zero =>
    obtain rfl : l = [] := List.eq_nil_of_length_eq_zero h
    simp [codesOf]
  | succ m ih =>
    have htake : (l ++ k).take 6 = l.take 6 := List.take_append_of_le_length (by omega)
    have hdrop : (l ++ k).drop 6 = l.drop 6 ++ k := List.drop_append_of_le_length (by omega)
    rw [show m + 1 + n = m + n + 1 by omega, codesOf, codesOf, htake, hdrop, ih (by rw [List.length_drop]; omega)]
    rfl

/-- Blocks without bad words are read as they are stored, none poisoned (R35, R53, R336). -/
theorem readBlocks_served {float : Bool} {n a : Nat} {s : State} (h : Reachable s a (192 * n)) (hb : badWords s a (192 * n) = []) :
    blockVals (readBlocks float a n s).1 = codesOf (32 * n) (memRead s a (192 * n)) ∧ poisonedVals (readBlocks float a n s).1 = 0 ∧
      ServedOnly s (readBlocks float a n s).2 := by
  induction n generalizing a s with
  | zero => exact ⟨rfl, rfl, servedOnly_refl s⟩
  | succ n ih =>
    have hserved := servedOnly_countServed a 192 s
    have hread : hbmRead a 192 s = (⟨memRead s a 192, false, false⟩, countServed a 192 s) :=
      hbmRead_served (h.head (by decide) (by omega)) (by decide) (badWords_part (o := 0) hb (by omega))
    have hmem : memRead s a (192 * (n + 1)) = memRead s a 192 ++ memRead s (a + 192) (192 * n) := by
      rw [show 192 * (n + 1) = 192 + 192 * n by omega, memRead_add]
    have hrest : blockVals (readBlocks float (a + 192) n (countServed a 192 s)).1 = codesOf (32 * n) (memRead s (a + 192) (192 * n)) ∧
        poisonedVals (readBlocks float (a + 192) n (countServed a 192 s)).1 = 0 ∧
        ServedOnly (countServed a 192 s) (readBlocks float (a + 192) n (countServed a 192 s)).2 := by
      by_cases hn : n = 0
      · subst hn
        exact ⟨rfl, rfl, servedOnly_refl _⟩
      · rw [← memRead_congr (countServed_mem a 192 s)]
        exact ih (hserved.reachable (h.part (by omega) (by omega))) ((hserved.badWords_eq _ _).trans (badWords_part hb (by omega)))
    obtain ⟨hvals, hpoison, hstate⟩ := hrest
    rw [readBlocks, hread]
    refine ⟨?_, ?_, hserved.trans hstate⟩
    · rw [hmem, show 32 * (n + 1) = 32 + 32 * n by omega, codesOf_append (memRead_length s a 192), ← hvals]
      rfl
    · simpa [poisonedVals] using hpoison

/-! ## A slot as Tally takes it (R230, R238) -/

theorem TlyCtx.region_lt (c : TlyCtx) : c.region < 16 := Nat.mod_lt _ (by decide)

/-- A served read leaves the producers of a slot and the one it holds here. -/
theorem ServedOnly.slot {s t : State} (h : ServedOnly s t) (c : TlyCtx) (q : SlotId) :
    slotWays t c q = slotWays s c q ∧ slotProducer t c q = slotProducer s c q := by
  obtain ⟨hsize, hmember, hmode⟩ := h.gang c.region_lt
  exact ⟨by rw [slotWays, slotWays, hsize, hmode], by rw [slotProducer, slotProducer, hmember, hmode]⟩

theorem slotProducer_slot (s : State) (c : TlyCtx) (q : SlotId) : (slotProducer s c q).slot = q.slot := by
  unfold slotProducer; split <;> rfl
theorem slotProducer_chan (s : State) (c : TlyCtx) (q : SlotId) : (slotProducer s c q).chan = q.chan := by
  unfold slotProducer; split <;> rfl
theorem slotWays_producer (s : State) (c : TlyCtx) (q : SlotId) : slotWays s c (slotProducer s c q) = slotWays s c q := by
  unfold slotWays slotProducer; split <;> rfl

/-- The zeroes a slot begins with where its context preloads none. -/
def zeroVals (float : Bool) : List Code48 := List.replicate 2048 (code48OfInt float 0)

theorem zeroVals_length (float : Bool) : (zeroVals float).length = 2048 := List.length_replicate

section Take
variable {s : State} {c : TlyCtx} {g : Integ} {q : SlotId} {a : Nat} (d : Nat) (h : Reachable s a slotBytes)
  (ha : c.slotAddr (g.num % 2) q.slot q.chan = a)
include h ha

/-- A stale slot of a context with PRELOAD ZERO begins with a fresh header over zeroes (R230, R238). -/
theorem takeSlot_stale (hb : badWords s a 64 = []) (hint : (hdrOf (memRead s a 64)).int ≠ g.num) (hp : c.preload = 0) :
    ∃ t, takeSlot d c g q s = (⟨freshHdr g c.length (slotWays s c q) (slotProducer s c q), zeroVals c.float⟩, t) ∧ ServedOnly s t := by
  have hs := servedOnly_countServed a 64 s
  refine ⟨countServed a 64 s, ?_, hs⟩
  simp only [takeSlot, slotProducer_slot, slotProducer_chan, ha, hbmRead_served (h.head (by decide) (by decide)) (by decide) hb, slotStale,
    Bool.or_self, Bool.false_eq_true, if_false, hint, ne_eq, not_false_eq_true, decide_true, if_true, preloadSlot, hp, Bool.true_or,
    (hs.slot c _).1, slotWays_producer, zeroVals]

/-- A slot that holds the integration is taken as it is stored (R230). -/
theorem takeSlot_held (hb : badWords s a slotBytes = []) (hint : (hdrOf (memRead s a 64)).int = g.num) :
    ∃ t, takeSlot d c g q s = (⟨hdrOf (memRead s a 64), codesOf 2048 (memRead s (a + 64) 12288)⟩, t) ∧ ServedOnly s t := by
  have hs := servedOnly_countServed a 64 s
  obtain ⟨hvals, hpoison, hread⟩ := readBlocks_served (float := c.float) (n := 64)
    (hs.reachable (h.part (o := 64) (by decide) (by decide))) ((hs.badWords_eq _ _).trans (badWords_part hb (by decide)))
  rw [memRead_congr hs.mem] at hvals
  refine ⟨_, ?_, hs.trans hread⟩
  simp only [takeSlot, slotProducer_slot, slotProducer_chan, ha, hbmRead_served (h.head (by decide) (by decide)) (by decide)
    (badWords_part (o := 0) (m := 64) hb (by decide)), slotStale, Bool.or_self, Bool.false_eq_true, if_false, hint, ne_eq,
    not_true_eq_false, decide_false, stickyIf, hvals, hpoison, if_true]

end Take

/-! ## A slot written back -/

/-- What an outcome leaves that is written to its slot at `a` and counted in TLY_CNT[k]. -/
structure Entered (d k a : Nat) (l : List Byte) (s t : State) : Prop where
  mem : t.mem = (memWrite a l s).mem
  frame : keeps [.mem, .hbm, .regs] s t
  counts : counted s t (tlyPage d) R.TLY_CNT k 1

/-- A slot at `a` that can be reached and that neither a fence nor a fenced row holds (R338, R346). -/
structure SlotFree (s : State) (a : Nat) : Prop where
  reach : Reachable s a slotBytes
  unfenced : fenceHit s a slotBytes = none
  rows : ∀ k, k < slotBytes → rowFenced s (a + k) = false

/-- Bytes of a slot that is free to be written, taken in `t`, are written and counted. -/
theorem entered_write {s t : State} {l : List Byte} {d k a : Nat} (hs : ServedOnly s t) (hd : d < 4) (hk : k < 11)
    (h : SlotFree s a) (h0 : l.length ≠ 0) (hl : l.length ≤ slotBytes) :
    Entered d k a l s (countK (tlyPage d) R.TLY_CNT k 1 (hbmWrite a l t).2) := by
  have ht := hs.reachable (h.reach.head h0 hl)
  obtain ⟨hmem, hkeep, hregs⟩ := hbmWrite_granted_spec ht.idle ht.served ((hs.fenceHit_eq _ _).trans (fenceHit_head h.unfenced hl))
    ht.usable ht.short (fun k hk => (hs.rowFenced_eq _).trans (h.rows k (by omega)))
  have hoff : R.TLY_CNT + 8 * k < 0x1000 := by simp only [R.TLY_CNT]; omega
  have hp : tlyPage d < 0x230 := by simp only [tlyPage]; omega
  refine ⟨hmem.trans (memWrite_mem_congr hs.mem _ _), ?_, counted_of_eq (counted_countK _ _ _ _ _) ?_⟩
  · exact keeps_trans (keeps_trans (keeps_mono (by simp) hs.frame) hkeep) (keeps_mono (by simp) (keeps_countK _ _ _ _ _))
  · rw [hregs _ _ hp hoff, hs.regs _ _ hoff (.inl hp)]

/-- A slot written back takes the bytes of its header and its components. -/
theorem entered_putSlot {s t : State} {c : TlyCtx} {g : Integ} {q : SlotId} {hdr : SlotHdr} {vals : List Code48}
    {d k a : Nat} (hs : ServedOnly s t) (hd : d < 4) (hk : k < 11) (ha : c.slotAddr (g.num % 2) q.slot q.chan = a) (h : SlotFree s a)
    (hv : vals.length ≤ 2048) :
    Entered d k a (hdr.bytes ++ codeBytes vals) s (countK (tlyPage d) R.TLY_CNT k 1 (putSlot c g q ⟨hdr, vals⟩ t)) := by
  have hlen : (hdr.bytes ++ codeBytes vals).length = 64 + 6 * vals.length := by
    rw [List.length_append, hdrBytes_length, codeBytes_length]
  rw [putSlot, ha]
  exact entered_write hs hd hk h (by omega) (by rw [hlen, slotBytes]; omega)

/-! ## Dumps and misses applied to a slot (R230, R51, R234) -/

/-- Codes none of which is VOID, a NaN or an infinity. -/
def allFinite (float : Bool) (l : List Code48) : Bool := l.all (fun v => !code48Void float v && !code48Inf float v)

theorem newlyIs_eq_zero {p : Code48 → Bool} {old new : List Code48} (h : ∀ v ∈ new, p v = false) : newlyIs p old new = 0 := by
  rw [newlyIs, List.length_eq_zero_iff, List.filter_eq_nil_iff]
  intro x hx
  simp [h x.2 (List.of_mem_zip (a := x.1) (b := x.2) hx).2]

section Finite
variable {float : Bool} {new : List Code48} (h : allFinite float new = true) (old : List Code48)
include h

/-- Finite sums turn no component VOID or infinite. -/
theorem newlyIs_finite : newlyIs (code48Void float) old new = 0 ∧ newlyIs (code48Inf float) old new = 0 := by
  have hall : ∀ v ∈ new, code48Void float v = false ∧ code48Inf float v = false := by simpa [allFinite] using h
  exact ⟨newlyIs_eq_zero (fun v hv => (hall v hv).1), newlyIs_eq_zero (fun v hv => (hall v hv).2)⟩

/-- They leave the header as it is. -/
theorem turnedHdr_finite (hdr : SlotHdr) : turnedHdr float hdr old new = hdr := by
  obtain ⟨hv, hi⟩ := newlyIs_finite h old
  simp only [turnedHdr, hv, hi, if_true]

end Finite

theorem addDump_length (float : Bool) (vals : List Code48) (x : List (Int × Int)) : (addDump float vals x).length ≤ vals.length := by
  simp [addDump]

/-- No injection acts on a slot where no detector is armed (R248). -/
theorem injectSlot_unarmed {d : Nat} {s : State} (h : unarmed s (tlyPage d)) (float : Bool) (v : SlotVal) :
    injectSlot d float v s = (v, s) := by
  simp [injectSlot, takeArmed_unarmed _ h]

section Apply
variable {s t : State} {d a : Nat} {x : TlyItem} {c : TlyCtx} {g : Integ} {hdr : SlotHdr} {vals : List Code48}
  (ht : takeSlot d c g x.slotId s = (⟨hdr, vals⟩, t)) (hs : ServedOnly s t) (hd : d < 4)
  (ha : c.slotAddr (g.num % 2) x.slot x.chan = a) (h : SlotFree s a) (hlen : vals.length ≤ 2048)
include ht hs hd ha h hlen

/-- A dump whose sums are finite is added to the slot taken, which is counted (R230 step 2). -/
theorem dump_enters (hk : x.kind = .dump) (hu : unarmed s (tlyPage d)) (hf : allFinite c.float (addDump c.float vals x.values) = true) :
    Entered d 0 a ({ hdr with counted := sat32 hdr.counted 1 }.bytes ++ codeBytes (addDump c.float vals x.values)) s
      (applySlot d x c g s) := by
  obtain ⟨hv, hi⟩ := newlyIs_finite hf vals
  have hu' : unarmed t (tlyPage d) := by rw [unarmed, hs.armed]; exact hu
  have happly : applySlot d x c g s = countK (tlyPage d) R.TLY_CNT 0 1
      (putSlot c g x.slotId ⟨{ hdr with counted := sat32 hdr.counted 1 }, addDump c.float vals x.values⟩ t) := by
    simp only [applySlot, ht, hk, turnedHdr_finite hf, hv, hi, noteFirst, if_true, injectSlot_unarmed hu']
  rw [happly]
  exact entered_putSlot hs hd (by decide) ha h ((addDump_length _ _ _).trans hlen)

/-- A miss notice raises MISSED of the slot taken alone (R230 step 3). -/
theorem miss_enters (hk : x.kind = .miss) :
    Entered d 1 a ({ hdr with missed := sat32 hdr.missed 1 }.bytes ++ codeBytes vals) s (applySlot d x c g s) := by
  have happly : applySlot d x c g s = countK (tlyPage d) R.TLY_CNT 1 1
      (putSlot c g x.slotId ⟨{ hdr with missed := sat32 hdr.missed 1 }, vals⟩ t) := by
    simp only [applySlot, ht, hk]
  rw [happly]
  exact entered_putSlot hs hd (by decide) ha h hlen

end Apply

/-- Nothing is counted in a fresh header (R230 step 1). -/
theorem freshHdr_counted (g : Integ) (n k : Nat) (q : SlotId) : sat32 (freshHdr g n k q).counted 1 = 1 := by
  simp [freshHdr, sat32, satAdd]

/-- Nor missed, where no skipped integration has left jobs (R236). -/
theorem freshHdr_missed {g : Integ} (h : g.carry = []) (n k : Nat) (q : SlotId) : sat32 (freshHdr g n k q).missed 1 = 1 := by
  simp [freshHdr, h, carriedJobs, sat32, satAdd]

/-! ## A dump over zeroes is finite (R37, R41, R45, R46) -/

/-- A code whose exponent is none of a NaN or an infinity is finite (R44). -/
theorem t48_finite_of_exp {c : Code48} (h : t48Exp c < 255) : code48Void true c = false ∧ code48Inf true c = false :=
  ⟨t48IsNan_of_exp h, t48IsInf_of_exp h⟩

theorem t48Parts_bounds (c : Code48) : (t48Parts c).1.natAbs < 2 ^ 40 ∧ (t48Parts c).2 = t48Exp c := by
  have hfrac : t48Frac c < 2 ^ 39 := Nat.mod_lt _ (by decide)
  unfold t48Parts
  split
  · rename_i h
    exact ⟨by decide, h.symm⟩
  · refine ⟨?_, rfl⟩
    dsimp only
    split <;> omega

/-- Zero and a code of exponent e add up to one of exponent e + 1 at most (R45). -/
theorem t48Exp_zero_add_le {c : Code48} (h : t48Exp c ≤ 253) : t48Exp (t48Add (t48Zero false) c) ≤ t48Exp c + 1 := by
  have hfin : t48Exp c < 255 := by omega
  have hzexp (neg : Bool) : t48Exp (t48Zero neg) = 0 := by cases neg <;> rfl
  have hzero : t48IsNan (t48Zero false) = false ∧ t48IsInf (t48Zero false) = false ∧ t48Parts (t48Zero false) = (0, 0) := by decide
  obtain ⟨hzn, hzi, hzp⟩ := hzero
  obtain ⟨hm, he⟩ := t48Parts_bounds c
  have hadd : t48Add (t48Zero false) c = t48AddFinite (t48Zero false) c := by
    simp [t48Add, hzn, hzi, t48IsNan_of_exp hfin, t48IsInf_of_exp hfin]
  rw [hadd, t48AddFinite, hzp]
  dsimp only
  split
  · rw [hzexp]
    exact Nat.zero_le _
  · refine t48Exp_round_le _ (n := 40 + t48Exp c) ?_ (by push_cast; omega) (by omega)
    rw [he, Nat.zero_min, Nat.sub_zero, zero_mul, zero_add, Int.natAbs_mul, Int.natAbs_natCast, Nat.pow_add]
    exact Nat.mul_lt_mul_of_pos_right hm (by positivity)

theorem code48OfInt_float (y : Int) : code48OfInt true y = t48OfExact y 166 := rfl
theorem t48OfExact_zero (e : Int) : t48OfExact 0 e = t48Zero false := rfl
theorem code48Add_float (a b : Code48) : code48Add true a b = t48Add a b := rfl

/-- Zero plus an integer well inside 48 bits is finite in both formats. -/
theorem zero_add_finite (float : Bool) {y : Int} (h : y.natAbs < 2 ^ 46) :
    code48Void float (code48Add float (code48OfInt float 0) (code48OfInt float y)) = false ∧
      code48Inf float (code48Add float (code48OfInt float 0) (code48OfInt float y)) = false := by
  cases float with
  | true =>
    have hexp : t48Exp (t48OfExact y 166) ≤ 173 := t48Exp_round_le _ h (by decide) (by decide)
    have hsum := t48Exp_zero_add_le (hexp.trans (by decide))
    rw [code48OfInt_float, code48OfInt_float, t48OfExact_zero, code48Add_float]
    exact t48_finite_of_exp (by omega)
  | false =>
    have hy : i48OfInt y = .fin y := by rw [i48OfInt_eq, if_pos (by omega)]
    have hval : i48OfCode (code48Add false (code48OfInt false 0) (code48OfInt false y)) = .fin y := by
      have hzero : i48OfCode (code48OfInt false 0) = .fin 0 := by decide
      have hcode : i48OfCode (code48OfInt false y) = .fin y := by
        rw [← hy]
        exact i48OfCode_i48Code (coded_i48OfInt y)
      rw [i48OfCode_add, hzero, hcode, i48Add, zero_add, hy]
    simp [code48Void, code48Inf, hval]

theorem addDump_zero_finite {float : Bool} {x : List (Int × Int)} (h : ∀ p ∈ x, p.1.natAbs < 2 ^ 46 ∧ p.2.natAbs < 2 ^ 46) :
    allFinite float (addDump float (zeroVals float) x) = true := by
  rw [allFinite, List.all_eq_true]
  intro v hv
  obtain ⟨⟨z, y⟩, hmem, rfl⟩ := List.mem_map.1 hv
  obtain ⟨hz, hy⟩ := List.of_mem_zip hmem
  obtain rfl : z = code48OfInt float 0 := List.eq_of_mem_replicate hz
  have hsmall : y.natAbs < 2 ^ 46 := by
    obtain ⟨p, hp, hy⟩ := List.mem_flatMap.1 hy
    obtain ⟨h1, h2⟩ := h p hp
    rcases List.mem_pair.1 hy with rfl | rfl
    · exact h1
    · exact h2
  obtain ⟨hvoid, hinf⟩ := zero_add_finite float hsmall
  simp [hvoid, hinf]

/-! ## Outcomes leave the inbox (R230, R231) -/

theorem removeFirst_head {α : Type} [DecidableEq α] (x : α) (l : List α) : removeFirst (fun y => decide (y = x)) (x :: l) = l := by
  simp [removeFirst]

/-- An outcome in front of the inbox that Tally can take, behind none of its slot, is the one taken; no dump is held while the reorder
store has room. -/
theorem tallyTake_front {s : State} {d held : Nat} {kinds : List TlyKind} {x : TlyItem} {l : List TlyItem}
    (hin : (tlyDie s d).inbox = x :: l) (hk : x.kind ∈ kinds) (ha : outcomesAhead x (x :: l) = [])
    (hroom : (tlyDie s d).reorder.length < 256) : tallyTake d kinds held s = takeOne d s x := by
  have hcan (y : TlyItem) : canTake s d y = true := by simp [canTake, hroom]
  have hnone : ((x :: l).filter (fun y => decide (y.kind ∈ kinds))).any (dumpHeld s d) = false := by
    simp [dumpHeld, hcan]
  rw [tallyTake, hin, hnone, List.filter_cons_of_pos (by simpa using hk), List.find?_cons_of_pos (hcan x)]
  dsimp only
  rw [ha]
  rfl

/-- With nothing waiting Tally does nothing. -/
theorem tallyTake_empty {s : State} {d : Nat} (kinds : List TlyKind) (hin : (tlyDie s d).inbox = []) : tallyTake d kinds 0 s = s := by
  simp [tallyTake, hin]

/-- The state with the inbox `l` and the waits `w`. -/
def inboxLeft (d : Nat) (l : List TlyItem) (w : List TlyWait) (s : State) : State :=
  setTlyDie d { tlyDie s d with inbox := l, waits := w } s

theorem inboxLeft_tlyDie (d : Nat) (l : List TlyItem) (w : List TlyWait) (s : State) :
    tlyDie (inboxLeft d l w s) d = { tlyDie s d with inbox := l, waits := w } := tlyDie_setTlyDie _ _ _

theorem inboxLeft_ctxOf (d : Nat) (l : List TlyItem) (w : List TlyWait) (s : State) (i : Nat) :
    ctxOf (inboxLeft d l w s) d i = ctxOf s d i := by
  rw [ctxOf, inboxLeft_tlyDie]; rfl

theorem setTlyDie_setTlyDie (d : Nat) (y z : TlyDie) (s : State) : setTlyDie d z (setTlyDie d y s) = setTlyDie d z s := by
  simp [setTlyDie, alSet, sparseSet_set]

/-- An outcome taken out of the inbox ends or begins a wait of its slot (R231). -/
theorem noteWait_taken (d : Nat) (x : TlyItem) (l : List TlyItem) (s : State) :
    ∃ w, noteWait d x (setTlyDie d { tlyDie s d with inbox := l } s) = inboxLeft d l w s := by
  unfold noteWait
  rw [setTlyDie_setTlyDie, tlyDie_setTlyDie]
  exact ⟨_, rfl⟩

theorem drainReorder_empty {d : Nat} {s : State} (h : (tlyDie s d).reorder = []) : drainReorder d s = s := by
  rw [drainReorder, h]; rfl

/-- An integration changed in place leaves every part but Tally, and of its die every part but the contexts. -/
theorem updInteg_spec (d ctx n : Nat) (f : Integ → Integ) (s : State) : keeps [.tly] s (updInteg d ctx n f s) ∧
    ∃ c, tlyDie (updInteg d ctx n f s) d = { tlyDie s d with ctxs := c } := by
  unfold updInteg setCtx
  dsimp only
  split
  · exact ⟨keeps_setTlyDie _ _ _, _, tlyDie_setTlyDie _ _ _⟩
  · exact ⟨keeps_refl _ _, _, rfl⟩

/-- So does an outcome taken off its integration's account. -/
theorem settleItem_spec (d : Nat) (x : TlyItem) (b : Bool) (s : State) : keeps [.tly] s (settleItem d x b s) ∧
    ∃ c, tlyDie (settleItem d x b s) d = { tlyDie s d with ctxs := c } := by
  unfold settleItem
  split
  · exact ⟨keeps_refl _ _, _, rfl⟩
  · exact updInteg_spec _ _ _ _ _

/-- While the page is disabled nothing waits (R249). -/
theorem mustWait_disabled {s : State} {d : Nat} (h : flag s (tlyPage d) F.PAGE_CTRL_ENABLE = false) (x : TlyItem) :
    mustWait s d x = false := by
  unfold mustWait
  split
  · rfl
  · simp [h]

section Taken
variable {s : State} {d held : Nat} {kinds : List TlyKind} {x : TlyItem} {l : List TlyItem} (hin : (tlyDie s d).inbox = x :: l)
  (hk : x.kind ∈ kinds) (ha : outcomesAhead x (x :: l) = []) (hr : (tlyDie s d).reorder = [])
include hin hk ha hr

/-- An outcome that need not wait leaves the inbox and is applied. -/
theorem tallyTake_applies (hw : mustWait s d x = false) : tallyTake d kinds held s =
    drainReorder d (applyItem d x (setTlyDie d { tlyDie s d with inbox := l } s)) := by
  have hcan : canTake s d x = true := by simp [canTake, hw]
  rw [tallyTake_front hin hk ha (by rw [hr]; decide), takeOne, hin, removeFirst_head]
  simp [hcan, hw]

/-- An outcome of a live integration, the page enabled, enters its slot (R230). -/
theorem tallyTake_enters {g : Integ} (hw : mustWait s d x = false) (hg : itemInteg s d x = some g)
    (he : flag s (tlyPage d) F.PAGE_CTRL_ENABLE = true)
    (hs : g.skipped = false) (hne : x.kind ≠ .resolve)
    (hkeep : ∀ w, keeps [.mem, .hbm, .regs] (inboxLeft d l w s) (applySlot d x (ctxOf s d x.ctx) g (inboxLeft d l w s))) :
    ∃ w, tallyTake d kinds held s = settleItem d x true (applySlot d x (ctxOf s d x.ctx) g (inboxLeft d l w s)) := by
  obtain ⟨w, hnote⟩ := noteWait_taken d x l s
  have hg' : itemInteg (inboxLeft d l w s) d x = some g := by rw [itemInteg, inboxLeft_ctxOf]; exact hg
  have he' : flag (inboxLeft d l w s) (tlyPage d) F.PAGE_CTRL_ENABLE = true := he
  obtain ⟨-, c, hdie⟩ := settleItem_spec d x true (applySlot d x (ctxOf s d x.ctx) g (inboxLeft d l w s))
  refine ⟨w, ?_⟩
  rw [tallyTake_applies hin hk ha hr hw, applyItem, hnote]
  simp only [he', hg', hs, hne, inboxLeft_ctxOf, Bool.not_true, decide_false, Bool.or_self, Bool.false_eq_true, if_false]
  refine drainReorder_empty ?_
  rw [hdie, tlyDie_congr (hkeep w .tly (by decide)), inboxLeft_tlyDie]
  exact hr

/-- While the page is disabled an outcome is discarded and counted (R249). -/
theorem tallyTake_disabled (he : flag s (tlyPage d) F.PAGE_CTRL_ENABLE = false) (hne : x.kind ≠ .resolve) :
    ∃ w, tallyTake d kinds held s = settleItem d x false (countK (tlyPage d) R.TLY_CNT 1 1 (inboxLeft d l w s)) := by
  obtain ⟨w, hnote⟩ := noteWait_taken d x l s
  have he' : flag (inboxLeft d l w s) (tlyPage d) F.PAGE_CTRL_ENABLE = false := he
  obtain ⟨-, c, hdie⟩ := settleItem_spec d x false (countK (tlyPage d) R.TLY_CNT 1 1 (inboxLeft d l w s))
  refine ⟨w, ?_⟩
  rw [tallyTake_applies hin hk ha hr (mustWait_disabled he x), applyItem, hnote]
  simp only [he', hne, Bool.not_false, if_true, if_false]
  refine drainReorder_empty ?_
  rw [hdie, tlyDie_countK, inboxLeft_tlyDie]
  exact hr

end Taken

/-! ## Outcomes that enter their slots (R230) -/

/-- A slot is as free, and holds as much, once an outcome has left the inbox. -/
theorem SlotFree.inboxLeft {s : State} {a : Nat} (h : SlotFree s a) (d : Nat) (l : List TlyItem) (w : List TlyWait) :
    SlotFree (inboxLeft d l w s) a :=
  ⟨⟨h.reach.short, h.reach.idle, h.reach.served, h.reach.usable⟩, h.unfenced, h.rows⟩

theorem inboxLeft_memRead (d : Nat) (l : List TlyItem) (w : List TlyWait) (s : State) (a n : Nat) :
    memRead (inboxLeft d l w s) a n = memRead s a n := memRead_congr (s := s) (t := inboxLeft d l w s) rfl a n
theorem inboxLeft_slotWays (d : Nat) (l : List TlyItem) (w : List TlyWait) (s : State) (c : TlyCtx) (q : SlotId) :
    slotWays (inboxLeft d l w s) c q = slotWays s c q := rfl
theorem inboxLeft_slotProducer (d : Nat) (l : List TlyItem) (w : List TlyWait) (s : State) (c : TlyCtx) (q : SlotId) :
    slotProducer (inboxLeft d l w s) c q = slotProducer s c q := rfl

section Enter
variable {s : State} {d a : Nat} {x : TlyItem} {c : TlyCtx} {g : Integ} (l : List TlyItem) (w : List TlyWait) (hd : d < 4)
  (ha : c.slotAddr (g.num % 2) x.slot x.chan = a) (h : SlotFree s a)
include hd ha h

/-- A dump for a stale slot enters it over zeroes. -/
theorem dump_enters_stale (hk : x.kind = .dump) (hu : unarmed s (tlyPage d)) (hb : badWords s a 64 = [])
    (hint : (hdrOf (memRead s a 64)).int ≠ g.num) (hp : c.preload = 0)
    (hf : allFinite c.float (addDump c.float (zeroVals c.float) x.values) = true) :
    Entered d 0 a ({ freshHdr g c.length (slotWays s c x.slotId) (slotProducer s c x.slotId) with counted := 1 }.bytes ++
      codeBytes (addDump c.float (zeroVals c.float) x.values)) (inboxLeft d l w s) (applySlot d x c g (inboxLeft d l w s)) := by
  have hfree := h.inboxLeft d l w
  obtain ⟨t, ht, hs⟩ := takeSlot_stale (q := x.slotId) d hfree.reach ha hb (by rw [inboxLeft_memRead]; exact hint) hp
  have he := dump_enters ht hs hd ha hfree (zeroVals_length _).le hk hu hf
  rwa [freshHdr_counted, inboxLeft_slotWays, inboxLeft_slotProducer] at he

/-- A dump for a slot that holds its integration is added to what is stored. -/
theorem dump_enters_held (hk : x.kind = .dump) (hu : unarmed s (tlyPage d)) (hb : badWords s a slotBytes = [])
    (hint : (hdrOf (memRead s a 64)).int = g.num)
    (hf : allFinite c.float (addDump c.float (codesOf 2048 (memRead s (a + 64) 12288)) x.values) = true) :
    Entered d 0 a ({ hdrOf (memRead s a 64) with counted := sat32 (hdrOf (memRead s a 64)).counted 1 }.bytes ++
      codeBytes (addDump c.float (codesOf 2048 (memRead s (a + 64) 12288)) x.values)) (inboxLeft d l w s)
      (applySlot d x c g (inboxLeft d l w s)) := by
  have hfree := h.inboxLeft d l w
  obtain ⟨t, ht, hs⟩ := takeSlot_held (q := x.slotId) d hfree.reach ha hb (by rw [inboxLeft_memRead]; exact hint)
  rw [inboxLeft_memRead, inboxLeft_memRead] at ht
  exact dump_enters ht hs hd ha hfree (codesOf_length _ _).le hk hu hf

/-- A miss notice for a stale slot enters it over zeroes. -/
theorem miss_enters_stale (hk : x.kind = .miss) (hb : badWords s a 64 = []) (hint : (hdrOf (memRead s a 64)).int ≠ g.num)
    (hp : c.preload = 0) (hc : g.carry = []) :
    Entered d 1 a ({ freshHdr g c.length (slotWays s c x.slotId) (slotProducer s c x.slotId) with missed := 1 }.bytes ++
      codeBytes (zeroVals c.float)) (inboxLeft d l w s) (applySlot d x c g (inboxLeft d l w s)) := by
  have hfree := h.inboxLeft d l w
  obtain ⟨t, ht, hs⟩ := takeSlot_stale (q := x.slotId) d hfree.reach ha hb (by rw [inboxLeft_memRead]; exact hint) hp
  have he := miss_enters ht hs hd ha hfree (zeroVals_length _).le hk
  rwa [freshHdr_missed hc, inboxLeft_slotWays, inboxLeft_slotProducer] at he

end Enter

/-- What Tally leaves that has taken an outcome out of the inbox, `l` the rest, written its slot and counted it in TLY_CNT[k]. -/
structure SlotWritten (d k a : Nat) (b : List Byte) (l : List TlyItem) (s t : State) : Prop where
  mem : t.mem = (memWrite a b s).mem
  inbox : (tlyDie t d).inbox = l
  counts : counted s t (tlyPage d) R.TLY_CNT k 1
  frame : keeps [.tly, .mem, .hbm, .regs] s t

/-- An outcome whose application writes its slot, whatever waits of its die it ends or begins. -/
theorem tallyTake_slotWritten {s : State} {d held k a : Nat} {kinds : List TlyKind} {x : TlyItem} {l : List TlyItem} {b : List Byte}
    {g : Integ} (hin : (tlyDie s d).inbox = x :: l) (hk : x.kind ∈ kinds) (ha : outcomesAhead x (x :: l) = [])
    (hr : (tlyDie s d).reorder = []) (hw : mustWait s d x = false) (hg : itemInteg s d x = some g) (he : flag s (tlyPage d) F.PAGE_CTRL_ENABLE = true)
    (hs : g.skipped = false) (hne : x.kind ≠ .resolve)
    (hent : ∀ w, Entered d k a b (inboxLeft d l w s) (applySlot d x (ctxOf s d x.ctx) g (inboxLeft d l w s))) :
    SlotWritten d k a b l s (tallyTake d kinds held s) := by
  obtain ⟨w, htake⟩ := tallyTake_enters (held := held) hin hk ha hr hw hg he hs hne (fun w => (hent w).frame)
  obtain ⟨hmem, hframe, hcount⟩ := hent w
  obtain ⟨hkeep, c, hdie⟩ := settleItem_spec d x true (applySlot d x (ctxOf s d x.ctx) g (inboxLeft d l w s))
  rw [htake]
  refine ⟨?_, ?_, ?_, ?_⟩
  · rw [hkeep .mem (by decide), hmem, memWrite_mem_congr (s := s) (t := inboxLeft d l w s) rfl]
  · rw [hdie, tlyDie_congr (hframe .tly (by decide)), inboxLeft_tlyDie]
  · exact counted_congr (s := s) hcount (reg_congr (hkeep .regs (by decide)) _ _)
  · exact keeps_trans (keeps_trans (keeps_mono (by simp) (keeps_setTlyDie d _ s)) (keeps_mono (by simp) hframe))
      (keeps_mono (by simp) hkeep)

/-- Settles O36: the outcome in front is the one taken (`tallyTake_front`); what it writes is what `takeSlot` finds in its slot with the
dump added or the miss counted (`dump_enters`, `miss_enters`), finite for a dump over zeroes (`addDump_zero_finite`). -/
theorem dumpsAndNotices : Obligations.DumpsAndNotices := by
  unfold Obligations.DumpsAndNotices
  refine ⟨?stale, ?held, ?miss, ?disabled, ?waits, ?empty⟩
  case stale =>
    intro s d held a x l c g hd hu hin hahead hre hk hw hc hg he hs hp ha _ href hfence hb ht hhu hrow hint _ hval
    subst hc
    have hfree : SlotFree s a := ⟨⟨by decide, hhu, href, ht⟩, hfence, hrow⟩
    have hwritten := tallyTake_slotWritten (held := held) (kinds := [.dump, .resolve]) hin (by simp [hk]) hahead hre hw hg he hs
      (by simp [hk]) (fun w => dump_enters_stale l w hd ha hfree hk hu hb hint hp (addDump_zero_finite hval))
    exact ⟨_, rfl, hwritten.mem, hwritten.inbox, hwritten.counts, hwritten.frame⟩
  case held =>
    intro s d held a x l c g new hd hu hin hahead hre hk hw hc hg he hs ha href hfence hb ht hhu hint hnew hfin
    subst hc hnew
    have hfree : SlotFree s a :=
      ⟨⟨by decide, hhu, href, ht⟩, hfence, fun _ hk => rowFenced_of_badWords hb hk⟩
    have hwritten := tallyTake_slotWritten (held := held) (kinds := [.dump, .resolve]) hin (by simp [hk]) hahead hre hw hg he hs
      (by simp [hk]) (fun w => dump_enters_held l w hd ha hfree hk hu hb hint hfin)
    exact ⟨_, rfl, hwritten.mem, hwritten.inbox, hwritten.counts, hwritten.frame⟩
  case miss =>
    intro s d a x l c g hd hin hahead hre hk _ hw hc hg he hs hp ha _ href hfence hb ht hhu hrow hint hcarry
    subst hc
    have hfree : SlotFree s a := ⟨⟨by decide, hhu, href, ht⟩, hfence, hrow⟩
    have hwritten := tallyTake_slotWritten (held := 0) (kinds := [.miss]) hin (by simp [hk]) hahead hre hw hg he hs (by simp [hk])
      (fun w => miss_enters_stale l w hd ha hfree hk hb hint hp hcarry)
    exact ⟨_, rfl, hwritten.mem, hwritten.inbox, hwritten.counts, hwritten.frame⟩
  case disabled =>
    intro s d held x l hd hin hahead hre hk he
    obtain ⟨w, htake⟩ := tallyTake_disabled (held := held) (kinds := [.dump, .resolve]) hin (by simp [hk]) hahead hre he (by simp [hk])
    obtain ⟨hkeep, c, hdie⟩ := settleItem_spec d x false (countK (tlyPage d) R.TLY_CNT 1 1 (inboxLeft d l w s))
    have hregs := hkeep .regs (by decide)
    refine ⟨_, rfl, ?_⟩
    rw [htake]
    refine ⟨by rw [hdie, tlyDie_countK, inboxLeft_tlyDie], counted_congr (counted_countK _ _ _ _ _) (reg_congr hregs _ _), ?_, ?_⟩
    · exact keeps_trans (keeps_trans (keeps_mono (by simp) (keeps_setTlyDie d _ s)) (keeps_mono (by simp) (keeps_countK _ _ _ _ _)))
        (keeps_mono (by simp) hkeep)
    · exact sameRegs_trans (sameRegs_countK (s := inboxLeft d l w s) _ (by decide)) (sameRegs_of_eq hregs)
  case waits =>
    intro s d held x l hd hin hahead hk hw hroom
    have hcan : canTake s d x = true := by simp [canTake, hroom]
    have htake : tallyTake d [.dump, .resolve] held s = countK (tlyPage d) R.TLY_CNT 2 1
        (setTlyDie d { tlyDie s d with inbox := l, reorder := (tlyDie s d).reorder ++ [x] } s) := by
      rw [tallyTake_front hin (by simp [hk]) hahead hroom, takeOne, hin, removeFirst_head]
      simp [hcan, hw, hk]
    refine ⟨_, rfl, ?_⟩
    rw [htake]
    refine ⟨?_, ?_, counted_countK _ _ _ _ _, ?_, ?_⟩
    · rw [tlyDie_countK, tlyDie_setTlyDie]
    · rw [tlyDie_countK, tlyDie_setTlyDie]
    · exact keeps_trans (keeps_mono (by simp) (keeps_setTlyDie d _ s)) (keeps_mono (by simp) (keeps_countK _ _ _ _ _))
    · exact sameRegs_countK _ (setTlyDie d _ s) (by decide)
  case empty =>
    intro s d hin
    exact ⟨⟨_, rfl, tallyTake_empty _ hin⟩, ⟨_, rfl, tallyTake_empty _ hin⟩⟩

end Sys2Proof.Machine
end

section
/-! PROOFS. Steps and resets: what a step runs, the stores after reset, and ENABLE after reset. -/

namespace Sys2Proof.Machine

/-- Settles O2: a step looks at the front of the queue alone. -/
theorem stepRunsFrontCommand : Obligations.StepRunsFrontCommand := by
  intro s c rest h
  unfold step
  rw [h]

/-- Settles O5: both stores are empty after reset. -/
theorem storesStartCanonical : Obligations.StoresStartCanonical :=
  ⟨sparseWf_nil _, sparseWf_nil _⟩

/-- A register that nothing has written reads as its reset value. -/
theorem reg_reset (p off : Nat) : reg State.reset p off = regReset (regAddr p off) := rfl

/-- The reset word of PAGE_CTRL of a page outside the MSI-X table (R70). -/
theorem regReset_pageCtrl {p : Nat} {b : Block} (hb : pageBlock p = some b) (hm : b ≠ .msix) (hp : b ≠ .pba) :
    regReset (regAddr p R.PAGE_CTRL) = if enableAtReset b then 1 else 0 := by
  have hpage : regAddr p R.PAGE_CTRL / 0x1000 = p := by simp only [regAddr, R.PAGE_CTRL]; omega
  have hoff : regAddr p R.PAGE_CTRL % 0x1000 = R.PAGE_CTRL := by simp only [regAddr, R.PAGE_CTRL]; omega
  have hh : headerReset b p R.PAGE_CTRL = some (if enableAtReset b then 1 else 0) := by
    simp [headerReset, R.PAGE_CTRL, R.PAGE_ID]
  unfold regReset
  dsimp only
  rw [hpage, hoff, hb]
  simp only [hm, hp, or_self, if_false, hh]
  cases enableAtReset b <;> rfl

/-- Settles O7: the reset word of PAGE_CTRL holds ENABLE alone, by the block of the page. -/
theorem enableAfterReset : Obligations.EnableAfterReset := by
  intro p b hb hm hp
  have h : flag State.reset p F.PAGE_CTRL_ENABLE = enableAtReset b := by
    unfold flag fld
    rw [reg_reset, regReset_pageCtrl hb hm hp]
    cases enableAtReset b <;> rfl
  rw [h]
  cases b <;> decide

end Sys2Proof.Machine
end

section
/-! PROOFS. O6: every operation of the model keeps registers and HBM in canonical form. A register or a byte of HBM changes by `setReg`,
`resetRegs`, `memSet` and the clears of a reset alone; `canonical.f` says that the operation `f` keeps the form, so that for `h : canonical s`
the chain `h.setSticky.countK` is the proof for `countK … (setSticky … s)`. An operation that answers more than a state has the lemma for
the state among its answers. The lemmas stand in the order of the model's definitions. -/

namespace Sys2Proof.Machine

set_option Elab.async false

/-- A property of what an option holds, where it holds something. -/
def EverySome {α : Type} (P : α → Prop) (o : Option α) : Prop := ∀ x, o = some x → P x

section Options
variable {α : Type} {P : α → Prop} {a : α} {o o' : Option α}

theorem EverySome.none : EverySome P none := fun _ h => nomatch h

theorem EverySome.some (h : P a) : EverySome P (some a) := fun _ e => Option.some.inj e ▸ h

theorem EverySome.ite {c : Prop} {_ : Decidable c} (h : EverySome P o) (h' : EverySome P o') : EverySome P (if c then o else o') := by
  split <;> assumption

theorem EverySome.or (h : EverySome P o) (h' : EverySome P o') : EverySome P (o.or o') := by
  cases o
  · exact h'
  · exact h

theorem EverySome.getD (h : EverySome P o) (ha : P a) : P (o.getD a) := by
  cases o
  · exact ha
  · exact h _ rfl

end Options

/-- An operation that keeps the stores canonical. -/
abbrev KeepsCanonical (f : State → State) : Prop := ∀ s, canonical s → canonical (f s)

/-- Every part but the two stores may change. -/
theorem canonical.frame {s : State} {pending mono devFine free out rd wst grants armed retry retryWin msixFn routes evtCounts evtQA evtQB}
    {spr rch rl fpl mrk hbm rng ldg sch tly gge pins tru zhk dma eth tbs chs field ref hwd cmd pwr} (h : canonical s) :
    canonical
      { pending, mono, devFine, free, out, rd, wst, regs := s.regs, grants, armed, retry, retryWin, msixFn, routes, evtCounts, evtQA,
        evtQB, mem := s.mem, spr, rch, rl, fpl, mrk, hbm, rng, ldg, sch, tly, gge, pins, tru, zhk, dma, eth, tbs, chs, field, ref, hwd,
        cmd, pwr } := h

theorem canonical.ite {c : Prop} {_ : Decidable c} {s t : State} (h : canonical s) (h' : canonical t) : canonical (if c then s else t) := by
  split <;> assumption

theorem canonical.ite_fst {α : Type} {c : Prop} {_ : Decidable c} {r q : State × α} (h : canonical r.1) (h' : canonical q.1) :
    canonical (if c then r else q).1 := by
  split <;> assumption

theorem canonical.ite_snd {α : Type} {c : Prop} {_ : Decidable c} {r q : α × State} (h : canonical r.2) (h' : canonical q.2) :
    canonical (if c then r else q).2 := by
  split <;> assumption

theorem canonical.ite_exit {α : Type} {c : Prop} {_ : Decidable c} {x : α} {s : State} {r : α × State} (h : canonical s)
    (h' : canonical r.2) : canonical (if c then (x, s) else r).2 := .ite_snd h h'

theorem canonical.ite_pair {α : Type} {c : Prop} {_ : Decidable c} {x y : α} {s t : State} (h : canonical s) (h' : canonical t) :
    canonical (if c then (x, s) else (y, t)).2 := .ite_snd h h'

theorem canonical.fst_of_eq {α : Type} {r : State × α} {t x} (h : canonical r.1) (e : r = (t, x)) : canonical t := by
  subst e; exact h

theorem canonical.ite_snd_snd {α β : Type} {c : Prop} {_ : Decidable c} {r q : α × β × State} (h : canonical r.2.2) (h' : canonical q.2.2) :
    canonical (if c then r else q).2.2 := by
  split <;> assumption

theorem canonical.foldl {α : Type} {f : State → α → State} {l : List α} {s : State} (h : canonical s)
    (hf : ∀ s x, canonical s → canonical (f s x)) : canonical (l.foldl f s) :=
  List.foldlRecOn l f h fun s hs x _ => hf s x hs

theorem canonical.foldl_snd {α β : Type} {f : β × State → α → β × State} {l : List α} {a : β × State} (h : canonical a.2)
    (hf : ∀ a x, canonical a.2 → canonical (f a x).2) : canonical (l.foldl f a).2 :=
  List.foldlRecOn (motive := fun a => canonical a.2) l f h fun a ha x _ => hf a x ha

/-! ## Shared operations -/

theorem canonical.setReg {p off w s} (h : canonical s) : canonical (setReg p off w s) := canonical_setReg _ _ _ _ h
theorem canonical.resetRegs {p off n s} (h : canonical s) : canonical (resetRegs p off n s) := canonical_resetRegs _ _ _ _ h
theorem canonical.memSet {a b s} (h : canonical s) : canonical (memSet a b s) := canonical_memSet _ _ _ h
theorem canonical.msixRequest {v s} (h : canonical s) : canonical (msixRequest v s) := canonical_msixRequest _ _ h
theorem canonical.evPulse {n e s} (h : canonical s) : canonical (evPulse n e s) := canonical_evPulse _ _ _ h
theorem canonical.setSticky {p b s} (h : canonical s) : canonical (setSticky p b s) := canonical_setSticky _ _ _ h
theorem canonical.stickyIf {c p b s} (h : canonical s) : canonical (stickyIf c p b s) := canonical_stickyIf _ _ _ _ h
theorem canonical.refuseBit {p b s} (h : canonical s) : canonical (refuseBit p b s) := canonical_refuseBit _ _ _ h

/-! ## Registers, time, events and detectors -/

theorem canonical.setFld {p f v s} (h : canonical s) : canonical (setFld p f v s) := h.setReg
theorem canonical.countUp {p off n s} (h : canonical s) : canonical (countUp p off n s) := h.setReg
theorem canonical.countK {p base k n s} (h : canonical s) : canonical (countK p base k n s) := h.countUp
theorem canonical.countFld {p f n s} (h : canonical s) : canonical (countFld p f n s) := h.setFld
theorem canonical.resetBlockRegs {p s} (h : canonical s) : canonical (resetBlockRegs p s) := h.resetRegs

theorem canonical.setRegsFrom {p base l s} (h : canonical s) : canonical (setRegsFrom p base l s) := by
  induction l generalizing base s with
  | nil => exact h
  | cons w l ih => exact ih h.setReg

theorem canonical.send {k unit vals s} (h : canonical s) : canonical (send k unit vals s) := h.frame
theorem canonical.setRd {w s} (h : canonical s) : canonical (setRd w s) := h.frame
theorem canonical.setWst {n s} (h : canonical s) : canonical (setWst n s) := h.frame
theorem canonical.takeFree {s} (h : canonical s) : canonical (takeFree s).2 := h.frame
theorem canonical.runTicks {n s} (h : canonical s) : canonical (runTicks n s) := h.frame
theorem canonical.tick {s} (h : canonical s) : canonical (tick s) := h.runTicks
theorem canonical.idleTick {s} (h : canonical s) : canonical (idleTick s) := h.tick
theorem canonical.advanceTo {t s} (h : canonical s) : canonical (advanceTo t s) := .ite h h.runTicks
theorem canonical.advanceMono {t s} (h : canonical s) : canonical (advanceMono t s) := .ite h h.runTicks
theorem canonical.msixOfEvent {e s} (h : canonical s) : canonical (msixOfEvent e s) := .ite h.msixRequest h
theorem canonical.refuseCfg {p s} (h : canonical s) : canonical (refuseCfg p s) := h.setSticky.setWst

theorem canonical.takeArmed {p b s} (h : canonical s) : canonical (takeArmed p b s).2 := by
  unfold Machine.takeArmed
  dsimp only
  split
  · exact h
  · split
    · exact h.frame
    · exact h
    · exact .ite_snd h.frame (.ite_snd h.frame h.frame)

theorem canonical.evalDetector {p b real s} (h : canonical s) : canonical (evalDetector p b real s).2 := h.takeArmed
theorem canonical.countRetry {p s} (h : canonical s) : canonical (countRetry p s).1 := .ite_fst h.frame.countFld.setSticky h.frame.countFld

/-! ## Marks that meet a write -/

theorem canonical.meetMarks {a claim s} (h : canonical s) : canonical (meetMarks a claim s) := .ite h h.frame

/-! ## Packets and shared outputs -/

theorem canonical.setZhkLink {z l s} (h : canonical s) : canonical (setZhkLink z l s) := h.frame
theorem canonical.setZhkLane {n l s} (h : canonical s) : canonical (setZhkLane n l s) := h.frame

theorem canonical.zhkTry {k s} (h : canonical s) : EverySome canonical (zhkTry k s) := by
  unfold Machine.zhkTry
  dsimp only
  split
  · exact .none
  · exact .ite .none (.some h.setZhkLink.frame)

theorem canonical.zhkSend {k s} (h : canonical s) : canonical (zhkSend k s) := .ite h.frame (h.zhkTry.getD h.frame)

theorem canonical.zhkRetry {s} (h : canonical s) : canonical (zhkRetry s) :=
  h.frame.foldl fun _ _ h => .ite h.frame (h.zhkTry.getD h.frame)

theorem canonical.takeRx {kind dest src s} (h : canonical s) : canonical (takeRx kind dest src s).2 := by
  unfold Machine.takeRx
  dsimp only
  split
  · exact h
  · exact h.setZhkLink

theorem canonical.sharedJudge {i s} (h : canonical s) : canonical (sharedJudge i s) := .ite h h.evalDetector.frame.setReg.stickyIf
theorem canonical.sharedRefresh {s} (h : canonical s) : canonical (sharedRefresh s) := .ite (h.foldl fun _ _ h => h.sharedJudge) h
theorem canonical.reportClaims {s} (h : canonical s) : canonical (reportClaims s) := .ite h (h.foldl fun _ _ h => h.zhkSend)
theorem canonical.claimChanged {s} (h : canonical s) : canonical (claimChanged s) := .ite h.reportClaims.sharedRefresh h

/-! ## Judged writes -/

theorem canonical.storePlain {p off v s} (h : canonical s) : canonical (storePlain p off v s) := h.setReg
theorem canonical.holdLines {d s} (h : canonical s) : canonical (holdLines d s) := h.frame

theorem canonical.suspendLine {g i s} (h : canonical s) : canonical (suspendLine g i s) := by
  unfold Machine.suspendLine
  dsimp only
  split
  · exact .ite h.frame.setReg.setSticky h
  · exact h

theorem canonical.suspendLines {s} (h : canonical s) : canonical (suspendLines s) := h.foldl fun _ _ h => .ite h h.suspendLine
theorem canonical.raiseLatch {p claim s} (h : canonical s) : canonical (raiseLatch p claim s) := .ite h.setFld.suspendLines.claimChanged h

theorem canonical.refusedWrite {p x s} (h : canonical s) : canonical (refusedWrite p x s) := by
  unfold Machine.refusedWrite
  split
  · exact h
  · exact h.setWst
  · exact h.takeArmed.setSticky.countK.setWst
  · exact h.takeArmed.setSticky.setWst
  · exact h.setWst
  · exact h.setSticky.setWst
  · exact h.setSticky.setWst
  · exact h.setSticky.setWst
  · exact h.setSticky.setWst
  · exact h.refuseCfg

theorem canonical.acceptedWrite {m p off v h' s} (hf : ∀ s, canonical s → canonical (h' s)) (h : canonical s) :
    canonical (acceptedWrite m p off v h' s) := .ite (hf _ h.setWst).raiseLatch (hf _ h.setWst)

theorem canonical.countBar0 {m s} (h : canonical s) : canonical (countBar0 m s) := .ite h.countK h
theorem canonical.arriveWrite {x m p off s} (h : canonical s) : canonical (arriveWrite x m p off s) := .ite h.countBar0.meetMarks h.countBar0

theorem canonical.guardedWrite {m p off v h' s} (hf : ∀ s, canonical s → canonical (h' s)) (h : canonical s) :
    canonical (guardedWrite m p off v h' s) := by
  unfold Machine.guardedWrite
  split
  · exact h.arriveWrite.acceptedWrite hf
  · exact h.arriveWrite.refusedWrite

/-! ## Operand forms, mark actions and results -/

theorem canonical.setExpect {n e s} (h : canonical s) : canonical (setExpect n e s) := h.frame
theorem canonical.stCount {n lo k c s} (h : canonical s) : canonical (stCount n lo k c s) := h.frame
theorem canonical.countLost {n c s} (h : canonical s) : canonical (countLost n c s) := h.stCount.countK

theorem canonical.markLanded {h' s} (h : canonical s) : canonical (markLanded h' s) := by
  unfold Machine.markLanded
  dsimp only
  split
  · exact h
  · exact .ite h.frame h.frame

theorem canonical.markReport {r s} (h : canonical s) : canonical (markReport r s) := .ite h.setSticky h.frame
theorem canonical.markComplete {o status s} (h : canonical s) : canonical (markComplete o status s) := h.frame.markLanded.markReport
theorem canonical.noteLate {late s} (h : canonical s) : canonical (noteLate late s) := h.stickyIf
theorem canonical.noteDropped {d s} (h : canonical s) : canonical (noteDropped d s) := h.stickyIf

theorem canonical.sampleAction {h' a f s} (hf : ∀ o s, canonical s → canonical (f o s).2) (h : canonical s) :
    canonical (sampleAction h' a f s) := by
  unfold Machine.sampleAction
  dsimp only
  split
  · exact h
  · exact (hf _ _ h).noteLate.markComplete

theorem canonical.tickAction {h' a f s} (hf : ∀ o s, canonical s → canonical (f o s).2) (h : canonical s) :
    canonical (tickAction h' a f s) := by
  unfold Machine.tickAction
  dsimp only
  split
  · exact h
  · exact .ite h (.ite h.advanceTo.noteDropped.markComplete (hf _ _ h.advanceTo.noteLate).markComplete)

theorem canonical.actIf {v b f s} (hf : ∀ s, canonical s → canonical (f s)) (h : canonical s) : canonical (actIf v b f s) := .ite (hf _ h) h
theorem canonical.tableResult {p f r s} (h : canonical s) : canonical (tableResult p f r s) := h.setFld.stickyIf

/-! ## The retire list as units enter it -/

theorem canonical.rlAdd {kind unit s} (h : canonical s) : canonical (rlAdd kind unit s) := .ite h (.ite h.setSticky h.frame.setSticky)
theorem canonical.retireUnit {page kind unit s} (h : canonical s) : canonical (retireUnit page kind unit s) := h.setFld.rlAdd

/-! ## HBM: reads, writes and fences -/

theorem canonical.countServed {a n s} (h : canonical s) : canonical (countServed a n s) := h.countK

theorem canonical.hbmStore {a l s} (h : canonical s) : canonical (hbmStore a l s) := by
  induction l generalizing a s with
  | nil => exact h
  | cons b l ih => exact ih (.ite h h.memSet)

theorem canonical.unpoison {a n s} (h : canonical s) : canonical (unpoison a n s) := .ite h h.frame
theorem canonical.reportFences {l s} (h : canonical s) : canonical (reportFences l s) := h.foldl fun _ _ h => h.setSticky

theorem canonical.hbmWrite {a l s} (h : canonical s) : canonical (hbmWrite a l s).2 := by
  unfold Machine.hbmWrite
  dsimp only
  refine .ite_snd h ?_
  refine .ite_snd h ?_
  split
  · exact h.reportFences.countK
  · exact
      have k := h.takeArmed.stickyIf.countServed
      .ite k k.hbmStore.unpoison

theorem canonical.hbmClear {a n w s} (h : canonical s) : canonical (hbmClear a n w s) :=
  canonical.foldl ⟨h.1, sparseWf_filter _ _ _ h.2⟩ fun _ _ h => h.setSticky.countK

theorem canonical.reportUncorr {a s} (h : canonical s) : canonical (reportUncorr a s) := h.setSticky.setFld.setFld.countK

theorem canonical.hbmRead {a n s} (h : canonical s) : canonical (hbmRead a n s).2 :=
  .ite_snd h (.ite_snd h (have k := h.takeArmed.stickyIf.countServed; .ite_snd k (k.foldl fun _ _ h => h.reportUncorr)))

theorem canonical.retireRow {a s} (h : canonical s) : canonical (retireRow a s) :=
  .ite h (canonical.ite h.frame.frame h.frame.frame.setSticky.countFld).countFld.rlAdd.setSticky.setSticky

theorem canonical.countRow {a s} (h : canonical s) : canonical (countRow a s) := .ite h (.ite h.frame.countFld.retireRow h.frame.countFld)

theorem canonical.wordError {w uncorr s} (h : canonical s) : canonical (wordError w uncorr s) :=
  .ite h.frame.reportUncorr.retireRow h.setSticky.setFld.setFld.countK.countRow

theorem canonical.dropFences {owner s} (h : canonical s) : canonical (dropFences owner s) := h.frame
theorem canonical.addFence {f s} (h : canonical s) : canonical (addFence f s) := h.frame

/-! ## HBM: requests and repair -/

theorem canonical.enterPc {e s} (h : canonical s) : canonical (enterPc e s) := h.countK.frame
theorem canonical.noteChain {s e} (h : canonical s) : canonical (noteChain s e) := .ite h.countK.frame h

theorem canonical.enterQueue {r s} (h : canonical s) : canonical (enterQueue r s) :=
  .ite (canonical.ite h.frame.countK h.frame).frame.noteChain h.frame.enterPc

theorem canonical.releaseWaiting {s} (h : canonical s) : canonical (releaseWaiting s) := h.foldl fun _ _ h => .ite h.noteChain h.frame.enterPc

theorem canonical.linkResends {n s} (h : canonical s) : canonical (linkResends n s).2 :=
  .ite_snd h (have k := h.setSticky.countK; .ite_snd k.setSticky k)

theorem canonical.readReply {m r s} (h : canonical s) : canonical (readReply m r s) := h.send
theorem canonical.completeRead {e r s} (h : canonical s) : canonical (completeRead e r s) := .ite h.frame h.readReply
theorem canonical.releaseReplies {s} (h : canonical s) : canonical (releaseReplies s) := h.frame.foldl fun _ _ h => h.readReply

theorem canonical.arrive {r s} (h : canonical s) : canonical (arrive r s) :=
  .ite (.ite h.linkResends h.linkResends.completeRead) (h.linkResends.foldl fun _ _ h => h.enterQueue)

theorem canonical.serveReq {e s} (h : canonical s) : canonical (serveReq e s) := .ite h.hbmWrite h.hbmRead.completeRead

theorem canonical.reqErrors {r errs s} (h : canonical s) : canonical (reqErrors r errs s) := by
  unfold Machine.reqErrors
  dsimp only
  split
  · exact h
  · exact .ite h ((h.foldl fun _ _ h => h.reportUncorr).takeArmed.takeArmed.foldl fun _ _ h => h.wordError)

theorem canonical.serveSlot {i errs s} (h : canonical s) : canonical (serveSlot i errs s) := by
  unfold Machine.serveSlot
  dsimp only
  split
  · exact h
  · exact
      have k := canonical.ite h.countK h
      (canonical.ite k.countK k).frame.reqErrors.serveReq

theorem canonical.stackTemp {d temp s} (h : canonical s) : canonical (stackTemp d temp s) := h.setFld.stickyIf
theorem canonical.dropEntry {e s} (h : canonical s) : canonical (dropEntry e s) := h.frame
theorem canonical.writePairData {v s} (h : canonical s) : canonical (writePairData v s) := .ite h.refuseCfg h.frame

/-! ## Pins -/

theorem canonical.pinMove {k n level when' t s} (h : canonical s) : canonical (pinMove k n level when' t s).2 := .ite_snd h h.send
theorem canonical.refreshFco {s} (h : canonical s) : canonical (refreshFco s) := h.foldl fun _ _ h => h.pinMove.frame

/-! ## Rings -/

theorem canonical.setRing {n r s} (h : canonical s) : canonical (setRing n r s) := h.frame

theorem canonical.wmEnter {n above s} (h : canonical s) : canonical (wmEnter n above s) :=
  .ite h.evalDetector.setSticky h.evalDetector.frame.setSticky

theorem canonical.evalAbove {n s} (h : canonical s) : canonical (evalAbove n s) := .ite h (have k := h.setRing.refreshFco; .ite k.wmEnter k)
theorem canonical.settleRing {n s} (h : canonical s) : canonical (settleRing n s) := h.setRing

theorem canonical.ringReserve {n producer units s} (h : canonical s) : canonical (ringReserve n producer units s).2 :=
  .ite_snd h (.ite_snd h.evalDetector.setSticky (have k := h.evalDetector.evalDetector; .ite_snd k.setSticky k.setRing))

theorem canonical.ringRewind {n start s} (h : canonical s) : canonical (ringRewind n start s) := h.setRing.settleRing

theorem canonical.writePieces {l b s} (h : canonical s) : canonical (writePieces l b s).2 := by
  induction l generalizing b s with
  | nil => exact h
  | cons x l ih => exact ih h.hbmWrite

theorem canonical.readPieces {l s} (h : canonical s) : canonical (readPieces l s).2 := by
  induction l generalizing s with
  | nil => exact h
  | cons x l ih => exact ih h.hbmRead

theorem canonical.ringPass {n s} (h : canonical s) : canonical (ringPass n s) := h.setRing.evalAbove

/-! ## Ethernet: sending -/

theorem canonical.setEthPort {p x s} (h : canonical s) : canonical (setEthPort p x s) := h.frame
theorem canonical.countSent {p bytes s} (h : canonical s) : canonical (countSent p bytes s) := h.countK.countK.setEthPort
theorem canonical.turnKey {p sub s} (h : canonical s) : canonical (turnKey p sub s) := .ite (.ite h.setEthPort.setFld h.setEthPort) h.setSticky

theorem canonical.usePn {p sub s} (h : canonical s) : canonical (usePn p sub s) := by
  unfold Machine.usePn
  dsimp only
  split
  · exact h
  · exact .ite h.evalDetector.setEthPort.setSticky.turnKey h.evalDetector.setEthPort

theorem canonical.setPtpClock {k c s} (h : canonical s) : canonical (setPtpClock k c s) := h.frame

theorem canonical.stampRequest {f s} (h : canonical s) : canonical (stampRequest f s) := by
  unfold Machine.stampRequest
  dsimp only
  split
  · exact h.setPtpClock
  · exact h

theorem canonical.macSend {p f s} (h : canonical s) : canonical (macSend p f s) :=
  .ite h (have k := (canonical.ite h h.setFld).countSent.send.stampRequest; .ite k.usePn k)

theorem canonical.ethTry {p f s} (h : canonical s) : canonical (ethTry p f s) := .ite h (.ite h.setEthPort h.macSend)
theorem canonical.ethFlush {p s} (h : canonical s) : canonical (ethFlush p s) := h.setEthPort.foldl fun _ _ h => h.ethTry
theorem canonical.ethSend {p f s} (h : canonical s) : canonical (ethSend p f s) := h.ethFlush.ethTry
theorem canonical.ethControl {p sub exempt bytes s} (h : canonical s) : canonical (ethControl p sub exempt bytes s) := h.ethSend
theorem canonical.ethReply {p body s} (h : canonical s) : canonical (ethReply p body s) := h.ethControl

theorem canonical.sendDatagrams {p f len n off l s} (h : canonical s) : canonical (sendDatagrams p f len n off l s) := by
  induction n generalizing off l s with
  | zero => exact h
  | succ n ih => exact .ite h (ih h.macSend.setEthPort)

theorem canonical.sendRecord {p f l s} (h : canonical s) : canonical (sendRecord p f l s) := h.sendDatagrams.setEthPort.countK

/-! ## Chisel state -/

theorem canonical.setChsCore {n c s} (h : canonical s) : canonical (setChsCore n c s) := h.frame
theorem canonical.updChs {n f s} (h : canonical s) : canonical (updChs n f s) := h.setChsCore

theorem canonical.chsEndWait {n s} (h : canonical s) : canonical (chsEndWait n s) := by
  unfold Machine.chsEndWait
  dsimp only
  split
  · exact .ite h h.setChsCore.countK
  · split
    · exact h
    · exact h.setChsCore.countK
  · exact h

theorem canonical.chsWake {n cause s} (h : canonical s) : canonical (chsWake n cause s) :=
  .ite h (canonical.ite h.evalDetector.countK.setSticky h.evalDetector).setChsCore.chsEndWait

theorem canonical.wakeOnBatch {d r s} (h : canonical s) : canonical (wakeOnBatch d r s) := h.foldl fun _ _ h => .ite h.chsWake h

theorem canonical.wakeOnLines {s} (h : canonical s) : canonical (wakeOnLines s) :=
  .ite h (h.frame.foldl fun _ _ h => .ite (.ite h.chsWake h) h.chsWake)

/-! ## Field outputs: the channel -/

theorem canonical.setFldChan {c x s} (h : canonical s) : canonical (setFldChan c x s) := h.frame
theorem canonical.setFldY {c y s} (h : canonical s) : canonical (setFldY c y s) := h.setFld
theorem canonical.setFldFailed {c v s} (h : canonical s) : canonical (setFldFailed c v s) := h.setReg
theorem canonical.fldEnter {c s} (h : canonical s) : canonical (fldEnter c s) := .ite h h.setFldFailed.countK.setSticky
theorem canonical.fldStage {c causes s} (h : canonical s) : canonical (fldStage c causes s) := .ite h.setFld (.ite h.setFld.setFldY h)
theorem canonical.fldEmit {c s} (h : canonical s) : canonical (fldEmit c s) := .ite h h.frame.send

theorem canonical.fldJudge {c s} (h : canonical s) : canonical (fldJudge c s) :=
  .ite h.fldEmit (have k1 := canonical.ite h h.setFld; have k2 := canonical.ite k1 k1.fldEnter.fldStage; (canonical.ite k2 k2.setFld).fldEmit)

theorem canonical.refreshFld {s} (h : canonical s) : canonical (refreshFld s) := h.foldl fun _ _ h => h.fldJudge

/-! ## Faceplates -/

theorem canonical.fplRecheck {n s} (h : canonical s) : canonical (fplRecheck n s) := .ite h.frame.frame.setSticky h.frame
theorem canonical.setFplStream {n x s} (h : canonical s) : canonical (setFplStream n x s) := h.frame
theorem canonical.fplRestart {n s} (h : canonical s) : canonical (fplRestart n s) := .ite h.setFplStream h

theorem canonical.fplFeed {n m0 outs s} (h : canonical s) : canonical (fplFeed n m0 outs s) := by
  unfold Machine.fplFeed
  dsimp only
  refine .ite h ?_
  split
  · exact h.evalDetector.setSticky
  · exact .ite h.evalDetector.setSticky (.ite h.evalDetector (.ite h.evalDetector.setFplStream (.ite h.evalDetector.setFplStream
      h.evalDetector.setFplStream)))

theorem canonical.fplMemError {f e s} (h : canonical s) : canonical (fplMemError f e s) :=
  .ite h.setSticky (.ite h.setSticky.frame (.ite h.setSticky.frame (.ite h.setSticky.frame h.setSticky.frame)))

theorem canonical.routeOperand {o s} (h : canonical s) : canonical (routeOperand o s) := .ite h.frame (.ite h h.zhkSend)
theorem canonical.countZapped {f j c s} (h : canonical s) : canonical (countZapped f j c s) := h.frame

theorem canonical.emitChannels {f n j p w x win zapAll s} (h : canonical s) : canonical (emitChannels f n j p w x win zapAll s) :=
  h.foldl fun _ _ h => have k := canonical.ite h.countZapped.countK h; (canonical.ite k k.setSticky.countK).routeOperand

theorem canonical.notePass {f j a s} (h : canonical s) : canonical (notePass f j a s) :=
  have k1 := canonical.ite h.stickyIf h.stickyIf.frame.countK
  have k2 := canonical.ite k1.frame k1
  .ite k2.frame k2

theorem canonical.spectrum {f n errs s} (h : canonical s) : canonical (spectrum f n errs s) := by
  unfold Machine.spectrum
  split
  · exact h
  · refine .ite ?_ (.ite h.setFplStream.notePass h)
    exact
      have k := (h.notePass.foldl fun _ _ h => h.fplMemError).takeArmed.stickyIf.takeArmed.stickyIf.evalDetector.stickyIf.countK
      have k' := canonical.ite k.countK k
      (canonical.ite k'.countK k').emitChannels.notePass.setFplStream

theorem canonical.addReq {f n r s} (h : canonical s) : canonical (addReq f n r s) := h.setFplStream

theorem canonical.idleSwap {f kind s} (h : canonical s) : canonical (idleSwap f kind s) := by
  unfold Machine.idleSwap
  dsimp only
  split
  · exact h.frame
  · exact h.frame
  · exact h

theorem canonical.requestStream {f kind len s n} (h : canonical s) : canonical (requestStream f kind len s n) := .ite h.setFplStream.stickyIf h.addReq

theorem canonical.registerRequest {f kind len s} (h : canonical s) : canonical (registerRequest f kind len s) :=
  .ite h.idleSwap (h.foldl fun _ _ h => h.requestStream)

theorem canonical.markStream {f kind o a n} (h : canonical a.2) : canonical (markStream f kind o a n).2 := h.addReq

theorem canonical.markRequest {kind o s} (h : canonical s) : canonical (markRequest kind o s).2 :=
  h.foldl_snd fun _ _ h => .ite_snd h.idleSwap (h.foldl_snd fun _ _ h => h.markStream)

theorem canonical.writeFplSwap {f v s} (h : canonical s) : canonical (writeFplSwap f v s) :=
  (h.storePlain.actIf (fun _ h => h.registerRequest)).actIf (fun _ h => h.registerRequest)

theorem canonical.writeModelCtrl {f v s} (h : canonical s) : canonical (writeModelCtrl f v s) := h.actIf (fun _ h => h.registerRequest)
theorem canonical.autoInc {p idx auto s} (h : canonical s) : canonical (autoInc p idx auto s) := .ite h.setFld h

theorem canonical.writeCoefData {f v s} (h : canonical s) : canonical (writeCoefData f v s) :=
  (canonical.ite h.evalDetector.refuseBit h.evalDetector.frame).autoInc

theorem canonical.readCoefData {f s} (h : canonical s) : canonical (readCoefData f s).2 := h.autoInc

theorem canonical.writeGainData {f v s} (h : canonical s) : canonical (writeGainData f v s) :=
  (canonical.ite h.evalDetector.refuseBit h.evalDetector.frame).autoInc

theorem canonical.readGainData {f s} (h : canonical s) : canonical (readGainData f s).2 := h.autoInc

theorem canonical.guardedRead {p h' s} (hf : ∀ s, canonical s → canonical (h' s).2) (h : canonical s) : canonical (guardedRead p h' s) :=
  .ite h.setRd (hf _ h).setRd

theorem canonical.sendTable {s} (h : canonical s) : canonical (sendTable s) := .ite h (.ite (h.foldl fun _ _ h => h.send) h.send)
theorem canonical.judgeTables {s} (h : canonical s) : canonical (judgeTables s) := h.evalDetector.stickyIf

theorem canonical.mapWrite {f s} (h : canonical s) : canonical (mapWrite f s) :=
  .ite h.tableResult (have k := canonical.ite h.tableResult.frame.setFplStream h.tableResult.frame; .ite k.sendTable k)

theorem canonical.mapRead {f s} (h : canonical s) : canonical (mapRead f s) := h.setRegsFrom

theorem canonical.writeMapCtrl {f v s} (h : canonical s) : canonical (writeMapCtrl f v s) :=
  (h.actIf (fun _ h => h.mapRead)).actIf (fun _ h => h.mapWrite)

theorem canonical.setRegion {d r w0 w1 s} (h : canonical s) : canonical (setRegion d r w0 w1 s) := h.frame
theorem canonical.regionWrite {f s} (h : canonical s) : canonical (regionWrite f s) := .ite h.tableResult.setRegion h.tableResult
theorem canonical.regionRead {f s} (h : canonical s) : canonical (regionRead f s) := h.setRegsFrom.setFld

theorem canonical.writeRegionCtrl {f v s} (h : canonical s) : canonical (writeRegionCtrl f v s) :=
  .ite ((h.actIf (fun _ h => h.regionRead)).actIf (fun _ h => h.regionWrite)) h

theorem canonical.writeFplCfg {f v s} (h : canonical s) : canonical (writeFplCfg f v s) := .ite h.refuseCfg h.storePlain
theorem canonical.resetFaceplate {f s} (h : canonical s) : canonical (resetFaceplate f s) := h.frame

/-! ## Roughing -/

theorem canonical.setRchStream {n x s} (h : canonical s) : canonical (setRchStream n x s) := h.frame
theorem canonical.setRchQueue {e q s} (h : canonical s) : canonical (setRchQueue e q s) := h.frame
theorem canonical.rchLose {n first count restart s} (h : canonical s) : canonical (rchLose n first count restart s) := .ite h h.setRchQueue

theorem canonical.rchEnqueue {n first samples restart s} (h : canonical s) : canonical (rchEnqueue n first samples restart s) :=
  .ite h.evalDetector.setSticky.countK.stCount.countLost.rchLose h.evalDetector.setRchQueue.setFld

theorem canonical.stateError {e n s} (h : canonical s) : canonical (stateError e n s) :=
  have k := h.setSticky.countK
  .ite k.setRchStream k

theorem canonical.roughStep {e ecc s} (h : canonical s) : canonical (roughStep e ecc s) := by
  unfold Machine.roughStep
  dsimp only
  split
  · exact h
  · exact
      have k1 := h.setRchQueue.evalDetector.stickyIf.evalDetector
      have k2 := canonical.ite k1.stateError k1
      .ite k2 (canonical.ite k2 k2.countK).countK.countK.countK.countK.setRchStream.fplFeed

theorem canonical.resetStream {t n s} (h : canonical s) : canonical (resetStream t n s).2 := h.setRchStream.stickyIf
theorem canonical.writeRchCtrl {e v s} (h : canonical s) : canonical (writeRchCtrl e v s) := h.actIf (fun _ h => h.foldl fun _ _ h => h.setRchStream)

theorem canonical.rchEmpty {e s} (h : canonical s) : canonical (rchEmpty e s) :=
  h.setRchQueue.foldl fun _ _ h => .ite h h.setSticky.countK.stCount.countLost

theorem canonical.rchForget {e s} (h : canonical s) : canonical (rchForget e s) := h.foldl fun _ _ h => h.setRchStream
theorem canonical.rchEnable {e s} (h : canonical s) : canonical (rchEnable e s) := h.foldl fun _ _ h => h.setRchStream.setExpect
theorem canonical.rchDrop {n s} (h : canonical s) : canonical (rchDrop n s) := h.setRchQueue.setRchStream
theorem canonical.writeRchCntClear {e v s} (h : canonical s) : canonical (writeRchCntClear e v s) := h.actIf (fun _ h => h.resetRegs.setFld)

/-! ## Lane training -/

theorem canonical.laneSendFrame {frame levels n kind data l s} (h : canonical s) : canonical (laneSendFrame frame levels n kind data l s) :=
  h.send.send

/-! ## Spur lanes -/

theorem canonical.setSprLane {n l s} (h : canonical s) : canonical (setSprLane n l s) := h.frame

theorem canonical.blockAccept {page n e restart h' l s} (h : canonical s) : canonical (blockAccept page n e restart h' l s) :=
  have k := (canonical.ite h h.countLost.rchLose).evalDetector.stickyIf.evalDetector
  (canonical.ite k.stCount.setSticky k).countK.setExpect.rchEnqueue

theorem canonical.blockArrive {page entry h' l s} (h : canonical s) : canonical (blockArrive page entry h' l s) := by
  unfold Machine.blockArrive
  dsimp only
  split
  · exact h.evalDetector.setSticky.countK
  · refine .ite h.evalDetector.setSticky.countK ?_
    refine .ite h.evalDetector.evalDetector.stCount.setSticky.countK ?_
    refine .ite h.evalDetector.evalDetector.stCount.countK ?_
    refine .ite h.evalDetector.evalDetector.evalDetector.stCount.setSticky.countK ?_
    split
    · exact h.evalDetector.evalDetector.evalDetector.blockAccept
    · exact h.evalDetector.evalDetector.evalDetector.blockAccept

theorem canonical.blockReceive {page entry l s} (h : canonical s) : canonical (blockReceive page entry l s) :=
  .ite h.evalDetector.setSticky.countK h.evalDetector.blockArrive

theorem canonical.blockMalformed {page s} (h : canonical s) : canonical (blockMalformed page s) := h.takeArmed.setSticky.countK

theorem canonical.mergeTake {bundle k s} (h : canonical s) : canonical (mergeTake bundle k s) := by
  induction k generalizing s with
  | zero => exact h
  | succ k ih =>
    unfold Machine.mergeTake
    split
    · exact h
    · exact .ite (ih h.frame.blockReceive) h

theorem canonical.deliverBlock {lane b s} (h : canonical s) : canonical (deliverBlock lane b s) := .ite (.ite h.frame h) h.blockReceive
theorem canonical.mergeAll {lane s} (h : canonical s) : canonical (mergeAll lane s) := h.mergeTake
theorem canonical.bundleStatus {n s} (h : canonical s) : canonical (bundleStatus n s) := h.setFld.setFld.setFld.stickyIf.stickyIf
theorem canonical.sprSend {n kind data s} (h : canonical s) : canonical (sprSend n kind data s) := h.laneSendFrame.setSprLane
theorem canonical.sprIdle {n s} (h : canonical s) : canonical (sprIdle n s) := h.sprSend

theorem canonical.sendMessage {lane type arg32 arg64 s} (h : canonical s) : canonical (sendMessage lane type arg32 arg64 s) :=
  h.sprSend.setSprLane.setFld.send

theorem canonical.announceMap {live mask s} (h : canonical s) : canonical (announceMap live mask s) := h.foldl fun _ _ h => h.sendMessage
theorem canonical.liveSettle {lane s} (h : canonical s) : canonical (liveSettle lane s) := .ite h (.ite h.bundleStatus.mergeAll h.bundleStatus.frame)
theorem canonical.leaveLive {n f s} (h : canonical s) : canonical (leaveLive n f s) := (canonical.ite h.announceMap h).setSprLane.liveSettle
theorem canonical.joinLive {n s} (h : canonical s) : canonical (joinLive n s) := .ite h h.announceMap.setSprLane.liveSettle
theorem canonical.retireSprLane {n s} (h : canonical s) : canonical (retireSprLane n s) := h.retireUnit.leaveLive
theorem canonical.sprRetry {n s} (h : canonical s) : canonical (sprRetry n s) := .ite h.countRetry.retireSprLane h.countRetry
theorem canonical.sprTrain {n fromEnable s} (h : canonical s) : canonical (sprTrain n fromEnable s) := h.setSprLane.countK
theorem canonical.sprRetrain {n lost s} (h : canonical s) : canonical (sprRetrain n lost s) := h.stickyIf.setSticky.countK.leaveLive.sprRetry
theorem canonical.sprRetrainFail {n s} (h : canonical s) : canonical (sprRetrainFail n s) := h.setSticky.sprTrain.sprRetry

theorem canonical.sprCodeword {n f s} (h : canonical s) : canonical (sprCodeword n f s).2 :=
  .ite_snd h.evalDetector.countK.setSticky.countK (.ite h.evalDetector.countK.countK h.evalDetector.countK)

theorem canonical.runUncorr {n s} (h : canonical s) : canonical (runUncorr n s) := .ite h.evalDetector.setSprLane.sprRetrain h.evalDetector.setSprLane

theorem canonical.alignFrames {n s} (h : canonical s) : canonical (alignFrames n s) := by
  unfold Machine.alignFrames
  dsimp only
  split
  · exact h.setSprLane
  · exact h.setSprLane

theorem canonical.runFrame {n f s} (h : canonical s) : canonical (runFrame n f s) := by
  unfold Machine.runFrame
  dsimp only
  split
  · exact h.setSprLane.setSticky.sprRetrain
  · exact h.setSprLane

theorem canonical.dataFrame {lane fr s} (h : canonical s) : canonical (dataFrame lane fr s) :=
  have k := (h.setSprLane.foldl fun _ _ h => h.blockMalformed).foldl fun _ _ h => h.deliverBlock
  .ite k.mergeAll k

theorem canonical.idleFrame {lane s} (h : canonical s) : canonical (idleFrame lane s) := .ite h.mergeAll h

theorem canonical.ackMessage {lane seq status s} (h : canonical s) : canonical (ackMessage lane seq status s) := by
  unfold Machine.ackMessage
  dsimp only
  split
  · exact h
  · exact
      have k := h.setFld.setFld
      .ite k.setSprLane.setSticky k

theorem canonical.statusMessage {lane arg s} (h : canonical s) : canonical (statusMessage lane arg s) := h.setFld

theorem canonical.rxMessage {lane l s} (h : canonical s) : canonical (rxMessage lane l s) :=
  .ite h.setSprLane.ackMessage (.ite h.setSprLane.statusMessage h.setSprLane)

theorem canonical.rxMessages {lane k l s} (h : canonical s) : canonical (rxMessages lane k l s) := by
  induction k generalizing l s with
  | zero => exact h
  | succ k ih => exact .ite h (ih h.rxMessage)

theorem canonical.sprNote {n s x} (h : canonical s) : canonical (sprNote n s x) := by
  unfold Machine.sprNote
  dsimp only
  split
  · exact h.setSticky
  · exact h.setSticky
  · exact h.alignFrames.joinLive
  · exact h.setSticky
  · exact h.sprTrain.sprRetry
  · exact h

theorem canonical.sprSendTrain {n s} (h : canonical s) : canonical (sprSendTrain n s) := h.sprSend.setSprLane

theorem canonical.sprReply {n s} (h : canonical s) : canonical (sprReply n s) := by
  unfold Machine.sprReply
  split
  · exact h.sprIdle
  · exact h
  · exact h
  · exact h.sprSendTrain

theorem canonical.rxInTraining {n f inv eq s} (h : canonical s) : canonical (rxInTraining n f inv eq s) :=
  h.sprCodeword.setSprLane.foldl fun _ _ h => h.sprNote

theorem canonical.runKind {n f s} (h : canonical s) : canonical (runKind n f s) :=
  .ite h.dataFrame (.ite h.idleFrame (.ite h.rxMessages (.ite h.sprRetrain h)))

theorem canonical.rxInRun {n f s} (h : canonical s) : canonical (rxInRun n f s) :=
  .ite h.sprCodeword.runUncorr (.ite h.sprCodeword.runFrame.setSprLane.runKind h.sprCodeword.runFrame)

theorem canonical.sprReceive {n f inv eq s} (h : canonical s) : canonical (sprReceive n f inv eq s) := by
  unfold Machine.sprReceive
  refine .ite h ?_
  split
  · exact h
  · exact h
  · exact h.rxInRun.sprReply
  · exact h.rxInTraining.sprReply

theorem canonical.sendFor {lane via type s} (h : canonical s) : canonical (sendFor lane via type s) :=
  have k := h.setFld.setFld
  (canonical.ite k.setSprLane.setSprLane k.setSprLane).sendMessage

theorem canonical.writeSyncCmd {lane v s} (h : canonical s) : canonical (writeSyncCmd lane v s) := by
  unfold Machine.writeSyncCmd
  dsimp only
  refine .ite ?_ h.storePlain
  split
  · exact .ite h.storePlain.sendFor h.refuseCfg
  · exact h.refuseCfg

theorem canonical.syncEdge {n s} (h : canonical s) : canonical (syncEdge n s) :=
  h.foldl fun _ _ h => .ite (h.setSprLane.foldl fun _ _ h => .ite h.setExpect h) h

theorem canonical.stStore {n ws s} (h : canonical s) : canonical (stStore n ws s) := h.frame

theorem canonical.stWrite {lane s} (h : canonical s) : canonical (stWrite lane s) :=
  .ite h.tableResult (have k := (canonical.ite h.tableResult.rchDrop h.tableResult).stStore; .ite k.setExpect.fplRestart.fplRecheck (.ite
    k.fplRecheck k))

theorem canonical.stRead {lane s} (h : canonical s) : canonical (stRead lane s) := h.setRegsFrom

theorem canonical.writeStCtrl {lane v s} (h : canonical s) : canonical (writeStCtrl lane v s) :=
  (h.actIf (fun _ h => h.stRead)).actIf (fun _ h => h.stWrite)

theorem canonical.sprEnable {n s} (h : canonical s) : canonical (sprEnable n s) := .ite h (.ite h.setSticky h.sprTrain)
theorem canonical.sprDown {n s} (h : canonical s) : canonical (sprDown n s) := .ite h h.leaveLive

/-! ## Truing state -/

theorem canonical.refreshClk {s} (h : canonical s) : canonical (refreshClk s) := h.foldl fun _ _ h => .ite h h.frame.send

/-! ## Trigger lines -/

theorem canonical.refreshTrig {edge s} (h : canonical s) : canonical (refreshTrig edge s) :=
  h.foldl fun _ _ h => .ite h.pinMove.frame.syncEdge h.pinMove.frame

theorem canonical.refreshPinsAt {edge s} (h : canonical s) : canonical (refreshPinsAt edge s) :=
  h.refreshFco.refreshTrig.refreshClk.refreshFld.wakeOnLines

theorem canonical.refreshPins {s} (h : canonical s) : canonical (refreshPins s) := h.refreshPinsAt

/-! ## The timebase -/

theorem canonical.readTimeS {m s} (h : canonical s) : canonical (readTimeS m s).2 := h.frame

theorem canonical.readTimeSub {m s} (h : canonical s) : canonical (readTimeSub m s).2 := by
  unfold Machine.readTimeSub
  dsimp only
  split
  · exact h
  · exact h.frame

theorem canonical.setRate {r s} (h : canonical s) : canonical (setRate r s) := h.frame.setFld
theorem canonical.steer {off s} (h : canonical s) : canonical (steer off s) := (canonical.ite h h.takeFree).setFld.setRate.stickyIf
theorem canonical.setDevice {t s} (h : canonical s) : canonical (setDevice t s) := h.frame
theorem canonical.becomeValid {s} (h : canonical s) : canonical (becomeValid s) := .ite h h.setFld.setSticky
theorem canonical.stepDevice {t s} (h : canonical s) : canonical (stepDevice t s) := h.setDevice.setSticky
theorem canonical.noteQualified {s} (h : canonical s) : canonical (noteQualified s) := h.frame
theorem canonical.acquire {c s} (h : canonical s) : canonical (acquire c s) := h.setDevice.becomeValid
theorem canonical.takeUp {c s} (h : canonical s) : canonical (takeUp c s) := .ite h.setFld (.ite h.stepDevice.steer h.steer)
theorem canonical.enterHold {s} (h : canonical s) : canonical (enterHold s) := .ite h h.setFld.setFld.setSticky
theorem canonical.setActive {c s} (h : canonical s) : canonical (setActive c s) := .ite h h.setFld.setSticky

theorem canonical.switchSource {c s} (h : canonical s) : canonical (switchSource c s) :=
  have k := h.setFld.setActive
  .ite (.ite k k.acquire) (.ite k.takeUp k)

theorem canonical.selectSource {s} (h : canonical s) : canonical (selectSource s) := by
  unfold Machine.selectSource
  dsimp only
  split
  · exact .ite h.noteQualified.switchSource (.ite h.noteQualified.setActive.enterHold h.noteQualified.setActive)
  · exact .ite h.noteQualified.enterHold h.noteQualified

theorem canonical.followSource {c s} (h : canonical s) : canonical (followSource c s) := .ite h.steer h
theorem canonical.sourceMeasured {c s} (h : canonical s) : canonical (sourceMeasured c s) := .ite h.selectSource.followSource h.selectSource
theorem canonical.writeTbsCfg {v s} (h : canonical s) : canonical (writeTbsCfg v s) := (canonical.ite h.storePlain h.storePlain.setRate).selectSource

theorem canonical.writeTbsSet {v s} (h : canonical s) : canonical (writeTbsSet v s) :=
  .ite h.storePlain (.ite h.refuseCfg h.storePlain.stepDevice.becomeValid)

theorem canonical.ptpDisqualify {k s} (h : canonical s) : canonical (ptpDisqualify k s) := .ite h.setFld.setSticky h
theorem canonical.ptpSend {k bytes asked s} (h : canonical s) : canonical (ptpSend k bytes asked s) := h.ethSend
theorem canonical.ptpAsk {k s} (h : canonical s) : canonical (ptpAsk k s) := h.setPtpClock.ptpSend
theorem canonical.ptpAnswer {k h' s} (h : canonical s) : canonical (ptpAnswer k h' s) := h.ptpSend

theorem canonical.ptpFollow {k m s} (h : canonical s) : canonical (ptpFollow k m s) :=
  have k := canonical.ite h.evalDetector.setReg.setSticky.ptpDisqualify h.evalDetector.setReg
  .ite k k.setPtpClock.setFld

theorem canonical.ptpAnnounce {k h' quality gm steps s} (h : canonical s) : canonical (ptpAnnounce k h' quality gm steps s) := by
  unfold Machine.ptpAnnounce
  dsimp only
  refine .ite h ?_
  split
  · exact h.setPtpClock.ptpFollow
  · exact h.setPtpClock

theorem canonical.ptpMeasure {k sent stamp delay predicted logSync s} (h : canonical s) :
    canonical (ptpMeasure k sent stamp delay predicted logSync s) :=
  have k1 := h.setReg.setReg.setFld.setFld.setPtpClock
  have k2 := canonical.ite k1.ptpDisqualify k1
  .ite k2.setFld.setSticky k2

theorem canonical.ptpSynced {k origin stamp predicted log s} (h : canonical s) : canonical (ptpSynced k origin stamp predicted log s) := by
  unfold Machine.ptpSynced
  dsimp only
  refine .ptpAsk ?_
  split
  · exact h.setPtpClock.ptpMeasure
  · exact h.setPtpClock

theorem canonical.ptpDelay {k twice s} (h : canonical s) : canonical (ptpDelay k twice s) := h.setPtpClock.setReg

theorem canonical.ptpMessage {k msg predicted s} (h : canonical s) : canonical (ptpMessage k msg predicted s) := by
  unfold Machine.ptpMessage
  dsimp only
  split
  · exact h.ptpAnnounce
  · exact .ite h.setPtpClock h
  · exact .ite h.ptpSynced h
  · split
    · exact .ite h.ptpSynced h
    · exact h
  · split
    · exact .ite h.ptpDelay h
    · exact h
  · exact .ite h.ptpAnswer h
  · split
    · exact h
    · exact .ite h (.ite h.setPtpClock.setFld.ptpDisqualify (.ite h.setPtpClock.setPtpClock h.setPtpClock.ptpDelay))
  · split
    · exact .ite h.ptpDelay h
    · exact h

theorem canonical.ptpReceive {k a s} (h : canonical s) : canonical (ptpReceive k a s) :=
  .ite h (have k := h.advanceTo.ptpMessage; .ite k.sourceMeasured k.selectSource)

theorem canonical.ptpEnable {k on s} (h : canonical s) : canonical (ptpEnable k on s) :=
  (canonical.ite h h.ptpDisqualify).setPtpClock.setFld.selectSource

theorem canonical.setPpsIn {n x s} (h : canonical s) : canonical (setPpsIn n x s) := h.frame
theorem canonical.trigPush {line x s} (h : canonical s) : canonical (trigPush line x s) := .ite h.evalDetector.setSticky h.evalDetector.frame

theorem canonical.popTrigIn {s} (h : canonical s) : canonical (popTrigIn s).2 := by
  unfold Machine.popTrigIn
  dsimp only
  split
  · exact h
  · exact h.frame

theorem canonical.resetTbs {s} (h : canonical s) : canonical (resetTbs s) := h.resetBlockRegs.frame.setReg.selectSource.refreshPins

/-! ## The mark table -/

theorem canonical.setMarkEntry {h' e s} (h : canonical s) : canonical (setMarkEntry h' e s) := h.frame
theorem canonical.markEnter {claim t w s} (h : canonical s) : canonical (markEnter claim t w s).2 := h.setMarkEntry.frame

theorem canonical.sendGangMark {h' s} (h : canonical s) : canonical (sendGangMark h' s) := by
  unfold Machine.sendGangMark
  split
  · exact h
  · exact h.foldl fun _ _ h => h.zhkSend

theorem canonical.markInsert {claim w s} (h : canonical s) : canonical (markInsert claim w s).2.2 :=
  .ite_snd_snd h.evalDetector.stickyIf (.ite h.evalDetector.stickyIf.markEnter.sendGangMark h.evalDetector.stickyIf.markEnter)

theorem canonical.mrkInsert {m s} (h : canonical s) : canonical (mrkInsert m s) :=
  have k := h.markInsert.tableResult
  .ite k.setFld k

theorem canonical.mrkRead {s} (h : canonical s) : canonical (mrkRead s) := by
  unfold Machine.mrkRead
  split
  · exact h.tableResult
  · exact h.tableResult.setRegsFrom

theorem canonical.mrkDelete {s} (h : canonical s) : canonical (mrkDelete s) := by
  unfold Machine.mrkDelete
  dsimp only
  split
  · exact h.tableResult
  · exact .ite h.tableResult h.tableResult.frame

theorem canonical.writeMrkCtrl {m v s} (h : canonical s) : canonical (writeMrkCtrl m v s) :=
  ((h.storePlain.actIf (fun _ h => h.mrkInsert)).actIf (fun _ h => h.mrkRead)).actIf (fun _ h => h.mrkDelete)

theorem canonical.popMarkDone {s} (h : canonical s) : canonical (popMarkDone s).2 := by
  unfold Machine.popMarkDone
  dsimp only
  split
  · exact h
  · exact h.frame

theorem canonical.updOcc {p f s} (h : canonical s) : canonical (updOcc p f s) := h.frame

theorem canonical.syncMessages {mask l s} (h : canonical s) : canonical (syncMessages mask l s).2.2 := by
  induction l generalizing s with
  | nil => exact h
  | cons lane l ih =>
    unfold Machine.syncMessages
    dsimp only
    split
    · exact ih h
    · split
      · exact ih h.noteDropped
      · exact ih h.sendFor

theorem canonical.syncDispatch {o s} (h : canonical s) : canonical (syncDispatch o s) := .ite h.noteDropped.markComplete h.syncMessages.updOcc

theorem canonical.markDispatch {h' e s} (h : canonical s) : canonical (markDispatch h' e s) :=
  .ite h.setMarkEntry.frame.syncDispatch h.setMarkEntry.frame

theorem canonical.judgeTarget {page off o s} (h : canonical s) : canonical (judgeTarget page off o s).2 :=
  have k := canonical.ite h.meetMarks h
  .ite_snd k.setSticky (.ite_snd k.setSticky.setSticky k)

theorem canonical.judgeLines {o l s} (h : canonical s) : canonical (judgeLines o l s).2 := by
  induction l generalizing s with
  | nil => exact h
  | cons n l ih => exact ih h.judgeTarget

theorem canonical.lineAction {mask act o s} (hf : ∀ x1 x2 s, canonical s → canonical (act x1 x2 s)) (h : canonical s) :
    canonical (lineAction mask act o s).2 := .ite_snd h.setSticky (hf _ _ _ h.judgeLines).raiseLatch

theorem canonical.beginPulses {width o lines s} (h : canonical s) : canonical (beginPulses width o lines s) := h.frame.refreshPinsAt
theorem canonical.setLevels {o lines s} (h : canonical s) : canonical (setLevels o lines s) := (h.foldl fun _ _ h => h.setFld).refreshPins
theorem canonical.resetMrk {s} (h : canonical s) : canonical (resetMrk s) := h.frame

theorem canonical.gangMarkIn {h' claim t w s} (h : canonical s) : canonical (gangMarkIn h' claim t w s) :=
  have k := h.evalDetector.evalDetector.stickyIf.stickyIf
  (canonical.ite k.markEnter k).zhkSend

theorem canonical.gangMarkAnswer {h' ok s} (h : canonical s) : canonical (gangMarkAnswer h' ok s) := by
  unfold Machine.gangMarkAnswer
  dsimp only
  refine .ite h.evalDetector ?_
  refine .updOcc ?_
  split
  · exact h.evalDetector.setSticky.setMarkEntry
  · exact h.evalDetector.setSticky

/-! ## Chisel instructions -/

theorem canonical.hLoad {n w s} (h : canonical s) : canonical (hLoad n w s).2 :=
  have k := h.hbmRead.evalDetector
  .ite_snd k.setSticky k

theorem canonical.hStore {n w v s} (h : canonical s) : canonical (hStore n w v s) := h.hbmWrite.stickyIf

theorem canonical.chsFault {n cause s} (h : canonical s) : canonical (chsFault n cause s) :=
  have k1 := h.setReg.setChsCore.setSticky.stickyIf
  .ite (have k2 := k1.setSticky.countRetry; .ite k2.updChs.retireUnit k2) k1

theorem canonical.doMove {n old m s} (h : canonical s) : canonical (doMove n old m s) := .ite (.ite h.hStore h.hLoad.updChs) (.ite h.updChs h.updChs)

theorem canonical.doSteps {n old i s} (h : canonical s) : canonical (doSteps n old i s) :=
  h.foldl fun _ _ h => .ite h (.ite h.takeFree.updChs h.updChs)

theorem canonical.chsAwaited {n i s} (h : canonical s) : canonical (chsAwaited n i s) := .ite h.takeFree.countK h

theorem canonical.chsRetire {n i old core misfits branch s} (h : canonical s) : canonical (chsRetire n i old core misfits branch s) :=
  (h.setChsCore.foldl fun _ _ h => h.doMove).doSteps.chsAwaited.countK.countK.countK

theorem canonical.chsIssue {n op f s} (h : canonical s) (hf : ∀ i c s, canonical s → canonical (f i c s).1) :
    canonical (chsIssue n op f s) := by
  unfold Machine.chsIssue
  dsimp only
  refine .ite h (.ite h (.ite h.takeArmed.takeArmed.stickyIf.chsFault ?_))
  split
  · exact h.takeArmed.takeArmed.stickyIf.chsFault
  · split
    · next e => exact ((hf _ _ _ h.takeArmed.takeArmed.stickyIf).fst_of_eq e).chsFault
    · next e => exact (hf _ _ _ h.takeArmed.takeArmed.stickyIf).fst_of_eq e
    · next e => exact ((hf _ _ _ h.takeArmed.takeArmed.stickyIf).fst_of_eq e).chsRetire

theorem canonical.inCore {f i c s} (h : canonical s) : canonical (inCore f i c s).1 := h

/-! ## The Ledger -/

theorem canonical.ledgerEnter {q s} (h : canonical s) : canonical (ledgerEnter q s) :=
  h.writePieces.writePieces.setRegsFrom.setReg.countK.frame.setReg

theorem canonical.completeCommit {q s} (h : canonical s) : canonical (completeCommit q s) := .ite h.setRing.settleRing h
theorem canonical.ckptStart {reason t s} (h : canonical s) : canonical (ckptStart reason t s) := h.frame.setFld

theorem canonical.ckptTrigger {reason s} (h : canonical s) : canonical (ckptTrigger reason s) :=
  .ite h (.ite h.frame.ckptStart (canonical.ite h.frame h.frame.countK).frame)

theorem canonical.ckptStartHeld {s} (h : canonical s) : canonical (ckptStartHeld s) := by
  unfold Machine.ckptStartHeld
  split
  · exact h.ckptStart
  · exact h.ckptStart
  · exact h

theorem canonical.ckptCount {s} (h : canonical s) : canonical (ckptCount s) := .ite h.frame.ckptTrigger h
theorem canonical.countSignature {s} (h : canonical s) : canonical (countSignature s) := h.frame.countK

theorem canonical.commitRecord {q s} (h : canonical s) : canonical (commitRecord q s).2 :=
  .ite_snd h.writePieces.ringRewind (.ite_snd h.writePieces.ledgerEnter.completeCommit.ckptCount h.writePieces.setRing.frame)

theorem canonical.emitRecord {ring producer rtype die payload s} (h : canonical s) : canonical (emitRecord ring producer rtype die payload s).2 := by
  unfold Machine.emitRecord
  dsimp only
  split
  · exact h.ringReserve
  · exact h.ringReserve
  · exact h.ringReserve.commitRecord.evalAbove

theorem canonical.releaseCommits {s} (h : canonical s) : canonical (releaseCommits s) :=
  h.frame.foldl fun _ _ h => h.ledgerEnter.completeCommit.ckptCount.evalAbove

theorem canonical.tryResume {s} (h : canonical s) : canonical (tryResume s) := by
  unfold Machine.tryResume
  dsimp only
  refine .ite h ?_
  refine .ite h ?_
  split
  · exact
      have k := h.ringReserve.writePieces
      .ite k.ringRewind k.ledgerEnter.completeCommit.setFld.setSticky.frame.evalAbove.releaseCommits
  · exact h.ringReserve

theorem canonical.ckptCommit {s} (h : canonical s) : canonical (ckptCommit s) := by
  unfold Machine.ckptCommit
  dsimp only
  split
  · exact h
  · exact .ite h (.ite h.emitRecord.setReg.countK.setFld.frame h.emitRecord)

theorem canonical.commitUsed {s} (h : canonical s) : canonical (commitUsed s) := by
  unfold Machine.commitUsed
  dsimp only
  split
  · exact h
  · exact .ite h (.ite h.emitRecord.frame h.emitRecord)

theorem canonical.ledgerCheck {s} (h : canonical s) : canonical (ledgerCheck s) := h.tryResume.commitUsed.ckptCommit

theorem canonical.ckptPersist {ok s} (h : canonical s) : canonical (ckptPersist ok s) := by
  unfold Machine.ckptPersist
  dsimp only
  split
  · exact h
  · exact .ite h (have k := h.countSignature.evalDetector; .ite k.frame.setSticky.setFld k.setReg.frame)

theorem canonical.writeLdgCtrl {v s} (h : canonical s) : canonical (writeLdgCtrl v s) := h.actIf (fun _ h => h.ckptTrigger)
theorem canonical.writeLdgCntClear {v s} (h : canonical s) : canonical (writeLdgCntClear v s) := .ite h.frame.resetRegs h
theorem canonical.writeLdgRings {v s} (h : canonical s) : canonical (writeLdgRings v s) := h.storePlain.ledgerCheck

/-! ## Rings as commands -/

theorem canonical.reserveOne {n q s} (h : canonical s) : canonical (reserveOne n q s) := .ite h h.ringReserve

theorem canonical.commitOne {q s} (h : canonical s) : canonical (commitOne q s) := by
  unfold Machine.commitOne
  split
  · exact h
  · exact .ite h h.commitRecord

theorem canonical.rngTableRead {s} (h : canonical s) : canonical (rngTableRead s) := h.setRegsFrom.setFld

theorem canonical.rngTableWrite {s} (h : canonical s) : canonical (rngTableWrite s) :=
  .ite h.tableResult h.tableResult.stickyIf.setRing.evalAbove.ledgerCheck

theorem canonical.writeRngCtrl {v s} (h : canonical s) : canonical (writeRngCtrl v s) :=
  (h.actIf (fun _ h => h.rngTableRead)).actIf (fun _ h => h.rngTableWrite)

theorem canonical.writeRngAdvance {v s} (h : canonical s) : canonical (writeRngAdvance v s) := by
  unfold Machine.writeRngAdvance
  dsimp only
  split
  · exact h.evalDetector.setRing.evalAbove
  · exact h.evalDetector.refuseBit

theorem canonical.readWmPop {s} (h : canonical s) : canonical (readWmPop s).2 := by
  unfold Machine.readWmPop
  dsimp only
  split
  · exact h
  · exact h.frame

theorem canonical.rngReset {s} (h : canonical s) : canonical (rngReset s) := h.stickyIf.frame

/-! ## Scheduler state -/

theorem canonical.setLathe {n x s} (h : canonical s) : canonical (setLathe n x s) := h.frame
theorem canonical.setSchDie {d x s} (h : canonical s) : canonical (setSchDie d x s) := h.frame
theorem canonical.setTlyDie {d x s} (h : canonical s) : canonical (setTlyDie d x s) := h.frame
theorem canonical.setCtx {d c x s} (h : canonical s) : canonical (setCtx d c x s) := h.setTlyDie
theorem canonical.setWset {d i x s} (h : canonical s) : canonical (setWset d i x s) := h.frame
theorem canonical.setDet {d i x s} (h : canonical s) : canonical (setDet d i x s) := h.frame
theorem canonical.setPlan {d r p s} (h : canonical s) : canonical (setPlan d r p s) := h.frame
theorem canonical.dropPlan {d r s} (h : canonical s) : canonical (dropPlan d r s) := h.frame

/-! ## Chisel control -/

theorem canonical.chsRun {n s} (h : canonical s) : canonical (chsRun n s) := .ite h.refuseCfg (.ite h.setChsCore h)
theorem canonical.chsStop {n s} (h : canonical s) : canonical (chsStop n s) := .ite h.setChsCore h

theorem canonical.writeChsCtrl {n v s} (h : canonical s) : canonical (writeChsCtrl n v s) :=
  .ite h.refuseCfg (((h.storePlain.actIf (fun _ h => h.chsRun)).actIf (fun _ h => h.chsStop)).actIf (fun _ h => h.chsWake))

theorem canonical.chsWindowStep {n s} (h : canonical s) : canonical (chsWindowStep n s) := .ite h.setFld h

theorem canonical.writeChsMem {n v s} (h : canonical s) : canonical (writeChsMem n v s) :=
  (canonical.ite h.refuseCfg (.ite h.setChsCore (.ite h.setChsCore h.setChsCore))).chsWindowStep

theorem canonical.readChsMem {n s} (h : canonical s) : canonical (readChsMem n s).2 := h.chsWindowStep
theorem canonical.writeChsCfg {n v s} (h : canonical s) : canonical (writeChsCfg n v s) := h.storePlain
theorem canonical.writeChlHbase {n v s} (h : canonical s) : canonical (writeChlHbase n v s) := .ite h (.ite h.refuseCfg h.storePlain)
theorem canonical.writeChsCntClear {n v s} (h : canonical s) : canonical (writeChsCntClear n v s) := .ite h.resetRegs h
theorem canonical.chsEnable {n on s} (h : canonical s) : canonical (chsEnable n on s) := .ite h h.chsStop
theorem canonical.resetChs {n s} (h : canonical s) : canonical (resetChs n s) := h.updChs

theorem canonical.outWrite {a k l s} (h : canonical s) : canonical (outWrite a k l s).2 := by
  induction k generalizing a l s with
  | zero => exact h
  | succ k ih =>
    unfold Machine.outWrite
    split
    · exact h
    · exact ih h.hbmWrite

theorem canonical.outfeed {n o s} (h : canonical s) : canonical (outfeed n o s) :=
  .ite h.evalDetector.setSticky h.evalDetector.countK.outWrite.stickyIf

/-! ## Tally -/

theorem canonical.readBlocks {float a n s} (h : canonical s) : canonical (readBlocks float a n s).2 := by
  induction n generalizing a s with
  | zero => exact h
  | succ n ih => exact ih h.hbmRead

theorem canonical.updInteg {d ctx n f s} (h : canonical s) : canonical (updInteg d ctx n f s) := by
  unfold Machine.updInteg
  dsimp only
  split
  · exact h.setCtx
  · exact h

theorem canonical.noteFirst {d ctx n e nv ni s} (h : canonical s) : canonical (noteFirst d ctx n e nv ni s) :=
  have k := canonical.ite h (canonical.ite h h.setSticky.updInteg).countK
  .ite k (canonical.ite k k.setSticky.updInteg).countK

theorem canonical.notePoisoned {d n s} (h : canonical s) : canonical (notePoisoned d n s) := .ite h h.setSticky.setSticky.countK
theorem canonical.loadSlot {d float h' l s} (h : canonical s) : canonical (loadSlot d float h' l s).2 := h.notePoisoned

theorem canonical.preloadSlot {d c g q s} (h : canonical s) : canonical (preloadSlot d c g q s).2 :=
  .ite_snd h (.ite_snd h.hbmRead.loadSlot h.hbmRead.readBlocks.loadSlot)

theorem canonical.putSlot {c g q v s} (h : canonical s) : canonical (putSlot c g q v s) := h.hbmWrite

theorem canonical.takeSlot {d c g q s} (h : canonical s) : canonical (takeSlot d c g q s).2 :=
  .ite_snd h.hbmRead.preloadSlot (have k := h.hbmRead.stickyIf.readBlocks; .ite k.notePoisoned.putSlot k)

theorem canonical.injectVoid {d n float v s} (h : canonical s) : canonical (injectVoid d n float v s).2 := h.setSticky.countK

theorem canonical.injectSlot {d float v s} (h : canonical s) : canonical (injectSlot d float v s).2 :=
  have k := canonical.ite_snd h.takeArmed.injectVoid h.takeArmed
  .ite_snd k.takeArmed.setSticky.injectVoid k.takeArmed

theorem canonical.applySlot {d x c g s} (h : canonical s) : canonical (applySlot d x c g s) := by
  unfold Machine.applySlot
  dsimp only
  split
  · exact h.takeSlot.noteFirst.injectSlot.putSlot.countK
  · exact h.takeSlot.putSlot.countK
  · exact h.takeSlot

theorem canonical.noteWait {d x s} (h : canonical s) : canonical (noteWait d x s) := h.setTlyDie

theorem canonical.settleItem {d x applied s} (h : canonical s) : canonical (settleItem d x applied s) := by
  unfold Machine.settleItem
  dsimp only
  split
  · exact h
  · exact h.updInteg

theorem canonical.applyItem {d x s} (h : canonical s) : canonical (applyItem d x s) := by
  unfold Machine.applyItem
  dsimp only
  refine .ite (canonical.ite h.noteWait h.noteWait.countK).settleItem ?_
  split
  · exact h.noteWait
  · exact .ite h.noteWait.settleItem h.noteWait.applySlot.settleItem

theorem canonical.drainFuel {d n s} (h : canonical s) : canonical (drainFuel d n s) := by
  induction n generalizing s with
  | zero => exact h
  | succ n ih =>
    unfold Machine.drainFuel
    dsimp only
    split
    · exact h
    · exact ih h.setTlyDie.applyItem

theorem canonical.drainReorder {d s} (h : canonical s) : canonical (drainReorder d s) := h.drainFuel

theorem canonical.takeOne {d s x} (h : canonical s) : canonical (takeOne d s x) :=
  .ite h (.ite (.ite h.setTlyDie.countK h.setTlyDie) h.setTlyDie.applyItem.drainReorder)

theorem canonical.tallyTake {d kinds held s} (h : canonical s) : canonical (tallyTake d kinds held s) := by
  unfold Machine.tallyTake
  dsimp only
  refine .ite ?_ ?_
  · refine .countK ?_
    refine .setSticky ?_
    split
    · exact h.foldl fun _ _ h => h.takeOne
    · exact h
  · split
    · exact h.foldl fun _ _ h => h.takeOne
    · exact h

theorem canonical.tallySend {d x s} (h : canonical s) : canonical (tallySend d x s) := h.setTlyDie

theorem canonical.tallyBatch {d ctx beta entries s} (h : canonical s) : canonical (tallyBatch d ctx beta entries s).2 := by
  unfold Machine.tallyBatch
  dsimp only
  split
  · exact (.ite h.setCtx h.setCtx.setSticky.countK)
  · exact (.ite h.setCtx h.setCtx.setSticky.countK)

theorem canonical.tallyPlanGone {d ctx e s} (h : canonical s) : canonical (tallyPlanGone d ctx e s) := .ite h.setCtx h
theorem canonical.tallyIssue {d ctx n s} (h : canonical s) : canonical (tallyIssue d ctx n s) := h.updInteg
theorem canonical.tallyRequest {d ctx q s} (h : canonical s) : canonical (tallyRequest d ctx q s) := h.setCtx

/-! ## Plans -/

theorem canonical.readCut {n a s} (h : canonical s) : canonical (readCut n a s).2 := by
  induction n generalizing a s with
  | zero => exact h
  | succ n ih =>
    unfold Machine.readCut
    dsimp only
    split
    · exact h.hbmRead
    · exact ih h.hbmRead

theorem canonical.readStages {n a s} (h : canonical s) : canonical (readStages n a s).2 := by
  induction n generalizing a s with
  | zero => exact h
  | succ n ih => exact ih h.hbmRead

theorem canonical.setFences {owner l s} (h : canonical s) : canonical (setFences owner l s).2 := by
  unfold Machine.setFences
  refine .ite_snd ?_ (.dropFences ?_) <;> exact h.foldl_snd fun _ _ h => .ite_snd h.addFence h

theorem canonical.carryShare {d k s} (h : canonical s) : canonical (carryShare d k s) := .ite h h.setFld.setFld
theorem canonical.settleSeat {d k s} (h : canonical s) : canonical (settleSeat d k s) := .ite h.carryShare.setFld.setFld.setFld.setSticky h
theorem canonical.settleSeats {d s} (h : canonical s) : canonical (settleSeats d s) := h.foldl fun _ _ h => h.settleSeat
theorem canonical.moveSeats {d r s} (h : canonical s) : canonical (moveSeats d r s) := h.foldl fun _ _ h => .ite h h.carryShare.setFld

theorem canonical.endPlan {d r s} (h : canonical s) : canonical (endPlan d r s) := by
  unfold Machine.endPlan
  dsimp only
  split
  · exact h
  · exact h.tallyPlanGone.dropPlan.dropFences.settleSeats

theorem canonical.stopPlan {d r s} (h : canonical s) : canonical (stopPlan d r s) := by
  unfold Machine.stopPlan
  split
  · exact h
  · exact .ite h.setPlan h.endPlan

theorem canonical.acceptPlan {d p table s} (h : canonical s) : canonical (acceptPlan d p table s) := h.setPlan.moveSeats

theorem canonical.planValidWrite {d w s} (h : canonical s) : canonical (planValidWrite d w s).2 :=
  .ite_snd h (.ite_snd h (.ite_snd h (.ite_snd h (.ite_snd h.readCut.readStages (.ite_snd h.readCut.readStages.setFences.acceptPlan.settleSeats
    h.readCut.readStages.setFences)))))

theorem canonical.planWrite {d s} (h : canonical s) : canonical (planWrite d s) := .ite h.planValidWrite.tableResult h.stopPlan.tableResult
theorem canonical.planRead {d s} (h : canonical s) : canonical (planRead d s) := h.setRegsFrom.setFld

theorem canonical.writePlanCtrl {d v s} (h : canonical s) : canonical (writePlanCtrl d v s) :=
  (h.actIf (fun _ h => h.planRead)).actIf (fun _ h => h.planWrite)

/-! ## Beams and detectors -/

theorem canonical.beamRecord {d ring payload s} (h : canonical s) : canonical (beamRecord d ring payload s) :=
  .ite h.emitRecord.countK h.emitRecord.setSticky.countK

theorem canonical.setVolts {d l s} (h : canonical s) : canonical (setVolts d l s) := h.frame
theorem canonical.voltRecord {d g x s} (h : canonical s) : canonical (voltRecord d g x s) := h.beamRecord

theorem canonical.voltRewind {d g t s} (h : canonical s) : canonical (voltRewind d g t s) := by
  unfold Machine.voltRewind
  dsimp only
  split
  · exact h.ringReserve.ringRewind
  · exact h.ringReserve

theorem canonical.voltStore {d k g x s} (h : canonical s) : canonical (voltStore d k g x s) :=
  .ite h.setVolts (.ite h.setVolts.voltRecord (.ite h.setVolts.voltRewind h.setVolts))

theorem canonical.voltTake {d k g first us clamps s} (h : canonical s) : canonical (voltTake d k g first us clamps s) := .ite h h.voltStore
theorem canonical.voltMissing {d k g count s} (h : canonical s) : canonical (voltMissing d k g count s) := .ite h h.voltStore
theorem canonical.voltRan {d k g s} (h : canonical s) : canonical (voltRan d k g s) := .ite h h.setVolts
theorem canonical.setPowers {d i l s} (h : canonical s) : canonical (setPowers d i l s) := h.frame
theorem canonical.powerRecord {d len s x} (h : canonical s) : canonical (powerRecord d len s x) := h.beamRecord
theorem canonical.powerSpectrum {d j s e} (h : canonical s) : canonical (powerSpectrum d j s e) := h.setPowers
theorem canonical.finishPowers {d j s} (h : canonical s) : canonical (finishPowers d j s) := h.setPowers.foldl fun _ _ h => h.powerRecord
theorem canonical.detectorsTake {d j l s} (h : canonical s) : canonical (detectorsTake d j l s) := h.foldl fun _ _ h => .ite h.setDet h

theorem canonical.beamTake {d j l s} (h : canonical s) : canonical (beamTake d j l s) :=
  (canonical.ite (h.foldl fun _ _ h => h.powerSpectrum).finishPowers h).detectorsTake

theorem canonical.gougeMissing {d k g seg count s} (h : canonical s) : canonical (gougeMissing d k g seg count s) := h.countK.voltMissing.beamTake

/-! ## The scheduler -/

theorem canonical.setTbSlot {d r b x s} (h : canonical s) : canonical (setTbSlot d r b x s) := h.frame
theorem canonical.openSlot {d r b s} (h : canonical s) : canonical (openSlot d r b s) := h.hbmClear.setTbSlot
theorem canonical.freeSlot {d r b s} (h : canonical s) : canonical (freeSlot d r b s) := .ite h.setTbSlot h

theorem canonical.missStroke {d k again s} (h : canonical s) : canonical (missStroke d k again s) := by
  unfold Machine.missStroke
  dsimp only
  split
  · exact h.gougeMissing
  · exact .ite h.tallySend.setSchDie h.tallySend

theorem canonical.dropReplays {d r b s} (h : canonical s) : canonical (dropReplays d r b s) :=
  h.setSchDie.foldl fun _ _ h => h.setSticky.countK.tallySend

theorem canonical.finishBatch {d s x} (h : canonical s) : canonical (finishBatch d s x) :=
  .ite h (.ite h.setSchDie.freeSlot.endPlan h.setSchDie.freeSlot)

theorem canonical.finishBatches {d s} (h : canonical s) : canonical (finishBatches d s) := h.foldl fun _ _ h => h.finishBatch
theorem canonical.dropQueue {n again s} (h : canonical s) : canonical (dropQueue n again s) := h.setLathe.foldl fun _ _ h => h.missStroke
theorem canonical.countFallen {d l s} (h : canonical s) : canonical (countFallen d l s) := .ite h h.countK

theorem canonical.reseat {d k s} (h : canonical s) : canonical (reseat d k s) := by
  unfold Machine.reseat
  dsimp only
  split
  · exact h.setFld.setFld.settleSeat
  · exact h.setFld.setFld.setFld.setSticky

theorem canonical.retireLathe {n s} (h : canonical s) : canonical (retireLathe n s) :=
  h.retireUnit.countFallen.dropQueue.foldl fun _ _ h => .ite h.reseat h

theorem canonical.makeReady {d r b s} (h : canonical s) : canonical (makeReady d r b s) := .ite h.setSchDie.setTbSlot h.setSchDie

theorem canonical.noteArrival {d r s} (h : canonical s) : canonical (noteArrival d r s) := by
  unfold Machine.noteArrival
  dsimp only
  split
  · exact h.setSchDie.stickyIf
  · exact h.setSchDie

theorem canonical.earlyRelease {d r x s} (h : canonical s) : canonical (earlyRelease d r x s) := h.dropReplays.freeSlot

theorem canonical.landing {d r b s} (h : canonical s) : canonical (landing d r b s).2 :=
  .ite_snd h (.ite_snd h (.ite_snd (.ite_snd h.earlyRelease.openSlot.noteArrival (.ite_snd h h)) h.openSlot.noteArrival))

theorem canonical.operandArrives {d o s} (h : canonical s) : canonical (operandArrives d o s) :=
  .ite h (have k := h.landing.evalDetector.evalDetector; .ite k.setSticky.countK (.ite k.setSticky.countK (.ite
    k.hbmWrite.countK.setTbSlot.makeReady k.hbmWrite.countK.setTbSlot)))

theorem canonical.arriveOne {d s} (h : canonical s) : canonical (arriveOne d s) := by
  unfold Machine.arriveOne
  dsimp only
  split
  · exact h
  · exact h.frame.operandArrives

theorem canonical.noteBacklog {d s} (h : canonical s) : canonical (noteBacklog d s) := h.stickyIf

theorem canonical.readWeights {w bank c g n l s} (h : canonical s) : canonical (readWeights w bank c g n l s).2 := by
  induction n generalizing l s with
  | zero => exact h
  | succ n ih => exact ih h.hbmRead

theorem canonical.loadStroke {d k s} (h : canonical s) : canonical (loadStroke d k s).2 := by
  unfold Machine.loadStroke
  dsimp only
  split
  · exact h
  · exact .ite_snd h h.readWeights

theorem canonical.loadStrokes {d p n l s} (h : canonical s) : canonical (loadStrokes d p n l s).2 := by
  induction l generalizing n s with
  | nil => exact h
  | cons k l ih =>
    unfold Machine.loadStrokes
    dsimp only
    refine ih ?_
    split
    · exact h.loadStroke
    · exact h

theorem canonical.fillStores {n s} (h : canonical s) : canonical (fillStores n s) := h.loadStrokes.setLathe
theorem canonical.settleWeights {d i s} (h : canonical s) : canonical (settleWeights d i s) := h.foldl fun _ _ h => .ite h h.loadStrokes.setLathe

theorem canonical.wsetBoundary {d r b s} (h : canonical s) : canonical (wsetBoundary d r b s) :=
  h.foldl fun _ _ h => .ite h h.settleWeights.setWset.stickyIf.dropFences.addFence.countK

theorem canonical.passBoundary {d r b p s} (h : canonical s) : canonical (passBoundary d r b p s).2 :=
  have k := h.tallyBatch.wsetBoundary
  .ite k.moveSeats.settleSeats k

theorem canonical.beginBatch {d x p s} (h : canonical s) : canonical (beginBatch d x p s) :=
  have k1 := h.noteBacklog.setSchDie.wakeOnBatch
  have k2 := (canonical.ite k1.setTbSlot k1).passBoundary
  (canonical.ite k2 k2.setSticky.countK).setSchDie

theorem canonical.loadBlock {d r b c first count absent bad k s} (h : canonical s) : canonical (loadBlock d r b c first count absent bad k s).2 :=
  h.hbmRead.stickyIf

theorem canonical.loadBlocks {d r b c first count absent errs l s} (h : canonical s) :
    canonical (loadBlocks d r b c first count absent errs l s).2 := by
  induction l generalizing s with
  | nil => exact h
  | cons k l ih => exact ih h.loadBlock

theorem canonical.blankErrors {d blocks errs s} (h : canonical s) : canonical (blankErrors d blocks errs s).2 :=
  h.takeArmed.takeArmed.stickyIf.stickyIf

theorem canonical.injectTb {d l s} (h : canonical s) : canonical (injectTb d l s).2 := .ite_snd h.takeArmed.setSticky h.takeArmed

theorem canonical.passHalf {d h' s} (h : canonical s) : canonical (passHalf d h' s) := by
  unfold Machine.passHalf
  dsimp only
  split
  · exact h
  · exact h.frame

theorem canonical.issueJob {d s k} (h : canonical s) : canonical (issueJob d s k) := by
  unfold Machine.issueJob
  dsimp only
  split
  · refine .missStroke ?_
    refine .countK ?_
    split
    · exact .ite h.tallyIssue h
    · exact h
  · refine .ite ?_ ?_
    · refine .missStroke ?_
      split
      · exact .ite h.tallyIssue h
      · exact h
    · refine .ite ?_ ?_
      · refine .missStroke ?_
        split
        · exact .ite h.tallyIssue h
        · exact h
      · refine .ite ?_ ?_
        · refine .fillStores ?_
          refine .countK ?_
          refine .setLathe ?_
          split
          · exact .ite h.tallyIssue h
          · exact h
        · refine .countK ?_
          refine .setLathe ?_
          split
          · exact .ite h.tallyIssue h
          · exact h

theorem canonical.feedSegment {d r b c rows h' last s} (h : canonical s) : canonical (feedSegment d r b c rows h' last s) := h.frame

theorem canonical.runStage {d p q gs c h' place s} (h : canonical s) : canonical (runStage d p q gs c h' place s) :=
  h.feedSegment.foldl fun _ _ h => h.issueJob

theorem canonical.endLoads {d p q s} (h : canonical s) : canonical (endLoads d p q s) :=
  (canonical.ite (.ite h.setSchDie.countK.setTbSlot h.setSchDie.countK) h.setSchDie.countK.freeSlot).finishBatches

theorem canonical.loadStep {d errs p q s} (h : canonical s) : canonical (loadStep d errs p q s) := by
  unfold Machine.loadStep
  dsimp only
  split
  · exact h.endLoads
  · refine .ite h.passHalf ?_
    refine .ite ?_ ?_
    · refine .endLoads ?_
      split
      · exact h.passHalf.blankErrors.loadBlocks.injectTb.setSchDie.countK.countK.runStage
      · exact h.passHalf.blankErrors.loadBlocks.injectTb.setSchDie.countK.countK
    · split
      · exact h.passHalf.blankErrors.loadBlocks.injectTb.setSchDie.countK.countK.runStage
      · exact h.passHalf.blankErrors.loadBlocks.injectTb.setSchDie.countK.countK

theorem canonical.stageLoad {d errs s} (h : canonical s) : canonical (stageLoad d errs s) := by
  unfold Machine.stageLoad
  dsimp only
  refine .ite h ?_
  refine .ite ?_ ?_
  · split
    · split
      · exact h.loadStep
      · exact h
    · exact h
  · split
    · exact h
    · split
      · split
        · split
          · exact h.beginBatch.loadStep
          · exact h.beginBatch
        · exact h.beginBatch
      · exact h

theorem canonical.missJob {d first count s k} (h : canonical s) : canonical (missJob d first count s k) := by
  unfold Machine.missJob
  split
  · exact h.gougeMissing
  · refine .missStroke ?_
    split
    · exact h.tallyIssue
    · exact h

theorem canonical.missSteps {d p q s} (h : canonical s) : canonical (missSteps d p q s) := by
  unfold Machine.missSteps
  dsimp only
  refine h.foldl fun s x h => ?_
  split
  · exact h.foldl fun _ _ h => h.missJob
  · exact h

theorem canonical.skipBatch {d x p s} (h : canonical s) : canonical (skipBatch d x p s) := by
  unfold Machine.skipBatch
  dsimp only
  split
  · exact h.beginBatch
  · exact h.beginBatch.setSchDie.missSteps.freeSlot

theorem canonical.toDeadline {d r b p s} (h : canonical s) : canonical (toDeadline d r b p s) := by
  unfold Machine.toDeadline
  split
  · exact h.advanceTo
  · exact h

theorem canonical.stagingDeadline {d r b s} (h : canonical s) : canonical (stagingDeadline d r b s) := by
  unfold Machine.stagingDeadline
  dsimp only
  split
  · exact h
  · refine .ite h.toDeadline.passBoundary ?_
    split
    · exact .ite (canonical.ite h.toDeadline h.toDeadline.makeReady).noteBacklog (canonical.ite h.toDeadline
        h.toDeadline.makeReady).noteBacklog.skipBatch
    · exact (canonical.ite h.toDeadline h.toDeadline.makeReady).noteBacklog

/-! ## Lathes -/

theorem canonical.jobWord {d k s} (h : canonical s) : canonical (jobWord d k s).2 := by
  unfold Machine.jobWord
  dsimp only
  exact .ite_snd h.takeFree h

theorem canonical.loadWit {n k w s} (h : canonical s) : canonical (loadWit n k w s) := h.setReg.setReg.setReg.jobWord.setReg

theorem canonical.failStroke {n k w s} (h : canonical s) : canonical (failStroke n k w s) :=
  have k := (canonical.ite h.setSticky.countK h.setSticky).loadWit.countK
  .ite k.missStroke.countRetry.retireLathe k.missStroke.countRetry

theorem canonical.popStroke {n s} (h : canonical s) : canonical (popStroke n s) := h.setLathe.fillStores

theorem canonical.witnessCheck {n k sh s} (h : canonical s) : canonical (witnessCheck n k sh s) :=
  .ite h.setLathe.failStroke (.ite h.setLathe.failStroke (.ite h.setLathe.takeArmed.failStroke h.setLathe.takeArmed.countK.tallySend))

theorem canonical.drainToken {n fs held stretched s} (h : canonical s) : canonical (drainToken n fs held stretched s) := by
  unfold Machine.drainToken
  dsimp only
  split
  · exact h
  · split
    · exact h
    · exact .ite h (have k := h.popStroke.countK.countK.countK; (canonical.ite k.countK.missStroke k.takeArmed.witnessCheck).finishBatches)

theorem canonical.replayNext {d errs s} (h : canonical s) : canonical (replayNext d errs s) := by
  unfold Machine.replayNext
  dsimp only
  split
  · exact .ite h h.setSchDie.blankErrors.loadBlocks.countK.countK.setLathe
  · exact h

theorem canonical.snapshot {n s} (h : canonical s) : canonical (snapshot n s) := .ite h.refuseBit (.ite h h.setLathe)
theorem canonical.latheResume {n s} (h : canonical s) : canonical (latheResume n s) := h.setLathe.setFld

theorem canonical.writeSnapCtrl {n v s} (h : canonical s) : canonical (writeSnapCtrl n v s) := by
  unfold Machine.writeSnapCtrl
  exact (h.actIf fun _ h => h.snapshot).actIf fun _ h => .ite h.latheResume h

theorem canonical.snapDone {n samples s} (h : canonical s) : canonical (snapDone n samples s) := .ite h h.setLathe.setReg.setFld.setSticky
theorem canonical.readLthStatus {n s} (h : canonical s) : canonical (readLthStatus n s).2 := h.takeFree

theorem canonical.readLthJob {n s} (h : canonical s) : canonical (readLthJob n s).2 := by
  unfold Machine.readLthJob
  split
  · exact h.jobWord
  · exact h

theorem canonical.latheDisable {n s} (h : canonical s) : canonical (latheDisable n s) := (h.setLathe.foldl fun _ _ h => h.missStroke).finishBatches

theorem canonical.resetLathe {n s} (h : canonical s) : canonical (resetLathe n s) := by
  unfold Machine.resetLathe
  dsimp only
  refine .finishBatches ?_
  split
  · exact h.setLathe.fillStores.missStroke
  · exact h.setLathe.fillStores

/-! ## Gouge strokes and weight sets -/

theorem canonical.noteClamps {d n s} (h : canonical s) : canonical (noteClamps d n s) := .ite h h.setSticky.countK

theorem canonical.gougePass {n k g first ys s} (h : canonical s) : canonical (gougePass n k g first ys s) :=
  have k := h.countK.countK
  (canonical.ite k.noteClamps.noteClamps k.noteClamps).voltTake.beamTake

theorem canonical.dropStroke {n k s} (h : canonical s) : canonical (dropStroke n k s) := h.setLathe.fillStores

theorem canonical.gougeStroke {n fs held stretched s} (h : canonical s) : canonical (gougeStroke n fs held stretched s) := by
  unfold Machine.gougeStroke
  dsimp only
  split
  · exact h
  · split
    · refine .ite h ?_
      refine .finishBatches ?_
      refine .ite h.loadStroke.dropStroke.countK.countK.countK.gougeMissing ?_
      refine .ite h.loadStroke.dropStroke.countK.countK.countK.countK.voltRan.missStroke ?_
      split
      · exact h.loadStroke.dropStroke.countK.countK.countK.takeArmed.gougePass
      · exact h.loadStroke.dropStroke.countK.countK.countK.takeArmed.voltRan.failStroke
    · exact h

theorem canonical.detRecord {d i old new last x sum s} (h : canonical s) : canonical (detRecord d i old new last x sum s) := h.beamRecord
theorem canonical.showDet {d i sum s} (h : canonical s) : canonical (showDet d i sum s) := h.setReg

theorem canonical.detEvaluate {d i s} (h : canonical s) : canonical (detEvaluate d i s) := by
  unfold Machine.detEvaluate
  dsimp only
  split
  · exact h
  · exact .ite h (.ite h.takeArmed.setDet.setSticky.countK (.ite h.takeArmed.setDet (have k := h.takeArmed.setDet.countK.showDet; .ite (.ite
      k.detRecord.setSticky k.detRecord) k)))

theorem canonical.writeDetStatus {d i v s} (h : canonical s) : canonical (writeDetStatus d i v s) := h.actIf (fun _ h => .ite h.setDet h)
theorem canonical.detRead {d s} (h : canonical s) : canonical (detRead d s) := h.setRegsFrom

theorem canonical.detWrite {d s} (h : canonical s) : canonical (detWrite d s) :=
  .ite h.refuseCfg (.ite h.setDet.showDet (.ite (have k := h.setDet.showDet; .ite k.detRecord k) h.setDet))

theorem canonical.writeDetCtrl {d v s} (h : canonical s) : canonical (writeDetCtrl d v s) :=
  (h.actIf (fun _ h => h.detRead)).actIf (fun _ h => h.detWrite)

theorem canonical.writeLine {m d i v s} (h : canonical s) : canonical (writeLine m d i v s) := .ite h.refuseCfg h.storePlain.setReg.frame
theorem canonical.wsetRead {d s} (h : canonical s) : canonical (wsetRead d s) := h.setRegsFrom

theorem canonical.wsetWrite {d s} (h : canonical s) : canonical (wsetWrite d s) :=
  .ite h.refuseCfg (.ite (.ite h.refuseCfg h.dropFences.setWset) (have k := h.dropFences.setFences; .ite k.setWset k.frame.refuseCfg))

theorem canonical.wsetSwap {d i nb s} (h : canonical s) : canonical (wsetSwap d i nb s) := .ite h.setWset h

theorem canonical.writeWsetCtrl {d v s} (h : canonical s) : canonical (writeWsetCtrl d v s) :=
  ((h.actIf (fun _ h => h.wsetRead)).actIf (fun _ h => h.wsetWrite)).actIf (fun _ h => h.wsetSwap)

theorem canonical.resetGge {d s} (h : canonical s) : canonical (resetGge d s) :=
  (((h.foldl fun _ _ h => h.dropFences.setWset).foldl fun _ _ h => h.setDet.setPowers).setVolts.foldl fun _ _ h => h.stopPlan).refreshPins

/-! ## The end of an integration -/

theorem canonical.settleSlot {d ctx flags batches n s q} (h : canonical s) : canonical (settleSlot d ctx flags batches n s q) := by
  unfold Machine.settleSlot
  dsimp only
  split
  · exact h
  · exact h.takeSlot.putSlot.updInteg

theorem canonical.readPartials {d c g l s} (h : canonical s) : canonical (readPartials d c g l s).2 := by
  induction l generalizing s with
  | nil => exact h
  | cons q l ih => exact ih h.takeSlot

theorem canonical.combineTile {d ctx n s q} (h : canonical s) : canonical (combineTile d ctx n s q) := by
  unfold Machine.combineTile
  dsimp only
  split
  · exact h
  · refine .ite h ?_
    split
    · exact h.readPartials.putSlot.noteFirst
    · exact h.readPartials

theorem canonical.sendPartial {d ctx c g last q s} (h : canonical s) : canonical (sendPartial d ctx c g last q s) :=
  h.takeSlot.foldl fun _ _ h => h.zhkSend

theorem canonical.sendPartials {d ctx c g l s} (h : canonical s) : canonical (sendPartials d ctx c g l s) := by
  induction l generalizing s with
  | nil => exact h
  | cons q l ih => exact ih h.sendPartial

theorem canonical.partialsGone {d ctx n s} (h : canonical s) : canonical (partialsGone d ctx n s) := h.updInteg.drainReorder

theorem canonical.afterCombine {d ctx n s} (h : canonical s) : canonical (afterCombine d ctx n s) := by
  unfold Machine.afterCombine
  dsimp only
  split
  · exact h
  · exact .ite h.updInteg.sendPartials.drainReorder (canonical.ite h.updInteg.countK h.updInteg).drainReorder

theorem canonical.markLost {d ctx n batches s q} (h : canonical s) : canonical (markLost d ctx n batches s q) := by
  unfold Machine.markLost
  dsimp only
  split
  · exact h
  · exact h.takeSlot.putSlot

theorem canonical.givePartialsUp {d ctx n e s} (h : canonical s) : canonical (givePartialsUp d ctx n e s) := by
  unfold Machine.givePartialsUp
  dsimp only
  split
  · exact h
  · exact .ite h (h.foldl fun _ _ h => h.markLost).stickyIf

theorem canonical.addPartial {x s} (h : canonical s) : canonical (addPartial x s) := by
  unfold Machine.addPartial
  dsimp only
  split
  · exact h
  · split
    · exact h
    · exact h.takeSlot.putSlot.noteFirst.stickyIf.updInteg

theorem canonical.partialStep {last s x} (h : canonical s) : canonical (partialStep last s x) := by
  unfold Machine.partialStep
  dsimp only
  split
  · exact h
  · exact h.frame
  · split
    · exact .ite h.addPartial.afterCombine h.addPartial
    · exact h.addPartial

theorem canonical.retryPartials {last d ctx s} (h : canonical s) : canonical (retryPartials last d ctx s) := h.frame.foldl fun _ _ h => h.partialStep

theorem canonical.takePartial {x s} (h : canonical s) : canonical (takePartial x s) := by
  unfold Machine.takePartial
  split
  · exact h.partialStep.retryPartials
  · exact h.partialStep

theorem canonical.closeInteg {d ctx n s} (h : canonical s) : canonical (closeInteg d ctx n s) := by
  unfold Machine.closeInteg
  dsimp only
  split
  · exact h
  · split
    · exact h
    · exact ((h.updInteg.foldl fun _ _ h => h.settleSlot).foldl fun _ _ h => h.combineTile).updInteg.retryPartials

theorem canonical.integrationClose {d ctx lost s} (h : canonical s) : canonical (integrationClose d ctx lost s) := by
  unfold Machine.integrationClose
  dsimp only
  refine .ite h ?_
  split
  · exact h
  · split
    · exact (.ite h.closeInteg h)
    · refine .ite (.ite h.closeInteg h) ?_
      refine .ite (canonical.ite h.closeInteg h).afterCombine ?_
      refine .ite ?_ (.ite h.closeInteg h)
      split
      · exact (canonical.ite h.closeInteg h).retryPartials
      · exact .ite (canonical.ite h.closeInteg h).retryPartials (canonical.ite h.closeInteg h).retryPartials.givePartialsUp.afterCombine

theorem canonical.rowEntry {float l a s} (h : canonical s) : canonical (rowEntry float l a s).2 := .ite h.takeFree h

theorem canonical.rowEntries {float l n a s} (h : canonical s) : canonical (rowEntries float l n a s).2 := by
  induction n generalizing a s with
  | zero => exact h
  | succ n ih => exact ih h.rowEntry

theorem canonical.scratchRows {a n s} (h : canonical s) : canonical (scratchRows a n s) := by
  induction n generalizing a s with
  | zero => exact h
  | succ n ih => exact ih h.takeFree.hbmWrite

theorem canonical.readSlots {d c g l s} (h : canonical s) : canonical (readSlots d c g l s).2 := by
  induction l generalizing s with
  | nil => exact h
  | cons q l ih => exact ih h.takeSlot

theorem canonical.channelRecs {d c g cl s} (h : canonical s) : canonical (channelRecs d c g cl s).2 := .ite_snd h h.readSlots.scratchRows.rowEntries

theorem canonical.recPayload {d ctx c g cl done x s} (h : canonical s) : canonical (recPayload d ctx c g cl done x s).2 := by
  unfold Machine.recPayload
  dsimp only
  split
  · exact h
  · split
    · exact h
    · exact h.takeSlot

theorem canonical.emitTwice {d ring l s} (h : canonical s) : canonical (emitTwice d ring l s).2 := .ite_snd h.emitRecord.emitRecord h.emitRecord

theorem canonical.recordDone {d ctx n s} (h : canonical s) : canonical (recordDone d ctx n s) := by
  unfold Machine.recordDone
  dsimp only
  split
  · exact .ite h.updInteg.updInteg.countK h.updInteg
  · exact h.updInteg

theorem canonical.recordEmit {d ctx s} (h : canonical s) : canonical (recordEmit d ctx s) := by
  unfold Machine.recordEmit
  dsimp only
  refine .ite h ?_
  split
  · exact h
  · split
    · exact h
    · split
      · exact (canonical.ite_snd h.channelRecs h).updInteg
      · split
        · exact (canonical.ite_snd h.channelRecs h).updInteg.recPayload.emitTwice.setSticky
        · exact (canonical.ite_snd h.channelRecs h).updInteg.recPayload.emitTwice.countK.recordDone
        · exact (canonical.ite_snd h.channelRecs h).updInteg.recPayload.emitTwice.setSticky.countK.recordDone

theorem canonical.initHeaders {c s} (h : canonical s) : canonical (initHeaders c s) :=
  h.foldl fun _ _ h => h.foldl fun _ _ h => h.foldl fun _ _ h => h.hbmWrite

theorem canonical.ctxWrite {d s} (h : canonical s) : canonical (ctxWrite d s) :=
  .ite h.tableResult (.ite h.tableResult.setCtx (.ite h.tableResult.setTlyDie.setCtx.initHeaders h.tableResult.setTlyDie.setCtx))

theorem canonical.ctxRead {d s} (h : canonical s) : canonical (ctxRead d s) := h.setRegsFrom.setFld
theorem canonical.ctxRequest {d start s} (h : canonical s) : canonical (ctxRequest d start s) := .ite h.setFld.tallyRequest h.refuseCfg

theorem canonical.writeCtxCtrl {d v s} (h : canonical s) : canonical (writeCtxCtrl d v s) :=
  (((h.actIf (fun _ h => h.ctxRead)).actIf (fun _ h => h.ctxWrite)).actIf (fun _ h => h.ctxRequest)).actIf (fun _ h => h.ctxRequest)

theorem canonical.markInteg {start o s} (h : canonical s) : canonical (markInteg start o s).2 := h.foldl_snd fun _ _ h => .ite_snd h.tallyRequest h
theorem canonical.resetTally {d s} (h : canonical s) : canonical (resetTally d s) := h.setTlyDie.foldl fun _ _ h => h.stopPlan

theorem canonical.resetSched {d s} (h : canonical s) : canonical (resetSched d s) := by
  unfold Machine.resetSched
  dsimp only
  refine .setSchDie ?_
  refine .foldl ?_ fun _ _ h => h.endPlan
  refine .foldl ?_ fun _ _ h => h.freeSlot
  split
  · exact ((h.foldl fun _ _ h => h.dropQueue).foldl fun _ _ h => h.tallySend).missSteps
  · exact ((h.foldl fun _ _ h => h.dropQueue).foldl fun _ _ h => h.tallySend)

/-! ## DMA channels -/

theorem canonical.setDmaChan {ch c s} (h : canonical s) : canonical (setDmaChan ch c s) := h.frame
theorem canonical.setDmaState {ch x s} (h : canonical s) : canonical (setDmaState ch x s) := h.setFld
theorem canonical.dmaCount {ch k n s} (h : canonical s) : canonical (dmaCount ch k n s) := h.countUp
theorem canonical.dmaHalt {ch cause s} (h : canonical s) : canonical (dmaHalt ch cause s) := h.setDmaState.setFld.setSticky
theorem canonical.fetchDesc {a s} (h : canonical s) : canonical (fetchDesc a s).2 := h.hbmRead

theorem canonical.hostWrite {ch l b s} (h : canonical s) : canonical (hostWrite ch l b s) := by
  induction l generalizing b s with
  | nil => exact h
  | cons x l ih => exact ih h.send

theorem canonical.destWrite {ch host ps b s} (h : canonical s) : canonical (destWrite ch host ps b s).2 := .ite_snd h.hostWrite h.writePieces

theorem canonical.copyOne {ch host err s} (h : canonical s) : canonical (copyOne ch host err s) := by
  unfold Machine.copyOne
  dsimp only
  split
  · exact h.fetchDesc.dmaHalt
  · refine .ite h.fetchDesc.dmaHalt ?_
    exact
      have k := canonical.ite_pair h.fetchDesc h.fetchDesc.readPieces
      have k' := k.destWrite.dmaCount.setFld.setDmaChan
      .ite k.dmaHalt (.ite k.destWrite.dmaHalt (.ite k'.setDmaState.setSticky k'))

theorem canonical.recordBytes {s n p} (h : canonical s) : canonical (recordBytes s n p).2 := h.readPieces

theorem canonical.sendRecordPackets {ch member ring l s} (h : canonical s) : canonical (sendRecordPackets ch member ring l s) :=
  h.foldl fun _ _ h => h.zhkSend

theorem canonical.recordMoved {ch n bytes s} (h : canonical s) : canonical (recordMoved ch n bytes s) :=
  h.dmaCount.dmaCount.setDmaChan.setDmaState.ringPass

theorem canonical.recordAcked {ch s} (h : canonical s) : canonical (recordAcked ch s) := by
  unfold Machine.recordAcked
  split
  · exact h
  · split
    · exact h
    · exact h.recordMoved

theorem canonical.drainBuffer {ch n d p b err s} (h : canonical s) : canonical (drainBuffer ch n d p b err s) :=
  .ite h.dmaHalt (.ite h.setDmaState (.ite h.destWrite.dmaHalt (.ite h.destWrite.destWrite.dmaHalt h.destWrite.destWrite.setDmaChan.recordMoved)))

theorem canonical.drainTo {ch n p b err s} (h : canonical s) : canonical (drainTo ch n p b err s) :=
  .ite (.ite h.sendRecord.recordMoved h.setDmaState) (.ite h.setDmaChan.setDmaState.sendRecordPackets h.drainBuffer)

theorem canonical.drainTurn {ch err s} (h : canonical s) : canonical (drainTurn ch err s) := by
  unfold Machine.drainTurn
  dsimp only
  split
  · exact h
  · split
    · exact h
    · exact
        have k := h.setFld.setDmaChan.recordBytes.evalDetector
        .ite k.dmaCount.setSticky.setDmaState.ringPass k.drainTo

theorem canonical.dmaStart {ch s} (h : canonical s) : canonical (dmaStart ch s) := by
  unfold Machine.dmaStart
  dsimp only
  refine .ite h.setReg.setReg.setDmaChan ?_
  split
  · exact h.setReg.setReg.setDmaChan.fetchDesc.dmaHalt
  · exact .ite h.setReg.setReg.setDmaChan.fetchDesc.dmaHalt h.setReg.setReg.setDmaChan.fetchDesc.setDmaChan

theorem canonical.cutRecord {ch n s} (h : canonical s) : canonical (cutRecord ch n s) := by
  unfold Machine.cutRecord
  dsimp only
  split
  · exact h
  · split
    · exact h
    · exact .ite h.recordBytes.destWrite (.ite (.ite h.recordBytes.sendDatagrams h.recordBytes) (h.recordBytes.foldl fun _ _ h => h.zhkSend))

theorem canonical.freeCounts {ch s} (h : canonical s) : canonical (freeCounts ch s) := h.foldl fun _ _ h => h.takeFree.setReg

theorem canonical.dmaStop {ch cut s} (h : canonical s) : canonical (dmaStop ch cut s) := by
  unfold Machine.dmaStop
  dsimp only
  refine .setReg ?_
  refine .setDmaChan ?_
  refine .ite ?_ ?_
  · refine .frame ?_
    refine .ite ?_ ?_
    · refine .freeCounts ?_
      split
      · exact .ite h.cutRecord h
      · exact h
    · split
      · exact .ite h.cutRecord h
      · exact h
  · refine .ite ?_ ?_
    · refine .freeCounts ?_
      split
      · exact .ite h.cutRecord h
      · exact h
    · split
      · exact .ite h.cutRecord h
      · exact h

theorem canonical.dmaGo {ch s} (h : canonical s) : canonical (dmaGo ch s) := .ite h.setDmaChan.setReg h

theorem canonical.writeDmaCtrl {ch cut v s} (h : canonical s) : canonical (writeDmaCtrl ch cut v s) :=
  .ite h.refuseCfg (have k := canonical.ite h.dmaStop h; ((canonical.ite k.storePlain.dmaStart k.storePlain).actIf (fun _ h => h.dmaGo)).actIf (fun _
    h => h.resetRegs))

theorem canonical.writeDmaRd {ch v s} (h : canonical s) : canonical (writeDmaRd ch v s) := .ite h.refuseCfg h.setReg
theorem canonical.writeDmaDesc {ch v s} (h : canonical s) : canonical (writeDmaDesc ch v s) := .ite h.refuseCfg h.setReg
theorem canonical.resetDma {p s} (h : canonical s) : canonical (resetDma p s) := h.foldl fun _ _ h => .ite h.dmaStop h

/-! ## Ethernet ports -/

theorem canonical.setEthPause {p sub c x s} (h : canonical s) : canonical (setEthPause p sub c x s) := h.setEthPort
theorem canonical.takePause {p sub c t s} (h : canonical s) : canonical (takePause p sub c t s) := .ite h.setEthPause (.ite h h.setEthPause)
theorem canonical.sendPause {p time s} (h : canonical s) : canonical (sendPause p time s) := h.foldl fun _ _ h => .ite h.macSend.countK h

theorem canonical.judgeFill {p s} (h : canonical s) : canonical (judgeFill p s) :=
  .ite h (.ite h.setEthPort.sendPause (.ite h.setEthPort.sendPause h))

theorem canonical.secValid {p sub x s} (h : canonical s) : canonical (secValid p sub x s).2 := by
  unfold Machine.secValid
  dsimp only
  split
  · exact h
  · exact .ite_snd h h.setEthPort

theorem canonical.secCheck {p sub f c s} (h : canonical s) : canonical (secCheck p sub f c s).2 := by
  unfold Machine.secCheck
  cases f.sec with
  | none => exact .ite_pair h (.ite_pair h.evalDetector.setSticky.countK h.evalDetector)
  | some x => exact .ite_pair h (.ite_pair h.secValid.evalDetector.setSticky.countK h.secValid.evalDetector)

theorem canonical.discardFrame {p s} (h : canonical s) : canonical (discardFrame p s) := h.countK

theorem canonical.trackSender {p src seq s} (h : canonical s) : canonical (trackSender p src seq s) :=
  have k := h.setEthPort.evalDetector
  .ite k.setSticky.countK k

theorem canonical.sampleIn {p trunc x payload s} (h : canonical s) : canonical (sampleIn p trunc x payload s) :=
  .ite h.discardFrame (.ite h.evalDetector.setSticky.countK h.evalDetector.setEthPort.trackSender.countK.judgeFill)

theorem canonical.sendLldp {p s} (h : canonical s) : canonical (sendLldp p s) := h.ethControl.setEthPort

theorem canonical.takeLldp {p wake s} (h : canonical s) : canonical (takeLldp p wake s) := by
  unfold Machine.takeLldp
  split
  · exact .ite h h.setFld.sendLldp
  · exact h

theorem canonical.classify {p sub trunc c s} (h : canonical s) : canonical (classify p sub trunc c s) := by
  unfold Machine.classify
  dsimp only
  split
  · exact h
  · exact .ite h h.takeLldp
  · exact .ite h h.discardFrame
  · exact .ite h.ethControl h.discardFrame
  · exact .ite h (.ite h.discardFrame (.ite h.sampleIn (.ite (.ite h h.setEthPort) h.discardFrame)))
  · exact .ite h h.discardFrame
  · exact h.discardFrame

theorem canonical.datagramBlocks {p l n off s} (h : canonical s) : canonical (datagramBlocks p l n off s) := by
  induction n generalizing off s with
  | zero => exact h
  | succ n ih => exact .ite h (.ite h.blockMalformed (.ite h (ih h.evalDetector.blockReceive)))

theorem canonical.subDown {p sub s} (h : canonical s) : canonical (subDown p sub s) := h.setEthPort.setReg

theorem canonical.retireEthLane {p l s} (h : canonical s) : canonical (retireEthLane p l s) :=
  have k := h.setReg.rlAdd.setSticky
  .ite k.setFld k

theorem canonical.flowRead {p s} (h : canonical s) : canonical (flowRead p s) := h.tableResult.setRegsFrom
theorem canonical.flowWrite {p s} (h : canonical s) : canonical (flowWrite p s) := .ite h.tableResult h.tableResult.setEthPort

theorem canonical.writeFlowCtrl {p v s} (h : canonical s) : canonical (writeFlowCtrl p v s) :=
  (h.actIf (fun _ h => h.flowRead)).actIf (fun _ h => h.flowWrite)

theorem canonical.writeEthCfg {p v s} (h : canonical s) : canonical (writeEthCfg p v s) := .ite h.refuseCfg h.storePlain
theorem canonical.writeEthPfc {p v s} (h : canonical s) : canonical (writeEthPfc p v s) := .ite h.refuseCfg h.storePlain.ethFlush.judgeFill
theorem canonical.writeEthEee {p v s} (h : canonical s) : canonical (writeEthEee p v s) := .ite h (.ite h.storePlain h.storePlain.setFld)
theorem canonical.writeEthCntClear {p v s} (h : canonical s) : canonical (writeEthCntClear p v s) := .ite h.resetRegs h
theorem canonical.ethEnable {p on s} (h : canonical s) : canonical (ethEnable p on s) := .ite h (h.foldl fun _ _ h => h.subDown)
theorem canonical.resetEth {p retired s} (h : canonical s) : canonical (resetEth p retired s) := h.setEthPort.setFld.setReg

/-! ## Field outputs -/

theorem canonical.fldStart {c s} (h : canonical s) : canonical (fldStart c s) := h.setFld.setFldChan.fldJudge
theorem canonical.fldStop {c s} (h : canonical s) : canonical (fldStop c s) := h.setFld.fldJudge
theorem canonical.fldResume {c s} (h : canonical s) : canonical (fldResume c s) := h.setReg.fldJudge

theorem canonical.writeFldCtrl {c v s} (h : canonical s) : canonical (writeFldCtrl c v s) :=
  ((canonical.ite (.ite h h.fldStart) h.fldStop).actIf (fun _ h => h.fldStart)).actIf (fun _ h => h.fldResume)

theorem canonical.fldMarked {f o s} (hf : ∀ x1 s, canonical s → canonical (f x1 s)) (h : canonical s) : canonical (fldMarked f o s).2 :=
  h.foldl_snd fun _ _ h => .ite_snd h (have k := h.judgeTarget; .ite_snd (hf _ _ k).raiseLatch k)

theorem canonical.fldWatch {c s} (h : canonical s) : canonical (fldWatch c s).2 := h.setFldChan.evalDetector.stickyIf
theorem canonical.fldLeave {c s} (h : canonical s) : canonical (fldLeave c s) := .ite h (.ite h.setFldFailed.setFld.setFldY h.setFldFailed)
theorem canonical.fldChoose {c det s} (h : canonical s) : canonical (fldChoose c det s) := .ite h.countK.setFldChan h.setFldChan

theorem canonical.fldCycle {c s} (h : canonical s) : canonical (fldCycle c s) :=
  (canonical.ite h.countK.fldWatch.setReg.fldLeave.fldChoose h.countK.fldWatch.setReg).fldJudge.foldl fun _ _ h => .ite h.chsWake h

theorem canonical.fldMove {c s} (h : canonical s) : canonical (fldMove c s) :=
  .ite h.setFld.setFldY (have k := h.setFld.countK; .ite k.setFldY k.takeFree.setFldY)

theorem canonical.fldDrive {c s} (h : canonical s) : canonical (fldDrive c s) := .ite (.ite h.setFld h.setFld.setFldY) h.fldMove

theorem canonical.fldDeclare {c k s} (h : canonical s) : canonical (fldDeclare c k s) :=
  have k := h.setFldChan.countK.setSticky
  .ite k.setReg k

theorem canonical.fldSupervise {c bad k s} (h : canonical s) : canonical (fldSupervise c bad k s) :=
  have k := h.setFldChan.evalDetector
  .ite k.fldDeclare k

theorem canonical.fldUnloaded {c s} (h : canonical s) : canonical (fldUnloaded c s) := h.foldl fun _ _ h => h.setFldChan
theorem canonical.writeFldGlb {v s} (h : canonical s) : canonical (writeFldGlb v s) := h.storePlain.stickyIf.refreshFld
theorem canonical.setRailsOk {ok s} (h : canonical s) : canonical (setRailsOk ok s) := h.setReg
theorem canonical.railFault {rails s} (h : canonical s) : canonical (railFault rails s) := h.frame.setRailsOk.setSticky.refreshFld
theorem canonical.writeFldCfg {c v s} (h : canonical s) : canonical (writeFldCfg c v s) := .ite h.refuseCfg h.storePlain.fldJudge
theorem canonical.writeFldSetpoint {c v s} (h : canonical s) : canonical (writeFldSetpoint c v s) := .ite h.storePlain.countK.setFldChan h.refuseCfg
theorem canonical.writeFldCodes {c v s} (h : canonical s) : canonical (writeFldCodes c v s) := .ite h.storePlain h.refuseCfg
theorem canonical.writeFldCntClear {c v s} (h : canonical s) : canonical (writeFldCntClear c v s) := .ite h.resetRegs h
theorem canonical.resetFldGlb {s} (h : canonical s) : canonical (resetFldGlb s) := h.resetBlockRegs.setFld
theorem canonical.resetFld {c s} (h : canonical s) : canonical (resetFld c s) := h.setFldChan.setFldFailed.fldJudge

/-! ## Stewards, Referee and events -/

theorem canonical.setSteward {k x s} (h : canonical s) : canonical (setSteward k x s) := .ite h.frame h.frame
theorem canonical.freshSteward {k released s} (h : canonical s) : canonical (freshSteward k released s) := h.setSteward
theorem canonical.setStewardState {k st s} (h : canonical s) : canonical (setStewardState k st s) := .ite h.setFld h.setFld
theorem canonical.setStewardClaim {k c s} (h : canonical s) : canonical (setStewardClaim k c s) := .ite h.setFld h.setFld
theorem canonical.emptyQueue {k s} (h : canonical s) : canonical (emptyQueue k s) := .ite h.frame h.frame
theorem canonical.holdSteward {k s} (h : canonical s) : canonical (holdSteward k s) := h.setStewardState.setStewardClaim.emptyQueue.freshSteward
theorem canonical.issueClaim {k s} (h : canonical s) : canonical (issueClaim k s) := h.setFld.setStewardClaim.setStewardState.setFld
theorem canonical.claimsExhausted {s} (h : canonical s) : canonical (claimsExhausted s).2 := h.evalDetector
theorem canonical.failover {k s} (h : canonical s) : canonical (failover k s) := h.holdSteward.issueClaim.setSticky.countFld
theorem canonical.switchover {k s} (h : canonical s) : canonical (switchover k s) := h.setStewardState.setStewardClaim.issueClaim.setSticky.countFld

theorem canonical.beatTaken {k seq s} (h : canonical s) : canonical (beatTaken k seq s) :=
  have k := h.setFld.countFld
  .ite k.setSteward.setStewardState k.setSteward

theorem canonical.writeRefHb {m k v s} (h : canonical s) : canonical (writeRefHb m k v s) :=
  .ite h.refuseCfg (.ite h.evalDetector.setSticky h.evalDetector.beatTaken)

theorem canonical.judgeBeat {k s} (h : canonical s) : canonical (judgeBeat k s).2 := h.evalDetector.stickyIf.setSteward
theorem canonical.judgeExt {k us s} (h : canonical s) : canonical (judgeExt k us s).2 := h.evalDetector.stickyIf.setSteward
theorem canonical.judgeDiffer {k differ s} (h : canonical s) : canonical (judgeDiffer k differ s) := h.setSteward.evalDetector.stickyIf

theorem canonical.judgeSteward {k us s} (h : canonical s) : canonical (judgeSteward k us s).2 := by
  unfold Machine.judgeSteward
  dsimp only
  refine .ite_snd h ?_
  split
  · exact h.judgeBeat
  · exact h.judgeExt
  · exact h.judgeBeat.judgeExt.judgeDiffer

theorem canonical.standbyFails {k failed s} (h : canonical s) : canonical (standbyFails k failed s) := .ite h.holdSteward h

theorem canonical.activeFails {k s} (h : canonical s) : canonical (activeFails k s) :=
  have k := h.evalDetector.claimsExhausted.stickyIf.stickyIf
  .ite k k.failover

theorem canonical.armRef {m s} (h : canonical s) : canonical (armRef m s) :=
  .ite h.refuseCfg (have k := h.claimsExhausted; .ite k.refuseBit k.issueClaim.setFld)

theorem canonical.switchRef {m s} (h : canonical s) : canonical (switchRef m s) :=
  .ite h.refuseCfg (.ite h.refuseCfg (have k := h.claimsExhausted; .ite k.setSticky.refuseCfg (.ite k.failover k.switchover)))

theorem canonical.reinstateRef {m s} (h : canonical s) : canonical (reinstateRef m s) := .ite h.refuseCfg (.ite h.setStewardState.freshSteward h)

theorem canonical.writeRefCtrl {m v s} (h : canonical s) : canonical (writeRefCtrl m v s) :=
  ((h.actIf (fun _ h => h.armRef)).actIf (fun _ h => h.switchRef)).actIf (fun _ h => h.reinstateRef)

theorem canonical.writeRefGrant {m v s} (h : canonical s) : canonical (writeRefGrant m v s) := .ite h.frame h.refuseCfg
theorem canonical.writeRefCfg {m v s} (h : canonical s) : canonical (writeRefCfg m v s) := .ite h.refuseCfg h.storePlain
theorem canonical.resetRef {s} (h : canonical s) : canonical (resetRef s) := h.resetRegs.resetRegs
theorem canonical.writeEvtMask {k v s} (h : canonical s) : canonical (writeEvtMask k v s) := h.storePlain.foldl fun _ _ h => h.msixOfEvent
theorem canonical.msixSettle {v s} (h : canonical s) : canonical (msixSettle v s) := .ite h.setReg.msixRequest h
theorem canonical.writeMsix {page off size v s} (h : canonical s) : canonical (writeMsix page off size v s) := h.setReg.msixSettle
theorem canonical.setFunctionMask {on s} (h : canonical s) : canonical (setFunctionMask on s) := h.frame.foldl fun _ _ h => h.msixSettle

theorem canonical.readEvtPop {st s} (h : canonical s) : canonical (readEvtPop st s).2 := by
  unfold Machine.readEvtPop
  split
  · exact h
  · exact .ite h.frame h.frame

theorem canonical.writeEvtRoute {v s} (h : canonical s) : canonical (writeEvtRoute v s) := h.frame
theorem canonical.writeEvtCnt {v s} (h : canonical s) : canonical (writeEvtCnt v s) := .ite h.frame h
theorem canonical.resetEvt {s} (h : canonical s) : canonical (resetEvt s) := h.resetBlockRegs.resetBlockRegs.resetBlockRegs.frame

theorem canonical.rlRead {s} (h : canonical s) : canonical (rlRead s) := by
  unfold Machine.rlRead
  split
  · exact h.setReg.tableResult
  · exact h.setReg.tableResult

theorem canonical.rlRemove {m s} (h : canonical s) : canonical (rlRemove m s) := by
  unfold Machine.rlRemove
  dsimp only
  refine .ite h.setFld.refuseBit ?_
  split
  · exact h.tableResult
  · exact h.frame.tableResult

theorem canonical.writeRlCtrl {m v s} (h : canonical s) : canonical (writeRlCtrl m v s) :=
  (h.actIf (fun _ h => h.rlRead)).actIf (fun _ h => h.rlRemove)

theorem canonical.rlPersist {ok s} (h : canonical s) : canonical (rlPersist ok s) :=
  .ite h (.ite h.evalDetector.setSticky h.evalDetector.countSignature.frame)

/-! ## Truing -/

theorem canonical.noteOffset {r off s} (h : canonical s) : canonical (noteOffset r off s) := h.frame
theorem canonical.refDisqualify {r s} (h : canonical s) : canonical (refDisqualify r s) := .ite h.frame.setFld.setSticky h.frame
theorem canonical.refRequalify {r clean s} (h : canonical s) : canonical (refRequalify r clean s) := .ite h.frame.setFld.setSticky h.frame

theorem canonical.refUpdate {r off1 los s} (h : canonical s) : canonical (refUpdate r off1 los s) :=
  .ite h.noteOffset.setFld.setFld.setFld.stickyIf.refDisqualify h.noteOffset.setFld.setFld.setFld.stickyIf.refRequalify

theorem canonical.takeEntry {e phases s} (h : canonical s) : canonical (takeEntry e phases s) :=
  h.setFld.setFld.setFld.countFld.setReg.setReg.frame.setSticky.setSticky

theorem canonical.holdTimer {t s} (h : canonical s) : canonical (holdTimer t s) := h.setReg.stickyIf
theorem canonical.enterHoldover {s} (h : canonical s) : canonical (enterHoldover s) := h.setReg.setFld.setFld.setFld.setReg.setSticky
theorem canonical.noteDispute {s} (h : canonical s) : canonical (noteDispute s) := h.setFld.stickyIf

theorem canonical.evalSelection {phases s} (h : canonical s) : canonical (evalSelection phases s) := by
  unfold Machine.evalSelection
  dsimp only
  refine .ite h ?_
  split
  · exact .ite h.noteDispute h.noteDispute.takeEntry
  · exact .ite h.noteDispute.enterHoldover h.noteDispute

theorem canonical.countCandidates {s} (h : canonical s) : canonical (countCandidates s) := h.frame
theorem canonical.setPhaseErr {err s} (h : canonical s) : canonical (setPhaseErr err s) := h.frame.setFld
theorem canonical.freeRun {s} (h : canonical s) : canonical (freeRun s) := h.setFld.setFld
theorem canonical.writeTruClkout {n v s} (h : canonical s) : canonical (writeTruClkout n v s) := .ite h.refuseCfg h.storePlain.refreshPins
theorem canonical.writeTruPrio {e v s} (h : canonical s) : canonical (writeTruPrio e v s) := .ite h.refuseCfg h.storePlain
theorem canonical.writeTruRefCfg {r v s} (h : canonical s) : canonical (writeTruRefCfg r v s) := .ite h.refuseCfg h.storePlain
theorem canonical.truEnable {on s} (h : canonical s) : canonical (truEnable on s) := .ite h h.freeRun
theorem canonical.resetTru {s} (h : canonical s) : canonical (resetTru s) := h.frame.refreshPins

/-! ## Zhok links -/

theorem canonical.linkStatus {z s} (h : canonical s) : canonical (linkStatus z s) := h.setFld.setFld.setFld.setFld.setFld
theorem canonical.zhokSource {s} (h : canonical s) : canonical (zhokSource s) := .ite h.selectSource h

theorem canonical.linkRefresh {z s} (h : canonical s) : canonical (linkRefresh z s) :=
  .ite h.setZhkLink.linkStatus.sendTable.zhkRetry.zhokSource (.ite h.setZhkLink.setSticky.linkStatus.zhokSource h.linkStatus)

theorem canonical.packetGone {k s} (h : canonical s) : canonical (packetGone k s) := by
  unfold Machine.packetGone
  split
  · exact h.partialsGone
  · exact h

theorem canonical.linkDown {z s} (h : canonical s) : canonical (linkDown z s) :=
  ((h.foldl fun _ _ h => .ite h h.setZhkLane).setZhkLink.stickyIf.foldl fun _ _ h => h.packetGone).frame.zhkRetry.linkStatus.zhokSource

theorem canonical.linkTrain {z s} (h : canonical s) : canonical (linkTrain z s) := (h.setZhkLink.foldl fun _ _ h => h.setZhkLane).linkStatus
theorem canonical.zhkEnable {z on s} (h : canonical s) : canonical (zhkEnable z on s) := .ite h.linkDown (.ite h.linkStatus h.linkTrain.sharedRefresh)

theorem canonical.useGroup {z g s} (h : canonical s) : canonical (useGroup z g s) :=
  have k := h.setZhkLink.foldl fun _ _ h => .ite h h.setZhkLane
  (canonical.ite (k.foldl fun _ _ h => h.setZhkLane) k).linkRefresh

theorem canonical.retireZhkLane {z l s} (h : canonical s) : canonical (retireZhkLane z l s) :=
  have k := h.setZhkLane.rlAdd.setSticky.setReg.frame
  .ite k.setFld.linkDown k.useGroup

theorem canonical.zhkAttribute {z lanes s} (h : canonical s) : canonical (zhkAttribute z lanes s) :=
  .ite h.setZhkLink.countRetry.retireZhkLane h.setZhkLink.countRetry

theorem canonical.zhkRetrain {z lanes lost s} (h : canonical s) : canonical (zhkRetrain z lanes lost s) :=
  (h.setSticky.countK.foldl fun _ _ h => h.setZhkLane).linkRefresh.zhkAttribute

theorem canonical.zhkTrain {n s} (h : canonical s) : canonical (zhkTrain n s) := h.setZhkLane.linkRefresh

theorem canonical.zhkNote {n s x} (h : canonical s) : canonical (zhkNote n s x) := by
  unfold Machine.zhkNote
  split
  · exact h.setSticky
  · exact h.linkRefresh
  · exact h.zhkTrain
  · exact h

theorem canonical.zhkCapCheck {n s} (h : canonical s) : canonical (zhkCapCheck n s) := .ite h.setSticky.linkDown h.linkStatus
theorem canonical.zhkSendTrain {n s} (h : canonical s) : canonical (zhkSendTrain n s) := h.laneSendFrame.setZhkLane

theorem canonical.zhkTrainFrame {n f inv eq s} (h : canonical s) : canonical (zhkTrainFrame n f inv eq s) := by
  unfold Machine.zhkTrainFrame
  dsimp only
  refine .ite h ?_
  split
  · exact h
  · exact h
  · exact .ite h h.zhkRetrain.zhkSendTrain
  · exact
      have k := (canonical.ite h.setSticky.countK.countFld h).setZhkLane.foldl fun _ _ h => h.zhkNote
      (canonical.ite k k.zhkSendTrain).zhkCapCheck

theorem canonical.noteUse {z use s} (h : canonical s) : canonical (noteUse z use s) := .ite h h.setZhkLink
theorem canonical.countUse {z bytes s} (h : canonical s) : canonical (countUse z bytes s) := .ite h.setZhkLink.setFld.noteUse h.setZhkLink
theorem canonical.sendCodeword {n fseq data s} (h : canonical s) : canonical (sendCodeword n fseq data s) := h.send.setZhkLane

theorem canonical.emitFrame {z f s} (h : canonical s) : canonical (emitFrame z f s) := by
  unfold Machine.emitFrame
  dsimp only
  refine h.send.foldl fun s x h => ?_
  split
  · exact h.sendCodeword
  · exact h

theorem canonical.applyStep {z x s} (h : canonical s) : canonical (applyStep z x s) :=
  .ite h.setZhkLink.countK.linkRefresh (h.setZhkLink.foldl fun _ _ h => h.setZhkLane).countK.linkRefresh

theorem canonical.stepAfter {z seq s} (h : canonical s) : canonical (stepAfter z seq s) := by
  unfold Machine.stepAfter
  dsimp only
  split
  · exact h
  · exact .ite h (.ite h.applyStep (.ite h.setZhkLink h))

theorem canonical.sendFrame {z s} (h : canonical s) : canonical (sendFrame z s) :=
  .ite h (canonical.ite h.countK h).countK.countK.emitFrame.setZhkLink.countUse.stepAfter

theorem canonical.packetAcked {s k} (h : canonical s) : canonical (packetAcked s k) := by
  unfold Machine.packetAcked
  split
  · exact h
  · exact h.partialsGone
  · exact h.recordAcked

theorem canonical.takeAck {z ack s} (h : canonical s) : canonical (takeAck z ack s) := by
  unfold Machine.takeAck
  dsimp only
  split
  · exact h
  · exact .ite h (h.setZhkLink.foldl fun _ _ h => h.packetAcked).zhkRetry

theorem canonical.resend {z s} (h : canonical s) : canonical (resend z s) :=
  .ite h (have k := h.setSticky.countK.foldl fun _ _ h => h.emitFrame; .ite k.setZhkLink.setZhkLink.zhkRetrain k.setZhkLink)

theorem canonical.takeStep {z flags switch s} (h : canonical s) : canonical (takeStep z flags switch s) := by
  unfold Machine.takeStep
  dsimp only
  refine .ite (.ite (.ite h (canonical.ite (h.foldl fun _ _ h => h.setZhkLane) h).setZhkLink.linkStatus) (.ite h h.setZhkLink.linkStatus)) ?_
  refine .ite ?_ h
  split
  · exact .ite h.setZhkLink h
  · exact h

theorem canonical.takeTime {z txTime s} (h : canonical s) : canonical (takeTime z txTime s) :=
  have k := h.setReg.evalDetector
  .ite k.stickyIf.frame.sourceMeasured k.stickyIf

theorem canonical.takeTable {t s} (h : canonical s) : canonical (takeTable t s) :=
  have k := h.frame.judgeTables
  .ite (k.foldl fun _ _ h => h.send) k

theorem canonical.zhkWord {z n w s} (h : canonical s) : canonical (zhkWord z n w s).2.2 :=
  .ite_snd_snd h.evalDetector.setSticky.countK.countFld.setZhkLane h.evalDetector.setZhkLane

theorem canonical.zhkWords {z l s} (h : canonical s) : canonical (zhkWords z l s).2.2 := by
  induction l generalizing s with
  | nil => exact h
  | cons x l ih => exact ih h.zhkWord

theorem canonical.takePayload {z payload s} (h : canonical s) : canonical (takePayload z payload s) := h.setZhkLink

theorem canonical.acceptFrame {z data s} (h : canonical s) : canonical (acceptFrame z data s) :=
  have k1 := h.setZhkLink.countK.setFld.noteUse.takePayload
  have k2 := canonical.ite k1.takeAck.resend k1.takeAck
  .ite k2.takeStep.takeTime k2.takeStep

theorem canonical.trainWords {z words data s} (h : canonical s) : canonical (trainWords z words data s) := by
  unfold Machine.trainWords
  dsimp only
  refine h.foldl fun s x h => ?_
  split
  · exact h.zhkTrainFrame
  · exact h

theorem canonical.relay {kind dest src flow addr payload detour s} (h : canonical s) : canonical (relay kind dest src flow addr payload detour s) :=
  h.foldl fun _ _ h => h.zhkSend

theorem canonical.relayOr {kind dest src flow addr payload act s} (hf : ∀ s, canonical s → canonical (act s)) (h : canonical s) :
    canonical (relayOr kind dest src flow addr payload act s) := .ite h (.ite h.takeRx.relay (hf _ h.takeRx))

theorem canonical.recvAdvance {r s} (h : canonical s) : canonical (recvAdvance r s).2 := by
  unfold Machine.recvAdvance
  dsimp only
  refine .ite_snd h ?_
  split
  · split
    · exact h
    · exact .ite_snd h h.ringReserve
  · split
    · exact h
    · exact .ite_snd h h.ringReserve
  · refine .ite_snd ?_ ?_
    · split
      · exact h
      · exact .ite_snd h h.ringReserve
    · refine .evalAbove ?_
      refine .commitRecord ?_
      split
      · exact h
      · exact .ite_snd h h.ringReserve

theorem canonical.recvAll {s} (h : canonical s) : canonical (recvAll s) := by
  unfold Machine.recvAll
  dsimp only
  refine h.frame.foldl fun s x h => ?_
  split
  · exact h.recvAdvance.frame
  · exact h.recvAdvance

theorem canonical.recordIn {src ring off bytes s} (h : canonical s) : canonical (recordIn src ring off bytes s) := .ite h h.frame.recvAll

theorem canonical.takeClaims {src claims s} (h : canonical s) : canonical (takeClaims src claims s) :=
  ((h.frame.foldl fun _ _ h => h.frame.setFld).foldl fun _ _ h => .ite h.frame h).sharedRefresh.refreshPins

theorem canonical.writeZhkGang {v s} (h : canonical s) : canonical (writeZhkGang v s) :=
  .ite h.refuseCfg (h.storePlain.foldl fun _ _ h => h.linkStatus)

theorem canonical.writeZhkRegion {r v s} (h : canonical s) : canonical (writeZhkRegion r v s) :=
  .ite h.refuseCfg (.ite h.storePlain h.storePlain.judgeTables.sendTable)

theorem canonical.writeZhkShared {i v s} (h : canonical s) : canonical (writeZhkShared i v s) := .ite h.refuseCfg h.frame.setReg.refreshPins.sendTable
theorem canonical.writeZhkCntClear {z v s} (h : canonical s) : canonical (writeZhkCntClear z v s) := .ite h.resetRegs.resetRegs.setZhkLink h
theorem canonical.resetZhk {z s} (h : canonical s) : canonical (resetZhk z s) := .ite h.linkDown.setZhkLink h.linkDown.setZhkLink.frame

/-! ## Register reads -/

theorem canonical.readEffect {m b p off s} (h : canonical s) : EverySome (fun r => canonical r.2) (readEffect m b p off s) := by
  unfold Machine.readEffect
  split
  · exact .ite (.some h.readCoefData) (.ite (.some h.readGainData) .none)
  · exact .ite (.some h.readLthStatus) .none
  · exact .ite (.some h.readWmPop) .none
  · exact .ite (.some h.readTimeS) (.ite (.some h.readTimeSub) (.ite (.some h.popTrigIn) .none))
  · exact .ite (.some h.popMarkDone) .none
  · exact .ite (.some h.readChsMem) .none
  · exact .ite (.some h.readChsMem) .none
  · exact .ite (.some h.readEvtPop) .none
  · exact .none

theorem canonical.readReg {m p off s} (h : canonical s) : canonical (readReg m p off s).2 := by
  unfold Machine.readReg
  split
  · exact h
  · split
    · exact h
    · exact h.readEffect.getD h

theorem canonical.busRead {m addr size s} (h : canonical s) : canonical (busRead m addr size s).2.2 :=
  .ite_snd_snd h.countBar0.refusedWrite (.ite_snd_snd h.countBar0 h.countBar0.readReg)

/-! ## Heartwood -/

theorem canonical.readImage {a s} (h : canonical s) : canonical (readImage a s).2 := by
  unfold Machine.readImage
  dsimp only
  exact .ite_pair h.hbmRead.hbmRead h.hbmRead

theorem canonical.fetchImage {a kind s} (h : canonical s) : canonical (fetchImage a kind s).2.2 := by
  unfold Machine.fetchImage
  dsimp only
  split <;> dsimp only <;> exact h.readImage

theorem canonical.setFwSlot {k x s} (h : canonical s) : canonical (setFwSlot k x s) := .ite h.frame h.frame
theorem canonical.setMeasure {j l s} (h : canonical s) : canonical (setMeasure j l s) := h.setRegsFrom
theorem canonical.bootSlot {k trial s} (h : canonical s) : canonical (bootSlot k trial s) := h.frame.setMeasure

theorem canonical.bootFirmware {damaged s} (h : canonical s) : canonical (bootFirmware damaged s) :=
  .ite h.frame.bootSlot (.ite h.frame.setSticky.bootSlot h.frame.frame.setSticky)

theorem canonical.noteOpWrite {m off s} (h : canonical s) : canonical (noteOpWrite m off s) := by
  unfold Machine.noteOpWrite
  dsimp only
  split
  · exact .ite h.frame h
  · exact h

theorem canonical.setOpOut {l s} (h : canonical s) : canonical (setOpOut l s) := h.setRegsFrom

theorem canonical.opInstallFw {m flash s} (h : canonical s) : canonical (opInstallFw m flash s).2 := by
  unfold Machine.opInstallFw
  dsimp only
  exact .ite_exit h (.ite_exit h (.ite_exit h.fetchImage (.ite_pair h.fetchImage h.fetchImage.setFwSlot.frame)))

theorem canonical.opVerifyWork {s} (h : canonical s) : canonical (opVerifyWork s).2 := by
  unfold Machine.opVerifyWork
  dsimp only
  exact .ite_exit h (.ite_pair h.fetchImage h.fetchImage.frame.setMeasure.setOpOut)

theorem canonical.opDebugUnlock {s} (h : canonical s) : canonical (opDebugUnlock s).2 := by
  unfold Machine.opDebugUnlock
  dsimp only
  exact .ite_exit h (.ite_pair h.hbmRead h.hbmRead.frame.setSticky)

theorem canonical.clearDebug {p s} (h : canonical s) : canonical (clearDebug p s) := .ite h.setFld.latheResume h.setFld
theorem canonical.endUnlock {s} (h : canonical s) : canonical (endUnlock s) := .ite h (h.frame.setSticky.foldl fun _ _ h => h.clearDebug)
theorem canonical.opAttest {s} (h : canonical s) : canonical (opAttest s).2 := .ite_snd h h.frame.countSignature.emitRecord
theorem canonical.installSa {p key a s} (h : canonical s) : canonical (installSa p key a s) := h.setEthPort

theorem canonical.kemInstall {key s} (h : canonical s) : canonical (kemInstall key s) := by
  unfold Machine.kemInstall
  dsimp only
  split
  · exact h.installSa
  · exact h.installSa
  · exact h.frame

theorem canonical.opKem {m s} (h : canonical s) : canonical (opKem m s).2 := by
  unfold Machine.opKem
  dsimp only
  exact .ite_pair h (.ite_pair h (.ite_pair h.hbmRead h.hbmRead.frame.hbmWrite.setOpOut.kemInstall))

theorem canonical.setOwner {k o s} (h : canonical s) : canonical (setOwner k o s) := h.frame
theorem canonical.opOwnerProg {m s} (h : canonical s) : canonical (opOwnerProg m s).2 := .ite_snd h (.ite_snd h.setOwner h)

theorem canonical.opOwnerRevoke {m s} (h : canonical s) : canonical (opOwnerRevoke m s).2 := by
  unfold Machine.opOwnerRevoke
  dsimp only
  refine .ite_snd h ?_
  split
  · exact .ite_snd h h.setOwner
  · exact h

theorem canonical.hwdOperation {m flash s} (h : canonical s) : canonical (hwdOperation m flash s).2 := by
  unfold Machine.hwdOperation
  split
  · exact h.opInstallFw
  · exact h.opVerifyWork
  · exact h.opDebugUnlock
  · exact h.opAttest
  · exact h.opKem
  · exact h.opOwnerProg
  · exact h.opOwnerRevoke
  · exact h

theorem canonical.hwdGo {m flash s} (h : canonical s) : canonical (hwdGo m flash s) := h.hwdOperation.setFld.stickyIf
theorem canonical.writeHwdOp {m off v s} (h : canonical s) : canonical (writeHwdOp m off v s) := .ite h.refuseCfg h.storePlain.noteOpWrite

theorem canonical.writeHwdOpCtrl {m flash v s} (h : canonical s) : canonical (writeHwdOpCtrl m flash v s) :=
  .ite h.refuseCfg (h.storePlain.noteOpWrite.actIf (fun _ h => h.hwdGo))

theorem canonical.runOp {op m flash v s} (h : canonical s) : canonical (runOp op m flash v s) := h.guardedWrite (fun _ h => h.writeHwdOpCtrl)
theorem canonical.hwdConfirm {s} (h : canonical s) : canonical (hwdConfirm s) := .ite h.frame h
theorem canonical.advanceFw {m s} (h : canonical s) : canonical (advanceFw m s) := .ite h.frame h.refuseCfg
theorem canonical.advanceWork {m s} (h : canonical s) : canonical (advanceWork m s) := .ite h.frame h.refuseCfg

theorem canonical.writeHwdCtrl {m v s} (h : canonical s) : canonical (writeHwdCtrl m v s) :=
  (((h.actIf (fun _ h => h.hwdConfirm)).actIf (fun _ h => h.endUnlock)).actIf (fun _ h => h.advanceFw)).actIf (fun _ h => h.advanceWork)

theorem canonical.lockApply {m v s} (h : canonical s) : canonical (lockApply m v s) := .ite h.refuseBit (.ite h.refuseCfg h.storePlain.setReg)
theorem canonical.writeHwdLock {m v s} (h : canonical s) : canonical (writeHwdLock m v s) := .ite h.lockApply h.storePlain
theorem canonical.resetHwd {s} (h : canonical s) : canonical (resetHwd s) := h.resetRegs.endUnlock.frame
theorem canonical.resetLdg {s} (h : canonical s) : canonical (resetLdg s) := h.frame.resetRegs.resetRegs

/-! ## Power, start and shutdown -/

theorem canonical.setDomain {d on s} (h : canonical s) : canonical (setDomain d on s) := h.setReg
theorem canonical.clearPage {p s} (h : canonical s) : canonical (clearPage p s) := h.resetRegs.frame.setReg.setFld

theorem canonical.rewindMaster {m s} (h : canonical s) : canonical (rewindMaster m s) := by
  unfold Machine.rewindMaster
  refine h.foldl fun s x h => ?_
  split
  · exact h.ringRewind
  · exact h

theorem canonical.gateCompute {d s} (h : canonical s) : canonical (gateCompute d s) := h.frame.frame

theorem canonical.gateIngest {d s} (h : canonical s) : canonical (gateIngest d s) :=
  ((h.foldl fun _ _ h => h.rchForget.setRchQueue).foldl fun _ _ h => h.resetFaceplate).frame

theorem canonical.gateResults {d s} (h : canonical s) : canonical (gateResults d s) :=
  (h.rewindMaster.rewindMaster.rewindMaster.foldl fun _ _ h => h.dropFences.dropFences).frame.frame.frame

theorem canonical.gateSpur {n s} (h : canonical s) : canonical (gateSpur n s) := .ite h.sprDown h.sprDown.setSprLane
theorem canonical.gateStack {k s} (h : canonical s) : canonical (gateStack k s) := h.clearPage.setReg.frame

theorem canonical.gateBlocks {d s} (h : canonical s) : canonical (gateBlocks d s) :=
  .ite h.frame (.ite h.rngReset (.ite (h.foldl fun _ _ h => h.setStewardState.setStewardClaim.emptyQueue.freshSteward) (.ite h.frame.frame (.ite
    h.gateCompute (.ite h.gateIngest.gateResults (.ite (h.foldl fun _ _ h => h.gateSpur) (.ite (h.foldl fun _ _ h => h.gateSpur) (.ite (h.foldl fun _
    _ h => h.resetZhk) (.ite (h.foldl fun _ _ h => h.ethEnable.resetEth) (.ite (h.foldl fun _ _ h => h.ethEnable.resetEth) (.ite h.gateStack.gateStack
    (.ite h.gateStack.gateStack (.ite (h.foldl fun _ _ h => h.setFldChan.setFldFailed) (.ite (h.foldl fun _ _ h => h.setFldChan.setFldFailed) (.ite
    h.frame h)))))))))))))))

theorem canonical.gateDomain {d s} (h : canonical s) : canonical (gateDomain d s) := .ite h (h.gateBlocks.foldl fun _ _ h => h.clearPage).setDomain

theorem canonical.bindSeats {d s} (h : canonical s) : canonical (bindSeats d s) := by
  unfold Machine.bindSeats
  dsimp only
  refine ((h.foldl fun _ _ h => h.setFld.setFld).foldl fun _ _ h => h.setFld.setFld.setFld).foldl fun s x h => ?_
  refine .ite h ?_
  split
  · exact h.setFld.setFld.setFld
  · exact h.setFld

theorem canonical.pmbus {k cmd val s} (h : canonical s) : canonical (pmbus k cmd val s) := h.send
theorem canonical.setTraining {k l s} (h : canonical s) : canonical (setTraining k l s) := h.frame
theorem canonical.trainStack {env k s} (h : canonical s) : canonical (trainStack env k s) := .ite h.setFld.setSticky h.frame.setTraining.setFld.setFld
theorem canonical.restoreStack {env k s} (h : canonical s) : canonical (restoreStack env k s) := .ite h.setSticky.trainStack h.setFld.setFld
theorem canonical.powerStack {env k s} (h : canonical s) : canonical (powerStack env k s) := .ite h.restoreStack h.trainStack

theorem canonical.powerRail {env d s} (h : canonical s) : canonical (powerRail env d s).2 :=
  .ite_snd h (.ite_snd h.evalDetector.setSticky h.evalDetector.pmbus.pmbus.setFld)

theorem canonical.showEthLanes {p s} (h : canonical s) : canonical (showEthLanes p s) := h.foldl fun _ _ h => .ite h.setReg h

theorem canonical.powerBlocks {env d s} (h : canonical s) : canonical (powerBlocks env d s) :=
  .ite (h.foldl fun _ _ h => h.setStewardState.freshSteward) (.ite (h.foldl fun _ _ h => .ite h.updChs h) (.ite h.bindSeats (.ite (h.foldl fun _ _ h
    => h.showEthLanes) (.ite h.powerStack.powerStack (.ite h.powerStack.powerStack (.ite (h.foldl fun _ _ h => .ite h.updChs h) h))))))

theorem canonical.powerDomain {env d s} (h : canonical s) : canonical (powerDomain env d s) :=
  .ite h (.ite (.ite h.powerRail.setDomain.powerBlocks h.powerRail) h.setDomain.powerBlocks)

theorem canonical.writeDomainReq {m env v s} (h : canonical s) : canonical (writeDomainReq m env v s) :=
  .ite h.setFld.refuseBit ((h.setFld.setReg.foldl fun _ _ h => .ite h h.gateDomain).foldl fun _ _ h => .ite h.powerDomain h).refreshPins

theorem canonical.readRail {x s} (h : canonical s) : canonical (readRail x s) := .ite h (canonical.ite h h.setFld).setFld.setFld
theorem canonical.reportTj {die tj s} (h : canonical s) : canonical (reportTj die tj s) := h.setReg.frame.evalDetector.stickyIf

theorem canonical.railsOff {dead s} (h : canonical s) : canonical (railsOff dead s) :=
  h.foldl fun _ _ h => have k := h.setFld.evalDetector; .ite k.setSticky k.pmbus

theorem canonical.fieldOff {s} (h : canonical s) : canonical (fieldOff s) := h.foldl fun _ _ h => .ite h h.setFld.fldJudge

theorem canonical.thermalTrip {dead s} (h : canonical s) : canonical (thermalTrip dead s) :=
  (h.setSticky.fieldOff.foldl fun _ _ h => .ite h h.gateDomain).railsOff.refreshPins

theorem canonical.fullReset {s} (h : canonical s) : canonical (fullReset s) :=
  canonical.refreshPins (.setReg (.setReg (.setReg ⟨sparseWf_filter _ _ _ h.1, sparseWf_nil _⟩)))

theorem canonical.powerOnReset {s} (h : canonical s) : canonical (powerOnReset s) :=
  canonical.frame (.setReg ⟨sparseWf_filter _ _ _ h.fullReset.1, h.fullReset.2⟩)

theorem canonical.writePwrCtrl {m v s} (h : canonical s) : canonical (writePwrCtrl m v s) := h.actIf (fun _ h => .ite h.fullReset h.refuseCfg)
theorem canonical.writeRecord {body s} (h : canonical s) : canonical (writeRecord body s) := h.countSignature.setFld.frame
theorem canonical.applyRow {u s} (h : canonical s) : canonical (applyRow u s) := .ite h (have k := h.frame.countFld; .ite k k.countFld)

theorem canonical.applyEntry {s w} (h : canonical s) : canonical (applyEntry s w) := by
  unfold Machine.applyEntry
  dsimp only
  split
  · refine .ite ?_ ?_
    · refine .setSprLane ?_
      split
      · exact h.setFld
      · exact h
    · split
      · exact h.setFld
      · exact h
  · refine .ite ?_ ?_
    · split
      · exact h.setFld
      · exact h
    · refine .ite ?_ ?_
      · refine .setFld ?_
        refine .setZhkLane ?_
        split
        · exact h.setFld
        · exact h
      · refine .useGroup ?_
        refine .setZhkLane ?_
        split
        · exact h.setFld
        · exact h
  · refine .applyRow ?_
    split
    · exact h.setFld
    · exact h
  · refine .ite ?_ ?_
    · refine .updChs ?_
      split
      · exact h.setFld
      · exact h
    · split
      · exact h.setFld
      · exact h
  · refine .ite ?_ ?_
    · refine .updChs ?_
      split
      · exact h.setFld
      · exact h
    · split
      · exact h.setFld
      · exact h
  · refine .ite ?_ ?_
    · split
      · exact h.setFld
      · exact h
    · refine .ite ?_ ?_
      · refine .setFld ?_
        refine .setReg ?_
        split
        · exact h.setFld
        · exact h
      · refine .setReg ?_
        split
        · exact h.setFld
        · exact h
  · split
    · exact h.setFld
    · exact h

theorem canonical.loadList {bad s} (h : canonical s) : canonical (loadList bad s) := by
  unfold Machine.loadList
  dsimp only
  split
  · exact h.frame
  · exact h.frame.setSticky

theorem canonical.openEpoch {s} (h : canonical s) : canonical (openEpoch s) :=
  have k := h.setFld.setReg
  .ite k k.countSignature.frame

theorem canonical.startHeartwood {env s} (h : canonical s) : canonical (startHeartwood env s) :=
  have k := (canonical.ite h.setMeasure h.setMeasure.frame.setSticky).bootFirmware
  .ite (k.foldl fun _ _ h => h.setStewardState) k.loadList.openEpoch

theorem canonical.startDecide {s} (h : canonical s) : canonical (startDecide s).2 :=
  have k1 := h.setFld.setFld
  have k2 := canonical.ite k1 (k1.foldl fun _ _ h => .ite h h.setTraining).frame.setFld
  .ite k2 k2.writeRecord

theorem canonical.failUnit {s u} (h : canonical s) : canonical (failUnit s u) := by
  unfold Machine.failUnit
  dsimp only
  split
  · exact h.setSticky.retireUnit
  · exact h.setSticky.retireSprLane
  · exact h.setSticky.retireZhkLane
  · exact h.setFld.setSticky
  · exact h.setSticky.updChs.retireUnit
  · exact h.setSticky.updChs.retireUnit
  · exact h.setSticky.retireEthLane
  · exact h

theorem canonical.startTest {env s} (h : canonical s) : canonical (startTest env s) :=
  have k := h.advanceMono.foldl fun _ _ h => h.failUnit
  .ite k.stickyIf k.stickyIf.setFld.writeRecord.frame

theorem canonical.startReady {sram s} (h : canonical s) : canonical (startReady sram s) :=
  have k := (h.foldl fun _ _ h => h.applyEntry).foldl fun _ _ h => .ite h.bindSeats h
  .ite k k.setFld

theorem canonical.startDevice {env s} (h : canonical s) : canonical (startDevice env s) :=
  have k1 := ((h.foldl fun _ _ h => h.setDomain).setRailsOk.foldl fun _ _ h => h.setStewardState.setSteward).startHeartwood
  .ite k1 (have k2 := k1.startDecide.foldl fun _ _ h => .ite h.powerDomain h; (canonical.ite k2 k2.startTest).startReady.refreshPins)

theorem canonical.beginShutdown {s} (h : canonical s) : canonical (beginShutdown s) := h.setFld.frame.foldl fun _ _ h => h.stopPlan

theorem canonical.writeCltCtrl {m v s} (h : canonical s) : canonical (writeCltCtrl m v s) :=
  h.actIf (fun _ h => .ite h.refuseCfg (.ite h h.beginShutdown))

theorem canonical.closeLedger {ok s} (h : canonical s) : canonical (closeLedger ok s) :=
  have k := (h.foldl fun _ _ h => h.foldl fun _ _ h => h.ringRewind).ckptPersist.ckptCommit.ckptTrigger
  (canonical.ite k.advanceMono.ckptStartHeld k).ckptPersist.ckptCommit

theorem canonical.closingTest {env s} (h : canonical s) : canonical (closingTest env s) :=
  .ite (.ite h.setFld.setSticky h.setFld.setSticky.writeRecord) (have k := h.setFld.advanceMono.stickyIf; .ite k k.writeRecord)

theorem canonical.shutOff {dead s} (h : canonical s) : canonical (shutOff dead s) :=
  (h.foldl fun _ _ h => .ite h h.gateDomain).railsOff.setReg.refreshPins

theorem canonical.resetPwr {s} (h : canonical s) : canonical (resetPwr s) := h.resetBlockRegs.frame.setFld.setReg
theorem canonical.resetClt {s} (h : canonical s) : canonical (resetClt s) := h.resetBlockRegs.frame

/-! ## Register writes -/

theorem canonical.clearCounters {p base n v s} (h : canonical s) : canonical (clearCounters p base n v s) := .ite h.resetRegs h

theorem writeIngest_keepsCanonical {b p off v} : EverySome KeepsCanonical (writeIngest b p off v) := by
  unfold writeIngest
  split
  · exact .ite (.some fun _ h => h.writeSyncCmd) (.ite (.some fun _ h => h.writeStCtrl) (.ite (.some fun _ h => h.clearCounters) .none))
  · exact .ite (.some fun _ h => h.writeRchCtrl) (.ite (.some fun _ h => h.writeRchCntClear) .none)
  · exact .ite (.some fun _ h => h.writeFplCfg) (.ite (.some fun _ h => h.writeFplSwap) (.ite (.some fun _ h => h.writeModelCtrl) (.ite
      (.some fun _ h => h.writeCoefData) (.ite (.some fun _ h => h.writeGainData) (.ite (.some fun _ h => h.writeMapCtrl) (.ite
      (.some fun _ h => h.writeRegionCtrl) (.ite (.some fun _ h => h) (.ite (.some fun _ h => h.clearCounters) .none))))))))
  · exact .none

theorem writeCompute_keepsCanonical {m b p off v} : EverySome KeepsCanonical (writeCompute m b p off v) := by
  unfold writeCompute
  split
  · exact .ite (.some fun _ h => h.writeSnapCtrl) (.ite (.some fun _ h => h.clearCounters) .none)
  · exact .ite (.some fun _ h => h.writePlanCtrl) (.ite (.some fun _ h => h.clearCounters) .none)
  · exact .ite (.some fun _ h => h.writeCtxCtrl) (.ite (.some fun _ h => h.clearCounters) .none)
  · exact .ite (.some fun _ h => h.writeWsetCtrl) (.ite (.some fun _ h => h.writeDetCtrl.refreshPins) (.ite (.some fun _ h => h.clearCounters) (.ite
      (.some fun _ h => h.writeDetStatus.refreshPins) (.ite (.some fun _ h => h.writeLine.refreshPins) .none))))
  · exact .ite (.some fun _ h => h.writeChsCtrl) (.ite (.some fun _ h => h.writeChsCfg) (.ite (.some fun _ h => h.writeChsMem) (.ite
      (.some fun _ h => h.writeChlHbase) (.ite (.some fun _ h => h.writeChsCntClear) .none))))
  · exact .ite (.some fun _ h => h.writeChsCtrl) (.ite (.some fun _ h => h.writeChsCfg) (.ite (.some fun _ h => h.writeChsMem) (.ite
      (.some fun _ h => h.writeChlHbase) (.ite (.some fun _ h => h.writeChsCntClear) .none))))
  · exact .none

theorem writeTransport_keepsCanonical {b p off v} : EverySome KeepsCanonical (writeTransport b p off v) := by
  unfold writeTransport
  split
  · exact .ite (.some fun _ h => h.clearCounters) .none
  · exact .ite (.some fun _ h => h.writePairData) (.ite (.some fun _ h => h.clearCounters) .none)
  · exact .ite .none (.ite (.some fun _ h => h.writeDmaCtrl) (.ite (.some fun _ h => h.writeDmaDesc) (.ite (.some fun _ h => h.writeDmaRd) .none)))
  · exact .ite (.some fun _ h => h.writeRngCtrl) (.ite (.some fun _ h => h.writeRngAdvance) (.ite (.some fun _ h => h.storePlain.refreshPins)
      .none))
  · exact .ite (.some fun _ h => h.writeEthCfg) (.ite (.some fun _ h => h.writeEthPfc) (.ite (.some fun _ h => h.writeFlowCtrl) (.ite
      (.some fun _ h => h.writeEthEee) (.ite (.some fun _ h => h.writeEthCntClear) .none))))
  · exact .ite (.some fun _ h => h.writeZhkCntClear) (.ite .none (.ite (.some fun _ h => h) (.ite (.some fun _ h => h.writeZhkGang) (.ite
      (.some fun _ h => h.writeZhkRegion) (.ite (.some fun _ h => h.writeZhkShared) .none)))))
  · exact .ite (.some fun _ h => .ite h.refuseCfg h.storePlain) (.ite (.some fun _ h => h.clearCounters) .none)
  · exact .none

theorem writeOutput_keepsCanonical {m b p off v} : EverySome KeepsCanonical (writeOutput m b p off v) := by
  unfold writeOutput
  split
  · exact .ite (.some fun _ h => h.writeTbsCfg) (.ite (.some fun _ h => h.writeTbsSet) (.ite (.some fun _ h => h.storePlain.refreshPins) .none))
  · exact .ite (.some fun _ h => h.writeMrkCtrl) .none
  · exact .ite (.some fun _ h => h.writeTruPrio) (.ite (.some fun _ h => h.writeTruRefCfg) (.ite (.some fun _ h => h.writeTruClkout) .none))
  · exact .ite (.some fun _ h => h.writeFldGlb) .none
  · exact .ite (.some fun _ h => h.writeFldCfg) (.ite (.some fun _ h => h.writeFldCtrl) (.ite (.some fun _ h => h.writeFldSetpoint) (.ite
      (.some fun _ h => h.writeFldCodes) (.ite (.some fun _ h => h.writeFldCntClear) .none))))
  · exact .none

theorem writeSystem_keepsCanonical {m b off v} : EverySome KeepsCanonical (writeSystem m b off v) := by
  unfold writeSystem
  split
  · exact .ite (.some fun _ h => h.writeRlCtrl) .none
  · exact .ite (.some fun _ h => h.writeRefCfg) (.ite (.some fun _ h => h.writeRefCtrl) (.ite (.some fun _ h => h.writeRefGrant) (.ite
      (.some fun _ h => h.writeRefHb) .none)))
  · exact .ite (.some fun _ h => h.writeEvtRoute) .none
  · exact .ite (.some fun _ h => h.writeEvtMask) .none
  · exact .ite (.some fun _ h => h.writeEvtCnt) .none
  · exact .ite (.some fun _ h => h.writeHwdCtrl) (.ite (.some fun _ h => h.writeHwdOpCtrl) (.ite (.some fun _ h => h.writeHwdOp) (.ite
      (.some fun _ h => h.writeHwdLock) .none)))
  · exact .ite (.some fun _ h => h.writeLdgCtrl) (.ite (.some fun _ h => h.writeLdgCntClear) (.ite (.some fun _ h => h.writeLdgRings) .none))
  · exact .ite (.some fun _ h => h.writeDomainReq) (.ite (.some fun _ h => h.writePwrCtrl) .none)
  · exact .ite (.some fun _ h => h.writeCltCtrl) .none
  · exact .none

theorem canonical.writeBlock {m b p off v s} (h : canonical s) : canonical (writeBlock m b p off v s) := by
  have k : EverySome KeepsCanonical ((((writeIngest b p off v).or (writeCompute m b p off v)).or (writeTransport b p off v)).or
      ((writeOutput m b p off v).or (writeSystem m b off v))) :=
    ((writeIngest_keepsCanonical.or writeCompute_keepsCanonical).or writeTransport_keepsCanonical).or
      (writeOutput_keepsCanonical.or writeSystem_keepsCanonical)
  unfold Machine.writeBlock
  dsimp only
  split
  · next f e => exact k f e s h
  · exact h.storePlain

theorem canonical.enableChanged {b p on s} (h : canonical s) : canonical (enableChanged b p on s) := by
  unfold Machine.enableChanged
  split
  · exact .ite h.sprEnable h.sprDown
  · exact .ite h.rchEnable h.rchEmpty
  · exact .ite h h.latheDisable
  · exact .ite h h.drainReorder
  · exact .ite h.refreshPins h.holdLines
  · exact h.chsEnable
  · exact h.chsEnable
  · exact h.ethEnable
  · exact h.zhkEnable
  · exact h.ptpEnable
  · exact h.truEnable
  · exact h.fldJudge.refreshFld
  · exact h

theorem canonical.setEnable {b p on s} (h : canonical s) : canonical (setEnable b p on s) := .ite h h.setFld.enableChanged
theorem canonical.resetRegsKeep {p base keep s} (h : canonical s) : canonical (resetRegsKeep p base keep s) := h.resetRegs.resetRegs
theorem canonical.forgetTrackers {i s} (h : canonical s) : canonical (forgetTrackers i s) := h.frame
theorem canonical.resetPc {i s} (h : canonical s) : canonical (resetPc i s) := h.frame
theorem canonical.resetHbm {p s} (h : canonical s) : canonical (resetHbm p s) := h.resetRegsKeep.setFld

theorem canonical.softData {b p s} (h : canonical s) : canonical (softData b p s) := by
  unfold Machine.softData
  dsimp only
  split
  · exact h.gateSpur.resetBlockRegs
  · exact h.rchForget.resetBlockRegs
  · exact h.resetFaceplate.resetBlockRegs
  · exact h.resetLathe.resetBlockRegs
  · exact h.resetSched.resetBlockRegs.bindSeats
  · exact h.resetTally.resetBlockRegs
  · exact h.resetGge.resetRegsKeep
  · exact h.resetChs.resetBlockRegs
  · exact h.resetChs.resetBlockRegs
  · exact h.resetHbm
  · exact h.resetPc.resetBlockRegs
  · exact h.frame.resetBlockRegs
  · exact h.resetDma.resetBlockRegs
  · exact h.rngReset.resetRegsKeep.refreshPins
  · exact h

theorem canonical.softControl {b p s} (h : canonical s) : canonical (softControl b p s) := by
  unfold Machine.softControl
  dsimp only
  split
  · exact h.resetBlockRegs.resetEth
  · exact h.resetZhk.resetBlockRegs
  · exact h.resetTbs
  · exact h.ptpEnable.resetBlockRegs
  · exact h.resetMrk.resetBlockRegs
  · exact h.resetBlockRegs.resetTru
  · exact h.resetBlockRegs.resetFld
  · exact h.resetFldGlb.refreshFld
  · exact h.resetRegs
  · exact h.resetRef
  · exact h.resetEvt
  · exact h.resetHwd
  · exact h.resetLdg
  · exact h.resetPwr
  · exact h.resetClt
  · exact h.resetBlockRegs
  · exact h

theorem canonical.softReset {b p s} (h : canonical s) : canonical (softReset b p s) := .ite h.refuseCfg h.setEnable.softData.softControl
theorem canonical.setDebug {p on s} (h : canonical s) : canonical (setDebug p on s) := .ite h.setFld (.ite h.clearDebug h)

theorem canonical.writePageCtrl {b p v s} (h : canonical s) : canonical (writePageCtrl b p v s) :=
  .ite h.refuseBit (.ite h.setDebug.softReset h.setDebug.setEnable)

theorem canonical.armDetector {p b s} (h : canonical s) : canonical (armDetector p b s) := h.frame
theorem canonical.writeInject {b p v s} (h : canonical s) : canonical (writeInject b p v s) := h.foldl fun _ _ h => h.armDetector
theorem canonical.writeInjectMode {p v s} (h : canonical s) : canonical (writeInjectMode p v s) := (canonical.ite h.frame h).storePlain
theorem canonical.writeEvtEn {p v s} (h : canonical s) : canonical (writeEvtEn p v s) := .ite h.storePlain (h.storePlain.foldl fun _ _ h => h.evPulse)

theorem canonical.writeRetryCount {p v s} (h : canonical s) : canonical (writeRetryCount p v s) :=
  .ite (canonical.ite h.forgetTrackers h).frame.setReg h

theorem canonical.writeHeader {b p off v s} (h : canonical s) : canonical (writeHeader b p off v s) :=
  .ite h.writePageCtrl (.ite h.writeEvtEn (.ite h.writeInject (.ite h.writeInjectMode (.ite h.writeRetryCount h.storePlain))))

theorem canonical.regWrite {m p off size v s} (h : canonical s) : canonical (regWrite m p off size v s) := by
  unfold Machine.regWrite
  split
  · exact h
  · exact .ite h.writeMsix (.ite h (.ite h.writeHeader h.writeBlock))

theorem canonical.busWrite {m addr size v s} (h : canonical s) : canonical (busWrite m addr size v s) := by
  unfold Machine.busWrite
  dsimp only
  split
  · exact h.arriveWrite.acceptedWrite (fun _ h => h.regWrite)
  · exact h.arriveWrite.refusedWrite

theorem canonical.guardedMeet {addr size l s} (h : canonical s) : canonical (guardedMeet addr size l s) :=
  .ite (h.foldl fun _ _ h => h.arriveWrite).setSticky.setWst ((h.foldl fun _ _ h => h.arriveWrite.refusedWrite).foldl fun _ _ h => h.busWrite)

theorem canonical.meetWrites {addr size l s} (h : canonical s) : canonical (meetWrites addr size l s) :=
  .ite h.guardedMeet (h.foldl fun _ _ h => h.busWrite)

/-! ## Chisel register access -/

theorem canonical.chsBusRefused {n s} (h : canonical s) : canonical (chsBusRefused n s) := h.setSticky.countK

/-! ## Commands over management ports and BAR2 -/

theorem canonical.runCmdOp {m o s} (h : canonical s) : canonical (runCmdOp m o s).2.2 := .ite_snd_snd h (.ite_snd_snd h.busRead h.busWrite)

theorem canonical.sendReply {p r s} (h : canonical s) : canonical (sendReply p r s) := by
  unfold Machine.sendReply
  dsimp only
  refine .ite (.ite h h.countSignature.ethReply) ?_
  split
  · exact h.ethReply
  · exact h

theorem canonical.finishCmd {p s} (h : canonical s) : canonical (finishCmd p s) := by
  unfold Machine.finishCmd
  dsimp only
  split
  · exact h
  · exact h.frame.sendReply.emitRecord

theorem canonical.nextOp {p s} (h : canonical s) : canonical (nextOp p s) := by
  unfold Machine.nextOp
  dsimp only
  split
  · exact h
  · split
    · exact h.finishCmd
    · split
      · exact h.runCmdOp
      · exact .ite h.runCmdOp.frame.finishCmd h.runCmdOp.frame

theorem canonical.runCmd {p n s} (h : canonical s) : canonical (runCmd p n s) := by
  induction n generalizing s with
  | zero => exact h
  | succ n ih => exact ih h.nextOp

theorem canonical.stepCmd {p op s} (h : canonical s) : canonical (stepCmd p op s) := by
  unfold Machine.stepCmd
  split
  · exact .ite h.nextOp h
  · exact h

theorem canonical.bar2Judge {bad s} (h : canonical s) : canonical (bar2Judge bad s) := h.evalDetector.stickyIf

/-! ## Every command -/

/-- Where a result is a next state, its stores are canonical. -/
def CanonicalNext (r : Result) : Prop := ∀ t, r = .next t → canonical t

theorem CanonicalNext.next {t : State} (h : canonical t) : CanonicalNext (.next t) := fun _ e => Host.Outcome.next.inj e ▸ h

theorem CanonicalNext.ite {c : Prop} {_ : Decidable c} {r q : Result} (h : CanonicalNext r) (h' : CanonicalNext q) :
    CanonicalNext (if c then r else q) := by
  split <;> assumption

theorem canonical.execInjectFire {page bit s} (h : canonical s) : CanonicalNext (execInjectFire page bit s) := by
  unfold Machine.execInjectFire
  dsimp only
  split
  · exact .next h
  · exact .ite (.next h) (.ite (.next (.ite h.takeArmed.setSticky.countRetry h.takeArmed.setSticky)) (.next h.takeArmed))

theorem canonical.execTrainFrame {lane fr inv eq s} (h : canonical s) : CanonicalNext (execTrainFrame lane fr inv eq s) := by
  unfold Machine.execTrainFrame
  split
  · exact .next h.sprReceive
  · exact .next h.zhkTrainFrame

theorem canonical.execStepFail {lane s} (h : canonical s) : CanonicalNext (execStepFail lane s) := by
  unfold Machine.execStepFail
  dsimp only
  split
  · exact .next h.evalDetector.setSprLane.stickyIf
  · exact .next (.ite h.setZhkLane.zhkCapCheck h.setZhkLane)

theorem canonical.execTrainingTimeout {lane s} (h : canonical s) : CanonicalNext (execTrainingTimeout lane s) := by
  unfold Machine.execTrainingTimeout
  split
  · exact .next (.ite h.sprTrain h)
  · exact .next (.ite h.zhkTrain h)

theorem canonical.execRetrainFail {lane s} (h : canonical s) : CanonicalNext (execRetrainFail lane s) := by
  unfold Machine.execRetrainFail
  split
  · exact .next (.ite h.sprRetrainFail h)
  · exact .next (.ite h.zhkTrain h)

theorem canonical.execHandshakeTo {lth s} (h : canonical s) : CanonicalNext (execHandshakeTo lth s) := by
  unfold Machine.execHandshakeTo
  split
  · exact .next h
  · exact .next h.popStroke.failStroke.finishBatches

theorem canonical.execLinkFrame {link words data rx table s} (h : canonical s) : CanonicalNext (execLinkFrame link words data rx table s) := by
  unfold Machine.execLinkFrame
  dsimp only
  refine .ite (.next h.trainWords) ?_
  refine .ite (.next h.advanceTo.zhkWords.zhkRetrain) ?_
  refine .next ?_
  refine .sendFrame ?_
  split
  · exact (canonical.ite h.advanceTo.zhkWords.acceptFrame h.advanceTo.zhkWords.setZhkLink).takeTable
  · exact (.ite h.advanceTo.zhkWords.acceptFrame h.advanceTo.zhkWords.setZhkLink)

theorem canonical.execRecord {dest src ring off bytes s} (h : canonical s) : CanonicalNext (execRecord dest src ring off bytes s) := by
  refine .next (h.relayOr fun s h => ?_)
  dsimp only
  refine .recordIn ?_
  split
  · exact h.ringRewind.evalAbove
  · exact h

theorem canonical.execRecordTimeout {src ring s} (h : canonical s) : CanonicalNext (execRecordTimeout src ring s) := by
  unfold Machine.execRecordTimeout
  dsimp only
  split
  · exact .next h
  · refine .ite (.next h.recvAll) ?_
    refine .next ?_
    refine .recvAll ?_
    split
    · exact h.advanceMono.frame.ringRewind.evalAbove
    · exact h.advanceMono.frame

theorem canonical.execMark {dest src mark s} (h : canonical s) : CanonicalNext (execMark dest src mark s) := by
  unfold Machine.execMark
  split
  · exact .next (h.relayOr (fun _ h => h.gangMarkIn))
  · exact .next (h.relayOr (fun _ h => h.gangMarkAnswer))

theorem canonical.execSharedIsolated {entry member s} (h : canonical s) : CanonicalNext (execSharedIsolated entry member s) := by
  unfold Machine.execSharedIsolated
  dsimp only
  refine .ite (.next h.evalDetector) ?_
  refine .next ?_
  refine .refreshPins ?_
  refine .setSticky ?_
  refine .setReg ?_
  refine .frame ?_
  split
  · exact h.evalDetector.advanceMono
  · exact h.evalDetector

theorem canonical.execSharedTakeover {entry s} (h : canonical s) : CanonicalNext (execSharedTakeover entry s) := by
  unfold Machine.execSharedTakeover
  split
  · exact .next h
  · exact .next h.advanceMono.sharedRefresh.refreshPins

theorem canonical.execRouteDrop {s} (h : canonical s) : CanonicalNext (execRouteDrop s) := by
  unfold Machine.execRouteDrop
  dsimp only
  split
  · exact .next h
  · exact .next h.frame.advanceMono.setSticky.countK.packetGone

theorem canonical.execStepUpFail {link s} (h : canonical s) : CanonicalNext (execStepUpFail link s) := by
  unfold Machine.execStepUpFail
  dsimp only
  split
  · exact .ite (.next (h.foldl fun _ _ h => h.setZhkLane).setZhkLink.linkStatus.setSticky.zhkAttribute) (.next h)
  · exact .next h

theorem canonical.execPpsLoss {n s} (h : canonical s) : CanonicalNext (execPpsLoss n s) := by
  unfold Machine.execPpsLoss
  dsimp only
  refine .next ?_
  refine .selectSource ?_
  refine .setPpsIn ?_
  split
  · exact h.advanceTo
  · exact h

theorem canonical.execMarkDispatch {s} (h : canonical s) : CanonicalNext (execMarkDispatch s) := by
  unfold Machine.execMarkDispatch
  split
  · exact .next h
  · exact .ite (.next h) (.next h.advanceTo.markDispatch)

theorem canonical.execPulseEnd {line s} (h : canonical s) : CanonicalNext (execPulseEnd line s) := by
  unfold Machine.execPulseEnd
  dsimp only
  split
  · exact .next h
  · exact .next h.advanceMono.frame.refreshPinsAt

theorem canonical.execChsMemData {m n w s} (h : canonical s) : CanonicalNext (execChsMemData m n w s) := by
  unfold Machine.execChsMemData
  dsimp only
  split
  · exact .next (h.guardedWrite (fun _ h => h.writeChsMem))
  · exact .next (.ite h.setRd h.readChsMem.setRd)

theorem canonical.execHLoadTimeout {n s} (h : canonical s) : CanonicalNext (execHLoadTimeout n s) := by
  unfold Machine.execHLoadTimeout
  split
  · exact .next (.ite h.chsFault h)
  · exact .next h

theorem canonical.execBrdTimeout {n s} (h : canonical s) : CanonicalNext (execBrdTimeout n s) := by
  unfold Machine.execBrdTimeout
  split
  · exact .next (.ite h.chsFault h)
  · exact .next h

theorem canonical.execOutfeed {n s} (h : canonical s) : CanonicalNext (execOutfeed n s) := by
  unfold Machine.execOutfeed
  split
  · exact .next h
  · exact .ite (.next h) (.next h.updChs.outfeed)

theorem canonical.execWaitm {n s} (h : canonical s) : CanonicalNext (execWaitm n s) := by
  refine .next (h.chsIssue fun i c s h => ?_)
  dsimp only
  split
  · exact h
  · exact h.countK

theorem canonical.execScrub {pc word err s} (h : canonical s) : CanonicalNext (execScrub pc word err s) := by
  unfold Machine.execScrub
  dsimp only
  refine .ite (.next h) ?_
  split
  · exact .next (h.foldl fun _ _ h => h.reportUncorr)
  · exact .ite (.next h.reportUncorr.retireRow) (.next h.wordError)

theorem canonical.execTimeout {m wr s} (h : canonical s) : CanonicalNext (execTimeout m wr s) := by
  unfold Machine.execTimeout
  dsimp only
  refine .next ?_
  refine .ite ?_ ?_
  · split
    · exact h.setSticky
    · exact
        have k1 := h.setSticky.advanceMono.dropEntry
        (canonical.ite k1 k1.completeRead).releaseReplies.releaseWaiting
  · refine .setRd ?_
    split
    · exact h.setSticky
    · exact
        have k2 := h.setSticky.advanceMono.dropEntry
        (canonical.ite k2 k2.completeRead).releaseReplies.releaseWaiting

theorem canonical.execRewind {ring producer s} (h : canonical s) : CanonicalNext (execRewind ring producer s) := by
  unfold Machine.execRewind
  split
  · exact .next h
  · exact .next h.ringRewind.evalAbove

theorem canonical.execFlush {ring s} (h : canonical s) : CanonicalNext (execFlush ring s) := by
  unfold Machine.execFlush
  dsimp only
  split
  · exact .next h
  · exact .ite (.next h) (.next h.advanceMono)

theorem canonical.execSampleDatagram {p s} (h : canonical s) : CanonicalNext (execSampleDatagram p s) := by
  unfold Machine.execSampleDatagram
  dsimp only
  split
  · exact .next h
  · exact .next h.setEthPort.datagramBlocks.judgeFill

theorem canonical.execPauseExpire {p sub c s} (h : canonical s) : CanonicalNext (execPauseExpire p sub c s) := by
  unfold Machine.execPauseExpire
  dsimp only
  split
  · exact .next h
  · exact .next h.advanceMono.setEthPause.ethFlush

theorem canonical.execLinkDown {p sub unc s} (h : canonical s) : CanonicalNext (execLinkDown p sub unc s) := by
  unfold Machine.execLinkDown
  dsimp only
  refine .ite (.next h) ?_
  refine .ite (.next h.setEthPort.countK.subDown.setSticky.countRetry) ?_
  split
  · exact .next (h.setEthPort.countK.subDown.setSticky.countRetry.retireEthLane.foldl fun _ _ h => .ite h.subDown h)
  · exact .next h.setEthPort.countK.subDown.setSticky.countRetry

theorem canonical.execMsixUnmask {m vector v s} (h : canonical s) : CanonicalNext (execMsixUnmask m vector v s) := by
  unfold Machine.execMsixUnmask
  dsimp only
  split
  · exact .next h.setFunctionMask
  · exact .ite (.next (h.guardedWrite (fun _ h => h.writeMsix))) (.next h)

theorem canonical.execUnlockExpiry {s} (h : canonical s) : CanonicalNext (execUnlockExpiry s) := by
  unfold Machine.execUnlockExpiry
  split
  · exact .next h
  · exact .next h.advanceMono.endUnlock

theorem canonical.execCkptLate {s} (h : canonical s) : CanonicalNext (execCkptLate s) := by
  unfold Machine.execCkptLate
  split
  · exact .next h
  · exact .next h.advanceMono.setSticky

/-- Every command keeps the stores canonical. -/
theorem canonical.exec {c s} (h : canonical s) : CanonicalNext (exec c s) := by
  cases c with
  | registerWrite => exact .next h.meetWrites
  | pageEnable => exact .next h.busWrite
  | pageDebug => exact .next h.busWrite
  | softReset => exact .next h.busWrite
  | inject => exact .next h.busWrite
  | disarm => exact .next h.busWrite
  | injectFire => exact h.execInjectFire
  | stickyEvtEn => exact .next h.busWrite
  | command => exact .ite (.next h) (.ite (.next h.runCmd.evalDetector.setSticky) (.next (canonical.ite h.runCmd.evalDetector.frame
      h.runCmd.evalDetector.frame.runCmd)))
  | cmdRead => exact .next h.stepCmd
  | cmdWrite => exact .next h.stepCmd
  | writeMasked => exact .next h.stepCmd
  | bar2Access => exact .ite (.next h) (.ite (.next (h.countK.foldl fun _ _ h => h.arrive)) (.ite (.next h.countK.hbmWrite.bar2Judge) (.next
      h.countK.hbmRead.readReply.bar2Judge)))
  | pciReset => exact .next (h.resetRegs.resetRegs.frame.foldl fun _ _ h => h.frame).frame
  | trainFrame => exact h.execTrainFrame
  | stepFail => exact h.execStepFail
  | trainingTimeout => exact h.execTrainingTimeout
  | dataFrame => exact .next h.sprReceive
  | idleFrame => exact .next h.sprReceive
  | retrainFail => exact h.execRetrainFail
  | mgmtFrame => exact .next h.sprReceive
  | ack => exact .next (.ite h.ackMessage h)
  | status => exact .next (.ite h.statusMessage h)
  | send => exact .next (h.guardedWrite (fun _ h => h.writeSyncCmd))
  | syncTimeout => exact .next (.ite h.setFld.setSticky h)
  | sprStRead => exact .next (h.guardedWrite (fun _ h => h.writeStCtrl))
  | sprStWrite => exact .next (h.guardedWrite (fun _ h => h.writeStCtrl))
  | roughingOutput => exact .next (.ite h.roughStep h)
  | roughReset => exact .next (h.sampleAction (fun _ _ h => h.foldl_snd fun _ _ h => h.foldl_snd fun _ _ h => h.resetStream))
  | syncNow => exact .next (h.guardedWrite (fun _ h => h.writeRchCtrl))
  | spectrum => exact .next (.ite h.spectrum h)
  | turnWrite => exact .next (h.foldl fun _ _ h => h.arriveOne)
  | modelLoad => exact .next (h.sampleAction (fun _ _ h => h.markRequest))
  | loadNow => exact .next (h.guardedWrite (fun _ h => h.writeModelCtrl))
  | gainSwap => exact .next (h.sampleAction (fun _ _ h => h.markRequest))
  | fplGainSwap => exact .next (h.guardedWrite (fun _ h => h.writeFplSwap))
  | coefSwap => exact .next (h.sampleAction (fun _ _ h => h.markRequest))
  | request => exact .next (h.guardedWrite (fun _ h => h.writeFplSwap))
  | fplCoefData => exact .next (.ite (h.guardedWrite (fun _ h => h.writeCoefData)) (h.guardedRead (fun _ h => h.readCoefData)))
  | fplGainData => exact .next (.ite (h.guardedWrite (fun _ h => h.writeGainData)) (h.guardedRead (fun _ h => h.readGainData)))
  | fplMapRead => exact .next (h.guardedWrite (fun _ h => h.writeMapCtrl))
  | fplMapWrite => exact .next (h.guardedWrite (fun _ h => h.writeMapCtrl))
  | fplRegionRead => exact .next (h.guardedWrite (fun _ h => h.writeRegionCtrl))
  | fplRegionWrite => exact .next (h.guardedWrite (fun _ h => h.writeRegionCtrl))
  | stagingDeadline => exact .next h.stagingDeadline
  | stageLoad => exact .next h.stageLoad
  | drainToken => exact .next h.drainToken
  | handshakeTo => exact h.execHandshakeTo
  | replay => exact .next h.replayNext
  | snapshot => exact .next (h.guardedWrite (fun _ h => h.writeSnapCtrl))
  | snapDone => exact .next h.snapDone
  | lthResume => exact .next (h.guardedWrite (fun _ h => h.writeSnapCtrl))
  | schPlanRead => exact .next (h.guardedWrite (fun _ h => h.writePlanCtrl))
  | schPlanWrite => exact .next (h.guardedWrite (fun _ h => h.writePlanCtrl))
  | gougeStroke => exact .next h.gougeStroke.refreshPins
  | detectorEvaluation => exact .next h.detEvaluate.refreshPins
  | detAck => exact .next (h.guardedWrite (fun _ h => h.writeDetStatus))
  | ggeDetRead => exact .next (h.guardedWrite (fun _ h => h.writeDetCtrl)).refreshPins
  | ggeDetWrite => exact .next (h.guardedWrite (fun _ h => h.writeDetCtrl)).refreshPins
  | ggeLine => exact .next (h.guardedWrite (fun _ h => h.writeLine)).refreshPins
  | ggeWsetRead => exact .next (h.guardedWrite (fun _ h => h.writeWsetCtrl))
  | ggeWsetWrite => exact .next (h.guardedWrite (fun _ h => h.writeWsetCtrl))
  | swap => exact .next (h.guardedWrite (fun _ h => h.writeWsetCtrl))
  | weightSwap => exact .next (h.sampleAction (fun _ _ h => h.foldl_snd fun _ _ h => .ite_snd h.wsetSwap h))
  | dump => exact .next h.tallyTake
  | missNotice => exact .next h.tallyTake
  | tlyCtxRead => exact .next (h.guardedWrite (fun _ h => h.writeCtxCtrl))
  | tlyCtxWrite => exact .next (h.guardedWrite (fun _ h => h.writeCtxCtrl))
  | tlyStart => exact .next (h.guardedWrite (fun _ h => h.writeCtxCtrl))
  | tlyStop => exact .next (h.guardedWrite (fun _ h => h.writeCtxCtrl))
  | intStart => exact .next (h.sampleAction (fun _ _ h => h.markInteg))
  | intEnd => exact .next (h.sampleAction (fun _ _ h => h.markInteg))
  | integrationClose => exact .next h.integrationClose
  | recordEmit => exact .next h.recordEmit
  | linkFrame => exact h.execLinkFrame
  | ackStall => exact .ite (.next h) (.next h.advanceMono.zhkRetrain)
  | corner => exact .next (h.relayOr (fun _ h => .ite h h.operandArrives))
  | partialOp => exact .next ((canonical.ite h (h.foldl fun _ _ h => h.takeRx)).relayOr (fun _ h => h.takePartial))
  | record => exact h.execRecord
  | recordTimeout => exact h.execRecordTimeout
  | mark => exact h.execMark
  | claim => exact .next (h.relayOr (fun _ h => h.takeClaims))
  | claimReport => exact .next (.ite h.reportClaims.sharedRefresh.refreshPins h)
  | sharedIsolated => exact h.execSharedIsolated
  | sharedTakeover => exact h.execSharedTakeover
  | routeDrop => exact h.execRouteDrop
  | stepDown => exact .ite (.next h.advanceMono.setZhkLink.linkStatus) (.next h)
  | stepUp => exact .next (.ite (h.foldl fun _ _ h => h.setZhkLane).setZhkLink.linkStatus h)
  | stepUpFail => exact h.execStepUpFail
  | linkOverload => exact .next h.evalDetector.stickyIf
  | tbsTimeS => exact .next (.ite h.setRd h.readTimeS.setRd)
  | apply => exact .next (h.guardedWrite (fun _ h => h.writeTbsSet))
  | ptpMessage => exact .next h.ptpReceive
  | announceTimeout => exact .ite (.next h) (.next h.setFld.setPtpClock.setSticky.ptpDisqualify.selectSource)
  | ppsInEdge => exact .ite (.next h.advanceTo) (.next h.advanceTo.setPpsIn.sourceMeasured)
  | ppsLoss => exact h.execPpsLoss
  | revert => exact .next (.ite h.noteQualified.advanceMono.switchSource h.noteQualified)
  | trigInEdge => exact .next (.ite h.advanceTo.frame.trigPush h.advanceTo.frame)
  | tbsTriginPop => exact .next (.ite h.setRd h.popTrigIn.setRd)
  | markInsert => exact .next (h.guardedWrite (fun _ h => h.writeMrkCtrl))
  | markRead => exact .next (h.guardedWrite (fun _ h => h.writeMrkCtrl))
  | markDelete => exact .next (h.guardedWrite (fun _ h => h.writeMrkCtrl))
  | markDispatch => exact h.execMarkDispatch
  | mrkDone => exact .next (.ite h.setRd h.popMarkDone.setRd)
  | markNop => exact .next (h.tickAction (fun _ _ h => h))
  | trigPulse => exact .next (h.tickAction (fun _ _ h => h.lineAction (fun _ _ _ h => h.beginPulses)))
  | trigLevel => exact .next (h.tickAction (fun _ _ h => h.lineAction (fun _ _ _ h => h.setLevels)))
  | pulseEnd => exact h.execPulseEnd
  | syncLoad => exact .next (h.tickAction (fun _ _ h => h.lineAction (fun _ _ _ h => h.beginPulses)))
  | ctrlStart => exact .next (h.tickAction (fun _ _ h => h.fldMarked (fun _ _ h => h.fldStart)))
  | ctrlStop => exact .next (h.tickAction (fun _ _ h => h.fldMarked (fun _ _ h => h.fldStop)))
  | event => exact .next (h.tickAction (fun _ _ h => h.setSticky))
  | chiselPost => exact .next (h.tickAction (fun _ _ h => .ite_snd h (.ite_snd h.evalDetector.setSticky.noteDropped
      h.evalDetector.setChsCore.chsEndWait)))
  | monitorUpdate => exact .ite (.next h) (.next (canonical.ite (h.foldl fun _ _ h => h.refUpdate).countCandidates.holdTimer (h.foldl fun _ _ h =>
      h.refUpdate).countCandidates).evalSelection)
  | los => exact .ite (.next h) (.next (.ite h.setFld.refDisqualify.evalSelection h.setFld.refDisqualify))
  | dpllLock => exact .ite (.next h) (.next h.setPhaseErr.advanceMono.setFld)
  | historySample => exact .ite (.next h) (.next h.frame)
  | hoLimit => exact .ite (.next h) (.next h.holdTimer)
  | xoLost => exact .ite (.next h) (.next h.freeRun.setFld.setSticky.frame.refreshPins)
  | xoReturn => exact .ite (.next h) (.next h.setFld.evalSelection.refreshPins)
  | truClkout => exact .next (h.guardedWrite (fun _ h => h.writeTruClkout))
  | run => exact .next (h.guardedWrite (fun _ h => h.writeChsCtrl))
  | stop => exact .next (h.guardedWrite (fun _ h => h.writeChsCtrl))
  | doorbell => exact .next (h.guardedWrite (fun _ h => h.writeChsCtrl))
  | chsMemData => exact h.execChsMemData
  | wake => exact .ite (.next h) (.ite (.next (.ite h.chsEndWait h.chsWake)) (.ite (.ite (.next h) (.next h.advanceTo.chsWake)) (.next
      h.chsEndWait)))
  | watchdog => exact .ite (.next h) (.next h.advanceMono.chsFault)
  | hLoadTimeout => exact h.execHLoadTimeout
  | brdTimeout => exact h.execBrdTimeout
  | outfeed => exact h.execOutfeed
  | nop => exact .next (h.chsIssue (fun _ _ _ h => h.inCore))
  | halt => exact .next (h.chsIssue (fun _ _ _ h => h.inCore))
  | jmp => exact .next (h.chsIssue (fun _ _ _ h => h.inCore))
  | jcc => exact .next (h.chsIssue (fun _ _ _ h => h.inCore))
  | call => exact .next (h.chsIssue (fun _ _ _ h => h.inCore))
  | ret => exact .next (h.chsIssue (fun _ _ _ h => h.inCore))
  | loop => exact .next (h.chsIssue (fun _ _ _ h => h.inCore))
  | ldlc => exact .next (h.chsIssue (fun _ _ _ h => h.inCore))
  | movlc => exact .next (h.chsIssue (fun _ _ _ h => h.inCore))
  | waitw => exact .next (h.chsIssue (fun _ _ _ h => .ite_fst h h.countK))
  | waitm => exact h.execWaitm
  | mkins => exact .next (h.chsIssue (fun _ _ _ h => h.markInsert))
  | brd => exact .next (h.chsIssue (fun _ _ _ h => .ite h.busRead.chsBusRefused h.busRead))
  | bwr => exact .next (h.chsIssue (fun _ _ _ h => .ite h.busWrite.chsBusRefused h.busWrite))
  | outf => exact .next (h.chsIssue (fun _ _ _ h => h.inCore))
  | sync => exact .next (h.chsIssue (fun _ _ _ h => h.inCore))
  | evt => exact .next (h.chsIssue (fun _ _ _ h => h.setSticky))
  | ldi => exact .next (h.chsIssue (fun _ _ _ h => h.inCore))
  | mov => exact .next (h.chsIssue (fun _ _ _ h => h.inCore))
  | setg => exact .next (h.chsIssue (fun _ _ _ h => h.inCore))
  | getg => exact .next (h.chsIssue (fun _ _ _ h => h.inCore))
  | rnd => exact .next (h.chsIssue (fun _ _ _ h => h.inCore))
  | crnd => exact .next (h.chsIssue (fun _ _ _ h => h.inCore))
  | clra => exact .next (h.chsIssue (fun _ _ _ h => h.inCore))
  | lda => exact .next (h.chsIssue (fun _ _ _ h => h.inCore))
  | clda => exact .next (h.chsIssue (fun _ _ _ h => h.inCore))
  | add => exact .next (h.chsIssue (fun _ _ _ h => h.inCore))
  | sub => exact .next (h.chsIssue (fun _ _ _ h => h.inCore))
  | neg => exact .next (h.chsIssue (fun _ _ _ h => h.inCore))
  | abs => exact .next (h.chsIssue (fun _ _ _ h => h.inCore))
  | mul => exact .next (h.chsIssue (fun _ _ _ h => h.inCore))
  | andOp => exact .next (h.chsIssue (fun _ _ _ h => h.inCore))
  | orOp => exact .next (h.chsIssue (fun _ _ _ h => h.inCore))
  | xor => exact .next (h.chsIssue (fun _ _ _ h => h.inCore))
  | shl => exact .next (h.chsIssue (fun _ _ _ h => h.inCore))
  | shra => exact .next (h.chsIssue (fun _ _ _ h => h.inCore))
  | shrl => exact .next (h.chsIssue (fun _ _ _ h => h.inCore))
  | cmp => exact .next (h.chsIssue (fun _ _ _ h => h.inCore))
  | min => exact .next (h.chsIssue (fun _ _ _ h => h.inCore))
  | max => exact .next (h.chsIssue (fun _ _ _ h => h.inCore))
  | mpy => exact .next (h.chsIssue (fun _ _ _ h => h.inCore))
  | mac => exact .next (h.chsIssue (fun _ _ _ h => h.inCore))
  | msu => exact .next (h.chsIssue (fun _ _ _ h => h.inCore))
  | adda => exact .next (h.chsIssue (fun _ _ _ h => h.inCore))
  | cadd => exact .next (h.chsIssue (fun _ _ _ h => h.inCore))
  | csub => exact .next (h.chsIssue (fun _ _ _ h => h.inCore))
  | conj => exact .next (h.chsIssue (fun _ _ _ h => h.inCore))
  | cmul => exact .next (h.chsIssue (fun _ _ _ h => h.inCore))
  | cmac => exact .next (h.chsIssue (fun _ _ _ h => h.inCore))
  | cmacj => exact .next (h.chsIssue (fun _ _ _ h => h.inCore))
  | cmpy => exact .next (h.chsIssue (fun _ _ _ h => h.inCore))
  | cmulj => exact .next (h.chsIssue (fun _ _ _ h => h.inCore))
  | cpow => exact .next (h.chsIssue (fun _ _ _ h => h.inCore))
  | cscl => exact .next (h.chsIssue (fun _ _ _ h => h.inCore))
  | phs => exact .next (h.chsIssue (fun _ _ _ h => h.inCore))
  | hbmRequest => exact .next (h.foldl fun _ _ h => h.arrive).releaseWaiting.serveSlot.releaseReplies.releaseWaiting
  | refresh => exact .next h.frame.stackTemp
  | powerDown => exact .ite (.next h.frame.advanceMono) (.next h)
  | scrub => exact h.execScrub
  | timeout => exact h.execTimeout
  | reserve => exact .next (h.foldl fun _ _ h => h.reserveOne).evalAbove
  | commit => exact .next ((h.foldl fun _ _ h => h.commitOne).foldl fun _ _ h => h.evalAbove)
  | rewind => exact h.execRewind
  | rngAdvance => exact .next (h.guardedWrite (fun _ h => h.writeRngAdvance))
  | rngRead => exact .next (h.guardedWrite (fun _ h => h.writeRngCtrl))
  | rngWrite => exact .next (h.guardedWrite (fun _ h => h.writeRngCtrl))
  | rngWmPop => exact .ite (.next h.setRd) (.next h.readWmPop.setRd)
  | flush => exact h.execFlush
  | dmaChEn => exact .next (h.guardedWrite (fun _ h => h.writeDmaCtrl))
  | go => exact .next (h.guardedWrite (fun _ h => h.writeDmaCtrl))
  | copyDescriptor => exact .next (.ite h.copyOne h)
  | recordTransfer => exact .next (.ite h.drainTurn h)
  | dmaChRd => exact .next (h.guardedWrite (fun _ h => h.writeDmaRd))
  | frameReceive => exact .ite (.next h) (.ite (.next h.countK) (.ite (.next (canonical.ite h.countK.evalDetector.setSticky.countK
      h.countK.evalDetector).secCheck) (.next (canonical.ite h.countK.evalDetector.setSticky.countK h.countK.evalDetector).secCheck.classify)))
  | sampleDatagram => exact h.execSampleDatagram
  | pauseFrame => exact .ite (.next h) (.ite (.next (h.countK.foldl fun _ _ h => h.takePause).ethFlush) (.next h.countK))
  | pauseExpire => exact h.execPauseExpire
  | pauseWd => exact .ite (.next h) (.next h.advanceMono.setEthPause.setSticky.countK.ethFlush)
  | pauseRefresh => exact .ite (.next h.advanceMono.setEthPort.sendPause) (.next h)
  | lpi => exact .ite (.next h.advanceMono.setFld.countK) (.next h)
  | lldpdu => exact .ite (.next h) (.next h.advanceMono.sendLldp)
  | linkDown => exact h.execLinkDown
  | ethFlowRead => exact .next (h.guardedWrite (fun _ h => h.writeFlowCtrl))
  | ethFlowWrite => exact .next (h.guardedWrite (fun _ h => h.writeFlowCtrl))
  | controlCycle => exact .ite (.next h) (.next h.advanceMono.setFldChan.fldCycle)
  | slewUpdate => exact .ite (.next h) (.next (canonical.ite h.fldDrive.setReg.fldUnloaded (h.fldDrive.setReg.foldl fun _ _ h =>
      h.fldSupervise)).fldJudge)
  | fldRun => exact .next (h.guardedWrite (fun _ h => h.writeFldCtrl))
  | restart => exact .next (h.guardedWrite (fun _ h => h.writeFldCtrl))
  | fldResume => exact .next (h.guardedWrite (fun _ h => h.writeFldCtrl))
  | failsafeAll => exact .next (h.guardedWrite (fun _ h => h.writeFldGlb))
  | railFault => exact .next (.ite h h.railFault)
  | railRecovery => exact .next (.ite h.frame.setRailsOk.refreshFld h)
  | beat => exact .ite (.next (h.guardedWrite (fun _ h => h.writeRefHb))) (.next h)
  | refereeEvaluation => exact .ite (.next h.advanceMono.setFld.setFld) (.ite (.next
      h.advanceMono.setFld.setFld.judgeSteward.judgeSteward.standbyFails.standbyFails.activeFails) (.ite (.next
      h.advanceMono.setFld.setFld.judgeSteward.judgeSteward.standbyFails.standbyFails.activeFails) (.next
      h.advanceMono.setFld.setFld.judgeSteward.judgeSteward.standbyFails.standbyFails)))
  | arm => exact .next (h.guardedWrite (fun _ h => h.writeRefCtrl))
  | switchover => exact .next (h.guardedWrite (fun _ h => h.writeRefCtrl))
  | reinstate => exact .next (h.guardedWrite (fun _ h => h.writeRefCtrl))
  | refGrantData => exact .next (h.guardedWrite (fun _ h => h.writeRefGrant))
  | evtPending => exact .ite (.next (h.guardedWrite (fun _ h => h.storePlain))) (.next h)
  | evtMask => exact .ite (.next (h.guardedWrite (fun _ h => h.writeEvtMask))) (.next h)
  | msixUnmask => exact h.execMsixUnmask
  | evtPop => exact .ite (.next h.setRd) (.next h.readEvtPop.setRd)
  | stwRlRead => exact .next (h.guardedWrite (fun _ h => h.writeRlCtrl))
  | remove => exact .next (h.guardedWrite (fun _ h => h.writeRlCtrl))
  | retirePersist => exact .next h.rlPersist
  | installFw => exact .next h.runOp
  | verifyWork => exact .next h.runOp
  | debugUnlock => exact .next h.runOp
  | attest => exact .next h.runOp
  | kem => exact .next h.runOp
  | ownerProg => exact .next h.runOp
  | ownerRevoke => exact .next h.runOp
  | confirm => exact .next (h.guardedWrite (fun _ h => h.writeHwdCtrl))
  | relock => exact .next (h.guardedWrite (fun _ h => h.writeHwdCtrl))
  | unlockExpiry => exact h.execUnlockExpiry
  | advanceFwSvn => exact .next (h.guardedWrite (fun _ h => h.writeHwdCtrl))
  | advanceWorkSvn => exact .next (h.guardedWrite (fun _ h => h.writeHwdCtrl))
  | lockApply => exact .next (h.guardedWrite (fun _ h => h.writeHwdLock))
  | resume => exact .next h.tryResume.commitUsed
  | ckptNow => exact .next (h.guardedWrite (fun _ h => h.writeLdgCtrl))
  | ckptTime => exact .ite (.next h.advanceMono.ckptTrigger) (.next h)
  | checkpoint => exact .next (canonical.ite h.advanceMono.ckptStartHeld h).ckptPersist
  | ckptPersisted => exact .next h.ckptCommit
  | ckptLate => exact h.execCkptLate
  | pwrDomainReq => exact .next (h.guardedWrite (fun _ h => h.writeDomainReq))
  | railMonitor => exact .next (h.foldl fun _ _ h => h.readRail).evalDetector.stickyIf.evalDetector.stickyIf.setFld.setFld.evalDetector.stickyIf
  | tempTrip => exact .ite (.next h) (.next (.ite h.reportTj.evalDetector.thermalTrip h.reportTj.evalDetector))
  | smbAlert => exact .next (h.foldl fun _ _ h => h.pmbus).evalDetector.stickyIf.evalDetector.stickyIf
  | powerOn => exact .next h.powerOnReset
  | resetN => exact .next h.fullReset
  | fullReset => exact .next (h.guardedWrite (fun _ h => h.writePwrCtrl))
  | start => exact .ite (.next h) (.ite (.next h.setSticky) (.next h.startDevice))
  | shutdown => exact .next (h.guardedWrite (fun _ h => h.writeCltCtrl))
  | drainMs => exact .ite (.next h) (.next (canonical.ite h.advanceMono h).fieldOff.closeLedger.closingTest.shutOff)
  | phaseErr => exact .ite (.next h) (.next (.ite h.setPhaseErr.setFld h.setPhaseErr))
  | tempHigh => exact .next (.ite h.reportTj h)
  | ppsOut => exact .ite (.next h) (.next h.advanceTo.send)
  | subportUp => exact .ite (.next h) (.next h.setReg)
  | pciLink => exact .ite (.next h) (.next h.setFld.setFld.setFld.evalDetector.stickyIf)

/-- Settles O6: a command is a composition of register writes, HBM writes and changes that touch neither store (`canonical.exec`). -/
theorem storesStayCanonical : Obligations.StoresStayCanonical := by
  intro s t h e
  unfold step at e
  split at e
  · exact CanonicalNext.next h.idleTick t e
  · exact canonical.exec (.frame h) t e

end Sys2Proof.Machine
end

section
/-! PROOFS. A PCI reset clears the function mask of the MSI-X capability, so it keeps more than registers and HBM alone
only where that mask was clear. -/

namespace Sys2Proof.Machine

/-- What no step of a fold changes, the fold does not change: here the function mask. -/
theorem msixFn_foldl {α : Type} {f : State → α → State} (hf : ∀ s e, (f s e).msixFn = s.msixFn) (l : List α)
    (s : State) : (l.foldl f s).msixFn = s.msixFn := by
  induction l generalizing s with
  | nil => rfl
  | cons e l ih => rw [List.foldl_cons, ih, hf]

/-- A PCI reset leaves the function mask at 0. -/
theorem msixFn_pciReset {s t : State} (h : exec .pciReset s = .next t) : t.msixFn = false := by
  change execPciReset s = .next t at h
  unfold execPciReset at h
  cases h
  exact (msixFn_foldl (by exact fun _ _ => rfl) _ _).trans rfl

/-- Refutes O10: a PCI reset on the reset state with the function mask set clears the mask, which is neither of the
registers nor of HBM. -/
theorem not_hostWindowsAndReset : ¬ Obligations.HostWindowsAndReset := by
  rintro ⟨-, -, hreset, -⟩
  obtain ⟨t, ht, -, -, -, -, -, hkeep⟩ := hreset { State.reset with msixFn := true }
  have hmask : t.msixFn = true := hkeep .msix (by decide)
  rw [msixFn_pciReset ht] at hmask
  exact absurd hmask (by decide)

end Sys2Proof.Machine
end

section
/-! PROOFS. The rules of a register write: what counting it, a sticky bit with its pulse, and a pulse leave as they were. -/

namespace Sys2Proof.Machine

/-! ## Frames of parts and pages together -/

/-- No part but those listed changes, and no register of a page but those listed and the pages an event touches. -/
def changesOnly (L : List Part) (pages : List Nat) (s t : State) : Prop := keeps L s t ∧ sameRegs pages s t

theorem changesOnly.refl (L : List Part) (l : List Nat) (s : State) : changesOnly L l s s :=
  ⟨keeps_refl L s, sameRegs_refl l s⟩

theorem changesOnly.trans {L : List Part} {l : List Nat} {s t u : State} (h : changesOnly L l s t)
    (k : changesOnly L l t u) : changesOnly L l s u :=
  ⟨keeps_trans h.1 k.1, sameRegs_trans h.2 k.2⟩

theorem changesOnly.mono {L K : List Part} {l k : List Nat} {s t : State} (h : changesOnly L l s t)
    (hL : ∀ x ∈ L, x ∈ K) (hl : ∀ x ∈ l, x ∈ k) : changesOnly K k s t :=
  ⟨keeps_mono hL h.1, sameRegs_mono hl h.2⟩

/-- A part outside a frame is the same before and after. -/
theorem changesOnly.same {L : List Part} {l : List Nat} {s t : State} (h : changesOnly L l s t) (x : Part) (hx : x ∉ L) :
    Sys2Proof.Machine.same x s t := h.1 x hx

/-- A register of a page outside a frame is the same before and after. -/
theorem changesOnly.reg {L : List Part} {l : List Nat} {s t : State} (h : changesOnly L l s t) {p off : Nat} (hp : p ∉ l)
    (he : ¬ eventPage p) (ho : off < 0x1000) : Sys2Proof.Machine.reg t p off = Sys2Proof.Machine.reg s p off := h.2 p off hp he ho

theorem changesOnly_setReg {p off : Nat} (w : Word) (s : State) (ho : off < 0x1000) :
    changesOnly [.regs] [p] s (setReg p off w s) := ⟨keeps_setReg p off w s, sameRegs_setReg w s ho⟩

theorem changesOnly_setFld {p : Nat} {f : FieldRef} (v : Nat) (s : State) (ho : f.off < 0x1000) :
    changesOnly [.regs] [p] s (setFld p f v s) := changesOnly_setReg _ s ho

theorem changesOnly_setWst (n : Nat) (s : State) : changesOnly [.wst] [] s (setWst n s) :=
  ⟨keeps_setWst n s, sameRegs_of_eq rfl⟩

theorem changesOnly_setSticky (p b : Nat) (s : State) : changesOnly [.regs, .out, .events] [p] s (setSticky p b s) :=
  ⟨keeps_setSticky p b s, sameRegs_setSticky p b s⟩

theorem changesOnly_takeArmed (p b : Nat) (s : State) : changesOnly [.armed] [] s (takeArmed p b s).2 :=
  ⟨keeps_takeArmed p b s, sameRegs_of_eq (keeps_takeArmed p b s .regs (by decide))⟩

/-- A field reads alike where its register does. -/
theorem fld_of_reg {s t : State} {p : Nat} {f : FieldRef} (h : reg t p f.off = reg s p f.off) : fld t p f = fld s p f := by
  unfold fld; rw [h]

theorem flag_of_reg {s t : State} {p : Nat} {f : FieldRef} (h : reg t p f.off = reg s p f.off) : flag t p f = flag s p f := by
  unfold flag; rw [fld_of_reg h]

/-! ## A write that arrives is counted (R64) -/

/-- Only requests of the host are counted. -/
theorem countBar0_of_ne {m : Nat} (s : State) (h : m ≠ 0) : countBar0 m s = s := if_neg h

/-- Counting a request changes one PCI counter, in a page an event touches. -/
theorem changesOnly_countBar0 (m : Nat) (s : State) : changesOnly [.regs] [] s (countBar0 m s) := by
  unfold countBar0
  split
  · exact ⟨keeps_countK _ _ _ _ s, sameRegs_setReg_event _ s (by decide) (by decide)⟩
  · exact changesOnly.refl _ _ s

/-- Counting a request leaves every register but the counter. -/
theorem reg_countBar0 {m p off : Nat} (s : State) (ho : off < 0x1000) (h : p ≠ 0x3F2 ∨ off ≠ R.PCI_CNT) :
    reg (countBar0 m s) p off = reg s p off := by
  unfold countBar0
  split
  · exact reg_setReg_ne _ s (regAddr_ne ho (by decide) h)
  · rfl

/-! ## Pulses (R405, R407) -/

/-- How an event that is routed to a Steward's queue enters it, with the pulse of the overflow bit where the queue is full. -/
def evQueue (n : Nat) (a : Bool) (b e : Nat) (s : State) : State :=
  if evRoutedTo s a e then
    match evEnqueue a e s with
    | (s, false) => s
    | (s, true) =>
      match stickyRise 0x3D2 b s with
      | (s, some e') => evPulse n e' s
      | (s, none) => s
  else s

/-- A pulse latches its event, which then enters the queues of both Stewards. -/
theorem evPulse_succ (n e : Nat) (s : State) :
    evPulse (n + 1) e s = evQueue n false S.EVT_QUEUE_OVF_B e (evQueue n true S.EVT_QUEUE_OVF_A e (evLatch e s)) := rfl

/-- Which events a relation between states has to hold over, for it to hold over a pulse of one of the device's events. -/
structure PulseRel (P : State → State → Prop) : Prop where
  refl : ∀ s, P s s
  trans : ∀ {s t u}, P s t → P t u → P s u
  latch : ∀ e s, e < 1024 → P s (evLatch e s)
  enqueue : ∀ a e s, P s (evEnqueue a e s).1
  rise : ∀ b s, P s (stickyRise 0x3D2 b s).1

theorem PulseRel.evQueue {P : State → State → Prop} (h : PulseRel P) {n : Nat}
    (ih : ∀ e s, e < 1024 → P s (evPulse n e s)) (a : Bool) (b e : Nat) (s : State) :
    P s (Sys2Proof.Machine.evQueue n a b e s) := by
  have hq := h.enqueue a e s
  unfold Sys2Proof.Machine.evQueue
  split
  · generalize evEnqueue a e s = x at hq
    obtain ⟨t, c⟩ := x
    cases c with
    | false => exact hq
    | true =>
      have hs := h.rise b t
      have he := @stickyRise_event 0x3D2 b t
      dsimp only
      generalize stickyRise 0x3D2 b t = y at hs he
      obtain ⟨u, o⟩ := y
      cases o with
      | none => exact h.trans hq hs
      | some e' => exact h.trans (h.trans hq hs) (ih e' u (he rfl))
  · exact h.refl s

theorem PulseRel.evPulse {P : State → State → Prop} (h : PulseRel P) (n e : Nat) (s : State) (he : e < 1024) :
    P s (Sys2Proof.Machine.evPulse n e s) := by
  induction n generalizing e s with
  | zero => exact h.refl s
  | succ n ih =>
    rw [evPulse_succ]
    exact h.trans (h.trans (h.latch e s he) (h.evQueue ih _ _ e _)) (h.evQueue ih _ _ e _)

/-- What a pulse keeps after the rise of the bit, a sticky bit set by a detector keeps. -/
theorem PulseRel.setSticky {P : State → State → Prop} (h : PulseRel P) (p b : Nat) (s : State)
    (hs : P s (stickyRise p b s).1) : P s (Sys2Proof.Machine.setSticky p b s) := by
  have he := @stickyRise_event p b s
  unfold Sys2Proof.Machine.setSticky
  generalize stickyRise p b s = x at hs he
  obtain ⟨t, o⟩ := x
  cases o with
  | none => exact hs
  | some e => exact h.trans hs (h.evPulse 4 e t (he rfl))

/-- The state after a bit of STICKY may have risen. -/
theorem stickyRise_fst (p b : Nat) (s : State) :
    (stickyRise p b s).1 =
      if bitOf (reg s p R.STICKY) b then s else setReg p R.STICKY (withBit (reg s p R.STICKY) b true) s := by
  unfold stickyRise; dsimp only; split <;> rfl

/-- A rising bit changes its own register alone. -/
theorem reg_stickyRise {p off q b : Nat} (s : State) (ho : off < 0x1000) (hn : p ≠ q ∨ off ≠ R.STICKY) :
    reg (stickyRise q b s).1 p off = reg s p off := by
  rw [stickyRise_fst]
  split
  · rfl
  · exact reg_setReg_ne _ s (regAddr_ne ho (by decide) hn)

/-- The registers that a message request, a latched event and a full queue write. -/
def pulseReg (p off : Nat) : Prop :=
  p = 0x408 ∨ (p = 0x3F2 ∧ off = R.PCI_CNT + 24) ∨ (p = 0x3D3 ∧ R.EVT_PENDING ≤ off) ∨ (p = 0x3D2 ∧ off = R.STICKY)

/-- A register that no pulse writes. -/
def pulseKeeps (p off : Nat) (s t : State) : Prop := reg t p off = reg s p off

theorem pulseKeeps_msixRequest {p off : Nat} (hp : ¬ pulseReg p off) (ho : off < 0x1000) (v : Nat) (hv : v < 2048) (s : State) :
    pulseKeeps p off s (msixRequest v s) := by
  unfold pulseReg at hp
  unfold msixRequest
  split
  · exact reg_setReg_ne _ s (regAddr_ne ho (by omega) (by omega))
  · exact reg_setReg_ne _ (send .msix v _ s) (regAddr_ne ho (by decide) (by omega))

theorem pulseKeeps_evLatch {p off : Nat} (hp : ¬ pulseReg p off) (ho : off < 0x1000) (e : Nat) (s : State) (he : e < 1024) :
    pulseKeeps p off s (evLatch e s) := by
  have hset (w : Word) (s : State) : pulseKeeps p off s (setReg 0x3D3 (R.EVT_PENDING + 8 * (e / 64)) w s) := by
    unfold pulseReg at hp
    exact reg_setReg_ne w s (regAddr_ne ho (by simp only [R.EVT_PENDING]; omega) (by omega))
  unfold evLatch msixOfEvent
  dsimp only
  split
  · exact hset _ _
  · split
    · exact (pulseKeeps_msixRequest hp ho _ (Nat.mod_lt _ (by decide)) _).trans (hset _ _)
    · exact hset _ _

theorem pulseKeeps_rel {p off : Nat} (hp : ¬ pulseReg p off) (ho : off < 0x1000) : PulseRel (pulseKeeps p off) where
  refl _ := rfl
  trans h k := k.trans h
  latch := fun e s he => pulseKeeps_evLatch hp ho e s he
  enqueue a e s := reg_congr (evEnqueue_stores a e s).1 p off
  rise b s := reg_stickyRise s ho (by unfold pulseReg at hp; omega)

/-- A sticky bit set by a detector leaves every register that is neither that bit's nor written by pulses. -/
theorem reg_setSticky {p off q b : Nat} (s : State) (hp : ¬ pulseReg p off) (ho : off < 0x1000)
    (hn : p ≠ q ∨ off ≠ R.STICKY) : reg (setSticky q b s) p off = reg s p off :=
  (pulseKeeps_rel hp ho).setSticky q b s (reg_stickyRise s ho hn)

/-- No pulse writes a register of a page's header but STICKY of the event controller. -/
theorem not_pulseReg_header {p off : Nat} (hp : p < 0x400) (ho : off < 0x100) (hn : off ≠ R.STICKY) : ¬ pulseReg p off := by
  simp only [pulseReg, R.PCI_CNT, R.EVT_PENDING]; omega

theorem reg_setSticky_header {p off q b : Nat} (s : State) (hp : p < 0x400) (ho : off < 0x100) (hn : off ≠ R.STICKY) :
    reg (setSticky q b s) p off = reg s p off :=
  reg_setSticky s (not_pulseReg_header hp ho hn) (by omega) (.inr hn)

/-! ## A sticky bit stays set over a pulse -/

/-- No sticky bit is lost. -/
def keepsSticky (s t : State) : Prop := ∀ p b, stuck s p b → stuck t p b

theorem keepsSticky.trans {s t u : State} (h : keepsSticky s t) (k : keepsSticky t u) : keepsSticky s u :=
  fun p b hb => k p b (h p b hb)

/-- A register is its address. -/
theorem reg_of_addr {p off q off' : Nat} (s : State) (h : regAddr p off = regAddr q off') : reg s p off = reg s q off' := by
  unfold reg; rw [h]

/-- Setting a bit of a register loses no sticky bit. -/
theorem keepsSticky_setBit (q off i : Nat) (s : State) : keepsSticky s (setReg q off (withBit (reg s q off) i true) s) := by
  intro p b hb
  by_cases ha : regAddr p R.STICKY = regAddr q off
  · dsimp only [stuck] at hb ⊢
    rw [reg_of_addr s ha] at hb
    rw [reg_of_addr _ ha, reg_setReg_self]
    by_cases hi : b = i
    · subst hi
      rcases Nat.lt_or_ge b 64 with h64 | h64
      · exact bitOf_withBit_self _ _ _ h64
      · have : bitOf (reg s q off) b = false := by simp [bitOf, BitVec.getLsbD_of_ge _ _ h64]
        simp [this] at hb
    · rwa [bitOf_withBit_ne _ _ hi]
  · dsimp only [stuck] at hb ⊢
    rwa [reg_setReg_ne _ s ha]

theorem keepsSticky_stickyRise (p b : Nat) (s : State) : keepsSticky s (stickyRise p b s).1 := by
  rw [stickyRise_fst]
  split
  · exact fun _ _ h => h
  · exact keepsSticky_setBit p R.STICKY b s

theorem keepsSticky_msixRequest (v : Nat) (s : State) : keepsSticky s (msixRequest v s) := by
  unfold msixRequest
  split
  · exact keepsSticky_setBit _ _ _ s
  · intro p b hb
    dsimp only [stuck] at hb ⊢
    rwa [countK, countUp, reg_setReg_ne _ _ (regAddr_ne (by decide) (by decide) (.inr (by decide)))]

theorem keepsSticky_evLatch (e : Nat) (s : State) : keepsSticky s (evLatch e s) := by
  have hset := keepsSticky_setBit 0x3D3 (R.EVT_PENDING + 8 * (e / 64)) (e % 64)
    { s with evtCounts := ntSet s.evtCounts e (satAdd 32 (ntGet s.evtCounts e) 1) }
  unfold evLatch msixOfEvent
  dsimp only
  split
  · exact hset
  · split
    · exact hset.trans (keepsSticky_msixRequest _ _)
    · exact hset

theorem keepsSticky_rel : PulseRel keepsSticky where
  refl _ _ _ h := h
  trans := keepsSticky.trans
  latch e s _ := keepsSticky_evLatch e s
  enqueue a e s p b h := by
    dsimp only [stuck] at h ⊢
    rwa [reg_congr (evEnqueue_stores a e s).1]
  rise b s := keepsSticky_stickyRise 0x3D2 b s

/-- A detector that sets a sticky bit loses none, in any page. -/
theorem keepsSticky_setSticky (p b : Nat) (s : State) : keepsSticky s (setSticky p b s) :=
  keepsSticky_rel.setSticky p b s (keepsSticky_stickyRise p b s)

/-- A sticky bit that a detector sets is set, in any page. -/
theorem stuck_setSticky (p b : Nat) (s : State) (hb : b < 64) : stuck (setSticky p b s) p b := by
  have hs := stickyRise_stuck p b s hb
  have he := @stickyRise_event p b s
  unfold setSticky
  generalize stickyRise p b s = x at hs he
  obtain ⟨t, o⟩ := x
  cases o with
  | none => exact hs
  | some e => exact keepsSticky_rel.evPulse 4 e t (he rfl) p b hs

end Sys2Proof.Machine
end

section
/-! PROOFS. The windows onto the coefficient and gain banks (R65, R146, R152). -/

namespace Sys2Proof.Machine

/-! ## A window register moves its index (R65) -/

/-- A field is below the bound of its width. -/
theorem fld_lt (s : State) (p : Nat) (f : FieldRef) : fld s p f < 2 ^ f.width := Nat.mod_lt _ (by positivity)

theorem changesOnly_autoInc {p : Nat} {idx : FieldRef} (auto : FieldRef) (s : State) (ho : idx.off < 0x1000) :
    changesOnly [.regs] [p] s (autoInc p idx auto s) := by
  unfold autoInc
  split
  · exact changesOnly_setFld _ s ho
  · exact changesOnly.refl _ _ s

/-- The index moves by one, round its width, exactly where AUTO_INC is 1. -/
theorem fld_autoInc (p : Nat) (idx auto : FieldRef) (s : State) (h : idx.lo + idx.width ≤ 64) :
    fld (autoInc p idx auto s) p idx = (fld s p idx + (if flag s p auto then 1 else 0)) % 2 ^ idx.width := by
  unfold autoInc
  split
  · exact fld_setFld_self p idx _ s h
  · exact (Nat.mod_eq_of_lt (fld_lt s p idx)).symm

/-- The other registers of the page stay. -/
theorem reg_autoInc_off {p off : Nat} {idx : FieldRef} (auto : FieldRef) (s : State) (ho : idx.off < 0x1000)
    (ho' : off < 0x1000) (h : off ≠ idx.off) : reg (autoInc p idx auto s) p off = reg s p off := by
  unfold autoInc
  split
  · exact reg_setReg_off _ s ho ho' h
  · rfl

/-- A window access refused with the bit `b`: the bit is set and the status is 5, whatever the index does. -/
theorem autoInc_refuseBit {p b : Nat} {idx : FieldRef} (auto : FieldRef) (s : State) (hb : b < 64) (ho : idx.off < 0x1000)
    (hn : R.STICKY ≠ idx.off) :
    stuck (autoInc p idx auto (refuseBit p b s)) p b ∧ (autoInc p idx auto (refuseBit p b s)).wst = 5 ∧
      changesOnly [.regs, .wst, .events, .out] [p] s (autoInc p idx auto (refuseBit p b s)) := by
  have hinc := changesOnly_autoInc (p := p) auto (refuseBit p b s) ho
  refine ⟨?_, hinc.same .wst (by decide), ?_⟩
  · dsimp only [stuck]
    rw [reg_autoInc_off auto _ ho (by decide) hn]
    exact stuck_setSticky p b s hb
  · have href : changesOnly [.regs, .wst, .events, .out] [p] s (refuseBit p b s) :=
      ((changesOnly_setSticky p b s).mono (by decide) (by simp)).trans
        ((changesOnly_setWst 5 (setSticky p b s)).mono (by decide) (by simp))
    exact href.trans (hinc.mono (by decide) (by simp))

/-! ## A write of a register of a Faceplate that holds no guarded field -/

/-- The state in which a block's effect on an unguarded register begins. -/
def counted0 (m : Nat) (s : State) : State := setWst 0 (countBar0 m s)

theorem changesOnly_counted0 (m : Nat) (s : State) : changesOnly [.regs, .wst] [] s (counted0 m s) :=
  ((changesOnly_countBar0 m s).mono (by decide) (by simp)).trans ((changesOnly_setWst 0 _).mono (by decide) (by simp))

theorem reg_counted0 {m p off : Nat} (s : State) (ho : off < 0x1000) (h : p ≠ 0x3F2 ∨ off ≠ R.PCI_CNT) :
    reg (counted0 m s) p off = reg s p off := reg_countBar0 s ho h

/-- Counting a request does not arm a detector. -/
theorem unarmed_counted0 {m p : Nat} {s : State} (h : unarmed s p) : unarmed (counted0 m s) p := by
  have hsame : (counted0 m s).armed = s.armed := (changesOnly_counted0 m s).same .armed (by decide)
  unfold unarmed
  rwa [hsame]

/-- An accepted write of a register without a guarded field is the effect of its block on the counted state. -/
theorem guardedWrite_plain {m p off : Nat} {v : Word} {h : State → State} {s : State} (j : judge s m p off 8 v = .ok)
    (g : regGuarded p off = false) : guardedWrite m p off v h s = h (counted0 m s) := by
  rw [guardedWrite_ok j, acceptedWrite_plain g, arriveWrite_plain g]
  rfl

/-! ## The banks -/

theorem not_guarded_coefData {f : Nat} (hf : f < 16) : regGuarded (fplPage f) R.FPL_COEF_DATA = false := by
  decide +revert

theorem not_guarded_gainData {f : Nat} (hf : f < 16) : regGuarded (fplPage f) R.FPL_GAIN_DATA = false := by
  decide +revert

theorem fplPage_ne_event {f : Nat} (hf : f < 16) : fplPage f ≠ 0x3F2 := by unfold fplPage; omega

/-- A field of a Faceplate's page reads alike in the counted state. -/
theorem fld_counted0 {m f : Nat} {x : FieldRef} (s : State) (hf : f < 16) (ho : x.off < 0x1000) :
    fld (counted0 m s) (fplPage f) x = fld s (fplPage f) x :=
  fld_of_reg (reg_counted0 s ho (.inl (fplPage_ne_event hf)))

theorem flag_counted0 {m f : Nat} {x : FieldRef} (s : State) (hf : f < 16) (ho : x.off < 0x1000) :
    flag (counted0 m s) (fplPage f) x = flag s (fplPage f) x :=
  flag_of_reg (reg_counted0 s ho (.inl (fplPage_ne_event hf)))

/-- Which banks are in use rests on the streams and the map, not on registers. -/
theorem coefInUse_counted0 (m f b : Nat) (s : State) : coefInUse (counted0 m s) f b = coefInUse s f b := by
  unfold counted0 countBar0; split <;> rfl

theorem gainInUse_counted0 (m f b : Nat) (s : State) : gainInUse (counted0 m s) f b = gainInUse s f b := by
  unfold counted0 countBar0; split <;> rfl

theorem coefKey_counted0 {m f : Nat} (s : State) (hf : f < 16) : coefKey (counted0 m s) f = coefKey s f := by
  unfold coefKey
  rw [fld_counted0 s hf (by decide), fld_counted0 s hf (by decide)]

theorem gainKey_counted0 {m f : Nat} (s : State) (hf : f < 16) : gainKey (counted0 m s) f = gainKey s f := by
  unfold gainKey
  rw [fld_counted0 s hf (by decide), fld_counted0 s hf (by decide)]

/-- A coefficient word stored at an index of a bank. -/
def storeCoef (k : Nat) (v : Word) (s : State) : State :=
  { s with fpl := { s.fpl with
      coef := wtSet s.fpl.coef k (BitVec.ofNat 64 (fieldOf v 0 18))
      badCoef := s.fpl.badCoef.filter (fun x => decide (x ≠ k)) } }

/-- A gain word stored at an index of a bank. -/
def storeGain (k : Nat) (v : Word) (s : State) : State :=
  { s with fpl := { s.fpl with
      gain := wtSet s.fpl.gain k (BitVec.ofNat 64 (fieldOf v 0 48))
      badGain := s.fpl.badGain.filter (fun x => decide (x ≠ k)) } }

theorem changesOnly_storeCoef (k : Nat) (v : Word) (s : State) : changesOnly [.fpl] [] s (storeCoef k v s) :=
  ⟨fun x hx => by cases x <;> simp_all [same, storeCoef], sameRegs_of_eq rfl⟩

theorem changesOnly_storeGain (k : Nat) (v : Word) (s : State) : changesOnly [.fpl] [] s (storeGain k v s) :=
  ⟨fun x hx => by cases x <;> simp_all [same, storeGain], sameRegs_of_eq rfl⟩

/-- A write into a coefficient bank: refused where a stream uses it, else stored. -/
theorem writeCoefData_unarmed {f : Nat} (v : Word) {s : State} (hu : unarmed s (fplPage f)) :
    writeCoefData f v s = autoInc (fplPage f) F.FPL_COEF_ADDR_INDEX F.FPL_COEF_ADDR_AUTO_INC
      (if coefInUse s f (fld s (fplPage f) F.FPL_COEF_ADDR_BANK) then refuseBit (fplPage f) S.FPL_COEF_WRITE_REFUSED s
        else storeCoef (coefKey s f) v s) := by
  unfold writeCoefData
  rw [evalDetector_unarmed _ _ hu]
  rfl

theorem writeGainData_unarmed {f : Nat} (v : Word) {s : State} (hu : unarmed s (fplPage f)) :
    writeGainData f v s = autoInc (fplPage f) F.FPL_GAIN_ADDR_INDEX F.FPL_GAIN_ADDR_AUTO_INC
      (if gainInUse s f (fld s (fplPage f) F.FPL_GAIN_ADDR_BANK) then refuseBit (fplPage f) S.FPL_GAIN_WRITE_REFUSED s
        else storeGain (gainKey s f) v s) := by
  unfold writeGainData
  rw [evalDetector_unarmed _ _ hu]
  rfl

/-! ## The accesses -/

/-- A write of a coefficient word into a bank in use is refused. -/
theorem exec_fplCoefData_refused {m f : Nat} {v : Word} {s : State} (hf : f < 16)
    (hj : judge s m (fplPage f) R.FPL_COEF_DATA 8 v = .ok) (hu : unarmed s (fplPage f))
    (huse : coefInUse s f (fld s (fplPage f) F.FPL_COEF_ADDR_BANK) = true) :
    exec (.fplCoefData m f true v) s = .next (autoInc (fplPage f) F.FPL_COEF_ADDR_INDEX F.FPL_COEF_ADDR_AUTO_INC
      (refuseBit (fplPage f) S.FPL_COEF_WRITE_REFUSED (counted0 m s))) := by
  change Host.Outcome.next (guardedWrite m (fplPage f) R.FPL_COEF_DATA v (writeCoefData f v) s) = _
  rw [guardedWrite_plain hj (not_guarded_coefData hf), writeCoefData_unarmed v (unarmed_counted0 hu),
    coefInUse_counted0, fld_counted0 s hf (by decide), if_pos huse]

/-- A write of a coefficient word into a bank that no stream uses stores it. -/
theorem exec_fplCoefData_stored {m f : Nat} {v : Word} {s : State} (hf : f < 16)
    (hj : judge s m (fplPage f) R.FPL_COEF_DATA 8 v = .ok) (hu : unarmed s (fplPage f))
    (huse : coefInUse s f (fld s (fplPage f) F.FPL_COEF_ADDR_BANK) = false) :
    exec (.fplCoefData m f true v) s = .next (autoInc (fplPage f) F.FPL_COEF_ADDR_INDEX F.FPL_COEF_ADDR_AUTO_INC
      (storeCoef (coefKey s f) v (counted0 m s))) := by
  change Host.Outcome.next (guardedWrite m (fplPage f) R.FPL_COEF_DATA v (writeCoefData f v) s) = _
  rw [guardedWrite_plain hj (not_guarded_coefData hf), writeCoefData_unarmed v (unarmed_counted0 hu),
    coefInUse_counted0, fld_counted0 s hf (by decide), if_neg (by simp [huse]), coefKey_counted0 s hf]

/-- A write of a gain word into a bank in use is refused. -/
theorem exec_fplGainData_refused {m f : Nat} {v : Word} {s : State} (hf : f < 16)
    (hj : judge s m (fplPage f) R.FPL_GAIN_DATA 8 v = .ok) (hu : unarmed s (fplPage f))
    (huse : gainInUse s f (fld s (fplPage f) F.FPL_GAIN_ADDR_BANK) = true) :
    exec (.fplGainData m f true v) s = .next (autoInc (fplPage f) F.FPL_GAIN_ADDR_INDEX F.FPL_GAIN_ADDR_AUTO_INC
      (refuseBit (fplPage f) S.FPL_GAIN_WRITE_REFUSED (counted0 m s))) := by
  change Host.Outcome.next (guardedWrite m (fplPage f) R.FPL_GAIN_DATA v (writeGainData f v) s) = _
  rw [guardedWrite_plain hj (not_guarded_gainData hf), writeGainData_unarmed v (unarmed_counted0 hu),
    gainInUse_counted0, fld_counted0 s hf (by decide), if_pos huse]

/-- A write of a gain word into a bank that no stream uses stores it. -/
theorem exec_fplGainData_stored {m f : Nat} {v : Word} {s : State} (hf : f < 16)
    (hj : judge s m (fplPage f) R.FPL_GAIN_DATA 8 v = .ok) (hu : unarmed s (fplPage f))
    (huse : gainInUse s f (fld s (fplPage f) F.FPL_GAIN_ADDR_BANK) = false) :
    exec (.fplGainData m f true v) s = .next (autoInc (fplPage f) F.FPL_GAIN_ADDR_INDEX F.FPL_GAIN_ADDR_AUTO_INC
      (storeGain (gainKey s f) v (counted0 m s))) := by
  change Host.Outcome.next (guardedWrite m (fplPage f) R.FPL_GAIN_DATA v (writeGainData f v) s) = _
  rw [guardedWrite_plain hj (not_guarded_gainData hf), writeGainData_unarmed v (unarmed_counted0 hu),
    gainInUse_counted0, fld_counted0 s hf (by decide), if_neg (by simp [huse]), gainKey_counted0 s hf]

/-- A window access refused with the bit `b`, seen from before the write. -/
theorem window_refused {m p b : Nat} {idx : FieldRef} (auto : FieldRef) (s : State) (hb : b < 64) (ho : idx.off < 0x1000)
    (hn : R.STICKY ≠ idx.off) :
    stuck (autoInc p idx auto (refuseBit p b (counted0 m s))) p b ∧
      (autoInc p idx auto (refuseBit p b (counted0 m s))).wst = 5 ∧
      changesOnly [.regs, .wst, .events, .out] [p] s (autoInc p idx auto (refuseBit p b (counted0 m s))) := by
  obtain ⟨hs, hw, hc⟩ := autoInc_refuseBit (p := p) (b := b) auto (counted0 m s) hb ho hn
  exact ⟨hs, hw, ((changesOnly_counted0 m s).mono (by decide) (by simp)).trans hc⟩

/-- A word stored through a window, seen from before the write: the index moves, and nothing else changes but the banks. -/
theorem window_stored {m f : Nat} {idx auto : FieldRef} {g : State → State} (s : State) (hf : f < 16)
    (hg : ∀ u, changesOnly [.fpl] [] u (g u)) (hr : ∀ u, (g u).regs = u.regs) (ho : idx.off < 0x1000)
    (ha : auto.off < 0x1000) (hw : idx.lo + idx.width ≤ 64) :
    (autoInc (fplPage f) idx auto (g (counted0 m s))).fpl = (g (counted0 m s)).fpl ∧
      fld (autoInc (fplPage f) idx auto (g (counted0 m s))) (fplPage f) idx =
        (fld s (fplPage f) idx + (if flag s (fplPage f) auto then 1 else 0)) % 2 ^ idx.width ∧
      changesOnly [.fpl, .regs, .wst] [fplPage f] s (autoInc (fplPage f) idx auto (g (counted0 m s))) := by
  have hinc := changesOnly_autoInc (p := fplPage f) (idx := idx) auto (g (counted0 m s)) ho
  refine ⟨hinc.same .fpl (by decide), ?_, ?_⟩
  · rw [fld_autoInc _ _ _ _ hw, fld_of_reg (reg_congr (hr _) _ _), flag_of_reg (reg_congr (hr _) _ _),
      fld_counted0 s hf ho, flag_counted0 s hf ha]
  · exact ((changesOnly_counted0 m s).mono (by decide) (by simp)).trans
      (((hg _).mono (by decide) (by simp)).trans (hinc.mono (by decide) (by simp)))

/-- A read through a window of a page that is not gated. -/
theorem window_read {f : Nat} {idx auto : FieldRef} (w : Word) (s : State) (ho : idx.off < 0x1000)
    (hw : idx.lo + idx.width ≤ 64) :
    fld (setRd w (autoInc (fplPage f) idx auto s)) (fplPage f) idx =
        (fld s (fplPage f) idx + (if flag s (fplPage f) auto then 1 else 0)) % 2 ^ idx.width ∧
      changesOnly [.rd, .regs] [fplPage f] s (setRd w (autoInc (fplPage f) idx auto s)) := by
  refine ⟨fld_autoInc _ _ _ _ hw, ?_⟩
  refine ((changesOnly_autoInc auto s ho).mono (by decide) (by simp)).trans ⟨fun x hx => ?_, sameRegs_of_eq rfl⟩
  cases x <;> simp_all [same]

theorem guardedRead_live {p : Nat} {h : State → Word × State} {s : State} (hg : pageGated s p = false) :
    guardedRead p h s = setRd (h s).1 (h s).2 := by
  unfold guardedRead; rw [hg]; rfl

/-- Settles O18: a window write is refused or stored by the use of its bank, and every access moves the index as
AUTO_INC says. -/
theorem faceplateBanks : Obligations.FaceplateBanks := by
  have hfpl (m : Nat) (s : State) : (counted0 m s).fpl = s.fpl := (changesOnly_counted0 m s).same .fpl (by decide)
  refine ⟨?_, ?_, ?_, ?_, ?_, ?_⟩
  · intro s m f v hf hj hu huse
    exact ⟨_, exec_fplCoefData_refused hf hj hu huse, window_refused _ s (by decide) (by decide) (by decide)⟩
  · intro s m f v hf hj hu huse
    refine ⟨_, exec_fplCoefData_stored hf hj hu huse, ?_⟩
    obtain ⟨hbank, hspec⟩ := window_stored (m := m) (idx := F.FPL_COEF_ADDR_INDEX) (auto := F.FPL_COEF_ADDR_AUTO_INC) s hf
      (changesOnly_storeCoef (coefKey s f) v) (fun _ => rfl) (by decide) (by decide) (by decide)
    rw [hbank]
    refine ⟨sparseGet_set_self _ _ _ _, fun k hk => ?_, (congrArg FplState.gain (hfpl m s) :), (congrArg FplState.map (hfpl m s) :), hspec⟩
    rw [← hfpl m s]
    exact sparseGet_set_ne _ _ _ hk
  · intro s m f v hf hg
    exact ⟨_, congrArg Host.Outcome.next (guardedRead_live hg), rfl, window_read _ s (by decide) (by decide)⟩
  · intro s m f v hf hj hu huse
    exact ⟨_, exec_fplGainData_refused hf hj hu huse, window_refused _ s (by decide) (by decide) (by decide)⟩
  · intro s m f v hf hj hu huse
    refine ⟨_, exec_fplGainData_stored hf hj hu huse, ?_⟩
    obtain ⟨hbank, hspec⟩ := window_stored (m := m) (idx := F.FPL_GAIN_ADDR_INDEX) (auto := F.FPL_GAIN_ADDR_AUTO_INC) s hf
      (changesOnly_storeGain (gainKey s f) v) (fun _ => rfl) (by decide) (by decide) (by decide)
    rw [hbank]
    refine ⟨sparseGet_set_self _ _ _ _, fun k hk => ?_, (congrArg FplState.coef (hfpl m s) :), (congrArg FplState.map (hfpl m s) :), hspec⟩
    rw [← hfpl m s]
    exact sparseGet_set_ne _ _ _ hk
  · intro s m f v hf hg
    exact ⟨_, congrArg Host.Outcome.next (guardedRead_live hg), rfl, window_read _ s (by decide) (by decide)⟩

end Sys2Proof.Machine
end

section
/-! PROOFS. Writes that are refused, ignored or met by others in their cycle (R64, R66, R77, R78, R81, R86, R393). -/

namespace Sys2Proof.Machine

/-! ## A write on its own -/

/-- A REGISTER_WRITE that no other write meets is judged and handed on. -/
theorem exec_registerWrite_alone (m addr size : Nat) (v : Word) (s : State) :
    exec (.registerWrite m addr size v []) s = .next (busWrite m addr size v s) := by
  change Host.Outcome.next (meetWrites addr size [(m, v)] s) = _
  unfold meetWrites
  rw [if_neg (by simp)]
  rfl

theorem busWrite_refused {m addr size : Nat} {v : Word} {s : State} {x : Verdict}
    (j : judge s m (addr / 0x1000) (addr % 0x1000) size v = x) (n : x ≠ .ok) :
    busWrite m addr size v s = refusedWrite (addr / 0x1000) x (arriveWrite x m (addr / 0x1000) (addr % 0x1000) s) := by
  unfold busWrite; dsimp only; rw [j]; cases x <;> simp_all

theorem busWrite_ok {m addr size : Nat} {v : Word} {s : State} (j : judge s m (addr / 0x1000) (addr % 0x1000) size v = .ok) :
    busWrite m addr size v s = acceptedWrite m (addr / 0x1000) (addr % 0x1000) v
      (regWrite m (addr / 0x1000) (addr % 0x1000) size v) (arriveWrite .ok m (addr / 0x1000) (addr % 0x1000) s) := by
  unfold busWrite; dsimp only; rw [j]

/-- What a REGISTER_WRITE that is not accepted completes with. -/
theorem exec_registerWrite_refused {m addr size : Nat} {v : Word} {s : State} {x : Verdict}
    (j : judge s m (addr / 0x1000) (addr % 0x1000) size v = x) (n : x ≠ .ok) :
    exec (.registerWrite m addr size v []) s =
      .next (refusedWrite (addr / 0x1000) x (arriveWrite x m (addr / 0x1000) (addr % 0x1000) s)) := by
  rw [exec_registerWrite_alone, busWrite_refused j n]

/-! ## Arriving (R64, R81) -/

/-- The claims of the marks due at a register do not rest on registers. -/
theorem dueClaims_countBar0 (m a : Nat) (s : State) : dueClaims (countBar0 m s) a = dueClaims s a := by
  unfold countBar0; split <;> rfl

theorem meetMarks_none {a claim : Nat} {s : State} (h : dueClaims s a = []) : meetMarks a claim s = s := by
  unfold meetMarks; rw [h]; rfl

theorem changesOnly_meetMarks (a claim : Nat) (s : State) : changesOnly [.mrk] [] s (meetMarks a claim s) := by
  unfold meetMarks
  split
  · exact changesOnly.refl _ _ s
  · exact ⟨fun x hx => by cases x <;> simp_all [same], sameRegs_of_eq rfl⟩

/-- A write that has been judged away before its register meets no mark. -/
theorem arriveWrite_unmet {x : Verdict} {m p off : Nat} {s : State} (h : x ∉ [Verdict.ok, .lowClaim, .tied, .range]) :
    arriveWrite x m p off s = countBar0 m s := by
  unfold arriveWrite
  rw [if_neg]
  simp only [List.mem_cons, List.not_mem_nil, or_false] at h
  simp [h]

/-- A write of a register that no mark is due at is counted alone. -/
theorem arriveWrite_undue {x : Verdict} {m p off : Nat} {s : State} (h : dueClaims s (regAddr p off) = []) :
    arriveWrite x m p off s = countBar0 m s := by
  unfold arriveWrite
  dsimp only
  rw [meetMarks_none (by rw [dueClaims_countBar0, h])]
  split <;> rfl

theorem changesOnly_arriveWrite (x : Verdict) (m p off : Nat) (s : State) :
    changesOnly [.regs, .mrk] [] s (arriveWrite x m p off s) := by
  have hc : changesOnly [.regs, .mrk] [] s (countBar0 m s) := (changesOnly_countBar0 m s).mono (by decide) (by simp)
  unfold arriveWrite
  dsimp only
  split
  · exact hc.trans ((changesOnly_meetMarks _ _ _).mono (by decide) (by simp))
  · exact hc

theorem mrk_arriveWrite_undue {x : Verdict} {m p off : Nat} {s : State} (h : dueClaims s (regAddr p off) = []) :
    (arriveWrite x m p off s).mrk = s.mrk := by
  rw [arriveWrite_undue h]
  exact (changesOnly_countBar0 m s).same .mrk (by decide)

/-- An address is that of its register in its page. -/
theorem regAddr_div_mod (a : Nat) : regAddr (a / 0x1000) (a % 0x1000) = a := by unfold regAddr; omega

/-! ## The refusals -/

/-- A refusal under the bit `b` of page `q` with status `n`, seen from before the write arrived. -/
theorem refusal_spec {K : List Part} {q b n : Nat} {s u : State} (hb : b < 64) (hu : changesOnly K [] s u)
    (hK : ∀ x ∈ [Part.regs, .out, .events, .wst], x ∈ K) :
    stuck (setWst n (setSticky q b u)) q b ∧ (setWst n (setSticky q b u)).wst = n ∧
      (¬ eventPage q → ∀ off, off < 0x1000 → off ≠ R.STICKY → reg (setWst n (setSticky q b u)) q off = reg s q off) ∧
      changesOnly K [q] s (setWst n (setSticky q b u)) := by
  refine ⟨stuck_setSticky q b u hb, rfl, fun hq off ho hn => ?_, ?_⟩
  · exact ((setSticky_page (s := u) hq hb).2 off ho hn).trans (hu.reg (by simp) hq ho)
  · have hset : changesOnly K [q] u (setSticky q b u) :=
      (changesOnly_setSticky q b u).mono (fun x hx => hK x ((by decide : ∀ y ∈ [Part.regs, .out, .events], y ∈ [Part.regs, .out, .events, .wst]) x hx)) (by simp)
    have hwst : changesOnly K [q] (setSticky q b u) (setWst n (setSticky q b u)) :=
      (changesOnly_setWst n _).mono (fun x hx => hK x (by simp at hx; simp [hx])) (by simp)
    exact (hu.mono (fun _ h => h) (by simp)).trans (hset.trans hwst)

/-- A page an event touches need not be listed. -/
theorem changesOnly.event {L : List Part} {q : Nat} {s t : State} (h : changesOnly L [q] s t) (hq : eventPage q) :
    changesOnly L [] s t :=
  ⟨h.1, fun p off _ he ho => h.2 p off (fun hp => he (List.mem_singleton.mp hp ▸ hq)) he ho⟩

/-- A write that has fired a detector of the PCI page: the detector may be used up and its bit is set. -/
theorem pciRefusal_spec {m b : Nat} (s : State) (hb : b < 64) :
    stuck (setSticky 0x3F2 b (takeArmed 0x3F2 b (countBar0 m s)).2) 0x3F2 b ∧
      changesOnly [.regs, .out, .events, .wst, .armed] [] s (setSticky 0x3F2 b (takeArmed 0x3F2 b (countBar0 m s)).2) := by
  refine ⟨stuck_setSticky _ _ _ hb, ((changesOnly_countBar0 m s).mono (by decide) (by simp)).trans ?_⟩
  refine ((changesOnly_takeArmed 0x3F2 b _).mono (by decide) (by simp)).trans ?_
  exact ((changesOnly_setSticky 0x3F2 b _).event (by decide)).mono (by decide) (by simp)

/-! ## The judgement -/

theorem armedNow_unarmed {s : State} {p : Nat} (b : Nat) (h : unarmed s p) : armedNow s p b = false := by
  unfold armedNow; rw [takeArmed_unarmed b h]

theorem judge_fault {s : State} {m p off size : Nat} {v : Word} (h : accessFaults s p off size = true) :
    judge s m p off size v = .fault := if_pos h

theorem judge_gated {s : State} {m p off size : Nat} {v : Word} (h : accessFaults s p off size = false)
    (hb : (pageBlock p).isSome = true) (hg : pageGated s p = true) : judge s m p off size v = .gated := by
  obtain ⟨b, hb⟩ := Option.isSome_iff_exists.mp hb
  unfold judge
  simp [h, hb, hg]

/-- A register is one of a page that is assigned, and not one of MSI-X. -/
theorem regDef_block {p off : Nat} (h : (regDef p off).isSome = true) :
    ∃ b, pageBlock p = some b ∧ b ≠ .msix ∧ b ≠ .pba := by
  unfold regDef at h
  split at h
  · simp at h
  · simp at h
  · rename_i b hm hp hb
    exact ⟨b, hb, hm, hp⟩
  · simp at h

/-- How a write that reaches its register is judged there: the lock, the claims, then its values. -/
theorem judge_register {s : State} {m p off : Nat} {v : Word} {r : RegDef} (ho : off % 8 = 0) (hr : regDef p off = some r)
    (ha : regAbsent p off = false) (hu : unarmed s 0x3F2) (hg : pageGated s p = false) (h1 : m ≠ 1) (h2 : m ≠ 2) :
    judge s m p off 8 v =
      if lockRefuses s m p off then .locked
      else if regGuarded p off && (decide (masterClaim s m < latched s (latchPage p off v)) ||
          (dueClaims s (regAddr p off)).any (fun c => decide (masterClaim s m < c))) then .lowClaim
      else if regGuarded p off && decide (masterClaim s m ∈ dueClaims s (regAddr p off)) then .tied
      else if !fieldsInRange r v then .range
      else .ok := by
  obtain ⟨b, hb, hm, hp⟩ := regDef_block (by rw [hr]; rfl)
  have hal : accessFaults s p off 8 = false := by
    unfold accessFaults accessAligned
    rw [hb, armedNow_unarmed _ hu]
    simp [hm, hp, ho]
  unfold judge
  simp [hal, hb, hg, armedNow_unarmed _ hu, stewardVerdict, h1, h2, hm, hp, hr, ha]

/-! ## Writes that meet (R80, R81) -/

/-- Two writes that reach a guarded register in one cycle meet there. -/
theorem exec_registerWrite_meet {m k addr : Nat} {v w : Word} {s : State}
    (hr : regGuarded (addr / 0x1000) (addr % 0x1000) = true) (ha : accessAligned (addr / 0x1000) (addr % 0x1000) 8 = true)
    (hg : pageGated s (addr / 0x1000) = false) :
    exec (.registerWrite m addr 8 v [(k, w)]) s = .next (guardedMeet addr 8 [(m, v), (k, w)] s) := by
  change Host.Outcome.next (meetWrites addr 8 [(m, v), (k, w)] s) = _
  unfold meetWrites
  rw [if_pos (by simp [hr, ha, hg])]

/-- Of two equal claims neither is judged: both are refused as tied. -/
theorem guardedMeet_equal {m k addr : Nat} {v w : Word} {s : State} (h : masterClaim s m = masterClaim s k) :
    guardedMeet addr 8 [(m, v), (k, w)] s =
      setWst 1 (setSticky (addr / 0x1000) S.CLAIM_TIE (arriveWrite .tied k (addr / 0x1000) (addr % 0x1000)
        (arriveWrite .tied m (addr / 0x1000) (addr % 0x1000) s))) := by
  unfold guardedMeet
  simp [h]

/-- Of two unequal claims the lower is refused, then the higher is judged. -/
theorem guardedMeet_unequal {m k addr : Nat} {v w : Word} {s : State} (h : masterClaim s k < masterClaim s m) :
    guardedMeet addr 8 [(m, v), (k, w)] s = busWrite m addr 8 v
        (refusedWrite (addr / 0x1000) .lowClaim (arriveWrite .lowClaim k (addr / 0x1000) (addr % 0x1000) s)) ∧
      guardedMeet addr 8 [(k, w), (m, v)] s = guardedMeet addr 8 [(m, v), (k, w)] s := by
  have hne : masterClaim s k ≠ masterClaim s m := by omega
  unfold guardedMeet
  simp [hne, Nat.max_eq_left h.le, Nat.max_eq_right h.le]

/-! ## The clauses -/

/-- A write under a verdict whose bit lies in its own page: a refusal that meets the marks of its register. -/
theorem exec_registerWrite_page {m addr b n : Nat} {v : Word} {s : State} {x : Verdict}
    (j : judge s m (addr / 0x1000) (addr % 0x1000) 8 v = x) (hx : x ≠ .ok) (hb : b < 64)
    (hr : ∀ u, refusedWrite (addr / 0x1000) x u = setWst n (setSticky (addr / 0x1000) b u)) :
    completes (.registerWrite m addr 8 v []) s (fun t => stuck t (addr / 0x1000) b ∧ t.wst = n ∧
      (¬ eventPage (addr / 0x1000) → ∀ off, off < 0x1000 → off ≠ R.STICKY → reg t (addr / 0x1000) off = reg s (addr / 0x1000) off) ∧
      (dueClaims s addr = [] → t.mrk = s.mrk) ∧ changesOnly [.regs, .out, .events, .wst, .mrk] [addr / 0x1000] s t) := by
  refine ⟨_, exec_registerWrite_refused j hx, ?_⟩
  rw [hr]
  obtain ⟨hs, hw, hk, hc⟩ := refusal_spec (K := [.regs, .out, .events, .wst, .mrk]) (q := addr / 0x1000) (n := n) hb
    ((changesOnly_arriveWrite x m (addr / 0x1000) (addr % 0x1000) s).mono (by decide) (by simp)) (by decide)
  refine ⟨hs, hw, hk, fun hd => ?_, hc⟩
  have hmrk : (setSticky (addr / 0x1000) b (arriveWrite x m (addr / 0x1000) (addr % 0x1000) s)).mrk =
      (arriveWrite x m (addr / 0x1000) (addr % 0x1000) s).mrk := (changesOnly_setSticky _ _ _).same .mrk (by decide)
  exact hmrk.trans (mrk_arriveWrite_undue (by rw [regAddr_div_mod, hd]))

/-- Two equal claims at a guarded register: CLAIM_TIE alone. -/
theorem exec_registerWrite_tie {m k addr : Nat} {v w : Word} {s : State} (hp : ¬ eventPage (addr / 0x1000))
    (hr : regGuarded (addr / 0x1000) (addr % 0x1000) = true) (ha : accessAligned (addr / 0x1000) (addr % 0x1000) 8 = true)
    (hg : pageGated s (addr / 0x1000) = false) (hc : masterClaim s m = masterClaim s k) :
    completes (.registerWrite m addr 8 v [(k, w)]) s (fun t => stuck t (addr / 0x1000) S.CLAIM_TIE ∧ t.wst = 1 ∧
      (∀ off, off < 0x1000 → off ≠ R.STICKY → reg t (addr / 0x1000) off = reg s (addr / 0x1000) off) ∧
      (dueClaims s addr = [] → t.mrk = s.mrk) ∧ changesOnly [.regs, .out, .events, .wst, .mrk] [addr / 0x1000] s t) := by
  refine ⟨_, exec_registerWrite_meet hr ha hg, ?_⟩
  rw [guardedMeet_equal hc]
  have hm := changesOnly_arriveWrite .tied m (addr / 0x1000) (addr % 0x1000) s
  obtain ⟨hs, hw, hkeep, hframe⟩ := refusal_spec (K := [.regs, .out, .events, .wst, .mrk]) (q := addr / 0x1000)
    (b := S.CLAIM_TIE) (n := 1) (by decide) ((hm.trans (changesOnly_arriveWrite .tied k _ _ _)).mono (by decide) (by simp))
    (by decide)
  refine ⟨hs, hw, hkeep hp, fun hd => ?_, hframe⟩
  have hdue : dueClaims s (regAddr (addr / 0x1000) (addr % 0x1000)) = [] := by rw [regAddr_div_mod, hd]
  have hdue' : dueClaims (arriveWrite .tied m (addr / 0x1000) (addr % 0x1000) s) (regAddr (addr / 0x1000) (addr % 0x1000)) = [] := by
    rw [arriveWrite_undue hdue, dueClaims_countBar0, hdue]
  have hmrk := (changesOnly_setSticky (addr / 0x1000) S.CLAIM_TIE (arriveWrite .tied k (addr / 0x1000) (addr % 0x1000)
    (arriveWrite .tied m (addr / 0x1000) (addr % 0x1000) s))).same .mrk (by decide)
  exact (hmrk.trans (mrk_arriveWrite_undue hdue')).trans (mrk_arriveWrite_undue hdue)

/-- Two unequal claims at a guarded register: the lower is refused and the higher is judged as if it came alone, whichever
is named first. -/
theorem exec_registerWrite_outrank {m k addr : Nat} {v w : Word} {s : State}
    (hr : regGuarded (addr / 0x1000) (addr % 0x1000) = true) (ha : accessAligned (addr / 0x1000) (addr % 0x1000) 8 = true)
    (hg : pageGated s (addr / 0x1000) = false) (hlt : masterClaim s k < masterClaim s m) :
    completes (.registerWrite m addr 8 v [(k, w)]) s (fun t => ∃ u, stuck u (addr / 0x1000) S.CLAIM_REFUSED ∧ u.wst = 1 ∧
      keeps [.regs, .out, .events, .wst, .mrk] s u ∧ sameRegs [addr / 0x1000] s u ∧
      completes (.registerWrite m addr 8 v []) u (fun x => x = t) ∧
      completes (.registerWrite k addr 8 w [(m, v)]) s (fun x => x = t)) := by
  obtain ⟨hjudged, hswap⟩ := guardedMeet_unequal (addr := addr) (v := v) (w := w) hlt
  obtain ⟨hs, hw, -, hkeeps, hregs⟩ := refusal_spec (K := [.regs, .out, .events, .wst, .mrk]) (q := addr / 0x1000)
    (b := S.CLAIM_REFUSED) (n := 1) (by decide)
    ((changesOnly_arriveWrite .lowClaim k (addr / 0x1000) (addr % 0x1000) s).mono (by decide) (by simp)) (by decide)
  refine ⟨_, exec_registerWrite_meet hr ha hg, _, hs, hw, hkeeps, hregs, ?_, ?_⟩
  · exact ⟨_, exec_registerWrite_alone m addr 8 v _, hjudged.symm⟩
  · exact ⟨_, exec_registerWrite_meet hr ha hg, hswap⟩

/-- A write of a Steward that its state refuses. -/
theorem exec_registerWrite_steward {m addr : Nat} {v : Word} {s : State}
    (j : judge s m (addr / 0x1000) (addr % 0x1000) 8 v = .steward ∨ judge s m (addr / 0x1000) (addr % 0x1000) 8 v = .standby) :
    completes (.registerWrite m addr 8 v []) s (fun t => t.wst = 2 ∧
      (judge s m (addr / 0x1000) (addr % 0x1000) 8 v = .standby → stuck t 0x3D0 S.STW_STANDBY_WRITE) ∧
      keeps [.regs, .out, .events, .wst] s t ∧
      sameRegs (if judge s m (addr / 0x1000) (addr % 0x1000) 8 v = .standby then [0x3D0] else []) s t) := by
  rcases j with j | j <;> refine ⟨_, exec_registerWrite_refused j (by decide), ?_⟩ <;>
    rw [arriveWrite_unmet (by decide), j]
  · exact ⟨rfl, by simp, ((changesOnly_countBar0 m s).mono (by decide) (by simp)).trans
      ((changesOnly_setWst 2 _).mono (by decide) (by simp))⟩
  · obtain ⟨hs, hw, -, hc⟩ := refusal_spec (K := [.regs, .out, .events, .wst]) (q := 0x3D0) (b := S.STW_STANDBY_WRITE) (n := 2)
      (by decide) ((changesOnly_countBar0 m s).mono (by decide) (by simp)) (by decide)
    exact ⟨hw, fun _ => hs, hc⟩

/-- Settles O8: the verdict decides which bit a refused write sets, and where it has met the marks of its register. -/
theorem refusedWrites : Obligations.RefusedWrites := by
  refine ⟨?_, ?_, ?_, ?_, ?_, ?_, ?_, ?_, ?_, ?_, ?_, ?_, ?_⟩
  · intro s m addr size v h
    refine ⟨_, exec_registerWrite_refused (judge_fault h) (by decide), ?_⟩
    rw [arriveWrite_unmet (by decide)]
    obtain ⟨hs, hc⟩ := pciRefusal_spec (m := m) (b := S.PCI_ACCESS_FAULT) s (by decide)
    refine ⟨?_, rfl, hc.trans (changesOnly.mono (L := [.regs, .wst]) (l := []) ?_ (by decide) (by simp))⟩
    rotate_left
    · exact changesOnly.trans (((changesOnly_setReg (p := 0x3F2) (off := R.PCI_CNT + 8 * 2) _ _ (by decide)).event
        (by decide)).mono (K := [.regs, .wst]) (by decide) (by simp)) ((changesOnly_setWst 3 _).mono (by decide) (by simp))
    dsimp only [stuck] at hs ⊢
    rw [← hs]
    exact congrArg (bitOf · _) (reg_setReg_off (p := 0x3F2) (off := R.PCI_CNT + 8 * 2) _ _ (by decide) (by decide) (by decide))
  · intro s m addr v h hb hg
    refine ⟨_, exec_registerWrite_refused (judge_gated h hb hg) (by decide), ?_⟩
    rw [arriveWrite_unmet (by decide)]
    obtain ⟨hs, hc⟩ := pciRefusal_spec (m := m) (b := S.PCI_GATED_WRITE) s (by decide)
    exact ⟨hs, rfl, hc.trans ((changesOnly_setWst 3 _).mono (by decide) (by simp))⟩
  · intro s m p off v b hb hm hp hu hg hl h1 h2 ho hr ha
    obtain ⟨r, hr⟩ := Option.isSome_iff_exists.mp hr
    rw [judge_register ho hr ha hu hg h1 h2]
    have hlock : lockRefuses s m p off = lockCovers off := by simp [lockRefuses, hl, h1, h2]
    rw [hlock]
    constructor
    · intro hcov
      rw [if_pos (by simpa [lockCovers] using hcov)]
    · intro hcov
      have hfree : lockCovers off = false := by rcases hcov with rfl | rfl <;> decide
      rw [hfree, if_neg (by decide)]
      split_ifs <;> decide
  · intro s m p off v ho hr ha hu hg hl h1 h2 hgu hlow
    obtain ⟨r, hr⟩ := Option.isSome_iff_exists.mp hr
    have hlock : lockRefuses s m p off = false := by simp [lockRefuses, hl]
    rw [judge_register ho hr ha hu hg h1 h2, hlock, if_neg (by decide), hgu, if_pos]
    simpa using hlow
  · rintro s m addr p v rfl j
    refine ⟨_, exec_registerWrite_refused j (by decide), ?_⟩
    rw [arriveWrite_unmet (by decide)]
    exact refusal_spec (b := S.LOCK_REFUSED) (by decide) ((changesOnly_countBar0 m s).mono (by decide) (by simp)) (by decide)
  · rintro s m addr p v rfl j
    exact exec_registerWrite_page j (by decide) (by decide) (fun _ => rfl)
  · rintro s m addr p v rfl j
    obtain ⟨t, ht, hs, hw, hk, -, hc⟩ := exec_registerWrite_page (b := S.CLAIM_TIE) j (by decide) (by decide) (fun _ => rfl)
    exact ⟨t, ht, hs, hw, hk, hc⟩
  · rintro s m k addr p v w rfl hp hr ha hg hc
    exact exec_registerWrite_tie hp hr ha hg hc
  · rintro s m k addr p v w rfl hr ha hg hlt
    exact exec_registerWrite_outrank hr ha hg hlt
  · intro s m addr size v l hr
    refine ⟨_, rfl, ?_⟩
    unfold meetWrites
    rw [hr, if_neg (by simp)]
  · intro s m addr v j
    refine ⟨_, exec_registerWrite_refused j (by decide), ?_⟩
    rw [arriveWrite_unmet (by decide)]
    exact ⟨rfl, changesOnly_counted0 m s⟩
  · rintro s m addr p v rfl j
    obtain ⟨t, ht, hs, hw, hk, -, hc⟩ := exec_registerWrite_page (b := S.CFG_REFUSED) j (by decide) (by decide) (fun _ => rfl)
    exact ⟨t, ht, hs, hw, hk, hc⟩
  · rintro s m addr p v rfl j
    exact exec_registerWrite_steward j

end Sys2Proof.Machine
end

section
/-! PROOFS. The header of a page: accepted writes of its registers up to the act of the register itself (R63, R68, R69, R78). -/

namespace Sys2Proof.Machine

/-! ## Pages and addresses -/

theorem regAddr_div {p off : Nat} (ho : off < 0x1000) : regAddr p off / 0x1000 = p := by unfold regAddr; omega

theorem regAddr_mod {p off : Nat} (ho : off < 0x1000) : regAddr p off % 0x1000 = off := by unfold regAddr; omega

/-- The pages below 0x400 are all the assigned pages but those of MSI-X (R67). -/
theorem pageBlock_msix_iff {p : Nat} {b : Block} (hb : pageBlock p = some b) : p < 0x400 ↔ b ≠ .msix ∧ b ≠ .pba := by
  have hrows : ∀ r ∈ pageRows, r.first ≤ r.last ∧ (r.last < 0x400 ↔ r.block ≠ .msix ∧ r.block ≠ .pba) ∧
      (r.first < 0x400 ↔ r.last < 0x400) := by decide
  unfold pageBlock pageRow at hb
  obtain ⟨r, hr, rfl⟩ := Option.map_eq_some_iff.mp hb
  obtain ⟨hle, hblock, hsplit⟩ := hrows r (List.mem_of_find?_eq_some hr)
  have hin : r.first ≤ p ∧ p ≤ r.last := by simpa using List.find?_some hr
  rw [← hblock]
  omega

/-- A write that is accepted is of an assigned page. -/
theorem pageBlock_of_judge_ok {s : State} {m p off size : Nat} {v : Word} (j : judge s m p off size v = .ok) :
    ∃ b, pageBlock p = some b := by
  unfold judge at j
  cases hb : pageBlock p with
  | none => rw [hb] at j; split at j <;> cases j
  | some b => exact ⟨b, rfl⟩

/-- A write that is accepted below page 0x400 is of a block with a header. -/
theorem headed_of_judge_ok {s : State} {m p off size : Nat} {v : Word} (j : judge s m p off size v = .ok) (hp : p < 0x400) :
    ∃ b, pageBlock p = some b ∧ b ≠ .msix ∧ b ≠ .pba := by
  obtain ⟨b, hb⟩ := pageBlock_of_judge_ok j
  exact ⟨b, hb, (pageBlock_msix_iff hb).mp hp⟩

/-! ## The registers of the header -/

theorem regDef_header {p off : Nat} {b : Block} (hb : pageBlock p = some b) (hm : b ≠ .msix) (hpba : b ≠ .pba)
    (ho : off < 0x100) : regDef p off = regAtOff headerRegs off := by
  unfold regDef
  rw [hb]
  cases b <;> simp_all

/-- No register of the header holds a guarded field; INJECT and INJECT_MODE count as guarded in pages that hold some. -/
theorem not_guarded_header {p off : Nat} (ho : off < 0x100) (hi : off ≠ R.INJECT) (hj : off ≠ R.INJECT_MODE) :
    regGuarded p off = false := by
  have hfields : ∀ r ∈ headerRegs, r.fields.any (fun f => decide (f.acc = .rwg)) = false := by decide
  unfold regGuarded
  rw [if_neg (by simp [hi, hj])]
  cases hr : regDef p off with
  | none => rfl
  | some r =>
    obtain ⟨b, hb, hm, hpba⟩ := regDef_block (p := p) (off := off) (by rw [hr]; rfl)
    rw [regDef_header hb hm hpba ho] at hr
    exact hfields r (List.mem_of_find?_eq_some hr)

/-- What INJECT and INJECT_MODE take from their page is whether it holds guarded fields. -/
theorem guarded_inject {p off : Nat} (ho : off = R.INJECT ∨ off = R.INJECT_MODE) (h : regGuarded p off = true) :
    ∃ b, pageBlock p = some b ∧ guardedBlock b = true := by
  unfold regGuarded at h
  rw [if_pos ho] at h
  cases hb : pageBlock p with
  | none => simp [hb] at h
  | some b => exact ⟨b, rfl, by simpa [hb] using h⟩

/-! ## No mark acts on a register of the header (R291) -/

/-- The registers that marks act on lie above the header. -/
theorem target_off {o : MarkOcc} {a : Nat} (h : a ∈ o.targets) : 0x100 ≤ a % 0x1000 := by
  have hbits (w n k : Nat) (hk : k ∈ bitsSet w n) : k < n := by
    unfold bitsSet at hk
    exact List.mem_range.mp (List.mem_filter.mp hk).1
  have hline (w : Nat) (h : a ∈ (bitsSet w 16).map (fun n => regAddr 0x330 (R.TBS_TRIG_CFG + 8 * n))) : 0x100 ≤ a % 0x1000 := by
    obtain ⟨n, hn, rfl⟩ := List.mem_map.mp h
    have := hbits w 16 n hn
    simp only [regAddr, R.TBS_TRIG_CFG]; omega
  unfold MarkOcc.targets at h
  dsimp only at h
  split at h
  · exact hline _ h
  · split at h
    · exact hline _ h
    · split at h
      · obtain ⟨c, -, rfl⟩ := List.mem_map.mp h
        simp only [regAddr, R.FLD_CH_CTRL]; omega
      · simp at h

theorem dueClaims_header {p off : Nat} (s : State) (ho : off < 0x100) : dueClaims s (regAddr p off) = [] := by
  have hno (x : MarkOcc) : decide (regAddr p off ∈ x.targets) = false := by
    rw [decide_eq_false_iff_not]
    intro h
    have := target_off h
    rw [regAddr_mod (by omega)] at this
    omega
  unfold dueClaims
  simp [hno]

/-! ## Accepted writes -/

theorem regWrite_header {m p off size : Nat} {b : Block} (v : Word) (hb : pageBlock p = some b) (hm : b ≠ .msix)
    (hpba : b ≠ .pba) (ho : off < 0x100) (s : State) : regWrite m p off size v s = writeHeader b p off v s := by
  unfold regWrite
  rw [hb]
  simp [hm, hpba, ho]

theorem regWrite_block {m p off size : Nat} {b : Block} (v : Word) (hb : pageBlock p = some b) (hm : b ≠ .msix)
    (hpba : b ≠ .pba) (ho : 0x100 ≤ off) (s : State) : regWrite m p off size v s = writeBlock m b p off v s := by
  unfold regWrite
  rw [hb]
  simp [hm, hpba, Nat.not_lt.mpr ho]

/-- A write of the command path that is accepted and of a register without a guarded field is its effect alone. -/
theorem busWrite_plain {m p off : Nat} {v : Word} {s : State} (ho : off < 0x1000) (j : judge s m p off 8 v = .ok)
    (hg : regGuarded p off = false) : busWrite m (regAddr p off) 8 v s = regWrite m p off 8 v (counted0 m s) := by
  rw [busWrite_ok (by rw [regAddr_div ho, regAddr_mod ho, j]), regAddr_div ho, regAddr_mod ho, acceptedWrite_plain hg,
    arriveWrite_plain hg]
  rfl

/-- An accepted write of a header register that is neither INJECT nor INJECT_MODE is the act of the register. -/
theorem busWrite_header {m p off : Nat} {b : Block} {v : Word} {s : State} (hb : pageBlock p = some b) (hm : b ≠ .msix)
    (hpba : b ≠ .pba) (ho : off < 0x100) (hi : off ≠ R.INJECT) (hj : off ≠ R.INJECT_MODE)
    (j : judge s m p off 8 v = .ok) : busWrite m (regAddr p off) 8 v s = writeHeader b p off v (counted0 m s) := by
  rw [busWrite_plain (by omega) j (not_guarded_header ho hi hj), regWrite_header v hb hm hpba ho]

theorem masterClaim_countBar0 (m k : Nat) (s : State) : masterClaim (countBar0 m s) k = masterClaim s k := by
  have hr (f : FieldRef) (hf : f.off < 0x1000) : fld (countBar0 m s) 0x3D1 f = fld s 0x3D1 f :=
    fld_of_reg (reg_countBar0 s hf (.inl (by decide)))
  unfold masterClaim
  rw [hr _ (by decide), hr _ (by decide), (changesOnly_countBar0 m s).same .grants (by decide)]

/-- An accepted write of INJECT or INJECT_MODE: the act of the register, and the latch it may raise. -/
theorem busWrite_inject {m p off : Nat} {b : Block} {v : Word} {s : State} (hb : pageBlock p = some b) (hm : b ≠ .msix)
    (hpba : b ≠ .pba) (ho : off = R.INJECT ∨ off = R.INJECT_MODE) (j : judge s m p off 8 v = .ok) :
    busWrite m (regAddr p off) 8 v s =
      if regGuarded p off && decide ((writeHeader b p off v (counted0 m s)).wst = 0) then
        raiseLatch p (masterClaim s m) (writeHeader b p off v (counted0 m s))
      else writeHeader b p off v (counted0 m s) := by
  have hlow : off < 0x100 := by rcases ho with rfl | rfl <;> decide
  have hlatch : latchPage p off v = p := by
    unfold latchPage
    rw [if_neg]
    simp only [R.GGE_LINE]
    omega
  rw [busWrite_ok (by rw [regAddr_div (by omega), regAddr_mod (by omega), j]), regAddr_div (by omega), regAddr_mod (by omega),
    arriveWrite_undue (dueClaims_header s hlow)]
  unfold acceptedWrite
  dsimp only
  rw [hlatch, masterClaim_countBar0, regWrite_header v hb hm hpba hlow]
  rfl

/-- A header register of any page reads alike in the counted state. -/
theorem reg_counted0_header {m p off : Nat} (s : State) (ho : off < 0x100) : reg (counted0 m s) p off = reg s p off :=
  reg_counted0 s (by omega) (.inr (by simp only [R.PCI_CNT]; omega))

theorem fld_counted0_header {m p : Nat} {f : FieldRef} (s : State) (ho : f.off < 0x100) :
    fld (counted0 m s) p f = fld s p f := fld_of_reg (reg_counted0_header s ho)

theorem flag_counted0_header {m p : Nat} {f : FieldRef} (s : State) (ho : f.off < 0x100) :
    flag (counted0 m s) p f = flag s p f := flag_of_reg (reg_counted0_header s ho)

/-! ## The words a plain write leaves -/

/-- Clearing bits twice clears the bits of both masks. -/
theorem clear_clear (w v a b : Word) : (w &&& ~~~(v &&& a)) &&& ~~~(v &&& b) = w &&& ~~~(v &&& (a ||| b)) := by
  apply BitVec.eq_of_getLsbD_eq
  intro i hi
  simp only [BitVec.getLsbD_and, BitVec.getLsbD_not, BitVec.getLsbD_or, hi, decide_true, Bool.true_and]
  cases w.getLsbD i <;> cases v.getLsbD i <;> cases a.getLsbD i <;> cases b.getLsbD i <;> rfl

/-- A write of STICKY clears the bits written 1. -/
theorem mergedWord_sticky {p : Nat} {b : Block} (hb : pageBlock p = some b) (hm : b ≠ .msix) (hpba : b ≠ .pba) (v : Word)
    (s : State) : mergedWord s p R.STICKY v = reg s p R.STICKY &&& ~~~v := by
  have hmask : fieldMask 0 1 ||| (fieldMask 1 1 ||| (fieldMask 2 1 ||| (fieldMask 3 1 ||| (fieldMask 4 1 ||| fieldMask 5 59)))) =
      BitVec.allOnes 64 := by decide
  unfold mergedWord
  rw [regDef_header hb hm hpba (by decide)]
  change (((((reg s p R.STICKY &&& ~~~(v &&& fieldMask 0 1)) &&& ~~~(v &&& fieldMask 1 1)) &&& ~~~(v &&& fieldMask 2 1)) &&&
    ~~~(v &&& fieldMask 3 1)) &&& ~~~(v &&& fieldMask 4 1)) &&& ~~~(v &&& fieldMask 5 59) = _
  rw [clear_clear, clear_clear, clear_clear, clear_clear, clear_clear]
  rw [hmask, BitVec.and_allOnes]

/-- A field as wide as the word is the word. -/
theorem withField_whole (w v : Word) : withField w 0 64 (fieldOf v 0 64) = v := by
  apply BitVec.eq_of_getLsbD_eq
  intro i hi
  have h := withField_bit w 0 64 (fieldOf v 0 64) i
  rw [if_pos (by omega), fieldOf_bit] at h
  simpa [bitOf, hi] using h

/-- STICKY_EVT_EN holds the word written. -/
theorem mergedWord_evtEn {p : Nat} {b : Block} (hb : pageBlock p = some b) (hm : b ≠ .msix) (hpba : b ≠ .pba) (v : Word)
    (s : State) : mergedWord s p R.STICKY_EVT_EN v = v := by
  unfold mergedWord
  rw [regDef_header hb hm hpba (by decide)]
  exact withField_whole _ v

/-- What a plain write leaves rests on the register alone. -/
theorem mergedWord_of_reg {s t : State} {p off : Nat} (v : Word) (h : reg t p off = reg s p off) :
    mergedWord t p off v = mergedWord s p off v := by
  unfold mergedWord; rw [h]

/-! ## STICKY (R68) -/

/-- An accepted write of STICKY clears the bits written 1 in it and nothing else. -/
theorem busWrite_sticky {m p : Nat} {v : Word} {s : State} (hp : p < 0x400) (j : judge s m p R.STICKY 8 v = .ok) :
    busWrite m (regAddr p R.STICKY) 8 v s = setReg p R.STICKY (reg s p R.STICKY &&& ~~~v) (counted0 m s) := by
  obtain ⟨b, hb, hm, hpba⟩ := headed_of_judge_ok j hp
  rw [busWrite_header hb hm hpba (by decide) (by decide) (by decide) j]
  change setReg p R.STICKY (mergedWord (counted0 m s) p R.STICKY v) (counted0 m s) = _
  rw [mergedWord_sticky hb hm hpba, reg_counted0_header s (by decide)]

/-- What a register set after a request was counted leaves as it was before the request. -/
theorem changesOnly_setReg_counted0 {m p off : Nat} (w : Word) (s : State) (ho : off < 0x1000) :
    changesOnly [.regs, .wst] [p] s (setReg p off w (counted0 m s)) :=
  ((changesOnly_counted0 m s).mono (by decide) (by simp)).trans ((changesOnly_setReg w _ ho).mono (by decide) (by simp))

/-! ## STICKY_EVT_EN (R68) -/

/-- The pulses of enables that rise over set bits. -/
def pulseRises (p : Nat) (l : List Nat) (s : State) : State :=
  if pageEvents p = 0 then s else l.foldl (fun s k => evPulse 4 (pageFirstEvent p + k % pageEvents p) s) s

/-- What a pulse of one of the device's events keeps, the pulses of rising enables keep. -/
theorem PulseRel.pulseRises {P : State → State → Prop} (h : PulseRel P) (p : Nat) (l : List Nat) (s : State) :
    P s (Sys2Proof.Machine.pulseRises p l s) := by
  unfold Sys2Proof.Machine.pulseRises
  split
  · exact h.refl s
  · rename_i he
    induction l generalizing s with
    | nil => exact h.refl s
    | cons k l ih => exact h.trans (h.evPulse 4 _ s (pageEvent_lt p k he)) (ih _)

/-- The frame of pulses. -/
theorem changesOnly_rel : PulseRel (changesOnly [.regs, .out, .events] []) where
  refl := changesOnly.refl _ _
  trans := changesOnly.trans
  latch e s he := ⟨keeps_evLatch e s, sameRegs_evLatch e s he⟩
  enqueue a e s := ⟨keeps_mono (by decide) (keeps_evEnqueue a e s), sameRegs_of_eq (evEnqueue_stores a e s).1⟩
  rise b s := by
    refine ⟨keeps_mono (by decide) (keeps_stickyRise 0x3D2 b s), ?_⟩
    rw [stickyRise_fst]
    split
    · exact sameRegs_refl _ s
    · exact sameRegs_setReg_event _ s (by decide) (by decide)

/-- An accepted write of STICKY_EVT_EN stores the word and pulses what rises. -/
theorem busWrite_evtEn {m p : Nat} {v : Word} {s : State} (hp : p < 0x400) (j : judge s m p R.STICKY_EVT_EN 8 v = .ok) :
    ∃ l, busWrite m (regAddr p R.STICKY_EVT_EN) 8 v s = pulseRises p l (setReg p R.STICKY_EVT_EN v (counted0 m s)) := by
  obtain ⟨b, hb, hm, hpba⟩ := headed_of_judge_ok j hp
  rw [busWrite_header hb hm hpba (by decide) (by decide) (by decide) j]
  refine ⟨(List.range 64).filter (fun k => bitOf v k && !bitOf (reg (counted0 m s) p R.STICKY_EVT_EN) k &&
    bitOf (reg (counted0 m s) p R.STICKY) k), ?_⟩
  change writeEvtEn p v (counted0 m s) = _
  unfold writeEvtEn storePlain
  dsimp only
  rw [mergedWord_evtEn hb hm hpba]
  rfl

/-- An accepted write of STICKY_EVT_EN, seen from before it. -/
theorem busWrite_evtEn_spec {m p : Nat} {v : Word} {s : State} (hp : p < 0x400) (j : judge s m p R.STICKY_EVT_EN 8 v = .ok) :
    reg (busWrite m (regAddr p R.STICKY_EVT_EN) 8 v s) p R.STICKY_EVT_EN = v ∧
      (busWrite m (regAddr p R.STICKY_EVT_EN) 8 v s).wst = 0 ∧
      (¬ eventPage p → ∀ off, off < 0x1000 → off ≠ R.STICKY_EVT_EN →
        reg (busWrite m (regAddr p R.STICKY_EVT_EN) 8 v s) p off = reg s p off) ∧
      changesOnly [.regs, .out, .events, .wst] [p] s (busWrite m (regAddr p R.STICKY_EVT_EN) 8 v s) := by
  obtain ⟨l, hl⟩ := busWrite_evtEn hp j
  have hframe := changesOnly_rel.pulseRises p l (setReg p R.STICKY_EVT_EN v (counted0 m s))
  have hkeep : pulseKeeps p R.STICKY_EVT_EN (setReg p R.STICKY_EVT_EN v (counted0 m s))
      (pulseRises p l (setReg p R.STICKY_EVT_EN v (counted0 m s))) :=
    (pulseKeeps_rel (not_pulseReg_header hp (by decide) (by decide)) (by decide)).pulseRises p l _
  rw [hl]
  refine ⟨hkeep.trans (reg_setReg_self _ _ _ _), hframe.same .wst (by decide), fun he off ho hn => ?_, ?_⟩
  · rw [hframe.reg (by simp) he ho, reg_setReg_off v _ (by decide) ho hn]
    exact reg_counted0 s ho (.inl (fun h => he (h ▸ by decide)))
  · exact ((changesOnly_setReg_counted0 v s (by decide)).mono (by decide) (by simp)).trans (hframe.mono (by decide) (by simp))

end Sys2Proof.Machine
end

section
/-! PROOFS. Commands over a management port and their operations (R84 to R86). -/

namespace Sys2Proof.Machine

/-! ## A command arrives (R85) -/

/-- Without a command in execution on the port there is no operation to run. -/
theorem runCmd_idle {p : Nat} (n : Nat) {s : State} (h : sparseFind s.cmd.runs p = none) : runCmd p n s = s := by
  induction n with
  | zero => rfl
  | succ n ih =>
    have hop : nextOp p s = s := by unfold nextOp; rw [h]
    rw [runCmd, hop, ih]

/-- A command as it enters execution. -/
def enteredRun (bytes : List Byte) : CmdRun :=
  ⟨decide (byteField bytes 6 1 = 1), byteField bytes 40 1, byteField bytes 32 8, bytes,
    (List.range (cmdOps bytes)).map (fun k => cmdOp bytes k), [], []⟩

/-- The state with an accepted command in execution on a port. -/
def enterCmd (p : Nat) (bytes : List Byte) (s : State) : State :=
  { s with cmd := { lastSeq := some (byteField bytes 32 8),
                    runs := sparseInsert (sparseErase s.cmd.runs p) p (enteredRun bytes) } }

/-- A command on a live port: what runs there ends first, then the command is refused or enters. -/
theorem exec_command_live {p : Nat} {bytes : List Byte} {held : Bool} {s : State} (hp : p < 2)
    (hl : pageLive s (mgmtPage p) = true) :
    exec (.command p bytes held) s = .next
      (let d := evalDetector (mgmtPage p) S.ETH_CMD_REJECTED (!cmdAccepted (runCmd p 64 s) bytes) (runCmd p 64 s)
      if d.1 then setSticky (mgmtPage p) S.ETH_CMD_REJECTED d.2
      else if held then enterCmd p bytes d.2 else runCmd p 64 (enterCmd p bytes d.2)) := by
  change execCommand p bytes held s = _
  unfold execCommand
  rw [if_neg (by simp [hl]; omega)]
  dsimp only
  split <;> rfl

/-- A command that is accepted on a live port enters execution. -/
theorem exec_command_accepted {p : Nat} {bytes : List Byte} {held : Bool} {s : State} (hp : p < 2)
    (hl : pageLive s (mgmtPage p) = true) (ha : cmdAccepted (runCmd p 64 s) bytes = true)
    (hu : unarmed (runCmd p 64 s) (mgmtPage p)) :
    exec (.command p bytes held) s = .next
      (if held then enterCmd p bytes (runCmd p 64 s) else runCmd p 64 (enterCmd p bytes (runCmd p 64 s))) := by
  rw [exec_command_live hp hl, evalDetector_unarmed _ _ hu, ha]
  dsimp only [Bool.not_true]
  rw [if_neg (by decide)]

/-! ## The command of a port is what it was last set to -/

/-- The command in execution on a port replaced by what is left of it. -/
def setRun (p : Nat) (r : CmdRun) (s : State) : State :=
  { s with cmd := { s.cmd with runs := sparseInsert (sparseErase s.cmd.runs p) p r } }

theorem sparseFind_setRun (p : Nat) (r : CmdRun) (s : State) : sparseFind (setRun p r s).cmd.runs p = some r :=
  sparseFind_insert_self _ _ _ (sparseFind_erase_self _ _)

theorem changesOnly_setRun (p : Nat) (r : CmdRun) (s : State) : changesOnly [.cmd] [] s (setRun p r s) :=
  ⟨fun x hx => by cases x <;> simp_all [same, setRun], sameRegs_of_eq rfl⟩

/-! ## The next operation (R86) -/

/-- The operation in front of a command is run by the port's master; its status and value enter the command, which ends
with a refusal or with its last operation. -/
theorem nextOp_run {p : Nat} {s : State} {r r' : CmdRun} {o : CmdOp} {l : List CmdOp} (hr : sparseFind s.cmd.runs p = some r)
    (ho : r.rest = o :: l) (hr' : sparseFind (runCmdOp (3 + p) o s).2.2.cmd.runs p = some r') :
    nextOp p s =
      (let x := runCmdOp (3 + p) o s
      let t := setRun p { r' with rest := l, done := r'.done ++ [(x.1, x.2.1)] } x.2.2
      if x.1 ≠ 0 ∨ l = [] then finishCmd p t else t) := by
  unfold nextOp
  rw [hr]
  dsimp only
  rw [ho]
  dsimp only
  rw [hr']
  rfl

/-- The operation in front is run where it has the opcode asked for. -/
theorem stepCmd_front {p op : Nat} {s : State} {r : CmdRun} {o : CmdOp} {l : List CmdOp}
    (hr : sparseFind s.cmd.runs p = some r) (ho : r.rest = o :: l) (hop : o.op = op) : stepCmd p op s = nextOp p s := by
  unfold stepCmd
  rw [hr]
  simp [ho, hop]

/-! ## READ -/

/-- A read with an effect, where there is one, leaves the commands in execution. -/
def readKeepsCmd (s : State) (x : Option (Word × State)) : Prop := ∀ r, x = some r → r.2.cmd = s.cmd

theorem readKeepsCmd_none (s : State) : readKeepsCmd s none := fun r h => by simp at h

theorem readKeepsCmd_some {s : State} {r : Word × State} (h : r.2.cmd = s.cmd) : readKeepsCmd s (some r) :=
  fun x hx => by rw [← Option.some.inj hx, h]

theorem readKeepsCmd_ite {s : State} {c : Prop} [Decidable c] {x y : Option (Word × State)} (hx : readKeepsCmd s x)
    (hy : readKeepsCmd s y) : readKeepsCmd s (if c then x else y) := by
  split
  · exact hx
  · exact hy

theorem readKeepsCmd_readEffect (m : Nat) (b : Block) (p off : Nat) (s : State) :
    readKeepsCmd s (readEffect m b p off s) := by
  have hinc (p : Nat) (idx auto : FieldRef) : (autoInc p idx auto s).cmd = s.cmd := by unfold autoInc; split <;> rfl
  have hchs (n : Nat) : (chsWindowStep n s).cmd = s.cmd := by unfold chsWindowStep; dsimp only; split <;> rfl
  have hpop : (readWmPop s).2.cmd = s.cmd := by unfold readWmPop; split <;> rfl
  have hsub : (readTimeSub m s).2.cmd = s.cmd := by unfold readTimeSub; split <;> rfl
  have htrig : (popTrigIn s).2.cmd = s.cmd := by unfold popTrigIn; split <;> rfl
  have hmark : (popMarkDone s).2.cmd = s.cmd := by unfold popMarkDone; split <;> rfl
  have hevt (k : Nat) : (readEvtPop k s).2.cmd = s.cmd := by
    unfold readEvtPop
    split
    · rfl
    · dsimp only; split <;> rfl
  have hone {c : Prop} [Decidable c] {r : Word × State} (h : r.2.cmd = s.cmd) :
      readKeepsCmd s (if c then some r else none) := readKeepsCmd_ite (readKeepsCmd_some h) (readKeepsCmd_none s)
  unfold readEffect
  split
  case h_1 => exact readKeepsCmd_ite (readKeepsCmd_some (hinc _ _ _)) (hone (hinc _ _ _))
  case h_2 => exact hone rfl
  case h_3 => exact hone hpop
  case h_4 => exact readKeepsCmd_ite (readKeepsCmd_some rfl) (readKeepsCmd_ite (readKeepsCmd_some hsub) (hone htrig))
  case h_5 => exact hone hmark
  case h_6 => exact hone (hchs _)
  case h_7 => exact hone (hchs _)
  case h_8 => exact hone (hevt _)
  case h_9 => exact readKeepsCmd_none s

/-- No register's read touches the commands in execution. -/
theorem cmd_readReg (m p off : Nat) (s : State) : (readReg m p off s).2.cmd = s.cmd := by
  unfold readReg
  split
  · rfl
  · rename_i b _
    split
    · rfl
    · cases h : readEffect m b p off s with
      | none => rfl
      | some r => exact readKeepsCmd_readEffect m b p off s r h

/-- A READ of an aligned register of a page that is not gated is DONE with what the register reads. -/
theorem runCmdOp_read {p : Nat} {o : CmdOp} {s : State} (hop : o.op = 1) (ho : o.off < 0x1000) (ha : o.off % 8 = 0)
    (hg : pageGated s o.page = false) (hu : unarmed s 0x3F2) :
    runCmdOp (3 + p) o s = (0, (readReg (3 + p) o.page o.off s).1, (readReg (3 + p) o.page o.off s).2) := by
  have hal : accessFaults s o.page o.off 8 = false := by
    have haligned : accessAligned o.page o.off 8 = true := by unfold accessAligned; split <;> simp [ha]
    unfold accessFaults
    rw [haligned, armedNow_unarmed _ hu]
    rfl
  unfold runCmdOp busRead
  dsimp only
  rw [if_neg (by omega), if_pos hop, if_neg (Nat.not_le.mpr ho), countBar0_of_ne s (by omega), regAddr_div ho, regAddr_mod ho,
    hal]
  simp [hg]

/-- What a READ in front of a command completes with. -/
theorem exec_cmdRead {s : State} {p : Nat} {r : CmdRun} {o : CmdOp} {l : List CmdOp} (hr : sparseFind s.cmd.runs p = some r)
    (hrest : r.rest = o :: l) (hop : o.op = 1) (ho : o.off < 0x1000) (ha : o.off % 8 = 0)
    (hg : pageGated s o.page = false) (hu : unarmed s 0x3F2) :
    exec (.cmdRead p) s = .next
      (let t := setRun p { r with rest := l, done := r.done ++ [(0, (readReg (3 + p) o.page o.off s).1)] }
        (readReg (3 + p) o.page o.off s).2
      if l = [] then finishCmd p t else t) := by
  have hop' := runCmdOp_read (p := p) hop ho ha hg hu
  change Host.Outcome.next (stepCmd p 1 s) = _
  rw [stepCmd_front hr hrest hop, nextOp_run hr hrest (r' := r) (by rw [hop', cmd_readReg, hr]), hop']
  simp only [ne_eq, not_true_eq_false, false_or]

/-! ## WRITE and WRITE_MASKED -/

/-- The word an operation writes. -/
def opWord (s : State) (o : CmdOp) : Word := if o.op = 2 then o.value else maskedWord s o.page o.off o.mask o.value

/-- A WRITE or WRITE_MASKED is a write of the command path. -/
theorem runCmdOp_write {m : Nat} {o : CmdOp} {s : State} (hop : o.op ≠ 1) (ho : o.off < 0x1000) :
    runCmdOp m o s = ((busWrite m (regAddr o.page o.off) 8 (opWord s o) s).wst, 0,
      busWrite m (regAddr o.page o.off) 8 (opWord s o) s) := by
  unfold runCmdOp
  dsimp only
  rw [if_neg (by omega), if_neg hop, if_neg (Nat.not_le.mpr ho)]
  rfl

/-- A write in front of a command, not its last operation, that leaves status 0 and the command as it was. -/
theorem stepCmd_write {s : State} {p op : Nat} {r : CmdRun} {o : CmdOp} {l : List CmdOp}
    (hr : sparseFind s.cmd.runs p = some r) (hrest : r.rest = o :: l) (hl : l ≠ []) (hop : o.op = op) (h1 : op ≠ 1)
    (ho : o.off < 0x1000)
    (hrun : sparseFind (busWrite (3 + p) (regAddr o.page o.off) 8 (opWord s o) s).cmd.runs p = some r)
    (hwst : (busWrite (3 + p) (regAddr o.page o.off) 8 (opWord s o) s).wst = 0) :
    stepCmd p op s = setRun p { r with rest := l, done := r.done ++ [(0, 0)] }
      (busWrite (3 + p) (regAddr o.page o.off) 8 (opWord s o) s) := by
  have hop' := runCmdOp_write (m := 3 + p) (s := s) (o := o) (by omega) ho
  rw [stepCmd_front hr hrest hop, nextOp_run hr hrest (r' := r) (by rw [hop', hrun]), hop']
  simp [hwst, hl]

/-! ## A masked write keeps the bits outside its mask -/

theorem maskedWord_evtEn {p : Nat} {b : Block} (hb : pageBlock p = some b) (hm : b ≠ .msix) (hpba : b ≠ .pba)
    (mask v : Word) (s : State) :
    maskedWord s p R.STICKY_EVT_EN mask v = (v &&& mask) ||| (reg s p R.STICKY_EVT_EN &&& ~~~mask) := by
  have hstored : storedBits p R.STICKY_EVT_EN = BitVec.allOnes 64 := by
    unfold storedBits
    rw [regDef_header hb hm hpba (by decide)]
    exact (by decide : (0 : Word) ||| fieldMask 0 64 = BitVec.allOnes 64)
  have hpeek : peekReg s p R.STICKY_EVT_EN = reg s p R.STICKY_EVT_EN := by
    unfold peekReg
    rw [hb]
    dsimp only
    rw [if_neg (by simp [hm, hpba]), if_pos (by decide)]
    rfl
  unfold maskedWord
  rw [hstored, hpeek, BitVec.and_allOnes]

/-! ## The clauses -/

/-- A command that R85 does not accept. -/
theorem exec_command_rejected {p : Nat} {bytes : List Byte} {held : Bool} {s : State} (hp : p < 2)
    (hl : pageLive s (mgmtPage p) = true) (hi : sparseFind s.cmd.runs p = none) (ha : cmdAccepted s bytes = false) :
    exec (.command p bytes held) s = .next (setSticky (mgmtPage p) S.ETH_CMD_REJECTED
      (takeArmed (mgmtPage p) S.ETH_CMD_REJECTED s).2) := by
  rw [exec_command_live hp hl, runCmd_idle 64 hi, ha]
  exact congrArg Host.Outcome.next (if_pos rfl)

/-- A WRITE or WRITE_MASKED in front of a command, seen from the state its register's write leaves. -/
theorem opWrite_done {s u : State} {p op : Nat} {r : CmdRun} {o : CmdOp} {l : List CmdOp} {v : Word}
    (hr : sparseFind s.cmd.runs p = some r) (hrest : r.rest = o :: l) (hl : l ≠ []) (ho : o.off < 0x1000)
    (hop : o.op = op) (h1 : op ≠ 1) (hv : opWord s o = v) (hu : busWrite (3 + p) (regAddr o.page o.off) 8 v s = u)
    (hrun : sparseFind u.cmd.runs p = some r) (hwst : u.wst = 0) :
    stepCmd p op s = setRun p { r with rest := l, done := r.done ++ [(0, 0)] } u := by
  subst hv hu
  exact stepCmd_write hr hrest hl hop h1 ho hrun hwst

/-- Settles O11: an operation is a read or a write of the command path, and its status decides whether the next follows. -/
theorem commandOperations : Obligations.CommandOperations := by
  refine ⟨?_, ?_, ?_, ?_, ?_, ?_, ?_, ?_⟩
  · intro s p bytes held hp hl hi ha
    refine ⟨_, exec_command_rejected hp hl hi ha, stuck_setSticky _ _ _ (by decide), ?_⟩
    have hframe : changesOnly [.regs, .out, .events, .armed] [mgmtPage p] s (setSticky (mgmtPage p) S.ETH_CMD_REJECTED
        (takeArmed (mgmtPage p) S.ETH_CMD_REJECTED s).2) :=
      ((changesOnly_takeArmed _ _ s).mono (by decide) (by simp)).trans ((changesOnly_setSticky _ _ _).mono (by decide) (by simp))
    exact hframe
  · intro s p bytes hp hl hi ha hu
    have hidle := runCmd_idle 64 hi
    refine ⟨_, exec_command_accepted hp hl (by rw [hidle, ha]) (by rwa [hidle]), ?_⟩
    rw [if_pos rfl, hidle]
    refine ⟨rfl, fun x hx => by cases x <;> simp_all [same, enterCmd], fun q hq => ?_, ?_⟩
    · exact (sparseFind_insert_ne _ _ hq).trans (sparseFind_erase_ne _ hq)
    · exact sparseFind_insert_self _ _ _ (sparseFind_erase_self _ _)
  · intro s u p bytes hp hl ha hu hx
    rw [exec_command_accepted hp hl ha hu, if_pos rfl] at hx
    refine ⟨_, exec_command_accepted hp hl ha hu, ?_⟩
    rw [← Host.Outcome.next.inj hx, if_neg (by decide)]
  · intro s p r o l hr hrest hl hop ho ha _ hg hu
    refine ⟨_, exec_cmdRead hr hrest hop ho ha hg hu, ?_⟩
    dsimp only
    rw [if_neg hl]
    exact ⟨sparseFind_setRun _ _ _, (changesOnly_setRun _ _ _).1⟩
  · intro s p r o hr hrest hop ho ha _ hg hu
    refine ⟨_, exec_cmdRead hr hrest hop ho ha hg hu, _, if_pos rfl, (changesOnly_setRun _ _ _).1, ?_⟩
    exact sparseFind_setRun _ _ _
  · intro s u p r o l v hr hrest hl ho hv j hu hrun hwst
    have hbus : busWrite (3 + p) (regAddr o.page o.off) 8 v s = u := by
      rw [busWrite_ok (by rw [regAddr_div ho, regAddr_mod ho, j]), regAddr_div ho, regAddr_mod ho, hu]
    have hword : opWord s o = v := by
      unfold opWord
      rcases hv with ⟨h, rfl⟩ | ⟨h, rfl⟩ <;> simp [h]
    constructor
    · intro hop
      exact ⟨_, congrArg Host.Outcome.next (opWrite_done hr hrest hl ho hop (by decide) hword hbus hrun hwst),
        (changesOnly_setRun _ _ _).1, sparseFind_setRun _ _ _⟩
    · intro hop
      exact ⟨_, congrArg Host.Outcome.next (opWrite_done hr hrest hl ho hop (by decide) hword hbus hrun hwst),
        (changesOnly_setRun _ _ _).1, sparseFind_setRun _ _ _⟩
  · intro s p r o l hr hrest hl hop hoff hpage j
    have ho : o.off < 0x1000 := by rw [hoff]; decide
    rw [hoff] at j
    have hbus := busWrite_sticky hpage j
    rw [← hoff] at hbus
    have hframe := changesOnly_setReg_counted0 (m := 3 + p) (p := o.page) (off := o.off)
      (reg s o.page o.off &&& ~~~ o.value) s ho
    have hcmd := hframe.same .cmd (by decide)
    dsimp only [same] at hcmd
    have hset := changesOnly_setRun p { r with rest := l, done := r.done ++ [(0, 0)] }
      (setReg o.page o.off (reg s o.page o.off &&& ~~~ o.value) (counted0 (3 + p) s))
    refine ⟨_, congrArg Host.Outcome.next (opWrite_done hr hrest hl ho hop (by decide) (if_pos hop) hbus
      (by rw [hcmd, hr]) rfl), ?_, ⟨_, sparseFind_setRun _ _ _, rfl, rfl⟩, ?_⟩
    · rw [← hoff]
      exact (reg_congr (hset.same .regs (by decide)) _ _).trans (reg_setReg_self _ _ _ _)
    · exact (hframe.mono (by decide) (by simp)).trans (hset.mono (by decide) (by simp))
  · intro s p r o l hr hrest hl hop hoff hpage hev j
    have ho : o.off < 0x1000 := by rw [hoff]; decide
    rw [hoff] at j
    obtain ⟨b, hb, hm, hpba⟩ := headed_of_judge_ok j hpage
    obtain ⟨hreg, hwst, -, hframe⟩ := busWrite_evtEn_spec hpage j
    have hword : opWord s o = (o.value &&& o.mask) ||| (reg s o.page R.STICKY_EVT_EN &&& ~~~ o.mask) := by
      unfold opWord
      rw [if_neg (by omega), hoff, maskedWord_evtEn hb hm hpba]
    have hcmd := hframe.same .cmd (by decide)
    dsimp only [same] at hcmd
    have hset := changesOnly_setRun p { r with rest := l, done := r.done ++ [(0, 0)] }
      (busWrite (3 + p) (regAddr o.page R.STICKY_EVT_EN) 8
        ((o.value &&& o.mask) ||| (reg s o.page R.STICKY_EVT_EN &&& ~~~ o.mask)) s)
    refine ⟨_, congrArg Host.Outcome.next (opWrite_done hr hrest hl ho hop (by decide) hword (by rw [hoff])
      (by rw [hcmd, hr]) hwst), ?_, ⟨_, sparseFind_setRun _ _ _, rfl, rfl⟩, ?_⟩
    · exact (reg_congr (hset.same .regs (by decide)) _ _).trans hreg
    · exact (hframe.mono (by decide) (by simp)).trans (hset.mono (by decide) (by simp))

end Sys2Proof.Machine
end

section
/-! PROOFS. The commands of a page's header: PAGE_CTRL, SOFT_RESET, injection, and what a raised latch leaves (R70 to R76). -/

namespace Sys2Proof.Machine

/-! ## ENABLE and DEBUG (R71, R73) -/

/-- A one-bit field reads as the bit last written. -/
theorem flag_setFld_bool {p : Nat} {f : FieldRef} (on : Bool) (s : State) (h : f.lo + f.width ≤ 64) (hw : f.width = 1) :
    flag (setFld p f (if on then 1 else 0) s) p f = on := by
  unfold flag
  rw [fld_setFld_self p f _ s h, hw]
  cases on <;> rfl

/-- A write of a field leaves a flag of its register that it does not meet. -/
theorem flag_setFld_apart {p : Nat} {f g : FieldRef} (v : Nat) (s : State) (ho : f.off = g.off)
    (h : f.lo + f.width ≤ g.lo ∨ g.lo + g.width ≤ f.lo) : flag (setFld p f v s) p g = flag s p g := by
  unfold flag
  rw [fld_setFld_apart p f g v s ho h]

theorem setDebug_off {p : Nat} {s : State} (h : flag s p F.PAGE_CTRL_DEBUG = false) : setDebug p false s = s := by
  unfold setDebug; simp [h]

theorem setEnable_same {b : Block} {p : Nat} {on : Bool} {s : State} (h : flag s p F.PAGE_CTRL_ENABLE = on) :
    setEnable b p on s = s := if_pos h

theorem setEnable_changed {b : Block} {p : Nat} {on : Bool} {s : State} (h : flag s p F.PAGE_CTRL_ENABLE ≠ on) :
    setEnable b p on s = enableChanged b p on (setFld p F.PAGE_CTRL_ENABLE (if on then 1 else 0) s) := if_neg h

/-- The blocks for which R71 lists nothing that follows a change of ENABLE. -/
theorem enableChanged_idle {b : Block} (h : b ∈ [Block.pkg, .die, .fpl, .sch, .hbm, .hpc, .xbr, .dma, .rng, .tbs, .mrk, .fldg, .stw,
    .ref, .evt, .evt1, .evt2, .evt4, .hwd, .ldg, .pwr, .clt, .pci]) (p : Nat) (on : Bool) (s : State) :
    enableChanged b p on s = s := by
  fin_cases h <;> rfl

/-- Where nothing follows a change of ENABLE, it is the bit of PAGE_CTRL alone. -/
theorem setEnable_idle_spec {b : Block} {p : Nat} {on : Bool} (h : ∀ s, enableChanged b p on s = s) (s : State) :
    flag (setEnable b p on s) p F.PAGE_CTRL_ENABLE = on ∧
      flag (setEnable b p on s) p F.PAGE_CTRL_DEBUG = flag s p F.PAGE_CTRL_DEBUG ∧
      (∀ off, off < 0x1000 → off ≠ R.PAGE_CTRL → reg (setEnable b p on s) p off = reg s p off) ∧
      changesOnly [.regs] [p] s (setEnable b p on s) := by
  by_cases he : flag s p F.PAGE_CTRL_ENABLE = on
  · rw [setEnable_same he]
    exact ⟨he, rfl, fun _ _ _ => rfl, changesOnly.refl _ _ s⟩
  · rw [setEnable_changed he, h]
    exact ⟨flag_setFld_bool on s (by decide) rfl, flag_setFld_apart _ s rfl (by decide),
      fun off ho hn => reg_setReg_off _ s (by decide) ho hn, changesOnly_setFld _ s (by decide)⟩

/-! ## A write of PAGE_CTRL (R70 to R73) -/

theorem debugAllowed_counted0 (m : Nat) (s : State) : debugAllowed (counted0 m s) = debugAllowed s := by
  unfold debugAllowed
  rw [(changesOnly_counted0 m s).same .hwd (by decide)]

theorem writePageCtrl_allowed {b : Block} {p : Nat} {v : Word} {s : State} (h : bitOf v 2 = true → debugAllowed s = true) :
    writePageCtrl b p v s = if bitOf v 1 then softReset b p (setDebug p (bitOf v 2) s)
      else setEnable b p (bitOf v 0) (setDebug p (bitOf v 2) s) := by
  unfold writePageCtrl
  rw [if_neg]
  cases hv : bitOf v 2 <;> simp_all

theorem writePageCtrl_refused {b : Block} {p : Nat} {v : Word} {s : State} (hv : bitOf v 2 = true)
    (hd : debugAllowed s = false) : writePageCtrl b p v s = refuseBit p S.LOCK_REFUSED s := by
  unfold writePageCtrl
  rw [if_pos (by simp [hv, hd])]

theorem busWrite_pageCtrl {m p : Nat} {b : Block} {v : Word} {s : State} (hb : pageBlock p = some b) (hm : b ≠ .msix)
    (hpba : b ≠ .pba) (j : judge s m p R.PAGE_CTRL 8 v = .ok) :
    busWrite m (regAddr p R.PAGE_CTRL) 8 v s = writePageCtrl b p v (counted0 m s) := by
  rw [busWrite_header hb hm hpba (by decide) (by decide) (by decide) j]
  rfl

/-- A write of PAGE_CTRL without SOFT_RESET and DEBUG gives ENABLE its bit. -/
theorem busWrite_enable {m p : Nat} {b : Block} {v : Word} {s : State} (hb : pageBlock p = some b) (hm : b ≠ .msix)
    (hpba : b ≠ .pba) (j : judge s m p R.PAGE_CTRL 8 v = .ok) (h1 : bitOf v 1 = false) (h2 : bitOf v 2 = false)
    (hd : flag s p F.PAGE_CTRL_DEBUG = false) :
    busWrite m (regAddr p R.PAGE_CTRL) 8 v s = setEnable b p (bitOf v 0) (counted0 m s) := by
  rw [busWrite_pageCtrl hb hm hpba j, writePageCtrl_allowed (by simp [h2]), h1, h2,
    setDebug_off (by rw [flag_counted0_header s (by decide), hd])]
  rfl

/-- A write of PAGE_CTRL with SOFT_RESET and without DEBUG resets the block. -/
theorem busWrite_softReset {m p : Nat} {b : Block} {v : Word} {s : State} (hb : pageBlock p = some b) (hm : b ≠ .msix)
    (hpba : b ≠ .pba) (j : judge s m p R.PAGE_CTRL 8 (v ||| 2#64) = .ok) (h2 : bitOf v 2 = false)
    (hd : flag s p F.PAGE_CTRL_DEBUG = false) :
    busWrite m (regAddr p R.PAGE_CTRL) 8 (v ||| 2#64) s = softReset b p (counted0 m s) := by
  have hreset : bitOf (v ||| 2#64) 1 = true := by simp [bitOf]
  have hdebug : bitOf (v ||| 2#64) 2 = false := by simpa [bitOf] using h2
  rw [busWrite_pageCtrl hb hm hpba j, writePageCtrl_allowed (by simp [hdebug]), hreset, hdebug,
    setDebug_off (by rw [flag_counted0_header s (by decide), hd])]
  rfl

/-- The rows that write PAGE_CTRL are writes of it. -/
theorem exec_pageCtrl_row {m p : Nat} {v x : Word} {c : Instr} (s : State)
    (h : (c, x) ∈ [(Instr.pageEnable m p v, v), (.pageDebug m p v, v ||| 4#64), (.softReset m p v, v ||| 2#64)]) :
    exec c s = .next (busWrite m (regAddr p R.PAGE_CTRL) 8 x s) := by
  simp only [List.mem_cons, Prod.mk.injEq, List.not_mem_nil, or_false] at h
  obtain ⟨rfl, rfl⟩ | ⟨rfl, rfl⟩ | ⟨rfl, rfl⟩ := h <;> rfl

/-- The rows of the header are writes of their registers. -/
theorem exec_header_row {m p off : Nat} {v x : Word} {c : Instr} (s : State)
    (h : (c, off, x) ∈ [(Instr.pageEnable m p v, R.PAGE_CTRL, v), (.pageDebug m p v, R.PAGE_CTRL, v ||| 4#64),
      (.softReset m p v, R.PAGE_CTRL, v ||| 2#64), (.inject m p v, R.INJECT, v), (.disarm m p v, R.INJECT_MODE, v ||| 4#64),
      (.stickyEvtEn m p v, R.STICKY_EVT_EN, v)]) :
    exec c s = .next (busWrite m (regAddr p off) 8 x s) := by
  simp only [List.mem_cons, Prod.mk.injEq, List.not_mem_nil, or_false] at h
  obtain ⟨rfl, rfl, rfl⟩ | ⟨rfl, rfl, rfl⟩ | ⟨rfl, rfl, rfl⟩ | ⟨rfl, rfl, rfl⟩ | ⟨rfl, rfl, rfl⟩ | ⟨rfl, rfl, rfl⟩ := h <;> rfl

/-! ## SOFT_RESET (R72, R399) -/

theorem armedRef_counted0 (m : Nat) (s : State) : armedRef (counted0 m s) = armedRef s :=
  flag_of_reg (reg_counted0 s (by decide) (.inl (by decide)))

theorem softReset_unarmed {b : Block} {p : Nat} {s : State} (h : ¬ (b = .ref ∧ armedRef s = true)) :
    softReset b p s = softControl b p (softData b p (setEnable b p false s)) := if_neg h

theorem softReset_armedRef {p : Nat} {s : State} (h : armedRef s = true) : softReset .ref p s = refuseCfg p s :=
  if_pos ⟨rfl, h⟩

/-- The blocks whose soft reset is no more than ENABLE. -/
theorem softReset_idle {b : Block} (h : b ∈ [Block.pkg, .die, .evt1, .evt2, .evt4]) (p : Nat) (s : State) :
    softReset b p s = setEnable b p false s := by
  fin_cases h <;> exact softReset_unarmed (by simp)

theorem changesOnly_resetRegs {p off n : Nat} (s : State) (h : off + 8 * n ≤ 0x1000) :
    changesOnly [.regs] [p] s (resetRegs p off n s) := by
  refine ⟨fun x hx => by cases x <;> simp_all [same], fun q o hq _ ho => ?_⟩
  rw [reg_resetRegs, if_neg]
  have hne : q ≠ p := by simpa using hq
  unfold regAddr
  omega

/-- The block registers of a page read as after reset, its header as before. -/
theorem reg_resetBlockRegs (p off : Nat) (s : State) (ho : off < 0x1000) :
    reg (resetBlockRegs p s) p off = if 0x100 ≤ off then regReset (regAddr p off) else reg s p off := by
  unfold resetBlockRegs
  rw [reg_resetRegs]
  have hrange : (regAddr p 0x100 ≤ regAddr p off ∧ regAddr p off < regAddr p 0x100 + 8 * 480) ↔ 0x100 ≤ off := by
    unfold regAddr; omega
  simp only [hrange]

/-- A soft reset that returns the registers of its page to reset, after a change `g` of HBM's own part alone. -/
theorem softReset_registers {b : Block} {p : Nat} (h : b ∈ [Block.xbr, .hpc, .pci]) (s : State) :
    ∃ u, softReset b p s = resetBlockRegs p u ∧ changesOnly [.hbm] [] (setEnable b p false s) u ∧
      u.regs = (setEnable b p false s).regs := by
  fin_cases h
  · exact ⟨_, softReset_unarmed (by simp), ⟨fun x hx => by cases x <;> simp_all [same], sameRegs_of_eq rfl⟩, rfl⟩
  · exact ⟨_, softReset_unarmed (by simp), ⟨fun x hx => by cases x <;> simp_all [same, resetPc], sameRegs_of_eq rfl⟩, rfl⟩
  · exact ⟨_, softReset_unarmed (by simp), changesOnly.refl _ _ _, rfl⟩

/-! ## What a raised latch leaves (R78, R79, R270) -/

/-- The status of the write, what is armed in a page, and a register of it are as they were. -/
def pageKept (p off : Nat) (s t : State) : Prop :=
  t.wst = s.wst ∧ (∀ a : Armed, a.page = p → (a ∈ t.armed ↔ a ∈ s.armed)) ∧ reg t p off = reg s p off

theorem pageKept.refl (p off : Nat) (s : State) : pageKept p off s s := ⟨rfl, fun _ _ => Iff.rfl, rfl⟩

theorem pageKept.trans {p off : Nat} {s t u : State} (h : pageKept p off s t) (k : pageKept p off t u) : pageKept p off s u :=
  ⟨k.1.trans h.1, fun a ha => (k.2.1 a ha).trans (h.2.1 a ha), k.2.2.trans h.2.2⟩

theorem pageKept_of_eq {p off : Nat} {s t : State} (hw : t.wst = s.wst) (ha : t.armed = s.armed)
    (hr : reg t p off = reg s p off) : pageKept p off s t := ⟨hw, fun _ _ => by rw [ha], hr⟩

theorem pageKept_foldl {α : Type} {p off : Nat} {f : State → α → State} (h : ∀ s a, pageKept p off s (f s a)) (l : List α)
    (s : State) : pageKept p off s (l.foldl f s) := by
  induction l generalizing s with
  | nil => exact pageKept.refl p off s
  | cons a l ih => exact (h s a).trans (ih _)

theorem pageKept_setReg {p off q o : Nat} (w : Word) (s : State) (ho : off < 0x1000) (ho' : o < 0x1000) (h : p ≠ q ∨ off ≠ o) :
    pageKept p off s (setReg q o w s) := pageKept_of_eq rfl rfl (reg_setReg_ne w s (regAddr_ne ho ho' h))

theorem pageKept_setSticky {p off q b : Nat} (s : State) (hp : p < 0x400) (ho : off < 0x100) (hn : off ≠ R.STICKY) :
    pageKept p off s (setSticky q b s) :=
  pageKept_of_eq (keeps_setSticky q b s .wst (by decide)) (keeps_setSticky q b s .armed (by decide))
    (reg_setSticky_header s hp ho hn)

theorem pageKept_takeArmed {p off q : Nat} (b : Nat) (s : State) (h : p ≠ q) : pageKept p off s (takeArmed q b s).2 := by
  have hframe := keeps_takeArmed q b s
  refine ⟨hframe .wst (by decide), fun a ha => ?_, reg_congr (hframe .regs (by decide)) _ _⟩
  have hne : a.page ≠ q := by omega
  unfold takeArmed
  split
  · exact Iff.rfl
  · rename_i x hx
    have hxq : x.page = q := by have := List.find?_some hx; simp at this; exact this.1
    dsimp only
    split
    · simp [hne]
    · exact Iff.rfl
    · split_ifs
      · simp [hne]
      · simp [hne]
      · have : a ≠ { x with left := x.left - 1 } := fun h => hne (by rw [h]; exact hxq)
        simp [this, hne]

theorem pageKept_suspendLine {p off : Nat} (hp : p < 0x400) (ho : off < 0x100) (hs : off ≠ R.STICKY) (g i : Nat)
    (hi : i < 16) (s : State) : pageKept p off s (suspendLine g i s) := by
  unfold suspendLine
  dsimp only
  split
  · split
    · refine pageKept.trans (pageKept.trans ?_ (pageKept_setReg (p := p) (off := off) _ _ (by omega) ?_ (.inr ?_)))
        (pageKept_setSticky _ hp ho hs)
      · exact pageKept_of_eq rfl rfl rfl
      · simp only [R.GGE_LINE]; omega
      · simp only [R.GGE_LINE]; omega
    · exact pageKept.refl p off s
  · exact pageKept.refl p off s

theorem pageKept_suspendLines {p off : Nat} (hp : p < 0x400) (ho : off < 0x100) (hs : off ≠ R.STICKY) (s : State) : pageKept p off s (suspendLines s) := by
  unfold suspendLines
  refine pageKept_foldl (fun s k => ?_) _ s
  split
  · exact pageKept.refl p off s
  · exact pageKept_suspendLine hp ho hs _ _ (Nat.mod_lt _ (by decide)) s

theorem pageKept_sharedJudge {p off : Nat} (hp : p < 0x400) (hz : p ≠ 0x320) (ho : off < 0x100) (hs : off ≠ R.STICKY)
    (i : Nat) (s : State) (hi : i < 16) : pageKept p off s (sharedJudge i s) := by
  unfold sharedJudge
  dsimp only
  split
  · exact pageKept.refl p off s
  · have hsticky (c : Bool) (s : State) : pageKept p off s (stickyIf c 0x320 S.ZHK_SHARED_TIE s) := by
      cases c
      · exact pageKept.refl p off s
      · exact pageKept_setSticky s hp ho hs
    refine pageKept.trans (pageKept.trans (pageKept.trans (pageKept_takeArmed S.ZHK_SHARED_TIE s hz) ?_)
      (pageKept_setReg _ _ (by omega) (by simp only [R.ZHK_SHARED]; omega) (.inl hz))) (hsticky _ _)
    exact pageKept_of_eq rfl rfl rfl

theorem pageKept_zhkSend (p off : Nat) (k : ZhkPacket) (s : State) : pageKept p off s (zhkSend k s) := by
  have htry (t : State) (h : zhkTry k s = some t) : pageKept p off s t := by
    unfold zhkTry at h
    split at h
    · simp at h
    · dsimp only at h
      split at h
      · simp at h
      · rw [← Option.some.inj h]
        exact pageKept_of_eq rfl rfl rfl
  unfold zhkSend
  dsimp only
  split
  · exact pageKept_of_eq rfl rfl rfl
  · cases h : zhkTry k s with
    | none => exact pageKept_of_eq rfl rfl rfl
    | some t => exact htry t h

theorem pageKept_reportClaims (p off : Nat) (s : State) : pageKept p off s (reportClaims s) := by
  unfold reportClaims
  dsimp only
  split
  · exact pageKept.refl p off s
  · exact pageKept_foldl (fun s _ => pageKept_zhkSend p off _ s) _ s

/-- A raised latch keeps the header of its page but STICKY and CLAIM, and what is armed there. -/
theorem pageKept_raiseLatch {p off : Nat} (hp : p < 0x400) (hz : p ≠ 0x320) (ho : off < 0x100) (hs : off ≠ R.STICKY)
    (hc : off ≠ R.CLAIM) (claim : Nat) (s : State) : pageKept p off s (raiseLatch p claim s) := by
  have hshared (s : State) : pageKept p off s (sharedRefresh s) := by
    unfold sharedRefresh
    split
    · refine List.foldlRecOn (motive := pageKept p off s) _ _ (pageKept.refl p off s) (fun t ht i hi => ?_)
      exact ht.trans (pageKept_sharedJudge hp hz ho hs i t (List.mem_range.mp hi))
    · exact pageKept.refl p off s
  unfold raiseLatch claimChanged
  split
  · have hline := (pageKept_setReg (q := p) (o := R.CLAIM) (withField (reg s p R.CLAIM) 0 16 claim) s (by omega) (by decide)
      (.inr hc)).trans (pageKept_suspendLines hp ho hs (setFld p F.CLAIM_LATCHED claim s))
    split
    · exact (hline.trans (pageKept_reportClaims p off _)).trans (hshared _)
    · exact hline
  · exact pageKept.refl p off s

/-! ## INJECT and INJECT_MODE up to the latch (R75, R78) -/

/-- What an accepted write of INJECT or INJECT_MODE leaves of its page is what its act leaves. -/
theorem pageKept_busWrite_inject {m p off q : Nat} {b : Block} {v : Word} {s : State} (hb : pageBlock p = some b)
    (hm : b ≠ .msix) (hpba : b ≠ .pba) (ho : off = R.INJECT ∨ off = R.INJECT_MODE) (j : judge s m p off 8 v = .ok)
    (hq : q < 0x100) (hs : q ≠ R.STICKY) (hc : q ≠ R.CLAIM) :
    pageKept p q (writeHeader b p off v (counted0 m s)) (busWrite m (regAddr p off) 8 v s) := by
  rw [busWrite_inject hb hm hpba ho j]
  split
  · rename_i hg
    obtain ⟨b', hb', hguard⟩ := guarded_inject ho (by simp at hg; exact hg.1)
    obtain rfl : b = b' := Option.some.inj (hb.symm.trans hb')
    refine pageKept_raiseLatch ((pageBlock_msix_iff hb).mpr ⟨hm, hpba⟩) (fun hz => ?_) hq hs hc _ _
    rw [hz] at hb
    obtain rfl : Block.zhk = b := Option.some.inj hb
    exact absurd hguard (by decide)
  · exact pageKept.refl p q _

/-- A write of INJECT or INJECT_MODE whose claim raises no latch is its act alone. -/
theorem busWrite_inject_low {m p off : Nat} {b : Block} {v : Word} {s : State} (hb : pageBlock p = some b)
    (hm : b ≠ .msix) (hpba : b ≠ .pba) (ho : off = R.INJECT ∨ off = R.INJECT_MODE) (j : judge s m p off 8 v = .ok)
    (hlow : regGuarded p off = true → masterClaim s m ≤ latched s p)
    (hclaim : reg (writeHeader b p off v (counted0 m s)) p R.CLAIM = reg s p R.CLAIM) :
    busWrite m (regAddr p off) 8 v s = writeHeader b p off v (counted0 m s) := by
  rw [busWrite_inject hb hm hpba ho j]
  split
  · rename_i hg
    have hle := hlow (by simp at hg; exact hg.1)
    have hlatched : latched (writeHeader b p off v (counted0 m s)) p = latched s p := fld_of_reg (f := F.CLAIM_LATCHED) hclaim
    unfold raiseLatch
    rw [if_neg (by omega)]
  · rfl

/-! ## INJECT (R75) -/

/-- What a detector of a page is armed with. -/
def injected (s : State) (p k : Nat) : Armed :=
  ⟨p, k, if fld s p F.INJECT_MODE_MODE = 0 then .once else if fld s p F.INJECT_MODE_MODE = 1 then .persistent else .count,
    fld s p F.INJECT_MODE_COUNT⟩

/-- What is armed after a detector of a page is: the others, and it unless COUNT is 0 where it counts. -/
theorem armed_armDetector (p k : Nat) (s : State) :
    (armDetector p k s).armed =
      if (injected s p k).mode = .count ∧ (injected s p k).left = 0 then
        s.armed.filter (fun a => !decide (a.page = p ∧ a.bit = k))
      else injected s p k :: s.armed.filter (fun a => !decide (a.page = p ∧ a.bit = k)) := rfl

/-- Detectors armed one after another. -/
def armAll (p : Nat) (l : List Nat) (s : State) : State := l.foldl (fun s k => armDetector p k s) s

theorem armAll_frame (p : Nat) (l : List Nat) (s : State) : changesOnly [.armed] [] s (armAll p l s) ∧
    (armAll p l s).regs = s.regs ∧ ∀ a : Armed, a.page ≠ p → (a ∈ (armAll p l s).armed ↔ a ∈ s.armed) := by
  have hone (k : Nat) (s : State) : changesOnly [.armed] [] s (armDetector p k s) :=
    ⟨fun x hx => by cases x <;> simp_all [same, armDetector], sameRegs_of_eq rfl⟩
  have harm (k : Nat) (s : State) (a : Armed) (ha : a.page ≠ p) : a ∈ (armDetector p k s).armed ↔ a ∈ s.armed := by
    rw [armed_armDetector]
    split
    · simp [ha]
    · have hne : a ≠ injected s p k := fun h => ha (by rw [h]; rfl)
      simp [ha, hne]
  induction l generalizing s with
  | nil => exact ⟨changesOnly.refl _ _ s, rfl, fun _ _ => Iff.rfl⟩
  | cons k l ih =>
    obtain ⟨hc, hr, ha⟩ := ih (armDetector p k s)
    exact ⟨(hone k s).trans hc, hr, fun a h => (ha a h).trans (harm k s a h)⟩

/-- A detector among those armed is armed afterwards, COUNT of 0 apart. -/
theorem mem_armAll {p k : Nat} {l : List Nat} {s : State} (hfire : ¬ ((injected s p k).mode = .count ∧ (injected s p k).left = 0))
    (h : k ∈ l ∨ injected s p k ∈ s.armed) : injected s p k ∈ (armAll p l s).armed := by
  induction l generalizing s with
  | nil => simpa [armAll] using h
  | cons j l ih =>
    have hinj : injected (armDetector p j s) p k = injected s p k := rfl
    have hnext := ih (s := armDetector p j s) (by rwa [hinj])
    rw [hinj] at hnext
    refine hnext ?_
    by_cases hj : j = k
    · subst hj
      right
      rw [armed_armDetector, if_neg hfire]
      exact List.mem_cons_self
    · rcases h with h | h
      · left
        rcases List.mem_cons.mp h with rfl | h
        · exact absurd rfl hj
        · exact h
      · right
        have hrest : injected s p k ∈ s.armed.filter (fun a => !decide (a.page = p ∧ a.bit = j)) := by
          refine List.mem_filter.mpr ⟨h, ?_⟩
          have : (injected s p k).bit ≠ j := fun h => hj h.symm
          simp [this]
        rw [armed_armDetector]
        split
        · exact hrest
        · exact List.mem_cons_of_mem _ hrest

/-- The act of INJECT. -/
theorem writeHeader_inject (b : Block) (p : Nat) (v : Word) (s : State) :
    writeHeader b p R.INJECT v s = armAll p ((pageDetectors b).filter (fun k => bitOf v k)) s := rfl

/-- No detector of a page stays armed. -/
def disarmPage (p : Nat) (s : State) : State := { s with armed := s.armed.filter (fun a => decide (a.page ≠ p)) }

theorem changesOnly_disarmPage (p : Nat) (s : State) : changesOnly [.armed] [] s (disarmPage p s) :=
  ⟨fun x hx => by cases x <;> simp_all [same, disarmPage], sameRegs_of_eq rfl⟩

theorem mem_disarmPage {p : Nat} {a : Armed} {s : State} : a ∈ (disarmPage p s).armed ↔ a ∈ s.armed ∧ a.page ≠ p := by
  simp [disarmPage]

/-- The act of INJECT_MODE with DISARM. -/
theorem writeHeader_disarm (b : Block) (p : Nat) {v : Word} (s : State) (hv : bitOf v 2 = true) :
    writeHeader b p R.INJECT_MODE v s =
      setReg p R.INJECT_MODE (mergedWord s p R.INJECT_MODE v) (disarmPage p s) := by
  change writeInjectMode p v s = _
  unfold writeInjectMode
  rw [hv]
  rfl

/-! ## INJECT_FIRE (R75, R76) -/

/-- An armed detector without an evaluation of its own, in a page that is not gated, is evaluated at INJECT_FIRE. -/
theorem exec_injectFire_point {p k : Nat} {b : Block} {s : State} (hb : pageBlock p = some b) (ho : ownPoint b k = false)
    (hg : pageGated s p = false) :
    exec (.injectFire p k) s = .next (if armedNow s p k then
        (if countsRetry b k then (countRetry p (setSticky p k (takeArmed p k s).2)).1 else setSticky p k (takeArmed p k s).2)
      else (takeArmed p k s).2) := by
  change execInjectFire p k s = _
  unfold execInjectFire
  rw [hb]
  dsimp only
  rw [ho, hg, if_neg (by decide)]
  unfold armedNow
  split <;> rfl

/-- A detector evaluated elsewhere, or of a gated page, does nothing at INJECT_FIRE. -/
theorem exec_injectFire_elsewhere {p k : Nat} {b : Block} {s : State} (hb : pageBlock p = some b)
    (h : (ownPoint b k || pageGated s p) = true) : exec (.injectFire p k) s = .next s := by
  change execInjectFire p k s = _
  unfold execInjectFire
  rw [hb]
  dsimp only
  rw [if_pos h]

/-- A saturating count of a field is stored whole. -/
theorem fld_countFld {p : Nat} {f : FieldRef} (n : Nat) (s : State) (h : f.lo + f.width ≤ 64) :
    fld (countFld p f n s) p f = satAdd f.width (fld s p f) n := by
  have hlt : satAdd f.width (fld s p f) n < 2 ^ f.width := by
    have := Nat.two_pow_pos f.width
    unfold satAdd
    omega
  unfold countFld
  rw [fld_setFld_self _ _ _ _ h, Nat.mod_eq_of_lt hlt]

/-- A counted retry event: the time enters the window, TOTAL counts, and no sticky bit is lost. -/
theorem countRetry_spec {p : Nat} (hp : p < 0x400) (s : State) :
    devTime s ∈ alGet [] (countRetry p s).1.retry p ∧
      fld (countRetry p s).1 p F.RETRY_COUNT_TOTAL = satAdd F.RETRY_COUNT_TOTAL.width (fld s p F.RETRY_COUNT_TOTAL) 1 ∧
      keepsSticky s (countRetry p s).1 ∧ changesOnly [.regs, .out, .events, .retry] [p] s (countRetry p s).1 := by
  obtain ⟨l, w, hl, hcount⟩ : ∃ l w, devTime s ∈ l ∧
      ((countRetry p s).1 = setSticky p S.PERMANENT (countFld p F.RETRY_COUNT_TOTAL 1
          { s with retry := alSet [] s.retry p l, retryWin := ntSet s.retryWin p w }) ∨
        (countRetry p s).1 = countFld p F.RETRY_COUNT_TOTAL 1
          { s with retry := alSet [] s.retry p l, retryWin := ntSet s.retryWin p w }) := by
    refine ⟨withinMs s (fieldOf (reg s p R.RETRY_CFG) 0 32) (retryInWindow s p) ++ [devTime s],
      fieldOf (reg s p R.RETRY_CFG) 0 32, by simp, ?_⟩
    unfold countRetry
    dsimp only
    split
    · exact .inl rfl
    · exact .inr rfl
  generalize hu : { s with retry := alSet [] s.retry p l, retryWin := ntSet s.retryWin p w } = u at hcount
  have hur : u.regs = s.regs := by rw [← hu]
  have hframe : changesOnly [.regs, .out, .events, .retry] [p] s (countFld p F.RETRY_COUNT_TOTAL 1 u) := by
    refine changesOnly.trans (t := u) ⟨fun x hx => ?_, sameRegs_of_eq hur⟩
      ((changesOnly_setFld _ u (by decide)).mono (by decide) (by simp))
    subst hu
    cases x <;> simp_all [same]
  have htotal : fld (countFld p F.RETRY_COUNT_TOTAL 1 u) p F.RETRY_COUNT_TOTAL =
      satAdd F.RETRY_COUNT_TOTAL.width (fld s p F.RETRY_COUNT_TOTAL) 1 := by
    rw [fld_countFld 1 u (by decide), fld_of_reg (reg_congr hur _ _)]
  have hretry : alGet [] (countFld p F.RETRY_COUNT_TOTAL 1 u).retry p = l := by
    rw [show (countFld p F.RETRY_COUNT_TOTAL 1 u).retry = alSet [] s.retry p l by rw [← hu]; rfl]
    exact sparseGet_set_self _ _ _ _
  have hsticky : keepsSticky s (countFld p F.RETRY_COUNT_TOTAL 1 u) := by
    intro q b hb
    dsimp only [stuck] at hb ⊢
    rw [countFld, setFld, reg_setReg_ne _ _ (regAddr_ne (by decide) (by decide) (.inr (by decide))), reg_congr hur]
    exact hb
  rcases hcount with h | h <;> rw [h]
  · refine ⟨?_, ?_, hsticky.trans (keepsSticky_setSticky p _ _), hframe.trans ((changesOnly_setSticky p _ _).mono (by decide) (by simp))⟩
    · rw [show (setSticky p S.PERMANENT (countFld p F.RETRY_COUNT_TOTAL 1 u)).retry = _ from
        (keeps_setSticky p S.PERMANENT _ .retry (by decide)).1, hretry]
      exact hl
    · rw [fld_of_reg (reg_setSticky_header _ hp (by decide) (by decide)), htotal]
  · exact ⟨by rw [hretry]; exact hl, htotal, hsticky, hframe⟩

end Sys2Proof.Machine
end

section
/-! PROOFS. What accepted writes by REGISTER_WRITE and to the header registers do (R63, R68, R70 to R76, R399). -/

namespace Sys2Proof.Machine

/-! ## The effect of a register seen from before its write -/

/-- A soft reset of a block that changes no more than ENABLE, or the registers with it, starts from a clear ENABLE. -/
theorem enableChanged_reset_idle {b : Block} (h : b ∈ [Block.pkg, .die, .evt1, .evt2, .evt4] ∨ b ∈ [Block.xbr, .hpc, .pci])
    (p : Nat) (on : Bool) (s : State) : enableChanged b p on s = s := by
  rcases h with h | h <;> fin_cases h <;> rfl

/-- Each of these blocks has a header. -/
theorem headed_of_mem {b : Block} {l : List Block} (h : b ∈ l) (hm : Block.msix ∉ l) (hp : Block.pba ∉ l) :
    b ≠ .msix ∧ b ≠ .pba := ⟨fun e => hm (e ▸ h), fun e => hp (e ▸ h)⟩

/-- ENABLE written in the counted state of a block that does nothing more. -/
theorem setEnable_counted_spec {b : Block} {m p : Nat} {on : Bool} (h : ∀ s, enableChanged b p on s = s) (s : State) :
    flag (setEnable b p on (counted0 m s)) p F.PAGE_CTRL_ENABLE = on ∧
      flag (setEnable b p on (counted0 m s)) p F.PAGE_CTRL_DEBUG = flag s p F.PAGE_CTRL_DEBUG ∧
      (setEnable b p on (counted0 m s)).wst = 0 ∧ changesOnly [.regs, .wst] [p] s (setEnable b p on (counted0 m s)) := by
  obtain ⟨he, hd, -, hc⟩ := setEnable_idle_spec (on := on) h (counted0 m s)
  refine ⟨he, hd.trans (flag_counted0_header s (by decide)), hc.same .wst (by decide), ?_⟩
  exact ((changesOnly_counted0 m s).mono (by decide) (by simp)).trans (hc.mono (by decide) (by simp))

/-- PAGE_DEBUG where no unlock allows it: LOCK_REFUSED, and PAGE_CTRL as it was. -/
theorem busWrite_debug_refused {m p : Nat} {v : Word} {s : State} (hp : p < 0x400)
    (j : judge s m p R.PAGE_CTRL 8 (v ||| 4#64) = .ok) (hd : debugAllowed s = false) :
    busWrite m (regAddr p R.PAGE_CTRL) 8 (v ||| 4#64) s = refuseBit p S.LOCK_REFUSED (counted0 m s) := by
  obtain ⟨b, hb, hm, hpba⟩ := headed_of_judge_ok j hp
  rw [busWrite_pageCtrl hb hm hpba j, writePageCtrl_refused (by simp [bitOf]) (by rw [debugAllowed_counted0, hd])]

/-- PAGE_DEBUG where an unlock allows it and ENABLE has the bit written: DEBUG alone. -/
theorem busWrite_debug_allowed {m p : Nat} {v : Word} {s : State} (hp : p < 0x400)
    (j : judge s m p R.PAGE_CTRL 8 (v ||| 4#64) = .ok) (h1 : bitOf v 1 = false) (hd : debugAllowed s = true)
    (h0 : bitOf v 0 = flag s p F.PAGE_CTRL_ENABLE) :
    busWrite m (regAddr p R.PAGE_CTRL) 8 (v ||| 4#64) s = setFld p F.PAGE_CTRL_DEBUG 1 (counted0 m s) := by
  obtain ⟨b, hb, hm, hpba⟩ := headed_of_judge_ok j hp
  have hreset : bitOf (v ||| 4#64) 1 = false := by simpa [bitOf] using h1
  have henable : bitOf (v ||| 4#64) 0 = flag s p F.PAGE_CTRL_ENABLE := by rw [← h0]; simp [bitOf]
  have hdebug : bitOf (v ||| 4#64) 2 = true := by simp [bitOf]
  rw [busWrite_pageCtrl hb hm hpba j, writePageCtrl_allowed (by rw [debugAllowed_counted0]; exact fun _ => hd), hreset, hdebug,
    if_neg (by decide)]
  refine setEnable_same ?_
  rw [henable, ← flag_counted0_header (m := m) s (by decide)]
  exact flag_setFld_apart 1 (counted0 m s) rfl (by decide)

/-! ## The clauses on injection -/

theorem exec_inject_spec {m p k : Nat} {v : Word} {b : Block} {s : State} (hb : pageBlock p = some b) (hp : p < 0x400)
    (j : judge s m p R.INJECT 8 v = .ok) (hk : k ∈ pageDetectors b) (hv : bitOf v k = true)
    (hcount : fld s p F.INJECT_MODE_MODE ≤ 1 ∨ fld s p F.INJECT_MODE_COUNT ≠ 0) :
    injected s p k ∈ (busWrite m (regAddr p R.INJECT) 8 v s).armed ∧ (busWrite m (regAddr p R.INJECT) 8 v s).wst = 0 ∧
      ((regGuarded p R.INJECT = true → masterClaim s m ≤ latched s p) →
        (∀ a, a.page ≠ p → (a ∈ (busWrite m (regAddr p R.INJECT) 8 v s).armed ↔ a ∈ s.armed)) ∧
        changesOnly [.regs, .wst, .armed] [] s (busWrite m (regAddr p R.INJECT) 8 v s)) := by
  obtain ⟨hm, hpba⟩ := (pageBlock_msix_iff hb).mp hp
  obtain ⟨hframe, hregs, harmed⟩ :=
    armAll_frame p ((pageDetectors b).filter (fun k => bitOf v k)) (counted0 m s)
  have hinj : injected (counted0 m s) p k = injected s p k := by
    unfold injected
    rw [fld_counted0_header s (by decide), fld_counted0_header s (by decide)]
  have hfire : ¬ ((injected s p k).mode = .count ∧ (injected s p k).left = 0) := by
    rintro ⟨hmode, hleft⟩
    simp only [injected] at hmode hleft
    split_ifs at hmode
    omega
  have hmem : injected s p k ∈ (armAll p ((pageDetectors b).filter (fun k => bitOf v k)) (counted0 m s)).armed := by
    rw [← hinj] at hfire ⊢
    exact mem_armAll hfire (.inl (List.mem_filter.mpr ⟨hk, hv⟩))
  obtain ⟨hwst, hpage, -⟩ := pageKept_busWrite_inject (q := R.INJECT_MODE) hb hm hpba (.inl rfl) j (by decide) (by decide)
    (by decide)
  rw [writeHeader_inject] at hwst hpage
  refine ⟨(hpage _ rfl).mpr hmem, hwst.trans (hframe.same .wst (by decide)), fun hlow => ?_⟩
  rw [busWrite_inject_low hb hm hpba (.inl rfl) j hlow
    ((reg_congr (by rw [writeHeader_inject, hregs]) _ _).trans (reg_counted0_header s (by decide))), writeHeader_inject]
  have harmed0 : (counted0 m s).armed = s.armed := (changesOnly_counted0 m s).same .armed (by decide)
  refine ⟨fun a ha => (harmed a ha).trans (by rw [harmed0]), ?_⟩
  exact ((changesOnly_counted0 m s).mono (by decide) (by simp)).trans (hframe.mono (by decide) (by simp))

theorem exec_disarm_spec {m p : Nat} {v : Word} {s : State} (j : judge s m p R.INJECT_MODE 8 (v ||| 4#64) = .ok)
    (hp : p < 0x400) :
    unarmed (busWrite m (regAddr p R.INJECT_MODE) 8 (v ||| 4#64) s) p ∧
      (busWrite m (regAddr p R.INJECT_MODE) 8 (v ||| 4#64) s).wst = 0 ∧
      reg (busWrite m (regAddr p R.INJECT_MODE) 8 (v ||| 4#64) s) p R.INJECT_MODE = mergedWord s p R.INJECT_MODE (v ||| 4#64) ∧
      ((regGuarded p R.INJECT_MODE = true → masterClaim s m ≤ latched s p) →
        (∀ a, a.page ≠ p → (a ∈ (busWrite m (regAddr p R.INJECT_MODE) 8 (v ||| 4#64) s).armed ↔ a ∈ s.armed)) ∧
        changesOnly [.regs, .wst, .armed] [p] s (busWrite m (regAddr p R.INJECT_MODE) 8 (v ||| 4#64) s)) := by
  obtain ⟨b, hb, hm, hpba⟩ := headed_of_judge_ok j hp
  have hact := writeHeader_disarm b p (v := v ||| 4#64) (counted0 m s) (by simp [bitOf])
  rw [mergedWord_of_reg _ (reg_counted0_header s (by decide))] at hact
  have harmed0 : (counted0 m s).armed = s.armed := (changesOnly_counted0 m s).same .armed (by decide)
  obtain ⟨hwst, hpage, hreg⟩ := pageKept_busWrite_inject (q := R.INJECT_MODE) hb hm hpba (.inr rfl) j (by decide) (by decide)
    (by decide)
  rw [hact] at hwst hpage hreg
  refine ⟨fun a ha hap => (mem_disarmPage.mp ((hpage a hap).mp ha)).2 hap, hwst, hreg.trans (reg_setReg_self _ _ _ _),
    fun hlow => ?_⟩
  rw [busWrite_inject_low hb hm hpba (.inr rfl) j hlow (by
    rw [hact, reg_setReg_off _ _ (by decide) (by decide) (by decide)]
    exact reg_counted0_header s (by decide)), hact]
  refine ⟨fun a ha => mem_disarmPage.trans (by simp [harmed0, ha]), ?_⟩
  have hset := changesOnly_setReg (p := p) (off := R.INJECT_MODE) (mergedWord s p R.INJECT_MODE (v ||| 4#64))
    (disarmPage p (counted0 m s)) (by decide)
  exact ((changesOnly_counted0 m s).mono (by decide) (by simp)).trans
    (((changesOnly_disarmPage p _).mono (by decide) (by simp)).trans (hset.mono (by decide) (by simp)))

/-! ## The clauses on INJECT_FIRE -/

theorem exec_injectFire_fires {p k : Nat} {b : Block} {s : State} (hb : pageBlock p = some b) (ho : ownPoint b k = false)
    (hc : countsRetry b k = false) (hg : pageGated s p = false) (ha : armedNow s p k = true) (hk : k < 64) :
    completes (.injectFire p k) s (fun t => stuck t p k ∧ changesOnly [.regs, .out, .events, .armed] [p] s t) := by
  refine ⟨_, exec_injectFire_point hb ho hg, ?_⟩
  rw [if_pos ha, hc, if_neg (by decide)]
  exact ⟨stuck_setSticky _ _ _ hk, ((changesOnly_takeArmed p k s).mono (by decide) (by simp)).trans
    ((changesOnly_setSticky p k _).mono (by decide) (by simp))⟩

/-- The detectors that count toward retry lie in pages with a header. -/
theorem countsRetry_headed {b : Block} {k : Nat} (h : countsRetry b k = true) : b ≠ .msix ∧ b ≠ .pba := by
  constructor <;> rintro rfl <;> simp [countsRetry] at h

theorem exec_injectFire_counts {p k : Nat} {b : Block} {s : State} (hb : pageBlock p = some b) (ho : ownPoint b k = false)
    (hc : countsRetry b k = true) (hg : pageGated s p = false) (ha : armedNow s p k = true) (hk : k < 64) :
    completes (.injectFire p k) s (fun t => stuck t p k ∧ devTime s ∈ alGet [] t.retry p ∧
      fld t p F.RETRY_COUNT_TOTAL = satAdd F.RETRY_COUNT_TOTAL.width (fld s p F.RETRY_COUNT_TOTAL) 1 ∧
      changesOnly [.regs, .out, .events, .armed, .retry] [p] s t) := by
  have hp : p < 0x400 := (pageBlock_msix_iff hb).mpr (countsRetry_headed hc)
  have htake := changesOnly_takeArmed p k s
  have hset : changesOnly [.regs, .out, .events, .armed] [p] s (setSticky p k (takeArmed p k s).2) :=
    (htake.mono (by decide) (by simp)).trans ((changesOnly_setSticky p k _).mono (by decide) (by simp))
  obtain ⟨hwin, htotal, hsticky, hframe⟩ := countRetry_spec hp (setSticky p k (takeArmed p k s).2)
  refine ⟨_, exec_injectFire_point hb ho hg, ?_⟩
  rw [if_pos ha, if_pos hc]
  refine ⟨hsticky p k (stuck_setSticky _ _ _ hk), ?_, ?_, ?_⟩
  · have hdev : devTime (setSticky p k (takeArmed p k s).2) = devTime s := by
      unfold devTime
      rw [hset.same .dev (by decide)]
    rwa [hdev] at hwin
  · rw [htotal, fld_of_reg (reg_setSticky_header _ hp (by decide) (by decide)),
      fld_of_reg (reg_congr (htake.same .regs (by decide)) _ _)]
  · exact (hset.mono (by decide) (by simp)).trans (hframe.mono (by decide) (by simp))

theorem exec_injectFire_idle {p k : Nat} {s : State} (ha : armedNow s p k = false) :
    completes (.injectFire p k) s (fun t => keeps [.armed] s t) := by
  cases hb : pageBlock p with
  | none =>
    refine ⟨s, ?_, keeps_refl _ s⟩
    change execInjectFire p k s = _
    unfold execInjectFire
    rw [hb]
  | some b =>
    cases hpoint : (ownPoint b k || pageGated s p) with
    | true => exact ⟨s, exec_injectFire_elsewhere hb hpoint, keeps_refl _ s⟩
    | false =>
      simp only [Bool.or_eq_false_iff] at hpoint
      refine ⟨_, exec_injectFire_point hb hpoint.1 hpoint.2, ?_⟩
      rw [ha, if_neg (by decide)]
      exact keeps_takeArmed p k s

theorem exec_injectFire_nothing {p k : Nat} {b : Block} {s : State} (hb : pageBlock p = some b)
    (h : ownPoint b k = true ∨ pageGated s p = true ∨ s.armed.all (fun a => !decide (a.page = p ∧ a.bit = k)) = true) :
    exec (.injectFire p k) s = .next s := by
  cases hpoint : (ownPoint b k || pageGated s p) with
  | true => exact exec_injectFire_elsewhere hb hpoint
  | false =>
    simp only [Bool.or_eq_false_iff] at hpoint
    have hall : s.armed.all (fun a => !decide (a.page = p ∧ a.bit = k)) = true := by simpa [hpoint] using h
    have htake : takeArmed p k s = (false, s) := by
      have hfind : s.armed.find? (fun a => decide (a.page = p ∧ a.bit = k)) = none := by
        rw [List.find?_eq_none]
        intro a ha
        exact Bool.eq_false_iff.mp ((Bool.not_eq_true' _).mp (List.all_eq_true.mp hall a ha))
      unfold takeArmed
      rw [hfind]
    rw [exec_injectFire_point hb hpoint.1 hpoint.2]
    unfold armedNow
    rw [htake]
    rfl

/-! ## The obligation -/

/-- Settles O9: an accepted write is the act of its register, and the rows of the header are such writes. -/
theorem pageHeaderCommands : Obligations.PageHeaderCommands := by
  refine ⟨?_, ?_, ?_, ?_, ?_, ?_, ?_, ?_, ?_, ?_, ?_, ?_, ?_, ?_, ?_, ?_, ?_, ?_, ?_, ?_, ?_⟩
  · intro s m p v hp j
    refine ⟨_, exec_registerWrite_alone _ _ _ _ _, ?_⟩
    rw [busWrite_sticky hp j]
    refine ⟨reg_setReg_self _ _ _ _, rfl, fun he off ho hn => ?_, changesOnly_setReg_counted0 _ s (by decide)⟩
    rw [reg_setReg_off _ _ (by decide) ho hn]
    exact reg_counted0 s ho (.inl (fun h => he (h ▸ by decide)))
  · intro s m p off v b hb hm hpba he hlo hhi h1 h2 h3 h4 h5 hg j
    have hpci : p ≠ 0x3F2 := fun h => he (h ▸ by decide)
    have hplain : busWrite m (regAddr p off) 8 v s = setReg p off (mergedWord s p off v) (counted0 m s) := by
      rw [busWrite_plain hhi j hg, regWrite_block v hb hm hpba hlo]
      unfold writeBlock
      rw [h1, h2, h3, h4, h5]
      exact congrArg (setReg p off · _) (mergedWord_of_reg v (reg_counted0 s hhi (.inl hpci)))
    refine ⟨_, exec_registerWrite_alone _ _ _ _ _, ?_⟩
    rw [hplain]
    refine ⟨reg_setReg_self _ _ _ _, rfl, fun k hk hn => ?_, changesOnly_setReg_counted0 _ s hhi⟩
    rw [reg_setReg_off _ _ hhi hk hn, reg_counted0 s hk (.inl hpci)]
  · intro s m addr size v j
    exact ⟨_, exec_registerWrite_alone _ _ _ _ _, busWrite_ok j⟩
  · intro s m p v b hb hmem j h1 h2 hd
    obtain ⟨hm, hpba⟩ := headed_of_mem hmem (by decide) (by decide)
    refine ⟨_, rfl, ?_⟩
    rw [busWrite_enable hb hm hpba j h1 h2 hd]
    obtain ⟨henable, hdebug, hspec⟩ := setEnable_counted_spec (m := m) (on := bitOf v 0) (enableChanged_idle hmem p _) s
    exact ⟨henable, hdebug.trans hd, hspec⟩
  · intro s m p v hp j h1 h2 hd he
    obtain ⟨b, hb, hm, hpba⟩ := headed_of_judge_ok j hp
    refine ⟨_, rfl, ?_⟩
    rw [busWrite_enable hb hm hpba j h1 h2 hd, setEnable_same (by rw [flag_counted0_header s (by decide), he])]
    exact ⟨rfl, reg_counted0_header s (by decide), changesOnly_counted0 m s⟩
  · intro s m p v b hb hm hpba j h1 h2 hd he
    refine ⟨_, rfl, setFld p F.PAGE_CTRL_ENABLE (if bitOf v 0 then 1 else 0) (counted0 m s), ?_,
      flag_setFld_bool _ _ (by decide) rfl, rfl, changesOnly_setReg_counted0 _ s (by decide)⟩
    rw [busWrite_enable hb hm hpba j h1 h2 hd, setEnable_changed (by rwa [flag_counted0_header s (by decide)])]
  · intro s m p v hp j hd
    refine ⟨_, rfl, ?_⟩
    rw [busWrite_debug_refused hp j hd]
    obtain ⟨hs, hw, -, hc⟩ := refusal_spec (K := [.regs, .out, .events, .wst]) (q := p) (b := S.LOCK_REFUSED) (n := 5)
      (by decide) ((changesOnly_counted0 m s).mono (by decide) (by simp)) (by decide)
    exact ⟨hs, (reg_setSticky_header (counted0 m s) hp (by decide) (by decide)).trans (reg_counted0_header s (by decide)), hw, hc⟩
  · intro s m p v hp j h1 hd h0
    refine ⟨_, rfl, ?_⟩
    rw [busWrite_debug_allowed hp j h1 hd h0]
    refine ⟨flag_setFld_bool true _ (by decide) rfl, ?_, rfl, changesOnly_setReg_counted0 _ s (by decide)⟩
    exact (flag_setFld_apart (f := F.PAGE_CTRL_DEBUG) (g := F.PAGE_CTRL_ENABLE) 1 _ rfl (by decide)).trans ((flag_counted0_header s (by decide)).trans h0.symm)
  · intro s m p v x b c hb hm hpba hrow j hallowed
    refine ⟨_, exec_pageCtrl_row s hrow, ?_⟩
    have hg : regGuarded p R.PAGE_CTRL = false := not_guarded_header (by decide) (by decide) (by decide)
    rw [busWrite_pageCtrl hb hm hpba j, acceptedWrite_plain hg, arriveWrite_plain hg]
    exact writePageCtrl_allowed (by rwa [debugAllowed_counted0])
  · intro s m p v b hb hmem j h2 hd
    obtain ⟨hm, hpba⟩ := headed_of_mem hmem (by decide) (by decide)
    refine ⟨_, rfl, ?_⟩
    rw [busWrite_softReset hb hm hpba j h2 hd, softReset_idle hmem]
    have hidle := enableChanged_reset_idle (.inl hmem) p false
    obtain ⟨henable, -, hw, hc⟩ := setEnable_counted_spec (m := m) hidle s
    refine ⟨henable, hw, hc.1, hc.2, fun off hlo hhi => ?_⟩
    have hpci : p ≠ 0x3F2 := by
      rintro rfl
      obtain rfl : Block.pci = b := Option.some.inj hb
      exact absurd hmem (by decide)
    rw [(setEnable_idle_spec hidle (counted0 m s)).2.2.1 off hhi (by simp only [R.PAGE_CTRL]; omega),
      reg_counted0 s hhi (.inl hpci)]
  · intro s m p v b hb hmem j h2 hd
    obtain ⟨hm, hpba⟩ := headed_of_mem hmem (by decide) (by decide)
    obtain ⟨henable, -, hw, hc⟩ := setEnable_counted_spec (m := m) (enableChanged_reset_idle (.inr hmem) p false) s
    obtain ⟨u, hu, hhbm, hregs⟩ := softReset_registers (p := p) hmem (counted0 m s)
    have hreset : changesOnly [.regs] [p] u (resetBlockRegs p u) := changesOnly_resetRegs u (by decide)
    refine ⟨_, rfl, ?_⟩
    rw [busWrite_softReset hb hm hpba j h2 hd, hu]
    refine ⟨?_, ?_, fun off hlo hhi => by rw [reg_resetBlockRegs p off u hhi, if_pos hlo], ?_⟩
    · rw [flag_of_reg (reg_resetBlockRegs p R.PAGE_CTRL u (by decide)), flag_of_reg (reg_congr hregs _ _), henable]
    · exact (hreset.same .wst (by decide)).trans ((hhbm.same .wst (by decide)).trans hw)
    · exact (hc.mono (by decide) (by simp)).trans ((hhbm.mono (by decide) (by simp)).trans (hreset.mono (by decide) (by simp)))
  · intro s m p v b hb hm hpba j h2 hd href
    refine ⟨_, rfl, ?_⟩
    rw [busWrite_softReset hb hm hpba j h2 hd, softReset_unarmed (by rwa [armedRef_counted0])]
    by_cases he : flag (counted0 m s) p F.PAGE_CTRL_ENABLE = false
    · exact ⟨_, _, rfl, .inl rfl, by rwa [setEnable_same he], by rw [setEnable_same he]; rfl,
        by rw [setEnable_same he]; exact (changesOnly_counted0 m s).mono (fun _ h => h) (by simp)⟩
    · refine ⟨setFld p F.PAGE_CTRL_ENABLE 0 (counted0 m s), _, rfl, .inr (setEnable_changed he), ?_, rfl,
        changesOnly_setReg_counted0 _ s (by decide)⟩
      exact flag_setFld_bool false _ (by decide) rfl
  · intro s m v j h2 hd href
    refine ⟨_, rfl, ?_⟩
    rw [busWrite_softReset (b := .ref) (by decide) (by decide) (by decide) j h2 hd,
      softReset_armedRef (by rwa [armedRef_counted0])]
    obtain ⟨hs, hw, hk, hc⟩ := refusal_spec (K := [.regs, .out, .events, .wst]) (q := refPage) (b := S.CFG_REFUSED) (n := 5)
      (by decide) ((changesOnly_counted0 m s).mono (by decide) (by simp)) (by decide)
    exact ⟨hs, hw, hk (by decide), hc⟩
  · intro s m p v b k hb hp j hk hv hcount
    obtain ⟨hmem, hw, hlow⟩ := exec_inject_spec hb hp j hk hv hcount
    exact ⟨_, rfl, ⟨_, hmem, rfl, rfl, rfl, rfl⟩, hw, hlow⟩
  · intro s m p v j hp
    exact ⟨_, rfl, exec_disarm_spec j hp⟩
  · intro s m p v j hp
    exact ⟨_, rfl, busWrite_evtEn_spec hp j⟩
  · intro s p k b hb _ ho hc hg ha hk
    exact exec_injectFire_fires hb ho hc hg ha hk
  · intro s p k b hb ho hc hg ha hk
    exact exec_injectFire_counts hb ho hc hg ha hk
  · intro s m p off v x c _ hrow
    exact ⟨_, exec_header_row s hrow, _, exec_registerWrite_alone _ _ _ _ _, rfl⟩
  · intro s p k ha
    exact exec_injectFire_idle ha
  · intro s p k b hb h
    exact ⟨_, exec_injectFire_nothing hb h, rfl⟩

end Sys2Proof.Machine
end

section
/-! PROOFS. Spur lanes: what the shared operations on a lane leave alone, and the management messages it sends and receives
(R93, R112, R113). -/

namespace Sys2Proof.Machine

/-! ## Bits of a command word that name its act -/

theorem bitOf_or (v w : Word) (b : Nat) : bitOf (v ||| w) b = (bitOf v b || bitOf w b) := BitVec.getLsbD_or

/-- Bits set outside a field leave the field. -/
theorem fieldOf_or {v w : Word} {lo n : Nat} (h : fieldOf w lo n = 0) : fieldOf (v ||| w) lo n = fieldOf v lo n := by
  apply Nat.eq_of_testBit_eq
  intro k
  have hk : (fieldOf w lo n).testBit k = false := by rw [h, Nat.zero_testBit]
  rw [fieldOf_bit] at hk
  rw [fieldOf_bit, fieldOf_bit, bitOf_or, Bool.and_or_distrib_left, hk, Bool.or_false]

/-! ## Pages and registers of a Spur lane -/

theorem sprPage_plain {n : Nat} (hn : n < 64) : ¬ eventPage (sprPage n) := by
  unfold eventPage sprPage; omega

theorem pageBlock_sprPage {n : Nat} (hn : n < 64) : pageBlock (sprPage n) = some .spr := by
  decide +revert

theorem not_guarded_syncCmd {n : Nat} (hn : n < 64) : regGuarded (sprPage n) R.SPR_SYNC_CMD = false := by
  decide +revert

/-- A register of a Spur page reads alike in the counted state. -/
theorem reg_counted0_spr {m n off : Nat} (s : State) (hn : n < 64) (ho : off < 0x1000) :
    reg (counted0 m s) (sprPage n) off = reg s (sprPage n) off := reg_counted0 s ho (.inl (by unfold sprPage; omega))

/-- Fields of one register, of the same page or not: a write of one leaves another that it does not meet. -/
theorem fld_setFld_other {p q : Nat} {f g : FieldRef} (v : Nat) (s : State) (ho : f.off = g.off) (hf : f.off < 0x1000)
    (h : q ≠ p ∨ f.lo + f.width ≤ g.lo ∨ g.lo + g.width ≤ f.lo) : fld (setFld p f v s) q g = fld s q g := by
  by_cases hq : q = p
  · subst hq
    exact fld_setFld_apart q f g v s ho (h.resolve_left (by simp))
  · exact fld_of_reg (reg_setFld_ne f v s (regAddr_ne (ho ▸ hf) hf (.inl hq)))

/-! ## A lane is what it was last set to -/

/-- Lanes rest on the Spur part alone. -/
theorem sprLane_congr {s t : State} (h : t.spr = s.spr) : sprLane t = sprLane s := by
  funext k; simp [sprLane, h]

theorem sprLane_setSprLane_ne {n k : Nat} (x : LaneTrain) (s : State) (h : k ≠ n) :
    sprLane (setSprLane n x s) k = sprLane s k :=
  sparseGet_set_ne (fun _ => ({} : LaneTrain)) s.spr.lanes x h

theorem setSprLane_setSprLane (n : Nat) (x y : LaneTrain) (s : State) :
    setSprLane n y (setSprLane n x s) = setSprLane n y s := by
  simp [setSprLane, alSet, sparseSet_set]

/-- An update of a lane leaves whatever it leaves of that lane in every lane. -/
theorem sprLane_update {α : Type} (g : LaneTrain → α) {f : LaneTrain → LaneTrain} (hg : ∀ l, g (f l) = g l) (n k : Nat)
    (s : State) : g (sprLane (setSprLane n (f (sprLane s n)) s) k) = g (sprLane s k) := by
  by_cases h : k = n
  · subst h; rw [sprLane_setSprLane, hg]
  · rw [sprLane_setSprLane_ne _ s h]

theorem changesOnly_setSprLane (n : Nat) (x : LaneTrain) (s : State) : changesOnly [.spr] [] s (setSprLane n x s) :=
  ⟨fun y hy => by cases y <;> simp_all [same, setSprLane], sameRegs_of_eq rfl⟩

/-! ## Frames and messages that leave (R91 to R94, R112) -/

theorem changesOnly_send (k : EmKind) (u : Nat) (v : List Nat) (s : State) : changesOnly [.out] [] s (send k u v s) :=
  ⟨fun y hy => by cases y <;> simp_all [same, send], sameRegs_of_eq rfl⟩

theorem changesOnly_sprSend (n kind : Nat) (data : List Byte) (s : State) :
    changesOnly [.spr, .out] [] s (sprSend n kind data s) := by
  have hsent : changesOnly [.out] [] s (laneSendFrame .sprFrame .sprLevels n kind data (sprLane s n) s) :=
    (changesOnly_send _ _ _ s).trans (changesOnly_send _ _ _ _)
  exact (hsent.mono (by decide) (by simp)).trans ((changesOnly_setSprLane n _ _).mono (by decide) (by simp))

/-- A frame sent moves a lane's FSEQ, scrambler and precoder and nothing else. -/
theorem frameSent_eq (kind : Nat) (data : List Byte) (l : LaneTrain) :
    ∃ fseq scr pre, frameSent kind data l = { l with txFseq := fseq, scr := scr, pre := pre } := by
  unfold frameSent
  exact ⟨_, _, _, rfl⟩

theorem sprLane_sprSend {α : Type} (g : LaneTrain → α) (hg : ∀ l f x y, g { l with txFseq := f, scr := x, pre := y } = g l)
    (n kind : Nat) (data : List Byte) (k : Nat) (s : State) : g (sprLane (sprSend n kind data s) k) = g (sprLane s k) := by
  have hsent : ∀ l, g (frameSent kind data l) = g l := by
    intro l
    obtain ⟨f, x, y, h⟩ := frameSent_eq kind data l
    rw [h, hg]
  exact sprLane_update g hsent n k (laneSendFrame .sprFrame .sprLevels n kind data (sprLane s n) s)

/-- A lane in RUN answers with an IDLE frame. -/
theorem sprReply_run {n : Nat} {s : State} (h : (sprLane s n).st = .run) : sprReply n s = sprIdle n s := by
  unfold sprReply; rw [h]

/-- The data bytes of the MGMT frame that carries one message (R112). -/
def messageFrame (type seq a b : Nat) : List Byte := messageBytes type seq a b ++ List.replicate 608 0

theorem out_sendMessage (via type a b : Nat) (s : State) :
    (sendMessage via type a b s).out = messageOut s via type a b ++ s.out := rfl

theorem regs_sendMessage (via type a b : Nat) (s : State) :
    (sendMessage via type a b s).regs = (setFld (sprPage via) F.SPR_SYNC_CMD_LAST_SEQ (sprLane s via).txMsg s).regs := rfl

theorem changesOnly_sendMessage (via type a b : Nat) (s : State) :
    changesOnly [.spr, .regs, .out] [sprPage via] s (sendMessage via type a b s) := by
  refine changesOnly.trans ?_ ((changesOnly_send _ _ _ _).mono (by decide) (by simp))
  refine changesOnly.trans ?_ ((changesOnly_setFld _ _ (by decide)).mono (by decide) (by simp))
  refine changesOnly.trans ?_ ((changesOnly_setSprLane via _ _).mono (by decide) (by simp))
  exact (changesOnly_sprSend via 3 _ s).mono (by decide) (by simp)

/-- A message sent moves what a frame moves, and the SEQ of its lane. -/
theorem sprLane_sendMessage {α : Type} (g : LaneTrain → α) (hsent : ∀ l f x y, g { l with txFseq := f, scr := x, pre := y } = g l)
    (hseq : ∀ l x, g { l with txMsg := x } = g l) (via type a b k : Nat) (s : State) :
    g (sprLane (sendMessage via type a b s) k) = g (sprLane s k) :=
  (sprLane_update g (f := fun l => { l with txMsg := ((sprLane s via).txMsg + 1) % 256 }) (fun l => hseq l _) via k
    (sprSend via 3 (messageFrame type (sprLane s via).txMsg a b) s)).trans (sprLane_sprSend g hsent via 3 _ k s)

/-- A message shows its SEQ in the page of the lane it leaves on, and clears no PENDING. -/
theorem sendMessage_shown {n via type a b : Nat} {s : State} (hp : flag s (sprPage n) F.SPR_SYNC_CMD_PENDING = true)
    (hs : fld s (sprPage n) F.SPR_SYNC_CMD_LAST_SEQ = (sprLane s via).txMsg % 256) :
    flag (sendMessage via type a b s) (sprPage n) F.SPR_SYNC_CMD_PENDING = true ∧
      fld (sendMessage via type a b s) (sprPage n) F.SPR_SYNC_CMD_LAST_SEQ = (sprLane s via).txMsg % 256 := by
  have hreg := reg_congr (regs_sendMessage via type a b s) (sprPage n) R.SPR_SYNC_CMD
  rw [flag_of_reg hreg, fld_of_reg hreg]
  constructor
  · have hf := fld_setFld_other (q := sprPage n) (f := F.SPR_SYNC_CMD_LAST_SEQ) (g := F.SPR_SYNC_CMD_PENDING)
      (sprLane s via).txMsg s rfl (p := sprPage via) (by decide) (.inr (by decide))
    unfold flag at hp ⊢
    rwa [hf]
  · by_cases hv : sprPage n = sprPage via
    · rw [hv]; exact fld_setFld_self _ _ _ s (by decide)
    · exact (fld_setFld_other _ s rfl (by decide) (.inl hv)).trans hs

/-! ## SEND (R113) -/

/-- Page `n` shows a message of SEQ `seq` as pending. -/
def pendingShown (n seq : Nat) (s : State) : State :=
  let s := setFld (sprPage n) F.SPR_SYNC_CMD_LAST_SEQ seq (setFld (sprPage n) F.SPR_SYNC_CMD_PENDING 1 s)
  setSprLane n { sprLane s n with pendSeq := seq } s

/-- Lane `n` awaits an edge of TRIG_OUT line `trig` after a SYNC_LOAD. -/
def loadNoted (n trig : Nat) (s : State) : State :=
  setSprLane n { sprLane s n with syncTrig := some (trig, s.mono) } s

theorem sendFor_syncLoad (n via : Nat) (s : State) : sendFor n via 1 s =
    sendMessage via 1 (fld s (sprPage n) F.SPR_SYNC_CMD_TRIG) (reg s (sprPage n) R.SPR_SYNC_INDEX).toNat
      (loadNoted n (fld s (sprPage n) F.SPR_SYNC_CMD_TRIG) (pendingShown n (sprLane s via).txMsg s)) := rfl

theorem sendFor_statusReq (n via : Nat) (s : State) :
    sendFor n via 3 s = sendMessage via 3 0 0 (pendingShown n (sprLane s via).txMsg s) := rfl

theorem regs_pendingShown (n seq : Nat) (s : State) : (pendingShown n seq s).regs =
    (setFld (sprPage n) F.SPR_SYNC_CMD_LAST_SEQ seq (setFld (sprPage n) F.SPR_SYNC_CMD_PENDING 1 s)).regs := rfl

theorem pendingShown_page (n seq : Nat) (s : State) :
    flag (pendingShown n seq s) (sprPage n) F.SPR_SYNC_CMD_PENDING = true ∧
      fld (pendingShown n seq s) (sprPage n) F.SPR_SYNC_CMD_LAST_SEQ = seq % 256 := by
  have hreg := reg_congr (regs_pendingShown n seq s) (sprPage n) R.SPR_SYNC_CMD
  rw [flag_of_reg hreg, fld_of_reg hreg,
    flag_setFld_apart (f := F.SPR_SYNC_CMD_LAST_SEQ) (g := F.SPR_SYNC_CMD_PENDING) seq _ rfl (by decide)]
  exact ⟨flag_setFld_bool (f := F.SPR_SYNC_CMD_PENDING) true s (by decide) rfl, fld_setFld_self _ _ seq _ (by decide)⟩

theorem changesOnly_pendingShown (n seq : Nat) (s : State) :
    changesOnly [.spr, .regs] [sprPage n] s (pendingShown n seq s) := by
  refine changesOnly.trans ?_ ((changesOnly_setSprLane n _ _).mono (by decide) (by simp))
  exact ((changesOnly_setFld 1 s (by decide)).trans (changesOnly_setFld seq _ (by decide))).mono (by decide) (by simp)

/-- Noting a message leaves whatever of a lane is neither the SEQ awaited nor the trigger awaited. -/
theorem sprLane_pendingShown {α : Type} (g : LaneTrain → α) {seq : Nat} (hg : ∀ l, g { l with pendSeq := seq } = g l) (n k : Nat)
    (s : State) : g (sprLane (pendingShown n seq s) k) = g (sprLane s k) :=
  sprLane_update g (f := fun l => { l with pendSeq := seq }) hg n k
    (setFld (sprPage n) F.SPR_SYNC_CMD_LAST_SEQ seq (setFld (sprPage n) F.SPR_SYNC_CMD_PENDING 1 s))

theorem sprLane_loadNoted {α : Type} (g : LaneTrain → α) (hg : ∀ l x, g { l with syncTrig := x } = g l) (n trig k : Nat)
    (s : State) : g (sprLane (loadNoted n trig s) k) = g (sprLane s k) :=
  sprLane_update g (f := fun l => { l with syncTrig := some (trig, s.mono) }) (fun l => hg l _) n k s

/-- What of a lane a message that leaves on it carries. -/
def sendSide (l : LaneTrain) : Nat × Nat × Nat × Nat × Nat := (l.scr, l.pre, l.txFseq, l.rxMsg, l.txMsg)

theorem messageOut_congr {via : Nat} {s t : State} (h : sendSide (sprLane t via) = sendSide (sprLane s via)) (type a b : Nat) :
    messageOut t via type a b = messageOut s via type a b := by
  simp only [sendSide, Prod.mk.injEq] at h
  obtain ⟨hscr, hpre, hfseq, hrx, htx⟩ := h
  have hctrl : sentCtrl 3 (sprLane t via) = sentCtrl 3 (sprLane s via) := by
    unfold sentCtrl; rw [hfseq, hrx]
  unfold messageOut
  dsimp only
  rw [hctrl, hscr, hpre, htx]

/-- A plain write of SPR_SYNC_CMD stores TRIG and TYPE. -/
theorem mergedWord_syncCmd {n : Nat} (hn : n < 64) (v : Word) (s : State) : mergedWord s (sprPage n) R.SPR_SYNC_CMD v =
    withField (withField (reg s (sprPage n) R.SPR_SYNC_CMD) 0 4 (fieldOf v 0 4)) 8 8 (fieldOf v 8 8) := by
  unfold mergedWord regDef
  rw [pageBlock_sprPage hn]
  rfl

/-- The state in which an accepted SEND has stored its fields. -/
def sendStored (m n : Nat) (v : Word) (s : State) : State :=
  storePlain (sprPage n) R.SPR_SYNC_CMD (v ||| 0x10000#64) (counted0 m s)

theorem changesOnly_sendStored (m n : Nat) (v : Word) (s : State) :
    changesOnly [.regs, .wst] [sprPage n] s (sendStored m n v s) :=
  changesOnly_setReg_counted0 _ s (by decide)

theorem trig_sendStored {m n : Nat} (hn : n < 64) (v : Word) (s : State) :
    fld (sendStored m n v s) (sprPage n) F.SPR_SYNC_CMD_TRIG = fieldOf v 0 4 := by
  unfold fld sendStored storePlain
  rw [reg_setReg_self, mergedWord_syncCmd hn, fieldOf_withField_ne _ _ _ _ _ _ (by decide),
    fieldOf_withField_self _ _ _ _ (by decide), fieldOf_or (by decide)]
  exact Nat.mod_eq_of_lt (Nat.mod_lt _ (by decide))

theorem syncIndex_sendStored {m n : Nat} (hn : n < 64) (v : Word) (s : State) :
    reg (sendStored m n v s) (sprPage n) R.SPR_SYNC_INDEX = reg s (sprPage n) R.SPR_SYNC_INDEX :=
  (reg_setReg_off _ _ (by decide) (by decide) (by decide)).trans (reg_counted0_spr s hn (by decide))

/-- The lane that carries a message rests on the lanes and on whether the page is live. -/
theorem messageLane_counted0 {m n : Nat} (s : State) (hn : n < 64) : messageLane (counted0 m s) n = messageLane s n := by
  have hc := changesOnly_counted0 m s
  have hlive : pageLive (counted0 m s) (sprPage n) = pageLive s (sprPage n) :=
    pageLive_congr (hc.same .hwd (by decide)) (hc.reg (by simp) (by decide) (by decide)) (hc.reg (by simp) (by decide) (by decide))
      (reg_counted0_spr s hn (by decide))
  unfold messageLane lowestLive liveLanes
  rw [hlive, sprLane_congr (hc.same .spr (by decide))]

theorem exec_send {m n : Nat} {v : Word} {s : State} (hn : n < 64)
    (j : judge s m (sprPage n) R.SPR_SYNC_CMD 8 (v ||| 0x10000#64) = .ok) :
    exec (.send m n v) s = .next (writeSyncCmd n (v ||| 0x10000#64) (counted0 m s)) :=
  congrArg Host.Outcome.next (guardedWrite_plain j (not_guarded_syncCmd hn))

theorem bitOf_send (v : Word) : bitOf (v ||| 0x10000#64) 16 = true := by rw [bitOf_or]; simp [bitOf]

theorem fieldOf_type_send (v : Word) : fieldOf (v ||| 0x10000#64) 8 8 = fieldOf v 8 8 := fieldOf_or (by decide)

/-- A SYNC_LOAD or STATUS_REQ that a lane carries goes out. -/
theorem writeSyncCmd_carried {n via : Nat} {v : Word} {s : State} (hvia : messageLane s n = some via)
    (ht : fieldOf v 8 8 = 1 ∨ fieldOf v 8 8 = 3) : writeSyncCmd n (v ||| 0x10000#64) s =
      sendFor n via (fieldOf v 8 8) (storePlain (sprPage n) R.SPR_SYNC_CMD (v ||| 0x10000#64) s) := by
  unfold writeSyncCmd
  simp only [bitOf_send, fieldOf_type_send, hvia, ht, if_true]

/-- A message that no lane carries, or of a type that is not sent, is refused. -/
theorem writeSyncCmd_refused {n : Nat} {v : Word} {s : State}
    (h : messageLane s n = none ∨ ¬ (fieldOf v 8 8 = 1 ∨ fieldOf v 8 8 = 3)) :
    writeSyncCmd n (v ||| 0x10000#64) s = refuseCfg (sprPage n) s := by
  unfold writeSyncCmd
  simp only [bitOf_send, fieldOf_type_send, if_true]
  cases hvia : messageLane s n with
  | none => rfl
  | some via => exact if_neg (h.resolve_left (by simp [hvia]))

/-- A SEND that is refused, seen from before the write. -/
theorem send_refused {m n : Nat} (s : State) (hn : n < 64) :
    stuck (refuseCfg (sprPage n) (counted0 m s)) (sprPage n) S.CFG_REFUSED ∧ (refuseCfg (sprPage n) (counted0 m s)).wst = 5 ∧
      reg (refuseCfg (sprPage n) (counted0 m s)) (sprPage n) R.SPR_SYNC_CMD = reg s (sprPage n) R.SPR_SYNC_CMD ∧
      changesOnly [.regs, .events, .out, .wst] [sprPage n] s (refuseCfg (sprPage n) (counted0 m s)) := by
  obtain ⟨hs, hw, hkeep, hframe⟩ := refusal_spec (K := [.regs, .events, .out, .wst]) (q := sprPage n) (b := S.CFG_REFUSED) (n := 5)
    (by decide) ((changesOnly_counted0 m s).mono (by decide) (by simp)) (by decide)
  exact ⟨hs, hw, hkeep (sprPage_plain hn) _ (by decide) (by decide), hframe⟩

/-- What a message for page `n` shows and sends, whatever else is noted of lane `n` with it: `u` is the state in which it leaves. -/
theorem message_leaves {m n via type a b : Nat} {v : Word} {s u : State}
    (hside : sendSide (sprLane u via) = sendSide (sprLane s via))
    (hpend : (sprLane u n).pendSeq = (sprLane s via).txMsg)
    (hpage : u.regs = (pendingShown n (sprLane s via).txMsg (sendStored m n v s)).regs)
    (hu : changesOnly [.spr, .regs, .wst] [sprPage n] s u) :
    flag (sendMessage via type a b u) (sprPage n) F.SPR_SYNC_CMD_PENDING = true ∧
      fld (sendMessage via type a b u) (sprPage n) F.SPR_SYNC_CMD_LAST_SEQ = (sprLane s via).txMsg % 256 ∧
      (sendMessage via type a b u).out = messageOut s via type a b ++ s.out ∧
      (sprLane (sendMessage via type a b u) n).pendSeq = (sprLane s via).txMsg ∧
      changesOnly [.spr, .regs, .out, .wst] [sprPage n, sprPage via] s (sendMessage via type a b u) := by
  have htx : (sprLane u via).txMsg = (sprLane s via).txMsg := congrArg (fun x => x.2.2.2.2) hside
  obtain ⟨hflag, hseq⟩ := pendingShown_page n (sprLane s via).txMsg (sendStored m n v s)
  have hreg := reg_congr hpage (sprPage n) R.SPR_SYNC_CMD
  rw [← flag_of_reg (f := F.SPR_SYNC_CMD_PENDING) hreg] at hflag
  rw [← fld_of_reg (f := F.SPR_SYNC_CMD_LAST_SEQ) hreg, ← htx] at hseq
  obtain ⟨hflag', hseq'⟩ := sendMessage_shown (type := type) (a := a) (b := b) hflag hseq
  refine ⟨hflag', htx ▸ hseq', ?_, ?_, ?_⟩
  · rw [out_sendMessage, messageOut_congr hside, hu.same .out (by decide)]
  · exact (sprLane_sendMessage LaneTrain.pendSeq (fun _ _ _ _ => rfl) (fun _ _ => rfl) via type a b n u).trans hpend
  · exact (hu.mono (by decide) (by simp)).trans ((changesOnly_sendMessage via type a b u).mono (by decide) (by simp))

/-! ## Acknowledgements and STATUS (R112, R113) -/

theorem awaitsAck_self {n seq : Nat} {s : State} (hp : flag s (sprPage n) F.SPR_SYNC_CMD_PENDING = true)
    (hs : (sprLane s n).pendSeq = seq) : awaitsAck s n seq = true := by
  simp [awaitsAck, hp, hs]

/-- Page `n` after the acknowledgement of its message. -/
def ackShown (n st : Nat) (s : State) : State :=
  setFld (sprPage n) F.SPR_SYNC_CMD_PENDING 0 (setFld (sprPage n) F.SPR_SYNC_CMD_ACK_STATUS (st % 2) s)

/-- An acknowledgement of the message that the lane's own page has pending; a status of 1 ends the wait for its trigger. -/
theorem ackMessage_own {n seq st : Nat} {s : State} (h : awaitsAck s n seq = true) :
    ackMessage n seq st s = if st = 1 then
        setSticky (sprPage n) S.SPR_SYNC_UNSUPPORTED (setSprLane n { sprLane (ackShown n st s) n with syncTrig := none } (ackShown n st s))
      else ackShown n st s := by
  unfold ackMessage
  simp only [List.find?_cons, h]
  rfl

theorem ackShown_page (n st : Nat) (s : State) :
    flag (ackShown n st s) (sprPage n) F.SPR_SYNC_CMD_PENDING = false ∧
      fld (ackShown n st s) (sprPage n) F.SPR_SYNC_CMD_ACK_STATUS = st % 2 := by
  unfold ackShown
  refine ⟨flag_setFld_bool (f := F.SPR_SYNC_CMD_PENDING) false _ (by decide) rfl, ?_⟩
  rw [fld_setFld_apart (sprPage n) F.SPR_SYNC_CMD_PENDING F.SPR_SYNC_CMD_ACK_STATUS _ _ rfl (by decide),
    fld_setFld_self _ _ _ _ (by decide)]
  exact Nat.mod_mod_of_dvd st (by decide)

theorem changesOnly_ackShown (n st : Nat) (s : State) : changesOnly [.regs] [sprPage n] s (ackShown n st s) :=
  (changesOnly_setFld _ s (by decide)).trans (changesOnly_setFld _ _ (by decide))

/-- A sticky bit of a Spur page leaves its SPR_SYNC_CMD. -/
theorem syncCmd_setSticky {n b : Nat} (s : State) (hn : n < 64) (hb : b < 64) :
    reg (setSticky (sprPage n) b s) (sprPage n) R.SPR_SYNC_CMD = reg s (sprPage n) R.SPR_SYNC_CMD :=
  (setSticky_page (sprPage_plain hn) hb).2 _ (by decide) (by decide)

/-- An acknowledgement with status 1 is flagged, and no trigger is awaited after it. -/
theorem ackMessage_unsupported {n seq : Nat} {s : State} (hn : n < 64) (h : awaitsAck s n seq = true) :
    flag (ackMessage n seq 1 s) (sprPage n) F.SPR_SYNC_CMD_PENDING = false ∧
      fld (ackMessage n seq 1 s) (sprPage n) F.SPR_SYNC_CMD_ACK_STATUS = 1 ∧
      stuck (ackMessage n seq 1 s) (sprPage n) S.SPR_SYNC_UNSUPPORTED ∧
      sprLane (ackMessage n seq 1 s) n = { sprLane s n with syncTrig := none } ∧
      changesOnly [.spr, .regs, .events, .out] [sprPage n] s (ackMessage n seq 1 s) := by
  have hshown := changesOnly_ackShown n 1 s
  have hlane : sprLane (ackShown n 1 s) n = sprLane s n := congrFun (sprLane_congr (hshown.same .spr (by decide))) n
  rw [ackMessage_own h, if_pos rfl, hlane]
  have hset := changesOnly_setSprLane n { sprLane s n with syncTrig := none } (ackShown n 1 s)
  have hsticky := changesOnly_setSticky (sprPage n) S.SPR_SYNC_UNSUPPORTED
    (setSprLane n { sprLane s n with syncTrig := none } (ackShown n 1 s))
  have hreg := (syncCmd_setSticky (b := S.SPR_SYNC_UNSUPPORTED) (setSprLane n { sprLane s n with syncTrig := none } (ackShown n 1 s))
    hn (by decide)).trans (reg_congr (t := setSprLane n { sprLane s n with syncTrig := none } (ackShown n 1 s)) rfl _ _)
  obtain ⟨hflag, hstatus⟩ := ackShown_page n 1 s
  refine ⟨(flag_of_reg hreg).trans hflag, (fld_of_reg hreg).trans hstatus, stuck_setSticky _ _ _ (by decide), ?_, ?_⟩
  · rw [sprLane_congr (hsticky.same .spr (by decide)), sprLane_setSprLane]
  · exact (hshown.mono (by decide) (by simp)).trans ((hset.mono (by decide) (by simp)).trans (hsticky.mono (by decide) (by simp)))

/-- Of any acknowledgement that a lane awaits: what its page shows, and what of the lane stays. -/
theorem ackMessage_spec {n seq st : Nat} {s : State} (hn : n < 64) (h : awaitsAck s n seq = true) :
    flag (ackMessage n seq st s) (sprPage n) F.SPR_SYNC_CMD_PENDING = false ∧
      fld (ackMessage n seq st s) (sprPage n) F.SPR_SYNC_CMD_ACK_STATUS = st % 2 ∧
      (st = 1 → stuck (ackMessage n seq st s) (sprPage n) S.SPR_SYNC_UNSUPPORTED) ∧
      (sprLane (ackMessage n seq st s) n).st = (sprLane s n).st ∧
      changesOnly [.spr, .regs, .events, .out] [sprPage n] s (ackMessage n seq st s) := by
  by_cases hst : st = 1
  · subst hst
    obtain ⟨hflag, hstatus, hstuck, hlane, hframe⟩ := ackMessage_unsupported hn h
    exact ⟨hflag, hstatus, fun _ => hstuck, by rw [hlane], hframe⟩
  · rw [ackMessage_own h, if_neg hst]
    have hframe := changesOnly_ackShown n st s
    obtain ⟨hflag, hstatus⟩ := ackShown_page n st s
    exact ⟨hflag, hstatus, fun h1 => absurd h1 hst, rfl, hframe.mono (by decide) (by simp)⟩

/-- A single lane takes no acknowledgement that it does not await. -/
theorem ackMessage_unawaited {n seq st : Nat} {s : State} (hb : inBundle (sprLane s n) = false) (h : awaitsAck s n seq = false) :
    ackMessage n seq st s = s := by
  simp [ackMessage, hb, h]

theorem exec_ack {n seq st : Nat} {s : State} (hr : (sprLane s n).st = .run) (hl : pageLive s (sprPage n) = true) :
    exec (.ack n seq st) s = .next (ackMessage n seq st s) :=
  congrArg Host.Outcome.next (if_pos ⟨hr, hl⟩)

theorem exec_ack_idle {n seq st : Nat} {s : State} (h : ¬ ((sprLane s n).st = .run ∧ pageLive s (sprPage n) = true)) :
    exec (.ack n seq st) s = .next s :=
  congrArg Host.Outcome.next (if_neg h)

/-! ## A correctable frame of a single lane in RUN (R93, R94, R104) -/

/-- A correctable codeword is counted, and again where it needed correction. -/
def codewordCounted (n : Nat) (f : RxFrame) (s : State) : State :=
  if f.fec = 1 then countK (sprPage n) R.SPR_CNT 1 1 (countK (sprPage n) R.SPR_CNT 0 1 s) else countK (sprPage n) R.SPR_CNT 0 1 s

theorem sprCodeword_correctable {n : Nat} {f : RxFrame} {s : State} (hu : unarmed s (sprPage n)) (hf : f.fec ≠ 2) :
    sprCodeword n f s = (f, codewordCounted n f s) := by
  unfold sprCodeword
  simp only [evalDetector_unarmed _ _ hu]
  simp only [hf, decide_false, Bool.false_eq_true, if_false]
  rfl

theorem changesOnly_codewordCounted (n : Nat) (f : RxFrame) (s : State) :
    changesOnly [.regs] [sprPage n] s (codewordCounted n f s) := by
  have h0 := changesOnly_setReg (p := sprPage n) (off := R.SPR_CNT + 8 * 0)
    (BitVec.ofNat 64 (satAdd 64 (reg s (sprPage n) (R.SPR_CNT + 8 * 0)).toNat 1)) s (by decide)
  unfold codewordCounted
  split
  · exact h0.trans (changesOnly_setReg _ _ (by decide))
  · exact h0

/-- Counting codewords leaves every register below the counters. -/
theorem reg_codewordCounted {n off : Nat} (f : RxFrame) (s : State) (ho : off < R.SPR_CNT) :
    reg (codewordCounted n f s) (sprPage n) off = reg s (sprPage n) off := by
  simp only [R.SPR_CNT] at ho
  unfold codewordCounted
  split
  · rw [reg_countK_off _ _ (by omega) (by decide) (by simp only [R.SPR_CNT]; omega),
      reg_countK_off _ _ (by omega) (by decide) (by simp only [R.SPR_CNT]; omega)]
  · rw [reg_countK_off _ _ (by omega) (by decide) (by simp only [R.SPR_CNT]; omega)]

/-- A lane in RUN that has taken a correctable frame: its frame number and the peer's echo have moved. -/
def laneTaken (f : RxFrame) (l : LaneTrain) : LaneTrain :=
  { l with bad := 0, frameNo := l.frameNo + (rxFseq f + 256 - l.frameNo % 256) % 256, peerEcho := rxEcho f }

/-- The state in which a lane in RUN goes on to what a correctable frame carries. -/
def frameTaken (n : Nat) (f : RxFrame) (s : State) : State :=
  setSprLane n (laneTaken f (sprLane s n)) (codewordCounted n f s)

theorem changesOnly_frameTaken (n : Nat) (f : RxFrame) (s : State) :
    changesOnly [.spr, .regs] [sprPage n] s (frameTaken n f s) :=
  ((changesOnly_codewordCounted n f s).mono (by decide) (by simp)).trans
    ((changesOnly_setSprLane n _ _).mono (by decide) (by simp))

theorem reg_frameTaken {n off : Nat} (f : RxFrame) (s : State) (ho : off < R.SPR_CNT) :
    reg (frameTaken n f s) (sprPage n) off = reg s (sprPage n) off := reg_codewordCounted f s ho

theorem sprLane_frameTaken (n : Nat) (f : RxFrame) (s : State) : sprLane (frameTaken n f s) n = laneTaken f (sprLane s n) :=
  sprLane_setSprLane n _ _

/-- Outside a bundle no skew is judged: the frame is taken and its KIND says the rest. -/
theorem rxInRun_single {n : Nat} {f : RxFrame} {s : State} (hu : unarmed s (sprPage n)) (hr : (sprLane s n).st = .run)
    (hf : rxBad f = false) (hb : inBundle (sprLane s n) = false) : rxInRun n f s = runKind n f (frameTaken n f s) := by
  have hfec : f.fec ≠ 2 := fun h => by simp [rxBad, h] at hf
  have hlane : sprLane (codewordCounted n f s) n = sprLane s n :=
    congrFun (sprLane_congr ((changesOnly_codewordCounted n f s).same .spr (by decide))) n
  have hrun : runFrame n f (codewordCounted n f s) = setSprLane n { sprLane s n with
      bad := 0, frameNo := (sprLane s n).frameNo + (rxFseq f + 256 - (sprLane s n).frameNo % 256) % 256 } (codewordCounted n f s) := by
    unfold runFrame
    rw [hlane]
    simp only [hb, Bool.false_eq_true, if_false]
  unfold rxInRun
  rw [sprCodeword_correctable hu hfec]
  dsimp only
  rw [if_neg (by simp [hf]), hrun, sprLane_setSprLane, if_pos hr, setSprLane_setSprLane]
  rfl

/-- A frame of a lane in RUN is taken, and answered by an IDLE frame where it leaves the lane in RUN. -/
theorem exec_mgmtFrame_run {n : Nat} {f : RxFrame} {s : State} (hl : pageLive s (sprPage n) = true) (hr : (sprLane s n).st = .run)
    (hr' : (sprLane (rxInRun n f s) n).st = .run) : exec (.mgmtFrame n f) s = .next (sprIdle n (rxInRun n f s)) := by
  have htaken : sprReceive n f false ⟨false, 0⟩ s = sprReply n (rxInRun n f s) := by
    unfold sprReceive
    simp only [hl, hr, Bool.not_true, Bool.false_eq_true, if_false]
  have hexec : exec (.mgmtFrame n f) s = .next (sprReceive n f false ⟨false, 0⟩ s) := rfl
  rw [hexec, htaken, sprReply_run hr']

/-! ## One message in a MGMT frame (R112) -/

theorem byteAt_take {l : List Byte} {k n : Nat} (h : k < n) : byteAt (l.take n) k = byteAt l k := by
  unfold byteAt
  rw [List.getD_eq_getElem?_getD, List.getD_eq_getElem?_getD, List.getElem?_take_of_lt h]

theorem byteAt_drop (l : List Byte) (n k : Nat) : byteAt (l.drop n) k = byteAt l (n + k) := by
  unfold byteAt
  rw [List.getD_eq_getElem?_getD, List.getD_eq_getElem?_getD, List.getElem?_drop]

theorem bytesAt_take {l : List Byte} {k n m : Nat} (h : k + n ≤ m) : bytesAt (l.take m) k n = bytesAt l k n := by
  unfold bytesAt
  rw [List.drop_take, List.take_take, Nat.min_eq_left (by omega)]

theorem ofLeBytes_lt (l : List Byte) : ofLeBytes l < 256 ^ l.length := by
  induction l with
  | nil => simp [ofLeBytes]
  | cons b l ih =>
    have hb : b.toNat < 256 := b.isLt
    simp only [ofLeBytes, List.length_cons, Nat.pow_succ]
    omega

theorem bytesAt_lt (l : List Byte) (k n : Nat) : bytesAt l k n < 256 ^ n :=
  (ofLeBytes_lt _).trans_le (Nat.pow_le_pow_right (by decide) (List.length_take_le _ _))

/-- TYPE 0 after the first message ends the list: the frame carries one message. -/
theorem rxMessages_one {n k : Nat} {l : List Byte} (h0 : byteAt l 0 ≠ 0) (h32 : byteAt l 32 = 0) (s : State) :
    rxMessages n (k + 2) l s = rxMessage n (l.take 32) s := by
  have hend : byteAt (l.drop 32) 0 = 0 := by rw [byteAt_drop]; exact h32
  rw [rxMessages, if_neg h0, rxMessages, if_pos hend]

/-- A lane that has noted the SEQ of a message received. -/
def messageNoted (n seq : Nat) (s : State) : State := setSprLane n { sprLane s n with rxMsg := seq } s

theorem rxMessage_ack {n : Nat} {l : List Byte} (h : byteAt l 0 = 0x81) (s : State) :
    rxMessage n l s = ackMessage n (byteAt l 4) (byteAt l 5) (messageNoted n (byteAt l 1) s) := by
  unfold rxMessage
  simp only [h, if_true]
  rfl

theorem rxMessage_status {n : Nat} {l : List Byte} (h : byteAt l 0 = 0x82) (s : State) :
    rxMessage n l s = statusMessage n (bytesAt l 4 4) (messageNoted n (byteAt l 1) s) := by
  unfold rxMessage
  simp only [h, if_true]
  rfl

/-- A lane in RUN after a MGMT frame up to the message it carries. -/
def mgmtTaken (n : Nat) (f : RxFrame) (s : State) : State := messageNoted n (byteAt f.data 1) (frameTaken n f s)

theorem sprLane_mgmtTaken (n : Nat) (f : RxFrame) (s : State) :
    sprLane (mgmtTaken n f s) n = { laneTaken f (sprLane s n) with rxMsg := byteAt f.data 1 } := by
  unfold mgmtTaken messageNoted
  rw [sprLane_setSprLane, sprLane_frameTaken]

theorem changesOnly_mgmtTaken (n : Nat) (f : RxFrame) (s : State) :
    changesOnly [.spr, .regs] [sprPage n] s (mgmtTaken n f s) :=
  (changesOnly_frameTaken n f s).trans ((changesOnly_setSprLane n _ _).mono (by decide) (by simp))

theorem reg_mgmtTaken {n off : Nat} (f : RxFrame) (s : State) (ho : off < R.SPR_CNT) :
    reg (mgmtTaken n f s) (sprPage n) off = reg s (sprPage n) off := reg_frameTaken f s ho

/-- What a MGMT frame with one message does to a single lane in RUN: `act` is what the message does once it is noted. -/
theorem rxInRun_message {n : Nat} {f : RxFrame} {s : State} {act : State → State} (hu : unarmed s (sprPage n))
    (hr : (sprLane s n).st = .run) (hf : rxBad f = false) (hk : rxKind f = 3) (hb : inBundle (sprLane s n) = false)
    (h0 : byteAt f.data 0 ≠ 0) (h32 : byteAt f.data 32 = 0)
    (hact : ∀ u, rxMessage n (f.data.take 32) u = act (messageNoted n (byteAt f.data 1) u)) :
    rxInRun n f s = act (mgmtTaken n f s) := by
  rw [rxInRun_single hu hr hf hb]
  unfold runKind
  rw [hk, if_neg (by decide), if_neg (by decide), if_pos rfl, rxMessages_one h0 h32, hact]
  rfl

theorem rxInRun_status {n : Nat} {f : RxFrame} {s : State} (hu : unarmed s (sprPage n)) (hr : (sprLane s n).st = .run)
    (hf : rxBad f = false) (hk : rxKind f = 3) (hb : inBundle (sprLane s n) = false) (h0 : byteAt f.data 0 = 0x82)
    (h32 : byteAt f.data 32 = 0) : rxInRun n f s = statusMessage n (bytesAt f.data 4 4) (mgmtTaken n f s) :=
  rxInRun_message (act := statusMessage n (bytesAt f.data 4 4)) hu hr hf hk hb (by rw [h0]; decide) h32 (fun u => by
    rw [rxMessage_status (by rw [byteAt_take (by decide), h0]), bytesAt_take (by decide), byteAt_take (by decide)])

theorem rxInRun_ack {n : Nat} {f : RxFrame} {s : State} (hu : unarmed s (sprPage n)) (hr : (sprLane s n).st = .run)
    (hf : rxBad f = false) (hk : rxKind f = 3) (hb : inBundle (sprLane s n) = false) (h0 : byteAt f.data 0 = 0x81)
    (h32 : byteAt f.data 32 = 0) : rxInRun n f s = ackMessage n (byteAt f.data 4) (byteAt f.data 5) (mgmtTaken n f s) :=
  rxInRun_message (act := ackMessage n (byteAt f.data 4) (byteAt f.data 5)) hu hr hf hk hb (by rw [h0]; decide) h32 (fun u => by
    rw [rxMessage_ack (by rw [byteAt_take (by decide), h0]), byteAt_take (by decide), byteAt_take (by decide),
      byteAt_take (by decide)])

/-- An IDLE frame sent leaves the registers. -/
theorem regs_sprIdle (n : Nat) (s : State) : (sprIdle n s).regs = s.regs := rfl

theorem changesOnly_sprIdle (n : Nat) (s : State) : changesOnly [.spr, .out] [] s (sprIdle n s) := changesOnly_sprSend n 1 _ s

/-! ## The clauses -/

/-- SEND of a SYNC_LOAD: the trigger's edge is awaited from now on. -/
theorem exec_send_syncLoad {m n via : Nat} {v : Word} {s : State} (hn : n < 64)
    (j : judge s m (sprPage n) R.SPR_SYNC_CMD 8 (v ||| 0x10000#64) = .ok) (hvia : messageLane s n = some via)
    (ht : fieldOf v 8 8 = 1) :
    completes (.send m n v) s (fun t => flag t (sprPage n) F.SPR_SYNC_CMD_PENDING = true ∧
      fld t (sprPage n) F.SPR_SYNC_CMD_LAST_SEQ = (sprLane s via).txMsg % 256 ∧
      t.out = messageOut s via 1 (fieldOf v 0 4) (reg s (sprPage n) R.SPR_SYNC_INDEX).toNat ++ s.out ∧
      (sprLane t n).syncTrig = some (fieldOf v 0 4, s.mono) ∧ (sprLane t n).pendSeq = (sprLane s via).txMsg ∧
      changesOnly [.spr, .regs, .out, .wst] [sprPage n, sprPage via] s t) := by
  have hstored := changesOnly_sendStored m n v s
  have hspr : sprLane (sendStored m n v s) = sprLane s := sprLane_congr (hstored.same .spr (by decide))
  have hmono : (sendStored m n v s).mono = s.mono := hstored.same .mono (by decide)
  refine ⟨_, exec_send hn j, ?_⟩
  rw [writeSyncCmd_carried ((messageLane_counted0 s hn).trans hvia) (.inl ht), ht, ← sendStored]
  rw [sendFor_syncLoad, trig_sendStored hn, syncIndex_sendStored hn, hspr]
  have hshown : changesOnly [.spr, .regs, .wst] [sprPage n] s (pendingShown n (sprLane s via).txMsg (sendStored m n v s)) :=
    (hstored.mono (by decide) (by simp)).trans ((changesOnly_pendingShown n _ _).mono (by decide) (by simp))
  obtain ⟨hflag, hseq, hout, hpend, hframe⟩ := message_leaves (m := m) (n := n) (via := via) (type := 1) (a := fieldOf v 0 4)
    (b := (reg s (sprPage n) R.SPR_SYNC_INDEX).toNat) (v := v) (s := s)
    (u := loadNoted n (fieldOf v 0 4) (pendingShown n (sprLane s via).txMsg (sendStored m n v s)))
    (by rw [sprLane_loadNoted sendSide (fun _ _ => rfl), sprLane_pendingShown sendSide (fun _ => rfl), hspr])
    (by rw [sprLane_loadNoted LaneTrain.pendSeq (fun _ _ => rfl), pendingShown, sprLane_setSprLane])
    rfl (hshown.trans ((changesOnly_setSprLane n _ _).mono (by decide) (by simp)))
  refine ⟨hflag, hseq, hout, ?_, hpend, hframe⟩
  rw [sprLane_sendMessage LaneTrain.syncTrig (fun _ _ _ _ => rfl) (fun _ _ => rfl), loadNoted, sprLane_setSprLane,
    (changesOnly_pendingShown n _ _).same .mono (by decide), hmono]

/-- SEND of a STATUS_REQ. -/
theorem exec_send_statusReq {m n via : Nat} {v : Word} {s : State} (hn : n < 64)
    (j : judge s m (sprPage n) R.SPR_SYNC_CMD 8 (v ||| 0x10000#64) = .ok) (hvia : messageLane s n = some via)
    (ht : fieldOf v 8 8 = 3) :
    completes (.send m n v) s (fun t => flag t (sprPage n) F.SPR_SYNC_CMD_PENDING = true ∧
      fld t (sprPage n) F.SPR_SYNC_CMD_LAST_SEQ = (sprLane s via).txMsg % 256 ∧
      t.out = messageOut s via 3 0 0 ++ s.out ∧ (sprLane t n).pendSeq = (sprLane s via).txMsg ∧
      changesOnly [.spr, .regs, .out, .wst] [sprPage n, sprPage via] s t) := by
  have hstored := changesOnly_sendStored m n v s
  have hspr : sprLane (sendStored m n v s) = sprLane s := sprLane_congr (hstored.same .spr (by decide))
  refine ⟨_, exec_send hn j, ?_⟩
  rw [writeSyncCmd_carried ((messageLane_counted0 s hn).trans hvia) (.inr ht), ht, ← sendStored]
  rw [sendFor_statusReq, hspr]
  exact message_leaves (m := m) (v := v) (by rw [sprLane_pendingShown sendSide (fun _ => rfl), hspr])
    (by rw [pendingShown, sprLane_setSprLane]) rfl
    ((hstored.mono (by decide) (by simp)).trans ((changesOnly_pendingShown n _ _).mono (by decide) (by simp)))

/-- A SEND that no lane carries, or of a type that is not sent, is refused. -/
theorem exec_send_refused {m n : Nat} {v : Word} {s : State} (hn : n < 64)
    (j : judge s m (sprPage n) R.SPR_SYNC_CMD 8 (v ||| 0x10000#64) = .ok)
    (h : messageLane s n = none ∨ ¬ (fieldOf v 8 8 = 1 ∨ fieldOf v 8 8 = 3)) :
    exec (.send m n v) s = .next (refuseCfg (sprPage n) (counted0 m s)) := by
  rw [exec_send hn j, writeSyncCmd_refused (by rwa [messageLane_counted0 s hn])]

/-- A MGMT frame that carries a STATUS. -/
theorem exec_mgmtFrame_status {n : Nat} {f : RxFrame} {s : State} (hl : pageLive s (sprPage n) = true)
    (hu : unarmed s (sprPage n)) (hr : (sprLane s n).st = .run) (hf : rxBad f = false) (hk : rxKind f = 3)
    (hb : inBundle (sprLane s n) = false) (h0 : byteAt f.data 0 = 0x82) (h32 : byteAt f.data 32 = 0) :
    completes (.mgmtFrame n f) s (fun t => fld t (sprPage n) F.SPR_SYNC_CMD_PEER_STATUS = bytesAt f.data 4 4 ∧
      (sprLane t n).rxMsg = byteAt f.data 1 ∧ changesOnly [.spr, .regs, .out] [sprPage n] s t) := by
  have htaken := rxInRun_status hu hr hf hk hb h0 h32
  have hlane : sprLane (statusMessage n (bytesAt f.data 4 4) (mgmtTaken n f s)) n =
      { laneTaken f (sprLane s n) with rxMsg := byteAt f.data 1 } := sprLane_mgmtTaken n f s
  refine ⟨_, exec_mgmtFrame_run hl hr (by rw [htaken, hlane]; exact hr), ?_⟩
  rw [htaken]
  refine ⟨?_, ?_, ?_⟩
  · rw [fld_of_reg (reg_congr (regs_sprIdle n _) _ _), statusMessage, fld_setFld_self _ _ _ _ (by decide)]
    exact Nat.mod_eq_of_lt (bytesAt_lt f.data 4 4)
  · rw [sprIdle, sprLane_sprSend LaneTrain.rxMsg (fun _ _ _ _ => rfl), hlane]
  · refine changesOnly.trans ?_ ((changesOnly_sprIdle n _).mono (by decide) (by simp))
    exact ((changesOnly_mgmtTaken n f s).mono (by decide) (by simp)).trans
      ((changesOnly_setFld _ _ (by decide)).mono (by decide) (by simp))

/-- A MGMT frame that carries the acknowledgement that the lane's page awaits. -/
theorem exec_mgmtFrame_ack {n : Nat} {f : RxFrame} {s : State} (hn : n < 64) (hl : pageLive s (sprPage n) = true)
    (hu : unarmed s (sprPage n)) (hr : (sprLane s n).st = .run) (hf : rxBad f = false) (hk : rxKind f = 3)
    (hb : inBundle (sprLane s n) = false) (h0 : byteAt f.data 0 = 0x81) (h32 : byteAt f.data 32 = 0)
    (hp : flag s (sprPage n) F.SPR_SYNC_CMD_PENDING = true) (hs : (sprLane s n).pendSeq = byteAt f.data 4) :
    completes (.mgmtFrame n f) s (fun t => flag t (sprPage n) F.SPR_SYNC_CMD_PENDING = false ∧
      fld t (sprPage n) F.SPR_SYNC_CMD_ACK_STATUS = byteAt f.data 5 % 2 ∧
      (byteAt f.data 5 = 1 → stuck t (sprPage n) S.SPR_SYNC_UNSUPPORTED) ∧
      changesOnly [.spr, .regs, .events, .out] [sprPage n] s t) := by
  have htaken := rxInRun_ack hu hr hf hk hb h0 h32
  have hawaits : awaitsAck (mgmtTaken n f s) n (byteAt f.data 4) = true := by
    refine awaitsAck_self ((flag_of_reg (reg_mgmtTaken f s (by decide))).trans hp) ?_
    rw [sprLane_mgmtTaken]
    exact hs
  obtain ⟨hflag, hstatus, hstuck, hst, hack⟩ := ackMessage_spec (st := byteAt f.data 5) hn hawaits
  rw [sprLane_mgmtTaken] at hst
  refine ⟨_, exec_mgmtFrame_run hl hr (by rw [htaken, hst]; exact hr), ?_⟩
  rw [htaken]
  have hreg (off : Nat) := reg_congr (regs_sprIdle n (ackMessage n (byteAt f.data 4) (byteAt f.data 5) (mgmtTaken n f s)))
    (sprPage n) off
  refine ⟨(flag_of_reg (hreg _)).trans hflag, (fld_of_reg (hreg _)).trans hstatus, fun h1 => ?_, ?_⟩
  · dsimp only [stuck]
    rw [hreg]
    exact hstuck h1
  · refine changesOnly.trans ?_ ((changesOnly_sprIdle n _).mono (by decide) (by simp))
    exact ((changesOnly_mgmtTaken n f s).mono (by decide) (by simp)).trans hack

/-- A message that goes unanswered is given up and flagged. -/
theorem syncTimeout_spec {n : Nat} (s : State) (hn : n < 64) :
    flag (setSticky (sprPage n) S.SPR_SYNC_TIMEOUT (setFld (sprPage n) F.SPR_SYNC_CMD_PENDING 0 s)) (sprPage n)
        F.SPR_SYNC_CMD_PENDING = false ∧
      stuck (setSticky (sprPage n) S.SPR_SYNC_TIMEOUT (setFld (sprPage n) F.SPR_SYNC_CMD_PENDING 0 s)) (sprPage n) S.SPR_SYNC_TIMEOUT ∧
      changesOnly [.regs, .events, .out] [sprPage n] s
        (setSticky (sprPage n) S.SPR_SYNC_TIMEOUT (setFld (sprPage n) F.SPR_SYNC_CMD_PENDING 0 s)) := by
  refine ⟨?_, stuck_setSticky _ _ _ (by decide), ?_⟩
  · rw [flag_of_reg (syncCmd_setSticky _ hn (by decide))]
    exact flag_setFld_bool (f := F.SPR_SYNC_CMD_PENDING) false s (by decide) rfl
  · exact ((changesOnly_setFld 0 s (by decide)).mono (by decide) (by simp)).trans
      ((changesOnly_setSticky _ _ _).mono (by decide) (by simp))

/-- Settles O14: a SEND goes out or is refused by its type and by the lane that carries it; an acknowledgement acts on the page
that awaits it, alone or in a MGMT frame. -/
theorem spurMessages : Obligations.SpurMessages := by
  refine ⟨?_, ?_, ?_, ?_, ?_, ?_, ?_, ?_, ?_, ?_, ?_⟩
  · intro s m n via v hn j hvia ht
    exact exec_send_syncLoad hn j hvia ht
  · intro s m n via v hn j hvia ht
    exact exec_send_statusReq hn j hvia ht
  · intro s m n v hn j hvia
    exact ⟨_, exec_send_refused hn j (.inl hvia), send_refused s hn⟩
  · intro s n seq st hn hr hl hp hs hst
    obtain ⟨hflag, hstatus⟩ := ackShown_page n st s
    refine ⟨_, exec_ack hr hl, ?_⟩
    rw [ackMessage_own (awaitsAck_self hp hs), if_neg hst]
    exact ⟨hflag, hstatus, changesOnly_ackShown n st s⟩
  · intro s n seq st h
    by_cases hrun : (sprLane s n).st = .run ∧ pageLive s (sprPage n) = true
    · obtain ⟨hr, hl⟩ := hrun
      obtain ⟨hno, hb⟩ := (h.resolve_left (by simp [hr])).resolve_left (by simp [hl])
      refine ⟨_, exec_ack hr hl, ackMessage_unawaited hb ?_⟩
      rcases hno with hp | hs
      · simp [awaitsAck, hp]
      · simp [awaitsAck, hs]
    · exact ⟨_, exec_ack_idle hrun, rfl⟩
  · intro s m n v hn j h1 h3
    exact ⟨_, exec_send_refused hn j (.inr (by simp [h1, h3])), send_refused s hn⟩
  · intro s n seq hn hr hl hp hs
    obtain ⟨hflag, hstatus, hstuck, hlane, hframe⟩ := ackMessage_unsupported hn (awaitsAck_self hp hs)
    exact ⟨_, exec_ack hr hl, hflag, hstatus, hstuck, by rw [hlane], hframe⟩
  · intro s n hn hp
    exact ⟨_, congrArg Host.Outcome.next (if_pos hp), syncTimeout_spec s hn⟩
  · intro s n arg hn hr hl
    exact ⟨_, congrArg Host.Outcome.next (if_pos ⟨hr, hl⟩), fld_setFld_self _ _ arg s (by decide), changesOnly_setFld arg s (by decide)⟩
  · intro s n fr hn hl hu hr hf hk hb h0 h32
    exact exec_mgmtFrame_status hl hu hr hf hk hb h0 h32
  · intro s n fr hn hl hu hr hf hk hb h0 h32 hp hs
    exact exec_mgmtFrame_ack hn hl hu hr hf hk hb h0 h32 hp hs

end Sys2Proof.Machine
end

section
/-! PROOFS. The stream table: what a READ shows, and what a WRITE that passes its checks changes and leaves (R114 to R116). -/

namespace Sys2Proof.Machine

/-! ## Words and registers written in a row -/

theorem wtGet_wtSet_ne {t : WordTab} {a k : Nat} (w : Word) (h : k ≠ a) : wtGet (wtSet t a w) k = wtGet t k :=
  sparseGet_set_ne _ _ _ h

/-- Words written into a table leave those beside them. -/
theorem wtGet_wtSetMany_outside {l : List Word} {t : WordTab} {a k : Nat} (h : k < a ∨ a + l.length ≤ k) :
    wtGet (wtSetMany t a l) k = wtGet t k := by
  induction l generalizing t a with
  | nil => rfl
  | cons w l ih =>
    simp only [List.length_cons] at h
    rw [wtSetMany, ih (by omega), wtGet_wtSet_ne w (by omega)]

/-- Words written into a table read back. -/
theorem wtGet_wtSetMany_inside {l : List Word} {t : WordTab} {a k : Nat} (h : k < l.length) :
    wtGet (wtSetMany t a l) (a + k) = l.getD k 0 := by
  induction l generalizing t a k with
  | nil => simp at h
  | cons w l ih =>
    rw [wtSetMany]
    cases k with
    | zero =>
      rw [wtGet_wtSetMany_outside (by omega)]
      exact sparseGet_set_self _ _ _ _
    | succ k =>
      rw [show a + (k + 1) = a + 1 + k by omega, ih (by simpa using h), List.getD_cons_succ]

/-- Registers stored in a row leave those below them. -/
theorem reg_setRegsFrom_below {p base off : Nat} {l : List Word} {s : State} (h : off < base) :
    reg (setRegsFrom p base l s) p off = reg s p off := by
  induction l generalizing base s with
  | nil => rfl
  | cons w l ih => rw [setRegsFrom, ih (by omega), reg_setReg_ne _ _ (by unfold regAddr; omega)]

/-- Registers stored in a row read back. -/
theorem reg_setRegsFrom {p base k : Nat} {l : List Word} {s : State} (h : k < l.length) :
    reg (setRegsFrom p base l s) p (base + 8 * k) = l.getD k 0 := by
  induction l generalizing base k s with
  | nil => simp at h
  | cons w l ih =>
    rw [setRegsFrom]
    cases k with
    | zero => rw [reg_setRegsFrom_below (by omega)]; exact reg_setReg_self _ _ _ _
    | succ k =>
      rw [show base + 8 * (k + 1) = base + 8 + 8 * k by omega, ih (by simpa using h), List.getD_cons_succ]

theorem changesOnly_setRegsFrom {p base : Nat} {l : List Word} (s : State) (h : base + 8 * l.length ≤ 0x1000) :
    changesOnly [.regs] [p] s (setRegsFrom p base l s) := by
  induction l generalizing base s with
  | nil => exact changesOnly.refl _ _ s
  | cons w l ih =>
    simp only [List.length_cons] at h
    exact (changesOnly_setReg w s (by omega)).trans (ih _ (by omega))

/-! ## The commands (R115, R473) -/

theorem not_guarded_stCtrl {n : Nat} (hn : n < 64) : regGuarded (sprPage n) R.SPR_ST_CTRL = false := by
  decide +revert

theorem exec_sprStRead {m n : Nat} {v : Word} {s : State} (hn : n < 64)
    (j : judge s m (sprPage n) R.SPR_ST_CTRL 8 (v ||| 1#64) = .ok) (hv : bitOf v 1 = false) :
    exec (.sprStRead m n v) s = .next (stRead n (counted0 m s)) := by
  have h0 : bitOf (v ||| 1#64) 0 = true := by rw [bitOf_or]; simp [bitOf]
  have h1 : bitOf (v ||| 1#64) 1 = false := by rw [bitOf_or, hv]; decide
  change Host.Outcome.next (guardedWrite m (sprPage n) R.SPR_ST_CTRL (v ||| 1#64) (writeStCtrl n (v ||| 1#64)) s) = _
  rw [guardedWrite_plain j (not_guarded_stCtrl hn), writeStCtrl, actIf, actIf, if_pos h0, if_neg (by simp [h1])]

theorem exec_sprStWrite {m n : Nat} {v : Word} {s : State} (hn : n < 64)
    (j : judge s m (sprPage n) R.SPR_ST_CTRL 8 (v ||| 2#64) = .ok) (hv : bitOf v 0 = false) :
    exec (.sprStWrite m n v) s = .next (stWrite n (counted0 m s)) := by
  have h0 : bitOf (v ||| 2#64) 0 = false := by rw [bitOf_or, hv]; decide
  have h1 : bitOf (v ||| 2#64) 1 = true := by rw [bitOf_or]; simp [bitOf]
  change Host.Outcome.next (guardedWrite m (sprPage n) R.SPR_ST_CTRL (v ||| 2#64) (writeStCtrl n (v ||| 2#64)) s) = _
  rw [guardedWrite_plain j (not_guarded_stCtrl hn), writeStCtrl, actIf, actIf, if_pos h1, if_neg (by simp [h0])]

/-! ## The table rests on the words of the Spur part -/

theorem stWord_congr {s t : State} (h : t.spr.streams = s.spr.streams) : stWord t = stWord s := by
  funext k w; unfold stWord; rw [h]

theorem stValid_congr {s t : State} (h : t.spr.streams = s.spr.streams) (k : Nat) : stValid t k = stValid s k := by
  unfold stValid; rw [stWord_congr h]

theorem stFaceplate_congr {s t : State} (h : t.spr.streams = s.spr.streams) (k : Nat) : stFaceplate t k = stFaceplate s k := by
  unfold stFaceplate st0; rw [stWord_congr h]

theorem stLane_congr {s t : State} (h : t.spr.streams = s.spr.streams) (k : Nat) : stLane t k = stLane s k := by
  unfold stLane st0; rw [stWord_congr h]

/-- Counting the request changes neither the table nor the checks of an entry. -/
theorem spr_counted0 (m : Nat) (s : State) : (counted0 m s).spr = s.spr := (changesOnly_counted0 m s).same .spr (by decide)

theorem stResult_counted0 (m n k : Nat) (ws : List Word) (s : State) : stResult (counted0 m s) n k ws = stResult s n k ws := by
  unfold counted0 countBar0; split <;> rfl

theorem stWritten_counted0 {m n : Nat} (s : State) (hn : n < 64) :
    stWritten (counted0 m s) (sprPage n) = stWritten s (sprPage n) := by
  unfold stWritten
  rw [reg_counted0_spr s hn (by decide), reg_counted0_spr s hn (by decide), reg_counted0_spr s hn (by decide),
    reg_counted0_spr s hn (by decide)]

theorem entry_counted0 {m n : Nat} (s : State) (hn : n < 64) :
    fld (counted0 m s) (sprPage n) F.SPR_ST_ADDR_ENTRY = fld s (sprPage n) F.SPR_ST_ADDR_ENTRY :=
  fld_of_reg (reg_counted0_spr s hn (by decide))

/-! ## The checks (R115) -/

/-- A check has a code that RESULT holds. -/
theorem stResult_lt (s : State) (n k : Nat) (ws : List Word) : stResult s n k ws < 16 := by
  unfold stResult
  dsimp only
  split_ifs <;> decide

/-- An entry that is valid may only be made invalid, word 0 otherwise as it was, in the page of its lane (checks 4 and 7). -/
theorem stLane_of_passed {s : State} {n k : Nat} {ws : List Word} (h : stResult s n k ws = 0) (hv : stValid s k = true) :
    stLane s k = n := by
  unfold stResult at h
  dsimp only at h
  generalize (if stSrcKind (stStore k ws s) k = 0 then 4096 else 65535) = lim at h
  split_ifs at h with _ _ _ hpage _ _ hbusy
  have hsame : withBit (stWord s k 0) 0 false = withBit (stWord (stStore k ws s) k 0) 0 false := by
    simp only [hv, Bool.true_and, Bool.not_eq_true', decide_eq_false_iff_not, not_not] at hbusy
    exact hbusy.1
  have hlane (w : Word) : fieldOf (withBit w 0 false) 2 6 = fieldOf w 2 6 := fieldOf_withField_ne _ _ _ _ _ _ (by decide)
  have hkept : stLane s k = stLane (stStore k ws s) k := by
    unfold stLane st0
    rw [← hlane (stWord s k 0), hsame, hlane]
  rw [hkept]
  exact not_not.mp hpage

/-! ## A WRITE that fails a check -/

/-- The checks of the entry that a page names, over the words of the page. -/
def entryResult (n : Nat) (s : State) : Nat :=
  stResult s n (fld s (sprPage n) F.SPR_ST_ADDR_ENTRY) (stWritten s (sprPage n))

theorem stWrite_failed {n : Nat} {s : State} (h : entryResult n s ≠ 0) :
    stWrite n s = setSticky (sprPage n) S.CFG_REFUSED (setFld (sprPage n) F.SPR_ST_CTRL_RESULT (entryResult n s) s) := by
  have hshown : tableResult (sprPage n) F.SPR_ST_CTRL_RESULT (entryResult n s) s =
      setSticky (sprPage n) S.CFG_REFUSED (setFld (sprPage n) F.SPR_ST_CTRL_RESULT (entryResult n s) s) := by
    simp [tableResult, stickyIf, h]
  rw [← hshown]
  exact if_pos h

theorem stWrite_failed_spec {n : Nat} {s : State} (hn : n < 64) (h : entryResult n s ≠ 0) :
    fld (stWrite n s) (sprPage n) F.SPR_ST_CTRL_RESULT = entryResult n s ∧ stuck (stWrite n s) (sprPage n) S.CFG_REFUSED ∧
      changesOnly [.regs, .wst, .events, .out] [sprPage n] s (stWrite n s) := by
  rw [stWrite_failed h]
  refine ⟨?_, stuck_setSticky _ _ _ (by decide), ?_⟩
  · rw [fld_of_reg ((setSticky_page (sprPage_plain hn) (by decide)).2 _ (by decide) (by decide)),
      fld_setFld_self _ _ _ _ (by decide)]
    exact Nat.mod_eq_of_lt (stResult_lt s n _ _)
  · exact ((changesOnly_setFld _ s (by decide)).mono (by decide) (by simp)).trans
      ((changesOnly_setSticky _ _ _).mono (by decide) (by simp))

/-! ## An entry stored (R114 to R116) -/

theorem changesOnly_stStore (k : Nat) (ws : List Word) (s : State) : changesOnly [.spr] [] s (stStore k ws s) :=
  ⟨fun x hx => by cases x <;> simp_all [same, stStore], sameRegs_of_eq rfl⟩

theorem stWord_stStore {k w : Nat} {ws : List Word} (s : State) (h : w < ws.length) :
    stWord (stStore k ws s) k w = ws.getD w 0 := wtGet_wtSetMany_inside h

theorem stWord_stStore_ne {k j w : Nat} {ws : List Word} (s : State) (hl : ws.length ≤ 6) (hj : j ≠ k) (hw : w < 6) :
    stWord (stStore k ws s) j w = stWord s j w := wtGet_wtSetMany_outside (by omega)

theorem changesOnly_setExpect (k : Nat) (e : Option Nat) (s : State) : changesOnly [.spr] [] s (setExpect k e s) :=
  ⟨fun x hx => by cases x <;> simp_all [same, setExpect], sameRegs_of_eq rfl⟩

theorem stExpect_setExpect_none (k : Nat) (s : State) : stExpect (setExpect k none s) k = none := by
  simp [stExpect, setExpect, ntGet, ntSet]

theorem stExpect_congr {s t : State} (h : t.spr.expect = s.spr.expect) (k : Nat) : stExpect t k = stExpect s k := by
  unfold stExpect; rw [h]

theorem changesOnly_fplRestart (k : Nat) (s : State) : changesOnly [.fpl] [] s (fplRestart k s) := by
  unfold fplRestart
  split
  · exact ⟨fun x hx => by cases x <;> simp_all [same, setFplStream], sameRegs_of_eq rfl⟩
  · exact changesOnly.refl _ _ s

/-- The Faceplate of an entry rechecks its load: it may refuse the stream, and flags that. -/
theorem changesOnly_fplRecheck (k : Nat) (s : State) :
    changesOnly [.fpl, .regs, .events, .out] [fplPage (stFaceplate s k)] s (fplRecheck k s) := by
  have hload (l : List Nat) : changesOnly [.fpl, .regs, .events, .out] [fplPage (stFaceplate s k)] s
      { s with fpl := { s.fpl with overload := l } } :=
    ⟨fun x hx => by cases x <;> simp_all [same], sameRegs_of_eq rfl⟩
  unfold fplRecheck
  dsimp only
  split
  · exact (hload _).trans ((changesOnly_setSticky _ _ _).mono (by decide) (by simp))
  · exact hload _

/-! ## An engine forgets a stream (R116, R128) -/

theorem changesOnly_rchDrop (k : Nat) (s : State) : changesOnly [.rch] [] s (rchDrop k s) :=
  ⟨fun x hx => by cases x <;> simp_all [same, rchDrop, setRchStream, setRchQueue], sameRegs_of_eq rfl⟩

/-- The engine of the entry holds no block of the stream any more. -/
theorem rchQueue_rchDrop (k : Nat) (s : State) : ∀ b ∈ rchQueue (rchDrop k s) (stLane s k), b.stream ≠ k := by
  have hqueue : rchQueue (rchDrop k s) (stLane s k) = (rchQueue s (stLane s k)).filter (fun b => decide (b.stream ≠ k)) :=
    sparseGet_set_self (fun _ => ([] : List RchBlock)) s.rch.queue (stLane s k) _
  intro b hb
  rw [hqueue] at hb
  simpa using (List.mem_filter.mp hb).2

/-! ## A WRITE that passes its checks -/

/-- What follows the change of an entry: a stream that is new restarts, and its Faceplate rechecks its load unless the entry stayed
valid. -/
def entrySettled (k : Nat) (was : Bool) (s : State) : State :=
  if stValid s k && !was then fplRecheck k (fplRestart k (setExpect k none s)) else if !stValid s k then fplRecheck k s else s

theorem entrySettled_spec (k : Nat) (was : Bool) (s : State) :
    (entrySettled k was s).spr.streams = s.spr.streams ∧
      (was = false → stValid s k = true → stExpect (entrySettled k was s) k = none) ∧
      changesOnly [.spr, .fpl, .regs, .events, .out] [fplPage (stFaceplate s k)] s (entrySettled k was s) := by
  have hrecheck (u : State) : (fplRecheck k u).spr = u.spr := (changesOnly_fplRecheck k u).same .spr (by decide)
  have hrestart (u : State) : (fplRestart k u).spr = u.spr := (changesOnly_fplRestart k u).same .spr (by decide)
  unfold entrySettled
  split
  · have hnew : (fplRecheck k (fplRestart k (setExpect k none s))).spr = (setExpect k none s).spr := (hrecheck _).trans (hrestart _)
    have hbegun : changesOnly [.spr, .fpl, .regs, .events, .out] [fplPage (stFaceplate s k)] s (fplRestart k (setExpect k none s)) :=
      ((changesOnly_setExpect k none s).mono (by decide) (by simp)).trans
        ((changesOnly_fplRestart k _).mono (by decide) (by simp))
    have hface : stFaceplate (fplRestart k (setExpect k none s)) k = stFaceplate s k :=
      stFaceplate_congr (congrArg SprState.streams (hrestart _)) k
    refine ⟨(congrArg SprState.streams hnew).trans rfl, fun _ _ => ?_, hbegun.trans ?_⟩
    · rw [stExpect_congr (congrArg SprState.expect hnew)]
      exact stExpect_setExpect_none k s
    · exact hface ▸ (changesOnly_fplRecheck k (fplRestart k (setExpect k none s))).mono (by decide) (by simp)
  · rename_i hstay
    have hvoid (hw : was = false) (hv : stValid s k = true) : False := hstay (by simp [hw, hv])
    split
    · exact ⟨congrArg SprState.streams (hrecheck s), fun hw hv => (hvoid hw hv).elim,
        (changesOnly_fplRecheck k s).mono (by decide) (by simp)⟩
    · exact ⟨rfl, fun hw hv => (hvoid hw hv).elim, changesOnly.refl _ _ s⟩

/-- The state in which entry `k` holds the words `ws`, a cleared word 4, and no block of its stream where it has ceased to be valid. -/
def entryStored (n k : Nat) (ws : List Word) (s : State) : State :=
  stStore k (ws ++ [0]) (if stValid s k && !bitOf (ws.headD 0) 0 then rchDrop k (setFld (sprPage n) F.SPR_ST_CTRL_RESULT 0 s)
    else setFld (sprPage n) F.SPR_ST_CTRL_RESULT 0 s)

theorem stWrite_passed {n : Nat} {s : State} (h : entryResult n s = 0) : stWrite n s =
    entrySettled (fld s (sprPage n) F.SPR_ST_ADDR_ENTRY) (stValid s (fld s (sprPage n) F.SPR_ST_ADDR_ENTRY))
      (entryStored n (fld s (sprPage n) F.SPR_ST_ADDR_ENTRY) (stWritten s (sprPage n)) s) := by
  unfold entryResult at h
  unfold stWrite
  dsimp only
  rw [h, if_neg (by simp)]
  rfl

theorem changesOnly_entryStored (n k : Nat) (ws : List Word) (s : State) :
    changesOnly [.spr, .rch, .regs] [sprPage n] s (entryStored n k ws s) := by
  have hshown : changesOnly [.spr, .rch, .regs] [sprPage n] s (setFld (sprPage n) F.SPR_ST_CTRL_RESULT 0 s) :=
    (changesOnly_setFld 0 s (by decide)).mono (by decide) (by simp)
  refine changesOnly.trans ?_ ((changesOnly_stStore k (ws ++ [0]) _).mono (by decide) (by simp))
  split
  · exact hshown.trans ((changesOnly_rchDrop k _).mono (by decide) (by simp))
  · exact hshown

/-- What the table holds once an entry is stored, whatever its engine has forgotten. -/
theorem streams_entryStored (n k : Nat) (ws : List Word) (s : State) :
    (entryStored n k ws s).spr.streams = (stStore k (ws ++ [0]) s).spr.streams := by
  unfold entryStored
  split <;> rfl

theorem result_entryStored (n k : Nat) (ws : List Word) (s : State) :
    fld (entryStored n k ws s) (sprPage n) F.SPR_ST_CTRL_RESULT = 0 := by
  have hregs : (entryStored n k ws s).regs = (setFld (sprPage n) F.SPR_ST_CTRL_RESULT 0 s).regs := by
    unfold entryStored
    split <;> rfl
  rw [fld_of_reg (reg_congr hregs _ _), fld_setFld_self _ _ _ _ (by decide)]
  exact Nat.zero_mod _

/-- The queues of the engines stay, unless a valid entry ceases to be valid. -/
theorem rch_entryStored_kept {n k : Nat} {ws : List Word} {s : State} (h : stValid s k = false ∨ bitOf (ws.headD 0) 0 = true) :
    (entryStored n k ws s).rch = s.rch := by
  unfold entryStored
  rw [if_neg (by rcases h with h | h <;> rw [h] <;> simp)]
  rfl

theorem rch_entryStored_dropped {n k : Nat} {ws : List Word} {s : State} (hv : stValid s k = true)
    (hw : bitOf (ws.headD 0) 0 = false) :
    (entryStored n k ws s).rch = (rchDrop k (setFld (sprPage n) F.SPR_ST_CTRL_RESULT 0 s)).rch := by
  unfold entryStored
  rw [if_pos (by rw [hv, hw]; rfl)]
  rfl

/-- What a WRITE that passes its checks leaves in entry `k` and around it. -/
theorem stWrite_passed_spec {n k : Nat} {s : State} (hn : n < 64) (hk : k = fld s (sprPage n) F.SPR_ST_ADDR_ENTRY)
    (h : stResult s n k (stWritten s (sprPage n)) = 0) :
    fld (stWrite n s) (sprPage n) F.SPR_ST_CTRL_RESULT = 0 ∧
      (∀ w, w < 4 → stWord (stWrite n s) k w = (stWritten s (sprPage n)).getD w 0) ∧ stWord (stWrite n s) k 4 = 0 ∧
      (stValid s k = false → stValid (stWrite n s) k = true → stExpect (stWrite n s) k = none) ∧
      (∀ j w, j ≠ k → w < 6 → stWord (stWrite n s) j w = stWord s j w) ∧
      (stValid s k = false ∨ stValid (stWrite n s) k = true → (stWrite n s).rch = s.rch) ∧
      (stValid s k = true → stValid (stWrite n s) k = false → ∀ b ∈ rchQueue (stWrite n s) n, b.stream ≠ k) ∧
      changesOnly [.spr, .rch, .fpl, .regs, .wst, .events, .out] [sprPage n, fplPage (stFaceplate (stWrite n s) k)] s
        (stWrite n s) := by
  have hlane := stLane_of_passed h
  have hwrite : stWrite n s = entrySettled k (stValid s k) (entryStored n k (stWritten s (sprPage n)) s) := by
    rw [stWrite_passed (by unfold entryResult; rw [← hk]; exact h), ← hk]
  rw [hwrite]
  generalize hws : stWritten s (sprPage n) = ws
  have hlen : (ws ++ [0]).length = 5 := by rw [← hws]; rfl
  obtain ⟨hstreams, hexpect, hframe⟩ := entrySettled_spec k (stValid s k) (entryStored n k ws s)
  have hstored := changesOnly_entryStored n k ws s
  have htable := hstreams.trans (streams_entryStored n k ws s)
  have hrch : (entrySettled k (stValid s k) (entryStored n k ws s)).rch = (entryStored n k ws s).rch :=
    hframe.same .rch (by decide)
  have hvalid : stValid (entrySettled k (stValid s k) (entryStored n k ws s)) k = bitOf (ws.headD 0) 0 := by
    rw [stValid_congr htable, stValid, stWord_stStore s (by omega), ← hws]
    rfl
  rw [stFaceplate_congr hstreams, hvalid]
  refine ⟨?_, fun w hw => ?_, ?_, fun hold hnew => ?_, fun j w hj hw => ?_, fun hkeep => ?_, fun hold hnew => ?_, ?_⟩
  · have hapart : sprPage n ∉ [fplPage (stFaceplate (entryStored n k ws s) k)] := by
      simp only [List.mem_singleton, sprPage, fplPage]; omega
    rw [fld_of_reg (hframe.reg hapart (sprPage_plain hn) (by decide)), result_entryStored]
  · rw [stWord_congr htable, stWord_stStore s (by omega), List.getD_append _ _ _ _ (by simp at hlen; omega)]
  · rw [stWord_congr htable, stWord_stStore s (by omega), ← hws]
    rfl
  · refine hexpect hold ?_
    rw [← stValid_congr hstreams, hvalid]
    exact hnew
  · rw [stWord_congr htable, stWord_stStore_ne s (by omega) hj hw]
  · rw [hrch, rch_entryStored_kept hkeep]
  · have hqueue := rchQueue_rchDrop k (setFld (sprPage n) F.SPR_ST_CTRL_RESULT 0 s)
    rw [stLane_congr (s := s) (t := setFld (sprPage n) F.SPR_ST_CTRL_RESULT 0 s) rfl k, hlane hold] at hqueue
    unfold rchQueue at hqueue ⊢
    rwa [hrch, rch_entryStored_dropped hold hnew]
  · exact (hstored.mono (by decide) (by simp)).trans (hframe.mono (by decide) (by simp))

/-! ## The clauses -/

/-- A READ loads the five words and the expected index of the entry named. -/
theorem stRead_spec (n : Nat) (s : State) :
    (∀ k, k < 5 → reg (stRead n s) (sprPage n) (R.SPR_ST_DATA + 8 * k) = stWord s (fld s (sprPage n) F.SPR_ST_ADDR_ENTRY) k) ∧
      reg (stRead n s) (sprPage n) (R.SPR_ST_DATA + 40) = stNextIndex s (fld s (sprPage n) F.SPR_ST_ADDR_ENTRY) ∧
      changesOnly [.regs] [sprPage n] s (stRead n s) := by
  refine ⟨fun k hk => ?_, reg_setRegsFrom (k := 5) (by simp), changesOnly_setRegsFrom s (by simp [R.SPR_ST_DATA])⟩
  refine (reg_setRegsFrom (by simp only [List.length_cons, List.length_nil]; omega)).trans ?_
  interval_cases k <;> rfl

/-- Settles O15: a READ shows the entry; a WRITE shows its first failing check, or stores the entry and lets its engine and its Faceplate
follow. -/
theorem streamTable : Obligations.StreamTable := by
  refine ⟨?_, ?_, ?_⟩
  · intro s m n v hn j hv
    obtain ⟨hwords, hindex, hframe⟩ := stRead_spec n (counted0 m s)
    rw [entry_counted0 s hn] at hwords hindex
    rw [stWord_congr (congrArg SprState.streams (spr_counted0 m s))] at hwords
    have hnext (k : Nat) : stNextIndex (counted0 m s) k = stNextIndex s k := by
      unfold stNextIndex
      rw [stExpect_congr (congrArg SprState.expect (spr_counted0 m s))]
    refine ⟨_, exec_sprStRead hn j hv, hwords, hindex.trans (hnext _), ?_⟩
    exact ((changesOnly_counted0 m s).mono (by decide) (by simp)).trans (hframe.mono (by decide) (by simp))
  · rintro s m n k v hn j hv rfl hr
    have hresult : entryResult n (counted0 m s) =
        stResult s n (fld s (sprPage n) F.SPR_ST_ADDR_ENTRY) (stWritten s (sprPage n)) := by
      unfold entryResult
      rw [entry_counted0 s hn, stWritten_counted0 s hn, stResult_counted0]
    obtain ⟨hshown, hstuck, hframe⟩ := stWrite_failed_spec hn (hresult ▸ hr)
    refine ⟨_, exec_sprStWrite hn j hv, hshown.trans hresult, hstuck, ?_⟩
    exact ((changesOnly_counted0 m s).mono (by decide) (by simp)).trans hframe
  · intro s m n k v hn j hv hk hr
    have hspr := congrArg SprState.streams (spr_counted0 m s)
    obtain ⟨hshown, hwords, hfour, hexpect, hothers, hkeep, hdrop, hframe⟩ := stWrite_passed_spec (s := counted0 m s) (k := k) hn
      (by rw [entry_counted0 s hn, hk]) (by rw [stWritten_counted0 s hn, stResult_counted0, hr])
    rw [stWritten_counted0 s hn] at hwords
    rw [stValid_congr hspr] at hexpect hkeep hdrop
    rw [stWord_congr hspr] at hothers
    rw [(changesOnly_counted0 m s).same .rch (by decide)] at hkeep
    refine ⟨_, exec_sprStWrite hn j hv, hshown, hwords, hfour, hexpect, hothers, hkeep, hdrop, ?_⟩
    exact ((changesOnly_counted0 m s).mono (by decide) (by simp)).trans hframe

end Sys2Proof.Machine
end

section
/-! PROOFS. Two statements on lanes that do not hold in every state: a fast retrain that fails under a shortened retry window (R76, R117),
and a Zhok lane that locks with its rate capped below S2 (R254). -/

namespace Sys2Proof.Machine

/-! ## A retry window that has been shortened (R76, R117) -/

/-- Lane 0 in a fast retrain. Its page has counted a retry event 2 ms ago, under a WINDOW of 60 s; RETRY_CFG has been written since:
WINDOW 1 ms, THRESHOLD 2. -/
def shortenedWindow : State :=
  { setReg (sprPage 0) R.RETRY_CFG (BitVec.ofNat 64 (1 + 2 * 2 ^ 32)) State.reset with
    devFine := 2 * msUnits * 2 ^ 34
    retry := [(sprPage 0, [0])]
    retryWin := [(sprPage 0, 60000)]
    spr := { lanes := [(0, { st := .retrain, fast := true })] } }

/-- The retrain that fails there is the first event of the window in force: the lane trains again and is not retired. -/
theorem shortenedWindow_trains : (sprLane (sprRetrainFail 0 shortenedWindow) 0).st = .lock := by decide +kernel

theorem exec_retrainFail_spur {n : Nat} {s : State} (h : inFastRetrain (sprLane s n) = true) :
    exec (.retrainFail (.spur n)) s = .next (sprRetrainFail n s) := by
  change Host.Outcome.next (if inFastRetrain (sprLane s n) then sprRetrainFail n s else s) = _
  rw [if_pos h]

/-- Refutes O12: its last clause counts the retry events within the window in force at the last count. A count uses the WINDOW that
RETRY_CFG holds then (R76), so a WINDOW shortened in between (`shortenedWindow`) leaves the threshold unreached and the lane is not
retired. -/
theorem not_spurTraining : ¬ Obligations.SpurTraining := by
  unfold Obligations.SpurTraining
  rintro ⟨-, -, -, -, -, -, -, -, hretire⟩
  obtain ⟨t, ht, hretired, -⟩ := hretire shortenedWindow 0 (by decide) (by decide +kernel) (by decide +kernel) (by decide +kernel)
    (by decide +kernel)
  rw [exec_retrainFail_spur (by decide +kernel)] at ht
  obtain rfl : sprRetrainFail 0 shortenedWindow = t := by injection ht
  rw [shortenedWindow_trains] at hretired
  cases hretired

/-! ## A lane that locks below S2 (R254) -/

/-- Link 0 powered and enabled; its lane 0 in LOCK with three good codewords behind it and its rate capped at S1. -/
def cappedLane : State :=
  { setFld (zhkPage 0) F.PAGE_CTRL_ENABLE 1 (setFld 0 F.PAGE_STATUS_READY 1
      (setReg 0x3F0 R.PWR_DOMAIN_STATUS 0xFFFFFF State.reset)) with
    zhk := { lanes := [(0, { st := .lock, good := 3, rateCap := 1 })] } }

/-- An intact TRAIN frame whose sender is in LOCK. -/
def lockFrame : RxFrame := ⟨0, 2, trainMarker⟩

/-- The fourth good frame finds lock, and the cap takes the link DOWN with its lanes. -/
theorem cappedLane_down : (zhkLane (zhkTrainFrame 0 lockFrame false ⟨false, 0⟩ cappedLane) 0).st = .down := by decide +kernel

/-- Refutes O39: its clause on the fourth good TRAIN frame in LOCK says that the lane is in IDENTIFY afterwards, and names no cap. With a cap
below S2 (`cappedLane`) the same frame takes the link DOWN. -/
theorem not_zhokLinkFrames : ¬ Obligations.ZhokLinkFrames := by
  unfold Obligations.ZhokLinkFrames
  rintro ⟨-, -, -, -, -, -, -, -, -, -, -, hlocks, -⟩
  obtain ⟨t, ht, hidentify, -⟩ := hlocks cappedLane 0 lockFrame false ⟨false, 0⟩ (by decide) (by decide +kernel) rfl (by decide +kernel)
    (by decide +kernel) (by decide +kernel) (by decide +kernel) (by decide +kernel) (by decide +kernel)
  obtain rfl : zhkTrainFrame 0 lockFrame false ⟨false, 0⟩ cappedLane = t := by injection ht
  rw [cappedLane_down] at hidentify
  cases hidentify

end Sys2Proof.Machine
end

section
/-! PROOFS. The gain of a decimating preset at DC (R122, R124, R126): CIC and FIR weights sum to the product of their own sums. -/

namespace Sys2Proof.Machine

/-! ## Sums of a convolution -/

theorem sum_map_range (n : Nat) (f : Nat → Int) : ((List.range n).map f).sum = ∑ i ∈ Finset.range n, f i := rfl

/-- A range that reaches past the end of a list sums all of it. -/
theorem sum_range_getD {l : List Int} {n : Nat} (h : l.length ≤ n) : ∑ i ∈ Finset.range n, l.getD i 0 = l.sum := by
  induction l generalizing n with
  | nil => simp
  | cons x l ih =>
    obtain ⟨n, rfl⟩ : ∃ m, n = m + 1 := ⟨n - 1, by simp at h; omega⟩
    rw [Finset.sum_range_succ', List.sum_cons, add_comm]
    simpa using ih (by simpa using h)

/-- Element `i` of the convolution of `b` with `a`, the elements of `a` standing `r` places apart. -/
def strideConv (r : Nat) (a b : List Int) (i : Nat) : Int :=
  ((List.range a.length).map (fun j => if j * r ≤ i then a.getD j 0 * b.getD (i - j * r) 0 else 0)).sum

/-- One shifted copy of `b` within a range that holds all of it. -/
theorem sum_shifted {b : List Int} {k n : Nat} (x : Int) (h : k + b.length ≤ n) :
    ∑ i ∈ Finset.range n, (if k ≤ i then x * b.getD (i - k) 0 else 0) = x * b.sum := by
  obtain ⟨m, rfl⟩ : ∃ m, n = k + m := ⟨n - k, by omega⟩
  have hbelow : ∑ i ∈ Finset.range k, (if k ≤ i then x * b.getD (i - k) 0 else 0) = 0 :=
    Finset.sum_eq_zero fun i hi => if_neg (by simpa using hi)
  rw [Finset.sum_range_add, hbelow, zero_add, ← sum_range_getD (show b.length ≤ m by omega), Finset.mul_sum]
  exact Finset.sum_congr rfl fun i _ => by simp

/-- Over a range that holds every shifted copy, a convolution sums to the product of the sums. -/
theorem sum_strideConv {r n : Nat} {a b : List Int} (h : ∀ j < a.length, j * r + b.length ≤ n) :
    ((List.range n).map (strideConv r a b)).sum = a.sum * b.sum := by
  simp only [strideConv, sum_map_range]
  rw [Finset.sum_comm, ← sum_range_getD (le_refl a.length), Finset.sum_mul]
  exact Finset.sum_congr rfl fun j hj => sum_shifted _ (h j (Finset.mem_range.1 hj))

/-! ## The CIC stage (R122) -/

theorem polyMul_eq (a b : List Int) : polyMul a b = (List.range (a.length + b.length - 1)).map (strideConv 1 a b) := by
  simp [polyMul, strideConv]

theorem length_polyMul (a b : List Int) : (polyMul a b).length = a.length + b.length - 1 := by simp [polyMul]

theorem sum_polyMul {a b : List Int} (h : b ≠ []) : (polyMul a b).sum = a.sum * b.sum := by
  have hb := List.length_pos_iff.2 h
  rw [polyMul_eq, sum_strideConv (by omega)]

/-- A list multiplied by another once per element of `l`. -/
theorem foldl_polyMul {α : Type} {b : List Int} (hb : b ≠ []) (l : List α) (a : List Int) :
    (l.foldl (fun x _ => polyMul x b) a).sum = a.sum * b.sum ^ l.length ∧
      (l.foldl (fun x _ => polyMul x b) a).length = a.length + l.length * (b.length - 1) := by
  induction l generalizing a with
  | nil => simp
  | cons y l ih =>
    obtain ⟨hsum, hlength⟩ := ih (polyMul a b)
    have hpos := List.length_pos_iff.2 hb
    rw [List.foldl_cons, hsum, hlength, sum_polyMul hb, length_polyMul, List.length_cons, pow_succ']
    exact ⟨by ring, by rw [Nat.add_one_mul]; omega⟩

/-- The CIC impulse response sums to R^K and has K (R − 1) + 1 elements. -/
theorem cicImpulse_spec {p : Nat} (hr : 0 < presetR p) : (cicImpulse p).sum = (presetR p : Int) ^ presetK p ∧
    (cicImpulse p).length = 1 + presetK p * (presetR p - 1) := by
  have h := foldl_polyMul (b := List.replicate (presetR p) (1 : Int)) (by simpa using hr.ne') (List.range (presetK p)) [1]
  simpa [cicImpulse] using h

/-! ## The FIR stage (R124) -/

theorem length_firHalf {p : Nat} (h : 3 ≤ presetTaps p) : (firHalf p).length = (presetTaps p - 1) / 2 := by
  unfold firHalf
  dsimp only
  split
  · simp
  · simp; omega

theorem length_firTaps {p : Nat} (h : 3 ≤ presetTaps p) (hodd : presetTaps p % 2 = 1) : (firTaps p).length = presetTaps p := by
  simp only [firTaps, if_neg (show presetTaps p ≠ 0 by omega), List.length_append, List.length_reverse, List.length_singleton,
    length_firHalf h]
  omega

/-- The centre tap makes the sum 2^17, whatever the taps below it are. -/
theorem sum_firTaps {p : Nat} (h : presetTaps p ≠ 0) : (firTaps p).sum = 2 ^ 17 := by
  simp only [firTaps, if_neg h, List.sum_append, List.sum_reverse, List.sum_singleton, firCentre]
  ring

/-! ## Both stages -/

theorem roughWeights_eq {p : Nat} (h : (firTaps p).length = presetTaps p) :
    roughWeights p = (List.range (2 * presetG p + 1)).map (strideConv (presetR p) (firTaps p) (cicImpulse p)) := by
  unfold strideConv
  rw [h]
  rfl

/-- What R122 to R124 fix of a decimating preset: an odd number of taps, and a window of 2 G + 1 inputs that holds both responses. -/
theorem preset_shape {p : Nat} (h1 : 1 ≤ p) (h4 : p ≤ 4) : 0 < presetR p ∧ 3 ≤ presetTaps p ∧ presetTaps p % 2 = 1 ∧
    (presetTaps p - 1) * presetR p + (1 + presetK p * (presetR p - 1)) ≤ 2 * presetG p + 1 := by
  interval_cases p <;> decide

/-- Settles O17: the weights are the FIR taps, R inputs apart, convolved with the CIC response. -/
theorem roughingGain : Obligations.RoughingGain := by
  intro p h1 h4
  obtain ⟨hr, htaps, hodd, hwindow⟩ := preset_shape h1 h4
  obtain ⟨hcic, hcicLength⟩ := cicImpulse_spec hr
  have hfirLength := length_firTaps htaps hodd
  have hholds : ∀ j < (firTaps p).length, j * presetR p + (cicImpulse p).length ≤ 2 * presetG p + 1 := fun j hj => by
    have hplace : j * presetR p ≤ (presetTaps p - 1) * presetR p := Nat.mul_le_mul_right _ (by omega)
    omega
  rw [roughWeights_eq hfirLength, sum_strideConv hholds, sum_firTaps (by omega), hcic]

end Sys2Proof.Machine
end

section
/-! PROOFS. Roughing engines: outputs that reach a Faceplate with an armed detector use up the arming (R75), so an engine's step keeps
fewer parts than stated. -/

namespace Sys2Proof.Machine

/-- Engine 0 and Faceplate 0 powered and enabled; stream 0 valid under preset 0 on both, with one sample queued. The UNMAPPED detector of
the Faceplate is armed to fire once; no detector of the engine is armed. -/
def armedFaceplate : State :=
  { setFld (fplPage 0) F.PAGE_CTRL_ENABLE 1 (setFld (rchPage 0) F.PAGE_CTRL_ENABLE 1 (setFld 0 F.PAGE_STATUS_READY 1
      (setReg 0x3F0 R.PWR_DOMAIN_STATUS 0xFFFFFF State.reset))) with
    armed := [⟨fplPage 0, S.FPL_UNMAPPED, .once, 1⟩]
    spr := { streams := [(0, 1)] }
    rch := { queue := [(0, [⟨0, 0, 1, false, [(5, 0)], true⟩])] } }

/-- The output the sample gives reaches the Faceplate, whose detector fires and is armed no more. -/
theorem armedFaceplate_fires : (roughStep 0 0 armedFaceplate).armed = [] := by decide +kernel

theorem exec_roughingOutput_live {e ecc : Nat} {s : State} (h : pageLive s (rchPage e) = true) :
    exec (.roughingOutput e ecc) s = .next (roughStep e ecc s) := by
  change Host.Outcome.next (if pageLive s (rchPage e) then roughStep e ecc s else s) = _
  rw [if_pos h]

/-- Refutes O16: its first clause asks that no detector of the engine's page be armed and says that the armed detectors stay as they were.
The outputs are judged by the UNMAPPED detector of the stream's Faceplate too; armed there to fire once (`armedFaceplate`), it fires and
its arming is used up (R75). -/
theorem not_roughingEngines : ¬ Obligations.RoughingEngines := by
  unfold Obligations.RoughingEngines
  rintro ⟨hfront, -⟩
  have hlive : pageLive armedFaceplate (rchPage 0) = true := by decide +kernel
  obtain ⟨t, ht, -, hkeep⟩ := hfront armedFaceplate 0 ⟨0, 0, 1, false, [(5, 0)], true⟩ [] (by decide) hlive (by decide +kernel)
    (by decide +kernel)
  rw [exec_roughingOutput_live hlive] at ht
  obtain rfl : roughStep 0 0 armedFaceplate = t := by injection ht
  have harmed : (roughStep 0 0 armedFaceplate).armed = armedFaceplate.armed := hkeep .armed (by decide)
  rw [armedFaceplate_fires] at harmed
  cases harmed

end Sys2Proof.Machine
end

section
/-! PROOFS. Turn regions: the operands of a region are its digits, so they lie inside it and share no byte (R155). -/

namespace Sys2Proof.Machine

/-! ## Numbers in mixed radix -/

theorem radix_lt {a b x y : Nat} (hx : x < a) (hy : y < b) : x * b + y < a * b :=
  calc x * b + y < x * b + b := by omega
    _ = (x + 1) * b := (Nat.succ_mul x b).symm
    _ ≤ a * b := Nat.mul_le_mul_right b hx

/-- The digits of a number in mixed radix are its own. -/
theorem radix_inj {b x y x' y' : Nat} (hy : y < b) (hy' : y' < b) (h : x * b + y = x' * b + y') : x = x' ∧ y = y' := by
  have hb : 0 < b := by omega
  refine ⟨?_, ?_⟩
  · simpa [Nat.mul_comm _ b, Nat.mul_add_div hb, Nat.div_eq_of_lt hy, Nat.div_eq_of_lt hy'] using congrArg (· / b) h
  · simpa [Nat.mul_comm _ b, Nat.mul_add_mod, Nat.mod_eq_of_lt hy, Nat.mod_eq_of_lt hy'] using congrArg (· % b) h

/-! ## The place of an operand in its region (R155) -/

/-- The number of an operand in its region: batch slot, local channel, input block, spectrum and position in the block. -/
def operandRank (s : State) (d r i c a t : Nat) : Nat :=
  (((a % regionDepth s d r * regionChans s d r + c) * regionBlocks s d r + i / 32) * regionT s d r + t) * 32 + i % 32

/-- How many operands a region holds. -/
def regionOperands (s : State) (d r : Nat) : Nat :=
  regionDepth s d r * regionChans s d r * regionBlocks s d r * regionT s d r * 32

theorem operandAddr_eq (s : State) (d r i c a t : Nat) :
    operandAddr s d r i c a t = regionBase s d r + operandBytes (regionFormat s d r) * operandRank s d r i c a t := by
  unfold operandAddr operandRank regionChBytes regionBlkBytes
  ring

theorem regionSize_eq (s : State) (d r : Nat) :
    regionSize s d r = operandBytes (regionFormat s d r) * regionOperands s d r := by
  unfold regionSize regionOperands regionChBytes regionBlkBytes
  ring

section
variable {s : State} {d r i j c e a b t u : Nat}

theorem operandRank_lt (hd : 0 < regionDepth s d r) (hi : i < 32 * regionBlocks s d r) (hc : c < regionChans s d r)
    (ht : t < regionT s d r) : operandRank s d r i c a t < regionOperands s d r :=
  radix_lt (radix_lt (radix_lt (radix_lt (Nat.mod_lt a hd) hc) (Nat.div_lt_of_lt_mul hi)) ht) (Nat.mod_lt i (by decide))

theorem operandRank_inj (hi : i < 32 * regionBlocks s d r) (hj : j < 32 * regionBlocks s d r) (hc : c < regionChans s d r)
    (he : e < regionChans s d r) (ht : t < regionT s d r) (hu : u < regionT s d r)
    (h : operandRank s d r i c a t = operandRank s d r j e b u) :
    i = j ∧ c = e ∧ t = u ∧ a % regionDepth s d r = b % regionDepth s d r := by
  obtain ⟨hrow, hpos⟩ := radix_inj (Nat.mod_lt i (by decide)) (Nat.mod_lt j (by decide)) h
  obtain ⟨hblock, htime⟩ := radix_inj ht hu hrow
  obtain ⟨hchan, hquot⟩ := radix_inj (Nat.div_lt_of_lt_mul hi) (Nat.div_lt_of_lt_mul hj) hblock
  obtain ⟨hslot, hlocal⟩ := radix_inj hc he hchan
  exact ⟨by omega, hlocal, htime, hslot⟩

end

/-- Settles O22: the address of an operand is BASE plus its number times the operand's size, and the number has batch slot, channel,
block, spectrum and position for its digits. -/
theorem turnRegionAddresses : Obligations.TurnRegionAddresses := by
  intro s d r i j c e a b t u hd hi hj hc he ht hu
  have hlt := operandRank_lt (a := a) hd hi hc ht
  rw [operandAddr_eq, operandAddr_eq, regionSize_eq, Nat.add_assoc, Nat.add_assoc, ← Nat.mul_succ, ← Nat.mul_succ]
  refine ⟨Nat.le_add_right _ _, Nat.add_le_add_left (Nat.mul_le_mul_left _ hlt) _, fun hleft hright => ?_⟩
  have hle := Nat.lt_of_mul_lt_mul_left (Nat.lt_of_add_lt_add_left hleft)
  have hge := Nat.lt_of_mul_lt_mul_left (Nat.lt_of_add_lt_add_left hright)
  exact operandRank_inj hi hj hc he ht hu (by omega)

end Sys2Proof.Machine
end

section
/-! PROOFS. Requests of a Faceplate's streams: what they rest on, what a register request or a mark notes for each stream, and how a
mark completes (R143, R146, R149, R151, R289, R290). -/

namespace Sys2Proof.Machine

/-! ## Lists folded element by element -/

/-- A relation that holds over every step of a fold holds over the fold. -/
theorem foldl_rel {α β : Type} {R : β → β → Prop} (refl : ∀ b, R b b) (trans : ∀ {a b c}, R a b → R b c → R a c)
    {g : β → α → β} {l : List α} (h : ∀ b, ∀ a ∈ l, R b (g b a)) (b : β) : R b (l.foldl g b) :=
  List.foldlRecOn l g (refl b) (fun c hc a ha => trans hc (h c a ha))

/-- A fold over a list that holds `n` once is a step at `n`, with a relation before and after it that the other steps keep. -/
theorem foldl_at {β : Type} {R : β → β → Prop} (refl : ∀ b, R b b) (trans : ∀ {a b c}, R a b → R b c → R a c)
    {g : β → Nat → β} {l : List Nat} {n : Nat} (hn : l.count n = 1) (h : ∀ b k, k ≠ n → R b (g b k)) (b : β) :
    ∃ c, R b c ∧ R (g c n) (l.foldl g b) := by
  obtain ⟨l1, l2, rfl, h1⟩ := List.eq_append_cons_of_mem (List.count_pos_iff.mp (by omega : 0 < l.count n))
  have h2 : n ∉ l2 := by
    rw [List.count_append, List.count_cons_self, List.count_eq_zero_of_not_mem h1] at hn
    exact List.count_eq_zero.mp (by omega)
  refine ⟨l1.foldl g b, foldl_rel refl trans (fun c k hk => h c k ?_) b, ?_⟩
  · rintro rfl; exact h1 hk
  · rw [List.foldl_append, List.foldl_cons]
    exact foldl_rel refl trans (fun c k hk => h c k (by rintro rfl; exact h2 hk)) _

/-! ## The record of a stream -/

@[simp] theorem fplStream_setFplStream (n : Nat) (x : FplStream) (s : State) : fplStream (setFplStream n x s) n = x := by
  simp [fplStream, setFplStream, alGet, alSet]

theorem fplStream_setFplStream_ne {n k : Nat} (x : FplStream) (s : State) (h : k ≠ n) :
    fplStream (setFplStream n x s) k = fplStream s k :=
  sparseGet_set_ne (fun _ => ({} : FplStream)) s.fpl.streams x h

theorem changesOnly_setFplStream (n : Nat) (x : FplStream) (s : State) : changesOnly [.fpl] [] s (setFplStream n x s) :=
  ⟨fun y hy => by cases y <;> simp_all [same, setFplStream], sameRegs_of_eq rfl⟩

theorem fplStream_congr {s t : State} (h : t.fpl.streams = s.fpl.streams) (n : Nat) : fplStream t n = fplStream s n := by
  simp [fplStream, h]

theorem mapOf_congr {s t : State} (h : t.fpl.map = s.fpl.map) (f n : Nat) : mapOf t f n = mapOf s f n := by
  simp [mapOf, mapList, h]

/-- Which streams a Faceplate takes rests on the stream table, the map and the streams left out for lack of budget. -/
theorem fplStreams_congr {s t : State} (hspr : t.spr = s.spr) (hmap : t.fpl.map = s.fpl.map)
    (hover : t.fpl.overload = s.fpl.overload) (f : Nat) : fplStreams t f = fplStreams s f := by
  have htakes : fplTakes t f = fplTakes s f := by
    funext k
    simp [fplTakes, stValid, stFaceplate, st0, stWord, mapOf_congr hmap, hspr, hover]
  simp [fplStreams, mapList, htakes, hmap]

/-- How a Faceplate takes up a stream rests on the stream's record and the banks active there. -/
theorem fplTakeUp_congr {s t : State} {f n : Nat} (hx : fplStream t n = fplStream s n)
    (hcoef : ntGet t.fpl.coefDef f = ntGet s.fpl.coefDef f) (hgain : ntGet t.fpl.gainDef f = ntGet s.fpl.gainDef f) :
    fplTakeUp t f n = fplTakeUp s f n := by
  simp [fplTakeUp, fplStarted, hx, hcoef, hgain]

theorem changesOnly_stickyIf (c : Bool) (p b : Nat) (s : State) :
    changesOnly [.regs, .out, .events] [p] s (stickyIf c p b s) := by
  cases c
  · exact changesOnly.refl _ _ s
  · exact changesOnly_setSticky p b s

theorem keepsSticky_of_regs {s t : State} (h : t.regs = s.regs) : keepsSticky s t := by
  intro p b hb
  dsimp only [stuck] at hb ⊢
  rwa [reg_congr h]

theorem keepsSticky_setFplStream (n : Nat) (x : FplStream) (s : State) : keepsSticky s (setFplStream n x s) :=
  keepsSticky_of_regs rfl

theorem keepsSticky_stickyIf (c : Bool) (p b : Nat) (s : State) : keepsSticky s (stickyIf c p b s) := by
  cases c
  · exact fun _ _ h => h
  · exact keepsSticky_setSticky p b s

/-- A register of a page reads alike after another bit of its STICKY may have been set. -/
theorem reg_stickyIf_page {p off b : Nat} (c : Bool) (s : State) (hp : ¬ eventPage p) (hb : b < 64) (ho : off < 0x1000)
    (hn : off ≠ R.STICKY) : reg (stickyIf c p b s) p off = reg s p off := by
  cases c
  · rfl
  · exact (setSticky_page hp hb).2 off ho hn

/-! ## What the requests of a stream rest on -/

/-- What the requests of stream `n` on Faceplate `f` rest on is the same in two states: the stream table, the map and the regions, the
registers of the page, the banks active there, and the stream itself. -/
structure SameStream (f n : Nat) (s t : State) : Prop where
  spr : t.spr = s.spr
  page : ∀ off, off < 0x1000 → off ≠ R.STICKY → reg t (fplPage f) off = reg s (fplPage f) off
  map : t.fpl.map = s.fpl.map
  overload : t.fpl.overload = s.fpl.overload
  regions : t.fpl.regions = s.fpl.regions
  coefDef : ntGet t.fpl.coefDef f = ntGet s.fpl.coefDef f
  gainDef : ntGet t.fpl.gainDef f = ntGet s.fpl.gainDef f
  stream : fplStream t n = fplStream s n

namespace SameStream
variable {f n : Nat} {s t u : State}

theorem refl (f n : Nat) (s : State) : SameStream f n s s := ⟨rfl, fun _ _ _ => rfl, rfl, rfl, rfl, rfl, rfl, rfl⟩

theorem trans (h : SameStream f n s t) (k : SameStream f n t u) : SameStream f n s u where
  spr := k.spr.trans h.spr
  page off ho hn := (k.page off ho hn).trans (h.page off ho hn)
  map := k.map.trans h.map
  overload := k.overload.trans h.overload
  regions := k.regions.trans h.regions
  coefDef := k.coefDef.trans h.coefDef
  gainDef := k.gainDef.trans h.gainDef
  stream := k.stream.trans h.stream

theorem stFaceplate_eq (h : SameStream f n s t) (k : Nat) : stFaceplate t k = stFaceplate s k := by
  simp [stFaceplate, st0, stWord, h.spr]

theorem fplStreams_eq (h : SameStream f n s t) (g : Nat) : fplStreams t g = fplStreams s g :=
  fplStreams_congr h.spr h.map h.overload g

theorem fplTakeUp_eq (h : SameStream f n s t) : fplTakeUp t f n = fplTakeUp s f n :=
  fplTakeUp_congr h.stream h.coefDef h.gainDef

theorem swapAligns_eq (h : SameStream f n s t) (kind : FplReqKind) : swapAligns t f kind = swapAligns s f kind := by
  have hflag : flag t (fplPage f) F.FPL_SWAP_ALIGN_BATCH = flag s (fplPage f) F.FPL_SWAP_ALIGN_BATCH :=
    flag_of_reg (h.page _ (by decide) (by decide))
  simp [swapAligns, hflag]

theorem streamT_eq (h : SameStream f n s t) : streamT t f n = streamT s f n := by
  simp [streamT, mapOf_congr h.map, mapT, regionT, regionWord, h.regions]

theorem resolveSpectrum_eq (h : SameStream f n s t) (time : Nat) : resolveSpectrum t f n time = resolveSpectrum s f n time := by
  have hn : fplN t f = fplN s f := by unfold fplN; rw [fld_of_reg (h.page _ (by decide) (by decide))]
  simp [resolveSpectrum, resolveFor, stOrigin, stRateNum, stRateDen, stD, stPreset, fplM, stFormat, st0, stWord, hn, h.spr, h.stream]

/-- A change of another stream. -/
theorem setFplStream {k : Nat} (x : FplStream) (s : State) (h : n ≠ k) : SameStream f n s (setFplStream k x s) :=
  ⟨rfl, fun _ _ _ => rfl, rfl, rfl, rfl, rfl, rfl, fplStream_setFplStream_ne x s h⟩

theorem stickyIf {b : Nat} (c : Bool) (s : State) (hf : f < 16) (hb : b < 64) :
    SameStream f n s (stickyIf c (fplPage f) b s) := by
  have hc := changesOnly_stickyIf c (fplPage f) b s
  have hfpl : (Machine.stickyIf c (fplPage f) b s).fpl = s.fpl := hc.same .fpl (by decide)
  exact ⟨hc.same .spr (by decide), fun off ho hn => reg_stickyIf_page c s (fplPage_plain hf) hb ho hn, by rw [hfpl], by rw [hfpl],
    by rw [hfpl], by rw [hfpl], by rw [hfpl], fplStream_congr (by rw [hfpl]) n⟩

end SameStream

/-! ## Register requests (R143, R146, R149, R151) -/

/-- Stream `n` after a register request: a coefficient request behind a fade is queued, any other takes its place among those that
wait for the next spectrum. -/
def requested (f : Nat) (kind : FplReqKind) (len : Nat) (s : State) (n : Nat) : FplStream :=
  if kind = .coef ∧ (fplStream s n).fade.isSome then { fplStream s n with queued := some len }
  else { fplTakeUp s f n with
    reqs := insertReq ⟨kind, (fplStream s n).next, len, swapAligns s f kind, true, 0, 0⟩ (fplTakeUp s f n).reqs }

theorem requestStream_eq (f : Nat) (kind : FplReqKind) (len : Nat) (s : State) (n : Nat) :
    requestStream f kind len s n =
      stickyIf (decide (kind = .coef ∧ (fplStream s n).fade.isSome) && (fplStream s n).queued.isSome) (fplPage f)
        S.FPL_SWAP_COLLAPSED (setFplStream n (requested f kind len s n) s) := by
  unfold requestStream requested
  dsimp only
  split
  · rename_i h; rw [decide_eq_true h, Bool.true_and]
  · rename_i h; rw [decide_eq_false h]; rfl

/-- Where no coefficient request meets a fade, nothing but the stream changes. -/
theorem requestStream_noted {f : Nat} {kind : FplReqKind} {len : Nat} {s : State} {n : Nat}
    (h : ¬ (kind = .coef ∧ (fplStream s n).fade.isSome)) :
    requestStream f kind len s n = setFplStream n (requested f kind len s n) s := by
  rw [requestStream_eq, decide_eq_false h]; rfl

section
variable {f n : Nat} {kind : FplReqKind} {len : Nat} {s : State}

theorem changesOnly_requestStream (f n : Nat) (kind : FplReqKind) (len : Nat) (s : State) :
    changesOnly [.fpl, .regs, .events, .out] [fplPage f] s (requestStream f kind len s n) := by
  rw [requestStream_eq]
  exact ((changesOnly_setFplStream n _ s).mono (by decide) (by simp)).trans
    ((changesOnly_stickyIf _ _ _ _).mono (by decide) (by simp))

theorem keepsSticky_requestStream (f n : Nat) (kind : FplReqKind) (len : Nat) (s : State) :
    keepsSticky s (requestStream f kind len s n) := by
  rw [requestStream_eq]
  exact (keepsSticky_setFplStream n _ s).trans (keepsSticky_stickyIf _ _ _ _)

theorem SameStream.requestStream {k : Nat} (s : State) (hf : f < 16) (h : n ≠ k) :
    SameStream f n s (requestStream f kind len s k) := by
  rw [requestStream_eq]
  exact (SameStream.setFplStream _ s h).trans (SameStream.stickyIf _ _ hf (by decide))

theorem fplStream_requestStream (hf : f < 16) : fplStream (requestStream f kind len s n) n = requested f kind len s n := by
  rw [requestStream_eq]
  exact (SameStream.stickyIf _ _ hf (by decide)).stream.trans (fplStream_setFplStream _ _ _)

theorem SameStream.requested_eq {t : State} (h : SameStream f n s t) : requested f kind len t n = requested f kind len s n := by
  simp [requested, h.stream, h.fplTakeUp_eq, h.swapAligns_eq]

theorem registerRequest_taken (h : fplStreams s f ≠ []) :
    registerRequest f kind len s = (fplStreams s f).foldl (requestStream f kind len) s := if_neg h

theorem fplStreams_ne_nil (hn : (fplStreams s f).count n = 1) : fplStreams s f ≠ [] := by
  intro h; simp [h] at hn

/-- A register request reaches stream `n` once, and the streams before and after it leave it and its sticky bits alone. -/
theorem registerRequest_at (kind : FplReqKind) (len : Nat) (hf : f < 16) (hn : (fplStreams s f).count n = 1) :
    ∃ u, SameStream f n s u ∧ SameStream f n (requestStream f kind len u n) (registerRequest f kind len s) ∧
      keepsSticky (requestStream f kind len u n) (registerRequest f kind len s) := by
  rw [registerRequest_taken (fplStreams_ne_nil hn)]
  obtain ⟨u, hbefore, hafter⟩ := foldl_at (R := fun s t => SameStream f n s t ∧ keepsSticky s t)
    (fun s => ⟨.refl f n s, fun _ _ h => h⟩) (fun h k => ⟨h.1.trans k.1, h.2.trans k.2⟩) hn
    (fun b k hk => ⟨SameStream.requestStream b hf hk.symm, keepsSticky_requestStream f k kind len b⟩) s
  exact ⟨u, hbefore.1, hafter⟩

theorem fplStream_registerRequest (kind : FplReqKind) (len : Nat) (hf : f < 16) (hn : (fplStreams s f).count n = 1) :
    fplStream (registerRequest f kind len s) n = requested f kind len s n := by
  obtain ⟨u, hbefore, hafter, -⟩ := registerRequest_at kind len hf hn
  rw [hafter.stream, fplStream_requestStream hf, hbefore.requested_eq]

/-- A request that replaces a queued one sets SWAP_COLLAPSED. -/
theorem registerRequest_collapsed (len : Nat) (hf : f < 16) (hn : (fplStreams s f).count n = 1)
    (hfade : (fplStream s n).fade.isSome = true) (hq : (fplStream s n).queued.isSome = true) :
    stuck (registerRequest f .coef len s) (fplPage f) S.FPL_SWAP_COLLAPSED := by
  obtain ⟨u, hbefore, -, hafter⟩ := registerRequest_at .coef len hf hn
  refine hafter _ _ ?_
  rw [requestStream_eq, hbefore.stream, hfade, hq]
  exact stuck_setSticky _ _ _ (by decide)

theorem registerRequest_others {k : Nat} (hf : f < 16) (hn : (fplStreams s f).count n = 1) (hk : k ∉ fplStreams s f) :
    fplStream (registerRequest f kind len s) k = fplStream s k := by
  rw [registerRequest_taken (fplStreams_ne_nil hn)]
  refine (foldl_rel (R := SameStream f k) (.refl f k) .trans (fun b j hj => ?_) s).stream
  exact SameStream.requestStream b hf (by rintro rfl; exact hk hj)

theorem changesOnly_registerRequest (kind : FplReqKind) (len : Nat) (hn : (fplStreams s f).count n = 1) :
    changesOnly [.fpl, .regs, .events, .out] [fplPage f] s (registerRequest f kind len s) := by
  rw [registerRequest_taken (fplStreams_ne_nil hn)]
  exact foldl_rel (R := changesOnly _ _) (.refl _ _) .trans (fun b j _ => changesOnly_requestStream f j kind len b) s

/-- Requests that are no coefficient swap are noted and nothing else. -/
theorem changesOnly_registerRequest_noted (len : Nat) (hk : kind ≠ .coef) (hn : (fplStreams s f).count n = 1) :
    changesOnly [.fpl] [] s (registerRequest f kind len s) := by
  rw [registerRequest_taken (fplStreams_ne_nil hn)]
  refine foldl_rel (R := changesOnly _ _) (.refl _ _) .trans (fun b j _ => ?_) s
  rw [requestStream_noted (fun h => hk h.1)]
  exact changesOnly_setFplStream _ _ _

/-- On a Faceplate of one stream a request that meets no fade is noted and nothing else. -/
theorem changesOnly_registerRequest_single (kind : FplReqKind) (len : Nat) (hs : fplStreams s f = [n])
    (hfade : (fplStream s n).fade = none) : changesOnly [.fpl] [] s (registerRequest f kind len s) := by
  rw [registerRequest_taken (by simp [hs]), hs, List.foldl_cons, List.foldl_nil, requestStream_noted (by simp [hfade])]
  exact changesOnly_setFplStream _ _ _

end

/-! ## The registers that launch requests -/

theorem pageBlock_fplPage {f : Nat} (hf : f < 16) : pageBlock (fplPage f) = some .fpl := by
  decide +revert

theorem not_guarded_fplSwap {f : Nat} (hf : f < 16) : regGuarded (fplPage f) R.FPL_SWAP = false := by
  decide +revert

theorem not_guarded_fplModelCtrl {f : Nat} (hf : f < 16) : regGuarded (fplPage f) R.FPL_MODEL_CTRL = false := by
  decide +revert

/-- A plain write of FPL_SWAP stores FADE and ALIGN_BATCH. -/
theorem mergedWord_fplSwap {f : Nat} (hf : f < 16) (v : Word) (s : State) : mergedWord s (fplPage f) R.FPL_SWAP v =
    withField (withField (reg s (fplPage f) R.FPL_SWAP) 0 13 (fieldOf v 0 13)) 13 1 (fieldOf v 13 1) := by
  unfold mergedWord regDef
  rw [pageBlock_fplPage hf]
  rfl

/-- The state in which an accepted write of FPL_SWAP has stored its fields. -/
def swapStored (m f : Nat) (v : Word) (s : State) : State := storePlain (fplPage f) R.FPL_SWAP v (counted0 m s)

theorem changesOnly_swapStored (m f : Nat) (v : Word) (s : State) :
    changesOnly [.regs, .wst] [fplPage f] s (swapStored m f v s) :=
  changesOnly_setReg_counted0 _ s (by decide)

theorem fade_swapStored {m f : Nat} (hf : f < 16) (v : Word) (s : State) :
    fld (swapStored m f v s) (fplPage f) F.FPL_SWAP_FADE = fieldOf v 0 13 := by
  unfold fld swapStored storePlain
  rw [reg_setReg_self, mergedWord_fplSwap hf, fieldOf_withField_ne _ _ _ _ _ _ (by decide),
    fieldOf_withField_self _ _ _ _ (by decide)]
  exact Nat.mod_eq_of_lt (Nat.mod_lt _ (by decide))

theorem aligns_swapStored {m f : Nat} (hf : f < 16) (v : Word) (s : State) :
    swapAligns (swapStored m f v s) f .coef = bitOf v 13 := by
  have hfield : fld (swapStored m f v s) (fplPage f) F.FPL_SWAP_ALIGN_BATCH = fieldOf v 13 1 := by
    unfold fld swapStored storePlain
    rw [reg_setReg_self, mergedWord_fplSwap hf, fieldOf_withField_self _ _ _ _ (by decide)]
    exact Nat.mod_eq_of_lt (Nat.mod_lt _ (by decide))
  unfold swapAligns flag
  rw [hfield, fieldOf, natField, bitOf, ← BitVec.testBit_toNat, Nat.testBit_eq_decide_div_mod_eq]
  simp

/-- The bit that launches a coefficient swap leaves GAIN_SWAP, ALIGN_BATCH and FADE of the word written. -/
theorem bitOf_swap (v : Word) : bitOf (v ||| 0x4000#64) 14 = true ∧ bitOf (v ||| 0x4000#64) 15 = bitOf v 15 ∧
    bitOf (v ||| 0x4000#64) 13 = bitOf v 13 ∧ fieldOf (v ||| 0x4000#64) 0 13 = fieldOf v 0 13 := by
  refine ⟨?_, ?_, ?_, fieldOf_or (by decide)⟩ <;> rw [bitOf_or] <;> simp [bitOf]

theorem bitOf_gainSwap (v : Word) : bitOf (v ||| 0x8000#64) 15 = true ∧ bitOf (v ||| 0x8000#64) 14 = bitOf v 14 := by
  refine ⟨?_, ?_⟩ <;> rw [bitOf_or] <;> simp [bitOf]

theorem exec_request {m f : Nat} {v : Word} {s : State} (hf : f < 16)
    (j : judge s m (fplPage f) R.FPL_SWAP 8 (v ||| 0x4000#64) = .ok) (h15 : bitOf v 15 = false) :
    exec (.request m f v) s = .next (registerRequest f .coef (fieldOf v 0 13) (swapStored m f (v ||| 0x4000#64) s)) := by
  obtain ⟨h14, h15', -, hfade⟩ := bitOf_swap v
  change Host.Outcome.next (guardedWrite m (fplPage f) R.FPL_SWAP (v ||| 0x4000#64) (writeFplSwap f (v ||| 0x4000#64)) s) = _
  rw [guardedWrite_plain j (not_guarded_fplSwap hf)]
  unfold writeFplSwap actIf
  rw [h14, h15', h15, ← hfade, ← fade_swapStored (m := m) hf _ s]
  rfl

theorem exec_fplGainSwap {m f : Nat} {v : Word} {s : State} (hf : f < 16)
    (j : judge s m (fplPage f) R.FPL_SWAP 8 (v ||| 0x8000#64) = .ok) (h14 : bitOf v 14 = false) :
    exec (.fplGainSwap m f v) s = .next (registerRequest f .gain 0 (swapStored m f (v ||| 0x8000#64) s)) := by
  obtain ⟨h15, h14'⟩ := bitOf_gainSwap v
  change Host.Outcome.next (guardedWrite m (fplPage f) R.FPL_SWAP (v ||| 0x8000#64) (writeFplSwap f (v ||| 0x8000#64)) s) = _
  rw [guardedWrite_plain j (not_guarded_fplSwap hf)]
  unfold writeFplSwap actIf
  rw [h14', h14, h15]
  rfl

theorem exec_loadNow {m f : Nat} {v : Word} {s : State} (hf : f < 16)
    (j : judge s m (fplPage f) R.FPL_MODEL_CTRL 8 (v ||| 1#64) = .ok) :
    exec (.loadNow m f v) s = .next (registerRequest f .model 0 (counted0 m s)) := by
  change Host.Outcome.next (guardedWrite m (fplPage f) R.FPL_MODEL_CTRL (v ||| 1#64) (writeModelCtrl f (v ||| 1#64)) s) = _
  rw [guardedWrite_plain j (not_guarded_fplModelCtrl hf)]
  unfold writeModelCtrl actIf
  rw [bitOf_or, if_pos (by simp [bitOf])]

/-! ## Requests seen from before their write -/

section
variable {f n : Nat} {kind : FplReqKind} {len : Nat} {s u : State}

/-- What launches a request leaves the streams and the map. -/
theorem fplStreams_stored (hu : changesOnly [.regs, .wst] [fplPage f] s u) (g : Nat) : fplStreams u g = fplStreams s g := by
  have hfpl : u.fpl = s.fpl := hu.same .fpl (by decide)
  exact fplStreams_congr (hu.same .spr (by decide)) (by rw [hfpl]) (by rw [hfpl]) g

theorem requested_stored (hu : changesOnly [.regs, .wst] [fplPage f] s u) :
    requested f kind len u n = if kind = .coef ∧ (fplStream s n).fade.isSome then { fplStream s n with queued := some len }
      else { fplTakeUp s f n with
        reqs := insertReq ⟨kind, (fplStream s n).next, len, swapAligns u f kind, true, 0, 0⟩ (fplTakeUp s f n).reqs } := by
  have hfpl : u.fpl = s.fpl := hu.same .fpl (by decide)
  have hx : fplStream u n = fplStream s n := fplStream_congr (by rw [hfpl]) n
  have htake : fplTakeUp u f n = fplTakeUp s f n := fplTakeUp_congr hx (by rw [hfpl]) (by rw [hfpl])
  unfold requested
  rw [hx, htake]

/-- A register request after the write that launches it: what it leaves of the other streams, of the parts and of the registers. -/
theorem registerRequest_frame (hf : f < 16) (hu : changesOnly [.regs, .wst] [fplPage f] s u) (hn : (fplStreams s f).count n = 1) :
    (∀ k, k ∉ fplStreams s f → fplStream (registerRequest f kind len u) k = fplStream s k) ∧
      changesOnly [.fpl, .regs, .wst, .events, .out] [fplPage f] s (registerRequest f kind len u) := by
  rw [← fplStreams_stored hu f] at hn
  refine ⟨fun k hk => ?_, (hu.mono (by decide) (by simp)).trans
    ((changesOnly_registerRequest kind len hn).mono (by decide) (by simp))⟩
  rw [← fplStreams_stored hu f] at hk
  rw [registerRequest_others hf hn hk, fplStream_congr (congrArg FplState.streams (hu.same .fpl (by decide)))]

theorem registerRequest_noted_frame (hk : kind ≠ .coef) (hu : changesOnly [.regs, .wst] [fplPage f] s u)
    (hn : (fplStreams s f).count n = 1) :
    changesOnly [.fpl, .regs, .wst] [fplPage f] s (registerRequest f kind len u) := by
  rw [← fplStreams_stored hu f] at hn
  exact (hu.mono (by decide) (by simp)).trans ((changesOnly_registerRequest_noted len hk hn).mono (by decide) (by simp))

end

/-! ## Requests of marks (R143, R146, R149, R290) -/

/-- Stream `n` after a mark's request: noted for the spectrum the mark resolves to, or for the next one. -/
def marked (f : Nat) (kind : FplReqKind) (o : MarkOcc) (s : State) (n : Nat) : FplStream :=
  { fplTakeUp s f n with
    reqs := insertReq ⟨kind, max (resolveSpectrum s f n o.time) (fplStream s n).next, o.arg16 % 8192, swapAligns s f kind, false,
      o.time, o.order⟩ (fplTakeUp s f n).reqs }

/-- Whether stream `n` is past the boundary at which a mark's request would act. -/
def markedLate (f : Nat) (kind : FplReqKind) (o : MarkOcc) (s : State) (n : Nat) : Prop :=
  (if swapAligns s f kind then ceilTo (resolveSpectrum s f n o.time) (streamT s f n) else resolveSpectrum s f n o.time) <
    (fplStream s n).next

/-- A mark's request on one Faceplate, with whether a stream before got it late. -/
def markFaceplate (kind : FplReqKind) (o : MarkOcc) (a : Bool × State) (f : Nat) : Bool × State :=
  if fplStreams a.2 f = [] then (a.1, idleSwap f kind a.2) else (fplStreams a.2 f).foldl (markStream f kind o) a

theorem markRequest_eq (kind : FplReqKind) (o : MarkOcc) (s : State) :
    markRequest kind o s = (bitsSet (o.arg64 % 65536) 16).foldl (markFaceplate kind o) (false, s) := rfl

section
variable {f n : Nat} {kind : FplReqKind} {o : MarkOcc} {s : State}

theorem markStream_snd (f : Nat) (kind : FplReqKind) (o : MarkOcc) (a : Bool × State) (n : Nat) :
    (markStream f kind o a n).2 = setFplStream n (marked f kind o a.2 n) a.2 := rfl

theorem markStream_fst (f : Nat) (kind : FplReqKind) (o : MarkOcc) (a : Bool × State) (n : Nat) :
    (markStream f kind o a n).1 = true ↔ a.1 = true ∨ markedLate f kind o a.2 n := by
  simp [markStream, markedLate]

theorem SameStream.marked_eq {t : State} (h : SameStream f n s t) : marked f kind o t n = marked f kind o s n := by
  simp [marked, h.stream, h.fplTakeUp_eq, h.swapAligns_eq, h.resolveSpectrum_eq]

theorem SameStream.markedLate_iff {t : State} (h : SameStream f n s t) : markedLate f kind o t n ↔ markedLate f kind o s n := by
  simp [markedLate, h.stream, h.swapAligns_eq, h.resolveSpectrum_eq, h.streamT_eq]

/-- Where a mark's request has gone on without stream `n` of Faceplate `f`: the stream is as it was, and late streams stay noted. -/
structure MarkedApart (f n : Nat) (a b : Bool × State) : Prop where
  stream : SameStream f n a.2 b.2
  late : a.1 = true → b.1 = true

theorem MarkedApart.refl (f n : Nat) (a : Bool × State) : MarkedApart f n a a := ⟨.refl f n a.2, id⟩

theorem MarkedApart.trans {a b c : Bool × State} (h : MarkedApart f n a b) (k : MarkedApart f n b c) : MarkedApart f n a c :=
  ⟨h.stream.trans k.stream, k.late ∘ h.late⟩

theorem MarkedApart.markStream {g k : Nat} (a : Bool × State) (h : n ≠ k) : MarkedApart f n a (markStream g kind o a k) :=
  ⟨SameStream.setFplStream _ a.2 h, fun ha => (markStream_fst g kind o a k).mpr (.inl ha)⟩

theorem SameStream.idleSwap {g : Nat} (s : State) (h : f ≠ g) : SameStream f n s (idleSwap g kind s) := by
  have hset (l : NatTab) (x : Nat) : ntGet (ntSet l g x) f = ntGet l f := sparseGet_set_ne _ _ _ h
  cases kind
  · exact ⟨rfl, fun _ _ _ => rfl, rfl, rfl, rfl, hset _ _, rfl, rfl⟩
  · exact ⟨rfl, fun _ _ _ => rfl, rfl, rfl, rfl, rfl, hset _ _, rfl⟩
  · exact .refl f n s

/-- The streams a Faceplate takes name it in the stream table (R135). -/
theorem stFaceplate_of_mem (h : n ∈ fplStreams s f) : stFaceplate s n = f := by
  obtain ⟨e, -, he⟩ := List.mem_filterMap.mp h
  split at he
  · rename_i htakes
    obtain rfl := Option.some.inj he
    simp only [fplTakes, Bool.and_eq_true, decide_eq_true_eq] at htakes
    obtain ⟨⟨⟨-, hst⟩, -⟩, -⟩ := htakes
    exact hst
  · cases he

/-- A mark's request on another Faceplate leaves a stream of this one. -/
theorem MarkedApart.markFaceplate {g : Nat} (a : Bool × State) (h : g ≠ f) (hn : stFaceplate a.2 n = f) :
    MarkedApart f n a (markFaceplate kind o a g) := by
  unfold Machine.markFaceplate
  split
  · exact ⟨SameStream.idleSwap a.2 h.symm, id⟩
  · refine foldl_rel (.refl f n) .trans (fun b k hk => MarkedApart.markStream b ?_) a
    rintro rfl
    exact h ((stFaceplate_of_mem hk).symm.trans hn)

theorem nodup_bitsSet (x n : Nat) : (bitsSet x n).Nodup := List.nodup_range.filter _

theorem mem_bitsSet {x n k : Nat} : k ∈ bitsSet x n ↔ k < n ∧ x.testBit k = true := by simp [bitsSet]

theorem count_faceplates (hf : f < 16) (hbit : o.arg64.testBit f = true) : (bitsSet (o.arg64 % 65536) 16).count f = 1 := by
  refine List.count_eq_one_of_mem (nodup_bitsSet _ _) (mem_bitsSet.mpr ⟨hf, ?_⟩)
  rw [show (65536 : Nat) = 2 ^ 16 by decide, Nat.testBit_mod_two_pow, hbit]
  simp [hf]

/-- A mark's request reaches stream `n` of Faceplate `f` once, and the rest of it leaves the stream alone. -/
theorem markRequest_at (kind : FplReqKind) (hf : f < 16) (hbit : o.arg64.testBit f = true)
    (hn : (fplStreams s f).count n = 1) :
    ∃ b, MarkedApart f n (false, s) b ∧ MarkedApart f n (markStream f kind o b n) (markRequest kind o s) := by
  have hst : stFaceplate s n = f := stFaceplate_of_mem (List.count_pos_iff.mp (by omega))
  obtain ⟨c, hc, hcafter⟩ := foldl_at (R := fun a b => stFaceplate a.2 n = f → MarkedApart f n a b) (fun a _ => .refl f n a)
    (fun {a b c} h k (ha : stFaceplate a.2 n = f) => (h ha).trans (k (((h ha).stream.stFaceplate_eq n).trans ha))) (count_faceplates hf hbit)
    (fun b g hg hb => MarkedApart.markFaceplate (kind := kind) (o := o) b hg hb) (false, s)
  have hsc := hc hst
  have hcount : (fplStreams c.2 f).count n = 1 := by rw [hsc.stream.fplStreams_eq, hn]
  have hface : markFaceplate kind o c f = (fplStreams c.2 f).foldl (markStream f kind o) c := if_neg (fplStreams_ne_nil hcount)
  obtain ⟨b, hb, hbafter⟩ := foldl_at (R := MarkedApart f n) (.refl f n) .trans hcount
    (fun b k hk => MarkedApart.markStream (kind := kind) (o := o) b hk.symm) c
  refine ⟨b, hsc.trans hb, hbafter.trans ?_⟩
  rw [← hface]
  refine hcafter ?_
  rw [hface, hbafter.stream.stFaceplate_eq, ← hst, ← (hsc.trans hb).stream.stFaceplate_eq n]
  simp only [markStream_snd]
  rfl

theorem fplStream_markRequest (kind : FplReqKind) (hf : f < 16) (hbit : o.arg64.testBit f = true)
    (hn : (fplStreams s f).count n = 1) : fplStream (markRequest kind o s).2 n = marked f kind o s n := by
  obtain ⟨b, hbefore, hafter⟩ := markRequest_at kind hf hbit hn
  rw [hafter.stream.stream, markStream_snd, fplStream_setFplStream, hbefore.stream.marked_eq]

theorem markRequest_late (hf : f < 16) (hbit : o.arg64.testBit f = true) (hn : (fplStreams s f).count n = 1)
    (hl : markedLate f kind o s n) : (markRequest kind o s).1 = true := by
  obtain ⟨b, hbefore, hafter⟩ := markRequest_at kind hf hbit hn
  exact hafter.late ((markStream_fst f kind o b n).mpr (.inr (hbefore.stream.markedLate_iff.mpr hl)))

/-- Where one stream is all a mark has to act on, it is late exactly where that stream is. -/
theorem markRequest_single (kind : FplReqKind) (hb : bitsSet (o.arg64 % 65536) 16 = [f]) (hs : fplStreams s f = [n]) :
    (markRequest kind o s).1 = true ↔ markedLate f kind o s n := by
  have hone : markRequest kind o s = markStream f kind o (false, s) n := by
    rw [markRequest_eq, hb, List.foldl_cons, List.foldl_nil, markFaceplate, hs, if_neg (by simp), List.foldl_cons, List.foldl_nil]
  rw [hone, markStream_fst]
  simp

theorem changesOnly_idleSwap (g : Nat) (kind : FplReqKind) (s : State) : changesOnly [.fpl] [] s (idleSwap g kind s) := by
  cases kind <;> exact ⟨fun y hy => by cases y <;> simp_all [same, idleSwap], sameRegs_of_eq rfl⟩

/-- A mark's request changes nothing but the Faceplates. -/
theorem changesOnly_markRequest (kind : FplReqKind) (o : MarkOcc) (s : State) : changesOnly [.fpl] [] s (markRequest kind o s).2 := by
  rw [markRequest_eq]
  refine foldl_rel (R := fun a b => changesOnly [.fpl] [] a.2 b.2) (fun a => .refl _ _ a.2) .trans (fun a g _ => ?_) (false, s)
  unfold markFaceplate
  split
  · exact changesOnly_idleSwap g kind a.2
  · exact foldl_rel (R := fun a b => changesOnly [.fpl] [] a.2 b.2) (g := markStream g kind o) (fun a => .refl _ _ a.2) .trans
      (fun b k _ => changesOnly_setFplStream k _ b.2) a

end

/-! ## A sample action completes (R289, R290) -/

theorem markOcc_handle {s : State} {h a : Nat} {o : MarkOcc} (ho : markOcc s h a = some o) : o.handle = h := by
  have hfound := List.find?_some ho
  simp only [decide_eq_true_eq] at hfound
  exact hfound.1

theorem sampleAction_some {h a : Nat} {f : MarkOcc → State → Bool × State} {s : State} {o : MarkOcc} (ho : markOcc s h a = some o) :
    sampleAction h a f s =
      markComplete o (if (f o s).1 then mkLate else mkDone) (noteLate (f o s).1 (f o s).2) := by
  unfold sampleAction; rw [ho]

theorem markLanded_spec (h : Nat) (s : State) :
    changesOnly [.mrk] [] s (markLanded h s) ∧ (markLanded h s).mrk.done = s.mrk.done := by
  unfold markLanded
  split
  · exact ⟨.refl _ _ s, rfl⟩
  · split <;> exact ⟨⟨fun y hy => by cases y <;> simp_all [same], sameRegs_of_eq rfl⟩, rfl⟩

theorem changesOnly_markReport (r : MarkReport) (s : State) :
    changesOnly [.mrk, .regs, .events, .out] [mrkPage] s (markReport r s) := by
  unfold markReport
  split
  · exact (changesOnly_setSticky _ _ s).mono (by decide) (by simp)
  · exact ⟨fun y hy => by cases y <;> simp_all [same], sameRegs_of_eq rfl⟩

theorem keepsSticky_markReport (r : MarkReport) (s : State) : keepsSticky s (markReport r s) := by
  unfold markReport
  split
  · exact keepsSticky_setSticky _ _ s
  · exact keepsSticky_of_regs rfl

theorem mem_markReport {r : MarkReport} {s : State} (h : s.mrk.done.length < 256) : r ∈ (markReport r s).mrk.done := by
  unfold markReport
  rw [if_neg (by omega)]
  simp

/-- A completion changes the mark table and reports in the MRK page; no sticky bit is lost, and its report is queued where there is
room. -/
theorem markComplete_spec (o : MarkOcc) (status : Nat) (s : State) :
    changesOnly [.mrk, .regs, .events, .out] [mrkPage] s (markComplete o status s) ∧ keepsSticky s (markComplete o status s) ∧
      (s.mrk.done.length < 256 → ⟨o.handle, max o.status status, timeNs o.time⟩ ∈ (markComplete o status s).mrk.done) := by
  unfold markComplete
  dsimp only
  generalize hu : { s with mrk := { s.mrk with occs := removeFirst o.same s.mrk.occs } } = u
  have huc : changesOnly [.mrk] [] s u := by
    subst hu; exact ⟨fun y hy => by cases y <;> simp_all [same], sameRegs_of_eq rfl⟩
  have hud : u.mrk.done = s.mrk.done := by subst hu; rfl
  obtain ⟨hland, hdone⟩ := markLanded_spec o.handle u
  have hframe := huc.trans hland
  refine ⟨(hframe.mono (by decide) (by simp)).trans (changesOnly_markReport _ _), ?_, fun hlen => mem_markReport ?_⟩
  · exact (keepsSticky_of_regs (hframe.same .regs (by decide))).trans (keepsSticky_markReport _ _)
  · rwa [hdone, hud]

/-- A mark that requests something of streams: what it notes for stream `n` of Faceplate `f`, its report, and its lateness. -/
theorem sampleAction_markRequest {h a f n : Nat} {kind : FplReqKind} {o : MarkOcc} {s : State} (hf : f < 16)
    (ho : markOcc s h a = some o) (hbit : o.arg64.testBit f = true) (hn : (fplStreams s f).count n = 1)
    {late : Prop} [Decidable late] (hl : late ↔ markedLate f kind o s n) :
    fplStream (sampleAction h a (markRequest kind) s) n = marked f kind o s n ∧
      (bitsSet (o.arg64 % 65536) 16 = [f] → fplStreams s f = [n] → s.mrk.done.length < 256 →
        ⟨h, max o.status (if late then 2 else 1), timeNs o.time⟩ ∈ (sampleAction h a (markRequest kind) s).mrk.done) ∧
      (late → stuck (sampleAction h a (markRequest kind) s) mrkPage S.MRK_LATE) ∧
      changesOnly [.fpl, .mrk, .regs, .events, .out] [mrkPage] s (sampleAction h a (markRequest kind) s) := by
  rw [sampleAction_some ho]
  have hreq := changesOnly_markRequest kind o s
  have hnote := changesOnly_stickyIf (markRequest kind o s).1 mrkPage S.MRK_LATE (markRequest kind o s).2
  obtain ⟨hcomplete, hsticky, hreport⟩ := markComplete_spec o (if (markRequest kind o s).1 then mkLate else mkDone)
    (noteLate (markRequest kind o s).1 (markRequest kind o s).2)
  refine ⟨?_, fun hb hs hlen => ?_, fun hlate => ?_, ?_⟩
  · have hfpl := ((hnote.mono (K := [.mrk, .regs, .events, .out]) (by decide) (fun _ h => h)).trans hcomplete).same .fpl (by decide)
    rw [fplStream_congr (congrArg FplState.streams hfpl), fplStream_markRequest kind hf hbit hn]
  · have hmrk := ((hreq.mono (K := [.fpl, .regs, .out, .events]) (k := [mrkPage]) (by decide) (by simp)).trans
      (hnote.mono (by decide) (by simp))).same .mrk (by decide)
    have hstatus : (if (markRequest kind o s).1 then mkLate else mkDone) = if late then 2 else 1 :=
      if_congr ((markRequest_single kind hb hs).trans hl.symm) rfl rfl
    rw [← hstatus, ← markOcc_handle ho]
    exact hreport (by rw [noteLate, hmrk]; exact hlen)
  · refine hsticky _ _ ?_
    rw [markRequest_late hf hbit hn (hl.mp hlate)]
    exact stuck_setSticky _ _ _ (by decide)
  · exact ((hreq.mono (by decide) (by simp)).trans (hnote.mono (by decide) (by simp))).trans
      (hcomplete.mono (by decide) (by simp))

/-! ## The clauses -/

/-- A register request that meets no fade takes its place among those that wait for the stream's next spectrum. -/
theorem registerRequest_noted {f n : Nat} {kind : FplReqKind} {len : Nat} {s u : State} (hf : f < 16)
    (hu : changesOnly [.regs, .wst] [fplPage f] s u) (hn : (fplStreams s f).count n = 1)
    (hfade : ¬ (kind = .coef ∧ (fplStream s n).fade.isSome)) :
    fplStream (registerRequest f kind len u) n = { fplTakeUp s f n with
      reqs := insertReq ⟨kind, (fplStream s n).next, len, swapAligns u f kind, true, 0, 0⟩ (fplTakeUp s f n).reqs } := by
  rw [fplStream_registerRequest kind len hf (by rw [fplStreams_stored hu, hn]), requested_stored hu, if_neg hfade]

/-- Settles O20: each request reaches a stream once, as one step of a fold whose other steps leave the stream alone. -/
theorem faceplateRequests : Obligations.FaceplateRequests := by
  refine ⟨?_, ?_, ?_, ?_, ?_, ?_, ?_, ?_⟩
  · rintro s m f n v x hf j h15 hn rfl hfade
    obtain ⟨-, -, h13, -⟩ := bitOf_swap v
    have hu := changesOnly_swapStored m f (v ||| 0x4000#64) s
    obtain ⟨hothers, hframe⟩ := registerRequest_frame (kind := .coef) (len := fieldOf v 0 13) hf hu hn
    refine ⟨_, exec_request hf j h15, ?_, hothers, fun hs => ?_, hframe⟩
    · rw [registerRequest_noted hf hu hn (by simp [hfade]), aligns_swapStored hf, h13]
    · have hsingle := changesOnly_registerRequest_single .coef (fieldOf v 0 13) ((fplStreams_stored hu f).trans hs)
        (by rw [fplStream_congr (congrArg FplState.streams (hu.same .fpl (by decide))), hfade])
      exact ((hu.mono (by decide) (by simp)).trans (hsingle.mono (k := [fplPage f]) (by decide) (by simp))).1
  · intro s m f n v hf j h15 hn hfade
    have hu := changesOnly_swapStored m f (v ||| 0x4000#64) s
    have hx := fplStream_congr (congrArg FplState.streams (hu.same .fpl (by decide))) n
    have hnu : (fplStreams (swapStored m f (v ||| 0x4000#64) s) f).count n = 1 := by rw [fplStreams_stored hu, hn]
    refine ⟨_, exec_request hf j h15, ?_, fun hq => ?_, (registerRequest_frame hf hu hn).2⟩
    · rw [fplStream_registerRequest .coef _ hf hnu, requested_stored hu, if_pos ⟨rfl, hfade⟩]
    · exact registerRequest_collapsed _ hf hnu (by rw [hx, hfade]) (by rw [hx, hq])
  · intro s m f v hf j h15 hnone
    have hu := changesOnly_swapStored m f (v ||| 0x4000#64) s
    have hfpl : (swapStored m f (v ||| 0x4000#64) s).fpl = s.fpl := hu.same .fpl (by decide)
    have hidle : registerRequest f .coef (fieldOf v 0 13) (swapStored m f (v ||| 0x4000#64) s) =
        idleSwap f .coef (swapStored m f (v ||| 0x4000#64) s) := if_pos ((fplStreams_stored hu f).trans hnone)
    refine ⟨_, exec_request hf j h15, ?_⟩
    rw [hidle]
    refine ⟨?_, (hu.mono (by decide) (by simp)).trans ((changesOnly_idleSwap f .coef _).mono (by decide) (by simp))⟩
    rw [← hfpl]
    rfl
  · rintro s m f n v x hf j h14 hn rfl
    have hu := changesOnly_swapStored m f (v ||| 0x8000#64) s
    exact ⟨_, exec_fplGainSwap hf j h14, registerRequest_noted hf hu hn (by simp), (registerRequest_frame hf hu hn).1,
      registerRequest_noted_frame (by decide) hu hn⟩
  · rintro s m f n v x hf j hn rfl
    have hu := (changesOnly_counted0 m s).mono (k := [fplPage f]) (fun _ h => h) (by simp)
    exact ⟨_, exec_loadNow hf j, registerRequest_noted hf hu hn (by simp), (registerRequest_frame hf hu hn).1,
      registerRequest_noted_frame (by decide) hu hn⟩
  · rintro s h f n p o x al hf ho hbit hn rfl rfl rfl
    exact ⟨_, rfl, sampleAction_markRequest (kind := .coef) hf ho hbit hn Iff.rfl⟩
  · rintro s h f n p o x hf ho hbit hn rfl rfl
    exact ⟨_, rfl, sampleAction_markRequest (kind := .gain) hf ho hbit hn Iff.rfl⟩
  · rintro s h f n p o x hf ho hbit hn rfl rfl
    exact ⟨_, rfl, sampleAction_markRequest (kind := .model) hf ho hbit hn Iff.rfl⟩

end Sys2Proof.Machine
end

section
/-! PROOFS. Spectra of a stream: what the steps of a spectrum count, send and flag, and what they leave (R138, R148, R150, R157,
R159). -/

namespace Sys2Proof.Machine

/-! ## Steps of a spectrum -/

/-- On Faceplate `f`, `c` spectra have been counted and the operands `l` sent; no stream, no setting of the page and, with none armed,
no detector has changed, and no sticky bit is lost. -/
structure Emits (f c : Nat) (l : List TurnOperand) (s t : State) : Prop where
  frame : changesOnly [.fpl, .regs, .events, .out, .armed] [fplPage f] s t
  armed : unarmed s (fplPage f) → t.armed = s.armed
  cfg : reg t (fplPage f) R.FPL_CFG = reg s (fplPage f) R.FPL_CFG
  sticky : keepsSticky s t
  streams : t.fpl.streams = s.fpl.streams
  regions : t.fpl.regions = s.fpl.regions
  transit : t.fpl.transit = s.fpl.transit ++ l
  count : (reg t (fplPage f) R.FPL_CNT).toNat = satAdd 64 (reg s (fplPage f) R.FPL_CNT).toNat c

theorem satAdd_zero (w : Word) : satAdd 64 w.toNat 0 = w.toNat := by
  have := w.isLt
  unfold satAdd; omega

theorem satAdd_satAdd (n x a b : Nat) : satAdd n (satAdd n x a) b = satAdd n x (a + b) := by
  unfold satAdd; omega

theorem satAdd_lt (x a : Nat) : satAdd 64 x a < 2 ^ 64 := by
  unfold satAdd; omega

namespace Emits
variable {f c d : Nat} {l k : List TurnOperand} {s t u : State}

/-- A step that counts and sends nothing. -/
theorem of_quiet (hframe : changesOnly [.fpl, .regs, .events, .out, .armed] [fplPage f] s t)
    (harmed : unarmed s (fplPage f) → t.armed = s.armed)
    (hregs : ∀ off ∈ [R.FPL_CFG, R.FPL_CNT], reg t (fplPage f) off = reg s (fplPage f) off) (hsticky : keepsSticky s t)
    (hstreams : t.fpl.streams = s.fpl.streams) (hregions : t.fpl.regions = s.fpl.regions)
    (htransit : t.fpl.transit = s.fpl.transit) : Emits f 0 [] s t where
  frame := hframe
  armed := harmed
  cfg := hregs _ (by simp)
  sticky := hsticky
  streams := hstreams
  regions := hregions
  transit := by rw [htransit, List.append_nil]
  count := by rw [hregs R.FPL_CNT (by simp), satAdd_zero]

theorem refl (f : Nat) (s : State) : Emits f 0 [] s s :=
  of_quiet (.refl _ _ s) (fun _ => rfl) (fun _ _ => rfl) (fun _ _ h => h) rfl rfl rfl

theorem trans (h : Emits f c l s t) (g : Emits f d k t u) : Emits f (c + d) (l ++ k) s u where
  frame := h.frame.trans g.frame
  armed hu := (g.armed (by unfold unarmed; rwa [h.armed hu])).trans (h.armed hu)
  cfg := g.cfg.trans h.cfg
  sticky := h.sticky.trans g.sticky
  streams := g.streams.trans h.streams
  regions := g.regions.trans h.regions
  transit := by rw [g.transit, h.transit, List.append_assoc]
  count := by rw [g.count, h.count, satAdd_satAdd]

/-- A quiet step before another. -/
theorem after (g : Emits f d k t u) (h : Emits f 0 [] s t) : Emits f d k s u := by simpa using h.trans g

/-- A quiet step behind another. -/
theorem quietly (h : Emits f c l s t) (g : Emits f 0 [] t u) : Emits f c l s u := by simpa using h.trans g

/-- Operands sent after spectra have been counted. -/
theorem sending (h : Emits f c [] s t) (g : Emits f 0 l t u) : Emits f c l s u := by simpa using h.trans g

theorem gangSize_eq (h : Emits f c l s t) (hf : f < 16) : gangSize t = gangSize s := by
  unfold gangSize
  rw [fld_of_reg (h.frame.reg (p := 0x320) (by simp [fplPage]; omega) (by decide) (by decide))]

theorem mapT_eq (h : Emits f c l s t) (g : Nat) (w : Word) : mapT t g w = mapT s g w := by
  simp [mapT, regionT, regionWord, h.regions]

theorem fplN_eq (h : Emits f c l s t) : fplN t f = fplN s f := by
  unfold fplN
  rw [fld_of_reg h.cfg]

end Emits

section
variable {f : Nat} {s : State}

/-- A change of the Faceplates beside streams and operands in transit. -/
theorem emits_fpl {x : FplState} (hs : x.streams = s.fpl.streams) (hr : x.regions = s.fpl.regions) (ht : x.transit = s.fpl.transit) :
    Emits f 0 [] s { s with fpl := x } :=
  .of_quiet ⟨fun y hy => by cases y <;> simp_all [same], sameRegs_of_eq rfl⟩ (fun _ => rfl) (fun _ _ => rfl)
    (keepsSticky_of_regs rfl) hs hr ht

theorem emits_stickyIf (c : Bool) {b : Nat} (hf : f < 16) (hb : b < 64) (s : State) :
    Emits f 0 [] s (stickyIf c (fplPage f) b s) := by
  have hc := changesOnly_stickyIf c (fplPage f) b s
  have hfpl : (stickyIf c (fplPage f) b s).fpl = s.fpl := hc.same .fpl (by decide)
  refine .of_quiet (hc.mono (by decide) (fun _ h => h)) (fun _ => hc.same .armed (by decide)) (fun off ho => ?_)
    (keepsSticky_stickyIf c _ b s) (by rw [hfpl]) (by rw [hfpl]) (by rw [hfpl])
  have hlow : off < 0x1000 ∧ off ≠ R.STICKY := by revert off; decide
  exact reg_stickyIf_page c s (fplPage_plain hf) hb hlow.1 hlow.2

theorem emits_setSticky {b : Nat} (hf : f < 16) (hb : b < 64) (s : State) : Emits f 0 [] s (setSticky (fplPage f) b s) :=
  emits_stickyIf true hf hb s

theorem emits_takeArmed (b : Nat) (s : State) : Emits f 0 [] s (takeArmed (fplPage f) b s).2 := by
  have hc := changesOnly_takeArmed (fplPage f) b s
  have hfpl : (takeArmed (fplPage f) b s).2.fpl = s.fpl := hc.same .fpl (by decide)
  have hregs : (takeArmed (fplPage f) b s).2.regs = s.regs := hc.same .regs (by decide)
  exact .of_quiet (hc.mono (by decide) (by simp)) (fun hu => by rw [takeArmed_unarmed b hu]) (fun off _ => reg_congr hregs _ off)
    (keepsSticky_of_regs hregs) (by rw [hfpl]) (by rw [hfpl]) (by rw [hfpl])

theorem keepsSticky_countK {p base k n : Nat} (s : State) (hb : base + 8 * k < 0x1000) (hn : base + 8 * k ≠ R.STICKY) :
    keepsSticky s (countK p base k n s) := by
  intro q b hq
  dsimp only [stuck] at hq ⊢
  rwa [countK, countUp, reg_setReg_ne _ s (regAddr_ne (by decide) hb (.inr (Ne.symm hn)))]

/-- A counter of the page other than that of spectra. -/
theorem emits_countK {k : Nat} (n : Nat) (hk : 0 < k) (hk9 : k < 9) (s : State) :
    Emits f 0 [] s (countK (fplPage f) R.FPL_CNT k n s) := by
  have hlow : R.FPL_CNT + 8 * k < 0x1000 := by simp only [R.FPL_CNT]; omega
  refine .of_quiet ⟨keeps_mono (by decide) (keeps_countK _ _ _ _ s), sameRegs_countK n s hlow⟩ (fun _ => rfl) (fun off ho => ?_)
    (keepsSticky_countK s hlow (by simp only [R.FPL_CNT, R.STICKY]; omega)) rfl rfl rfl
  have hoff : off = R.FPL_CFG ∨ off = R.FPL_CNT := by simpa using ho
  exact reg_countK_off n s (by rcases hoff with rfl | rfl <;> decide) hlow
    (by rcases hoff with rfl | rfl <;> simp only [R.FPL_CFG, R.FPL_CNT] <;> omega)

/-- The counter of spectra. -/
theorem emits_spectrum (s : State) : Emits f 1 [] s (countK (fplPage f) R.FPL_CNT 0 1 s) where
  frame := ⟨keeps_mono (by decide) (keeps_countK _ _ _ _ s), sameRegs_countK 1 s (by decide)⟩
  armed _ := rfl
  cfg := reg_countK_off 1 s (by decide) (by decide) (by decide)
  sticky := keepsSticky_countK s (by decide) (by decide)
  streams := rfl
  regions := rfl
  transit := (List.append_nil _).symm
  count := by
    have hcount : reg (countK (fplPage f) R.FPL_CNT 0 1 s) (fplPage f) R.FPL_CNT = _ := counted_countK (fplPage f) R.FPL_CNT 0 1 s
    rw [hcount, BitVec.toNat_ofNat, Nat.mod_eq_of_lt (satAdd_lt _ _)]

/-- A step taken on a condition, or nothing. -/
theorem emits_ite {p : Prop} [Decidable p] {t : State} (h : Emits f 0 [] s t) : Emits f 0 [] s (if p then t else s) := by
  split
  · exact h
  · exact .refl f s

theorem emits_ite_not {p : Prop} [Decidable p] {t : State} (h : Emits f 0 [] s t) : Emits f 0 [] s (if p then s else t) := by
  split
  · exact .refl f s
  · exact h

/-- Without a gang an operand goes into transit (R157). -/
theorem emits_routeOperand {o : TurnOperand} (hg : gangSize s = 1) : Emits f 0 [o] s (routeOperand o s) := by
  have hmode : gangMode s o.region = 0 := if_pos hg
  have hroute : routeOperand o s = { s with fpl := { s.fpl with transit := s.fpl.transit ++ [o] } } := if_pos (.inl hmode)
  rw [hroute]
  exact ⟨⟨fun y hy => by cases y <;> simp_all [same], sameRegs_of_eq rfl⟩, fun _ => rfl, rfl, keepsSticky_of_regs rfl, rfl, rfl, rfl,
    (satAdd_zero _).symm⟩

end

/-! ## The operands of a spectrum (R148, R157) -/

/-- One operand of channel after channel, each of them 0 where the spectrum is zapped. -/
theorem emits_foldl {f : Nat} (hf : f < 16) {zero : Nat → TurnOperand} {zap : Bool} {g : State → Nat → State}
    (h : ∀ s c, gangSize s = 1 → ∃ o, (zap = true → o = zero c) ∧ Emits f 0 [o] s (g s c)) (cs : List Nat) (s : State)
    (hg : gangSize s = 1) :
    ∃ l, l.length = cs.length ∧ (zap = true → l = cs.map zero) ∧ Emits f 0 l s (cs.foldl g s) := by
  induction cs generalizing s with
  | nil => exact ⟨[], rfl, fun _ => rfl, .refl f s⟩
  | cons c cs ih =>
    obtain ⟨o, ho, hstep⟩ := h s c hg
    obtain ⟨l, hlen, hzap, hrest⟩ := ih (g s c) (by rw [hstep.gangSize_eq hf, hg])
    exact ⟨o :: l, by simp [hlen], fun hz => by simp [ho hz, hzap hz], hstep.trans hrest⟩

theorem emits_range {f k : Nat} (hf : f < 16) {zero : Nat → TurnOperand} {zap : Bool} {g : State → Nat → State}
    (h : ∀ s c, gangSize s = 1 → ∃ o, (zap = true → o = zero c) ∧ Emits f 0 [o] s (g s c)) (s : State) (hg : gangSize s = 1) :
    ∃ l, l.length = k ∧ (zap = true → l = (List.range k).map zero) ∧ Emits f 0 l s ((List.range k).foldl g s) := by
  simpa using emits_foldl hf h (List.range k) s hg

/-- The operand 0 + 0j of a channel of spectrum `p`. -/
def zeroOperand (f p t : Nat) (w : Word) (c : Nat) : TurnOperand := ⟨f, mapRegion w, mapPos w, c, p / t, p % t, 0⟩

theorem emits_countZapped {f : Nat} (g j c : Nat) (s : State) : Emits f 0 [] s (countZapped g j c s) := emits_fpl rfl rfl rfl

theorem emits_emitChannels {f n j p : Nat} {w : Word} {x : FplStream} {win : List FplOut} {zap : Bool} {s : State} (hf : f < 16)
    (hg : gangSize s = 1) : ∃ l, l.length = fplN s f ∧
      (zap = true → l = (List.range (fplN s f)).map (zeroOperand f p (mapT s f w) w)) ∧
      Emits f 0 l s (emitChannels f n j p w x win zap s) := by
  unfold emitChannels
  extract_lets m taps t complex z gb page
  refine emits_range hf (fun s c hg => ?_) s hg
  extract_lets g zapped o s1 s2
  have h1 : Emits f 0 [] s s1 := emits_ite ((emits_countK 1 (by decide) (by decide) _).after (emits_countZapped f j 1 s))
  have h2 : Emits f 0 [] s1 s2 :=
    emits_ite_not ((emits_countK o.2 (by decide) (by decide) _).after (emits_setSticky hf (by decide) s1))
  have h12 := h2.after h1
  refine ⟨_, fun hz => ?_, (emits_routeOperand (by rw [h12.gangSize_eq hf, hg])).after h12⟩
  have ho : o = (0, 0) := if_pos (by simp [zapped, hz])
  rw [ho]
  rfl

/-! ## Boundaries and memory errors (R151, R159) -/

theorem emits_notePass {f : Nat} (hf : f < 16) (j : Nat) (a : FplPass) (s : State) : Emits f 0 [] s (notePass f j a s) := by
  unfold notePass
  extract_lets s1 _ s2 _ s3
  have h1 : Emits f 0 [] s s1 := emits_stickyIf _ hf (by decide) s
  have h2 : Emits f 0 [] s1 s2 := emits_ite_not ((emits_countK _ (by decide) (by decide) _).after (emits_fpl rfl rfl rfl))
  have h3 : Emits f 0 [] s2 s3 := emits_ite (p := a.gains = true) (emits_fpl rfl rfl rfl)
  refine (emits_ite (p := a.loaded = true) ?_).after (h3.after (h2.after h1))
  exact emits_fpl rfl rfl rfl

/-- A memory error is flagged, as correctable or not. -/
theorem emits_fplMemError {f : Nat} (hf : f < 16) (e : MemError) (s : State) : Emits f 0 [] s (fplMemError f e s) ∧
    stuck (fplMemError f e s) (fplPage f) (if e.uncorr then S.FPL_MEM_UNCORR else S.FPL_MEM_CORR) := by
  cases hu : e.uncorr with
  | false =>
    have hset : fplMemError f e s = setSticky (fplPage f) S.FPL_MEM_CORR s := if_pos (by simp [hu])
    rw [hset]
    exact ⟨emits_setSticky hf (by decide) s, stuck_setSticky _ _ s (by decide)⟩
  | true =>
    have hset := emits_setSticky (b := S.FPL_MEM_UNCORR) hf (by decide) s
    have hmark : Emits f 0 [] (setSticky (fplPage f) S.FPL_MEM_UNCORR s) (fplMemError f e s) := by
      unfold fplMemError
      rw [if_neg (by simp [hu])]
      dsimp only
      split_ifs <;> exact emits_fpl rfl rfl rfl
    exact ⟨hmark.after hset, hmark.sticky _ _ (stuck_setSticky _ _ s (by decide))⟩

theorem emits_memErrors {f : Nat} (hf : f < 16) (errs : List MemError) (s : State) :
    Emits f 0 [] s (errs.foldl (fun s e => fplMemError f e s) s) ∧ ∀ e ∈ errs,
      stuck (errs.foldl (fun s e => fplMemError f e s) s) (fplPage f) (if e.uncorr then S.FPL_MEM_UNCORR else S.FPL_MEM_CORR) := by
  induction errs generalizing s with
  | nil => exact ⟨.refl f s, by simp⟩
  | cons e errs ih =>
    obtain ⟨hfirst, hflag⟩ := emits_fplMemError hf e s
    obtain ⟨hrest, hflags⟩ := ih (fplMemError f e s)
    refine ⟨hrest.after hfirst, fun e' he => ?_⟩
    rcases List.mem_cons.mp he with rfl | he
    · exact hrest.sticky _ _ hflag
    · exact hflags e' he

/-- A detector judged, and its bit where it fires. -/
theorem emits_detector {f b : Nat} (hf : f < 16) (hb : b < 64) (real : Bool) (s : State) :
    Emits f 0 [] s (stickyIf (evalDetector (fplPage f) b real s).1 (fplPage f) b (evalDetector (fplPage f) b real s).2) :=
  (emits_stickyIf _ hf hb _).after (emits_takeArmed b s)

theorem emits_injected {f b : Nat} (hf : f < 16) (hb : b < 64) (s : State) :
    Emits f 0 [] s (stickyIf (takeArmed (fplPage f) b s).1 (fplPage f) b (takeArmed (fplPage f) b s).2) :=
  (emits_stickyIf _ hf hb _).after (emits_takeArmed b s)

/-! ## SPECTRUM -/

section
variable {f n j : Nat} {w : Word} {errs : List MemError} {s : State} {x : FplStream}

/-- The outputs of the window of a stream's next spectrum (R138). -/
def nextWindow (s : State) (f n : Nat) (x : FplStream) : List FplOut :=
  (x.outs.drop ((fplStream s n).next * fplM s f n + x.delay - x.base)).take (fplTaps s f * fplM s f n)

/-- With its window complete, a spectrum is counted, its operands are sent and the stream moves on. -/
theorem spectrum_made (hf : f < 16) (hmap : mapOf s f n = some (j, w)) (hg : gangSize s = 1)
    (hx : x = (boundary s f j (mapT s f w) (fplStream s n).next (fplStream s n)).x) (hrun : x.running = true)
    (hbase : x.base ≤ (fplStream s n).next * fplM s f n + x.delay)
    (hwin : (fplStream s n).next * fplM s f n + x.delay + fplTaps s f * fplM s f n ≤ x.base + x.outs.length) :
    ∃ l y u, spectrum f n errs s = setFplStream n y u ∧ y.next = (fplStream s n).next + 1 ∧ Emits f 1 l s u ∧
      l.length = fplN s f ∧ ((nextWindow s f n x).any (fun o => o.lost) = true →
        l = (List.range (fplN s f)).map (zeroOperand f (fplStream s n).next (mapT s f w) w)) ∧
      ∀ e ∈ errs, stuck u (fplPage f) (if e.uncorr then S.FPL_MEM_UNCORR else S.FPL_MEM_CORR) := by
  unfold spectrum
  split
  · rename_i h; cases hmap.symm.trans h
  rename_i j' w' h
  obtain ⟨rfl, rfl⟩ : j' = j ∧ w' = w := by simpa [hmap, eq_comm] using h
  subst hx
  extract_lets page x0 m taps p t b x start s1 s2 inj s3 corr s4 win lost uns range s5 mem zapAll s6 s7 s8 s9 e y s10 keep
  rw [if_pos ⟨hwin, hbase, hrun⟩]
  have h1 : Emits f 0 [] s s1 := emits_notePass hf j' b s
  obtain ⟨h2, hflags⟩ := emits_memErrors hf errs s1
  have h3 : Emits f 0 [] s2 s3 := emits_injected hf (by decide) s2
  have h4 : Emits f 0 [] s3 s4 := emits_injected hf (by decide) s3
  have h5 : Emits f 0 [] s4 s5 := emits_detector hf (by decide) _ s4
  have h6 : Emits f 1 [] s5 s6 := emits_spectrum s5
  have h7 : Emits f 0 [] s6 s7 := emits_ite (emits_countK _ (by decide) (by decide) s6)
  have h8 : Emits f 0 [] s7 s8 := emits_ite (emits_countK _ (by decide) (by decide) s7)
  have h28 : Emits f 1 [] s2 s8 := ((h6.after (h5.after (h4.after h3))).quietly h7).quietly h8
  have h18 : Emits f 1 [] s s8 := h28.after (h2.after h1)
  obtain ⟨l, hlen, hzap, h9⟩ := emits_emitChannels (n := n) (j := j') (p := p) (w := w') (x := x) (win := win) (zap := zapAll) hf
    ((h18.gangSize_eq hf).trans hg)
  have h10 : Emits f 0 [] s9 s10 := emits_notePass hf j' e s9
  rw [h18.fplN_eq, h18.mapT_eq] at hzap
  rw [h18.fplN_eq] at hlen
  refine ⟨l, _, s10, rfl, rfl, (h18.sending h9).quietly h10, hlen, fun hlost => ?_, fun e' he => ?_⟩
  · exact hzap (by simp [zapAll, show lost = true from hlost])
  · exact ((h28.sending h9).quietly h10).sticky _ _ (hflags e' he)

/-- A stream that does not run makes no spectrum. -/
theorem spectrum_stopped (hmap : mapOf s f n = some (j, w))
    (hrun : (boundary s f j (mapT s f w) (fplStream s n).next (fplStream s n)).x.running = false) : spectrum f n errs s = s := by
  unfold spectrum
  rw [hmap]
  dsimp only
  rw [hrun, if_neg (by simp), if_neg (by simp)]

theorem exec_spectrum_taken (hl : pageLive s (fplPage f) = true) (ht : fplTakes s f n = true) :
    exec (.spectrum f n errs) s = .next (spectrum f n errs s) := by
  change Host.Outcome.next (if pageLive s (fplPage f) && fplTakes s f n then spectrum f n errs s else s) = _
  rw [hl, ht]
  rfl

theorem exec_spectrum_dead (h : pageLive s (fplPage f) = false ∨ fplTakes s f n = false) :
    exec (.spectrum f n errs) s = .next s := by
  change Host.Outcome.next (if pageLive s (fplPage f) && fplTakes s f n then spectrum f n errs s else s) = _
  rw [if_neg (by rcases h with h | h <;> simp [h])]

/-- What a spectrum leaves of the state, its stream set last. -/
theorem Emits.frame_setFplStream {c : Nat} {l : List TurnOperand} {u : State} (h : Emits f c l s u) (y : FplStream) :
    changesOnly [.fpl, .regs, .events, .out, .armed] [fplPage f] s (setFplStream n y u) ∧
      (∀ k, k ≠ n → fplStream (setFplStream n y u) k = fplStream s k) :=
  ⟨h.frame.trans ((changesOnly_setFplStream n y u).mono (by decide) (by simp)),
    fun k hk => (fplStream_setFplStream_ne y u hk).trans (fplStream_congr h.streams k)⟩

/-- With no detector armed a spectrum leaves the detectors. -/
theorem Emits.frame_setFplStream_unarmed {c : Nat} {l : List TurnOperand} {u : State} (h : Emits f c l s u) (hu : unarmed s (fplPage f))
    (y : FplStream) : changesOnly [.fpl, .regs, .events, .out] [fplPage f] s (setFplStream n y u) := by
  obtain ⟨hframe, -⟩ := h.frame_setFplStream (n := n) y
  refine ⟨fun q hq => ?_, hframe.2⟩
  by_cases ha : q = .armed
  · subst ha; exact h.armed hu
  · exact hframe.1 q (by simp_all)

end

/-! ## Streams for which no request waits (R150) -/

/-- Two records of a stream agree in what places its window and makes it act at a boundary, the fade aside. -/
structure SameWindow (x y : FplStream) : Prop where
  base : y.base = x.base
  outs : y.outs = x.outs
  running : y.running = x.running
  delay : y.delay = x.delay
  held : y.delayHeld = x.delayHeld
  reqs : y.reqs = x.reqs

theorem SameWindow.refl (x : FplStream) : SameWindow x x := ⟨rfl, rfl, rfl, rfl, rfl, rfl⟩

theorem SameWindow.trans {x y z : FplStream} (h : SameWindow x y) (k : SameWindow y z) : SameWindow x z :=
  ⟨k.base.trans h.base, k.outs.trans h.outs, k.running.trans h.running, k.delay.trans h.delay, k.held.trans h.held,
    k.reqs.trans h.reqs⟩

/-- A fade that ends moves the banks alone. -/
theorem sameWindow_fadeEnd {p : Nat} {a b : FplPass} (h : fadeEnd p a = some b) : SameWindow a.x b.x := by
  unfold fadeEnd at h
  split at h
  · cases h
  · split at h
    · obtain rfl := Option.some.inj h
      exact ⟨rfl, rfl, rfl, rfl, rfl, rfl⟩
    · cases h

/-- Where no request waits, boundaries end fades and do nothing else. -/
theorem sameWindow_passBoundaries (s : State) (f j t p k : Nat) {a : FplPass} (h : a.x.reqs = []) :
    SameWindow a.x (passBoundaries s f j t p k a).x := by
  induction k generalizing a with
  | zero => exact .refl _
  | succ k ih =>
    unfold passBoundaries
    rw [h]
    dsimp only
    split
    · rename_i b hb
      have hab := sameWindow_fadeEnd hb
      exact hab.trans (ih (hab.reqs.trans h))
    · exact .refl _

theorem sameWindow_boundary (s : State) (f j t p : Nat) {x : FplStream} (hr : x.reqs = []) (hd : x.delayHeld = none) :
    SameWindow x (boundary s f j t p x).x := by
  have hpass := sameWindow_passBoundaries s f j t p (4 * x.reqs.length + 4) (a := { x := x }) hr
  have htake : (boundary s f j t p x).x = (passBoundaries s f j t p (4 * x.reqs.length + 4) { x := x }).x := by
    unfold boundary delayTake
    dsimp only
    rw [hpass.held.trans hd]
  rw [htake]
  exact hpass

/-- The next spectrum of a stream for which no request waits. -/
theorem spectrum_idle {f n j : Nat} {w : Word} {s : State} (errs : List MemError) (hf : f < 16) (hmap : mapOf s f n = some (j, w))
    (hg : gangSize s = 1) (hreqs : (fplStream s n).reqs = []) (hheld : (fplStream s n).delayHeld = none)
    (hrun : (fplStream s n).running = true)
    (hbase : (fplStream s n).base ≤ (fplStream s n).next * fplM s f n + (fplStream s n).delay)
    (hwin : (fplStream s n).next * fplM s f n + (fplStream s n).delay + fplTaps s f * fplM s f n ≤
      (fplStream s n).base + (fplStream s n).outs.length) :
    ∃ l y u, spectrum f n errs s = setFplStream n y u ∧ y.next = (fplStream s n).next + 1 ∧ Emits f 1 l s u ∧
      l.length = fplN s f ∧ ((nextWindow s f n (fplStream s n)).any (fun o => o.lost) = true →
        l = (List.range (fplN s f)).map (zeroOperand f (fplStream s n).next (mapT s f w) w)) := by
  have hsame := sameWindow_boundary s f j (mapT s f w) (fplStream s n).next hreqs hheld
  obtain ⟨l, y, u, hspec, hnext, hemits, hlen, hlost, -⟩ := spectrum_made (errs := errs) hf hmap hg rfl (hsame.running.trans hrun)
    (by rw [hsame.base, hsame.delay]; exact hbase) (by rw [hsame.base, hsame.delay, hsame.outs]; exact hwin)
  refine ⟨l, y, u, hspec, hnext, hemits, hlen, fun h => hlost ?_⟩
  rw [← h]
  unfold nextWindow
  rw [hsame.base, hsame.delay, hsame.outs]

/-! ## The last weight of a fade (R150) -/

theorem roundDiv_mul (q : Int) {d : Nat} (hd : 0 < d) : roundDiv (d * q) d = q := by
  have hpos : (0 : Int) < d := by exact_mod_cast hd
  unfold roundDiv
  simp only [Int.mul_ediv_cancel_left q hpos.ne', Int.mul_emod_right]
  rw [if_pos (by omega)]

theorem roundShift_mul (q : Int) : roundShift (q * 65536) 16 = q := by
  unfold roundShift
  simp only [show ((2 ^ 16 : Nat) : Int) = 65536 by decide, Int.mul_ediv_cancel q (by decide : (65536 : Int) ≠ 0), Int.mul_emod_left]
  rfl

theorem fadeWeight_last {fd : FplFade} (h : 0 < fd.len) : fadeWeight fd (fd.start + fd.len - 1) = 65536 := by
  unfold fadeWeight
  rw [show fd.start + fd.len - 1 + 1 - fd.start = fd.len by omega]
  push_cast
  rw [roundDiv_mul 65536 h]
  rfl

/-- At the last weight the combination is the sum of the new bank. -/
theorem fadeMix_last (a b : Int × Int) : fadeMix 65536 a b = b := by
  have hpart (x y : Int) : x + roundShift ((y - x) * (65536 : Nat)) 16 = y := by
    rw [Nat.cast_ofNat, roundShift_mul]; omega
  exact Prod.ext (hpart a.1 b.1) (hpart a.2 b.2)

/-- Settles O21: a spectrum is a run of steps that each count, send and flag by themselves, with the stream set last; with no
request waiting, the boundary leaves the window where it is. -/
theorem spectra : Obligations.Spectra := by
  refine ⟨?_, ?_, ?_, ?_, ?_⟩
  · intro s f n j w hf hl ht hmap hu hg hreqs hheld hrun hbase hwin
    obtain ⟨l, y, u, hspec, hnext, hemits, hlen, -⟩ := spectrum_idle [] hf hmap hg hreqs hheld hrun hbase hwin
    refine ⟨_, exec_spectrum_taken hl ht, ?_⟩
    rw [hspec]
    refine ⟨by rw [fplStream_setFplStream, hnext], hemits.count, ?_, hemits.frame_setFplStream_unarmed hu y⟩
    change u.fpl.transit.length = _
    rw [hemits.transit, List.length_append, hlen]
  · intro s f n j w hf hl ht hmap hu hg hreqs hheld hrun hbase hwin hlost
    obtain ⟨l, y, u, hspec, -, hemits, -, hzero⟩ := spectrum_idle [] hf hmap hg hreqs hheld hrun hbase hwin
    refine ⟨_, exec_spectrum_taken hl ht, ?_⟩
    rw [hspec]
    refine ⟨?_, hemits.frame_setFplStream_unarmed hu y⟩
    change u.fpl.transit = _
    rw [hemits.transit, hzero hlost]
    rfl
  · intro s f n j w errs x hf hl ht hmap hg hx hrun hbase hwin
    obtain ⟨l, y, u, hspec, hnext, hemits, hlen, -, hflags⟩ := spectrum_made (errs := errs) hf hmap hg hx hrun hbase hwin
    obtain ⟨hframe, hothers⟩ := hemits.frame_setFplStream (n := n) y
    refine ⟨_, exec_spectrum_taken hl ht, ?_⟩
    rw [hspec]
    refine ⟨by rw [fplStream_setFplStream, hnext], ?_, hothers, hflags, hframe⟩
    change u.fpl.transit.length = _
    rw [hemits.transit, List.length_append, hlen]
  · rintro s f n j w errs (hdead | hdead | ⟨hmap, hrun⟩)
    · exact ⟨s, exec_spectrum_dead (.inl hdead), rfl⟩
    · exact ⟨s, exec_spectrum_dead (.inr hdead), rfl⟩
    · refine ⟨s, ?_, rfl⟩
      change Host.Outcome.next (if pageLive s (fplPage f) && fplTakes s f n then spectrum f n errs s else s) = _
      rw [spectrum_stopped hmap hrun, ite_self]
  · intro fd a b h
    rw [fadeWeight_last h, fadeMix_last]

end Sys2Proof.Machine
end

section
/-! PROOFS. The lathes: the equations of the witness check, handshake timeouts and replays, and debug snapshots. -/

namespace Sys2Proof.Machine

/-! ## Lines of the witness check (R173): 33 cells, the last of them the witness of the 32 before it -/

/-- Sum − witness of a line of cells. -/
def residue (g : Nat → Int × Int) : Int × Int := ∑ k ∈ Finset.range 32, g k - g 32

theorem residue_add (f g : Nat → Int × Int) : residue (fun k => f k + g k) = residue f + residue g := by
  unfold residue
  rw [Finset.sum_add_distrib, add_sub_add_comm]

theorem residue_map (f : Int × Int →+ Int × Int) (g : Nat → Int × Int) : residue (fun k => f (g k)) = f (residue g) := by
  unfold residue
  rw [map_sub, map_sum]

/-- A line is judged by its 33 cells alone. -/
theorem residue_congr {f g : Nat → Int × Int} (h : ∀ k < 33, f k = g k) : residue f = residue g := by
  unfold residue
  rw [h 32 (by decide), Finset.sum_congr rfl (fun k hk => h k (by have := Finset.mem_range.mp hk; omega))]

/-- One changed cell of a line changes its residue by as much, the witness by the negative. -/
theorem residue_single {k : Nat} (hk : k < 33) (z : Int × Int) :
    residue (fun l => if l = k then z else 0) = if k < 32 then z else -z := by
  unfold residue
  rw [Finset.sum_ite_eq']
  by_cases h : k < 32
  · simp [h, show 32 ≠ k by omega]
  · obtain rfl : k = 32 := by omega
    simp

theorem residue_zero : residue (fun _ => 0) = 0 := by simp [residue]

theorem foldl_addPair (l : List (Int × Int)) (a : Int × Int) : l.foldl addPair a = a + l.sum := by
  induction l generalizing a with
  | nil => simp
  | cons b l ih => rw [List.foldl_cons, ih, List.sum_cons, ← add_assoc]; rfl

theorem foldl_range_addPair (n : Nat) (g : Nat → Int × Int) :
    (List.range n).foldl (fun a k => addPair a (g k)) (0, 0) = ∑ k ∈ Finset.range n, g k := by
  rw [← List.foldl_map (f := g) (g := addPair), foldl_addPair]
  exact zero_add _

section Lines
variable (v : List (Int × Int))

theorem rowSum_eq (i : Nat) : rowSum v i = ∑ j ∈ Finset.range 32, cellAt v i j := foldl_range_addPair 32 _

theorem colSum_eq (j : Nat) : colSum v j = ∑ i ∈ Finset.range 32, cellAt v i j := foldl_range_addPair 32 _

/-- Both components of the equation of row `i`; that of row 32 is the corner by columns. -/
def rowEquations (i : Nat) : List Equation :=
  equationOf (if i < 32 then 0 else 3) (if i < 32 then i else 0) (rowSum v i) (cellAt v i 32)

/-- Both components of the equation of column `j`; that of column 32 is the corner by rows. -/
def colEquations (j : Nat) : List Equation :=
  equationOf (if j < 32 then 1 else 2) (if j < 32 then j else 0) (colSum v j) (cellAt v 32 j)

theorem flatMap_lt_congr {α : Type} {n : Nat} {f g : Nat → List α} (h : ∀ k < n, f k = g k) :
    (List.range n).flatMap f = (List.range n).flatMap g :=
  List.flatMap_congr (fun k hk => h k (List.mem_range.mp hk))

/-- The equations are those of the 33 rows and of the 33 columns, in another order. -/
theorem equations_perm : (equations v).Perm
    ((List.range 33).flatMap (rowEquations v) ++ (List.range 33).flatMap (colEquations v)) := by
  have hr : (List.range 33).flatMap (rowEquations v) =
      (List.range 32).flatMap (fun i => equationOf 0 i (rowSum v i) (cellAt v i 32)) ++
        equationOf 3 0 (rowSum v 32) (cellAt v 32 32) := by
    rw [List.range_succ, List.flatMap_append, flatMap_lt_congr (fun k hk => by rw [rowEquations, if_pos hk, if_pos hk])]
    simp [rowEquations]
  have hc : (List.range 33).flatMap (colEquations v) =
      (List.range 32).flatMap (fun j => equationOf 1 j (colSum v j) (cellAt v 32 j)) ++
        equationOf 2 0 (colSum v 32) (cellAt v 32 32) := by
    rw [List.range_succ, List.flatMap_append, flatMap_lt_congr (fun k hk => by rw [colEquations, if_pos hk, if_pos hk])]
    simp [colEquations]
  rw [hr, hc, equations, List.append_assoc _ _ (equationOf 3 _ _ _), List.append_assoc, List.append_assoc,
    ← List.append_assoc _ _ (equationOf 3 _ _ _)]
  exact List.Perm.append_left _ List.perm_append_comm

/-- Of a list of equations those that fail. -/
def failed (l : List Equation) : List Equation := l.filter (fun e => decide (e.diff ≠ 0))

theorem failing_perm : (failing v).Perm
    ((List.range 33).flatMap (fun i => failed (rowEquations v i)) ++ (List.range 33).flatMap (fun j => failed (colEquations v j))) := by
  have h := (equations_perm v).filter (fun e => decide (e.diff ≠ 0))
  rwa [List.filter_append, List.filter_flatMap, List.filter_flatMap] at h

/-- A change of one component. -/
def component (im : Bool) (d : Int) : Int × Int := if im then (0, d) else (d, 0)

theorem failed_equationOf_nil {k i : Nat} {a b : Int × Int} : failed (equationOf k i a b) = [] ↔ a - b = 0 := by
  simp [failed, equationOf, Prod.ext_iff]

/-- A sum that differs from its witness in one component fails the equation of that component alone. -/
theorem failed_equationOf_component {k i : Nat} {a b : Int × Int} {im : Bool} {d : Int} (hd : d ≠ 0)
    (h : a - b = component im d) : failed (equationOf k i a b) = [⟨k, i, im, d⟩] := by
  have h1 : a.1 - b.1 = (component im d).1 := congrArg Prod.fst h
  have h2 : a.2 - b.2 = (component im d).2 := congrArg Prod.snd h
  cases im <;> simp [failed, equationOf, h1, h2, component, hd]

theorem rowSum_sub (i : Nat) : rowSum v i - cellAt v i 32 = residue (cellAt v i) := by rw [rowSum_eq]; rfl

theorem colSum_sub (j : Nat) : colSum v j - cellAt v 32 j = residue (fun i => cellAt v i j) := by rw [colSum_eq]; rfl

theorem failed_rowEquations_nil (i : Nat) : failed (rowEquations v i) = [] ↔ residue (cellAt v i) = 0 := by
  rw [rowEquations, failed_equationOf_nil, rowSum_sub]

theorem failed_colEquations_nil (j : Nat) : failed (colEquations v j) = [] ↔ residue (fun i => cellAt v i j) = 0 := by
  rw [colEquations, failed_equationOf_nil, colSum_sub]

theorem failed_rowEquations_component {v i} {im : Bool} {d : Int} (hd : d ≠ 0) (h : residue (cellAt v i) = component im d) :
    ∃ k l, failed (rowEquations v i) = [⟨k, l, im, d⟩] :=
  ⟨_, _, failed_equationOf_component hd ((rowSum_sub v i).trans h)⟩

theorem failed_colEquations_component {v j} {im : Bool} {d : Int} (hd : d ≠ 0)
    (h : residue (fun i => cellAt v i j) = component im d) : ∃ k l, failed (colEquations v j) = [⟨k, l, im, d⟩] :=
  ⟨_, _, failed_equationOf_component hd ((colSum_sub v j).trans h)⟩

/-- A set of cells in which every row and every column ends with the sum of its first 32. -/
structure Balanced (m : Nat → Nat → Int × Int) : Prop where
  row : ∀ i < 33, residue (m i) = 0
  col : ∀ j < 33, residue (fun i => m i j) = 0

/-- The check passes exactly on balanced cells. -/
theorem failing_eq_nil_iff : failing v = [] ↔ Balanced (cellAt v) := by
  have hperm : failing v = [] ↔ (∀ i < 33, failed (rowEquations v i) = []) ∧ ∀ j < 33, failed (colEquations v j) = [] := by
    have hnil : failing v = [] ↔ _ = [] :=
      ⟨fun h => List.nil_perm.mp (h ▸ failing_perm v), fun h => List.perm_nil.mp (h ▸ failing_perm v)⟩
    simpa using hnil
  simp only [hperm, failed_rowEquations_nil, failed_colEquations_nil]
  exact ⟨fun ⟨hr, hc⟩ => ⟨hr, hc⟩, fun ⟨hr, hc⟩ => ⟨hr, hc⟩⟩

end Lines

/-! ## The sums of an undisturbed stroke (R165) -/

theorem Balanced.add {m n : Nat → Nat → Int × Int} (hm : Balanced m) (hn : Balanced n) : Balanced (fun i j => m i j + n i j) :=
  ⟨fun i hi => by rw [residue_add, hm.row i hi, hn.row i hi, add_zero],
    fun j hj => by rw [residue_add, hm.col j hj, hn.col j hj, add_zero]⟩

/-- Balance is a matter of the 33 × 33 cells alone. -/
theorem Balanced.congr {m n : Nat → Nat → Int × Int} (hn : Balanced n) (h : ∀ i < 33, ∀ j < 33, m i j = n i j) : Balanced m :=
  ⟨fun i hi => (residue_congr (h i hi)).trans (hn.row i hi),
    fun j hj => (residue_congr (fun i hi => h i hi j hj)).trans (hn.col j hj)⟩

/-- x · conj(y) adds in x. -/
def mulConjLeft (y : Int × Int) : Int × Int →+ Int × Int :=
  AddMonoidHom.mk' (fun x => mulConj x y) (fun a b => by ext <;> simp only [mulConj, Prod.fst_add, Prod.snd_add] <;> ring)

/-- x · conj(y) adds in y. -/
def mulConjRight (x : Int × Int) : Int × Int →+ Int × Int :=
  AddMonoidHom.mk' (mulConj x) (fun a b => by ext <;> simp only [mulConj, Prod.fst_add, Prod.snd_add] <;> ring)

/-- An operand vector with its witness is a line that holds. -/
theorem residue_withWitness {x : List (Int × Int)} (hx : x.length = 32) : residue (fun k => (withWitness x).getD k 0) = 0 := by
  have hwit : (withWitness x).getD 32 0 = x.sum := by
    rw [withWitness, List.getD_append_right _ _ _ _ hx.le, hx, foldl_addPair]
    exact zero_add _
  have hsum : ∑ k ∈ Finset.range 32, (withWitness x).getD k 0 = x.sum := by
    have hhead : ∀ k ∈ Finset.range 32, (withWitness x).getD k 0 = x.getD k 0 := fun k hk =>
      List.getD_append _ _ _ _ (hx ▸ Finset.mem_range.mp hk)
    rw [Finset.sum_congr rfl hhead, ← hx, Finset.sum_range]
    simp
  rw [residue, hwit, hsum, sub_self]

/-- Entry `j` of block `i` of blocks of one length, laid end to end. -/
theorem getD_flatMap_blocks {α β : Type} {f : α → List β} {n : Nat} (hf : ∀ a, (f a).length = n) (a : α) (d : β) {j : Nat}
    (hj : j < n) (l : List α) {i : Nat} (hi : i < l.length) : (l.flatMap f).getD (n * i + j) d = (f (l.getD i a)).getD j d := by
  induction l generalizing i with
  | nil => simp at hi
  | cons b l ih =>
    rw [List.flatMap_cons]
    cases i with
    | zero => rw [Nat.mul_zero, Nat.zero_add, List.getD_append _ _ _ _ (by rw [hf]; exact hj)]; rfl
    | succ i =>
      rw [List.getD_append_right _ _ _ _ (by rw [hf, Nat.mul_succ]; omega), hf, Nat.mul_succ, List.getD_cons_succ,
        show n * i + n + j - n = n * i + j by omega, ih (by simpa using hi)]

section Outer
variable {x y : List (Int × Int)} (hx : x.length = 32) (hy : y.length = 32)
include hx hy

theorem outer_length : (outer x y).length = 1089 := by
  simp [outer, withWitness, hx, hy]

theorem cellAt_outer {i j : Nat} (hi : i < 33) (hj : j < 33) :
    cellAt (outer x y) i j = mulConj ((withWitness x).getD i 0) ((withWitness y).getD j 0) := by
  have hyl : (withWitness y).length = 33 := by simp [withWitness, hy]
  unfold cellAt outer
  rw [getD_flatMap_blocks (by simp [hyl]) 0 (0, 0) hj _ (by simp [withWitness, hx, hi])]
  exact (congrArg (List.getD _ j) (map_zero (mulConjRight ((withWitness x).getD i 0))).symm).trans
    (List.getD_map (l := withWitness y) (d := 0) _)

/-- The products of one spectrum are balanced: their last row and column come from the witness operands. -/
theorem balanced_outer : Balanced (cellAt (outer x y)) := by
  refine Balanced.congr ⟨fun i _ => ?_, fun j _ => ?_⟩ (fun i hi j hj => cellAt_outer hx hy hi hj)
  · exact (residue_map (mulConjRight ((withWitness x).getD i 0)) _).trans (by rw [residue_withWitness hy, map_zero])
  · exact (residue_map (mulConjLeft ((withWitness y).getD j 0)) _).trans (by rw [residue_withWitness hx, map_zero])

end Outer

theorem balanced_noAcc : Balanced (cellAt noAcc) := by
  refine Balanced.congr (n := fun _ _ => 0) ⟨fun _ _ => residue_zero, fun _ _ => residue_zero⟩ (fun i hi j hj => ?_)
  rw [cellAt, noAcc, List.getD_replicate _ (by omega)]; rfl

theorem cellAt_zipWith {a b : List (Int × Int)} (h : a.length = b.length) (i j : Nat) :
    cellAt (a.zipWith addPair b) i j = cellAt a i j + cellAt b i j := by
  unfold cellAt
  by_cases hi : 33 * i + j < a.length
  · simp [List.getD_eq_getElem?_getD, hi, h ▸ hi]; rfl
  · simp [List.getD_eq_getElem?_getD, hi, h ▸ hi]

/-- Every spectrum added to a balanced set leaves it balanced. -/
theorem balanced_accumulated {l : List (List (Int × Int) × List (Int × Int))} (hl : ∀ p ∈ l, p.1.length = 32 ∧ p.2.length = 32)
    {acc : List (Int × Int)} (hlen : acc.length = 1089) (hb : Balanced (cellAt acc)) :
    Balanced (cellAt (l.foldl (fun a p => a.zipWith addPair (outer p.1 p.2)) acc)) := by
  induction l generalizing acc with
  | nil => exact hb
  | cons p l ih =>
    obtain ⟨hp, hrest⟩ := List.forall_mem_cons.mp hl
    have ho := outer_length hp.1 hp.2
    refine ih hrest (by simp [hlen, ho]) ?_
    exact (hb.add (balanced_outer hp.1 hp.2)).congr (fun i _ j _ => cellAt_zipWith (hlen.trans ho.symm) i j)

/-- Settles O23: the products of each spectrum are balanced (`balanced_outer`), so their sums are, and the check passes on balanced
cells. -/
theorem undisturbedStrokePasses : Obligations.UndisturbedStrokePasses := by
  unfold Obligations.UndisturbedStrokePasses
  intro xs ys hxs hys
  refine (failing_eq_nil_iff _).mpr (balanced_accumulated (fun p hp => ?_) (List.length_replicate ..) balanced_noAcc)
  obtain ⟨hx, hy⟩ := List.of_mem_zip hp
  exact ⟨hxs _ hx, hys _ hy⟩

/-! ## A single fault (R174) -/

/-- A changed component of cell `c` of a set. -/
theorem cellAt_modify {v : List (Int × Int)} {i₀ j₀ i j : Nat} (z : Int × Int) (hc : 33 * i₀ + j₀ < v.length)
    (hj₀ : j₀ < 33) (hj : j < 33) :
    cellAt (v.modify (33 * i₀ + j₀) (· + z)) i j = cellAt v i j + if i = i₀ ∧ j = j₀ then z else 0 := by
  unfold cellAt
  simp only [List.getD_eq_getElem?_getD, List.getElem?_modify]
  by_cases h : i = i₀ ∧ j = j₀
  · obtain ⟨rfl, rfl⟩ := h
    simp [hc]
  · have hne : ¬ 33 * i₀ + j₀ = 33 * i + j := by omega
    simp [h, hne]

/-- What a change of one cell does to the lines through it, `k` its place in the line: the line's own sum or its witness. -/
def lineChange (k : Nat) (d : Int) : Int := if k < 32 then d else -d

theorem component_lineChange (im : Bool) (k : Nat) (d : Int) :
    (if k < 32 then component im d else -component im d) = component im (lineChange k d) := by
  unfold lineChange
  split
  · rfl
  · cases im <;> simp [component]

theorem lineChange_ne_zero {k : Nat} {d : Int} (hd : d ≠ 0) : lineChange k d ≠ 0 := by unfold lineChange; split <;> omega

section Fault
variable {v : List (Int × Int)} {i₀ j₀ : Nat} (im : Bool) (d : Int) (hb : Balanced (cellAt v)) (hv : v.length = 1089)
  (hi₀ : i₀ < 33) (hj₀ : j₀ < 33)
include hb hv hi₀ hj₀

theorem residue_row_modify {i : Nat} (hi : i < 33) :
    residue (cellAt (v.modify (33 * i₀ + j₀) (· + component im d)) i) =
      if i = i₀ then component im (lineChange j₀ d) else 0 := by
  rw [residue_congr (fun j hj => cellAt_modify (v := v) (i := i) (component im d) (by omega) hj₀ hj), residue_add, hb.row i hi, zero_add]
  by_cases h : i = i₀
  · simp only [h, true_and, if_true, residue_single hj₀, component_lineChange]
  · simp only [h, false_and, if_false, residue_zero]

theorem residue_col_modify {j : Nat} (hj : j < 33) :
    residue (fun i => cellAt (v.modify (33 * i₀ + j₀) (· + component im d)) i j) =
      if j = j₀ then component im (lineChange i₀ d) else 0 := by
  rw [residue_congr (fun i _ => cellAt_modify (v := v) (i := i) (component im d) (by omega) hj₀ hj), residue_add, hb.col j hj, zero_add]
  by_cases h : j = j₀
  · simp only [h, and_true, if_true, residue_single hi₀, component_lineChange]
  · simp only [h, and_false, if_false, residue_zero]

end Fault

/-- Lines of which one alone fails fail as that one does. -/
theorem flatMap_range_single {α : Type} {f : Nat → List α} {n k : Nat} (hk : k < n) (h : ∀ l < n, l ≠ k → f l = []) :
    (List.range n).flatMap f = f k := by
  induction n with
  | zero => omega
  | succ n ih =>
    rw [List.range_succ, List.flatMap_append, List.flatMap_singleton]
    by_cases hn : k = n
    · subst hn
      rw [flatMap_lt_congr (g := fun _ => []) (fun l hl => h l (by omega) (by omega))]
      simp
    · rw [ih (by omega) (fun l hl => h l (by omega)), h n (by omega) (by omega), List.append_nil]

/-- A changed component fails the equations of its row and of its column, and no other (R174). -/
theorem failing_modify {v : List (Int × Int)} {c : Nat} (im : Bool) {d : Int} (hv : v.length = 1089) (hc : c < 1089) (hd : d ≠ 0)
    (hf : failing v = []) : ∃ k i l j, (failing (v.modify c (· + component im d))).Perm
      [⟨k, i, im, lineChange (c % 33) d⟩, ⟨l, j, im, lineChange (c / 33) d⟩] := by
  have hb := (failing_eq_nil_iff v).mp hf
  have hi₀ : c / 33 < 33 := by omega
  have hj₀ : c % 33 < 33 := by omega
  have hrow := fun i hi => residue_row_modify (i := i) im d hb hv hi₀ hj₀ hi
  have hcol := fun j hj => residue_col_modify (j := j) im d hb hv hi₀ hj₀ hj
  rw [show 33 * (c / 33) + c % 33 = c from Nat.div_add_mod c 33] at hrow hcol
  obtain ⟨k, i, hr⟩ := failed_rowEquations_component (lineChange_ne_zero hd) ((hrow _ hi₀).trans (if_pos rfl))
  obtain ⟨l, j, hc⟩ := failed_colEquations_component (lineChange_ne_zero hd) ((hcol _ hj₀).trans (if_pos rfl))
  refine ⟨k, i, l, j, (failing_perm _).trans (.of_eq ?_)⟩
  rw [flatMap_range_single hi₀ fun i hi hne => (failed_rowEquations_nil _ i).mpr ((hrow i hi).trans (if_neg hne)),
    flatMap_range_single hj₀ fun j hj hne => (failed_colEquations_nil _ j).mpr ((hcol j hj).trans (if_neg hne)), hr, hc]
  rfl

theorem failing_modify_spec {v : List (Int × Int)} {c : Nat} (im : Bool) {d : Int} (hv : v.length = 1089) (hc : c < 1089) (hd : d ≠ 0)
    (hf : failing v = []) : (failing (v.modify c (· + component im d))).length = 2 ∧
      ∀ e ∈ failing (v.modify c (· + component im d)), e.im = im ∧ (e.diff = d ∨ e.diff = -d) := by
  obtain ⟨k, i, l, j, hp⟩ := failing_modify im hv hc hd hf
  have hline (n : Nat) : lineChange n d = d ∨ lineChange n d = -d := by unfold lineChange; split <;> simp
  refine ⟨hp.length_eq, fun e he => ?_⟩
  rcases List.mem_pair.mp (hp.subset he) with rfl | rfl
  · exact ⟨rfl, hline _⟩
  · exact ⟨rfl, hline _⟩

/-- Settles O24: of the lines through the changed cell, its row and its column, each is off in the changed component alone
(`failing_modify`), and all others hold as before. -/
theorem singleFaultFailsTwice : Obligations.SingleFaultFailsTwice := by
  unfold Obligations.SingleFaultFailsTwice
  intro v c d hv hc hd hf
  have hre : (fun p : Int × Int => (p.1 + d, p.2)) = (· + component false d) := by funext p; ext <;> simp [component]
  have him : (fun p : Int × Int => (p.1, p.2 + d)) = (· + component true d) := by funext p; ext <;> simp [component]
  rw [hre, him]
  obtain ⟨hlen, hall⟩ := failing_modify_spec false hv hc hd hf
  obtain ⟨hlen', hall'⟩ := failing_modify_spec true hv hc hd hf
  exact ⟨hlen, hlen', hall, hall'⟩

/-! ## Debug access (R178 to R180) -/

theorem lathe_setLathe_ne {n k : Nat} (x : Lathe) (s : State) (h : k ≠ n) : lathe (setLathe n x s) k = lathe s k :=
  sparseGet_set_ne (fun _ => ({} : Lathe)) s.sch.lathes x h

theorem changesOnly_setLathe (n : Nat) (x : Lathe) (s : State) : changesOnly [.sch] [] s (setLathe n x s) :=
  ⟨keeps_setLathe n x s, sameRegs_setLathe [] n x s⟩

theorem changesOnly_refuseBit (p b : Nat) (s : State) : changesOnly [.regs, .out, .events, .wst] [p] s (refuseBit p b s) :=
  ⟨(refuseBit_spec p b s).2, sameRegs_setSticky p b s⟩

theorem pageBlock_lthPage {n : Nat} (hn : n < 272) : pageBlock (lthPage n) = some .lth := by
  have hrow : pageRow (lthPage n) = some ⟨0x100, 0x20F, .lth, 6, 68, 0, 1, 234⟩ := by
    refine List.find?_eq_some_iff_append.mpr ⟨?_, pageRows.take 5, pageRows.drop 6, rfl, ?_⟩
    · simp only [lthPage, decide_eq_true_eq]; omega
    · intro r hr
      have hbelow : ∀ r ∈ pageRows.take 5, r.last < 0x100 := by decide
      have := hbelow r hr
      simp only [lthPage, Bool.not_eq_eq_eq_not, Bool.not_true, decide_eq_false_iff_not]; omega
  rw [pageBlock, hrow]
  rfl

theorem not_guarded_snapCtrl {n : Nat} (hn : n < 272) : regGuarded (lthPage n) R.LTH_SNAP_CTRL = false := by
  have hdef : regDef (lthPage n) R.LTH_SNAP_CTRL = regAtOff (blockRegs .lth) R.LTH_SNAP_CTRL := by
    unfold regDef
    rw [pageBlock_lthPage hn]
    rfl
  unfold regGuarded
  rw [if_neg (by decide), hdef]
  decide

section Counted
variable (m n : Nat) (s : State)

/-- Counting a request leaves every lathe. -/
theorem lathe_counted0 : lathe (counted0 m s) n = lathe s n :=
  lathe_congr (congrArg _ ((changesOnly_counted0 m s).same .sch (by decide))) n

theorem flag_counted0_lth {n : Nat} (hn : n < 272) {f : FieldRef} (ho : f.off < 0x1000) :
    flag (counted0 m s) (lthPage n) f = flag s (lthPage n) f :=
  flag_of_reg (reg_counted0 s ho (.inl (by unfold lthPage; omega)))

theorem latheHalted_counted0 {n : Nat} (hn : n < 272) : latheHalted (counted0 m s) n = latheHalted s n :=
  flag_counted0_lth m s hn (by decide)

end Counted

section Writes
variable {m n : Nat} {v : Word} {s : State} (hn : n < 272)
include hn

/-- An accepted SNAPSHOT without RESUME is the act of its bit. -/
theorem exec_snapshot (j : judge s m (lthPage n) R.LTH_SNAP_CTRL 8 (v ||| 1#64) = .ok) (hv : bitOf v 1 = false) :
    exec (.snapshot m n v) s = .next (snapshot n (counted0 m s)) := by
  have h0 : bitOf (v ||| 1#64) 0 = true := by rw [bitOf_or]; simp [bitOf]
  have h1 : bitOf (v ||| 1#64) 1 = false := by rw [bitOf_or, hv]; decide
  change Host.Outcome.next (guardedWrite m (lthPage n) R.LTH_SNAP_CTRL (v ||| 1#64) (writeSnapCtrl n (v ||| 1#64)) s) = _
  rw [guardedWrite_plain j (not_guarded_snapCtrl hn), writeSnapCtrl, actIf, actIf, if_pos h0, if_neg (by simp [h1])]

/-- An accepted RESUME of a halted lathe without SNAPSHOT is the act of its bit. -/
theorem exec_lthResume (j : judge s m (lthPage n) R.LTH_SNAP_CTRL 8 (v ||| 2#64) = .ok) (hv : bitOf v 0 = false)
    (hh : latheHalted s n = true) : exec (.lthResume m n v) s = .next (latheResume n (counted0 m s)) := by
  have h0 : bitOf (v ||| 2#64) 0 = false := by rw [bitOf_or, hv]; decide
  have h1 : bitOf (v ||| 2#64) 1 = true := by rw [bitOf_or]; simp [bitOf]
  change Host.Outcome.next (guardedWrite m (lthPage n) R.LTH_SNAP_CTRL (v ||| 2#64) (writeSnapCtrl n (v ||| 2#64)) s) = _
  rw [guardedWrite_plain j (not_guarded_snapCtrl hn), writeSnapCtrl, actIf, actIf, if_pos h1, if_neg (c := bitOf _ 0 = true) (by simp [h0]),
    if_pos ((latheHalted_counted0 m s hn).trans hh)]

/-- Outside debug mode SNAPSHOT is refused (R178). -/
theorem snapshot_locked (hd : flag s (lthPage n) F.PAGE_CTRL_DEBUG = false) :
    snapshot n (counted0 m s) = refuseBit (lthPage n) S.LOCK_REFUSED (counted0 m s) := by
  unfold snapshot
  rw [flag_counted0_lth m s hn (by decide), hd]
  rfl

/-- In debug mode SNAPSHOT makes a running lathe snap (R179). -/
theorem snapshot_debug (hd : flag s (lthPage n) F.PAGE_CTRL_DEBUG = true) (hh : latheHalted s n = false) :
    snapshot n (counted0 m s) = setLathe n { lathe s n with snapping := true, tokenSeen := false } (counted0 m s) := by
  unfold snapshot
  rw [flag_counted0_lth m s hn (by decide), hd, latheHalted_counted0 m s hn, hh, lathe_counted0]
  rfl

end Writes

theorem lathe_latheResume (n : Nat) (s : State) : lathe (latheResume n s) n = { lathe s n with snapping := false } :=
  lathe_setLathe n _ s

/-- SAMPLES of LTH_SNAP_INFO, TOKEN_PASSED beside it. -/
theorem fieldOf_snapInfo (x : Nat) (b : Bool) : fieldOf (BitVec.ofNat 64 (x % 2 ^ 21 + (if b then 2 ^ 24 else 0))) 0 21 = x % 2 ^ 21 := by
  unfold fieldOf natField
  rw [BitVec.toNat_ofNat]
  cases b <;> simp only [if_true, if_false, Bool.false_eq_true] <;> omega

/-- A lathe whose pipeline has emptied: halted, its live set exposed and described. -/
def halted (n samples : Nat) (s : State) : State :=
  setFld (lthPage n) F.LTH_SNAP_CTRL_HALTED 1
    (setReg (lthPage n) R.LTH_SNAP_INFO
      (BitVec.ofNat 64 ((liveSet s n samples).2 % 2 ^ 21 + (if (lathe s n).tokenSeen then 2 ^ 24 else 0)))
      (setLathe n { lathe s n with live := (liveSet s n samples).1, snapping := false } s))

section Halt
variable {n : Nat} (samples : Nat) {s : State}

theorem exec_snapDone (h : (lathe s n).snapping = true) :
    exec (.snapDone n samples) s = .next (setSticky (lthPage n) S.LTH_SNAP_DONE (halted n samples s)) := by
  change Host.Outcome.next (snapDone n samples s) = _
  unfold snapDone
  simp only [h, Bool.not_true, Bool.false_eq_true, if_false]
  rfl

theorem changesOnly_halted : changesOnly [.sch, .regs] [lthPage n] s (halted n samples s) :=
  (((changesOnly_setLathe n _ s).mono (by decide) (by simp)).trans ((changesOnly_setReg _ _ (by decide)).mono (by decide) (by simp))).trans
    ((changesOnly_setFld 1 _ (by decide)).mono (by decide) (by simp))

theorem lathe_halted : lathe (halted n samples s) n = { lathe s n with live := (liveSet s n samples).1, snapping := false } :=
  lathe_setLathe n _ s

end Halt

/-- Settles O27: an accepted write is the act of its bit on the counted state (`exec_snapshot`, `exec_lthResume`), and an emptied pipeline
leaves the lathe `halted`. -/
theorem latheSnapshots : Obligations.LatheSnapshots := by
  unfold Obligations.LatheSnapshots
  refine ⟨?locked, ?snaps, ?halts, ?halted, ?resumes⟩
  case locked =>
    intro s m n v hn j hv hd
    have hc := ((changesOnly_counted0 m s).mono (K := [.regs, .wst, .events, .out]) (k := [lthPage n]) (by decide) (by simp)).trans
      ((changesOnly_refuseBit (lthPage n) S.LOCK_REFUSED _).mono (by decide) (by simp))
    refine ⟨_, exec_snapshot hn j hv, ?_⟩
    rw [snapshot_locked hn hd]
    exact ⟨(setSticky_page (lthPage_plain hn) (by decide)).1, rfl, hc⟩
  case snaps =>
    intro s m n v hn j hv hd hh
    refine ⟨_, exec_snapshot hn j hv, ?_⟩
    rw [snapshot_debug hn hd hh]
    exact ⟨lathe_setLathe n _ _, fun k hk => (lathe_setLathe_ne _ _ hk).trans (lathe_counted0 m k s),
      ((changesOnly_counted0 m s).mono (by decide) (by simp)).trans ((changesOnly_setLathe n _ _).mono (by decide) (by simp))⟩
  case halts =>
    intro s n samples hn hs
    obtain ⟨hstuck, hpage⟩ := setSticky_page (s := halted n samples s) (lthPage_plain hn) (by decide : S.LTH_SNAP_DONE < 64)
    have hkeep := keeps_setSticky (lthPage n) S.LTH_SNAP_DONE (halted n samples s)
    have hlathe := (lathe_congr (congrArg SchState.lathes (hkeep .sch (by decide))) n).trans (lathe_halted samples)
    refine ⟨_, exec_snapDone samples hs, (flag_of_reg (hpage _ (by decide) (by decide))).trans
      (flag_setFld_bool true _ (by decide) rfl), by rw [hlathe], by rw [hlathe], hstuck, ?_,
      ((changesOnly_halted samples).mono (by decide) (by simp)).trans ((changesOnly_setSticky _ _ _).mono (by decide) (by simp))⟩
    rw [hpage _ (by decide) (by decide), halted, reg_setFld_ne _ _ _ (regAddr_ne (by decide) (by decide) (.inr (by decide))),
      reg_setReg_self, fieldOf_snapInfo]
  case halted =>
    intro s n held stretched fs hh
    refine ⟨s, ?_, rfl⟩
    change Host.Outcome.next (drainToken n fs held stretched s) = _
    unfold drainToken
    split
    · rfl
    · dsimp only
      split
      · rfl
      · rw [hh]; rfl
  case resumes =>
    intro s m n v hn j hv hh
    refine ⟨_, exec_lthResume hn j hv hh, flag_setFld_bool false _ (by decide) rfl, ?_, ?_, fun k hk => ?_, ?_⟩
    · rw [lathe_latheResume, lathe_counted0]
    · rw [lathe_latheResume, lathe_counted0]
    · exact (lathe_setLathe_ne _ _ hk).trans (lathe_counted0 m k s)
    · exact (((changesOnly_counted0 m s).mono (by decide) (by simp)).trans ((changesOnly_setLathe n _ _).mono (by decide) (by simp))).trans
        ((changesOnly_setFld _ _ (by decide)).mono (by decide) (by simp))

/-! ## A handshake that times out (R172, R175, R177) -/

/-- A part that is the same needs no place in a frame. -/
theorem keeps_of_same {x : Part} {l : List Part} {s t : State} (h : keeps (x :: l) s t) (hx : same x s t) : keeps l s t := by
  intro y hy
  by_cases hxy : y = x
  · exact hxy ▸ hx
  · exact h y (by simp [hxy, hy])

/-- The report of a handshake failure. -/
def timeoutReport : WitReport := ⟨3, 0, 0, false, 0, 0, 0⟩

/-- What a stroke that fails by its handshake shows in the page of its lathe. -/
structure TimedOut (n : Nat) (s t : State) : Prop where
  sticky : stuck t (lthPage n) S.LTH_HANDSHAKE_TO
  missed : counted s t (lthPage n) R.LTH_CNT 2 1
  timeouts : counted s t (lthPage n) R.LTH_CNT 7 1
  fail : reg t (lthPage n) R.LTH_WIT_FAIL = 3
  mask : reg t (lthPage n) R.LTH_WIT_MASK = 0
  diff : reg t (lthPage n) R.LTH_WIT_DIFF = 0

/-- What is shown rests on the registers of the page, the retry count apart. -/
theorem TimedOut.congr {n : Nat} {s t u : State} (h : TimedOut n s t)
    (hr : ∀ off, off < 0x1000 → off ≠ R.RETRY_COUNT → reg u (lthPage n) off = reg t (lthPage n) off) : TimedOut n s u where
  sticky := by unfold stuck; rw [hr _ (by decide) (by decide)]; exact h.sticky
  missed := counted_congr h.missed (hr _ (by decide) (by decide))
  timeouts := counted_congr h.timeouts (hr _ (by decide) (by decide))
  fail := (hr _ (by decide) (by decide)).trans h.fail
  mask := (hr _ (by decide) (by decide)).trans h.mask
  diff := (hr _ (by decide) (by decide)).trans h.diff

/-- LTH_WIT_FAIL, LTH_WIT_MASK and LTH_WIT_DIFF as a report leaves them. -/
def witWords (n : Nat) (w : WitReport) (s : State) : State :=
  setReg (lthPage n) R.LTH_WIT_DIFF (BitVec.ofInt 64 w.diff) (setReg (lthPage n) R.LTH_WIT_MASK (BitVec.ofNat 64 w.mask)
    (setReg (lthPage n) R.LTH_WIT_FAIL (witFailWord w) s))

/-- The state with its count of free values set. -/
def withFree (f : Nat) (s : State) : State := { s with free := f }

@[simp] theorem reg_withFree (p off f : Nat) (s : State) : reg (withFree f s) p off = reg s p off := reg_congr rfl p off
@[simp] theorem withFree_free (f : Nat) (s : State) : (withFree f s).free = f := rfl

/-- A report of a stroke of either kind: its words and LTH_WIT_JOB; the job of a gouge stroke takes a free value. -/
theorem loadWit_words (n : Nat) (k : Stroke) (w : WitReport) (s : State) : ∃ j f, (k.gouge = none → f = s.free) ∧
    loadWit n k w s = setReg (lthPage n) R.LTH_WIT_JOB j (withFree f (witWords n w s)) := by
  cases hk : k.gouge with
  | none =>
    obtain ⟨j, hj⟩ := loadWit_corr hk n w s
    have hself (u : State) : withFree u.free u = u := rfl
    have hfree : (witWords n w s).free = s.free := by simp only [witWords, setReg_free]
    exact ⟨j, s.free, fun _ => rfl, by rw [hj, ← hfree, hself]; rfl⟩
  | some g =>
    have hj (u : State) : (jobWord (n / 68) k u).2 = withFree (u.free + 1) u := by simp [jobWord, hk, takeFree, withFree]
    refine ⟨(jobWord (n / 68) k (witWords n w s)).1, s.free + 1, nofun, ?_⟩
    have hload : loadWit n k w s = setReg (lthPage n) R.LTH_WIT_JOB (jobWord (n / 68) k (witWords n w s)).1
        (jobWord (n / 68) k (witWords n w s)).2 := rfl
    rw [hload, hj]
    simp only [witWords, setReg_free]

/-- What the registers of the page read after a report. -/
theorem loadWit_reads (n : Nat) (k : Stroke) (w : WitReport) (s : State) :
    reg (loadWit n k w s) (lthPage n) R.LTH_WIT_FAIL = witFailWord w ∧
    reg (loadWit n k w s) (lthPage n) R.LTH_WIT_MASK = BitVec.ofNat 64 w.mask ∧
    reg (loadWit n k w s) (lthPage n) R.LTH_WIT_DIFF = BitVec.ofInt 64 w.diff ∧
    ∀ off, off < 0x1000 → off < 0x110 ∨ 0x128 < off → reg (loadWit n k w s) (lthPage n) off = reg s (lthPage n) off := by
  obtain ⟨j, f, -, hj⟩ := loadWit_words n k w s
  rw [hj, witWords]
  refine ⟨?_, ?_, ?_, fun off ho hw => ?_⟩
  · simp (disch := decide) only [reg_setReg_off, reg_setReg_self, reg_withFree]
  · simp (disch := decide) only [reg_setReg_off, reg_setReg_self, reg_withFree]
  · simp (disch := decide) only [reg_setReg_off, reg_setReg_self, reg_withFree]
  · rw [reg_setReg_off _ _ (by decide) ho (show off ≠ 0x128 by omega), reg_withFree,
      reg_setReg_off _ _ (by decide) ho (show off ≠ 0x120 by omega), reg_setReg_off _ _ (by decide) ho (show off ≠ 0x118 by omega),
      reg_setReg_off _ _ (by decide) ho (show off ≠ 0x110 by omega)]

/-- A handshake failure flagged and counted as one. -/
def timeoutFlagged (n : Nat) (s : State) : State := countK (lthPage n) R.LTH_CNT 7 1 (setSticky (lthPage n) S.LTH_HANDSHAKE_TO s)

/-- A handshake failure flagged, reported and counted, before its stroke is missed. -/
def timeoutReported (n : Nat) (k : Stroke) (s : State) : State :=
  countK (lthPage n) R.LTH_CNT 2 1 (loadWit n k timeoutReport (timeoutFlagged n s))

section Reported
variable {n : Nat} {k : Stroke} {s : State}

theorem timeoutFlagged_reg (hn : n < 272) {off : Nat} (ho : off < 0x1000) (hs : off ≠ R.STICKY) (hc : off ≠ R.LTH_CNT + 8 * 7) :
    reg (timeoutFlagged n s) (lthPage n) off = reg s (lthPage n) off := by
  rw [timeoutFlagged, reg_countK_off _ _ ho (by decide) hc]
  exact (setSticky_page (lthPage_plain hn) (by decide)).2 off ho hs

theorem timeoutFlagged_spec (hn : n < 272) : stuck (timeoutFlagged n s) (lthPage n) S.LTH_HANDSHAKE_TO ∧
    counted s (timeoutFlagged n s) (lthPage n) R.LTH_CNT 7 1 := by
  obtain ⟨hstuck, hpage⟩ := setSticky_page (s := s) (lthPage_plain hn) (by decide : S.LTH_HANDSHAKE_TO < 64)
  refine ⟨?_, counted_of_eq (counted_countK _ _ _ _ _) (hpage _ (by decide) (by decide))⟩
  unfold stuck timeoutFlagged
  rw [reg_countK_off _ _ (by decide) (by decide) (by decide)]
  exact hstuck

/-- A register of the page's header that a handshake failure does not write. -/
theorem timeoutReported_reg (hn : n < 272) {off : Nat} (ho : off < 0x100) (hs : off ≠ R.STICKY) :
    reg (timeoutReported n k s) (lthPage n) off = reg s (lthPage n) off := by
  obtain ⟨-, -, -, hrest⟩ := loadWit_reads n k timeoutReport (timeoutFlagged n s)
  have ho' : off < 0x1000 := by omega
  have hcnt (i : Nat) : off ≠ R.LTH_CNT + 8 * i := by simp only [R.LTH_CNT]; omega
  rw [timeoutReported, reg_countK_off _ _ ho' (by decide) (hcnt 2), hrest off ho' (.inl (by omega)), timeoutFlagged_reg hn ho' hs (hcnt 7)]

theorem timedOut_reported (hn : n < 272) : TimedOut n s (timeoutReported n k s) := by
  obtain ⟨hstuck, htimeouts⟩ := timeoutFlagged_spec (s := s) hn
  obtain ⟨hfail, hmask, hdiff, hrest⟩ := loadWit_reads n k timeoutReport (timeoutFlagged n s)
  have hoff {off : Nat} (ho : off < 0x1000) (hne : off ≠ R.LTH_CNT + 8 * 2) : reg (timeoutReported n k s) (lthPage n) off =
      reg (loadWit n k timeoutReport (timeoutFlagged n s)) (lthPage n) off := reg_countK_off _ _ ho (by decide) hne
  exact
    { sticky := by unfold stuck; rw [hoff (by decide) (by decide), hrest _ (by decide) (by decide)]; exact hstuck
      missed := counted_of_eq (counted_countK _ _ _ _ _)
        ((hrest _ (by decide) (by decide)).trans (timeoutFlagged_reg hn (by decide) (by decide) (by decide)))
      timeouts := counted_congr htimeouts ((hoff (by decide) (by decide)).trans (hrest _ (by decide) (by decide)))
      fail := (hoff (by decide) (by decide)).trans hfail
      mask := (hoff (by decide) (by decide)).trans hmask
      diff := (hoff (by decide) (by decide)).trans hdiff }

theorem changesOnly_countK {p base k : Nat} (c : Nat) (s : State) (h : base + 8 * k < 0x1000) :
    changesOnly [.regs] [p] s (countK p base k c s) := changesOnly_setReg _ s h

/-- A counter leaves every register of another page. -/
theorem reg_countK_page {p q base k off : Nat} (c : Nat) (s : State) (h : q ≠ p) (hb : base + 8 * k < 0x1000) (ho : off < 0x1000) :
    reg (countK p base k c s) q off = reg s q off := reg_setReg_ne _ _ (regAddr_ne ho hb (.inl h))

theorem changesOnly_witWords (n : Nat) (w : WitReport) (s : State) : changesOnly [.regs] [lthPage n] s (witWords n w s) :=
  ((changesOnly_setReg _ s (by decide)).trans (changesOnly_setReg _ _ (by decide))).trans (changesOnly_setReg _ _ (by decide))

theorem changesOnly_withFree (f : Nat) (s : State) : changesOnly [.free] [] s (withFree f s) :=
  ⟨fun x hx => by cases x <;> simp_all [same, withFree], sameRegs_of_eq rfl⟩

theorem changesOnly_loadWit (n : Nat) (k : Stroke) (w : WitReport) (s : State) :
    changesOnly [.free, .regs] [lthPage n] s (loadWit n k w s) := by
  obtain ⟨j, f, -, hj⟩ := loadWit_words n k w s
  rw [hj]
  exact (((changesOnly_witWords n w s).mono (by decide) (by simp)).trans ((changesOnly_withFree f _).mono (by decide) (by simp))).trans
    ((changesOnly_setReg _ _ (by decide)).mono (by decide) (by simp))

theorem changesOnly_timeoutReported : changesOnly [.free, .regs, .out, .events] [lthPage n] s (timeoutReported n k s) := by
  have hcount (i : Nat) (hi : i < 8) (u : State) :
      changesOnly [.free, .regs, .out, .events] [lthPage n] u (countK (lthPage n) R.LTH_CNT i 1 u) :=
    (changesOnly_countK 1 u (by simp only [R.LTH_CNT]; omega)).mono (by decide) (by simp)
  exact ((((changesOnly_setSticky _ _ s).mono (by decide) (by simp)).trans (hcount 7 (by decide) _)).trans
    ((changesOnly_loadWit n k _ _).mono (by decide) (by simp))).trans (hcount 2 (by decide) _)

/-- The report of a correlation stroke takes no free value. -/
theorem timeoutReported_free (hk : k.gouge = none) : (timeoutReported n k s).free = s.free := by
  obtain ⟨j, f, hf, hj⟩ := loadWit_words n k timeoutReport (timeoutFlagged n s)
  rw [timeoutReported, countK_free, hj]
  exact (hf hk).trans (keeps_setSticky _ _ s .free (by decide))

end Reported

/-- A handshake failure below the retry threshold: reported, missed, counted. How its stroke is missed (`hmiss`) touches neither the
page nor what the retry window rests on. -/
theorem failStroke_timeout {n : Nat} {k : Stroke} {s v : State} (hn : n < 272) (hv : v = missStroke (n / 68) k true (timeoutReported n k s))
    (hmiss : keeps [.sch, .tly, .regs] (timeoutReported n k s) v)
    (hpage : ∀ off, off < 0x1000 → reg v (lthPage n) off = reg (timeoutReported n k s) (lthPage n) off)
    (hr : (countRetry (lthPage n) s).2 = false) :
    TimedOut n s (failStroke n k timeoutReport s) ∧ changesOnly [.retry, .regs] [lthPage n] v (failStroke n k timeoutReport s) := by
  have hto : keeps [.free, .regs, .out, .events, .sch, .tly] s v :=
    keeps_trans (keeps_mono (by decide) (changesOnly_timeoutReported (k := k)).1) (keeps_mono (by decide) hmiss)
  have hlow : (countRetry (lthPage n) v).2 = false := by
    rw [countRetry_congr (hto .retry (by decide)).1 (hto .retry (by decide)).2 (hto .dev (by decide))
      ((hpage _ (by decide)).trans (timeoutReported_reg hn (by decide) (by decide))), hr]
  obtain ⟨hck, hcs, hcr⟩ := countRetry_below hlow
  have heq : failStroke n k timeoutReport s = (countRetry (lthPage n) v).1 := by
    have hdef : failStroke n k timeoutReport s =
        (let r := countRetry (lthPage n) v
         if r.2 && !pageRetired r.1 (lthPage n) then retireLathe n r.1 else r.1) := by
      rw [hv]; rfl
    simp [hdef, hlow]
  rw [heq]
  exact ⟨(timedOut_reported hn).congr (fun off ho hne => (hcr off ho hne).trans (hpage off ho)), hck, hcs⟩

/-- The state with the stroke in front of a lathe gone, those behind it `q`. -/
def frontGone (n : Nat) (q : List Stroke) (s : State) : State := setLathe n { lathe s n with queue := q } s

section Handshake
variable {s : State} {n : Nat} {k : Stroke} {q : List Stroke}

theorem exec_handshakeTo (hq : (lathe s n).queue = k :: q) (hw : weightsStored q = true) : exec (.handshakeTo n) s =
    .next (finishBatches (n / 68) (failStroke n k timeoutReport (frontGone n q s))) := by
  change execHandshakeTo n s = _
  unfold execHandshakeTo
  rw [hq, popStroke_stored hq hw]
  rfl

/-- A handshake that times out below the retry threshold, whatever its stroke: `v` the state once the stroke is missed. -/
theorem handshakeTo_spec {v : State} (hn : n < 272) (hq : (lathe s n).queue = k :: q) (hw : weightsStored q = true)
    (hl : (schDie s (n / 68)).loaded = []) (hr : (countRetry (lthPage n) s).2 = false)
    (hv : v = missStroke (n / 68) k true (timeoutReported n k (frontGone n q s)))
    (hmiss : keeps [.sch, .tly, .regs] (timeoutReported n k (frontGone n q s)) v)
    (hpage : ∀ off, off < 0x1000 → reg v (lthPage n) off = reg (timeoutReported n k (frontGone n q s)) (lthPage n) off)
    (hlathes : v.sch.lathes = (timeoutReported n k (frontGone n q s)).sch.lathes)
    (hloaded : (schDie v (n / 68)).loaded = (schDie (timeoutReported n k (frontGone n q s)) (n / 68)).loaded) :
    ∃ t, exec (.handshakeTo n) s = .next t ∧ (lathe t n).queue = q ∧ TimedOut n s t ∧
      changesOnly [.retry, .regs] [lthPage n] v t := by
  have hr' : (countRetry (lthPage n) (frontGone n q s)).2 = false := by
    rw [countRetry_congr (s := s) (t := frontGone n q s) rfl rfl rfl rfl, hr]
  obtain ⟨f, hvt⟩ := failStroke_timeout hn hv hmiss hpage hr'
  have hsch := (changesOnly_timeoutReported (n := n) (k := k) (s := frontGone n q s)).same .sch (by decide)
  have hunloaded : (schDie (failStroke n k timeoutReport (frontGone n q s)) (n / 68)).loaded = [] := by
    rw [schDie_congr (congrArg SchState.dies (hvt.same .sch (by decide))), hloaded, schDie_congr (congrArg SchState.dies hsch)]
    exact hl
  refine ⟨_, exec_handshakeTo hq hw, ?_⟩
  rw [finishBatches_unloaded hunloaded]
  refine ⟨?_, ⟨f.sticky, f.missed, f.timeouts, f.fail, f.mask, f.diff⟩, hvt⟩
  rw [lathe_congr (congrArg SchState.lathes (hvt.same .sch (by decide))), lathe_congr hlathes, lathe_congr (congrArg SchState.lathes hsch),
    frontGone, lathe_setLathe]

theorem changesOnly_frontGone : changesOnly [.sch] [] s (frontGone n q s) := changesOnly_setLathe n _ s

end Handshake

/-- A gouge job with no record and no detector to tell of it is counted missing, and nothing else (R208). -/
theorem gougeMissing_plain {d seg count : Nat} {k : Stroke} {g : GougeJob} {s : State} (hvolt : g.entry.voltEn = false)
    (hpower : g.entry.powerEn = false) (hdets : s.gge.dets = []) :
    gougeMissing d k g seg count s = countK (ggePage d) R.GGE_CNT 1 1 s := by
  have hidle (j : BeamJob) (i : Nat) : (detOf (countK (ggePage d) R.GGE_CNT 1 1 s) d i).watches j = false := by
    have : detOf (countK (ggePage d) R.GGE_CNT 1 1 s) d i = {} := by
      unfold detOf
      rw [countK_gge, hdets]
      rfl
    rw [this]
    rfl
  have hdet (j : BeamJob) (l : List (Nat × SpectrumPowers)) (a : List Nat) :
      a.foldl (fun s i => if (detOf s d i).watches j then setDet d i (l.foldl (detSpectrum j) (detOf s d i)) s else s)
        (countK (ggePage d) R.GGE_CNT 1 1 s) = countK (ggePage d) R.GGE_CNT 1 1 s := by
    induction a with
    | nil => rfl
    | cons i a ih => rw [List.foldl_cons, hidle, if_neg (by decide), ih]
  unfold gougeMissing voltMissing beamTake beamJob
  simp only [hvolt, hpower, Bool.not_false, if_true, Bool.false_eq_true, if_false]
  exact hdet _ _ _

/-! ## Replays (R176, R195) -/

/-- Registers of the pages below the schedulers' read as before. -/
def lowRegsKept (s t : State) : Prop := ∀ p off, p < 0x220 → off < 0x1000 → reg t p off = reg s p off

theorem lowRegsKept.trans {s t u : State} (h : lowRegsKept s t) (k : lowRegsKept t u) : lowRegsKept s u :=
  fun p off hp ho => (k p off hp ho).trans (h p off hp ho)

theorem readOnly.lowRegsKept {s t : State} (h : readOnly s t) : lowRegsKept s t := fun p off hp ho => h.2 p off (by omega) ho

theorem lowRegsKept_stickyIf (c : Bool) (d b : Nat) (s : State) : lowRegsKept s (stickyIf c (schPage d) b s) := by
  cases c
  · exact fun _ _ _ _ => rfl
  · intro p off hp ho
    exact sameRegs_setSticky _ b s p off (by simp only [List.mem_singleton, schPage]; omega) (eventPage_high (by omega)) ho

theorem lowRegsKept_blankErrors (d : Nat) (l : List Nat) (errs : List (Nat × Bool)) (s : State) :
    lowRegsKept s (blankErrors d l errs s).2 :=
  (((readOnly_takeArmed _ _ s).lowRegsKept.trans (readOnly_takeArmed _ _ _).lowRegsKept).trans (lowRegsKept_stickyIf _ d _ _)).trans
    (lowRegsKept_stickyIf _ d _ _)

theorem lowRegsKept_loadBlocks (d r b c first count : Nat) (absent : List (Nat × Nat)) (errs : List (Nat × Bool)) (l : List Nat)
    (s : State) : lowRegsKept s (loadBlocks d r b c first count absent errs l s).2 := by
  induction l generalizing s with
  | nil => exact fun _ _ _ _ => rfl
  | cons k l ih => exact ((readOnly_hbmRead _ _ s).lowRegsKept.trans (lowRegsKept_stickyIf _ d _ _)).trans (ih _)

/-- What a replay of stroke `k` reads of the turn buffer: its row and column blocks. -/
def replayRead (d : Nat) (errs : List (Nat × Bool)) (k : Stroke) (s : State) : List BlockData × State :=
  loadBlocks d k.region k.batch k.chan 0 (regionT s d k.region) (batchAbsent s d k.region k.batch)
    (blankErrors d [k.row, k.col].dedup errs s).1 [k.row, k.col].dedup (blankErrors d [k.row, k.col].dedup errs s).2

theorem loadOnly_replayRead {d : Nat} (hd : d < 4) (errs : List (Nat × Bool)) (k : Stroke) (s : State) :
    loadOnly d s (replayRead d errs k s).2 :=
  loadOnly_trans (loadOnly_blankErrors _ _ s hd) (loadOnly_loadBlocks _ _ _ _ _ _ _ _ _ hd)

theorem lowRegsKept_replayRead (d : Nat) (errs : List (Nat × Bool)) (k : Stroke) (s : State) :
    lowRegsKept s (replayRead d errs k s).2 := (lowRegsKept_blankErrors d _ errs s).trans (lowRegsKept_loadBlocks _ _ _ _ _ _ _ _ _ _)

/-- The oldest failed job has left the list of a C-die, its operands are read, and its replay is counted on both pages. -/
def replayCounted (d n : Nat) (errs : List (Nat × Bool)) (k : Stroke) (q : List Stroke) (s : State) : State :=
  countK (lthPage n) R.LTH_CNT 3 1 (countK (schPage d) R.SCH_CNT 5 1
    (replayRead d errs k (setSchDie d { schDie s d with replays := q } s)).2)

section Replay
variable {s : State} {d n : Nat} {errs : List (Nat × Bool)} {k : Stroke} {q : List Stroke}

theorem replayNext_runs (hq : (schDie s d).replays = k :: q) (hs : replaySpare s d = some n) (hr : runningReplays s d < 2) :
    ∃ x, replayNext d errs s = setLathe n { lathe (replayCounted d n errs k q s) n with queue := [{ k with own := some x }] }
      (replayCounted d n errs k q s) := by
  refine ⟨⟨0, (replayRead d errs k (setSchDie d { schDie s d with replays := q } s)).1⟩, ?_⟩
  unfold replayNext
  simp only [hq, hs, List.head?_cons, List.drop_one, List.tail_cons, if_neg (Nat.not_le.mpr hr)]
  rfl

/-- With no failed job, no spare or two replays running nothing happens. -/
theorem replayNext_idle (h : (schDie s d).replays = [] ∨ replaySpare s d = none ∨ 2 ≤ runningReplays s d) :
    replayNext d errs s = s := by
  unfold replayNext
  split
  · rename_i k n hk hn
    rcases h with h | h | h
    · simp [h] at hk
    · simp [h] at hn
    · rw [if_pos h]
  · rfl

/-- A spare of a C-die is one of its lathes. -/
theorem replaySpare_lt (hd : d < 4) (h : replaySpare s d = some n) : n < 272 := by
  have hmem := List.mem_of_find?_eq_some h
  obtain ⟨i, hi, rfl⟩ := List.mem_map.mp (List.mem_filter.mp hmem).1
  have := List.mem_range.mp hi
  omega

theorem keeps_replayCounted (hd : d < 4) : keeps [.sch, .regs, .armed, .events, .out] s (replayCounted d n errs k q s) :=
  keeps_trans (keeps_trans (keeps_trans (keeps_mono (by decide) (keeps_setSchDie d _ s))
    (keeps_mono (by decide) (loadOnly_replayRead hd errs k _).1)) (keeps_mono (by decide) (keeps_countK _ _ _ _ _)))
    (keeps_mono (by decide) (keeps_countK _ _ _ _ _))

theorem schDie_replayCounted (hd : d < 4) : schDie (replayCounted d n errs k q s) d = { schDie s d with replays := q } := by
  have hsch := (loadOnly_replayRead hd errs k (setSchDie d { schDie s d with replays := q } s)).1 .sch (by decide)
  rw [replayCounted, schDie_countK, schDie_countK, schDie_congr (congrArg SchState.dies hsch), schDie_setSchDie]

theorem replayCounted_counts (hd : d < 4) (hn : n < 272) : counted s (replayCounted d n errs k q s) (schPage d) R.SCH_CNT 5 1 ∧
    counted s (replayCounted d n errs k q s) (lthPage n) R.LTH_CNT 3 1 := by
  have hne : schPage d ≠ lthPage n := by simp only [schPage, lthPage]; omega
  constructor
  · have hread := (loadOnly_replayRead hd errs k (setSchDie d { schDie s d with replays := q } s)).2 (R.SCH_CNT + 8 * 5)
      (by decide) (by decide)
    exact counted_congr (counted_of_eq (counted_countK _ _ _ _ _) hread)
      (reg_countK_page (p := lthPage n) (base := R.LTH_CNT) (k := 3) (off := R.SCH_CNT + 8 * 5) _ _ hne (by decide) (by decide))
  · refine counted_of_eq (counted_countK _ _ _ _ _) ?_
    rw [reg_countK_page (p := schPage d) (base := R.SCH_CNT) (k := 5) (off := R.LTH_CNT + 8 * 3) _ _ hne.symm (by decide) (by decide)]
    exact lowRegsKept_replayRead d errs k _ _ _ (by simp only [lthPage]; omega) (by decide)

end Replay

/-- Settles O26: both kinds of stroke time out alike (`handshakeTo_spec`) and differ in how they are missed; a replay is `replayCounted`
with its stroke on the spare. -/
theorem handshakesAndReplays : Obligations.HandshakesAndReplays := by
  unfold Obligations.HandshakesAndReplays
  refine ⟨?correlation, ?beams, ?empty, ?replay, ?idle⟩
  case correlation =>
    intro s n k q hn hq hw hk hl hr
    obtain ⟨l, hdie⟩ := missStroke_schDie (d := n / 68) (again := true) (s := timeoutReported n k (frontGone n q s)) hk
    have hkeep := keeps_missStroke (d := n / 68) (again := true) (s := timeoutReported n k (frontGone n q s)) hk
    obtain ⟨t, ht, hqueue, f, hvt⟩ := handshakeTo_spec hn hq hw hl hr rfl (keeps_mono (by decide) hkeep)
      (fun off _ => reg_congr (missStroke_regs hk) _ _) (missStroke_lathes hk) (by rw [hdie])
    obtain ⟨hrk, hrs⟩ := changesOnly_timeoutReported (n := n) (k := k) (s := frontGone n q s)
    refine ⟨t, ht, hqueue, f.sticky, f.missed, f.timeouts, f.fail, f.mask, f.diff, ?_, ?_⟩
    · exact keeps_trans (keeps_trans (keeps_trans (keeps_mono (by decide) changesOnly_frontGone.1)
        (keeps_mono (by decide) (keeps_of_same hrk (timeoutReported_free hk)))) (keeps_mono (by decide) hkeep))
        (keeps_mono (by decide) hvt.1)
    · exact sameRegs_trans (sameRegs_trans (sameRegs_trans (sameRegs_mono (by simp) changesOnly_frontGone.2) hrs)
        (sameRegs_of_eq (missStroke_regs hk))) hvt.2
  case beams =>
    intro s n k q g hn hq hw hg hvolt hpower hdets hl hr
    have hru := changesOnly_timeoutReported (n := n) (k := k) (s := frontGone n q s)
    have hmiss : missStroke (n / 68) k true (timeoutReported n k (frontGone n q s)) =
        countK (ggePage (n / 68)) R.GGE_CNT 1 1 (timeoutReported n k (frontGone n q s)) := by
      unfold missStroke
      rw [hg]
      exact gougeMissing_plain hvolt hpower ((congrArg _ (hru.same .gge (by decide))).trans hdets)
    have hne : lthPage n ≠ ggePage (n / 68) := by simp only [lthPage, ggePage]; omega
    have hplain : ¬ eventPage (ggePage (n / 68)) := by simp only [eventPage, ggePage]; omega
    obtain ⟨t, ht, hqueue, f, hvt⟩ := handshakeTo_spec hn hq hw hl hr hmiss.symm (keeps_mono (by decide) (keeps_countK _ _ _ _ _))
      (fun off ho => reg_countK_page _ _ hne (by decide) ho) (by rw [countK_sch]) (by rw [schDie_countK])
    refine ⟨t, ht, hqueue, f.sticky, f.missed, f.timeouts, ?_, f.fail, f.mask, f.diff, ?_⟩
    · exact counted_congr (counted_of_eq (counted_countK _ _ _ _ _) (hru.reg (by simp [hne.symm]) hplain (by decide)))
        (hvt.reg (by simp [hne.symm]) hplain (by decide))
    · exact (((changesOnly_frontGone.mono (by decide) (by simp)).trans (hru.mono (by decide) (by simp))).trans
        ((changesOnly_countK _ _ (by decide)).mono (by decide) (by simp))).trans (hvt.mono (by decide) (by simp))
  case empty =>
    intro s n hq
    refine ⟨s, ?_, rfl⟩
    change execHandshakeTo n s = _
    rw [execHandshakeTo, hq]
    rfl
  case replay =>
    intro s d n k q errs hd hq hs hr
    obtain ⟨x, hx⟩ := replayNext_runs (errs := errs) hq hs hr
    obtain ⟨hsch, hlth⟩ := replayCounted_counts (s := s) (errs := errs) (k := k) (q := q) hd (replaySpare_lt hd hs)
    refine ⟨replayNext d errs s, rfl, ?_⟩
    rw [hx]
    refine ⟨⟨x, by rw [lathe_setLathe]⟩, by rw [schDie_setLathe, schDie_replayCounted hd], counted_congr hsch (reg_setLathe ..),
      counted_congr hlth (reg_setLathe ..), ?_⟩
    exact keeps_trans (keeps_mono (by decide) (keeps_replayCounted (n := n) (errs := errs) (k := k) (q := q) hd))
      (keeps_mono (by decide) (keeps_setLathe n _ _))
  case idle =>
    intro s d errs h
    exact ⟨s, congrArg Host.Outcome.next (replayNext_idle h), rfl⟩

end Sys2Proof.Machine
end

section
/-! PROOFS. How a cut-list entry expands: the tiles of each generator in number, and the slots and seats of its producers in a row
(R184, R185). -/

namespace Sys2Proof.Machine

/-! ## Ranges of blocks, and the rows of a band over them -/

@[simp] theorem length_upTo (a b : Nat) : (upTo a b).length = b + 1 - a := by simp [upTo]

/-- The tiles of a band, rows ascending: in each row from the diagonal on, up to `w` further blocks. -/
def bandTiles (a b w : Nat) : List (Nat × Nat) := (upTo a b).flatMap (fun r => (upTo r (min (r + w) b)).map (fun k => (r, k)))

/-- A triangle is a band too wide to be cut off. -/
theorem triangleTiles_eq_band (a b : Nat) : triangleTiles a b = bandTiles a b b := by
  simp [triangleTiles, bandTiles]

/-- The tiles of a band over `n` blocks, counted from its last row up: the row `j` above the last has `j + 1` of them, at most `w + 1`. -/
def bandSize (w n : Nat) : Nat := ∑ j ∈ Finset.range n, (min w j + 1)

theorem length_bandTiles (a b w : Nat) : (bandTiles a b w).length = bandSize w (b + 1 - a) := by
  have hrow (i : Nat) (hi : i < b + 1 - a) : min (a + i + w) b + 1 - (a + i) = min w (b + 1 - a - 1 - i) + 1 := by omega
  calc (bandTiles a b w).length
      = ∑ i ∈ Finset.range (b + 1 - a), (min (a + i + w) b + 1 - (a + i)) := by
        simp only [bandTiles, List.length_flatMap, List.length_map, length_upTo]
        rw [upTo, List.map_map]
        rfl
    _ = ∑ i ∈ Finset.range (b + 1 - a), (min w (b + 1 - a - 1 - i) + 1) :=
        Finset.sum_congr rfl (fun i hi => hrow i (Finset.mem_range.mp hi))
    _ = bandSize w (b + 1 - a) := Finset.sum_range_reflect (fun j => min w j + 1) _

/-- Where no row is cut off the band is a triangle. -/
theorem two_mul_bandSize_full {w n : Nat} (h : n ≤ w + 1) : 2 * bandSize w n = n * (n + 1) := by
  induction n with
  | zero => rfl
  | succ n ih =>
    have hstep : bandSize w (n + 1) = bandSize w n + (min w n + 1) := Finset.sum_range_succ _ _
    rw [hstep, Nat.min_eq_right (by omega), Nat.mul_add, ih (by omega)]
    ring

/-- A row that is cut off has `w + 1` tiles; the last `w` rows are short of that by a triangle. -/
theorem two_mul_bandSize_cut {w n : Nat} (h : w ≤ n) : 2 * bandSize w n + w * (w + 1) = 2 * (n * (w + 1)) := by
  induction n, h using Nat.le_induction with
  | base => rw [two_mul_bandSize_full (by omega)]; ring
  | succ n hn ih =>
    have hstep : bandSize w (n + 1) = bandSize w n + (min w n + 1) := Finset.sum_range_succ _ _
    rw [hstep, Nat.min_eq_left hn, Nat.add_mul n, Nat.mul_add 2 (n * (w + 1)), ← ih]
    ring

theorem length_triangleTiles (a b : Nat) : (triangleTiles a b).length = (b + 1 - a) * (b + 1 - a + 1) / 2 := by
  rw [triangleTiles_eq_band, length_bandTiles, ← two_mul_bandSize_full (w := b) (by omega)]
  omega

/-- The tile count of R184 for a band over `n` blocks. -/
theorem bandSize_eq (w n : Nat) :
    bandSize w n = if w < n then n * (w + 1) - w * (w + 1) / 2 else n * (n + 1) / 2 := by
  split
  · have hcut := two_mul_bandSize_cut (w := w) (n := n) (by omega)
    omega
  · have hfull := two_mul_bandSize_full (w := w) (n := n) (by omega)
    omega

/-! ## Groups of blocks on the diagonal -/

/-- Group `i` of `w` blocks has `w` of them, or what the whole groups before it leave. -/
theorem length_groupTiles {lo hi w i : Nat} (hw : 1 ≤ w) :
    (triangleTiles (lo + i * w) (min (lo + i * w + w - 1) hi)).length =
      min w (hi + 1 - lo - i * w) * (min w (hi + 1 - lo - i * w) + 1) / 2 := by
  rw [length_triangleTiles, show min (lo + i * w + w - 1) hi + 1 - (lo + i * w) = min w (hi + 1 - lo - i * w) by omega]

theorem length_diagonalTiles {lo hi w : Nat} (hw : 1 ≤ w) :
    ((List.range (ceilDiv (hi + 1 - lo) w)).flatMap
      (fun i => triangleTiles (lo + i * w) (min (lo + i * w + w - 1) hi))).length =
      (hi + 1 - lo) / w * (w * (w + 1) / 2) + (hi + 1 - lo) % w * ((hi + 1 - lo) % w + 1) / 2 := by
  simp only [List.length_flatMap, length_groupTiles hw]
  generalize hi + 1 - lo = b
  have hsplit : b / w * w + b % w = b := Nat.div_add_mod' b w
  have hwhole : (List.range (b / w)).map (fun i => min w (b - i * w) * (min w (b - i * w) + 1) / 2) =
      List.replicate (b / w) (w * (w + 1) / 2) := by
    rw [List.eq_replicate_iff]
    refine ⟨by simp, fun x hx => ?_⟩
    obtain ⟨i, hi, rfl⟩ := List.mem_map.mp hx
    have hnext : (i + 1) * w ≤ b / w * w := Nat.mul_le_mul_right w (List.mem_range.mp hi)
    rw [Nat.add_mul, Nat.one_mul] at hnext
    rw [Nat.min_eq_left (by omega)]
  by_cases hr : b % w = 0
  · have hceil : ceilDiv b w = b / w := by
      unfold ceilDiv
      rw [show b + w - 1 = w - 1 + w * (b / w) by rw [Nat.mul_comm w]; omega, Nat.add_mul_div_left _ _ hw,
        Nat.div_eq_of_lt (by omega), Nat.zero_add]
    rw [hceil, hwhole, hr]
    simp
  · have hlt := Nat.mod_lt b hw
    have hceil : ceilDiv b w = b / w + 1 := by
      unfold ceilDiv
      rw [show b + w - 1 = b % w - 1 + w * (b / w + 1) by rw [Nat.mul_add, Nat.mul_comm w]; omega, Nat.add_mul_div_left _ _ hw,
        Nat.div_eq_of_lt (by omega), Nat.zero_add]
    rw [hceil, List.range_succ, List.map_append, hwhole, List.sum_append, List.sum_replicate, List.map_singleton, List.sum_singleton,
      show b - b / w * w = b % w by omega, Nat.min_eq_right (by omega), smul_eq_mul]

/-! ## Tiles (R184) -/

/-- Every generator expands into as many tiles as R184 counts. -/
theorem length_tiles {e : CutEntry} (hlo : 1 ≤ e.op) (hhi : e.op ≤ 5) (hgroup : e.op = 4 → 1 ≤ e.param) :
    e.tiles.length = e.tileCount := by
  have hop : e.op = 1 ∨ e.op = 2 ∨ e.op = 3 ∨ e.op = 4 ∨ e.op = 5 := by omega
  unfold CutEntry.tiles CutEntry.tileCount
  rcases hop with h | h | h | h | h <;> simp only [h, reduceIte, Nat.reduceEqDiff]
  · rfl
  · exact length_triangleTiles _ _
  · exact (length_bandTiles _ _ _).trans (bandSize_eq _ _)
  · exact length_diagonalTiles (hgroup h)
  · simp

/-! ## Producers (R185) -/

/-- Numbered in rows of `k`, the numbers are consecutive. -/
theorem flatMap_range_rows {α : Type} (f : Nat → α) (n k : Nat) :
    (List.range n).flatMap (fun i => (List.range k).map (fun m => f (i * k + m))) = (List.range (n * k)).map f := by
  induction n with
  | zero => simp
  | succ n ih => rw [List.range_succ, List.flatMap_append, ih, Nat.add_mul, Nat.one_mul, List.range_add]; simp

/-- What depends on the ordinal of an element alone runs over the ordinals. -/
theorem flatMap_zipIdx_snd {α β : Type} (g : Nat → List β) (l : List α) :
    l.zipIdx.flatMap (fun t => g t.2) = (List.range l.length).flatMap g := by
  rw [List.range_eq_range', ← List.zipIdx_map_snd, List.flatMap_map]

/-- What a producer has from its place in the order of expansion alone. -/
theorem map_producers {α : Type} {e : CutEntry} (g : Producer → α) (f : Nat → α)
    (h : ∀ (t : (Nat × Nat) × Nat) m, g ⟨(e.seat0 + t.2 * e.split + m) % 64, e.slot0 + t.2 * e.split + m, t.1.1, t.1.2, m, e.splitCode⟩ =
      f (t.2 * e.split + m)) :
    e.producers.map g = (List.range (e.tiles.length * e.split)).map f := by
  rw [← flatMap_range_rows, ← flatMap_zipIdx_snd]
  simp only [CutEntry.producers, List.map_flatMap, List.map_map, Function.comp_def, h]

/-- Settles O28: each generator's tiles are counted by rows (`length_tiles`), and the producers of the tiles are numbered in one row
(`map_producers`). -/
theorem cutListExpansion : Obligations.CutListExpansion := by
  intro e hlo hhi _ hgroup _
  have htiles := length_tiles hlo hhi hgroup
  have hslot := map_producers (e := e) Producer.slot (fun i => e.slot0 + i) (fun t m => Nat.add_assoc _ _ _)
  have hseat := map_producers (e := e) Producer.seat (fun i => (e.seat0 + i) % 64) (fun t m => by rw [← Nat.add_assoc])
  rw [htiles] at hslot hseat
  exact ⟨htiles, by simpa using congrArg List.length hslot, hslot, hseat⟩

end Sys2Proof.Machine
end

section
/-! PROOFS. Pass plans: reading the cut list evaluates the detectors of its HBM stack, so a plan write uses up an arming there (R75, R187)
and keeps fewer parts than stated. -/

namespace Sys2Proof.Machine

/-! ## The commands (R188, R473) -/

theorem not_guarded_planCtrl {d : Nat} (hd : d < 4) : regGuarded (schPage d) R.SCH_PLAN_CTRL = false := by
  decide +revert

theorem exec_schPlanWrite {m d : Nat} {v : Word} {s : State} (hd : d < 4)
    (j : judge s m (schPage d) R.SCH_PLAN_CTRL 8 (v ||| 2#64) = .ok) (hv : bitOf v 0 = false) :
    exec (.schPlanWrite m d v) s = .next (planWrite d (counted0 m s)) := by
  have h0 : bitOf (v ||| 2#64) 0 = false := by rw [bitOf_or, hv]; decide
  have h1 : bitOf (v ||| 2#64) 1 = true := by rw [bitOf_or]; simp [bitOf]
  change Host.Outcome.next (guardedWrite m (schPage d) R.SCH_PLAN_CTRL (v ||| 2#64) (writePlanCtrl d (v ||| 2#64)) s) = _
  rw [guardedWrite_plain j (not_guarded_planCtrl hd), writePlanCtrl, actIf, actIf, if_pos h1, if_neg (by simp [h0])]

/-! ## A cut list behind an armed detector -/

/-- C-die 0 powered, its scheduler enabled; region 0 valid on every C-die and context 0 valid for it. SCH_PLAN_DATA holds a plan of region
0 with VALID 1 and one cut-list entry at address 0. RESERVED_ACCESS of HBM stack 0 is armed to fire once. -/
def armedStack : State :=
  { setRegsFrom (schPage 0) R.SCH_PLAN_DATA [BitVec.ofNat 64 (1 + 2 ^ 32), 0, 0, 0, 0, 0]
      (setFld (schPage 0) F.PAGE_CTRL_ENABLE 1 (setFld 0 F.PAGE_STATUS_READY 1
        (setReg 0x3F0 R.PWR_DOMAIN_STATUS 0xFFFFFF State.reset))) with
    armed := [⟨hbmPage 0, S.HBM_RESERVED_ACCESS, .once, 1⟩]
    fpl := { regions := [(0, 1), (32, 1), (64, 1), (96, 1)] }
    tly := { dies := [(0, { ctxs := [(0, { words := [1] })] })] } }

/-- The plan is refused, for its one implicit stage names a block that the region has not. -/
theorem armedStack_refused : (planValidWrite 0 (planData armedStack 0) armedStack).1 = 5 := by decide +kernel

/-- The read of the cut list is where the detector fires; it is armed no more. -/
theorem armedStack_fires : (planWrite 0 armedStack).armed = [] := by decide +kernel

/-- Refutes O29: its second clause says that a refused WRITE leaves the armed detectors as they were, and does not ask that the detectors
of the list's HBM stack be unarmed. A WRITE reads the cut list before it judges the entries; with RESERVED_ACCESS of that stack armed to
fire once (`armedStack`) the read uses up the arming (R75). -/
theorem not_passPlans : ¬ Obligations.PassPlans := by
  unfold Obligations.PassPlans
  rintro ⟨-, hrefused, -⟩
  have hok : judge armedStack 3 (schPage 0) R.SCH_PLAN_CTRL 8 (0#64 ||| 2#64) = .ok := by decide +kernel
  obtain ⟨t, ht, -, -, -, -, hkeep⟩ := hrefused armedStack 3 0 0#64 (by decide) hok (by decide) (by decide +kernel)
    (by rw [armedStack_refused]; decide)
  rw [exec_schPlanWrite (by decide) hok (by decide)] at ht
  obtain rfl : planWrite 0 armedStack = t := by injection ht
  have harmed : (planWrite 0 armedStack).armed = armedStack.armed := hkeep .armed (by decide)
  rw [armedStack_fires] at harmed
  cases harmed

end Sys2Proof.Machine
end

section
/-! PROOFS. Gouge strokes, detectors and weight sets (09_gouge_beams.md): the check of a spectrum is a line of 33 beams, its witness
the beam of the summed weights. -/

namespace Sys2Proof.Machine

/-! ## The checks of a spectrum (R206) -/

/-- Sum − witness of the 33 beams of a spectrum. -/
def beamResidue (y : List (Int × Int)) : Int × Int := residue (fun k => y.getD k 0)

theorem sum_take_eq (y : List (Int × Int)) (n : Nat) : (y.take n).sum = ∑ k ∈ Finset.range n, y.getD k 0 := by
  induction n generalizing y with
  | zero => simp
  | succ n ih =>
    cases y with
    | nil => simp
    | cons a y => rw [List.take_succ_cons, List.sum_cons, ih, Finset.sum_range_succ', add_comm]; rfl

/-- The checks of a spectrum that fail are the components of its residue that are not zero. -/
theorem beamChecks_eq (y : List (Int × Int)) : beamChecks y =
    [(false, (beamResidue y).1), (true, (beamResidue y).2)].filter (fun e => decide (e.2 ≠ 0)) := by
  have hsum : (y.take 32).foldl addPair (0, 0) = ∑ k ∈ Finset.range 32, y.getD k 0 := by
    rw [foldl_addPair, sum_take_eq]; exact zero_add _
  unfold beamChecks beamResidue residue
  rw [hsum]
  rfl

theorem beamChecks_balanced {y : List (Int × Int)} (h : beamResidue y = 0) : beamChecks y = [] := by
  simp [beamChecks_eq, h]

/-- A spectrum that is off in one component fails the check of that component alone. -/
theorem beamChecks_component {y : List (Int × Int)} {im : Bool} {d : Int} (hd : d ≠ 0) (h : beamResidue y = component im d) :
    beamChecks y = [(im, d)] := by
  rw [beamChecks_eq, h]
  cases im <;> simp [component, hd]

/-! ## The witness row (R204, R206) -/

/-- w · x adds in w. -/
theorem mulPlain_add (v w x : Int × Int) : mulPlain (v + w) x = mulPlain v x + mulPlain w x := by
  ext <;> simp only [mulPlain, Prod.fst_add, Prod.snd_add] <;> ring

theorem dotPlain_eq (w x : List (Int × Int)) : dotPlain w x = (List.zipWith mulPlain w x).sum := by
  change (w.zip x).foldl (fun a p => addPair a (Function.uncurry mulPlain p)) (0, 0) = _
  rw [← List.foldl_map (f := Function.uncurry mulPlain) (g := addPair), foldl_addPair, List.map_uncurry_zip_eq_zipWith]
  exact zero_add _

/-- The beam of a sum of two rows of weights is the sum of their beams. -/
theorem dotPlain_zipWith {v w : List (Int × Int)} (h : v.length = w.length) (x : List (Int × Int)) :
    dotPlain (v.zipWith addPair w) x = dotPlain v x + dotPlain w x := by
  simp only [dotPlain_eq]
  induction v generalizing w x with
  | nil => cases w <;> simp_all
  | cons a v ih =>
    cases w with
    | nil => simp at h
    | cons b w =>
      cases x with
      | nil => simp
      | cons c x =>
        have hhead : mulPlain (addPair a b) c = mulPlain a c + mulPlain b c := mulPlain_add a b c
        simp only [List.zipWith_cons_cons, List.sum_cons, ih (Nat.succ.inj h), hhead]
        exact add_add_add_comm _ _ _ _

theorem dotPlain_zeroes (n : Nat) (x : List (Int × Int)) : dotPlain (List.replicate n (0, 0)) x = 0 := by
  rw [dotPlain_eq]
  induction n generalizing x with
  | zero => simp
  | succ n ih =>
    cases x with
    | nil => simp
    | cons c x =>
      have hzero : mulPlain (0, 0) c = 0 := by simp [mulPlain]
      rw [List.replicate_succ, List.zipWith_cons_cons, List.sum_cons, ih, hzero, add_zero]

/-- The beam of rows of weights added up is the sum of their beams. -/
theorem dotPlain_foldl {w : List (List (Int × Int))} {a : List (Int × Int)} (hw : ∀ r ∈ w, r.length = a.length) (x : List (Int × Int)) :
    dotPlain (w.foldl (fun a r => a.zipWith addPair r) a) x = dotPlain a x + (w.map (dotPlain · x)).sum := by
  induction w generalizing a with
  | nil => simp
  | cons r w ih =>
    obtain ⟨hr, hrest⟩ := List.forall_mem_cons.mp hw
    rw [List.foldl_cons, ih (fun r' h => by simp [hrest r' h, hr]), dotPlain_zipWith hr.symm, List.map_cons, List.sum_cons, add_assoc]

/-- The beams of the witness rows of a link are its beams with their witness. -/
theorem map_withWitnessRow {w : List (List (Int × Int))} (hw : ∀ r ∈ w, r.length = 32) (x : List (Int × Int)) :
    (withWitnessRow w).map (dotPlain · x) = withWitness (w.map (dotPlain · x)) := by
  have hrows : ∀ r ∈ w, r.length = (List.replicate 32 ((0, 0) : Int × Int)).length := by simpa using hw
  rw [withWitnessRow, List.map_append, List.map_singleton, dotPlain_foldl hrows, dotPlain_zeroes, withWitness, foldl_addPair]
  rfl

theorem beamResidue_zipWith {a b : List (Int × Int)} (h : a.length = b.length) :
    beamResidue (a.zipWith addPair b) = beamResidue a + beamResidue b := by
  unfold beamResidue
  rw [← residue_add]
  refine residue_congr (fun k _ => ?_)
  by_cases hk : k < a.length
  · simp [List.getD_eq_getElem?_getD, hk, h ▸ hk]; rfl
  · simp [List.getD_eq_getElem?_getD, hk, h ▸ hk]

/-- The weights of a link: 32 beams of 32 inputs. -/
def linkShaped (w : List (List (Int × Int))) : Prop := w.length = 32 ∧ ∀ r ∈ w, r.length = 32

/-- A link adds 33 beams that balance. -/
theorem linkBeams {w : List (List (Int × Int))} (hw : linkShaped w) (x : List (Int × Int)) :
    ((withWitnessRow w).map (dotPlain · x)).length = 33 ∧ beamResidue ((withWitnessRow w).map (dotPlain · x)) = 0 := by
  obtain ⟨hlen, hrows⟩ := hw
  rw [map_withWitnessRow hrows]
  exact ⟨by simp [withWitness, hlen], residue_withWitness (by simpa using hlen)⟩

/-- The row sums of a chain of links over any operands: 33 beams, the sum of the first 32 the last. -/
theorem beamSums_balanced {ws : List (List (List (Int × Int)))} (hws : ∀ w ∈ ws, linkShaped w) (xs : List (List (Int × Int))) :
    (beamSums (ws.map withWitnessRow) xs).length = 33 ∧ beamResidue (beamSums (ws.map withWitnessRow) xs) = 0 := by
  have hfold (l : List (List (List (Int × Int)) × List (Int × Int)))
      (hl : ∀ p ∈ l, (p.1.map (dotPlain · p.2)).length = 33 ∧ beamResidue (p.1.map (dotPlain · p.2)) = 0) (a : List (Int × Int))
      (ha : a.length = 33 ∧ beamResidue a = 0) :
      (l.foldl (fun a p => a.zipWith addPair (p.1.map (dotPlain · p.2))) a).length = 33 ∧
        beamResidue (l.foldl (fun a p => a.zipWith addPair (p.1.map (dotPlain · p.2))) a) = 0 := by
    refine List.foldlRecOn (motive := fun b => b.length = 33 ∧ beamResidue b = 0) _ _ ha (fun b hb p hp => ?_)
    obtain ⟨hlen, hres⟩ := hl p hp
    exact ⟨by simp [hb.1, hlen], by rw [beamResidue_zipWith (hb.1.trans hlen.symm), hb.2, hres, add_zero]⟩
  refine hfold _ (fun p hp => ?_) _ ⟨List.length_replicate .., ?_⟩
  · obtain ⟨w, hw, hp1⟩ := List.mem_map.mp (List.of_mem_zip hp).1
    rw [← hp1]
    exact linkBeams (hws w hw) p.2
  · refine (residue_congr (g := fun _ => 0) (fun k hk => ?_)).trans residue_zero
    rw [List.getD_replicate _ hk]; rfl

/-! ## A disturbance (R206) -/

/-- A disturbance of the spectrum at hand changes one component of one row. -/
theorem disturb_one (t row : Nat) (im : Bool) (add : Int) (y : List (Int × Int)) :
    disturb [⟨t, row, im, add⟩] t y = y.modify row (· + component im add) := by
  have hstep : (fun p : Int × Int => if im then (p.1, p.2 + add) else (p.1 + add, p.2)) = (· + component im add) := by
    funext p; cases im <;> ext <;> simp [component]
  simp only [disturb, List.foldl_cons, List.foldl_nil, if_true, hstep]

theorem beamResidue_modify {y : List (Int × Int)} {row : Nat} (hy : y.length = 33) (hrow : row < 33) (im : Bool) (d : Int) :
    beamResidue (y.modify row (· + component im d)) = beamResidue y + component im (lineChange row d) := by
  have hcell (k : Nat) : (y.modify row (· + component im d)).getD k 0 = y.getD k 0 + if k = row then component im d else 0 := by
    simp only [List.getD_eq_getElem?_getD, List.getElem?_modify]
    by_cases hk : k = row
    · subst hk
      simp [hy, hrow]
    · simp [hk, Ne.symm hk]
  unfold beamResidue
  rw [residue_congr (fun k _ => hcell k), residue_add, residue_single hrow, component_lineChange]

/-- A disturbance of one row of a spectrum that balances fails the check of its component, off by as much or, on the witness, by the
negative. -/
theorem beamChecks_disturb {y : List (Int × Int)} {row : Nat} (hy : y.length = 33) (hb : beamResidue y = 0) (hrow : row < 33)
    (t : Nat) (im : Bool) {add : Int} (ha : add ≠ 0) :
    beamChecks (disturb [⟨t, row, im, add⟩] t y) = [(im, lineChange row add)] := by
  refine beamChecks_component (lineChange_ne_zero ha) ?_
  rw [disturb_one, beamResidue_modify hy hrow, hb, zero_add]

/-- Settles O32: the beams of each link with its witness row balance (`linkBeams`), so their sums do, and a disturbance of one row is the
residue of the spectrum. -/
theorem undisturbedBeamsPass : Obligations.UndisturbedBeamsPass := by
  unfold Obligations.UndisturbedBeamsPass
  intro ws xs row t im add hlen hrows _ hrow ha
  obtain ⟨hy, hb⟩ := beamSums_balanced (fun w hw => ⟨hlen w hw, hrows w hw⟩) xs
  refine ⟨beamChecks_balanced hb, lineChange row add, beamChecks_disturb hy hb (by omega) t im ha, ?_⟩
  unfold lineChange
  split
  · exact .inl rfl
  · exact .inr rfl

end Sys2Proof.Machine
end

section
/-! PROOFS. Weight sets: the sets of all C-dies are numbered in one row, so a mark that swaps a set of another C-die changes what this
C-die has under a number of 16 or more. -/

namespace Sys2Proof.Machine

/-! ## A mark for another C-die (R214, R290) -/

/-- Set 2 of C-die 1 is valid; a dispatched mark (entry 6) swaps set 2 of C-die 1 alone. -/
def swapOther : State :=
  { State.reset with
    mrk := { occs := [⟨6, 655360, false, false, 0x206, 0b10, 0, 0, 0, 0, []⟩] }
    gge := { wsets := [(16 * 1 + 2, { w0 := 1 })] } }

/-- What C-die 0 has under number 18 after a command: set 2 of C-die 1. -/
def set18 : Result → WSet
  | .next t => wsetOf t 0 18
  | _ => {}

theorem swapOther_before : wsetOf swapOther 0 18 = { w0 := 1 } := by decide

theorem swapOther_after : set18 (exec (.weightSwap 6) swapOther) = { w0 := 1, swaps := [⟨0⟩] } := by decide +kernel

/-- Refutes O35: its last clause says of every number but the mark's that the set of C-die `d` under it is as it was, and does not ask
that the number be one of the 16 sets of a C-die. For C-die 0 and a mark that swaps set 2 of C-die 1 (`swapOther`), number 18 is that
set (16 · 0 + 18 = 16 · 1 + 2), and a swap of it waits afterwards. -/
theorem not_weightSets : ¬ Obligations.WeightSets := by
  unfold Obligations.WeightSets
  rintro ⟨-, -, -, -, -, -, hmark⟩
  obtain ⟨t, ht, -, hothers, -⟩ := hmark swapOther 6 0 {} ⟨6, 655360, false, false, 0x206, 0b10, 0, 0, 0, 0, []⟩ (by decide +kernel)
    (by decide) (by decide +kernel)
  have hafter : wsetOf t 0 18 = { w0 := 1, swaps := [⟨0⟩] } := (congrArg set18 ht).symm.trans swapOther_after
  rw [hothers 18 (by decide), swapOther_before] at hafter
  cases hafter

end Sys2Proof.Machine
end

section
/-! PROOFS. What the refresh of the outputs, the emission of a record and a raised latch leave alone: the parts they name and, of the
registers, the pages below those of HBM. -/

namespace Sys2Proof.Machine

/-! ## Frames of parts and of the pages below those of HBM -/

/-- No part but those listed changes, and no register of a page below those of HBM but those at the offsets listed. -/
def lowKept (L : List Part) (l : List Nat) (s t : State) : Prop :=
  keeps L s t ∧ ∀ p off, p < 0x230 → off < 0x1000 → off ∉ l → reg t p off = reg s p off

section
variable {L : List Part} {l : List Nat} {s t u : State}

theorem lowKept.refl (L : List Part) (l : List Nat) (s : State) : lowKept L l s s := ⟨keeps_refl L s, fun _ _ _ _ _ => rfl⟩

theorem lowKept.trans (h : lowKept L l s t) (k : lowKept L l t u) : lowKept L l s u :=
  ⟨keeps_trans h.1 k.1, fun p off hp ho hl => (k.2 p off hp ho hl).trans (h.2 p off hp ho hl)⟩

theorem lowKept.mono {K : List Part} {k : List Nat} (h : lowKept L l s t) (hL : ∀ x ∈ L, x ∈ K) (hl : ∀ x ∈ l, x ∈ k) :
    lowKept K k s t := ⟨keeps_mono hL h.1, fun p off hp ho hk => h.2 p off hp ho (fun hx => hk (hl off hx))⟩

theorem lowKept.same (h : lowKept L l s t) (x : Part) (hx : x ∉ L) : Sys2Proof.Machine.same x s t := h.1 x hx

theorem lowKept.reg (h : lowKept L l s t) {p off : Nat} (hp : p < 0x230) (ho : off < 0x1000) (hl : off ∉ l) :
    Sys2Proof.Machine.reg t p off = Sys2Proof.Machine.reg s p off := h.2 p off hp ho hl

/-- A change of listed parts other than the registers. -/
theorem lowKept.step {K : List Part} (h : lowKept L l s t) (k : keeps K t u) (hK : ∀ x ∈ K, x ∈ L) (hr : Part.regs ∉ K) :
    lowKept L l s u := h.trans ⟨keeps_mono hK k, fun p off _ _ _ => reg_congr (k .regs hr) p off⟩

theorem lowKept.foldl {α : Type} {f : State → α → State} {m : List α} (h : lowKept L l s t)
    (hf : ∀ u a, lowKept L l s u → lowKept L l s (f u a)) : lowKept L l s (m.foldl f t) :=
  List.foldlRecOn m f h fun u hu a _ => hf u a hu

theorem lowKept.ite {c : Prop} {_ : Decidable c} (h : lowKept L l s t) (h' : lowKept L l s u) : lowKept L l s (if c then t else u) := by
  split <;> assumption

theorem lowKept.ite_snd {α : Type} {c : Prop} {_ : Decidable c} {r q : α × State} (h : lowKept L l s r.2) (h' : lowKept L l s q.2) :
    lowKept L l s (if c then r else q).2 := by
  split <;> assumption

theorem lowKept.setReg {p off : Nat} {w : Word} (h : lowKept L l s t) (hL : Part.regs ∈ L) (hp : 0x230 ≤ p) (ho : off < 0x1000) :
    lowKept L l s (setReg p off w t) :=
  h.trans ⟨keeps_mono (by simpa using hL) (keeps_setReg p off w t),
    fun _ _ hq ho' _ => reg_setReg_ne w t (regAddr_ne ho' ho (.inl (by omega)))⟩

theorem lowKept.setSticky {p b : Nat} (h : lowKept L l s t) (hL : ∀ x ∈ [Part.regs, .out, .events], x ∈ L)
    (hp : 0x230 ≤ p ∨ R.STICKY ∈ l) : lowKept L l s (setSticky p b t) := by
  refine h.trans ⟨keeps_mono hL (keeps_setSticky p b t), fun q off hq ho hl => reg_setSticky t ?_ ho ?_⟩
  · simp only [pulseReg]; omega
  · rcases hp with hp | hp
    · exact .inl (by omega)
    · exact .inr (fun he => hl (he ▸ hp))

theorem lowKept.takeArmed {p b : Nat} (h : lowKept L l s t) (hL : Part.armed ∈ L) : lowKept L l s (takeArmed p b t).2 :=
  h.step (keeps_takeArmed p b t) (by simpa using hL) (by decide)

theorem lowKept.evalDetector {p b : Nat} {real : Bool} (h : lowKept L l s t) (hL : Part.armed ∈ L) :
    lowKept L l s (evalDetector p b real t).2 := h.takeArmed hL

theorem readOnly.lowKept (h : readOnly s t) : lowKept [.regs, .armed, .events, .out] [] s t :=
  ⟨h.1, fun p off hp ho _ => h.2 p off hp ho⟩

end

/-! ## The refresh of the outputs (R270, R294, R308, R321, R364, R391) -/

/-- A change of the pins and of what leaves. -/
theorem lowKept.shown {L : List Part} {l : List Nat} {s t : State} {out : List Emission} {pins : PinState} (h : lowKept L l s t)
    (hL : ∀ x ∈ [Part.out, .pins], x ∈ L) : lowKept L l s { t with out := out, pins := pins } :=
  h.step (K := [.out, .pins]) (fun x hx => by cases x <;> simp_all [Sys2Proof.Machine.same]) hL (by decide)

theorem lowKept.pinMove {L : List Part} {l : List Nat} {s t : State} {k : EmKind} {n w : Nat} {level : Bool} {m : NatTab}
    (h : lowKept L l s t) (hL : ∀ x ∈ [Part.out, .pins], x ∈ L) : lowKept L l s (pinMove k n level w m t).2 := .ite_snd h (h.shown hL)

theorem lowKept.refreshFco {L : List Part} {l : List Nat} {s t : State} (h : lowKept L l s t) (hL : ∀ x ∈ [Part.out, .pins], x ∈ L) :
    lowKept L l s (refreshFco t) := h.foldl fun _ _ h => (h.pinMove hL).shown hL

/-- What a refresh of the outputs may touch: pins and what leaves, registers of the field channels and of the cores, lanes that wait for an
edge, and the cores. -/
abbrev pinsOnly (s t : State) : Prop := lowKept [.regs, .armed, .events, .out, .pins, .spr, .chs] [] s t

section
variable {s t : State} (h : pinsOnly s t)
include h

theorem pinsOnly.frame {out : List Emission} {pins : PinState} {spr : SprState} {chs : ChsState} :
    pinsOnly s { t with out := out, pins := pins, spr := spr, chs := chs } :=
  h.step (K := [.out, .pins, .spr, .chs]) (fun x hx => by cases x <;> simp_all [Sys2Proof.Machine.same]) (by decide) (by decide)

theorem pinsOnly.syncEdge {n : Nat} : pinsOnly s (syncEdge n t) :=
  h.foldl fun _ _ h => .ite ((pinsOnly.frame h).foldl fun _ _ h => .ite (pinsOnly.frame h) h) h

theorem pinsOnly.refreshTrig {edge : State → Nat → Nat} : pinsOnly s (refreshTrig edge t) :=
  h.foldl fun _ _ h => .ite (pinsOnly.syncEdge (pinsOnly.frame (h.pinMove (by decide)))) (pinsOnly.frame (h.pinMove (by decide)))

theorem pinsOnly.refreshClk : pinsOnly s (refreshClk t) := h.foldl fun _ _ h => .ite h (pinsOnly.frame h)

theorem pinsOnly.setFldCh {c : Nat} {f : FieldRef} {v : Nat} (ho : f.off < 0x1000) : pinsOnly s (setFld (fldPage c) f v t) :=
  h.setReg (by decide) (by simp only [fldPage]; omega) ho

theorem pinsOnly.fldEnter {c : Nat} : pinsOnly s (fldEnter c t) := by
  have hp : 0x230 ≤ fldPage c := by simp only [fldPage]; omega
  exact .ite h (((h.setReg (by decide) (by decide) (by decide)).setReg (by decide) hp (by decide)).setSticky (by decide) (.inl hp))

theorem pinsOnly.fldStage {c causes : Nat} : pinsOnly s (fldStage c causes t) :=
  .ite (h.setFldCh (by decide)) (.ite (pinsOnly.setFldCh (h.setFldCh (by decide)) (by decide)) h)

theorem pinsOnly.fldEmit {c : Nat} : pinsOnly s (fldEmit c t) := .ite h h.frame

theorem pinsOnly.fldJudge {c : Nat} : pinsOnly s (fldJudge c t) := by
  unfold Sys2Proof.Machine.fldJudge
  refine .ite h.fldEmit ?_
  extract_lets k u v st w
  have hu : pinsOnly s u := .ite h (h.setFldCh (by decide))
  have hv : pinsOnly s v := .ite hu (pinsOnly.fldStage (pinsOnly.fldEnter hu))
  exact pinsOnly.fldEmit (.ite hv (hv.setFldCh (by decide)))

theorem pinsOnly.countChs {n k c : Nat} (hk : k < 8) : pinsOnly s (countK (chsPage n) R.CHS_CNT k c t) :=
  h.setReg (by decide) (by unfold chsPage; split <;> omega) (by simp only [R.CHS_CNT]; omega)

theorem pinsOnly.chsEndWait {n : Nat} : pinsOnly s (chsEndWait n t) := by
  unfold Sys2Proof.Machine.chsEndWait
  dsimp only
  split
  · exact .ite h (pinsOnly.countChs h.frame (by decide))
  · split
    · exact h
    · exact pinsOnly.countChs h.frame (by decide)
  · exact h

theorem pinsOnly.chsWake {n cause : Nat} : pinsOnly s (chsWake n cause t) := by
  have hp : 0x230 ≤ chsPage n := by unfold chsPage; split <;> omega
  have htaken : pinsOnly s (evalDetector (chsPage n) S.CHS_WAKE_OVERRUN ((chsCore t n).pending.testBit cause) t).2 :=
    h.takeArmed (by decide)
  exact .ite h (pinsOnly.chsEndWait (pinsOnly.frame
    (.ite ((pinsOnly.countChs htaken (by decide)).setSticky (by decide) (.inl hp)) htaken)))

theorem pinsOnly.wakeOnLines : pinsOnly s (wakeOnLines t) :=
  .ite h (h.frame.foldl fun _ _ h => .ite (.ite (pinsOnly.chsWake h) h) (pinsOnly.chsWake h))

end

theorem pinsOnly_refreshPins (s : State) : pinsOnly s (refreshPins s) := by
  have hfco : pinsOnly s (refreshFco s) := (lowKept.refl _ _ s).refreshFco (by decide)
  exact pinsOnly.wakeOnLines (hfco.refreshTrig.refreshClk.foldl fun _ _ h => pinsOnly.fldJudge h)

/-! ## The emission of a record (R348 to R350, R433, R435) -/

/-- What the emission of a record may touch: the rings, the Ledger, HBM, pins and what leaves; of the registers of low pages the sticky
bits that fences report (R346). -/
abbrev recordOnly (s t : State) : Prop := lowKept [.regs, .armed, .events, .out, .pins, .rng, .ldg, .hbm, .mem] [R.STICKY] s t

section
variable {s t : State} (h : recordOnly s t)
include h

theorem recordOnly.frame {out : List Emission} {pins : PinState} {rng : RngState} {ldg : LdgState} {hbm : HbmState} {mem : List Host.Cell} :
    recordOnly s { t with out := out, pins := pins, rng := rng, ldg := ldg, hbm := hbm, mem := mem } :=
  h.step (K := [.out, .pins, .rng, .ldg, .hbm, .mem]) (fun x hx => by cases x <;> simp_all [Sys2Proof.Machine.same]) (by decide) (by decide)

theorem recordOnly.setSticky {p b : Nat} : recordOnly s (setSticky p b t) := lowKept.setSticky h (by decide) (.inr (by decide))

theorem recordOnly.setHigh {p off : Nat} {w : Word} (hp : 0x230 ≤ p) (ho : off < 0x1000) : recordOnly s (setReg p off w t) :=
  lowKept.setReg h (by decide) hp ho

/-! ### Writes of HBM -/

theorem recordOnly.hbmStore {a : Nat} {l : List Byte} : recordOnly s (hbmStore a l t) := by
  induction l generalizing a t with
  | nil => exact h
  | cons b l ih => exact ih (.ite h h.frame)

theorem recordOnly.hbmWrite {a : Nat} {l : List Byte} : recordOnly s (hbmWrite a l t).2 := by
  have hp : 0x230 ≤ hbmPage (stackOf a) := by simp only [hbmPage]; omega
  unfold Sys2Proof.Machine.hbmWrite
  refine .ite_snd h (.ite_snd h ?_)
  split
  · exact recordOnly.setHigh (h.foldl fun _ _ h => recordOnly.setSticky h) hp (by decide)
  · have htaken : recordOnly s (takeArmed (hbmPage (stackOf a)) S.HBM_RESERVED_ACCESS t).2 := h.takeArmed (by decide)
    have hserved : recordOnly s (countServed a l.length (stickyIf (touchesReserved a l.length ||
        (takeArmed (hbmPage (stackOf a)) S.HBM_RESERVED_ACCESS t).1) (hbmPage (stackOf a)) S.HBM_RESERVED_ACCESS
        (takeArmed (hbmPage (stackOf a)) S.HBM_RESERVED_ACCESS t).2)) :=
      recordOnly.setHigh (.ite htaken.setSticky htaken) hp (by decide)
    exact .ite hserved (.ite hserved.hbmStore hserved.hbmStore.frame)

theorem recordOnly.writePieces {l : List (Nat × Nat)} {b : List Byte} : recordOnly s (writePieces l b t).2 := by
  induction l generalizing b t with
  | nil => exact h
  | cons x l ih => exact ih h.hbmWrite

/-! ### Rings -/

theorem recordOnly.evalDetector {p b : Nat} {real : Bool} : recordOnly s (evalDetector p b real t).2 := lowKept.evalDetector h (by decide)

theorem recordOnly.ringReserve {n producer units : Nat} : recordOnly s (ringReserve n producer units t).2 := by
  unfold Sys2Proof.Machine.ringReserve
  extract_lets r big full
  have hbig : recordOnly s big.2 := h.evalDetector
  have hfull : recordOnly s full.2 := hbig.evalDetector
  exact .ite_snd h (.ite_snd hbig.setSticky (.ite_snd hfull.setSticky hfull.frame))

theorem recordOnly.ringRewind {n start : Nat} : recordOnly s (ringRewind n start t) := h.frame

theorem recordOnly.wmEnter {n : Nat} {above : Bool} : recordOnly s (wmEnter n above t) := by
  unfold Sys2Proof.Machine.wmEnter
  extract_lets d u
  have hd : recordOnly s d.2 := h.evalDetector
  exact .ite hd.setSticky (recordOnly.setSticky hd.frame)

theorem recordOnly.evalAbove {n : Nat} : recordOnly s (evalAbove n t) := by
  unfold Sys2Proof.Machine.evalAbove
  extract_lets r u
  have hu : recordOnly s u := lowKept.refreshFco h.frame (by decide)
  exact .ite h (.ite hu.wmEnter hu)

/-! ### The Ledger -/

theorem recordOnly.setChain {l : List Word} {base : Nat} (hl : base + 8 * l.length ≤ 0x1000) :
    recordOnly s (setRegsFrom ldgPage base l t) := by
  induction l generalizing base t with
  | nil => exact h
  | cons w l ih =>
    rw [List.length_cons] at hl
    exact ih (h.setHigh (by decide) (by omega)) (by omega)

theorem recordOnly.ledgerEnter {q : LdgCommit} : recordOnly s (ledgerEnter q t) := by
  have hwords (n : Nat) (l : List Byte) : (wordsOf n l).length = n := by
    induction n generalizing l with
    | zero => rfl
    | succ n ih => simp [wordsOf, ih]
  unfold Sys2Proof.Machine.ledgerEnter
  extract_lets header hash chain trailer u v w x y hashed z
  have hv : recordOnly s v := recordOnly.writePieces h.writePieces
  have hw : recordOnly s w := hv.setChain (by rw [hwords]; decide)
  have hy : recordOnly s y := recordOnly.setHigh (hw.setHigh (by decide) (by decide)) (by decide) (by decide)
  exact recordOnly.setHigh hy.frame (by decide) (by decide)

theorem recordOnly.completeCommit {q : LdgCommit} : recordOnly s (completeCommit q t) := .ite h.frame h

theorem recordOnly.ckptCount : recordOnly s (ckptCount t) := by
  have hstart {u : State} (k : recordOnly s u) (reason m : Nat) : recordOnly s (ckptStart reason m u) :=
    k.frame.setHigh (by decide) (by decide)
  have htrigger {u : State} (k : recordOnly s u) (reason : Nat) : recordOnly s (ckptTrigger reason u) :=
    .ite k (.ite (hstart k.frame _ _) (recordOnly.frame (.ite k.frame (k.frame.setHigh (by decide) (by decide)))))
  exact .ite (htrigger h.frame 1) h

theorem recordOnly.commitRecord {q : LdgCommit} : recordOnly s (commitRecord q t).2 := by
  unfold Sys2Proof.Machine.commitRecord
  extract_lets w u r v
  have hw : recordOnly s w.2 := h.writePieces
  exact .ite_snd hw.ringRewind (.ite_snd hw.ledgerEnter.completeCommit.ckptCount hw.frame)

end

theorem recordOnly_emitRecord (ring producer rtype die : Nat) (payload : List Byte) (s : State) :
    recordOnly s (emitRecord ring producer rtype die payload s).2 := by
  have hreserved : recordOnly s (ringReserve ring producer (recordUnits payload.length) s).2 :=
    recordOnly.ringReserve (lowKept.refl _ _ s)
  unfold emitRecord
  dsimp only
  split
  · exact hreserved
  · exact hreserved
  · exact hreserved.commitRecord.evalAbove

end Sys2Proof.Machine
end

section
/-! PROOFS. The end of a gouge stroke: the weights it is loaded with, the stroke that leaves its lathe, its spectra, and what passes, fails
or is missing. -/

namespace Sys2Proof.Machine

/-! ## Weights that are read (R207, R212) -/

theorem linkShaped_linkWeights (f : Nat) (l : List Byte) : linkShaped (linkWeights f l) := by
  refine ⟨by simp [linkWeights], fun r hr => ?_⟩
  obtain ⟨b, -, rfl⟩ := List.mem_map.mp hr
  simp

theorem linkShaped_readWeights (w : WSet) (bank : Bool) (c g n l : Nat) (s : State) :
    ∀ x ∈ (readWeights w bank c g n l s).1, linkShaped x := by
  induction n generalizing l s with
  | zero => simp [readWeights]
  | succ n ih => exact List.forall_mem_cons.mpr ⟨linkShaped_linkWeights _ _, ih _ _⟩

theorem readOnly_readWeights (w : WSet) (bank : Bool) (c g n l : Nat) (s : State) : readOnly s (readWeights w bank c g n l s).2 := by
  induction n generalizing l s with
  | zero => exact readOnly_refl s
  | succ n ih => exact readOnly_trans (readOnly_hbmRead _ _ s) (ih _ _)

theorem readOnly_loadStroke (d : Nat) (k : Stroke) (s : State) : readOnly s (loadStroke d k s).2 := by
  unfold loadStroke
  split
  · exact readOnly_refl s
  · split
    · exact readOnly_refl s
    · exact readOnly_readWeights _ _ _ _ _ _ s

/-- An evaluation of a detector arms none. -/
theorem unarmed_takeArmed {p q : Nat} (b : Nat) {s : State} (h : unarmed s p) : unarmed (takeArmed q b s).2 p := by
  have hrest (a : Armed) (ha : a ∈ s.armed.filter (fun a => !decide (a.page = q ∧ a.bit = b))) : a.page ≠ p :=
    h a (List.mem_filter.mp ha).1
  unfold takeArmed
  split
  · exact h
  · rename_i x hx
    have hx' : x.page ≠ p := h x (List.mem_of_find?_eq_some hx)
    dsimp only
    split
    · exact hrest
    · exact h
    · split_ifs
      · exact hrest
      · exact hrest
      · exact List.forall_mem_cons.mpr ⟨hx', hrest⟩

/-- A read of HBM arms no detector. -/
theorem unarmed_hbmRead {p : Nat} (a n : Nat) {s : State} (h : unarmed s p) : unarmed (hbmRead a n s).2 p := by
  have hstep {u v : State} (hv : v.armed = u.armed) (hu : unarmed u p) : unarmed v p := by unfold unarmed; rwa [hv]
  have huncorr (l : List Nat) (u : State) (hu : unarmed u p) : unarmed (l.foldl (fun s w => reportUncorr (w * 32) s) u) p :=
    List.foldlRecOn (motive := fun u => unarmed u p) l _ hu fun v hv w _ =>
      hstep (keeps_setSticky (hpcPage (hpcOf (w * 32))) S.HPC_ECC_UNCORR v .armed (by decide)) hv
  unfold hbmRead
  split
  · exact h
  · split
    · exact h
    · have hserved : unarmed (countServed a n (stickyIf (touchesReserved a n || (takeArmed (hbmPage (stackOf a)) S.HBM_RESERVED_ACCESS s).1)
          (hbmPage (stackOf a)) S.HBM_RESERVED_ACCESS (takeArmed (hbmPage (stackOf a)) S.HBM_RESERVED_ACCESS s).2)) p :=
        hstep (keeps_stickyIf _ _ _ _ .armed (by decide)) (unarmed_takeArmed _ h)
      dsimp only
      split
      · exact hserved
      · exact huncorr _ _ hserved

theorem unarmed_loadStroke {p : Nat} (d : Nat) (k : Stroke) {s : State} (h : unarmed s p) : unarmed (loadStroke d k s).2 p := by
  have hread (w : WSet) (bank : Bool) (c g n l : Nat) (s : State) (h : unarmed s p) : unarmed (readWeights w bank c g n l s).2 p := by
    induction n generalizing l s with
    | zero => exact h
    | succ n ih => exact ih _ _ (unarmed_hbmRead _ _ h)
  unfold loadStroke
  split
  · exact h
  · split
    · exact h
    · exact hread _ _ _ _ _ _ _ h

/-- The weights of a gouge stroke once they are in a store. -/
def strokeWeights (d : Nat) (k : Stroke) (s : State) : List (List (List (Int × Int))) :=
  ((loadStroke d k s).1.gouge.bind (·.weights)).getD []

/-- Weights held by a stroke have their shape if it was checked, weights read by it always. -/
theorem linkShaped_strokeWeights {d : Nat} {k : Stroke} {g : GougeJob} {s : State} (hk : k.gouge = some g)
    (hg : (g.weights.getD []).all (fun w => decide (w.length = 32) && w.all (fun r => decide (r.length = 32))) = true) :
    ∀ w ∈ strokeWeights d k s, linkShaped w := by
  unfold strokeWeights loadStroke
  rw [hk]
  cases hw : g.weights with
  | some ws =>
    intro w hmem
    simpa [linkShaped] using List.all_eq_true.mp hg w (by simpa [hk, hw] using hmem)
  | none => simpa [hw] using linkShaped_readWeights _ _ _ _ _ _ s

/-! ## The stroke leaves its lathe (R164, R207) -/

/-- A gouge stroke `k` in front of a lathe, with its operands `h` at hand, that may end; behind it strokes `q` that hold their
weights. -/
structure GougeDue (s : State) (n : Nat) (k : Stroke) (q : List Stroke) (g : GougeJob) (h : BlankHalf) : Prop where
  front : (lathe s n).queue = k :: q
  stored : weightsStored q = true
  gouge : k.gouge = some g
  data : strokeData s (n / 68) k = some h
  running : latheHalted s n = false
  inService : pageRetired s (lthPage n) = false

/-- A lathe whose gouge stroke ends: its weights were read where they were not in a store, it has left the lathe, and its cycles are
counted. -/
def gougeTaken (n : Nat) (k : Stroke) (q : List Stroke) (cycles held stretched : Nat) (s : State) : State :=
  countK (lthPage n) R.LTH_CNT 6 stretched (countK (lthPage n) R.LTH_CNT 5 held (countK (lthPage n) R.LTH_CNT 4 cycles
    (frontGone n q (loadStroke (n / 68) k s).2)))

section Taken
variable (s : State) (n : Nat) (k : Stroke) (q : List Stroke) (cycles held stretched : Nat)

theorem changesOnly_gougeTaken : changesOnly [.sch, .regs] [lthPage n] (loadStroke (n / 68) k s).2
    (gougeTaken n k q cycles held stretched s) := by
  have hc (i c : Nat) (hi : i < 8) (u : State) : changesOnly [.sch, .regs] [lthPage n] u (countK (lthPage n) R.LTH_CNT i c u) :=
    (changesOnly_countK c u (by simp only [R.LTH_CNT]; omega)).mono (by decide) (by simp)
  exact (((changesOnly_frontGone.mono (by decide) (by simp)).trans (hc 4 _ (by decide) _)).trans (hc 5 _ (by decide) _)).trans
    (hc 6 _ (by decide) _)

/-- Beside the reads of the weights, only the lathe and the counters of its page change. -/
theorem gougeTaken_keeps : keeps [.sch, .regs, .armed, .events, .out] s (gougeTaken n k q cycles held stretched s) :=
  keeps_trans (keeps_mono (by decide) (readOnly_loadStroke (n / 68) k s).1) (keeps_mono (by decide) (changesOnly_gougeTaken ..).1)

theorem gougeTaken_reg {p off : Nat} (hp : p < 0x230) (ho : off < 0x1000)
    (hn : p ≠ lthPage n ∨ (off ≠ R.LTH_CNT + 8 * 4 ∧ off ≠ R.LTH_CNT + 8 * 5 ∧ off ≠ R.LTH_CNT + 8 * 6)) :
    reg (gougeTaken n k q cycles held stretched s) p off = reg s p off := by
  have hc (i c : Nat) (hi : 4 ≤ i ∧ i ≤ 6) (u : State) : reg (countK (lthPage n) R.LTH_CNT i c u) p off = reg u p off := by
    refine reg_setReg_ne _ u (regAddr_ne ho (by simp only [R.LTH_CNT]; omega) ?_)
    simp only [R.LTH_CNT] at hn ⊢; omega
  rw [gougeTaken, hc 6 _ (by decide), hc 5 _ (by decide), hc 4 _ (by decide)]
  exact (readOnly_loadStroke (n / 68) k s).2 p off hp ho

theorem gougeTaken_lathe : (lathe (gougeTaken n k q cycles held stretched s) n).queue = q := by
  simp [gougeTaken, frontGone]

theorem gougeTaken_schDie (d : Nat) : schDie (gougeTaken n k q cycles held stretched s) d = schDie s d := by
  have hsch := (readOnly_loadStroke (n / 68) k s).1 .sch (by decide)
  simp only [gougeTaken, schDie_countK, frontGone, schDie_setLathe]
  exact schDie_congr (congrArg SchState.dies hsch) d

theorem gougeTaken_unarmed {p : Nat} (h : unarmed s p) : unarmed (gougeTaken n k q cycles held stretched s) p := by
  have hsame := (changesOnly_gougeTaken s n k q cycles held stretched).same .armed (by decide)
  unfold unarmed
  rw [hsame]
  exact unarmed_loadStroke _ k h

/-- The GGE page is enabled or not as it was before the stroke left. -/
theorem gougeTaken_enabled (hn : n < 272) : flag (gougeTaken n k q cycles held stretched s) (ggePage (n / 68)) F.PAGE_CTRL_ENABLE =
    flag s (ggePage (n / 68)) F.PAGE_CTRL_ENABLE :=
  flag_of_reg (gougeTaken_reg _ _ _ _ _ _ _ (by simp only [ggePage]; omega) (by decide) (.inl (by simp only [ggePage, lthPage]; omega)))

end Taken

/-- Issue cycles of a gouge stroke (R205). -/
def gougeCost (s : State) (n : Nat) (k : Stroke) (g : GougeJob) (h : BlankHalf) : Nat :=
  h.count * (wsetOf s (n / 68) g.entry.wset).links * gougeCycles k.fmt

/-- The input blocks of a job's chain (R204). -/
def gougeBlocks (s : State) (n : Nat) (g : GougeJob) : List Nat :=
  (List.range (wsetOf s (n / 68) g.entry.wset).links).map (fun l => g.entry.block0 + l)

/-- The row sums of a stroke's spectra, with disturbances (R204, R206). -/
def gougeSpectra (fs : List BeamFault) (ws : List (List (List (Int × Int)))) (h : BlankHalf) (blocks : List Nat) :
    List (List (Int × Int)) :=
  (List.range h.count).map (fun t => disturb fs t (beamSums (ws.map withWitnessRow) (blocks.map (fun b => (h.block b).rows.getD t []))))

/-- The report of a gouge stroke whose first failing check is `e` of `count` (R208). -/
def gougeReport (e : Bool × Int) (count : Nat) : WitReport := ⟨1, 0, 0, e.1, min 132 count, 0, e.2⟩

/-- A stroke passes or fails by the checks of its spectra `ys` (R206, R208). -/
def gougeJudged (n : Nat) (k : Stroke) (g : GougeJob) (first : Nat) (ys : List (List (Int × Int))) (s : State) : State :=
  match (ys.flatMap beamChecks).head? with
  | none => gougePass n k g first ys s
  | some e => failStroke n k (gougeReport e (ys.flatMap beamChecks).length) (voltRan (n / 68) k g s)

section Due
variable {s : State} {n held stretched : Nat} {k : Stroke} {q : List Stroke} {g : GougeJob} {h : BlankHalf} {fs : List BeamFault}
  (due : GougeDue s n k q g h)
include due

theorem dropStroke_due : dropStroke n k (loadStroke (n / 68) k s).2 = frontGone n q (loadStroke (n / 68) k s).2 := by
  have hsch := (readOnly_loadStroke (n / 68) k s).1 .sch (by decide)
  have hq : (lathe (loadStroke (n / 68) k s).2 n).queue = k :: q := by
    rw [lathe_congr (congrArg SchState.lathes hsch), due.front]
  simp [dropStroke, fillStores, frontGone, hq, removeFirst, loadStrokes_stored due.stored]

/-- With the GGE page disabled the job of the stroke is missing (R225). -/
theorem gougeStroke_disabled (hn : n < 272) (hen : flag s (ggePage (n / 68)) F.PAGE_CTRL_ENABLE = false) :
    gougeStroke n fs held stretched s = finishBatches (n / 68)
      (gougeMissing (n / 68) k g h.first h.count (gougeTaken n k q (gougeCost s n k g h) held stretched s)) := by
  have hflag := (gougeTaken_enabled s n k q (gougeCost s n k g h) held stretched hn).trans hen
  unfold gougeTaken gougeCost at hflag
  unfold gougeStroke gougeTaken gougeCost
  simp only [due.front, gougeFront, due.gouge, Option.isSome_some, if_true, due.data, due.running, due.inService, Bool.or_self,
    Bool.false_eq_true, if_false, dropStroke_due due, hflag, Bool.not_false]

/-- With the page enabled, sound operands and no failure armed, the stroke passes or fails by its spectra (R206, R208). -/
theorem gougeStroke_checked (hn : n < 272) (hu : unarmed s (lthPage n)) (hen : flag s (ggePage (n / 68)) F.PAGE_CTRL_ENABLE = true)
    (hb : dataBad h (gougeBlocks s n g) = 0) :
    gougeStroke n fs held stretched s = finishBatches (n / 68)
      (gougeJudged n k g h.first (gougeSpectra fs (strokeWeights (n / 68) k s) h (gougeBlocks s n g))
        (gougeTaken n k q (gougeCost s n k g h) held stretched s)) := by
  have hflag := (gougeTaken_enabled s n k q (gougeCost s n k g h) held stretched hn).trans hen
  have harm := takeArmed_unarmed S.LTH_WIT_FAIL (gougeTaken_unarmed s n k q (gougeCost s n k g h) held stretched hu)
  unfold gougeTaken gougeCost at hflag harm
  unfold gougeBlocks at hb
  unfold gougeStroke gougeTaken gougeCost gougeSpectra gougeBlocks strokeWeights
  simp only [due.front, gougeFront, due.gouge, Option.isSome_some, if_true, due.data, due.running, due.inService, Bool.or_self,
    Bool.false_eq_true, if_false, dropStroke_due due, hflag, Bool.not_true, hb, ne_eq, not_true_eq_false, harm]
  rfl

theorem gougeStroke_passing (hn : n < 272) (hu : unarmed s (lthPage n)) (hen : flag s (ggePage (n / 68)) F.PAGE_CTRL_ENABLE = true)
    (hb : dataBad h (gougeBlocks s n g) = 0)
    (hpass : (gougeSpectra fs (strokeWeights (n / 68) k s) h (gougeBlocks s n g)).flatMap beamChecks = []) :
    gougeStroke n fs held stretched s = finishBatches (n / 68) (gougePass n k g h.first
      (gougeSpectra fs (strokeWeights (n / 68) k s) h (gougeBlocks s n g)) (gougeTaken n k q (gougeCost s n k g h) held stretched s)) := by
  rw [gougeStroke_checked due hn hu hen hb, gougeJudged]
  simp only [hpass, List.head?_nil]

theorem gougeStroke_failing {e : Bool × Int} (hn : n < 272) (hu : unarmed s (lthPage n))
    (hen : flag s (ggePage (n / 68)) F.PAGE_CTRL_ENABLE = true) (hb : dataBad h (gougeBlocks s n g) = 0)
    (hfail : (gougeSpectra fs (strokeWeights (n / 68) k s) h (gougeBlocks s n g)).flatMap beamChecks = [e]) :
    gougeStroke n fs held stretched s = finishBatches (n / 68) (failStroke n k (gougeReport e 1)
      (voltRan (n / 68) k g (gougeTaken n k q (gougeCost s n k g h) held stretched s))) := by
  rw [gougeStroke_checked due hn hu hen hb, gougeJudged]
  simp only [hfail, List.head?_cons, List.length_singleton]

end Due

/-! ## Spectra that pass and spectra that fail (R206) -/

theorem gougeSpectra_sound {ws : List (List (List (Int × Int)))} (hws : ∀ w ∈ ws, linkShaped w) (h : BlankHalf) (blocks : List Nat) :
    (gougeSpectra [] ws h blocks).flatMap beamChecks = [] := by
  rw [gougeSpectra, List.flatMap_map, List.flatMap_eq_nil_iff]
  exact fun t _ => beamChecks_balanced (beamSums_balanced hws _).2

/-- A disturbance of one row of the first spectrum is the one failing check of the stroke. -/
theorem gougeSpectra_disturbed {ws : List (List (List (Int × Int)))} (hws : ∀ w ∈ ws, linkShaped w) {h : BlankHalf} (hc : 0 < h.count)
    (blocks : List Nat) {row : Nat} (hrow : row < 33) (im : Bool) {add : Int} (ha : add ≠ 0) :
    (gougeSpectra [⟨0, row, im, add⟩] ws h blocks).flatMap beamChecks = [(im, lineChange row add)] := by
  rw [gougeSpectra, List.flatMap_map, flatMap_range_single hc]
  · obtain ⟨hlen, hbal⟩ := beamSums_balanced hws (blocks.map (fun b => (h.block b).rows.getD 0 []))
    exact beamChecks_disturb hlen hbal hrow 0 im ha
  · intro t _ ht
    have hother (y : List (Int × Int)) : disturb [⟨0, row, im, add⟩] t y = y := by simp [disturb, Ne.symm ht]
    rw [hother]
    exact beamChecks_balanced (beamSums_balanced hws _).2

/-! ## A stroke that passes (R206, R215 to R219) -/

/-- Where no detector is set up, none takes a job. -/
theorem detectorsTake_idle {d : Nat} {j : BeamJob} {l : List (Nat × SpectrumPowers)} {s : State} (hd : s.gge.dets = []) :
    detectorsTake d j l s = s := by
  have hidle (i : Nat) : (detOf s d i).watches j = false := by
    have hdet : detOf s d i = {} := by unfold detOf; rw [hd]; rfl
    rw [hdet]; rfl
  refine List.foldlRecOn (motive := (· = s)) _ _ rfl fun u hu i _ => ?_
  subst hu
  simp [hidle]

/-- A stroke that passes for an entry without records, where no detector is set up, is counted, with its clamps. -/
theorem gougePass_plain {n first : Nat} {k : Stroke} {g : GougeJob} {ys : List (List (Int × Int))} {s : State}
    (hvolt : g.entry.voltEn = false) (hpower : g.entry.powerEn = false) (hdets : s.gge.dets = []) :
    ∃ c, gougePass n k g first ys s =
      noteClamps (n / 68) c (countK (lthPage n) R.LTH_CNT 1 1 (countK (ggePage (n / 68)) R.GGE_CNT 0 1 s)) := by
  refine ⟨clampSum (beamsOf (wsetOf s (n / 68) g.entry.wset).shift 32767 ys), ?_⟩
  have hgge (c : Nat) (u : State) : (noteClamps (n / 68) c u).gge = u.gge := by
    unfold noteClamps
    split
    · rfl
    · exact keeps_setSticky _ _ u .gge (by decide)
  unfold gougePass voltTake beamTake beamJob
  simp only [hvolt, hpower, Bool.false_and, Bool.not_false, Bool.false_eq_true, if_true, if_false]
  exact detectorsTake_idle (by rw [hgge]; exact hdets)

/-- Clamps are counted and flagged in the GGE page alone. -/
theorem noteClamps_frame (d c : Nat) (s : State) : keeps [.regs, .out, .events] s (noteClamps d c s) ∧
    ∀ p off, p < 0x230 → off < 0x1000 → off ≠ R.STICKY → off ≠ R.GGE_CNT + 8 * 2 → reg (noteClamps d c s) p off = reg s p off := by
  unfold noteClamps
  split
  · exact ⟨keeps_refl _ s, fun _ _ _ _ _ _ => rfl⟩
  · refine ⟨keeps_trans (keeps_setSticky _ _ s) (keeps_mono (by decide) (keeps_countK _ _ _ _ _)), fun p off hp ho hs hc => ?_⟩
    exact (reg_setReg_ne _ _ (regAddr_ne ho (by decide) (.inr hc))).trans
      (reg_setSticky s (by simp only [pulseReg]; omega) ho (.inr hs))

/-- A stroke that passes for an entry without records, where no detector is set up, counts on its lathe and its GGE page. -/
theorem gougePass_counted {n first : Nat} {k : Stroke} {g : GougeJob} (ys : List (List (Int × Int))) {s : State} (hn : n < 272)
    (hvolt : g.entry.voltEn = false) (hpower : g.entry.powerEn = false) (hdets : s.gge.dets = []) :
    counted s (gougePass n k g first ys s) (lthPage n) R.LTH_CNT 1 1 ∧
      counted s (gougePass n k g first ys s) (ggePage (n / 68)) R.GGE_CNT 0 1 ∧
      keeps [.regs, .out, .events] s (gougePass n k g first ys s) := by
  obtain ⟨c, hc⟩ := gougePass_plain (n := n) (first := first) (k := k) (ys := ys) hvolt hpower hdets
  have hne : lthPage n ≠ ggePage (n / 68) := by simp only [lthPage, ggePage]; omega
  have hlth : lthPage n < 0x230 := by simp only [lthPage]; omega
  have hgge : ggePage (n / 68) < 0x230 := by simp only [ggePage]; omega
  rw [hc]
  obtain ⟨hck, hcr⟩ := noteClamps_frame (n / 68) c (countK (lthPage n) R.LTH_CNT 1 1 (countK (ggePage (n / 68)) R.GGE_CNT 0 1 s))
  have hcount : keeps [.regs, .out, .events] s (countK (lthPage n) R.LTH_CNT 1 1 (countK (ggePage (n / 68)) R.GGE_CNT 0 1 s)) :=
    keeps_mono (by decide) (keeps_trans (keeps_countK (ggePage (n / 68)) _ _ _ s) (keeps_countK (lthPage n) _ _ _ _))
  refine ⟨?_, ?_, keeps_trans hcount hck⟩
  · exact counted_congr (counted_of_eq (counted_countK _ _ _ _ _) (reg_countK_page 1 s hne (by decide) (by decide)))
      (hcr _ _ hlth (by decide) (by decide) (by decide))
  · exact counted_congr (counted_congr (counted_countK _ _ _ _ _) (reg_countK_page 1 _ hne.symm (by decide) (by decide)))
      (hcr _ _ hgge (by decide) (by decide) (by decide))

/-! ## A stroke that fails (R175, R177, R208) -/

section Report
variable {n : Nat} {k : Stroke} {w : WitReport} {s : State}

/-- The report of a stroke of either kind touches the page of its lathe, a free value, and what its sticky bit pulses. -/
theorem changesOnly_failReported : changesOnly [.free, .regs, .out, .events] [lthPage n] s (failReported n k w s) :=
  (((changesOnly_setSticky _ _ s).mono (by decide) (by simp)).trans ((changesOnly_loadWit n k w _).mono (by decide) (by simp))).trans
    ((changesOnly_countK 1 _ (by decide)).mono (by decide) (by simp))

/-- What the report of a failed stroke of either kind shows in the page of its lathe. -/
structure FailShown (n : Nat) (w : WitReport) (s t : State) : Prop where
  sticky : stuck t (lthPage n) S.LTH_WIT_FAIL
  missed : counted s t (lthPage n) R.LTH_CNT 2 1
  fail : reg t (lthPage n) R.LTH_WIT_FAIL = witFailWord w
  mask : reg t (lthPage n) R.LTH_WIT_MASK = BitVec.ofNat 64 w.mask
  diff : reg t (lthPage n) R.LTH_WIT_DIFF = BitVec.ofInt 64 w.diff

/-- What is shown rests on the registers of the page, the retry count apart. -/
theorem FailShown.congr {t u : State} (f : FailShown n w s t)
    (hr : ∀ off, off < 0x1000 → off ≠ R.RETRY_COUNT → reg u (lthPage n) off = reg t (lthPage n) off) : FailShown n w s u where
  sticky := by unfold stuck; rw [hr _ (by decide) (by decide)]; exact f.sticky
  missed := counted_congr f.missed (hr _ (by decide) (by decide))
  fail := (hr _ (by decide) (by decide)).trans f.fail
  mask := (hr _ (by decide) (by decide)).trans f.mask
  diff := (hr _ (by decide) (by decide)).trans f.diff

theorem failShown_reported (hn : n < 272) : FailShown n w s (failReported n k w s) := by
  obtain ⟨hstuck, hpage⟩ := setSticky_page (s := s) (lthPage_plain hn) (by decide : S.LTH_WIT_FAIL < 64)
  obtain ⟨hfail, hmask, hdiff, hrest⟩ := loadWit_reads n k w (setSticky (lthPage n) S.LTH_WIT_FAIL s)
  have hoff {off : Nat} (ho : off < 0x1000) (hne : off ≠ R.LTH_CNT + 8 * 2) : reg (failReported n k w s) (lthPage n) off =
      reg (loadWit n k w (setSticky (lthPage n) S.LTH_WIT_FAIL s)) (lthPage n) off := reg_countK_off _ _ ho (by decide) hne
  exact
    { sticky := by unfold stuck; rw [hoff (by decide) (by decide), hrest _ (by decide) (by decide)]; exact hstuck
      missed := counted_of_eq (counted_countK _ _ _ _ _) ((hrest _ (by decide) (by decide)).trans (hpage _ (by decide) (by decide)))
      fail := (hoff (by decide) (by decide)).trans hfail
      mask := (hoff (by decide) (by decide)).trans hmask
      diff := (hoff (by decide) (by decide)).trans hdiff }

/-- The report leaves the settings of the retry window. -/
theorem failReported_retryCfg (hn : n < 272) :
    reg (failReported n k w s) (lthPage n) R.RETRY_CFG = reg s (lthPage n) R.RETRY_CFG := by
  obtain ⟨-, -, -, hrest⟩ := loadWit_reads n k w (setSticky (lthPage n) S.LTH_WIT_FAIL s)
  rw [failReported, reg_countK_off _ _ (by decide) (by decide) (by decide), hrest _ (by decide) (by decide)]
  exact (setSticky_page (lthPage_plain hn) (by decide)).2 _ (by decide) (by decide)

end Report

/-- A failed gouge stroke of an entry without records, where no detector is set up, below the retry threshold: reported, counted missing,
counted toward retry. -/
theorem failStroke_gouge {n : Nat} {k : Stroke} {g : GougeJob} {w : WitReport} {s : State} (hn : n < 272) (hk : k.gouge = some g)
    (hvolt : g.entry.voltEn = false) (hpower : g.entry.powerEn = false) (hdets : s.gge.dets = []) (hw : w.cause ≠ 3)
    (hr : (countRetry (lthPage n) s).2 = false) :
    FailShown n w s (failStroke n k w s) ∧ counted s (failStroke n k w s) (ggePage (n / 68)) R.GGE_CNT 1 1 ∧
      keeps [.free, .retry, .regs, .out, .events] s (failStroke n k w s) := by
  have hpages : ggePage (n / 68) ≠ lthPage n := by simp only [ggePage, lthPage]; omega
  have hplain : ¬ eventPage (ggePage (n / 68)) := eventPage_high (by simp only [ggePage]; omega)
  have hrep := changesOnly_failReported (n := n) (k := k) (w := w) (s := s)
  have hmiss : missStroke (n / 68) k true (failReported n k w s) = countK (ggePage (n / 68)) R.GGE_CNT 1 1 (failReported n k w s) := by
    unfold missStroke
    rw [hk]
    exact gougeMissing_plain hvolt hpower ((congrArg GgeState.dets (hrep.same .gge (by decide))).trans hdets)
  have hto := keeps_trans (keeps_mono (by decide) hrep.1) (keeps_mono (by decide) (keeps_countK (ggePage (n / 68)) R.GGE_CNT 1 1 _)) (l :=
    [.free, .regs, .out, .events])
  have hreg {off : Nat} (ho : off < 0x1000) : reg (countK (ggePage (n / 68)) R.GGE_CNT 1 1 (failReported n k w s)) (lthPage n) off =
      reg (failReported n k w s) (lthPage n) off := reg_countK_page _ _ hpages.symm (by decide) ho
  have hlow : (countRetry (lthPage n) (countK (ggePage (n / 68)) R.GGE_CNT 1 1 (failReported n k w s))).2 = false := by
    rw [countRetry_congr (hto .retry (by decide)).1 (hto .retry (by decide)).2 (hto .dev (by decide))
      ((hreg (by decide)).trans (failReported_retryCfg hn)), hr]
  obtain ⟨hck, hcs, hcr⟩ := countRetry_below hlow
  have heq : failStroke n k w s = (countRetry (lthPage n) (countK (ggePage (n / 68)) R.GGE_CNT 1 1 (failReported n k w s))).1 := by
    have hdef : failStroke n k w s =
        (let r := countRetry (lthPage n) (missStroke (n / 68) k true (failReported n k w s))
         if r.2 && !pageRetired r.1 (lthPage n) then retireLathe n r.1 else r.1) := by
      unfold failStroke failReported; simp only [if_neg hw]
    simp [hdef, hmiss, hlow]
  rw [heq]
  refine ⟨(failShown_reported hn).congr (fun off ho hne => (hcr off ho hne).trans (hreg ho)), ?_,
    keeps_trans (keeps_mono (by decide) hto) (keeps_mono (by decide) hck)⟩
  exact counted_congr (counted_of_eq (counted_countK _ _ _ _ _) (hrep.reg (by simpa using hpages) hplain (by decide)))
    (hcs _ _ (by simpa using hpages) hplain (by decide))

/-! ## What a gouge stroke shows -/

/-- A gouge stroke that ended: it has left its lathe, and beams, memory, Tally and rings are as before. -/
structure StrokeEnded (n : Nat) (q : List Stroke) (s t : State) : Prop where
  queue : (lathe t n).queue = q
  gge : t.gge = s.gge
  mem : t.mem = s.mem
  tly : t.tly = s.tly
  rng : t.rng = s.rng

section Shown
variable {s t : State} {n : Nat} {k : Stroke} {q : List Stroke} {cycles held stretched : Nat}

/-- What a stroke that left its lathe counts and reports leaves it ended, with the refresh of the outputs. -/
theorem strokeEnded_taken (h : keeps [.free, .retry, .regs, .out, .events] (gougeTaken n k q cycles held stretched s) t) :
    StrokeEnded n q s (refreshPins t) := by
  have hp := keeps_trans (keeps_mono (by decide) h) (keeps_mono (by decide) (pinsOnly_refreshPins t).1)
    (l := [.free, .retry, .regs, .armed, .out, .events, .pins, .spr, .chs])
  have hs := gougeTaken_keeps s n k q cycles held stretched
  exact
    { queue := by rw [lathe_congr (congrArg SchState.lathes (hp .sch (by decide))), gougeTaken_lathe]
      gge := (hp .gge (by decide)).trans (hs .gge (by decide))
      mem := (hp .mem (by decide)).trans (hs .mem (by decide))
      tly := (hp .tly (by decide)).trans (hs .tly (by decide))
      rng := (hp .rng (by decide)).trans (hs .rng (by decide)) }

/-- A register of a low page is shown as it is. -/
theorem reg_shown {p off : Nat} (hp : p < 0x230) (ho : off < 0x1000) : reg (refreshPins t) p off = reg t p off :=
  (pinsOnly_refreshPins t).reg hp ho (by simp)

/-- A counter that the leaving of the stroke does not touch counts over the whole stroke. -/
theorem counted_taken {p base i c : Nat} (h : counted (gougeTaken n k q cycles held stretched s) t p base i c) (hp : p < 0x230)
    (ho : base + 8 * i < 0x1000) (hn : p ≠ lthPage n ∨
      (base + 8 * i ≠ R.LTH_CNT + 8 * 4 ∧ base + 8 * i ≠ R.LTH_CNT + 8 * 5 ∧ base + 8 * i ≠ R.LTH_CNT + 8 * 6)) :
    counted s (refreshPins t) p base i c :=
  counted_congr (counted_of_eq h (gougeTaken_reg s n k q cycles held stretched hp ho hn)) (reg_shown hp ho)

end Shown

/-- A lathe without a stroke, or halted, does nothing. -/
theorem gougeStroke_idle {s : State} {n held stretched : Nat} {fs : List BeamFault}
    (h : (lathe s n).queue = [] ∨ latheHalted s n = true) :
    gougeStroke n fs held stretched s = s := by
  unfold gougeStroke
  rcases h with h | h
  · simp only [h, gougeFront]
  · dsimp only
    split
    · rfl
    · split
      · rw [h, Bool.true_or, if_pos rfl]
      · rfl

/-- Settles O33. A stroke that leaves its lathe touches only its lathe and page; then a passing spectrum counts and hands on, a failing one
goes the way of every failed stroke, and a disabled page makes the job missing. -/
theorem gougeStrokes : Obligations.GougeStrokes := by
  unfold Obligations.GougeStrokes
  have hlow {n : Nat} (hn : n < 272) : lthPage n < 0x230 ∧ ggePage (n / 68) < 0x230 ∧ ggePage (n / 68) ≠ lthPage n := by
    simp only [lthPage, ggePage]; omega
  refine ⟨?passes, ?handsOn, ?fails, ?disabled, ?idle⟩
  case passes =>
    intro s n held stretched k q g h hn hu hq hw hk hd hh hr hen hb hshape hvolt hpower hdets hl _
    obtain ⟨hlth, hgge, hne⟩ := hlow hn
    have hkept := gougeTaken_keeps s n k q (gougeCost s n k g h) held stretched
    have he := gougeStroke_passing (held := held) (stretched := stretched) (fs := []) ⟨hq, hw, hk, hd, hh, hr⟩ hn hu hen hb
      (gougeSpectra_sound (linkShaped_strokeWeights hk hshape) _ _)
    obtain ⟨hpassed, htotal, hpk⟩ := gougePass_counted (first := h.first) (k := k)
      (gougeSpectra [] (strokeWeights (n / 68) k s) h (gougeBlocks s n g)) hn hvolt hpower
      ((congrArg GgeState.dets (hkept .gge (by decide))).trans hdets)
    rw [finishBatches_unloaded (by
      rw [schDie_congr (congrArg SchState.dies (hpk .sch (by decide))), gougeTaken_schDie, hl])] at he
    obtain ⟨hqueue, hbeams, hmem, htly, hrng⟩ := strokeEnded_taken (keeps_mono (by decide) hpk)
    refine ⟨_, rfl, ?_⟩
    rw [he]
    exact ⟨hqueue, counted_taken hpassed hlth (by decide) (.inr (by decide)), counted_taken htotal hgge (by decide) (.inl hne),
      hbeams, hmem, htly, hrng⟩
  case handsOn =>
    intro s n held stretched fs k q g h l ws ys hn hu hq hw hk hd hh hr hen hb hl hws hys hpass
    subst hl hws hys
    refine ⟨_, rfl, gougeTaken n k q (gougeCost s n k g h) held stretched s, ?_, gougeTaken_lathe .., changesOnly_gougeTaken ..⟩
    exact congrArg refreshPins (gougeStroke_passing ⟨hq, hw, hk, hd, hh, hr⟩ hn hu hen hb hpass)
  case fails =>
    intro s n held stretched row im add k q g h hn hu hq hw hk hd hh hr hen hb hshape hvolt hpower hdets hl hretry _ hcount hrow hadd
    obtain ⟨hlth, hgge, hne⟩ := hlow hn
    have hkept := gougeTaken_keeps s n k q (gougeCost s n k g h) held stretched
    have he := gougeStroke_failing (held := held) (stretched := stretched) ⟨hq, hw, hk, hd, hh, hr⟩ hn hu hen hb
      (gougeSpectra_disturbed (linkShaped_strokeWeights hk hshape) hcount _ (row := row) (by omega) im hadd)
    have hlow : (countRetry (lthPage n) (gougeTaken n k q (gougeCost s n k g h) held stretched s)).2 = false := by
      rw [countRetry_congr (hkept .retry (by decide)).1 (hkept .retry (by decide)).2 (hkept .dev (by decide))
        (gougeTaken_reg _ _ _ _ _ _ _ hlth (by decide) (.inr (by decide))), hretry]
    obtain ⟨f, hmissed, hfk⟩ := failStroke_gouge (w := gougeReport (im, lineChange row add) 1) hn hk hvolt hpower
      ((congrArg GgeState.dets (hkept .gge (by decide))).trans hdets) (show 1 ≠ 3 by decide) hlow
    have hvolts (u : State) : voltRan (n / 68) k g u = u := by unfold voltRan; rw [hvolt]; rfl
    rw [hvolts, finishBatches_unloaded (by
      rw [schDie_congr (congrArg SchState.dies (hfk .sch (by decide))), gougeTaken_schDie, hl])] at he
    obtain ⟨hqueue, hbeams, hmem, htly, hrng⟩ := strokeEnded_taken hfk
    refine ⟨_, rfl, ?_⟩
    rw [he]
    refine ⟨hqueue, ?_, counted_taken f.missed hlth (by decide) (.inr (by decide)), counted_taken hmissed hgge (by decide) (.inl hne),
      ?_, ?_, ?_, hbeams, hmem, htly, hrng⟩
    · unfold stuck; rw [reg_shown hlth (by decide)]; exact f.sticky
    · rw [reg_shown hlth (by decide), f.fail]; simp [witFailWord, gougeReport]
    · rw [reg_shown hlth (by decide), f.mask]; rfl
    · rw [reg_shown hlth (by decide), f.diff]; simp [gougeReport, lineChange, hrow]
  case disabled =>
    intro s n held stretched fs k q g h hn hq hw hk hd hh hr hen hvolt hpower hdets hl
    obtain ⟨hlth, hgge, hne⟩ := hlow hn
    have hkept := gougeTaken_keeps s n k q (gougeCost s n k g h) held stretched
    have he := gougeStroke_disabled (held := held) (stretched := stretched) (fs := fs) ⟨hq, hw, hk, hd, hh, hr⟩ hn hen
    rw [gougeMissing_plain hvolt hpower ((congrArg GgeState.dets (hkept .gge (by decide))).trans hdets),
      finishBatches_unloaded (by rw [schDie_countK, gougeTaken_schDie, hl])] at he
    obtain ⟨hqueue, hbeams, hmem, htly, hrng⟩ := strokeEnded_taken (n := n) (k := k) (q := q) (cycles := gougeCost s n k g h)
      (held := held) (stretched := stretched) (s := s) (keeps_mono (by decide) (keeps_countK (ggePage (n / 68)) R.GGE_CNT 1 1 _))
    refine ⟨_, rfl, ?_⟩
    rw [he]
    refine ⟨hqueue, counted_taken (counted_countK _ _ _ _ _) hgge (by decide) (.inl hne), ?_, hbeams, hmem, htly, hrng⟩
    rw [reg_shown hlth (by decide), reg_countK_page _ _ hne.symm (by decide) (by decide)]
    exact gougeTaken_reg _ _ _ _ _ _ _ hlth (by decide) (.inr (by decide))
  case idle =>
    intro s n held stretched fs hidle
    exact ⟨_, rfl, congrArg refreshPins (gougeStroke_idle hidle)⟩

end Sys2Proof.Machine
end

section
/-! PROOFS. Evaluations, acknowledgements, reads and writes of a detector. -/

namespace Sys2Proof.Machine

/-! ## The detectors of a C-die -/

@[simp] theorem detOf_setDet_same (d i : Nat) (x : Detector) (s : State) : detOf (setDet d i x s) d i = x := by
  unfold detOf setDet alGet alSet; exact sparseGet_set_self _ _ _ _

theorem detOf_setDet_ne {i j : Nat} (d : Nat) (x : Detector) (s : State) (h : j ≠ i) : detOf (setDet d i x s) d j = detOf s d j := by
  unfold detOf setDet alGet alSet; exact sparseGet_set_ne _ _ _ (by omega)

theorem detOf_congr {s t : State} (h : t.gge.dets = s.gge.dets) (d i : Nat) : detOf t d i = detOf s d i := by unfold detOf; rw [h]

theorem keeps_setDet (d i : Nat) (x : Detector) (s : State) : keeps [.gge] s (setDet d i x s) := by
  intro y hy; cases y <;> simp_all [same, setDet]

/-- Detector `i` of C-die `d` has become `x`; the other detectors, the weight sets and the schedulers are as before. -/
structure DetSet (d i : Nat) (x : Detector) (s t : State) : Prop where
  det : detOf t d i = x
  others : ∀ j, j ≠ i → detOf t d j = detOf s d j
  wsets : t.gge.wsets = s.gge.wsets
  sch : t.sch = s.sch

theorem detSet_setDet (d i : Nat) (x : Detector) (s : State) : DetSet d i x s (setDet d i x s) :=
  ⟨detOf_setDet_same d i x s, fun _ h => detOf_setDet_ne d x s h, rfl, rfl⟩

/-- What leaves detectors, weight sets and schedulers alone leaves the change of a detector. -/
theorem DetSet.kept {d i : Nat} {x : Detector} {s t u : State} {L : List Part} (h : DetSet d i x s t) (k : keeps L t u)
    (hL : Part.gge ∉ L ∧ Part.sch ∉ L) : DetSet d i x s u := by
  have hgge : u.gge = t.gge := k .gge hL.1
  have hdets (j : Nat) : detOf u d j = detOf t d j := detOf_congr (congrArg _ hgge) d j
  exact ⟨(hdets i).trans h.det, fun j hj => (hdets j).trans (h.others j hj), (congrArg _ hgge).trans h.wsets, (k .sch hL.2).trans h.sch⟩

/-- The change of a detector rests on detectors, weight sets and schedulers alone. -/
theorem DetSet.since {d i : Nat} {x : Detector} {s t u : State} {L : List Part} (k : keeps L s t) (h : DetSet d i x t u)
    (hL : Part.gge ∉ L ∧ Part.sch ∉ L) : DetSet d i x s u := by
  have hgge : t.gge = s.gge := k .gge hL.1
  exact ⟨h.det, fun j hj => (h.others j hj).trans (detOf_congr (congrArg _ hgge) d j), h.wsets.trans (congrArg _ hgge),
    h.sch.trans (k .sch hL.2)⟩

/-! ## The window of a detector (R219, R220) -/

/-- Ticks that an order lets go leave the place of a later one. -/
theorem tickPut_filter {y : DetTick} {n : Nat} (hy : n ≤ y.tick) (l : List DetTick) :
    tickPut y (l.filter (fun x => decide (n ≤ x.tick))) = (tickPut y l).filter (fun x => decide (n ≤ x.tick)) := by
  induction l with
  | nil => simp [tickPut, hy]
  | cons x l ih =>
    rw [tickPut]
    by_cases hx : n ≤ x.tick
    · rw [List.filter_cons_of_pos (by simpa using hx), tickPut, ih]
      split
      · simp [hy, hx]
      · split <;> simp [hx]
    · rw [List.filter_cons_of_neg (by simpa using hx), if_neg (by omega), if_neg (by omega),
        List.filter_cons_of_neg (by simpa using hx), ih]

/-- A detector at the evaluation of its tick `k`: ticks before its window are let go, and the tick stands in it. -/
def Detector.ticked (x : Detector) (k : Nat) : Detector :=
  { x with ticks := tickPut ⟨k, 0, 0⟩ (x.ticks.filter (fun y => decide (k < y.tick + x.units))), next := some (k + 1) }

/-- Ticks before a window do not show in it. -/
theorem window_ticked (x : Detector) (k : Nat) : window (x.ticked k) k = window { x with ticks := tickPut ⟨k, 0, 0⟩ x.ticks } k := by
  have hunits (a : Nat) : (k < a + x.units) = (k + 1 - x.units ≤ a) := by
    apply propext; unfold Detector.units; omega
  have hticks : (x.ticked k).ticks = (tickPut ⟨k, 0, 0⟩ x.ticks).filter (fun y => decide (k + 1 - x.units ≤ y.tick)) := by
    rw [← tickPut_filter (by simp only [Detector.units]; omega)]
    simp only [Detector.ticked, hunits]
  have hwindow : (x.ticked k).ticks.filter (fun t => decide (k < t.tick + x.units ∧ t.tick ≤ k)) =
      (tickPut ⟨k, 0, 0⟩ x.ticks).filter (fun t => decide (k < t.tick + x.units ∧ t.tick ≤ k)) := by
    rw [hticks, List.filter_filter]
    refine List.filter_congr fun t _ => ?_
    simp only [hunits, Bool.decide_and]
    cases decide (k + 1 - x.units ≤ t.tick) <;> simp
  have hunits' : (x.ticked k).units = x.units := rfl
  unfold window
  rw [hunits', hwindow]
  rfl

/-! ## Evaluations (R220, R221) -/

/-- A detector whose next tick `k` is due: it is on, its page is live, its strokes have ended, and no failure is armed. -/
structure TickDue (s : State) (d i k : Nat) (x : Detector) : Prop where
  det : detOf s d i = x
  next : x.next = some k
  on : x.st ≠ 0
  live : pageLive s (ggePage d) = true
  ended : strokesEnded s d (k * 256 / max 1 (regionT s d x.region)) x = true
  unarmed : unarmed s (ggePage d)

/-- The state after a move of a detector, shown and counted. -/
def detMoved (d i sum : Nat) (x : Detector) (s : State) : State :=
  showDet d i sum (countK (ggePage d) R.GGE_CNT 3 1 (setDet d i x s))

section Due
variable {s : State} {d i k : Nat} {x : Detector} (due : TickDue s d i k x)
include due

/-- An evaluation with missing spectra is skipped. -/
theorem detEvaluate_skipped (hm : (window (x.ticked k) k).2.1 = true) :
    detEvaluate d i s = countK (ggePage d) R.GGE_CNT 4 1 (setSticky (ggePage d) S.GGE_DET_SKIP (setDet d i (x.ticked k) s)) := by
  unfold Detector.ticked at hm ⊢
  unfold detEvaluate
  simp only [due.det, due.next, due.on, due.live, due.ended, takeArmed_unarmed _ due.unarmed, hm, decide_false, Bool.not_true,
    Bool.or_self, Bool.or_false, Bool.false_eq_true, if_false, if_true]

/-- An evaluation with a whole window moves the detector; a move into or out of ALARM leaves a record. -/
theorem detEvaluate_whole {sum : Nat} (hw : window (x.ticked k) k = (sum, false, true)) :
    detEvaluate d i s =
      let m := detMove (x.ticked k) sum
      let u := detMoved d i sum m.1 s
      if m.2 then
        let v := detRecord d i (if x.st = 1 then 2 else x.st) m.1.st (k * 256 + 255) (x.ticked k) sum u
        if m.1.st = 3 then setSticky (ggePage d) (32 + i) v else v
      else u := by
  unfold Detector.ticked at hw ⊢
  unfold detEvaluate detMoved
  simp only [due.det, due.next, due.on, due.live, due.ended, takeArmed_unarmed _ due.unarmed, hw, decide_false, Bool.not_true,
    Bool.or_self, Bool.and_false, Bool.false_eq_true, if_false]

end Due

/-- The table of R221. -/
theorem detMove_st (x : Detector) (sum : Nat) : (detMove x sum).1.st =
    if x.st = 3 then (if sum < x.offLevel ∧ x.minOn ≤ x.evals + 1 ∧ (x.latch = false ∨ x.acked = true) then 2 else 3)
    else if x.onLevel ≤ sum then 3 else 2 := by
  unfold detMove
  by_cases h : x.st = 3
  · rw [if_pos h, if_pos h]
    change (if sum < x.offLevel ∧ x.minOn ≤ x.evals + 1 ∧ (x.latch = false ∨ x.acked = true) then _ else _ : Detector × Bool).1.st = _
    split
    · rfl
    · exact h
  · rw [if_neg h, if_neg h]
    split <;> rfl

theorem detMove_next (x : Detector) (sum : Nat) : (detMove x sum).1.next = x.next := by
  unfold detMove
  dsimp only
  split_ifs <;> rfl

/-- A detector that enters ALARM has moved. -/
theorem detMove_alarm {x : Detector} {sum : Nat} (h : x.st ≠ 3) (ha : (detMove x sum).1.st = 3) : (detMove x sum).2 = true := by
  unfold detMove at ha ⊢
  rw [if_neg h] at ha ⊢
  split at ha
  · rw [if_pos ‹_›]
  · simp at ha

/-! ## Records of moves (R217, R218) -/

/-- What a beam record may touch beside the rings, the Ledger and HBM: sticky bits and the counts of records of its GGE page. -/
abbrev beamOnly (s t : State) : Prop :=
  lowKept [.regs, .armed, .events, .out, .pins, .rng, .ldg, .hbm, .mem] [R.STICKY, R.GGE_CNT + 8 * 5, R.GGE_CNT + 8 * 6] s t

theorem beamOnly_beamRecord (d ring : Nat) (payload : List Byte) (s : State) : beamOnly s (beamRecord d ring payload s) := by
  have hcount (i : Nat) (hi : i = 5 ∨ i = 6) (u : State) : beamOnly u (countK (ggePage d) R.GGE_CNT i 1 u) := by
    refine ⟨keeps_mono (by decide) (keeps_countK _ _ _ _ u), fun p off _ ho hl => reg_setReg_ne _ u (regAddr_ne ho ?_ (.inr ?_))⟩
    · simp only [R.GGE_CNT]; omega
    · rcases hi with rfl | rfl <;> exact fun he => hl (by simp [he])
  have hemit : beamOnly s (emitRecord ring (gougeMaster d) beamRtype d payload s).2 :=
    (recordOnly_emitRecord ring (gougeMaster d) beamRtype d payload s).mono (fun _ h => h) (by simp)
  unfold beamRecord
  dsimp only
  split
  · exact hemit.trans (hcount 5 (.inl rfl) _)
  · exact (hemit.setSticky (by decide) (.inr (by decide))).trans (hcount 6 (.inr rfl) _)

theorem beamOnly_detRecord (d i old new last : Nat) (x : Detector) (sum : Nat) (s : State) :
    beamOnly s (detRecord d i old new last x sum s) := beamOnly_beamRecord d _ _ s

/-! ## What an evaluation does -/

theorem ggePage_low {d : Nat} (hd : d < 4) : ggePage d < 0x230 := by simp only [ggePage]; omega

theorem ggePage_plain {d : Nat} (hd : d < 4) : ¬ eventPage (ggePage d) := eventPage_high (by simp only [ggePage]; omega)

theorem keeps_detMoved (d i sum : Nat) (x : Detector) (s : State) : keeps [.regs] (setDet d i x s) (detMoved d i sum x s) :=
  keeps_trans (keeps_countK _ _ _ _ _) (keeps_setReg _ _ _ _)

theorem detSet_detMoved (d i sum : Nat) (x : Detector) (s : State) : DetSet d i x s (detMoved d i sum x s) :=
  (detSet_setDet d i x s).kept (keeps_detMoved d i sum x s) (by decide)

theorem counted_detMoved {i : Nat} (hi : i < 16) (d sum : Nat) (x : Detector) (s : State) :
    counted s (detMoved d i sum x s) (ggePage d) R.GGE_CNT 3 1 :=
  counted_congr (counted_countK _ _ _ _ (setDet d i x s)) (reg_setReg_ne _ _ (regAddr_ne (by decide)
    (by simp only [R.GGE_DET_STATUS]; omega) (.inr (by simp only [R.GGE_CNT, R.GGE_DET_STATUS]; omega))))

/-- A skipped evaluation shows DET_SKIP and is counted; of the detector only the next tick moves. -/
theorem detEvaluate_skips {s : State} {d i k : Nat} {x : Detector} (hd : d < 4) (due : TickDue s d i k x)
    (hm : (window (x.ticked k) k).2.1 = true) :
    DetSet d i (x.ticked k) s (detEvaluate d i s) ∧ stuck (detEvaluate d i s) (ggePage d) S.GGE_DET_SKIP ∧
      counted s (detEvaluate d i s) (ggePage d) R.GGE_CNT 4 1 ∧ (detEvaluate d i s).mem = s.mem := by
  obtain ⟨hstuck, hpage⟩ := setSticky_page (s := setDet d i (x.ticked k) s) (ggePage_plain hd) (by decide : S.GGE_DET_SKIP < 64)
  have hframe := keeps_setSticky (ggePage d) S.GGE_DET_SKIP (setDet d i (x.ticked k) s)
  rw [detEvaluate_skipped due hm]
  refine ⟨((detSet_setDet d i _ s).kept hframe (by decide)).kept (keeps_countK _ _ _ _ _) (by decide), ?_,
    counted_of_eq (counted_countK _ _ _ _ _) (hpage _ (by decide) (by decide)), hframe .mem (by decide)⟩
  unfold stuck
  rw [reg_countK_off _ _ (by decide) (by decide) (by decide)]
  exact hstuck

/-- An evaluation with a whole window moves the detector, is counted, and shows a move into ALARM. -/
theorem detEvaluate_moves {s : State} {d i k sum : Nat} {x : Detector} (hd : d < 4) (hi : i < 16) (due : TickDue s d i k x)
    (hw : window (x.ticked k) k = (sum, false, true)) :
    DetSet d i (detMove (x.ticked k) sum).1 s (detEvaluate d i s) ∧ counted s (detEvaluate d i s) (ggePage d) R.GGE_CNT 3 1 ∧
      ((detMove (x.ticked k) sum).1.st = 3 → x.st ≠ 3 → stuck (detEvaluate d i s) (ggePage d) (32 + i)) := by
  have hset := detSet_detMoved d i sum (detMove (x.ticked k) sum).1 s
  have hcount := counted_detMoved hi d sum (detMove (x.ticked k) sum).1 s
  rw [detEvaluate_whole due hw]
  dsimp only
  by_cases hm : (detMove (x.ticked k) sum).2 = true
  · rw [if_pos hm]
    have hrec := beamOnly_detRecord d i (if x.st = 1 then 2 else x.st) (detMove (x.ticked k) sum).1.st (k * 256 + 255) (x.ticked k) sum
      (detMoved d i sum (detMove (x.ticked k) sum).1 s)
    generalize detRecord _ _ _ _ _ _ _ _ = v at hrec ⊢
    have hend : beamOnly _ (if (detMove (x.ticked k) sum).1.st = 3 then setSticky (ggePage d) (32 + i) v else v) :=
      .ite (hrec.setSticky (by decide) (.inr (by decide))) hrec
    refine ⟨hset.kept hend.1 (by decide), counted_congr hcount (hend.reg (ggePage_low hd) (by decide) (by decide)), fun ha _ => ?_⟩
    rw [if_pos ha]
    exact (setSticky_page (ggePage_plain hd) (by omega)).1
  · rw [if_neg hm]
    exact ⟨hset, hcount, fun ha hx => absurd (detMove_alarm (x := x.ticked k) hx ha) hm⟩

/-! ## ACK, READ and WRITE (R219, R221, R473) -/

theorem not_guarded_detStatus {d i : Nat} (hd : d < 4) (hi : i < 16) : regGuarded (ggePage d) (R.GGE_DET_STATUS + 8 * i) = false := by
  have hall : ∀ d < 4, ∀ i < 16, regGuarded (ggePage d) (R.GGE_DET_STATUS + 8 * i) = false := by decide
  exact hall d hd i hi

theorem not_guarded_detCtrl {d : Nat} (hd : d < 4) : regGuarded (ggePage d) R.GGE_DET_CTRL = false := by decide +revert

/-- A register of a GGE page reads alike in the counted state. -/
theorem reg_counted0_gge {m d off : Nat} (s : State) (hd : d < 4) (ho : off < 0x1000) :
    reg (counted0 m s) (ggePage d) off = reg s (ggePage d) off := reg_counted0 s ho (.inl (by simp only [ggePage]; omega))

theorem detOf_counted0 (m d i : Nat) (s : State) : detOf (counted0 m s) d i = detOf s d i :=
  detOf_congr (congrArg _ ((changesOnly_counted0 m s).same .gge (by decide))) d i

theorem detAddr_counted0 {m d : Nat} (s : State) (hd : d < 4) : detAddr (counted0 m s) d = detAddr s d :=
  fld_of_reg (reg_counted0_gge s hd (by decide))

/-- ACK is noted in ALARM alone. -/
theorem exec_detAck {m d i : Nat} {v : Word} {s : State} (hd : d < 4) (hi : i < 16)
    (j : judge s m (ggePage d) (R.GGE_DET_STATUS + 8 * i) 8 (v ||| 4#64) = .ok) :
    exec (.detAck m d i v) s = .next (if (detOf s d i).st = 3 then
      setDet d i { detOf s d i with acked := true } (counted0 m s) else counted0 m s) := by
  have hbit : bitOf (v ||| 4#64) 2 = true := by rw [bitOf_or]; simp [bitOf]
  change Host.Outcome.next (guardedWrite m (ggePage d) _ (v ||| 4#64) (writeDetStatus d i (v ||| 4#64)) s) = _
  rw [guardedWrite_plain j (not_guarded_detStatus hd hi), writeDetStatus, actIf, if_pos hbit, detOf_counted0]

theorem exec_ggeDetRead {m d : Nat} {v : Word} {s : State} (hd : d < 4)
    (j : judge s m (ggePage d) R.GGE_DET_CTRL 8 (v ||| 1#64) = .ok) (hv : bitOf v 1 = false) :
    exec (.ggeDetRead m d v) s = .next (refreshPins (detRead d (counted0 m s))) := by
  have h0 : bitOf (v ||| 1#64) 0 = true := by rw [bitOf_or]; simp [bitOf]
  have h1 : bitOf (v ||| 1#64) 1 = false := by rw [bitOf_or, hv]; decide
  change Host.Outcome.next (refreshPins (guardedWrite m (ggePage d) _ (v ||| 1#64) (writeDetCtrl d (v ||| 1#64)) s)) = _
  rw [guardedWrite_plain j (not_guarded_detCtrl hd), writeDetCtrl, actIf, actIf, if_pos h0, if_neg (by simp [h1])]

theorem exec_ggeDetWrite {m d : Nat} {v : Word} {s : State} (hd : d < 4)
    (j : judge s m (ggePage d) R.GGE_DET_CTRL 8 (v ||| 2#64) = .ok) (hv : bitOf v 0 = false) :
    exec (.ggeDetWrite m d v) s = .next (refreshPins (detWrite d (counted0 m s))) := by
  have h0 : bitOf (v ||| 2#64) 0 = false := by rw [bitOf_or, hv]; decide
  have h1 : bitOf (v ||| 2#64) 1 = true := by rw [bitOf_or]; simp [bitOf]
  change Host.Outcome.next (refreshPins (guardedWrite m (ggePage d) _ (v ||| 2#64) (writeDetCtrl d (v ||| 2#64)) s)) = _
  rw [guardedWrite_plain j (not_guarded_detCtrl hd), writeDetCtrl, actIf, actIf, if_pos h1, if_neg (by simp [h0])]

/-- A refusal shows CFG_REFUSED and status 5, and touches no other register of its page. -/
theorem refuseCfg_page {p : Nat} (hp : ¬ eventPage p) (s : State) : stuck (refuseCfg p s) p S.CFG_REFUSED ∧ (refuseCfg p s).wst = 5 ∧
    keeps [.regs, .out, .events, .wst] s (refuseCfg p s) ∧
    ∀ off, off < 0x1000 → off ≠ R.STICKY → reg (refuseCfg p s) p off = reg s p off := by
  obtain ⟨hstuck, hpage⟩ := setSticky_page (s := s) hp (by decide : S.CFG_REFUSED < 64)
  exact ⟨hstuck, rfl, keeps_trans (keeps_mono (by decide) (keeps_setSticky p _ s)) (keeps_mono (by decide) (keeps_setWst 5 _)), hpage⟩

theorem detWrite_refused {d : Nat} {s : State}
    (h : detRefused (detOf s d (detAddr s d)) (regsFrom s (ggePage d) R.GGE_DET_DATA 4) = true) :
    detWrite d s = refuseCfg (ggePage d) s := if_pos h

theorem keeps_detRead (d : Nat) (s : State) : keeps [.regs] s (detRead d s) :=
  (changesOnly_setRegsFrom s (by simp [R.GGE_DET_DATA])).1

/-- The words of a detector in its window. -/
theorem regsFrom_four (s : State) (p base : Nat) :
    regsFrom s p base 4 = [reg s p base, reg s p (base + 8), reg s p (base + 16), reg s p (base + 24)] := rfl

theorem detWords_counted0 {m d : Nat} (s : State) (hd : d < 4) :
    regsFrom (counted0 m s) (ggePage d) R.GGE_DET_DATA 4 = regsFrom s (ggePage d) R.GGE_DET_DATA 4 := by
  simp only [regsFrom_four, reg_counted0_gge s hd (by decide : R.GGE_DET_DATA < 0x1000),
    reg_counted0_gge s hd (by decide : R.GGE_DET_DATA + 8 < 0x1000), reg_counted0_gge s hd (by decide : R.GGE_DET_DATA + 16 < 0x1000),
    reg_counted0_gge s hd (by decide : R.GGE_DET_DATA + 24 < 0x1000)]

/-- A READ shows the words of the detector addressed. -/
theorem detRead_words (d : Nat) (s : State) :
    regsFrom (detRead d s) (ggePage d) R.GGE_DET_DATA 4 = [(detOf s d (detAddr s d)).w0, (detOf s d (detAddr s d)).w1,
      (detOf s d (detAddr s d)).w2, (detOf s d (detAddr s d)).w3] := by
  have hword (k : Nat) (hk : k < 4) := reg_setRegsFrom (p := ggePage d) (base := R.GGE_DET_DATA) (k := k) (s := s)
    (l := [(detOf s d (detAddr s d)).w0, (detOf s d (detAddr s d)).w1, (detOf s d (detAddr s d)).w2, (detOf s d (detAddr s d)).w3]) hk
  rw [regsFrom_four, List.cons.injEq, List.cons.injEq, List.cons.injEq, List.cons.injEq]
  exact ⟨hword 0 (by decide), hword 1 (by decide), hword 2 (by decide), hword 3 (by decide), rfl⟩

/-- A detector with other descriptor words. -/
def Detector.withWords (x : Detector) (ws : List Word) : Detector :=
  { x with w0 := ws.getD 0 0, w1 := ws.getD 1 0, w2 := ws.getD 2 0, w3 := ws.getD 3 0 }

/-- A WRITE that passes: a detector that is enabled or disabled begins anew; one that leaves ALARM so leaves a record. -/
theorem detWrite_passing {d : Nat} {s : State}
    (h : detRefused (detOf s d (detAddr s d)) (regsFrom s (ggePage d) R.GGE_DET_DATA 4) = false) :
    detWrite d s =
      let i := detAddr s d
      let old := detOf s d i
      let x := old.withWords (regsFrom s (ggePage d) R.GGE_DET_DATA 4)
      if x.enable && decide (old.st = 0) then
        showDet d i 0 (setDet d i { x with st := 1, evals := 0, acked := false, next := none, ticks := [] } s)
      else if !x.enable && decide (old.st ≠ 0) then
        let sum := lastSum s d i
        let u := showDet d i sum (setDet d i { x with st := 0, evals := 0, acked := false, next := none, ticks := [] } s)
        if old.st = 3 then detRecord d i 3 0 (old.next.getD 0 * 256 - 1) old sum u else u
      else setDet d i x s := by
  unfold detWrite
  exact if_neg (by rw [h]; decide)

/-- A WRITE that passes stores the words; ENABLE alone decides over OFF. -/
theorem detWrite_stores {d : Nat} {s : State}
    (h : detRefused (detOf s d (detAddr s d)) (regsFrom s (ggePage d) R.GGE_DET_DATA 4) = false) :
    ∃ x, DetSet d (detAddr s d) x s (detWrite d s) ∧ [x.w0, x.w1, x.w2, x.w3] = regsFrom s (ggePage d) R.GGE_DET_DATA 4 ∧
      x.st = if x.enable then (if (detOf s d (detAddr s d)).st = 0 then 1 else (detOf s d (detAddr s d)).st) else 0 := by
  have hshow (x : Detector) (sum : Nat) : DetSet d (detAddr s d) x s (showDet d (detAddr s d) sum (setDet d (detAddr s d) x s)) :=
    (detSet_setDet d _ x s).kept (keeps_setReg _ _ _ _) (by decide)
  rw [detWrite_passing h]
  dsimp only
  generalize hx : (detOf s d (detAddr s d)).withWords (regsFrom s (ggePage d) R.GGE_DET_DATA 4) = x
  have hst : x.st = (detOf s d (detAddr s d)).st := by rw [← hx]; rfl
  have hwords : [x.w0, x.w1, x.w2, x.w3] = regsFrom s (ggePage d) R.GGE_DET_DATA 4 := by rw [← hx]; rfl
  by_cases hen : x.enable = true <;> by_cases hoff : (detOf s d (detAddr s d)).st = 0
  · refine ⟨{ x with st := 1, evals := 0, acked := false, next := none, ticks := [] }, ?_, hwords, ?_⟩
    · simpa [hen, hoff] using hshow _ 0
    · exact (if_pos hen).trans (if_pos hoff) |>.symm
  · refine ⟨x, ?_, hwords, ?_⟩
    · simpa [hen, hoff] using detSet_setDet d _ x s
    · rw [if_pos hen, if_neg hoff, hst]
  · refine ⟨x, ?_, hwords, ?_⟩
    · simpa [hen, hoff] using detSet_setDet d _ x s
    · rw [if_neg hen, hst, hoff]
  · refine ⟨{ x with st := 0, evals := 0, acked := false, next := none, ticks := [] }, ?_, hwords, (if_neg hen).symm⟩
    simp only [hen, hoff, decide_false, Bool.and_false, Bool.false_eq_true, if_false, ne_eq, not_false_eq_true, decide_true,
      Bool.and_true, Bool.not_false, if_true]
    split
    · exact (hshow _ _).kept (beamOnly_detRecord _ _ _ _ _ _ _ _).1 (by decide)
    · exact hshow _ _

end Sys2Proof.Machine
end

section
/-! PROOFS. Writes of a detector line: the word they store, the latch they raise, and the detectors' obligation. -/

namespace Sys2Proof.Machine

/-! ## The word a line holds (R224) -/

/-- The fields of a detector line. -/
def lineFields : List FieldDef := ((regDef 0x228 R.GGE_LINE).map (·.fields)).getD []

/-- Whether a plain write of a field writes bit `b`. -/
def FieldDef.writes (f : FieldDef) (b : Nat) : Bool := decide ((f.acc = .rw ∨ f.acc = .rwg) ∧ f.lo ≤ b ∧ b < f.lo + f.width)

/-- A field that does not clear by 1 takes the value written if it is writable. -/
theorem mergeFields_cons {f : FieldDef} (hf : f.acc ≠ .w1c) (old v : Word) (l : List FieldDef) : mergeFields old v (f :: l) =
    mergeFields (if f.acc = .rw ∨ f.acc = .rwg then withField old f.lo f.width (fieldOf v f.lo f.width) else old) v l := by
  rw [mergeFields]
  cases hacc : f.acc <;> simp_all

/-- A bit of a word with a field of another word in its place. -/
theorem bitOf_withField_fieldOf (w v : Word) (lo n b : Nat) :
    bitOf (withField w lo n (fieldOf v lo n)) b = if lo ≤ b ∧ b < lo + n then bitOf v b else bitOf w b := by
  rw [withField_bit, fieldOf_bit]
  split
  next h =>
    rcases Nat.lt_or_ge b 64 with h64 | h64
    · have hin : b - lo < n := by omega
      simp [h64, hin, Nat.add_sub_cancel' h.1]
    · have hout : bitOf v b = false := BitVec.getLsbD_of_ge v b h64
      simp [hout, Nat.not_lt.mpr h64]
  next => rfl

/-- A bit of the word a plain write leaves, where no field clears by 1: that of the word written in a writable field, else the old one. -/
theorem mergeFields_bit {l : List FieldDef} (hl : ∀ f ∈ l, f.acc ≠ .w1c) (old v : Word) (b : Nat) :
    bitOf (mergeFields old v l) b = if l.any (·.writes b) then bitOf v b else bitOf old b := by
  induction l generalizing old with
  | nil => rfl
  | cons f l ih =>
    rw [mergeFields_cons (hl f List.mem_cons_self), ih fun g hg => hl g (List.mem_cons_of_mem _ hg), List.any_cons]
    by_cases hacc : f.acc = .rw ∨ f.acc = .rwg
    · rw [if_pos hacc, bitOf_withField_fieldOf]
      by_cases hb : f.lo ≤ b ∧ b < f.lo + f.width <;> simp [FieldDef.writes, hacc, hb]
    · simp [FieldDef.writes, hacc]

theorem mergedWord_line {d i : Nat} (hd : d < 4) (hi : i < 16) (v : Word) (s : State) :
    mergedWord s (ggePage d) (R.GGE_LINE + 8 * i) v = mergeFields (reg s (ggePage d) (R.GGE_LINE + 8 * i)) v lineFields := by
  have hall : ∀ d < 4, ∀ i < 16, (regDef (ggePage d) (R.GGE_LINE + 8 * i)).map (·.fields) = some lineFields := by decide
  obtain ⟨r, hr, hf⟩ := Option.map_eq_some_iff.mp (hall d hd i hi)
  unfold mergedWord
  rw [hr, ← hf]

/-- The word of a line over its old word, from the word written and the claim of the writer. -/
def lineStored (old v : Word) (claim : Nat) : Word := withField (withBit (mergeFields old v lineFields) 43 false) 48 16 claim

section
variable (old v : Word) (claim : Nat)

/-- A field whose bits a write reaches holds what was written. -/
theorem fieldOf_lineStored {lo n : Nat} (hlo : lo + n ≤ 43) (h : ∀ k < n, lineFields.any (·.writes (lo + k)) = true) :
    fieldOf (lineStored old v claim) lo n = fieldOf v lo n := by
  have hplain : ∀ f ∈ lineFields, f.acc ≠ .w1c := by decide
  unfold lineStored
  rw [fieldOf_withField_ne _ _ _ _ _ _ (by omega)]
  apply Nat.eq_of_testBit_eq
  intro k
  rw [fieldOf_bit, fieldOf_bit]
  by_cases hk : k < n
  · rw [bitOf_withBit_ne _ _ (by omega), mergeFields_bit hplain, if_pos (h k hk)]
  · simp [hk]

theorem suspended_lineStored : bitOf (lineStored old v claim) 43 = false := by
  unfold lineStored
  rw [withField_bit, if_neg (by decide), bitOf_withBit_self _ _ _ (by decide)]

theorem claim_lineStored : fieldOf (lineStored old v claim) 48 16 = claim % 2 ^ 16 := fieldOf_withField_self _ _ _ _ (by decide)

theorem lineTarget_lineStored : lineTarget (lineStored old v claim) = lineTarget v := by
  unfold lineTarget
  rw [fieldOf_lineStored _ _ _ (by decide) (by decide), fieldOf_lineStored _ _ _ (by decide) (by decide)]

end

/-- A suspension leaves what a line maps. -/
theorem fieldOf_suspended (w : Word) : fieldOf (withBit w 43 true) 0 42 = fieldOf w 0 42 := fieldOf_withField_ne _ _ _ _ _ _ (by decide)

/-! ## What a raised latch leaves of the lines (R78, R224, R270) -/

/-- What the report and judgement of claims may touch. -/
abbrev claimsOnly (s t : State) : Prop := lowKept [.regs, .armed, .events, .out, .zhk] [] s t

section
variable {s t : State} (h : claimsOnly s t)
include h

theorem claimsOnly.zhk {z : ZhkState} : claimsOnly s { t with zhk := z } :=
  h.step (K := [.zhk]) (fun x hx => by cases x <;> simp_all [same]) (by decide) (by decide)

theorem claimsOnly.zhkSend {k : ZhkPacket} : claimsOnly s (zhkSend k t) := by
  have htry : claimsOnly s ((zhkTry k t).getD { t with zhk := { t.zhk with held := t.zhk.held ++ [(k, t.mono)] } }) := by
    unfold zhkTry
    split
    · exact h.zhk
    · dsimp only
      split
      · exact h.zhk
      · exact claimsOnly.zhk h.zhk
  exact .ite h.zhk htry

theorem claimsOnly.reportClaims : claimsOnly s (reportClaims t) := .ite h (h.foldl fun _ _ h => claimsOnly.zhkSend h)

theorem claimsOnly.sharedJudge {i : Nat} (hi : i < 16) : claimsOnly s (sharedJudge i t) := by
  unfold Sys2Proof.Machine.sharedJudge
  refine .ite h ?_
  extract_lets gid own best tied u
  have hu : claimsOnly s u := h.evalDetector (by decide)
  have hset (w : Word) (z : ZhkState) : claimsOnly s (setReg 0x320 (R.ZHK_SHARED + 8 * i) w { u with zhk := z }) :=
    (claimsOnly.zhk hu).setReg (by decide) (by decide) (by simp only [R.ZHK_SHARED]; omega)
  exact .ite ((hset _ _).setSticky (by decide) (.inl (by decide))) (hset _ _)

theorem claimsOnly.claimChanged : claimsOnly s (claimChanged t) :=
  .ite (.ite (List.foldlRecOn (motive := claimsOnly s) _ _ h.reportClaims fun _ h _ hi => claimsOnly.sharedJudge h (List.mem_range.mp hi))
    h.reportClaims) h

end

/-- The lines of C-die `d` after a write of line `i`: it holds `w`, every other line maps what it did, and detectors and memory are as
before. -/
structure LinesKept (d i : Nat) (w : Word) (s t : State) : Prop where
  line : reg t (ggePage d) (R.GGE_LINE + 8 * i) = w
  others : ∀ j, j < 16 → j ≠ i → fieldOf (reg t (ggePage d) (R.GGE_LINE + 8 * j)) 0 42 =
    fieldOf (reg s (ggePage d) (R.GGE_LINE + 8 * j)) 0 42
  dets : t.gge.dets = s.gge.dets
  mem : t.mem = s.mem

/-- What leaves the registers of low pages, the beams and memory alone keeps the lines. -/
theorem LinesKept.kept {d i : Nat} {w : Word} {s t u : State} {L : List Part} (h : LinesKept d i w s t) (hd : d < 4) (hi : i < 16)
    (k : lowKept L [] t u) (hL : Part.gge ∉ L ∧ Part.mem ∉ L) : LinesKept d i w s u := by
  have hreg (j : Nat) (hj : j < 16) : reg u (ggePage d) (R.GGE_LINE + 8 * j) = reg t (ggePage d) (R.GGE_LINE + 8 * j) :=
    k.reg (ggePage_low hd) (by simp only [R.GGE_LINE]; omega) (by simp)
  exact ⟨(hreg i hi).trans h.line, fun j hj hji => (congrArg (fieldOf · 0 42) (hreg j hj)).trans (h.others j hj hji),
    (congrArg GgeState.dets (k.same .gge hL.1)).trans h.dets, (k.same .mem hL.2).trans h.mem⟩

/-- A change of lines that began after a step which leaves the page, the beams and memory alone is one from before it. -/
theorem LinesKept.since {d i : Nat} {w : Word} {s t u : State} {L : List Part} (h : LinesKept d i w t u) (hd : d < 4)
    (k : changesOnly L [] s t) (hL : Part.gge ∉ L ∧ Part.mem ∉ L) : LinesKept d i w s u :=
  ⟨h.line, fun j hj hji => (h.others j hj hji).trans
    (congrArg (fieldOf · 0 42) (k.reg (by simp) (ggePage_plain hd) (by simp only [R.GGE_LINE]; omega))),
    h.dets.trans (congrArg GgeState.dets (k.same .gge hL.1)), h.mem.trans (k.same .mem hL.2)⟩

/-- Line `e` of GGE page `g` suspended, its frozen value among `v`. -/
def lineSuspended (g e : Nat) (v : NatTab) (s : State) : State :=
  setSticky g S.GGE_LINE_SUSPENDED (setReg g (R.GGE_LINE + 8 * e) (withBit (reg s g (R.GGE_LINE + 8 * e)) 43 true)
    { s with gge := { s.gge with frozen := v } })

/-- A line whose claim is below its target's latch is suspended; every other line stays as it is. -/
theorem suspendLine_cases (g e : Nat) (s : State) : suspendLine g e s = s ∨
    ∃ q v, lineTarget (reg s g (R.GGE_LINE + 8 * e)) = some q ∧ fieldOf (reg s g (R.GGE_LINE + 8 * e)) 48 16 < latched s q ∧
      suspendLine g e s = lineSuspended g e v s := by
  unfold suspendLine
  dsimp only
  split
  next q hq =>
    split
    next h => exact .inr ⟨q, _, hq, h.1, rfl⟩
    next => exact .inl rfl
  next => exact .inl rfl

section
variable {p j g e : Nat} (v : NatTab) (s : State)

theorem reg_lineSuspended (hp : p < 0x230) (hj : j < 16) (he : e < 16) : reg (lineSuspended g e v s) p (R.GGE_LINE + 8 * j) =
    if p = g ∧ j = e then withBit (reg s g (R.GGE_LINE + 8 * e)) 43 true else reg s p (R.GGE_LINE + 8 * j) := by
  unfold lineSuspended
  rw [reg_setSticky _ (by simp only [pulseReg]; omega) (by simp only [R.GGE_LINE]; omega)
    (.inr (by simp only [R.GGE_LINE, R.STICKY]; omega))]
  split
  next h => rw [h.1, h.2, reg_setReg_self]
  next h => exact reg_setReg_ne _ _ (regAddr_ne (by simp only [R.GGE_LINE]; omega) (by simp only [R.GGE_LINE]; omega)
      (by simp only [R.GGE_LINE]; omega))

theorem latched_lineSuspended {q : Nat} (hq : q < 0x400) (he : e < 16) : latched (lineSuspended g e v s) q = latched s q :=
  fld_of_reg ((reg_setSticky_header _ hq (by decide) (by decide)).trans (reg_setReg_ne _ _ (regAddr_ne (by decide)
    (by simp only [R.GGE_LINE]; omega) (.inr (by simp only [R.GGE_LINE]; omega)))))

end

section
variable {d i q : Nat} {w : Word} {s t : State} (h : LinesKept d i w s t) (hd : d < 4) (hi : i < 16) (hq : q < 0x400)
  (htarget : ∀ p, lineTarget w = some p → p = q) (hclaim : latched t q = fieldOf w 48 16)
include h hd hi hq htarget hclaim

/-- A line whose claim is its target's latch is never suspended; a suspension of another leaves what that one maps, and the latch. -/
theorem LinesKept.suspendLine {g e : Nat} (he : e < 16) : LinesKept d i w s (suspendLine g e t) ∧
    latched (suspendLine g e t) q = fieldOf w 48 16 := by
  rcases suspendLine_cases g e t with hsame | ⟨p, v, hp, hlow, heq⟩
  · rw [hsame]; exact ⟨h, hclaim⟩
  · have hother : ¬ (ggePage d = g ∧ i = e) := by
      rintro ⟨rfl, rfl⟩
      rw [h.line] at hp hlow
      rw [htarget p hp, hclaim] at hlow
      omega
    have hframe := keeps_setSticky g S.GGE_LINE_SUSPENDED (setReg g (R.GGE_LINE + 8 * e)
      (withBit (reg t g (R.GGE_LINE + 8 * e)) 43 true) { t with gge := { t.gge with frozen := v } })
    rw [heq]
    refine ⟨⟨?_, fun j hj hji => ?_, (congrArg GgeState.dets (hframe .gge (by decide))).trans h.dets,
      (hframe .mem (by decide)).trans h.mem⟩, (latched_lineSuspended v t hq he).trans hclaim⟩
    · rw [reg_lineSuspended v t (ggePage_low hd) hi he, if_neg hother, h.line]
    · rw [← h.others j hj hji, reg_lineSuspended v t (ggePage_low hd) hj he]
      split
      next hje => rw [hje.1, hje.2, fieldOf_suspended]
      next => rfl

theorem LinesKept.suspendLines : LinesKept d i w s (suspendLines t) := by
  refine (List.foldlRecOn (motive := fun u => LinesKept d i w s u ∧ latched u q = fieldOf w 48 16) _ _ ⟨h, hclaim⟩ fun u hu k _ => ?_).1
  split
  · exact hu
  · exact hu.1.suspendLine hd hi hq htarget hu.2 (Nat.mod_lt _ (by decide))

end

/-- A latch raised to the claim a line holds keeps the line, whichever lines it suspends. -/
theorem LinesKept.raiseLatch {d i q claim : Nat} {w : Word} {s t : State} (h : LinesKept d i w s t) (hd : d < 4) (hi : i < 16)
    (hq : q < 0x400) (htarget : ∀ p, lineTarget w = some p → p = q) (hclaim : fieldOf w 48 16 = claim % 2 ^ 16) :
    LinesKept d i w s (raiseLatch q claim t) := by
  have hreg (j : Nat) (hj : j < 16) : reg (setFld q F.CLAIM_LATCHED claim t) (ggePage d) (R.GGE_LINE + 8 * j) =
      reg t (ggePage d) (R.GGE_LINE + 8 * j) := reg_setFld_ne _ _ _ (regAddr_ne (by simp only [R.GGE_LINE]; omega) (by decide)
    (.inr (by simp only [R.GGE_LINE]; omega)))
  have hlatched : LinesKept d i w s (setFld q F.CLAIM_LATCHED claim t) := ⟨(hreg i hi).trans h.line,
    fun j hj hji => (congrArg (fieldOf · 0 42) (hreg j hj)).trans (h.others j hj hji), h.dets, h.mem⟩
  have hsuspended := hlatched.suspendLines hd hi hq htarget ((fld_setFld_self q F.CLAIM_LATCHED claim t (by decide)).trans hclaim.symm)
  unfold Sys2Proof.Machine.raiseLatch
  split
  · exact hsuspended.kept hd hi (claimsOnly.claimChanged (lowKept.refl _ _ _)) (by decide)
  · exact h

/-! ## A write of a line (R79, R224) -/

theorem guarded_line {d i : Nat} (hd : d < 4) (hi : i < 16) : regGuarded (ggePage d) (R.GGE_LINE + 8 * i) = true := by
  have hall : ∀ d < 4, ∀ i < 16, regGuarded (ggePage d) (R.GGE_LINE + 8 * i) = true := by decide
  exact hall d hd i hi

theorem latchPage_line {d i : Nat} (hd : d < 4) (hi : i < 16) (v : Word) :
    latchPage (ggePage d) (R.GGE_LINE + 8 * i) v = (lineTarget v).getD (ggePage d) := by
  have hblock : pageBlock (ggePage d) = some .gge := by decide +revert
  exact if_pos ⟨hblock, by omega, by omega⟩

/-- The latch that judges a line is that of a page. -/
theorem latchPage_line_lt {d : Nat} (hd : d < 4) (v : Word) : (lineTarget v).getD (ggePage d) < 0x400 := by
  have hfield : fieldOf v 36 5 < 32 := Nat.mod_lt _ (by decide)
  unfold lineTarget linePage
  split_ifs <;> simp only [Option.getD_some, Option.getD_none, ggePage] <;> omega

/-- The state in which the effect of an accepted write of a guarded register begins. -/
def arrived (m p off : Nat) (s : State) : State := setWst 0 (arriveWrite .ok m p off s)

theorem changesOnly_arrived (m p off : Nat) (s : State) : changesOnly [.regs, .mrk, .wst] [] s (arrived m p off s) := by
  have hcount : changesOnly [.regs, .mrk, .wst] [] s (countBar0 m s) := (changesOnly_countBar0 m s).mono (by decide) (by simp)
  have harrive : changesOnly [.regs, .mrk, .wst] [] s (arriveWrite .ok m p off s) := by
    unfold arriveWrite
    dsimp only
    split
    · exact hcount.trans ((changesOnly_meetMarks _ _ _).mono (by decide) (by simp))
    · exact hcount
  exact harrive.trans ((changesOnly_setWst 0 _).mono (by decide) (by simp))

/-- The claim of a master rests on its grants and on REF_STATUS. -/
theorem masterClaim_congr {s t : State} (m : Nat) (hg : t.grants = s.grants)
    (hr : ∀ off, off < 0x1000 → reg t 0x3D1 off = reg s 0x3D1 off) : masterClaim t m = masterClaim s m := by
  unfold masterClaim
  rw [fld_of_reg (hr _ (by decide)), fld_of_reg (hr _ (by decide)), hg]

theorem masterClaim_arrived (m p off k : Nat) (s : State) : masterClaim (arrived m p off s) k = masterClaim s k :=
  masterClaim_congr k ((changesOnly_arrived m p off s).same .grants (by decide))
    fun _ ho => (changesOnly_arrived m p off s).reg (by simp) (by decide) ho

section
variable {m d i : Nat} {v : Word} {s : State}

/-- A TRIG_OUT or FCO number above 15 is refused. -/
theorem writeLine_refused (h : (fieldOf v 34 2 = 2 ∨ fieldOf v 34 2 = 3) ∧ 16 ≤ fieldOf v 36 5) :
    writeLine m d i v s = refuseCfg (ggePage d) s := if_pos h

/-- Any other write stores the line. -/
theorem linesKept_writeLine (hd : d < 4) (hi : i < 16) (h : ¬ ((fieldOf v 34 2 = 2 ∨ fieldOf v 34 2 = 3) ∧ 16 ≤ fieldOf v 36 5)) :
    LinesKept d i (lineStored (reg s (ggePage d) (R.GGE_LINE + 8 * i)) v (masterClaim s m)) s (writeLine m d i v s) ∧
      (writeLine m d i v s).wst = s.wst := by
  have hclaim : masterClaim (storePlain (ggePage d) (R.GGE_LINE + 8 * i) v s) m = masterClaim s m :=
    masterClaim_congr m rfl fun off ho => reg_setReg_ne _ _ (regAddr_ne ho (by simp only [R.GGE_LINE]; omega)
      (.inl (by simp only [ggePage]; omega)))
  have hother (j : Nat) (hj : j < 16) (hji : j ≠ i) (w : Word) (u : State) : reg (setReg (ggePage d) (R.GGE_LINE + 8 * i) w u) (ggePage d)
      (R.GGE_LINE + 8 * j) = reg u (ggePage d) (R.GGE_LINE + 8 * j) := reg_setReg_ne _ _ (regAddr_ne
        (by simp only [R.GGE_LINE]; omega) (by simp only [R.GGE_LINE]; omega) (.inr (by omega)))
  unfold writeLine
  rw [if_neg h]
  refine ⟨⟨?_, fun j hj hji => ?_, rfl, rfl⟩, rfl⟩
  · refine (reg_setReg_self _ _ _ _).trans ?_
    rw [hclaim, storePlain, reg_setReg_self, mergedWord_line hd hi]
    rfl
  · exact congrArg (fieldOf · 0 42) ((hother j hj hji _ _).trans (hother j hj hji _ _))

end

section
variable {m d i : Nat} {v : Word} {s : State} (hd : d < 4) (hi : i < 16) (j : judge s m (ggePage d) (R.GGE_LINE + 8 * i) 8 v = .ok)
include hd hi j

/-- An accepted write of a line is what its page does with it, and the latch it raises where the page takes it. -/
theorem exec_ggeLine {u : State} (hu : writeLine m d i v (arrived m (ggePage d) (R.GGE_LINE + 8 * i) s) = u) :
    exec (.ggeLine m d i v) s =
      .next (refreshPins (if u.wst = 0 then raiseLatch ((lineTarget v).getD (ggePage d)) (masterClaim s m) u else u)) := by
  have hclaim : masterClaim (arriveWrite .ok m (ggePage d) (R.GGE_LINE + 8 * i) s) m = masterClaim s m := masterClaim_arrived _ _ _ _ s
  change Host.Outcome.next (refreshPins (guardedWrite m (ggePage d) (R.GGE_LINE + 8 * i) v (writeLine m d i v) s)) = _
  rw [guardedWrite_ok j, acceptedWrite, guarded_line hd hi, latchPage_line hd hi, hclaim]
  simp only [Bool.true_and, decide_eq_true_eq, ← hu]
  rfl

theorem exec_ggeLine_refused (h : (fieldOf v 34 2 = 2 ∨ fieldOf v 34 2 = 3) ∧ 16 ≤ fieldOf v 36 5) : exec (.ggeLine m d i v) s =
    .next (refreshPins (refuseCfg (ggePage d) (arrived m (ggePage d) (R.GGE_LINE + 8 * i) s))) := by
  rw [exec_ggeLine hd hi j (writeLine_refused h)]
  rfl

/-- A line that is stored holds its claim, is not suspended by the latch it raises, and leaves the other lines. -/
theorem linesKept_ggeLine (h : ¬ ((fieldOf v 34 2 = 2 ∨ fieldOf v 34 2 = 3) ∧ 16 ≤ fieldOf v 36 5)) :
    ∃ t old, exec (.ggeLine m d i v) s = .next t ∧ LinesKept d i (lineStored old v (masterClaim s m)) s t := by
  have harrived := changesOnly_arrived m (ggePage d) (R.GGE_LINE + 8 * i) s
  obtain ⟨hstored, hwst⟩ := linesKept_writeLine (m := m) (s := arrived m (ggePage d) (R.GGE_LINE + 8 * i) s) hd hi h
  rw [masterClaim_arrived] at hstored
  have hraised := hstored.raiseLatch (claim := masterClaim s m) (q := (lineTarget v).getD (ggePage d)) hd hi (latchPage_line_lt hd v)
    (fun p hp => by rw [← lineTarget_lineStored, hp]; rfl) (claim_lineStored ..)
  have hshown := hraised.kept hd hi (pinsOnly_refreshPins _) (by decide)
  refine ⟨_, _, ?_, hshown.since hd harrived (by decide)⟩
  rw [exec_ggeLine hd hi j rfl, if_pos (show _ = 0 from hwst)]

end

/-! ## The detectors' obligation -/

/-- Words of a low page are shown as they are. -/
theorem regsFrom_shown {p base n : Nat} {s : State} (hp : p < 0x230) (hb : base + 8 * n ≤ 0x1000) :
    regsFrom (refreshPins s) p base n = regsFrom s p base n :=
  List.map_congr_left fun k hk => reg_shown hp (by have := List.mem_range.mp hk; omega)

/-- Settles O34. An evaluation, an ACK, a READ and a WRITE change one detector and what shows it; a write of a line stores its word, which a
raised latch never suspends because the line holds the claim that raised it. -/
theorem detectors : Obligations.Detectors := by
  unfold Obligations.Detectors
  refine ⟨?skips, ?moves, ?acks, ?reads, ?refuses, ?stores, ?lines, ?targets⟩
  case skips =>
    intro s d i k x hd hi hx hn hst hlive hended hu hm
    obtain ⟨hset, hstuck, hcount, hmem⟩ := detEvaluate_skips hd ⟨hx, hn, hst, hlive, hended, hu⟩ (by rw [window_ticked]; exact hm)
    have hpins := pinsOnly_refreshPins (detEvaluate d i s)
    have hshown := hset.kept hpins.1 (by decide)
    refine ⟨_, rfl, (congrArg Detector.st hshown.det).trans rfl,
      (congrArg Detector.evals hshown.det).trans rfl, congrArg Detector.next hshown.det, ?_,
      counted_congr hcount (reg_shown (ggePage_low hd) (by decide)), hshown.others, hshown.wsets,
      (hpins.same .mem (by decide)).trans hmem, hshown.sch⟩
    unfold stuck
    rw [reg_shown (ggePage_low hd) (by decide)]
    exact hstuck
  case moves =>
    intro s d i k sum x hd hi hx hn hst hlive hended hu hw
    obtain ⟨hset, hcount, hstuck⟩ := detEvaluate_moves (sum := sum) hd hi ⟨hx, hn, hst, hlive, hended, hu⟩ (by rw [window_ticked]; exact hw)
    have hshown := hset.kept (pinsOnly_refreshPins (detEvaluate d i s)).1 (by decide)
    refine ⟨_, rfl, (congrArg Detector.st hshown.det).trans (detMove_st _ _), (congrArg Detector.next hshown.det).trans (detMove_next _ _),
      counted_congr hcount (reg_shown (ggePage_low hd) (by decide)), fun ha hx3 => ?_, hshown.others, hshown.wsets, hshown.sch⟩
    unfold stuck
    rw [reg_shown (ggePage_low hd) (by decide)]
    exact hstuck ((congrArg Detector.st hshown.det).symm.trans ha) hx3
  case acks =>
    intro s m d i v hd hi j
    have hcounted := changesOnly_counted0 m s
    have hframe : changesOnly [.gge, .regs, .wst] [] s (counted0 m s) := hcounted.mono (by decide) (by simp)
    refine ⟨_, exec_detAck hd hi j, ?_⟩
    split
    · have hset := DetSet.since hcounted.1 (detSet_setDet d i { detOf s d i with acked := true } _) (by decide)
      exact ⟨hset.det, hset.others, keeps_trans hframe.1 (keeps_mono (by decide) (keeps_setDet _ _ _ _)), hframe.2⟩
    · exact ⟨detOf_counted0 m d i s, fun j _ => detOf_counted0 m d j s, hframe⟩
  case reads =>
    intro s m d v x hd j hv hx
    have hkept : keeps [.regs, .wst, .armed, .events, .out, .pins, .spr, .chs] s (refreshPins (detRead d (counted0 m s))) :=
      keeps_trans (keeps_mono (by decide) (changesOnly_counted0 m s).1) (keeps_trans (keeps_mono (by decide) (keeps_detRead d _))
        (keeps_mono (by decide) (pinsOnly_refreshPins _).1))
    refine ⟨_, exec_ggeDetRead hd j hv, ?_, hkept .gge (by decide), hkept .mem (by decide), hkept .sch (by decide), hkept .tly (by decide)⟩
    have hwords := detRead_words d (counted0 m s)
    rw [detAddr_counted0 s hd, detOf_counted0, hx] at hwords
    rw [regsFrom_shown (ggePage_low hd) (by decide), hwords]
  case refuses =>
    intro s m d v hd j hv href
    obtain ⟨hstuck, hwst, hrefused, -⟩ := refuseCfg_page (ggePage_plain hd) (counted0 m s)
    have hpins := pinsOnly_refreshPins (refuseCfg (ggePage d) (counted0 m s))
    have hkept : keeps [.regs, .wst, .armed, .events, .out, .pins, .spr, .chs] s (refreshPins (refuseCfg (ggePage d) (counted0 m s))) :=
      keeps_trans (keeps_mono (by decide) (changesOnly_counted0 m s).1) (keeps_trans (keeps_mono (by decide) hrefused)
        (keeps_mono (by decide) hpins.1))
    refine ⟨refreshPins (refuseCfg (ggePage d) (counted0 m s)), ?_, hkept .gge (by decide), ?_, (hpins.same .wst (by decide)).trans hwst,
      hkept .mem (by decide), hkept .sch (by decide), hkept .tly (by decide)⟩
    · rw [exec_ggeDetWrite hd j hv, detWrite_refused]
      rw [detAddr_counted0 s hd, detOf_counted0, detWords_counted0 s hd]
      exact href
    · unfold stuck
      rw [reg_shown (ggePage_low hd) (by decide)]
      exact hstuck
  case stores =>
    intro s m d v hd j hv href
    obtain ⟨x, hset, hwords, hst⟩ := detWrite_stores (d := d) (s := counted0 m s) (by
      rw [detAddr_counted0 s hd, detOf_counted0, detWords_counted0 s hd]; exact href)
    rw [detAddr_counted0 s hd] at hset hst
    rw [detOf_counted0] at hst
    rw [detWords_counted0 s hd] at hwords
    have hshown := (DetSet.since (changesOnly_counted0 m s).1 hset (by decide)).kept (pinsOnly_refreshPins _).1 (by decide)
    refine ⟨_, exec_ggeDetWrite hd j hv, ?_, ?_, hshown.others, hshown.wsets, hshown.sch⟩
    · rw [hshown.det]; exact hwords
    · rw [hshown.det]; exact hst
  case lines =>
    intro s m d i v hd hi j hline
    obtain ⟨t, old, ht, hword, hothers, hdets, hmem⟩ := linesKept_ggeLine hd hi j hline
    refine ⟨t, ht, ?_, ?_, ?_, ?_, hothers, hdets, hmem⟩ <;> rw [hword]
    · exact fieldOf_lineStored _ _ _ (by decide) (by decide)
    · exact fieldOf_lineStored _ _ _ (by decide) (by decide)
    · exact suspended_lineStored ..
    · exact claim_lineStored ..
  case targets =>
    intro s m d i v hd hi j hkind hnum
    have harrived := changesOnly_arrived m (ggePage d) (R.GGE_LINE + 8 * i) s
    obtain ⟨hstuck, hwst, hrefused, hpage⟩ := refuseCfg_page (ggePage_plain hd) (arrived m (ggePage d) (R.GGE_LINE + 8 * i) s)
    have hpins := pinsOnly_refreshPins (refuseCfg (ggePage d) (arrived m (ggePage d) (R.GGE_LINE + 8 * i) s))
    have hoff : R.GGE_LINE + 8 * i < 0x1000 ∧ R.GGE_LINE + 8 * i ≠ R.STICKY := by simp only [R.GGE_LINE, R.STICKY]; omega
    refine ⟨_, exec_ggeLine_refused hd hi j ⟨hkind, hnum⟩, ?_, (hpins.same .wst (by decide)).trans hwst,
      (hpins.same .gge (by decide)).trans ((hrefused .gge (by decide)).trans (harrived.same .gge (by decide))), ?_⟩
    · unfold stuck
      rw [reg_shown (ggePage_low hd) (by decide)]
      exact hstuck
    · rw [reg_shown (ggePage_low hd) hoff.1, hpage _ hoff.1 hoff.2, harrived.reg (by simp) (ggePage_plain hd) hoff.1]

end Sys2Proof.Machine
end

section
/-! PROOFS. What the change of a Tally context leaves of the others, and what the work on slots leaves of the state. -/

namespace Sys2Proof.Machine

/-! ## The contexts of a C-die -/

@[simp] theorem ctxOf_setCtx_same (d i : Nat) (c : TlyCtx) (s : State) : ctxOf (setCtx d i c s) d i = c := by
  unfold ctxOf setCtx
  rw [tlyDie_setTlyDie]
  exact sparseGet_set_self _ _ _ _

theorem ctxOf_setCtx_ne {i j : Nat} (d : Nat) (c : TlyCtx) (s : State) (h : j ≠ i) : ctxOf (setCtx d i c s) d j = ctxOf s d j := by
  unfold ctxOf setCtx
  rw [tlyDie_setTlyDie]
  exact sparseGet_set_ne _ _ _ h

theorem ctxOf_congr {s t : State} (h : t.tly = s.tly) (d i : Nat) : ctxOf t d i = ctxOf s d i := by
  rw [ctxOf, tlyDie_congr h, ← ctxOf]

theorem reorder_setCtx (d i : Nat) (c : TlyCtx) (s : State) : (tlyDie (setCtx d i c s) d).reorder = (tlyDie s d).reorder := by
  unfold setCtx
  rw [tlyDie_setTlyDie]

theorem tlyDie_setCtx_ne {d e : Nat} (i : Nat) (c : TlyCtx) (s : State) (h : e ≠ d) : tlyDie (setCtx d i c s) e = tlyDie s e := by
  unfold tlyDie setCtx setTlyDie alGet alSet
  exact sparseGet_set_ne _ _ _ h

theorem changesOnly_setTlyDie (d : Nat) (x : TlyDie) (s : State) : changesOnly [.tly] [] s (setTlyDie d x s) :=
  ⟨keeps_setTlyDie d x s, sameRegs_of_eq rfl⟩

theorem changesOnly_setCtx (d i : Nat) (c : TlyCtx) (s : State) : changesOnly [.tly] [] s (setCtx d i c s) := changesOnly_setTlyDie _ _ _

/-! ## What the work on slots leaves (R230, R234, R238) -/

/-- The registers of the gang (R250, R261) read as before. -/
def gangKept (s t : State) : Prop := ∀ off, 0x240 ≤ off → off < 0x300 → reg t 0x320 off = reg s 0x320 off

theorem gangKept.trans {s t u : State} (h : gangKept s t) (k : gangKept t u) : gangKept s u :=
  fun off hl hh => (k off hl hh).trans (h off hl hh)

theorem gangKept_of_regs {s t : State} (h : t.regs = s.regs) : gangKept s t := fun _ _ _ => reg_congr h _ _

/-- A register apart from those of the gang. -/
theorem gangKept_setReg {p off : Nat} (w : Word) (s : State) (ho : off < 0x1000) (h : p ≠ 0x320 ∨ off < 0x240) : gangKept s (setReg p off w s) :=
  fun _ hl hh => reg_setReg_ne w s (regAddr_ne (by omega) ho (by omega))

theorem gangKept_setSticky (p b : Nat) (s : State) : gangKept s (setSticky p b s) :=
  fun _ hl hh => reg_setSticky s (by simp only [pulseReg]; omega) (by omega) (.inr (by simp only [R.STICKY]; omega))

theorem gangKept.gangMember_eq {s t : State} (h : gangKept s t) : gangMember t = gangMember s := fld_of_reg (h _ (by decide) (by decide))

theorem gangKept.gangSize_eq {s t : State} (h : gangKept s t) : gangSize t = gangSize s :=
  congrArg (2 ^ ·) (fld_of_reg (h _ (by decide) (by decide)))

theorem gangKept.gangMode_eq {s t : State} (h : gangKept s t) {r : Nat} (hr : r < 16) : gangMode t r = gangMode s r := by
  have hmode : fld t 0x320 (F.ZHK_REGION_MODE.at r) = fld s 0x320 (F.ZHK_REGION_MODE.at r) :=
    fld_of_reg (h (0x248 + 8 * r) (by omega) (by omega))
  rw [gangMode, gangMode, h.gangSize_eq, hmode]

/-- What reading and writing slots touches: HBM, registers apart from those of the gang, detectors, events and what leaves. -/
structure SlotWork (s t : State) : Prop where
  frame : keeps [.mem, .hbm, .regs, .armed, .events, .out] s t
  gang : gangKept s t

theorem SlotWork.refl (s : State) : SlotWork s s := ⟨keeps_refl _ s, fun _ _ _ => rfl⟩

theorem SlotWork.ite {s t u : State} {c : Prop} {_ : Decidable c} (h : SlotWork s t) (k : SlotWork s u) : SlotWork s (if c then t else u) := by
  split <;> assumption

theorem SlotWork.ite_snd {α : Type} {s : State} {c : Prop} {_ : Decidable c} {r q : α × State} (h : SlotWork s r.2) (k : SlotWork s q.2) :
    SlotWork s (if c then r else q).2 := by
  split <;> assumption

section
variable {s t : State} (h : SlotWork s t)
include h

theorem SlotWork.trans {u : State} (k : SlotWork t u) : SlotWork s u := ⟨keeps_trans h.frame k.frame, h.gang.trans k.gang⟩

theorem SlotWork.tly : t.tly = s.tly := h.frame .tly (by decide)

/-- A change of HBM alone. -/
theorem SlotWork.stored {mem : List Host.Cell} {hbm : HbmState} : SlotWork s { t with mem := mem, hbm := hbm } :=
  h.trans ⟨fun x hx => by cases x <;> simp_all [same], gangKept_of_regs rfl⟩

theorem SlotWork.setReg {p off : Nat} {w : Word} (ho : off < 0x1000) (hp : p ≠ 0x320 ∨ off < 0x240) : SlotWork s (setReg p off w t) :=
  h.trans ⟨keeps_mono (by simp) (keeps_setReg p off w t), gangKept_setReg w t ho hp⟩

theorem SlotWork.setSticky {p b : Nat} : SlotWork s (setSticky p b t) :=
  h.trans ⟨keeps_mono (by simp) (keeps_setSticky p b t), gangKept_setSticky p b t⟩

theorem SlotWork.stickyIf {c : Bool} {p b : Nat} : SlotWork s (stickyIf c p b t) := .ite h.setSticky h

theorem SlotWork.takeArmed {p b : Nat} : SlotWork s (takeArmed p b t).2 :=
  h.trans ⟨keeps_mono (by simp) (keeps_takeArmed p b t), gangKept_of_regs (keeps_takeArmed p b t .regs (by decide))⟩

theorem SlotWork.foldl {α : Type} {f : State → α → State} {l : List α} (hf : ∀ u x, SlotWork s u → SlotWork s (f u x)) :
    SlotWork s (l.foldl f t) := List.foldlRecOn l f h fun u hu x _ => hf u x hu

/-- A count of a Tally page. -/
theorem SlotWork.countTly {d k n : Nat} (hd : d < 4) (hk : k < 11) : SlotWork s (countK (tlyPage d) R.TLY_CNT k n t) :=
  h.setReg (by simp only [R.TLY_CNT]; omega) (.inl (by simp only [tlyPage]; omega))

theorem SlotWork.countHbm {i k n : Nat} (hk : k < 8) : SlotWork s (countK (hbmPage i) R.HBM_CNT k n t) :=
  h.setReg (by simp only [R.HBM_CNT]; omega) (.inr (by simp only [R.HBM_CNT]; omega))

/-- An access of HBM begins: it may be of the reserved span, and is counted (R75, R329). -/
theorem SlotWork.served {c : Bool} {a n : Nat} : SlotWork s (countServed a n (Machine.stickyIf c (hbmPage (stackOf a)) S.HBM_RESERVED_ACCESS
    (Machine.takeArmed (hbmPage (stackOf a)) S.HBM_RESERVED_ACCESS t).2)) :=
  h.takeArmed.stickyIf.countHbm (by decide)

theorem SlotWork.reportUncorr {a : Nat} : SlotWork s (reportUncorr a t) :=
  ((h.setSticky.setReg (by decide) (.inr (by decide))).setReg (by decide) (.inr (by decide))).countHbm (by decide)

theorem SlotWork.hbmRead {a n : Nat} : SlotWork s (hbmRead a n t).2 :=
  .ite_snd h (.ite_snd h (.ite_snd h.served (h.served.foldl fun _ _ h => h.reportUncorr)))

theorem SlotWork.hbmStore {a : Nat} {l : List Byte} : SlotWork s (hbmStore a l t) := by
  induction l generalizing a t with
  | nil => exact h
  | cons b l ih => exact ih (.ite h h.stored)

theorem SlotWork.unpoison {a n : Nat} : SlotWork s (unpoison a n t) := .ite h h.stored

theorem SlotWork.hbmWrite {a : Nat} {l : List Byte} : SlotWork s (hbmWrite a l t).2 := by
  unfold Machine.hbmWrite
  refine .ite_snd h (.ite_snd h ?_)
  split
  · exact SlotWork.countHbm (h.foldl fun _ _ h => h.setSticky) (by decide)
  · exact .ite h.served h.served.hbmStore.unpoison

theorem SlotWork.readBlocks {float : Bool} {a n : Nat} : SlotWork s (readBlocks float a n t).2 := by
  induction n generalizing a t with
  | zero => exact h
  | succ n ih => exact ih h.hbmRead

theorem SlotWork.putSlot {c : TlyCtx} {g : Integ} {q : SlotId} {v : SlotVal} : SlotWork s (putSlot c g q v t) := h.hbmWrite

variable {d : Nat} (hd : d < 4)
include hd

theorem SlotWork.notePoisoned {n : Nat} : SlotWork s (notePoisoned d n t) := .ite h (h.setSticky.setSticky.countTly hd (by decide))

theorem SlotWork.loadSlot {float : Bool} {x : SlotHdr} {l : List (Bool × List Code48)} : SlotWork s (loadSlot d float x l t).2 :=
  h.notePoisoned hd

theorem SlotWork.preloadSlot {c : TlyCtx} {g : Integ} {q : SlotId} : SlotWork s (preloadSlot d c g q t).2 :=
  .ite_snd h (.ite_snd (h.hbmRead.loadSlot hd) (h.hbmRead.readBlocks.loadSlot hd))

theorem SlotWork.takeSlot {c : TlyCtx} {g : Integ} {q : SlotId} : SlotWork s (takeSlot d c g q t).2 :=
  .ite_snd (h.hbmRead.preloadSlot hd)
    (have k := h.hbmRead.stickyIf.readBlocks
     .ite (SlotWork.putSlot (k.notePoisoned hd)) k)

end

end Sys2Proof.Machine
end

section
/-! PROOFS. Reads, writes and requests of a Tally context (R229, R235, R290, R475). -/

namespace Sys2Proof.Machine

/-! ## The commands (R229, R473) -/

theorem not_guarded_ctxCtrl {d : Nat} (hd : d < 4) : regGuarded (tlyPage d) R.TLY_CTX_CTRL = false := by decide +revert

theorem tlyPage_low {d : Nat} (hd : d < 4) : tlyPage d < 0x230 := by simp only [tlyPage]; omega

theorem tlyPage_plain {d : Nat} (hd : d < 4) : ¬ eventPage (tlyPage d) := eventPage_high (tlyPage_low hd)

theorem bitOf_or_set {w : Word} {b : Nat} (v : Word) (h : bitOf w b = true) : bitOf (v ||| w) b = true := by
  rw [bitOf_or, h, Bool.or_true]

theorem bitOf_or_clear {v w : Word} {b : Nat} (hv : bitOf v b = false) (hw : bitOf w b = false) : bitOf (v ||| w) b = false := by
  rw [bitOf_or, hv, hw, Bool.or_false]

section
variable {m d : Nat} {v : Word} {s : State} (hd : d < 4)
include hd

/-- An accepted write of TLY_CTX_CTRL is the acts of its bits on the counted state, in bit order. -/
theorem ctxCtrl_acts {w : Word} {b0 b1 b3 b4 : Bool} (j : judge s m (tlyPage d) R.TLY_CTX_CTRL 8 w = .ok)
    (h0 : bitOf w 0 = b0) (h1 : bitOf w 1 = b1) (h3 : bitOf w 3 = b3) (h4 : bitOf w 4 = b4) :
    guardedWrite m (tlyPage d) R.TLY_CTX_CTRL w (writeCtxCtrl d w) s =
      let read := if b0 then ctxRead d (counted0 m s) else counted0 m s
      let written := if b1 then ctxWrite d read else read
      let started := if b3 then ctxRequest d true written else written
      if b4 then ctxRequest d false started else started := by
  subst h0 h1 h3 h4
  exact guardedWrite_plain j (not_guarded_ctxCtrl hd)

theorem exec_tlyCtxRead (j : judge s m (tlyPage d) R.TLY_CTX_CTRL 8 (v ||| 1#64) = .ok)
    (h1 : bitOf v 1 = false) (h3 : bitOf v 3 = false) (h4 : bitOf v 4 = false) :
    exec (.tlyCtxRead m d v) s = .next (ctxRead d (counted0 m s)) :=
  congrArg Host.Outcome.next (ctxCtrl_acts hd j (bitOf_or_set v (by decide)) (bitOf_or_clear h1 (by decide)) (bitOf_or_clear h3 (by decide))
    (bitOf_or_clear h4 (by decide)))

theorem exec_tlyCtxWrite (j : judge s m (tlyPage d) R.TLY_CTX_CTRL 8 (v ||| 2#64) = .ok)
    (h0 : bitOf v 0 = false) (h3 : bitOf v 3 = false) (h4 : bitOf v 4 = false) :
    exec (.tlyCtxWrite m d v) s = .next (ctxWrite d (counted0 m s)) :=
  congrArg Host.Outcome.next (ctxCtrl_acts hd j (bitOf_or_clear h0 (by decide)) (bitOf_or_set v (by decide)) (bitOf_or_clear h3 (by decide))
    (bitOf_or_clear h4 (by decide)))

theorem exec_tlyStart (j : judge s m (tlyPage d) R.TLY_CTX_CTRL 8 (v ||| 8#64) = .ok)
    (h0 : bitOf v 0 = false) (h1 : bitOf v 1 = false) (h4 : bitOf v 4 = false) :
    exec (.tlyStart m d v) s = .next (ctxRequest d true (counted0 m s)) :=
  congrArg Host.Outcome.next (ctxCtrl_acts hd j (bitOf_or_clear h0 (by decide)) (bitOf_or_clear h1 (by decide)) (bitOf_or_set v (by decide))
    (bitOf_or_clear h4 (by decide)))

theorem exec_tlyStop (j : judge s m (tlyPage d) R.TLY_CTX_CTRL 8 (v ||| 16#64) = .ok)
    (h0 : bitOf v 0 = false) (h1 : bitOf v 1 = false) (h3 : bitOf v 3 = false) :
    exec (.tlyStop m d v) s = .next (ctxRequest d false (counted0 m s)) :=
  congrArg Host.Outcome.next (ctxCtrl_acts hd j (bitOf_or_clear h0 (by decide)) (bitOf_or_clear h1 (by decide)) (bitOf_or_clear h3 (by decide))
    (bitOf_or_set v (by decide)))

end

/-! ## The counted state -/

@[simp] theorem ctxOf_counted0 (m d i : Nat) (s : State) : ctxOf (counted0 m s) d i = ctxOf s d i :=
  ctxOf_congr ((changesOnly_counted0 m s).same .tly (by decide)) d i

theorem reg_counted0_tly {m d off : Nat} (s : State) (hd : d < 4) (ho : off < 0x1000) :
    reg (counted0 m s) (tlyPage d) off = reg s (tlyPage d) off := reg_counted0 s ho (.inl (by simp only [tlyPage]; omega))

theorem ctxAddr_counted0 {m d : Nat} (s : State) (hd : d < 4) : ctxAddr (counted0 m s) d = ctxAddr s d :=
  fld_of_reg (reg_counted0_tly s hd (by decide))

/-- The words of a context in its window. -/
def ctxWindow (d : Nat) (s : State) : List Word := regsFrom s (tlyPage d) R.TLY_CTX_DATA 7

theorem ctxWindow_counted0 {m d : Nat} (s : State) (hd : d < 4) : ctxWindow d (counted0 m s) = ctxWindow d s :=
  List.map_congr_left fun k hk => reg_counted0_tly s hd (by
    have := List.mem_range.mp hk
    simp only [R.TLY_CTX_DATA]
    omega)

theorem gangKept_counted0 (m : Nat) (s : State) : gangKept s (counted0 m s) :=
  fun _ _ hh => reg_counted0 s (by omega) (.inl (by decide))

theorem any_of_agree {α : Type} {p q : α → Bool} {l : List α} (h : ∀ x ∈ l, p x = q x) : l.any p = l.any q := by
  rw [Bool.eq_iff_iff]
  simp only [List.any_eq_true]
  exact exists_congr fun x => and_congr_right fun hx => by rw [h x hx]

/-- The checks of a write rest on contexts, turn regions, plans and the gang. -/
theorem ctxResult_congr {s t : State} (htly : t.tly = s.tly) (hfpl : t.fpl = s.fpl) (hsch : t.sch = s.sch) (hgang : gangKept s t) (d i : Nat)
    (old new : TlyCtx) : ctxResult t d i old new = ctxResult s d i old new := by
  have hregion (a n r : Nat) (hr : r < 16) : (regionValid t d r && rangesMeet a n (regionBase t d r) (regionSize t d r)) =
      (regionValid s d r && rangesMeet a n (regionBase s d r) (regionSize s d r)) := by
    simp only [regionValid, regionBase, regionSize, regionDepth, regionChans, chanDiv, regionLog2N, regionChBytes, regionBlocks, regionBlkBytes,
      regionT, regionFormat, regionWord, hfpl, hgang.gangMode_eq hr, hgang.gangSize_eq]
  have htaken (a n : Nat) : bufferTaken t d i a n = bufferTaken s d i a n := by
    simp only [bufferTaken, ctxOf_congr htly]
    rw [any_of_agree fun r hr => hregion a n r (List.mem_range.mp hr)]
  have hnamed : ctxNamed t d i = ctxNamed s d i := by simp only [ctxNamed, plansOf, hsch]
  simp only [ctxResult, htaken, hnamed]

theorem ctxResult_counted0 (m d i : Nat) (old new : TlyCtx) (s : State) : ctxResult (counted0 m s) d i old new = ctxResult s d i old new :=
  have h := changesOnly_counted0 m s
  ctxResult_congr (h.same .tly (by decide)) (h.same .fpl (by decide)) (h.same .sch (by decide)) (gangKept_counted0 m s) d i old new

/-! ## READ (R229) -/

theorem ctxWindow_ctxRead (d : Nat) (s : State) : ctxWindow d (ctxRead d s) = (List.range 7).map (ctxOf s d (ctxAddr s d)).word := by
  refine List.map_congr_left fun k hk => ?_
  have hk7 : k < 7 := List.mem_range.mp hk
  rw [ctxRead, reg_setFld_ne _ _ _ (regAddr_ne (by simp only [R.TLY_CTX_DATA]; omega) (by decide)
    (.inr (by simp only [R.TLY_CTX_DATA]; omega))), reg_setRegsFrom (by simp; omega)]
  simp [List.getElem?_append_left, hk7]

theorem changesOnly_ctxRead (d : Nat) (s : State) : changesOnly [.regs] [tlyPage d] s (ctxRead d s) :=
  (changesOnly_setRegsFrom s (by simp [R.TLY_CTX_DATA])).trans (changesOnly_setFld _ _ (by decide))

/-! ## WRITE (R229, R475) -/

/-- The first failing check of the words in the window, for the context addressed. -/
def ctxVerdict (d : Nat) (s : State) : Nat := ctxResult s d (ctxAddr s d) (ctxOf s d (ctxAddr s d)) { words := ctxWindow d s }

theorem ctxVerdict_counted0 {m d : Nat} (s : State) (hd : d < 4) : ctxVerdict d (counted0 m s) = ctxVerdict d s := by
  rw [ctxVerdict, ctxVerdict, ctxResult_counted0, ctxAddr_counted0 s hd, ctxOf_counted0, ctxWindow_counted0 s hd]

theorem ctxResult_lt (s : State) (d i : Nat) (old new : TlyCtx) : ctxResult s d i old new < 16 := by
  unfold ctxResult
  dsimp only
  split_ifs <;> decide

theorem ctxWrite_refused {d : Nat} {s : State} (hd : d < 4) (h : ctxVerdict d s ≠ 0) :
    fld (ctxWrite d s) (tlyPage d) F.TLY_CTX_CTRL_RESULT = ctxVerdict d s ∧ stuck (ctxWrite d s) (tlyPage d) S.CFG_REFUSED ∧
      changesOnly [.regs, .events, .out] [tlyPage d] s (ctxWrite d s) := by
  have hwrite : ctxWrite d s = setSticky (tlyPage d) S.CFG_REFUSED (setFld (tlyPage d) F.TLY_CTX_CTRL_RESULT (ctxVerdict d s) s) :=
    (if_pos h).trans (if_pos (decide_eq_true h))
  rw [hwrite]
  refine ⟨?_, stuck_setSticky _ _ _ (by decide), ?_⟩
  · rw [fld_of_reg ((setSticky_page (tlyPage_plain hd) (by decide)).2 _ (by decide) (by decide)), fld_setFld_self _ _ _ _ (by decide)]
    exact Nat.mod_eq_of_lt (ctxResult_lt s d _ _ _)
  · exact ((changesOnly_setFld _ s (by decide)).mono (by decide) (by simp)).trans ((changesOnly_setSticky _ _ _).mono (by decide) (by simp))

/-- The outcomes of a context are gone, its words are the new ones. -/
def ctxBegun (d : Nat) (s : State) : State :=
  let t := tlyDie s d
  setCtx d (ctxAddr s d) { words := ctxWindow d s } (setTlyDie d { t with
    inbox := t.inbox.filter (fun x => decide (x.ctx ≠ ctxAddr s d))
    reorder := t.reorder.filter (fun x => decide (x.ctx ≠ ctxAddr s d))
    waits := t.waits.filter (fun x => decide (x.ctx ≠ ctxAddr s d)) } (setFld (tlyPage d) F.TLY_CTX_CTRL_RESULT 0 s))

/-- A WRITE that passes: a valid context that stays so takes the words, another begins afresh, its headers initialised once it is
valid. -/
theorem ctxWrite_passed {d : Nat} {s : State} (h : ctxVerdict d s = 0) :
    ctxWrite d s =
      if (ctxOf s d (ctxAddr s d)).valid && bitOf ((ctxWindow d s).getD 0 0) 0 then
        setCtx d (ctxAddr s d) { ctxOf s d (ctxAddr s d) with words := ctxWindow d s } (setFld (tlyPage d) F.TLY_CTX_CTRL_RESULT 0 s)
      else if ({ words := ctxWindow d s } : TlyCtx).valid then initHeaders { words := ctxWindow d s } (ctxBegun d s) else ctxBegun d s := by
  have hresult : ctxResult s d (ctxAddr s d) (ctxOf s d (ctxAddr s d)) { words := regsFrom s (tlyPage d) R.TLY_CTX_DATA 7 } = 0 := h
  unfold ctxWrite
  simp only [hresult, tableResult, stickyIf, ne_eq, not_true_eq_false, decide_false, Bool.false_eq_true, if_false]
  rfl

theorem slotWork_initHeaders (c : TlyCtx) (s : State) : SlotWork s (initHeaders c s) :=
  (SlotWork.refl s).foldl fun _ _ h => h.foldl fun _ _ h => h.foldl fun _ _ h => h.hbmWrite

theorem recordOnly_initHeaders (c : TlyCtx) (s : State) : recordOnly s (initHeaders c s) :=
  (lowKept.refl _ _ s).foldl fun _ _ h => h.foldl fun _ _ h => h.foldl fun _ _ h => recordOnly.hbmWrite h

/-- What a WRITE that passes leaves: RESULT 0, the words in the context addressed, every other context as it was. -/
structure CtxStored (d : Nat) (s t : State) : Prop where
  result : fld t (tlyPage d) F.TLY_CTX_CTRL_RESULT = 0
  words : (ctxOf t d (ctxAddr s d)).words = ctxWindow d s
  others : ∀ i, i ≠ ctxAddr s d → ctxOf t d i = ctxOf s d i
  frame : keeps [.tly, .mem, .hbm, .regs, .armed, .events, .out] s t

/-- A context set over the cleared RESULT, the contexts as they were. -/
theorem ctxStored_setCtx {d : Nat} {c : TlyCtx} {s u : State} (hc : c.words = ctxWindow d s) (hregs : u.regs = (setFld (tlyPage d)
    F.TLY_CTX_CTRL_RESULT 0 s).regs) (hctx : ∀ i, ctxOf u d i = ctxOf s d i) (hu : keeps [.tly, .regs] s u) :
    CtxStored d s (setCtx d (ctxAddr s d) c u) := by
  refine ⟨?_, ?_, fun i hi => ?_, ?_⟩
  · have hreg : reg (setCtx d (ctxAddr s d) c u) (tlyPage d) F.TLY_CTX_CTRL_RESULT.off = _ := reg_congr hregs _ _
    rw [fld_of_reg hreg, fld_setFld_self _ _ _ _ (by decide)]
    rfl
  · rw [ctxOf_setCtx_same, hc]
  · rw [ctxOf_setCtx_ne _ _ _ hi, hctx]
  · exact keeps_mono (by decide) (keeps_trans hu (keeps_mono (by decide) (keeps_setTlyDie _ _ _)))

theorem ctxStored_ctxBegun (d : Nat) (s : State) : CtxStored d s (ctxBegun d s) :=
  ctxStored_setCtx rfl rfl (fun i => by rw [ctxOf, tlyDie_setTlyDie]; rfl)
    (keeps_trans (keeps_mono (by decide) (keeps_setReg _ _ _ s)) (keeps_mono (by decide) (keeps_setTlyDie _ _ _)))

/-- Headers initialised in HBM leave the contexts, and no register of the page but STICKY. -/
theorem CtxStored.initHeaders {d : Nat} {c : TlyCtx} {s t : State} (h : CtxStored d s t) (hd : d < 4) : CtxStored d s (initHeaders c t) := by
  have hwork := slotWork_initHeaders c t
  have hctx (i : Nat) : ctxOf (Machine.initHeaders c t) d i = ctxOf t d i := ctxOf_congr hwork.tly d i
  refine ⟨?_, ?_, fun i hi => ?_, keeps_trans h.frame (keeps_mono (by decide) hwork.frame)⟩
  · rw [fld_of_reg ((recordOnly_initHeaders c t).reg (tlyPage_low hd) (by decide) (by decide))]
    exact h.result
  · rw [hctx, h.words]
  · rw [hctx, h.others i hi]

theorem ctxStored_ctxWrite {d : Nat} {s : State} (hd : d < 4) (h : ctxVerdict d s = 0) : CtxStored d s (ctxWrite d s) := by
  rw [ctxWrite_passed h]
  split
  · exact ctxStored_setCtx rfl rfl (fun _ => rfl) (keeps_mono (by decide) (keeps_setReg _ _ _ s))
  · split
    · exact (ctxStored_ctxBegun d s).initHeaders hd
    · exact ctxStored_ctxBegun d s

/-! ## START and STOP (R235) -/

theorem ctxRequest_invalid {d : Nat} {start : Bool} {s : State} (h : (ctxOf s d (ctxAddr s d)).valid = false) :
    ctxRequest d start s = refuseCfg (tlyPage d) s := if_neg (by simp [h])

/-- A request of a valid context waits for the next batch boundary. -/
theorem ctxRequest_valid {d : Nat} (start : Bool) {s : State} (h : (ctxOf s d (ctxAddr s d)).valid = true) :
    ctxRequest d start s = setCtx d (ctxAddr s d)
      { ctxOf s d (ctxAddr s d) with reqs := (ctxOf s d (ctxAddr s d)).reqs ++ [⟨start, 0⟩] } (setFld (tlyPage d) F.TLY_CTX_CTRL_RESULT 0 s) :=
  if_pos h

/-- What a request accepted on the counted state leaves. -/
theorem ctxRequest_spec {m d : Nat} (start : Bool) {s : State} {c : TlyCtx} (hd : d < 4) (hc : ctxOf s d (ctxAddr s d) = c)
    (hv : c.valid = true) :
    ctxOf (ctxRequest d start (counted0 m s)) d (ctxAddr s d) = { c with reqs := c.reqs ++ [⟨start, 0⟩] } ∧
      (∀ i, i ≠ ctxAddr s d → ctxOf (ctxRequest d start (counted0 m s)) d i = ctxOf s d i) ∧
      changesOnly [.tly, .regs, .wst] [tlyPage d] s (ctxRequest d start (counted0 m s)) := by
  subst hc
  rw [ctxRequest_valid start (by rw [ctxAddr_counted0 s hd, ctxOf_counted0, hv]), ctxAddr_counted0 s hd, ctxOf_counted0]
  refine ⟨ctxOf_setCtx_same _ _ _ _, fun i hi => ?_, ?_⟩
  · exact (ctxOf_setCtx_ne _ _ _ hi).trans (ctxOf_counted0 m d i s)
  · exact (((changesOnly_counted0 m s).mono (by decide) (by simp)).trans ((changesOnly_setFld _ _ (by decide)).mono (by decide) (by simp))).trans
      ((changesOnly_setCtx _ _ _ _).mono (by decide) (by simp))

/-! ## Integration marks (R235, R290) -/

/-- An integration mark at one C-die, with whether one before it was late. -/
def markDie (start : Bool) (o : MarkOcc) (a : Bool × State) (d : Nat) : Bool × State :=
  if (ctxOf a.2 d (o.arg8 % 16)).valid then
    let b := markBoundary a.2 d (ctxOf a.2 d (o.arg8 % 16)).region o.time
    (a.1 || b.2, tallyRequest d (o.arg8 % 16) ⟨start, b.1⟩ a.2)
  else a

theorem markInteg_eq (start : Bool) (o : MarkOcc) (s : State) :
    markInteg start o s = (bitsSet (o.arg64 % 16) 4).foldl (markDie start o) (false, s) := rfl

/-- A mark that has gone on without C-die `d`: its contexts, and where a mark meets its batches, are as before. -/
structure MarkApart (d : Nat) (a b : Bool × State) : Prop where
  die : tlyDie b.2 d = tlyDie a.2 d
  boundary : ∀ r t, markBoundary b.2 d r t = markBoundary a.2 d r t
  late : a.1 = true → b.1 = true

theorem MarkApart.refl (d : Nat) (a : Bool × State) : MarkApart d a a := ⟨rfl, fun _ _ => rfl, id⟩

theorem MarkApart.trans {d : Nat} {a b c : Bool × State} (h : MarkApart d a b) (k : MarkApart d b c) : MarkApart d a c :=
  ⟨k.die.trans h.die, fun r t => (k.boundary r t).trans (h.boundary r t), k.late ∘ h.late⟩

theorem MarkApart.ctxOf_eq {d : Nat} {a b : Bool × State} (h : MarkApart d a b) (i : Nat) : ctxOf b.2 d i = ctxOf a.2 d i := by
  rw [ctxOf, h.die, ← ctxOf]

theorem markApart_markDie {d e : Nat} {start : Bool} {o : MarkOcc} (a : Bool × State) (h : e ≠ d) : MarkApart d a (markDie start o a e) := by
  unfold markDie
  split
  · exact ⟨tlyDie_setCtx_ne _ _ _ h.symm, fun _ _ => rfl, fun ha => by simp [ha]⟩
  · exact .refl d a

/-- What the mark asks of a context of C-die `d`, and whether it comes late there. -/
theorem markDie_spec (start : Bool) (o : MarkOcc) (a : Bool × State) (d : Nat) {c : TlyCtx} (hc : ctxOf a.2 d (o.arg8 % 16) = c) :
    ctxOf (markDie start o a d).2 d (o.arg8 % 16) = (if c.valid
      then { c with reqs := c.reqs ++ [⟨start, (markBoundary a.2 d c.region o.time).1⟩] } else c) ∧
    (∀ j, j ≠ o.arg8 % 16 → ctxOf (markDie start o a d).2 d j = ctxOf a.2 d j) ∧
    (c.valid = true → (markDie start o a d).1 = (a.1 || (markBoundary a.2 d c.region o.time).2)) := by
  subst hc
  unfold markDie
  split
  · exact ⟨ctxOf_setCtx_same _ _ _ _, fun j hj => ctxOf_setCtx_ne _ _ _ hj, fun _ => rfl⟩
  · exact ⟨rfl, fun _ _ => rfl, fun h => absurd h ‹_›⟩

/-- A mark names C-die `d` where its bit is set, once. -/
theorem count_dies {x d : Nat} (hd : d < 4) (hbit : x.testBit d = true) : (bitsSet (x % 16) 4).count d = 1 := by
  refine List.count_eq_one_of_mem (nodup_bitsSet _ _) (mem_bitsSet.mpr ⟨hd, ?_⟩)
  rw [show (16 : Nat) = 2 ^ 4 by decide, Nat.testBit_mod_two_pow, hbit]
  simp [hd]

theorem testBit_of_mem_dies {x d : Nat} (h : d ∈ bitsSet (x % 16) 4) : d < 4 ∧ x.testBit d = true := by
  obtain ⟨hd, hbit⟩ := mem_bitsSet.mp h
  rw [show (16 : Nat) = 2 ^ 4 by decide, Nat.testBit_mod_two_pow, Bool.and_eq_true] at hbit
  exact ⟨hd, hbit.2⟩

/-- What an integration mark leaves of the contexts of C-die `d`. -/
theorem markInteg_spec (start : Bool) (o : MarkOcc) {s : State} {d : Nat} {c : TlyCtx} (hd : d < 4) (hc : ctxOf s d (o.arg8 % 16) = c) :
    ctxOf (markInteg start o s).2 d (o.arg8 % 16) = (if o.arg64.testBit d && c.valid
      then { c with reqs := c.reqs ++ [⟨start, (markBoundary s d c.region o.time).1⟩] } else c) ∧
    (∀ j, j ≠ o.arg8 % 16 → ctxOf (markInteg start o s).2 d j = ctxOf s d j) ∧
    (o.arg64.testBit d = true → c.valid = true → (markBoundary s d c.region o.time).2 = true → (markInteg start o s).1 = true) := by
  rw [markInteg_eq]
  cases hbit : o.arg64.testBit d with
  | false =>
    have hapart : MarkApart d (false, s) ((bitsSet (o.arg64 % 16) 4).foldl (markDie start o) (false, s)) := by
      refine foldl_rel (.refl d) .trans (fun a e he => markApart_markDie a ?_) (false, s)
      rintro rfl
      exact absurd (testBit_of_mem_dies he).2 (by simp [hbit])
    exact ⟨by rw [hapart.ctxOf_eq, hc]; rfl, fun j _ => hapart.ctxOf_eq j, fun h => by simp at h⟩
  | true =>
    obtain ⟨b, hb, hafter⟩ := foldl_at (.refl d) .trans (count_dies hd hbit)
      (fun a e he => markApart_markDie (start := start) (o := o) a he) (false, s)
    obtain ⟨hctx, hothers, hlate⟩ := markDie_spec start o b d ((hb.ctxOf_eq _).trans hc)
    rw [hb.boundary] at hctx hlate
    refine ⟨by rw [hafter.ctxOf_eq, hctx, Bool.true_and], fun j hj => ?_, fun _ hv hl => hafter.late ?_⟩
    · rw [hafter.ctxOf_eq, hothers j hj, hb.ctxOf_eq]
    · rw [hlate hv, hl, Bool.or_true]

theorem changesOnly_markInteg (start : Bool) (o : MarkOcc) (s : State) : changesOnly [.tly] [] s (markInteg start o s).2 := by
  rw [markInteg_eq]
  refine foldl_rel (R := fun a b => changesOnly [.tly] [] a.2 b.2) (fun a => .refl _ _ a.2) .trans (fun a d _ => ?_) (false, s)
  unfold markDie
  split
  · exact changesOnly_setCtx _ _ _ _
  · exact .refl _ _ _

/-- A mark of one C-die is late where its boundary is. -/
theorem markInteg_single {start : Bool} {o : MarkOcc} {s : State} {d : Nat} {c : TlyCtx} (hb : bitsSet (o.arg64 % 16) 4 = [d])
    (hc : ctxOf s d (o.arg8 % 16) = c) (hv : c.valid = true) : (markInteg start o s).1 = (markBoundary s d c.region o.time).2 := by
  rw [markInteg_eq, hb, List.foldl_cons, List.foldl_nil, (markDie_spec start o (false, s) d hc).2.2 hv, Bool.false_or]

/-- What an integration mark leaves once it has completed. -/
structure MarkedInteg (start : Bool) (h d : Nat) (o : MarkOcc) (c : TlyCtx) (s t : State) : Prop where
  ctx : ctxOf t d (o.arg8 % 16) = (if o.arg64.testBit d && c.valid
    then { c with reqs := c.reqs ++ [⟨start, (markBoundary s d c.region o.time).1⟩] } else c)
  others : ∀ j, j ≠ o.arg8 % 16 → ctxOf t d j = ctxOf s d j
  late : o.arg64.testBit d = true → c.valid = true → (markBoundary s d c.region o.time).2 = true → stuck t mrkPage S.MRK_LATE
  report : bitsSet (o.arg64 % 16) 4 = [d] → c.valid = true → s.mrk.done.length < 256 →
    ⟨h, max o.status (if (markBoundary s d c.region o.time).2 then 2 else 1), timeNs o.time⟩ ∈ t.mrk.done
  frame : changesOnly [.tly, .mrk, .regs, .events, .out] [mrkPage] s t

theorem sampleAction_markInteg {start : Bool} {h a d : Nat} {o : MarkOcc} {c : TlyCtx} {s : State} (hd : d < 4) (ho : markOcc s h a = some o)
    (hc : ctxOf s d (o.arg8 % 16) = c) : MarkedInteg start h d o c s (sampleAction h a (markInteg start) s) := by
  obtain ⟨hctx, hothers, hlate⟩ := markInteg_spec start o hd hc
  have hreq := changesOnly_markInteg start o s
  have hnote := changesOnly_stickyIf (markInteg start o s).1 mrkPage S.MRK_LATE (markInteg start o s).2
  obtain ⟨hcomplete, hsticky, hreport⟩ := markComplete_spec o (if (markInteg start o s).1 then mkLate else mkDone)
    (noteLate (markInteg start o s).1 (markInteg start o s).2)
  have hafter := (hnote.mono (K := [.mrk, .regs, .events, .out]) (by decide) (fun _ h => h)).trans hcomplete
  have hkept (i : Nat) := ctxOf_congr (hafter.same .tly (by decide)) d i
  rw [sampleAction_some ho]
  refine ⟨(hkept _).trans hctx, fun j hj => (hkept j).trans (hothers j hj), fun hbit hv hl => hsticky _ _ ?_, fun hb hv hlen => ?_, ?_⟩
  · rw [hlate hbit hv hl]
    exact stuck_setSticky _ _ _ (by decide)
  · have hmrk : (noteLate (markInteg start o s).1 (markInteg start o s).2).mrk = s.mrk :=
      ((hreq.mono (K := [.tly, .regs, .out, .events]) (k := [mrkPage]) (by decide) (by simp)).trans
        (hnote.mono (by decide) (by simp))).same .mrk (by decide)
    rw [← markInteg_single hb hc hv (start := start), ← markOcc_handle ho]
    exact hreport (by rw [hmrk]; exact hlen)
  · exact (hreq.mono (by decide) (by simp)).trans (hafter.mono (by decide) (by simp))

/-- A mark of one C-die whose context is valid asks for a start or an end there. -/
theorem MarkedInteg.single {start : Bool} {h d : Nat} {o : MarkOcc} {c : TlyCtx} {s t : State} (k : MarkedInteg start h d o c s t)
    (hb : bitsSet (o.arg64 % 16) 4 = [d]) (hv : c.valid = true) (hlen : s.mrk.done.length < 256) :
    ctxOf t d (o.arg8 % 16) = { c with reqs := c.reqs ++ [⟨start, (markBoundary s d c.region o.time).1⟩] } ∧
      (∀ i, i ≠ o.arg8 % 16 → ctxOf t d i = ctxOf s d i) ∧
      ⟨h, max o.status (if (markBoundary s d c.region o.time).2 then 2 else 1), timeNs o.time⟩ ∈ t.mrk.done ∧
      keeps [.tly, .mrk, .regs, .events, .out] s t ∧ sameRegs [mrkPage] s t := by
  have hbit : o.arg64.testBit d = true := (testBit_of_mem_dies (hb ▸ List.mem_singleton_self d)).2
  exact ⟨by rw [k.ctx, hbit, hv]; rfl, k.others, k.report hb hv hlen, k.frame⟩

/-- A die that a mark names alone is a C-die. -/
theorem lt_of_dies {x d : Nat} (hb : bitsSet (x % 16) 4 = [d]) : d < 4 := (testBit_of_mem_dies (hb ▸ List.mem_singleton_self d)).1

/-! ## The clauses -/

/-- Settles O37: a command is its act on the counted state; a mark reaches each of its C-dies once, as one step of a fold whose other steps
leave that C-die alone. -/
theorem tallyContexts : Obligations.TallyContexts := by
  unfold Obligations.TallyContexts
  refine ⟨?read, ?refused, ?stored, ?start, ?stop, ?invalid, ?intStart, ?intEnd, ?marks⟩
  case read =>
    intro s m d v hd j h1 h3 h4
    refine ⟨_, exec_tlyCtxRead hd j h1 h3 h4, ?_, ((changesOnly_counted0 m s).mono (by decide) (by simp)).trans
      ((changesOnly_ctxRead d _).mono (by decide) (by simp))⟩
    have hread := ctxWindow_ctxRead d (counted0 m s)
    rwa [ctxAddr_counted0 s hd, ctxOf_counted0] at hread
  case refused =>
    rintro s m d r v hd j h0 h3 h4 rfl hr
    have hverdict := ctxVerdict_counted0 (m := m) s hd
    obtain ⟨hresult, hstuck, hframe⟩ := ctxWrite_refused (s := counted0 m s) hd (hverdict ▸ hr)
    exact ⟨_, exec_tlyCtxWrite hd j h0 h3 h4, hresult.trans hverdict, hstuck,
      ((changesOnly_counted0 m s).mono (by decide) (by simp)).trans (hframe.mono (by decide) (by simp))⟩
  case stored =>
    intro s m d v hd j h0 h3 h4 hr
    obtain ⟨hresult, hwords, hothers, hframe⟩ := ctxStored_ctxWrite (s := counted0 m s) hd ((ctxVerdict_counted0 s hd).trans hr)
    rw [ctxAddr_counted0 s hd] at hwords hothers
    refine ⟨_, exec_tlyCtxWrite hd j h0 h3 h4, hresult, hwords.trans (ctxWindow_counted0 s hd), fun i hi => ?_,
      keeps_trans (keeps_mono (by decide) (changesOnly_counted0 m s).1) (keeps_mono (by decide) hframe)⟩
    rw [hothers i hi, ctxOf_counted0]
  case start =>
    intro s m d v c hd j h0 h1 h4 hc hv
    exact ⟨_, exec_tlyStart hd j h0 h1 h4, ctxRequest_spec true hd hc hv⟩
  case stop =>
    intro s m d v c hd j h0 h1 h3 hc hv
    exact ⟨_, exec_tlyStop hd j h0 h1 h3, ctxRequest_spec false hd hc hv⟩
  case invalid =>
    intro s m d v hd j h0 h1 h4 hv
    have hcounted := changesOnly_counted0 m s
    have hrefuse : changesOnly [.regs, .out, .events, .wst] [tlyPage d] (counted0 m s) (refuseCfg (tlyPage d) (counted0 m s)) :=
      ((changesOnly_setSticky _ _ _).mono (by decide) (by simp)).trans ((changesOnly_setWst 5 _).mono (by decide) (by simp))
    have hframe := (hcounted.mono (by decide) (by simp)).trans hrefuse
    refine ⟨_, exec_tlyStart hd j h0 h1 h4, ?_⟩
    rw [ctxRequest_invalid (by rw [ctxAddr_counted0 s hd, ctxOf_counted0, hv])]
    exact ⟨(refuseCfg_page (tlyPage_plain hd) _).1, rfl, hframe.same .tly (by decide), hframe.2⟩
  case intStart =>
    intro s h d c o ho hb hc hv hlen
    exact ⟨_, rfl, (sampleAction_markInteg (lt_of_dies hb) ho hc).single hb hv hlen⟩
  case intEnd =>
    intro s h d c o ho hb hc hv hlen
    exact ⟨_, rfl, (sampleAction_markInteg (lt_of_dies hb) ho hc).single hb hv hlen⟩
  case marks =>
    rintro s h k d b i c o ho hd (⟨rfl, rfl, rfl⟩ | ⟨rfl, rfl, rfl⟩) hc
    · obtain ⟨hctx, hothers, hlate, -, hframe⟩ := sampleAction_markInteg (start := true) hd ho hc
      exact ⟨_, rfl, hctx, hothers, hlate, hframe⟩
    · obtain ⟨hctx, hothers, hlate, -, hframe⟩ := sampleAction_markInteg (start := false) hd ho hc
      exact ⟨_, rfl, hctx, hothers, hlate, hframe⟩

end Sys2Proof.Machine
end

section
/-! PROOFS. The end of an integration: what settling, combining and sending its slots leave of it (R237, R240, R265, R266). -/

namespace Sys2Proof.Machine

/-! ## An integration changed in place -/

theorem integ_setInteg {c : TlyCtx} {g x : Integ} (h : c.integ g.num = some x) : (c.setInteg g).integ g.num = some g := by
  simp only [TlyCtx.integ, TlyCtx.setInteg] at h ⊢
  generalize c.ints = l at h ⊢
  induction l with
  | nil => simp at h
  | cons y l ih =>
    by_cases hy : y.num = g.num
    · simp [hy]
    · rw [List.find?_cons_of_neg (by simpa using hy)] at h
      simpa [hy] using ih h

theorem num_of_integ {c : TlyCtx} {n : Nat} {g : Integ} (h : c.integ n = some g) : g.num = n := by
  simpa using List.find?_some h

/-- The oldest integration is the one of its number. -/
theorem integ_head {c : TlyCtx} {g : Integ} {l : List Integ} (h : c.ints = g :: l) : c.integ g.num = some g := by
  rw [TlyCtx.integ, h, List.find?_cons_of_pos (by simp)]

/-- What changes integrations of context `ctx` of C-die `d` and works on slots leaves: the other contexts, the words of this one, and what
waits in the reorder store. -/
structure IntegFrame (d ctx : Nat) (s t : State) : Prop where
  frame : keeps [.tly, .mem, .hbm, .regs, .armed, .events, .out] s t
  gang : gangKept s t
  others : ∀ i, i ≠ ctx → ctxOf t d i = ctxOf s d i
  reorder : (tlyDie t d).reorder = (tlyDie s d).reorder
  words : (ctxOf t d ctx).words = (ctxOf s d ctx).words

/-- Integration `n` has become `g`, over such a frame. -/
structure IntegSet (d ctx n : Nat) (g : Integ) (s t : State) : Prop extends IntegFrame d ctx s t where
  integ : (ctxOf t d ctx).integ n = some g

/-- An integration with other notes of the slots preloaded, and of those that turned VOID or infinite (R230, R234). -/
def Integ.marked (g : Integ) (touched voided infed : List Nat) : Integ := { g with touched := touched, voided := voided, infed := infed }

/-- Integration `n` is at most marked. -/
structure IntegMarked (d ctx n : Nat) (s t : State) : Prop extends IntegFrame d ctx s t where
  integ : ∀ g, (ctxOf s d ctx).integ n = some g → ∃ touched voided infed,
    (ctxOf t d ctx).integ n = some (g.marked touched voided infed)

section
variable {d ctx n : Nat} {s t u : State}

theorem IntegFrame.refl (d ctx : Nat) (s : State) : IntegFrame d ctx s s := ⟨keeps_refl _ s, fun _ _ _ => rfl, fun _ _ => rfl, rfl, rfl⟩

theorem IntegFrame.trans (h : IntegFrame d ctx s t) (k : IntegFrame d ctx t u) : IntegFrame d ctx s u :=
  ⟨keeps_trans h.frame k.frame, h.gang.trans k.gang, fun i hi => (k.others i hi).trans (h.others i hi), k.reorder.trans h.reorder,
    k.words.trans h.words⟩

theorem SlotWork.integFrame (h : SlotWork s t) : IntegFrame d ctx s t :=
  ⟨keeps_mono (by decide) h.frame, h.gang, fun i _ => ctxOf_congr h.tly d i, by rw [tlyDie_congr h.tly], by rw [ctxOf_congr h.tly]⟩

theorem IntegMarked.refl (d ctx n : Nat) (s : State) : IntegMarked d ctx n s s :=
  ⟨.refl d ctx s, fun g hg => ⟨g.touched, g.voided, g.infed, hg⟩⟩

theorem IntegMarked.trans (h : IntegMarked d ctx n s t) (k : IntegMarked d ctx n t u) : IntegMarked d ctx n s u := by
  refine ⟨h.toIntegFrame.trans k.toIntegFrame, fun g hg => ?_⟩
  obtain ⟨_, _, _, ht⟩ := h.integ g hg
  obtain ⟨touched, voided, infed, hu⟩ := k.integ _ ht
  exact ⟨touched, voided, infed, hu⟩

theorem IntegMarked.work (h : IntegMarked d ctx n s t) (k : SlotWork t u) : IntegMarked d ctx n s u :=
  ⟨h.toIntegFrame.trans k.integFrame, fun g hg => by rw [ctxOf_congr k.tly]; exact h.integ g hg⟩

/-- A change of the integration of a number. -/
theorem updInteg_set {g : Integ} {f : Integ → Integ} (hg : (ctxOf s d ctx).integ n = some g) (hf : (f g).num = n) :
    IntegSet d ctx n (f g) s (updInteg d ctx n f s) := by
  have hset : updInteg d ctx n f s = setCtx d ctx ((ctxOf s d ctx).setInteg (f g)) s := by
    simp only [updInteg, hg]
  rw [hset]
  refine ⟨⟨keeps_mono (by decide) (keeps_setTlyDie _ _ _), gangKept_of_regs rfl, fun i hi => ctxOf_setCtx_ne _ _ _ hi,
    reorder_setCtx _ _ _ _, ?_⟩, ?_⟩
  · rw [ctxOf_setCtx_same]
    rfl
  · subst hf
    rw [ctxOf_setCtx_same]
    exact integ_setInteg hg

/-- Without that integration there is nothing to change. -/
theorem updInteg_none {f : Integ → Integ} (h : (ctxOf s d ctx).integ n = none) : updInteg d ctx n f s = s := by
  simp only [updInteg, h]

/-- A change that only marks slots. -/
theorem IntegMarked.mark {f : Integ → Integ} (h : IntegMarked d ctx n s t)
    (hf : ∀ g, ∃ touched voided infed, f g = g.marked touched voided infed) : IntegMarked d ctx n s (updInteg d ctx n f t) := by
  refine h.trans ?_
  cases hg : (ctxOf t d ctx).integ n with
  | none =>
    rw [updInteg_none hg]
    exact .refl d ctx n t
  | some g =>
    obtain ⟨touched, voided, infed, hfg⟩ := hf g
    have hset := updInteg_set hg (f := f) (by rw [hfg]; exact (num_of_integ hg : g.num = n))
    refine ⟨hset.toIntegFrame, fun x hx => ⟨touched, voided, infed, ?_⟩⟩
    obtain rfl : g = x := Option.some.inj (hg.symm.trans hx)
    rw [hset.integ, hfg]

theorem IntegMarked.ite {c : Prop} {_ : Decidable c} (h : IntegMarked d ctx n s t) (k : IntegMarked d ctx n s u) :
    IntegMarked d ctx n s (if c then t else u) := by
  split <;> assumption

theorem IntegMarked.foldl {α : Type} {f : State → α → State} {l : List α} (h : IntegMarked d ctx n s t)
    (hf : ∀ u x, IntegMarked d ctx n s u → IntegMarked d ctx n s (f u x)) : IntegMarked d ctx n s (l.foldl f t) :=
  List.foldlRecOn l f h fun u hu x _ => hf u x hu

/-! ## Slots settled, combined and short (R234, R237, R240, R266) -/

theorem SlotWork.readPartials {c : TlyCtx} {g : Integ} {l : List SlotId} (h : SlotWork s t) (hd : d < 4) :
    SlotWork s (readPartials d c g l t).2 := by
  induction l generalizing t with
  | nil => exact h
  | cons q l ih => exact ih (h.takeSlot hd)

variable (h : IntegMarked d ctx n s t) (hd : d < 4)
include h hd

theorem IntegMarked.countTly {k c : Nat} (hk : k < 11) : IntegMarked d ctx n s (countK (tlyPage d) R.TLY_CNT k c t) :=
  h.work ((SlotWork.refl t).countTly hd hk)

theorem IntegMarked.takeSlot {c : TlyCtx} {g : Integ} {q : SlotId} : IntegMarked d ctx n s (takeSlot d c g q t).2 :=
  h.work ((SlotWork.refl t).takeSlot hd)

theorem IntegMarked.noteFirst {e nv ni : Nat} : IntegMarked d ctx n s (noteFirst d ctx n e nv ni t) := by
  have hvoid : IntegMarked d ctx n s (if nv = 0 then t else countK (tlyPage d) R.TLY_CNT 8 nv
      (if e ∈ (((ctxOf t d ctx).integ n).map (·.voided)).getD [] then t else
        updInteg d ctx n (fun g => { g with voided := withElem g.voided e }) (setSticky (tlyPage d) S.TLY_SLOT_VOID t))) :=
    .ite h ((IntegMarked.ite h ((h.work (SlotWork.refl t).setSticky).mark fun g => ⟨_, _, _, rfl⟩)).countTly hd (by decide))
  exact .ite hvoid ((IntegMarked.ite hvoid ((hvoid.work (SlotWork.refl _).setSticky).mark fun g => ⟨_, _, _, rfl⟩)).countTly hd (by decide))

theorem IntegMarked.settleSlot {flags batches : Nat} {q : SlotId} : IntegMarked d ctx n s (settleSlot d ctx flags batches n t q) := by
  unfold Machine.settleSlot
  dsimp only
  split
  · exact h
  · exact ((h.takeSlot hd).work (SlotWork.refl _).putSlot).mark fun g => ⟨_, _, _, rfl⟩

theorem IntegMarked.combineTile {q : SlotId} : IntegMarked d ctx n s (combineTile d ctx n t q) := by
  unfold Machine.combineTile
  dsimp only
  split
  · exact h
  · refine .ite h ?_
    have hread {c : TlyCtx} {g : Integ} {l : List SlotId} : SlotWork t (Machine.readPartials d c g l t).2 := (SlotWork.refl t).readPartials hd
    split
    · exact (h.work hread.putSlot).noteFirst hd
    · exact h.work hread

theorem IntegMarked.markLost {batches : Nat} {q : SlotId} : IntegMarked d ctx n s (markLost d ctx n batches t q) := by
  unfold Machine.markLost
  dsimp only
  split
  · exact h
  · exact (h.takeSlot hd).work (SlotWork.refl _).putSlot

end

end Sys2Proof.Machine
end

section
/-! PROOFS. Integrations that close, combine and give partials up (R237, R240, R265, R266). -/

namespace Sys2Proof.Machine

/-! ## Closing (R237 steps 1 and 2) -/

/-- With no partial held for the context there is none to look at again. -/
theorem retryPartials_none {d ctx : Nat} {s : State} (last : Bool) (h : ∀ x ∈ s.zhk.early, ¬ (x.die = d ∧ x.ctx = ctx)) :
    retryPartials last d ctx s = s := by
  have hmine : s.zhk.early.filter (fun x => decide (x.die = d ∧ x.ctx = ctx)) = [] :=
    List.filter_eq_nil_iff.mpr fun x hx => by simpa using h x hx
  have hrest : s.zhk.early.filter (fun x => !decide (x.die = d ∧ x.ctx = ctx)) = s.zhk.early :=
    List.filter_eq_self.mpr fun x hx => by rw [decide_eq_false (h x hx)]; rfl
  unfold retryPartials
  dsimp only
  rw [hmine, hrest]
  rfl

/-- What can close has neither closed nor been skipped. -/
theorem open_of_closable {s : State} {d : Nat} {c : TlyCtx} {g : Integ} (h : closable s d c g = true) :
    g.closed = false ∧ g.skipped = false := by
  unfold closable at h
  split at h
  · simp at h
  · simp only [Bool.and_eq_true, Bool.not_eq_true'] at h
    exact h.1.1.1.1

theorem not_closable {s : State} {d : Nat} {c : TlyCtx} {g : Integ} (h : g.closed = true) : ¬ closable s d c g = true :=
  fun hc => absurd (open_of_closable hc).1 (by simp [h])

/-- An integration that has closed at batch `e`. -/
def Integ.closedAt (g : Integ) (e : Nat) : Integ := { g with stop := some e, closed := true }

theorem IntegFrame.region_eq {d ctx : Nat} {s t : State} (h : IntegFrame d ctx s t) : (ctxOf t d ctx).region = (ctxOf s d ctx).region := by
  simp only [TlyCtx.region, TlyCtx.word, h.words]

/-- A close fixes the end; settling and combining the slots at most marks the integration. -/
theorem closeInteg_spec {d ctx n e : Nat} {s : State} {g : Integ} (hd : d < 4) (hg : (ctxOf s d ctx).integ n = some g)
    (he : g.ending (ctxOf s d ctx) = some e) (hearly : ∀ x ∈ s.zhk.early, ¬ (x.die = d ∧ x.ctx = ctx)) :
    ∃ touched voided infed, IntegSet d ctx n ((g.closedAt e).marked touched voided infed) s (closeInteg d ctx n s) := by
  have hnum : g.num = n := num_of_integ hg
  simp only [closeInteg, hg, he]
  have hstop := updInteg_set hg (f := fun g => { g with stop := some e }) hnum
  generalize updInteg d ctx n (fun g => { g with stop := some e }) s = t at hstop ⊢
  have hmarked : IntegMarked d ctx n t (g.finals.foldl (combineTile d ctx n)
      (g.slots.foldl (settleSlot d ctx (closeFlags s d (ctxOf s d ctx) g e) (e - g.first) n) t)) :=
    ((IntegMarked.refl d ctx n t).foldl fun _ _ h => h.settleSlot hd).foldl fun _ _ h => h.combineTile hd
  generalize g.finals.foldl (combineTile d ctx n) _ = u at hmarked ⊢
  obtain ⟨touched, voided, infed, hu⟩ := hmarked.integ _ hstop.integ
  have hclosed := updInteg_set hu (f := fun g => { g with closed := true }) hnum
  have hframe := (hstop.toIntegFrame.trans hmarked.toIntegFrame).trans hclosed.toIntegFrame
  rw [retryPartials_none _ (by rw [hframe.frame .zhk (by decide)]; exact hearly)]
  exact ⟨touched, voided, infed, hframe, hclosed.integ⟩

/-! ## Every partial is in (R237, R265) -/

/-- An integration whose channels are due for emission. -/
def Integ.emitting (g : Integ) : Integ := { g with combined := true, chans := g.channels, freed := g.channels.isEmpty }

/-- On a device on its own, and on member 0, the channels are due for emission. -/
theorem afterCombine_emits {d ctx n : Nat} {s : State} {g : Integ} (hd : d < 4) (hg : (ctxOf s d ctx).integ n = some g)
    (hlead : ¬ (gangMode s (ctxOf s d ctx).region = 2 ∧ gangMember s ≠ 0)) (hr : (tlyDie s d).reorder = []) :
    IntegSet d ctx n g.emitting s (afterCombine d ctx n s) ∧ sameRegs [tlyPage d] s (afterCombine d ctx n s) := by
  have hnum : g.num = n := num_of_integ hg
  simp only [afterCombine, hg, if_neg hlead]
  have hset := updInteg_set hg (f := fun y => { y with combined := true, chans := g.channels, freed := g.channels.isEmpty }) hnum
  have hregs : sameRegs [tlyPage d] s (updInteg d ctx n (fun y => { y with combined := true, chans := g.channels, freed := g.channels.isEmpty }) s) :=
    sameRegs_of_eq ((updInteg_spec d ctx n _ s).1 .regs (by decide))
  generalize updInteg d ctx n _ s = t at hset hregs ⊢
  have hcount : IntegFrame d ctx t (countK (tlyPage d) R.TLY_CNT 3 1 t) := ((SlotWork.refl t).countTly hd (by decide)).integFrame
  split
  · rw [drainReorder_empty ((hcount.reorder.trans hset.reorder).trans hr)]
    exact ⟨⟨hset.toIntegFrame.trans hcount, hset.integ⟩, sameRegs_trans hregs (sameRegs_countK 1 t (by decide))⟩
  · rw [drainReorder_empty (hset.reorder.trans hr)]
    exact ⟨hset, hregs⟩

theorem zhkSend_tly (k : ZhkPacket) (s : State) : (zhkSend k s).tly = s.tly := (claimsOnly.zhkSend (lowKept.refl _ _ s)).same .tly (by decide)

/-- Partials that leave change nothing of the integrations of a device. -/
theorem sendPartials_tly {d : Nat} (hd : d < 4) (ctx : Nat) (c : TlyCtx) (g : Integ) (l : List SlotId) (s : State) :
    (sendPartials d ctx c g l s).tly = s.tly := by
  induction l generalizing s with
  | nil => rfl
  | cons q l ih =>
    rw [sendPartials, ih]
    refine List.foldlRecOn (motive := fun t : State => t.tly = s.tly) _ _ ((SlotWork.refl s).takeSlot hd).tly fun t ht i _ => ?_
    exact (zhkSend_tly _ t).trans ht

/-- The slots of another member leave, and its buffer stays taken until their last packet is acknowledged, where there are any. -/
theorem afterCombine_sends {d ctx n : Nat} {s : State} {g : Integ} (hd : d < 4) (hg : (ctxOf s d ctx).integ n = some g)
    (hmode : gangMode s (ctxOf s d ctx).region = 2) (hmember : gangMember s ≠ 0) (hr : (tlyDie s d).reorder = []) :
    (ctxOf (afterCombine d ctx n s) d ctx).integ n = some { g with combined := true, freed := g.finals.isEmpty } := by
  have hnum : g.num = n := num_of_integ hg
  simp only [afterCombine, hg, if_pos (And.intro hmode hmember)]
  have hset := updInteg_set hg (f := fun y => { y with combined := true, freed := y.finals.isEmpty }) hnum
  generalize updInteg d ctx n _ s = t at hset ⊢
  have hsent := sendPartials_tly hd ctx (ctxOf s d ctx) g g.finals t
  rw [drainReorder_empty (by rw [tlyDie_congr hsent, hset.reorder, hr]), ctxOf_congr hsent]
  exact hset.integ

/-! ## Partials given up (R266) -/

theorem givePartialsUp_spec {d ctx n e : Nat} {s : State} {g : Integ} (hd : d < 4) (hg : (ctxOf s d ctx).integ n = some g)
    (hin : partialsIn s (ctxOf s d ctx) g = false) (hmember : gangMember s = 0) :
    IntegMarked d ctx n s (givePartialsUp d ctx n e s) ∧ stuck (givePartialsUp d ctx n e s) 0x320 S.ZHK_PARTIAL_LOST := by
  simp only [givePartialsUp, hg, hin, hmember, decide_true, stickyIf, Bool.false_eq_true, if_false, if_true]
  have hlost : IntegMarked d ctx n s (g.finals.foldl (markLost d ctx n (e - g.first)) s) :=
    (IntegMarked.refl d ctx n s).foldl fun _ _ h => h.markLost hd
  exact ⟨hlost.work (SlotWork.refl _).setSticky, stuck_setSticky _ _ _ (by decide)⟩

/-! ## INTEGRATION_CLOSE -/

/-- What follows once the integration has had its chance to close. -/
def closeRest (d ctx n : Nat) (lost : Bool) (s : State) : State :=
  match (ctxOf s d ctx).integ n with
  | none => s
  | some g =>
    if !g.closed || g.combined then s
    else if gangMode s (ctxOf s d ctx).region ≠ 2 || partialsIn s (ctxOf s d ctx) g then afterCombine d ctx g.num s
    else if lost then
      let s := retryPartials true d ctx s
      match (ctxOf s d ctx).integ g.num with
      | none => s
      | some g => if g.combined then s else afterCombine d ctx g.num (givePartialsUp d ctx g.num (g.stop.getD g.first) s)
    else s

/-- The oldest integration that is neither combined nor skipped is the one that may close. -/
theorem integrationClose_eq {d ctx : Nat} {lost : Bool} {s : State} {g : Integ} {l : List Integ} (hlive : pageLive s (tlyPage d) = true)
    (hints : (ctxOf s d ctx).ints = g :: l) (hc : g.combined = false) (hs : g.skipped = false) :
    integrationClose d ctx lost s = closeRest d ctx g.num lost (if closable s d (ctxOf s d ctx) g then closeInteg d ctx g.num s else s) := by
  have hfind : (ctxOf s d ctx).ints.find? (fun g => !g.combined && !g.skipped) = some g := by
    rw [hints, List.find?_cons_of_pos (by simp [hc, hs])]
  simp only [integrationClose, hlive, hfind, Bool.not_true, Bool.false_eq_true, if_false]
  rfl

theorem integrationClose_gated {d ctx : Nat} {lost : Bool} {s : State} (h : pageLive s (tlyPage d) = false) :
    integrationClose d ctx lost s = s :=
  if_pos (by simp [h])

section
variable {d ctx n : Nat} {lost : Bool} {s : State} {g : Integ} (hg : (ctxOf s d ctx).integ n = some g)
include hg

theorem closeRest_open (h : g.closed = false) : closeRest d ctx n lost s = s := by simp [closeRest, hg, h]

theorem closeRest_whole (h : g.closed = true) (hc : g.combined = false)
    (hin : gangMode s (ctxOf s d ctx).region ≠ 2 ∨ partialsIn s (ctxOf s d ctx) g = true) : closeRest d ctx n lost s = afterCombine d ctx n s := by
  have hcond : (decide (gangMode s (ctxOf s d ctx).region ≠ 2) || partialsIn s (ctxOf s d ctx) g) = true := by simpa using hin
  simp only [closeRest, hg, h, hc, hcond, num_of_integ hg, Bool.not_true, Bool.or_self, Bool.false_eq_true, if_false, if_true]

theorem closeRest_waits (hm : gangMode s (ctxOf s d ctx).region = 2) (hin : partialsIn s (ctxOf s d ctx) g = false) :
    closeRest d ctx n false s = s := by
  simp [closeRest, hg, hm, hin]

theorem closeRest_lost (h : g.closed = true) (hc : g.combined = false) (hm : gangMode s (ctxOf s d ctx).region = 2)
    (hin : partialsIn s (ctxOf s d ctx) g = false) (hearly : s.zhk.early = []) :
    closeRest d ctx n true s = afterCombine d ctx n (givePartialsUp d ctx n (g.stop.getD g.first) s) := by
  have hretry : retryPartials true d ctx s = s := retryPartials_none true (by simp [hearly])
  obtain rfl := num_of_integ hg
  simp [closeRest, hg, h, hc, hm, hin, hretry]

end

end Sys2Proof.Machine
end

section
/-! PROOFS. The emission of an integration's records, and the obligation on closing and emitting (R237, R243, R245, R246). -/

namespace Sys2Proof.Machine

/-! ## Records (R243, R245, R246) -/

theorem slotWork_recPayload {d : Nat} (hd : d < 4) (ctx : Nat) (c : TlyCtx) (g : Integ) (cl done : Nat) (x : TlyRec) (s : State) :
    SlotWork s (recPayload d ctx c g cl done x s).2 := by
  unfold recPayload
  split
  · exact .refl s
  · split
    · exact .refl s
    · exact (SlotWork.refl s).takeSlot hd

theorem recordOnly_emitTwice (d ring : Nat) (l : List Byte) (s : State) : recordOnly s (emitTwice d ring l s).2 :=
  .ite_snd ((recordOnly_emitRecord _ _ _ _ _ s).trans (recordOnly_emitRecord _ _ _ _ _ _)) (recordOnly_emitRecord _ _ _ _ _ s)

/-- An integration with its first record behind it: the next one, of the next channel where it was the last of its channel. -/
def Integ.advanced (g : Integ) : Integ :=
  { g with recs := g.recs.drop 1, serial := g.serial + 1, chans := if (g.recs.drop 1).isEmpty then g.chans.drop 1 else g.chans }

/-- Of the Tally page no register but TLY_CNT[3] changes once a record is behind. -/
theorem recordDone_spec {d ctx n : Nat} {s : State} {g : Integ} (hg : (ctxOf s d ctx).integ n = some g) :
    (∃ freed, (ctxOf (recordDone d ctx n s) d ctx).integ n = some { g.advanced with freed := freed }) ∧
      ∀ off, off < 0x1000 → off ≠ R.TLY_CNT + 8 * 3 → reg (recordDone d ctx n s) (tlyPage d) off = reg s (tlyPage d) off := by
  have hnum : g.num = n := num_of_integ hg
  have hset := updInteg_set hg (f := Integ.advanced) hnum
  have hregs := (updInteg_spec d ctx n Integ.advanced s).1 .regs (by decide)
  have hfreed := updInteg_set hset.integ (f := fun g => { g with freed := true }) hnum
  have hkept := (updInteg_spec d ctx n (fun g => { g with freed := true }) (updInteg d ctx n Integ.advanced s)).1 .regs (by decide)
  unfold recordDone
  dsimp only
  split
  · rename_i y hy
    obtain rfl : g.advanced = y := Option.some.inj (hset.integ.symm.trans hy)
    split
    · exact ⟨⟨true, hfreed.integ⟩, fun off ho hne =>
        (reg_countK_off 1 _ ho (by decide) hne).trans ((reg_congr hkept _ _).trans (reg_congr hregs _ _))⟩
    · exact ⟨⟨g.freed, hset.integ⟩, fun off _ _ => reg_congr hregs _ _⟩
  · rename_i hnone
    exact absurd (hset.integ.symm.trans hnone) (by simp)

/-- What the outcome of an emission leaves: the record waits for room, or is behind, counted in TLY_CNT[5], [6] or [7]. -/
def emitOutcome (d ctx n : Nat) (x : TlyRec) (e : Emit × State) : State :=
  match e.1 with
  | .noRoom => setSticky (tlyPage d) S.TLY_RING_WAIT e.2
  | .done => recordDone d ctx n (countK (tlyPage d) R.TLY_CNT (if x.isRows then 6 else 5) 1 e.2)
  | .error => recordDone d ctx n (countK (tlyPage d) R.TLY_CNT 7 1 (setSticky (tlyPage d) S.TLY_EMIT_FAIL e.2))

/-- An integration that emits: the oldest of its context, its current channel and that channel's records at hand. -/
structure Emitting (s : State) (d ctx : Nat) (g : Integ) (l : List Integ) (cl : Nat) (cs : List Nat) (x : TlyRec) (rest : List TlyRec) :
    Prop where
  live : pageLive s (tlyPage d) = true
  ints : (ctxOf s d ctx).ints = g :: l
  combined : g.combined = true
  freed : g.freed = false
  chans : g.chans = cl :: cs
  recs : g.recs = x :: rest
  nums : ∀ y ∈ l, y.num ≠ g.num

section
variable {s : State} {d ctx cl : Nat} {g : Integ} {l : List Integ} {cs : List Nat} {x : TlyRec} {rest : List TlyRec}
  (h : Emitting s d ctx g l cl cs x rest)
include h

/-- Its records are as they were: the context does not change as they are noted again. -/
theorem Emitting.noted : ctxOf (updInteg d ctx g.num (fun g => { g with recs := x :: rest }) s) d ctx = ctxOf s d ctx := by
  have hsame : ({ g with recs := x :: rest } : Integ) = g := by rw [← h.recs]
  have hints : (ctxOf s d ctx).ints.map (fun y => if y.num = g.num then g else y) = (ctxOf s d ctx).ints := by
    rw [h.ints, List.map_cons, if_pos rfl]
    congr 1
    exact (List.map_congr_left fun y hy => if_neg (h.nums y hy)).trans (List.map_id' l)
  simp only [updInteg, integ_head h.ints, ctxOf_setCtx_same, hsame, TlyCtx.setInteg, hints]

/-- RECORD_EMIT attempts the first record. -/
theorem Emitting.recordEmit_eq {done : Nat} {p : (Nat × List Byte) × State}
    (hdone : ceilDiv (32 * ((ctxOf s d ctx).rowBlkHi + 1 - (ctxOf s d ctx).rowBlkLo)) 512 - ((x :: rest).filter TlyRec.isRows).length = done)
    (hp : recPayload d ctx (ctxOf s d ctx) g cl done x (updInteg d ctx g.num (fun g => { g with recs := x :: rest }) s) = p) :
    recordEmit d ctx s = emitOutcome d ctx g.num x (emitTwice d p.1.1 p.1.2 p.2) := by
  have hfind : (ctxOf s d ctx).ints.find? (fun g => g.combined && !g.freed) = some g := by
    rw [h.ints, List.find?_cons_of_pos (by simp [h.combined, h.freed])]
  have hsome : (x :: rest).isEmpty = false := rfl
  subst hdone hp
  simp only [recordEmit, h.live, hfind, h.chans, h.recs, List.head?_cons, h.noted, hsome, Bool.not_true, Bool.false_eq_true, if_false]
  rfl

/-- The attempt leaves the contexts. -/
theorem Emitting.attempted (hd : d < 4) {done ring : Nat} {bytes : List Byte} {p : (Nat × List Byte) × State}
    (hp : recPayload d ctx (ctxOf s d ctx) g cl done x (updInteg d ctx g.num (fun g => { g with recs := x :: rest }) s) = p) :
    ctxOf (emitTwice d ring bytes p.2).2 d ctx = ctxOf s d ctx := by
  have hemit : (emitTwice d ring bytes p.2).2.tly = p.2.tly := (recordOnly_emitTwice d ring bytes p.2).same .tly (by decide)
  rw [ctxOf_congr hemit, ← hp, ctxOf_congr (slotWork_recPayload hd ctx _ g cl done x _).tly, h.noted]

/-- With the first record behind, the next one with the next SERIAL is due. -/
theorem Emitting.recordDone_due {u : State} (hu : ctxOf u d ctx = ctxOf s d ctx) :
    ∃ y, (ctxOf (recordDone d ctx g.num u) d ctx).integ g.num = some y ∧ y.recs = rest ∧ y.serial = g.serial + 1 ∧
      y.chans = (if rest.isEmpty then cs else cl :: cs) := by
  obtain ⟨⟨freed, hinteg⟩, -⟩ := recordDone_spec (n := g.num) (s := u) (g := g) (by rw [hu]; exact integ_head h.ints)
  refine ⟨_, hinteg, ?_, rfl, ?_⟩
  · simp [Integ.advanced, h.recs]
  · simp [Integ.advanced, h.recs, h.chans]

/-- A register of the Tally page but TLY_CNT[3] is as before once a record is behind. -/
theorem Emitting.reg_recordDone {u : State} (hu : ctxOf u d ctx = ctxOf s d ctx) {off : Nat} (ho : off < 0x1000) (hne : off ≠ R.TLY_CNT + 8 * 3) :
    reg (recordDone d ctx g.num u) (tlyPage d) off = reg u (tlyPage d) off :=
  (recordDone_spec (by rw [hu]; exact integ_head h.ints)).2 off ho hne

end

/-! ## The clauses -/

/-- Settles O38. What settles, combines and gives up slots at most marks an integration (`IntegMarked`), so it closes, combines or sends as
its case says; an emission leaves the contexts, and its outcome decides whether the record waits or is behind. -/
theorem integrationsCloseAndEmit : Obligations.IntegrationsCloseAndEmit := by
  unfold Obligations.IntegrationsCloseAndEmit
  refine ⟨?closes, ?stays, ?waits, ?lost, ?sends, ?noRoom, ?done, ?error, ?idle⟩
  case closes =>
    intro s d ctx e lost g l hd _ hlive hints hcomb hclosable hend hmode hreorder _ hearly
    obtain ⟨-, hskip⟩ := open_of_closable hclosable
    obtain ⟨touched, voided, infed, hclosed⟩ := closeInteg_spec hd (integ_head hints) hend hearly
    have heq := integrationClose_eq (lost := lost) hlive hints hcomb hskip
    rw [if_pos hclosable] at heq
    generalize closeInteg d ctx g.num s = t at hclosed heq
    have halone : gangMode t (ctxOf t d ctx).region ≠ 2 := by
      rw [hclosed.region_eq, hclosed.gang.gangMode_eq (ctxOf s d ctx).region_lt]
      exact hmode
    rw [closeRest_whole hclosed.integ rfl hcomb (.inl halone)] at heq
    obtain ⟨hemits, -⟩ := afterCombine_emits hd hclosed.integ (fun hlead => halone hlead.1) (hclosed.reorder.trans hreorder)
    have hframe := hclosed.toIntegFrame.trans hemits.toIntegFrame
    refine ⟨_, rfl, ?_⟩
    rw [heq]
    exact ⟨⟨_, hemits.integ, rfl, rfl, rfl, rfl, rfl, rfl⟩, hframe.others, keeps_mono (by decide) hframe.frame⟩
  case stays =>
    intro s d ctx lost g l hints hcomb hskip hclosed hclosable
    refine ⟨_, rfl, ?_⟩
    cases hlive : pageLive s (tlyPage d) with
    | false => exact integrationClose_gated hlive
    | true =>
      rw [integrationClose_eq hlive hints hcomb hskip, if_neg (by simp [hclosable])]
      exact closeRest_open (integ_head hints) hclosed
  case waits =>
    intro s d ctx g l hints hcomb hskip hclosed hmode hin
    refine ⟨_, rfl, ?_⟩
    cases hlive : pageLive s (tlyPage d) with
    | false => exact integrationClose_gated hlive
    | true =>
      rw [integrationClose_eq hlive hints hcomb hskip, if_neg (not_closable hclosed)]
      exact closeRest_waits (integ_head hints) hmode hin
  case lost =>
    intro s d ctx g l hd _ hlive hints _ hcomb hskip hclosed hmode hmember hin hearly hreorder
    have hg := integ_head hints
    have heq := integrationClose_eq (lost := true) hlive hints hcomb hskip
    rw [if_neg (not_closable hclosed), closeRest_lost hg hclosed hcomb hmode hin hearly] at heq
    obtain ⟨hmarked, hstuck⟩ := givePartialsUp_spec (e := g.stop.getD g.first) hd hg hin hmember
    generalize givePartialsUp d ctx g.num (g.stop.getD g.first) s = t at hmarked hstuck heq
    obtain ⟨touched, voided, infed, ht⟩ := hmarked.integ g hg
    obtain ⟨hemits, hregs⟩ := afterCombine_emits hd ht (fun hlead => hlead.2 (hmarked.gang.gangMember_eq.trans hmember))
      (hmarked.reorder.trans hreorder)
    have hsticky : reg (afterCombine d ctx g.num t) 0x320 R.STICKY = reg t 0x320 R.STICKY :=
      hregs _ _ (by simp only [tlyPage, List.mem_singleton]; omega) (by decide) (by decide)
    refine ⟨_, rfl, ?_⟩
    rw [heq]
    exact ⟨by rw [stuck, hsticky]; exact hstuck, ⟨_, hemits.integ, rfl, rfl⟩, (hmarked.toIntegFrame.trans hemits.toIntegFrame).others⟩
  case sends =>
    intro s d ctx lost g l hd _ hlive hints _ hcomb hskip hclosed hmode hmember hin hreorder
    have hg := integ_head hints
    refine ⟨_, rfl, ?_⟩
    rw [integrationClose_eq hlive hints hcomb hskip, if_neg (not_closable hclosed), closeRest_whole hg hclosed hcomb (.inr hin)]
    exact ⟨_, afterCombine_sends hd hg hmode hmember hreorder, rfl, rfl, hclosed⟩
  case noRoom =>
    intro s d ctx cl done g l cs x rest p hd _ hlive hints hcomb hfreed hchans hrecs hl hdone hp hout
    have h : Emitting s d ctx g l cl cs x rest := ⟨hlive, hints, hcomb, hfreed, hchans, hrecs, hl⟩
    refine ⟨_, rfl, ?_⟩
    rw [h.recordEmit_eq hdone hp, emitOutcome, hout]
    refine ⟨stuck_setSticky _ _ _ (by decide), ?_⟩
    rw [ctxOf_congr (keeps_setSticky _ _ _ .tly (by decide)), h.attempted hd hp, hints]
  case done =>
    intro s d ctx cl done g l cs x rest p hd _ hlive hints hcomb hfreed hchans hrecs hl hdone hp hout
    have h : Emitting s d ctx g l cl cs x rest := ⟨hlive, hints, hcomb, hfreed, hchans, hrecs, hl⟩
    refine ⟨_, rfl, ?_⟩
    rw [h.recordEmit_eq hdone hp, emitOutcome, hout]
    have hkept : ctxOf (countK (tlyPage d) R.TLY_CNT (if x.isRows then 6 else 5) 1 (emitTwice d p.1.1 p.1.2 p.2).2) d ctx = ctxOf s d ctx :=
      h.attempted hd hp
    exact ⟨counted_congr (counted_countK _ _ _ _ _) (h.reg_recordDone hkept (by cases x.isRows <;> decide) (by cases x.isRows <;> decide)),
      h.recordDone_due hkept⟩
  case error =>
    intro s d ctx cl done g l cs x rest p hd _ hlive hints hcomb hfreed hchans hrecs hl hdone hp hout
    have h : Emitting s d ctx g l cl cs x rest := ⟨hlive, hints, hcomb, hfreed, hchans, hrecs, hl⟩
    refine ⟨_, rfl, ?_⟩
    rw [h.recordEmit_eq hdone hp, emitOutcome, hout]
    obtain ⟨hstuck, hpage⟩ := setSticky_page (b := S.TLY_EMIT_FAIL) (s := (emitTwice d p.1.1 p.1.2 p.2).2) (tlyPage_plain hd) (by decide)
    have hflagged := (ctxOf_congr (keeps_setSticky (tlyPage d) S.TLY_EMIT_FAIL (emitTwice d p.1.1 p.1.2 p.2).2 .tly (by decide)) d ctx).trans
      (h.attempted hd hp)
    generalize setSticky (tlyPage d) S.TLY_EMIT_FAIL (emitTwice d p.1.1 p.1.2 p.2).2 = u at hstuck hpage hflagged ⊢
    have hkept : ctxOf (countK (tlyPage d) R.TLY_CNT 7 1 u) d ctx = ctxOf s d ctx := hflagged
    have hsticky : reg (recordDone d ctx g.num (countK (tlyPage d) R.TLY_CNT 7 1 u)) (tlyPage d) R.STICKY = reg u (tlyPage d) R.STICKY :=
      (h.reg_recordDone hkept (by decide) (by decide)).trans (reg_countK_off 1 u (by decide) (by decide) (by decide))
    refine ⟨by rw [stuck, hsticky]; exact hstuck, ?_, h.recordDone_due hkept⟩
    exact counted_of_eq (counted_congr (counted_countK _ _ _ _ u) (h.reg_recordDone hkept (by decide) (by decide)))
      (hpage _ (by decide) (by decide))
  case idle =>
    rintro s d ctx lost (hgated | hnone)
    · exact ⟨⟨_, rfl, if_pos (by simp [hgated])⟩, _, rfl, integrationClose_gated hgated⟩
    · refine ⟨⟨_, rfl, ?_⟩, _, rfl, ?_⟩
      · simp [recordEmit, hnone]
      · simp [integrationClose, hnone]

end Sys2Proof.Machine
end
